-- ==== Sys2Proof/Word.lean ====
section
/-! DEFINITION. The word types of the device and the names of its agents. Words are little-endian
bit vectors (R2, R3); the agents are the three Opcia cores, the two clients and the ports they
use. -/

namespace Sys2Proof

/-- A word is 32 bits (R3). -/
abbrev Word := BitVec 32
/-- A byte is 8 bits (R3). -/
abbrev Byte := BitVec 8
/-- An accumulator holds 72 bits (R104). -/
abbrev Acc := BitVec 72
/-- A vector register holds four 32-bit lanes (R114). -/
abbrev QWord := BitVec 128
/-- One of the general registers w0 to w31 (R90). -/
abbrev WReg := Fin 32
/-- One of the accumulators a0 to a3 (R90). -/
abbrev AReg := Fin 4
/-- One of the vector registers q0 to q15 (R90). -/
abbrev QReg := Fin 16

/-- The three Opcia cores: the duty core, the service core and the stream core. -/
inductive CoreId where
  | c0 | c1 | s
  deriving DecidableEq, Repr

/-- The two command clients (R25, R32). -/
inductive Client where
  | a | b
  deriving DecidableEq, Repr

/-- The index a register family gives a client: 0 for A and 1 for B (R649). -/
def Client.idx : Client → Nat
  | .a => 0
  | .b => 1

/-- The other client. -/
def Client.other : Client → Client
  | .a => .b
  | .b => .a

/-- The number ST_COREID.CORE gives a core (R87). -/
def CoreId.num : CoreId → Nat
  | .c0 => 0
  | .c1 => 1
  | .s => 2

/-- The two control cores, which alone take tasks, events and exceptions. -/
def CoreId.isControl : CoreId → Bool
  | .s => false
  | _ => true

/-- The OWNER code of a core (R60). -/
def CoreId.owner : CoreId → Nat
  | .c0 => 1
  | .c1 => 2
  | .s => 3

/-- The index of a control core in the Weir's registers. -/
def CoreId.weir : CoreId → Nat
  | .c1 => 1
  | _ => 0

/-- The two ends of a chain and the two Tarn ports are told apart by a side: SHL_A and SHL_B, or
TRN_W and TRN_E. -/
inductive Side where
  | a | b
  deriving DecidableEq, Repr

/-- The other side. -/
def Side.other : Side → Side
  | .a => .b
  | .b => .a

/-- The index of a side. -/
def Side.idx : Side → Nat
  | .a => 0
  | .b => 1

/-- What struck a memory word just before a read: nothing, one bit of an SRAM word (0 to 31 data, 32 to 38 check
bits), one bit of a 64-bit NVS word (64 to 71 check bits), or more bits than the check code corrects (R58, R59,
R685). -/
inductive Upset where
  | none | bit (n : Fin 39) | nvsBit (n : Fin 72) | multi
  deriving DecidableEq, Repr

/-- A master of the peripheral bus: a control core at its current level, or a host port. -/
inductive Master where
  | c0 | c1 | portA | portB
  deriving DecidableEq, Repr

/-- Is the master a host port? -/
def Master.isHost : Master → Bool
  | .portA | .portB => true
  | _ => false

/-- A rounding mode of R104. -/
inductive RoundMode where
  | floor | halfUp | halfEven
  deriving DecidableEq, Repr

end Sys2Proof
end

