-- ==== Sys2Proof/Stimulus.lean ====
section
/-! DEFINITION. What the world outside brings with a command: pin levels, measurements and samples. -/

namespace Sys2Proof

/-- What a carrier period takes in: the stage 4 outputs of lane 8 that are produced in it, before their shift, in order (R265,
R298; two at 384 kHz, one at 768 kHz, one in every other period at 1.536 MHz), the levels of the
current comparators and whether FAULT_N is low. -/
structure CarrierIn where
  vbus : Vector Word 2
  oc : BitVec 4
  stk : Bool
  extLow : Bool
  deriving DecidableEq, Repr

/-- What the pre-start step that ends measured on each channel (R376, R377): the side whose switch node
read beyond the limit first, if one did (true for the negative side); whether a positive switch node
reached its compliance. -/
structure StepIn where
  beyond : Vector (Option Bool) 4
  compliance : Vector Bool 4
  deriving DecidableEq, Repr

/-- What a sweep point measured on one channel (R385): |Z| in Ω, the phase in degrees, and the amplitude of the
current in A. -/
structure SweepIn where
  mag : Rat
  phase : Rat
  amp : Rat
  deriving DecidableEq, Repr

/-- A chain frame as an addressed companion receives it: its port, SEQ, HOPS, payload, and whether the payload
CRC holds (R440, R441). -/
structure ChainIn where
  port : Side
  seq : Byte
  hops : BitVec 6
  payload : List Byte
  pcrcOk : Bool
  deriving DecidableEq, Repr

/-- What a companion's converters measured in a cycle (R488, R492): fine readings in 0.1 mV, coarse codes in
5 mV, the ratio of the mean auxiliary reference to BASE, the module total in 2 mV,
and the NTCs and the die in 0.1 °C (none where the NTC has no valid reading). -/
structure ConvIn where
  fine : Vector Nat 18
  coarse : Vector (BitVec 10) 18
  ratio : Rat
  total : BitVec 16
  ntc1 : Option Int
  ntc2 : Option Int
  die : Int
  deriving DecidableEq, Repr

/-- A ring frame as a port receives it (R525): its 1,024 bytes as they stand on the line (R523), the time from this node's last
departure on the same port that TURN allows to the frame's arrival in 1/16 period (R530), the TURN that the
frames it sends on now carry, and for each entry of TRN_TX_i the latest output of the input rate converter for its lane
(R534). -/
structure RingIn where
  port : Side
  bytes : List Byte
  elapsed : Nat
  turn : BitVec 17
  irc : Vector Word 16
  deriving DecidableEq, Repr

/-- What a block boundary takes in with the block that ends: the outputs of stage 7 of the sense lanes in Q1.31 before their
shift, samples of stages 1 to 6 (each with its lane and its stage from 0) before theirs (R266, R267), the outputs of the input
rate converter for each lane
(R255), the measured ratio of each group as its deviation in units of 2^-32 of the nominal ratio and whether its phase error was
small (R258, R259),
whether the words of each client's staging area or of its window copy read wrong (R644), and the
differential terminal voltages of each channel in V, one every 1/96,000 s, as the DC-on-load detector sees them (R388). -/
structure BoundaryIn where
  sense : Vector (Vector Word 16) 10
  sat : List (Fin 10 × Fin 6 × Word)
  irc : Vector (Vector Word 16) 32
  ratio : Vector Int 3
  small : Vector Bool 3
  staging : Vector Bool 2
  dc : Vector (List Rat) 4
  deriving DecidableEq, Repr

/-- What a word of the filter engine's state belongs to (R281): a group of the input rate converter or a stage of
a sense lane. -/
inductive EngineWord where
  | irc (g : Fin 3) | sense (n : Fin 10) (j : Fin 7)
  deriving DecidableEq, Repr

/-- What the TAP halts (R86, R316, R739): one core or the STREAM domain. -/
inductive HaltTarget where
  | core (c : CoreId) | stream
  deriving DecidableEq, Repr

end Sys2Proof
end

