-- ==== Sys2Proof/Syntax.lean ====
section
/-! DEFINITION. The commands of the block: one constructor per row of spec/opcode_table.json, in the
table's order. The table gives its rows no operand fields; the operands here are what the rules let
a command depend on (log entry 3). -/

namespace Sys2Proof

/-- The commands, one for each row of the table of operations and events. -/
inductive Instr where
  /-- REGISTER_WRITE (R7): A direct write by a core or host to a register field that has no row of its own, judged under the access codes, R12, R14 and R15. -/
  | registerWrite (m : Master) (addr v : Word)
  /-- SYS_REJECT_ADDR_READ (R17): A read of SYS_REJECT_ADDR returns the first rejected address and clears it and SYS_REJECT_CNT. -/
  | sysRejectAddrRead (m : Master)
  /-- BLOCK_BOUNDARY (R31): Every 32,768 STREAM cycles the device samples faults, applies a due wave, prices the Reservoir, sets the Guard ceilings, raises BLOCK_START and re-evaluates the Weir. -/
  | blockBoundary (x : BoundaryIn)
  /-- ADD (R97): rd receives rs1 + rs2 modulo 2^32. -/
  | add (c : CoreId) (rd rs1 rs2 : WReg)
  /-- SUB (R97): rd receives rs1 − rs2 modulo 2^32. -/
  | sub (c : CoreId) (rd rs1 rs2 : WReg)
  /-- AND (R97): rd receives rs1 and rs2. -/
  | and (c : CoreId) (rd rs1 rs2 : WReg)
  /-- OR (R97): rd receives rs1 or rs2. -/
  | or (c : CoreId) (rd rs1 rs2 : WReg)
  /-- XOR (R97): rd receives rs1 xor rs2. -/
  | xor (c : CoreId) (rd rs1 rs2 : WReg)
  /-- SLL (R97): rd receives rs1 shifted left by rs2[4:0]. -/
  | sll (c : CoreId) (rd rs1 rs2 : WReg)
  /-- SRL (R97): rd receives rs1 shifted right logically by rs2[4:0]. -/
  | srl (c : CoreId) (rd rs1 rs2 : WReg)
  /-- SRA (R97): rd receives rs1 shifted right arithmetically by rs2[4:0]. -/
  | sra (c : CoreId) (rd rs1 rs2 : WReg)
  /-- SLT (R97): rd receives 1 if rs1 < rs2 signed. -/
  | slt (c : CoreId) (rd rs1 rs2 : WReg)
  /-- SLTU (R97): rd receives 1 if rs1 < rs2 unsigned. -/
  | sltu (c : CoreId) (rd rs1 rs2 : WReg)
  /-- MIN (R97): rd receives the signed smaller operand. -/
  | min (c : CoreId) (rd rs1 rs2 : WReg)
  /-- MAX (R97): rd receives the signed larger operand. -/
  | max (c : CoreId) (rd rs1 rs2 : WReg)
  /-- MINU (R97): rd receives the unsigned smaller operand. -/
  | minu (c : CoreId) (rd rs1 rs2 : WReg)
  /-- MAXU (R97): rd receives the unsigned larger operand. -/
  | maxu (c : CoreId) (rd rs1 rs2 : WReg)
  /-- MUL (R97): rd receives the low 32 bits of the product. -/
  | mul (c : CoreId) (rd rs1 rs2 : WReg)
  /-- MULH (R97): rd receives the high 32 bits of the signed product. -/
  | mulh (c : CoreId) (rd rs1 rs2 : WReg)
  /-- MULHU (R97): rd receives the high 32 bits of the unsigned product. -/
  | mulhu (c : CoreId) (rd rs1 rs2 : WReg)
  /-- DIV (R98): rd receives the signed quotient with the divide-by-zero and overflow results of R98. -/
  | div (c : CoreId) (rd rs1 rs2 : WReg)
  /-- DIVU (R98): rd receives the unsigned quotient, all ones for a zero divisor. -/
  | divu (c : CoreId) (rd rs1 rs2 : WReg)
  /-- REM (R98): rd receives the signed remainder with the sign of rs1. -/
  | rem (c : CoreId) (rd rs1 rs2 : WReg)
  /-- REMU (R98): rd receives the unsigned remainder. -/
  | remu (c : CoreId) (rd rs1 rs2 : WReg)
  /-- CLZ (R97): rd receives the number of leading zero bits of rs1. -/
  | clz (c : CoreId) (rd rs1 : WReg)
  /-- ADDI (R99): rd receives rs1 plus the sign-extended immediate. -/
  | addi (c : CoreId) (rd rs1 : WReg) (imm : BitVec 16)
  /-- ANDI (R99): rd receives rs1 and the zero-extended immediate. -/
  | andi (c : CoreId) (rd rs1 : WReg) (imm : BitVec 16)
  /-- ORI (R99): rd receives rs1 or the zero-extended immediate. -/
  | ori (c : CoreId) (rd rs1 : WReg) (imm : BitVec 16)
  /-- XORI (R99): rd receives rs1 xor the zero-extended immediate. -/
  | xori (c : CoreId) (rd rs1 : WReg) (imm : BitVec 16)
  /-- SLTI (R99): rd receives 1 if rs1 < imm signed. -/
  | slti (c : CoreId) (rd rs1 : WReg) (imm : BitVec 16)
  /-- SLTIU (R99): rd receives 1 if rs1 < the sign-extended imm unsigned. -/
  | sltiu (c : CoreId) (rd rs1 : WReg) (imm : BitVec 16)
  /-- SLLI (R99): SHI with imm[6:5] = 0 shifts rs1 left by imm[4:0]. -/
  | slli (c : CoreId) (rd rs1 : WReg) (n : BitVec 5)
  /-- SRLI (R99): SHI with imm[6:5] = 1 shifts rs1 right logically. -/
  | srli (c : CoreId) (rd rs1 : WReg) (n : BitVec 5)
  /-- SRAI (R99): SHI with imm[6:5] = 2 shifts rs1 right arithmetically. -/
  | srai (c : CoreId) (rd rs1 : WReg) (n : BitVec 5)
  /-- RORI (R99): SHI with imm[6:5] = 3 rotates rs1 right. -/
  | rori (c : CoreId) (rd rs1 : WReg) (n : BitVec 5)
  /-- LUI (R99): rd receives imm × 2^16. -/
  | lui (c : CoreId) (rd : WReg) (imm : BitVec 16)
  /-- ADDPC (R99): rd receives PC + 4 × imm. -/
  | addpc (c : CoreId) (rd : WReg) (imm : BitVec 16)
  /-- LW (R100): Loads a word into rd, with the access checks, side effects and exceptions of R100. -/
  | lw (c : CoreId) (rd rs1 : WReg) (imm : BitVec 16) (u : Upset)
  /-- LH (R100): Loads a sign-extended halfword. -/
  | lh (c : CoreId) (rd rs1 : WReg) (imm : BitVec 16) (u : Upset)
  /-- LHU (R100): Loads a zero-extended halfword. -/
  | lhu (c : CoreId) (rd rs1 : WReg) (imm : BitVec 16) (u : Upset)
  /-- LB (R100): Loads a sign-extended byte. -/
  | lb (c : CoreId) (rd rs1 : WReg) (imm : BitVec 16) (u : Upset)
  /-- LBU (R100): Loads a zero-extended byte. -/
  | lbu (c : CoreId) (rd rs1 : WReg) (imm : BitVec 16) (u : Upset)
  /-- SW (R102): Checks a word store, places it in the store buffer and retires. -/
  | sw (c : CoreId) (rs2 rs1 : WReg) (imm : BitVec 16)
  /-- SH (R101): Stores a halfword as a read-modify-write in SRAM or a whole-register write to a peripheral. -/
  | sh (c : CoreId) (rs2 rs1 : WReg) (imm : BitVec 16)
  /-- SB (R101): Stores a byte as a read-modify-write in SRAM or a whole-register write to a peripheral. -/
  | sb (c : CoreId) (rs2 rs1 : WReg) (imm : BitVec 16)
  /-- STORE_COMPLETE (R102): A buffered store completes at its target and frees its buffer entry. -/
  | storeComplete (c : CoreId)
  /-- BEQ (R103): Branches if rs1 = rs2. -/
  | beq (c : CoreId) (rs1 rs2 : WReg) (off : BitVec 16)
  /-- BNE (R103): Branches if rs1 ≠ rs2. -/
  | bne (c : CoreId) (rs1 rs2 : WReg) (off : BitVec 16)
  /-- BLT (R103): Branches if rs1 < rs2 signed. -/
  | blt (c : CoreId) (rs1 rs2 : WReg) (off : BitVec 16)
  /-- BGE (R103): Branches if rs1 ≥ rs2 signed. -/
  | bge (c : CoreId) (rs1 rs2 : WReg) (off : BitVec 16)
  /-- BLTU (R103): Branches if rs1 < rs2 unsigned. -/
  | bltu (c : CoreId) (rs1 rs2 : WReg) (off : BitVec 16)
  /-- BGEU (R103): Branches if rs1 ≥ rs2 unsigned. -/
  | bgeu (c : CoreId) (rs1 rs2 : WReg) (off : BitVec 16)
  /-- J (R103): Jumps to PC + 4 × off. -/
  | j (c : CoreId) (off : BitVec 26)
  /-- JAL (R103): Writes PC + 4 to w31 and jumps. -/
  | jal (c : CoreId) (off : BitVec 26)
  /-- JALR (R103): Jumps to rs1 + imm and writes PC + 4 to rd, raising ALIGN for a misaligned target. -/
  | jalr (c : CoreId) (rd rs1 : WReg) (imm : BitVec 16)
  /-- MAC (R105): Adds the exact product to the accumulator with 72-bit saturation. -/
  | mac (c : CoreId) (ad : AReg) (rs1 rs2 : WReg)
  /-- MSU (R105): Subtracts the exact product from the accumulator with saturation. -/
  | msu (c : CoreId) (ad : AReg) (rs1 rs2 : WReg)
  /-- MPY (R105): Sets the accumulator to the product. -/
  | mpy (c : CoreId) (ad : AReg) (rs1 rs2 : WReg)
  /-- MPYN (R105): Sets the accumulator to the negated product. -/
  | mpyn (c : CoreId) (ad : AReg) (rs1 rs2 : WReg)
  /-- MAC16 (R105): Adds the scaled dual-halfword products to the accumulator. -/
  | mac16 (c : CoreId) (ad : AReg) (rs1 rs2 : WReg)
  /-- MSU16 (R105): Subtracts the scaled dual-halfword products from the accumulator. -/
  | msu16 (c : CoreId) (ad : AReg) (rs1 rs2 : WReg)
  /-- EXT (R106): Rounds the accumulator by n bits, saturates to 32 bits and writes w. -/
  | ext (c : CoreId) (w : WReg) (a : AReg) (n : BitVec 6) (mode : BitVec 2)
  /-- ACLR (R106): Clears an accumulator. -/
  | aclr (c : CoreId) (a : AReg)
  /-- ASET (R106): Sets an accumulator to w × 2^31. -/
  | aset (c : CoreId) (w : WReg) (a : AReg)
  /-- AADD (R106): Adds one accumulator to another with saturation. -/
  | aadd (c : CoreId) (a b : AReg)
  /-- ASUB (R106): Subtracts one accumulator from another with saturation. -/
  | asub (c : CoreId) (a b : AReg)
  /-- ASHL (R106): Shifts an accumulator left with saturation. -/
  | ashl (c : CoreId) (a : AReg) (n : BitVec 6)
  /-- ASHR (R106): Shifts an accumulator right toward minus infinity. -/
  | ashr (c : CoreId) (a : AReg) (n : BitVec 6)
  /-- ARDL (R106): Reads accumulator bits [31:0]. -/
  | ardl (c : CoreId) (w : WReg) (a : AReg)
  /-- ARDM (R106): Reads accumulator bits [63:32]. -/
  | ardm (c : CoreId) (w : WReg) (a : AReg)
  /-- ARDH (R106): Reads accumulator bits [71:64] sign-extended. -/
  | ardh (c : CoreId) (w : WReg) (a : AReg)
  /-- AWRL (R106): Writes accumulator bits [31:0]. -/
  | awrl (c : CoreId) (w : WReg) (a : AReg)
  /-- AWRM (R106): Writes accumulator bits [63:32]. -/
  | awrm (c : CoreId) (w : WReg) (a : AReg)
  /-- AWRH (R106): Writes accumulator bits [71:64]. -/
  | awrh (c : CoreId) (w : WReg) (a : AReg)
  /-- QADD (R107): Saturating Q1.31 addition. -/
  | qadd (c : CoreId) (rd rs1 rs2 : WReg)
  /-- QSUB (R107): Saturating Q1.31 subtraction. -/
  | qsub (c : CoreId) (rd rs1 rs2 : WReg)
  /-- QMUL (R107): Saturating Q1.31 multiplication rounded half-up. -/
  | qmul (c : CoreId) (rd rs1 rs2 : WReg)
  /-- QMULF (R107): Saturating Q1.31 multiplication rounded down. -/
  | qmulf (c : CoreId) (rd rs1 rs2 : WReg)
  /-- QNEG (R107): Saturating negation. -/
  | qneg (c : CoreId) (rd rs1 : WReg)
  /-- QABS (R107): Saturating absolute value. -/
  | qabs (c : CoreId) (rd rs1 : WReg)
  /-- QSHL (R107): Saturating left shift by rs2[4:0]. -/
  | qshl (c : CoreId) (rd rs1 rs2 : WReg)
  /-- QSHR (R107): Right shift rounded half-up by rs2[4:0]. -/
  | qshr (c : CoreId) (rd rs1 rs2 : WReg)
  /-- FENCE (R108): Retires once every earlier access of the core has completed at its target. -/
  | fence (c : CoreId)
  /-- WAIT (R109): Sleeps the core until the event controller has an event for it. -/
  | wait (c : CoreId)
  /-- WAIT_WAKE (R109): A sleeping core wakes when an event is delivered, taking it or retiring WAIT. -/
  | waitWake (c : CoreId)
  /-- ERET (R47): Restores PC, IE and PRIV from ST_EPC, PIE and PPRIV and clears EXL. -/
  | eret (c : CoreId)
  /-- TRAP (R108): Raises the TRAP exception on C0 and C1, or a stream fault on S. -/
  | trap (c : CoreId) (code : BitVec 20)
  /-- SRD (R110): Reads a state register into w. -/
  | srd (c : CoreId) (w : WReg) (num : BitVec 12)
  /-- SWR (R110): Writes w to a state register, with MPU and ST_STATUS effects. -/
  | swr (c : CoreId) (w : WReg) (num : BitVec 12)
  /-- SEMTAKE (R60): Takes a free semaphore and returns its token. -/
  | semtake (c : CoreId) (rd : WReg) (n : Fin 32) (meets : BitVec 3)
  /-- SEMREL (R60): Releases a semaphore held by the caller with matching generation. -/
  | semrel (c : CoreId) (rd : WReg) (n : Fin 32) (rs : WReg)
  /-- SEMBRK (R60): Breaks a semaphore from its named owner and generation, advancing GEN and logging. -/
  | sembrk (c : CoreId) (rd : WReg) (n : Fin 32) (rs : WReg)
  /-- TAKE (R416): Gives the core the best permitted ready task of its affinity, or returns 0. -/
  | take (c : CoreId) (rd : WReg)
  /-- DONE (R113): Finishes the task the core holds. -/
  | done (c : CoreId) (rd rs : WReg)
  /-- VLD (R114): Loads four lanes from a 16-byte aligned address. -/
  | vld (c : CoreId) (q : QReg) (rs1 : WReg) (imm : BitVec 16) (u : Vector Upset 4)
  /-- VST (R114): Stores four lanes to a 16-byte aligned address. -/
  | vst (c : CoreId) (q : QReg) (rs1 : WReg) (imm : BitVec 16)
  /-- VADD (R115): Lane-wise modular addition. -/
  | vadd (c : CoreId) (vd vs1 vs2 : QReg)
  /-- VSUB (R115): Lane-wise modular subtraction. -/
  | vsub (c : CoreId) (vd vs1 vs2 : QReg)
  /-- VQADD (R115): Lane-wise saturating addition. -/
  | vqadd (c : CoreId) (vd vs1 vs2 : QReg)
  /-- VQSUB (R115): Lane-wise saturating subtraction. -/
  | vqsub (c : CoreId) (vd vs1 vs2 : QReg)
  /-- VQMUL (R115): Lane-wise saturating Q1.31 multiplication. -/
  | vqmul (c : CoreId) (vd vs1 vs2 : QReg)
  /-- VMIN (R115): Lane-wise signed minimum. -/
  | vmin (c : CoreId) (vd vs1 vs2 : QReg)
  /-- VMAX (R115): Lane-wise signed maximum. -/
  | vmax (c : CoreId) (vd vs1 vs2 : QReg)
  /-- VQABS (R115): Lane-wise saturating absolute value. -/
  | vqabs (c : CoreId) (vd vs1 : QReg)
  /-- VQNEG (R115): Lane-wise saturating negation. -/
  | vqneg (c : CoreId) (vd vs1 : QReg)
  /-- VAND (R115): Lane-wise and. -/
  | vand (c : CoreId) (vd vs1 vs2 : QReg)
  /-- VOR (R115): Lane-wise or. -/
  | vor (c : CoreId) (vd vs1 vs2 : QReg)
  /-- VXOR (R115): Lane-wise xor. -/
  | vxor (c : CoreId) (vd vs1 vs2 : QReg)
  /-- VSRA (R115): Lane-wise arithmetic right shift by n. -/
  | vsra (c : CoreId) (vd vs1 : QReg) (n : BitVec 5)
  /-- VQSHL (R115): Lane-wise saturating left shift by n. -/
  | vqshl (c : CoreId) (vd vs1 : QReg) (n : BitVec 5)
  /-- VMACA (R116): Adds lane products of two vectors to a0 to a3. -/
  | vmaca (c : CoreId) (qa qb : QReg)
  /-- VMSUA (R116): Subtracts lane products from a0 to a3. -/
  | vmsua (c : CoreId) (qa qb : QReg)
  /-- VMPYA (R116): Sets a0 to a3 to lane products. -/
  | vmpya (c : CoreId) (qa qb : QReg)
  /-- VMACW (R116): Adds lane products with a scalar to a0 to a3. -/
  | vmacw (c : CoreId) (qa : QReg) (w : WReg)
  /-- VMPYW (R116): Sets a0 to a3 to lane products with a scalar. -/
  | vmpyw (c : CoreId) (qa : QReg) (w : WReg)
  /-- VEXT (R116): Rounds and saturates each accumulator into a lane. -/
  | vext (c : CoreId) (qa : QReg) (n : BitVec 6) (mode : BitVec 2)
  /-- VACLR (R116): Clears a0 to a3. -/
  | vaclr (c : CoreId)
  /-- VASET (R116): Sets each accumulator from a lane × 2^31. -/
  | vaset (c : CoreId) (qa : QReg)
  /-- VSPLAT (R117): Copies w into every lane. -/
  | vsplat (c : CoreId) (q : QReg) (w : WReg)
  /-- VGET (R117): Reads one lane into w. -/
  | vget (c : CoreId) (q : QReg) (w : WReg) (lane : Fin 4)
  /-- VPUT (R117): Writes w into one lane. -/
  | vput (c : CoreId) (q : QReg) (w : WReg) (lane : Fin 4)
  /-- VMOVQ (R117): Copies one vector register to another. -/
  | vmovq (c : CoreId) (q q2 : QReg)
  /-- VROT (R117): Rotates the lanes of a vector. -/
  | vrot (c : CoreId) (q q2 : QReg) (lane : Fin 4)
  /-- VLDS (R118): Loads four lanes from strided addresses after checking all four. -/
  | vlds (c : CoreId) (q : QReg) (rs1 rs2 : WReg) (u : Vector Upset 4)
  /-- VSTS (R118): Stores four lanes to strided addresses after checking all four. -/
  | vsts (c : CoreId) (q : QReg) (rs1 rs2 : WReg)
  /-- BLKEND (R119): Performs a FENCE and retires, completing the block of S. -/
  | blkend (c : CoreId)
  /-- UNDEF_INSTRUCTION (R92): An unassigned major opcode, unlisted function or nonzero reserved field raises UNDEF or a stream fault. -/
  | undefInstruction (c : CoreId)
  /-- EVENT_EXCEPTION (R46): A core with IE = 1 and its event line asserted takes EVENT at the next instruction boundary. -/
  | eventException (c : CoreId)
  /-- STREAM_OVERRUN (R65): At cycle 32,704 without BLKEND, S is stopped, the overrun is counted and a ramp block is scheduled. -/
  | streamOverrun
  /-- SCRUB_SLOT (R55): Every 64 cycles the scrubber reads and corrects one word of core or stream SRAM. -/
  | scrubSlot (addr : Word) (u : Upset)
  /-- ST_SCTL_RUN_WRITE (R68): A write of RUN stops S at the next boundary, stops a faulted S at once, or starts S. -/
  | stSctlRunWrite (m : Master) (v : Word)
  /-- ST_SENTRY_WRITE (R69): A write of the entry address of S is rejected while RUN = 1. -/
  | stSentryWrite (m : Master) (v : Word)
  /-- ST_OVRCNT_CLR (R87): Writing 1 to ST_OVRCNT.CLR clears COUNT. -/
  | stOvrcntClr (m : Master)
  /-- ST_ENDMAX_CLR (R87): Writing 1 to ST_ENDMAX.CLR clears MAX. -/
  | stEndmaxClr (m : Master)
  /-- BOOT_ROM (R73): After core reset C0 clears SRAM, reads the boot area, verifies and copies an image and hands off. -/
  | bootRom (journal : Bool)
  /-- EVC_DELIVERY (R135): Pending sources are delivered in batches to targets that may accept, by round-robin. -/
  | evcDelivery
  /-- MODERATION_EXPIRE (R136): A target's moderation timer expires and it may accept deliveries again. -/
  | moderationExpire (x : Fin 4)
  /-- EVENT_FIRE (R141): A hardware source fires and becomes PENDING, merges, counts or is lost by its mode. -/
  | eventFire (n : Fin 128)
  /-- EVC_CLAIM (R138): A read of a claim register claims the highest-priority delivered source and returns the claim word. -/
  | evcClaim (m : Master) (x : Fin 4)
  /-- EVC_DONE (R139): A write of a source number completes it, making it PENDING or IDLE, or sets BADDONE. -/
  | evcDone (m : Master) (x : Fin 4) (v : Word)
  /-- EVC_PSET (R145): A write of 1 fires a source from software with the SW mark. -/
  | evcPset (m : Master) (x : Fin 4) (v : Word)
  /-- EVC_PCLR (R146): A write of 1 withdraws a source. -/
  | evcPclr (m : Master) (x : Fin 4) (v : Word)
  /-- EVC_SRC_WRITE (R144): A write of a source's target set, priority or mode, rejecting a mode change while not IDLE. -/
  | evcSrcWrite (m : Master) (n : Fin 128) (v : Word)
  /-- EVC_TGT_CTL_WRITE (R151): A write of a target's enable or threshold returns ineligible delivered sources to PENDING. -/
  | evcTgtCtlWrite (m : Master) (x : Fin 4) (v : Word)
  /-- EVC_TGT_MOD_WRITE (R136): A write of the moderation interval, 0 ending the running interval at once. -/
  | evcTgtModWrite (m : Master) (x : Fin 4) (v : Word)
  /-- EVC_CTL_GEN_WRITE (R147): A write of the global delivery enable holds or resumes deliveries. -/
  | evcCtlGenWrite (m : Master) (v : Word)
  /-- WAKE_LATCH_SET (R148): An edge of a wake-capable source while CORE is stopped sets its latch and may wake the device. -/
  | wakeLatchSet (k : Fin 9)
  /-- GATE_END (R175): Every 100 ms the frequency monitor writes the deviations of RING and INPUT. -/
  | gateEnd (ring inp : Option Int) (follow : Int)
  /-- REF_SOURCE_ABSENT (R178): The selected RING or INPUT reference becomes absent. -/
  | refSourceAbsent
  /-- DWELL_EXPIRE (R179): At the end of the dwell the device switches to the candidate and slews. -/
  | dwellExpire
  /-- REF_REVERT (R181): A higher entry available for RETURN gates is switched to. -/
  | refRevert
  /-- SLEW_COMPLETE (R180): TRIM reaches its target within 0.1 ppm and MODE becomes TRACK. -/
  | slewComplete (target : Int) (ms : Nat)
  /-- RING_SLAVE_ACQUIRE (R183): The node becomes a locked ring slave and MODE becomes ACQUIRE. -/
  | ringSlaveAcquire
  /-- ACQUIRE_COMPLETE (R183): Phase within ±2 periods for one block makes MODE TRACK and schedules a ring-time step. -/
  | acquireComplete (err : BitVec 16) (frame : BitVec 48)
  /-- RING_HOLD_STEER (R184): A phase error beyond 4 periods in RING_HOLD steers TRIM until it is within 2 periods. -/
  | ringHoldSteer (err : BitVec 16) (goal : Int) (ms : Nat)
  /-- ALIGN_OUT (R185): A slave phase error beyond 8 periods sets ALIGN_OUT and logs. -/
  | alignOut (err : BitVec 16)
  /-- ALIGN_RETURN (R185): The phase error returns within 8 periods, ALIGN_OUT clears and is logged. -/
  | alignReturn (err : BitVec 16)
  /-- PLL_LOCK (R167): The analog loop sets LOCKED after the crystal is stable. -/
  | pllLock
  /-- PLL_UNLOCK (R196): Loss of lock or crystal forces safe levels, moves to limp, latches PLL_UNLOCK and enters SAFE. -/
  | pllUnlock (trip : Bool)
  /-- ANALOG_RELOCK (R198): In limp the analog loop sets LOCKED after 1,024 good crystal edges. -/
  | analogRelock
  /-- LIMP_RETURN (R198): After LOCKED has held 10 ms the domains return to the PLL at the next limp boundary. -/
  | limpReturn
  /-- RING_TIME_READ (R174): A read of CLK_RT_SUB latches CLK_RT_FL and CLK_RT_FH. -/
  | ringTimeRead (m : Master)
  /-- AON_TIMER (R188): The AON counter reaches CLK_AON_CMP, raises AON_TIMER and restarts if periodic. -/
  | aonTimer (n : Nat)
  /-- LPO_CALIBRATION (R189): Each second the LPO is measured against the crystal and CLK_LPO_CAL is written. -/
  | lpoCalibration (hz : Rat)
  /-- XTAL_START_TIMEOUT (R776): A crystal not seen 20 ms after PG_AUX1 makes the device start in limp with PLL_UNLOCK. -/
  | xtalStartTimeout
  /-- POR_RISE (R212): VSTK rises through 20 V; the micro-regulator and LPO start. -/
  | porRise
  /-- AON_POR_RELEASE (R212): The AON power-on reset is released and EN_AUX1 goes high. -/
  | aonPorRelease
  /-- POR_FALL (R206): VSTK falling through 16 V causes a power-on reset of the whole device. -/
  | porFall
  /-- PG_AUX_RISE (R212): A power-good input rises and the start-up sequence proceeds. -/
  | pgAuxRise (n : Fin 3)
  /-- SEQ_GAP_EXPIRE (R212): A GAP interval ends and the sequencer drives the next enable. -/
  | seqGapExpire (straps : Vector (BitVec 5) 3)
  /-- DIVIDER_RELEASE (R212): The dividers and domain resets are released, AON moves to the PLL and EN_AUX3 goes high. -/
  | dividerRelease
  /-- PGTO_EXPIRE (R215): A power-good timeout ends; EN_AUX1/2 sequences are retried or DRV_SUPPLY is latched. -/
  | pgtoExpire
  /-- SEQ_RETRY_EXPIRE (R215): After 1 s the sequence runs again from step 2. -/
  | seqRetryExpire
  /-- PG_AUX_FALL (R238): A power-good input falls after it has come, causing a SUPPLY reset or DRV_SUPPLY. -/
  | pgAuxFall (n : Fin 3)
  /-- BROWNOUT (R206): VSTK below the trip for 10 µs latches BROWNOUT and drops EN_MAIN and PCHG. -/
  | brownout (v : BitVec 9)
  /-- BROWNOUT_WARN (R206): VSTK crosses the warning level, raising BROWNOUT_WARN or clearing BO_WARN. -/
  | brownoutWarn (v : BitVec 9)
  /-- REQ_READY (R226): PWR_CMD code 0x1 stops PLAY with a ramp-out or abandons a transition. -/
  | reqReady (m : Master)
  /-- REQ_PLAY (R225): PWR_CMD code 0x2 is judged under R224 and starts the PLAY entry sequence. -/
  | reqPlay (m : Master)
  /-- REQ_STILL (R210): PWR_CMD code 0x3 waits for both cores in WAIT and enters STILL. -/
  | reqStill (m : Master)
  /-- REQ_ICE (R211): PWR_CMD code 0x4 sends LEAVE and powers the rails down to ICE. -/
  | reqIce (m : Master)
  /-- REQ_SAFE (R209): PWR_CMD code 0x5 latches REQUEST and enters SAFE. -/
  | reqSafe (m : Master)
  /-- EXIT_SAFE_TO_READY (R229): PWR_CMD code 0x6 turns the gates off and enters READY when no fault is set. -/
  | exitSafeToReady (m : Master)
  /-- EXIT_SAFE_TO_PLAY (R229): PWR_CMD code 0x7 runs the PLAY entry sequence from SAFE. -/
  | exitSafeToPlay (m : Master)
  /-- MAIN_CLOSE (R219): PWR_CMD code 0x8 starts a precharge. -/
  | mainClose (m : Master)
  /-- MAIN_OPEN (R220): PWR_CMD code 0x9 opens the main switch and ends a precharge. -/
  | mainOpen (m : Master)
  /-- STILL_ENTER (R210): With both cores in WAIT, the device gates CORE and STREAM at a boundary and drops VDRV. -/
  | stillEnter
  /-- STILL_WAIT_TIMEOUT (R210): Cores not both in WAIT within 60 blocks refuse the STILL request with BUSY. -/
  | stillWaitTimeout
  /-- STILL_WAKE (R210): An enabled wake latch in STILL raises EN_AUX3 and starts the PGTO count. -/
  | stillWake
  /-- STILL_UNGATE (R210): CORE and STREAM are ungated at the boundary after PG_AUX3 and the device reaches READY. -/
  | stillUngate
  /-- ICE_WAKE (R213): An enabled wake latch in ICE restarts the sequence from step 2. -/
  | iceWake
  /-- RST_PIN (R216): RST_N low resets everything except AON. -/
  | rstPin (low : Bool)
  /-- WDOG_START (R231): Writing 1 to SYS_WDOG_CTL.EN starts the watchdog. -/
  | wdogStart (m : Master) (v : Word)
  /-- WDOG_KICK (R231): Writing 0xC35A to SYS_WDOG_KICK restarts the watchdog count. -/
  | wdogKick (m : Master) (v : Word)
  /-- WDOG_WARN (R231): At three quarters of the timeout WARNED is set and WDOG_WARN raised. -/
  | wdogWarn
  /-- WDOG_EXPIRE (R231): At the full timeout a log entry is written and the WATCHDOG reset performed. -/
  | wdogExpire
  /-- SOFTWARE_RESET (R216): Writing the key to SYS_RST_REQ performs the SOFTWARE reset. -/
  | softwareReset (m : Master) (v : Word)
  /-- CORE_RESET (R217): SYS_CORE_RST with its key resets one core and restarts it at its image entry. -/
  | coreReset (m : Master) (v : Word)
  /-- PRECHARGE_START (R219): At the next boundary PCHG goes high and MAIN reads PRECHARGING. -/
  | prechargeStart
  /-- PRECHARGE_END (R219): After SETTLE blocks above threshold EN_MAIN goes high and MAIN reads CLOSED. -/
  | prechargeEnd
  /-- PCHG_OVERLAP_END (R219): OVERLAP blocks after EN_MAIN PCHG goes low. -/
  | pchgOverlapEnd
  /-- PCHG_TIMEOUT (R220): A precharge that has not ended within TIMEOUT drops PCHG and latches PCHG_TIMEOUT. -/
  | pchgTimeout
  /-- PRES_LOST (R222): PRES_N high forces safe levels, drops EN_MAIN, latches PRES_LOST, sends LEAVE and loops back the ring. -/
  | presLost
  /-- PRES_GAINED (R221): PRES_N low for DEB sets PRES, raises PRES_GAINED and may start a precharge. -/
  | presGained
  /-- BOOTSTRAP_START (R225): 200 µs before a boundary after the checks pass, the bootstrap precharge begins. -/
  | bootstrapStart
  /-- RAMP_IN_END (R225): After 512 samples PHASE reads STEADY. -/
  | rampInEnd
  /-- RAMP_OUT_END (R226): After the 512-sample ramp-out the gates turn off and the state becomes READY. -/
  | rampOutEnd
  /-- PWR_FAULT_CLEAR (R228): A SAFETY host writes 1 to clear PWR_FAULT bits whose conditions no longer hold. -/
  | pwrFaultClear (m : Master) (v : Word)
  /-- AUX_CONVERTER_SAMPLE (R756): Every 1 ms the auxiliary converter reads NTC_1 to NTC_4 and the die temperature. -/
  | auxConverterSample (ntc : Vector (Option Int) 4) (die : Int)
  /-- WAKE_PIN (R768): A WAKE_N falling edge raises WAKE_PIN or sets wake latch 3. -/
  | wakePin
  /-- I2S_FRAME (R245): A port receives one frame of slots into the IRC. -/
  | i2sFrame (p : Fin 2) (rise fall : List (Bool × Bool))
  /-- IEC_SUBFRAME (R249): The receiver takes one subframe, substituting the last good word on a parity error. -/
  | iecSubframe (ch : Fin 2) (word : BitVec 24) (parityOk codeOk valid cs z : Bool)
  /-- INPUT_LOCK (R247): A group with 64 good frames at a classified rate locks and raises INPUT_LOCK. -/
  | inputLock (g : Fin 3) (hz : Rat)
  /-- INPUT_UNLOCK (R247): A group meets an unlock condition, records the reason, ramps its lanes and raises INPUT_UNLOCK. -/
  | inputUnlock (g : Fin 3) (why : Fin 7) (rel : Int)
  /-- CS_CAPTURE (R250): Two identical 192-frame channel-status blocks are copied to the CS registers. -/
  | csCapture
  /-- IEC_UNMUTE (R251): After 192 clean frames with PCM status the receiver ramps back in. -/
  | iecUnmute
  /-- IRC_SETTLE (R259): A group meeting the settle conditions clears UNSETTLED and raises IRC_RATIO_CHANGE. -/
  | ircSettle (g : Fin 3)
  /-- INP_SLIP (R280): A read phase leaving ±8 samples ramps the lanes, recentres and counts a slip. -/
  | inpSlip (g : Fin 3)
  /-- INP_IEC_STAT_PCLR (R286): Writing 1 to PCLR clears the parity count. -/
  | inpIecStatPclr (m : Master) (v : Word)
  /-- INP_SLIPCNT_CLR (R286): Writing 1 to INP_SLIPCNT.CLR clears the slip counts. -/
  | inpSlipcntClr (m : Master) (v : Word)
  /-- LANE_SETTLED (R268): A sense lane stage has consumed as many settled samples as taps. -/
  | laneSettled (n : Fin 10) (j : Fin 7)
  /-- FEN_ECC_ERROR (R281): An uncorrectable error in engine state uses zero, slips a group or restarts a lane's settling. -/
  | fenEccError (w : Fin 8192) (part : EngineWord)
  /-- FEN_CAPTURE_START (R269): Writing START arms a 256-sample capture of one lane and stage. -/
  | fenCaptureStart (m : Master) (v : Word)
  /-- FEN_CAPTURE_DONE (R269): The 256th captured sample clears BUSY and sets DONE. -/
  | fenCaptureDone (xs : Vector Word 256) (frame : BitVec 48) (sub : BitVec 13)
  /-- FEN_SAT_CLR (R287): Writing 1 to FEN_SAT_n.CLR clears COUNT and STAGES. -/
  | fenSatClr (m : Master) (n : Fin 10) (v : Word)
  /-- CARRIER_PERIOD (R301): Each carrier period the device applies rail factor, shaper, edges, dither, minimum pulse, quiet window and refresh. -/
  | carrierPeriod (x : CarrierIn)
  /-- NOISE_SHAPER_RESET (R293): A state saturated for 16 periods resets the channel's shaper and logs. -/
  | noiseShaperReset (ch : Fin 4)
  /-- BOOTSTRAP_REFRESH (R304): After N full on-time periods a refresh pulse is inserted. -/
  | bootstrapRefresh (x : Fin 8)
  /-- OVERCURRENT (R306): A channel comparator trips outside blanking, forcing the channel off and latching in LATCH or at CBC_MAX. -/
  | overcurrent (n : Fin 4)
  /-- STACK_OVERCURRENT (R307): The stack comparator trips, turning every gate off and latching STK_OC. -/
  | stackOvercurrent
  /-- INTERLOCK (R312): Both gate commands on for more than 2 ns force the half-bridge off and latch INTERLOCK. -/
  | interlock (x : Fin 8)
  /-- EXT_FAULT (R311): FAULT_N low for 50 ns latches EXT_FAULT and forces all half-bridges. -/
  | extFault
  /-- VDRV_LOCKOUT (R315): VDRV below 9.5 V forces every half-bridge off and latches VDRV_UVLO in a running state. -/
  | vdrvLockout
  /-- BOOTSTRAP_LOCKOUT (R315): BST_x − SW_x below 8.0 V forces the high side off and latches BST_UVLO in PLAY or debug halt. -/
  | bootstrapLockout (x : Fin 8)
  /-- GDV_FAULT_CLEAR (R310): A SAFETY host writes 1 to clear stage fault bits whose conditions no longer hold. -/
  | gdvFaultClear (m : Master) (ch : Option (Fin 4)) (v : Word)
  /-- MOD_OVERRIDE_WRITE (R313): A write of override mode drives half-bridges by code in READY or is rejected. -/
  | modOverrideWrite (m : Master) (v : Word)
  /-- MOD_RFF_LIMCNT_CLR (R336): Writing 1 clears MOD_RFF_LIMCNT. -/
  | modRffLimcntClr (m : Master) (v : Word)
  /-- GDV_OC_CNT_CLR (R337): Writing 1 clears GDV_OC_CNT. -/
  | gdvOcCntClr (m : Master) (v : Word)
  /-- STREAM_DEBUG_HALT (R316): A debug halt freezes the edge generator with every gate command held. -/
  | streamDebugHalt
  /-- STREAM_DEBUG_RESUME (R319): On resume the shaper is cleared, modulation restarts and the Guard is forced blind-long. -/
  | streamDebugResume
  /-- S_DEBUG_HALT (R86): A debug halt of S stops its block cycle and zero blocks are passed. -/
  | sDebugHalt
  /-- S_DEBUG_RESUME (R86): S waits for the next boundary and ramps in its first good block. -/
  | sDebugResume
  /-- PILOT_WINDOW_END (R351): A pilot window ends, giving an Re estimate, the pilot amplitude update and estimator selection. -/
  | pilotWindowEnd (i : Fin 4)
  /-- BROADBAND_REPORT (R352): Every 12,000 samples the broadband estimator reports Re and Iband. -/
  | broadbandReport (i : Fin 4)
  /-- ESTIMATOR_BLIND (R356): A blind spell reaching GRD_T_BLIND sets RATCHET and raises ESTIMATOR_BLIND. -/
  | estimatorBlind (i : Fin 4)
  /-- ESTIMATOR_BLIND_LONG (R356): A blind spell reaching GRD_T_BLIND_LONG sets BLONG and lowers T_lim. -/
  | estimatorBlindLong (i : Fin 4)
  /-- GUARD_RECOVERY (R357): 30,000 non-blind blocks end recovery, restore T_lim and set RELEASE. -/
  | guardRecovery (i : Fin 4)
  /-- RATCHET_RELEASE_END (R357): T_est reaches Tv and RATCHET and RELEASE clear. -/
  | ratchetReleaseEnd (i : Fin 4)
  /-- GRD_X_CLR (R374): Writing 1 to GRD_n_X.CLR clears XPK. -/
  | grdXClr (m : Master) (i : Fin 4) (v : Word)
  /-- GRD_LINE_ECC (R367): An uncorrectable error in the lookahead line substitutes zero and sets GRD_EVT.ECC. -/
  | grdLineEcc (i : Fin 4) (j : Fin 16)
  /-- DIAG_PRESTART (R384): DIAG_CMD OP = PRESTART starts a standalone pre-start run. -/
  | diagPrestart (m : Master) (mask : BitVec 4)
  /-- DIAG_SWEEP (R383): DIAG_CMD OP = SWEEP starts an impedance sweep. -/
  | diagSweep (m : Master) (mask : BitVec 4)
  /-- DIAG_ABORT (R390): DIAG_CMD OP = ABORT ends the run in progress. -/
  | diagAbort (m : Master) (mask : BitVec 4)
  /-- PRESTART_STEP_END (R376): A pre-start step ends and is judged, and the next step begins. -/
  | prestartStepEnd (x : StepIn)
  /-- SWEEP_POINT_END (R383): A sweep point completes and its result entry is written. -/
  | sweepPointEnd (x : Vector SweepIn 4)
  /-- DC_ON_LOAD (R388): The filtered DC above LEVEL for TIME trips the detector, forcing safe levels and latching DC_ON_LOAD. -/
  | dcOnLoad (n : Fin 4) (vs : List Rat)
  /-- DIAG_HOLD_CLEAR (R381): A SAFETY host writes 1 to clear a DIAG_HOLD bit. -/
  | diagHoldClear (m : Master) (v : Word)
  /-- WEIR_READY (R415): A write of 1 to WEIR_READYi makes a task READY or sets REPEND. -/
  | weirReady (m : Master) (i : Fin 2) (v : Word)
  /-- WEIR_CANCEL (R415): A write of 1 to WEIR_CANCELi withdraws a READY task or clears REPEND. -/
  | weirCancel (m : Master) (i : Fin 2) (v : Word)
  /-- TASK_STARVED (R418): A task waiting STARVE blocks sets STARVED, raises TASK_STARVED and logs. -/
  | taskStarved (t : Fin 64)
  /-- CHAIN_STATUS (R444): A companion answers STATUS with its sequence state, flags and revision. -/
  | chainStatus (k : Fin 64) (f : ChainIn)
  /-- ASSIGN (R444): An unaddressed companion takes the address and records the side of its receiving port. -/
  | assign (k : Fin 64) (f : ChainIn)
  /-- UNASSIGN (R444): Every companion returns to address 0 and keeps its sequence state. -/
  | unassign (k : Fin 64)
  /-- READ_ID (R444): A companion replies with its public key. -/
  | readId (k : Fin 64) (f : ChainIn)
  /-- CHAIN_CHALLENGE (R444): A companion signs the nonce and replies within 15 ms. -/
  | chainChallenge (k : Fin 64) (f : ChainIn)
  /-- DELAY_PROBE (R443): A companion replies with a turn-around of exactly 64 bit periods. -/
  | delayProbe (k : Fin 64) (f : ChainIn)
  /-- TIME_SET (R461): A companion sets its chain time to the carried value plus its delay and steers its oscillator. -/
  | timeSet (k : Fin 64) (port : Side) (us : BitVec 32) (phase : Byte)
  /-- SAMPLE_AT (R488): A companion schedules a held sample at Ts, opens its bleed switches and converts, or ignores a late frame. -/
  | sampleAt (k : Fin 64) (dt : Nat) (us : BitVec 32) (phase : Byte) (id : BitVec 16) (mask : Byte)
  /-- READ_SAMPLE (R489): A companion replies with the latched sample, NAK_BUSY or NAK_STALE. -/
  | readSample (k : Fin 64) (f : ChainIn)
  /-- READ_REG (R507): A companion replies with count consecutive registers or NAK_ADDR. -/
  | readReg (k : Fin 64) (dt : Nat) (f : ChainIn)
  /-- WRITE_REG (R446): A sequenced register write executes once, is cached, or is answered NAK_SEQ. -/
  | writeReg (k : Fin 64) (f : ChainIn)
  /-- COLLECT (R455): A companion returns the cached reply for the SEQ asked for or NAK_NOT_EXEC. -/
  | collect (k : Fin 64) (f : ChainIn)
  /-- SLEEP (R505): A companion stops balancing and converters and sleeps, keeping its state. -/
  | sleep (k : Fin 64) (bc : Bool) (f : ChainIn)
  /-- LOOP (R453): A LOOP broadcast travels the chain to prove the loop intact. -/
  | loop (dly : Nat)
  /-- CHAIN_UNDEFINED_OPCODE (R444): An undefined opcode is answered NAK_OPCODE when addressed, or repeated and counted when broadcast. -/
  | chainUndefinedOpcode (k : Fin 64) (op : Byte) (bc : Bool) (f : ChainIn)
  /-- FRAME_REPEAT (R439): A companion repeats a frame not addressed to it 4 bit periods later, stopping on a header CRC failure. -/
  | frameRepeat (k : Fin 64) (port : Side) (bytes : List Byte)
  /-- CHAIN_REPLY (R449): The master receives a reply and acts on its status, ending or resending the command. -/
  | chainReply (side : Side) (bytes : List Byte) (delta : Nat)
  /-- NAK_BUSY_RESEND (R449): 50 µs after NAK_BUSY the master resends the command. -/
  | nakBusyResend
  /-- ATTEMPT_TIMEOUT (R451): A reply that does not arrive within RTO causes a retry, a reversal or UNREACHABLE. -/
  | attemptTimeout (ticks : Nat)
  /-- BROADCAST_LOSS (R453): A broadcast not arriving at SHL_B in LOOP starts locating the break. -/
  | broadcastLoss (ticks : Nat)
  /-- CHAIN_PROBE (R454): In SPLIT every PROBE interval a LOOP frame and STATUS to unreachable companions are sent. -/
  | chainProbe (ms : Nat)
  /-- CHAIN_HEAL (R454): A LOOP frame arriving whole returns the chain to LOOP and logs the heal. -/
  | chainHeal
  /-- SHL_CTL_ENUM (R458): A write of ENUM, or the start of the master role, runs enumeration from both sides. -/
  | shlCtlEnum (m : Master) (v : Word)
  /-- DELAY_MEASURE (R460): Every DLYP interval the master probes each companion's delay and writes it. -/
  | delayMeasure (ms : Nat)
  /-- TIME_SET_SEND (R461): Every SYNCP ms, or 1 ms after a ring-time step, the master broadcasts TIME_SET. -/
  | timeSetSend (ms : Nat)
  /-- LOOP_SEND (R453): With no broadcast for SYNCP ms the master sends a LOOP frame. -/
  | loopSend (ms : Nat)
  /-- SAMPLE_READ_START (R464): After Ts plus the conversion time the master reads each reachable companion. -/
  | sampleReadStart
  /-- CHN_WAKE (R468): A wake tone detected for 500 µs raises CHN_WAKE, sets latch 5, or is relayed by a companion. -/
  | chnWake (k : Option (Fin 64))
  /-- SHL_CTL_WAKE (R469): A write of WAKE drives the wake tone for 2 ms on both ports. -/
  | shlCtlWake (m : Master) (v : Word)
  /-- SHL_CTL_SLEEP (R469): A write of SLEEP broadcasts SLEEP once no command is outstanding. -/
  | shlCtlSleep (m : Master) (v : Word)
  /-- SHL_CTL_UNASSIGN (R485): A write of UNASSIGN broadcasts UNASSIGN once no command is outstanding. -/
  | shlCtlUnassign (m : Master) (v : Word)
  /-- MAILBOX_GO (R472): Writing GO queues a mailbox command, served between sample-cycle commands. -/
  | mailboxGo (m : Master) (mb : Fin 4) (v : Word)
  /-- PORT_JAM (R482): A port with transitions for 2 ms without a start delimiter is jammed and reversed around. -/
  | portJam (side : Side)
  /-- SHL_CNT_CLR (R485): Writing 1 to SHL_CNT2.CLR clears SHL_CNT and SHL_CNT2. -/
  | shlCntClr (m : Master) (v : Word)
  /-- SAMPLE_HOLD (R488): At chain time Ts a companion holds all cell inputs and starts converting. -/
  | sampleHold (k : Fin 64)
  /-- CONVERSION_COMPLETE (R488): At Ts + T_conv the results are complete and the bleed switches may close. -/
  | conversionComplete (k : Fin 64) (x : ConvIn)
  /-- BALANCE_SCHEDULE (R500): Each second the companion chooses the bleed switches to close under MAX, adjacency and die limits. -/
  | balanceSchedule (k : Fin 64) (die : Int)
  /-- BALANCE_TIMER_EXPIRE (R499): A cell's bleed time reaches its timer and its enable bit clears. -/
  | balanceTimerExpire (k : Fin 64) (i : Fin 18)
  /-- BALANCING_STOP (R502): XM_BAL_KEY = 0x5A0F clears every enable and locks balancing. -/
  | balancingStop (k : Fin 64) (f : ChainIn)
  /-- BALANCING_UNLOCK (R502): XM_BAL_KEY = 0xA5F0 clears the lock unless LEVEL is FAULT. -/
  | balancingUnlock (k : Fin 64) (f : ChainIn)
  /-- TSYNC_TIMEOUT (R491): No TIME_SET for 250 ms clears TSYNC; after 2 s the bleed switches open. -/
  | tsyncTimeout (k : Fin 64) (ms : Nat)
  /-- OPEN_WIRE_TEST (R503): XM_OW_CTL.GO, or every AUTO × 16 cycles, starts an open-wire test. -/
  | openWireTest (k : Fin 64)
  /-- OPEN_WIRE_TEST_END (R503): The test completes, sets XM_OW_RES and OPEN_WIRE and marks adjacent cells. -/
  | openWireTestEnd (k : Fin 64) (before : Vector Nat 18) (after : Vector (Vector Nat 18) 19)
  /-- SLEEP_WINDOW_CHECK (R506): Every XM_SLP_INT s in sleep the companion checks its cells and NTCs and may wake with a tone. -/
  | sleepWindowCheck (k : Fin 64) (coarse : Vector (BitVec 10) 18) (ntc : List (Option Int))
  /-- XM_SUPPLY_LOSS (R514): VMOD below 7.0 V opens all bleed switches and resets the companion. -/
  | xmSupplyLoss (k : Fin 64)
  /-- XM_POWER_UP (R508): VMOD above 8.0 V starts the companion unaddressed with BOOT set. -/
  | xmPowerUp (k : Fin 64)
  /-- FRAME_ORIGINATE (R536): Each frame period the ring master originates a frame with its slots and recirculated slots. -/
  | frameOriginate (irc : Vector Word 16) (turn : BitVec 17)
  /-- FRAME_PROCESS (R528): A node forwards a frame 96 periods later, reading and writing its slots and messages and checking CRCs. -/
  | frameProcess (x : RingIn)
  /-- PORT_UP (R524): 16 sync words at their expected instants make a port UP. -/
  | portUp (side : Side)
  /-- PORT_DOWN (R524): Three missing sync words, no signal or loop-back recognition make a port DOWN. -/
  | portDown (side : Side)
  /-- RING_LOCK (R532): A slave meeting the lock conditions gains ring lock and raises RING_LOCK. -/
  | ringLock
  /-- RING_LOCK_LOSS (R532): 32 frame periods without a processed frame or a phase error above 256 periods lose ring lock. -/
  | ringLockLoss (frames : Nat)
  /-- BEACON (R550): A node receives a BEACON, adopting ring parameters or yielding to a lower-tag master. -/
  | beacon
  /-- BEACON_SEND (R543): Every 16 frames the master queues a BEACON. -/
  | beaconSend
  /-- TARN_STATUS (R535): A node receives a STATUS message, updating node records and resolving slot conflicts. -/
  | tarnStatus
  /-- STATUS_SEND (R543): Every 96 frames a node queues its STATUS message. -/
  | statusSend
  /-- JOIN_REQ (R551): The master receives a JOIN_REQ and answers with CHALLENGE within 2 frames. -/
  | joinReq
  /-- JOIN_REQ_SEND (R551): An unnumbered node with ring lock sends JOIN_REQ every 10 ms until admitted. -/
  | joinReqSend
  /-- TARN_CHALLENGE (R551): A joining node receives CHALLENGE and answers RESPONSE within 15 ms. -/
  | tarnChallenge
  /-- RESPONSE (R692): The master verifies a RESPONSE against the roster and sends ADMIT. -/
  | response
  /-- ADMIT (R551): A node receives its number and trust; ADOPTED or STRANGER is raised and logged. -/
  | tarnAdmit
  /-- LEAVE (R553): The master receives LEAVE, marks the node ABSENT and raises NODE_LEAVE. -/
  | leave
  /-- NODE_LOST (R553): No STATUS from an adopted node for 288 frames marks it ABSENT with cause LOST. -/
  | nodeLost (n : Fin 128)
  /-- HOST_REQ (R548): A target reassembles HOST_REQ fragments and passes the frame to the named client's parser. -/
  | hostReq
  /-- HOST_RSP (R603): A HOST_RSP completes a RELAY or is discarded as late. -/
  | hostRsp
  /-- REASSEMBLY_TIMEOUT (R548): A host frame without LAST for 10 ms is discarded and counted. -/
  | reassemblyTimeout (n : BitVec 7)
  /-- CELLS (R547): A receiving node checks a relayed reading and latches it into its Reservoir. -/
  | cells
  /-- ROSTER (R695): A candidate stores ROSTER messages with a higher generation. -/
  | roster
  /-- ROSTER_SEND (R550): Every 960 frames and after each roster change the master sends its roster. -/
  | rosterSend
  /-- HEAL_DWELL_EXPIRE (R557): A wrap node whose port stays UP for HEAL × 96 frames sends HEAL_READY. -/
  | healDwellExpire (frames : Nat)
  /-- HEAL_READY (R557): The master holding HEAL_READY from both sides of a link broadcasts UNWRAP. -/
  | healReady
  /-- UNWRAP (R557): The wrap nodes note frame F for returning to NORMAL. -/
  | unwrap
  /-- RING_HEAL (R557): At frame F both nodes return to NORMAL and RING_HEAL is raised. -/
  | ringHeal
  /-- TARN_NAK (R543): A node receives a NAK for a message it sent. -/
  | tarnNak
  /-- TARN_UNKNOWN_MESSAGE (R543): A message of reserved type is counted and forwarded, with NAK if addressed. -/
  | tarnUnknownMessage
  /-- TARN_APP (R553): A received APP message is stored in TRN_APP_RX and raises RING_MSG, or is dropped. -/
  | tarnApp
  /-- TRN_APP_GO (R553): Writing GO queues an APP message from TRN_APP_TX. -/
  | trnAppGo (m : Master) (v : Word)
  /-- TRN_APP_RELEASE (R567): Writing 1 to TRN_APP_RX.VALID releases the receive buffer. -/
  | trnAppRelease (m : Master) (v : Word)
  /-- TRN_CNT_CLR (R567): Writing 1 clears TRN_CRC_W, TRN_CRC_E and TRN_MSGCNT. -/
  | trnCntClr (m : Master) (v : Word)
  /-- TRN_LANEERR_CLR (R567): Writing 1 clears a lane's substitution count. -/
  | trnLaneerrClr (m : Master) (n : Fin 32) (v : Word)
  /-- MASTER_TAKEOVER (R549): A candidate seeing no master frame for 16 × rank periods becomes master. -/
  | masterTakeover (frames : Nat)
  /-- RING_ACTIVITY_DETECT (R558): In ICE 100 µs of RX line activity sets wake latch 6. -/
  | ringActivityDetect
  /-- SPI_TRANSACTION (R571): A CS_N-framed SPI transaction returns the PSW and exchanges stream bytes, discarding a partial byte. -/
  | spiTransaction (c : Client) (mosi : List Byte)
  /-- I2C_TRANSFER (R570): An I²C write continues the host stream, or a read returns the PSW and device stream. -/
  | i2cTransfer (addr : BitVec 7) (written : List Byte) (read : Option Nat)
  /-- HOST_FRAME (R576): A frame found in a host stream is checked for header, length, CRC and sequence and queued. -/
  | hostFrame (c : Client)
  /-- HELLO (R578): HELLO returns the sequence state; with SYNC it resynchronises the client. -/
  | hello (c : Client)
  /-- PING (R584): PING returns its payload. -/
  | ping (c : Client)
  /-- STATUS (R584): STATUS returns power status, faults, epoch, ring time and the lease. -/
  | status (c : Client)
  /-- REG_READ (R586): REG_READ reads count words in order, stopping at a memory error. -/
  | regRead (c : Client)
  /-- REG_WRITE (R586): REG_WRITE writes count words in order, stopping at a rejected write. -/
  | regWrite (c : Client)
  /-- EVT_DONE (R587): EVT_DONE writes the source number to the client's EVC completion register. -/
  | evtDone (c : Client)
  /-- STATE_REQ (R588): STATE_REQ writes a power request code and reports its judgement. -/
  | stateReq (c : Client)
  /-- LEASE_ACQUIRE (R598): LEASE_ACQUIRE takes or renews the maintenance lease. -/
  | leaseAcquire (c : Client)
  /-- LEASE_RENEW (R598): LEASE_RENEW restarts the holder's lease timer. -/
  | leaseRenew (c : Client)
  /-- LEASE_RELEASE (R598): LEASE_RELEASE frees the holder's lease. -/
  | leaseRelease (c : Client)
  /-- LEASE_BREAK (R600): LEASE_BREAK of an expired lease aborts the silent client's queue and takes or frees the lease. -/
  | leaseBreak (c : Client)
  /-- LEASE_EXPIRED (R599): The 500 ms lease timer ends and the lease becomes EXPIRED. -/
  | leaseExpired
  /-- SET_PRIV (R589): SET_PRIV changes a client's privilege mask and stores it. -/
  | setPriv (c : Client)
  /-- TXN_STAGE (R619): TXN_STAGE checks and stages entries into the client's staging area. -/
  | txnStage (c : Client)
  /-- TXN_COMMIT (R624): TXN_COMMIT checks a commit against the base version and claims and arms it. -/
  | txnCommit (c : Client) (bad : Bool)
  /-- TXN_DISCARD (R621): TXN_DISCARD empties the staging area. -/
  | txnDiscard (c : Client)
  /-- TXN_QUERY (R621): TXN_QUERY returns the version, state and staged entries. -/
  | txnQuery (c : Client)
  /-- LOG_READ (R663): LOG_READ returns held or persisted entries from a first sequence number. -/
  | logRead (c : Client)
  /-- CHN_CMD (R590): CHN_CMD sends a chain command through the client's mailbox and returns its result. -/
  | chnCmd (c : Client)
  /-- RELAY (R601): RELAY sends an embedded frame to a client of another node over the ring. -/
  | relay (c : Client)
  /-- RELAY_TIMEOUT (R603): A RELAY without a response within its timeout completes RELAY_TIMEOUT. -/
  | relayTimeout (c : Client)
  /-- UPD_BEGIN (R710): UPD_BEGIN starts or resumes an image transfer into the non-running slot. -/
  | updBegin (c : Client)
  /-- UPD_DATA (R710): UPD_DATA compares or writes image lines and advances the mark. -/
  | updData (c : Client)
  /-- UPD_STATUS (R709): UPD_STATUS returns the update record and boot state. -/
  | updStatus (c : Client)
  /-- UPD_VERIFY (R711): UPD_VERIFY checks the declared hash and the image and marks it VERIFIED. -/
  | updVerify (c : Client)
  /-- UPD_ACTIVATE (R713): UPD_ACTIVATE arms a trial boot of the verified image, optionally resetting. -/
  | updActivate (c : Client)
  /-- ACTIVATE_RESET (R713): After the response is read or 100 ms, the SOFTWARE reset of an activation is performed. -/
  | activateReset
  /-- UPD_CONFIRM (R714): UPD_CONFIRM makes the trial image active and raises the rollback counter. -/
  | updConfirm (c : Client)
  /-- UPD_ABORT (R715): UPD_ABORT disarms a trial and resets the update record. -/
  | updAbort (c : Client)
  /-- UPD_KEY (R715): UPD_KEY programs or revokes a key slot or sets the image key. -/
  | updKey (c : Client)
  /-- ID_LIST (R696): ID_LIST returns roster entries and generation. -/
  | idList (c : Client)
  /-- ID_ADOPT (R697): ID_ADOPT stages a tag for the roster. -/
  | idAdopt (c : Client)
  /-- ID_REVOKE (R697): ID_REVOKE stages removal of a tag from the roster. -/
  | idRevoke (c : Client)
  /-- ID_COMMIT (R698): ID_COMMIT writes the staged roster changes and acts on adopted and revoked tags. -/
  | idCommit (c : Client)
  /-- CONV_OPEN (R595): CONV_OPEN opens the lowest free conversation of a kind. -/
  | convOpen (c : Client)
  /-- CONV_CLOSE (R596): CONV_CLOSE closes the named conversation. -/
  | convClose (c : Client)
  /-- CONV_TIMEOUT (R596): A conversation idle for 2 s closes and raises PROTO_ERR. -/
  | convTimeout (c : Client) (n : Fin 4)
  /-- APP (R591): An APP opcode is copied to the firmware buffer and raises HPA_FRAME or HPB_FRAME. -/
  | app (c : Client)
  /-- HOST_UNKNOWN_OPCODE (R576): An undefined host opcode is answered UNKNOWN_OPCODE with no side effect. -/
  | hostUnknownOpcode (c : Client)
  /-- FW_RESPONSE_DONE (R591): Firmware writes DONE and RLEN and the port forms the APP response. -/
  | fwResponseDone (m : Master) (c : Client) (v : Word)
  /-- NOTIFY_CLAIM (R593): A port with room claims an event for its pin and sends a notification frame. -/
  | notifyClaim (c : Client)
  /-- NOTIFY_RETX (R593): An outstanding notification is resent after RETX ms. -/
  | notifyRetx (c : Client) (n : Fin 128) (ms : Nat)
  /-- HP_CNT_CLR (R617): Writing 1 to HPx_CNT2.CLR clears the port counters. -/
  | hpCntClr (m : Master) (c : Client) (v : Word)
  /-- TXN_ARMED (R624): A commit's window copy is prepared and it is armed. -/
  | txnArmed (c : Client)
  /-- TXN_WAVE3 (R627): TXN_SETTLE blocks after B2 the loosening entries apply and the transaction completes. -/
  | txnWave3 (c : Client) (bad : Bool)
  /-- CWIN_WRITE (R633): A write to the coefficient window writes all copies outside PLAY or is ignored and rejected. -/
  | cwinWrite (m : Master) (a v : Word)
  /-- TXN_CREQ_GO (R636): A core submits a transaction command to a client's queue through TXN_CREQ. -/
  | txnCreqGo (m : Master) (v : Word)
  /-- LOG_ENTRY_WRITE (R655): SED takes the next queued entry, gives it SED_NEXT and writes it to bank 7. -/
  | logEntryWrite
  /-- PERSIST_WRITE (R662): A queued entry is written to the persistent area with its count. -/
  | persistWrite (fails : Bool)
  /-- SED_ACK_WRITE (R658): A write of SED_ACK acknowledges entries and may re-arm LOG_HALF. -/
  | sedAckWrite (m : Master) (v : Word)
  /-- SOFTWARE_ENTRY (R661): A core at PRIV writes GO to SED_SW_CTL to write a software entry. -/
  | softwareEntry (m : Master) (v : Word)
  /-- SOFT_FAULT (R652): A core writes 0x6C0D to SED_SOFTFLT, latching the SOFT system fault. -/
  | softFault (m : Master) (v : Word)
  /-- SED_SYSFAULT_CLEAR (R652): A SAFETY host writes 1 to clear system fault bits whose conditions no longer hold. -/
  | sedSysfaultClear (m : Master) (v : Word)
  /-- SED_CNT_CLR (R680): Writing 1 to SED_CNT2.CLR clears SED_CNT and SED_CNT2. -/
  | sedCntClr (m : Master) (v : Word)
  /-- SEM_BRKCNT_CLR (R681): Writing 1 from a core clears SEM_BRKCNT. -/
  | semBrkcntClr (m : Master) (v : Word)
  /-- NVS_LINE_WRITE (R683): A journalled 64-byte line write completes, raising NVS_DONE or NVS_ERR. -/
  | nvsLineWrite (fails : Bool)
  /-- NVC_REQ_GO (R687): A write of NVC_REQ.GO requests a configuration store line write. -/
  | nvcReqGo (m : Master) (v : Word)
  /-- SEC_CONFIRM (R714): A core writes 0x7E11 to SEC_CONFIRM to confirm the trial image. -/
  | secConfirm (m : Master) (v : Word)
  /-- RNG_READ (R730): A read of SEC_RNG returns 32 fresh random bits. -/
  | rngRead (m : Master)
  /-- DEBUG_LOCK (R739): Setting DBG_CTL.LOCK restricts the TAP to boundary scan, IDCODE and BYPASS. -/
  | debugLock (m : Master) (v : Word)
  /-- TAP_HALT_REQUEST (R739): A TAP halt request halts a core or the STREAM domain unless locked. -/
  | tapHaltRequest (t : HaltTarget)
  /-- TAP_RELEASE (R741): The TAP releases a debug halt in force. -/
  | tapRelease (t : HaltTarget)
  /-- PORT_TRAINING (R524): A Tarn port receiver in DOWN sees a sync word and enters TRAINING. -/
  | portTraining (side : Side)
  /-- VDRV_LOCKOUT_RELEASE (R315): VDRV rises above the 10.2 V rising level, the VDRV lockout ends and GDV_STAT.VDRV_OK is set. -/
  | vdrvLockoutRelease
  /-- BOOTSTRAP_LOCKOUT_RELEASE (R315): BST_x − SW_x rises above 8.6 V, the high side is allowed again and BST_OK is set. -/
  | bootstrapLockoutRelease (x : Fin 8)
  /-- WAKE_TONE_END (R469): The wake tone that the master (2 ms) or a companion (4 ms) drives ends, and frames may be sent or accepted again 2 ms later. -/
  | wakeToneEnd (k : Option (Fin 64))
  /-- IMAGE_LINE_WRITE (R710): An unjournalled image-slot line program of UPD_DATA completes, advancing the written lines toward the new mark. -/
  | imageLineWrite (fails : Bool)
  deriving DecidableEq, Repr

end Sys2Proof
end

