-- ==== Sys2Proof/Machine/RegTypes.lean ====
section
/-! DEFINITION. The shape of a register table: fields with their access code (R7) and Dir attribute
(R9), registers with their address, count and reset word. -/

namespace Sys2Proof.Machine

/-- The access codes of R7. -/
inductive Access where
  | rw | ro | wo | w1c | w1s | txn
  deriving DecidableEq, Repr

/-- The Dir attributes of R9. -/
inductive Dir where
  | up | dn | neu | fix
  deriving DecidableEq, Repr

/-- A named field: the address of its register, its least significant bit and its width. -/
structure Fld where
  addr : Nat
  lsb : Nat
  width : Nat
  deriving DecidableEq, Repr

/-- One field of a register table. `signed` marks a field that is compared as a signed number
(R10). -/
structure FieldSpec where
  lsb : Nat
  width : Nat
  acc : Access
  dir : Dir
  signed : Bool
  deriving DecidableEq, Repr

/-- One register, or a family of `count` registers `stride` apart, with one reset word. -/
structure RegSpec where
  base : Nat
  count : Nat
  stride : Nat
  aon : Bool
  reset : Nat
  fields : List FieldSpec
  deriving DecidableEq, Repr

/-- Does address `a` name a register of this family? -/
def RegSpec.covers (r : RegSpec) (a : Nat) : Bool :=
  r.base ≤ a && a < r.base + r.count * r.stride && (a - r.base) % r.stride == 0

end Sys2Proof.Machine
end

