-- ==== Sys2Proof/Machine/RegNames.lean ====
section
/-! DEFINITION. The addresses (R) and fields (F) of the registers under the manual's own names;
an index argument is the manual's index of the register family. Generated from the register tables
of spec/. -/

namespace Sys2Proof.Machine

/-- ST_COREID, R87. -/
def R.ST_COREID : Nat := 0x20065000
/-- ST_COREID.CORE: 0 for C0, 1 for C1, 2 for S; 3 is reserved and never read -/
def F.ST_COREID_CORE : Fld := ⟨R.ST_COREID, 0, 2⟩
/-- ST_COREID.REV: silicon revision, equal to SYS_ID.REV -/
def F.ST_COREID_REV : Fld := ⟨R.ST_COREID, 8, 8⟩
/-- ST_STATUS, R87. -/
def R.ST_STATUS : Nat := 0x20065004
/-- ST_STATUS.IE: event delivery enable -/
def F.ST_STATUS_IE : Fld := ⟨R.ST_STATUS, 0, 1⟩
/-- ST_STATUS.PRIV: current level: 1 for PRIV, 0 for TASK -/
def F.ST_STATUS_PRIV : Fld := ⟨R.ST_STATUS, 1, 1⟩
/-- ST_STATUS.EXL: set on exception entry, cleared by ERET -/
def F.ST_STATUS_EXL : Fld := ⟨R.ST_STATUS, 2, 1⟩
/-- ST_STATUS.PIE: IE saved on entry -/
def F.ST_STATUS_PIE : Fld := ⟨R.ST_STATUS, 4, 1⟩
/-- ST_STATUS.PPRIV: PRIV saved on entry -/
def F.ST_STATUS_PPRIV : Fld := ⟨R.ST_STATUS, 5, 1⟩
/-- ST_STATUS.SAT: sticky: set by any saturating arithmetic that saturated -/
def F.ST_STATUS_SAT : Fld := ⟨R.ST_STATUS, 8, 1⟩
/-- ST_CAUSE, R87. -/
def R.ST_CAUSE : Nat := 0x20065008
/-- ST_CAUSE.CODE: cause code of R48 -/
def F.ST_CAUSE_CODE : Fld := ⟨R.ST_CAUSE, 0, 6⟩
/-- ST_CAUSE.STORE: 1 when the faulting access was a store -/
def F.ST_CAUSE_STORE : Fld := ⟨R.ST_CAUSE, 8, 1⟩
/-- ST_EPC, R87. -/
def R.ST_EPC : Nat := 0x2006500C
/-- ST_EPC.EPC: return address; [1:0] reserved -/
def F.ST_EPC_EPC : Fld := ⟨R.ST_EPC, 2, 30⟩
/-- ST_EVAL, R87. -/
def R.ST_EVAL : Nat := 0x20065010
/-- ST_EVAL.EVAL: faulting address, or zero -/
def F.ST_EVAL_EVAL : Fld := ⟨R.ST_EVAL, 0, 32⟩
/-- ST_VECBASE, R87. -/
def R.ST_VECBASE : Nat := 0x20065014
/-- ST_VECBASE.BASE: vector table base, aligned to 1 KB -/
def F.ST_VECBASE_BASE : Fld := ⟨R.ST_VECBASE, 10, 22⟩
/-- ST_SCRATCH0, R87. -/
def R.ST_SCRATCH0 : Nat := 0x20065018
/-- ST_SCRATCH0.VALUE: free for handler use -/
def F.ST_SCRATCH0_VALUE : Fld := ⟨R.ST_SCRATCH0, 0, 32⟩
/-- ST_SCRATCH1, R87. -/
def R.ST_SCRATCH1 : Nat := 0x2006501C
/-- ST_SCRATCH1.VALUE: free for handler use -/
def F.ST_SCRATCH1_VALUE : Fld := ⟨R.ST_SCRATCH1, 0, 32⟩
/-- ST_CYCLE, R87. -/
def R.ST_CYCLE : Nat := 0x20065020
/-- ST_CYCLE.LOW: cycle counter [31:0] under R45 -/
def F.ST_CYCLE_LOW : Fld := ⟨R.ST_CYCLE, 0, 32⟩
/-- ST_CYCLEH, R87. -/
def R.ST_CYCLEH : Nat := 0x20065024
/-- ST_CYCLEH.HIGH: latched cycle counter [63:32] -/
def F.ST_CYCLEH_HIGH : Fld := ⟨R.ST_CYCLEH, 0, 32⟩
/-- ST_MPU_CTL, R87. -/
def R.ST_MPU_CTL : Nat := 0x20065040
/-- ST_MPU_CTL.EN: protection enable -/
def F.ST_MPU_CTL_EN : Fld := ⟨R.ST_MPU_CTL, 0, 1⟩
/-- ST_MPU_CTL.PRIVDEF: PRIV access to unmatched addresses allowed -/
def F.ST_MPU_CTL_PRIVDEF : Fld := ⟨R.ST_MPU_CTL, 1, 1⟩
/-- ST_MPU_SEL, R87. -/
def R.ST_MPU_SEL : Nat := 0x20065044
/-- ST_MPU_SEL.REGION: region selected for 0x012 to 0x014 -/
def F.ST_MPU_SEL_REGION : Fld := ⟨R.ST_MPU_SEL, 0, 4⟩
/-- ST_MPU_BASE, R87. -/
def R.ST_MPU_BASE : Nat := 0x20065048
/-- ST_MPU_BASE.BASE: first 256-byte granule of the region -/
def F.ST_MPU_BASE_BASE : Fld := ⟨R.ST_MPU_BASE, 8, 24⟩
/-- ST_MPU_LIMIT, R87. -/
def R.ST_MPU_LIMIT : Nat := 0x2006504C
/-- ST_MPU_LIMIT.LIMIT: last 256-byte granule of the region -/
def F.ST_MPU_LIMIT_LIMIT : Fld := ⟨R.ST_MPU_LIMIT, 8, 24⟩
/-- ST_MPU_ATTR, R87. -/
def R.ST_MPU_ATTR : Nat := 0x20065050
/-- ST_MPU_ATTR.VALID: region in use -/
def F.ST_MPU_ATTR_VALID : Fld := ⟨R.ST_MPU_ATTR, 0, 1⟩
/-- ST_MPU_ATTR.PR: read allowed at PRIV -/
def F.ST_MPU_ATTR_PR : Fld := ⟨R.ST_MPU_ATTR, 1, 1⟩
/-- ST_MPU_ATTR.PW: write allowed at PRIV -/
def F.ST_MPU_ATTR_PW : Fld := ⟨R.ST_MPU_ATTR, 2, 1⟩
/-- ST_MPU_ATTR.PX: fetch allowed at PRIV -/
def F.ST_MPU_ATTR_PX : Fld := ⟨R.ST_MPU_ATTR, 3, 1⟩
/-- ST_MPU_ATTR.TR: read allowed at TASK -/
def F.ST_MPU_ATTR_TR : Fld := ⟨R.ST_MPU_ATTR, 4, 1⟩
/-- ST_MPU_ATTR.TW: write allowed at TASK -/
def F.ST_MPU_ATTR_TW : Fld := ⟨R.ST_MPU_ATTR, 5, 1⟩
/-- ST_MPU_ATTR.TX: fetch allowed at TASK -/
def F.ST_MPU_ATTR_TX : Fld := ⟨R.ST_MPU_ATTR, 6, 1⟩
/-- ST_SCTL, R87. -/
def R.ST_SCTL : Nat := 0x20065080
/-- ST_SCTL.RUN: run request, under R68 -/
def F.ST_SCTL_RUN : Fld := ⟨R.ST_SCTL, 0, 1⟩
/-- ST_SCTL.OVR_LIMIT: consecutive overruns that turn into a stream fault; 0 means never -/
def F.ST_SCTL_OVR_LIMIT : Fld := ⟨R.ST_SCTL, 8, 8⟩
/-- ST_SENTRY, R87. -/
def R.ST_SENTRY : Nat := 0x20065084
/-- ST_SENTRY.ENTRY: entry address in banks 0 to 5; written only while RUN = 0, under R69; an address outside banks 0 to 5 is a reserved encoding -/
def F.ST_SENTRY_ENTRY : Fld := ⟨R.ST_SENTRY, 2, 30⟩
/-- ST_SSTATE, R87. -/
def R.ST_SSTATE : Nat := 0x20065088
/-- ST_SSTATE.STATE: 0 STOPPED, 1 RUNNING, 2 WAITING, 3 FAULT, 4 DEBUG; 5 to 7 reserved, never read -/
def F.ST_SSTATE_STATE : Fld := ⟨R.ST_SSTATE, 0, 3⟩
/-- ST_SFLT, R87. -/
def R.ST_SFLT : Nat := 0x2006508C
/-- ST_SFLT.CAUSE: stream fault cause of R67 -/
def F.ST_SFLT_CAUSE : Fld := ⟨R.ST_SFLT, 0, 6⟩
/-- ST_SFPC, R87. -/
def R.ST_SFPC : Nat := 0x20065090
/-- ST_SFPC.PC: address of the faulting instruction -/
def F.ST_SFPC_PC : Fld := ⟨R.ST_SFPC, 0, 32⟩
/-- ST_SFADDR, R87. -/
def R.ST_SFADDR : Nat := 0x20065094
/-- ST_SFADDR.ADDR: faulting data or fetch address, or zero -/
def F.ST_SFADDR_ADDR : Fld := ⟨R.ST_SFADDR, 0, 32⟩
/-- ST_OVRCNT, R87. -/
def R.ST_OVRCNT : Nat := 0x20065098
/-- ST_OVRCNT.COUNT: overruns since last cleared; saturates at 65,535 -/
def F.ST_OVRCNT_COUNT : Fld := ⟨R.ST_OVRCNT, 0, 16⟩
/-- ST_OVRCNT.CONSEC: consecutive overruns; saturates at 255 -/
def F.ST_OVRCNT_CONSEC : Fld := ⟨R.ST_OVRCNT, 16, 8⟩
/-- ST_OVRCNT.CLR: writing 1 clears COUNT -/
def F.ST_OVRCNT_CLR : Fld := ⟨R.ST_OVRCNT, 31, 1⟩
/-- ST_BLKCYC, R87. -/
def R.ST_BLKCYC : Nat := 0x2006509C
/-- ST_BLKCYC.CYCLE: STREAM cycles since the current block boundary, 0 to 32,767 -/
def F.ST_BLKCYC_CYCLE : Fld := ⟨R.ST_BLKCYC, 0, 16⟩
/-- ST_BLKCNT, R87. -/
def R.ST_BLKCNT : Nat := 0x200650A0
/-- ST_BLKCNT.COUNT: block boundaries since reset, whatever RUN is -/
def F.ST_BLKCNT_COUNT : Fld := ⟨R.ST_BLKCNT, 0, 32⟩
/-- ST_ENDCYC, R87. -/
def R.ST_ENDCYC : Nat := 0x200650A4
/-- ST_ENDCYC.LAST: ST_BLKCYC at the last BLKEND that retired -/
def F.ST_ENDCYC_LAST : Fld := ⟨R.ST_ENDCYC, 0, 16⟩
/-- ST_ENDMAX, R87. -/
def R.ST_ENDMAX : Nat := 0x200650A8
/-- ST_ENDMAX.MAX: largest LAST since cleared -/
def F.ST_ENDMAX_MAX : Fld := ⟨R.ST_ENDMAX, 0, 16⟩
/-- ST_ENDMAX.CLR: writing 1 clears MAX -/
def F.ST_ENDMAX_CLR : Fld := ⟨R.ST_ENDMAX, 31, 1⟩
/-- ST_FLTCNT, R87. -/
def R.ST_FLTCNT : Nat := 0x200650AC
/-- ST_FLTCNT.COUNT: stream faults since reset; saturates at 255 -/
def F.ST_FLTCNT_COUNT : Fld := ⟨R.ST_FLTCNT, 0, 8⟩
/-- EVC_CTL, R163. -/
def R.EVC_CTL : Nat := 0x40030000
/-- EVC_CTL.GEN: global delivery enable, under R147 -/
def F.EVC_CTL_GEN : Fld := ⟨R.EVC_CTL, 0, 1⟩
/-- EVC_STAT, R163. -/
def R.EVC_STAT : Nat := 0x40030004
/-- EVC_STAT.BADDONE: a completion named a source not in service at that target -/
def F.EVC_STAT_BADDONE : Fld := ⟨R.EVC_STAT, 0, 1⟩
/-- EVC_STAT.OVFANY: some COUNTED source saturated -/
def F.EVC_STAT_OVFANY : Fld := ⟨R.EVC_STAT, 1, 1⟩
/-- EVC_STAT.LOSTANY: some SINGLE fire was lost -/
def F.EVC_STAT_LOSTANY : Fld := ⟨R.EVC_STAT, 2, 1⟩
/-- EVC_TGT_CTL_x, R163. -/
def R.EVC_TGT_CTL_x (x : Nat) : Nat := 0x40030010 + 0x4 * x
/-- EVC_TGT_CTL_x.EN: target enable; x = 0 C0, 1 C1, 2 HIRQ_A, 3 HIRQ_B -/
def F.EVC_TGT_CTL_x_EN (x : Nat) : Fld := ⟨R.EVC_TGT_CTL_x x, 0, 1⟩
/-- EVC_TGT_CTL_x.THRESH: priority threshold, under R133 -/
def F.EVC_TGT_CTL_x_THRESH (x : Nat) : Fld := ⟨R.EVC_TGT_CTL_x x, 1, 3⟩
/-- EVC_TGT_MOD_x, R163. -/
def R.EVC_TGT_MOD_x (x : Nat) : Nat := 0x40030020 + 0x4 * x
/-- EVC_TGT_MOD_x.INTERVAL: moderation interval in units of 256 CORE cycles -/
def F.EVC_TGT_MOD_x_INTERVAL (x : Nat) : Fld := ⟨R.EVC_TGT_MOD_x x, 0, 16⟩
/-- EVC_TGT_STAT_x, R163. -/
def R.EVC_TGT_STAT_x (x : Nat) : Nat := 0x40030030 + 0x4 * x
/-- EVC_TGT_STAT_x.NDELIV: sources DELIVERED to the target, 0 to 128 -/
def F.EVC_TGT_STAT_x_NDELIV (x : Nat) : Fld := ⟨R.EVC_TGT_STAT_x x, 0, 8⟩
/-- EVC_TGT_STAT_x.NSVC: sources IN_SERVICE at the target, 0 to 128 -/
def F.EVC_TGT_STAT_x_NSVC (x : Nat) : Fld := ⟨R.EVC_TGT_STAT_x x, 8, 8⟩
/-- EVC_TGT_STAT_x.IDLE: the target is idle under R134 -/
def F.EVC_TGT_STAT_x_IDLE (x : Nat) : Fld := ⟨R.EVC_TGT_STAT_x x, 16, 1⟩
/-- EVC_TGT_STAT_x.HELD: the moderation timer runs -/
def F.EVC_TGT_STAT_x_HELD (x : Nat) : Fld := ⟨R.EVC_TGT_STAT_x x, 17, 1⟩
/-- EVC_CLAIM_x, R163. -/
def R.EVC_CLAIM_x (x : Nat) : Nat := 0x40030040 + 0x4 * x
/-- EVC_CLAIM_x.CLAIM: claim word of R138; a read performs a claim -/
def F.EVC_CLAIM_x_CLAIM (x : Nat) : Fld := ⟨R.EVC_CLAIM_x x, 0, 20⟩
/-- EVC_DONE_x, R163. -/
def R.EVC_DONE_x (x : Nat) : Nat := 0x40030050 + 0x4 * x
/-- EVC_DONE_x.SRC: completion under R139; 128 to 255 reserved -/
def F.EVC_DONE_x_SRC (x : Nat) : Fld := ⟨R.EVC_DONE_x x, 0, 8⟩
/-- EVC_PSETi, R163. -/
def R.EVC_PSETi (i : Nat) : Nat := 0x40030060 + 0x4 * i
/-- EVC_PSETi.PEND: i = 0 to 3; reads 1 for each source 32i + bit that is PENDING or DELIVERED; a 1 written fires it under R145 -/
def F.EVC_PSETi_PEND (i : Nat) : Fld := ⟨R.EVC_PSETi i, 0, 32⟩
/-- EVC_PCLRi, R163. -/
def R.EVC_PCLRi (i : Nat) : Nat := 0x40030070 + 0x4 * i
/-- EVC_PCLRi.PEND: reads as EVC_PSETi; a 1 written withdraws under R146 -/
def F.EVC_PCLRi_PEND (i : Nat) : Fld := ⟨R.EVC_PCLRi i, 0, 32⟩
/-- EVC_WLATCH, R163. -/
def R.EVC_WLATCH : Nat := 0x40030080
/-- EVC_WLATCH.LATCH: wake latches 0 to 8 under R148 -/
def F.EVC_WLATCH_LATCH : Fld := ⟨R.EVC_WLATCH, 0, 9⟩
/-- EVC_WAKE_EN, R163. -/
def R.EVC_WAKE_EN : Nat := 0x40030084
/-- EVC_WAKE_EN.EN: a set latch with its bit at 1 wakes the device; reset enables PRES_GAINED, WAKE_PIN, AON_TIMER, HPA_FRAME and HPB_FRAME -/
def F.EVC_WAKE_EN_EN : Fld := ⟨R.EVC_WAKE_EN, 0, 9⟩
/-- EVC_SRC_n, R163. -/
def R.EVC_SRC_n (n : Nat) : Nat := 0x40030400 + 0x4 * n
/-- EVC_SRC_n.TGT: target set of source n under R133 -/
def F.EVC_SRC_n_TGT (n : Nat) : Fld := ⟨R.EVC_SRC_n n, 0, 4⟩
/-- EVC_SRC_n.PRIO: priority; 0 means never delivered -/
def F.EVC_SRC_n_PRIO (n : Nat) : Fld := ⟨R.EVC_SRC_n n, 4, 3⟩
/-- EVC_SRC_n.MODE: 0 SINGLE, 1 COUNTED; changed only while IDLE, under R144 -/
def F.EVC_SRC_n_MODE (n : Nat) : Fld := ⟨R.EVC_SRC_n n, 8, 1⟩
/-- EVC_SRCSTAT_n, R163. -/
def R.EVC_SRCSTAT_n (n : Nat) : Nat := 0x40030600 + 0x4 * n
/-- EVC_SRCSTAT_n.STATE: 0 IDLE, 1 PENDING, 2 DELIVERED, 3 IN_SERVICE -/
def F.EVC_SRCSTAT_n_STATE (n : Nat) : Fld := ⟨R.EVC_SRCSTAT_n n, 0, 2⟩
/-- EVC_SRCSTAT_n.TARGET: target of the current or last delivery, coded as x -/
def F.EVC_SRCSTAT_n_TARGET (n : Nat) : Fld := ⟨R.EVC_SRCSTAT_n n, 2, 2⟩
/-- EVC_SRCSTAT_n.REPEND: a re-fire waits behind the event in service -/
def F.EVC_SRCSTAT_n_REPEND (n : Nat) : Fld := ⟨R.EVC_SRCSTAT_n n, 4, 1⟩
/-- EVC_SRCSTAT_n.OVF: counter saturated since the last claim -/
def F.EVC_SRCSTAT_n_OVF (n : Nat) : Fld := ⟨R.EVC_SRCSTAT_n n, 5, 1⟩
/-- EVC_SRCSTAT_n.LOST: a SINGLE fire was lost since the last claim -/
def F.EVC_SRCSTAT_n_LOST (n : Nat) : Fld := ⟨R.EVC_SRCSTAT_n n, 6, 1⟩
/-- EVC_SRCSTAT_n.COUNT: fires counted for the outstanding or waiting event -/
def F.EVC_SRCSTAT_n_COUNT (n : Nat) : Fld := ⟨R.EVC_SRCSTAT_n n, 8, 8⟩
/-- CLK_REF_CFG, R202. -/
def R.CLK_REF_CFG : Nat := 0x40010000
/-- CLK_REF_CFG.P0: first priority: 0 XTAL, 1 RING, 2 INPUT -/
def F.CLK_REF_CFG_P0 : Fld := ⟨R.CLK_REF_CFG, 0, 2⟩
/-- CLK_REF_CFG.P1: second priority, coded as P0 -/
def F.CLK_REF_CFG_P1 : Fld := ⟨R.CLK_REF_CFG, 2, 2⟩
/-- CLK_REF_CFG.P2: third priority, coded as P0 -/
def F.CLK_REF_CFG_P2 : Fld := ⟨R.CLK_REF_CFG, 4, 2⟩
/-- CLK_REF_CFG.INSRC: INPUT source: 0 I2S0, 1 I2S1, 2 IEC 60958 receiver -/
def F.CLK_REF_CFG_INSRC : Fld := ⟨R.CLK_REF_CFG, 8, 2⟩
/-- CLK_REF_CFG.INBW: DPLL bandwidth for INPUT: 0 1 Hz, 1 10 Hz, 2 100 Hz -/
def F.CLK_REF_CFG_INBW : Fld := ⟨R.CLK_REF_CFG, 12, 2⟩
/-- CLK_REF_CFG.REVERT: return to a higher entry under R181 -/
def F.CLK_REF_CFG_REVERT : Fld := ⟨R.CLK_REF_CFG, 16, 1⟩
/-- CLK_MON_CFG, R202. -/
def R.CLK_MON_CFG : Nat := 0x40010004
/-- CLK_MON_CFG.WIN: tolerance window in ppm, 20 to 500 -/
def F.CLK_MON_CFG_WIN : Fld := ⟨R.CLK_MON_CFG, 0, 10⟩
/-- CLK_MON_CFG.DWELL: dwell in gates of 100 ms, 1 to 100 -/
def F.CLK_MON_CFG_DWELL : Fld := ⟨R.CLK_MON_CFG, 16, 8⟩
/-- CLK_MON_CFG.RETURN: gates of availability before a revert, 1 to 255 -/
def F.CLK_MON_CFG_RETURN : Fld := ⟨R.CLK_MON_CFG, 24, 8⟩
/-- CLK_STAT, R202. -/
def R.CLK_STAT : Nat := 0x40010008
/-- CLK_STAT.SEL: selected reference, coded as P0; 3 in limp -/
def F.CLK_STAT_SEL : Fld := ⟨R.CLK_STAT, 0, 2⟩
/-- CLK_STAT.MODE: 0 LOCKING, 1 TRACK, 2 HOLDOVER, 3 SLEW, 4 RING_HOLD, 5 ACQUIRE, 6 LIMP; 7 reserved, never read -/
def F.CLK_STAT_MODE : Fld := ⟨R.CLK_STAT, 4, 3⟩
/-- CLK_STAT.LOCKED: analog loop locked -/
def F.CLK_STAT_LOCKED : Fld := ⟨R.CLK_STAT, 8, 1⟩
/-- CLK_STAT.XTAL_OK: crystal detector sees the crystal -/
def F.CLK_STAT_XTAL_OK : Fld := ⟨R.CLK_STAT, 9, 1⟩
/-- CLK_STAT.RTVALID: ring time counts from the PLL -/
def F.CLK_STAT_RTVALID : Fld := ⟨R.CLK_STAT, 10, 1⟩
/-- CLK_STAT.ALIGN_OUT: slave phase error beyond 8 periods, under R185 -/
def F.CLK_STAT_ALIGN_OUT : Fld := ⟨R.CLK_STAT, 11, 1⟩
/-- CLK_STAT.AON_SRC: 0 PLL, 1 LPO -/
def F.CLK_STAT_AON_SRC : Fld := ⟨R.CLK_STAT, 12, 1⟩
/-- CLK_STAT.RING_AV: RING available at the last gate end -/
def F.CLK_STAT_RING_AV : Fld := ⟨R.CLK_STAT, 16, 1⟩
/-- CLK_STAT.IN_AV: INPUT available at the last gate end -/
def F.CLK_STAT_IN_AV : Fld := ⟨R.CLK_STAT, 17, 1⟩
/-- CLK_STAT.DWELL_LEFT: gates left in the dwell; 0 outside HOLDOVER -/
def F.CLK_STAT_DWELL_LEFT : Fld := ⟨R.CLK_STAT, 24, 8⟩
/-- CLK_EVT, R202. -/
def R.CLK_EVT : Nat := 0x4001000C
/-- CLK_EVT.TOL: CLK_REF_TOL occurred -/
def F.CLK_EVT_TOL : Fld := ⟨R.CLK_EVT, 0, 1⟩
/-- CLK_EVT.SWITCH: a switch occurred -/
def F.CLK_EVT_SWITCH : Fld := ⟨R.CLK_EVT, 1, 1⟩
/-- CLK_EVT.UNLOCK: the analog loop unlocked -/
def F.CLK_EVT_UNLOCK : Fld := ⟨R.CLK_EVT, 2, 1⟩
/-- CLK_EVT.XTALFAIL: the crystal detector tripped -/
def F.CLK_EVT_XTALFAIL : Fld := ⟨R.CLK_EVT, 3, 1⟩
/-- CLK_EVT.ALIGN: ALIGN_OUT was set -/
def F.CLK_EVT_ALIGN : Fld := ⟨R.CLK_EVT, 4, 1⟩
/-- CLK_EVT.RTSTEP: a ring-time step occurred -/
def F.CLK_EVT_RTSTEP : Fld := ⟨R.CLK_EVT, 5, 1⟩
/-- CLK_DEV_RING, R202. -/
def R.CLK_DEV_RING : Nat := 0x40010010
/-- CLK_DEV_RING.DEV: signed deviation of RING in 0.1 ppm -/
def F.CLK_DEV_RING_DEV : Fld := ⟨R.CLK_DEV_RING, 0, 16⟩
/-- CLK_DEV_RING.VALID: DEV holds a measurement of the last gate -/
def F.CLK_DEV_RING_VALID : Fld := ⟨R.CLK_DEV_RING, 16, 1⟩
/-- CLK_DEV_IN, R202. -/
def R.CLK_DEV_IN : Nat := 0x40010014
/-- CLK_DEV_IN.DEV: signed deviation of INPUT in 0.1 ppm -/
def F.CLK_DEV_IN_DEV : Fld := ⟨R.CLK_DEV_IN, 0, 16⟩
/-- CLK_DEV_IN.VALID: as CLK_DEV_RING.VALID -/
def F.CLK_DEV_IN_VALID : Fld := ⟨R.CLK_DEV_IN, 16, 1⟩
/-- CLK_TRIM, R202. -/
def R.CLK_TRIM : Nat := 0x40010018
/-- CLK_TRIM.TRIM: signed trim in units of 2⁻³² -/
def F.CLK_TRIM_TRIM : Fld := ⟨R.CLK_TRIM, 0, 32⟩
/-- CLK_HOLD, R202. -/
def R.CLK_HOLD : Nat := 0x4001001C
/-- CLK_HOLD.TRIM: trim frozen at the last holdover -/
def F.CLK_HOLD_TRIM : Fld := ⟨R.CLK_HOLD, 0, 32⟩
/-- CLK_PHASE, R202. -/
def R.CLK_PHASE : Nat := 0x40010020
/-- CLK_PHASE.ERR: signed ring phase error in 1/16 edge-clock period; 0 when not a slave -/
def F.CLK_PHASE_ERR : Fld := ⟨R.CLK_PHASE, 0, 16⟩
/-- CLK_RT_SUB, R202. -/
def R.CLK_RT_SUB : Nat := 0x40010030
/-- CLK_RT_SUB.SUB: sub-frame offset; a read latches FL and FH under R174 -/
def F.CLK_RT_SUB_SUB : Fld := ⟨R.CLK_RT_SUB, 0, 13⟩
/-- CLK_RT_FL, R202. -/
def R.CLK_RT_FL : Nat := 0x40010034
/-- CLK_RT_FL.FRAME: latched frame count [31:0] -/
def F.CLK_RT_FL_FRAME : Fld := ⟨R.CLK_RT_FL, 0, 32⟩
/-- CLK_RT_FH, R202. -/
def R.CLK_RT_FH : Nat := 0x40010038
/-- CLK_RT_FH.FRAME: latched frame count [47:32] -/
def F.CLK_RT_FH_FRAME : Fld := ⟨R.CLK_RT_FH, 0, 16⟩
/-- CLK_AON_CNT, R202. -/
def R.CLK_AON_CNT : Nat := 0x40010040
/-- CLK_AON_CNT.COUNT: AON cycle counter under R188 -/
def F.CLK_AON_CNT_COUNT : Fld := ⟨R.CLK_AON_CNT, 0, 32⟩
/-- CLK_AON_CMP, R202. -/
def R.CLK_AON_CMP : Nat := 0x40010044
/-- CLK_AON_CMP.VALUE: compare value; 0 reserved -/
def F.CLK_AON_CMP_VALUE : Fld := ⟨R.CLK_AON_CMP, 0, 32⟩
/-- CLK_AON_CTL, R202. -/
def R.CLK_AON_CTL : Nat := 0x40010048
/-- CLK_AON_CTL.EN: AON_TIMER enable -/
def F.CLK_AON_CTL_EN : Fld := ⟨R.CLK_AON_CTL, 0, 1⟩
/-- CLK_AON_CTL.PERIODIC: restart from 0 at each match -/
def F.CLK_AON_CTL_PERIODIC : Fld := ⟨R.CLK_AON_CTL, 1, 1⟩
/-- CLK_LPO_CAL, R202. -/
def R.CLK_LPO_CAL : Nat := 0x4001004C
/-- CLK_LPO_CAL.FREQ: measured LPO frequency in 0.1 Hz -/
def F.CLK_LPO_CAL_FREQ : Fld := ⟨R.CLK_LPO_CAL, 0, 20⟩
/-- CLK_LPO_CAL.VALID: FREQ holds a measurement -/
def F.CLK_LPO_CAL_VALID : Fld := ⟨R.CLK_LPO_CAL, 31, 1⟩
/-- SYS_ID, R243. -/
def R.SYS_ID : Nat := 0x40000000
/-- SYS_ID.REV: 0x0 B0, 0x1 B1; other values never read -/
def F.SYS_ID_REV : Fld := ⟨R.SYS_ID, 0, 4⟩
/-- SYS_ID.PART: part number -/
def F.SYS_ID_PART : Fld := ⟨R.SYS_ID, 16, 16⟩
/-- SYS_STRAP, R243. -/
def R.SYS_STRAP : Nat := 0x40000004
/-- SYS_STRAP.MASTER_EN: MASTER_EN sampled at R212 step 6 -/
def F.SYS_STRAP_MASTER_EN : Fld := ⟨R.SYS_STRAP, 0, 1⟩
/-- SYS_STRAP.HPB_MODE: 0 SPI, 1 I²C -/
def F.SYS_STRAP_HPB_MODE : Fld := ⟨R.SYS_STRAP, 1, 1⟩
/-- SYS_STRAP.HPB_ADDR: I²C address, decoded as *Packages, balls and pin states* describes -/
def F.SYS_STRAP_HPB_ADDR : Fld := ⟨R.SYS_STRAP, 2, 7⟩
/-- SYS_RST_CAUSE, R243. -/
def R.SYS_RST_CAUSE : Nat := 0x40000008
/-- SYS_RST_CAUSE.POWER_ON: causes of R216 since last cleared -/
def F.SYS_RST_CAUSE_POWER_ON : Fld := ⟨R.SYS_RST_CAUSE, 0, 1⟩
/-- SYS_RST_CAUSE.SUPPLY: as above -/
def F.SYS_RST_CAUSE_SUPPLY : Fld := ⟨R.SYS_RST_CAUSE, 1, 1⟩
/-- SYS_RST_CAUSE.RST_PIN: as above -/
def F.SYS_RST_CAUSE_RST_PIN : Fld := ⟨R.SYS_RST_CAUSE, 2, 1⟩
/-- SYS_RST_CAUSE.WATCHDOG: as above -/
def F.SYS_RST_CAUSE_WATCHDOG : Fld := ⟨R.SYS_RST_CAUSE, 3, 1⟩
/-- SYS_RST_CAUSE.SOFTWARE: as above -/
def F.SYS_RST_CAUSE_SOFTWARE : Fld := ⟨R.SYS_RST_CAUSE, 4, 1⟩
/-- SYS_RST_CAUSE.ICE_WAKE: as above -/
def F.SYS_RST_CAUSE_ICE_WAKE : Fld := ⟨R.SYS_RST_CAUSE, 5, 1⟩
/-- SYS_RST_REQ, R243. -/
def R.SYS_RST_REQ : Nat := 0x4000000C
/-- SYS_RST_REQ.KEY: 0xA5C3 performs the SOFTWARE reset; other values reserved; host needs MAINT -/
def F.SYS_RST_REQ_KEY : Fld := ⟨R.SYS_RST_REQ, 0, 16⟩
/-- SYS_CORE_RST, R243. -/
def R.SYS_CORE_RST : Nat := 0x40000010
/-- SYS_CORE_RST.C0: reset C0 under R217 -/
def F.SYS_CORE_RST_C0 : Fld := ⟨R.SYS_CORE_RST, 0, 1⟩
/-- SYS_CORE_RST.C1: reset C1 under R217 -/
def F.SYS_CORE_RST_C1 : Fld := ⟨R.SYS_CORE_RST, 1, 1⟩
/-- SYS_CORE_RST.KEY: must be 0x3C -/
def F.SYS_CORE_RST_KEY : Fld := ⟨R.SYS_CORE_RST, 8, 8⟩
/-- SYS_REJECT_ADDR, R243. -/
def R.SYS_REJECT_ADDR : Nat := 0x40000014
/-- SYS_REJECT_ADDR.ADDR: first rejected address under R17; a read clears it and SYS_REJECT_CNT -/
def F.SYS_REJECT_ADDR_ADDR : Fld := ⟨R.SYS_REJECT_ADDR, 0, 32⟩
/-- SYS_REJECT_CNT, R243. -/
def R.SYS_REJECT_CNT : Nat := 0x40000018
/-- SYS_REJECT_CNT.COUNT: further rejections, saturating at 255 -/
def F.SYS_REJECT_CNT_COUNT : Fld := ⟨R.SYS_REJECT_CNT, 0, 8⟩
/-- SYS_WDOG_CTL, R243. -/
def R.SYS_WDOG_CTL : Nat := 0x40000020
/-- SYS_WDOG_CTL.EN: watchdog running under R231 -/
def F.SYS_WDOG_CTL_EN : Fld := ⟨R.SYS_WDOG_CTL, 0, 1⟩
/-- SYS_WDOG_CTL.TIMEOUT: units of 32 AON cycles (976.6 µs), 1 to 1,023; 102 is 99.61 ms -/
def F.SYS_WDOG_CTL_TIMEOUT : Fld := ⟨R.SYS_WDOG_CTL, 16, 10⟩
/-- SYS_WDOG_KICK, R243. -/
def R.SYS_WDOG_KICK : Nat := 0x40000024
/-- SYS_WDOG_KICK.KEY: 0xC35A kicks -/
def F.SYS_WDOG_KICK_KEY : Fld := ⟨R.SYS_WDOG_KICK, 0, 16⟩
/-- SYS_WDOG_STAT, R243. -/
def R.SYS_WDOG_STAT : Nat := 0x40000028
/-- SYS_WDOG_STAT.WARNED: the warning of R231 occurred -/
def F.SYS_WDOG_STAT_WARNED : Fld := ⟨R.SYS_WDOG_STAT, 0, 1⟩
/-- PWR_STAT, R243. -/
def R.PWR_STAT : Nat := 0x40020000
/-- PWR_STAT.STATE: 0 ICE (never read), 1 STILL, 2 READY, 3 PLAY, 4 SAFE; 5 to 7 reserved, never read -/
def F.PWR_STAT_STATE : Fld := ⟨R.PWR_STAT, 0, 3⟩
/-- PWR_STAT.PHASE: 0 STEADY, 1 PRESTART, 2 BOOTSTRAP, 3 RAMP_IN, 4 RAMP_OUT, 5 CLOSE; 6 and 7 reserved, never read -/
def F.PWR_STAT_PHASE : Fld := ⟨R.PWR_STAT, 4, 3⟩
/-- PWR_STAT.MAIN: 0 OPEN, 1 PRECHARGING, 2 CLOSED; 3 reserved, never read -/
def F.PWR_STAT_MAIN : Fld := ⟨R.PWR_STAT, 8, 2⟩
/-- PWR_STAT.PRES: debounced presence under R221 -/
def F.PWR_STAT_PRES : Fld := ⟨R.PWR_STAT, 12, 1⟩
/-- PWR_STAT.PRES_RAW: PRES_N low now -/
def F.PWR_STAT_PRES_RAW : Fld := ⟨R.PWR_STAT, 13, 1⟩
/-- PWR_STAT.DRV_OK: PG_AUX3 high and VDRV above lockout -/
def F.PWR_STAT_DRV_OK : Fld := ⟨R.PWR_STAT, 14, 1⟩
/-- PWR_CMD, R243. -/
def R.PWR_CMD : Nat := 0x40020004
/-- PWR_CMD.REQ: request code of R208 -/
def F.PWR_CMD_REQ : Fld := ⟨R.PWR_CMD, 0, 4⟩
/-- PWR_CMD_STAT, R243. -/
def R.PWR_CMD_STAT : Nat := 0x40020008
/-- PWR_CMD_STAT.REQ: last request code -/
def F.PWR_CMD_STAT_REQ : Fld := ⟨R.PWR_CMD_STAT, 0, 4⟩
/-- PWR_CMD_STAT.RESULT: 0 NONE, 1 ACCEPTED, 2 DONE, 3 REFUSED -/
def F.PWR_CMD_STAT_RESULT : Fld := ⟨R.PWR_CMD_STAT, 4, 2⟩
/-- PWR_CMD_STAT.REASON: 0 NONE, 1 BUSY, 2 STATE, 3 FAULT, 4 PRESENCE, 5 MAIN, 6 DIAG, 7 SUPPLY, 8 RIGHTS, 9 CORE; 10 to 15 reserved, never written -/
def F.PWR_CMD_STAT_REASON : Fld := ⟨R.PWR_CMD_STAT, 8, 4⟩
/-- PWR_CTL, R243. -/
def R.PWR_CTL : Nat := 0x4002000C
/-- PWR_CTL.AUTO_MAIN: precharge on presence under R219 -/
def F.PWR_CTL_AUTO_MAIN : Fld := ⟨R.PWR_CTL, 0, 1⟩
/-- PWR_CTL.MAIN_HOLD: keep EN_MAIN high in STILL -/
def F.PWR_CTL_MAIN_HOLD : Fld := ⟨R.PWR_CTL, 1, 1⟩
/-- PWR_CTL.OPEN_ON_FAULT: every fault opens EN_MAIN -/
def F.PWR_CTL_OPEN_ON_FAULT : Fld := ⟨R.PWR_CTL, 2, 1⟩
/-- PWR_FAULT, R243. -/
def R.PWR_FAULT : Nat := 0x40020010
/-- PWR_FAULT.PRES_LOST: under R228 -/
def F.PWR_FAULT_PRES_LOST : Fld := ⟨R.PWR_FAULT, 0, 1⟩
/-- PWR_FAULT.BROWNOUT: under R228 -/
def F.PWR_FAULT_BROWNOUT : Fld := ⟨R.PWR_FAULT, 1, 1⟩
/-- PWR_FAULT.PCHG_TIMEOUT: under R228 -/
def F.PWR_FAULT_PCHG_TIMEOUT : Fld := ⟨R.PWR_FAULT, 2, 1⟩
/-- PWR_FAULT.DRV_SUPPLY: under R228 -/
def F.PWR_FAULT_DRV_SUPPLY : Fld := ⟨R.PWR_FAULT, 3, 1⟩
/-- PWR_FAULT.CORE_HALT_C0: under R228 -/
def F.PWR_FAULT_CORE_HALT_C0 : Fld := ⟨R.PWR_FAULT, 4, 1⟩
/-- PWR_FAULT.CORE_HALT_C1: under R228 -/
def F.PWR_FAULT_CORE_HALT_C1 : Fld := ⟨R.PWR_FAULT, 5, 1⟩
/-- PWR_FAULT.PLL_UNLOCK: under R228 -/
def F.PWR_FAULT_PLL_UNLOCK : Fld := ⟨R.PWR_FAULT, 6, 1⟩
/-- PWR_FAULT.DIE_TEMP: under R228 -/
def F.PWR_FAULT_DIE_TEMP : Fld := ⟨R.PWR_FAULT, 7, 1⟩
/-- PWR_FAULT.REQUEST: under R228 -/
def F.PWR_FAULT_REQUEST : Fld := ⟨R.PWR_FAULT, 8, 1⟩
/-- PWR_FAULT.STAGE: summary under R228 -/
def F.PWR_FAULT_STAGE : Fld := ⟨R.PWR_FAULT, 9, 1⟩
/-- PWR_FAULT.SYSTEM: summary under R228 -/
def F.PWR_FAULT_SYSTEM : Fld := ⟨R.PWR_FAULT, 10, 1⟩
/-- PWR_FAULT_FIRST, R243. -/
def R.PWR_FAULT_FIRST : Nat := 0x40020014
/-- PWR_FAULT_FIRST.BIT: PWR_FAULT bit that caused the current SAFE entry -/
def F.PWR_FAULT_FIRST_BIT : Fld := ⟨R.PWR_FAULT_FIRST, 0, 4⟩
/-- PWR_SEQ, R243. -/
def R.PWR_SEQ : Nat := 0x40020018
/-- PWR_SEQ.GAP: AON cycles between sequence steps -/
def F.PWR_SEQ_GAP : Fld := ⟨R.PWR_SEQ, 0, 8⟩
/-- PWR_SEQ.PGTO: power-good timeout, units of 32 AON cycles (976.6 µs), 3 to 255 -/
def F.PWR_SEQ_PGTO : Fld := ⟨R.PWR_SEQ, 8, 8⟩
/-- PWR_SEQ.RETRY: attempts under R215, 0 to 3 -/
def F.PWR_SEQ_RETRY : Fld := ⟨R.PWR_SEQ, 16, 2⟩
/-- PWR_SEQ_STAT, R243. -/
def R.PWR_SEQ_STAT : Nat := 0x4002001C
/-- PWR_SEQ_STAT.FAIL_AUX: bit n − 1 set when PG_AUXn timed out -/
def F.PWR_SEQ_STAT_FAIL_AUX : Fld := ⟨R.PWR_SEQ_STAT, 0, 3⟩
/-- PWR_SEQ_STAT.TRIES: failed attempts in the current series, 0 to 4 (R215) -/
def F.PWR_SEQ_STAT_TRIES : Fld := ⟨R.PWR_SEQ_STAT, 4, 3⟩
/-- PWR_SEQ_STAT.SEQ_FAIL: RETRY exhausted -/
def F.PWR_SEQ_STAT_SEQ_FAIL : Fld := ⟨R.PWR_SEQ_STAT, 8, 1⟩
/-- PWR_PCHG, R243. -/
def R.PWR_PCHG : Nat := 0x40020020
/-- PWR_PCHG.TIMEOUT: units of 10 ms, 1 to 255 -/
def F.PWR_PCHG_TIMEOUT : Fld := ⟨R.PWR_PCHG, 0, 8⟩
/-- PWR_PCHG.SETTLE: blocks above threshold, 1 to 255 -/
def F.PWR_PCHG_SETTLE : Fld := ⟨R.PWR_PCHG, 8, 8⟩
/-- PWR_PCHG.OVERLAP: blocks of PCHG after EN_MAIN, 1 to 255 -/
def F.PWR_PCHG_OVERLAP : Fld := ⟨R.PWR_PCHG, 16, 8⟩
/-- PWR_PRES, R243. -/
def R.PWR_PRES : Nat := 0x40020024
/-- PWR_PRES.DEB: units of 32 AON cycles (976.6 µs), 1 to 255 -/
def F.PWR_PRES_DEB : Fld := ⟨R.PWR_PRES, 0, 8⟩
/-- PWR_BO, R243. -/
def R.PWR_BO : Nat := 0x40020028
/-- PWR_BO.WARN: warning level in 0.5 V, 45 to 120 (22.5 V to 60.0 V) -/
def F.PWR_BO_WARN : Fld := ⟨R.PWR_BO, 0, 8⟩
/-- PWR_VMON, R243. -/
def R.PWR_VMON : Nat := 0x4002002C
/-- PWR_VMON.VSTK: VSTK pin in 0.5 V -/
def F.PWR_VMON_VSTK : Fld := ⟨R.PWR_VMON, 0, 9⟩
/-- PWR_VMON.BO_WARN: below the warning level -/
def F.PWR_VMON_BO_WARN : Fld := ⟨R.PWR_VMON, 16, 1⟩
/-- PWR_VMON.BO_TRIP: below the trip level -/
def F.PWR_VMON_BO_TRIP : Fld := ⟨R.PWR_VMON, 17, 1⟩
/-- PWR_TEMP, R243. -/
def R.PWR_TEMP : Nat := 0x40020030
/-- PWR_TEMP.WARN: die warning in °C, 85 to 140 -/
def F.PWR_TEMP_WARN : Fld := ⟨R.PWR_TEMP, 0, 8⟩
/-- PWR_TEMP.DIE: signed 16-bit die temperature in °C, from the auxiliary converter; reads every value from −40 °C to beyond the DIE_TEMP trip of 150 °C -/
def F.PWR_TEMP_DIE : Fld := ⟨R.PWR_TEMP, 16, 16⟩
/-- INP_PORTp_CFG, R286. -/
def R.INP_PORTp_CFG (p : Nat) : Nat := 0x40060000 + 0x4 * p
/-- INP_PORTp_CFG.EN: port enabled -/
def F.INP_PORTp_CFG_EN (p : Nat) : Fld := ⟨R.INP_PORTp_CFG p, 0, 1⟩
/-- INP_PORTp_CFG.MASTER: 0 slave, 1 master -/
def F.INP_PORTp_CFG_MASTER (p : Nat) : Fld := ⟨R.INP_PORTp_CFG p, 1, 1⟩
/-- INP_PORTp_CFG.FORMAT: 0 I²S, 1 left-justified, 2 TDM with one-BCLK delay, 3 TDM with no delay -/
def F.INP_PORTp_CFG_FORMAT (p : Nat) : Fld := ⟨R.INP_PORTp_CFG p, 2, 3⟩
/-- INP_PORTp_CFG.WIDTH: slot width: 0 16, 1 24, 2 32 -/
def F.INP_PORTp_CFG_WIDTH (p : Nat) : Fld := ⟨R.INP_PORTp_CFG p, 5, 2⟩
/-- INP_PORTp_CFG.SLOTS: slots per frame minus 1 -/
def F.INP_PORTp_CFG_SLOTS (p : Nat) : Fld := ⟨R.INP_PORTp_CFG p, 8, 4⟩
/-- INP_PORTp_CFG.EDGE: 0 sample on rising BCLK, 1 on falling -/
def F.INP_PORTp_CFG_EDGE (p : Nat) : Fld := ⟨R.INP_PORTp_CFG p, 12, 1⟩
/-- INP_PORTp_CFG.FSINV: TDM frame starts at the falling FS edge -/
def F.INP_PORTp_CFG_FSINV (p : Nat) : Fld := ⟨R.INP_PORTp_CFG p, 13, 1⟩
/-- INP_PORTp_CFG.MRATE: master rate: 0 8 kHz, 1 16 kHz, 2 24 kHz, 3 32 kHz, 4 48 kHz, 5 96 kHz, 6 192 kHz -/
def F.INP_PORTp_CFG_MRATE (p : Nat) : Fld := ⟨R.INP_PORTp_CFG p, 16, 3⟩
/-- INP_IEC_CFG, R286. -/
def R.INP_IEC_CFG : Nat := 0x40060008
/-- INP_IEC_CFG.EN: receiver enabled -/
def F.INP_IEC_CFG_EN : Fld := ⟨R.INP_IEC_CFG, 0, 1⟩
/-- INP_IEC_CFG.VFRAMES: frames with validity set before mute, 1 to 15 -/
def F.INP_IEC_CFG_VFRAMES : Fld := ⟨R.INP_IEC_CFG, 8, 4⟩
/-- INP_IRC_CFG, R286. -/
def R.INP_IRC_CFG : Nat := 0x4006000C
/-- INP_IRC_CFG.BW: loop bandwidth: 0 0.5 Hz, 1 2 Hz, 2 8 Hz -/
def F.INP_IRC_CFG_BW : Fld := ⟨R.INP_IRC_CFG, 0, 2⟩
/-- INP_IRC_CFG.RCHG: ratio change in ppm that raises IRC_RATIO_CHANGE, 1 to 255 -/
def F.INP_IRC_CFG_RCHG : Fld := ⟨R.INP_IRC_CFG, 8, 8⟩
/-- INP_STAT, R286. -/
def R.INP_STAT : Nat := 0x40060010
/-- INP_STAT.LOCK: bit g: group g locked -/
def F.INP_STAT_LOCK : Fld := ⟨R.INP_STAT, 0, 3⟩
/-- INP_STAT.SETTLED: bit g: group g settled under R259 -/
def F.INP_STAT_SETTLED : Fld := ⟨R.INP_STAT, 4, 3⟩
/-- INP_STAT.OVERLOAD: lanes unserved under R256 -/
def F.INP_STAT_OVERLOAD : Fld := ⟨R.INP_STAT, 8, 1⟩
/-- INP_STAT.RATE0: rate code of R257 for group 0 -/
def F.INP_STAT_RATE0 : Fld := ⟨R.INP_STAT, 16, 4⟩
/-- INP_STAT.RATE1: as RATE0, group 1 -/
def F.INP_STAT_RATE1 : Fld := ⟨R.INP_STAT, 20, 4⟩
/-- INP_STAT.RATE2: as RATE0, group 2 -/
def F.INP_STAT_RATE2 : Fld := ⟨R.INP_STAT, 24, 4⟩
/-- INP_EVT, R286. -/
def R.INP_EVT : Nat := 0x40060014
/-- INP_EVT.LOCK: bit g: group g locked -/
def F.INP_EVT_LOCK : Fld := ⟨R.INP_EVT, 0, 3⟩
/-- INP_EVT.UNL: bit g: group g unlocked -/
def F.INP_EVT_UNL : Fld := ⟨R.INP_EVT, 4, 3⟩
/-- INP_EVT.SLIP: bit g: group g slipped -/
def F.INP_EVT_SLIP : Fld := ⟨R.INP_EVT, 8, 3⟩
/-- INP_EVT.CS_NEW: new channel status captured -/
def F.INP_EVT_CS_NEW : Fld := ⟨R.INP_EVT, 12, 1⟩
/-- INP_EVT.OVERLOAD: OVERLOAD was set -/
def F.INP_EVT_OVERLOAD : Fld := ⟨R.INP_EVT, 13, 1⟩
/-- INP_UNLOCK_WHY, R286. -/
def R.INP_UNLOCK_WHY : Nat := 0x40060018
/-- INP_UNLOCK_WHY.WHY0: last unlock of group g: 0 NONE, 1 NO_CLOCK, 2 FRAME, 3 RATE, 4 CODING, 5 PARITY, 6 DISABLED; 7 reserved, never written -/
def F.INP_UNLOCK_WHY_WHY0 : Fld := ⟨R.INP_UNLOCK_WHY, 0, 3⟩
/-- INP_UNLOCK_WHY.WHY1: last unlock of group g: 0 NONE, 1 NO_CLOCK, 2 FRAME, 3 RATE, 4 CODING, 5 PARITY, 6 DISABLED; 7 reserved, never written -/
def F.INP_UNLOCK_WHY_WHY1 : Fld := ⟨R.INP_UNLOCK_WHY, 4, 3⟩
/-- INP_UNLOCK_WHY.WHY2: last unlock of group g: 0 NONE, 1 NO_CLOCK, 2 FRAME, 3 RATE, 4 CODING, 5 PARITY, 6 DISABLED; 7 reserved, never written -/
def F.INP_UNLOCK_WHY_WHY2 : Fld := ⟨R.INP_UNLOCK_WHY, 8, 3⟩
/-- INP_IEC_STAT, R286. -/
def R.INP_IEC_STAT : Nat := 0x4006001C
/-- INP_IEC_STAT.PRO: captured channel-status bit 0 -/
def F.INP_IEC_STAT_PRO : Fld := ⟨R.INP_IEC_STAT, 0, 1⟩
/-- INP_IEC_STAT.NONAUDIO: captured channel-status bit 1 -/
def F.INP_IEC_STAT_NONAUDIO : Fld := ⟨R.INP_IEC_STAT, 1, 1⟩
/-- INP_IEC_STAT.VMUTE: muted by the validity condition -/
def F.INP_IEC_STAT_VMUTE : Fld := ⟨R.INP_IEC_STAT, 2, 1⟩
/-- INP_IEC_STAT.MUTED: receiver muted under R251 -/
def F.INP_IEC_STAT_MUTED : Fld := ⟨R.INP_IEC_STAT, 3, 1⟩
/-- INP_IEC_STAT.PCLR: writing 1 clears PARITY -/
def F.INP_IEC_STAT_PCLR : Fld := ⟨R.INP_IEC_STAT, 15, 1⟩
/-- INP_IEC_STAT.PARITY: parity errors, saturating at 65,535 -/
def F.INP_IEC_STAT_PARITY : Fld := ⟨R.INP_IEC_STAT, 16, 16⟩
/-- INP_RATIO_g, R286. -/
def R.INP_RATIO_g (g : Nat) : Nat := 0x40060020 + 0x4 * g
/-- INP_RATIO_g.DEV: signed ratio deviation in 0.001 ppm -/
def F.INP_RATIO_g_DEV (g : Nat) : Fld := ⟨R.INP_RATIO_g g, 0, 32⟩
/-- INP_SLIPCNT, R286. -/
def R.INP_SLIPCNT : Nat := 0x4006002C
/-- INP_SLIPCNT.COUNT: bits [8g + 7:8g]: slips of group g, saturating at 255 -/
def F.INP_SLIPCNT_COUNT : Fld := ⟨R.INP_SLIPCNT, 0, 24⟩
/-- INP_SLIPCNT.CLR: writing 1 clears COUNT -/
def F.INP_SLIPCNT_CLR : Fld := ⟨R.INP_SLIPCNT, 31, 1⟩
/-- INP_CS_A_i, R286. -/
def R.INP_CS_A_i (i : Nat) : Nat := 0x40060040 + 0x4 * i
/-- INP_CS_A_i.BITS: i = 0 to 5; channel status of channel A under R250 -/
def F.INP_CS_A_i_BITS (i : Nat) : Fld := ⟨R.INP_CS_A_i i, 0, 32⟩
/-- INP_CS_B_i, R286. -/
def R.INP_CS_B_i (i : Nat) : Nat := 0x40060060 + 0x4 * i
/-- INP_CS_B_i.BITS: i = 0 to 5; channel status of channel B -/
def F.INP_CS_B_i_BITS (i : Nat) : Fld := ⟨R.INP_CS_B_i i, 0, 32⟩
/-- INP_LANE_n, R286. -/
def R.INP_LANE_n (n : Nat) : Nat := 0x40060100 + 0x4 * n
/-- INP_LANE_n.SRC: n = 0 to 31; source under R252 -/
def F.INP_LANE_n_SRC (n : Nat) : Fld := ⟨R.INP_LANE_n n, 0, 3⟩
/-- INP_LANE_n.SLOT: slot or channel under R252 -/
def F.INP_LANE_n_SLOT (n : Nat) : Fld := ⟨R.INP_LANE_n n, 8, 7⟩
/-- FEN_STAT, R287. -/
def R.FEN_STAT : Nat := 0x40070000
/-- FEN_STAT.SETTLED: bit n: stage 7 of lane n settled -/
def F.FEN_STAT_SETTLED : Fld := ⟨R.FEN_STAT, 0, 10⟩
/-- FEN_STAT.ALL: all lanes settled under R268 -/
def F.FEN_STAT_ALL : Fld := ⟨R.FEN_STAT, 16, 1⟩
/-- FEN_EVT, R287. -/
def R.FEN_EVT : Nat := 0x40070004
/-- FEN_EVT.SETTLED: FEN_SETTLED occurred -/
def F.FEN_EVT_SETTLED : Fld := ⟨R.FEN_EVT, 0, 1⟩
/-- FEN_EVT.SAT: some lane saturated -/
def F.FEN_EVT_SAT : Fld := ⟨R.FEN_EVT, 1, 1⟩
/-- FEN_EVT.ECC: an error of R281 occurred -/
def F.FEN_EVT_ECC : Fld := ⟨R.FEN_EVT, 2, 1⟩
/-- FEN_LANE_n, R287. -/
def R.FEN_LANE_n (n : Nat) : Nat := 0x40070010 + 0x4 * n
/-- FEN_LANE_n.PROF: stages 1 to 4: 0 SHARP, 1 FAST -/
def F.FEN_LANE_n_PROF (n : Nat) : Fld := ⟨R.FEN_LANE_n n, 0, 1⟩
/-- FEN_LANE_n.SHIFT_S1: j = 1 to 7: left shift after stage j, 0 to 7 bits -/
def F.FEN_LANE_n_SHIFT_S1 (n : Nat) : Fld := ⟨R.FEN_LANE_n n, 4, 3⟩
/-- FEN_LANE_n.SHIFT_S2: j = 1 to 7: left shift after stage j, 0 to 7 bits -/
def F.FEN_LANE_n_SHIFT_S2 (n : Nat) : Fld := ⟨R.FEN_LANE_n n, 8, 3⟩
/-- FEN_LANE_n.SHIFT_S3: j = 1 to 7: left shift after stage j, 0 to 7 bits -/
def F.FEN_LANE_n_SHIFT_S3 (n : Nat) : Fld := ⟨R.FEN_LANE_n n, 12, 3⟩
/-- FEN_LANE_n.SHIFT_S4: j = 1 to 7: left shift after stage j, 0 to 7 bits -/
def F.FEN_LANE_n_SHIFT_S4 (n : Nat) : Fld := ⟨R.FEN_LANE_n n, 16, 3⟩
/-- FEN_LANE_n.SHIFT_S5: j = 1 to 7: left shift after stage j, 0 to 7 bits -/
def F.FEN_LANE_n_SHIFT_S5 (n : Nat) : Fld := ⟨R.FEN_LANE_n n, 20, 3⟩
/-- FEN_LANE_n.SHIFT_S6: j = 1 to 7: left shift after stage j, 0 to 7 bits -/
def F.FEN_LANE_n_SHIFT_S6 (n : Nat) : Fld := ⟨R.FEN_LANE_n n, 24, 3⟩
/-- FEN_LANE_n.SHIFT_S7: j = 1 to 7: left shift after stage j, 0 to 7 bits -/
def F.FEN_LANE_n_SHIFT_S7 (n : Nat) : Fld := ⟨R.FEN_LANE_n n, 28, 3⟩
/-- FEN_SAT_n, R287. -/
def R.FEN_SAT_n (n : Nat) : Nat := 0x40070040 + 0x4 * n
/-- FEN_SAT_n.COUNT: saturated samples, saturating at 65,535 -/
def F.FEN_SAT_n_COUNT (n : Nat) : Fld := ⟨R.FEN_SAT_n n, 0, 16⟩
/-- FEN_SAT_n.STAGES: bit j − 1: stage j saturated -/
def F.FEN_SAT_n_STAGES (n : Nat) : Fld := ⟨R.FEN_SAT_n n, 16, 7⟩
/-- FEN_SAT_n.CLR: writing 1 clears COUNT and STAGES -/
def F.FEN_SAT_n_CLR (n : Nat) : Fld := ⟨R.FEN_SAT_n n, 31, 1⟩
/-- FEN_SATMASK, R287. -/
def R.FEN_SATMASK : Nat := 0x40070080
/-- FEN_SATMASK.LANES: bit n: lane n saturated -/
def F.FEN_SATMASK_LANES : Fld := ⟨R.FEN_SATMASK, 0, 10⟩
/-- FEN_RSH_n, R287. -/
def R.FEN_RSH_n (n : Nat) : Nat := 0x40070090 + 0x4 * (n - 4)
/-- FEN_RSH_n.RSH: n = 4 to 7: shunt of current lane n in µΩ, 100 to 1,000,000, under R802 -/
def F.FEN_RSH_n_RSH (n : Nat) : Fld := ⟨R.FEN_RSH_n n, 0, 20⟩
/-- FEN_RSH_STK, R287. -/
def R.FEN_RSH_STK : Nat := 0x400700A0
/-- FEN_RSH_STK.RSH: shunt of lane 9 in µΩ, 100 to 1,000,000, under R802 -/
def F.FEN_RSH_STK_RSH : Fld := ⟨R.FEN_RSH_STK, 0, 20⟩
/-- FEN_CAP_CTL, R287. -/
def R.FEN_CAP_CTL : Nat := 0x400700C0
/-- FEN_CAP_CTL.LANE: lane to capture -/
def F.FEN_CAP_CTL_LANE : Fld := ⟨R.FEN_CAP_CTL, 0, 4⟩
/-- FEN_CAP_CTL.STAGE: stage to capture, 1 to 7 -/
def F.FEN_CAP_CTL_STAGE : Fld := ⟨R.FEN_CAP_CTL, 4, 3⟩
/-- FEN_CAP_CTL.TRIG: 0 next output, 1 after next block boundary -/
def F.FEN_CAP_CTL_TRIG : Fld := ⟨R.FEN_CAP_CTL, 8, 2⟩
/-- FEN_CAP_CTL.START: arm a capture under R269 -/
def F.FEN_CAP_CTL_START : Fld := ⟨R.FEN_CAP_CTL, 16, 1⟩
/-- FEN_CAP_CTL.BUSY: capture armed or running -/
def F.FEN_CAP_CTL_BUSY : Fld := ⟨R.FEN_CAP_CTL, 17, 1⟩
/-- FEN_CAP_CTL.DONE: capture complete -/
def F.FEN_CAP_CTL_DONE : Fld := ⟨R.FEN_CAP_CTL, 18, 1⟩
/-- FEN_CAP_FL, R287. -/
def R.FEN_CAP_FL : Nat := 0x400700C4
/-- FEN_CAP_FL.FRAME: ring-time frame count [31:0] of the first captured sample -/
def F.FEN_CAP_FL_FRAME : Fld := ⟨R.FEN_CAP_FL, 0, 32⟩
/-- FEN_CAP_SUB, R287. -/
def R.FEN_CAP_SUB : Nat := 0x400700C8
/-- FEN_CAP_SUB.SUB: ring-time sub-frame offset of the first captured sample -/
def F.FEN_CAP_SUB_SUB : Fld := ⟨R.FEN_CAP_SUB, 0, 13⟩
/-- FEN_CAP_DATA_m, R287. -/
def R.FEN_CAP_DATA_m (m : Nat) : Nat := 0x40071000 + 0x4 * m
/-- FEN_CAP_DATA_m.SAMPLE: m = 0 to 255; captured sample in Q1.31 -/
def F.FEN_CAP_DATA_m_SAMPLE (m : Nat) : Fld := ⟨R.FEN_CAP_DATA_m m, 0, 32⟩
/-- MOD_CFG, R336. -/
def R.MOD_CFG : Nat := 0x40080000
/-- MOD_CFG.CARRIER: carrier under R289 -/
def F.MOD_CFG_CARRIER : Fld := ⟨R.MOD_CFG, 0, 2⟩
/-- MOD_CFG.SCHEME: 0 AD, 1 BD -/
def F.MOD_CFG_SCHEME : Fld := ⟨R.MOD_CFG, 4, 1⟩
/-- MOD_CFG.MODE: 0 BTL4, 1 PBTL2 -/
def F.MOD_CFG_MODE : Fld := ⟨R.MOD_CFG, 8, 1⟩
/-- MOD_CTL, R336. -/
def R.MOD_CTL : Nat := 0x40080004
/-- MOD_CTL.CH_EN: bit n − 1: channel n modulates in PLAY; a cleared channel holds its safe levels; bits 2 and 3 have no effect in PBTL2 -/
def F.MOD_CTL_CH_EN : Fld := ⟨R.MOD_CTL, 0, 4⟩
/-- MOD_STAT, R336. -/
def R.MOD_STAT : Nat := 0x40080008
/-- MOD_STAT.RUN: bit n − 1: channel n modulating -/
def F.MOD_STAT_RUN : Fld := ⟨R.MOD_STAT, 0, 4⟩
/-- MOD_STAT.FROZEN: frozen by a debug halt under R316 -/
def F.MOD_STAT_FROZEN : Fld := ⟨R.MOD_STAT, 8, 1⟩
/-- MOD_STAT.RFF_HELD: factor held under R299 -/
def F.MOD_STAT_RFF_HELD : Fld := ⟨R.MOD_STAT, 9, 1⟩
/-- MOD_STAT.RFF_NONE: minimum factor in use under R299 -/
def F.MOD_STAT_RFF_NONE : Fld := ⟨R.MOD_STAT, 10, 1⟩
/-- MOD_EVT, R336. -/
def R.MOD_EVT : Nat := 0x4008000C
/-- MOD_EVT.CLIP: bit n − 1: channel n clipped -/
def F.MOD_EVT_CLIP : Fld := ⟨R.MOD_EVT, 0, 4⟩
/-- MOD_EVT.NSRST: bit n − 1: shaper of channel n reset -/
def F.MOD_EVT_NSRST : Fld := ⟨R.MOD_EVT, 4, 4⟩
/-- MOD_EVT.RFF_LIMIT: rail factor limited -/
def F.MOD_EVT_RFF_LIMIT : Fld := ⟨R.MOD_EVT, 8, 1⟩
/-- MOD_EVT.REFRESH: bit x: refresh on half-bridge x, A = 0 to H = 7 -/
def F.MOD_EVT_REFRESH : Fld := ⟨R.MOD_EVT, 16, 8⟩
/-- MOD_DEADTIME, R336. -/
def R.MOD_DEADTIME : Nat := 0x40080010
/-- MOD_DEADTIME.COUNT: dead time in counts; 20 is 25.43 ns -/
def F.MOD_DEADTIME_COUNT : Fld := ⟨R.MOD_DEADTIME, 0, 8⟩
/-- MOD_MINPULSE, R336. -/
def R.MOD_MINPULSE : Nat := 0x40080014
/-- MOD_MINPULSE.COUNT: minimum pulse in counts -/
def F.MOD_MINPULSE_COUNT : Fld := ⟨R.MOD_MINPULSE, 0, 8⟩
/-- MOD_BLANK, R336. -/
def R.MOD_BLANK : Nat := 0x40080018
/-- MOD_BLANK.COUNT: overcurrent blanking in counts -/
def F.MOD_BLANK_COUNT : Fld := ⟨R.MOD_BLANK, 0, 8⟩
/-- MOD_REFRESH, R336. -/
def R.MOD_REFRESH : Nat := 0x4008001C
/-- MOD_REFRESH.N: periods at full on-time before a refresh, 4 to 64 -/
def F.MOD_REFRESH_N : Fld := ⟨R.MOD_REFRESH, 0, 7⟩
/-- MOD_REFRESH_W, R336. -/
def R.MOD_REFRESH_W : Nat := 0x40080020
/-- MOD_REFRESH_W.COUNT: refresh low-side width in counts, 48 to 255 -/
def F.MOD_REFRESH_W_COUNT : Fld := ⟨R.MOD_REFRESH_W, 0, 8⟩
/-- MOD_QUIET, R336. -/
def R.MOD_QUIET : Nat := 0x40080024
/-- MOD_QUIET.PHASE: window start in counts from the period start -/
def F.MOD_QUIET_PHASE : Fld := ⟨R.MOD_QUIET, 0, 12⟩
/-- MOD_QUIET.WIDTH: window width in counts, up to P / 4 -/
def F.MOD_QUIET_WIDTH : Fld := ⟨R.MOD_QUIET, 16, 12⟩
/-- MOD_QUIET.EN: quiet window enabled -/
def F.MOD_QUIET_EN : Fld := ⟨R.MOD_QUIET, 31, 1⟩
/-- MOD_RFF, R336. -/
def R.MOD_RFF : Nat := 0x40080028
/-- MOD_RFF.EN: rail feedforward enabled -/
def F.MOD_RFF_EN : Fld := ⟨R.MOD_RFF, 0, 1⟩
/-- MOD_RFF.KMAX: largest factor in units of 1/64 -/
def F.MOD_RFF_KMAX : Fld := ⟨R.MOD_RFF, 8, 8⟩
/-- MOD_RFF.KMIN: smallest factor in units of 1/64 -/
def F.MOD_RFF_KMIN : Fld := ⟨R.MOD_RFF, 16, 8⟩
/-- MOD_RFF_VREF, R336. -/
def R.MOD_RFF_VREF : Nat := 0x4008002C
/-- MOD_RFF_VREF.VREF: reference in 0.25 V; 320 is 80.0 V -/
def F.MOD_RFF_VREF_VREF : Fld := ⟨R.MOD_RFF_VREF, 0, 10⟩
/-- MOD_RFF_STAT, R336. -/
def R.MOD_RFF_STAT : Nat := 0x40080030
/-- MOD_RFF_STAT.K: last rail factor, UQ2.14 -/
def F.MOD_RFF_STAT_K : Fld := ⟨R.MOD_RFF_STAT, 0, 16⟩
/-- MOD_RFF_LIMCNT, R336. -/
def R.MOD_RFF_LIMCNT : Nat := 0x40080034
/-- MOD_RFF_LIMCNT.COUNT: limited periods, saturating at 65,535 -/
def F.MOD_RFF_LIMCNT_COUNT : Fld := ⟨R.MOD_RFF_LIMCNT, 0, 16⟩
/-- MOD_RFF_LIMCNT.CLR: writing 1 clears COUNT -/
def F.MOD_RFF_LIMCNT_CLR : Fld := ⟨R.MOD_RFF_LIMCNT, 31, 1⟩
/-- MOD_SAFE, R336. -/
def R.MOD_SAFE : Nat := 0x40080040
/-- MOD_SAFE.LEVEL: bit x: half-bridge x, 0 ALL_OFF, 1 LOW_ON -/
def F.MOD_SAFE_LEVEL : Fld := ⟨R.MOD_SAFE, 0, 8⟩
/-- MOD_OVERRIDE, R336. -/
def R.MOD_OVERRIDE : Nat := 0x40080044
/-- MOD_OVERRIDE.EN: override mode under R313 -/
def F.MOD_OVERRIDE_EN : Fld := ⟨R.MOD_OVERRIDE, 0, 1⟩
/-- MOD_OVERRIDE.CODE: bits [2x + 9:2x + 8]: code of half-bridge x -/
def F.MOD_OVERRIDE_CODE : Fld := ⟨R.MOD_OVERRIDE, 8, 16⟩
/-- MOD_NS_Ak, R336. -/
def R.MOD_NS_Ak (k : Nat) : Nat := 0x40080050 + 0x4 * (k - 1)
/-- MOD_NS_Ak.COEF: k = 1 to 5; signed Q2.22 -/
def F.MOD_NS_Ak_COEF (k : Nat) : Fld := ⟨R.MOD_NS_Ak k, 0, 24⟩
/-- MOD_NS_G, R336. -/
def R.MOD_NS_G : Nat := 0x40080064
/-- MOD_NS_G.G1: UQ0.16 -/
def F.MOD_NS_G_G1 : Fld := ⟨R.MOD_NS_G, 0, 16⟩
/-- MOD_NS_G.G2: UQ0.16 -/
def F.MOD_NS_G_G2 : Fld := ⟨R.MOD_NS_G, 16, 16⟩
/-- GDV_DRV_x, R337. -/
def R.GDV_DRV_x (x : Nat) : Nat := 0x40090000 + 0x4 * x
/-- GDV_DRV_x.HS_SRC: high-side source code under R314 -/
def F.GDV_DRV_x_HS_SRC (x : Nat) : Fld := ⟨R.GDV_DRV_x x, 0, 3⟩
/-- GDV_DRV_x.HS_SNK: high-side sink code -/
def F.GDV_DRV_x_HS_SNK (x : Nat) : Fld := ⟨R.GDV_DRV_x x, 4, 3⟩
/-- GDV_DRV_x.LS_SRC: low-side source code -/
def F.GDV_DRV_x_LS_SRC (x : Nat) : Fld := ⟨R.GDV_DRV_x x, 8, 3⟩
/-- GDV_DRV_x.LS_SNK: low-side sink code -/
def F.GDV_DRV_x_LS_SNK (x : Nat) : Fld := ⟨R.GDV_DRV_x x, 12, 3⟩
/-- GDV_OC_n, R337. -/
def R.GDV_OC_n (n : Nat) : Nat := 0x40090020 + 0x4 * n
/-- GDV_OC_n.LEVEL: trip level in mV of shunt voltage -/
def F.GDV_OC_n_LEVEL (n : Nat) : Fld := ⟨R.GDV_OC_n n, 0, 7⟩
/-- GDV_OC_n.MODE: 0 LATCH, 1 CBC -/
def F.GDV_OC_n_MODE (n : Nat) : Fld := ⟨R.GDV_OC_n n, 8, 1⟩
/-- GDV_OC_n.CBC_MAX: consecutive tripped periods that latch, 1 to 15 -/
def F.GDV_OC_n_CBC_MAX (n : Nat) : Fld := ⟨R.GDV_OC_n n, 12, 4⟩
/-- GDV_OC_STK, R337. -/
def R.GDV_OC_STK : Nat := 0x40090030
/-- GDV_OC_STK.LEVEL: stack trip level in mV, 10 to 120 -/
def F.GDV_OC_STK_LEVEL : Fld := ⟨R.GDV_OC_STK, 0, 8⟩
/-- GDV_EXT, R337. -/
def R.GDV_EXT : Nat := 0x40090034
/-- GDV_EXT.EN: FAULT_N acts under R311 -/
def F.GDV_EXT_EN : Fld := ⟨R.GDV_EXT, 0, 1⟩
/-- GDV_CH_FAULT_n, R337. -/
def R.GDV_CH_FAULT_n (n : Nat) : Nat := 0x40090040 + 0x4 * n
/-- GDV_CH_FAULT_n.OC: overcurrent latched -/
def F.GDV_CH_FAULT_n_OC (n : Nat) : Fld := ⟨R.GDV_CH_FAULT_n n, 0, 1⟩
/-- GDV_CH_FAULT_n.INTERLOCK: interlock trip latched -/
def F.GDV_CH_FAULT_n_INTERLOCK (n : Nat) : Fld := ⟨R.GDV_CH_FAULT_n n, 1, 1⟩
/-- GDV_CH_FAULT_n.BST_UVLO: bootstrap lockout latched -/
def F.GDV_CH_FAULT_n_BST_UVLO (n : Nat) : Fld := ⟨R.GDV_CH_FAULT_n n, 2, 1⟩
/-- GDV_CH_FAULT_n.DC_ON_LOAD: DC-on-load trip latched -/
def F.GDV_CH_FAULT_n_DC_ON_LOAD (n : Nat) : Fld := ⟨R.GDV_CH_FAULT_n n, 3, 1⟩
/-- GDV_FAULT, R337. -/
def R.GDV_FAULT : Nat := 0x40090050
/-- GDV_FAULT.VDRV_UVLO: VDRV lockout latched -/
def F.GDV_FAULT_VDRV_UVLO : Fld := ⟨R.GDV_FAULT, 0, 1⟩
/-- GDV_FAULT.EXT_FAULT: FAULT_N trip latched -/
def F.GDV_FAULT_EXT_FAULT : Fld := ⟨R.GDV_FAULT, 1, 1⟩
/-- GDV_FAULT.STK_OC: stack overcurrent latched -/
def F.GDV_FAULT_STK_OC : Fld := ⟨R.GDV_FAULT, 2, 1⟩
/-- GDV_ILK_INFO, R337. -/
def R.GDV_ILK_INFO : Nat := 0x40090054
/-- GDV_ILK_INFO.HB: half-bridge of the first interlock trip -/
def F.GDV_ILK_INFO_HB : Fld := ⟨R.GDV_ILK_INFO, 0, 3⟩
/-- GDV_ILK_INFO.SRC: command source under R312 -/
def F.GDV_ILK_INFO_SRC : Fld := ⟨R.GDV_ILK_INFO, 4, 3⟩
/-- GDV_ILK_INFO.VALID: HB and SRC hold a record -/
def F.GDV_ILK_INFO_VALID : Fld := ⟨R.GDV_ILK_INFO, 8, 1⟩
/-- GDV_STAT, R337. -/
def R.GDV_STAT : Nat := 0x40090058
/-- GDV_STAT.BST_OK: bit x: bootstrap of half-bridge x above its lockout -/
def F.GDV_STAT_BST_OK : Fld := ⟨R.GDV_STAT, 0, 8⟩
/-- GDV_STAT.VDRV_OK: VDRV above its lockout -/
def F.GDV_STAT_VDRV_OK : Fld := ⟨R.GDV_STAT, 8, 1⟩
/-- GDV_STAT.FAULT_N: FAULT_N is low now -/
def F.GDV_STAT_FAULT_N : Fld := ⟨R.GDV_STAT, 9, 1⟩
/-- GDV_STAT.OC_NOW: bit n: channel comparator tripped now -/
def F.GDV_STAT_OC_NOW : Fld := ⟨R.GDV_STAT, 12, 4⟩
/-- GDV_STAT.STK_OC_NOW: stack comparator tripped now -/
def F.GDV_STAT_STK_OC_NOW : Fld := ⟨R.GDV_STAT, 16, 1⟩
/-- GDV_OC_CNT, R337. -/
def R.GDV_OC_CNT : Nat := 0x4009005C
/-- GDV_OC_CNT.COUNT: overcurrent trips, saturating at 65,535 -/
def F.GDV_OC_CNT_COUNT : Fld := ⟨R.GDV_OC_CNT, 0, 16⟩
/-- GDV_OC_CNT.CLR: writing 1 clears COUNT -/
def F.GDV_OC_CNT_CLR : Fld := ⟨R.GDV_OC_CNT, 31, 1⟩
/-- GRD_CFG, R374. -/
def R.GRD_CFG : Nat := 0x400A0000
/-- GRD_CFG.LOOKAHEAD: N in samples under R340 -/
def F.GRD_CFG_LOOKAHEAD : Fld := ⟨R.GRD_CFG, 0, 8⟩
/-- GRD_CONF_MIN, R374. -/
def R.GRD_CONF_MIN : Nat := 0x400A0004
/-- GRD_CONF_MIN.VALUE: blind threshold under R356 -/
def F.GRD_CONF_MIN_VALUE : Fld := ⟨R.GRD_CONF_MIN, 0, 8⟩
/-- GRD_T_BLIND, R374. -/
def R.GRD_T_BLIND : Nat := 0x400A0008
/-- GRD_T_BLIND.VALUE: ratchet delay in 0.1 s -/
def F.GRD_T_BLIND_VALUE : Fld := ⟨R.GRD_T_BLIND, 0, 8⟩
/-- GRD_T_BLIND_LONG, R374. -/
def R.GRD_T_BLIND_LONG : Nat := 0x400A000C
/-- GRD_T_BLIND_LONG.VALUE: margin delay in 1 s -/
def F.GRD_T_BLIND_LONG_VALUE : Fld := ⟨R.GRD_T_BLIND_LONG, 0, 8⟩
/-- GRD_BLIND_MARGIN, R374. -/
def R.GRD_BLIND_MARGIN : Nat := 0x400A0010
/-- GRD_BLIND_MARGIN.VALUE: °C subtracted from TMAX while BLONG -/
def F.GRD_BLIND_MARGIN_VALUE : Fld := ⟨R.GRD_BLIND_MARGIN, 0, 6⟩
/-- GRD_EVT, R374. -/
def R.GRD_EVT : Nat := 0x400A0014
/-- GRD_EVT.BLIND: bit n − 1: channel n set RATCHET -/
def F.GRD_EVT_BLIND : Fld := ⟨R.GRD_EVT, 0, 4⟩
/-- GRD_EVT.BLONG: bit n − 1: channel n set BLONG -/
def F.GRD_EVT_BLONG : Fld := ⟨R.GRD_EVT, 4, 4⟩
/-- GRD_EVT.TWARN: bit n − 1: COIL_TEMP_WARN for channel n -/
def F.GRD_EVT_TWARN : Fld := ⟨R.GRD_EVT, 8, 4⟩
/-- GRD_EVT.XWARN: bit n − 1: EXCURSION_WARN for channel n -/
def F.GRD_EVT_XWARN : Fld := ⟨R.GRD_EVT, 12, 4⟩
/-- GRD_EVT.RECOV: bit n − 1: recovery completed on channel n -/
def F.GRD_EVT_RECOV : Fld := ⟨R.GRD_EVT, 16, 4⟩
/-- GRD_EVT.ECC: an error of R367 occurred -/
def F.GRD_EVT_ECC : Fld := ⟨R.GRD_EVT, 24, 1⟩
/-- GRD_LINE_WP, R374. -/
def R.GRD_LINE_WP : Nat := 0x400A0018
/-- GRD_LINE_WP.INDEX: next write index of the lookahead lines -/
def F.GRD_LINE_WP_INDEX : Fld := ⟨R.GRD_LINE_WP, 0, 8⟩
/-- GRD_n_ELEC, R374. -/
def R.GRD_n_ELEC (n : Nat) : Nat := 0x400A0100 + 0x100 * (n - 1)
/-- GRD_n_ELEC.RE0: Re at T0 in mΩ -/
def F.GRD_n_ELEC_RE0 (n : Nat) : Fld := ⟨R.GRD_n_ELEC n, 0, 16⟩
/-- GRD_n_ELEC.ALPHA: coil temperature coefficient in 10⁻⁶ per °C, 3,000 to 4,500 -/
def F.GRD_n_ELEC_ALPHA (n : Nat) : Fld := ⟨R.GRD_n_ELEC n, 16, 13⟩
/-- GRD_n_TH0, R374. -/
def R.GRD_n_TH0 (n : Nat) : Nat := 0x400A0104 + 0x100 * (n - 1)
/-- GRD_n_TH0.RTV: coil to magnet in 0.001 K/W -/
def F.GRD_n_TH0_RTV (n : Nat) : Fld := ⟨R.GRD_n_TH0 n, 0, 16⟩
/-- GRD_n_TH0.RTM: magnet to ambient in 0.001 K/W -/
def F.GRD_n_TH0_RTM (n : Nat) : Fld := ⟨R.GRD_n_TH0 n, 16, 16⟩
/-- GRD_n_TH1, R374. -/
def R.GRD_n_TH1 (n : Nat) : Nat := 0x400A0108 + 0x100 * (n - 1)
/-- GRD_n_TH1.CTV: coil capacity in 0.01 J/K -/
def F.GRD_n_TH1_CTV (n : Nat) : Fld := ⟨R.GRD_n_TH1 n, 0, 16⟩
/-- GRD_n_TH1.CTM: magnet capacity in 0.1 J/K -/
def F.GRD_n_TH1_CTM (n : Nat) : Fld := ⟨R.GRD_n_TH1 n, 16, 16⟩
/-- GRD_n_TH2, R374. -/
def R.GRD_n_TH2 (n : Nat) : Nat := 0x400A010C + 0x100 * (n - 1)
/-- GRD_n_TH2.TMAX: coil limit in °C -/
def F.GRD_n_TH2_TMAX (n : Nat) : Fld := ⟨R.GRD_n_TH2 n, 0, 8⟩
/-- GRD_n_TH2.TWARN: warning level in °C -/
def F.GRD_n_TH2_TWARN (n : Nat) : Fld := ⟨R.GRD_n_TH2 n, 8, 8⟩
/-- GRD_n_TH2.HORIZON: horizon of R344 in 0.1 s -/
def F.GRD_n_TH2_HORIZON (n : Nat) : Fld := ⟨R.GRD_n_TH2 n, 16, 8⟩
/-- GRD_n_TH2.T0: reference temperature of RE0 in °C -/
def F.GRD_n_TH2_T0 (n : Nat) : Fld := ⟨R.GRD_n_TH2 n, 24, 8⟩
/-- GRD_n_TH3, R374. -/
def R.GRD_n_TH3 (n : Nat) : Nat := 0x400A0110 + 0x100 * (n - 1)
/-- GRD_n_TH3.AMB_SRC: 0 to 3 NTC_1 to NTC_4, 4 die, 5 AMB_FIX -/
def F.GRD_n_TH3_AMB_SRC (n : Nat) : Fld := ⟨R.GRD_n_TH3 n, 0, 3⟩
/-- GRD_n_TH3.AMB_FIX: signed °C -/
def F.GRD_n_TH3_AMB_FIX (n : Nat) : Fld := ⟨R.GRD_n_TH3 n, 8, 8⟩
/-- GRD_n_TH3.COLD_OFS: °C above Ta at the first start -/
def F.GRD_n_TH3_COLD_OFS (n : Nat) : Fld := ⟨R.GRD_n_TH3 n, 16, 8⟩
/-- GRD_n_TH3.FUSE: correction gain in 1/256 -/
def F.GRD_n_TH3_FUSE (n : Nat) : Fld := ⟨R.GRD_n_TH3 n, 24, 8⟩
/-- GRD_n_M0, R374. -/
def R.GRD_n_M0 (n : Nat) : Nat := 0x400A0120 + 0x100 * (n - 1)
/-- GRD_n_M0.BL0: force factor in 0.001 T·m -/
def F.GRD_n_M0_BL0 (n : Nat) : Fld := ⟨R.GRD_n_M0 n, 0, 16⟩
/-- GRD_n_M0.MMS: moving mass in 0.01 g -/
def F.GRD_n_M0_MMS (n : Nat) : Fld := ⟨R.GRD_n_M0 n, 16, 16⟩
/-- GRD_n_M1, R374. -/
def R.GRD_n_M1 (n : Nat) : Nat := 0x400A0124 + 0x100 * (n - 1)
/-- GRD_n_M1.KMS0: stiffness in 0.001 N/mm -/
def F.GRD_n_M1_KMS0 (n : Nat) : Fld := ⟨R.GRD_n_M1 n, 0, 16⟩
/-- GRD_n_M1.RMS: mechanical loss in 0.001 kg/s -/
def F.GRD_n_M1_RMS (n : Nat) : Fld := ⟨R.GRD_n_M1 n, 16, 16⟩
/-- GRD_n_M2, R374. -/
def R.GRD_n_M2 (n : Nat) : Nat := 0x400A0128 + 0x100 * (n - 1)
/-- GRD_n_M2.B1: signed, 1/1024 per mm -/
def F.GRD_n_M2_B1 (n : Nat) : Fld := ⟨R.GRD_n_M2 n, 0, 8⟩
/-- GRD_n_M2.B2: signed, 1/1024 per mm² -/
def F.GRD_n_M2_B2 (n : Nat) : Fld := ⟨R.GRD_n_M2 n, 8, 8⟩
/-- GRD_n_M2.K1: signed, 1/1024 per mm -/
def F.GRD_n_M2_K1 (n : Nat) : Fld := ⟨R.GRD_n_M2 n, 16, 8⟩
/-- GRD_n_M2.K2: signed, 1/1024 per mm² -/
def F.GRD_n_M2_K2 (n : Nat) : Fld := ⟨R.GRD_n_M2 n, 24, 8⟩
/-- GRD_n_XLIM, R374. -/
def R.GRD_n_XLIM (n : Nat) : Nat := 0x400A012C + 0x100 * (n - 1)
/-- GRD_n_XLIM.XMAX: excursion limit in 0.01 mm -/
def F.GRD_n_XLIM_XMAX (n : Nat) : Fld := ⟨R.GRD_n_XLIM n, 0, 12⟩
/-- GRD_n_XLIM.XMARGIN: XLIM as a fraction of XMAX in 1/256 -/
def F.GRD_n_XLIM_XMARGIN (n : Nat) : Fld := ⟨R.GRD_n_XLIM n, 16, 8⟩
/-- GRD_n_LIM, R374. -/
def R.GRD_n_LIM (n : Nat) : Nat := 0x400A0130 + 0x100 * (n - 1)
/-- GRD_n_LIM.REL: release time constant in 10 ms -/
def F.GRD_n_LIM_REL (n : Nat) : Fld := ⟨R.GRD_n_LIM n, 0, 8⟩
/-- GRD_n_PILOT, R374. -/
def R.GRD_n_PILOT (n : Nat) : Nat := 0x400A0140 + 0x100 * (n - 1)
/-- GRD_n_PILOT.EN: pilot enabled -/
def F.GRD_n_PILOT_EN (n : Nat) : Fld := ⟨R.GRD_n_PILOT n, 0, 1⟩
/-- GRD_n_PILOT.FREQ: pilot frequency in 0.125 Hz -/
def F.GRD_n_PILOT_FREQ (n : Nat) : Fld := ⟨R.GRD_n_PILOT n, 4, 9⟩
/-- GRD_n_PILOT.ITGT: target pilot current amplitude in mA -/
def F.GRD_n_PILOT_ITGT (n : Nat) : Fld := ⟨R.GRD_n_PILOT n, 16, 8⟩
/-- GRD_n_PILOT.RATIO: switch ratio of R353 in dB -/
def F.GRD_n_PILOT_RATIO (n : Nat) : Fld := ⟨R.GRD_n_PILOT n, 24, 8⟩
/-- GRD_n_PWIN, R374. -/
def R.GRD_n_PWIN (n : Nat) : Nat := 0x400A0144 + 0x100 * (n - 1)
/-- GRD_n_PWIN.PERIODS: pilot window in pilot periods -/
def F.GRD_n_PWIN_PERIODS (n : Nat) : Fld := ⟨R.GRD_n_PWIN n, 0, 8⟩
/-- GRD_n_BB, R374. -/
def R.GRD_n_BB (n : Nat) : Nat := 0x400A0148 + 0x100 * (n - 1)
/-- GRD_n_BB.FLO: lower band edge in Hz -/
def F.GRD_n_BB_FLO (n : Nat) : Fld := ⟨R.GRD_n_BB n, 0, 10⟩
/-- GRD_n_BB.FHI: upper band edge in Hz -/
def F.GRD_n_BB_FHI (n : Nat) : Fld := ⟨R.GRD_n_BB n, 16, 12⟩
/-- GRD_n_BB.TC: weighting time constant 0.125 s × 2^TC -/
def F.GRD_n_BB_TC (n : Nat) : Fld := ⟨R.GRD_n_BB n, 28, 3⟩
/-- GRD_n_CONF, R374. -/
def R.GRD_n_CONF (n : Nat) : Nat := 0x400A014C + 0x100 * (n - 1)
/-- GRD_n_CONF.IREF: broadband reference current, RMS, in mA -/
def F.GRD_n_CONF_IREF (n : Nat) : Fld := ⟨R.GRD_n_CONF n, 0, 8⟩
/-- GRD_n_CONF.SPREAD: spread for B = 0, in 0.1 % -/
def F.GRD_n_CONF_SPREAD (n : Nat) : Fld := ⟨R.GRD_n_CONF n, 8, 8⟩
/-- GRD_n_RES, R374. -/
def R.GRD_n_RES (n : Nat) : Nat := 0x400A0150 + 0x100 * (n - 1)
/-- GRD_n_RES.EN: resonance tracking enabled -/
def F.GRD_n_RES_EN (n : Nat) : Fld := ⟨R.GRD_n_RES n, 0, 1⟩
/-- GRD_n_RES.RANGE: tracking range in % of KMS0 -/
def F.GRD_n_RES_RANGE (n : Nat) : Fld := ⟨R.GRD_n_RES n, 8, 6⟩
/-- GRD_n_RES.IMIN: least band current, RMS, in mA -/
def F.GRD_n_RES_IMIN (n : Nat) : Fld := ⟨R.GRD_n_RES n, 16, 8⟩
/-- GRD_n_STAT, R374. -/
def R.GRD_n_STAT (n : Nat) : Nat := 0x400A0180 + 0x100 * (n - 1)
/-- GRD_n_STAT.EST: active estimator: 0 pilot, 1 broadband -/
def F.GRD_n_STAT_EST (n : Nat) : Fld := ⟨R.GRD_n_STAT n, 0, 1⟩
/-- GRD_n_STAT.BLIND: blind under R356 -/
def F.GRD_n_STAT_BLIND (n : Nat) : Fld := ⟨R.GRD_n_STAT n, 1, 1⟩
/-- GRD_n_STAT.RATCHET: ratchet in force -/
def F.GRD_n_STAT_RATCHET (n : Nat) : Fld := ⟨R.GRD_n_STAT n, 2, 1⟩
/-- GRD_n_STAT.BLONG: margin in force -/
def F.GRD_n_STAT_BLONG (n : Nat) : Fld := ⟨R.GRD_n_STAT n, 3, 1⟩
/-- GRD_n_STAT.RECOV: recovery count running -/
def F.GRD_n_STAT_RECOV (n : Nat) : Fld := ⟨R.GRD_n_STAT n, 4, 1⟩
/-- GRD_n_STAT.RELEASE: ratchet releasing under R357 -/
def F.GRD_n_STAT_RELEASE (n : Nat) : Fld := ⟨R.GRD_n_STAT n, 5, 1⟩
/-- GRD_n_STAT.UNSET: sense or ambient input not usable -/
def F.GRD_n_STAT_UNSET (n : Nat) : Fld := ⟨R.GRD_n_STAT n, 6, 1⟩
/-- GRD_n_STAT.RFROZEN: resonance tracking frozen -/
def F.GRD_n_STAT_RFROZEN (n : Nat) : Fld := ⟨R.GRD_n_STAT n, 7, 1⟩
/-- GRD_n_STAT.BIND: binding limit: 0 none, 1 coil, 2 cone, 3 Reservoir -/
def F.GRD_n_STAT_BIND (n : Nat) : Fld := ⟨R.GRD_n_STAT n, 8, 2⟩
/-- GRD_n_CONFV, R374. -/
def R.GRD_n_CONFV (n : Nat) : Nat := 0x400A0184 + 0x100 * (n - 1)
/-- GRD_n_CONFV.CONF: confidence of the active estimator -/
def F.GRD_n_CONFV_CONF (n : Nat) : Fld := ⟨R.GRD_n_CONFV n, 0, 8⟩
/-- GRD_n_CONFV.CONF_P: pilot confidence -/
def F.GRD_n_CONFV_CONF_P (n : Nat) : Fld := ⟨R.GRD_n_CONFV n, 8, 8⟩
/-- GRD_n_CONFV.CONF_B: broadband confidence -/
def F.GRD_n_CONFV_CONF_B (n : Nat) : Fld := ⟨R.GRD_n_CONFV n, 16, 8⟩
/-- GRD_n_TCOIL, R374. -/
def R.GRD_n_TCOIL (n : Nat) : Nat := 0x400A0188 + 0x100 * (n - 1)
/-- GRD_n_TCOIL.EST: T_est, signed, 1/128 °C -/
def F.GRD_n_TCOIL_EST (n : Nat) : Fld := ⟨R.GRD_n_TCOIL n, 0, 16⟩
/-- GRD_n_TCOIL.MODEL: Tv, signed, 1/128 °C -/
def F.GRD_n_TCOIL_MODEL (n : Nat) : Fld := ⟨R.GRD_n_TCOIL n, 16, 16⟩
/-- GRD_n_TMAG, R374. -/
def R.GRD_n_TMAG (n : Nat) : Nat := 0x400A018C + 0x100 * (n - 1)
/-- GRD_n_TMAG.MAG: Tm, signed, 1/128 °C -/
def F.GRD_n_TMAG_MAG (n : Nat) : Fld := ⟨R.GRD_n_TMAG n, 0, 16⟩
/-- GRD_n_TMAG.AMB: Ta, signed, 1/128 °C -/
def F.GRD_n_TMAG_AMB (n : Nat) : Fld := ⟨R.GRD_n_TMAG n, 16, 16⟩
/-- GRD_n_RE, R374. -/
def R.GRD_n_RE (n : Nat) : Nat := 0x400A0190 + 0x100 * (n - 1)
/-- GRD_n_RE.RE: last Re estimate of the active estimator in mΩ -/
def F.GRD_n_RE_RE (n : Nat) : Fld := ⟨R.GRD_n_RE n, 0, 16⟩
/-- GRD_n_RE.TR: TR of R355, signed, 1/128 °C -/
def F.GRD_n_RE_TR (n : Nat) : Fld := ⟨R.GRD_n_RE n, 16, 16⟩
/-- GRD_n_FS, R374. -/
def R.GRD_n_FS (n : Nat) : Nat := 0x400A0194 + 0x100 * (n - 1)
/-- GRD_n_FS.FS: tracked resonance in 0.01 Hz -/
def F.GRD_n_FS_FS (n : Nat) : Fld := ⟨R.GRD_n_FS n, 0, 16⟩
/-- GRD_n_X, R374. -/
def R.GRD_n_X (n : Nat) : Nat := 0x400A0198 + 0x100 * (n - 1)
/-- GRD_n_X.XPK: largest tracking  -/
def F.GRD_n_X_XPK (n : Nat) : Fld := ⟨R.GRD_n_X n, 0, 16⟩
/-- GRD_n_X.CLR: writing 1 clears XPK -/
def F.GRD_n_X_CLR (n : Nat) : Fld := ⟨R.GRD_n_X n, 31, 1⟩
/-- GRD_n_LIMA, R374. -/
def R.GRD_n_LIMA (n : Nat) : Nat := 0x400A019C + 0x100 * (n - 1)
/-- GRD_n_LIMA.LCOIL: L_coil, UQ1.15 -/
def F.GRD_n_LIMA_LCOIL (n : Nat) : Fld := ⟨R.GRD_n_LIMA n, 0, 16⟩
/-- GRD_n_LIMA.LRSV: L_rsv, UQ1.15 -/
def F.GRD_n_LIMA_LRSV (n : Nat) : Fld := ⟨R.GRD_n_LIMA n, 16, 16⟩
/-- GRD_n_LIMB, R374. -/
def R.GRD_n_LIMB (n : Nat) : Nat := 0x400A01A0 + 0x100 * (n - 1)
/-- GRD_n_LIMB.LCONE: L_cone of the last block entered, UQ1.15 -/
def F.GRD_n_LIMB_LCONE (n : Nat) : Fld := ⟨R.GRD_n_LIMB n, 0, 16⟩
/-- GRD_n_LIMB.GAIN: limiter gain g, UQ1.15 -/
def F.GRD_n_LIMB_GAIN (n : Nat) : Fld := ⟨R.GRD_n_LIMB n, 16, 16⟩
/-- GRD_n_BLINDT, R374. -/
def R.GRD_n_BLINDT (n : Nat) : Nat := 0x400A01A4 + 0x100 * (n - 1)
/-- GRD_n_BLINDT.BLOCKS: blocks in the current blind spell -/
def F.GRD_n_BLINDT_BLOCKS (n : Nat) : Fld := ⟨R.GRD_n_BLINDT n, 0, 32⟩
/-- DIAG_CFG, R399. -/
def R.DIAG_CFG : Nat := 0x400B0000
/-- DIAG_CFG.OPEN_BLOCKS: OPEN blocks PLAY under R379 -/
def F.DIAG_CFG_OPEN_BLOCKS : Fld := ⟨R.DIAG_CFG, 0, 1⟩
/-- DIAG_CFG.RDC_EN: steps C to F run -/
def F.DIAG_CFG_RDC_EN : Fld := ⟨R.DIAG_CFG, 1, 1⟩
/-- DIAG_CFG.ITEST: test current code of R378 -/
def F.DIAG_CFG_ITEST : Fld := ⟨R.DIAG_CFG, 4, 2⟩
/-- DIAG_PRE, R399. -/
def R.DIAG_PRE : Nat := 0x400B0004
/-- DIAG_PRE.RAMP: ramp time in ms -/
def F.DIAG_PRE_RAMP : Fld := ⟨R.DIAG_PRE, 0, 8⟩
/-- DIAG_PRE.HOLD: hold time in ms -/
def F.DIAG_PRE_HOLD : Fld := ⟨R.DIAG_PRE, 8, 8⟩
/-- DIAG_PRE.AVG: averaging time in ms -/
def F.DIAG_PRE_AVG : Fld := ⟨R.DIAG_PRE, 16, 6⟩
/-- DIAG_CMD, R399. -/
def R.DIAG_CMD : Nat := 0x400B0008
/-- DIAG_CMD.OP: 0 none, 1 PRESTART, 2 SWEEP, 3 ABORT -/
def F.DIAG_CMD_OP : Fld := ⟨R.DIAG_CMD, 0, 2⟩
/-- DIAG_CMD.CHMASK: bit n − 1: channel n -/
def F.DIAG_CMD_CHMASK : Fld := ⟨R.DIAG_CMD, 8, 4⟩
/-- DIAG_STAT, R399. -/
def R.DIAG_STAT : Nat := 0x400B000C
/-- DIAG_STAT.RUN: 0 IDLE, 1 PRESTART, 2 SWEEP; 3 reserved, never read -/
def F.DIAG_STAT_RUN : Fld := ⟨R.DIAG_STAT, 0, 2⟩
/-- DIAG_STAT.POINT: sweep point in progress -/
def F.DIAG_STAT_POINT : Fld := ⟨R.DIAG_STAT, 8, 6⟩
/-- DIAG_STAT.DC_NOW: bit n − 1: filtered magnitude at or above the level -/
def F.DIAG_STAT_DC_NOW : Fld := ⟨R.DIAG_STAT, 16, 4⟩
/-- DIAG_HOLD, R399. -/
def R.DIAG_HOLD : Nat := 0x400B0010
/-- DIAG_HOLD.HOLD: bit n − 1: blocking result held; cleared under R381 -/
def F.DIAG_HOLD_HOLD : Fld := ⟨R.DIAG_HOLD, 0, 4⟩
/-- DIAG_EVT, R399. -/
def R.DIAG_EVT : Nat := 0x400B0014
/-- DIAG_EVT.FAIL: bit n − 1: result neither PASS nor NOT_RUN -/
def F.DIAG_EVT_FAIL : Fld := ⟨R.DIAG_EVT, 0, 4⟩
/-- DIAG_EVT.LC: bit n − 1: LOAD_CHANGED -/
def F.DIAG_EVT_LC : Fld := ⟨R.DIAG_EVT, 4, 4⟩
/-- DIAG_EVT.PRE_DONE: a pre-start run ended -/
def F.DIAG_EVT_PRE_DONE : Fld := ⟨R.DIAG_EVT, 8, 1⟩
/-- DIAG_EVT.SWEEP_DONE: a sweep ended -/
def F.DIAG_EVT_SWEEP_DONE : Fld := ⟨R.DIAG_EVT, 9, 1⟩
/-- DIAG_EVT.ABORTED: a run was aborted -/
def F.DIAG_EVT_ABORTED : Fld := ⟨R.DIAG_EVT, 10, 1⟩
/-- DIAG_DC_CFG, R399. -/
def R.DIAG_DC_CFG : Nat := 0x400B0018
/-- DIAG_DC_CFG.EN: bit n − 1: detector of channel n enabled -/
def F.DIAG_DC_CFG_EN : Fld := ⟨R.DIAG_DC_CFG, 0, 4⟩
/-- DIAG_DC_CFG.FC: corner: 0 2 Hz, 1 5 Hz, 2 10 Hz -/
def F.DIAG_DC_CFG_FC : Fld := ⟨R.DIAG_DC_CFG, 4, 2⟩
/-- DIAG_DC_CFG.LEVEL: level in 0.5 V; 16 is 8.0 V -/
def F.DIAG_DC_CFG_LEVEL : Fld := ⟨R.DIAG_DC_CFG, 8, 7⟩
/-- DIAG_DC_TIME, R399. -/
def R.DIAG_DC_TIME : Nat := 0x400B001C
/-- DIAG_DC_TIME.TIME: trip time in 0.1 ms, 5 to 200 -/
def F.DIAG_DC_TIME_TIME : Fld := ⟨R.DIAG_DC_TIME, 0, 8⟩
/-- DIAG_LC, R399. -/
def R.DIAG_LC : Nat := 0x400B0020
/-- DIAG_LC.TOL_LOW: °C below Ta -/
def F.DIAG_LC_TOL_LOW : Fld := ⟨R.DIAG_LC, 0, 8⟩
/-- DIAG_LC.TOL_HIGH: °C above TMAX -/
def F.DIAG_LC_TOL_HIGH : Fld := ⟨R.DIAG_LC, 8, 8⟩
/-- DIAG_LC.FTOL: resonance tolerance in % -/
def F.DIAG_LC_FTOL : Fld := ⟨R.DIAG_LC, 16, 8⟩
/-- DIAG_LC.COUNT: consecutive judgements, 1 to 15 -/
def F.DIAG_LC_COUNT : Fld := ⟨R.DIAG_LC, 24, 4⟩
/-- DIAG_SWEEP_CFG, R399. -/
def R.DIAG_SWEEP_CFG : Nat := 0x400B0024
/-- DIAG_SWEEP_CFG.FSTART: first frequency in Hz -/
def F.DIAG_SWEEP_CFG_FSTART : Fld := ⟨R.DIAG_SWEEP_CFG, 0, 16⟩
/-- DIAG_SWEEP_CFG.FSTOP: last frequency in Hz -/
def F.DIAG_SWEEP_CFG_FSTOP : Fld := ⟨R.DIAG_SWEEP_CFG, 16, 16⟩
/-- DIAG_SWEEP_LVL, R399. -/
def R.DIAG_SWEEP_LVL : Nat := 0x400B0028
/-- DIAG_SWEEP_LVL.LEVEL: amplitude in 0.1 V -/
def F.DIAG_SWEEP_LVL_LEVEL : Fld := ⟨R.DIAG_SWEEP_LVL, 0, 7⟩
/-- DIAG_SWEEP_LVL.POINTS: points, 2 to 64 -/
def F.DIAG_SWEEP_LVL_POINTS : Fld := ⟨R.DIAG_SWEEP_LVL, 8, 7⟩
/-- DIAG_SWEEP_LVL.MEAS: least measuring time in ms -/
def F.DIAG_SWEEP_LVL_MEAS : Fld := ⟨R.DIAG_SWEEP_LVL, 16, 8⟩
/-- DIAG_n_LIMIT, R399. -/
def R.DIAG_n_LIMIT (n : Nat) : Nat := 0x400B0100 + 0x100 * (n - 1)
/-- DIAG_n_LIMIT.RMIN: in 10 mΩ -/
def F.DIAG_n_LIMIT_RMIN (n : Nat) : Fld := ⟨R.DIAG_n_LIMIT n, 0, 16⟩
/-- DIAG_n_LIMIT.RMAX: in 10 mΩ -/
def F.DIAG_n_LIMIT_RMAX (n : Nat) : Fld := ⟨R.DIAG_n_LIMIT n, 16, 16⟩
/-- DIAG_n_PRE, R399. -/
def R.DIAG_n_PRE (n : Nat) : Nat := 0x400B0104 + 0x100 * (n - 1)
/-- DIAG_n_PRE.RESULT: code of R379 -/
def F.DIAG_n_PRE_RESULT (n : Nat) : Fld := ⟨R.DIAG_n_PRE n, 0, 3⟩
/-- DIAG_n_PRE.HB: for SHORT_STK and SHORT_GND: 0 positive, 1 negative side read beyond the limit first -/
def F.DIAG_n_PRE_HB (n : Nat) : Fld := ⟨R.DIAG_n_PRE n, 4, 1⟩
/-- DIAG_n_PRE.RDC_VALID: Rdc valid under R377 -/
def F.DIAG_n_PRE_RDC_VALID (n : Nat) : Fld := ⟨R.DIAG_n_PRE n, 8, 1⟩
/-- DIAG_n_RDC, R399. -/
def R.DIAG_n_RDC (n : Nat) : Nat := 0x400B0108 + 0x100 * (n - 1)
/-- DIAG_n_RDC.RDC: Rdc in mΩ; 0xF_FFFF at compliance -/
def F.DIAG_n_RDC_RDC (n : Nat) : Fld := ⟨R.DIAG_n_RDC n, 0, 20⟩
/-- DIAG_n_LC, R399. -/
def R.DIAG_n_LC (n : Nat) : Nat := 0x400B010C + 0x100 * (n - 1)
/-- DIAG_n_LC.KIND: code of R387 -/
def F.DIAG_n_LC_KIND (n : Nat) : Fld := ⟨R.DIAG_n_LC n, 0, 3⟩
/-- DIAG_n_LC.ACTIVE: a kind holds now -/
def F.DIAG_n_LC_ACTIVE (n : Nat) : Fld := ⟨R.DIAG_n_LC n, 4, 1⟩
/-- DIAG_n_SWST, R399. -/
def R.DIAG_n_SWST (n : Nat) : Nat := 0x400B0110 + 0x100 * (n - 1)
/-- DIAG_n_SWST.NPTS: points measured in the last sweep -/
def F.DIAG_n_SWST_NPTS (n : Nat) : Fld := ⟨R.DIAG_n_SWST n, 0, 7⟩
/-- DIAG_n_SWST.DONE: the last sweep completed -/
def F.DIAG_n_SWST_DONE (n : Nat) : Fld := ⟨R.DIAG_n_SWST n, 8, 1⟩
/-- DIAG_n_SW_m, R399. -/
def R.DIAG_n_SW_m (n m w : Nat) : Nat := 0x400B1000 + 0x200 * (n - 1) + 8 * m + 4 * w
/-- DIAG_n_SW_m word w (0 or 1). -/
def F.DIAG_n_SW_m_WORD (n m w : Nat) : Fld := ⟨R.DIAG_n_SW_m n m w, 0, 32⟩
/-- RSV_STACK, R434. -/
def R.RSV_STACK : Nat := 0x40050000
/-- RSV_STACK.NCELL: series cells, 10 to 32 -/
def F.RSV_STACK_NCELL : Fld := ⟨R.RSV_STACK, 0, 6⟩
/-- RSV_STACK.RS: string resistance in 0.1 mΩ -/
def F.RSV_STACK_RS : Fld := ⟨R.RSV_STACK, 16, 16⟩
/-- RSV_VLIM, R434. -/
def R.RSV_VLIM : Nat := 0x40050004
/-- RSV_VLIM.VFLOOR: cell floor in 0.1 mV -/
def F.RSV_VLIM_VFLOOR : Fld := ⟨R.RSV_VLIM, 0, 16⟩
/-- RSV_VLIM.VCEIL: cell ceiling in 0.1 mV -/
def F.RSV_VLIM_VCEIL : Fld := ⟨R.RSV_VLIM, 16, 16⟩
/-- RSV_ILIM, R434. -/
def R.RSV_ILIM : Nat := 0x40050008
/-- RSV_ILIM.IMAX: stack current limit in 10 mA -/
def F.RSV_ILIM_IMAX : Fld := ⟨R.RSV_ILIM, 0, 16⟩
/-- RSV_ILIM.EFF: power-stage efficiency in % -/
def F.RSV_ILIM_EFF : Fld := ⟨R.RSV_ILIM, 16, 8⟩
/-- RSV_CELLT, R434. -/
def R.RSV_CELLT : Nat := 0x4005000C
/-- RSV_CELLT.TCMAX: hottest-cell limit in °C -/
def F.RSV_CELLT_TCMAX : Fld := ⟨R.RSV_CELLT, 0, 8⟩
/-- RSV_CELLT.RCOLD: resistance rise in 0.1 % per °C below 25 °C -/
def F.RSV_CELLT_RCOLD : Fld := ⟨R.RSV_CELLT, 8, 8⟩
/-- RSV_UNC, R434. -/
def R.RSV_UNC : Nat := 0x40050010
/-- RSV_UNC.UBASE: fine uncertainty in 0.1 mV -/
def F.RSV_UNC_UBASE : Fld := ⟨R.RSV_UNC, 0, 8⟩
/-- RSV_UNC.UCOARSE: coarse uncertainty in 0.1 mV -/
def F.RSV_UNC_UCOARSE : Fld := ⟨R.RSV_UNC, 8, 8⟩
/-- RSV_UNC.TIGHT: limit tightening for coarse cells in mV -/
def F.RSV_UNC_TIGHT : Fld := ⟨R.RSV_UNC, 16, 8⟩
/-- RSV_UNK, R434. -/
def R.RSV_UNK : Nat := 0x40050014
/-- RSV_UNK.UNK_U: unknown-cell uncertainty in mV -/
def F.RSV_UNK_UNK_U : Fld := ⟨R.RSV_UNK, 0, 8⟩
/-- RSV_UNK.CAP: energy scale cap with unknown cells, in 1/256 -/
def F.RSV_UNK_CAP : Fld := ⟨R.RSV_UNK, 8, 8⟩
/-- RSV_UNK.AGEMAX: stale age in 100 blocks -/
def F.RSV_UNK_AGEMAX : Fld := ⟨R.RSV_UNK, 16, 8⟩
/-- RSV_HEAT0, R434. -/
def R.RSV_HEAT0 : Nat := 0x40050018
/-- RSV_HEAT0.TSMAX: heatsink limit in °C -/
def F.RSV_HEAT0_TSMAX : Fld := ⟨R.RSV_HEAT0, 0, 8⟩
/-- RSV_HEAT0.TAMB: ambient, signed °C -/
def F.RSV_HEAT0_TAMB : Fld := ⟨R.RSV_HEAT0, 8, 8⟩
/-- RSV_HEAT0.HORIZ: horizon in 0.1 s -/
def F.RSV_HEAT0_HORIZ : Fld := ⟨R.RSV_HEAT0, 16, 8⟩
/-- RSV_HEAT0.TDIEMAX: die limit of R406 in °C -/
def F.RSV_HEAT0_TDIEMAX : Fld := ⟨R.RSV_HEAT0, 24, 8⟩
/-- RSV_HEAT1, R434. -/
def R.RSV_HEAT1 : Nat := 0x4005001C
/-- RSV_HEAT1.RTHS: heatsink to ambient in 0.001 K/W -/
def F.RSV_HEAT1_RTHS : Fld := ⟨R.RSV_HEAT1, 0, 16⟩
/-- RSV_HEAT1.CTHS: heatsink capacity in 0.1 J/K -/
def F.RSV_HEAT1_CTHS : Fld := ⟨R.RSV_HEAT1, 16, 16⟩
/-- RSV_HEAT2, R434. -/
def R.RSV_HEAT2 : Nat := 0x40050020
/-- RSV_HEAT2.NTCMASK: bit i: NTC_(i + 1) is on the heatsink -/
def F.RSV_HEAT2_NTCMASK : Fld := ⟨R.RSV_HEAT2, 0, 4⟩
/-- RSV_HEAT2.COILMIN: coil headroom for heat class 3, °C -/
def F.RSV_HEAT2_COILMIN : Fld := ⟨R.RSV_HEAT2, 8, 8⟩
/-- RSV_RES, R434. -/
def R.RSV_RES : Nat := 0x40050024
/-- RSV_RES.ERES: energy task reserve in mA -/
def F.RSV_RES_ERES : Fld := ⟨R.RSV_RES, 0, 16⟩
/-- RSV_RES.HRES: heat task reserve in 0.01 W -/
def F.RSV_RES_HRES : Fld := ⟨R.RSV_RES, 16, 16⟩
/-- RSV_ECLASS, R434. -/
def R.RSV_ECLASS : Nat := 0x40050028
/-- RSV_ECLASS.E1: energy class costs in 10 mA -/
def F.RSV_ECLASS_E1 : Fld := ⟨R.RSV_ECLASS, 0, 8⟩
/-- RSV_ECLASS.E2: energy class costs in 10 mA -/
def F.RSV_ECLASS_E2 : Fld := ⟨R.RSV_ECLASS, 8, 8⟩
/-- RSV_ECLASS.E3: energy class costs in 10 mA -/
def F.RSV_ECLASS_E3 : Fld := ⟨R.RSV_ECLASS, 16, 8⟩
/-- RSV_HCLASS, R434. -/
def R.RSV_HCLASS : Nat := 0x4005002C
/-- RSV_HCLASS.H1: heat class costs in 0.1 W -/
def F.RSV_HCLASS_H1 : Fld := ⟨R.RSV_HCLASS, 0, 8⟩
/-- RSV_HCLASS.H2: heat class costs in 0.1 W -/
def F.RSV_HCLASS_H2 : Fld := ⟨R.RSV_HCLASS, 8, 8⟩
/-- RSV_HCLASS.H3: heat class costs in 0.1 W -/
def F.RSV_HCLASS_H3 : Fld := ⟨R.RSV_HCLASS, 16, 8⟩
/-- RSV_SLEW, R434. -/
def R.RSV_SLEW : Nat := 0x40050030
/-- RSV_SLEW.RISE: rise limit in 0.001 dB per block -/
def F.RSV_SLEW_RISE : Fld := ⟨R.RSV_SLEW, 0, 8⟩
/-- RSV_SLEW.SQMAX: squeeze bound in 0.1 dB -/
def F.RSV_SLEW_SQMAX : Fld := ⟨R.RSV_SLEW, 8, 8⟩
/-- RSV_SLEW.MOVE: CEILING_MOVED step in 0.1 dB -/
def F.RSV_SLEW_MOVE : Fld := ⟨R.RSV_SLEW, 16, 8⟩
/-- RSV_SLEW.LOWK: budget-low level in 0.1 dB below full -/
def F.RSV_SLEW_LOWK : Fld := ⟨R.RSV_SLEW, 24, 8⟩
/-- RSV_n_LOAD, R434. -/
def R.RSV_n_LOAD (n : Nat) : Nat := 0x40050040 + 0x4 * (n - 1)
/-- RSV_n_LOAD.ZMIN: least load impedance in mΩ -/
def F.RSV_n_LOAD_ZMIN (n : Nat) : Fld := ⟨R.RSV_n_LOAD n, 0, 16⟩
/-- RSV_n_LOAD.HLOSS: stage loss at L = 1 in 0.01 W -/
def F.RSV_n_LOAD_HLOSS (n : Nat) : Fld := ⟨R.RSV_n_LOAD n, 16, 12⟩
/-- RSV_n_LMAX, R434. -/
def R.RSV_n_LMAX (n : Nat) : Nat := 0x40050050 + 0x4 * (n - 1)
/-- RSV_n_LMAX.LMAX: channel scale, UQ1.15 -/
def F.RSV_n_LMAX_LMAX (n : Nat) : Fld := ⟨R.RSV_n_LMAX n, 0, 16⟩
/-- RSV_STAT, R434. -/
def R.RSV_STAT : Nat := 0x40050080
/-- RSV_STAT.FLAGS: bit 0 UNK, 1 SUSPECT, 2 COARSE, 3 FLOOR, 4 CEIL, 5 LOWE, 6 LOWH, 7 SQUEEZE -/
def F.RSV_STAT_FLAGS : Fld := ⟨R.RSV_STAT, 0, 8⟩
/-- RSV_STAT.BIND: code of R407 -/
def F.RSV_STAT_BIND : Fld := ⟨R.RSV_STAT, 8, 2⟩
/-- RSV_STAT.HEAT_UNK: no valid heatsink reading -/
def F.RSV_STAT_HEAT_UNK : Fld := ⟨R.RSV_STAT, 10, 1⟩
/-- RSV_EVT, R434. -/
def R.RSV_EVT : Nat := 0x40050084
/-- RSV_EVT.EVT: bit 0 FLOOR, 1 CEIL, 2 LOWE, 3 LOWH, 4 SQUEEZE, 5 MOVED -/
def F.RSV_EVT_EVT : Fld := ⟨R.RSV_EVT, 0, 6⟩
/-- RSV_K, R434. -/
def R.RSV_K : Nat := 0x40050088
/-- RSV_K.K0: k0, UQ1.15 -/
def F.RSV_K_K0 : Fld := ⟨R.RSV_K, 0, 16⟩
/-- RSV_K.K: delivered k, UQ1.15 -/
def F.RSV_K_K : Fld := ⟨R.RSV_K, 16, 16⟩
/-- RSV_SIGMA, R434. -/
def R.RSV_SIGMA : Nat := 0x4005008C
/-- RSV_SIGMA.SIGMA: σ, UQ1.15 -/
def F.RSV_SIGMA_SIGMA : Fld := ⟨R.RSV_SIGMA, 0, 16⟩
/-- RSV_SIGMA.TASK: selected MUST task -/
def F.RSV_SIGMA_TASK : Fld := ⟨R.RSV_SIGMA, 16, 6⟩
/-- RSV_SIGMA.SEL: a task is selected -/
def F.RSV_SIGMA_SEL : Fld := ⟨R.RSV_SIGMA, 23, 1⟩
/-- RSV_POOL_E, R434. -/
def R.RSV_POOL_E : Nat := 0x40050090
/-- RSV_POOL_E.POOL: PE in 10 mA -/
def F.RSV_POOL_E_POOL : Fld := ⟨R.RSV_POOL_E, 0, 16⟩
/-- RSV_POOL_E.FREE: FE, signed, in 10 mA -/
def F.RSV_POOL_E_FREE : Fld := ⟨R.RSV_POOL_E, 16, 16⟩
/-- RSV_POOL_H, R434. -/
def R.RSV_POOL_H : Nat := 0x40050094
/-- RSV_POOL_H.POOL: PH in 0.1 W -/
def F.RSV_POOL_H_POOL : Fld := ⟨R.RSV_POOL_H, 0, 16⟩
/-- RSV_POOL_H.FREE: FH, signed, in 0.1 W -/
def F.RSV_POOL_H_FREE : Fld := ⟨R.RSV_POOL_H, 16, 16⟩
/-- RSV_PERMIT, R434. -/
def R.RSV_PERMIT : Nat := 0x40050098
/-- RSV_PERMIT.E: bit c: energy class c permitted -/
def F.RSV_PERMIT_E : Fld := ⟨R.RSV_PERMIT, 0, 4⟩
/-- RSV_PERMIT.H: bit c: heat class c permitted -/
def F.RSV_PERMIT_H : Fld := ⟨R.RSV_PERMIT, 4, 4⟩
/-- RSV_VMIN, R434. -/
def R.RSV_VMIN : Nat := 0x4005009C
/-- RSV_VMIN.V: smallest Voc_j − U_j in 0.1 mV -/
def F.RSV_VMIN_V : Fld := ⟨R.RSV_VMIN, 0, 16⟩
/-- RSV_VMIN.CELL: its cell j -/
def F.RSV_VMIN_CELL : Fld := ⟨R.RSV_VMIN, 16, 5⟩
/-- RSV_VMAX, R434. -/
def R.RSV_VMAX : Nat := 0x400500A0
/-- RSV_VMAX.V: largest Voc_j + U_j in 0.1 mV -/
def F.RSV_VMAX_V : Fld := ⟨R.RSV_VMAX, 0, 16⟩
/-- RSV_VMAX.CELL: its cell j -/
def F.RSV_VMAX_CELL : Fld := ⟨R.RSV_VMAX, 16, 5⟩
/-- RSV_ISAMP, R434. -/
def R.RSV_ISAMP : Nat := 0x400500A4
/-- RSV_ISAMP.I: ISAMP, signed, 10 mA -/
def F.RSV_ISAMP_I : Fld := ⟨R.RSV_ISAMP, 0, 16⟩
/-- RSV_CTEMP, R434. -/
def R.RSV_CTEMP : Nat := 0x400500A8
/-- RSV_CTEMP.MIN: lowest cell temperature, signed °C -/
def F.RSV_CTEMP_MIN : Fld := ⟨R.RSV_CTEMP, 0, 8⟩
/-- RSV_CTEMP.MAX: highest cell temperature, signed °C -/
def F.RSV_CTEMP_MAX : Fld := ⟨R.RSV_CTEMP, 8, 8⟩
/-- RSV_CTEMP.VALID: MIN and MAX hold readings -/
def F.RSV_CTEMP_VALID : Fld := ⟨R.RSV_CTEMP, 16, 1⟩
/-- RSV_CELL_j, R434. -/
def R.RSV_CELL_j (j : Nat) : Nat := 0x40050100 + 0x4 * j
/-- RSV_CELL_j.V: j = 0 to 31; reading in 0.1 mV, written by SHL -/
def F.RSV_CELL_j_V (j : Nat) : Fld := ⟨R.RSV_CELL_j j, 0, 16⟩
/-- RSV_CELL_j.FLAGS: bit 16 KNOWN, 17 SUSPECT, 18 COARSE, 19 UNTRUSTED, 20 UNREACH, 21 STALE -/
def F.RSV_CELL_j_FLAGS (j : Nat) : Fld := ⟨R.RSV_CELL_j j, 16, 6⟩
/-- RSV_CELL_j.DEV: companion reference deviation in 10 ppm -/
def F.RSV_CELL_j_DEV (j : Nat) : Fld := ⟨R.RSV_CELL_j j, 24, 8⟩
/-- WEIR_CFG, R435. -/
def R.WEIR_CFG : Nat := 0x40040000
/-- WEIR_CFG.STARVE: starvation report in blocks; 0 disables -/
def F.WEIR_CFG_STARVE : Fld := ⟨R.WEIR_CFG, 0, 16⟩
/-- WEIR_COREc, R435. -/
def R.WEIR_COREc (c : Nat) : Nat := 0x40040004 + 0x4 * c
/-- WEIR_COREc.TASK: c = 0 C0, 1 C1; task held -/
def F.WEIR_COREc_TASK (c : Nat) : Fld := ⟨R.WEIR_COREc c, 0, 6⟩
/-- WEIR_COREc.HELD: the core holds a task -/
def F.WEIR_COREc_HELD (c : Nat) : Fld := ⟨R.WEIR_COREc c, 31, 1⟩
/-- WEIR_READYi, R435. -/
def R.WEIR_READYi (i : Nat) : Nat := 0x40040010 + 0x4 * i
/-- WEIR_READYi.TASKS: reads 1 for each READY task; 1 requests under R415 -/
def F.WEIR_READYi_TASKS (i : Nat) : Fld := ⟨R.WEIR_READYi i, 0, 32⟩
/-- WEIR_CANCELi, R435. -/
def R.WEIR_CANCELi (i : Nat) : Nat := 0x40040018 + 0x4 * i
/-- WEIR_CANCELi.TASKS: reads as WEIR_READYi; 1 withdraws under R415 -/
def F.WEIR_CANCELi_TASKS (i : Nat) : Fld := ⟨R.WEIR_CANCELi i, 0, 32⟩
/-- WEIR_STARVEDi, R435. -/
def R.WEIR_STARVEDi (i : Nat) : Nat := 0x40040020 + 0x4 * i
/-- WEIR_STARVEDi.TASKS: starvation reported under R418 -/
def F.WEIR_STARVEDi_TASKS (i : Nat) : Fld := ⟨R.WEIR_STARVEDi i, 0, 32⟩
/-- WEIR_ABANDONi, R435. -/
def R.WEIR_ABANDONi (i : Nat) : Nat := 0x40040028 + 0x4 * i
/-- WEIR_ABANDONi.TASKS: task abandoned under R431 -/
def F.WEIR_ABANDONi_TASKS (i : Nat) : Fld := ⟨R.WEIR_ABANDONi i, 0, 32⟩
/-- WEIR_DESC_t, R435. -/
def R.WEIR_DESC_t (t : Nat) : Nat := 0x40040100 + 0x4 * t
/-- WEIR_DESC_t.PRIO: base priority 0 to 7 -/
def F.WEIR_DESC_t_PRIO (t : Nat) : Fld := ⟨R.WEIR_DESC_t t, 0, 3⟩
/-- WEIR_DESC_t.ECLS: energy class 0 to 3 -/
def F.WEIR_DESC_t_ECLS (t : Nat) : Fld := ⟨R.WEIR_DESC_t t, 4, 2⟩
/-- WEIR_DESC_t.HCLS: heat class 0 to 3 -/
def F.WEIR_DESC_t_HCLS (t : Nat) : Fld := ⟨R.WEIR_DESC_t t, 8, 2⟩
/-- WEIR_DESC_t.MUST: MUST task -/
def F.WEIR_DESC_t_MUST (t : Nat) : Fld := ⟨R.WEIR_DESC_t t, 12, 1⟩
/-- WEIR_DESC_t.AFF: 0 disabled, 1 C0, 2 C1, 3 either core -/
def F.WEIR_DESC_t_AFF (t : Nat) : Fld := ⟨R.WEIR_DESC_t t, 14, 2⟩
/-- WEIR_DESC_t.AGE: aging interval in blocks; 0 never ages -/
def F.WEIR_DESC_t_AGE (t : Nat) : Fld := ⟨R.WEIR_DESC_t t, 16, 16⟩
/-- WEIR_PER_t, R435. -/
def R.WEIR_PER_t (t : Nat) : Nat := 0x40040200 + 0x4 * t
/-- WEIR_PER_t.PERIOD: periodic request in blocks; 0 none -/
def F.WEIR_PER_t_PERIOD (t : Nat) : Fld := ⟨R.WEIR_PER_t t, 0, 16⟩
/-- WEIR_PER_t.PHASE: block offset, below PERIOD -/
def F.WEIR_PER_t_PHASE (t : Nat) : Fld := ⟨R.WEIR_PER_t t, 16, 16⟩
/-- WEIR_STAT_t, R435. -/
def R.WEIR_STAT_t (t : Nat) : Nat := 0x40040300 + 0x4 * t
/-- WEIR_STAT_t.STATE: 0 IDLE, 1 READY, 2 RUNNING; 3 reserved, never read -/
def F.WEIR_STAT_t_STATE (t : Nat) : Fld := ⟨R.WEIR_STAT_t t, 0, 2⟩
/-- WEIR_STAT_t.REPEND: request waits behind the run -/
def F.WEIR_STAT_t_REPEND (t : Nat) : Fld := ⟨R.WEIR_STAT_t t, 2, 1⟩
/-- WEIR_STAT_t.PERMIT: permitted now -/
def F.WEIR_STAT_t_PERMIT (t : Nat) : Fld := ⟨R.WEIR_STAT_t t, 3, 1⟩
/-- WEIR_STAT_t.EPRIO: effective priority -/
def F.WEIR_STAT_t_EPRIO (t : Nat) : Fld := ⟨R.WEIR_STAT_t t, 4, 3⟩
/-- WEIR_STAT_t.STARVED: starvation reported in this wait -/
def F.WEIR_STAT_t_STARVED (t : Nat) : Fld := ⟨R.WEIR_STAT_t t, 7, 1⟩
/-- WEIR_STAT_t.CORE: holding core, 0 C0, 1 C1; valid while RUNNING -/
def F.WEIR_STAT_t_CORE (t : Nat) : Fld := ⟨R.WEIR_STAT_t t, 8, 1⟩
/-- WEIR_STAT_t.WAIT: blocks since READY, saturating at 65,535 -/
def F.WEIR_STAT_t_WAIT (t : Nat) : Fld := ⟨R.WEIR_STAT_t t, 16, 16⟩
/-- SHL_CFG, R485. -/
def R.SHL_CFG : Nat := 0x400C0000
/-- SHL_CFG.EN: this node is the chain master -/
def F.SHL_CFG_EN : Fld := ⟨R.SHL_CFG, 0, 1⟩
/-- SHL_CFG.RELAY: relay readings over the ring under R467 -/
def F.SHL_CFG_RELAY : Fld := ⟨R.SHL_CFG, 1, 1⟩
/-- SHL_CFG.NCOMP: companions on the chain, 1 to 64 -/
def F.SHL_CFG_NCOMP : Fld := ⟨R.SHL_CFG, 8, 7⟩
/-- SHL_CFG.SRCNODE: ring node whose relay feeds this node -/
def F.SHL_CFG_SRCNODE : Fld := ⟨R.SHL_CFG, 16, 7⟩
/-- SHL_TIMING, R485. -/
def R.SHL_TIMING : Nat := 0x400C0004
/-- SHL_TIMING.RTO: reply timeout in 10 µs -/
def F.SHL_TIMING_RTO : Fld := ⟨R.SHL_TIMING, 0, 8⟩
/-- SHL_TIMING.SYNCP: TIME_SET and loop-check interval in ms -/
def F.SHL_TIMING_SYNCP : Fld := ⟨R.SHL_TIMING, 8, 8⟩
/-- SHL_TIMING.PROBE: heal and re-enumeration probe in 10 ms -/
def F.SHL_TIMING_PROBE : Fld := ⟨R.SHL_TIMING, 16, 8⟩
/-- SHL_TIMING.DLYP: delay measurement interval in 100 ms -/
def F.SHL_TIMING_DLYP : Fld := ⟨R.SHL_TIMING, 24, 8⟩
/-- SHL_SAMP, R485. -/
def R.SHL_SAMP : Nat := 0x400C0008
/-- SHL_SAMP.PERIOD: sample cycle in blocks -/
def F.SHL_SAMP_PERIOD : Fld := ⟨R.SHL_SAMP, 0, 16⟩
/-- SHL_SAMP.LEAD: SAMPLE_AT lead in 10 µs -/
def F.SHL_SAMP_LEAD : Fld := ⟨R.SHL_SAMP, 16, 8⟩
/-- SHL_SAMP.MASK: conversion mask of SAMPLE_AT -/
def F.SHL_SAMP_MASK : Fld := ⟨R.SHL_SAMP, 24, 8⟩
/-- SHL_CTL, R485. -/
def R.SHL_CTL : Nat := 0x400C000C
/-- SHL_CTL.ENUM: run enumeration under R458 -/
def F.SHL_CTL_ENUM : Fld := ⟨R.SHL_CTL, 0, 1⟩
/-- SHL_CTL.UNASSIGN: broadcast UNASSIGN once no command is outstanding -/
def F.SHL_CTL_UNASSIGN : Fld := ⟨R.SHL_CTL, 1, 1⟩
/-- SHL_CTL.SLEEP: broadcast SLEEP under R469 -/
def F.SHL_CTL_SLEEP : Fld := ⟨R.SHL_CTL, 2, 1⟩
/-- SHL_CTL.WAKE: drive the wake tone under R469 -/
def F.SHL_CTL_WAKE : Fld := ⟨R.SHL_CTL, 3, 1⟩
/-- SHL_STAT, R485. -/
def R.SHL_STAT : Nat := 0x400C0010
/-- SHL_STAT.STATE: 0 OFF, 1 ENUM, 2 LOOP, 3 SPLIT -/
def F.SHL_STAT_STATE : Fld := ⟨R.SHL_STAT, 0, 2⟩
/-- SHL_STAT.LAST_A: under R452; 0 to 64 -/
def F.SHL_STAT_LAST_A : Fld := ⟨R.SHL_STAT, 8, 7⟩
/-- SHL_STAT.FIRST_B: under R452; 0 to 64 -/
def F.SHL_STAT_FIRST_B : Fld := ⟨R.SHL_STAT, 16, 7⟩
/-- SHL_STAT.QUIET_NA: quiet alignment unavailable under R463 -/
def F.SHL_STAT_QUIET_NA : Fld := ⟨R.SHL_STAT, 31, 1⟩
/-- SHL_EVT, R485. -/
def R.SHL_EVT : Nat := 0x400C0014
/-- SHL_EVT.EVT: bit 0 ENUM, 1 BREAK, 2 HEAL, 3 REVERSED, 4 STRANGER, 5 SKIP, 6 ENUM_FAULT, 7 TONE -/
def F.SHL_EVT_EVT : Fld := ⟨R.SHL_EVT, 0, 8⟩
/-- SHL_CNT, R485. -/
def R.SHL_CNT : Nat := 0x400C0018
/-- SHL_CNT.HCRC: header CRC failures at the master, saturating -/
def F.SHL_CNT_HCRC : Fld := ⟨R.SHL_CNT, 0, 16⟩
/-- SHL_CNT.RETRY: retries, saturating -/
def F.SHL_CNT_RETRY : Fld := ⟨R.SHL_CNT, 16, 16⟩
/-- SHL_CNT2, R485. -/
def R.SHL_CNT2 : Nat := 0x400C001C
/-- SHL_CNT2.SKIP: skipped cycles, saturating -/
def F.SHL_CNT2_SKIP : Fld := ⟨R.SHL_CNT2, 0, 16⟩
/-- SHL_CNT2.PCRC: payload CRC failures at the master, saturating -/
def F.SHL_CNT2_PCRC : Fld := ⟨R.SHL_CNT2, 16, 15⟩
/-- SHL_CNT2.CLR: writing 1 clears SHL_CNT and SHL_CNT2 -/
def F.SHL_CNT2_CLR : Fld := ⟨R.SHL_CNT2, 31, 1⟩
/-- SHL_LOOPDLY, R485. -/
def R.SHL_LOOPDLY : Nat := 0x400C0020
/-- SHL_LOOPDLY.DLY: SHL_A to SHL_B delay in edge-clock periods, measured in LOOP -/
def F.SHL_LOOPDLY_DLY : Fld := ⟨R.SHL_LOOPDLY, 0, 24⟩
/-- SHL_MB_CTL_m, R485. -/
def R.SHL_MB_CTL_m (m : Nat) : Nat := 0x400C0040 + 0x10 * m
/-- SHL_MB_CTL_m.ADDR: m = 0 to 3; target position or 127 -/
def F.SHL_MB_CTL_m_ADDR (m : Nat) : Fld := ⟨R.SHL_MB_CTL_m m, 0, 7⟩
/-- SHL_MB_CTL_m.OPCODE: under R472 -/
def F.SHL_MB_CTL_m_OPCODE (m : Nat) : Fld := ⟨R.SHL_MB_CTL_m m, 8, 8⟩
/-- SHL_MB_CTL_m.LEN: payload bytes -/
def F.SHL_MB_CTL_m_LEN (m : Nat) : Fld := ⟨R.SHL_MB_CTL_m m, 16, 7⟩
/-- SHL_MB_CTL_m.GO: queue the command -/
def F.SHL_MB_CTL_m_GO (m : Nat) : Fld := ⟨R.SHL_MB_CTL_m m, 31, 1⟩
/-- SHL_MB_BUF_m, R485. -/
def R.SHL_MB_BUF_m (m : Nat) : Nat := 0x400C0044 + 0x10 * m
/-- SHL_MB_BUF_m.ADDR: buffer in core SRAM, word-aligned -/
def F.SHL_MB_BUF_m_ADDR (m : Nat) : Fld := ⟨R.SHL_MB_BUF_m m, 2, 30⟩
/-- SHL_MB_RES_m, R485. -/
def R.SHL_MB_RES_m (m : Nat) : Nat := 0x400C0048 + 0x10 * m
/-- SHL_MB_RES_m.STATE: 0 IDLE, 1 QUEUED, 2 ACTIVE, 3 DONE -/
def F.SHL_MB_RES_m_STATE (m : Nat) : Fld := ⟨R.SHL_MB_RES_m m, 0, 2⟩
/-- SHL_MB_RES_m.RESULT: 0 REPLY, 1 UNREACHABLE, 2 REJECTED; 3 reserved, never written -/
def F.SHL_MB_RES_m_RESULT (m : Nat) : Fld := ⟨R.SHL_MB_RES_m m, 2, 2⟩
/-- SHL_MB_RES_m.STATUS: reply status of R445 -/
def F.SHL_MB_RES_m_STATUS (m : Nat) : Fld := ⟨R.SHL_MB_RES_m m, 8, 8⟩
/-- SHL_MB_RES_m.RLEN: reply payload bytes -/
def F.SHL_MB_RES_m_RLEN (m : Nat) : Fld := ⟨R.SHL_MB_RES_m m, 16, 7⟩
/-- SHL_MB_RES_m.SEQ: SEQ used; 0 for unsequenced -/
def F.SHL_MB_RES_m_SEQ (m : Nat) : Fld := ⟨R.SHL_MB_RES_m m, 24, 8⟩
/-- SHL_Ck_MAP, R485. -/
def R.SHL_Ck_MAP (k : Nat) : Nat := 0x400C0100 + 0x20 * (k - 1)
/-- SHL_Ck_MAP.BASE: first RSV cell of companion k -/
def F.SHL_Ck_MAP_BASE (k : Nat) : Fld := ⟨R.SHL_Ck_MAP k, 0, 5⟩
/-- SHL_Ck_MAP.NCELL: mapped cells; 0 unmapped, 6 to 18 -/
def F.SHL_Ck_MAP_NCELL (k : Nat) : Fld := ⟨R.SHL_Ck_MAP k, 8, 5⟩
/-- SHL_Ck_STAT, R485. -/
def R.SHL_Ck_STAT (k : Nat) : Nat := 0x400C0104 + 0x20 * (k - 1)
/-- SHL_Ck_STAT.REACH: 0 NOT_FOUND, 1 VIA_A, 2 VIA_B, 3 UNREACHABLE -/
def F.SHL_Ck_STAT_REACH (k : Nat) : Fld := ⟨R.SHL_Ck_STAT k, 0, 2⟩
/-- SHL_Ck_STAT.TRUST: 0 UNCHECKED, 1 ADOPTED, 2 STRANGER; 3 reserved, never read -/
def F.SHL_Ck_STAT_TRUST (k : Nat) : Fld := ⟨R.SHL_Ck_STAT k, 2, 2⟩
/-- SHL_Ck_STAT.WHY: code of R470 -/
def F.SHL_Ck_STAT_WHY (k : Nat) : Fld := ⟨R.SHL_Ck_STAT k, 4, 3⟩
/-- SHL_Ck_STAT.TSYNC: last sample carried TSYNC -/
def F.SHL_Ck_STAT_TSYNC (k : Nat) : Fld := ⟨R.SHL_Ck_STAT k, 7, 1⟩
/-- SHL_Ck_STAT.NEXTSEQ: NEXTSEQ as the master knows it -/
def F.SHL_Ck_STAT_NEXTSEQ (k : Nat) : Fld := ⟨R.SHL_Ck_STAT k, 8, 8⟩
/-- SHL_Ck_STAT.OUT: a sequenced command is outstanding -/
def F.SHL_Ck_STAT_OUT (k : Nat) : Fld := ⟨R.SHL_Ck_STAT k, 16, 1⟩
/-- SHL_Ck_STAT.PEND: an outcome awaits collection under R455 -/
def F.SHL_Ck_STAT_PEND (k : Nat) : Fld := ⟨R.SHL_Ck_STAT k, 17, 1⟩
/-- SHL_Ck_STAT.MAPERR: the companion's measured cell count differs from the map, under R466 -/
def F.SHL_Ck_STAT_MAPERR (k : Nat) : Fld := ⟨R.SHL_Ck_STAT k, 18, 1⟩
/-- SHL_Ck_DA, R485. -/
def R.SHL_Ck_DA (k : Nat) : Nat := 0x400C0108 + 0x20 * (k - 1)
/-- SHL_Ck_DA.DLY: delay from SHL_A in edge-clock periods; all ones unknown -/
def F.SHL_Ck_DA_DLY (k : Nat) : Fld := ⟨R.SHL_Ck_DA k, 0, 24⟩
/-- SHL_Ck_DB, R485. -/
def R.SHL_Ck_DB (k : Nat) : Nat := 0x400C010C + 0x20 * (k - 1)
/-- SHL_Ck_DB.DLY: delay from SHL_B, as SHL_Ck_DA -/
def F.SHL_Ck_DB_DLY (k : Nat) : Fld := ⟨R.SHL_Ck_DB k, 0, 24⟩
/-- SHL_Ck_TAGL, R485. -/
def R.SHL_Ck_TAGL (k : Nat) : Nat := 0x400C0110 + 0x20 * (k - 1)
/-- SHL_Ck_TAGL.TAG: ID tag [31:0] -/
def F.SHL_Ck_TAGL_TAG (k : Nat) : Fld := ⟨R.SHL_Ck_TAGL k, 0, 32⟩
/-- SHL_Ck_TAGH, R485. -/
def R.SHL_Ck_TAGH (k : Nat) : Nat := 0x400C0114 + 0x20 * (k - 1)
/-- SHL_Ck_TAGH.TAG: ID tag [63:32] -/
def F.SHL_Ck_TAGH_TAG (k : Nat) : Fld := ⟨R.SHL_Ck_TAGH k, 0, 32⟩
/-- SHL_Ck_OUTC, R485. -/
def R.SHL_Ck_OUTC (k : Nat) : Nat := 0x400C0118 + 0x20 * (k - 1)
/-- SHL_Ck_OUTC.SEQ: SEQ of the outcome -/
def F.SHL_Ck_OUTC_SEQ (k : Nat) : Fld := ⟨R.SHL_Ck_OUTC k, 0, 8⟩
/-- SHL_Ck_OUTC.KIND: 0 NONE, 1 EXECUTED, 2 NOT_EXECUTED, 3 LOST -/
def F.SHL_Ck_OUTC_KIND (k : Nat) : Fld := ⟨R.SHL_Ck_OUTC k, 8, 2⟩
/-- SHL_Ck_OUTC.STATUS: status of R455 -/
def F.SHL_Ck_OUTC_STATUS (k : Nat) : Fld := ⟨R.SHL_Ck_OUTC k, 16, 8⟩
/-- SHL_Ck_OUTC.LASTOP: opcode of the outcome -/
def F.SHL_Ck_OUTC_LASTOP (k : Nat) : Fld := ⟨R.SHL_Ck_OUTC k, 24, 8⟩
/-- SHL_Ck_SAMP, R485. -/
def R.SHL_Ck_SAMP (k : Nat) : Nat := 0x400C011C + 0x20 * (k - 1)
/-- SHL_Ck_SAMP.ID: sample ID of the last checked reading -/
def F.SHL_Ck_SAMP_ID (k : Nat) : Fld := ⟨R.SHL_Ck_SAMP k, 0, 16⟩
/-- SHL_Ck_SAMP.AGE: blocks since that reading, saturating -/
def F.SHL_Ck_SAMP_AGE (k : Nat) : Fld := ⟨R.SHL_Ck_SAMP k, 16, 16⟩
/-- XM_ID, R520. -/
def R.XM_ID : Nat := 0x100000000
/-- XM_ID.REV: 0x0 B0 -/
def F.XM_ID_REV : Fld := ⟨R.XM_ID, 0, 4⟩
/-- XM_ID.PART: part number -/
def F.XM_ID_PART : Fld := ⟨R.XM_ID, 8, 8⟩
/-- XM_CFG, R520. -/
def R.XM_CFG : Nat := 0x100000001
/-- XM_CFG.NCELL: cells, 6 to 18 -/
def F.XM_CFG_NCELL : Fld := ⟨R.XM_CFG, 0, 5⟩
/-- XM_CFG.NTC1_EN: NTC 1 used -/
def F.XM_CFG_NTC1_EN : Fld := ⟨R.XM_CFG, 8, 1⟩
/-- XM_CFG.NTC2_EN: NTC 2 used -/
def F.XM_CFG_NTC2_EN : Fld := ⟨R.XM_CFG, 9, 1⟩
/-- XM_STAT, R520. -/
def R.XM_STAT : Nat := 0x100000002
/-- XM_STAT.FLAGS: bit 0 REF_SUSPECT, 1 REF_FAULT, 2 TSYNC, 3 OPEN_WIRE, 4 BALANCING -/
def F.XM_STAT_FLAGS : Fld := ⟨R.XM_STAT, 0, 5⟩
/-- XM_STAT.LEVEL: 0 NORMAL, 1 WARN, 2 FAULT; 3 reserved, never read -/
def F.XM_STAT_LEVEL : Fld := ⟨R.XM_STAT, 5, 2⟩
/-- XM_STAT.ATTR: 0 NONE, 1 MAIN, 2 AUX, 3 BOTH -/
def F.XM_STAT_ATTR : Fld := ⟨R.XM_STAT, 7, 2⟩
/-- XM_STAT.LOCK: balancing locked -/
def F.XM_STAT_LOCK : Fld := ⟨R.XM_STAT, 9, 1⟩
/-- XM_STAT.BAL_PAUSE: thermal pause under R500 -/
def F.XM_STAT_BAL_PAUSE : Fld := ⟨R.XM_STAT, 10, 1⟩
/-- XM_ERRCNT, R520. -/
def R.XM_ERRCNT : Nat := 0x100000004
/-- XM_ERRCNT.HCRC: header CRC failures under R439, saturating -/
def F.XM_ERRCNT_HCRC : Fld := ⟨R.XM_ERRCNT, 0, 8⟩
/-- XM_ERRCNT.LATE: ignored SAMPLE_AT, saturating -/
def F.XM_ERRCNT_LATE : Fld := ⟨R.XM_ERRCNT, 8, 8⟩
/-- XM_DLYA_L, R520. -/
def R.XM_DLYA_L : Nat := 0x100000008
/-- XM_DLYA_L.DLY: delay from SHL_A [15:0] -/
def F.XM_DLYA_L_DLY : Fld := ⟨R.XM_DLYA_L, 0, 16⟩
/-- XM_DLYA_H, R520. -/
def R.XM_DLYA_H : Nat := 0x100000009
/-- XM_DLYA_H.DLY: delay from SHL_A [23:16] -/
def F.XM_DLYA_H_DLY : Fld := ⟨R.XM_DLYA_H, 0, 8⟩
/-- XM_DLYB_L, R520. -/
def R.XM_DLYB_L : Nat := 0x10000000A
/-- XM_DLYB_L.DLY: delay from SHL_B [15:0] -/
def F.XM_DLYB_L_DLY : Fld := ⟨R.XM_DLYB_L, 0, 16⟩
/-- XM_DLYB_H, R520. -/
def R.XM_DLYB_H : Nat := 0x10000000B
/-- XM_DLYB_H.DLY: delay from SHL_B [23:16] -/
def F.XM_DLYB_H_DLY : Fld := ⟨R.XM_DLYB_H, 0, 8⟩
/-- XM_CTIME_L, R520. -/
def R.XM_CTIME_L : Nat := 0x10000000C
/-- XM_CTIME_L.US: chain time [15:0] in µs; a read latches XM_CTIME_H -/
def F.XM_CTIME_L_US : Fld := ⟨R.XM_CTIME_L, 0, 16⟩
/-- XM_CTIME_H, R520. -/
def R.XM_CTIME_H : Nat := 0x10000000D
/-- XM_CTIME_H.US: chain time [31:16] -/
def F.XM_CTIME_H_US : Fld := ⟨R.XM_CTIME_H, 0, 16⟩
/-- XM_SAMPID, R520. -/
def R.XM_SAMPID : Nat := 0x10000000E
/-- XM_SAMPID.ID: latched sample ID -/
def F.XM_SAMPID_ID : Fld := ⟨R.XM_SAMPID, 0, 16⟩
/-- XM_CELL_i, R520. -/
def R.XM_CELL_i (i : Nat) : Nat := 0x100000010 + (i - 1)
/-- XM_CELL_i.V: i = 1 to 18; fine reading in 0.1 mV -/
def F.XM_CELL_i_V (i : Nat) : Fld := ⟨R.XM_CELL_i i, 0, 16⟩
/-- XM_CRS_i, R520. -/
def R.XM_CRS_i (i : Nat) : Nat := 0x100000028 + (i - 1)
/-- XM_CRS_i.V: i = 1 to 18; coarse reading in 5 mV -/
def F.XM_CRS_i_V (i : Nat) : Fld := ⟨R.XM_CRS_i i, 0, 10⟩
/-- XM_FSUM, R520. -/
def R.XM_FSUM : Nat := 0x100000040
/-- XM_FSUM.V: sum of fine cells in 2 mV -/
def F.XM_FSUM_V : Fld := ⟨R.XM_FSUM, 0, 16⟩
/-- XM_TOTAL, R520. -/
def R.XM_TOTAL : Nat := 0x100000041
/-- XM_TOTAL.V: module total in 2 mV -/
def F.XM_TOTAL_V : Fld := ⟨R.XM_TOTAL, 0, 16⟩
/-- XM_NTC1, R520. -/
def R.XM_NTC1 : Nat := 0x100000042
/-- XM_NTC1.T: signed 0.1 °C -/
def F.XM_NTC1_T : Fld := ⟨R.XM_NTC1, 0, 16⟩
/-- XM_NTC2, R520. -/
def R.XM_NTC2 : Nat := 0x100000043
/-- XM_NTC2.T: signed 0.1 °C -/
def F.XM_NTC2_T : Fld := ⟨R.XM_NTC2, 0, 16⟩
/-- XM_DIE, R520. -/
def R.XM_DIE : Nat := 0x100000044
/-- XM_DIE.T: signed 0.1 °C -/
def F.XM_DIE_T : Fld := ⟨R.XM_DIE, 0, 16⟩
/-- XM_REF_LIM, R520. -/
def R.XM_REF_LIM : Nat := 0x100000048
/-- XM_REF_LIM.WARN: in 10 ppm -/
def F.XM_REF_LIM_WARN : Fld := ⟨R.XM_REF_LIM, 0, 8⟩
/-- XM_REF_LIM.FAULT: in 10 ppm -/
def F.XM_REF_LIM_FAULT : Fld := ⟨R.XM_REF_LIM, 8, 8⟩
/-- XM_REF_TRK, R520. -/
def R.XM_REF_TRK : Nat := 0x100000049
/-- XM_REF_TRK.TC: tracker weight 2^−TC -/
def F.XM_REF_TRK_TC : Fld := ⟨R.XM_REF_TRK, 0, 4⟩
/-- XM_REF_DEV, R520. -/
def R.XM_REF_DEV : Nat := 0x10000004A
/-- XM_REF_DEV.DEV: signed ppm -/
def F.XM_REF_DEV_DEV : Fld := ⟨R.XM_REF_DEV, 0, 16⟩
/-- XM_REF_SLOPE, R520. -/
def R.XM_REF_SLOPE : Nat := 0x10000004B
/-- XM_REF_SLOPE.SLOPE: signed ppm per hour -/
def F.XM_REF_SLOPE_SLOPE : Fld := ⟨R.XM_REF_SLOPE, 0, 16⟩
/-- XM_VTOL, R520. -/
def R.XM_VTOL : Nat := 0x10000004C
/-- XM_VTOL.V: vote tolerance in mV -/
def F.XM_VTOL_V : Fld := ⟨R.XM_VTOL, 0, 8⟩
/-- XM_SHARE, R520. -/
def R.XM_SHARE : Nat := 0x10000004E
/-- XM_SHARE.V: E3 in 2 mV -/
def F.XM_SHARE_V : Fld := ⟨R.XM_SHARE, 0, 16⟩
/-- XM_SHARE_ID, R520. -/
def R.XM_SHARE_ID : Nat := 0x10000004F
/-- XM_SHARE_ID.ID: sample of E3; a matching write votes under R495 -/
def F.XM_SHARE_ID_ID : Fld := ⟨R.XM_SHARE_ID, 0, 16⟩
/-- XM_BAL_EN_L, R520. -/
def R.XM_BAL_EN_L : Nat := 0x100000050
/-- XM_BAL_EN_L.EN: cells 1 to 16 -/
def F.XM_BAL_EN_L_EN : Fld := ⟨R.XM_BAL_EN_L, 0, 16⟩
/-- XM_BAL_EN_H, R520. -/
def R.XM_BAL_EN_H : Nat := 0x100000051
/-- XM_BAL_EN_H.EN: cells 17 and 18 -/
def F.XM_BAL_EN_H_EN : Fld := ⟨R.XM_BAL_EN_H, 0, 2⟩
/-- XM_BAL_CTL, R520. -/
def R.XM_BAL_CTL : Nat := 0x100000052
/-- XM_BAL_CTL.MAX: switches closed at once, 1 to 9 -/
def F.XM_BAL_CTL_MAX : Fld := ⟨R.XM_BAL_CTL, 0, 4⟩
/-- XM_BAL_CTL.TDIE: pause level in °C -/
def F.XM_BAL_CTL_TDIE : Fld := ⟨R.XM_BAL_CTL, 8, 8⟩
/-- XM_BAL_KEY, R520. -/
def R.XM_BAL_KEY : Nat := 0x100000053
/-- XM_BAL_KEY.KEY: 0x5A0F stop and lock; 0xA5F0 unlock -/
def F.XM_BAL_KEY_KEY : Fld := ⟨R.XM_BAL_KEY, 0, 16⟩
/-- XM_BAL_ACT_L, R520. -/
def R.XM_BAL_ACT_L : Nat := 0x100000054
/-- XM_BAL_ACT_L.ACT: switches closed, cells 1 to 16 -/
def F.XM_BAL_ACT_L_ACT : Fld := ⟨R.XM_BAL_ACT_L, 0, 16⟩
/-- XM_BAL_ACT_H, R520. -/
def R.XM_BAL_ACT_H : Nat := 0x100000055
/-- XM_BAL_ACT_H.ACT: cells 17 and 18 -/
def F.XM_BAL_ACT_H_ACT : Fld := ⟨R.XM_BAL_ACT_H, 0, 2⟩
/-- XM_BAL_T_i, R520. -/
def R.XM_BAL_T_i (i : Nat) : Nat := 0x100000058 + (i - 1)
/-- XM_BAL_T_i.MIN: i = 1 to 18; bleed time in minutes, 1 to 255 -/
def F.XM_BAL_T_i_MIN (i : Nat) : Fld := ⟨R.XM_BAL_T_i i, 0, 8⟩
/-- XM_PLAUS_L, R520. -/
def R.XM_PLAUS_L : Nat := 0x100000070
/-- XM_PLAUS_L.CELLS: cells 1 to 16 failing R498 -/
def F.XM_PLAUS_L_CELLS : Fld := ⟨R.XM_PLAUS_L, 0, 16⟩
/-- XM_PLAUS_H, R520. -/
def R.XM_PLAUS_H : Nat := 0x100000071
/-- XM_PLAUS_H.CELLS: cells 17 and 18 -/
def F.XM_PLAUS_H_CELLS : Fld := ⟨R.XM_PLAUS_H, 0, 2⟩
/-- XM_PLTOL, R520. -/
def R.XM_PLTOL : Nat := 0x100000072
/-- XM_PLTOL.V: tolerance in mV -/
def F.XM_PLTOL_V : Fld := ⟨R.XM_PLTOL, 0, 8⟩
/-- XM_OW_CTL, R520. -/
def R.XM_OW_CTL : Nat := 0x100000074
/-- XM_OW_CTL.GO: run a test under R503 -/
def F.XM_OW_CTL_GO : Fld := ⟨R.XM_OW_CTL, 0, 1⟩
/-- XM_OW_CTL.AUTO: test every AUTO × 16 cycles; 0 off -/
def F.XM_OW_CTL_AUTO : Fld := ⟨R.XM_OW_CTL, 4, 4⟩
/-- XM_OW_CTL.OWT: test current time in ms -/
def F.XM_OW_CTL_OWT : Fld := ⟨R.XM_OW_CTL, 8, 8⟩
/-- XM_OW_RES_L, R520. -/
def R.XM_OW_RES_L : Nat := 0x100000075
/-- XM_OW_RES_L.WIRES: wires 0 to 15 open -/
def F.XM_OW_RES_L_WIRES : Fld := ⟨R.XM_OW_RES_L, 0, 16⟩
/-- XM_OW_RES_H, R520. -/
def R.XM_OW_RES_H : Nat := 0x100000076
/-- XM_OW_RES_H.WIRES: wires 16 to 18 open -/
def F.XM_OW_RES_H_WIRES : Fld := ⟨R.XM_OW_RES_H, 0, 3⟩
/-- XM_OW_THR, R520. -/
def R.XM_OW_THR : Nat := 0x100000077
/-- XM_OW_THR.V: judgement level in 10 mV -/
def F.XM_OW_THR_V : Fld := ⟨R.XM_OW_THR, 0, 8⟩
/-- XM_SLP_INT, R520. -/
def R.XM_SLP_INT : Nat := 0x100000078
/-- XM_SLP_INT.INT: window check interval in s -/
def F.XM_SLP_INT_INT : Fld := ⟨R.XM_SLP_INT, 0, 12⟩
/-- XM_SLP_WIN, R520. -/
def R.XM_SLP_WIN : Nat := 0x100000079
/-- XM_SLP_WIN.LO: lower window in 20 mV -/
def F.XM_SLP_WIN_LO : Fld := ⟨R.XM_SLP_WIN, 0, 8⟩
/-- XM_SLP_WIN.HI: upper window in 20 mV -/
def F.XM_SLP_WIN_HI : Fld := ⟨R.XM_SLP_WIN, 8, 8⟩
/-- XM_SLP_TMAX, R520. -/
def R.XM_SLP_TMAX : Nat := 0x10000007A
/-- XM_SLP_TMAX.T: wake temperature in °C -/
def F.XM_SLP_TMAX_T : Fld := ⟨R.XM_SLP_TMAX, 0, 8⟩
/-- XM_WAKE_WHY, R520. -/
def R.XM_WAKE_WHY : Nat := 0x10000007B
/-- XM_WAKE_WHY.WHY: bit 0 TONE, 1 LOW, 2 HIGH, 3 TEMP; cleared by the next SLEEP -/
def F.XM_WAKE_WHY_WHY : Fld := ⟨R.XM_WAKE_WHY, 0, 4⟩
/-- TRN_CFG, R567. -/
def R.TRN_CFG : Nat := 0x400D0000
/-- TRN_CFG.EN: ring membership under R558 -/
def F.TRN_CFG_EN : Fld := ⟨R.TRN_CFG, 0, 1⟩
/-- TRN_CFG.MCAND: may become master under R549 -/
def F.TRN_CFG_MCAND : Fld := ⟨R.TRN_CFG, 1, 1⟩
/-- TRN_CFG.HEAL: heal dwell in 96 frames -/
def F.TRN_CFG_HEAL : Fld := ⟨R.TRN_CFG, 8, 8⟩
/-- TRN_RING, R567. -/
def R.TRN_RING : Nat := 0x400D0004
/-- TRN_RING.PDELAY: presentation delay in samples, 58 to 511, used as master -/
def F.TRN_RING_PDELAY : Fld := ⟨R.TRN_RING, 0, 9⟩
/-- TRN_RING.RECIRC: recirculation in frames, used as master -/
def F.TRN_RING_RECIRC : Fld := ⟨R.TRN_RING, 16, 4⟩
/-- TRN_SKEW, R567. -/
def R.TRN_SKEW : Nat := 0x400D0008
/-- TRN_SKEW.W: signed cable correction of TRN_W in 1/16 period -/
def F.TRN_SKEW_W : Fld := ⟨R.TRN_SKEW, 0, 16⟩
/-- TRN_SKEW.E: as W, for TRN_E -/
def F.TRN_SKEW_E : Fld := ⟨R.TRN_SKEW, 16, 16⟩
/-- TRN_STAT, R567. -/
def R.TRN_STAT : Nat := 0x400D0010
/-- TRN_STAT.ROLE: 0 NONE, 1 JOINING, 2 SLAVE, 3 MASTER -/
def F.TRN_STAT_ROLE : Fld := ⟨R.TRN_STAT, 0, 2⟩
/-- TRN_STAT.MODE: 0 OFF, 1 NORMAL, 2 WRAP_E, 3 WRAP_W, 4 ISOLATED, 5 REPEAT, 6 LOOPBACK; 7 reserved, never read -/
def F.TRN_STAT_MODE : Fld := ⟨R.TRN_STAT, 2, 3⟩
/-- TRN_STAT.LOCK: ring lock under R532 -/
def F.TRN_STAT_LOCK : Fld := ⟨R.TRN_STAT, 5, 1⟩
/-- TRN_STAT.TRUST: 0 UNCHECKED, 1 ADOPTED, 2 STRANGER; 3 reserved, never read -/
def F.TRN_STAT_TRUST : Fld := ⟨R.TRN_STAT, 6, 2⟩
/-- TRN_STAT.LATE: under R540 -/
def F.TRN_STAT_LATE : Fld := ⟨R.TRN_STAT, 8, 1⟩
/-- TRN_STAT.CMISM: under R533 -/
def F.TRN_STAT_CMISM : Fld := ⟨R.TRN_STAT, 9, 1⟩
/-- TRN_STAT.LINK: bit 0 TRN_W UP, bit 1 TRN_E UP -/
def F.TRN_STAT_LINK : Fld := ⟨R.TRN_STAT, 10, 2⟩
/-- TRN_STAT.NODE: own node number -/
def F.TRN_STAT_NODE : Fld := ⟨R.TRN_STAT, 16, 7⟩
/-- TRN_STAT.NUMV: NODE is valid -/
def F.TRN_STAT_NUMV : Fld := ⟨R.TRN_STAT, 23, 1⟩
/-- TRN_EVT, R567. -/
def R.TRN_EVT : Nat := 0x400D0014
/-- TRN_EVT.EVT: bit 0 LOCK, 1 WRAP, 2 HEAL, 3 JOIN, 4 LEAVE, 5 STRANGER, 6 MASTER, 7 CRC, 8 APP, 9 LATE, 10 CMISM, 11 CONFLICT, 12 UNDELIV, 13 UNKNOWN -/
def F.TRN_EVT_EVT : Fld := ⟨R.TRN_EVT, 0, 14⟩
/-- TRN_PATH, R567. -/
def R.TRN_PATH : Nat := 0x400D0018
/-- TRN_PATH.PATH: PATH_rx in 1/16 period -/
def F.TRN_PATH_PATH : Fld := ⟨R.TRN_PATH, 0, 20⟩
/-- TRN_CBL_W, R567. -/
def R.TRN_CBL_W : Nat := 0x400D001C
/-- TRN_CBL_W.DLY: cable delay of TRN_W in 1/16 period; all ones unknown -/
def F.TRN_CBL_W_DLY : Fld := ⟨R.TRN_CBL_W, 0, 16⟩
/-- TRN_CBL_E, R567. -/
def R.TRN_CBL_E : Nat := 0x400D0020
/-- TRN_CBL_E.DLY: as TRN_CBL_W, for TRN_E -/
def F.TRN_CBL_E_DLY : Fld := ⟨R.TRN_CBL_E, 0, 16⟩
/-- TRN_NEED, R567. -/
def R.TRN_NEED : Nat := 0x400D0024
/-- TRN_NEED.D: required delay of R539 -/
def F.TRN_NEED_D : Fld := ⟨R.TRN_NEED, 0, 9⟩
/-- TRN_NEED.H: hold in frames -/
def F.TRN_NEED_H : Fld := ⟨R.TRN_NEED, 16, 9⟩
/-- TRN_LOOP, R567. -/
def R.TRN_LOOP : Nat := 0x400D0028
/-- TRN_LOOP.LOOP: master: return delay in 1/16 period -/
def F.TRN_LOOP_LOOP : Fld := ⟨R.TRN_LOOP, 0, 20⟩
/-- TRN_MTAGL, R567. -/
def R.TRN_MTAGL : Nat := 0x400D002C
/-- TRN_MTAGL.TAG: master tag [31:0] -/
def F.TRN_MTAGL_TAG : Fld := ⟨R.TRN_MTAGL, 0, 32⟩
/-- TRN_MTAGH, R567. -/
def R.TRN_MTAGH : Nat := 0x400D0030
/-- TRN_MTAGH.TAG: master tag [63:32] -/
def F.TRN_MTAGH_TAG : Fld := ⟨R.TRN_MTAGH, 0, 32⟩
/-- TRN_MASTER, R567. -/
def R.TRN_MASTER : Nat := 0x400D0034
/-- TRN_MASTER.NODE: master's node number -/
def F.TRN_MASTER_NODE : Fld := ⟨R.TRN_MASTER, 0, 7⟩
/-- TRN_MASTER.RANK: own rank under R549; 0 not a candidate -/
def F.TRN_MASTER_RANK : Fld := ⟨R.TRN_MASTER, 8, 7⟩
/-- TRN_ROSTER, R567. -/
def R.TRN_ROSTER : Nat := 0x400D0038
/-- TRN_ROSTER.GEN: roster generation in force -/
def F.TRN_ROSTER_GEN : Fld := ⟨R.TRN_ROSTER, 0, 32⟩
/-- TRN_CRC_W, R567. -/
def R.TRN_CRC_W : Nat := 0x400D0040
/-- TRN_CRC_W.LOCAL: local errors on TRN_W RX, saturating -/
def F.TRN_CRC_W_LOCAL : Fld := ⟨R.TRN_CRC_W, 0, 16⟩
/-- TRN_CRC_W.UPSTR: stomped CRCs on TRN_W RX, saturating -/
def F.TRN_CRC_W_UPSTR : Fld := ⟨R.TRN_CRC_W, 16, 16⟩
/-- TRN_CRC_E, R567. -/
def R.TRN_CRC_E : Nat := 0x400D0044
/-- TRN_CRC_E.LOCAL: local errors on TRN_E RX, saturating -/
def F.TRN_CRC_E_LOCAL : Fld := ⟨R.TRN_CRC_E, 0, 16⟩
/-- TRN_CRC_E.UPSTR: stomped CRCs on TRN_E RX, saturating -/
def F.TRN_CRC_E_UPSTR : Fld := ⟨R.TRN_CRC_E, 16, 16⟩
/-- TRN_CNT_CLR, R567. -/
def R.TRN_CNT_CLR : Nat := 0x400D0048
/-- TRN_CNT_CLR.CLR: writing 1 clears TRN_CRC_W, TRN_CRC_E and TRN_MSGCNT -/
def F.TRN_CNT_CLR_CLR : Fld := ⟨R.TRN_CNT_CLR, 0, 1⟩
/-- TRN_MSGCNT, R567. -/
def R.TRN_MSGCNT : Nat := 0x400D004C
/-- TRN_MSGCNT.UNKNOWN: message counts under R543 to R548 and R553, saturating -/
def F.TRN_MSGCNT_UNKNOWN : Fld := ⟨R.TRN_MSGCNT, 0, 8⟩
/-- TRN_MSGCNT.DROP: message counts under R543 to R548 and R553, saturating -/
def F.TRN_MSGCNT_DROP : Fld := ⟨R.TRN_MSGCNT, 8, 8⟩
/-- TRN_MSGCNT.UNDELIV: message counts under R543 to R548 and R553, saturating -/
def F.TRN_MSGCNT_UNDELIV : Fld := ⟨R.TRN_MSGCNT, 16, 8⟩
/-- TRN_MSGCNT.REASM: message counts under R543 to R548 and R553, saturating -/
def F.TRN_MSGCNT_REASM : Fld := ⟨R.TRN_MSGCNT, 24, 8⟩
/-- TRN_TX_i, R567. -/
def R.TRN_TX_i (i : Nat) : Nat := 0x400D0080 + 0x4 * i
/-- TRN_TX_i.SLOT: i = 0 to 15; slot written -/
def F.TRN_TX_i_SLOT (i : Nat) : Fld := ⟨R.TRN_TX_i i, 0, 7⟩
/-- TRN_TX_i.SRC: source under R534 -/
def F.TRN_TX_i_SRC (i : Nat) : Fld := ⟨R.TRN_TX_i i, 8, 2⟩
/-- TRN_TX_i.INDEX: lane or channel -/
def F.TRN_TX_i_INDEX (i : Nat) : Fld := ⟨R.TRN_TX_i i, 10, 5⟩
/-- TRN_TX_i.ACTIVE: the entry writes now; cleared under R535 -/
def F.TRN_TX_i_ACTIVE (i : Nat) : Fld := ⟨R.TRN_TX_i i, 15, 1⟩
/-- TRN_LANEERR_n, R567. -/
def R.TRN_LANEERR_n (n : Nat) : Nat := 0x400D0100 + 0x4 * n
/-- TRN_LANEERR_n.COUNT: n = 0 to 31; substituted samples, saturating -/
def F.TRN_LANEERR_n_COUNT (n : Nat) : Fld := ⟨R.TRN_LANEERR_n n, 0, 16⟩
/-- TRN_LANEERR_n.CLR: writing 1 clears COUNT -/
def F.TRN_LANEERR_n_CLR (n : Nat) : Fld := ⟨R.TRN_LANEERR_n n, 31, 1⟩
/-- TRN_APP_TX, R567. -/
def R.TRN_APP_TX : Nat := 0x400D0200
/-- TRN_APP_TX.DST: destination under R542 -/
def F.TRN_APP_TX_DST : Fld := ⟨R.TRN_APP_TX, 0, 8⟩
/-- TRN_APP_TX.LEN: payload bytes, 0 to 256 -/
def F.TRN_APP_TX_LEN : Fld := ⟨R.TRN_APP_TX, 8, 9⟩
/-- TRN_APP_TX.STATE: 0 IDLE, 1 QUEUED, 2 SENT; 3 reserved, never read -/
def F.TRN_APP_TX_STATE : Fld := ⟨R.TRN_APP_TX, 24, 2⟩
/-- TRN_APP_TX.GO: queue the message -/
def F.TRN_APP_TX_GO : Fld := ⟨R.TRN_APP_TX, 31, 1⟩
/-- TRN_APP_TXBUF, R567. -/
def R.TRN_APP_TXBUF : Nat := 0x400D0204
/-- TRN_APP_TXBUF.ADDR: payload in core SRAM, word-aligned -/
def F.TRN_APP_TXBUF_ADDR : Fld := ⟨R.TRN_APP_TXBUF, 2, 30⟩
/-- TRN_APP_RX, R567. -/
def R.TRN_APP_RX : Nat := 0x400D0208
/-- TRN_APP_RX.SRC: sender of the message held -/
def F.TRN_APP_RX_SRC : Fld := ⟨R.TRN_APP_RX, 0, 7⟩
/-- TRN_APP_RX.LEN: payload bytes -/
def F.TRN_APP_RX_LEN : Fld := ⟨R.TRN_APP_RX, 8, 9⟩
/-- TRN_APP_RX.VALID: a message is held; writing 1 releases the buffer -/
def F.TRN_APP_RX_VALID : Fld := ⟨R.TRN_APP_RX, 31, 1⟩
/-- TRN_APP_RXBUF, R567. -/
def R.TRN_APP_RXBUF : Nat := 0x400D020C
/-- TRN_APP_RXBUF.ADDR: receive buffer of 256 bytes in core SRAM -/
def F.TRN_APP_RXBUF_ADDR : Fld := ⟨R.TRN_APP_RXBUF, 2, 30⟩
/-- TRN_NODE_k, R567. -/
def R.TRN_NODE_k (k : Nat) : Nat := 0x400D0400 + 0x4 * k
/-- TRN_NODE_k.STATE: k = 0 to 127; 0 ABSENT, 1 ADOPTED, 2 STRANGER, 3 JOINING -/
def F.TRN_NODE_k_STATE (k : Nat) : Fld := ⟨R.TRN_NODE_k k, 0, 2⟩
/-- TRN_NODE_k.MEN: master candidate -/
def F.TRN_NODE_k_MEN (k : Nat) : Fld := ⟨R.TRN_NODE_k k, 2, 1⟩
/-- TRN_NODE_k.LATE: announced LATE -/
def F.TRN_NODE_k_LATE (k : Nat) : Fld := ⟨R.TRN_NODE_k k, 3, 1⟩
/-- TRN_NODE_k.CMISM: announced CMISM -/
def F.TRN_NODE_k_CMISM (k : Nat) : Fld := ⟨R.TRN_NODE_k k, 4, 1⟩
/-- TRN_NODE_k.PATH: announced PATH_rx in whole periods -/
def F.TRN_NODE_k_PATH (k : Nat) : Fld := ⟨R.TRN_NODE_k k, 16, 16⟩
/-- HPx_CFG, R617. -/
def R.HP_CFG (x : Nat) : Nat := 0x400E0000 + 0x10000 * x
/-- HPx_CFG.EN: port enabled; while 0, CS_N is ignored and relayed frames of the client are still served -/
def F.HP_CFG_EN (x : Nat) : Fld := ⟨R.HP_CFG x, 0, 1⟩
/-- HPx_CFG.NOTIFY: notifications under R593 -/
def F.HP_CFG_NOTIFY (x : Nat) : Fld := ⟨R.HP_CFG x, 1, 1⟩
/-- HPx_CFG.FWOP: APP opcodes passed to firmware under R591 -/
def F.HP_CFG_FWOP (x : Nat) : Fld := ⟨R.HP_CFG x, 2, 1⟩
/-- HPx_CFG.RETX: notification resend interval in ms, 1 to 255 -/
def F.HP_CFG_RETX (x : Nat) : Fld := ⟨R.HP_CFG x, 8, 8⟩
/-- HPx_PRIV, R617. -/
def R.HP_PRIV (x : Nat) : Nat := 0x400E0004 + 0x10000 * x
/-- HPx_PRIV.MASK: bit 0 AUDIO, 1 MAINT, 2 SAFETY, 3 CELLS, 4 READ; changed only by SET_PRIV -/
def F.HP_PRIV_MASK (x : Nat) : Fld := ⟨R.HP_PRIV x, 0, 5⟩
/-- HPx_SEQ, R617. -/
def R.HP_SEQ (x : Nat) : Nat := 0x400E0008 + 0x10000 * x
/-- HPx_SEQ.EXP: next expected CLIENT_SEQ -/
def F.HP_SEQ_EXP (x : Nat) : Fld := ⟨R.HP_SEQ x, 0, 16⟩
/-- HPx_SEQ.SYNCED: client synchronised under R578 -/
def F.HP_SEQ_SYNCED (x : Nat) : Fld := ⟨R.HP_SEQ x, 16, 1⟩
/-- HPx_QSTAT, R617. -/
def R.HP_QSTAT (x : Nat) : Nat := 0x400E000C + 0x10000 * x
/-- HPx_QSTAT.QUEUED: commands queued or executing, 0 to 8 -/
def F.HP_QSTAT_QUEUED (x : Nat) : Fld := ⟨R.HP_QSTAT x, 0, 4⟩
/-- HPx_QSTAT.OUT: bytes in the port's output queue -/
def F.HP_QSTAT_OUT (x : Nat) : Fld := ⟨R.HP_QSTAT x, 16, 13⟩
/-- HPx_QSTAT.STALL: stalled under R573 -/
def F.HP_QSTAT_STALL (x : Nat) : Fld := ⟨R.HP_QSTAT x, 31, 1⟩
/-- HPx_CONV, R617. -/
def R.HP_CONV (x : Nat) : Nat := 0x400E0010 + 0x10000 * x
/-- HPx_CONV.OPEN: bit c − 1: conversation c open -/
def F.HP_CONV_OPEN (x : Nat) : Fld := ⟨R.HP_CONV x, 0, 4⟩
/-- HPx_CONV.KIND: bits [2c + 7:2c + 6]: kind code of conversation c -/
def F.HP_CONV_KIND (x : Nat) : Fld := ⟨R.HP_CONV x, 8, 8⟩
/-- HPx_LEASE, R617. -/
def R.HP_LEASE (x : Nat) : Nat := 0x400E0014 + 0x10000 * x
/-- HPx_LEASE.STATE: 0 FREE, 1 HELD, 2 EXPIRED; 3 reserved, never read -/
def F.HP_LEASE_STATE (x : Nat) : Fld := ⟨R.HP_LEASE x, 0, 2⟩
/-- HPx_LEASE.HOLDER: 0 none, 1 A, 2 B; 3 reserved, never read -/
def F.HP_LEASE_HOLDER (x : Nat) : Fld := ⟨R.HP_LEASE x, 2, 2⟩
/-- HPx_LEASE.REMAIN: ms left on the timer, 0 to 500 -/
def F.HP_LEASE_REMAIN (x : Nat) : Fld := ⟨R.HP_LEASE x, 16, 10⟩
/-- HPx_CNT, R617. -/
def R.HP_CNT (x : Nat) : Nat := 0x400E0018 + 0x10000 * x
/-- HPx_CNT.HCRC: header CRC failures, saturating -/
def F.HP_CNT_HCRC (x : Nat) : Fld := ⟨R.HP_CNT x, 0, 8⟩
/-- HPx_CNT.PCRC: payload CRC failures, saturating -/
def F.HP_CNT_PCRC (x : Nat) : Fld := ⟨R.HP_CNT x, 8, 8⟩
/-- HPx_CNT.OVR: input overruns, saturating -/
def F.HP_CNT_OVR (x : Nat) : Fld := ⟨R.HP_CNT x, 16, 8⟩
/-- HPx_CNT.NAKSEQ: NAK_SEQ answers, saturating -/
def F.HP_CNT_NAKSEQ (x : Nat) : Fld := ⟨R.HP_CNT x, 24, 8⟩
/-- HPx_CNT2, R617. -/
def R.HP_CNT2 (x : Nat) : Nat := 0x400E001C + 0x10000 * x
/-- HPx_CNT2.FRAMELEN: FRAME_LEN answers, saturating -/
def F.HP_CNT2_FRAMELEN (x : Nat) : Fld := ⟨R.HP_CNT2 x, 0, 8⟩
/-- HPx_CNT2.CONVTO: conversation timeouts, saturating -/
def F.HP_CNT2_CONVTO (x : Nat) : Fld := ⟨R.HP_CNT2 x, 8, 8⟩
/-- HPx_CNT2.RELAYLATE: late relay responses, saturating -/
def F.HP_CNT2_RELAYLATE (x : Nat) : Fld := ⟨R.HP_CNT2 x, 16, 8⟩
/-- HPx_CNT2.CLR: writing 1 clears HPx_CNT and HPx_CNT2 -/
def F.HP_CNT2_CLR (x : Nat) : Fld := ⟨R.HP_CNT2 x, 31, 1⟩
/-- HPx_NTF, R617. -/
def R.HP_NTF (x : Nat) : Nat := 0x400E0020 + 0x10000 * x
/-- HPx_NTF.NSEQ: NSEQ of the next notification -/
def F.HP_NTF_NSEQ (x : Nat) : Fld := ⟨R.HP_NTF x, 0, 16⟩
/-- HPx_NTF.OUT: notifications outstanding, 0 to 8 -/
def F.HP_NTF_OUT (x : Nat) : Fld := ⟨R.HP_NTF x, 16, 4⟩
/-- HPx_FW_BUF, R617. -/
def R.HP_FW_BUF (x : Nat) : Nat := 0x400E0030 + 0x10000 * x
/-- HPx_FW_BUF.ADDR: APP buffer of 1,041 bytes in core SRAM, word-aligned -/
def F.HP_FW_BUF_ADDR (x : Nat) : Fld := ⟨R.HP_FW_BUF x, 2, 30⟩
/-- HPx_FW_CTL, R617. -/
def R.HP_FW_CTL (x : Nat) : Nat := 0x400E0034 + 0x10000 * x
/-- HPx_FW_CTL.PEND: an APP command waits in the buffer -/
def F.HP_FW_CTL_PEND (x : Nat) : Fld := ⟨R.HP_FW_CTL x, 0, 1⟩
/-- HPx_FW_CTL.DONE: response written under R591 -/
def F.HP_FW_CTL_DONE (x : Nat) : Fld := ⟨R.HP_FW_CTL x, 1, 1⟩
/-- HPx_FW_CTL.RLEN: response payload length, 4 to 1,024 -/
def F.HP_FW_CTL_RLEN (x : Nat) : Fld := ⟨R.HP_FW_CTL x, 16, 11⟩
/-- HPx_EVT, R617. -/
def R.HP_EVT (x : Nat) : Nat := 0x400E0038 + 0x10000 * x
/-- HPx_EVT.EVT: bit 0 HCRC, 1 PCRC, 2 OVR, 3 FRAMELEN, 4 CONVTO, 5 LEASE_EXP, 6 LEASE_BRK, 7 ABORTED -/
def F.HP_EVT_EVT (x : Nat) : Fld := ⟨R.HP_EVT x, 0, 8⟩
/-- TXN_EPOCH, R649. -/
def R.TXN_EPOCH : Nat := 0x40100000
/-- TXN_EPOCH.EPOCH: epoch in force -/
def F.TXN_EPOCH_EPOCH : Fld := ⟨R.TXN_EPOCH, 0, 32⟩
/-- TXN_REV, R649. -/
def R.TXN_REV : Nat := 0x40100004
/-- TXN_REV.REV: revision within the epoch, saturating -/
def F.TXN_REV_REV : Fld := ⟨R.TXN_REV, 0, 32⟩
/-- TXN_SETTLE, R649. -/
def R.TXN_SETTLE : Nat := 0x40100008
/-- TXN_SETTLE.BLOCKS: wave 3 delay after wave 2, 1 to 255; latched at each B1 -/
def F.TXN_SETTLE_BLOCKS : Fld := ⟨R.TXN_SETTLE, 0, 8⟩
/-- TXN_CWIN_BASE, R649. -/
def R.TXN_CWIN_BASE : Nat := 0x4010000C
/-- TXN_CWIN_BASE.ADDR: window base in stream SRAM banks 0 to 5, 16-byte aligned -/
def F.TXN_CWIN_BASE_ADDR : Fld := ⟨R.TXN_CWIN_BASE, 4, 28⟩
/-- TXN_CWIN_LEN, R649. -/
def R.TXN_CWIN_LEN : Nat := 0x40100010
/-- TXN_CWIN_LEN.WORDS: window length L; 0 disabled -/
def F.TXN_CWIN_LEN_WORDS : Fld := ⟨R.TXN_CWIN_LEN, 0, 11⟩
/-- TXN_CWIN_STAT, R649. -/
def R.TXN_CWIN_STAT : Nat := 0x40100014
/-- TXN_CWIN_STAT.CUR: physical copy behind CUR, 0 to 2 -/
def F.TXN_CWIN_STAT_CUR : Fld := ⟨R.TXN_CWIN_STAT, 0, 2⟩
/-- TXN_CWIN_STAT.OLD: physical copy behind OLD -/
def F.TXN_CWIN_STAT_OLD : Fld := ⟨R.TXN_CWIN_STAT, 2, 2⟩
/-- TXN_CWIN_STAT.PREP: NEXT holds a prepared copy -/
def F.TXN_CWIN_STAT_PREP : Fld := ⟨R.TXN_CWIN_STAT, 4, 1⟩
/-- TXN_CWIN_STAT.CLAIMED: a transaction claims the window -/
def F.TXN_CWIN_STAT_CLAIMED : Fld := ⟨R.TXN_CWIN_STAT, 5, 1⟩
/-- TXN_CLIENT_c, R649. -/
def R.TXN_CLIENT_c (c : Nat) : Nat := 0x40100020 + 0x10 * c
/-- TXN_CLIENT_c.STAGED: entries held, 0 to 512 -/
def F.TXN_CLIENT_c_STAGED (c : Nat) : Fld := ⟨R.TXN_CLIENT_c c, 0, 10⟩
/-- TXN_CLIENT_c.STATE: 0 IDLE, 1 ARMED, 2 IN_WAVES; 3 reserved, never read -/
def F.TXN_CLIENT_c_STATE (c : Nat) : Fld := ⟨R.TXN_CLIENT_c c, 12, 2⟩
/-- TXN_CLIENT_c.NEXTWAVE: next wave due, 1 to 3; 0 when IDLE -/
def F.TXN_CLIENT_c_NEXTWAVE (c : Nat) : Fld := ⟨R.TXN_CLIENT_c c, 16, 2⟩
/-- TXN_CLIENT_c_B1, R649. -/
def R.TXN_CLIENT_c_B1 (c : Nat) : Nat := 0x40100024 + 0x10 * c
/-- TXN_CLIENT_c_B1.BLKCNT: ST_BLKCNT at the B1 of the transaction in flight or last completed -/
def F.TXN_CLIENT_c_B1_BLKCNT (c : Nat) : Fld := ⟨R.TXN_CLIENT_c_B1 c, 0, 32⟩
/-- TXN_CLIENT_c_LAST, R649. -/
def R.TXN_CLIENT_c_LAST (c : Nat) : Nat := 0x40100028 + 0x10 * c
/-- TXN_CLIENT_c_LAST.STATUS: status of the last commit -/
def F.TXN_CLIENT_c_LAST_STATUS (c : Nat) : Fld := ⟨R.TXN_CLIENT_c_LAST c, 0, 16⟩
/-- TXN_CLIENT_c_LAST.CAUSE: cause of R620 -/
def F.TXN_CLIENT_c_LAST_CAUSE (c : Nat) : Fld := ⟨R.TXN_CLIENT_c_LAST c, 16, 4⟩
/-- TXN_CLIENT_c_LAST.WAVES: WAVES of R623 -/
def F.TXN_CLIENT_c_LAST_WAVES (c : Nat) : Fld := ⟨R.TXN_CLIENT_c_LAST c, 20, 3⟩
/-- TXN_EVT, R649. -/
def R.TXN_EVT : Nat := 0x40100040
/-- TXN_EVT.EVT: bit 0 WAVE_A, 1 WAVE_B, 2 DONE_A, 3 DONE_B, 4 FAIL_A, 5 FAIL_B, 6 CLAIM -/
def F.TXN_EVT_EVT : Fld := ⟨R.TXN_EVT, 0, 7⟩
/-- TXN_CREQ, R649. -/
def R.TXN_CREQ : Nat := 0x40100080
/-- TXN_CREQ.OPCODE: 0x0060 to 0x0063 under R636 -/
def F.TXN_CREQ_OPCODE : Fld := ⟨R.TXN_CREQ, 0, 16⟩
/-- TXN_CREQ.CLIENT: 0 A, 1 B -/
def F.TXN_CREQ_CLIENT : Fld := ⟨R.TXN_CREQ, 16, 1⟩
/-- TXN_CREQ.GO: submit under R636 -/
def F.TXN_CREQ_GO : Fld := ⟨R.TXN_CREQ, 31, 1⟩
/-- TXN_CBUF, R649. -/
def R.TXN_CBUF : Nat := 0x40100084
/-- TXN_CBUF.ADDR: request and response buffer of 1,024 bytes in core SRAM -/
def F.TXN_CBUF_ADDR : Fld := ⟨R.TXN_CBUF, 2, 30⟩
/-- TXN_CREQ_LEN, R649. -/
def R.TXN_CREQ_LEN : Nat := 0x40100088
/-- TXN_CREQ_LEN.LEN: request payload bytes, 0 to 1,020 -/
def F.TXN_CREQ_LEN_LEN : Fld := ⟨R.TXN_CREQ_LEN, 0, 11⟩
/-- TXN_CRES, R649. -/
def R.TXN_CRES : Nat := 0x4010008C
/-- TXN_CRES.STATE: 0 IDLE, 1 QUEUED, 2 ACTIVE, 3 DONE -/
def F.TXN_CRES_STATE : Fld := ⟨R.TXN_CRES, 0, 2⟩
/-- TXN_CRES.RLEN: response data bytes -/
def F.TXN_CRES_RLEN : Fld := ⟨R.TXN_CRES, 16, 11⟩
/-- TXN_CRES2, R649. -/
def R.TXN_CRES2 : Nat := 0x40100090
/-- TXN_CRES2.STATUS: status of R592 -/
def F.TXN_CRES2_STATUS : Fld := ⟨R.TXN_CRES2, 0, 16⟩
/-- TXN_CRES2.EXTRA: EXTRA as in the response frame -/
def F.TXN_CRES2_EXTRA : Fld := ⟨R.TXN_CRES2, 16, 16⟩
/-- SED_CFG, R680. -/
def R.SED_CFG : Nat := 0x40110000
/-- SED_CFG.PERSIST: lowest severity persisted under R651 -/
def F.SED_CFG_PERSIST : Fld := ⟨R.SED_CFG, 0, 3⟩
/-- SED_CFG.ECCMAX: ECC_UNCORR entries per second for ECC_BURST, 1 to 255 -/
def F.SED_CFG_ECCMAX : Fld := ⟨R.SED_CFG, 8, 8⟩
/-- SED_NEXT, R680. -/
def R.SED_NEXT : Nat := 0x40110004
/-- SED_NEXT.SEQ: sequence number of the next entry -/
def F.SED_NEXT_SEQ : Fld := ⟨R.SED_NEXT, 0, 32⟩
/-- SED_OLDEST_V, R680. -/
def R.SED_OLDEST_V : Nat := 0x40110008
/-- SED_OLDEST_V.SEQ: oldest entry held in bank 7; SED_NEXT while none is held -/
def F.SED_OLDEST_V_SEQ : Fld := ⟨R.SED_OLDEST_V, 0, 32⟩
/-- SED_OLDEST_P, R680. -/
def R.SED_OLDEST_P : Nat := 0x4011000C
/-- SED_OLDEST_P.SEQ: oldest entry in the persistent area; SED_NEXT while it holds none -/
def F.SED_OLDEST_P_SEQ : Fld := ⟨R.SED_OLDEST_P, 0, 32⟩
/-- SED_NEWEST_P, R680. -/
def R.SED_NEWEST_P : Nat := 0x40110010
/-- SED_NEWEST_P.SEQ: newest entry in the persistent area; SED_NEXT − 1 while it holds none -/
def F.SED_NEWEST_P_SEQ : Fld := ⟨R.SED_NEWEST_P, 0, 32⟩
/-- SED_ACK, R680. -/
def R.SED_ACK : Nat := 0x40110014
/-- SED_ACK.SEQ: last entry consumed, under R658 -/
def F.SED_ACK_SEQ : Fld := ⟨R.SED_ACK, 0, 32⟩
/-- SED_CNT, R680. -/
def R.SED_CNT : Nat := 0x40110018
/-- SED_CNT.LOST: unread entries overwritten, saturating -/
def F.SED_CNT_LOST : Fld := ⟨R.SED_CNT, 0, 16⟩
/-- SED_CNT.PDROP: entries not persisted, saturating -/
def F.SED_CNT_PDROP : Fld := ⟨R.SED_CNT, 16, 16⟩
/-- SED_CNT2, R680. -/
def R.SED_CNT2 : Nat := 0x4011001C
/-- SED_CNT2.GAP: entries folded into LOG_GAP, saturating -/
def F.SED_CNT2_GAP : Fld := ⟨R.SED_CNT2, 0, 16⟩
/-- SED_CNT2.CLR: writing 1 clears SED_CNT and SED_CNT2 -/
def F.SED_CNT2_CLR : Fld := ⟨R.SED_CNT2, 31, 1⟩
/-- SED_QSTAT, R680. -/
def R.SED_QSTAT : Nat := 0x40110020
/-- SED_QSTAT.WQ: entries in the write queue, 0 to 64 -/
def F.SED_QSTAT_WQ : Fld := ⟨R.SED_QSTAT, 0, 7⟩
/-- SED_QSTAT.PQ: entries in the persistent queue, 0 to 32 -/
def F.SED_QSTAT_PQ : Fld := ⟨R.SED_QSTAT, 16, 6⟩
/-- SED_PCOUNT, R680. -/
def R.SED_PCOUNT : Nat := 0x40110024
/-- SED_PCOUNT.P: entries persisted since manufacture, from NVS metadata (R662) -/
def F.SED_PCOUNT_P : Fld := ⟨R.SED_PCOUNT, 0, 32⟩
/-- SED_SYSFAULT, R680. -/
def R.SED_SYSFAULT : Nat := 0x40110030
/-- SED_SYSFAULT.STRANGER: under R652 -/
def F.SED_SYSFAULT_STRANGER : Fld := ⟨R.SED_SYSFAULT, 0, 1⟩
/-- SED_SYSFAULT.ECC_BURST: under R652 -/
def F.SED_SYSFAULT_ECC_BURST : Fld := ⟨R.SED_SYSFAULT, 1, 1⟩
/-- SED_SYSFAULT.NVS: under R652 -/
def F.SED_SYSFAULT_NVS : Fld := ⟨R.SED_SYSFAULT, 2, 1⟩
/-- SED_SYSFAULT.SOFT: under R652 -/
def F.SED_SYSFAULT_SOFT : Fld := ⟨R.SED_SYSFAULT, 3, 1⟩
/-- SED_SOFTFLT, R680. -/
def R.SED_SOFTFLT : Nat := 0x40110034
/-- SED_SOFTFLT.KEY: 0x6C0D latches SOFT -/
def F.SED_SOFTFLT_KEY : Fld := ⟨R.SED_SOFTFLT, 0, 16⟩
/-- SED_SW_CTL, R680. -/
def R.SED_SW_CTL : Nat := 0x40110040
/-- SED_SW_CTL.DETAIL: DETAIL of the software entry -/
def F.SED_SW_CTL_DETAIL : Fld := ⟨R.SED_SW_CTL, 0, 13⟩
/-- SED_SW_CTL.SEV: severity, 0 to 2 -/
def F.SED_SW_CTL_SEV : Fld := ⟨R.SED_SW_CTL, 13, 3⟩
/-- SED_SW_CTL.GO: write the entry under R661 -/
def F.SED_SW_CTL_GO : Fld := ⟨R.SED_SW_CTL, 31, 1⟩
/-- SED_SW_DATAi, R680. -/
def R.SED_SW_DATAi (i : Nat) : Nat := 0x40110044 + 0x4 * i
/-- SED_SW_DATAi.DATA: i = 0 to 2; DATA bytes 4i to 4i + 3; byte 11 is ignored -/
def F.SED_SW_DATAi_DATA (i : Nat) : Fld := ⟨R.SED_SW_DATAi i, 0, 32⟩
/-- SED_EVT, R680. -/
def R.SED_EVT : Nat := 0x40110050
/-- SED_EVT.EVT: bit 0 HALF, 1 WRAP, 2 PDROP, 3 GAP -/
def F.SED_EVT_EVT : Fld := ⟨R.SED_EVT, 0, 4⟩
/-- SEM_n, R681. -/
def R.SEM_n (n : Nat) : Nat := 0x40140000 + 0x4 * n
/-- SEM_n.GEN: n = 0 to 31; generation -/
def F.SEM_n_GEN (n : Nat) : Fld := ⟨R.SEM_n n, 0, 16⟩
/-- SEM_n.OWNER: 0 free, 1 C0, 2 C1, 3 S -/
def F.SEM_n_OWNER (n : Nat) : Fld := ⟨R.SEM_n n, 16, 2⟩
/-- SEM_HELD_C0, R681. -/
def R.SEM_HELD_C0 : Nat := 0x40140080
/-- SEM_HELD_C0.SEMS: bit n: semaphore n held by C0 -/
def F.SEM_HELD_C0_SEMS : Fld := ⟨R.SEM_HELD_C0, 0, 32⟩
/-- SEM_HELD_C1, R681. -/
def R.SEM_HELD_C1 : Nat := 0x40140084
/-- SEM_HELD_C1.SEMS: bit n: semaphore n held by C1 -/
def F.SEM_HELD_C1_SEMS : Fld := ⟨R.SEM_HELD_C1, 0, 32⟩
/-- SEM_HELD_S, R681. -/
def R.SEM_HELD_S : Nat := 0x40140088
/-- SEM_HELD_S.SEMS: bit n: semaphore n held by S -/
def F.SEM_HELD_S_SEMS : Fld := ⟨R.SEM_HELD_S, 0, 32⟩
/-- SEM_BRKCNT, R681. -/
def R.SEM_BRKCNT : Nat := 0x40140090
/-- SEM_BRKCNT.COUNT: successful breaks, including those of R62, saturating -/
def F.SEM_BRKCNT_COUNT : Fld := ⟨R.SEM_BRKCNT, 0, 16⟩
/-- SEM_BRKCNT.CLR: writing 1 from C0 or C1 clears COUNT -/
def F.SEM_BRKCNT_CLR : Fld := ⟨R.SEM_BRKCNT, 31, 1⟩
/-- SEC_TAGL, R730. -/
def R.SEC_TAGL : Nat := 0x40120000
/-- SEC_TAGL.TAG: own ID tag [31:0] -/
def F.SEC_TAGL_TAG : Fld := ⟨R.SEC_TAGL, 0, 32⟩
/-- SEC_TAGH, R730. -/
def R.SEC_TAGH : Nat := 0x40120004
/-- SEC_TAGH.TAG: own ID tag [63:32] -/
def F.SEC_TAGH_TAG : Fld := ⟨R.SEC_TAGH, 0, 32⟩
/-- SEC_PUBK_i, R730. -/
def R.SEC_PUBK_i (i : Nat) : Nat := 0x40120010 + 0x4 * i
/-- SEC_PUBK_i.KEY: i = 0 to 15; public key bytes 4i to 4i + 3, byte 4i in [7:0] -/
def F.SEC_PUBK_i_KEY (i : Nat) : Fld := ⟨R.SEC_PUBK_i i, 0, 32⟩
/-- SEC_STAT, R730. -/
def R.SEC_STAT : Nat := 0x40120060
/-- SEC_STAT.RBAD_RING: no valid ring roster copy -/
def F.SEC_STAT_RBAD_RING : Fld := ⟨R.SEC_STAT, 0, 1⟩
/-- SEC_STAT.RBAD_CHAIN: no valid chain roster copy -/
def F.SEC_STAT_RBAD_CHAIN : Fld := ⟨R.SEC_STAT, 1, 1⟩
/-- SEC_STAT.CFGDEF: default privilege masks in use -/
def F.SEC_STAT_CFGDEF : Fld := ⟨R.SEC_STAT, 2, 1⟩
/-- SEC_STAT.BCR_BAD: boot control record unreadable -/
def F.SEC_STAT_BCR_BAD : Fld := ⟨R.SEC_STAT, 3, 1⟩
/-- SEC_RGEN, R730. -/
def R.SEC_RGEN : Nat := 0x40120064
/-- SEC_RGEN.GEN: ring roster generation -/
def F.SEC_RGEN_GEN : Fld := ⟨R.SEC_RGEN, 0, 32⟩
/-- SEC_CGEN, R730. -/
def R.SEC_CGEN : Nat := 0x40120068
/-- SEC_CGEN.GEN: chain roster generation -/
def F.SEC_CGEN_GEN : Fld := ⟨R.SEC_CGEN, 0, 32⟩
/-- SEC_BOOT, R730. -/
def R.SEC_BOOT : Nat := 0x40120070
/-- SEC_BOOT.ACTIVE: active slot -/
def F.SEC_BOOT_ACTIVE : Fld := ⟨R.SEC_BOOT, 0, 1⟩
/-- SEC_BOOT.LAST: slot that booted -/
def F.SEC_BOOT_LAST : Fld := ⟨R.SEC_BOOT, 1, 1⟩
/-- SEC_BOOT.ARMED: trial armed -/
def F.SEC_BOOT_ARMED : Fld := ⟨R.SEC_BOOT, 2, 1⟩
/-- SEC_BOOT.TRIES: trial boots left -/
def F.SEC_BOOT_TRIES : Fld := ⟨R.SEC_BOOT, 4, 2⟩
/-- SEC_BOOT.BOOTED_TRIAL: running image is a trial -/
def F.SEC_BOOT_BOOTED_TRIAL : Fld := ⟨R.SEC_BOOT, 6, 1⟩
/-- SEC_BOOT.TRIALFAIL: a trial ran out of boots -/
def F.SEC_BOOT_TRIALFAIL : Fld := ⟨R.SEC_BOOT, 7, 1⟩
/-- SEC_RBCNT, R730. -/
def R.SEC_RBCNT : Nat := 0x40120074
/-- SEC_RBCNT.COUNT: rollback counter -/
def F.SEC_RBCNT_COUNT : Fld := ⟨R.SEC_RBCNT, 0, 16⟩
/-- SEC_KEYST, R730. -/
def R.SEC_KEYST : Nat := 0x40120078
/-- SEC_KEYST.STATE: bits [2k + 1:2k]: slot k, 0 EMPTY, 1 ACTIVE, 2 REVOKED; 3 reserved, never read -/
def F.SEC_KEYST_STATE : Fld := ⟨R.SEC_KEYST, 0, 8⟩
/-- SEC_CONFIRM, R730. -/
def R.SEC_CONFIRM : Nat := 0x4012007C
/-- SEC_CONFIRM.KEY: 0x7E11 confirms under R714 -/
def F.SEC_CONFIRM_KEY : Fld := ⟨R.SEC_CONFIRM, 0, 16⟩
/-- SEC_AUTH, R730. -/
def R.SEC_AUTH : Nat := 0x40120080
/-- SEC_AUTH.KIND: 0 ring, 1 chain -/
def F.SEC_AUTH_KIND : Fld := ⟨R.SEC_AUTH, 0, 2⟩
/-- SEC_AUTH.RESULT: WHY code of R470; 0 ADOPTED -/
def F.SEC_AUTH_RESULT : Fld := ⟨R.SEC_AUTH, 2, 3⟩
/-- SEC_AUTH.INDEX: node number or position -/
def F.SEC_AUTH_INDEX : Fld := ⟨R.SEC_AUTH, 8, 7⟩
/-- SEC_AUTHTAGL, R730. -/
def R.SEC_AUTHTAGL : Nat := 0x40120084
/-- SEC_AUTHTAGL.TAG: tag of the last verification [31:0] -/
def F.SEC_AUTHTAGL_TAG : Fld := ⟨R.SEC_AUTHTAGL, 0, 32⟩
/-- SEC_AUTHTAGH, R730. -/
def R.SEC_AUTHTAGH : Nat := 0x40120088
/-- SEC_AUTHTAGH.TAG: tag [63:32] -/
def F.SEC_AUTHTAGH_TAG : Fld := ⟨R.SEC_AUTHTAGH, 0, 32⟩
/-- SEC_RNG, R730. -/
def R.SEC_RNG : Nat := 0x40120090
/-- SEC_RNG.VALUE: a read returns 32 fresh random bits -/
def F.SEC_RNG_VALUE : Fld := ⟨R.SEC_RNG, 0, 32⟩
/-- SEC_RNGSTAT, R730. -/
def R.SEC_RNGSTAT : Nat := 0x40120094
/-- SEC_RNGSTAT.READY: SEC_RNG holds fresh bits -/
def F.SEC_RNGSTAT_READY : Fld := ⟨R.SEC_RNGSTAT, 0, 1⟩
/-- NVC_CFG, R731. -/
def R.NVC_CFG : Nat := 0x40130000
/-- NVC_CFG.ECLS: energy class of update writes under R712 -/
def F.NVC_CFG_ECLS : Fld := ⟨R.NVC_CFG, 0, 2⟩
/-- NVC_CFG.WEARLIM: wear report level in thousands of programs -/
def F.NVC_CFG_WEARLIM : Fld := ⟨R.NVC_CFG, 16, 10⟩
/-- NVC_REQ, R731. -/
def R.NVC_REQ : Nat := 0x40130004
/-- NVC_REQ.GO: start a line write under R687 -/
def F.NVC_REQ_GO : Fld := ⟨R.NVC_REQ, 0, 1⟩
/-- NVC_REQ.BUSY: request in progress -/
def F.NVC_REQ_BUSY : Fld := ⟨R.NVC_REQ, 1, 1⟩
/-- NVC_REQ.RESULT: 0 NONE, 1 DONE, 2 ERROR; 3 reserved, never read -/
def F.NVC_REQ_RESULT : Fld := ⟨R.NVC_REQ, 2, 2⟩
/-- NVC_ADDR, R731. -/
def R.NVC_ADDR : Nat := 0x40130008
/-- NVC_ADDR.LINE: NVS offset of the target line -/
def F.NVC_ADDR_LINE : Fld := ⟨R.NVC_ADDR, 6, 14⟩
/-- NVC_SRC, R731. -/
def R.NVC_SRC : Nat := 0x4013000C
/-- NVC_SRC.ADDR: 64-byte source in core SRAM -/
def F.NVC_SRC_ADDR : Fld := ⟨R.NVC_SRC, 2, 30⟩
/-- NVC_EVT, R731. -/
def R.NVC_EVT : Nat := 0x40130014
/-- NVC_EVT.EVT: bit 0 DONE, 1 ERROR, 2 WEAR, 3 CORR -/
def F.NVC_EVT_EVT : Fld := ⟨R.NVC_EVT, 0, 4⟩
/-- NVC_WEAR_a, R731. -/
def R.NVC_WEAR_a (a : Nat) : Nat := 0x40130020 + 0x4 * a
/-- NVC_WEAR_a.MAX: a = 0 to 5; largest line count in area a -/
def F.NVC_WEAR_a_MAX (a : Nat) : Fld := ⟨R.NVC_WEAR_a a, 0, 32⟩
/-- NVC_WQ, R731. -/
def R.NVC_WQ : Nat := 0x40130040
/-- NVC_WQ.LINE: line queried -/
def F.NVC_WQ_LINE : Fld := ⟨R.NVC_WQ, 6, 14⟩
/-- NVC_WQCNT, R731. -/
def R.NVC_WQCNT : Nat := 0x40130044
/-- NVC_WQCNT.COUNT: program count of the line in NVC_WQ -/
def F.NVC_WQCNT_COUNT : Fld := ⟨R.NVC_WQCNT, 0, 32⟩
/-- NVC_UPD, R731. -/
def R.NVC_UPD : Nat := 0x40130050
/-- NVC_UPD.STATE: update record state of R709; 5 to 7 reserved, never read -/
def F.NVC_UPD_STATE : Fld := ⟨R.NVC_UPD, 0, 3⟩
/-- NVC_UPD.SLOT: target slot -/
def F.NVC_UPD_SLOT : Fld := ⟨R.NVC_UPD, 4, 1⟩
/-- NVC_UPD_MARK, R731. -/
def R.NVC_UPD_MARK : Nat := 0x40130054
/-- NVC_UPD_MARK.MARK: bytes received in order -/
def F.NVC_UPD_MARK_MARK : Fld := ⟨R.NVC_UPD_MARK, 0, 19⟩
/-- NVC_UPD_LEN, R731. -/
def R.NVC_UPD_LEN : Nat := 0x40130058
/-- NVC_UPD_LEN.LENGTH: declared image length -/
def F.NVC_UPD_LEN_LENGTH : Fld := ⟨R.NVC_UPD_LEN, 0, 19⟩
/-- NVC_ERRADDR, R731. -/
def R.NVC_ERRADDR : Nat := 0x40130060
/-- NVC_ERRADDR.OFFSET: NVS offset of the last failure -/
def F.NVC_ERRADDR_OFFSET : Fld := ⟨R.NVC_ERRADDR, 0, 20⟩
/-- DBG_ID, R744. -/
def R.DBG_ID : Nat := 0x40150000
/-- DBG_ID.IDCODE: TAP IDCODE under R739 -/
def F.DBG_ID_IDCODE : Fld := ⟨R.DBG_ID, 0, 32⟩
/-- DBG_STAT, R744. -/
def R.DBG_STAT : Nat := 0x40150004
/-- DBG_STAT.C0_HALT: C0 in debug halt -/
def F.DBG_STAT_C0_HALT : Fld := ⟨R.DBG_STAT, 0, 1⟩
/-- DBG_STAT.C1_HALT: C1 in debug halt -/
def F.DBG_STAT_C1_HALT : Fld := ⟨R.DBG_STAT, 1, 1⟩
/-- DBG_STAT.S_HALT: S in debug halt (R86) -/
def F.DBG_STAT_S_HALT : Fld := ⟨R.DBG_STAT, 2, 1⟩
/-- DBG_STAT.STREAM_HALT: STREAM domain halted (R316) -/
def F.DBG_STAT_STREAM_HALT : Fld := ⟨R.DBG_STAT, 3, 1⟩
/-- DBG_STAT.TAP_ACTIVE: the TAP holds a debug session -/
def F.DBG_STAT_TAP_ACTIVE : Fld := ⟨R.DBG_STAT, 8, 1⟩
/-- DBG_CTL, R744. -/
def R.DBG_CTL : Nat := 0x40150008
/-- DBG_CTL.LOCK: debug access refused under R739 -/
def F.DBG_CTL_LOCK : Fld := ⟨R.DBG_CTL, 0, 1⟩

end Sys2Proof.Machine
end

