-- ==== Sys2Proof/Machine/RegTable.lean ====
section
/-! DEFINITION. The register tables of the device and of the companion, generated from the
register tables of spec/: for each register its address, count, stride, domain, reset word and
the fields with their access codes (R7) and Dir attributes (R9). -/

namespace Sys2Proof.Machine


/-- The registers of ST (R87 of spec/02_opcia_cores.md). -/
def regsST : List RegSpec := [
  ⟨0x20065000, 1, 0x4, false, 0x100, [⟨0, 2, .ro, .neu, false⟩, ⟨8, 8, .ro, .neu, false⟩]⟩,
  ⟨0x20065004, 1, 0x4, false, 0x2, [⟨0, 1, .rw, .neu, false⟩, ⟨1, 1, .ro, .neu, false⟩, ⟨2, 1, .rw, .neu, false⟩, ⟨4, 1, .rw, .neu, false⟩, ⟨5, 1, .rw, .neu, false⟩, ⟨8, 1, .w1c, .neu, false⟩]⟩,
  ⟨0x20065008, 1, 0x4, false, 0x0, [⟨0, 6, .ro, .neu, false⟩, ⟨8, 1, .ro, .neu, false⟩]⟩,
  ⟨0x2006500C, 1, 0x4, false, 0x0, [⟨2, 30, .rw, .neu, false⟩]⟩,
  ⟨0x20065010, 1, 0x4, false, 0x0, [⟨0, 32, .ro, .neu, false⟩]⟩,
  ⟨0x20065014, 1, 0x4, false, 0x0, [⟨10, 22, .rw, .neu, false⟩]⟩,
  ⟨0x20065018, 1, 0x4, false, 0x0, [⟨0, 32, .rw, .neu, false⟩]⟩,
  ⟨0x2006501C, 1, 0x4, false, 0x0, [⟨0, 32, .rw, .neu, false⟩]⟩,
  ⟨0x20065020, 1, 0x4, false, 0x0, [⟨0, 32, .ro, .neu, false⟩]⟩,
  ⟨0x20065024, 1, 0x4, false, 0x0, [⟨0, 32, .ro, .neu, false⟩]⟩,
  ⟨0x20065040, 1, 0x4, false, 0x2, [⟨0, 1, .rw, .neu, false⟩, ⟨1, 1, .rw, .neu, false⟩]⟩,
  ⟨0x20065044, 1, 0x4, false, 0x0, [⟨0, 4, .rw, .neu, false⟩]⟩,
  ⟨0x20065048, 1, 0x4, false, 0x0, [⟨8, 24, .rw, .neu, false⟩]⟩,
  ⟨0x2006504C, 1, 0x4, false, 0x0, [⟨8, 24, .rw, .neu, false⟩]⟩,
  ⟨0x20065050, 1, 0x4, false, 0x0, [⟨0, 1, .rw, .neu, false⟩, ⟨1, 1, .rw, .neu, false⟩, ⟨2, 1, .rw, .neu, false⟩, ⟨3, 1, .rw, .neu, false⟩, ⟨4, 1, .rw, .neu, false⟩, ⟨5, 1, .rw, .neu, false⟩, ⟨6, 1, .rw, .neu, false⟩]⟩,
  ⟨0x20065080, 1, 0x4, false, 0x0, [⟨0, 1, .rw, .neu, false⟩, ⟨8, 8, .rw, .neu, false⟩]⟩,
  ⟨0x20065084, 1, 0x4, false, 0x0, [⟨2, 30, .rw, .neu, false⟩]⟩,
  ⟨0x20065088, 1, 0x4, false, 0x0, [⟨0, 3, .ro, .neu, false⟩]⟩,
  ⟨0x2006508C, 1, 0x4, false, 0x0, [⟨0, 6, .ro, .neu, false⟩]⟩,
  ⟨0x20065090, 1, 0x4, false, 0x0, [⟨0, 32, .ro, .neu, false⟩]⟩,
  ⟨0x20065094, 1, 0x4, false, 0x0, [⟨0, 32, .ro, .neu, false⟩]⟩,
  ⟨0x20065098, 1, 0x4, false, 0x0, [⟨0, 16, .ro, .neu, false⟩, ⟨16, 8, .ro, .neu, false⟩, ⟨31, 1, .wo, .neu, false⟩]⟩,
  ⟨0x2006509C, 1, 0x4, false, 0x0, [⟨0, 16, .ro, .neu, false⟩]⟩,
  ⟨0x200650A0, 1, 0x4, false, 0x0, [⟨0, 32, .ro, .neu, false⟩]⟩,
  ⟨0x200650A4, 1, 0x4, false, 0x0, [⟨0, 16, .ro, .neu, false⟩]⟩,
  ⟨0x200650A8, 1, 0x4, false, 0x0, [⟨0, 16, .ro, .neu, false⟩, ⟨31, 1, .wo, .neu, false⟩]⟩,
  ⟨0x200650AC, 1, 0x4, false, 0x0, [⟨0, 8, .ro, .neu, false⟩]⟩]

/-- Part 1 of the registers of EVC. -/
def regsEVC1 : List RegSpec := [
  ⟨0x40030000, 1, 0x4, false, 0x1, [⟨0, 1, .rw, .neu, false⟩]⟩,
  ⟨0x40030004, 1, 0x4, false, 0x0, [⟨0, 1, .w1c, .neu, false⟩, ⟨1, 1, .w1c, .neu, false⟩, ⟨2, 1, .w1c, .neu, false⟩]⟩,
  ⟨0x40030010, 4, 0x4, false, 0x0, [⟨0, 1, .rw, .neu, false⟩, ⟨1, 3, .rw, .neu, false⟩]⟩,
  ⟨0x40030020, 2, 0x4, false, 0x0, [⟨0, 16, .rw, .neu, false⟩]⟩,
  ⟨0x40030028, 2, 0x4, false, 0x100, [⟨0, 16, .rw, .neu, false⟩]⟩,
  ⟨0x40030030, 4, 0x4, false, 0x10000, [⟨0, 8, .ro, .neu, false⟩, ⟨8, 8, .ro, .neu, false⟩, ⟨16, 1, .ro, .neu, false⟩, ⟨17, 1, .ro, .neu, false⟩]⟩,
  ⟨0x40030040, 4, 0x4, false, 0xFF, [⟨0, 20, .ro, .neu, false⟩]⟩,
  ⟨0x40030050, 4, 0x4, false, 0x0, [⟨0, 8, .wo, .neu, false⟩]⟩,
  ⟨0x40030060, 4, 0x4, false, 0x0, [⟨0, 32, .w1s, .neu, false⟩]⟩,
  ⟨0x40030070, 4, 0x4, false, 0x0, [⟨0, 32, .w1c, .neu, false⟩]⟩,
  ⟨0x40030080, 1, 0x4, true, 0x0, [⟨0, 9, .w1c, .neu, false⟩]⟩,
  ⟨0x40030084, 1, 0x4, true, 0x19C, [⟨0, 9, .rw, .neu, false⟩]⟩,
  ⟨0x40030400, 2, 0x4, false, 0x100, [⟨0, 4, .rw, .neu, false⟩, ⟨4, 3, .rw, .neu, false⟩, ⟨8, 1, .rw, .neu, false⟩]⟩,
  ⟨0x40030408, 6, 0x4, false, 0x0, [⟨0, 4, .rw, .neu, false⟩, ⟨4, 3, .rw, .neu, false⟩, ⟨8, 1, .rw, .neu, false⟩]⟩,
  ⟨0x40030420, 1, 0x4, false, 0x100, [⟨0, 4, .rw, .neu, false⟩, ⟨4, 3, .rw, .neu, false⟩, ⟨8, 1, .rw, .neu, false⟩]⟩,
  ⟨0x40030424, 1, 0x4, false, 0x0, [⟨0, 4, .rw, .neu, false⟩, ⟨4, 3, .rw, .neu, false⟩, ⟨8, 1, .rw, .neu, false⟩]⟩,
  ⟨0x40030428, 4, 0x4, false, 0x100, [⟨0, 4, .rw, .neu, false⟩, ⟨4, 3, .rw, .neu, false⟩, ⟨8, 1, .rw, .neu, false⟩]⟩,
  ⟨0x40030438, 1, 0x4, false, 0x0, [⟨0, 4, .rw, .neu, false⟩, ⟨4, 3, .rw, .neu, false⟩, ⟨8, 1, .rw, .neu, false⟩]⟩,
  ⟨0x4003043C, 1, 0x4, false, 0x100, [⟨0, 4, .rw, .neu, false⟩, ⟨4, 3, .rw, .neu, false⟩, ⟨8, 1, .rw, .neu, false⟩]⟩,
  ⟨0x40030440, 5, 0x4, false, 0x0, [⟨0, 4, .rw, .neu, false⟩, ⟨4, 3, .rw, .neu, false⟩, ⟨8, 1, .rw, .neu, false⟩]⟩,
  ⟨0x40030454, 1, 0x4, false, 0x100, [⟨0, 4, .rw, .neu, false⟩, ⟨4, 3, .rw, .neu, false⟩, ⟨8, 1, .rw, .neu, false⟩]⟩,
  ⟨0x40030458, 3, 0x4, false, 0x0, [⟨0, 4, .rw, .neu, false⟩, ⟨4, 3, .rw, .neu, false⟩, ⟨8, 1, .rw, .neu, false⟩]⟩,
  ⟨0x40030464, 3, 0x4, false, 0x100, [⟨0, 4, .rw, .neu, false⟩, ⟨4, 3, .rw, .neu, false⟩, ⟨8, 1, .rw, .neu, false⟩]⟩,
  ⟨0x40030470, 4, 0x4, false, 0x0, []⟩,
  ⟨0x40030480, 4, 0x4, false, 0x100, [⟨0, 4, .rw, .neu, false⟩, ⟨4, 3, .rw, .neu, false⟩, ⟨8, 1, .rw, .neu, false⟩]⟩,
  ⟨0x40030490, 7, 0x4, false, 0x0, [⟨0, 4, .rw, .neu, false⟩, ⟨4, 3, .rw, .neu, false⟩, ⟨8, 1, .rw, .neu, false⟩]⟩,
  ⟨0x400304AC, 5, 0x4, false, 0x0, []⟩,
  ⟨0x400304C0, 2, 0x4, false, 0x100, [⟨0, 4, .rw, .neu, false⟩, ⟨4, 3, .rw, .neu, false⟩, ⟨8, 1, .rw, .neu, false⟩]⟩,
  ⟨0x400304C8, 3, 0x4, false, 0x0, [⟨0, 4, .rw, .neu, false⟩, ⟨4, 3, .rw, .neu, false⟩, ⟨8, 1, .rw, .neu, false⟩]⟩,
  ⟨0x400304D4, 1, 0x4, false, 0x100, [⟨0, 4, .rw, .neu, false⟩, ⟨4, 3, .rw, .neu, false⟩, ⟨8, 1, .rw, .neu, false⟩]⟩,
  ⟨0x400304D8, 1, 0x4, false, 0x0, [⟨0, 4, .rw, .neu, false⟩, ⟨4, 3, .rw, .neu, false⟩, ⟨8, 1, .rw, .neu, false⟩]⟩,
  ⟨0x400304DC, 1, 0x4, false, 0x100, [⟨0, 4, .rw, .neu, false⟩, ⟨4, 3, .rw, .neu, false⟩, ⟨8, 1, .rw, .neu, false⟩]⟩,
  ⟨0x400304E0, 8, 0x4, false, 0x0, []⟩,
  ⟨0x40030500, 2, 0x4, false, 0x0, [⟨0, 4, .rw, .neu, false⟩, ⟨4, 3, .rw, .neu, false⟩, ⟨8, 1, .rw, .neu, false⟩]⟩,
  ⟨0x40030508, 1, 0x4, false, 0x100, [⟨0, 4, .rw, .neu, false⟩, ⟨4, 3, .rw, .neu, false⟩, ⟨8, 1, .rw, .neu, false⟩]⟩,
  ⟨0x4003050C, 1, 0x4, false, 0x0, [⟨0, 4, .rw, .neu, false⟩, ⟨4, 3, .rw, .neu, false⟩, ⟨8, 1, .rw, .neu, false⟩]⟩,
  ⟨0x40030510, 2, 0x4, false, 0x100, [⟨0, 4, .rw, .neu, false⟩, ⟨4, 3, .rw, .neu, false⟩, ⟨8, 1, .rw, .neu, false⟩]⟩,
  ⟨0x40030518, 2, 0x4, false, 0x0, [⟨0, 4, .rw, .neu, false⟩, ⟨4, 3, .rw, .neu, false⟩, ⟨8, 1, .rw, .neu, false⟩]⟩,
  ⟨0x40030520, 8, 0x4, false, 0x0, []⟩,
  ⟨0x40030540, 1, 0x4, false, 0x0, [⟨0, 4, .rw, .neu, false⟩, ⟨4, 3, .rw, .neu, false⟩, ⟨8, 1, .rw, .neu, false⟩]⟩]

/-- Part 2 of the registers of EVC. -/
def regsEVC2 : List RegSpec := [
  ⟨0x40030544, 2, 0x4, false, 0x100, [⟨0, 4, .rw, .neu, false⟩, ⟨4, 3, .rw, .neu, false⟩, ⟨8, 1, .rw, .neu, false⟩]⟩,
  ⟨0x4003054C, 7, 0x4, false, 0x0, [⟨0, 4, .rw, .neu, false⟩, ⟨4, 3, .rw, .neu, false⟩, ⟨8, 1, .rw, .neu, false⟩]⟩,
  ⟨0x40030568, 1, 0x4, false, 0x100, [⟨0, 4, .rw, .neu, false⟩, ⟨4, 3, .rw, .neu, false⟩, ⟨8, 1, .rw, .neu, false⟩]⟩,
  ⟨0x4003056C, 1, 0x4, false, 0x0, [⟨0, 4, .rw, .neu, false⟩, ⟨4, 3, .rw, .neu, false⟩, ⟨8, 1, .rw, .neu, false⟩]⟩,
  ⟨0x40030570, 4, 0x4, false, 0x0, []⟩,
  ⟨0x40030580, 3, 0x4, false, 0x0, [⟨0, 4, .rw, .neu, false⟩, ⟨4, 3, .rw, .neu, false⟩, ⟨8, 1, .rw, .neu, false⟩]⟩,
  ⟨0x4003058C, 3, 0x4, false, 0x100, [⟨0, 4, .rw, .neu, false⟩, ⟨4, 3, .rw, .neu, false⟩, ⟨8, 1, .rw, .neu, false⟩]⟩,
  ⟨0x40030598, 1, 0x4, false, 0x0, [⟨0, 4, .rw, .neu, false⟩, ⟨4, 3, .rw, .neu, false⟩, ⟨8, 1, .rw, .neu, false⟩]⟩,
  ⟨0x4003059C, 2, 0x4, false, 0x100, [⟨0, 4, .rw, .neu, false⟩, ⟨4, 3, .rw, .neu, false⟩, ⟨8, 1, .rw, .neu, false⟩]⟩,
  ⟨0x400305A4, 7, 0x4, false, 0x0, []⟩,
  ⟨0x400305C0, 5, 0x4, false, 0x100, [⟨0, 4, .rw, .neu, false⟩, ⟨4, 3, .rw, .neu, false⟩, ⟨8, 1, .rw, .neu, false⟩]⟩,
  ⟨0x400305D4, 2, 0x4, false, 0x0, [⟨0, 4, .rw, .neu, false⟩, ⟨4, 3, .rw, .neu, false⟩, ⟨8, 1, .rw, .neu, false⟩]⟩,
  ⟨0x400305DC, 3, 0x4, false, 0x100, [⟨0, 4, .rw, .neu, false⟩, ⟨4, 3, .rw, .neu, false⟩, ⟨8, 1, .rw, .neu, false⟩]⟩,
  ⟨0x400305E8, 1, 0x4, false, 0x0, [⟨0, 4, .rw, .neu, false⟩, ⟨4, 3, .rw, .neu, false⟩, ⟨8, 1, .rw, .neu, false⟩]⟩,
  ⟨0x400305EC, 5, 0x4, false, 0x100, [⟨0, 4, .rw, .neu, false⟩, ⟨4, 3, .rw, .neu, false⟩, ⟨8, 1, .rw, .neu, false⟩]⟩,
  ⟨0x40030600, 28, 0x4, false, 0xC, [⟨0, 2, .ro, .neu, false⟩, ⟨2, 2, .ro, .neu, false⟩, ⟨4, 1, .ro, .neu, false⟩, ⟨5, 1, .ro, .neu, false⟩, ⟨6, 1, .ro, .neu, false⟩, ⟨8, 8, .ro, .neu, false⟩]⟩,
  ⟨0x40030670, 4, 0x4, false, 0x0, []⟩,
  ⟨0x40030680, 11, 0x4, false, 0xC, [⟨0, 2, .ro, .neu, false⟩, ⟨2, 2, .ro, .neu, false⟩, ⟨4, 1, .ro, .neu, false⟩, ⟨5, 1, .ro, .neu, false⟩, ⟨6, 1, .ro, .neu, false⟩, ⟨8, 8, .ro, .neu, false⟩]⟩,
  ⟨0x400306AC, 5, 0x4, false, 0x0, []⟩,
  ⟨0x400306C0, 8, 0x4, false, 0xC, [⟨0, 2, .ro, .neu, false⟩, ⟨2, 2, .ro, .neu, false⟩, ⟨4, 1, .ro, .neu, false⟩, ⟨5, 1, .ro, .neu, false⟩, ⟨6, 1, .ro, .neu, false⟩, ⟨8, 8, .ro, .neu, false⟩]⟩,
  ⟨0x400306E0, 8, 0x4, false, 0x0, []⟩,
  ⟨0x40030700, 8, 0x4, false, 0xC, [⟨0, 2, .ro, .neu, false⟩, ⟨2, 2, .ro, .neu, false⟩, ⟨4, 1, .ro, .neu, false⟩, ⟨5, 1, .ro, .neu, false⟩, ⟨6, 1, .ro, .neu, false⟩, ⟨8, 8, .ro, .neu, false⟩]⟩,
  ⟨0x40030720, 8, 0x4, false, 0x0, []⟩,
  ⟨0x40030740, 12, 0x4, false, 0xC, [⟨0, 2, .ro, .neu, false⟩, ⟨2, 2, .ro, .neu, false⟩, ⟨4, 1, .ro, .neu, false⟩, ⟨5, 1, .ro, .neu, false⟩, ⟨6, 1, .ro, .neu, false⟩, ⟨8, 8, .ro, .neu, false⟩]⟩,
  ⟨0x40030770, 4, 0x4, false, 0x0, []⟩,
  ⟨0x40030780, 9, 0x4, false, 0xC, [⟨0, 2, .ro, .neu, false⟩, ⟨2, 2, .ro, .neu, false⟩, ⟨4, 1, .ro, .neu, false⟩, ⟨5, 1, .ro, .neu, false⟩, ⟨6, 1, .ro, .neu, false⟩, ⟨8, 8, .ro, .neu, false⟩]⟩,
  ⟨0x400307A4, 7, 0x4, false, 0x0, []⟩,
  ⟨0x400307C0, 16, 0x4, false, 0xC, [⟨0, 2, .ro, .neu, false⟩, ⟨2, 2, .ro, .neu, false⟩, ⟨4, 1, .ro, .neu, false⟩, ⟨5, 1, .ro, .neu, false⟩, ⟨6, 1, .ro, .neu, false⟩, ⟨8, 8, .ro, .neu, false⟩]⟩]

/-- The registers of EVC (R163 of spec/04_events.md). -/
def regsEVC : List RegSpec := regsEVC1 ++ regsEVC2

/-- The registers of CLK (R202 of spec/05_clocks_time.md). -/
def regsCLK : List RegSpec := [
  ⟨0x40010000, 1, 0x4, false, 0x11021, [⟨0, 2, .txn, .neu, false⟩, ⟨2, 2, .txn, .neu, false⟩, ⟨4, 2, .txn, .neu, false⟩, ⟨8, 2, .txn, .neu, false⟩, ⟨12, 2, .txn, .neu, false⟩, ⟨16, 1, .txn, .neu, false⟩]⟩,
  ⟨0x40010004, 1, 0x4, false, 0x640500C8, [⟨0, 10, .txn, .dn, false⟩, ⟨16, 8, .txn, .neu, false⟩, ⟨24, 8, .txn, .neu, false⟩]⟩,
  ⟨0x40010008, 1, 0x4, false, 0x1000, [⟨0, 2, .ro, .neu, false⟩, ⟨4, 3, .ro, .neu, false⟩, ⟨8, 1, .ro, .neu, false⟩, ⟨9, 1, .ro, .neu, false⟩, ⟨10, 1, .ro, .neu, false⟩, ⟨11, 1, .ro, .neu, false⟩, ⟨12, 1, .ro, .neu, false⟩, ⟨16, 1, .ro, .neu, false⟩, ⟨17, 1, .ro, .neu, false⟩, ⟨24, 8, .ro, .neu, false⟩]⟩,
  ⟨0x4001000C, 1, 0x4, false, 0x0, [⟨0, 1, .w1c, .neu, false⟩, ⟨1, 1, .w1c, .neu, false⟩, ⟨2, 1, .w1c, .neu, false⟩, ⟨3, 1, .w1c, .neu, false⟩, ⟨4, 1, .w1c, .neu, false⟩, ⟨5, 1, .w1c, .neu, false⟩]⟩,
  ⟨0x40010010, 1, 0x4, false, 0x0, [⟨0, 16, .ro, .neu, false⟩, ⟨16, 1, .ro, .neu, false⟩]⟩,
  ⟨0x40010014, 1, 0x4, false, 0x0, [⟨0, 16, .ro, .neu, false⟩, ⟨16, 1, .ro, .neu, false⟩]⟩,
  ⟨0x40010018, 1, 0x4, false, 0x0, [⟨0, 32, .ro, .neu, false⟩]⟩,
  ⟨0x4001001C, 1, 0x4, false, 0x0, [⟨0, 32, .ro, .neu, false⟩]⟩,
  ⟨0x40010020, 1, 0x4, false, 0x0, [⟨0, 16, .ro, .neu, false⟩]⟩,
  ⟨0x40010030, 1, 0x4, false, 0x0, [⟨0, 13, .ro, .neu, false⟩]⟩,
  ⟨0x40010034, 1, 0x4, false, 0x0, [⟨0, 32, .ro, .neu, false⟩]⟩,
  ⟨0x40010038, 1, 0x4, false, 0x0, [⟨0, 16, .ro, .neu, false⟩]⟩,
  ⟨0x40010040, 1, 0x4, true, 0x0, [⟨0, 32, .ro, .neu, false⟩]⟩,
  ⟨0x40010044, 1, 0x4, true, 0xFFFFFFFF, [⟨0, 32, .rw, .neu, false⟩]⟩,
  ⟨0x40010048, 1, 0x4, true, 0x0, [⟨0, 1, .rw, .neu, false⟩, ⟨1, 1, .rw, .neu, false⟩]⟩,
  ⟨0x4001004C, 1, 0x4, true, 0x50000, [⟨0, 20, .ro, .neu, false⟩, ⟨31, 1, .ro, .neu, false⟩]⟩]

/-- The registers of SYS (R243 of spec/06_power_states.md). SYS_STRAP, whose reset value is the sampled straps, holds 0 before
their first sampling (DESIGN CHOICE, entry 39). -/
def regsSYS : List RegSpec := [
  ⟨0x40000000, 1, 0x4, false, 0x48200001, [⟨0, 4, .ro, .neu, false⟩, ⟨16, 16, .ro, .neu, false⟩]⟩,
  ⟨0x40000004, 1, 0x4, false, 0x0, [⟨0, 1, .ro, .neu, false⟩, ⟨1, 1, .ro, .neu, false⟩, ⟨2, 7, .ro, .neu, false⟩]⟩,
  ⟨0x40000008, 1, 0x4, true, 0x1, [⟨0, 1, .w1c, .neu, false⟩, ⟨1, 1, .w1c, .neu, false⟩, ⟨2, 1, .w1c, .neu, false⟩, ⟨3, 1, .w1c, .neu, false⟩, ⟨4, 1, .w1c, .neu, false⟩, ⟨5, 1, .w1c, .neu, false⟩]⟩,
  ⟨0x4000000C, 1, 0x4, false, 0x0, [⟨0, 16, .wo, .neu, false⟩]⟩,
  ⟨0x40000010, 1, 0x4, false, 0x0, [⟨0, 1, .wo, .neu, false⟩, ⟨1, 1, .wo, .neu, false⟩, ⟨8, 8, .wo, .neu, false⟩]⟩,
  ⟨0x40000014, 1, 0x4, false, 0x0, [⟨0, 32, .ro, .neu, false⟩]⟩,
  ⟨0x40000018, 1, 0x4, false, 0x0, [⟨0, 8, .ro, .neu, false⟩]⟩,
  ⟨0x40000020, 1, 0x4, true, 0x660000, [⟨0, 1, .w1s, .neu, false⟩, ⟨16, 10, .txn, .dn, false⟩]⟩,
  ⟨0x40000024, 1, 0x4, true, 0x0, [⟨0, 16, .wo, .neu, false⟩]⟩,
  ⟨0x40000028, 1, 0x4, true, 0x0, [⟨0, 1, .w1c, .neu, false⟩]⟩]

/-- The registers of PWR (R243 of spec/06_power_states.md). -/
def regsPWR : List RegSpec := [
  ⟨0x40020000, 1, 0x4, false, 0x2, [⟨0, 3, .ro, .neu, false⟩, ⟨4, 3, .ro, .neu, false⟩, ⟨8, 2, .ro, .neu, false⟩, ⟨12, 1, .ro, .neu, false⟩, ⟨13, 1, .ro, .neu, false⟩, ⟨14, 1, .ro, .neu, false⟩]⟩,
  ⟨0x40020004, 1, 0x4, false, 0x0, [⟨0, 4, .wo, .neu, false⟩]⟩,
  ⟨0x40020008, 1, 0x4, false, 0x0, [⟨0, 4, .ro, .neu, false⟩, ⟨4, 2, .ro, .neu, false⟩, ⟨8, 4, .ro, .neu, false⟩]⟩,
  ⟨0x4002000C, 1, 0x4, false, 0x0, [⟨0, 1, .txn, .neu, false⟩, ⟨1, 1, .txn, .neu, false⟩, ⟨2, 1, .txn, .up, false⟩]⟩,
  ⟨0x40020010, 1, 0x4, false, 0x0, [⟨0, 1, .w1c, .neu, false⟩, ⟨1, 1, .w1c, .neu, false⟩, ⟨2, 1, .w1c, .neu, false⟩, ⟨3, 1, .w1c, .neu, false⟩, ⟨4, 1, .w1c, .neu, false⟩, ⟨5, 1, .w1c, .neu, false⟩, ⟨6, 1, .w1c, .neu, false⟩, ⟨7, 1, .w1c, .neu, false⟩, ⟨8, 1, .w1c, .neu, false⟩, ⟨9, 1, .ro, .neu, false⟩, ⟨10, 1, .ro, .neu, false⟩]⟩,
  ⟨0x40020014, 1, 0x4, false, 0x0, [⟨0, 4, .ro, .neu, false⟩]⟩,
  ⟨0x40020018, 1, 0x4, true, 0x30A04, [⟨0, 8, .rw, .neu, false⟩, ⟨8, 8, .rw, .neu, false⟩, ⟨16, 2, .rw, .neu, false⟩]⟩,
  ⟨0x4002001C, 1, 0x4, true, 0x0, [⟨0, 3, .w1c, .neu, false⟩, ⟨4, 3, .ro, .neu, false⟩, ⟨8, 1, .w1c, .neu, false⟩]⟩,
  ⟨0x40020020, 1, 0x4, false, 0x60664, [⟨0, 8, .txn, .dn, false⟩, ⟨8, 8, .txn, .up, false⟩, ⟨16, 8, .txn, .neu, false⟩]⟩,
  ⟨0x40020024, 1, 0x4, true, 0xA, [⟨0, 8, .txn, .up, false⟩]⟩,
  ⟨0x40020028, 1, 0x4, true, 0x34, [⟨0, 8, .txn, .up, false⟩]⟩,
  ⟨0x4002002C, 1, 0x4, true, 0x0, [⟨0, 9, .ro, .neu, false⟩, ⟨16, 1, .ro, .neu, false⟩, ⟨17, 1, .ro, .neu, false⟩]⟩,
  ⟨0x40020030, 1, 0x4, false, 0x7D, [⟨0, 8, .txn, .dn, false⟩, ⟨16, 16, .ro, .neu, false⟩]⟩]

/-- The registers of INP (R286 of spec/07_inputs_filters.md). -/
def regsINP : List RegSpec := [
  ⟨0x40060000, 2, 0x4, false, 0x40140, [⟨0, 1, .txn, .neu, false⟩, ⟨1, 1, .txn, .neu, false⟩, ⟨2, 3, .txn, .neu, false⟩, ⟨5, 2, .txn, .neu, false⟩, ⟨8, 4, .txn, .neu, false⟩, ⟨12, 1, .txn, .neu, false⟩, ⟨13, 1, .txn, .neu, false⟩, ⟨16, 3, .txn, .neu, false⟩]⟩,
  ⟨0x40060008, 1, 0x4, false, 0x200, [⟨0, 1, .txn, .neu, false⟩, ⟨8, 4, .txn, .neu, false⟩]⟩,
  ⟨0x4006000C, 1, 0x4, false, 0xA01, [⟨0, 2, .txn, .neu, false⟩, ⟨8, 8, .txn, .neu, false⟩]⟩,
  ⟨0x40060010, 1, 0x4, false, 0x0, [⟨0, 3, .ro, .neu, false⟩, ⟨4, 3, .ro, .neu, false⟩, ⟨8, 1, .ro, .neu, false⟩, ⟨16, 4, .ro, .neu, false⟩, ⟨20, 4, .ro, .neu, false⟩, ⟨24, 4, .ro, .neu, false⟩]⟩,
  ⟨0x40060014, 1, 0x4, false, 0x0, [⟨0, 3, .w1c, .neu, false⟩, ⟨4, 3, .w1c, .neu, false⟩, ⟨8, 3, .w1c, .neu, false⟩, ⟨12, 1, .w1c, .neu, false⟩, ⟨13, 1, .w1c, .neu, false⟩]⟩,
  ⟨0x40060018, 1, 0x4, false, 0x0, [⟨0, 3, .ro, .neu, false⟩, ⟨4, 3, .ro, .neu, false⟩, ⟨8, 3, .ro, .neu, false⟩]⟩,
  ⟨0x4006001C, 1, 0x4, false, 0x0, [⟨0, 1, .ro, .neu, false⟩, ⟨1, 1, .ro, .neu, false⟩, ⟨2, 1, .ro, .neu, false⟩, ⟨3, 1, .ro, .neu, false⟩, ⟨15, 1, .wo, .neu, false⟩, ⟨16, 16, .ro, .neu, false⟩]⟩,
  ⟨0x40060020, 3, 0x4, false, 0x0, [⟨0, 32, .ro, .neu, false⟩]⟩,
  ⟨0x4006002C, 1, 0x4, false, 0x0, [⟨0, 24, .ro, .neu, false⟩, ⟨31, 1, .wo, .neu, false⟩]⟩,
  ⟨0x40060040, 6, 0x4, false, 0x0, [⟨0, 32, .ro, .neu, false⟩]⟩,
  ⟨0x40060060, 6, 0x4, false, 0x0, [⟨0, 32, .ro, .neu, false⟩]⟩,
  ⟨0x40060100, 32, 0x4, false, 0x0, [⟨0, 3, .txn, .neu, false⟩, ⟨8, 7, .txn, .neu, false⟩]⟩]

/-- The registers of FEN (R287 of spec/07_inputs_filters.md). -/
def regsFEN : List RegSpec := [
  ⟨0x40070000, 1, 0x4, false, 0x0, [⟨0, 10, .ro, .neu, false⟩, ⟨16, 1, .ro, .neu, false⟩]⟩,
  ⟨0x40070004, 1, 0x4, false, 0x0, [⟨0, 1, .w1c, .neu, false⟩, ⟨1, 1, .w1c, .neu, false⟩, ⟨2, 1, .w1c, .neu, false⟩]⟩,
  ⟨0x40070010, 8, 0x4, false, 0x0, [⟨0, 1, .txn, .fix, false⟩, ⟨4, 3, .txn, .fix, false⟩, ⟨8, 3, .txn, .fix, false⟩, ⟨12, 3, .txn, .fix, false⟩, ⟨16, 3, .txn, .fix, false⟩, ⟨20, 3, .txn, .fix, false⟩, ⟨24, 3, .txn, .fix, false⟩, ⟨28, 3, .txn, .fix, false⟩]⟩,
  ⟨0x40070030, 1, 0x4, false, 0x1, [⟨0, 1, .txn, .fix, false⟩, ⟨4, 3, .txn, .fix, false⟩, ⟨8, 3, .txn, .fix, false⟩, ⟨12, 3, .txn, .fix, false⟩, ⟨16, 3, .txn, .fix, false⟩, ⟨20, 3, .txn, .fix, false⟩, ⟨24, 3, .txn, .fix, false⟩, ⟨28, 3, .txn, .fix, false⟩]⟩,
  ⟨0x40070034, 1, 0x4, false, 0x0, [⟨0, 1, .txn, .fix, false⟩, ⟨4, 3, .txn, .fix, false⟩, ⟨8, 3, .txn, .fix, false⟩, ⟨12, 3, .txn, .fix, false⟩, ⟨16, 3, .txn, .fix, false⟩, ⟨20, 3, .txn, .fix, false⟩, ⟨24, 3, .txn, .fix, false⟩, ⟨28, 3, .txn, .fix, false⟩]⟩,
  ⟨0x40070040, 10, 0x4, false, 0x0, [⟨0, 16, .ro, .neu, false⟩, ⟨16, 7, .ro, .neu, false⟩, ⟨31, 1, .wo, .neu, false⟩]⟩,
  ⟨0x40070080, 1, 0x4, false, 0x0, [⟨0, 10, .w1c, .neu, false⟩]⟩,
  ⟨0x40070090, 4, 0x4, false, 0x7D0, [⟨0, 20, .txn, .fix, false⟩]⟩,
  ⟨0x400700A0, 1, 0x4, false, 0x7D0, [⟨0, 20, .txn, .fix, false⟩]⟩,
  ⟨0x400700C0, 1, 0x4, false, 0x70, [⟨0, 4, .rw, .neu, false⟩, ⟨4, 3, .rw, .neu, false⟩, ⟨8, 2, .rw, .neu, false⟩, ⟨16, 1, .wo, .neu, false⟩, ⟨17, 1, .ro, .neu, false⟩, ⟨18, 1, .w1c, .neu, false⟩]⟩,
  ⟨0x400700C4, 1, 0x4, false, 0x0, [⟨0, 32, .ro, .neu, false⟩]⟩,
  ⟨0x400700C8, 1, 0x4, false, 0x0, [⟨0, 13, .ro, .neu, false⟩]⟩,
  ⟨0x40071000, 256, 0x4, false, 0x0, [⟨0, 32, .ro, .neu, false⟩]⟩]

/-- The registers of MOD (R336 of spec/08_modulator.md). -/
def regsMOD : List RegSpec := [
  ⟨0x40080000, 1, 0x4, false, 0x11, [⟨0, 2, .txn, .fix, false⟩, ⟨4, 1, .txn, .fix, false⟩, ⟨8, 1, .txn, .fix, false⟩]⟩,
  ⟨0x40080004, 1, 0x4, false, 0xF, [⟨0, 4, .txn, .neu, false⟩]⟩,
  ⟨0x40080008, 1, 0x4, false, 0x0, [⟨0, 4, .ro, .neu, false⟩, ⟨8, 1, .ro, .neu, false⟩, ⟨9, 1, .ro, .neu, false⟩, ⟨10, 1, .ro, .neu, false⟩]⟩,
  ⟨0x4008000C, 1, 0x4, false, 0x0, [⟨0, 4, .w1c, .neu, false⟩, ⟨4, 4, .w1c, .neu, false⟩, ⟨8, 1, .w1c, .neu, false⟩, ⟨16, 8, .w1c, .neu, false⟩]⟩,
  ⟨0x40080010, 1, 0x4, false, 0x14, [⟨0, 8, .txn, .up, false⟩]⟩,
  ⟨0x40080014, 1, 0x4, false, 0x20, [⟨0, 8, .txn, .up, false⟩]⟩,
  ⟨0x40080018, 1, 0x4, false, 0x28, [⟨0, 8, .txn, .dn, false⟩]⟩,
  ⟨0x4008001C, 1, 0x4, false, 0x10, [⟨0, 7, .txn, .dn, false⟩]⟩,
  ⟨0x40080020, 1, 0x4, false, 0x40, [⟨0, 8, .txn, .up, false⟩]⟩,
  ⟨0x40080024, 1, 0x4, false, 0x0, [⟨0, 12, .txn, .neu, false⟩, ⟨16, 12, .txn, .neu, false⟩, ⟨31, 1, .txn, .neu, false⟩]⟩,
  ⟨0x40080028, 1, 0x4, false, 0x108001, [⟨0, 1, .txn, .neu, false⟩, ⟨8, 8, .txn, .dn, false⟩, ⟨16, 8, .txn, .neu, false⟩]⟩,
  ⟨0x4008002C, 1, 0x4, false, 0x140, [⟨0, 10, .txn, .dn, false⟩]⟩,
  ⟨0x40080030, 1, 0x4, false, 0x0, [⟨0, 16, .ro, .neu, false⟩]⟩,
  ⟨0x40080034, 1, 0x4, false, 0x0, [⟨0, 16, .ro, .neu, false⟩, ⟨31, 1, .wo, .neu, false⟩]⟩,
  ⟨0x40080040, 1, 0x4, false, 0x0, [⟨0, 8, .txn, .neu, false⟩]⟩,
  ⟨0x40080044, 1, 0x4, false, 0x0, [⟨0, 1, .rw, .neu, false⟩, ⟨8, 16, .rw, .neu, false⟩]⟩,
  ⟨0x40080050, 1, 0x4, false, 0x20000, [⟨0, 24, .txn, .neu, false⟩]⟩,
  ⟨0x40080054, 1, 0x4, false, 0x80000, [⟨0, 24, .txn, .neu, false⟩]⟩,
  ⟨0x40080058, 1, 0x4, false, 0x100000, [⟨0, 24, .txn, .neu, false⟩]⟩,
  ⟨0x4008005C, 1, 0x4, false, 0x200000, [⟨0, 24, .txn, .neu, false⟩]⟩,
  ⟨0x40080060, 1, 0x4, false, 0x400000, [⟨0, 24, .txn, .neu, false⟩]⟩,
  ⟨0x40080064, 1, 0x4, false, 0x800200, [⟨0, 16, .txn, .neu, false⟩, ⟨16, 16, .txn, .neu, false⟩]⟩]

/-- The registers of GDV (R337 of spec/08_modulator.md). -/
def regsGDV : List RegSpec := [
  ⟨0x40090000, 8, 0x4, false, 0x3333, [⟨0, 3, .txn, .neu, false⟩, ⟨4, 3, .txn, .neu, false⟩, ⟨8, 3, .txn, .neu, false⟩, ⟨12, 3, .txn, .neu, false⟩]⟩,
  ⟨0x40090020, 4, 0x4, false, 0x8164, [⟨0, 7, .txn, .dn, false⟩, ⟨8, 1, .txn, .neu, false⟩, ⟨12, 4, .txn, .dn, false⟩]⟩,
  ⟨0x40090030, 1, 0x4, false, 0x64, [⟨0, 8, .txn, .dn, false⟩]⟩,
  ⟨0x40090034, 1, 0x4, false, 0x1, [⟨0, 1, .txn, .up, false⟩]⟩,
  ⟨0x40090040, 4, 0x4, false, 0x0, [⟨0, 1, .w1c, .neu, false⟩, ⟨1, 1, .w1c, .neu, false⟩, ⟨2, 1, .w1c, .neu, false⟩, ⟨3, 1, .w1c, .neu, false⟩]⟩,
  ⟨0x40090050, 1, 0x4, false, 0x0, [⟨0, 1, .w1c, .neu, false⟩, ⟨1, 1, .w1c, .neu, false⟩, ⟨2, 1, .w1c, .neu, false⟩]⟩,
  ⟨0x40090054, 1, 0x4, false, 0x0, [⟨0, 3, .ro, .neu, false⟩, ⟨4, 3, .ro, .neu, false⟩, ⟨8, 1, .ro, .neu, false⟩]⟩,
  ⟨0x40090058, 1, 0x4, false, 0x0, [⟨0, 8, .ro, .neu, false⟩, ⟨8, 1, .ro, .neu, false⟩, ⟨9, 1, .ro, .neu, false⟩, ⟨12, 4, .ro, .neu, false⟩, ⟨16, 1, .ro, .neu, false⟩]⟩,
  ⟨0x4009005C, 1, 0x4, false, 0x0, [⟨0, 16, .ro, .neu, false⟩, ⟨31, 1, .wo, .neu, false⟩]⟩]

/-- The registers of GRD (R374 of spec/09_guard.md). -/
def regsGRD : List RegSpec := [
  ⟨0x400A0000, 1, 0x4, false, 0x18, [⟨0, 8, .txn, .fix, false⟩]⟩,
  ⟨0x400A0004, 1, 0x4, false, 0xA0, [⟨0, 8, .txn, .up, false⟩]⟩,
  ⟨0x400A0008, 1, 0x4, false, 0x14, [⟨0, 8, .txn, .dn, false⟩]⟩,
  ⟨0x400A000C, 1, 0x4, false, 0x3C, [⟨0, 8, .txn, .dn, false⟩]⟩,
  ⟨0x400A0010, 1, 0x4, false, 0xA, [⟨0, 6, .txn, .up, false⟩]⟩,
  ⟨0x400A0014, 1, 0x4, false, 0x0, [⟨0, 4, .w1c, .neu, false⟩, ⟨4, 4, .w1c, .neu, false⟩, ⟨8, 4, .w1c, .neu, false⟩, ⟨12, 4, .w1c, .neu, false⟩, ⟨16, 4, .w1c, .neu, false⟩, ⟨24, 1, .w1c, .neu, false⟩]⟩,
  ⟨0x400A0018, 1, 0x4, false, 0x0, [⟨0, 8, .ro, .neu, false⟩]⟩,
  ⟨0x400A0100, 4, 0x100, false, 0xF5A0FA0, [⟨0, 16, .txn, .neu, false⟩, ⟨16, 13, .txn, .neu, false⟩]⟩,
  ⟨0x400A0104, 4, 0x100, false, 0x3E803E8, [⟨0, 16, .txn, .neu, false⟩, ⟨16, 16, .txn, .neu, false⟩]⟩,
  ⟨0x400A0108, 4, 0x100, false, 0x7D001F4, [⟨0, 16, .txn, .neu, false⟩, ⟨16, 16, .txn, .neu, false⟩]⟩,
  ⟨0x400A010C, 4, 0x100, false, 0x190A5A64, [⟨0, 8, .txn, .dn, false⟩, ⟨8, 8, .txn, .dn, false⟩, ⟨16, 8, .txn, .up, false⟩, ⟨24, 8, .txn, .neu, false⟩]⟩,
  ⟨0x400A0110, 4, 0x100, false, 0x10282805, [⟨0, 3, .txn, .neu, false⟩, ⟨8, 8, .txn, .up, true⟩, ⟨16, 8, .txn, .up, false⟩, ⟨24, 8, .txn, .neu, false⟩]⟩,
  ⟨0x400A0120, 4, 0x100, false, 0x7D01388, [⟨0, 16, .txn, .neu, false⟩, ⟨16, 16, .txn, .neu, false⟩]⟩,
  ⟨0x400A0124, 4, 0x100, false, 0x3E807D0, [⟨0, 16, .txn, .neu, false⟩, ⟨16, 16, .txn, .neu, false⟩]⟩,
  ⟨0x400A0128, 4, 0x100, false, 0x0, [⟨0, 8, .txn, .neu, false⟩, ⟨8, 8, .txn, .neu, false⟩, ⟨16, 8, .txn, .neu, false⟩, ⟨24, 8, .txn, .neu, false⟩]⟩,
  ⟨0x400A012C, 4, 0x100, false, 0xE60064, [⟨0, 12, .txn, .dn, false⟩, ⟨16, 8, .txn, .dn, false⟩]⟩,
  ⟨0x400A0130, 4, 0x100, false, 0x14, [⟨0, 8, .txn, .up, false⟩]⟩,
  ⟨0x400A0140, 4, 0x100, false, 0xC320501, [⟨0, 1, .txn, .neu, false⟩, ⟨4, 9, .txn, .neu, false⟩, ⟨16, 8, .txn, .neu, false⟩, ⟨24, 8, .txn, .neu, false⟩]⟩,
  ⟨0x400A0144, 4, 0x100, false, 0x5, [⟨0, 8, .txn, .neu, false⟩]⟩,
  ⟨0x400A0148, 4, 0x100, false, 0x27D000C8, [⟨0, 10, .txn, .neu, false⟩, ⟨16, 12, .txn, .neu, false⟩, ⟨28, 3, .txn, .neu, false⟩]⟩,
  ⟨0x400A014C, 4, 0x100, false, 0x1432, [⟨0, 8, .txn, .neu, false⟩, ⟨8, 8, .txn, .neu, false⟩]⟩,
  ⟨0x400A0150, 4, 0x100, false, 0x141401, [⟨0, 1, .txn, .neu, false⟩, ⟨8, 6, .txn, .neu, false⟩, ⟨16, 8, .txn, .neu, false⟩]⟩,
  ⟨0x400A0180, 4, 0x100, false, 0x80, [⟨0, 1, .ro, .neu, false⟩, ⟨1, 1, .ro, .neu, false⟩, ⟨2, 1, .ro, .neu, false⟩, ⟨3, 1, .ro, .neu, false⟩, ⟨4, 1, .ro, .neu, false⟩, ⟨5, 1, .ro, .neu, false⟩, ⟨6, 1, .ro, .neu, false⟩, ⟨7, 1, .ro, .neu, false⟩, ⟨8, 2, .ro, .neu, false⟩]⟩,
  ⟨0x400A0184, 4, 0x100, false, 0x0, [⟨0, 8, .ro, .neu, false⟩, ⟨8, 8, .ro, .neu, false⟩, ⟨16, 8, .ro, .neu, false⟩]⟩,
  ⟨0x400A0188, 4, 0x100, false, 0x0, [⟨0, 16, .ro, .neu, false⟩, ⟨16, 16, .ro, .neu, false⟩]⟩,
  ⟨0x400A018C, 4, 0x100, false, 0x0, [⟨0, 16, .ro, .neu, false⟩, ⟨16, 16, .ro, .neu, false⟩]⟩,
  ⟨0x400A0190, 4, 0x100, false, 0x0, [⟨0, 16, .ro, .neu, false⟩, ⟨16, 16, .ro, .neu, false⟩]⟩,
  ⟨0x400A0194, 4, 0x100, false, 0x0, [⟨0, 16, .ro, .neu, false⟩]⟩,
  ⟨0x400A0198, 4, 0x100, false, 0x0, [⟨0, 16, .ro, .neu, false⟩, ⟨31, 1, .wo, .neu, false⟩]⟩,
  ⟨0x400A019C, 4, 0x100, false, 0x80008000, [⟨0, 16, .ro, .neu, false⟩, ⟨16, 16, .ro, .neu, false⟩]⟩,
  ⟨0x400A01A0, 4, 0x100, false, 0x80008000, [⟨0, 16, .ro, .neu, false⟩, ⟨16, 16, .ro, .neu, false⟩]⟩,
  ⟨0x400A01A4, 4, 0x100, false, 0x0, [⟨0, 32, .ro, .neu, false⟩]⟩]

/-- The registers of DIAG (R399 of spec/10_load_diagnostics.md). -/
def regsDIAG : List RegSpec := [
  ⟨0x400B0000, 1, 0x4, false, 0x23, [⟨0, 1, .txn, .up, false⟩, ⟨1, 1, .txn, .up, false⟩, ⟨4, 2, .txn, .neu, false⟩]⟩,
  ⟨0x400B0004, 1, 0x4, false, 0x101020, [⟨0, 8, .txn, .neu, false⟩, ⟨8, 8, .txn, .neu, false⟩, ⟨16, 6, .txn, .neu, false⟩]⟩,
  ⟨0x400B0008, 1, 0x4, false, 0x0, [⟨0, 2, .wo, .neu, false⟩, ⟨8, 4, .wo, .neu, false⟩]⟩,
  ⟨0x400B000C, 1, 0x4, false, 0x0, [⟨0, 2, .ro, .neu, false⟩, ⟨8, 6, .ro, .neu, false⟩, ⟨16, 4, .ro, .neu, false⟩]⟩,
  ⟨0x400B0010, 1, 0x4, false, 0x0, [⟨0, 4, .w1c, .neu, false⟩]⟩,
  ⟨0x400B0014, 1, 0x4, false, 0x0, [⟨0, 4, .w1c, .neu, false⟩, ⟨4, 4, .w1c, .neu, false⟩, ⟨8, 1, .w1c, .neu, false⟩, ⟨9, 1, .w1c, .neu, false⟩, ⟨10, 1, .w1c, .neu, false⟩]⟩,
  ⟨0x400B0018, 1, 0x4, false, 0x101F, [⟨0, 4, .txn, .up, false⟩, ⟨4, 2, .txn, .up, false⟩, ⟨8, 7, .txn, .dn, false⟩]⟩,
  ⟨0x400B001C, 1, 0x4, false, 0x14, [⟨0, 8, .txn, .dn, false⟩]⟩,
  ⟨0x400B0020, 1, 0x4, false, 0x4192814, [⟨0, 8, .txn, .neu, false⟩, ⟨8, 8, .txn, .neu, false⟩, ⟨16, 8, .txn, .neu, false⟩, ⟨24, 4, .txn, .neu, false⟩]⟩,
  ⟨0x400B0024, 1, 0x4, false, 0x4E200014, [⟨0, 16, .rw, .neu, false⟩, ⟨16, 16, .rw, .neu, false⟩]⟩,
  ⟨0x400B0028, 1, 0x4, false, 0xA200A, [⟨0, 7, .rw, .neu, false⟩, ⟨8, 7, .rw, .neu, false⟩, ⟨16, 8, .rw, .neu, false⟩]⟩,
  ⟨0x400B0100, 4, 0x100, false, 0xC800064, [⟨0, 16, .txn, .up, false⟩, ⟨16, 16, .txn, .dn, false⟩]⟩,
  ⟨0x400B0104, 4, 0x100, false, 0x0, [⟨0, 3, .ro, .neu, false⟩, ⟨4, 1, .ro, .neu, false⟩, ⟨8, 1, .ro, .neu, false⟩]⟩,
  ⟨0x400B0108, 4, 0x100, false, 0x0, [⟨0, 20, .ro, .neu, false⟩]⟩,
  ⟨0x400B010C, 4, 0x100, false, 0x0, [⟨0, 3, .ro, .neu, false⟩, ⟨4, 1, .ro, .neu, false⟩]⟩,
  ⟨0x400B0110, 4, 0x100, false, 0x0, [⟨0, 7, .ro, .neu, false⟩, ⟨8, 1, .ro, .neu, false⟩]⟩,
  ⟨0x400B1000, 128, 0x4, false, 0x0, [⟨0, 32, .ro, .neu, false⟩]⟩,
  ⟨0x400B1200, 128, 0x4, false, 0x0, [⟨0, 32, .ro, .neu, false⟩]⟩,
  ⟨0x400B1400, 128, 0x4, false, 0x0, [⟨0, 32, .ro, .neu, false⟩]⟩,
  ⟨0x400B1600, 128, 0x4, false, 0x0, [⟨0, 32, .ro, .neu, false⟩]⟩]

/-- The registers of RSV (R434 of spec/11_reservoir_weir.md). -/
def regsRSV : List RegSpec := [
  ⟨0x40050000, 1, 0x4, false, 0x3480010, [⟨0, 6, .txn, .fix, false⟩, ⟨16, 16, .txn, .up, false⟩]⟩,
  ⟨0x40050004, 1, 0x4, false, 0xA4107530, [⟨0, 16, .txn, .up, false⟩, ⟨16, 16, .txn, .dn, false⟩]⟩,
  ⟨0x40050008, 1, 0x4, false, 0x5A1388, [⟨0, 16, .txn, .dn, false⟩, ⟨16, 8, .txn, .dn, false⟩]⟩,
  ⟨0x4005000C, 1, 0x4, false, 0x1437, [⟨0, 8, .txn, .dn, false⟩, ⟨8, 8, .txn, .up, false⟩]⟩,
  ⟨0x40050010, 1, 0x4, false, 0x32960F, [⟨0, 8, .txn, .up, false⟩, ⟨8, 8, .txn, .up, false⟩, ⟨16, 8, .txn, .up, false⟩]⟩,
  ⟨0x40050014, 1, 0x4, false, 0x3C8064, [⟨0, 8, .txn, .up, false⟩, ⟨8, 8, .txn, .dn, false⟩, ⟨16, 8, .txn, .dn, false⟩]⟩,
  ⟨0x40050018, 1, 0x4, false, 0x8764285A, [⟨0, 8, .txn, .dn, false⟩, ⟨8, 8, .txn, .up, true⟩, ⟨16, 8, .txn, .up, false⟩, ⟨24, 8, .txn, .dn, false⟩]⟩,
  ⟨0x4005001C, 1, 0x4, false, 0xFA001F4, [⟨0, 16, .txn, .up, false⟩, ⟨16, 16, .txn, .dn, false⟩]⟩,
  ⟨0x40050020, 1, 0x4, false, 0xA01, [⟨0, 4, .txn, .neu, false⟩, ⟨8, 8, .txn, .up, false⟩]⟩,
  ⟨0x40050024, 1, 0x4, false, 0x6400C8, [⟨0, 16, .txn, .neu, false⟩, ⟨16, 16, .txn, .neu, false⟩]⟩,
  ⟨0x40050028, 1, 0x4, false, 0x641405, [⟨0, 8, .txn, .neu, false⟩, ⟨8, 8, .txn, .neu, false⟩, ⟨16, 8, .txn, .neu, false⟩]⟩,
  ⟨0x4005002C, 1, 0x4, false, 0x641405, [⟨0, 8, .txn, .neu, false⟩, ⟨8, 8, .txn, .neu, false⟩, ⟨16, 8, .txn, .neu, false⟩]⟩,
  ⟨0x40050030, 1, 0x4, false, 0x1E051E05, [⟨0, 8, .txn, .dn, false⟩, ⟨8, 8, .txn, .neu, false⟩, ⟨16, 8, .txn, .neu, false⟩, ⟨24, 8, .txn, .neu, false⟩]⟩,
  ⟨0x40050040, 4, 0x4, false, 0x1F40FA0, [⟨0, 16, .txn, .dn, false⟩, ⟨16, 12, .txn, .up, false⟩]⟩,
  ⟨0x40050050, 4, 0x4, false, 0x8000, [⟨0, 16, .txn, .dn, false⟩]⟩,
  ⟨0x40050080, 1, 0x4, false, 0x0, [⟨0, 8, .ro, .neu, false⟩, ⟨8, 2, .ro, .neu, false⟩, ⟨10, 1, .ro, .neu, false⟩]⟩,
  ⟨0x40050084, 1, 0x4, false, 0x0, [⟨0, 6, .w1c, .neu, false⟩]⟩,
  ⟨0x40050088, 1, 0x4, false, 0x0, [⟨0, 16, .ro, .neu, false⟩, ⟨16, 16, .ro, .neu, false⟩]⟩,
  ⟨0x4005008C, 1, 0x4, false, 0x8000, [⟨0, 16, .ro, .neu, false⟩, ⟨16, 6, .ro, .neu, false⟩, ⟨23, 1, .ro, .neu, false⟩]⟩,
  ⟨0x40050090, 1, 0x4, false, 0x0, [⟨0, 16, .ro, .neu, false⟩, ⟨16, 16, .ro, .neu, false⟩]⟩,
  ⟨0x40050094, 1, 0x4, false, 0x0, [⟨0, 16, .ro, .neu, false⟩, ⟨16, 16, .ro, .neu, false⟩]⟩,
  ⟨0x40050098, 1, 0x4, false, 0x11, [⟨0, 4, .ro, .neu, false⟩, ⟨4, 4, .ro, .neu, false⟩]⟩,
  ⟨0x4005009C, 1, 0x4, false, 0x0, [⟨0, 16, .ro, .neu, false⟩, ⟨16, 5, .ro, .neu, false⟩]⟩,
  ⟨0x400500A0, 1, 0x4, false, 0x0, [⟨0, 16, .ro, .neu, false⟩, ⟨16, 5, .ro, .neu, false⟩]⟩,
  ⟨0x400500A4, 1, 0x4, false, 0x0, [⟨0, 16, .ro, .neu, false⟩]⟩,
  ⟨0x400500A8, 1, 0x4, false, 0x0, [⟨0, 8, .ro, .neu, false⟩, ⟨8, 8, .ro, .neu, false⟩, ⟨16, 1, .ro, .neu, false⟩]⟩,
  ⟨0x40050100, 32, 0x4, false, 0x0, [⟨0, 16, .ro, .neu, false⟩, ⟨16, 6, .ro, .neu, false⟩, ⟨24, 8, .ro, .neu, false⟩]⟩]

/-- The registers of WEIR (R435 of spec/11_reservoir_weir.md). -/
def regsWEIR : List RegSpec := [
  ⟨0x40040000, 1, 0x4, false, 0x258, [⟨0, 16, .rw, .neu, false⟩]⟩,
  ⟨0x40040004, 2, 0x4, false, 0x0, [⟨0, 6, .ro, .neu, false⟩, ⟨31, 1, .ro, .neu, false⟩]⟩,
  ⟨0x40040010, 2, 0x4, false, 0x0, [⟨0, 32, .w1s, .neu, false⟩]⟩,
  ⟨0x40040018, 2, 0x4, false, 0x0, [⟨0, 32, .w1c, .neu, false⟩]⟩,
  ⟨0x40040020, 2, 0x4, false, 0x0, [⟨0, 32, .w1c, .neu, false⟩]⟩,
  ⟨0x40040028, 2, 0x4, false, 0x0, [⟨0, 32, .w1c, .neu, false⟩]⟩,
  ⟨0x40040100, 64, 0x4, false, 0x0, [⟨0, 3, .rw, .neu, false⟩, ⟨4, 2, .rw, .neu, false⟩, ⟨8, 2, .rw, .neu, false⟩, ⟨12, 1, .rw, .neu, false⟩, ⟨14, 2, .rw, .neu, false⟩, ⟨16, 16, .rw, .neu, false⟩]⟩,
  ⟨0x40040200, 64, 0x4, false, 0x0, [⟨0, 16, .rw, .neu, false⟩, ⟨16, 16, .rw, .neu, false⟩]⟩,
  ⟨0x40040300, 64, 0x4, false, 0x0, [⟨0, 2, .ro, .neu, false⟩, ⟨2, 1, .ro, .neu, false⟩, ⟨3, 1, .ro, .neu, false⟩, ⟨4, 3, .ro, .neu, false⟩, ⟨7, 1, .ro, .neu, false⟩, ⟨8, 1, .ro, .neu, false⟩, ⟨16, 16, .ro, .neu, false⟩]⟩]

/-- The registers of SHL (R485 of spec/12_shoreline_chain.md). -/
def regsSHL : List RegSpec := [
  ⟨0x400C0000, 1, 0x4, false, 0x100, [⟨0, 1, .txn, .fix, false⟩, ⟨1, 1, .txn, .neu, false⟩, ⟨8, 7, .txn, .fix, false⟩, ⟨16, 7, .txn, .neu, false⟩]⟩,
  ⟨0x400C0004, 1, 0x4, false, 0xA0A0A28, [⟨0, 8, .txn, .neu, false⟩, ⟨8, 8, .txn, .neu, false⟩, ⟨16, 8, .txn, .neu, false⟩, ⟨24, 8, .txn, .neu, false⟩]⟩,
  ⟨0x400C0008, 1, 0x4, false, 0xF32003C, [⟨0, 16, .txn, .neu, false⟩, ⟨16, 8, .txn, .neu, false⟩, ⟨24, 8, .txn, .neu, false⟩]⟩,
  ⟨0x400C000C, 1, 0x4, false, 0x0, [⟨0, 1, .wo, .neu, false⟩, ⟨1, 1, .wo, .neu, false⟩, ⟨2, 1, .wo, .neu, false⟩, ⟨3, 1, .wo, .neu, false⟩]⟩,
  ⟨0x400C0010, 1, 0x4, false, 0x0, [⟨0, 2, .ro, .neu, false⟩, ⟨8, 7, .ro, .neu, false⟩, ⟨16, 7, .ro, .neu, false⟩, ⟨31, 1, .ro, .neu, false⟩]⟩,
  ⟨0x400C0014, 1, 0x4, false, 0x0, [⟨0, 8, .w1c, .neu, false⟩]⟩,
  ⟨0x400C0018, 1, 0x4, false, 0x0, [⟨0, 16, .ro, .neu, false⟩, ⟨16, 16, .ro, .neu, false⟩]⟩,
  ⟨0x400C001C, 1, 0x4, false, 0x0, [⟨0, 16, .ro, .neu, false⟩, ⟨16, 15, .ro, .neu, false⟩, ⟨31, 1, .wo, .neu, false⟩]⟩,
  ⟨0x400C0020, 1, 0x4, false, 0x0, [⟨0, 24, .ro, .neu, false⟩]⟩,
  ⟨0x400C0040, 4, 0x10, false, 0x0, [⟨0, 7, .rw, .neu, false⟩, ⟨8, 8, .rw, .neu, false⟩, ⟨16, 7, .rw, .neu, false⟩, ⟨31, 1, .wo, .neu, false⟩]⟩,
  ⟨0x400C0044, 4, 0x10, false, 0x0, [⟨2, 30, .rw, .neu, false⟩]⟩,
  ⟨0x400C0048, 4, 0x10, false, 0x0, [⟨0, 2, .ro, .neu, false⟩, ⟨2, 2, .ro, .neu, false⟩, ⟨8, 8, .ro, .neu, false⟩, ⟨16, 7, .ro, .neu, false⟩, ⟨24, 8, .ro, .neu, false⟩]⟩,
  ⟨0x400C0100, 64, 0x20, false, 0x0, [⟨0, 5, .txn, .fix, false⟩, ⟨8, 5, .txn, .fix, false⟩]⟩,
  ⟨0x400C0104, 64, 0x20, false, 0x0, [⟨0, 2, .ro, .neu, false⟩, ⟨2, 2, .ro, .neu, false⟩, ⟨4, 3, .ro, .neu, false⟩, ⟨7, 1, .ro, .neu, false⟩, ⟨8, 8, .ro, .neu, false⟩, ⟨16, 1, .ro, .neu, false⟩, ⟨17, 1, .ro, .neu, false⟩, ⟨18, 1, .ro, .neu, false⟩]⟩,
  ⟨0x400C0108, 64, 0x20, false, 0xFFFFFF, [⟨0, 24, .ro, .neu, false⟩]⟩,
  ⟨0x400C010C, 64, 0x20, false, 0xFFFFFF, [⟨0, 24, .ro, .neu, false⟩]⟩,
  ⟨0x400C0110, 64, 0x20, false, 0x0, [⟨0, 32, .ro, .neu, false⟩]⟩,
  ⟨0x400C0114, 64, 0x20, false, 0x0, [⟨0, 32, .ro, .neu, false⟩]⟩,
  ⟨0x400C0118, 64, 0x20, false, 0x0, [⟨0, 8, .ro, .neu, false⟩, ⟨8, 2, .ro, .neu, false⟩, ⟨16, 8, .ro, .neu, false⟩, ⟨24, 8, .ro, .neu, false⟩]⟩,
  ⟨0x400C011C, 64, 0x20, false, 0xFFFF0000, [⟨0, 16, .ro, .neu, false⟩, ⟨16, 16, .ro, .neu, false⟩]⟩]

/-- The registers of XM (R520 of spec/13_xm18.md). -/
def regsXM : List RegSpec := [
  ⟨0x100000000, 1, 0x4, false, 0x1800, [⟨0, 4, .ro, .neu, false⟩, ⟨8, 8, .ro, .neu, false⟩]⟩,
  ⟨0x100000001, 1, 0x4, false, 0x312, [⟨0, 5, .rw, .neu, false⟩, ⟨8, 1, .rw, .neu, false⟩, ⟨9, 1, .rw, .neu, false⟩]⟩,
  ⟨0x100000002, 1, 0x4, false, 0x0, [⟨0, 5, .ro, .neu, false⟩, ⟨5, 2, .ro, .neu, false⟩, ⟨7, 2, .ro, .neu, false⟩, ⟨9, 1, .ro, .neu, false⟩, ⟨10, 1, .ro, .neu, false⟩]⟩,
  ⟨0x100000004, 1, 0x4, false, 0x0, [⟨0, 8, .ro, .neu, false⟩, ⟨8, 8, .ro, .neu, false⟩]⟩,
  ⟨0x100000008, 1, 0x4, false, 0xFFFF, [⟨0, 16, .rw, .neu, false⟩]⟩,
  ⟨0x100000009, 1, 0x4, false, 0xFF, [⟨0, 8, .rw, .neu, false⟩]⟩,
  ⟨0x10000000A, 1, 0x4, false, 0xFFFF, [⟨0, 16, .rw, .neu, false⟩]⟩,
  ⟨0x10000000B, 1, 0x4, false, 0xFF, [⟨0, 8, .rw, .neu, false⟩]⟩,
  ⟨0x10000000C, 1, 0x4, false, 0x0, [⟨0, 16, .ro, .neu, false⟩]⟩,
  ⟨0x10000000D, 1, 0x4, false, 0x0, [⟨0, 16, .ro, .neu, false⟩]⟩,
  ⟨0x10000000E, 1, 0x4, false, 0x0, [⟨0, 16, .ro, .neu, false⟩]⟩,
  ⟨0x100000010, 18, 0x1, false, 0x0, [⟨0, 16, .ro, .neu, false⟩]⟩,
  ⟨0x100000028, 18, 0x1, false, 0x0, [⟨0, 10, .ro, .neu, false⟩]⟩,
  ⟨0x100000040, 1, 0x4, false, 0x0, [⟨0, 16, .ro, .neu, false⟩]⟩,
  ⟨0x100000041, 1, 0x4, false, 0x0, [⟨0, 16, .ro, .neu, false⟩]⟩,
  ⟨0x100000042, 1, 0x4, false, 0x0, [⟨0, 16, .ro, .neu, false⟩]⟩,
  ⟨0x100000043, 1, 0x4, false, 0x0, [⟨0, 16, .ro, .neu, false⟩]⟩,
  ⟨0x100000044, 1, 0x4, false, 0x0, [⟨0, 16, .ro, .neu, false⟩]⟩,
  ⟨0x100000048, 1, 0x4, false, 0x9632, [⟨0, 8, .rw, .neu, false⟩, ⟨8, 8, .rw, .neu, false⟩]⟩,
  ⟨0x100000049, 1, 0x4, false, 0x6, [⟨0, 4, .rw, .neu, false⟩]⟩,
  ⟨0x10000004A, 1, 0x4, false, 0x0, [⟨0, 16, .ro, .neu, false⟩]⟩,
  ⟨0x10000004B, 1, 0x4, false, 0x0, [⟨0, 16, .ro, .neu, false⟩]⟩,
  ⟨0x10000004C, 1, 0x4, false, 0x14, [⟨0, 8, .rw, .neu, false⟩]⟩,
  ⟨0x10000004E, 1, 0x4, false, 0x0, [⟨0, 16, .rw, .neu, false⟩]⟩,
  ⟨0x10000004F, 1, 0x4, false, 0x0, [⟨0, 16, .rw, .neu, false⟩]⟩,
  ⟨0x100000050, 1, 0x4, false, 0x0, [⟨0, 16, .rw, .neu, false⟩]⟩,
  ⟨0x100000051, 1, 0x4, false, 0x0, [⟨0, 2, .rw, .neu, false⟩]⟩,
  ⟨0x100000052, 1, 0x4, false, 0x6906, [⟨0, 4, .rw, .neu, false⟩, ⟨8, 8, .rw, .neu, false⟩]⟩,
  ⟨0x100000053, 1, 0x4, false, 0x0, [⟨0, 16, .wo, .neu, false⟩]⟩,
  ⟨0x100000054, 1, 0x4, false, 0x0, [⟨0, 16, .ro, .neu, false⟩]⟩,
  ⟨0x100000055, 1, 0x4, false, 0x0, [⟨0, 2, .ro, .neu, false⟩]⟩,
  ⟨0x100000058, 18, 0x1, false, 0x3C, [⟨0, 8, .rw, .neu, false⟩]⟩,
  ⟨0x100000070, 1, 0x4, false, 0x0, [⟨0, 16, .ro, .neu, false⟩]⟩,
  ⟨0x100000071, 1, 0x4, false, 0x0, [⟨0, 2, .ro, .neu, false⟩]⟩,
  ⟨0x100000072, 1, 0x4, false, 0x1E, [⟨0, 8, .rw, .neu, false⟩]⟩,
  ⟨0x100000074, 1, 0x4, false, 0x800, [⟨0, 1, .wo, .neu, false⟩, ⟨4, 4, .rw, .neu, false⟩, ⟨8, 8, .rw, .neu, false⟩]⟩,
  ⟨0x100000075, 1, 0x4, false, 0x0, [⟨0, 16, .ro, .neu, false⟩]⟩,
  ⟨0x100000076, 1, 0x4, false, 0x0, [⟨0, 3, .ro, .neu, false⟩]⟩,
  ⟨0x100000077, 1, 0x4, false, 0x32, [⟨0, 8, .rw, .neu, false⟩]⟩,
  ⟨0x100000078, 1, 0x4, false, 0x258, [⟨0, 12, .rw, .neu, false⟩]⟩,
  ⟨0x100000079, 1, 0x4, false, 0xD296, [⟨0, 8, .rw, .neu, false⟩, ⟨8, 8, .rw, .neu, false⟩]⟩,
  ⟨0x10000007A, 1, 0x4, false, 0x3C, [⟨0, 8, .rw, .neu, false⟩]⟩,
  ⟨0x10000007B, 1, 0x4, false, 0x0, [⟨0, 4, .ro, .neu, false⟩]⟩]

/-- The registers of TRN (R567 of spec/14_tarn_ring.md). -/
def regsTRN : List RegSpec := [
  ⟨0x400D0000, 1, 0x4, false, 0xA03, [⟨0, 1, .txn, .fix, false⟩, ⟨1, 1, .txn, .neu, false⟩, ⟨8, 8, .txn, .neu, false⟩]⟩,
  ⟨0x400D0004, 1, 0x4, false, 0x30060, [⟨0, 9, .txn, .fix, false⟩, ⟨16, 4, .txn, .fix, false⟩]⟩,
  ⟨0x400D0008, 1, 0x4, false, 0x0, [⟨0, 16, .txn, .neu, false⟩, ⟨16, 16, .txn, .neu, false⟩]⟩,
  ⟨0x400D0010, 1, 0x4, false, 0x18, [⟨0, 2, .ro, .neu, false⟩, ⟨2, 3, .ro, .neu, false⟩, ⟨5, 1, .ro, .neu, false⟩, ⟨6, 2, .ro, .neu, false⟩, ⟨8, 1, .ro, .neu, false⟩, ⟨9, 1, .ro, .neu, false⟩, ⟨10, 2, .ro, .neu, false⟩, ⟨16, 7, .ro, .neu, false⟩, ⟨23, 1, .ro, .neu, false⟩]⟩,
  ⟨0x400D0014, 1, 0x4, false, 0x0, [⟨0, 14, .w1c, .neu, false⟩]⟩,
  ⟨0x400D0018, 1, 0x4, false, 0x0, [⟨0, 20, .ro, .neu, false⟩]⟩,
  ⟨0x400D001C, 1, 0x4, false, 0xFFFF, [⟨0, 16, .ro, .neu, false⟩]⟩,
  ⟨0x400D0020, 1, 0x4, false, 0xFFFF, [⟨0, 16, .ro, .neu, false⟩]⟩,
  ⟨0x400D0024, 1, 0x4, false, 0x0, [⟨0, 9, .ro, .neu, false⟩, ⟨16, 9, .ro, .neu, false⟩]⟩,
  ⟨0x400D0028, 1, 0x4, false, 0x0, [⟨0, 20, .ro, .neu, false⟩]⟩,
  ⟨0x400D002C, 1, 0x4, false, 0x0, [⟨0, 32, .ro, .neu, false⟩]⟩,
  ⟨0x400D0030, 1, 0x4, false, 0x0, [⟨0, 32, .ro, .neu, false⟩]⟩,
  ⟨0x400D0034, 1, 0x4, false, 0x0, [⟨0, 7, .ro, .neu, false⟩, ⟨8, 7, .ro, .neu, false⟩]⟩,
  ⟨0x400D0038, 1, 0x4, false, 0x0, [⟨0, 32, .ro, .neu, false⟩]⟩,
  ⟨0x400D0040, 1, 0x4, false, 0x0, [⟨0, 16, .ro, .neu, false⟩, ⟨16, 16, .ro, .neu, false⟩]⟩,
  ⟨0x400D0044, 1, 0x4, false, 0x0, [⟨0, 16, .ro, .neu, false⟩, ⟨16, 16, .ro, .neu, false⟩]⟩,
  ⟨0x400D0048, 1, 0x4, false, 0x0, [⟨0, 1, .wo, .neu, false⟩]⟩,
  ⟨0x400D004C, 1, 0x4, false, 0x0, [⟨0, 8, .ro, .neu, false⟩, ⟨8, 8, .ro, .neu, false⟩, ⟨16, 8, .ro, .neu, false⟩, ⟨24, 8, .ro, .neu, false⟩]⟩,
  ⟨0x400D0080, 16, 0x4, false, 0x0, [⟨0, 7, .txn, .neu, false⟩, ⟨8, 2, .txn, .neu, false⟩, ⟨10, 5, .txn, .neu, false⟩, ⟨15, 1, .ro, .neu, false⟩]⟩,
  ⟨0x400D0100, 32, 0x4, false, 0x0, [⟨0, 16, .ro, .neu, false⟩, ⟨31, 1, .wo, .neu, false⟩]⟩,
  ⟨0x400D0200, 1, 0x4, false, 0x0, [⟨0, 8, .rw, .neu, false⟩, ⟨8, 9, .rw, .neu, false⟩, ⟨24, 2, .ro, .neu, false⟩, ⟨31, 1, .wo, .neu, false⟩]⟩,
  ⟨0x400D0204, 1, 0x4, false, 0x0, [⟨2, 30, .rw, .neu, false⟩]⟩,
  ⟨0x400D0208, 1, 0x4, false, 0x0, [⟨0, 7, .ro, .neu, false⟩, ⟨8, 9, .ro, .neu, false⟩, ⟨31, 1, .w1c, .neu, false⟩]⟩,
  ⟨0x400D020C, 1, 0x4, false, 0x0, [⟨2, 30, .rw, .neu, false⟩]⟩,
  ⟨0x400D0400, 128, 0x4, false, 0x0, [⟨0, 2, .ro, .neu, false⟩, ⟨2, 1, .ro, .neu, false⟩, ⟨3, 1, .ro, .neu, false⟩, ⟨4, 1, .ro, .neu, false⟩, ⟨16, 16, .ro, .neu, false⟩]⟩]

/-- The registers of HPA (R617 of spec/15_host_protocol.md). -/
def regsHPA : List RegSpec := [
  ⟨0x400E0000, 1, 0x4, false, 0x3201, [⟨0, 1, .rw, .neu, false⟩, ⟨1, 1, .rw, .neu, false⟩, ⟨2, 1, .rw, .neu, false⟩, ⟨8, 8, .rw, .neu, false⟩]⟩,
  ⟨0x400E0004, 1, 0x4, false, 0x13, [⟨0, 5, .ro, .neu, false⟩]⟩,
  ⟨0x400E0008, 1, 0x4, false, 0x0, [⟨0, 16, .ro, .neu, false⟩, ⟨16, 1, .ro, .neu, false⟩]⟩,
  ⟨0x400E000C, 1, 0x4, false, 0x0, [⟨0, 4, .ro, .neu, false⟩, ⟨16, 13, .ro, .neu, false⟩, ⟨31, 1, .ro, .neu, false⟩]⟩,
  ⟨0x400E0010, 1, 0x4, false, 0x0, [⟨0, 4, .ro, .neu, false⟩, ⟨8, 8, .ro, .neu, false⟩]⟩,
  ⟨0x400E0014, 1, 0x4, false, 0x0, [⟨0, 2, .ro, .neu, false⟩, ⟨2, 2, .ro, .neu, false⟩, ⟨16, 10, .ro, .neu, false⟩]⟩,
  ⟨0x400E0018, 1, 0x4, false, 0x0, [⟨0, 8, .ro, .neu, false⟩, ⟨8, 8, .ro, .neu, false⟩, ⟨16, 8, .ro, .neu, false⟩, ⟨24, 8, .ro, .neu, false⟩]⟩,
  ⟨0x400E001C, 1, 0x4, false, 0x0, [⟨0, 8, .ro, .neu, false⟩, ⟨8, 8, .ro, .neu, false⟩, ⟨16, 8, .ro, .neu, false⟩, ⟨31, 1, .wo, .neu, false⟩]⟩,
  ⟨0x400E0020, 1, 0x4, false, 0x0, [⟨0, 16, .ro, .neu, false⟩, ⟨16, 4, .ro, .neu, false⟩]⟩,
  ⟨0x400E0030, 1, 0x4, false, 0x0, [⟨2, 30, .rw, .neu, false⟩]⟩,
  ⟨0x400E0034, 1, 0x4, false, 0x0, [⟨0, 1, .ro, .neu, false⟩, ⟨1, 1, .wo, .neu, false⟩, ⟨16, 11, .wo, .neu, false⟩]⟩,
  ⟨0x400E0038, 1, 0x4, false, 0x0, [⟨0, 8, .w1c, .neu, false⟩]⟩]

/-- The registers of HPB (R617 of spec/15_host_protocol.md). -/
def regsHPB : List RegSpec := [
  ⟨0x400F0000, 1, 0x4, false, 0x3201, [⟨0, 1, .rw, .neu, false⟩, ⟨1, 1, .rw, .neu, false⟩, ⟨2, 1, .rw, .neu, false⟩, ⟨8, 8, .rw, .neu, false⟩]⟩,
  ⟨0x400F0004, 1, 0x4, false, 0x1C, [⟨0, 5, .ro, .neu, false⟩]⟩,
  ⟨0x400F0008, 1, 0x4, false, 0x0, [⟨0, 16, .ro, .neu, false⟩, ⟨16, 1, .ro, .neu, false⟩]⟩,
  ⟨0x400F000C, 1, 0x4, false, 0x0, [⟨0, 4, .ro, .neu, false⟩, ⟨16, 13, .ro, .neu, false⟩, ⟨31, 1, .ro, .neu, false⟩]⟩,
  ⟨0x400F0010, 1, 0x4, false, 0x0, [⟨0, 4, .ro, .neu, false⟩, ⟨8, 8, .ro, .neu, false⟩]⟩,
  ⟨0x400F0014, 1, 0x4, false, 0x0, [⟨0, 2, .ro, .neu, false⟩, ⟨2, 2, .ro, .neu, false⟩, ⟨16, 10, .ro, .neu, false⟩]⟩,
  ⟨0x400F0018, 1, 0x4, false, 0x0, [⟨0, 8, .ro, .neu, false⟩, ⟨8, 8, .ro, .neu, false⟩, ⟨16, 8, .ro, .neu, false⟩, ⟨24, 8, .ro, .neu, false⟩]⟩,
  ⟨0x400F001C, 1, 0x4, false, 0x0, [⟨0, 8, .ro, .neu, false⟩, ⟨8, 8, .ro, .neu, false⟩, ⟨16, 8, .ro, .neu, false⟩, ⟨31, 1, .wo, .neu, false⟩]⟩,
  ⟨0x400F0020, 1, 0x4, false, 0x0, [⟨0, 16, .ro, .neu, false⟩, ⟨16, 4, .ro, .neu, false⟩]⟩,
  ⟨0x400F0030, 1, 0x4, false, 0x0, [⟨2, 30, .rw, .neu, false⟩]⟩,
  ⟨0x400F0034, 1, 0x4, false, 0x0, [⟨0, 1, .ro, .neu, false⟩, ⟨1, 1, .wo, .neu, false⟩, ⟨16, 11, .wo, .neu, false⟩]⟩,
  ⟨0x400F0038, 1, 0x4, false, 0x0, [⟨0, 8, .w1c, .neu, false⟩]⟩]

/-- The registers of TXN (R649 of spec/16_transactions.md). -/
def regsTXN : List RegSpec := [
  ⟨0x40100000, 1, 0x4, false, 0x0, [⟨0, 32, .ro, .neu, false⟩]⟩,
  ⟨0x40100004, 1, 0x4, false, 0x0, [⟨0, 32, .ro, .neu, false⟩]⟩,
  ⟨0x40100008, 1, 0x4, false, 0x8, [⟨0, 8, .rw, .neu, false⟩]⟩,
  ⟨0x4010000C, 1, 0x4, false, 0x0, [⟨4, 28, .txn, .fix, false⟩]⟩,
  ⟨0x40100010, 1, 0x4, false, 0x0, [⟨0, 11, .txn, .fix, false⟩]⟩,
  ⟨0x40100014, 1, 0x4, false, 0x0, [⟨0, 2, .ro, .neu, false⟩, ⟨2, 2, .ro, .neu, false⟩, ⟨4, 1, .ro, .neu, false⟩, ⟨5, 1, .ro, .neu, false⟩]⟩,
  ⟨0x40100020, 2, 0x10, false, 0x0, [⟨0, 10, .ro, .neu, false⟩, ⟨12, 2, .ro, .neu, false⟩, ⟨16, 2, .ro, .neu, false⟩]⟩,
  ⟨0x40100024, 2, 0x10, false, 0x0, [⟨0, 32, .ro, .neu, false⟩]⟩,
  ⟨0x40100028, 2, 0x10, false, 0x0, [⟨0, 16, .ro, .neu, false⟩, ⟨16, 4, .ro, .neu, false⟩, ⟨20, 3, .ro, .neu, false⟩]⟩,
  ⟨0x40100040, 1, 0x4, false, 0x0, [⟨0, 7, .w1c, .neu, false⟩]⟩,
  ⟨0x40100080, 1, 0x4, false, 0x0, [⟨0, 16, .rw, .neu, false⟩, ⟨16, 1, .rw, .neu, false⟩, ⟨31, 1, .wo, .neu, false⟩]⟩,
  ⟨0x40100084, 1, 0x4, false, 0x0, [⟨2, 30, .rw, .neu, false⟩]⟩,
  ⟨0x40100088, 1, 0x4, false, 0x0, [⟨0, 11, .rw, .neu, false⟩]⟩,
  ⟨0x4010008C, 1, 0x4, false, 0x0, [⟨0, 2, .ro, .neu, false⟩, ⟨16, 11, .ro, .neu, false⟩]⟩,
  ⟨0x40100090, 1, 0x4, false, 0x0, [⟨0, 16, .ro, .neu, false⟩, ⟨16, 16, .ro, .neu, false⟩]⟩]

/-- The registers of SED (R680 of spec/17_faults_ordering.md). -/
def regsSED : List RegSpec := [
  ⟨0x40110000, 1, 0x4, false, 0x403, [⟨0, 3, .txn, .dn, false⟩, ⟨8, 8, .txn, .dn, false⟩]⟩,
  ⟨0x40110004, 1, 0x4, false, 0x0, [⟨0, 32, .ro, .neu, false⟩]⟩,
  ⟨0x40110008, 1, 0x4, false, 0x0, [⟨0, 32, .ro, .neu, false⟩]⟩,
  ⟨0x4011000C, 1, 0x4, false, 0x0, [⟨0, 32, .ro, .neu, false⟩]⟩,
  ⟨0x40110010, 1, 0x4, false, 0x0, [⟨0, 32, .ro, .neu, false⟩]⟩,
  ⟨0x40110014, 1, 0x4, false, 0x0, [⟨0, 32, .rw, .neu, false⟩]⟩,
  ⟨0x40110018, 1, 0x4, false, 0x0, [⟨0, 16, .ro, .neu, false⟩, ⟨16, 16, .ro, .neu, false⟩]⟩,
  ⟨0x4011001C, 1, 0x4, false, 0x0, [⟨0, 16, .ro, .neu, false⟩, ⟨31, 1, .wo, .neu, false⟩]⟩,
  ⟨0x40110020, 1, 0x4, false, 0x0, [⟨0, 7, .ro, .neu, false⟩, ⟨16, 6, .ro, .neu, false⟩]⟩,
  ⟨0x40110024, 1, 0x4, false, 0x0, [⟨0, 32, .ro, .neu, false⟩]⟩,
  ⟨0x40110030, 1, 0x4, false, 0x0, [⟨0, 1, .w1c, .neu, false⟩, ⟨1, 1, .w1c, .neu, false⟩, ⟨2, 1, .w1c, .neu, false⟩, ⟨3, 1, .w1c, .neu, false⟩]⟩,
  ⟨0x40110034, 1, 0x4, false, 0x0, [⟨0, 16, .wo, .neu, false⟩]⟩,
  ⟨0x40110040, 1, 0x4, false, 0x0, [⟨0, 13, .rw, .neu, false⟩, ⟨13, 3, .rw, .neu, false⟩, ⟨31, 1, .wo, .neu, false⟩]⟩,
  ⟨0x40110044, 3, 0x4, false, 0x0, [⟨0, 32, .rw, .neu, false⟩]⟩,
  ⟨0x40110050, 1, 0x4, false, 0x0, [⟨0, 4, .w1c, .neu, false⟩]⟩]

/-- The registers of SEM (R681 of spec/17_faults_ordering.md). -/
def regsSEM : List RegSpec := [
  ⟨0x40140000, 32, 0x4, false, 0x0, [⟨0, 16, .ro, .neu, false⟩, ⟨16, 2, .ro, .neu, false⟩]⟩,
  ⟨0x40140080, 1, 0x4, false, 0x0, [⟨0, 32, .ro, .neu, false⟩]⟩,
  ⟨0x40140084, 1, 0x4, false, 0x0, [⟨0, 32, .ro, .neu, false⟩]⟩,
  ⟨0x40140088, 1, 0x4, false, 0x0, [⟨0, 32, .ro, .neu, false⟩]⟩,
  ⟨0x40140090, 1, 0x4, false, 0x0, [⟨0, 16, .ro, .neu, false⟩, ⟨31, 1, .wo, .neu, false⟩]⟩]

/-- The registers of SEC (R730 of spec/18_identity_update.md). -/
def regsSEC : List RegSpec := [
  ⟨0x40120000, 1, 0x4, false, 0x0, [⟨0, 32, .ro, .neu, false⟩]⟩,
  ⟨0x40120004, 1, 0x4, false, 0x0, [⟨0, 32, .ro, .neu, false⟩]⟩,
  ⟨0x40120010, 16, 0x4, false, 0x0, [⟨0, 32, .ro, .neu, false⟩]⟩,
  ⟨0x40120060, 1, 0x4, false, 0x0, [⟨0, 1, .ro, .neu, false⟩, ⟨1, 1, .ro, .neu, false⟩, ⟨2, 1, .ro, .neu, false⟩, ⟨3, 1, .ro, .neu, false⟩]⟩,
  ⟨0x40120064, 1, 0x4, false, 0x0, [⟨0, 32, .ro, .neu, false⟩]⟩,
  ⟨0x40120068, 1, 0x4, false, 0x0, [⟨0, 32, .ro, .neu, false⟩]⟩,
  ⟨0x40120070, 1, 0x4, false, 0x0, [⟨0, 1, .ro, .neu, false⟩, ⟨1, 1, .ro, .neu, false⟩, ⟨2, 1, .ro, .neu, false⟩, ⟨4, 2, .ro, .neu, false⟩, ⟨6, 1, .ro, .neu, false⟩, ⟨7, 1, .ro, .neu, false⟩]⟩,
  ⟨0x40120074, 1, 0x4, false, 0x0, [⟨0, 16, .ro, .neu, false⟩]⟩,
  ⟨0x40120078, 1, 0x4, false, 0x0, [⟨0, 8, .ro, .neu, false⟩]⟩,
  ⟨0x4012007C, 1, 0x4, false, 0x0, [⟨0, 16, .wo, .neu, false⟩]⟩,
  ⟨0x40120080, 1, 0x4, false, 0x0, [⟨0, 2, .ro, .neu, false⟩, ⟨2, 3, .ro, .neu, false⟩, ⟨8, 7, .ro, .neu, false⟩]⟩,
  ⟨0x40120084, 1, 0x4, false, 0x0, [⟨0, 32, .ro, .neu, false⟩]⟩,
  ⟨0x40120088, 1, 0x4, false, 0x0, [⟨0, 32, .ro, .neu, false⟩]⟩,
  ⟨0x40120090, 1, 0x4, false, 0x0, [⟨0, 32, .ro, .neu, false⟩]⟩,
  ⟨0x40120094, 1, 0x4, false, 0x0, [⟨0, 1, .ro, .neu, false⟩]⟩]

/-- The registers of NVC (R731 of spec/18_identity_update.md). -/
def regsNVC : List RegSpec := [
  ⟨0x40130000, 1, 0x4, false, 0x3840001, [⟨0, 2, .rw, .neu, false⟩, ⟨16, 10, .rw, .neu, false⟩]⟩,
  ⟨0x40130004, 1, 0x4, false, 0x0, [⟨0, 1, .wo, .neu, false⟩, ⟨1, 1, .ro, .neu, false⟩, ⟨2, 2, .ro, .neu, false⟩]⟩,
  ⟨0x40130008, 1, 0x4, false, 0x0, [⟨6, 14, .rw, .neu, false⟩]⟩,
  ⟨0x4013000C, 1, 0x4, false, 0x0, [⟨2, 30, .rw, .neu, false⟩]⟩,
  ⟨0x40130014, 1, 0x4, false, 0x0, [⟨0, 4, .w1c, .neu, false⟩]⟩,
  ⟨0x40130020, 6, 0x4, false, 0x0, [⟨0, 32, .ro, .neu, false⟩]⟩,
  ⟨0x40130040, 1, 0x4, false, 0x0, [⟨6, 14, .rw, .neu, false⟩]⟩,
  ⟨0x40130044, 1, 0x4, false, 0x0, [⟨0, 32, .ro, .neu, false⟩]⟩,
  ⟨0x40130050, 1, 0x4, false, 0x0, [⟨0, 3, .ro, .neu, false⟩, ⟨4, 1, .ro, .neu, false⟩]⟩,
  ⟨0x40130054, 1, 0x4, false, 0x0, [⟨0, 19, .ro, .neu, false⟩]⟩,
  ⟨0x40130058, 1, 0x4, false, 0x0, [⟨0, 19, .ro, .neu, false⟩]⟩,
  ⟨0x40130060, 1, 0x4, false, 0x0, [⟨0, 20, .ro, .neu, false⟩]⟩]

/-- The registers of DBG (R744 of spec/19_address_map.md). -/
def regsDBG : List RegSpec := [
  ⟨0x40150000, 1, 0x4, false, 0x14820347, [⟨0, 32, .ro, .neu, false⟩]⟩,
  ⟨0x40150004, 1, 0x4, false, 0x0, [⟨0, 1, .ro, .neu, false⟩, ⟨1, 1, .ro, .neu, false⟩, ⟨2, 1, .ro, .neu, false⟩, ⟨3, 1, .ro, .neu, false⟩, ⟨8, 1, .ro, .neu, false⟩]⟩,
  ⟨0x40150008, 1, 0x4, false, 0x0, [⟨0, 1, .w1s, .up, false⟩]⟩]

end Sys2Proof.Machine
end

