-- ==== Sys2Proof/Machine/Store.lean ====
section
/-! DEFINITION. Sparse storage in one canonical form: a list of key and value pairs, keys strictly
rising, no entry equal to what an unlisted key reads as (`d`). Register files and memories are
stores. -/

namespace Sys2Proof.Machine

/-- What key `k` holds; `d` is what an unlisted key reads as. -/
def Store.get {β : Type} (d : Nat → β) : List (Nat × β) → Nat → β
  | [], k => d k
  | (k', v) :: t, k => if k = k' then v else Store.get d t k

/-- Removes every entry of `k`. -/
def Store.erase {β : Type} : List (Nat × β) → Nat → List (Nat × β)
  | [], _ => []
  | (k', v) :: t, k => if k = k' then Store.erase t k else (k', v) :: Store.erase t k

/-- Puts `v` at `k`, in key order. -/
def Store.insert {β : Type} : List (Nat × β) → Nat → β → List (Nat × β)
  | [], k, v => [(k, v)]
  | (k', v') :: t, k, v =>
    if k < k' then (k, v) :: (k', v') :: t
    else if k = k' then (k, v) :: t
    else (k', v') :: Store.insert t k v

/-- Writes `v` at `k` and keeps the canonical form: writing what an unlisted key reads as removes the
entry. -/
def Store.set {β : Type} [DecidableEq β] (d : Nat → β) (m : List (Nat × β)) (k : Nat) (v : β) :
    List (Nat × β) :=
  if v = d k then Store.erase m k else Store.insert m k v

/-- The canonical form above a bound. -/
def Store.wfFrom {β : Type} [DecidableEq β] (d : Nat → β) : Nat → List (Nat × β) → Bool
  | _, [] => true
  | lo, (k, v) :: t => lo ≤ k && v != d k && Store.wfFrom d (k + 1) t

/-- The canonical form of a store. -/
def Store.wf {β : Type} [DecidableEq β] (d : Nat → β) (m : List (Nat × β)) : Bool :=
  Store.wfFrom d 0 m

/-- Drops every entry whose key satisfies `p`: each such key reads as unlisted again. -/
def Store.clear {β : Type} (p : Nat → Bool) (m : List (Nat × β)) : List (Nat × β) :=
  m.filter fun e => !p e.1

end Sys2Proof.Machine
end

