-- ==== Sys2Proof/Machine/RegMap.lean ====
section
/-! DEFINITION. A register file: the words that differ from their reset value, by address. Fields are
read and written as numbers through their `Fld`. -/

namespace Sys2Proof.Machine

/-- A register file, canonical: an unlisted address holds its reset word. -/
abbrev RegMap := List (Nat × Word)

/-- The register table of the block that holds address `a` (R734); the S state window and the keys of
the companion registers count as blocks. -/
def blockTable (a : Nat) : List RegSpec :=
  match a / 0x10000 with
  | 0x2006 => regsST
  | 0x4000 => regsSYS
  | 0x4001 => regsCLK
  | 0x4002 => regsPWR
  | 0x4003 => regsEVC
  | 0x4004 => regsWEIR
  | 0x4005 => regsRSV
  | 0x4006 => regsINP
  | 0x4007 => regsFEN
  | 0x4008 => regsMOD
  | 0x4009 => regsGDV
  | 0x400A => regsGRD
  | 0x400B => regsDIAG
  | 0x400C => regsSHL
  | 0x400D => regsTRN
  | 0x400E => regsHPA
  | 0x400F => regsHPB
  | 0x4010 => regsTXN
  | 0x4011 => regsSED
  | 0x4012 => regsSEC
  | 0x4013 => regsNVC
  | 0x4014 => regsSEM
  | 0x4015 => regsDBG
  | 0x10000 => regsXM
  | _ => []

/-- The register at address `a`, if the tables name one (R735). -/
def regFind (a : Nat) : Option RegSpec :=
  (blockTable a).find? fun r => r.covers a

/-- The reset word of address `a`: the table's reset values, 0 where there is no register. -/
def resetWord (a : Nat) : Word :=
  match regFind a with
  | some r => BitVec.ofNat 32 r.reset
  | none => 0

/-- Field `lsb`, `width` of a word, as a number. -/
def fieldOf (w : Word) (lsb width : Nat) : Nat := w.toNat / 2 ^ lsb % 2 ^ width

/-- A signed field of a word. -/
def fieldInt (w : Word) (lsb width : Nat) : Int := (BitVec.ofNat width (fieldOf w lsb width)).toInt

/-- The bits of a field. -/
def fieldMask (lsb width : Nat) : Word := BitVec.ofNat 32 ((2 ^ width - 1) * 2 ^ lsb)

/-- A word with one field replaced by `v`, truncated to the field. -/
def putField (w : Word) (lsb width v : Nat) : Word :=
  BitVec.ofNat 32 (w.toNat - fieldOf w lsb width * 2 ^ lsb + v % 2 ^ width * 2 ^ lsb)

/-- The word at an address. -/
def RegMap.word (m : RegMap) (a : Nat) : Word := Store.get resetWord m a

/-- The file with a word written. -/
def RegMap.setWord (m : RegMap) (a : Nat) (w : Word) : RegMap := Store.set resetWord m a w

/-- The value of a field. -/
def RegMap.get (m : RegMap) (f : Fld) : Nat := fieldOf (m.word f.addr) f.lsb f.width

/-- The file with a field written. -/
def RegMap.put (m : RegMap) (f : Fld) (v : Nat) : RegMap :=
  m.setWord f.addr (putField (m.word f.addr) f.lsb f.width v)

/-- The value of a field read as a two's-complement number. -/
def RegMap.geti (m : RegMap) (f : Fld) : Int :=
  let v := m.get f
  if v < 2 ^ (f.width - 1) then v else (v : Int) - 2 ^ f.width

/-- Writes a signed number to a field, truncated to its width. -/
def RegMap.puti (m : RegMap) (f : Fld) (v : Int) : RegMap :=
  m.put f (v % (2 ^ f.width : Nat)).toNat

end Sys2Proof.Machine
end

