-- ==== Sys2Proof/Machine/DeviceCore.lean ====
section
/-! DEFINITION. The state of the cores, the event controller, the log, the clocks and the power
sequencer, as plain data. What software reads as a register lives in a register file; these
structures hold what the rules give the machine beyond its registers. -/

namespace Sys2Proof.Machine

/-- Ring time: a frame count and a sub-frame offset in edge-clock periods (R171). -/
structure RingTime where
  frame : BitVec 48
  sub : BitVec 13
  deriving DecidableEq, Repr

/-- Ring time in the 64-bit layout of R171. -/
def RingTime.packed (t : RingTime) : BitVec 64 :=
  BitVec.ofNat 64 (t.frame.toNat * 8192 + t.sub.toNat)

/-- A store that has retired and waits in the store buffer (R102): a whole-word write, with the level
its core had at issue (R801). -/
structure StoreEntry where
  addr : Nat
  data : Word
  priv : Bool
  deriving DecidableEq, Repr

/-- One protection region (R52): the words of ST_MPU_BASE, ST_MPU_LIMIT and ST_MPU_ATTR. -/
structure MpuRegion where
  base : Word
  limit : Word
  attr : Word
  deriving DecidableEq, Repr

/-- What a control core is doing: held in reset, executing, asleep in WAIT (R109), halted under R50,
or halted by the debugger (R739). -/
inductive CoreRun where
  | held | running | sleeping | halted | debug
  deriving DecidableEq, Repr

/-- One Opcia core. `st` holds its state registers at the addresses of the S state window layout
(number times 4), the MPU registers apart, which are banked in `mpu`. For S, `run` is unused: its
condition is ST_SSTATE. `bootEntry` and `bootVec` are what the image header gave at hand-off (R217), `dbgRun`
what a debug halt interrupted (R739). -/
structure Core where
  w : Vector Word 32
  acc : Vector Acc 4
  q : Vector QWord 16
  pc : Word
  st : RegMap
  mpu : Vector MpuRegion 16
  cycles : BitVec 64
  run : CoreRun
  buf : List StoreEntry
  bootEntry : Word
  bootVec : Word
  dbgRun : CoreRun
  deriving DecidableEq, Repr

/-- An error in a memory word: one wrong bit, or more than the check code corrects (R58, R59). -/
inductive EccErr where
  | bit (n : Fin 39) | multi
  deriving DecidableEq, Repr

/-- What the stream core delivers to the Guard (R64 to R68, R86): whether BLKEND of the block in progress
retired in time, whether the block overran, whether zero blocks are passed until a good block, whether
the next boundary passes a ramp, the last samples passed on each channel, and whether the next block is
the first after a stop (RESUME of R71). `dbgPrev` is the ST_SSTATE a debug halt interrupted, `epoch` the epoch of the
block in progress and `lastEpoch` that of the block passed last (R72). -/
structure Stream where
  done : Bool
  overrun : Bool
  muted : Bool
  rampDue : Bool
  resume : Bool
  last : Vector Int 4
  dbgPrev : Nat
  epoch : Nat
  lastEpoch : Nat
  deriving DecidableEq, Repr

/-- The four states of an event source. -/
inductive EvState where
  | idle | pending | delivered | inService
  deriving DecidableEq, Repr

/-- One event source: what EVC_SRCSTAT_n shows and the SW and WAKE marks of R138. -/
structure EvSource where
  st : EvState
  target : Fin 4
  repend : Bool
  ovf : Bool
  lost : Bool
  sw : Bool
  wake : Bool
  count : Nat
  deriving DecidableEq, Repr

/-- The event controller beyond its registers: the sources, which moderation timers run (R136), whether the CORE domain
has started and the set latches are being taken, and the latches (bit k) whose source waits for a software fire behind
its latch (R149). -/
structure Evc where
  src : Vector EvSource 128
  timer : Vector Bool 4
  taking : Bool
  soft : Nat
  deriving DecidableEq, Repr

/-- A log entry before SED numbers it (R653). -/
structure LogEntry where
  epoch : Word
  rt : RingTime
  source : Nat
  sev : Nat
  detail : Nat
  data : List Byte
  deriving DecidableEq, Repr

/-- The LOG_GAP entry under construction (R657): its time stamp is that of the first folded entry. -/
structure LogGap where
  epoch : Word
  rt : RingTime
  folded : Nat
  first : Nat
  last : Nat
  deriving DecidableEq, Repr

/-- An entry that waits for its persistent copy (R662): its sequence number and its 32 bytes. -/
structure PersistEntry where
  seq : Nat
  bytes : List Byte
  deriving DecidableEq, Repr

/-- The SED block beyond its registers. `halfArmed` arms LOG_HALF (R658); `eccTimes` are the ring
times, in edge periods, of the ECC_UNCORR entries of the last second (R652); `nvsFaultOpen` says that the
condition of the NVS system fault persists; `resetSeq` is the sequence number of the last RESET entry (R584). -/
structure Sed where
  wq : List LogEntry
  gap : Option LogGap
  pq : List PersistEntry
  halfArmed : Bool
  eccTimes : List Nat
  nvsFaultOpen : Bool
  resetSeq : Nat
  deriving DecidableEq, Repr

/-- An occasion for a ring-time step (R172). -/
inductive RtStep where
  | first | slave (frame : BitVec 48) | limpReturn
  deriving DecidableEq, Repr

/-- The clock block beyond its registers: the running ring time; the trims at the last gate ends at which
RING and INPUT were in tolerance, newest first (R178); the gates at which XTAL, RING and INPUT have been
available in a row (R181); whether a changed priority list waits to be judged (R182); the occasion of a
ring-time step due at the next boundary; whether the node is a locked ring slave (R183); whether
RING_HOLD steers the trim (R184); the phase offset that the DPLL recorded at the start of the last slew (R180); and the
STREAM cycles of the AON cycle in progress (R187). -/
structure Clk where
  rt : RingTime
  goodTrims : Vector (List Int) 2
  availRun : Vector Nat 3
  cfgChanged : Bool
  step : Option RtStep
  ringSlave : Bool
  steering : Bool
  slewPhase : Word
  aonPhase : Nat
  deriving DecidableEq, Repr

/-- The clock block after a reset. -/
def Clk.idle : Clk := ⟨⟨0, 0⟩, .replicate 2 [], .replicate 3 0, false, none, false, false, 0, 0⟩

/-- Where the supply sequencer stands (R212, R211, R213, R215): unpowered; AON in power-on reset;
waiting for PG_AUX1; the gap before EN_AUX2; waiting for PG_AUX2; the gap before the straps; waiting
for the dividers; domains released and C0 in the boot ROM; up (running state or STILL); switching the
supplies off after EN_AUX3, or after EN_AUX2; ICE; waiting 1 s for the next attempt. -/
inductive SeqStep where
  | off | aonReset | aux1 | gap1 | aux2 | gap2 | locking | booting | up
  | down2 | down1 | ice | retryWait
  deriving DecidableEq, Repr

/-- Why the supplies are being switched off: an ICE request, a supply reset, or a failed attempt. -/
inductive DownWhy where
  | ice | supply | retry
  deriving DecidableEq, Repr

/-- The party of a request at PWR_CMD: a control core or a client (R208). -/
inductive Party where
  | core (c : CoreId) | client (c : Client)
  deriving DecidableEq, Repr

/-- What the power block has in progress beside PWR_STAT (R209): nothing, a STILL request that waits for both
cores, an ICE entry, the PLAY entry sequence (from READY or from SAFE), or the ramp-out. -/
inductive PwrBusy where
  | none | stillWait | iceEntry | playEntry (fromSafe : Bool) | rampOut
  deriving DecidableEq, Repr

/-- The precharge of R219: idle, due at the next boundary, running with the consecutive blocks above threshold, or
closed with PCHG still high. -/
inductive Precharge where
  | idle | due | running (settle : Nat) | closing
  deriving DecidableEq, Repr

/-- The power block beyond its registers: the sequencer, the pins, and what is in progress. `gainPos` is the
position of a ramp in samples (R225, R226), `bootPassed` that the bootstrap boundary has passed; `pgto3` that the count
for PG_AUX3 runs (R210, R214), `waking` that an exit from STILL has begun, `pgto3Fail` that its count has ended;
`presDue` that a loss of presence in STILL waits to be latched (R222); `rstLow` that RST_N is low (R773). -/
structure Pwr where
  seq : SeqStep
  down : DownWhy
  pgAux : Vector Bool 3
  enAux : Vector Bool 3
  enMain : Bool
  pchg : Bool
  busy : PwrBusy
  pre : Precharge
  gainPos : Nat
  bootPassed : Bool
  pgto3 : Bool
  waking : Bool
  pgto3Fail : Bool
  presDue : Bool
  rstLow : Bool
  deriving DecidableEq, Repr

/-- The power block at the start of the supply sequence: every enable low, no power-good. -/
def Pwr.start : Pwr :=
  { seq := .aonReset, down := .supply, pgAux := .replicate 3 false, enAux := .replicate 3 false, enMain := false
    pchg := false, busy := .none, pre := .idle, gainPos := 0, bootPassed := false, pgto3 := false, waking := false
    pgto3Fail := false, presDue := false, rstLow := false }

end Sys2Proof.Machine
end

