-- ==== Sys2Proof/Machine/DeviceChain.lean ====
section
/-! DEFINITION. The state of a Shoreline chain: the companions (XM-18) and the chain master's block
beyond its registers. -/

namespace Sys2Proof.Machine

/-- A sample that a companion holds or converts (R488): Ts in 1/256 µs of chain time, the ID and the
conversion mask. -/
structure Sample where
  ts : Nat
  id : Nat
  mask : Nat
  deriving DecidableEq, Repr

/-- One companion. `key` is its public identity key; `addr` its address, 0 while unaddressed; `faceA` its
port that faces SHL_A; `cache` the reply cache of R446 (status and payload); `regs` its registers; `time`
its chain time in 1/256 µs; `pend`, `conv` the sample that waits for Ts and the one that converts; `reply`
the answer to READ_SAMPLE once the results are complete; `trk` the tracker's DEV and SLOPE after its first
update, with the Ts of its last update (R492); `plBad`, `plGood` the cycles in a row outside and inside the tolerance of R498; `bleed` the
seconds of bleed time of each cell; `chosen` the cells whose switches BALANCE_SCHEDULE closed (bit i − 1);
`hold` that a measurement holds the switches open and `syncOff` that the loss of TIME_SET does; `owWant`,
`owRun` that an open-wire test is due or runs; `sleepDue` that it sleeps once its conversion has ended; `cycles` the completed cycles; `toneOn` that it drives or
hears the wake tone and accepts no frame; `undef` the undefined broadcasts counted (R444); `out` the port
and the bytes of the last frame it drove. -/
structure Companion where
  powered : Bool
  key : BitVec 512
  asleep : Bool
  addr : Nat
  faceA : Side
  nextSeq : Nat
  lastSeq : Nat
  lastOp : Nat
  cache : Option (Nat × List Byte)
  boot : Bool
  regs : RegMap
  time : Nat
  pend : Option Sample
  conv : Option Sample
  reply : Option (List Byte)
  trk : Option (Rat × Rat × Nat)
  plBad : Vector Nat 18
  plGood : Vector Nat 18
  bleed : Vector Nat 18
  chosen : Nat
  hold : Bool
  syncOff : Bool
  owWant : Bool
  owRun : Bool
  sleepDue : Bool
  cycles : Nat
  toneOn : Bool
  undef : Nat
  out : Option (Side × List Byte)
  deriving DecidableEq, Repr

/-- A companion after power-up (R446, R508). -/
def Companion.fresh (key : BitVec 512) : Companion :=
  { powered := true, key := key, asleep := false, addr := 0, faceA := .a, nextSeq := 1, lastSeq := 0
    lastOp := 0, cache := none, boot := true, regs := [], time := 0, pend := none, conv := none
    reply := none, trk := none, plBad := .replicate 18 0, plGood := .replicate 18 0
    bleed := .replicate 18 0, chosen := 0, hold := false, syncOff := false, owWant := false
    owRun := false, sleepDue := false, cycles := 0, toneOn := false, undef := 0, out := none }

/-- A companion without supply. -/
def Companion.dark (key : BitVec 512) : Companion := { Companion.fresh key with powered := false }

/-- Why the master sends a command: for a mailbox, for the sample cycle, in one of the steps of enumeration
(R458), for the identity check (R470), a delay measurement and its write (R460), a share (R494), a balancing
stop (R471), an outcome to collect (R455, R456), a position to locate (R453), or an unreachable companion to
probe (R454). `en` says that a step belongs to enumeration. -/
inductive JobKind where
  | mailbox (m : Fin 4) | read | enumStatus | enumAssign | readId (en : Bool)
  | challenge (en : Bool) (nonce : Nat) (tag : Nat) (key : List Byte) | delay (en : Bool)
  | delayWrite (en : Bool) | share | stop | collect | locate | probe
  deriving DecidableEq, Repr

/-- A command of the master: position, opcode, SEQ (0 while unsequenced or not yet given), payload, reason,
the side in use, the attempts timed out on this side, whether the side was changed, the NAK_BUSY
answers so far, and whether the command waits 50 µs after one (R448 to R451). -/
structure Job where
  addr : Nat
  opcode : Nat
  seq : Nat
  payload : List Byte
  kind : JobKind
  side : Side
  tries : Nat
  reversed : Bool
  busy : Nat
  waits : Bool
  deriving DecidableEq, Repr

/-- Enumeration in progress: the side and the position, the positions found from either side, whether a count
is wrong (R459), the next command, the step that a COLLECT before it holds back (R456), and whether the LOOP frame of R458
is awaited. -/
structure EnumRun where
  side : Side
  k : Nat
  foundA : List Nat
  foundB : List Nat
  fault : Bool
  next : Option Job
  held : Option Job
  waitLoop : Bool
  deriving DecidableEq, Repr

/-- The location of a break in progress (R453): the side, the position, and what answered. -/
structure Locate where
  side : Side
  k : Nat
  lastA : Nat
  firstB : Nat
  deriving DecidableEq, Repr

/-- A sample cycle in progress: its ID, Ts in edge periods of ring time, whether SAMPLE_AT has left, whether the
reads have begun, the positions still to read, and the replies with their positions. -/
structure Cycle where
  id : Nat
  ts : Nat
  sent : Bool
  begun : Bool
  toRead : List Nat
  replies : List (Nat × List Byte)
  deriving DecidableEq, Repr

/-- What the master remembers of a companion's previous checked reply (R497), and the NTC readings it
carried (R490). -/
structure PrevReply where
  flags : Nat
  plaus : Bool
  ntc : List Int
  deriving DecidableEq, Repr

/-- The chain master beyond its registers: the role, the outstanding command, the internal commands and the
mailboxes that wait, the broadcast expected at SHL_B, enumeration, location, the sample cycle and the last
sample ID, the previous replies, the outstanding SEQ and opcode of each companion with PEND, the checked and first
flags, the jammed ports, the wake tone, what waits for the chain to be free, and the frames it sends (side
and bytes, newest first, the last 8). `wokeNeeded` says that the tone comes before the next frame
(R469); `unassigned` that UNASSIGN has left since the last enumeration, so that the companions keep their sequence
state (R444). -/
structure Shl where
  role : Bool
  cur : Option Job
  jobs : List Job
  mbq : List (Fin 4)
  bcast : Bool
  enum : Option EnumRun
  first : Bool
  locate : Option Locate
  cycle : Option Cycle
  sampId : Nat
  prev : Vector PrevReply 64
  pendSeq : Vector (Nat × Nat) 64
  jam : Vector Bool 2
  toneOn : Bool
  wokeNeeded : Bool
  wantUnassign : Bool
  wantSleep : Bool
  wantHeal : Bool
  wantTime : Bool
  wantLocate : Bool
  wantLoop : Bool
  unassigned : Bool
  sent : List (Side × List Byte)
  deriving DecidableEq, Repr

/-- The chain master after a reset. -/
def Shl.idle : Shl :=
  { role := false, cur := none, jobs := [], mbq := [], bcast := false, enum := none, first := true
    locate := none, cycle := none, sampId := 0, prev := .replicate 64 ⟨0, false, []⟩
    pendSeq := .replicate 64 (0, 0), jam := .replicate 2 false, toneOn := false, wokeNeeded := false
    wantUnassign := false, wantSleep := false, wantHeal := false, wantTime := false
    wantLocate := false, wantLoop := false, unassigned := false, sent := [] }

end Sys2Proof.Machine
end

