-- ==== Sys2Proof/Machine/DeviceGuard.lean ====
section
/-! DEFINITION. The state of the Guard beyond its registers (R338 to R371), the readings of the auxiliary
converter, and the values the Guard hands to other blocks. -/

namespace Sys2Proof.Machine

/-- One block in a lookahead line (R346, R347): how many boundaries ago it entered, its epoch (R72), its peak and its
cone limit. -/
structure LineBlock where
  age : Nat
  epoch : Nat
  peak : Rat
  cone : Rat
  deriving DecidableEq, Repr

/-- A pilot window's result that waits for the next boundary (R351, R353): Re in Ω, the current amplitude
in A, and the amplitudes Ap of the programme and `ap` of the pilot whose ratio is ρ, in units of VREF. -/
structure PilotResult where
  re : Rat
  ip : Rat
  prog : Rat
  ap : Rat
  deriving DecidableEq, Repr

/-- A broadband report that waits for the next boundary (R352): Re in Ω and Iband in A. -/
structure BandResult where
  re : Rat
  iband : Rat
  deriving DecidableEq, Repr

/-- What step 1 of R362 took from the active estimator at the last boundary: the estimate, its confidence
and whether it was discarded (R354). -/
structure TakenResult where
  re : Rat
  conf : Nat
  discarded : Bool
  deriving DecidableEq, Repr

/-- A pilot window (R351): its samples so far, those that entered the sums, and the sums of the terminal voltage, the current
and the Guard output before the pilot times the cosine and the sine of the pilot's phase. -/
structure PilotWindow where
  len : Nat
  used : Nat
  v : Rat × Rat
  i : Rat × Rat
  y : Rat × Rat
  deriving DecidableEq, Repr

/-- A filter of order four: its last four inputs and outputs, newest first; one that holds fewer has been at rest. -/
structure BandFilter where
  x : List Rat
  y : List Rat
  deriving DecidableEq, Repr

/-- The broadband estimator (R352): the filters of v and i, the weighted sums of if², if × if', if'², vf × if and vf × if', the
samples of the interval, and those of them that were used with the sum of their if². -/
structure BandEstimator where
  vf : BandFilter
  cf : BandFilter
  sii : Rat
  sid : Rat
  sdd : Rat
  svi : Rat
  svd : Rat
  len : Nat
  used : Nat
  sq : Rat
  deriving DecidableEq, Repr

/-- The resonance tracker (R359): its band applied to v − Re(T_est) × i, to the back-EMF of the tracking model and to i, and the
mean square of the last. -/
structure Tracker where
  ef : BandFilter
  bf : BandFilter
  cf : BandFilter
  ms : Rat
  deriving DecidableEq, Repr

/-- One Guard channel. Temperatures are in °C, positions in mm, velocities in mm/s, KEFF in N/mm; the
pilot amplitude and the limits are in units of VREF. `xf`, `vf` are the forecast model, `xt`, `vt` the
tracking model with the peak of the block; `tEstL`, `tLim`, `xMargin`, `reL` and `fsL` (in Hz) are the values that R360 latches
for the next boundary. `pilotOn` says that the pilot was on in the last block, `prog` are the samples of that block before the
pilot; `winDone` and `bandDone` are a complete window with its pilot amplitude, and a complete report, that wait for their
command; `atTv` says that the release of the ratchet has brought T_est to Tv (R357). -/
structure GuardChan where
  tv : Rat
  tm : Rat
  tEst : Rat
  tLim : Rat
  xf : Rat
  vf : Rat
  xt : Rat
  vt : Rat
  xPeak : Rat
  xMargin : Rat
  keff : Rat
  gain : Rat
  lrsv : Rat
  limited : Bool
  blocks : List LineBlock
  ap : Rat
  pilotK : Nat
  pilotOut : List Rat
  pendP : Option PilotResult
  pendB : Option BandResult
  histP : List Rat
  histB : List Rat
  taken : Option TakenResult
  recov : Nat
  forced : Bool
  tArmed : Bool
  xArmed : Bool
  tEstL : Rat
  reL : Option TakenResult
  fsL : Rat
  atTv : Bool
  pilotOn : Bool
  prog : List Rat
  win : PilotWindow
  winDone : Option (PilotWindow × Rat)
  bb : BandEstimator
  bandDone : Option BandResult
  trk : Tracker
  deriving DecidableEq, Repr

/-- The last reading of each NTC and of the die in °C; none when it is not valid (R756). -/
structure Aux where
  ntc : Vector (Option Rat) 4
  die : Option Rat
  dieWarned : Bool
  deriving DecidableEq, Repr

/-- The Guard: its channels, and whether the first boundary of a running state after the reset is still to
come (R343). -/
structure Guard where
  chan : Vector GuardChan 4
  started : Bool
  deriving DecidableEq, Repr

/-- A pilot window that begins. -/
def PilotWindow.empty : PilotWindow := ⟨0, 0, (0, 0), (0, 0), (0, 0)⟩

/-- A filter at rest. -/
def BandFilter.rest : BandFilter := ⟨[], []⟩

/-- The broadband estimator at rest. -/
def BandEstimator.rest : BandEstimator :=
  { vf := .rest, cf := .rest, sii := 0, sid := 0, sdd := 0, svi := 0, svd := 0, len := 0, used := 0, sq := 0 }

/-- A channel after a reset; its temperatures are set at the first boundary (R343). -/
def GuardChan.idle : GuardChan :=
  { tv := 0, tm := 0, tEst := 0, tLim := 100, xf := 0, vf := 0, xt := 0, vt := 0, xPeak := 0
    xMargin := 0, keff := 2, gain := 1, lrsv := 1, limited := false, blocks := [], ap := 0, pilotK := 0
    pilotOut := [], pendP := none, pendB := none, histP := [], histB := [], taken := none, recov := 0
    forced := false, tArmed := true, xArmed := true, tEstL := 0, reL := none, fsL := 0, atTv := false
    pilotOn := false, prog := [], win := .empty, winDone := none, bb := .rest, bandDone := none
    trk := ⟨.rest, .rest, .rest, 0⟩ }

/-- The Guard after a reset. -/
def Guard.idle : Guard := ⟨.replicate 4 .idle, false⟩

/-- The converter before its first sample. -/
def Aux.idle : Aux := ⟨.replicate 4 none, none, false⟩

end Sys2Proof.Machine
end

