-- ==== Sys2Proof/Machine/DeviceInput.lean ====
section
/-! DEFINITION. The state of the inputs, the input rate converter and the filter engine beyond their
registers. -/

namespace Sys2Proof.Machine

/-- What happens to a group's output within a block, at one output sample (R251, R253, R263): the group
locks, unlocks, slips, is muted, or is unmuted. -/
inductive FlowMark where
  | lock | unlock | slip | mute | unmute
  deriving DecidableEq, Repr

/-- What a group's lanes put out: locked; settled (R259); held at zero until the group settles; a ramp to zero under
R263 with the samples emitted; muted, with the samples of the mute ramp emitted; and the samples of the
unmute ramp emitted (R251). A ramp stands at 16 when it is over. -/
structure GroupFlow where
  locked : Bool
  settled : Bool
  held : Bool
  ramp : Nat
  muted : Bool
  muteRamp : Nat
  unmuteRamp : Nat
  deriving DecidableEq, Repr

/-- One input group: consecutive good and wrong frames, the last frame, the level of FS at the last BCLK edge and the bits
since the last frame start, oldest first (none before the first start; R245), its output and the marks of the
block in progress, the output samples since lock or recentring and the consecutive boundaries with a
small phase error (R259), the deviation of the ratio from the nominal ratio in units of 2^-32 of it (R258), and the
reference ratio of R260. -/
structure InGroup where
  good : Nat
  bad : Nat
  frame : List Word
  fsLast : Bool
  bits : Option (List Bool)
  ratio : Int
  flow : GroupFlow
  marks : List (Nat × FlowMark)
  since : Nat
  phaseRun : Nat
  refDev : Int
  deriving DecidableEq, Repr

/-- The IEC 60958 receiver: the last good word of each channel, consecutive parity errors, validity runs,
whether the frame in progress has a validity bit or a coding error, the channel status bits gathered from
the Z preamble, the two last full blocks, and the output samples left of a mute ramp in progress (R249 to R251). -/
structure Iec where
  lastGood : Vector Word 2
  parityRun : Nat
  vRun : Nat
  vClean : Nat
  vFrame : Bool
  codeBad : Bool
  gather : Option (Vector (List Bool) 2)
  blockNew : Option (Vector (List Bool) 2)
  blockOld : Option (Vector (List Bool) 2)
  muteLeft : Option Nat
  deriving DecidableEq, Repr

/-- What stage 7 of the stack lanes put out in a block (R267): the ring time at the block's end, in edge-clock periods, and
the 16 samples of lane 8 in V and of lane 9 in A. No value stands where the lane was unsettled; a lane 9 sample needs both
lanes settled (R430). -/
structure SenseBlock where
  endsAt : Nat
  volts : Vector (Option Rat) 16
  amps : Vector (Option Rat) 16
  deriving DecidableEq, Repr

/-- The inputs and the filter engine. `hold` is the last output of each lane and `rampFrom` the output from which its last ramp
began (R263),
`unserved` the lanes R256 leaves out, `senseOn` whether the sense modulators run, `stages` the settled
stages of each sense lane (bit j − 1), `fed` the edge-clock periods for which the first unsettled stage of each lane has
had settled input (R268), `unset` the unsettled samples of each sense lane in the block in
progress, `capWait` whether an armed capture waits for the next boundary, and `past` the stage 7 samples of the stack lanes,
newest block first, from which R400 and R494 take the nearest to an instant. -/
structure Inputs where
  group : Vector InGroup 3
  iec : Iec
  hold : Vector Int 32
  rampFrom : Vector Int 32
  unserved : Vector Bool 32
  senseOn : Bool
  stages : Vector Nat 10
  fed : Vector Nat 10
  unset : Vector (BitVec 16) 10
  capWait : Bool
  past : List SenseBlock
  deriving DecidableEq, Repr

/-- An output that puts out nothing: not locked, no ramp in progress. -/
def GroupFlow.idle : GroupFlow := ⟨false, false, false, 16, false, 16, 16⟩

/-- A group without a source. -/
def InGroup.idle : InGroup := ⟨0, 0, [], false, none, 0, .idle, [], 0, 0, 0⟩

/-- The receiver before its first frame. -/
def Iec.idle : Iec := ⟨.replicate 2 0, 0, 0, 0, false, false, none, none, none, none⟩

/-- The inputs after a reset. -/
def Inputs.idle : Inputs :=
  ⟨.replicate 3 .idle, .idle, .replicate 32 0, .replicate 32 0, .replicate 32 false, false, .replicate 10 0,
    .replicate 10 0, .replicate 10 0xFFFF, false, []⟩

end Sys2Proof.Machine
end

