-- ==== Sys2Proof/Config.lean ====
section
/-! DEFINITION. The free values: what the manual leaves undefined while the device goes on. Each is an
opaque function of a counter or of the operands it may depend on, so that nothing can be proved about
the value it takes. -/

namespace Sys2Proof

/-- A free word: the registers of S at its first block after RUN is set (R63), and every other word that the manual
leaves open while the device goes on. The argument is the number of free values drawn before it. -/
opaque Config.freeWord : Nat → BitVec 32

/-- The coefficients of the interpolator: R291 gives its response and its delay of 2 samples and no coefficient. The arguments
are the factor L and the place of a coefficient in the first half of the 4 × L + 1 of a linear-phase response. -/
opaque Config.interpTap : Nat → Nat → Rat

/-- The rail factor at VBUS = 0, before its limits (R297); the argument is VREF. -/
opaque Config.railAtZero : Rat → Rat

/-- A quotient with a divisor of zero where the manual gives none (R402, R407); the argument is the
dividend. -/
opaque Config.overZero : Rat → Rat

/-- A signature: ECDSA draws a random number for each (R688). The arguments are the signer's public key, the
digest and the number of free values drawn before it. -/
opaque Config.signature : BitVec 512 → BitVec 256 → Nat → BitVec 512

/-- The ceiling scale that the first rise from 0 reaches at the most (R409 raises by a factor, which 0 cannot
follow, and says that the ceiling rises from 0); the argument is RSV_SLEW.RISE. -/
opaque Config.ceilingStart : Nat → Rat

/-- The factor of the pilot amplitude after a window that measured no current, before its limits (R350);
the argument is ITGT in A. -/
opaque Config.pilotRatio : Rat → Rat

/-- The coefficients of the fourth-order band-pass filter of the broadband estimator: R352 gives its order and its band. The
arguments are FLO and FHI in Hz and the place of the coefficient: 0 to 4 of the input now and the four before, 5 to 8 of the
last four outputs. -/
opaque Config.bandCoeff : Rat → Rat → Nat → Rat

/-- The weights, newest first, by which five samples of the filtered current give its time derivative in A/s (R352 names the
derivative and no way to form it). -/
opaque Config.slopeTap : Nat → Rat

/-- The coefficients of the band of the resonance tracker, placed as those of `Config.bandCoeff`: R359 gives the band from 0.5
to 2 times the tracked resonance. The argument is that resonance in Hz. -/
opaque Config.trackCoeff : Rat → Nat → Rat

/-- The weight of one sample in the mean square of the band current (R359 gives no time over which its RMS is taken). -/
opaque Config.trackWeight : Rat

/-- What the normalised least-mean-squares update adds to KEFF in N/mm for a block (R359 gives neither its step nor its
gradient). The arguments are KEFF, and for each sample the tracking model's back-EMF in the band and by how much
v − Re(T_est) × i exceeds it, in V. -/
opaque Config.trackStep : Rat → List (Rat × Rat) → Rat

/-- The gain of the sine of a sweep at a sample of its ramp-in (true) or ramp-out of 96 samples: R383 gives the duration
of the ramps and no law. -/
opaque Config.sweepRamp : Bool → Nat → Rat

/-- The part of the test current of a pre-start run, or of the sine of a sweep, that is left some samples after an abort: R390
lets both go to zero within 1 ms and gives no law. -/
opaque Config.abortRamp : Nat → Rat

/-- The phase in turns with which the sine of a sweep begins (R383 gives none). -/
opaque Config.sweepPhase : Rat

/-- The public identity key of this device: made at manufacture (R688). -/
opaque Config.ownKey : BitVec 512

/-- The hash of the vendor's commissioning key (R699). -/
opaque Config.vendorKeyHash : BitVec 256

/-- The identity key of the companion at a place of the chain (R508). -/
opaque Config.companionKey : Nat → BitVec 512

/-- A word of the boot area in the NVS read window: R682 places its records and gives no layout within
them. The arguments are the offset and the writes of the boot area before. -/
opaque Config.bootAreaWord : Nat → Nat → BitVec 32

/-- The HMAC-SHA-256 of 32 bytes under the device-unique key (R717), as 32 bytes, first byte lowest. -/
opaque Config.deviceHmac : List (BitVec 8) → BitVec 256

/-- The SOURCE of a Sediment log entry that a rule asks for without giving it an origin (R686, R698, R714,
R715); the argument tells the entries apart. -/
opaque Config.openSource : Nat → BitVec 8

/-- The value that names the cause LOST in the entry of a node that fell silent (R553 gives no code). -/
opaque Config.lostCause : BitVec 8

/-- A word of the boot ROM by its address: R73 gives what the ROM does and not its code. -/
opaque Config.romWord : Nat → BitVec 32

end Sys2Proof
end

