-- ==== Sys2Proof/Machine/DeviceLink.lean ====
section
/-! DEFINITION. The state of the Tarn ring node, the host ports, the transaction engine, and the identity
and storage blocks beyond their registers. -/

namespace Sys2Proof.Machine

/-! ### Tarn ring -/

/-- A control message (R542). -/
structure Msg where
  dst : Nat
  src : Nat
  type : Nat
  flags : Nat
  mseq : Nat
  payload : List Byte
  deriving DecidableEq, Repr

/-- The link states of a receiver (R524). -/
inductive LinkSt where
  | down | training | up
  deriving DecidableEq, Repr

/-- One Tarn port: its link state, the last cable delays measured, newest first (R530), the FRAME and HOPS
of the last frame it sent (R555), and the sender and its master's tag in the last idle frame received there
(R554, R557). -/
structure TrnPort where
  st : LinkSt
  delays : List Int
  sentFrame : Nat
  sentHops : Nat
  neighbour : Nat
  neighTag : Nat
  deriving DecidableEq, Repr

/-- A sample in the hold buffer of a Tarn lane (R540): its origin frame, Q1.23 value, flags and epoch bits. -/
structure HoldSample where
  frame : Nat
  value : Int
  valid : Bool
  unsettled : Bool
  mute : Bool
  epoch : Nat
  deriving DecidableEq, Repr

/-- One Tarn lane: the hold buffer, newest first, the last good sample, the consecutive substituted samples,
the good samples of a ramp-in still to come after a loss (R538), whether the next block ramps in (R541), the age of its
slot's samples (R537), and the last origin frame presented (R541). -/
structure TrnLane where
  hold : List HoldSample
  good : HoldSample
  missed : Nat
  rampIn : Nat
  fadeIn : Bool
  age : Nat
  shown : Option Nat
  deriving DecidableEq, Repr

/-- What a node knows of another from its messages (R535, R553): number, tag, path delay and the slots it
writes. -/
structure NodeRec where
  node : Nat
  tag : Nat
  path : Nat
  slots : Nat
  deriving DecidableEq, Repr

/-- One roster entry (R694). -/
structure RosterEntry where
  tag : Nat
  index : Nat
  flags : Nat
  deriving DecidableEq, Repr

/-- A host frame in reassembly (R548). -/
structure Reasm where
  node : Nat
  client : Client
  rsp : Bool
  mseq : Nat
  next : Nat
  total : Nat
  bytes : List Byte
  deriving DecidableEq, Repr

/-- A HEAL_READY that the master holds (R557): the sender, its port, the neighbour. -/
structure HealNote where
  node : Nat
  port : Nat
  neighbour : Nat
  deriving DecidableEq, Repr

/-- What came back to the master with frame f (R536, R545): its slots, whether CRC_A was good, and the messages
to recirculate. -/
structure Returned where
  frame : Nat
  slotsOk : Bool
  slots : List Word
  msgs : List Msg
  deriving DecidableEq, Repr

/-- The ring node beyond its registers. `inbox` holds the messages it took from the frames, oldest first;
`queue` the three classes of R544; `last` the FRAME of the last frame it processed; `same` how many processed
frames in a row carried one MASTER and a good HCRC; `wrapped` that WRAP frames arrive at the master;
`pdelay`, `recirc` the ring's parameters as last learnt, and `known` that it has learnt them; `carrier` the
carrier code of the beacon; `oldH` the H in force; `nodes` what it knows of the others; `roster` the entries
of ROSTER messages of generation `rosterGen` gathered so far; `challenge` the tags and nonces that the master
awaits answers to; `stopNext` that it stops originating at its next frame; `returned` what came back to the
master; `beacon` the payload of the last beacon; `stopped` the entries of TRN_TX_i that R535 stopped;
`looped` the LOOPBACK of R222; `heard` that a master's frame has arrived since the reset (R549); `sent` the last frames it sent,
with their ports. -/
structure Trn where
  ports : Vector TrnPort 2
  inbox : List Msg
  queue : Vector (List Msg) 3
  mseq : Nat
  last : Option Nat
  lastMaster : Nat
  same : Nat
  wrapped : Bool
  pdelay : Nat
  recirc : Nat
  known : Bool
  carrier : Nat
  backup : Nat
  oldH : Nat
  lanes : Vector TrnLane 32
  nodes : List NodeRec
  roster : List RosterEntry
  rosterGen : Nat
  reasm : List Reasm
  heals : List HealNote
  unwrapAt : Option Nat
  challenge : List (Nat × Nat)
  stopNext : Bool
  returned : List Returned
  beacon : List Byte
  stopped : Nat
  looped : Bool
  heard : Bool
  sent : List (Side × List Byte)
  deriving DecidableEq, Repr

/-! ### Storage, identity and update (R682 to R731) -/

/-- A key slot (R699): 0 EMPTY, 1 ACTIVE, 2 REVOKED, and the hash of a public key. -/
structure KeySlot where
  state : Nat
  hash : BitVec 256
  deriving DecidableEq, Repr

/-- The boot control record (R706). -/
structure BootRec where
  active : Nat
  armed : Bool
  tries : Nat
  trialFail : Bool
  deriving DecidableEq, Repr

/-- The update record (R709): NONE 0, RECEIVING 1, COMPLETE 2, VERIFIED 3, ARMED 4. -/
structure UpdRec where
  state : Nat
  slot : Nat
  length : Nat
  hash : BitVec 256
  mark : Nat
  deriving DecidableEq, Repr

/-- What a line write puts into its line: bytes, a record of the boot area, or a persistent log entry with the
count it raises (R662). -/
inductive LineData where
  | bytes (bs : List Byte) | persist (bs : List Byte) (count : Nat) | boot (r : BootRec) | upd (r : UpdRec) | key (k : Fin 4) (s : KeySlot)
  | rollback (n : Nat) | image (key : BitVec 256)
  deriving DecidableEq, Repr

/-- A line write: the NVS offset of its line, the new content, and whether it passes by the journal (image
lines of UPD_DATA, R710). -/
structure LineJob where
  offset : Nat
  data : LineData
  plain : Bool
  deriving DecidableEq, Repr

/-- What follows the last line of an operation. `adopted` and `revoked` are the tags of a roster commit. -/
inductive SecAct where
  | none | roster (ring : Bool) (gen changes : Nat) (adopted revoked : List Nat)
  | confirm (slot version counter : Nat) | key (slot op : Nat) | activate (reset : Bool)
  | priv (who : Client) (mask : Nat) | imageBad
  deriving DecidableEq, Repr

/-- The response that completes a host command: the client, STATUS, EXTRA and the response data. -/
structure SecReply where
  client : Client
  status : Nat
  extra : Nat
  data : List Byte
  deriving DecidableEq, Repr

/-- An operation of SEC or of the update engine that writes lines, in order. `upd` marks an update opcode,
whose errors are answered UPD_ERROR and whose writes need the energy permit (R712); `waited` counts the blocks in
which they waited for it. -/
structure SecOp where
  lines : List LineJob
  reply : Option SecReply
  act : SecAct
  upd : Bool
  waited : Nat
  deriving DecidableEq, Repr

/-- The line write in progress (R718): none, the head of the persistent queue, the next line of the first
operation, or the NVC request. -/
inductive NvsCur where
  | none | persist | sec | req
  deriving DecidableEq, Repr

/-- A staged roster change (R696). -/
structure IdChange where
  adopt : Bool
  ring : Bool
  flags : Nat
  tag : Nat
  index : Nat
  deriving DecidableEq, Repr

/-- The content of the NVS beyond its readable bytes, and the blocks that write it. `wear` counts the
programs of each line; `bootWrites` the writes of the boot area; `req` the 64 bytes and the line of an NVC
request; `cur` the line write in progress; `ecc` the 64-bit words in error, by offset, with the wrong bit of a correctable
one (R685); `interrupted` the line write that a reset cut short; `resetAfter` the client whose read of its
output queue lets the activation reset happen; `rom` that the boot ROM serves the ports (R708). -/
structure Nvs where
  boot : BootRec
  bootBad : Bool
  upd : UpdRec
  keys : Vector KeySlot 4
  rollback : Nat
  imageKey : Option (BitVec 256)
  wear : List (Nat × Nat)
  pcount : Nat
  ops : List SecOp
  req : Option LineJob
  cur : NvsCur
  ecc : List (Nat × Option (Fin 72))
  interrupted : Option LineJob
  resetAfter : Option Client
  rom : Bool
  deriving DecidableEq, Repr

/-! ### Host ports (R568 to R617) -/

/-- Where a command came from and where its response goes: the port, a node of the ring, a RELAY of a local
client, or a core through TXN_CREQ. -/
inductive Origin where
  | port | ring (node : Nat) | loc (c : Client) | core
  deriving DecidableEq, Repr

/-- A command in a client's queue; `at_` is the cycle in which it came to its parser (R32). -/
structure Cmd where
  seq : Nat
  opcode : Nat
  flags : Nat
  payload : List Byte
  frame : List Byte
  origin : Origin
  at_ : Nat
  deriving DecidableEq, Repr

/-- A conversation (R595): its kind, 0 while closed, whether it was closed by its timer, and the staged
roster changes. -/
structure Conv where
  kind : Nat
  timedOut : Bool
  staged : List IdChange
  deriving DecidableEq, Repr

/-- An outstanding notification (R593). -/
structure Ntf where
  source : Nat
  frame : List Byte
  deriving DecidableEq, Repr

/-- One client's port beyond its registers. `busy` says that the command at the head of the queue executes;
`backlog` holds responses that wait for room in the output queue (R600); `sentOf` how many bytes of the first frame of
the output queue have left; `miso` the bytes the last transfer
returned; `dropping` how many bytes of an overrun frame are still to be discarded; `relay` the node and client of the RELAY
that waits. -/
structure Hp where
  inbuf : List Byte
  outq : List (List Byte)
  backlog : List (List Byte)
  sentOf : Nat
  miso : List Byte
  cache : List (Nat × List Byte)
  queue : List Cmd
  busy : Bool
  convs : Vector Conv 4
  ntf : List Ntf
  dropping : Nat
  relay : Option (Nat × Client)
  deriving DecidableEq, Repr

/-! ### Transactions (R618 to R649) -/

/-- A staged entry: its two words (R618). -/
structure Entry where
  key : Word
  value : Word
  deriving DecidableEq, Repr

/-- The phases of a commit: judged on arrival and not yet armed; armed with the boundaries left before B1;
after B1; after B2 with the boundaries left before wave 3. -/
inductive TxnPhase where
  | judged | armed (left : Nat) | toWave2 | toWave3 (left : Nat)
  deriving DecidableEq, Repr

/-- An entry of a transaction in flight, with the wave it was sorted into (0: equal at B1, or not yet sorted). -/
structure FlightEntry where
  entry : Entry
  wave : Nat
  deriving DecidableEq, Repr

/-- A transaction in flight: the base version, its entries, the settle time latched at B1, the waves that applied at
least one field (bit w − 1), ST_BLKCNT at B1, whether SAFE was entered in flight (R639), and the prepared copy of the
coefficient window (R634). -/
structure Flight where
  phase : TxnPhase
  baseEpoch : Nat
  baseRev : Nat
  entries : List FlightEntry
  settle : Nat
  waves : Nat
  blk : Nat
  safe : Bool
  copy : Option Nat
  deriving DecidableEq, Repr

/-- A transaction in flight meets a SAFE entry (R639). -/
def Flight.markSafe (f : Flight) : Flight := { f with safe := true }

/-- The transaction engine beyond its registers: the staging areas, the transactions in flight; `winStamp` is the one
stamp of the coefficient window; `fadeOld` that OLD returns to CUR at the next boundary; `crossfade` that the block
that begins is the crossfade block; `creqWaits` that the request of TXN_CREQ waits for room; `ended` that a commit has
found no room for another epoch (R34). -/
structure Txn where
  stage : Vector (List Entry) 2
  flight : Vector (Option Flight) 2
  winStamp : Nat × Nat
  fadeOld : Bool
  crossfade : Bool
  creqWaits : Bool
  ended : Bool
  deriving DecidableEq, Repr

/-! ### After a reset -/

/-- The sample that an empty hold gives. -/
def HoldSample.zero : HoldSample := ⟨0, 0, false, false, false, 0⟩

/-- A lane that has received nothing. -/
def TrnLane.idle : TrnLane := ⟨[], .zero, 0, 0, false, 0, none⟩

/-- A port after a reset. -/
def TrnPort.idle : TrnPort := ⟨.down, [], 0, 0, 0, 0⟩

/-- The ring node after a reset, with PDELAY and RECIRC at the reset values of TRN_RING. -/
def Trn.idle : Trn :=
  { ports := .replicate 2 .idle, inbox := [], queue := .replicate 3 [], mseq := 0, last := none
    lastMaster := 0, same := 0, wrapped := false, pdelay := 96, recirc := 3, known := false, carrier := 0
    backup := 0, oldH := 0, lanes := .replicate 32 .idle, nodes := [], roster := [], rosterGen := 0
    reasm := [], heals := [], unwrapAt := none, challenge := [], stopNext := false, returned := []
    beacon := [], stopped := 0, looped := false, heard := false, sent := [] }

/-- The NVS as the device is shipped (R699 to R701): key slot 0 holds the hash of the vendor's commissioning
key. -/
def Nvs.shipped : Nvs :=
  { boot := ⟨0, false, 0, false⟩, bootBad := false, upd := ⟨0, 0, 0, 0, 0⟩
    keys := #v[⟨1, Config.vendorKeyHash⟩, ⟨0, 0⟩, ⟨0, 0⟩, ⟨0, 0⟩], rollback := 0, imageKey := none
    wear := [], pcount := 0, ops := [], req := none, cur := .none, ecc := [], interrupted := none, resetAfter := none
    rom := false }

/-- A closed conversation. -/
def Conv.closed : Conv := ⟨0, false, []⟩

/-- A port after a reset. -/
def Hp.idle : Hp :=
  { inbuf := [], outq := [], backlog := [], sentOf := 0, miso := [], cache := [], queue := [], busy := false
    convs := .replicate 4 .closed, ntf := [], dropping := 0, relay := none }

/-- The transaction engine after a reset. -/
def Txn.idle : Txn :=
  { stage := .replicate 2 [], flight := .replicate 2 none, winStamp := (0, 0)
    fadeOld := false, crossfade := false, creqWaits := false, ended := false }

end Sys2Proof.Machine
end

