-- ==== Sys2Proof/Machine/DeviceRsv.lean ====
section
/-! DEFINITION. The state of the Reservoir beyond its registers (R400 to R413). -/

namespace Sys2Proof.Machine

/-- The Reservoir. `age` counts the boundaries since each cell's reading; `isamp`, `mean8`, `mean9` and
`peak9` are the last settled stack current at a sampling instant (A), the block means of lanes 8 (V) and 9
(A), and the largest magnitude of lane 9 in the block (A); `k` is the delivered scale and `kRaised` its
value at the last CEILING_MOVED; `sigma` the squeeze and `sel` the selected MUST task; `fe`, `fh` the free
pools (A, W) as dispatches have drawn them; `held` says that the selected task's costs are held for it;
`coilOk` whether heat class 3 has its coil headroom; `lowE`, `lowH` the level at which a budget event was
raised while it is not armed again. -/
structure Rsv where
  age : Vector Nat 32
  isamp : Option Rat
  mean8 : Option Rat
  mean9 : Option Rat
  peak9 : Rat
  k : Rat
  kRaised : Rat
  sigma : Rat
  sel : Option Nat
  fe : Rat
  fh : Rat
  held : Bool
  coilOk : Bool
  lowE : Option Rat
  lowH : Option Rat
  deriving DecidableEq, Repr

/-- The Reservoir after a reset: k is 0 (R409). -/
def Rsv.idle : Rsv :=
  { age := .replicate 32 0, isamp := none, mean8 := none, mean9 := none, peak9 := 0, k := 0, kRaised := 0
    sigma := 1, sel := none, fe := 0, fh := 0, held := false, coilOk := true, lowE := none, lowH := none }

end Sys2Proof.Machine
end

