-- ==== Sys2Proof/Machine/DeviceStage.lean ====
section
/-! DEFINITION. The state of the modulator, the gate drivers and the load diagnostics beyond their
registers. -/

namespace Sys2Proof.Machine

/-- What drives the gates of the half-bridges: both off, or the override of R313, in READY; the safe levels of
R308; the bootstrap precharge of R225; modulation; the static drive of a pre-start run (R376); the sine of a sweep
(R383). -/
inductive Drive where
  | off | safe | bootstrap | modulate | diag | sweep
  deriving DecidableEq, Repr

/-- What the gates of a half-bridge do: both off, low side on, high side on, or switching under a drive
of the modulator or of the diagnostics. -/
inductive Gate where
  | allOff | lowOn | highOn | bootstrap | modulating | diag
  deriving DecidableEq, Repr

/-- One half-bridge in a carrier period: the placed on and off edges in counts with the on-time of the
period (R294 to R304), whether a fault forces both gates off (R308), the consecutive periods at an
on-time of P and whether the next period takes a refresh pulse (R304), and whether its bootstrap lockout has latched
(R310). Of the commands that act at the gates: the spans of the period in which the high side is commanded on (`hi`), the
level before the period and its last edge, counted from the start of the period (none before the first one; R302), what a
moved edge or a refresh pulse carries into the next period (a level, up to a count), the refresh pulse of the period (R304),
and the ring time of the last change of its override code (R313). -/
structure HalfBridge where
  onEdge : Int
  offEdge : Int
  onTime : Int
  forced : Bool
  fullRun : Nat
  refreshDue : Bool
  bstLatched : Bool
  hi : List (Int × Int)
  level : Bool
  lastEdge : Option Int
  carry : Option (Bool × Int)
  pulse : Option (Int × Int)
  codeAt : BitVec 64
  deriving DecidableEq, Repr

/-- One modulator channel: the shaper states and v of R292 (exact), the consecutive periods for which each state has been
at its limit (R293), and the overcurrent of the period in progress (R306). -/
structure ModChannel where
  x : Vector Rat 5
  v : Rat
  satRun : Vector Nat 5
  tripped : Bool
  tripRun : Nat
  deriving DecidableEq, Repr

/-- The modulator and gate drivers beyond their registers. `period` counts carrier periods from the block
boundary; `vbus` is the latest stage 4 output of lane 8 produced before the period in progress, with its UNSETTLED flag
(R298), and `rail` the last factor computed from a settled sample (R299); `shadow` holds the shadowed
registers as they act now and `shadowNext` as they act from the next period 1 (R305); three flags say what
happened in the block so far; `frozen` is the debug halt of R316 and `held` the gates it holds, until the next period
boundary after it (R319); `guardOut` the 16 samples the Guard
hands over for the block and `tail` the last 4 of the block before, oldest first, which the interpolator still uses (R291);
`modeLive` the MOD_CFG word in force (R289). -/
structure Stage where
  drive : Drive
  half : Vector HalfBridge 8
  chan : Vector ModChannel 4
  period : Nat
  vbus : Option (Word × Bool)
  rail : Option Rat
  shadow : RegMap
  shadowNext : RegMap
  clipSeen : Bool
  rffSeen : Bool
  refreshSeen : Bool
  frozen : Bool
  held : Option (Vector Gate 8)
  guardOut : Vector (List Int) 4
  tail : Vector (List Int) 4
  modeLive : Word
  deriving DecidableEq, Repr

/-- The steps of a pre-start run (R376) and of a sweep (R383). A sweep awaits its bootstrap precharge after
steps A and B, and turns the gates off at the boundary after its ramp-out. In `fall` and `sineFall` an aborted run lets its test
current or its sine go to zero (R390). -/
inductive DiagStep where
  | a | b | c | d | e | f | await | bootstrap | sineIn | settle | measure | sineOut | gatesOff
  | fall | sineFall
  deriving DecidableEq, Repr

/-- The result of one channel of a run. `hb` is the side that read beyond the limit first, `rdc` the DC
resistance in mΩ, where the run measured one. -/
structure DiagResult where
  result : Nat
  hb : Nat
  rdcValid : Bool
  rdc : Option Nat
  deriving DecidableEq, Repr

/-- A run in progress: its kind, whether it is part of a PLAY entry, whether its first boundary has passed,
the channels (bit n − 1), the step and the blocks it has lasted, the channels that failed step A or B, the
results, the configuration words latched at its first boundary (R376), the sweep point, the phase of the sine in turns,
the channels whose Guard gain was below 1 while the point was measured (R385), the test current in A that each channel's
positive switch nodes source at the last step or boundary, the sum of the terminal voltage in V over step E (R377), the channels
whose lanes had a sample under R397 in step E or in the point, and whether the point has been measured. -/
structure DiagRun where
  sweep : Bool
  inEntry : Bool
  begun : Bool
  mask : Nat
  step : DiagStep
  blocks : Nat
  failed : Nat
  results : Vector DiagResult 4
  cfg : Word
  pre : Word
  limits : Vector Word 4
  elec : Vector Word 4
  th2 : Vector Word 4
  th3 : Vector Word 4
  lc : Word
  sweepCfg : Word
  sweepLvl : Word
  point : Nat
  phase : Rat
  lim : Nat
  current : Vector Rat 4
  sum : Vector Rat 4
  bad : Nat
  pointDone : Bool
  deriving DecidableEq, Repr

/-- One continuous check of one channel (R387): consecutive judgements that found it and that did not,
and whether it holds. -/
structure LoadCheck where
  found : Nat
  absent : Nat
  holds : Bool
  deriving DecidableEq, Repr

/-- The DC-on-load detector of one channel (R388): the filtered voltage in V and its time derivative in V/s, and the samples for
which the timer has run, the one that started it among them (0 while it stands). -/
structure DcDetector where
  y : Rat
  w : Rat
  timer : Nat
  deriving DecidableEq, Repr

/-- The load diagnostics beyond their registers: the run, the continuous checks (channel n − 1, kind
code − 1) and the DC-on-load detectors. -/
structure Diag where
  run : Option DiagRun
  checks : Vector (Vector LoadCheck 5) 4
  dc : Vector DcDetector 4
  deriving DecidableEq, Repr

/-- A half-bridge at rest. -/
def HalfBridge.idle : HalfBridge :=
  { onEdge := 0, offEdge := 0, onTime := 0, forced := false, fullRun := 0, refreshDue := false, bstLatched := false
    hi := [], level := false, lastEdge := none, carry := none, pulse := none, codeAt := 0 }

/-- A channel with its shaper cleared. -/
def ModChannel.idle : ModChannel := ⟨.replicate 5 0, 0, .replicate 5 0, false, 0⟩

/-- The power stage after a reset: both gates of every half-bridge off. -/
def Stage.idle : Stage :=
  { drive := .off, half := .replicate 8 .idle, chan := .replicate 4 .idle, period := 0, vbus := none, rail := none
    shadow := [], shadowNext := [], clipSeen := false, rffSeen := false, refreshSeen := false
    frozen := false, held := none, guardOut := .replicate 4 [], tail := .replicate 4 [], modeLive := 0x11 }

/-- The load diagnostics after a reset. -/
def Diag.idle : Diag := ⟨none, .replicate 4 (.replicate 5 ⟨0, 0, false⟩), .replicate 4 ⟨0, 0, 0⟩⟩

end Sys2Proof.Machine
end

