-- ==== Sys2Proof/Machine/Device.lean ====
section
/-! DEFINITION. The device: every register, memory, buffer, counter, mode and pin the spec gives the
block, as plain data. The queue of waiting commands stands beside it in `State`. -/

namespace Sys2Proof.Machine

/-- The device. `regs` is the register file of the mapped registers, `mem` the memories (canonical
cells), `ecc` the memory words in error, `lastRead` what the last register read returned to its master
and `freshN` the number of free values drawn so far (the model's own fields), `linkClock` the STREAM cycles in which LINK has run, by which
two commands that reach their parsers at one time are known (R32), `leasePhase` those of the lease timer's millisecond in progress
(R599). `semOrder` holds, for each semaphore, the cores in the order
in which they win ties, and `semWon` the core that has won a tie in which its own SEMTAKE still comes (R61). -/
structure Device where
  regs : RegMap
  mem : List Host.Cell
  ecc : List (Nat × EccErr)
  c0 : Core
  c1 : Core
  sc : Core
  stream : Stream
  evc : Evc
  sed : Sed
  clk : Clk
  pwr : Pwr
  stage : Stage
  diag : Diag
  inp : Inputs
  guard : Guard
  aux : Aux
  rsv : Rsv
  companions : Vector Companion 64
  shl : Shl
  trn : Trn
  nvs : Nvs
  hp : Vector Hp 2
  txn : Txn
  weirRecord : List (Nat × Nat)
  weirAge : List (Nat × Nat)
  semOrder : Vector (List CoreId) 32
  semWon : Vector (Option CoreId) 32
  stamps : List (Nat × (Nat × Nat))
  linkClock : Nat
  leasePhase : Nat
  lastRead : Word
  freshN : Nat
  deriving DecidableEq, Repr

end Sys2Proof.Machine
end

