-- ==== Sys2Proof/Machine/DeviceInit.lean ====
section
/-! DEFINITION. The device as a reset leaves it (R216): every block at its reset values. What outlives a
reset is put back by `Device.resetAll`. -/

namespace Sys2Proof.Machine

/-- A core held in reset, every register zero (R74). -/
def Core.atReset : Core :=
  { w := .replicate 32 0, acc := .replicate 4 0, q := .replicate 16 0, pc := 0, st := []
    mpu := .replicate 16 ⟨0, 0, 0⟩, cycles := 0, run := .held, buf := [], bootEntry := 0, bootVec := 0, dbgRun := .held }

/-- The stream hand-over before the first block. -/
def Stream.atReset : Stream :=
  { done := false, overrun := false, muted := false, rampDue := false, resume := true, last := .replicate 4 0
    dbgPrev := 0, epoch := 0, lastEpoch := 0 }

/-- A source in IDLE. -/
def EvSource.idle : EvSource :=
  { st := .idle, target := 3, repend := false, ovf := false, lost := false, sw := false, wake := false, count := 0 }

/-- The event controller: every source IDLE, no moderation timer running. -/
def Evc.idle : Evc := ⟨.replicate 128 .idle, .replicate 4 false, false, 0⟩

/-- The log's queues, empty. -/
def Sed.idle : Sed :=
  { wq := [], gap := none, pq := [], halfArmed := true, eccTimes := [], nvsFaultOpen := false, resetSeq := 0 }

/-- The device as manufactured, at the instant VSTK first rises through 20.0 V (R212 step 1): every register at its
reset value, every memory unwritten, the NVS as shipped (R736), the companions of the chain without supply. -/
def Device.initial : Device :=
  { regs := [], mem := [], ecc := [], c0 := .atReset, c1 := .atReset, sc := .atReset, stream := .atReset
    evc := .idle, sed := .idle, clk := .idle, pwr := .start, stage := .idle, diag := .idle, inp := .idle
    guard := .idle, aux := .idle, rsv := .idle
    companions := .ofFn fun k => .dark (Config.companionKey k.val)
    shl := .idle, trn := .idle, nvs := .shipped, hp := .replicate 2 .idle, txn := .idle, weirRecord := []
    weirAge := [], semOrder := .replicate 32 [.c0, .c1, .s]
    semWon := .replicate 32 none, stamps := [], linkClock := 0, leasePhase := 0, lastRead := 0, freshN := 0 }

end Sys2Proof.Machine
end

