-- ==== Sys2Proof/Machine/Flags.lean ====
section
/-! DEFINITION. Rounding and saturation (R104): the exact result is an integer, narrowed explicitly, and
a clamp that changes the value sets the sticky SAT flag. -/

namespace Sys2Proof.Machine

/-- The pseudocode of R104: `v` rounded by `n` bits. -/
def roundBits (mode : RoundMode) (v : Int) (n : Nat) : Int :=
  if n = 0 then v
  else
    let q := v / (2 ^ n : Int)
    let r := v - q * 2 ^ n
    let half : Int := 2 ^ (n - 1)
    match mode with
    | .floor => q
    | .halfUp => if half ≤ r then q + 1 else q
    | .halfEven => if half < r ∨ (r = half ∧ q % 2 = 1) then q + 1 else q

/-- The mode a mode field selects; 0b11 is reserved. -/
def roundMode (m : BitVec 2) : Option RoundMode :=
  if m = 0 then some .floor else if m = 1 then some .halfUp else if m = 2 then some .halfEven else none

/-- A value clamped to a width of `b` bits. -/
def clamp (b : Nat) (v : Int) : Int :=
  if v < -(2 ^ (b - 1) : Int) then -(2 ^ (b - 1) : Int)
  else if (2 ^ (b - 1) : Int) - 1 < v then (2 ^ (b - 1) : Int) - 1
  else v

/-- Does the clamp change the value? That sets ST_STATUS.SAT. -/
def clamps (b : Nat) (v : Int) : Bool := clamp b v != v

/-- sat32: a 32-bit word. -/
def sat32 (v : Int) : BitVec 32 := BitVec.ofInt 32 (clamp 32 v)

/-- sat72: an accumulator. -/
def sat72 (v : Int) : BitVec 72 := BitVec.ofInt 72 (clamp 72 v)

/-- Half-even rounding of an exact quotient `v / n`, for `n` positive. -/
def divHalfEven (v : Int) (n : Nat) : Int :=
  let q := v / (n : Int)
  let r := v - q * n
  if (n : Int) < 2 * r ∨ (2 * r = n ∧ q % 2 = 1) then q + 1 else q

/-- Half-even rounding of an exact rational. -/
def ratHalfEven (v : Rat) : Int := divHalfEven v.num v.den

end Sys2Proof.Machine
end

