-- ==== Sys2Proof/Machine/Exact.lean ====
section
/-! DEFINITION. Exact arithmetic on rationals, and the few real functions the rules use, to a stated
resolution (log entry 22: the manual gives no arithmetic for them). -/

namespace Sys2Proof.Machine

/-- A value limited to a range. -/
def limitRat (lo hi v : Rat) : Rat := if v < lo then lo else if hi < v then hi else v

/-- The smaller of two rationals. -/
def minRat (a b : Rat) : Rat := if b < a then b else a

/-- The larger of two rationals. -/
def maxRat (a b : Rat) : Rat := if a < b then b else a

/-- The magnitude of a rational. -/
def absRat (v : Rat) : Rat := if v < 0 then -v else v

/-- The square root of a value that is not negative, rounded down to a multiple of 2⁻⁴⁰. -/
def ratSqrt (v : Rat) : Rat :=
  if v ≤ 0 then 0 else (Nat.sqrt (v.num.natAbs * 2 ^ 80 / v.den) : Rat) / 2 ^ 40

/-- π, cut after 20 decimals. -/
def piRat : Rat := 314159265358979323846 / 100000000000000000000

/-- The partial sum of the sine series to the term of degree 19. -/
def sinSeries (x : Rat) : Rat :=
  let t := fun n : Nat => (-1 : Rat) ^ n * x ^ (2 * n + 1) / ((2 * n + 1).factorial : Rat)
  t 0 + t 1 + t 2 + t 3 + t 4 + t 5 + t 6 + t 7 + t 8 + t 9

/-- The sine of `p` turns. -/
def sinTurn (p : Rat) : Rat :=
  let q := p - p.floor
  if q ≤ 1 / 4 then sinSeries (2 * piRat * q)
  else if q ≤ 3 / 4 then sinSeries (2 * piRat * (1 / 2 - q))
  else sinSeries (2 * piRat * (q - 1))

/-- 1 − exp(−x) for a small x that is not negative, to the term of degree 6. -/
def oneMinusExp (x : Rat) : Rat :=
  x - x ^ 2 / 2 + x ^ 3 / 6 - x ^ 4 / 24 + x ^ 5 / 120 - x ^ 6 / 720

/-- exp(−x) for x from 0 to about 4, by the series of degree 12 of x / 16. -/
def expNeg (x : Rat) : Rat :=
  let y := x / 16
  let t := fun n : Nat => (-1 : Rat) ^ n * y ^ n / (n.factorial : Rat)
  (((List.range 13).map t).sum) ^ 16

/-- The natural logarithm of 10, cut after 20 decimals. -/
def ln10 : Rat := 230258509299404568402 / 100000000000000000000

/-- 10 to the power −x, for x from 0 to about 1.5. -/
def tenToMinus (x : Rat) : Rat := expNeg (x * ln10)

/-- Is a magnitude `a` more than `r` dB above a magnitude `b`? -/
def aboveDb (a b : Rat) (r : Nat) : Bool :=
  decide (b * 10 ^ (r / 20) < a * tenToMinus (((r % 20 : Nat) : Rat) / 20))

/-- Is a magnitude `a` less than `r` dB above a magnitude `b`? -/
def belowDb (a b : Rat) (r : Nat) : Bool :=
  decide (a * tenToMinus (((r % 20 : Nat) : Rat) / 20) < b * 10 ^ (r / 20))

/-- The mean of a list; 0 for an empty one. -/
def meanRat (l : List Rat) : Rat := if l.isEmpty then 0 else l.sum / (l.length : Rat)

/-- The square root of the mean square. -/
def rmsRat (l : List Rat) : Rat := ratSqrt (meanRat (l.map fun v => v * v))

/-- The largest of a list of magnitudes; 0 for an empty one. -/
def maxList (l : List Rat) : Rat := l.foldl maxRat 0

/-- An unsigned fixed-point code with `n` fraction bits, clamped to `w` bits. -/
def toUQ (w n : Nat) (v : Rat) : Nat :=
  min (ratHalfEven (v * 2 ^ n)).toNat (2 ^ w - 1)

/-- The largest `n` below `2 ^ bits` with `p n`, for a `p` that holds up to a bound: 0 when none. -/
def lastBelow (p : Nat → Bool) : Nat → Nat → Nat
  | 0, acc => acc
  | b + 1, acc => if p (acc + 2 ^ b) then lastBelow p b (acc + 2 ^ b) else lastBelow p b acc

end Sys2Proof.Machine
end

