-- ==== Sys2Proof/Machine/Ops.lean ====
section
/-! DEFINITION. The named operations over the device that every block shares: fields and words, bytes
and memory words, the log, firing an event, rejecting a write. -/

namespace Sys2Proof.Machine

/-! ### Registers -/

/-- The value of a register field. -/
def Device.get (d : Device) (f : Fld) : Nat := d.regs.get f

/-- The value of a register field as a signed number. -/
def Device.geti (d : Device) (f : Fld) : Int := d.regs.geti f

/-- Writes a register field. -/
def Device.put (d : Device) (f : Fld) (v : Nat) : Device := { d with regs := d.regs.put f v }

/-- Writes a register field with a signed number. -/
def Device.puti (d : Device) (f : Fld) (v : Int) : Device := { d with regs := d.regs.puti f v }

/-- Is a one-bit field set? -/
def Device.flag (d : Device) (f : Fld) : Bool := d.get f != 0

/-- Sets a one-bit field. -/
def Device.setFlag (d : Device) (f : Fld) (b : Bool) : Device := d.put f b.toNat

/-- The word of a register. -/
def Device.word (d : Device) (a : Nat) : Word := d.regs.word a

/-- Writes the word of a register, without any judgement. -/
def Device.setWord (d : Device) (a : Nat) (w : Word) : Device :=
  { d with regs := d.regs.setWord a w }

/-- Adds to a counter field that saturates at its largest value. -/
def Device.bump (d : Device) (f : Fld) (n : Nat := 1) : Device :=
  d.put f (min (d.get f + n) (2 ^ f.width - 1))

/-- Adds to a counter field that wraps. -/
def Device.bumpWrap (d : Device) (f : Fld) (n : Nat := 1) : Device :=
  d.put f ((d.get f + n) % 2 ^ f.width)

/-- Sets bits of a field. -/
def Device.orField (d : Device) (f : Fld) (v : Nat) : Device := d.put f (d.get f ||| v)

/-- Clears bits of a field. -/
def Device.andNotField (d : Device) (f : Fld) (v : Nat) : Device :=
  d.put f (d.get f - (d.get f &&& v))

/-- The core of a name. -/
def Device.core (d : Device) : CoreId → Core
  | .c0 => d.c0
  | .c1 => d.c1
  | .s => d.sc

/-- The device with one core replaced. -/
def Device.setCore (d : Device) (c : CoreId) (k : Core) : Device :=
  match c with
  | .c0 => { d with c0 := k }
  | .c1 => { d with c1 := k }
  | .s => { d with sc := k }

/-! ### Bytes -/

/-- The `n` low bytes of a number, least significant first (R2). -/
def leBytes : Nat → Nat → List Byte
  | 0, _ => []
  | n + 1, v => BitVec.ofNat 8 v :: leBytes n (v / 256)

/-- The number that bytes spell, least significant first (R2). -/
def ofLe : List Byte → Nat
  | [] => 0
  | b :: t => b.toNat + 256 * ofLe t

/-! ### States of the device -/

/-- PWR_STAT.STATE codes (R243). -/
def Device.isState (d : Device) (n : Nat) : Bool := d.get F.PWR_STAT_STATE == n

/-- A running state: READY, PLAY or SAFE, the supplies up (R207). -/
def Device.running (d : Device) : Bool :=
  d.pwr.seq == .up && (d.isState 2 || d.isState 3 || d.isState 4)

/-- In STILL: the supplies up and CORE and STREAM gated. -/
def Device.still (d : Device) : Bool := d.pwr.seq == .up && d.isState 1

/-- In limp (R196). -/
def Device.limp (d : Device) : Bool := d.get F.CLK_STAT_MODE == 6

/-- The CORE and STREAM domains run: from the release of the dividers, except in STILL. -/
def Device.coreRuns (d : Device) : Bool :=
  (d.pwr.seq == .up || d.pwr.seq == .booting) && !d.still

/-- The LINK domain runs: in STILL as well. -/
def Device.linkRuns (d : Device) : Bool := d.pwr.seq == .up || d.pwr.seq == .booting

/-- The PLAY entry sequence is in progress. -/
def Device.playEntering (d : Device) : Bool :=
  match d.pwr.busy with
  | .playEntry _ => true
  | _ => false

/-- Counts as PLAY for the judgement of accesses (R800). -/
def Device.inPlay (d : Device) : Bool := d.pwr.seq == .up && (d.isState 3 || d.playEntering)

/-- The LINK cycle of now: two STREAM cycles each. -/
def Device.linkCycle (d : Device) : Nat := d.linkClock / 2

/-- The epoch in force. -/
def Device.epoch (d : Device) : Nat := d.get F.TXN_EPOCH_EPOCH

/-! ### The Sediment log -/

/-- The class of an event source whose every occurrence is logged (R650). -/
def sourceSev (n : Nat) : Nat :=
  if n ∈ [7, 8, 36, 37, 40, 42, 67, 69, 70, 71, 83, 84, 86, 87, 88, 89, 91, 97, 98, 100, 101, 102,
      116, 117, 118] then 1
  else if n ∈ [13, 49, 50, 52] then 2
  else if 16 ≤ n ∧ n ≤ 24 then 3
  else 0

/-- The write queue holds 64 entries (R657). -/
def logQueueCap : Nat := 64

/-- The LOG_GAP entry as it enters the queue (R654, R657). -/
def LogGap.entry (g : LogGap) : LogEntry :=
  { epoch := g.epoch, rt := g.rt, source := 154, sev := 1, detail := 0,
    data := leBytes 2 (min g.folded 65535) ++ leBytes 1 g.first ++ leBytes 1 g.last }

/-- The place of a source in the order of one instant (R33, R37, R324): the causes of faults in ascending order, then
FAULT_CHn, then the inputs that unlock, then SAFE. Other sources keep the order in which they arrive. -/
def faultRank (source : Nat) : Option Nat :=
  if (20 ≤ source && source ≤ 24) || source == 131 then some source
  else if 16 ≤ source && source ≤ 19 then some (256 + source)
  else if source == 52 then some 300
  else if source == 129 then some 301
  else none

/-- Does an entry stand behind `e`, which arrives at the same instant? -/
def LogEntry.follows (x e : LogEntry) : Bool :=
  x.epoch == e.epoch && x.rt == e.rt &&
    match faultRank x.source, faultRank e.source with
    | some p, some q => q < p
    | _, _ => false

/-- An entry in its place among those that wait, the last first. -/
def placeBefore (e : LogEntry) : List LogEntry → List LogEntry
  | [] => [e]
  | x :: t => if x.follows e then x :: placeBefore e t else e :: x :: t

/-- An entry in its place among those that wait. -/
def placeEntry (q : List LogEntry) (e : LogEntry) : List LogEntry := (placeBefore e q.reverse).reverse

/-- An entry arrives at the write queue: queued in its place, or folded into the LOG_GAP entry while the queue is
full and until it has room for two (R657). -/
def Device.logEntry (d : Device) (e : LogEntry) : Device :=
  match d.sed.gap with
  | none =>
    let q := placeEntry d.sed.wq e
    if d.sed.wq.length < logQueueCap then { d with sed.wq := q }
    else
      let e := q.getLastD e
      let d := { d with sed.wq := q.dropLast, sed.gap := some ⟨e.epoch, e.rt, 1, e.source, e.source⟩ }
      (d.bump F.SED_CNT2_GAP).orField F.SED_EVT_EVT 8
  | some g =>
    if d.sed.wq.length + 2 ≤ logQueueCap then
      { d with sed.wq := d.sed.wq ++ [g.entry, e], sed.gap := none }
    else
      let d := { d with sed.gap := some { g with folded := g.folded + 1, last := e.source } }
      (d.bump F.SED_CNT2_GAP).orField F.SED_EVT_EVT 8

/-- An occurrence is logged with the epoch and the ring time of now (R653, R654). -/
def Device.log (d : Device) (source sev detail : Nat) (data : List Byte := []) : Device :=
  d.logEntry
    { epoch := BitVec.ofNat 32 d.epoch, rt := d.clk.rt, source := source, sev := sev,
      detail := detail % 8192, data := data.take 11 }

/-! ### Event sources (R131, R141 to R143, R148) -/

/-- Is `n` a source that R131 lists? -/
def isSource (n : Nat) : Bool :=
  n ≤ 27 || (32 ≤ n && n ≤ 42) || (48 ≤ n && n ≤ 55) || (64 ≤ n && n ≤ 71) || (80 ≤ n && n ≤ 91) ||
    (96 ≤ n && n ≤ 104) || (112 ≤ n && n ≤ 127)

/-- The wake latch of a source (R131). -/
def wakeLatchOf (n : Nat) : Option Nat :=
  match n with
  | 2 => some 0 | 3 => some 1 | 4 => some 2 | 5 => some 3 | 15 => some 4 | 85 => some 5
  | 96 => some 6 | 112 => some 7 | 113 => some 8
  | _ => none

/-- The source a wake latch belongs to (R131). -/
def latchSource (k : Nat) : Nat :=
  match k with
  | 0 => 2 | 1 => 3 | 2 => 4 | 3 => 5 | 4 => 15 | 5 => 85 | 6 => 96 | 7 => 112
  | _ => 113

/-- Is a source in COUNTED mode? -/
def Device.counted (d : Device) (n : Nat) : Bool := d.get (F.EVC_SRC_n_MODE n) == 1

/-- The state of a source. -/
def Device.source (d : Device) (n : Fin 128) : EvSource := d.evc.src[n]

/-- Replaces the state of a source. -/
def Device.setSource (d : Device) (n : Fin 128) (e : EvSource) : Device :=
  { d with evc.src := d.evc.src.set n e }

/-- Adds a fire to the count of a COUNTED source; the overflow is marked and logged once (R143). -/
def Device.countFire (d : Device) (n : Fin 128) (e : EvSource) : Device :=
  if e.count < 255 then d.setSource n { e with count := e.count + 1 }
  else
    let d' := (d.setSource n { e with ovf := true }).orField F.EVC_STAT_OVFANY 1
    if e.ovf then d' else d'.log 134 0 n.val

/-- One fire of a source (R141 to R143), by hardware, by software (`sw`) or out of a wake latch
(`wake`). -/
def Device.fireNow (d : Device) (n : Fin 128) (sw wake : Bool) : Device :=
  let e := d.source n
  match e.st with
  | .idle => d.setSource n { e with st := .pending, count := 1, sw := sw, wake := wake }
  | .inService =>
    if d.counted n then
      if e.repend then d.countFire n { e with sw := e.sw || sw, wake := e.wake || wake }
      else d.setSource n { e with repend := true, count := 1, sw := sw, wake := wake }
    else (d.setSource n { e with lost := true }).orField F.EVC_STAT_LOSTANY 1
  | _ =>
    let e := { e with sw := e.sw || sw, wake := e.wake || wake }
    if d.counted n then d.countFire n e else d.setSource n e

/-- The wake latch that catches a source: while the CORE domain is stopped (R148), during an ICE entry (R211), and until
the last latch has been taken (R149). -/
def Device.latchArmed (d : Device) (n : Nat) : Bool :=
  !d.coreRuns || ((d.pwr.busy == .iceEntry || d.evc.taking) && (wakeLatchOf n).isSome)

/-- A hardware fire. Where the source's wake latch is armed it sets the latch; while the CORE domain is stopped, a source
without one is lost (R148). A reserved number never fires (R12), and 124 to 127 fire by software only (R132). -/
def Device.fire (d : Device) (n : Nat) : Device :=
  if !isSource n || 124 ≤ n then d
  else if !d.latchArmed n then
    if h : n < 128 then d.fireNow ⟨n, h⟩ false false else d
  else
    match wakeLatchOf n with
    | some k => d.orField F.EVC_WLATCH_LATCH (2 ^ k)
    | none => d

/-- A source whose occurrence is logged fires: the entry carries the source's class (R650, R654). -/
def Device.raise (d : Device) (n detail : Nat) (data : List Byte := []) : Device :=
  (d.fire n).log n (sourceSev n) detail data

/-! ### Rejected writes (R12, R17) -/

/-- A write is rejected: the address is recorded or counted, CFG_REJECT fires and the entry is
written (R17). -/
def Device.reject (d : Device) (a : Nat) : Device :=
  let d :=
    if d.get F.SYS_REJECT_ADDR_ADDR == 0 then d.put F.SYS_REJECT_ADDR_ADDR a
    else d.bump F.SYS_REJECT_CNT_COUNT
  (d.fire 0).log 0 0 0 (leBytes 4 a)

/-- A write to an unassigned address is ignored and reported (R12). -/
def Device.addrWarn (d : Device) : Device := d.fire 1

/-! ### Memories (R732, R733) -/

/-- The regions that the fixed map of R51 tells apart. -/
inductive Region where
  | bootRom | coreSram | streamLow | guardLines | inWindows | outWindow | blockDesc | sWindow
  | bank6Other | bank7 | nvs | periph | none
  deriving DecidableEq, Repr

/-- The region of an address (R51, R732, R733). -/
def regionOf (a : Nat) : Region :=
  if a < 0x10000 then .bootRom
  else if a < 0x10000000 then .none
  else if a < 0x10180000 then .coreSram
  else if a < 0x20000000 then .none
  else if a < 0x20060000 then .streamLow
  else if a < 0x20064000 then .guardLines
  else if a < 0x20064A80 then .inWindows
  else if a < 0x20064C00 then .bank6Other
  else if a < 0x20064D00 then .outWindow
  else if a < 0x20064D20 then .blockDesc
  else if a < 0x20065000 then .bank6Other
  else if a < 0x20065100 then .sWindow
  else if a < 0x20070000 then .bank6Other
  else if a < 0x20080000 then .bank7
  else if a < 0x30000000 then .none
  else if a < 0x30100000 then .nvs
  else if a < 0x40000000 then .none
  else if a < 0x40160000 then .periph
  else .none

/-- Is the address in a memory of SECDED words: core SRAM or stream SRAM (R58)? -/
def isSram (a : Nat) : Bool :=
  (0x10000000 ≤ a && a < 0x10180000) || (0x20000000 ≤ a && a < 0x20080000)

/-- What a byte of memory that nothing has written reads as: the SRAMs 0 (log entry 10), the NVS all
ones (R736), other addresses 0. -/
def memDefault (a : Nat) : Byte :=
  if 0x30000000 ≤ a ∧ a < 0x30100000 then 0xFF else 0

/-- One byte of memory. -/
def Device.byte (d : Device) (a : Nat) : Byte := Store.get memDefault d.mem a

/-- Writes one byte of memory. -/
def Device.setByte (d : Device) (a : Nat) (b : Byte) : Device :=
  { d with mem := Store.set memDefault d.mem a b }

/-- `n` bytes of memory. -/
def Device.bytes (d : Device) (a : Nat) : Nat → List Byte
  | 0 => []
  | n + 1 => d.byte a :: d.bytes (a + 1) n

/-- Writes bytes at consecutive addresses. -/
def Device.setBytes (d : Device) (a : Nat) : List Byte → Device
  | [] => d
  | b :: t => (d.setByte a b).setBytes (a + 1) t

/-- The word at a word address, little-endian, without the check code. -/
def Device.memWord (d : Device) (a : Nat) : Word := BitVec.ofNat 32 (ofLe (d.bytes a 4))

/-- Writes a word, little-endian. -/
def Device.setMemWord (d : Device) (a : Nat) (w : Word) : Device := d.setBytes a (leBytes 4 w.toNat)

/-- The word that holds an address. -/
def wordAddr (a : Nat) : Nat := a / 4 * 4

/-- The error of a memory word, if it is in error. -/
def Device.eccAt (d : Device) (a : Nat) : Option EccErr := d.ecc.lookup (wordAddr a)

/-- Removes the error of a word. -/
def Device.clearEcc (d : Device) (a : Nat) : Device :=
  { d with ecc := d.ecc.filter fun e => e.1 != wordAddr a }

/-- A full-word store: the word and its check bits, which clears an error (R59). -/
def Device.storeWord (d : Device) (a : Nat) (w : Word) : Device :=
  (d.setMemWord (wordAddr a) w).clearEcc a

/-- A block writes bytes to its buffer in core SRAM, whose words take new check bits; a buffer outside core SRAM receives
nothing. -/
def Device.bufferWrite (d : Device) (a : Nat) (bs : List Byte) : Device :=
  if 0x10000000 ≤ a ∧ a + bs.length ≤ 0x10180000 then
    { d.setBytes a bs with ecc := d.ecc.filter fun e => !(a ≤ e.1 && e.1 + 4 ≤ a + bs.length) }
  else d

/-- The offset of the 64-bit NVS word that holds an address of the read window (R685). -/
def nvsWord (a : Nat) : Nat := (a - 0x30000000) / 8 * 8

/-- The NVS word at an offset is in error: with one wrong bit, or beyond correction. -/
def Device.setNvsErr (d : Device) (o : Nat) (e : Option (Fin 72)) : Device :=
  let rest := d.nvs.ecc.filter fun x => x.1 != o
  { d with nvs.ecc := (o, e) :: rest }

/-- An upset strikes a memory word: one wrong bit, or more; a second upset of a word in error leaves it
uncorrectable. -/
def Device.strike (d : Device) (a : Nat) (u : Upset) : Device :=
  if isSram a then
    match u, d.eccAt a with
    | .none, _ | .nvsBit _, _ => d
    | .bit n, none => { d.clearEcc a with ecc := (wordAddr a, .bit n) :: (d.clearEcc a).ecc }
    | _, _ => { d.clearEcc a with ecc := (wordAddr a, .multi) :: (d.clearEcc a).ecc }
  else if 0x30000000 ≤ a ∧ a < 0x30100000 then
    match u, d.nvs.ecc.lookup (nvsWord a) with
    | .none, _ | .bit _, _ => d
    | .nvsBit n, none => d.setNvsErr (nvsWord a) (some n)
    | _, _ => d.setNvsErr (nvsWord a) none
  else d

/-- Ring time in edge periods, for comparisons of times. -/
def RingTime.ticks (t : RingTime) : Nat := t.frame.toNat * 8192 + t.sub.toNat

/-- The edge-clock periods of one second of ring time: 96,000 frames. -/
def ticksPerSecond : Nat := 96000 * 8192

end Sys2Proof.Machine
end

