-- ==== Sys2Proof/Machine/ClockHold.lean ====
section
/-! DEFINITION. Holdover of the PLL reference (R165, R178, R184): what an input group that unlocks and the clock block share. -/

namespace Sys2Proof.Machine

/-- The DPLL keeps TRIM within ±1000 ppm (R165). -/
def trimLimit : Int := 4294967

/-- A trim within its limits. -/
def clampTrim (t : Int) : Int := max (-trimLimit) (min trimLimit t)

/-- The mean of some trims, rounded half-even; none when there are none (R178). -/
def meanTrim (ts : List Int) : Option Int :=
  if ts.isEmpty then none else some (ratHalfEven ((ts.sum : Rat) / ts.length))

/-- PLL reference codes: 0 XTAL, 1 RING, 2 INPUT (R202). -/
def Device.refSel (d : Device) : Nat := d.get F.CLK_STAT_SEL

/-- CLK_STAT.MODE. -/
def Device.clkMode (d : Device) : Nat := d.get F.CLK_STAT_MODE

/-- Writes MODE. -/
def Device.setClkMode (d : Device) (m : Nat) : Device := d.put F.CLK_STAT_MODE m

/-- The DPLL runs: the dividers are released and the device is not in limp. -/
def Device.dpllRuns (d : Device) : Bool := d.linkRuns && !d.limp

/-- The group CLK_REF_CFG.INSRC names. -/
def Device.inputGroup (d : Device) : Fin 3 :=
  match d.get F.CLK_REF_CFG_INSRC with
  | 0 => 0
  | 1 => 1
  | _ => 2

/-- The device enters HOLDOVER or RING_HOLD (R178, R184): TRIM is frozen, at the mean of the good trims
when `mean`, CLK_REF_TOL is raised and logged with the source and the deviation. Where no gate end has found the source
in tolerance there is nothing to average, and TRIM stays where it is (DESIGN CHOICE, entry 34). -/
def Device.holdTrim (d : Device) (mode : Nat) (mean : Bool) : Device :=
  let src := d.refSel
  let good := if src == 1 then d.clk.goodTrims[0] else d.clk.goodTrims[1]
  let t := if mean then (meanTrim good).getD (d.geti F.CLK_TRIM_TRIM) else d.geti F.CLK_TRIM_TRIM
  let dev := (if src == 1 then d.word R.CLK_DEV_RING else d.word R.CLK_DEV_IN).toNat % 65536
  let d := (d.setClkMode mode).puti F.CLK_TRIM_TRIM t
  let d := d.puti F.CLK_HOLD_TRIM t
  let d := d.put F.CLK_STAT_DWELL_LEFT (if mode == 2 then d.get F.CLK_MON_CFG_DWELL else 0)
  let d := d.setFlag F.CLK_EVT_TOL true
  d.raise 7 src (leBytes 2 dev)

/-- The selected reference of a node that is not a locked ring slave is lost (R178, R191): a slew stops at
the trim it has reached, otherwise the mean of the good trims holds. -/
def Device.loseReference (d : Device) : Device :=
  if d.refSel == 0 || d.clkMode == 2 || !d.dpllRuns then d
  else d.holdTrim 2 (d.clkMode != 3)

/-- A group has unlocked: as the PLL reference it is lost with it (R178, R276). -/
def Device.inputLost (d : Device) (g : Fin 3) : Device :=
  if d.refSel == 2 && d.inputGroup == g && !d.clk.ringSlave then d.loseReference else d

end Sys2Proof.Machine
end

