-- ==== Sys2Proof/Machine/DiagRunOps.lean ====
section
/-! DEFINITION. How a diagnostic run ends, whoever ends it (R379 to R382, R390). -/

namespace Sys2Proof.Machine

/-- Is a result blocking (R379)? -/
def diagBlocking (cfg : Word) (result : Nat) : Bool :=
  result == 2 || result == 3 || result == 4 || (result == 5 && fieldOf cfg 0 1 == 1)

/-- Writes one channel's result registers (R377, R379); a run that measured no Rdc of the channel leaves DIAG_n_RDC.
`n` is the channel, 1 to 4. -/
def Device.diagWriteResult (d : Device) (n : Nat) (r : DiagResult) : Device :=
  let d := d.put (F.DIAG_n_PRE_RESULT n) r.result
  let d := d.put (F.DIAG_n_PRE_HB n) r.hb
  let d := d.setFlag (F.DIAG_n_PRE_RDC_VALID n) r.rdcValid
  match r.rdc with
  | none => d
  | some v => d.put (F.DIAG_n_RDC_RDC n) v

/-- The DATA of the run entry: results of channels 1 to 4, 4 bits each, and their Rdc in 10 mΩ,
saturating at 65,535 (R654). -/
def diagEntryData (rs : Vector DiagResult 4) : List Byte :=
  leBytes 2 (rs[0].result + 16 * rs[1].result + 256 * rs[2].result + 4096 * rs[3].result) ++
    (rs.toList.flatMap fun r => leBytes 2 (min (r.rdc.getD 0 / 10) 65535))

/-- The channels of a run whose result is neither PASS nor NOT_RUN, as a mask. -/
def diagFailMask (rs : Vector DiagResult 4) : Nat :=
  (rs.toList.zipIdx.map fun p => if p.1.result ≤ 1 then 0 else 2 ^ p.2).sum

/-- What a run does to the holds: a blocking result sets its channel's hold; a standalone pre-start run
that gives a tested channel another judged result clears it (R379, R381). A sweep result is never blocking (R386). -/
def Device.diagHolds (d : Device) (r : DiagRun) : Device :=
  let step := fun (d : Device) (p : DiagResult × Nat) =>
    if (r.mask / 2 ^ p.2) % 2 == 0 then d
    else if diagBlocking r.cfg p.1.result && !r.sweep then d.orField F.DIAG_HOLD_HOLD (2 ^ p.2)
    else if !r.sweep && !r.inEntry && (p.1.result == 1 || p.1.result == 5 || p.1.result == 6) then
      d.andNotField F.DIAG_HOLD_HOLD (2 ^ p.2)
    else d
  r.results.toList.zipIdx.foldl step d

/-- A run ends: holds, results, run entry, DIAG_DONE, and DIAG_FAULT when a channel failed (R382). -/
def Device.diagEnd (d : Device) (r : DiagRun) (aborted : Bool) : Device :=
  let d := (r.results.toList.zipIdx).foldl
    (fun d p => if (r.mask / 2 ^ p.2) % 2 == 1 then d.diagWriteResult (p.2 + 1) p.1 else d) d
  let d := d.diagHolds r
  let d := { d with diag.run := none, stage.drive := if d.isState 4 then .safe else .off }
  let d := d.put F.DIAG_STAT_RUN 0
  let fails := diagFailMask r.results
  let d := d.orField F.DIAG_EVT_FAIL fails
  let d := if aborted then d.setFlag F.DIAG_EVT_ABORTED true
    else if r.sweep then d.setFlag F.DIAG_EVT_SWEEP_DONE true
    else d.setFlag F.DIAG_EVT_PRE_DONE true
  let d := d.log 143 1 (if r.sweep then 1 else 0) (diagEntryData r.results)
  let d := d.fire 41
  if fails == 0 then d else d.raise 42 0

/-- Channels under test that have no result yet receive ABORTED (R390). -/
def DiagRun.abortUnjudged (r : DiagRun) : DiagRun :=
  { r with
    results := r.results.mapFinIdx fun i q _ =>
      if (r.mask / 2 ^ i) % 2 == 1 && q.result == 0 then { q with result := 7 } else q }

/-- The run in progress, if there is one, is aborted by the fault path, which has forced the gates (R390). -/
def Device.diagAbort (d : Device) : Device :=
  match d.diag.run with
  | none => d
  | some r => d.diagEnd r.abortUnjudged true

/-- The step by which an aborted run lets its test current or its sine go to zero; none where it has neither. -/
def DiagStep.falls : DiagStep → Option DiagStep
  | .c | .d | .e | .f => some .fall
  | .sineIn | .settle | .measure | .sineOut | .gatesOff => some .sineFall
  | _ => none

/-- Is a run already on its way to its end after an abort? -/
def DiagRun.falling (r : DiagRun) : Bool := r.step == .fall || r.step == .sineFall

/-- The run in progress, if there is one, is aborted by a request or by OP = ABORT (R390): a test current or a sine goes to zero
within 1 ms first, then the run ends. -/
def Device.diagStop (d : Device) : Device :=
  match d.diag.run with
  | none => d
  | some r =>
    if r.falling then d
    else
      match r.step.falls with
      | some s => { d with diag.run := some { r with step := s, blocks := 0 } }
      | none => d.diagEnd r.abortUnjudged true

end Sys2Proof.Machine
end

