-- ==== Sys2Proof/Machine/WeirPermit.lean ====
section
/-! DEFINITION. The Weir: the states of the tasks, the costs of their classes and their permits (R411, R414, R419). -/

namespace Sys2Proof.Machine

/-- The state of a task: 0 IDLE, 1 READY, 2 RUNNING. -/
def Device.taskState (d : Device) (t : Nat) : Nat := d.get (F.WEIR_STAT_t_STATE t)

/-- The cost of an energy class in A (R411). -/
def Device.energyCost (d : Device) (c : Nat) : Rat :=
  match c with
  | 0 => 0
  | 1 => (d.get F.RSV_ECLASS_E1 : Rat) / 100
  | 2 => (d.get F.RSV_ECLASS_E2 : Rat) / 100
  | _ => (d.get F.RSV_ECLASS_E3 : Rat) / 100

/-- The cost of a heat class in W (R411). -/
def Device.heatCost (d : Device) (c : Nat) : Rat :=
  match c with
  | 0 => 0
  | 1 => (d.get F.RSV_HCLASS_H1 : Rat) / 10
  | 2 => (d.get F.RSV_HCLASS_H2 : Rat) / 10
  | _ => (d.get F.RSV_HCLASS_H3 : Rat) / 10

/-- The energy cost of a task. -/
def Device.taskE (d : Device) (t : Nat) : Rat := d.energyCost (d.get (F.WEIR_DESC_t_ECLS t))

/-- The heat cost of a task. -/
def Device.taskH (d : Device) (t : Nat) : Rat := d.heatCost (d.get (F.WEIR_DESC_t_HCLS t))

/-- Is an energy class permitted with a free pool of `fe`? -/
def Device.energyOk (d : Device) (fe : Rat) (c : Nat) : Bool := c == 0 || decide (d.energyCost c ≤ fe)

/-- Is a heat class permitted with a free pool of `fh`? Class 3 needs coil headroom as well. -/
def Device.heatOk (d : Device) (fh : Rat) (c : Nat) : Bool :=
  c == 0 || (decide (d.heatCost c ≤ fh) && (c != 3 || d.rsv.coilOk))

/-- Are both classes of a task permitted with these free pools? -/
def Device.classesOk (d : Device) (fe fh : Rat) (t : Nat) : Bool :=
  d.energyOk fe (d.get (F.WEIR_DESC_t_ECLS t)) && d.heatOk fh (d.get (F.WEIR_DESC_t_HCLS t))

/-- Is a task permitted (R411)? The selected task is, while its costs are held. -/
def Device.permitted (d : Device) (t : Nat) : Bool :=
  (d.rsv.held && d.rsv.sel == some t) || d.classesOk d.rsv.fe d.rsv.fh t

/-- Does a core of a task's affinity hold no task? -/
def Device.coreFree (d : Device) (t : Nat) : Bool :=
  let aff := d.get (F.WEIR_DESC_t_AFF t)
  (aff.testBit 0 && !d.flag (F.WEIR_COREc_HELD 0)) || (aff.testBit 1 && !d.flag (F.WEIR_COREc_HELD 1))

/-- Is a task READY, permitted and wanted by an idle core (R419)? -/
def Device.taskWaits (d : Device) (t : Nat) : Bool :=
  d.taskState t == 1 && d.permitted t && d.coreFree t

end Sys2Proof.Machine
end

