-- ==== Sys2Proof/Machine/SafeOps.lean ====
section
/-! DEFINITION. Latching a fault and entering SAFE (R227, R228), the one operation every fault goes
through; semaphores (R60, R62), the return of a core's events (R158) and of its task (R431). -/

namespace Sys2Proof.Machine

/-! ### The main switch (R218) -/

/-- EN_MAIN and PCHG go low and MAIN becomes OPEN. -/
def Device.openMain (d : Device) : Device :=
  let d := { d with pwr.enMain := false, pwr.pchg := false, pwr.pre := .idle }
  d.put F.PWR_STAT_MAIN 0

/-- The faults that open the main switch whatever PWR_CTL.OPEN_ON_FAULT holds (R227): PRES_LOST,
BROWNOUT, PCHG_TIMEOUT and DRV_SUPPLY. -/
def openingMask : Nat := 0xF

/-- No fault of the EN_MAIN-opening set is latched (condition 3 of R218). -/
def Device.noOpeningFault (d : Device) : Bool :=
  let f := (d.word R.PWR_FAULT).toNat
  (f &&& openingMask) == 0 && !(d.flag F.PWR_CTL_OPEN_ON_FAULT && f != 0)

/-- Any bit of PWR_FAULT is set, summaries included. -/
def Device.anyFault (d : Device) : Bool := d.word R.PWR_FAULT != 0

/-! ### The power stage -/

/-- The stage is given another drive. -/
def Device.setDrive (d : Device) (m : Drive) : Device := { d with stage.drive := m }

/-- Clears the ALL_OFF forces of the fault path: the outputs leave their safe levels only this way. -/
def Device.releaseForces (d : Device) : Device :=
  { d with stage.half := d.stage.half.map fun h => { h with forced := false } }

/-- Forces both gates of the half-bridges that `sel` selects off (R308). -/
def Device.forceOff (d : Device) (sel : Nat → Bool) : Device :=
  { d with stage.half := d.stage.half.mapFinIdx fun i h _ =>
      if sel i then { h with forced := true } else h }

/-! ### Requests in progress -/

/-- The request in PWR_CMD_STAT completes (R209, R232). -/
def Device.finishRequest (d : Device) (result reason : Nat) : Device :=
  if d.get F.PWR_CMD_STAT_RESULT == 1 then
    (d.put F.PWR_CMD_STAT_RESULT result).put F.PWR_CMD_STAT_REASON reason
  else d

/-- The precharge of a CLOSE phase ends with its sequence (R225). -/
def Device.endClose (d : Device) : Device :=
  if d.playEntering && d.get F.PWR_STAT_PHASE == 5 then
    { d with pwr.pchg := false, pwr.pre := .idle }.put F.PWR_STAT_MAIN (if d.pwr.enMain then 2 else 0)
  else d

/-- What is in progress is given up, and the request that began it is refused with a reason; an ICE entry drives
EN_AUX3 high again. -/
def Device.abandon (d : Device) (reason : Nat) : Device :=
  let d := if d.pwr.busy == .none then d else d.finishRequest 3 reason
  let d := if d.pwr.busy == .iceEntry then
      { d with pwr.enAux := d.pwr.enAux.set 2 true, pwr.pgto3 := true }
    else d
  { d with pwr.busy := .none, pwr.gainPos := 0 }

/-! ### SAFE (R227) -/

/-- STATE becomes SAFE in a running state: every transition in progress ends, the outputs go to their
safe levels, override mode ends (R313), and the SAFE entry is written. -/
def Device.enterSafe (d : Device) (reason : Nat) : Device :=
  let d := d.abandon reason
  let d := d.put F.PWR_STAT_STATE 4
  let d := d.put F.PWR_STAT_PHASE 0
  let d := d.setFlag F.MOD_OVERRIDE_EN false
  let d := d.setDrive .safe
  let marked : Vector (Option Flight) 2 := d.txn.flight.map (Option.map Flight.markSafe)
  let d := { d with txn.flight := marked }
  d.log 129 4 (d.get F.PWR_FAULT_FIRST_BIT)

/-- The main switch opens for the faults of R227; a precharge that a MAIN_CLOSE request began ends with a refusal. -/
def Device.faultOpensMain (d : Device) (bit : Nat) : Device :=
  if bit < 4 || d.flag F.PWR_CTL_OPEN_ON_FAULT then
    let waits := d.pwr.pre != .idle && d.pwr.pre != .closing && d.get F.PWR_CMD_STAT_REQ == 8
    let d := d.openMain
    if waits then d.finishRequest 3 3 else d
  else d

/-- A bit of PWR_FAULT latches (R227): recorded first, logged by `entry` (the fault's own entry), then
SAFE in a running state, then the abort of a diagnostic run. Outside the running states the safe levels are forced and
the bit stays latched without the SAFE entry. -/
def Device.latchFault (d : Device) (bit : Nat) (entry : Device → Device) : Device :=
  if (d.word R.PWR_FAULT).toNat.testBit bit then entry d
  else
    let wasSafe := d.isState 4 && d.running
    let wasRunning := d.running
    let d := d.setWord R.PWR_FAULT (d.word R.PWR_FAULT ||| BitVec.ofNat 32 (2 ^ bit))
    let d := if wasSafe then d else d.put F.PWR_FAULT_FIRST_BIT bit
    let d := entry d
    let d := d.faultOpensMain bit
    let why := if bit == 0 then 4 else 3
    if wasRunning && !wasSafe then (d.enterSafe why).diagAbort
    else if d.playEntering then (((d.endClose.abandon why).put F.PWR_STAT_PHASE 0).setDrive .safe).diagAbort
    else if wasRunning then d.diagAbort
    else (d.setDrive .safe).diagAbort

/-- A fault whose entry has SOURCE PWR_FAULT (R654). A bit that is set already does not latch again; a further loss of
presence or of lock and a further halt of a core have their entry all the same (R50, R196, R222). -/
def Device.powerFault (d : Device) (bit : Nat) (data : List Byte := []) : Device :=
  let again := bit == 0 || bit == 4 || bit == 5 || bit == 6
  if (d.word R.PWR_FAULT).toNat.testBit bit && !again then d
  else d.latchFault bit fun d => d.log 131 4 bit data

/-- The device reaches a running state: with a fault latched it enters SAFE there in place of READY
(R227). -/
def Device.reachReady (d : Device) : Device :=
  let d := { d with
    pwr.seq := .up, stage.rail := none, stage.vbus := none, stage.tail := .replicate 4 []
    stage.guardOut := .replicate 4 [] }
  let d := d.put F.PWR_STAT_STATE 2
  let d := d.put F.PWR_STAT_PHASE 0
  let d := d.put F.PWR_SEQ_STAT_TRIES 0
  let d := d.setDrive .off
  if d.anyFault then d.enterSafe 3 else d

/-- A system fault bit latches (R652). -/
def Device.systemFault (d : Device) (bit : Nat) : Device :=
  if (d.word R.SED_SYSFAULT).toNat.testBit bit then d
  else
    let d := d.setWord R.SED_SYSFAULT (d.word R.SED_SYSFAULT ||| BitVec.ofNat 32 (2 ^ bit))
    d.latchFault 10 fun d => d.log 155 4 bit

/-! ### Memory errors (R58, R59, R652) -/

/-- An uncorrectable error is reported: ECC_UNCORR with the address, and ECC_BURST when the entries of
the last second reach SED_CFG.ECCMAX. -/
def Device.eccUncorr (d : Device) (a : Nat) : Device :=
  let d := d.raise 13 0 (leBytes 4 a)
  let now := d.clk.rt.ticks
  let recent := now :: d.sed.eccTimes.filter fun t => t ≤ now && now - t < ticksPerSecond
  let d := { d with sed.eccTimes := recent.take 256 }
  if d.get F.SED_CFG_ECCMAX ≤ recent.length then d.systemFault 1 else d

/-- A correctable error is reported with the address and the bit, and the word is written back. -/
def Device.eccCorr (d : Device) (a : Nat) (bit : Nat) : Device :=
  (d.clearEcc a).raise 12 0 (leBytes 4 (wordAddr a) ++ leBytes 1 bit)

/-- Reads one memory word for a master: corrected when that is possible, otherwise none. -/
def Device.readChecked (d : Device) (a : Nat) : Option Word × Device :=
  match d.eccAt a with
  | none => (some (d.memWord (wordAddr a)), d)
  | some (.bit n) => (some (d.memWord (wordAddr a)), d.eccCorr a n.val)
  | some .multi => (none, d.eccUncorr (wordAddr a))

/-- Reads the words from `a` on for a block of the device; the bytes of a word beyond correction are free values. True
says that no word was. -/
def Device.readRun (d : Device) (a : Nat) : Nat → List Byte × Bool × Device
  | 0 => ([], true, d)
  | n + 1 =>
    match d.readChecked a with
    | (some w, d) =>
      let r := d.readRun (a + 4) n
      (leBytes 4 w.toNat ++ r.1, r.2)
    | (none, d) =>
      let r := { d with freshN := d.freshN + 1 }.readRun (a + 4) n
      (leBytes 4 (Config.freeWord d.freshN).toNat ++ r.1, false, r.2.2)

/-- Reads `n` bytes from a word address on for a block of the device (R58, R59). -/
def Device.readBuffer (d : Device) (a n : Nat) : List Byte × Bool × Device :=
  let r := d.readRun a ((n + 3) / 4)
  (r.1.take n, r.2)

/-! ### Semaphores (R60 to R62) -/

/-- The token of a semaphore operation (R60). -/
def Device.semToken (d : Device) (n : Nat) (done : Bool) : Word :=
  d.word (R.SEM_n n) ||| (if done then 0x80000000 else 0)

/-- A semaphore is broken: freed, its generation advanced, counted and logged. `breaker` is 0 for C0,
1 for C1 and 2 for hardware (R654). -/
def Device.semBreak (d : Device) (n breaker : Nat) : Device :=
  let owner := d.get (F.SEM_n_OWNER n)
  let gen := d.get (F.SEM_n_GEN n)
  let d := d.put (F.SEM_n_OWNER n) 0
  let d := d.put (F.SEM_n_GEN n) ((gen + 1) % 65536)
  let d := if h : n < 32 then { d with semWon := d.semWon.set n none } else d
  let d := d.bump F.SEM_BRKCNT_COUNT
  d.log 132 1 n (leBytes 1 owner ++ leBytes 2 gen ++ leBytes 1 breaker)

/-- Every semaphore of a halted core or a faulted S is broken, in ascending number (R62). -/
def Device.semBreakAll (d : Device) (c : CoreId) : Device :=
  (List.range 32).foldl
    (fun d n => if d.get (F.SEM_n_OWNER n) == c.owner then d.semBreak n 2 else d) d

/-! ### Events of a core that stops (R158) -/

/-- A source DELIVERED to target `x` returns to PENDING with its marks kept (R151). -/
def EvSource.withdrawFrom (e : EvSource) (x : Fin 4) : EvSource :=
  if e.st == .delivered && e.target == x then { e with st := .pending } else e

/-- Completes a source in service: PENDING when a re-fire waits behind it, else IDLE (R139). -/
def EvSource.complete (e : EvSource) : EvSource :=
  if e.repend then { e with st := .pending, repend := false }
  else { e with st := .idle, count := 0 }

/-- The sources delivered to a target return to PENDING; those in service there are completed, each
with its entry (R158). -/
def Device.returnEvents (d : Device) (c : CoreId) : Device :=
  let x : Fin 4 := if c == .c0 then 0 else 1
  let step := fun (d : Device) (n : Fin 128) =>
    let e := d.source n
    if e.st == .inService && e.target == x then
      (d.setSource n e.complete).log 135 0 n.val (leBytes 1 c.num)
    else d.setSource n (e.withdrawFrom x)
  (List.finRange 128).foldl step d

/-! ### Tasks of a core that stops (R431) -/

/-- A task enters READY: its effective priority and wait restart and its record is taken (R415,
R417). -/
def Device.taskReady (d : Device) (t : Nat) : Device :=
  let d := d.put (F.WEIR_STAT_t_STATE t) 1
  let d := d.put (F.WEIR_STAT_t_REPEND t) 0
  let d := d.put (F.WEIR_STAT_t_EPRIO t) (d.get (F.WEIR_DESC_t_PRIO t))
  let d := d.put (F.WEIR_STAT_t_WAIT t) 0
  let d := d.setFlag (F.WEIR_STAT_t_STARVED t) false
  { d with
    weirRecord := (t, d.linkCycle) :: d.weirRecord.filter (fun r => r.1 != t)
    weirAge := d.weirAge.filter (fun r => r.1 != t) }

/-- A task returns to IDLE; its effective priority returns to PRIO (R417). -/
def Device.taskIdle (d : Device) (t : Nat) : Device :=
  let d := d.put (F.WEIR_STAT_t_STATE t) 0
  let d := d.put (F.WEIR_STAT_t_REPEND t) 0
  let d := d.put (F.WEIR_STAT_t_EPRIO t) (d.get (F.WEIR_DESC_t_PRIO t))
  let d := d.setFlag (F.WEIR_STAT_t_STARVED t) false
  { d with
    weirRecord := d.weirRecord.filter (fun r => r.1 != t)
    weirAge := d.weirAge.filter (fun r => r.1 != t) }

/-- The task a core holds becomes READY or IDLE, is marked abandoned and logged (R431). A task READY again is
announced as any other (R419). -/
def Device.abandonTask (d : Device) (c : CoreId) : Device :=
  let w := c.weir
  if d.flag (F.WEIR_COREc_HELD w) then
    let t := d.get (F.WEIR_COREc_TASK w)
    let again := d.flag (F.WEIR_STAT_t_REPEND t)
    let d := d.setFlag (F.WEIR_COREc_HELD w) false
    let d := if again then d.taskReady t else d.taskIdle t
    let d := d.orField (F.WEIR_ABANDONi_TASKS (t / 32)) (2 ^ (t % 32))
    let d := d.log 144 1 t (leBytes 1 c.num)
    if again && d.taskWaits t then d.fire 68 else d
  else d

end Sys2Proof.Machine
end

