-- ==== Sys2Proof/Machine/CoreOps.lean ====
section
/-! DEFINITION. Taking an exception on C0 or C1 (R46, R48, R50), the stream fault of S (R67), and what a
core may do next. -/

namespace Sys2Proof.Machine

/-- A state register field of a core (R87). -/
def Device.cget (d : Device) (c : CoreId) (f : Fld) : Nat := (d.core c).st.get f

/-- Writes a state register field of a core. -/
def Device.cput (d : Device) (c : CoreId) (f : Fld) (v : Nat) : Device :=
  d.setCore c { d.core c with st := (d.core c).st.put f v }

/-- Sets the program counter of a core. -/
def Device.setPc (d : Device) (c : CoreId) (a : Word) : Device :=
  d.setCore c { d.core c with pc := a }

/-- The core goes on with the next instruction. -/
def Device.advance (d : Device) (c : CoreId) : Device := d.setPc c ((d.core c).pc + 4)

/-- Sets what a control core is doing. -/
def Device.setRun (d : Device) (c : CoreId) (r : CoreRun) : Device :=
  d.setCore c { d.core c with run := r }

/-- Is the core executing: S while ST_SSTATE is RUNNING and no debug halt stops its domain, a control core while it
runs? The CORE and STREAM domains must run. -/
def Device.executing (d : Device) (c : CoreId) : Bool :=
  d.coreRuns &&
    match c with
    | .s => d.cget .s F.ST_SSTATE_STATE == 1 && !d.stage.frozen
    | _ => (d.core c).run == .running

/-- What stops an instruction: the causes of R48 and R67 with the address they carry. -/
inductive CoreFault where
  | undef | priv | trap
  | align (a : Word) (store : Bool)
  | fetchDenied (a : Word)
  | loadDenied (a : Word)
  | storeDenied (a : Word)
  | busError (a : Word) (store : Bool)
  | eccData (a : Word) (store : Bool)
  | eccFetch (a : Word)
  deriving DecidableEq, Repr

/-- The cause code on C0 and C1 (R48). -/
def CoreFault.code : CoreFault → Nat
  | .undef => 1
  | .priv => 2
  | .align _ _ => 3
  | .fetchDenied _ => 4
  | .loadDenied _ => 5
  | .storeDenied _ => 6
  | .busError _ _ => 7
  | .eccData _ _ => 8
  | .eccFetch _ => 9
  | .trap => 10

/-- The stream fault cause on S (R67): every denied or absent address is ADDRESS. -/
def CoreFault.streamCode : CoreFault → Nat
  | .undef => 1
  | .priv => 2
  | .align _ _ => 3
  | .fetchDenied _ | .loadDenied _ | .storeDenied _ | .busError _ _ => 4
  | .eccData _ _ => 5
  | .eccFetch _ => 6
  | .trap => 7

/-- The address ST_EVAL or ST_SFADDR receives: zero for causes that carry none (R46). -/
def CoreFault.addr : CoreFault → Word
  | .undef | .priv | .trap => 0
  | .align a _ | .fetchDenied a | .loadDenied a | .storeDenied a | .busError a _ | .eccData a _
  | .eccFetch a => a

/-- ST_CAUSE.STORE: the faulting access was a store. -/
def CoreFault.isStore : CoreFault → Bool
  | .storeDenied _ => true
  | .align _ st | .busError _ st | .eccData _ st => st
  | _ => false

/-- Steps 1 to 3 of R46: ST_EPC, ST_CAUSE and ST_EVAL describe the exception. -/
def Device.recordException (d : Device) (c : CoreId) (code : Nat) (store : Bool) (eval epc : Word) :
    Device :=
  let d := d.cput c F.ST_EPC_EPC (epc.toNat / 4)
  let d := d.cput c F.ST_CAUSE_CODE code
  let d := d.cput c F.ST_CAUSE_STORE store.toNat
  d.cput c F.ST_EVAL_EVAL eval.toNat

/-- The core halts under R50: the fault CORE_HALT with its entry and SAFE, then the breaks of its
semaphores, the return of its events and the loss of its task (R62, R158, R431). -/
def Device.haltCore (d : Device) (c : CoreId) : Device :=
  let d := d.setRun c .halted
  let d := d.powerFault (4 + c.weir)
    (leBytes 1 (d.cget c F.ST_CAUSE_CODE) ++ leBytes 4 (d.cget c F.ST_EPC_EPC * 4) ++
      leBytes 4 (d.cget c F.ST_EVAL_EVAL))
  ((d.semBreakAll c).returnEvents c).abandonTask c

/-- Taking an exception on C0 or C1 (R46). With ST_STATUS.EXL = 1 the core halts instead (R50). -/
def Device.takeException (d : Device) (c : CoreId) (code : Nat) (store : Bool) (eval epc : Word) :
    Device :=
  let exl := d.cget c F.ST_STATUS_EXL
  let d := d.recordException c code store eval epc
  if exl == 1 then d.haltCore c
  else
    let d := d.cput c F.ST_STATUS_PIE (d.cget c F.ST_STATUS_IE)
    let d := d.cput c F.ST_STATUS_PPRIV (d.cget c F.ST_STATUS_PRIV)
    let d := d.cput c F.ST_STATUS_IE 0
    let d := d.cput c F.ST_STATUS_PRIV 1
    let d := d.cput c F.ST_STATUS_EXL 1
    d.setPc c (BitVec.ofNat 32 (d.cget c F.ST_VECBASE_BASE * 1024 + 64 * code))

/-- The return from an exception (R47). -/
def Device.returnException (d : Device) (c : CoreId) : Device :=
  let d := d.setPc c (BitVec.ofNat 32 (d.cget c F.ST_EPC_EPC * 4))
  let d := d.cput c F.ST_STATUS_IE (d.cget c F.ST_STATUS_PIE)
  let d := d.cput c F.ST_STATUS_PRIV (d.cget c F.ST_STATUS_PPRIV)
  d.cput c F.ST_STATUS_EXL 0

/-- A stream fault (R67): S stops at the instruction, the cause is recorded and counted, STREAM_FAULT is
raised and logged, and the semaphores of S are broken (R62). -/
def Device.streamFault (d : Device) (code : Nat) (pc addr : Word) : Device :=
  let d := d.cput .s F.ST_SFLT_CAUSE code
  let d := d.cput .s F.ST_SFPC_PC pc.toNat
  let d := d.cput .s F.ST_SFADDR_ADDR addr.toNat
  let d := d.cput .s F.ST_FLTCNT_COUNT (min (d.cget .s F.ST_FLTCNT_COUNT + 1) 255)
  let d := d.cput .s F.ST_SSTATE_STATE 3
  let d := { d with stream.muted := true, stream.resume := true, stream.overrun := false }
  let d := d.raise 50 0 (leBytes 1 code ++ leBytes 4 pc.toNat ++ leBytes 4 addr.toNat)
  d.semBreakAll .s

/-- The deadline of a block in STREAM cycles (R64). -/
def deadline : Nat := 32704

/-- The deadline falls without BLKEND (R65, R66): S stops, the overrun is counted and reported, and the one that reaches
the limit becomes a stream fault. -/
def Device.streamOverrun (d : Device) : Device :=
  if d.executing .s then
    let d := d.cput .s F.ST_BLKCYC_CYCLE (max deadline (d.cget .s F.ST_BLKCYC_CYCLE))
    let d := d.cput .s F.ST_OVRCNT_COUNT (min 65535 (d.cget .s F.ST_OVRCNT_COUNT + 1))
    let run := min 255 (d.cget .s F.ST_OVRCNT_CONSEC + 1)
    let d := (d.cput .s F.ST_OVRCNT_CONSEC run).cput .s F.ST_SSTATE_STATE 2
    let d := { d with stream.overrun := true, stream.resume := true }.raise 49 0
    let limit := d.cget .s F.ST_SCTL_OVR_LIMIT
    if limit != 0 && limit ≤ run then d.streamFault 8 d.sc.pc 0 else d
  else d

/-- The deadline of the block of S has come: it counts before whatever the instruction in flight would do (R65, R76). -/
def Device.atDeadline (d : Device) (c : CoreId) : Bool := c == .s && deadline ≤ d.cget .s F.ST_BLKCYC_CYCLE

/-- An instruction meets a cause and is not retired: an exception on C0 and C1, a stream fault on S. For
TRAP, ST_EPC receives the address of the next instruction (R46). -/
def Device.coreFault (d : Device) (c : CoreId) (f : CoreFault) : Device :=
  let pc := (d.core c).pc
  match c with
  | .s => d.streamFault f.streamCode pc f.addr
  | _ => d.takeException c f.code f.isStore f.addr (if f == .trap then pc + 4 else pc)

/-! ### Events at a core (R137) -/

/-- The event line of a control core: at least one source is DELIVERED to it. -/
def Device.eventLine (d : Device) (c : CoreId) : Bool :=
  let x : Fin 4 := if c == .c0 then 0 else 1
  c.isControl && d.evc.src.toList.any fun e => e.st == .delivered && e.target == x

/-- An event is due at the core: its line is asserted and ST_STATUS.IE = 1 (R49, R137). -/
def Device.eventDue (d : Device) (c : CoreId) : Bool :=
  d.eventLine c && d.cget c F.ST_STATUS_IE == 1

/-- The core takes EVENT before its next instruction (R46, R49). -/
def Device.takeEvent (d : Device) (c : CoreId) : Device :=
  (d.setRun c .running).takeException c 0x0B false 0 (d.core c).pc

/-! ### General registers -/

/-- Reads a general register; w0 reads zero. -/
def Core.reg (k : Core) (r : WReg) : Word := if r = 0 then 0 else k.w[r]

/-- Writes a general register; a write to w0 is discarded (R94). -/
def Core.setReg (k : Core) (r : WReg) (v : Word) : Core :=
  if r = 0 then k else { k with w := k.w.set r v }

/-- Reads a general register of a core. -/
def Device.reg (d : Device) (c : CoreId) (r : WReg) : Word := (d.core c).reg r

/-- Writes a general register of a core. -/
def Device.setReg (d : Device) (c : CoreId) (r : WReg) (v : Word) : Device :=
  d.setCore c ((d.core c).setReg r v)

/-- Reads an accumulator of a core. -/
def Device.acc (d : Device) (c : CoreId) (a : AReg) : Acc := (d.core c).acc[a]

/-- Writes an accumulator of a core. -/
def Device.setAcc (d : Device) (c : CoreId) (a : AReg) (v : Acc) : Device :=
  d.setCore c { d.core c with acc := (d.core c).acc.set a v }

/-- Reads a vector register of a core. -/
def Device.qreg (d : Device) (c : CoreId) (q : QReg) : QWord := (d.core c).q[q]

/-- Writes a vector register of a core. -/
def Device.setQ (d : Device) (c : CoreId) (q : QReg) (v : QWord) : Device :=
  d.setCore c { d.core c with q := (d.core c).q.set q v }

/-- Marks a saturation in the sticky ST_STATUS.SAT when `sat` (R104, R129). -/
def Device.markSat (d : Device) (c : CoreId) (sat : Bool) : Device :=
  if sat then d.cput c F.ST_STATUS_SAT 1 else d

end Sys2Proof.Machine
end

