-- ==== Sys2Proof/Machine/InputOps.lean ====
section
/-! DEFINITION. The input groups, the receiver, the lanes and the filter engine (R244 to R285, R802). -/

namespace Sys2Proof.Machine

/-! ### Groups -/

/-- The state of a group. -/
def Device.group (d : Device) (g : Fin 3) : InGroup := d.inp.group[g]

/-- Replaces the state of a group. -/
def Device.setGroup (d : Device) (g : Fin 3) (x : InGroup) : Device :=
  { d with inp.group := d.inp.group.set g x }

/-- The output sample of the block in progress: the frame count modulo 16 (R170). -/
def Device.sampleNow (d : Device) : Nat := d.clk.rt.frame.toNat % 16

/-- Marks an occurrence at the output sample of now. -/
def Device.mark (d : Device) (g : Fin 3) (m : FlowMark) : Device :=
  d.setGroup g { d.group g with marks := (d.group g).marks ++ [(d.sampleNow, m)] }

/-- Is a group locked? -/
def Device.locked (d : Device) (g : Fin 3) : Bool := (d.get F.INP_STAT_LOCK).testBit g.val

/-- Is a group settled (R259)? -/
def Device.settled (d : Device) (g : Fin 3) : Bool := (d.get F.INP_STAT_SETTLED).testBit g.val

/-- Is a group's port or receiver enabled? -/
def Device.groupEnabled (d : Device) (g : Fin 3) : Bool :=
  if g = 2 then d.flag F.INP_IEC_CFG_EN else d.flag (F.INP_PORTp_CFG_EN g.val)

/-- Is a group a port in master mode? -/
def Device.groupMaster (d : Device) (g : Fin 3) : Bool :=
  g != 2 && d.flag (F.INP_PORTp_CFG_MASTER g.val)

/-- The RATE field of a group. -/
def rateField (g : Fin 3) : Fld :=
  if g = 0 then F.INP_STAT_RATE0 else if g = 1 then F.INP_STAT_RATE1 else F.INP_STAT_RATE2

/-- The WHY field of a group. -/
def whyField (g : Fin 3) : Fld :=
  if g = 0 then F.INP_UNLOCK_WHY_WHY0 else if g = 1 then F.INP_UNLOCK_WHY_WHY1
  else F.INP_UNLOCK_WHY_WHY2

/-- The width of a slot in BCLK periods (INP_PORTp_CFG.WIDTH). -/
def slotWidth (code : Nat) : Nat := if code = 0 then 16 else if code = 1 then 24 else 32

/-- The configured frame length of a port in BCLK periods. -/
def Device.frameLen (d : Device) (p : Nat) : Nat :=
  (d.get (F.INP_PORTp_CFG_SLOTS p) + 1) * slotWidth (d.get (F.INP_PORTp_CFG_WIDTH p))

/-- The word of a slot: the first received bit at bit 31, zeros below (R245). -/
def slotWord (width : Nat) (raw : Word) : Word := raw <<< (32 - width)

/-- FS starts a frame by falling: slot 0 of I²S, and a TDM frame with FSINV = 1; every other frame starts with FS rising
(R244, R245). -/
def Device.startsLow (d : Device) (p : Nat) : Bool :=
  d.get (F.INP_PORTp_CFG_FORMAT p) == 0 || d.flag (F.INP_PORTp_CFG_FSINV p)

/-- The data come one BCLK after the FS edge: I²S and TDM with a delay (R244). -/
def Device.dataLate (d : Device) (p : Nat) : Bool :=
  d.get (F.INP_PORTp_CFG_FORMAT p) == 0 || d.get (F.INP_PORTp_CFG_FORMAT p) == 2

/-- The word of a slot's bits, the first at the most significant place. -/
def bitsWord (bs : List Bool) : Word := bs.foldl (fun w b => w <<< 1 ||| (if b then 1 else 0)) 0

/-- The slots of a frame's data bits (R245). -/
def Device.frameSlots (d : Device) (p : Nat) (bs : List Bool) : List Word :=
  let w := slotWidth (d.get (F.INP_PORTp_CFG_WIDTH p))
  (List.range (d.get (F.INP_PORTp_CFG_SLOTS p) + 1)).map fun i => slotWord w (bitsWord ((bs.drop (i * w)).take w))

/-- A frame of a port has ended with its data bits (R245, R247). -/
def Device.frameEnds (d : Device) (p : Fin 2) (g : Fin 3) (bs : List Bool) : Device :=
  let x := d.group g
  if bs.length == d.frameLen p then
    d.setGroup g { x with good := x.good + 1, bad := 0, frame := d.frameSlots p bs }
  else d.setGroup g { x with good := 0, bad := x.bad + 1 }

/-- One sampling edge of BCLK with the levels of FS and SD (R245): an FS edge that starts a frame ends the frame before. -/
def Device.bclkEdge (d : Device) (p : Fin 2) (g : Fin 3) (fs sd : Bool) : Device :=
  let x := d.group g
  if fs != x.fsLast && fs != d.startsLow p then
    let d := match x.bits with
      | some bs => d.frameEnds p g (if d.dataLate p then bs.drop 1 ++ [sd] else bs)
      | none => d
    d.setGroup g { d.group g with bits := some [sd], fsLast := fs }
  else d.setGroup g { x with bits := x.bits.map fun bs => bs ++ [sd], fsLast := fs }

/-- The BCLK periods of a frame reach a port: FS and SD as they stand at the rising and at the falling edges, of which EDGE
names those that count (R244). -/
def Device.i2sFrame (d : Device) (p : Fin 2) (rise fall : List (Bool × Bool)) : Device :=
  let g : Fin 3 := ⟨p.val, by omega⟩
  if !(d.groupEnabled g && d.running && !d.limp) then d
  else
    (if d.flag (F.INP_PORTp_CFG_EDGE p.val) then fall else rise).foldl (fun d b => d.bclkEdge p g b.1 b.2) d

/-- The rate codes that classify a group (R257): group 2 takes only the rates of R248. -/
def rateAllowed (g : Fin 3) (code : Nat) : Bool :=
  if g = 2 then code ∈ [7, 8, 9, 11, 12, 14, 15] else 1 ≤ code && code ≤ 15

/-- The nominal rate of a code in Hz (R257). -/
def rateHz (code : Nat) : Nat :=
  [0, 8000, 11025, 12000, 16000, 22050, 24000, 32000, 44100, 48000, 64000, 88200, 96000, 128000,
    176400, 192000].getD code 0

/-- The code of a measured frame rate in Hz: that of the nominal rate within 0.5 % of it, 0 where there is none (R257). -/
def classify (g : Fin 3) (hz : Rat) : Nat :=
  let near := fun (n : Rat) => if n ≤ hz then hz - n ≤ hz / 200 else n - hz ≤ hz / 200
  ((List.range 16).find? fun c => rateAllowed g c && near (rateHz c : Rat)).getD 0

/-- The rate code of a master rate (INP_PORTp_CFG.MRATE). -/
def masterRate (mrate : Nat) : Nat := [1, 4, 6, 7, 9, 12, 15].getD mrate 0

/-- A port drives BCLK and FS: in master mode while EN = 1, in the running states outside limp, where there is no PLL output
to divide (R246, R787). -/
def Device.portDrives (d : Device) (p : Fin 2) : Bool :=
  d.flag (F.INP_PORTp_CFG_EN p.val) && d.flag (F.INP_PORTp_CFG_MASTER p.val) && d.running && !d.limp

/-- The integer by which a port in master mode divides the PLL output ÷ 64 to its BCLK (R246). -/
def Device.bclkDivider (d : Device) (p : Fin 2) : Nat :=
  24576000 / (rateHz (masterRate (d.get (F.INP_PORTp_CFG_MRATE p.val))) * d.frameLen p.val)

/-- The level of the FS that a port drives in BCLK period `n` of a frame (R246): as the format states it for the slots of I²S
and left-justified frames, and about the start of a TDM frame; none where the format leaves the width of the pulse open. -/
def Device.fsOut (d : Device) (p : Fin 2) (n : Nat) : Option Bool :=
  let active := !d.startsLow p.val
  let len := d.frameLen p.val
  if d.get (F.INP_PORTp_CFG_FORMAT p.val) ≤ 1 then some (if n < len / 2 then active else !active)
  else if n == 0 then some active
  else if n + 1 == len then some !active
  else none

/-- The group delay D of R261 in output samples. -/
def ircDelay (code : Nat) : Rat :=
  let fs : Rat := (rateHz code : Rat) / 1000
  if fs ≤ 96 then 4 + 576 / fs else 8 + 192 / fs

/-- Is any mute condition of R251 met? -/
def Device.iecMuteDue (d : Device) : Bool :=
  d.flag F.INP_IEC_STAT_PRO || d.flag F.INP_IEC_STAT_NONAUDIO || d.flag F.INP_IEC_STAT_VMUTE

/-- The receiver mutes from the output sample of now on (R251): MUTED follows at the end of the ramp. -/
def Device.iecMute (d : Device) : Device :=
  if d.iecMuteDue && !d.flag F.INP_IEC_STAT_MUTED && d.inp.iec.muteLeft.isNone && d.locked 2 then
    { d with inp.iec.muteLeft := some 16 }.mark 2 .mute
  else d

/-- Some output samples pass: a mute ramp ends after 16 (R251). -/
def Device.mutePasses (d : Device) (n : Nat) : Device :=
  match d.inp.iec.muteLeft with
  | none => d
  | some k =>
    if k ≤ n then { d with inp.iec.muteLeft := none }.setFlag F.INP_IEC_STAT_MUTED true
    else { d with inp.iec.muteLeft := some (k - n) }

/-- The receiver starts anew at a lock: the captured bits are zero (R250), and a validity mute that still holds acts
(R251). -/
def Device.iecStart (d : Device) : Device :=
  let d := (d.setFlag F.INP_IEC_STAT_PRO false).setFlag F.INP_IEC_STAT_NONAUDIO false
  (d.setFlag F.INP_IEC_STAT_MUTED false).iecMute

/-- A group locks at a rate (R247, R271). The entry names the group (R274; DEDUCED, entry 42). -/
def Device.lockGroup (d : Device) (g : Fin 3) (code : Nat) : Device :=
  let d := d.orField F.INP_STAT_LOCK (2 ^ g.val)
  let d := d.put (rateField g) code
  let d := d.orField F.INP_EVT_LOCK (2 ^ g.val)
  let d := d.setGroup g { d.group g with since := 0, phaseRun := 0 }
  let d := if g = 2 then
      (List.range 6).foldl (fun d i => (d.put (F.INP_CS_A_i_BITS i) 0).put (F.INP_CS_B_i_BITS i) 0)
        { d with inp.iec.blockNew := none, inp.iec.blockOld := none }
    else d
  let d := d.mark g .lock
  let d := if g = 2 then d.iecStart else d
  (d.fire 51).log 51 0 g.val

/-- A group unlocks with a reason (R247, R263, R271): its lanes ramp from the output sample of now on. -/
def Device.unlockGroup (d : Device) (g : Fin 3) (why : Nat) : Device :=
  if !d.locked g then d
  else
    let d := d.andNotField F.INP_STAT_LOCK (2 ^ g.val)
    let d := d.andNotField F.INP_STAT_SETTLED (2 ^ g.val)
    let d := d.put (rateField g) 0
    let d := d.put (whyField g) why
    let d := d.orField F.INP_EVT_UNL (2 ^ g.val)
    let d := d.setGroup g { d.group g with good := 0, bad := 0, since := 0, phaseRun := 0 }
    let d := if g = 2 then
        { d with inp.iec.gather := none, inp.iec.blockNew := none, inp.iec.blockOld := none
                 inp.iec.parityRun := 0, inp.iec.muteLeft := none }
      else d
    ((d.mark g .unlock).raise 52 g.val (leBytes 1 why)).inputLost g

/-- The configuration of a group changes: it unlocks with reason DISABLED, and its frames are counted anew (R247). -/
def Device.groupChanged (d : Device) (g : Fin 3) : Device :=
  let d := d.unlockGroup g 6
  d.setGroup g { d.group g with good := 0, bad := 0, bits := none }

/-- Every group unlocks with reason DISABLED (R270, R283), and none has frames behind it. -/
def Device.unlockAll (d : Device) : Device := (List.finRange 3).foldl Device.groupChanged d

/-- BCLK at a rate is at most 24.576 MHz (R244). -/
def Device.bclkFits (d : Device) (g : Fin 3) (code : Nat) : Bool :=
  g = 2 || rateHz code * d.frameLen g.val ≤ 24576000

/-- The lock condition of a slave group or of the receiver (R244, R247): 64 good frames at a classified rate. -/
def Device.canLock (d : Device) (g : Fin 3) (hz : Rat) : Bool :=
  d.running && !d.limp && !d.locked g && d.groupEnabled g && !d.groupMaster g &&
    64 ≤ (d.group g).good && classify g hz != 0 && d.bclkFits g (classify g hz)

/-- A ratio in units of 2^-32 from the nominal ratio lies beyond ±0.5 % (R258). -/
def ratioBeyond (rel : Int) : Bool := 2 ^ 32 < 200 * rel.natAbs

/-- The unlock conditions of R247; the absence of a clock and the ratio just measured (`rel`) come with the command. -/
def Device.unlockHolds (d : Device) (g : Fin 3) (why : Nat) (rel : Int) : Bool :=
  match why with
  | 1 => !d.groupMaster g
  | 2 => g != 2 && !d.groupMaster g && 2 ≤ (d.group g).bad
  | 3 => !d.groupMaster g && ratioBeyond rel
  | 4 => g = 2 && 3 ≤ (d.group g).bad
  | 5 => g = 2 && 8 ≤ d.inp.iec.parityRun
  | 6 => !d.groupEnabled g
  | _ => false

/-- A group slips (R280): the lanes ramp, the count rises, the group settles anew. -/
def Device.slipGroup (d : Device) (g : Fin 3) : Device :=
  if !d.locked g then d
  else
    let f : Fld := ⟨R.INP_SLIPCNT, 8 * g.val, 8⟩
    let d := d.bump f
    let d := d.orField F.INP_EVT_SLIP (2 ^ g.val)
    let d := d.andNotField F.INP_STAT_SETTLED (2 ^ g.val)
    let d := d.setGroup g { d.group g with since := 0, phaseRun := 0 }
    (d.mark g .slip).log 138 2 g.val (leBytes 1 (d.get f))

/-- The instant of now is a block boundary (R170). -/
def Device.atBoundary (d : Device) : Bool :=
  d.cget .s F.ST_BLKCYC_CYCLE == 0 && d.clk.rt.sub == 0 && d.clk.rt.frame.toNat % 16 == 0

/-- The settle conditions of R259, at a block boundary. -/
def Device.canSettle (d : Device) (g : Fin 3) : Bool :=
  d.atBoundary && d.locked g && !d.settled g && decide (2 * ircDelay (d.get (rateField g)) ≤ ((d.group g).since : Rat)) &&
    16 ≤ (d.group g).phaseRun

/-- A group settles at a block boundary (R259, R260): its lanes leave zero and the ratio is its
reference. -/
def Device.settleGroup (d : Device) (g : Fin 3) : Device :=
  let d := d.orField F.INP_STAT_SETTLED (2 ^ g.val)
  let x := d.group g
  (d.setGroup g { x with refDev := d.geti (F.INP_RATIO_g_DEV g.val)
                         flow := { x.flow with held := false, settled := true } }).fire 53

/-! ### The IEC 60958 receiver -/

/-- A full block of channel status bits moves up (R250). -/
def Iec.shiftBlock (x : Iec) (z : Bool) : Iec :=
  if z then
    let full := match x.gather with
      | some v => if v[0].length == 192 && v[1].length == 192 then some v else none
      | none => none
    match full with
    | some v => { x with blockOld := x.blockNew, blockNew := some v, gather := some (.replicate 2 []) }
    | none => { x with gather := some (.replicate 2 []), blockNew := none }
  else x

/-- A channel status bit is gathered. -/
def Iec.addBit (x : Iec) (ch : Fin 2) (b : Bool) : Iec :=
  match x.gather with
  | some v => { x with gather := some (v.set ch (v[ch] ++ [b])) }
  | none => x

/-- One subframe (R249 to R251). `ch` is 0 for subframe A; `z` marks the Z preamble. A wrong preamble or a
coding error spoils its frame; a parity error repeats the last good word. -/
def Device.iecSubframe (d : Device) (ch : Fin 2) (word : BitVec 24) (parityOk codeOk valid cs z : Bool) :
    Device :=
  if !(d.groupEnabled 2 && d.running) then d
  else
    let x : Iec := if ch = 0 then d.inp.iec.shiftBlock z else d.inp.iec
    let x : Iec := x.addBit ch cs
    let w : Word := if parityOk then word ++ (0 : BitVec 8) else x.lastGood[ch]
    let vNow := if ch = 0 then valid else x.vFrame || valid
    let codeBad := if ch = 0 then !codeOk else x.codeBad || !codeOk
    let frameEnd : Bool := ch = 1
    let x : Iec := { x with
      lastGood := x.lastGood.set ch w
      parityRun := if parityOk then 0 else x.parityRun + 1
      vFrame := vNow
      codeBad := codeBad
      vRun := if !frameEnd then x.vRun else if vNow then x.vRun + 1 else 0
      vClean := if !frameEnd then x.vClean else if vNow then 0 else x.vClean + 1 }
    let d := { d with inp.iec := x }
    let d := if parityOk then d else d.bump F.INP_IEC_STAT_PARITY
    let g := d.group 2
    let d := if !frameEnd then d.setGroup 2 { g with frame := [w] }
      else if codeBad then
        d.setGroup 2 { g with frame := g.frame.take 1 ++ [w], good := 0, bad := g.bad + 1 }
      else d.setGroup 2 { g with frame := g.frame.take 1 ++ [w], good := g.good + 1, bad := 0 }
    let d := if d.get F.INP_IEC_CFG_VFRAMES ≤ x.vRun then d.setFlag F.INP_IEC_STAT_VMUTE true
      else if 192 ≤ x.vClean then d.setFlag F.INP_IEC_STAT_VMUTE false else d
    d.iecMute

/-- The channel status word `i` of 192 gathered bits. -/
def csWord (bits : List Bool) (i : Nat) : Nat :=
  ((List.range 32).map fun j => if bits.getD (32 * i + j) false then 2 ^ j else 0).sum

/-- Two identical blocks are captured (R250), and a mute condition they bring acts (R251). -/
def Device.csCapture (d : Device) : Device :=
  match d.inp.iec.blockNew, d.inp.iec.blockOld with
  | some v, some u =>
    let same := (List.range 6).all fun i =>
      d.get (F.INP_CS_A_i_BITS i) == csWord v[0] i && d.get (F.INP_CS_B_i_BITS i) == csWord v[1] i
    if u != v || !d.locked 2 || same then d
    else
      let d := (List.range 6).foldl
        (fun d i => (d.put (F.INP_CS_A_i_BITS i) (csWord v[0] i)).put (F.INP_CS_B_i_BITS i)
          (csWord v[1] i)) d
      let d := d.setFlag F.INP_EVT_CS_NEW true
      let d := d.setFlag F.INP_IEC_STAT_PRO (v[0].getD 0 false)
      let d := d.setFlag F.INP_IEC_STAT_NONAUDIO (v[0].getD 1 false)
      d.iecMute
  | _, _ => d

/-- The receiver unmutes (R251): PCM status and 192 frames without a validity bit. -/
def Device.iecUnmute (d : Device) : Device :=
  if d.flag F.INP_IEC_STAT_MUTED && !d.flag F.INP_IEC_STAT_PRO && !d.flag F.INP_IEC_STAT_NONAUDIO &&
      192 ≤ d.inp.iec.vClean then
    ((d.setFlag F.INP_IEC_STAT_MUTED false).setFlag F.INP_IEC_STAT_VMUTE false).mark 2 .unmute
  else d

/-! ### The lanes of the input window (R252, R253, R263) -/

/-- A window word (R70). -/
def windowWord (sample : Int) (valid unsettled mute : Bool) (epoch : Nat) : Word :=
  BitVec.ofInt 24 sample ++ BitVec.ofBool valid ++ BitVec.ofBool unsettled ++ BitVec.ofBool mute ++
    BitVec.ofNat 5 epoch

/-- A 32-bit result as Q1.23, rounded half-even and clamped (R262, R267). -/
def toQ23 (w : Word) : Int := clamp 24 (roundBits .halfEven w.toInt 8)

/-- A mark takes effect on a group's output. -/
def GroupFlow.apply (f : GroupFlow) (m : FlowMark) : GroupFlow :=
  match m with
  | .lock => { f with locked := true, muted := false }
  | .unlock =>
    { f with locked := false, settled := false, held := true, ramp := 0
             muted := f.muted && 16 ≤ f.muteRamp, muteRamp := 16 }
  | .slip => { f with settled := false, held := true, ramp := 0 }
  | .mute => { f with muted := true, muteRamp := 0, unmuteRamp := 16 }
  | .unmute => { f with muted := false, unmuteRamp := 0 }

/-- The output passes one sample. -/
def GroupFlow.advance (f : GroupFlow) : GroupFlow :=
  { f with ramp := min 16 (f.ramp + 1), muteRamp := min 16 (f.muteRamp + 1)
           unmuteRamp := min 16 (f.unmuteRamp + 1) }

/-- The flows of a group at the 16 output samples of a block, and the flow after it. -/
def GroupFlow.run (marks : List (Nat × FlowMark)) : Nat → Nat → GroupFlow → List GroupFlow × GroupFlow
  | 0, _, f => ([], f)
  | n + 1, k, f =>
    let f := (marks.filter fun m => m.1 == k).foldl (fun f m => f.apply m.2) f
    let r := GroupFlow.run marks n (k + 1) f.advance
    (f :: r.1, r.2)

/-- The output of a lane: the sample it gave last, and the one from which its last ramp began (R263). -/
structure LaneOut where
  last : Int
  rampFrom : Int
  deriving DecidableEq, Repr

/-- The receiver's MUTE flag at a sample (R251, R253): once the mute ramp is over. -/
def GroupFlow.muteFlag (f : GroupFlow) : Bool := f.muted && 16 ≤ f.muteRamp

/-- A sample `k` of a ramp to zero that begins from the lane's last output (R263). -/
def LaneOut.ramp (o : LaneOut) (k : Nat) : LaneOut :=
  let y := if k = 0 then o.last else o.rampFrom
  ⟨divHalfEven (y * (15 - k)) 16, y⟩

/-- One output sample of a lane, and whether it is VALID (R251, R253, R263); `x` is the resampler's output. -/
def laneSample (f : GroupFlow) (o : LaneOut) (x : Int) : LaneOut × Bool :=
  if f.ramp < 16 then (o.ramp f.ramp, false)
  else if f.held || !f.locked then (⟨0, 0⟩, false)
  else if f.muted then (if f.muteRamp < 16 then o.ramp f.muteRamp else ⟨0, 0⟩, false)
  else if f.unmuteRamp < 16 then (⟨divHalfEven (x * (f.unmuteRamp + 1)) 16, 0⟩, true)
  else (⟨x, 0⟩, true)

/-- The window words of a lane fed by a group, and its last output. -/
def laneSamples (epoch : Nat) : List GroupFlow → List Int → LaneOut → List Word × LaneOut
  | f :: fs, x :: xs, o =>
    let s := laneSample f o x
    let r := laneSamples epoch fs xs s.1
    (windowWord s.1.last s.2 (!f.settled) f.muteFlag epoch :: r.1, r.2)
  | _, _, o => ([], o)

/-- A Tarn word while the node has no ring lock: VALID reads 0 (R253). -/
def tarnInvalid (w : Word) : Word := w &&& ~~~(0x80 : Word)

/-- The group an SRC code names. -/
def srcGroup (src : Nat) : Option (Fin 3) :=
  match src with
  | 1 => some 0 | 2 => some 1 | 3 => some 2
  | _ => none

/-- Does a group carry a slot (R252)? -/
def Device.slotExists (d : Device) (g : Fin 3) (slot : Nat) : Bool :=
  if g = 2 then slot ≤ 1 else slot ≤ d.get (F.INP_PORTp_CFG_SLOTS g.val)

/-- The words lane `n` puts into the input window for the block that ends, and its last output. `irc` are
the resampler's 32-bit results, `tarn` the words of a Tarn lane. A lane of a group that is not served, or whose slot the
port does not have, holds zero with VALID = 0 and the other flags of its group (R252, R253, R256). A lane without a source
holds zero with VALID = 0; R70 and R253 give it no other flag, and the model puts the epoch in force, UNSETTLED = 0 and
MUTE = 0 there (DESIGN CHOICE, entry 41). -/
def Device.laneWords (d : Device) (flows : Vector (List GroupFlow) 3) (n : Fin 32) (irc : List Word)
    (tarn : List Word) : List Word × LaneOut :=
  let src := d.get (F.INP_LANE_n_SRC n)
  let slot := d.get (F.INP_LANE_n_SLOT n)
  match srcGroup src with
  | some g =>
    if d.inp.unserved[n] || !d.slotExists g slot then
      (flows[g].map fun f => windowWord 0 false (!f.settled) f.muteFlag d.epoch, ⟨0, 0⟩)
    else laneSamples d.epoch flows[g] (irc.map toQ23) ⟨d.inp.hold[n], d.inp.rampFrom[n]⟩
  | none =>
    if src == 4 then (if d.flag F.TRN_STAT_LOCK then tarn else tarn.map tarnInvalid, ⟨0, 0⟩)
    else (List.replicate 16 (windowWord 0 false false false d.epoch), ⟨0, 0⟩)

/-- The lane units a lane costs (R256): 0 unless it names a locked group. -/
def Device.laneCost (d : Device) (n : Nat) : Nat :=
  match srcGroup (d.get (F.INP_LANE_n_SRC n)) with
  | some g => if d.locked g then (if 96000 < rateHz (d.get (rateField g)) then 2 else 1) else 0
  | none => 0

/-- The lanes R256 serves: in ascending number until the next would exceed 32 units. -/
def serveLanes (cost : Nat → Nat) : Nat → Nat → Nat → Bool → List Bool
  | 0, _, _, _ => []
  | k + 1, n, used, full =>
    if full || 32 < used + cost n then (cost n != 0) :: serveLanes cost k (n + 1) used true
    else false :: serveLanes cost k (n + 1) (used + cost n) false

/-- The load of the converter is judged at a block boundary (R256, R275). -/
def Device.ircLoad (d : Device) : Device :=
  let out := serveLanes d.laneCost 32 0 0 false
  let lost := out.count true
  let was := d.flag F.INP_STAT_OVERLOAD
  let d := { d with inp.unserved := Vector.ofFn fun i : Fin 32 => out.getD i.val false }
  let d := d.setFlag F.INP_STAT_OVERLOAD (lost != 0)
  if lost != 0 && !was then (d.setFlag F.INP_EVT_OVERLOAD true).log 139 2 0 (leBytes 1 lost) else d

/-- Writes a window lane into stream SRAM (R70). -/
def Device.writeLane (d : Device) (base i : Nat) (ws : List Word) : Device :=
  (ws.take 16).zipIdx.foldl (fun d p => d.storeWord (base + 64 * i + 4 * p.2) p.1) d

/-- The output samples of the block that ends since the group locked or recentred in it (R259). -/
def samplesSince (marks : List (Nat × FlowMark)) : Nat :=
  match (marks.filter fun m => m.2 == .lock || m.2 == .slip).getLast? with
  | some m => 16 - m.1
  | none => 16

/-- The input lanes of the block that ends reach the input window where it swaps (R63); the marks of the block are
used up. -/
def Device.gatherLanes (d : Device) (swap : Bool) (irc : Vector (Vector Word 16) 32) (tarn : Fin 32 → List Word) :
    Device :=
  let runs := Vector.ofFn fun g : Fin 3 => GroupFlow.run (d.group g).marks 16 0 (d.group g).flow
  let flows := runs.map fun r => r.1
  let rows := Vector.ofFn fun n : Fin 32 => d.laneWords flows n irc[n].toList (tarn n)
  let d := if swap then (List.finRange 32).foldl (fun d n => d.writeLane 0x20064000 n.val rows[n].1) d else d
  let d := { d with inp.hold := rows.map fun r => r.2.last, inp.rampFrom := rows.map fun r => r.2.rampFrom }
  (List.finRange 3).foldl
    (fun d g => d.setGroup g { d.group g with
      flow := runs[g].2, marks := [], since := (d.group g).since + samplesSince (d.group g).marks }) d

/-- Bit i of the descriptor's word 0x10: all 16 samples of input lane i are VALID (R71). -/
def Device.validMask (d : Device) : Nat :=
  ((List.range 32).map fun i =>
    if (List.range 16).all fun k => (d.memWord (0x20064000 + 64 * i + 4 * k)).getLsbD 7 then 2 ^ i
    else 0).sum

/-! ### The filter engine -/

/-- The sense path runs: a running state outside limp (R270). -/
def Device.senseRuns (d : Device) : Bool := d.running && !d.limp

/-- The sense modulators start or stop at a block boundary (R270). -/
def Device.senseBoundary (d : Device) : Device :=
  if d.senseRuns then { d with inp.senseOn := true }
  else
    let d := { d with
      inp.senseOn := false, inp.stages := .replicate 10 0, inp.fed := .replicate 10 0
      inp.unset := .replicate 10 0xFFFF }
    (d.put F.FEN_STAT_SETTLED 0).setFlag F.FEN_STAT_ALL false

/-- The length in taps of stage `j` (from 0) of a lane whose stages 1 to 4 are FAST or SHARP (R265). -/
def stageTaps (fast : Bool) (j : Fin 7) : Nat :=
  (if fast then #[3, 3, 3, 3, 23, 39, 79] else #[7, 7, 11, 15, 23, 39, 79]).getD j.val 0

/-- The profile of a lane's stages 1 to 4 (R265). -/
def Device.laneFast (d : Device) (n : Nat) : Bool := d.flag (F.FEN_LANE_n_PROF n)

/-- The edge-clock periods between the input samples of stage `j`: 64 of the modulators, doubled by each stage (R264,
R265). -/
def stageStep (j : Nat) : Nat := 64 * 2 ^ j

/-- The delay from a lane's sampling instant to the output of stage `j`, in edge-clock periods (R265): half the length of
each linear-phase stage on the way, its middle tap left out. -/
def stageDelay (fast : Bool) (j : Fin 7) : Nat :=
  ((List.finRange 7).map fun i => if i ≤ j then (stageTaps fast i - 1) / 2 * stageStep i.val else 0).sum

/-- The slot of the stagger in which a lane samples, tenths of a modulator period after slot 0 (R264). -/
def senseSlot (n : Fin 10) : Nat := #[0, 2, 4, 6, 1, 3, 5, 7, 8, 9].getD n.val 0

/-- The ring-time instant, in edge-clock periods, of the lane's input that an output of stage `j` produced at `t` represents
(R265). -/
def Device.senseInstant (d : Device) (n : Fin 10) (j : Fin 7) (t : Rat) : Rat :=
  t - stageDelay (d.laneFast n.val) j + 64 * (senseSlot n : Rat) / 10

/-- The samples of a block from the output sample `k` on. -/
def samplesFrom (k : Nat) : BitVec 16 := (0xFFFF : BitVec 16) <<< k

/-- What stage `j` of a lane needs to settle: as many input samples as it has taps (R268), in edge-clock periods. -/
def Device.settleNeed (d : Device) (n : Fin 10) (j : Fin 7) : Nat := stageTaps (d.laneFast n.val) j * stageStep j.val

/-- Stage `j` of a sense lane settles (R268): its input is settled and it has consumed its taps. Stage 7
carries UNSETTLED = 0 from the output sample of now on. -/
def Device.laneSettled (d : Device) (n : Fin 10) (j : Fin 7) : Device :=
  let got := d.inp.stages[n]
  let need := d.settleNeed n j
  if !d.inp.senseOn || got.testBit j.val || (j.val != 0 && !got.testBit (j.val - 1)) || d.inp.fed[n] < need then d
  else
    let d := { d with
      inp.stages := d.inp.stages.set n (got ||| 2 ^ j.val), inp.fed := d.inp.fed.set n (d.inp.fed[n] - need) }
    if j.val == 6 then
      { d with inp.unset := d.inp.unset.set n (d.inp.unset[n] &&& ~~~samplesFrom d.sampleNow) }.orField
        F.FEN_STAT_SETTLED (2 ^ n.val)
    else d

/-- Some edge-clock periods pass for the sense lanes (R268). -/
def Device.senseFeeds (d : Device) (t : Nat) : Device :=
  if d.inp.senseOn then { d with inp.fed := d.inp.fed.map fun x => x + t } else d

/-- Ring time goes on to `t`: the samples and the periods between pass for the inputs (R251, R268). -/
def Device.inputsReach (d : Device) (t : RingTime) : Device :=
  (d.mutePasses (t.frame - d.clk.rt.frame).toNat).senseFeeds (t.packed - d.clk.rt.packed).toNat

/-- A sense lane restarts its settling from a stage on (R281): from the output sample of now on it is unsettled. -/
def Device.laneRestart (d : Device) (n : Fin 10) (j : Fin 7) : Device :=
  let d := { d with
    inp.stages := d.inp.stages.set n (d.inp.stages[n] % 2 ^ j.val), inp.fed := d.inp.fed.set n 0
    inp.unset := d.inp.unset.set n (d.inp.unset[n] ||| samplesFrom d.sampleNow) }
  (d.andNotField F.FEN_STAT_SETTLED (2 ^ n.val)).setFlag F.FEN_STAT_ALL false

/-- Whether every sense lane is settled is judged at a block boundary (R268). -/
def Device.settleAll (d : Device) : Device :=
  if d.get F.FEN_STAT_SETTLED == 1023 && !d.flag F.FEN_STAT_ALL then
    ((d.setFlag F.FEN_STAT_ALL true).setFlag F.FEN_EVT_SETTLED true).fire 54
  else d

/-- The sense lanes of the block that ends reach the sense window where it swaps (R63, R253, R267). -/
def Device.gatherSense (d : Device) (swap : Bool) (sense : Vector (Vector Word 16) 10) : Device :=
  let e := d.epoch
  if !swap then d
  else
    (List.finRange 10).foldl
      (fun d n =>
        d.writeLane 0x20064800 n.val
          (if d.senseRuns && d.inp.senseOn then
            sense[n].toList.zipIdx.map fun p =>
              windowWord (toQ23 p.1) true (d.inp.unset[n].getLsbD p.2) false e
          else List.replicate 16 (windowWord 0 false true false e))) d

/-- The unsettled samples of the sense lanes are counted anew for the block that begins. -/
def Device.senseNext (d : Device) : Device :=
  { d with inp.unset := Vector.ofFn fun n : Fin 10 =>
      if (d.get F.FEN_STAT_SETTLED).testBit n.val then 0 else 0xFFFF }

/-- A sample after the left shift of its stage, and whether the shift saturated it (R266). -/
def stageShift (s : Nat) (w : Word) : Word × Bool :=
  let y := w.toInt * 2 ^ s
  (BitVec.ofInt 32 (clamp 32 y), clamp 32 y != y)

/-- The left shift after stage `j` (from 0) of a lane. -/
def Device.shiftOf (d : Device) (n j : Nat) : Nat := d.get ⟨R.FEN_LANE_n n, 4 * (j + 1), 3⟩

/-- A shift saturates `k` samples after stage `j` of a lane (R266). -/
def Device.countSat (d : Device) (n j k : Nat) : Device :=
  if k = 0 then d
  else
    let d := d.bump (F.FEN_SAT_n_COUNT n) k
    (d.orField (F.FEN_SAT_n_STAGES n) (2 ^ j)).orField F.FEN_SATMASK_LANES (2 ^ n)

/-- The saturated samples of a block are counted and reported (R266). `early` are samples of stages 1 to 6 before their
shift, each with its lane and stage (from 0); `last` are those of stage 7. -/
def Device.saturations (d : Device) (early : List (Fin 10 × Fin 6 × Word)) (last : Vector (Vector Word 16) 10) : Device :=
  if !(d.senseRuns && d.inp.senseOn) then d
  else
    let hits := early.filter fun t => (stageShift (d.shiftOf t.1.val t.2.1.val) t.2.2).2
    let ends := fun (n : Fin 10) => last[n].toList.countP fun w => (stageShift (d.shiftOf n.val 6) w).2
    let d' := hits.foldl (fun d t => d.countSat t.1.val t.2.1.val 1) d
    let d' := (List.finRange 10).foldl (fun e n => e.countSat n.val 6 (ends n)) d'
    if hits.isEmpty && (List.finRange 10).all (fun n => ends n == 0) then d'
    else (d'.setFlag F.FEN_EVT_SAT true).fire 55

/-- The 96 kHz outputs of the sense lanes in a block: those of stage 7 after its shift (R266, R267). -/
def Device.senseOuts (d : Device) (last : Vector (Vector Word 16) 10) : Vector (Vector Word 16) 10 :=
  Vector.ofFn fun n : Fin 10 => last[n].map fun w => (stageShift (d.shiftOf n.val 6) w).1

/-- The deviation of a ratio in 0.001 ppm (R258). -/
def ratioDev (rel : Int) : Int := ratHalfEven ((rel : Rat) * 1000000000 / 2 ^ 32)

/-- The converter's view of a group at a block boundary (R258 to R260): its ratio, held as the deviation `rel` in units of
2^-32 of the nominal ratio, whether its phase error is below half an input sample, and the events of R260. A slave group
whose ratio lies beyond ±0.5 % unlocks with reason RATE. -/
def Device.ircGroup (d : Device) (g : Fin 3) (rel : Int) (small : Bool) : Device :=
  if !d.locked g then d
  else
    let x := d.group g
    let d := d.setGroup g { x with ratio := rel, phaseRun := if small then x.phaseRun + 1 else 0 }
    if d.unlockHolds g 3 rel then d.unlockGroup g 3
    else
      let dev := ratioDev rel
      let d := d.puti (F.INP_RATIO_g_DEV g.val) dev
      let lim : Int := d.get F.INP_IRC_CFG_RCHG * 1000
      if d.settled g && lim ≤ (dev - x.refDev).natAbs then
        let d := d.setGroup g { d.group g with refDev := dev }
        (d.fire 53).log 53 0 g.val (leBytes 4 (BitVec.ofInt 32 dev).toNat)
      else d

/-- The converter at a block boundary. -/
def Device.ircBoundary (d : Device) (rel : Vector Int 3) (small : Vector Bool 3) : Device :=
  (List.finRange 3).foldl (fun d g => d.ircGroup g rel[g] small[g]) d

/-- A group in master mode locks at the first block boundary after EN = 1 in a running state (R247). -/
def Device.lockMasters (d : Device) : Device :=
  (List.finRange 3).foldl
    (fun d g =>
      if d.running && !d.limp && d.groupEnabled g && d.groupMaster g && !d.locked g then
        d.lockGroup g (masterRate (d.get (F.INP_PORTp_CFG_MRATE g.val)))
      else d) d

/-! ### Scales (R266, R755, R802) -/

/-- The sum of the shifts of a sense lane. -/
def Device.shiftSum (d : Device) (n : Nat) : Nat :=
  d.get (F.FEN_LANE_n_SHIFT_S1 n) + d.get (F.FEN_LANE_n_SHIFT_S2 n) + d.get (F.FEN_LANE_n_SHIFT_S3 n) +
    d.get (F.FEN_LANE_n_SHIFT_S4 n) + d.get (F.FEN_LANE_n_SHIFT_S5 n) +
    d.get (F.FEN_LANE_n_SHIFT_S6 n) + d.get (F.FEN_LANE_n_SHIFT_S7 n)

/-- A sense sample in volts at the pins. -/
def Device.senseVolts (d : Device) (n : Nat) (w : Word) : Rat :=
  let full : Rat := if n < 4 ∨ n = 8 then 160 else 160 / 1000
  (w.toInt : Rat) / 2 ^ 31 * full / 2 ^ (d.shiftSum n)

/-- A current sample in amperes (R802). -/
def Device.senseAmps (d : Device) (n : Nat) (w : Word) : Rat :=
  let rsh := if n = 9 then d.get F.FEN_RSH_STK_RSH else d.get (F.FEN_RSH_n_RSH n)
  d.senseVolts n w / ((rsh : Rat) / 1000000)

/-- The stack lanes' samples of the block that ends are kept (R400, R494). -/
def Device.keepSense (d : Device) (sense : Vector (Vector Word 16) 10) : Device :=
  if d.senseRuns && d.inp.senseOn then
    let v8 : Vector (Option Rat) 16 := .ofFn fun k =>
      if d.inp.unset[8].getLsbD k then none else some (d.senseVolts 8 sense[8][k])
    let i9 : Vector (Option Rat) 16 := .ofFn fun k =>
      if d.inp.unset[8].getLsbD k || d.inp.unset[9].getLsbD k then none else some (d.senseAmps 9 sense[9][k])
    { d with inp.past := ⟨d.clk.rt.ticks, v8, i9⟩ :: d.inp.past }
  else d

/-- The stage 7 outputs of stack lane `n` that are kept, each with the ring-time instant it represents (R265): output `k` of a
block leaves the stage `16 − k` frames before the block's end. -/
def Device.sensePoints (d : Device) (n : Fin 10) : List (Rat × Option Rat) :=
  d.inp.past.flatMap fun b =>
    let xs := if n == 8 then b.volts else b.amps
    xs.toList.zipIdx.map fun p => (d.senseInstant n 6 ((b.endsAt : Rat) - (16 - (p.2 : Rat)) * 8192), p.1)

/-- The value whose instant is nearest `ts`, the later of two equally near. -/
def nearest (ts : Rat) : List (Rat × Option Rat) → Option Rat
  | [] => none
  | p :: ps =>
    (ps.foldl (fun best q => if decide (absRat (q.1 - ts) < absRat (best.1 - ts)) then q else best) p).2

/-- The stage 7 output of stack lane `n` that represents the instant nearest `ts` (R400, R494), none where it was not
settled. -/
def Device.senseNearest (d : Device) (n : Fin 10) (ts : Nat) : Option Rat := nearest ts (d.sensePoints n)

end Sys2Proof.Machine
end

