-- ==== Sys2Proof/Machine/ModOps.lean ====
section
/-! DEFINITION. The modulator (R288 to R305): rail factor, shaper, edge placement, dither, minimum pulse,
quiet window and refresh. All arithmetic is exact. -/

namespace Sys2Proof.Machine

/-! ### Modes, channels and half-bridges -/

/-- PBTL2 is in force. -/
def Device.pbtl2 (d : Device) : Bool := d.stage.modeLive.getLsbD 8

/-- The carrier code in force. -/
def Device.carrier (d : Device) : Nat := fieldOf d.stage.modeLive 0 2

/-- The carrier period in counts (R289). -/
def carrierPeriod (code : Nat) : Nat := 2048 / 2 ^ code

/-- The output channels: 4 in BTL4 and 2 in PBTL2. -/
def Device.outputs (d : Device) : Nat := if d.pbtl2 then 2 else 4

/-- The channel (from 0) of a half-bridge (R288). -/
def Device.channelOf (d : Device) (x : Nat) : Nat := if d.pbtl2 then x / 4 else x / 2

/-- A half-bridge is on the positive side of its channel (R288). -/
def positiveSide (x : Nat) : Bool := x % 2 == 0

/-- The channel (from 0) whose output a current comparator belongs to (R306). -/
def Device.comparatorChannel (d : Device) (n : Nat) : Nat := if d.pbtl2 then n / 2 else n

/-! ### Shadowed values (R305) -/

/-- The registers of R305. -/
def shadowRegs : List Nat :=
  [R.MOD_DEADTIME, R.MOD_MINPULSE, R.MOD_BLANK, R.MOD_REFRESH, R.MOD_REFRESH_W, R.MOD_QUIET, R.MOD_RFF,
    R.MOD_RFF_VREF, R.MOD_SAFE, R.MOD_NS_Ak 1, R.MOD_NS_Ak 2, R.MOD_NS_Ak 3, R.MOD_NS_Ak 4,
    R.MOD_NS_Ak 5, R.MOD_NS_G] ++ (List.range 8).map R.GDV_DRV_x

/-- The shadowed registers as they read now. -/
def Device.shadowNow (d : Device) : RegMap := d.regs.filter fun e => shadowRegs.contains e.1

/-- A field of a shadowed register as it acts now. -/
def Device.acting (d : Device) (f : Fld) : Nat := d.stage.shadow.get f

/-- A signed field of a shadowed register as it acts now. -/
def Device.actingI (d : Device) (f : Fld) : Int := d.stage.shadow.geti f

/-- Period 1 of a block loads the shadowed values of its boundary. -/
def Device.shadowLoad (d : Device) : Device :=
  if d.stage.period == 1 then { d with stage.shadow := d.stage.shadowNext } else d

/-! ### Gates -/

/-- The safe level of a half-bridge (R308). -/
def Device.safeLevel (d : Device) (x : Nat) : Gate :=
  if (d.acting F.MOD_SAFE_LEVEL).testBit x then .lowOn else .allOff

/-- The override code of a half-bridge as a gate state (R313). -/
def overrideGate (code : Nat) : Gate :=
  if code == 1 then .lowOn else if code == 2 then .highOn else .allOff

/-- Override mode acts: in READY with MOD_OVERRIDE.EN = 1, no diagnostic run being active (R313). -/
def Device.overridden (d : Device) : Bool :=
  d.flag F.MOD_OVERRIDE_EN && d.running && d.isState 2 && d.diag.run.isNone

/-- ALL_OFF is forced whatever MOD_SAFE holds (R308). -/
def Device.gateForced (d : Device) (x : Fin 8) : Bool :=
  d.stage.half[x].forced || !d.flag F.GDV_STAT_VDRV_OK ||
    (d.stage.chan.toList.getD (d.channelOf x.val) .idle).tripped

/-- A half-bridge that no step of a pre-start run drives: at its safe level in an entry from SAFE (R229), else off. -/
def Device.gateWaiting (d : Device) (x : Fin 8) : Gate :=
  if d.isState 4 then d.safeLevel x.val else .allOff

/-- The gate state that the drive asks for. -/
def Device.gateAsked (d : Device) (x : Fin 8) : Gate :=
  match d.stage.drive with
  | .off => if d.overridden then overrideGate (d.get F.MOD_OVERRIDE_CODE / 4 ^ x.val % 4) else .allOff
  | .safe => d.safeLevel x.val
  | .bootstrap => .bootstrap
  | .modulate =>
    if (d.get F.MOD_CTL_CH_EN).testBit (d.channelOf x.val) then .modulating else d.safeLevel x.val
  | .diag =>
    match d.diag.run with
    | some r =>
      let ch := d.channelOf x.val
      let on := r.step == .c || r.step == .d || r.step == .e || r.step == .f || r.step == .fall
      if !r.mask.testBit ch then d.gateWaiting x
      else if on && !r.failed.testBit ch && !positiveSide x.val then .diag
      else .allOff
    | none => d.gateWaiting x
  | .sweep =>
    match d.diag.run with
    | some r => if r.mask.testBit (d.channelOf x.val) then .modulating else .allOff
    | none => .allOff

/-- What the drive makes of a half-bridge outside a freeze. -/
def Device.gateDriven (d : Device) (x : Fin 8) : Gate :=
  if d.gateForced x then .allOff
  else
    let g := d.gateAsked x
    if !(d.get F.GDV_STAT_BST_OK).testBit x.val && (g == .modulating || g == .highOn) then .allOff
    else g

/-- The gate state of a half-bridge: a forced ALL_OFF wins, and a bootstrap lockout holds the high side
off (R315). The gates held by a debug halt stay as they are, whatever is commanded, until a fault forces the safe levels
(R316, R317). -/
def Device.gate (d : Device) (x : Fin 8) : Gate :=
  match d.stage.held with
  | none => d.gateDriven x
  | some v =>
    if d.stage.drive == .safe then d.gateDriven x
    else if d.gateForced x || (v[x] == .highOn && !(d.get F.GDV_STAT_BST_OK).testBit x.val) then .allOff
    else v[x]

/-- Does a channel (from 0) modulate? -/
def Device.modulating (d : Device) (ch : Nat) : Bool :=
  ch < d.outputs &&
    (List.finRange 8).all fun x => d.channelOf x.val != ch || d.gateDriven x == .modulating

/-- What MOD_STAT.RUN reads. -/
def Device.runMask (d : Device) : Nat :=
  ((List.range 4).map fun ch => if d.modulating ch then 2 ^ ch else 0).sum

/-! ### Rail feedforward (R297 to R299) -/

/-- VBUS of a stage 4 output of lane 8, in volts: the shifts after stages 1 to 4 scale it (R266, R297). -/
def Device.vbus (d : Device) (w : Word) : Rat :=
  (w.toInt : Rat) / 2 ^ 31 * 160 /
    2 ^ (d.get (F.FEN_LANE_n_SHIFT_S1 8) + d.get (F.FEN_LANE_n_SHIFT_S2 8) +
      d.get (F.FEN_LANE_n_SHIFT_S3 8) + d.get (F.FEN_LANE_n_SHIFT_S4 8))

/-- VREF in volts. -/
def Device.vref (d : Device) : Rat := (d.acting F.MOD_RFF_VREF_VREF : Rat) / 4

/-- The factor VREF / VBUS; at VBUS = 0 the manual gives no quotient, and the value is free. -/
def Device.railQuotient (d : Device) (vbus : Rat) : Rat :=
  if vbus = 0 then Config.railAtZero d.vref else d.vref / vbus

/-- The rail factor of a period (R297, R299), its status and its limit: from the latest stage 4 output of lane 8 that was
produced before the period. Those outputs come at multiples of 1,024 counts, so that the latest one before a period begins is
at least 256 counts older than the period (R298). -/
def Device.railFactor (d : Device) : Rat × Device :=
  if d.acting F.MOD_RFF_EN == 0 then (1, d.put F.MOD_RFF_STAT_K (2 ^ 14))
  else
    let lo : Rat := (d.acting F.MOD_RFF_KMIN : Rat) / 64
    let hi : Rat := (d.acting F.MOD_RFF_KMAX : Rat) / 64
    let (d, fresh) := match d.stage.vbus with
      | some (w, false) => ({ d with stage.rail := some (d.railQuotient (d.vbus w)) }, true)
      | _ => (d, false)
    let none? := d.stage.rail.isNone
    let raw := d.stage.rail.getD lo
    let k := limitRat lo hi raw
    let d := d.setFlag F.MOD_STAT_RFF_HELD (!fresh && !none?)
    let d := d.setFlag F.MOD_STAT_RFF_NONE none?
    let d := d.put F.MOD_RFF_STAT_K (ratHalfEven (k * 2 ^ 14)).toNat
    if k = raw then (k, d)
    else
      let d := (d.bump F.MOD_RFF_LIMCNT_COUNT).setFlag F.MOD_EVT_RFF_LIMIT true
      (k, { d with stage.rffSeen := true })

/-- The stage 4 output of lane 8 that is the latest at the end of the period in progress: of the two of a period at 384 kHz
the second, the one of a period at 768 kHz, and the one of every even period at 1.536 MHz (R265, R289). -/
def Device.railSample (d : Device) (v : Vector Word 2) : Option Word :=
  match d.carrier with
  | 0 => some v[1]
  | 1 => some v[0]
  | _ => if d.stage.period % 2 == 0 then some v[0] else none

/-- The outputs of stage 4 of lane 8 in a period arrive, before their shift: the latest waits for the next period with the
UNSETTLED flag of the stage (R266, R268, R298). -/
def Device.railArrive (d : Device) (v : Vector Word 2) : Device :=
  if !d.inp.senseOn then { d with stage.vbus := none }
  else
    match d.railSample v with
    | none => d
    | some w => { d with stage.vbus := some ((stageShift (d.shiftOf 8 3) w).1, !(d.inp.stages[8]).testBit 3) }

/-! ### The interpolator (R291) -/

/-- The Guard's sample `s` of the block in progress, from −4 on. -/
def Device.guardSampleAt (d : Device) (ch : Fin 4) (s : Int) : Int :=
  if 0 ≤ s then (d.stage.guardOut[ch]).getD s.toNat 0 else (d.stage.tail[ch]).getD (s + 4).toNat 0

/-- The interpolator's output for the period in progress (R291): a linear-phase response that spans 4 samples, so that its delay
is 2, saturated to Q1.31. -/
def Device.interpolated (d : Device) (ch : Fin 4) : Word :=
  let l : Nat := 4 * 2 ^ d.carrier
  let s : Nat := d.stage.period / l
  let p := d.stage.period % l
  let y : Rat := ((List.range 5).map fun (k : Nat) =>
    let m : Nat := k * l + p
    if m ≤ 4 * l then Config.interpTap l (min m (4 * l - m)) * (d.guardSampleAt ch ((s : Int) - (k : Int)) : Rat) else 0).sum
  BitVec.ofInt 32 (clamp 32 (ratHalfEven y))

/-! ### The shaper (R292, R293) -/

/-- A state limited to −4 to +4. -/
def satState (v : Rat) : Rat := limitRat (-4) 4 v

/-- The five states of the shaper after the sums of one period, and q. -/
def Device.shape (d : Device) (c : ModChannel) (uk : Rat) : Vector Rat 5 × Rat :=
  let coef := fun k => (d.actingI (F.MOD_NS_Ak_COEF k) : Rat) / 2 ^ 22
  let g1 : Rat := (d.acting F.MOD_NS_G_G1 : Rat) / 2 ^ 16
  let g2 : Rat := (d.acting F.MOD_NS_G_G2 : Rat) / 2 ^ 16
  let e := uk - c.v
  let x1 := satState (c.x[0] + e - g1 * c.x[1])
  let x2 := satState (c.x[1] + x1)
  let x3 := satState (c.x[2] + x2 - g2 * c.x[3])
  let x4 := satState (c.x[3] + x3)
  let x5 := satState (c.x[4] + x4)
  (#v[x1, x2, x3, x4, x5],
    uk + coef 1 * x1 + coef 2 * x2 + coef 3 * x3 + coef 4 * x4 + coef 5 * x5)

/-! ### Edge placement (R294 to R300, R304) -/

/-- One side of a bridge in a period: its edges in counts and its on-time. `wraps` marks an on-time that
runs across the period boundary, as the negative side does in AD. -/
structure Placed where
  onEdge : Int
  offEdge : Int
  onTime : Int
  wraps : Bool
  deriving DecidableEq, Repr

/-- The 4-bit bit-reversal. -/
def bitRev4 (i : Nat) : Nat := i % 2 * 8 + i / 2 % 2 * 4 + i / 4 % 2 * 2 + i / 8 % 2

/-- The dither of R295: a position in 1/16 count lands on a count in period `i`. -/
def ditherEdge (p : Int) (i : Nat) : Int :=
  if (bitRev4 (i % 16) : Int) < p % 16 then p / 16 + 1 else p / 16

/-- The on-time of a pair of edges. -/
def onTimeOf (P on off : Int) (wraps : Bool) : Int := if wraps then P - (on - off) else off - on

/-- The edges of an on-time of `t` sixteenths, placed and dithered (R294, R295). -/
def placeEdges (P t : Int) (wraps : Bool) (i : Nat) : Placed :=
  if t ≤ 0 then ⟨0, 0, 0, wraps⟩
  else if 16 * P ≤ t then ⟨0, 0, P, wraps⟩
  else
    let on := if wraps then (32 * P - t) / 2 else (16 * P - t) / 2
    let off := if wraps then on + t - 16 * P else on + t
    let onC := ditherEdge on i
    let offC := ditherEdge off i
    ⟨onC, offC, onTimeOf P onC offC wraps, wraps⟩

/-- The minimum pulse rule (R296). -/
def minPulse (P c t : Int) : Int :=
  if t ≤ 0 ∨ P ≤ t then t
  else if t < c then (if 2 * t < c then 0 else c)
  else if P - t < c then (if 2 * (P - t) < c then P else P - c)
  else t

/-- An on-time that R296 changed is placed anew about the same instant (log entry 20). -/
def applyMinPulse (P c : Int) (s : Placed) : Placed :=
  let t := minPulse P c s.onTime
  if t = s.onTime then s else placeEdges P (16 * t) s.wraps 0

/-- What begins at `e` and lasts `len` is moved out of the quiet window of its period, or of the next one where it runs into
that (R300): to the nearer of the two places beside the window, the earlier one on a tie. A place before the period start is
taken as it stands: it acts from the start of the period on (DEDUCED, entry 21). -/
def quietMove (P phase width len e : Int) : Int :=
  let beside := fun (w : Int) =>
    if (e - (w - len)).natAbs ≤ (w + width - e).natAbs then w - len else w + width
  let meets := fun (w : Int) => e < w + width && w < e + len
  if meets phase then beside phase else if meets (P + phase) then beside (P + phase) else e

/-- The quiet window on one side (R300): a pulse whose edges meet vanishes. -/
def applyQuiet (P phase width dead : Int) (s : Placed) : Placed :=
  if s.onTime ≤ 0 ∨ P ≤ s.onTime then s
  else
    let on := quietMove P phase width dead s.onEdge
    let off := quietMove P phase width dead s.offEdge
    ⟨on, off, onTimeOf P on off s.wraps, s.wraps⟩

/-- The span of a refresh pulse with both its dead times (R304): centred at the period boundary at the end of the period, or
mid-period for a negative side in BD, and moved out of the quiet window as a whole (R326). -/
def refreshSpan (P w dead : Int) (mid quiet : Bool) (phase width : Int) : Int × Int :=
  let len := w + 2 * dead
  let e := if mid then (P - len) / 2 else P - len / 2
  let e := if quiet then quietMove P phase width len e else e
  (e, e + len)

/-- The spans in which a placed side is commanded on. -/
def Placed.spans (P : Int) (s : Placed) : List (Int × Int) :=
  if s.onTime ≤ 0 then []
  else if P ≤ s.onTime then [(0, P)]
  else if s.wraps then [(0, s.offEdge), (s.onEdge, P)]
  else [(s.onEdge, s.offEdge)]

/-- Some spans without what lies from `a` to `b`. -/
def cutSpans (a b : Int) (l : List (Int × Int)) : List (Int × Int) :=
  l.flatMap fun p =>
    ([(p.1, min p.2 a), (max p.1 b, p.2)] : List (Int × Int)).filter fun q => q.1 < q.2

/-- The length of some spans. -/
def spanLength (l : List (Int × Int)) : Int := (l.map fun p => p.2 - p.1).sum

/-- What a level holds from the start of the period up to a count. -/
def carrySpans (c : Option (Bool × Int)) (l : List (Int × Int)) : List (Int × Int) :=
  match c with
  | none => l
  | some (false, n) => cutSpans 0 n l
  | some (true, n) =>
    match cutSpans 0 n l with
    | (a, b) :: t => if a = n then (0, b) :: t else (0, n) :: (a, b) :: t
    | [] => [(0, n)]

/-- The commanded edges of a period in order: the high side on (true) or off, from the level before it. -/
def spanEdges (P : Int) (level : Bool) (l : List (Int × Int)) : List (Int × Bool) :=
  let begins := l.any fun p => p.1 ≤ 0
  (if level && !begins then [(0, false)] else []) ++
    l.flatMap fun p =>
      (if p.1 ≤ 0 && level then [] else [(p.1, true)]) ++ if P ≤ p.2 then [] else [(p.2, false)]

/-- The edges of the period in progress. -/
def HalfBridge.edges (h : HalfBridge) (P : Int) : List (Int × Bool) := spanEdges P h.level h.hi

/-- The last commanded edge at or before a count of the period, if there was one, with the level it began. -/
def HalfBridge.edgeBefore (h : HalfBridge) (P t : Int) : Option (Int × Bool) :=
  match ((h.edges P).filter fun e => e.1 ≤ t).getLast? with
  | some e => some e
  | none => h.lastEdge.map fun e => (e, h.level)

/-- The gates at a count of the period (R302): a commanded edge turns one gate off at once and the other on after the dead
time, which an edge near the end of a period completes in the next. -/
def HalfBridge.gateAt (h : HalfBridge) (P dead t : Int) : Gate :=
  match h.edgeBefore P t with
  | some e => if t < e.1 + dead then .allOff else if e.2 then .highOn else .lowOn
  | none => if h.level then .highOn else .lowOn

/-- One side of a channel through steps 3 to 6 of R301. -/
def Device.placeSide (d : Device) (t16 : Int) (pos : Bool) : Placed :=
  let P : Int := carrierPeriod d.carrier
  let bd := d.stage.modeLive.getLsbD 4
  let dead : Int := d.acting F.MOD_DEADTIME_COUNT
  let s := placeEdges P t16 (!pos && !bd) d.stage.period
  let s := applyMinPulse P (d.acting F.MOD_MINPULSE_COUNT) s
  if d.acting F.MOD_QUIET_EN == 1 then
    applyQuiet P (d.acting F.MOD_QUIET_PHASE) (d.acting F.MOD_QUIET_WIDTH) dead s
  else s

/-- The refresh pulse that a half-bridge takes in a period. -/
def Device.refreshPulse (d : Device) (pos : Bool) : Int × Int :=
  refreshSpan (carrierPeriod d.carrier) (d.acting F.MOD_REFRESH_W_COUNT) (d.acting F.MOD_DEADTIME_COUNT)
    (!pos && d.stage.modeLive.getLsbD 4) (d.acting F.MOD_QUIET_EN == 1) (d.acting F.MOD_QUIET_PHASE)
    (d.acting F.MOD_QUIET_WIDTH)

/-- What a period carries into the next one: the rest of a refresh pulse, an off edge beyond the end, or an on edge beyond the
end, each counted from the next period's start. -/
def carryOver (P dead : Int) (s : Placed) (pulse : Option (Int × Int)) : Option (Bool × Int) :=
  let beyond := match pulse with
    | some p => p.2 - dead - P
    | none => 0
  if 0 < beyond then some (false, beyond)
  else if 0 < s.onTime && s.onTime < P && !s.wraps && P < s.offEdge then some (true, s.offEdge - P)
  else if 0 < s.onTime && s.onTime < P && s.wraps && P < s.onEdge then some (false, s.onEdge - P)
  else none

/-- A half-bridge takes its edges and the refresh pulse that is due (R304): the on-time is what is finally placed, and the
count of full periods goes on or starts anew. -/
def HalfBridge.take (h : HalfBridge) (P dead : Int) (s : Placed) (pulse : Int × Int) : HalfBridge :=
  let due := if h.refreshDue then some pulse else none
  let before := s.spans P
  let placed := carrySpans h.carry before
  let hi := match due with
    | some p => cutSpans p.1 (p.2 - dead) placed
    | none => placed
  let kept := match h.carry with
    | some (false, _) => before
    | _ => placed
  let t := s.onTime - (spanLength kept - spanLength hi)
  let last := h.edgeBefore P P
  { h with
    onEdge := s.onEdge, offEdge := s.offEdge, onTime := t, hi := hi
    level := (last.map fun e => e.2).getD h.level, lastEdge := last.map fun e => e.1 - P
    carry := carryOver P dead s due
    pulse := match due with
      | some p => some p
      | none => h.pulse.bind fun p => if P < p.2 then some (p.1 - P, p.2 - P) else none
    fullRun := if P ≤ t then h.fullRun + 1 else 0, refreshDue := false }

/-- The on-time of one side of a channel. -/
def Device.sideTime (d : Device) (ch : Fin 4) (pos : Bool) : Int :=
  match (List.finRange 8).find? fun y => d.channelOf y.val == ch.val && positiveSide y.val == pos with
  | some y => d.stage.half[y].onTime
  | none => 0

/-- The states of the shaper at their limit go on counting, the others start anew (R293). -/
def limitRuns (x : Vector Rat 5) (run : Vector Nat 5) : Vector Nat 5 :=
  Vector.ofFn fun i : Fin 5 => if x[i] = 4 ∨ x[i] = -4 then run[i] + 1 else 0

/-- One carrier period of one channel (R301). `u` is the interpolator's output, `k` the rail factor. -/
def Device.channelPeriod (d : Device) (ch : Fin 4) (u : Word) (k : Rat) : Device :=
  if !d.modulating ch.val then d
  else
    let P : Int := carrierPeriod d.carrier
    let dead : Int := d.acting F.MOD_DEADTIME_COUNT
    let c := d.stage.chan[ch]
    let uk := (u.toInt : Rat) / 2 ^ 31 * k
    let (x, q) := d.shape c uk
    let m := limitRat (-1) 1 q
    let side := fun pos => d.placeSide (ratHalfEven ((if pos then 1 + m else 1 - m) / 2 * P * 16)) pos
    let d := { d with
      stage.half := d.stage.half.mapFinIdx fun i h _ =>
        if d.channelOf i == ch.val then h.take P dead (side (positiveSide i)) (d.refreshPulse (positiveSide i))
        else h }
    let v : Rat := ((d.sideTime ch true - d.sideTime ch false : Int) : Rat) / P
    let c := { c with x := x, v := v, satRun := limitRuns x c.satRun }
    let d := { d with stage.chan := d.stage.chan.set ch c }
    if q < -1 || 1 < q then
      { d.orField F.MOD_EVT_CLIP (2 ^ ch.val) with stage.clipSeen := true }
    else d

/-- Some state of a channel has been at its limit for 16 periods in a row (R293). -/
def ModChannel.stuck (c : ModChannel) : Bool := c.satRun.toList.any fun n => 16 ≤ n

/-- A shaper reset (R293): the states become zero, CLIP and NSRST are set and the reset is logged. -/
def Device.shaperReset (d : Device) (ch : Fin 4) : Device :=
  let c := d.stage.chan[ch]
  if !c.stuck then d
  else
    let d := { d with stage.chan := d.stage.chan.set ch { c with x := .replicate 5 0, satRun := .replicate 5 0 }
                      stage.clipSeen := true }
    let d := d.orField F.MOD_EVT_CLIP (2 ^ ch.val)
    let d := d.orField F.MOD_EVT_NSRST (2 ^ ch.val)
    d.log 140 2 (ch.val + 1)

/-- A refresh pulse falls due for the next period (R304). -/
def Device.refresh (d : Device) (x : Fin 8) : Device :=
  let h := d.stage.half[x]
  if d.gate x != .modulating || h.fullRun < d.acting F.MOD_REFRESH_N then d
  else
    let d := { d with stage.half := d.stage.half.set x { h with refreshDue := true }
                      stage.refreshSeen := true }
    d.orField F.MOD_EVT_REFRESH (2 ^ x.val)

/-- Clears the shaper states and v of every channel, and the refresh counts (R292, R319). -/
def Device.clearShapers (d : Device) : Device :=
  { d with
    stage.chan := d.stage.chan.map fun c => { c with x := .replicate 5 0, v := 0, satRun := .replicate 5 0 }
    stage.half := d.stage.half.map fun h => { h with fullRun := 0, refreshDue := false } }

/-- Before a period: shadowed values load in period 1, and channels that did not trip in the period
before start their count of trips anew and resume (R305, R306). -/
def Device.periodStart (d : Device) : Device :=
  let d := d.shadowLoad
  { d with
    stage.held := none
    stage.chan := d.stage.chan.map fun c =>
      { c with tripped := false, tripRun := if c.tripped then c.tripRun else 0 } }

/-- One carrier period (R301). The comparator levels and FAULT_N are what the pins show in it. -/
def Device.carrierPeriodStep (d : Device) (x : CarrierIn) : Device :=
  if !d.running || d.limp then d
  else
    let d := d.put F.GDV_STAT_OC_NOW x.oc.toNat
    let d := d.setFlag F.GDV_STAT_STK_OC_NOW x.stk
    let d := d.setFlag F.GDV_STAT_FAULT_N x.extLow
    if d.stage.frozen then d
    else
      let d := d.periodStart
      let (k, d) := d.railFactor
      let d := (List.finRange 4).foldl (fun d ch => d.channelPeriod ch (d.interpolated ch) k) d
      let d := d.railArrive x.vbus
      { d with stage.period := d.stage.period + 1 }

/-! ### The gates at the instant of now (R302, R313, R316) -/

/-- The count of the carrier period at which ring time stands (R173). -/
def Device.periodCount (d : Device) : Int := d.clk.rt.sub.toNat % carrierPeriod d.carrier

/-- The dead time after a change of a half-bridge's override code runs (R313). -/
def Device.codeFresh (d : Device) (x : Fin 8) : Bool :=
  d.stage.half[x].codeAt != 0 &&
    (d.clk.rt.packed - d.stage.half[x].codeAt).toNat < d.acting F.MOD_DEADTIME_COUNT

/-- What the gates of a half-bridge do now: under modulation as its edges and dead times say, under the bootstrap precharge the
low side in the first half of each period (R225), under a diagnostic drive the low side. -/
def Device.gateNow (d : Device) (x : Fin 8) : Gate :=
  match d.gate x with
  | .modulating =>
    d.stage.half[x].gateAt (carrierPeriod d.carrier) (d.acting F.MOD_DEADTIME_COUNT) d.periodCount
  | .bootstrap => if d.periodCount < carrierPeriod d.carrier / 2 then .lowOn else .allOff
  | .diag => .lowOn
  | g => if d.stage.held.isNone && d.overridden && d.codeFresh x then .allOff else g

/-- Writes of MOD_OVERRIDE: the half-bridges whose command changes begin a dead time (R313). `old` is the word before. -/
def Device.overrideChanged (d : Device) (old : Word) : Device :=
  let code := fun (w : Word) (x : Nat) => if w.toNat % 2 == 0 then 0 else w.toNat / 2 ^ (8 + 2 * x) % 4
  { d with stage.half := d.stage.half.mapFinIdx fun i h _ =>
      if code old i != code (d.word R.MOD_OVERRIDE) i then { h with codeAt := d.clk.rt.packed } else h }

/-- The gate transitions of a half-bridge about the period in progress: each edge, and the end of its dead time. -/
def Device.transitions (d : Device) (x : Fin 8) : List Int :=
  let P : Int := carrierPeriod d.carrier
  let dead : Int := d.acting F.MOD_DEADTIME_COUNT
  let h := d.stage.half[x]
  match d.gate x with
  | .modulating => (h.lastEdge.toList ++ (h.edges P).map Prod.fst).flatMap fun e => [e, e + dead]
  | .bootstrap => [-(P / 2), 0, P / 2]
  | _ => []

/-- The overcurrent comparator of a channel (from 0) is ignored: within BLANK counts of a transition (R303), and not during a
freeze (R317). -/
def Device.blanked (d : Device) (ch : Nat) : Bool :=
  let t := d.periodCount
  d.stage.held.isNone &&
    (List.finRange 8).any fun x => d.channelOf x.val == ch &&
      (d.transitions x).any fun e => e ≤ t && t < e + d.acting F.MOD_BLANK_COUNT

end Sys2Proof.Machine
end

