-- ==== Sys2Proof/Machine/StageOps.lean ====
section
/-! DEFINITION. The faults of the power stage: overcurrent, interlock, lockouts and FAULT_N (R306 to
R315), what clears them (R310), and the debug halt of the modulator (R316 to R319). -/

namespace Sys2Proof.Machine

/-- The register GDV_CH_FAULT_n of a channel (from 0) as a number. -/
def Device.chFault (d : Device) (n : Nat) : Nat := (d.word (R.GDV_CH_FAULT_n n)).toNat

/-- Any latched stage fault: the summary PWR_FAULT.STAGE (R228, R310). -/
def Device.stageFaults (d : Device) : Bool :=
  d.word R.GDV_FAULT != 0 || (List.range 4).any fun n => d.chFault n != 0

/-- A stage fault latches with its entries: the device enters SAFE under R227. -/
def Device.stageFault (d : Device) (entry : Device → Device) : Device := d.latchFault 9 entry

/-- A channel fault latches: the cause's source and then FAULT_CH of the channel (from 0) are raised and
logged (R310, R324). An occurrence that finds its bit latched raises the cause's source again. -/
def Device.channelFault (d : Device) (n : Nat) (bit source : Nat) : Device :=
  let a := R.GDV_CH_FAULT_n n
  let was := (d.word a).toNat.testBit bit
  let d := d.setWord a (d.word a ||| BitVec.ofNat 32 (2 ^ bit))
  if was then d.fire source
  else d.stageFault fun d => (d.raise source (n + 1)).raise (16 + n) 0

/-- A trip of a channel comparator outside blanking (R303, R306): the channel is off for the rest of the period and the trip is
counted. It latches in LATCH, or in CBC when CBC_MAX periods in a row tripped. -/
def Device.overcurrent (d : Device) (n : Fin 4) : Device :=
  let ch := d.comparatorChannel n.val
  if !d.running || d.blanked ch then d
  else
    let h : ch % 4 < 4 := Nat.mod_lt _ (by decide)
    let i : Fin 4 := ⟨ch % 4, h⟩
    let c := d.stage.chan[i]
    let runs := if c.tripped then c.tripRun else c.tripRun + 1
    let d := { d with stage.chan := d.stage.chan.set i { c with tripped := true, tripRun := runs } }
    let d := d.bump F.GDV_OC_CNT_COUNT
    let d := d.orField F.GDV_STAT_OC_NOW (2 ^ n.val)
    let latch := d.get (F.GDV_OC_n_MODE n.val) == 0 || d.get (F.GDV_OC_n_CBC_MAX n.val) ≤ runs
    if latch then (d.forceOff fun x => d.channelOf x == ch).channelFault n.val 0 21
    else d.fire 21

/-- New values of GDV_OC_n: a lower CBC_MAX latches at once if the count already reaches it (R325). -/
def Device.ocWritten (d : Device) (n : Fin 4) : Device :=
  let ch := d.comparatorChannel n.val
  let runs := (d.stage.chan.toList.getD ch .idle).tripRun
  if runs != 0 && d.get (F.GDV_OC_n_CBC_MAX n.val) ≤ runs && d.chFault n.val % 2 == 0 then
    (d.forceOff fun x => d.channelOf x == ch).channelFault n.val 0 21
  else d

/-- A trip of the stack comparator (R307). -/
def Device.stackOvercurrent (d : Device) : Device :=
  if !d.running then d
  else
    let d := (d.forceOff fun _ => true).setFlag F.GDV_STAT_STK_OC_NOW true
    if d.flag F.GDV_FAULT_STK_OC then d.fire 21
    else (d.setFlag F.GDV_FAULT_STK_OC true).stageFault fun d => d.raise 21 0

/-- A refresh pulse is under way at a half-bridge (R304). -/
def Device.refreshing (d : Device) (x : Fin 8) : Bool :=
  match d.stage.half[x].pulse with
  | some p => p.1 ≤ d.periodCount && d.periodCount < p.2
  | none => false

/-- The command source of the gates at an overlap (R312). -/
def Device.gateSource (d : Device) (x : Fin 8) : Nat :=
  match d.stage.drive with
  | .modulate | .sweep => if d.refreshing x then 1 else 0
  | .bootstrap => 2
  | .diag => 3
  | .off => if d.overridden then 4 else 5
  | _ => 5

/-- The interlock trips (R312): the channel is forced off, the fault latches and the first record
stands. -/
def Device.interlock (d : Device) (x : Fin 8) : Device :=
  if d.pwr.seq == .off || d.pwr.seq == .aonReset then d
  else
    let src := d.gateSource x
    let ch := d.channelOf x.val
    let d := if d.flag F.GDV_ILK_INFO_VALID then d
      else ((d.put F.GDV_ILK_INFO_HB x.val).put F.GDV_ILK_INFO_SRC src).setFlag F.GDV_ILK_INFO_VALID true
    (d.forceOff fun y => d.channelOf y == ch).channelFault ch 1 20

/-- FAULT_N acts while GDV_EXT.EN = 1 (R311). -/
def Device.extFault (d : Device) : Device :=
  let d := d.setFlag F.GDV_STAT_FAULT_N true
  if !d.flag F.GDV_EXT_EN then d
  else if d.flag F.GDV_FAULT_EXT_FAULT then d.fire 24
  else (d.setFlag F.GDV_FAULT_EXT_FAULT true).stageFault fun d => d.raise 24 0

/-- PWR_STAT.DRV_OK: PG_AUX3 high and VDRV above its lockout (R243). -/
def Device.updateDrvOk (d : Device) : Device :=
  d.setFlag F.PWR_STAT_DRV_OK (d.pwr.pgAux[2] && d.flag F.GDV_STAT_VDRV_OK)

/-- VDRV falls below its lockout (R315). The gates are off while VDRV_OK is clear. -/
def Device.vdrvLockout (d : Device) : Device :=
  let d := (d.setFlag F.GDV_STAT_VDRV_OK false).updateDrvOk
  if !d.running then d
  else if d.flag F.GDV_FAULT_VDRV_UVLO then d.fire 23
  else (d.setFlag F.GDV_FAULT_VDRV_UVLO true).stageFault fun d => d.raise 23 0

/-- VDRV rises above its lockout (R315). -/
def Device.vdrvRelease (d : Device) : Device := (d.setFlag F.GDV_STAT_VDRV_OK true).updateDrvOk

/-- A bootstrap falls below its lockout (R315): the high side goes off; in PLAY and during a debug halt the
fault latches. -/
def Device.bootstrapLockout (d : Device) (x : Fin 8) : Device :=
  let d := d.andNotField F.GDV_STAT_BST_OK (2 ^ x.val)
  if d.running && (d.isState 3 || d.stage.frozen) then
    ({ d with stage.half := d.stage.half.set x { d.stage.half[x] with bstLatched := true } }.forceOff fun y => y == x.val).channelFault (d.channelOf x.val) 2 23
  else d

/-- A bootstrap rises above its lockout (R315). -/
def Device.bootstrapRelease (d : Device) (x : Fin 8) : Device :=
  d.orField F.GDV_STAT_BST_OK (2 ^ x.val)

/-- The bits of GDV_CH_FAULT_n whose condition persists (R310): of the bootstraps, those that latched. -/
def Device.chFaultPersists (d : Device) (n : Nat) : Nat :=
  (if (d.get F.GDV_STAT_OC_NOW).testBit n then 1 else 0) +
    (if (List.finRange 8).any fun x =>
        d.channelOf x.val == n && d.stage.half[x].bstLatched && !(d.get F.GDV_STAT_BST_OK).testBit x.val then 4
      else 0) +
    (if (d.get F.DIAG_STAT_DC_NOW).testBit n then 8 else 0)

/-- The bits of GDV_FAULT whose condition persists (R310). -/
def Device.gdvFaultPersists (d : Device) : Nat :=
  (if d.flag F.GDV_STAT_VDRV_OK then 0 else 1) + (if d.flag F.GDV_STAT_FAULT_N then 2 else 0) +
    (if d.flag F.GDV_STAT_STK_OC_NOW then 4 else 0)

/-- After a clear: forces whose fault is gone end, and the summary clears when no stage fault is left
(R228, R310). -/
def Device.stageCleared (d : Device) : Device :=
  let stays := fun (x : Nat) =>
    d.chFault (d.channelOf x) % 8 != 0 || d.flag F.GDV_FAULT_STK_OC ||
      (List.range 4).any fun n => d.comparatorChannel n == d.channelOf x && d.chFault n % 2 == 1
  let bst := fun (x : Nat) => (d.chFault (d.channelOf x)).testBit 2
  let d := { d with stage.half := d.stage.half.mapFinIdx fun i h _ =>
      { h with forced := h.forced && stays i, bstLatched := h.bstLatched && bst i } }
  if d.stageFaults then d else d.setWord R.PWR_FAULT (d.word R.PWR_FAULT &&& ~~~(0x200 : Word))

/-- Writes of 1 clear bits of GDV_CH_FAULT_n; those that persist stay set. Clearing INTERLOCK clears
GDV_ILK_INFO.VALID (R310, R312). -/
def Device.clearChFault (d : Device) (n : Nat) (v : Word) : Device :=
  let old := d.chFault n
  let gone := old &&& v.toNat &&& (15 - d.chFaultPersists n)
  let d := d.setWord (R.GDV_CH_FAULT_n n) (BitVec.ofNat 32 (old - gone))
  let d := if gone.testBit 1 then d.setFlag F.GDV_ILK_INFO_VALID false else d
  d.stageCleared

/-- Writes of 1 clear bits of GDV_FAULT; those that persist stay set (R310). -/
def Device.clearGdvFault (d : Device) (v : Word) : Device :=
  let old := (d.word R.GDV_FAULT).toNat
  let gone := old &&& v.toNat &&& (7 - d.gdvFaultPersists)
  (d.setWord R.GDV_FAULT (BitVec.ofNat 32 (old - gone))).stageCleared

/-- A debug halt stops the STREAM domain: every gate command keeps the value of the instant (R316, R328). -/
def Device.freeze (d : Device) : Device :=
  ({ d with stage.frozen := true, stage.held := some (Vector.ofFn d.gateNow) }).setFlag F.MOD_STAT_FROZEN true

end Sys2Proof.Machine
end

