-- ==== Sys2Proof/Machine/GuardOps.lean ====
section
/-! DEFINITION. The Guard (R338 to R371): thermal and excursion models, limits, the lookahead limiter,
estimators, the blind state and the events. -/

namespace Sys2Proof.Machine

/-- A Guard channel, from 0. -/
def Device.gch (d : Device) (n : Fin 4) : GuardChan := d.guard.chan[n]

/-- Replaces a Guard channel. -/
def Device.setGch (d : Device) (n : Fin 4) (c : GuardChan) : Device :=
  { d with guard.chan := d.guard.chan.set n c }

/-! ### Parameters -/

/-- RE0 in Ω. -/
def Device.re0 (d : Device) (n : Nat) : Rat := (d.get (F.GRD_n_ELEC_RE0 n) : Rat) / 1000

/-- ALPHA per °C. -/
def Device.alpha (d : Device) (n : Nat) : Rat := (d.get (F.GRD_n_ELEC_ALPHA n) : Rat) / 1000000

/-- T0 in °C. -/
def Device.t0 (d : Device) (n : Nat) : Rat := (d.get (F.GRD_n_TH2_T0 n) : Rat)

/-- Re(T), limited to 0.5 and 3.0 times RE0 (R341). `n` is the channel number, from 1. -/
def Device.reAt (d : Device) (n : Nat) (t : Rat) : Rat :=
  let r0 := d.re0 n
  limitRat (r0 / 2) (3 * r0) (r0 * (1 + d.alpha n * (t - d.t0 n)))

/-- The temperature of a resistance: T0 + (Re / RE0 − 1) / ALPHA (R343, R355, R377). -/
def Device.tempOf (d : Device) (n : Nat) (re : Rat) : Rat := d.t0 n + (re / d.re0 n - 1) / d.alpha n

/-- XMAX in mm. -/
def Device.xmax (d : Device) (n : Nat) : Rat := (d.get (F.GRD_n_XLIM_XMAX n) : Rat) / 100

/-- XLIM in mm (R346). -/
def Device.xlim (d : Device) (n : Nat) : Rat := d.xmax n * (d.get (F.GRD_n_XLIM_XMARGIN n) : Rat) / 256

/-- KMS0 in N/mm. -/
def Device.kms0 (d : Device) (n : Nat) : Rat := (d.get (F.GRD_n_M1_KMS0 n) : Rat) / 1000

/-- BL0 in T·m. -/
def Device.bl0 (d : Device) (n : Nat) : Rat := (d.get (F.GRD_n_M0_BL0 n) : Rat) / 1000

/-- ITGT in A. -/
def Device.itgt (d : Device) (n : Nat) : Rat := (d.get (F.GRD_n_PILOT_ITGT n) : Rat) / 1000

/-- The reading that AMB_SRC of a GRD_n_TH3 word selects; none when it is no valid reading (R342). -/
def Device.readingBy (d : Device) (th3 : Word) : Option Rat :=
  match fieldOf th3 0 3 with
  | 0 => d.aux.ntc[0]
  | 1 => d.aux.ntc[1]
  | 2 => d.aux.ntc[2]
  | 3 => d.aux.ntc[3]
  | 4 => d.aux.die
  | _ => some (fieldInt th3 8 8)

/-- Ta by a GRD_n_TH3 word (R342): without a valid reading the larger of AMB_FIX and the die temperature. -/
def Device.ambientBy (d : Device) (th3 : Word) : Rat :=
  let fix : Rat := fieldInt th3 8 8
  match d.readingBy th3 with
  | some t => t
  | none => maxRat fix (d.aux.die.getD fix)

/-- The reading AMB_SRC selects now. -/
def Device.ambient? (d : Device) (n : Nat) : Option Rat := d.readingBy (d.word (R.GRD_n_TH3 n))

/-- Ta (R342). -/
def Device.ambient (d : Device) (n : Nat) : Rat := d.ambientBy (d.word (R.GRD_n_TH3 n))

/-! ### Sense data (R338, R339) -/

/-- A channel is in use: all four in BTL4, 1 and 2 in PBTL2. -/
def Device.guardUsed (d : Device) (n : Fin 4) : Bool := n.val < d.outputs

/-- The voltage lane and the current lanes of a Guard channel (R338). -/
def Device.guardLanes (d : Device) (n : Fin 4) : Fin 10 × List (Fin 10) :=
  if d.pbtl2 then
    if n.val = 0 then (0, [4, 5]) else (2, [6, 7])
  else (⟨n.val, by omega⟩, [⟨n.val + 4, by omega⟩])

/-- Is sample `k` of a lane of the block that ends usable: settled and VALID? -/
def Device.laneUsable (d : Device) (l : Fin 10) (k : Nat) : Bool :=
  d.senseRuns && d.inp.senseOn && !d.inp.unset[l].getLsbD k

/-- The current of a channel in amperes at sample `k`, or none under R339. -/
def Device.guardCurrent (d : Device) (sense : Vector (Vector Word 16) 10) (n : Fin 4) (k : Fin 16) :
    Option Rat :=
  let ls := d.guardLanes n
  if d.laneUsable ls.1 k.val && ls.2.all fun l => d.laneUsable l k.val then
    some ((ls.2.map fun l => d.senseAmps l.val sense[l][k]).sum)
  else none

/-- The 16 currents of a channel. -/
def Device.guardCurrents (d : Device) (sense : Vector (Vector Word 16) 10) (n : Fin 4) :
    List (Option Rat) :=
  (List.finRange 16).map fun k => d.guardCurrent sense n k

/-- The terminal voltage in V and the current in A of a channel at sample `k` (R338), or none under R339. -/
def Device.guardMeasure (d : Device) (sense : Vector (Vector Word 16) 10) (n : Fin 4) (k : Fin 16) :
    Option (Rat × Rat) :=
  let l := (d.guardLanes n).1
  (d.guardCurrent sense n k).map fun a => (d.senseVolts l.val sense[l][k], a)

/-- The 16 measurements of a channel. -/
def Device.guardMeasures (d : Device) (sense : Vector (Vector Word 16) 10) (n : Fin 4) :
    List (Option (Rat × Rat)) :=
  (List.finRange 16).map fun k => d.guardMeasure sense n k

/-- The Guard output of a channel in the block that ends, in units of VREF. -/
def Device.guardOutput (d : Device) (n : Fin 4) : List Rat :=
  (d.stage.guardOut[n]).map fun y => (y : Rat) / 2 ^ 31

/-! ### Estimators (R350 to R355) -/

/-- The confidence of R354 from the current ratio and the last four estimates, newest first. -/
def confidence (ratio : Rat) (spread : Nat) (hist : List Rat) : Nat :=
  match hist with
  | [a, b, c, e] =>
    let hi := maxRat (maxRat a b) (maxRat c e)
    let lo := minRat (minRat a b) (minRat c e)
    let s := (hi - lo) / ((a + b + c + e) / 4)
    let A := minRat 1 ratio
    let B := maxRat 0 (1 - s / ((spread : Rat) / 1000))
    (255 * A * B).floor.toNat
  | _ => 0

/-- An estimate is taken: one outside 0.5 to 3.0 times RE0 is discarded (R354). -/
def Device.takeEstimate (d : Device) (n : Nat) (hist : List Rat) (re ratio : Rat) :
    List Rat × Nat × Bool :=
  if re < d.re0 n / 2 || 3 * d.re0 n < re then ([], 0, true)
  else
    let h := (re :: hist).take 4
    (h, confidence ratio (d.get (F.GRD_n_CONF_SPREAD n)) h, false)

/-- Step 1 of R362: results and selections that completed in the block take effect. -/
def Device.guardTake (d : Device) (i : Fin 4) : Device :=
  let n := i.val + 1
  let c := d.gch i
  let d := d.setGch i { c with taken := none }
  let d := match c.pendP with
    | none => d
    | some r =>
      let t := d.takeEstimate n c.histP r.re (r.ip / d.itgt n)
      let d := d.put (F.GRD_n_CONFV_CONF_P n) t.2.1
      let d := d.setGch i { d.gch i with
        histP := t.1, pendP := none, taken := some ⟨r.re, t.2.1, t.2.2⟩ }
      let ratio := d.get (F.GRD_n_PILOT_RATIO n)
      if aboveDb r.prog r.ap ratio then d.put (F.GRD_n_STAT_EST n) 1
      else if belowDb r.prog r.ap (ratio - 3) then d.put (F.GRD_n_STAT_EST n) 0 else d
  let pilotTaken := (d.gch i).taken
  let d := match c.pendB with
    | none => d
    | some r =>
      let t := d.takeEstimate n c.histB r.re (r.iband / ((d.get (F.GRD_n_CONF_IREF n) : Rat) / 1000))
      let d := d.put (F.GRD_n_CONFV_CONF_B n) t.2.1
      d.setGch i { d.gch i with histB := t.1, pendB := none, taken := some ⟨r.re, t.2.1, t.2.2⟩ }
  let pilot := d.get (F.GRD_n_STAT_EST n) == 0
  let active := if pilot then pilotTaken else if c.pendB.isSome then (d.gch i).taken else none
  let d := d.setGch i { d.gch i with taken := active }
  d.put (F.GRD_n_CONFV_CONF n)
    (if pilot then d.get (F.GRD_n_CONFV_CONF_P n) else d.get (F.GRD_n_CONFV_CONF_B n))

/-- Both confidences of a channel become 0 (R339). -/
def Device.dropConfidence (d : Device) (n : Nat) : Device :=
  ((d.put (F.GRD_n_CONFV_CONF n) 0).put (F.GRD_n_CONFV_CONF_P n) 0).put (F.GRD_n_CONFV_CONF_B n) 0

/-! ### Blind, ratchet, margin (R356 to R358) -/

/-- Is a channel blind: the confidence of its active estimator below GRD_CONF_MIN, or forced by a debug
resume (R356, R369)? -/
def Device.blindNow (d : Device) (i : Fin 4) : Bool :=
  (d.gch i).forced || d.get (F.GRD_n_CONFV_CONF (i.val + 1)) < d.get F.GRD_CONF_MIN_VALUE

/-- Blocks after which the ratchet acts. -/
def Device.blindBlocks (d : Device) : Nat := d.get F.GRD_T_BLIND_VALUE * 600

/-- Blocks after which the margin acts. -/
def Device.blindLongBlocks (d : Device) : Nat := d.get F.GRD_T_BLIND_LONG_VALUE * 6000

/-- The counters of a blind spell and of recovery advance in PLAY and in limp (R356, R370). -/
def Device.blindCounts (d : Device) : Bool := d.isState 3 || d.limp

/-- T_lim (R344): lowered while the channel is BLIND_LONG. -/
def Device.tLimit (d : Device) (i : Fin 4) : Rat :=
  let n := i.val + 1
  let long := d.flag (F.GRD_n_STAT_BLONG n) ||
    (d.flag (F.GRD_n_STAT_BLIND n) && d.blindLongBlocks ≤ d.get (F.GRD_n_BLINDT_BLOCKS n))
  (d.get (F.GRD_n_TH2_TMAX n) : Rat) - if long then (d.get F.GRD_BLIND_MARGIN_VALUE : Rat) else 0

/-- Step 2 of R362: the conditions of R356 and R357 are judged and counted. Outside PLAY the two counters hold: they neither
advance nor reset. A spell that ends while the ratchet releases ends like one before the ratchet (R358). -/
def Device.guardBlind (d : Device) (i : Fin 4) : Device :=
  let n := i.val + 1
  let blind := d.blindNow i
  let counts := d.blindCounts
  let d := d.setGch i { d.gch i with forced := false }
  if blind then
    let d := d.setFlag (F.GRD_n_STAT_BLIND n) true
    let d := d.setFlag (F.GRD_n_STAT_RECOV n) false
    if counts then (d.setGch i { d.gch i with recov := 0 }).bump (F.GRD_n_BLINDT_BLOCKS n) else d
  else if !d.flag (F.GRD_n_STAT_RATCHET n) || d.flag (F.GRD_n_STAT_RELEASE n) then
    let d := d.setFlag (F.GRD_n_STAT_BLIND n) false
    if counts then d.put (F.GRD_n_BLINDT_BLOCKS n) 0 else d
  else if d.flag (F.GRD_n_STAT_RECOV n) then
    if counts then d.setGch i { d.gch i with recov := (d.gch i).recov + 1 } else d
  else
    let d := d.setFlag (F.GRD_n_STAT_RECOV n) true
    if counts then d.setGch i { d.gch i with recov := 0 } else d

/-- Has the blind spell of a channel lasted GRD_T_BLIND (R356)? -/
def Device.blindLasts (d : Device) (i : Fin 4) : Bool :=
  let n := i.val + 1
  d.flag (F.GRD_n_STAT_BLIND n) && decide (d.blindBlocks ≤ d.get (F.GRD_n_BLINDT_BLOCKS n))

/-- Step 2 of R362: T_est follows Tv, the ratchet, or the release (R356, R357). A spell that reaches GRD_T_BLIND ratchets, also
while an earlier ratchet releases. -/
def Device.guardPublish (d : Device) (i : Fin 4) : Device :=
  let n := i.val + 1
  let c := d.gch i
  let release := d.flag (F.GRD_n_STAT_RELEASE n) && !d.blindLasts i
  let t :=
    if release then if c.tEst ≤ c.tv then c.tv else maxRat c.tv (c.tEst - 1 / 3000)
    else if d.flag (F.GRD_n_STAT_RATCHET n) || d.blindLasts i then maxRat c.tEst c.tv
    else c.tv
  d.setGch i { c with tEst := t, atTv := release && t == c.tv }

/-- A blind spell reaches GRD_T_BLIND (R356). It ends a release in progress: the ratchet holds again. -/
def Device.estimatorBlind (d : Device) (i : Fin 4) : Device :=
  let n := i.val + 1
  if d.blindLasts i && (!d.flag (F.GRD_n_STAT_RATCHET n) || d.flag (F.GRD_n_STAT_RELEASE n)) then
    let d := (d.setFlag (F.GRD_n_STAT_RATCHET n) true).setFlag (F.GRD_n_STAT_RELEASE n) false
    (d.orField F.GRD_EVT_BLIND (2 ^ i.val)).raise 36 n
  else d

/-- A blind spell reaches GRD_T_BLIND_LONG (R356), after its ESTIMATOR_BLIND (R363). -/
def Device.estimatorBlindLong (d : Device) (i : Fin 4) : Device :=
  let n := i.val + 1
  if d.flag (F.GRD_n_STAT_BLIND n) && d.flag (F.GRD_n_STAT_RATCHET n) && !d.flag (F.GRD_n_STAT_RELEASE n) &&
      !d.flag (F.GRD_n_STAT_BLONG n) && d.blindLongBlocks ≤ d.get (F.GRD_n_BLINDT_BLOCKS n) then
    let d := d.setFlag (F.GRD_n_STAT_BLONG n) true
    (d.orField F.GRD_EVT_BLONG (2 ^ i.val)).raise 37 n
  else d

/-- Recovery completes after 30,000 blocks that were not blind (R357). -/
def Device.guardRecovery (d : Device) (i : Fin 4) : Device :=
  let n := i.val + 1
  if d.flag (F.GRD_n_STAT_RECOV n) && 30000 ≤ (d.gch i).recov && d.blindCounts && !d.blindNow i then
    let d := d.setFlag (F.GRD_n_STAT_BLIND n) false
    let d := d.setFlag (F.GRD_n_STAT_BLONG n) false
    let d := d.setFlag (F.GRD_n_STAT_RECOV n) false
    let d := d.setFlag (F.GRD_n_STAT_RELEASE n) true
    let d := d.put (F.GRD_n_BLINDT_BLOCKS n) 0
    let d := d.setGch i { d.gch i with recov := 0 }
    (d.orField F.GRD_EVT_RECOV (2 ^ i.val)).log 142 1 n
  else d

/-- T_est has reached Tv: the ratchet ends (R357). -/
def Device.ratchetEnd (d : Device) (i : Fin 4) : Device :=
  let n := i.val + 1
  if d.flag (F.GRD_n_STAT_RELEASE n) && (d.gch i).atTv then
    let d := d.setGch i { d.gch i with atTv := false }
    (d.setFlag (F.GRD_n_STAT_RATCHET n) false).setFlag (F.GRD_n_STAT_RELEASE n) false
  else d

/-! ### Thermal model (R341, R355) -/

/-- A node limited to −40 °C to +255 °C. -/
def nodeLimit (t : Rat) : Rat := limitRat (-40) 255 t

/-- Step 3 of R362: a result of the active estimator corrects Tv (R355). -/
def Device.guardCorrect (d : Device) (i : Fin 4) : Device :=
  let n := i.val + 1
  let c := d.gch i
  match c.taken with
  | none => d
  | some r =>
    let tr := d.tempOf n r.re
    let d := d.put (F.GRD_n_RE_RE n) (min (ratHalfEven (r.re * 1000)).toNat 65535)
    let d := d.puti (F.GRD_n_RE_TR n) (clamp 16 (ratHalfEven (tr * 128)))
    if r.discarded || r.conf < d.get F.GRD_CONF_MIN_VALUE then d
    else
      let k := (d.get (F.GRD_n_TH3_FUSE n) : Rat) / 256 * ((r.conf : Rat) / 255)
      d.setGch i { c with tv := c.tv + k * (tr - c.tv) }

/-- The mean power of the block that ends (R339, R341). -/
def Device.guardPower (d : Device) (i : Fin 4) (cur : List (Option Rat)) : Rat :=
  let n := i.val + 1
  let c := d.gch i
  let reV := d.reAt n c.tv
  let reE := d.reAt n c.tEst
  let vref := d.vref
  meanRat ((cur.zip (d.guardOutput i ++ List.replicate 16 0)).map fun p =>
    match p.1 with
    | some a => a * a * reV
    | none => (p.2 * vref) * (p.2 * vref) / reE)

/-- Step 4 of R362: the thermal model advances one block (R341). -/
def Device.guardThermal (d : Device) (i : Fin 4) (power : Rat) : Device :=
  let n := i.val + 1
  let c := d.gch i
  let dt : Rat := 1 / 6000
  let rtv := (d.get (F.GRD_n_TH0_RTV n) : Rat) / 1000
  let rtm := (d.get (F.GRD_n_TH0_RTM n) : Rat) / 1000
  let ctv := (d.get (F.GRD_n_TH1_CTV n) : Rat) / 100
  let ctm := (d.get (F.GRD_n_TH1_CTM n) : Rat) / 10
  let ta := d.ambient n
  let tv := nodeLimit (c.tv + dt / ctv * (power - (c.tv - c.tm) / rtv))
  let tm := nodeLimit (c.tm + dt / ctm * ((tv - c.tm) / rtv - (c.tm - ta) / rtm))
  d.setGch i { c with tv := tv, tm := tm }

/-- The thermal registers show the model in 1/128 °C. -/
def Device.guardShow (d : Device) (i : Fin 4) : Device :=
  let n := i.val + 1
  let c := d.gch i
  let show128 := fun t : Rat => clamp 16 (ratHalfEven (t * 128))
  let d := d.puti (F.GRD_n_TCOIL_EST n) (show128 c.tEst)
  let d := d.puti (F.GRD_n_TCOIL_MODEL n) (show128 c.tv)
  let d := d.puti (F.GRD_n_TMAG_MAG n) (show128 c.tm)
  d.puti (F.GRD_n_TMAG_AMB n) (show128 (d.ambient n))

/-- A valid DC resistance is applied (R343, R365): temperatures from it, and no blind state. -/
def Device.guardRdc (d : Device) (i : Fin 4) (mOhm : Nat) : Device :=
  let n := i.val + 1
  let t := d.tempOf n ((mOhm : Rat) / 1000)
  let d := d.setGch i { d.gch i with
    tv := t, tEst := t, tm := maxRat (d.ambient n) (t - 5), recov := 0, forced := false, atTv := false }
  let d := [F.GRD_n_STAT_BLIND n, F.GRD_n_STAT_RATCHET n, F.GRD_n_STAT_BLONG n, F.GRD_n_STAT_RECOV n,
    F.GRD_n_STAT_RELEASE n].foldl (fun d f => d.setFlag f false) d
  let d := d.put (F.GRD_n_BLINDT_BLOCKS n) 0
  d.log 141 0 n (leBytes 4 mOhm)

/-- The first boundary of a running state after a reset (R343). -/
def Device.guardStart (d : Device) : Device :=
  if d.guard.started then d
  else
    let d := (List.finRange 4).foldl
      (fun d i =>
        let t := d.ambient (i.val + 1) + (d.get (F.GRD_n_TH3_COLD_OFS (i.val + 1)) : Rat)
        d.setGch i { d.gch i with tv := t, tm := t, tEst := t, keff := d.kms0 (i.val + 1) }) d
    { d with guard.started := true }

/-! ### Limits (R344 to R347) -/

/-- L_coil (R344). -/
def Device.coilLimit (d : Device) (i : Fin 4) : Rat :=
  let n := i.val + 1
  let c := d.gch i
  let tl := d.tLimit i
  let rtv := (d.get (F.GRD_n_TH0_RTV n) : Rat) / 1000
  let ctv := (d.get (F.GRD_n_TH1_CTV n) : Rat) / 100
  let hor := (d.get (F.GRD_n_TH2_HORIZON n) : Rat) / 10
  let p := maxRat 0 ((tl - c.tm) / rtv + ctv * (tl - c.tEst) / hor)
  limitRat 0 1 (ratSqrt (2 * p * d.reAt n c.tEst) / d.vref)

/-- Bl(x) in T·m (R345). -/
def Device.blAt (d : Device) (n : Nat) (x : Rat) : Rat :=
  let b0 := d.bl0 n
  maxRat (b0 / 10)
    (b0 * (1 + (d.geti (F.GRD_n_M2_B1 n) : Rat) / 1024 * x + (d.geti (F.GRD_n_M2_B2 n) : Rat) / 1024 * x * x))

/-- K(x) in N/mm (R345). -/
def Device.stiffAt (d : Device) (n : Nat) (keff x : Rat) : Rat :=
  maxRat (keff / 10)
    (keff * (1 + (d.geti (F.GRD_n_M2_K1 n) : Rat) / 1024 * x + (d.geti (F.GRD_n_M2_K2 n) : Rat) / 1024 * x * x))

/-- One substep of an excursion model (R345): velocity first, then position, limited to four times
XMAX. -/
def Device.conesub (d : Device) (n : Nat) (keff cur : Rat) (xv : Rat × Rat) : Rat × Rat :=
  let dt : Rat := 1 / 192000
  let m := (d.get (F.GRD_n_M0_MMS n) : Rat) / 100000
  let rms := (d.get (F.GRD_n_M1_RMS n) : Rat) / 1000
  let f := d.blAt n xv.1 * cur - rms * xv.2 / 1000 - d.stiffAt n keff xv.1 * xv.1
  let v := xv.2 + dt * 1000 * f / m
  (limitRat (-4 * d.xmax n) (4 * d.xmax n) (xv.1 + dt * v), v)

/-- KEFF in force: KMS0 while tracking is off (R345, R359). -/
def Device.keff (d : Device) (i : Fin 4) : Rat :=
  if d.flag (F.GRD_n_RES_EN (i.val + 1)) then (d.gch i).keff else d.kms0 (i.val + 1)

/-- The tracking model over the currents of a block: its state, the largest |x| and the back-EMF Bl(x) × x' in V at the end of
each sample. -/
def Device.trackBlock (d : Device) (i : Fin 4) (cur : List Rat) (s : Rat × Rat) : (Rat × Rat) × Rat × List Rat :=
  let n := i.val + 1
  let k := d.keff i
  cur.foldl
    (fun p a =>
      let s1 := d.conesub n k a p.1
      let s2 := d.conesub n k a s1
      (s2, maxRat p.2.1 (maxRat (absRat s1.1) (absRat s2.1)), p.2.2 ++ [d.blAt n s2.1 * s2.2 / 1000])) (s, 0, [])

/-- The forecast model over the samples of a block that enters the line (R345). -/
def Device.forecastBlock (d : Device) (i : Fin 4) (u : List Rat) (s : Rat × Rat) : (Rat × Rat) × Rat :=
  let n := i.val + 1
  let k := d.keff i
  let re := d.reAt n (d.gch i).tEst
  let vref := d.vref
  let cur := fun (u : Rat) (s : Rat × Rat) => (u * vref - d.blAt n s.1 * s.2 / 1000) / re
  u.foldl
    (fun p a =>
      let s1 := d.conesub n k (cur a p.1) p.1
      let s2 := d.conesub n k (cur a s1) s1
      (s2, maxRat p.2 (maxRat (absRat s1.1) (absRat s2.1)))) (s, 0)

/-- The pilot allowance xp in mm (R346). -/
def Device.pilotTravel (d : Device) (n : Nat) : Rat :=
  if d.flag (F.GRD_n_PILOT_EN n) then d.bl0 n * d.itgt n / d.kms0 n else 0

/-- L_cone of a block that enters with peak `pb` and forecast peak `xb` (R346). -/
def Device.coneLimit (d : Device) (n : Nat) (pb xb : Rat) : Rat :=
  let room := d.xlim n - d.pilotTravel n
  if room < xb then pb * room / xb else 1

/-- The ceiling of a block (R347). -/
def ceilingOf (lcoil lrsv ap : Rat) (b : LineBlock) : Rat :=
  maxRat 0 (minRat (minRat lcoil lrsv) b.cone - ap)

/-- The required gain of a block (R347). -/
def gainOf (lcoil lrsv ap : Rat) (b : LineBlock) : Rat :=
  if b.peak ≤ 0 then 1 else minRat 1 (ceilingOf lcoil lrsv ap b / b.peak)

/-- The limit that binds (R347, R366): the cone wins a tie, then the coil. 0 when every limit is 1. -/
def bindCode (lcoil lrsv : Rat) (blocks : List LineBlock) : Nat :=
  let cone := blocks.foldl (fun m b => minRat m b.cone) 1
  let low := minRat (minRat lcoil lrsv) cone
  if blocks.isEmpty || 1 ≤ low then 0
  else if cone = low then 2 else if lcoil = low then 1 else 3

/-! ### Lookahead line and limiter (R340, R348, R349) -/

/-- The address of a word of a lookahead line. -/
def lineAddr (i : Fin 4) (idx : Nat) : Nat := 0x20060000 + 0x400 * i.val + 4 * (idx % 256)

/-- The read of a lookahead word: an uncorrectable error reads as zero and sets GRD_EVT.ECC (R367). -/
def Device.lineRead (d : Device) (i : Fin 4) (idx : Nat) : Int × Device :=
  match d.readChecked (lineAddr i idx) with
  | (some w, d) => (w.toInt, d)
  | (none, d) => (0, d.setFlag F.GRD_EVT_ECC true)

/-- A block of 16 samples enters the line of a channel; the write index does not move yet. -/
def Device.lineEnter (d : Device) (i : Fin 4) (xs : List Int) : Device :=
  let wp := d.get F.GRD_LINE_WP_INDEX
  let d := (xs.take 16).zipIdx.foldl
    (fun d p => d.storeWord (lineAddr i (wp + p.2)) (BitVec.ofInt 32 p.1)) d
  let u := (xs.take 16).map fun x => (x : Rat) / 2 ^ 31
  let pb := maxList (u.map absRat)
  let c := d.gch i
  let r := d.forecastBlock i u (c.xf, c.vf)
  let lc := d.coneLimit (i.val + 1) pb r.2
  let n := d.get F.GRD_CFG_LOOKAHEAD
  let kept := (c.blocks.map fun b => { b with age := b.age + 1 }).filter fun b => 16 * b.age < n + 16
  let d := d.setGch i { c with xf := r.1.1, vf := r.1.2, blocks := ⟨0, d.stream.lastEpoch, pb, lc⟩ :: kept }
  d.put (F.GRD_n_LIMB_LCONE (i.val + 1)) (toUQ 16 15 lc)

/-- The gain of output sample `j` of the block that begins (R348). -/
def limiterGain (N : Nat) (α lcoil lrsv ap : Rat) (blocks : List LineBlock) (prev : Rat) (j : Nat) :
    Rat :=
  let ga := blocks.foldl
    (fun g b =>
      if N + 16 ≤ 16 * b.age + j then g
      else
        let dist := N - (16 * b.age + j)
        let rb := gainOf lcoil lrsv ap b
        minRat g (rb + (1 - rb) * (dist : Rat) / (N : Rat))) 1
  minRat ga (prev + (1 - prev) * α)

/-- The gain of a ramp of PLAY entry or exit at sample `k` of the block (R225, R226). -/
def Device.rampGain (d : Device) (k : Nat) : Rat :=
  let pos := d.pwr.gainPos + k
  if d.get F.PWR_STAT_PHASE == 3 then ((min (pos + 1) 512 : Nat) : Rat) / 512
  else if d.get F.PWR_STAT_PHASE == 4 then ((511 - pos : Nat) : Rat) / 512
  else 1

/-- Does the Guard add the pilot to a channel (R350, R370)? -/
def Device.pilotActs (d : Device) (i : Fin 4) : Bool :=
  d.flag (F.GRD_n_PILOT_EN (i.val + 1)) && d.isState 3 && !d.limp && d.guardUsed i

/-- The phase of the pilot in turns at its sample `k`. -/
def Device.pilotTurn (d : Device) (i : Fin 4) (k : Nat) : Rat :=
  (d.get (F.GRD_n_PILOT_FREQ (i.val + 1)) : Rat) / 8 * (k : Rat) / 96000

/-- The pilot sample `k` of the block that begins (R350). -/
def Device.pilotSample (d : Device) (i : Fin 4) (k : Nat) : Rat :=
  let c := d.gch i
  if d.pilotActs i then c.ap * sinTurn (d.pilotTurn i (c.pilotK + k)) else 0

/-- The pilot of the block that begins: with no pilot its amplitude is 0, and one that comes on has the amplitude of R350 and
begins a window. -/
def Device.pilotGate (d : Device) (i : Fin 4) : Device :=
  let n := i.val + 1
  let c := d.gch i
  if !d.pilotActs i then d.setGch i { c with ap := 0, pilotOn := false }
  else if c.pilotOn then d
  else d.setGch i { c with
    pilotOn := true, win := .empty, winDone := none
    ap := minRat (1 / 16) (d.itgt n * d.reAt n c.tEst / d.vref) }

/-- One output sample of a channel (R349): the device with the read done, the gain, the sample and its programme and pilot. -/
def Device.guardSample (d : Device) (i : Fin 4) (wp : Nat) (lcoil : Rat) (g : Rat) (j : Nat) :
    Device × Rat × Int × Rat × Rat :=
  let n := i.val + 1
  let N := d.get F.GRD_CFG_LOOKAHEAD
  let c := d.gch i
  let α := oneMinusExp (1 / (960 * (d.get (F.GRD_n_LIM_REL n) : Rat)))
  let g' := limiterGain N α lcoil c.lrsv c.ap c.blocks g j
  let r := d.lineRead i (wp + 512 + j - N - 16)
  let ramp := d.rampGain j
  let pil := d.pilotSample i j * ramp
  let y := (r.1 : Rat) / 2 ^ 31 * g' * ramp
  (r.2, g', clamp 32 (ratHalfEven ((y + pil) * 2 ^ 31)), y, pil)

/-- What the 16 samples of a block give: the gain, the samples, their programme and pilot, and whether a gain was below 1. -/
structure GuardOut where
  gain : Rat
  ys : List Int
  prog : List Rat
  pilot : List Rat
  limited : Bool

/-- The 16 output samples of a channel for the block that begins; `wp` is the write index after the block
entered. -/
def Device.guardBlock (d : Device) (i : Fin 4) (wp : Nat) (lcoil : Rat) : Device :=
  let step := fun (p : Device × GuardOut) (j : Nat) =>
    let r := p.1.guardSample i wp lcoil p.2.gain j
    let o : GuardOut := ⟨r.2.1, p.2.ys ++ [r.2.2.1], p.2.prog ++ [r.2.2.2.1], p.2.pilot ++ [r.2.2.2.2],
      p.2.limited || decide (r.2.1 < 1)⟩
    (r.1, o)
  let r := (List.range 16).foldl step (d, ⟨(d.gch i).gain, [], [], [], false⟩)
  let o := r.2
  let c := r.1.gch i
  let d := r.1.setGch i { c with
    gain := o.gain, limited := o.limited, pilotOut := o.pilot, prog := o.prog, pilotK := c.pilotK + 16 }
  let past := d.stage.guardOut[i]
  let d := { d with
    stage.tail := d.stage.tail.set i (past.drop (past.length - 4)), stage.guardOut := d.stage.guardOut.set i o.ys }
  d.put (F.GRD_n_LIMB_GAIN (i.val + 1)) (toUQ 16 15 o.gain)

/-! ### Resonance tracking (R359) -/

/-- One sample through a filter of order four with the coefficients `c`: its output and its state. -/
def BandFilter.step (c : Nat → Rat) (f : BandFilter) (u : Rat) : Rat × BandFilter :=
  let xs := (u :: f.x).take 5
  let y := (xs.zipIdx.map fun p => c p.2 * p.1).sum - (f.y.zipIdx.map fun p => c (5 + p.2) * p.1).sum
  (y, ⟨xs.take 4, (y :: f.y).take 4⟩)

/-- The tracked resonance in Hz for a stiffness (R359). -/
def Device.resonance (d : Device) (n : Nat) (k : Rat) : Rat :=
  let mms := (d.get (F.GRD_n_M0_MMS n) : Rat) / 100000
  ratSqrt (k * 1000 / mms) / (2 * piRat)

/-- One sample through the tracker (R359): `m` is the terminal voltage and the current, `emf` the back-EMF of the tracking
model. The answer adds the back-EMF in the band and by how much v − Re(T_est) × i exceeds it. -/
def Tracker.step (c : Nat → Rat) (re : Rat) (t : Tracker) (m : Rat × Rat) (emf : Rat) : Tracker × Rat × Rat :=
  let e := t.ef.step c (m.1 - re * m.2)
  let b := t.bf.step c emf
  let a := t.cf.step c m.2
  (⟨e.2, b.2, a.2, t.ms + Config.trackWeight * (a.1 * a.1 - t.ms)⟩, b.1, e.1 - b.1)

/-- The tracker over a block; a sample under R339 does not update it. -/
def Tracker.run (c : Nat → Rat) (re : Rat) (t : Tracker) :
    List (Option (Rat × Rat) × Rat) → Tracker × List (Rat × Rat)
  | [] => (t, [])
  | (none, _) :: l => Tracker.run c re t l
  | (some m, emf) :: l =>
    let s := t.step c re m emf
    let r := Tracker.run c re s.1 l
    (r.1, s.2 :: r.2)

/-- The resonance tracker at a boundary, with the measurements of the block that ends and the back-EMF of the tracking model
(R359). -/
def Device.guardTrack (d : Device) (i : Fin 4) (ms : List (Option (Rat × Rat))) (emf : List Rat) (blind : Bool) :
    Device :=
  let n := i.val + 1
  let c := d.gch i
  let k0 := d.kms0 n
  let t := Tracker.run (Config.trackCoeff (d.resonance n (d.keff i))) (d.reAt n c.tEst) c.trk (ms.zip emf)
  let on := d.flag (F.GRD_n_RES_EN n) && !blind && !t.2.isEmpty &&
    decide ((d.get (F.GRD_n_RES_IMIN n) : Rat) / 1000 ≤ ratSqrt t.1.ms)
  let most := k0 / 100 / 6000
  let r := k0 * (d.get (F.GRD_n_RES_RANGE n) : Rat) / 100
  let want := c.keff + Config.trackStep c.keff t.2
  let k := if on then limitRat (k0 - r) (k0 + r) (limitRat (c.keff - most) (c.keff + most) want)
    else if d.flag (F.GRD_n_RES_EN n) then limitRat (k0 - r) (k0 + r) c.keff else k0
  let d := d.setFlag (F.GRD_n_STAT_RFROZEN n) (!on)
  let d := d.setGch i { c with keff := k, trk := t.1 }
  d.put (F.GRD_n_FS_FS n) (toUQ 16 0 (d.resonance n k * 100))

/-! ### The estimators over a block (R351, R352) -/

/-- The cosine and the sine of a phase in turns. -/
def cosSin (p : Rat) : Rat × Rat := (sinTurn (p + 1 / 4), sinTurn p)

/-- Adds a value times a phasor to a sum. -/
def addTurn (s w : Rat × Rat) (v : Rat) : Rat × Rat := (s.1 + v * w.1, s.2 + v * w.2)

/-- One sample of a pilot window: a sample under R339 adds to its length alone. -/
def PilotWindow.step (p : PilotWindow) (w : Rat × Rat) (m : Option (Rat × Rat)) (y : Rat) : PilotWindow :=
  match m with
  | none => { p with len := p.len + 1 }
  | some m => ⟨p.len + 1, p.used + 1, addTurn p.v w m.1, addTurn p.i w m.2, addTurn p.y w y⟩

/-- Has a window lasted PERIODS pilot periods (R351)? A period is 768,000 / FREQ samples. -/
def Device.windowFull (d : Device) (n : Nat) (p : PilotWindow) : Bool :=
  decide (d.get (F.GRD_n_PWIN_PERIODS n) * 768000 ≤ p.len * d.get (F.GRD_n_PILOT_FREQ n))

/-- The pilot estimator over the block that ends (R351): a window that becomes full waits for its command, with the amplitude
of the pilot over it, and the next begins. -/
def Device.pilotBlock (d : Device) (i : Fin 4) (ms : List (Option (Rat × Rat))) : Device :=
  let n := i.val + 1
  let c := d.gch i
  if !c.pilotOn then d
  else
    let step := fun (s : PilotWindow × Option (PilotWindow × Rat)) (p : (Option (Rat × Rat) × Rat) × Nat) =>
      let w := s.1.step (cosSin (d.pilotTurn i (c.pilotK + p.2 - 16))) p.1.1 p.1.2
      if d.windowFull n w then (PilotWindow.empty, some (w, c.ap)) else (w, s.2)
    let r := (ms.zip c.prog).zipIdx.foldl step (c.win, c.winDone)
    d.setGch i { c with win := r.1, winDone := r.2 }

/-- One sample of the broadband estimator (R352): `g` is the part of its weight that a sum keeps per sample. -/
def BandEstimator.step (c : Nat → Rat) (g : Rat) (b : BandEstimator) (m : Rat × Rat) : BandEstimator :=
  let v := b.vf.step c m.1
  let a := b.cf.step c m.2
  let s := ((a.1 :: b.cf.y).zipIdx.map fun p => Config.slopeTap p.2 * p.1).sum
  { vf := v.2, cf := a.2, sii := g * b.sii + a.1 * a.1, sid := g * b.sid + a.1 * s, sdd := g * b.sdd + s * s
    svi := g * b.svi + v.1 * a.1, svd := g * b.svd + v.1 * s, len := b.len, used := b.used + 1
    sq := b.sq + a.1 * a.1 }

/-- Re of the least squares: where the sums leave no single minimum, the manual gives no value, and it is free. -/
def BandEstimator.re (b : BandEstimator) : Rat :=
  let num := b.svi * b.sdd - b.svd * b.sid
  let den := b.sii * b.sdd - b.sid * b.sid
  if den = 0 then Config.overZero num else num / den

/-- The broadband estimator over the block that ends: an interval of 12,000 samples leaves a report that waits for its
command. -/
def Device.bandBlock (d : Device) (i : Fin 4) (ms : List (Option (Rat × Rat))) : Device :=
  let n := i.val + 1
  let c := d.gch i
  let co := Config.bandCoeff (d.get (F.GRD_n_BB_FLO n)) (d.get (F.GRD_n_BB_FHI n))
  let g := 1 - oneMinusExp (1 / (12000 * 2 ^ d.get (F.GRD_n_BB_TC n)))
  let b := (ms.filterMap id).foldl (fun b m => b.step co g m) c.bb
  let len := b.len + 16
  if len < 12000 then d.setGch i { c with bb := { b with len := len } }
  else d.setGch i { c with
    bb := { b with len := 0, used := 0, sq := 0 }
    bandDone := some ⟨b.re, if b.used = 0 then 0 else ratSqrt (b.sq / b.used)⟩ }

/-! ### Events (R361) -/

/-- The events of a channel at a boundary. -/
def Device.guardEvents (d : Device) (i : Fin 4) (limited : Bool) : Device :=
  let n := i.val + 1
  let c := d.gch i
  let d := if limited then d.fire (32 + i.val) else d
  let tw : Rat := d.get (F.GRD_n_TH2_TWARN n)
  let d :=
    if c.tArmed && decide (tw ≤ c.tEst) then
      ((d.setGch i { d.gch i with tArmed := false }).orField F.GRD_EVT_TWARN (2 ^ i.val)).fire 38
    else if c.tEst < tw - 5 then d.setGch i { d.gch i with tArmed := true } else d
  if c.xArmed && decide (d.xmax n < c.xPeak) then
    ((d.setGch i { d.gch i with xArmed := false }).orField F.GRD_EVT_XWARN (2 ^ i.val)).fire 39
  else if c.xPeak < d.xlim n then d.setGch i { d.gch i with xArmed := true } else d

/-- Re(Vp / Ip) in Ω of a window; a window that measured no current gives no quotient, and the value is free. -/
def PilotWindow.re (p : PilotWindow) : Rat :=
  let num := p.v.1 * p.i.1 + p.v.2 * p.i.2
  let den := p.i.1 * p.i.1 + p.i.2 * p.i.2
  if den = 0 then Config.overZero num else num / den

/-- The amplitude of a demodulated sum over the samples of a window. -/
def PilotWindow.amp (p : PilotWindow) (s : Rat × Rat) : Rat :=
  if p.used = 0 then 0 else 2 * ratSqrt (s.1 * s.1 + s.2 * s.2) / p.used

/-- The pilot window of a channel ends (R350, R351): the result waits for the boundary and the amplitude
follows the measured current. -/
def Device.pilotWindowEnd (d : Device) (i : Fin 4) : Device :=
  let n := i.val + 1
  let c := d.gch i
  match c.winDone with
  | none => d
  | some (w, ap) =>
    let ip := w.amp w.i
    let q := if ip = 0 then Config.pilotRatio (d.itgt n) else d.itgt n / ip
    d.setGch i { c with
      winDone := none, pendP := some ⟨w.re, ip, w.amp w.y, ap⟩
      ap := if c.pilotOn then minRat (1 / 16) (c.ap * limitRat (1 / 2) 2 q) else c.ap }

/-- The broadband estimator reports (R352): Re and Iband of the interval wait for the boundary. -/
def Device.broadbandReport (d : Device) (i : Fin 4) : Device :=
  let c := d.gch i
  match c.bandDone with
  | none => d
  | some r => d.setGch i { c with bandDone := none, pendB := some r }

/-- The pilot starts at zero phase at the first sample of PLAY (R350). -/
def Device.pilotStart (d : Device) : Device :=
  (List.finRange 4).foldl (fun d i => d.setGch i { d.gch i with pilotK := 0, pilotOn := false }) d

/-! ### The boundary (R362) -/

/-- Step 1 of R362 with the block that ends: results and selections take effect (R353), and an unusable sample or limp drops
both confidences (R339, R370). With the pilot disabled the broadband estimator is active (R353). -/
def Device.guardResults (d : Device) (sense : Vector (Vector Word 16) 10) : Device :=
  let d := d.guardStart
  (List.finRange 4).foldl
    (fun d i =>
      if !d.guardUsed i then d
      else
        let n := i.val + 1
        let usable := (d.guardCurrents sense i).all fun a => a.isSome
        let d := if d.flag (F.GRD_n_PILOT_EN n) then d else d.put (F.GRD_n_STAT_EST n) 1
        let d := d.setFlag (F.GRD_n_STAT_UNSET n) (!usable || (d.ambient? n).isNone)
        let d := d.guardTake i
        if usable && !d.limp then d
        else (d.dropConfidence n).setGch i
          { d.gch i with taken := (d.gch i).taken.map fun r => { r with conf := 0 } }) d

/-- R360: what the Reservoir and the load diagnostics use at the next boundary. -/
def Device.guardLatch (d : Device) (i : Fin 4) (peak : Rat) : Device :=
  let n := i.val + 1
  let c := d.gch i
  d.setGch i { c with
    tEstL := c.tEst, tLim := d.tLimit i, xMargin := d.xlim n - d.pilotTravel n - peak, reL := c.taken
    fsL := d.resonance n (d.keff i) }

/-- Steps 2 to 4 of R362 and the excursion model, the estimators and the tracker with the block that ends. -/
def Device.guardModels (d : Device) (sense : Vector (Vector Word 16) 10) : Device :=
  (List.finRange 4).foldl
    (fun d i =>
      if !d.guardUsed i then d
      else
        let n := i.val + 1
        let ms := d.guardMeasures sense i
        let cur := ms.map fun m => m.map Prod.snd
        let blind := d.blindNow i
        let d := ((d.guardBlind i).guardPublish i).guardCorrect i
        let c := d.gch i
        let tr := d.trackBlock i (cur.map fun a => a.getD 0) (c.xt, c.vt)
        let d := d.setGch i { c with xt := tr.1.1, vt := tr.1.2, xPeak := tr.2.1 }
        let d := d.put (F.GRD_n_X_XPK n) (max (d.get (F.GRD_n_X_XPK n)) (toUQ 16 0 (tr.2.1 * 100)))
        let d := d.guardThermal i (d.guardPower i cur)
        let d := (d.pilotBlock i ms).bandBlock i ms
        ((d.guardTrack i ms tr.2.2 blind).guardLatch i tr.2.1).guardShow i) d

/-- Step 6 of R362 and the block that begins: the samples `outs` enter the lines, ceilings and gains are
computed and the block leaves (R347 to R349). -/
def Device.guardOutputs (d : Device) (outs : Vector (List Int) 4) (lrsv : Vector Rat 4) : Device :=
  let d := (List.finRange 4).foldl
    (fun d i => if d.guardUsed i then d.lineEnter i outs[i] else d) d
  let wp := (d.get F.GRD_LINE_WP_INDEX + 16) % 256
  let d := d.put F.GRD_LINE_WP_INDEX wp
  (List.finRange 4).foldl
    (fun d i =>
      if !d.guardUsed i then d
      else
        let n := i.val + 1
        let d := d.pilotGate i
        let lc := d.coilLimit i
        let d := d.setGch i { d.gch i with lrsv := lrsv[i] }
        let d := d.put (F.GRD_n_LIMA_LCOIL n) (toUQ 16 15 lc)
        let d := d.put (F.GRD_n_LIMA_LRSV n) (toUQ 16 15 lrsv[i])
        let d := d.put (F.GRD_n_STAT_BIND n) (bindCode lc lrsv[i] (d.gch i).blocks)
        d.guardBlock i wp lc) d

/-- The events of the block that ends. -/
def Device.guardReport (d : Device) : Device :=
  (List.finRange 4).foldl
    (fun d i => if d.guardUsed i then d.guardEvents i (d.gch i).limited else d) d

/-- A read of the lookahead line finds an uncorrectable error in the block that leaves (R367): output
sample `j` of the channel leaves with zero in place of the programme. -/
def Device.lineError (d : Device) (i : Fin 4) (j : Fin 16) : Device :=
  if !(d.running && d.guardUsed i) then d
  else
    let wp := d.get F.GRD_LINE_WP_INDEX
    let a := lineAddr i (wp + 512 + j.val - d.get F.GRD_CFG_LOOKAHEAD - 16)
    let d := ((d.strike a .multi).eccUncorr a).setFlag F.GRD_EVT_ECC true
    let pil := (d.gch i).pilotOut.getD j.val 0
    let out := (d.stage.guardOut[i]).set j.val (clamp 32 (ratHalfEven (pil * 2 ^ 31)))
    { d with stage.guardOut := d.stage.guardOut.set i out }

/-- After a debug halt of the STREAM domain every channel counts as blind for long (R369). -/
def Device.guardResume (d : Device) : Device :=
  (List.finRange 4).foldl
    (fun d i =>
      (d.put (F.GRD_n_BLINDT_BLOCKS (i.val + 1)) d.blindLongBlocks).setGch i
        { d.gch i with forced := true }) d

end Sys2Proof.Machine
end

