-- ==== Sys2Proof/Machine/DiagOps.lean ====
section
/-! DEFINITION. Load diagnostics (R376 to R397): pre-start runs, sweeps, continuous checks and the
DC-on-load detector. -/

namespace Sys2Proof.Machine

/-! ### Starting a run (R376, R384) -/

/-- A run before its first boundary. -/
def DiagRun.fresh (sweep inEntry : Bool) (mask : Nat) : DiagRun :=
  { sweep := sweep, inEntry := inEntry, begun := false, mask := mask, step := .a, blocks := 0, failed := 0
    results := .replicate 4 ⟨0, 0, false, none⟩, cfg := 0, pre := 0, limits := .replicate 4 0
    elec := .replicate 4 0, th2 := .replicate 4 0, th3 := .replicate 4 0, lc := 0, sweepCfg := 0, sweepLvl := 0
    point := 0, phase := Config.sweepPhase, lim := 0, current := .replicate 4 0, sum := .replicate 4 0, bad := 0
    pointDone := false }

/-- A run begins at the next block boundary. -/
def Device.diagStart (d : Device) (sweep inEntry : Bool) (mask : Nat) : Device :=
  { d with diag.run := some (.fresh sweep inEntry mask) }.put F.DIAG_STAT_RUN (if sweep then 2 else 1)

/-- The channels a mask names that exist in the mode in force. -/
def Device.diagMask (d : Device) (mask : Nat) : Nat := if d.pbtl2 then mask % 4 else mask % 16

/-- The conditions of R384 for PRESTART and SWEEP. -/
def Device.diagMayStart (d : Device) (sweep : Bool) (mask : Nat) : Bool :=
  d.running && d.isState 2 && d.get F.PWR_STAT_PHASE == 0 && d.get F.PWR_STAT_MAIN == 2 &&
    d.flag F.PWR_STAT_PRES && d.flag F.PWR_STAT_DRV_OK && !d.anyFault && d.diag.run.isNone &&
    mask != 0 && (!sweep || (mask &&& d.get F.DIAG_HOLD_HOLD) == 0)

/-- An accepted write of DIAG_CMD acts on the runs (R384, R390). -/
def Device.diagCommand (d : Device) (op mask : Nat) : Device :=
  match op with
  | 1 => d.diagStart false false (d.diagMask mask)
  | 2 => d.diagStart true false (d.diagMask mask)
  | 3 => d.diagStop
  | _ => d

/-- The test current in A (R378). -/
def DiagRun.itest (r : DiagRun) : Rat := 25 * 2 ^ (fieldOf r.cfg 4 2) / 1000

/-- The current of a channel under test in A that its switch nodes source, `blocks` into the step (R376): steps A and B act on
every switch node, the others on the positive ones. -/
def DiagRun.currentAt (r : DiagRun) (blocks : Nat) : Rat :=
  let ramp : Rat := 6 * fieldOf r.pre 0 8
  let rise := (1 - sinTurn (limitRat 0 1 ((blocks : Rat) / ramp) / 2 + 1 / 4)) / 2
  match r.step with
  | .a => -2 / 1000
  | .b => 2 / 1000
  | .c => r.itest * rise
  | .d | .e => r.itest
  | .f => r.itest * (1 - rise)
  | _ => 0

/-- The currents of the step as they stand; a channel that failed step A or B drives none from step C on. While an aborted run
falls, the current that it had goes to zero. -/
def DiagRun.showCurrent (r : DiagRun) : DiagRun :=
  let short := r.step == .a || r.step == .b
  if r.step == .fall then
    { r with current := r.current.map fun a => if r.blocks < 6 then a * Config.abortRamp (16 * r.blocks) else 0 }
  else { r with
    current := Vector.ofFn fun i : Fin 4 =>
      if r.mask.testBit i.val && (short || !r.failed.testBit i.val) then r.currentAt r.blocks else 0 }

/-- The first boundary of a run latches what it uses (R376); a sweep clears VALID in every entry
(R385). -/
def Device.diagLatch (d : Device) (r : DiagRun) : Device :=
  let r := { r with
    begun := true, blocks := 0, cfg := d.word R.DIAG_CFG, pre := d.word R.DIAG_PRE
    limits := Vector.ofFn fun i : Fin 4 => d.word (R.DIAG_n_LIMIT (i.val + 1))
    elec := Vector.ofFn fun i : Fin 4 => d.word (R.GRD_n_ELEC (i.val + 1))
    th2 := Vector.ofFn fun i : Fin 4 => d.word (R.GRD_n_TH2 (i.val + 1))
    th3 := Vector.ofFn fun i : Fin 4 => d.word (R.GRD_n_TH3 (i.val + 1))
    lc := d.word R.DIAG_LC, sweepCfg := d.word R.DIAG_SWEEP_CFG, sweepLvl := d.word R.DIAG_SWEEP_LVL }
  let d := { d with diag.run := some r.showCurrent, stage.drive := .diag }
  if r.sweep then
    (List.range 4).foldl
      (fun d i =>
        let d := (d.put (F.DIAG_n_SWST_NPTS (i + 1)) 0).setFlag (F.DIAG_n_SWST_DONE (i + 1)) false
        (List.range 64).foldl
          (fun d m =>
            let f := F.DIAG_n_SW_m_WORD (i + 1) m 0
            d.put ⟨f.addr, 22, 1⟩ 0) d) d
  else d

/-! ### Steps and results (R376, R377) -/

/-- The blocks a step lasts: 6 for each millisecond. -/
def DiagRun.stepBlocks (r : DiagRun) : Nat :=
  match r.step with
  | .a | .b => 6
  | .c | .f => 6 * fieldOf r.pre 0 8
  | .d => 6 * fieldOf r.pre 8 8
  | .e => 6 * fieldOf r.pre 16 6
  | _ => 0

/-- Replaces the result of a channel. -/
def DiagRun.setResult (r : DiagRun) (i : Fin 4) (q : DiagResult) : DiagRun :=
  { r with results := r.results.set i q }

/-- Steps A and B: a channel with a switch node beyond the limit fails with `code`. -/
def DiagRun.judgeShort (r : DiagRun) (code : Nat) (beyond : Vector (Option Bool) 4) : DiagRun :=
  (List.finRange 4).foldl
    (fun r i =>
      match beyond[i] with
      | some neg =>
        if r.mask.testBit i.val && !r.failed.testBit i.val then
          { r.setResult i ⟨code, neg.toNat, false, none⟩ with failed := r.failed + 2 ^ i.val }
        else r
      | none => r) r

/-- The result of a channel at the end of step E (R377). -/
def Device.judgeRdc (d : Device) (r : DiagRun) (i : Fin 4) (x : StepIn) : DiagResult :=
  let rdc := r.sum[i] / (16 * r.stepBlocks : Nat) / r.itest
  let mOhm := (ratHalfEven (rdc * 1000)).toNat
  let lim := r.limits[i]
  let rmin : Rat := (fieldOf lim 0 16 : Rat) / 100
  let rmax : Rat := (fieldOf lim 16 16 : Rat) / 100
  let re0 : Rat := (fieldOf r.elec[i] 0 16 : Rat) / 1000
  let alpha : Rat := (fieldOf r.elec[i] 16 13 : Rat) / 1000000
  let tmax : Rat := fieldOf r.th2[i] 0 8
  let t0 : Rat := fieldOf r.th2[i] 24 8
  let tr := t0 + (rdc / re0 - 1) / alpha
  let low : Rat := fieldOf r.lc 0 8
  let high : Rat := fieldOf r.lc 8 8
  let shown := if x.compliance[i] then 0xFFFFF else min mOhm 0xFFFFF
  let code :=
    if x.compliance[i] || decide (rmax < rdc) then 5
    else if rdc < rmin then 4
    else if tr < d.ambientBy r.th3[i] - low || tmax + high < tr then 6
    else 1
  ⟨code, 0, code == 1 && !r.bad.testBit i.val, some shown⟩

/-- Every channel under test that has no result receives PASS. -/
def DiagRun.passRest (r : DiagRun) : DiagRun :=
  { r with results := r.results.mapFinIdx fun i q _ =>
      if r.mask.testBit i && q.result == 0 then { q with result := 1 } else q }

/-- The run goes on with another step. -/
def Device.diagNext (d : Device) (r : DiagRun) (s : DiagStep) : Device :=
  { d with diag.run := some { r with step := s, blocks := 0, sum := .replicate 4 0, bad := 0 }.showCurrent }

/-- Steps A and B are over: a pre-start run goes on with the test current or ends, a sweep goes on with
the bootstrap precharge when both passed. The flag says that the run ended. -/
def Device.afterShorts (d : Device) (r : DiagRun) : Device × Bool :=
  if r.sweep then
    if r.failed == 0 then (d.diagNext r .await, false) else (d.diagEnd r.passRest false, true)
  else if fieldOf r.cfg 1 1 == 1 then (d.diagNext r .c, false)
  else (d.diagEnd r.passRest false, true)

/-- A pre-start step ends and is judged, and the next begins (R376). The flag says that the run ended. -/
def Device.prestartStep (d : Device) (x : StepIn) : Device × Bool :=
  match d.diag.run with
  | none => (d, false)
  | some r =>
    if !r.begun || r.blocks < r.stepBlocks || !d.atBoundary then (d, false)
    else
      match r.step with
      | .a => (d.diagNext (r.judgeShort 2 x.beyond) .b, false)
      | .b => d.afterShorts (r.judgeShort 3 x.beyond)
      | .c => (d.diagNext r .d, false)
      | .d => (d.diagNext r .e, false)
      | .e =>
        let r := (List.finRange 4).foldl
          (fun r i =>
            if r.mask.testBit i.val && !r.failed.testBit i.val then r.setResult i (d.judgeRdc r i x)
            else r) r
        (d.diagNext r .f, false)
      | .f => (d.diagEnd r.passRest false, true)
      | _ => (d, false)

/-! ### Sweep points (R383, R385) -/

/-- The frequency of point `m` in 0.01 Hz: the nearest to FSTART × (FSTOP / FSTART)^(m / (POINTS − 1)). -/
def DiagRun.pointFreq (r : DiagRun) (m : Nat) : Nat :=
  let a := fieldOf r.sweepCfg 0 16
  let b := fieldOf r.sweepCfg 16 16
  let k := fieldOf r.sweepLvl 8 7 - 1
  let target := a ^ (k - m) * b ^ m * 200 ^ k
  lastBelow (fun n => n == 0 || (2 * n - 1) ^ k ≤ target) 23 0

/-- The corner of the DC-on-load detector in Hz (R388). -/
def Device.dcCorner (d : Device) : Rat := [2, 5, 10].getD (d.get F.DIAG_DC_CFG_FC) 10

/-- The level of the DC-on-load detector in V. -/
def Device.dcLevel (d : Device) : Rat := (d.get F.DIAG_DC_CFG_LEVEL : Rat) / 2

/-- The square of the largest amplitude in volts at which the DC-on-load detector cannot trip (R383), at a frequency in
0.01 Hz. -/
def Device.sineMost (d : Device) (f : Nat) : Rat := d.dcLevel ^ 2 / 4 * (1 + ((f : Rat) / 100 / d.dcCorner) ^ 4)

/-- The amplitude of the sine in volts before it is lowered. -/
def DiagRun.sineLevel (r : DiagRun) : Rat := (fieldOf r.sweepLvl 0 7 : Rat) / 10

/-- Was the amplitude of a point lowered so that the DC-on-load detector cannot trip (R383)? -/
def Device.pointLowered (d : Device) (r : DiagRun) (f : Nat) : Bool := decide (d.sineMost f < r.sineLevel ^ 2)

/-- The gain of the sine at sample `k` of the block that enters the line: none while the run drives no sine. The step
after the ramp-out begins with its last block. -/
def DiagRun.sineGain (r : DiagRun) (k : Nat) : Option Rat :=
  match r.step with
  | .sineIn => some (Config.sweepRamp true (16 * r.blocks + k))
  | .settle | .measure => some 1
  | .sineOut => some (if r.blocks == 0 then 1 else Config.sweepRamp false (16 * (r.blocks - 1) + k))
  | .gatesOff => some (Config.sweepRamp false (80 + k))
  | .sineFall => some (Config.abortRamp (16 * r.blocks + k))
  | _ => none

/-- The sine of a sweep in place of the output window (R383): the block of each channel, and the phase moved on. -/
def Device.sweepSine (d : Device) (outs : Vector (List Int) 4) : Vector (List Int) 4 × Device :=
  match d.diag.run with
  | none => (outs, d)
  | some r =>
    match r.sineGain 0 with
    | none => (outs, d)
    | some _ =>
      let f := r.pointFreq r.point
      let turns : Rat := (f : Rat) / 100 / 96000
      let volts := if d.pointLowered r f then ratSqrt (d.sineMost f) else r.sineLevel
      let xs := (List.range 16).map fun k =>
        clamp 32 (ratHalfEven (volts / d.vref * (r.sineGain k).getD 0 * sinTurn (r.phase + turns * k) * 2 ^ 31))
      let p := r.phase + turns * 16
      (Vector.ofFn fun i : Fin 4 => if r.mask.testBit i.val then xs else List.replicate 16 0,
        { d with diag.run := some { r with phase := p - p.floor } })

/-- The channels of a run whose Guard gain was below 1 in the block that ended. -/
def Device.limitedMask (d : Device) : Nat :=
  ((List.finRange 4).map fun i => if (d.gch i).limited then 2 ^ i.val else 0).sum

/-- The words of a sweep entry (R385). -/
def sweepWords (f : Nat) (limited clean : Bool) (x : SweepIn) : Word × Word :=
  let lowi := decide (x.amp < 20 / 1000)
  let ph := limitRat (-1800) 1800 (x.phase * 10)
  (BitVec.ofNat 32 (f % 2 ^ 22 + 2 ^ 22 * clean.toNat + 2 ^ 23 * limited.toNat + 2 ^ 24 * lowi.toNat),
    BitVec.ofInt 12 (ratHalfEven ph) ++ BitVec.ofNat 20 (min (ratHalfEven (x.mag * 1000)).toNat 1048575))

/-- The STREAM cycles that a point measures, times its frequency in 0.01 Hz: the smallest whole number of periods that lasts at
least max(8 / f, MEAS ms) (R383). -/
def DiagRun.measureCycles (r : DiagRun) : Nat :=
  let f := r.pointFreq r.point
  max 8 ((fieldOf r.sweepLvl 16 8 * f + 99999) / 100000) * 100 * 196608000

/-- Has the point been measured for its time? -/
def Device.pointFull (d : Device) (r : DiagRun) : Bool :=
  r.step == .measure && !r.pointDone &&
    decide (r.measureCycles ≤ (r.blocks * 32768 + d.cget .s F.ST_BLKCYC_CYCLE) * r.pointFreq r.point)

/-- The channels of a run with an unusable sample of their terminal or current lane in the block (R377, R397). -/
def Device.lanesBad (d : Device) : Nat :=
  ((List.finRange 4).map fun i =>
    let ls := d.guardLanes i
    if (List.range 16).all fun k => (ls.1 :: ls.2).all fun l => d.laneUsable l k then 0 else 2 ^ i.val).sum

/-- A sweep point completes: its entries are written. The next point, or the ramp-out, begins at the next boundary. -/
def Device.sweepPoint (d : Device) (x : Vector SweepIn 4) : Device :=
  match d.diag.run with
  | none => d
  | some r =>
    if !d.pointFull r then d
    else
      let f := r.pointFreq r.point
      let bad := r.bad ||| d.lanesBad
      let d := (List.finRange 4).foldl
        (fun d i =>
          if r.mask.testBit i.val then
            let w := sweepWords f (d.pointLowered r f || r.lim.testBit i.val || (d.gch i).limited)
              (!bad.testBit i.val) x[i]
            let d := d.setWord (F.DIAG_n_SW_m_WORD (i.val + 1) r.point 0).addr w.1
            let d := d.setWord (F.DIAG_n_SW_m_WORD (i.val + 1) r.point 1).addr w.2
            d.bump (F.DIAG_n_SWST_NPTS (i.val + 1))
          else d) d
      { d with diag.run := some { r with pointDone := true } }

/-- The boundary after a point: the next point settles, or the sine ramps out. -/
def Device.nextPoint (d : Device) (r : DiagRun) : Device :=
  let r := { r with pointDone := false, lim := 0 }
  if r.point + 1 < fieldOf r.sweepLvl 8 7 then
    (d.diagNext { r with point := r.point + 1 } .settle).put F.DIAG_STAT_POINT (r.point + 1)
  else d.diagNext r .sineOut

/-- The blocks a point settles: max(4 / f, 1.333 ms), rounded up to whole blocks. -/
def DiagRun.settleBlocks (r : DiagRun) : Nat :=
  let f := r.pointFreq r.point
  max 8 ((4 * 100 * 6000 + f - 1) / max f 1)

/-- A sweep ends: its channels passed. -/
def Device.sweepEnd (d : Device) (r : DiagRun) : Device :=
  let d := (List.finRange 4).foldl
    (fun d i => if r.mask.testBit i.val then d.setFlag (F.DIAG_n_SWST_DONE (i.val + 1)) true else d) d
  d.diagEnd r.passRest false

/-- What the block that ends adds to a run: the terminal voltages of step E (R377), the samples that spoil it or the point
(R397), and the Guard's limiting of the point (R385). -/
def Device.diagBlock (d : Device) (r : DiagRun) (sense : Vector (Vector Word 16) 10) : DiagRun :=
  let sums : Vector Rat 4 := Vector.ofFn fun i : Fin 4 =>
    let l := (d.guardLanes i).1
    r.sum[i] + (sense[l].toList.map (d.senseVolts l.val)).sum
  match r.step with
  | .e => if r.blocks < r.stepBlocks then { r with sum := sums, bad := r.bad ||| d.lanesBad } else r
  | .measure => if r.pointDone then r else { r with bad := r.bad ||| d.lanesBad, lim := r.lim ||| d.limitedMask }
  | _ => r

/-- The run at a block boundary: its first boundary latches, and the timed steps advance. -/
def Device.diagBoundary (d : Device) (sense : Vector (Vector Word 16) 10) : Device :=
  match d.diag.run with
  | none => d
  | some r =>
    if !r.begun then d.diagLatch r
    else
      let r := d.diagBlock r sense
      let r := { r with blocks := r.blocks + 1 }.showCurrent
      let d := { d with diag.run := some r }
      match r.step with
      | .bootstrap =>
        if 2 ≤ r.blocks then
          { (d.diagNext r .sineIn).clearShapers with stage.drive := .sweep }
        else d
      | .sineIn => if 6 ≤ r.blocks then (d.diagNext r .settle).put F.DIAG_STAT_POINT 0 else d
      | .settle => if r.settleBlocks ≤ r.blocks then d.diagNext { r with lim := 0 } .measure else d
      | .measure => if r.pointDone then d.nextPoint r else d
      | .sineOut => if 6 ≤ r.blocks then d.diagNext r .gatesOff else d
      | .gatesOff => d.sweepEnd r
      | .fall | .sineFall => if 6 ≤ r.blocks then d.diagEnd r.abortUnjudged true else d
      | _ => d

/-- The bootstrap precharge of a sweep begins 200 µs before a boundary (R225, R383). -/
def Device.sweepBootstrap (d : Device) : Device :=
  match d.diag.run with
  | some r =>
    if r.step == .await then { d.diagNext r .bootstrap with stage.drive := .bootstrap } else d
  | none => d

/-! ### Continuous checks (R387, R393) -/

/-- One judgement of one check: the new counts, and whether it begins to hold. -/
def LoadCheck.judge (c : LoadCheck) (count : Nat) (found : Bool) : LoadCheck × Bool :=
  let f := if found then c.found + 1 else 0
  let a := if found then 0 else c.absent + 1
  if !c.holds && count ≤ f then (⟨f, a, true⟩, true)
  else if c.holds && count ≤ a then (⟨f, a, false⟩, false)
  else (⟨f, a, c.holds⟩, false)

/-- The judgement of each kind on a channel at this boundary, in code order; none where the kind is not
judged. The estimates and the tracked resonance are those that R360 latched. -/
def Device.loadFindings (d : Device) (sense : Vector (Vector Word 16) 10) (i : Fin 4) :
    List (Option Bool) :=
  let n := i.val + 1
  let c := d.gch i
  let min : Nat := d.get F.GRD_CONF_MIN_VALUE
  let good : Option Rat := match c.reL with
    | some r => if !r.discarded && min ≤ r.conf then some (d.tempOf n r.re) else none
    | none => none
  let low : Rat := d.get F.DIAG_LC_TOL_LOW
  let high : Rat := d.get F.DIAG_LC_TOL_HIGH
  let out := rmsRat (d.guardOutput i)
  let cur := rmsRat ((d.guardCurrents sense i).map fun a => a.getD 0)
  let rmax : Rat := (d.get (F.DIAG_n_LIMIT_RMAX n) : Rat) / 100
  let f0 := d.resonance n (d.kms0 n)
  [good.map fun t => decide (t < d.ambient n - low),
   good.map fun t => decide ((d.get (F.GRD_n_TH2_TMAX n) : Rat) + high < t),
   c.reL.map fun r => r.discarded,
   if (1 / 20 : Rat) ≤ out then some (decide (cur < out * d.vref / (4 * rmax))) else none,
   if d.flag (F.GRD_n_STAT_RFROZEN n) then none
   else some (decide ((d.get F.DIAG_LC_FTOL : Rat) / 100 * f0 < absRat (c.fsL - f0)))]

/-- One kind (code `k + 1`) on one channel. -/
def Device.loadCheck (d : Device) (i : Fin 4) (k : Fin 5) (found : Bool) : Device :=
  let c := (d.diag.checks[i])[k]
  let r := c.judge (d.get F.DIAG_LC_COUNT) found
  let d := { d with diag.checks := d.diag.checks.set i ((d.diag.checks[i]).set k r.1) }
  let n := i.val + 1
  let d := d.setFlag (F.DIAG_n_LC_ACTIVE n) ((d.diag.checks[i]).toList.any fun c => c.holds)
  if r.2 then
    let d := (d.put (F.DIAG_n_LC_KIND n) (k.val + 1)).orField F.DIAG_EVT_LC (2 ^ i.val)
    d.raise 40 n (leBytes 1 (k.val + 1))
  else d

/-- The continuous checks of a boundary in PLAY (R387). -/
def Device.loadChecks (d : Device) (sense : Vector (Vector Word 16) 10) : Device :=
  if !d.isState 3 then d
  else
    (List.finRange 4).foldl
      (fun d i =>
        if !d.guardUsed i then d
        else
          ((d.loadFindings sense i).zip (List.finRange 5)).foldl
            (fun d p => match p.1 with
              | some found => d.loadCheck i p.2 found
              | none => d) d) d

/-! ### DC-on-load detector (R388) -/

/-- A value cut to a multiple of 2⁻⁶⁰. -/
def cut60 (v : Rat) : Rat := ((v * 2 ^ 60).floor : Rat) / 2 ^ 60

/-- One sample of 1/96,000 s of a terminal voltage `u` through the detector: the second-order Butterworth low-pass with its corner
at `fc` Hz, solved exactly for a voltage that holds over the sample, and the timer, which a fall below the level or a change of
sign resets. -/
def DcDetector.step (fc level : Rat) (s : DcDetector) (u : Rat) : DcDetector :=
  let a := ratSqrt 2 * piRat * fc
  let x := a / 96000
  let g := 1 - oneMinusExp x
  let c := 1 - x ^ 2 / 2 + x ^ 4 / 24 - x ^ 6 / 720
  let n := x - x ^ 3 / 6 + x ^ 5 / 120
  let e := s.y - u
  let y := cut60 (u + g * (e * c + (s.w / a + e) * n))
  let w := cut60 (g * (s.w * c - (s.w + 2 * a * e) * n))
  let same := decide (y < 0) == decide (s.y < 0)
  ⟨y, w, if absRat y < level then 0 else if same then s.timer + 1 else 1⟩

/-- Does the detector of a channel act? -/
def Device.dcActs (d : Device) (n : Fin 4) : Bool :=
  d.running && (d.get F.DIAG_DC_CFG_EN).testBit n.val && n.val < d.outputs

/-- The detector of a channel takes the terminal voltages of some samples, and DC_NOW follows. One that does not act stands at
rest. -/
def Device.dcTake (d : Device) (n : Fin 4) (vs : List Rat) : Device :=
  if d.dcActs n then
    let s := vs.foldl (DcDetector.step d.dcCorner d.dcLevel) d.diag.dc[n]
    let d := { d with diag.dc := d.diag.dc.set n s }
    if d.dcLevel ≤ absRat s.y then d.orField F.DIAG_STAT_DC_NOW (2 ^ n.val)
    else d.andNotField F.DIAG_STAT_DC_NOW (2 ^ n.val)
  else { d with diag.dc := d.diag.dc.set n ⟨0, 0, 0⟩ }.andNotField F.DIAG_STAT_DC_NOW (2 ^ n.val)

/-- Has the timer of a channel reached DIAG_DC_TIME × 0.1 ms, by a backup oscillator that runs up to 5 % fast? -/
def Device.dcDue (d : Device) (n : Fin 4) : Bool :=
  let s := d.diag.dc[n]
  s.timer != 0 && decide (912 * d.get F.DIAG_DC_TIME_TIME ≤ 100 * (s.timer - 1))

/-- The detector of a channel takes what its terminals showed since it last did, and trips when its timer has run out. -/
def Device.dcOnLoad (d : Device) (n : Fin 4) (vs : List Rat) : Device :=
  let d := d.dcTake n vs
  if d.dcActs n && d.dcDue n then d.channelFault n.val 3 22 else d

/-- A write of 1 from a host client with SAFETY rights clears bits of DIAG_HOLD (R381). -/
def Device.clearHold (d : Device) (v : Word) : Device :=
  d.andNotField F.DIAG_HOLD_HOLD (v.toNat % 16)

end Sys2Proof.Machine
end

