-- ==== Sys2Proof/Machine/Crc.lean ====
section
/-! DEFINITION. The cyclic redundancy checks of the frames and of the log. -/

namespace Sys2Proof.Machine

/-- One step of a shift register of `w` bits, most significant bit first. -/
def crcStep (w poly crc : Nat) : Nat :=
  let c := crc * 2 % 2 ^ w
  if crc / 2 ^ (w - 1) % 2 = 1 then c ^^^ poly else c

/-- One byte into a shift register of `w` bits, most significant bit first. -/
def crcByte (w poly crc : Nat) (b : Byte) : Nat :=
  let c := crc ^^^ (b.toNat * 2 ^ (w - 8))
  (List.range 8).foldl (fun c _ => crcStep w poly c) c

/-- CRC-16 of R441: polynomial 0x1021, initial value 0xFFFF, not reflected, no final inversion. -/
def crc16 (bs : List Byte) : Nat := bs.foldl (crcByte 16 0x1021) 0xFFFF

/-- The eight bits of a byte in reverse. -/
def revByte (b : Byte) : Byte :=
  BitVec.ofNat 8 (((List.range 8).map fun i => if b.getLsbD i then 2 ^ (7 - i) else 0).sum)

/-- The bits of a number of `w` bits in reverse. -/
def revBits (w n : Nat) : Nat := ((List.range w).map fun i => if n.testBit i then 2 ^ (w - 1 - i) else 0).sum

/-- Two bytes, most significant first. -/
def beBytes2 (v : Nat) : List Byte := [BitVec.ofNat 8 (v / 256), BitVec.ofNat 8 v]

/-- One byte into the reflected shift register of the CRC-32. -/
def crc32Byte (crc : Nat) (b : Byte) : Nat :=
  (List.range 8).foldl (fun c _ => if c % 2 = 1 then c / 2 ^^^ 0xEDB88320 else c / 2) (crc ^^^ b.toNat)

/-- CRC-32 of R526: polynomial 0x04C11DB7, initial value 0xFFFFFFFF, reflected, with a final inversion. -/
def crc32 (bs : List Byte) : Nat := bs.foldl crc32Byte 0xFFFFFFFF ^^^ 0xFFFFFFFF

end Sys2Proof.Machine
end

