-- ==== Sys2Proof/Machine/Crypto.lean ====
section
/-! DEFINITION. The cryptography of chapter 18 as the standards give it: SHA-256 (FIPS 180-4), ECDSA over
NIST P-256 (FIPS 186-4) and AES-256-GCM (FIPS 197, SP 800-38D). Numbers are big-endian (R688). -/

namespace Sys2Proof.Machine

/-! ### SHA-256 -/

/-- The primes below a bound. -/
def primesBelow (n : Nat) : List Nat :=
  (List.range n).filter fun p => 2 ≤ p && (List.range p).all fun d => d < 2 || p % d != 0

/-- The largest number below `acc + 2 ^ bits` whose power `k` does not exceed `v`, found bit by bit from `acc` up. -/
def rootFrom (k v : Nat) : Nat → Nat → Nat
  | 0, acc => acc
  | bits + 1, acc => rootFrom k v bits (if (acc + 2 ^ bits) ^ k ≤ v then acc + 2 ^ bits else acc)

/-- The first 32 bits of the fraction of the root of degree `k` of a number: what FIPS 180-4 takes for its constants. -/
def rootFraction (k p : Nat) : Word := BitVec.ofNat 32 (rootFrom k (p * 2 ^ (32 * k)) 40 0)

/-- The round constants: of the cube roots of the first 64 primes. -/
def shaK : List Word := (primesBelow 312).map (rootFraction 3)

/-- The initial hash: of the square roots of the first 8 primes. -/
def shaInit : List Word := (primesBelow 20).map (rootFraction 2)

/-- Bytes as a big-endian number. -/
def beNat (bs : List Byte) : Nat := bs.foldl (fun v b => v * 256 + b.toNat) 0

/-- `n` bytes of a number, most significant first. -/
def beBytes (n v : Nat) : List Byte := (leBytes n v).reverse

/-- The message with its padding. -/
def shaPad (m : List Byte) : List Byte :=
  m ++ [0x80] ++ List.replicate ((119 - m.length % 64) % 64) 0 ++ beBytes 8 (m.length * 8)

/-- A word rotated right by each of some amounts, combined by exclusive or. -/
def rotations (x : Word) (ns : List Nat) : Word := (ns.map x.rotateRight).foldl (· ^^^ ·) 0

/-- One more word of the message schedule; the newest stands first. -/
def shaNext (w : List Word) : Word :=
  let older := w.getD 14 0
  let newer := w.getD 1 0
  w.getD 15 0 + w.getD 6 0 + (rotations older [7, 18] ^^^ older >>> 3) + (rotations newer [17, 19] ^^^ newer >>> 10)

/-- Extends the message schedule by `n` words. -/
def shaExtend (n : Nat) (w : List Word) : List Word := (List.range n).foldl (fun w _ => shaNext w :: w) w

/-- One round on the eight working variables, held as the last four values of each of the two that a round makes anew: `as` are
a, b, c, d and `es` are e, f, g, h of FIPS 180-4. -/
def shaRound (v : List Word × List Word) (kw : Word × Word) : List Word × List Word :=
  match v with
  | (as@(a :: b :: c :: d :: _), es@(e :: f :: g :: h :: _)) =>
    let choice := g ^^^ (e &&& (f ^^^ g))
    let most := (a &&& (b ||| c)) ||| (b &&& c)
    let fresh := kw.1 + kw.2 + h + choice + rotations e [6, 11, 25]
    ((fresh + most + rotations a [2, 13, 22]) :: as.take 3, (d + fresh) :: es.take 3)
  | v => v

/-- The words of a block of 64 bytes. -/
def shaWords : Nat → List Byte → List Word
  | 0, _ => []
  | n + 1, bs => BitVec.ofNat 32 (beNat (bs.take 4)) :: shaWords n (bs.drop 4)

/-- One block. -/
def shaBlock (h : List Word) (bs : List Byte) : List Word :=
  let w := (shaExtend 48 (shaWords 16 bs).reverse).reverse
  let v := (shaK.zip w).foldl shaRound (h.take 4, h.drop 4)
  List.zipWith (· + ·) h (v.1 ++ v.2)

/-- The blocks of a padded message. -/
def shaBlocks : Nat → List Word → List Byte → List Word
  | 0, h, _ => h
  | n + 1, h, bs => shaBlocks n (shaBlock h (bs.take 64)) (bs.drop 64)

/-- SHA-256. -/
def sha256 (m : List Byte) : List Byte :=
  let p := shaPad m
  (shaBlocks (p.length / 64) shaInit p).flatMap fun w => beBytes 4 w.toNat

/-! ### P-256 -/

/-- The field prime. -/
def p256P : Nat := 0xffffffff00000001000000000000000000000000ffffffffffffffffffffffff
/-- The order of the base point. -/
def p256N : Nat := 0xffffffff00000000ffffffffffffffffbce6faada7179e84f3b9cac2fc632551
/-- The coefficient b; a is −3. -/
def p256B : Nat := 0x5ac635d8aa3a93e7b3ebbd55769886bc651d06b0cc53b0f63bce3c3e27d2604b
/-- The base point. -/
def p256G : Nat × Nat :=
  (0x6b17d1f2e12c4247f8bce6e563a440f277037d812deb33a0f4a13945d898c296,
   0x4fe342e2fe1a7f9b8ee7eb4a7c0f9e162bce33576b315ececbb6406837bf51f5)

/-- Powers modulo `m`: `bits` is the number of exponent bits. -/
def powMod (m : Nat) : Nat → Nat → Nat → Nat
  | 0, _, _ => 1 % m
  | bits + 1, b, e =>
    let r := powMod m bits (b * b % m) (e / 2)
    if e % 2 = 1 then r * b % m else r

/-- The inverse modulo a prime. -/
def invMod (m a : Nat) : Nat := powMod m 256 (a % m) (m - 2)

/-- A point of the curve; none is the point at infinity. -/
abbrev Point := Option (Nat × Nat)

/-- The sum of two points. -/
def pointAdd (p q : Point) : Point :=
  match p, q with
  | none, q => q
  | p, none => p
  | some (x1, y1), some (x2, y2) =>
    let m := p256P
    if x1 = x2 ∧ (y1 + y2) % m = 0 then none
    else
      let l := if x1 = x2 then (3 * x1 * x1 + m - 3) * invMod m (2 * y1) % m
        else (y2 + m - y1) * invMod m (x2 + m - x1) % m
      let x := (l * l + 2 * m - x1 - x2) % m
      some (x, (l * (x1 + m - x) + m - y1) % m)

/-- A multiple of a point: `bits` is the number of bits of the factor. -/
def pointMul : Nat → Nat → Point → Point
  | 0, _, _ => none
  | bits + 1, k, p =>
    let r := pointMul bits (k / 2) (pointAdd p p)
    if k % 2 = 1 then pointAdd r p else r

/-- Is a point on the curve? -/
def onCurve (x y : Nat) : Bool :=
  x < p256P && y < p256P && y * y % p256P == (x * x * x + (p256P - 3) * x + p256B) % p256P

/-- ECDSA verification of a signature over a digest (R688, R704). -/
def ecdsaVerify (key : List Byte) (digest sig : List Byte) : Bool :=
  let qx := beNat (key.take 32)
  let qy := beNat (key.drop 32)
  let r := beNat (sig.take 32)
  let s := beNat (sig.drop 32)
  if key.length != 64 || sig.length != 64 || !onCurve qx qy || r == 0 || s == 0 || p256N ≤ r || p256N ≤ s then
    false
  else
    let w := invMod p256N s
    let u := beNat digest * w % p256N
    let v := r * w % p256N
    match pointAdd (pointMul 256 u (some p256G)) (pointMul 256 v (some (qx, qy))) with
    | some (x, _) => x % p256N == r
    | none => false

/-- A square root modulo the field prime, for the y of an x. -/
def curveY (x : Nat) : Nat :=
  powMod p256P 256 ((x * x * x + (p256P - 3) * x + p256B) % p256P) ((p256P + 1) / 4)

/-- The public key that a signature has with the point (x, y). -/
def recoverKey (r s : Nat) (digest : List Byte) (x y : Nat) : List (List Byte) :=
  let e := beNat digest % p256N
  let w := invMod p256N r
  match pointAdd (pointMul 256 (s * w % p256N) (some (x, y)))
      (pointMul 256 ((p256N - e) * w % p256N) (some p256G)) with
  | some (a, b) => [beBytes 32 a ++ beBytes 32 b]
  | none => []

/-- The public keys of both points with an x. -/
def recoverKeys (r s : Nat) (digest : List Byte) (x : Nat) : List (List Byte) :=
  let y := curveY x
  if onCurve x y then recoverKey r s digest x y ++ recoverKey r s digest x (p256P - y) else []

/-- The public keys that a signature has over a digest, at most four (R692). -/
def ecdsaRecover (digest sig : List Byte) : List (List Byte) :=
  let r := beNat (sig.take 32)
  let s := beNat (sig.drop 32)
  if sig.length != 64 || r == 0 || s == 0 || p256N ≤ r || p256N ≤ s then []
  else recoverKeys r s digest r ++ recoverKeys r s digest (r + p256N)

/-! ### AES-256-GCM -/

/-- Multiplication by x in the field of AES. -/
def xtime (b : Nat) : Nat := if 128 ≤ b then (b * 2 - 256) ^^^ 0x1B else b * 2

/-- Multiplication in the field of AES: `n` bits of `b`. -/
def gfMul : Nat → Nat → Nat → Nat
  | 0, _, _ => 0
  | n + 1, a, b => (if b % 2 = 1 then a else 0) ^^^ gfMul n (xtime a) (b / 2)

/-- Powers in the field of AES. -/
def gfPow : Nat → Nat → Nat
  | 0, _ => 1
  | n + 1, a => gfMul 8 (gfPow n a) a

/-- The S-box. -/
def aesSub (b : Nat) : Nat :=
  let i := gfPow 254 b
  let rot := fun n : Nat => (i * 2 ^ n) % 256 ||| i / 2 ^ (8 - n)
  i ^^^ rot 1 ^^^ rot 2 ^^^ rot 3 ^^^ rot 4 ^^^ 0x63

/-- Bytes combined by exclusive or. -/
def xorBytes (a b : List Nat) : List Nat := List.zipWith (· ^^^ ·) a b

/-- One more word of the key schedule; the newest word stands first. -/
def aesKeyWord (i : Nat) (w : List (List Nat)) : List (List Nat) :=
  let t := w.getD 0 []
  let t :=
    if i % 8 = 0 then
      xorBytes ((t.drop 1 ++ t.take 1).map aesSub) [gfPow (i / 8 - 1) 2, 0, 0, 0]
    else if i % 8 = 4 then t.map aesSub
    else t
  xorBytes (w.getD 7 []) t :: w

/-- The 60 words of the key schedule, oldest first. -/
def aesSchedule (key : List Nat) : List (List Nat) :=
  let w0 := ((List.range 8).map fun i => (key.drop (4 * i)).take 4).reverse
  ((List.range 52).foldl (fun w i => aesKeyWord (i + 8) w) w0).reverse

/-- Adds a round key. -/
def aesAdd (ks : List (List Nat)) (r : Nat) (s : List Nat) : List Nat :=
  xorBytes s ((ks.drop (4 * r)).take 4).flatten

/-- Substitution and the shift of the rows. -/
def aesShift (s : List Nat) : List Nat :=
  (List.range 16).map fun i => aesSub (s.getD ((i + 4 * (i % 4)) % 16) 0)

/-- The mixing of the columns. -/
def aesMix (s : List Nat) : List Nat :=
  (List.range 16).map fun i =>
    let c := i / 4 * 4
    let x := fun k : Nat => s.getD (c + (i + k) % 4) 0
    xtime (x 0) ^^^ (xtime (x 1) ^^^ x 1) ^^^ x 2 ^^^ x 3

/-- AES-256 of one block of 16 bytes. -/
def aesBlock (ks : List (List Nat)) (b : List Nat) : List Nat :=
  let s := (List.range 13).foldl (fun s r => aesAdd ks (r + 1) (aesMix (aesShift s))) (aesAdd ks 0 b)
  aesAdd ks 14 (aesShift s)

/-- Multiplication in the field of GCM; bit 127 of a number is the first bit of a block. -/
def ghashMul : Nat → Nat → Nat → Nat
  | 0, _, _ => 0
  | n + 1, x, v =>
    let v' := if v % 2 = 1 then (v / 2) ^^^ (0xE1 * 2 ^ 120) else v / 2
    (if x.testBit n then v else 0) ^^^ ghashMul n x v'

/-- The blocks of some bytes as numbers, the last one filled with zeros. -/
def ghashBlocks : Nat → List Byte → List Nat
  | 0, _ => []
  | n + 1, bs =>
    let b := bs.take 16
    beNat (b ++ List.replicate (16 - b.length) 0) :: ghashBlocks n (bs.drop 16)

/-- GHASH of the associated data and the ciphertext. -/
def ghash (h : Nat) (aad ct : List Byte) : Nat :=
  let bl := fun bs : List Byte => ghashBlocks ((bs.length + 15) / 16) bs
  (bl aad ++ bl ct ++ [aad.length * 8 * 2 ^ 64 + ct.length * 8]).foldl
    (fun y b => ghashMul 128 (y ^^^ b) h) 0

/-- A block of 16 bytes as numbers. -/
def block16 (v : Nat) : List Nat := (beBytes 16 v).map fun b => b.toNat

/-- The key stream of counter blocks from `c` on. -/
def gcmStream (ks : List (List Nat)) (iv : Nat) : Nat → Nat → List Nat
  | 0, _ => []
  | n + 1, c => aesBlock ks (block16 (iv * 2 ^ 32 + c)) ++ gcmStream ks iv n (c + 1)

/-- AES-256-GCM decryption with an initial value of 12 bytes: none when the tag fails. -/
def gcmDecrypt (key : List Byte) (iv aad ct tag : List Byte) : Option (List Byte) :=
  let ks := aesSchedule (key.map fun b => b.toNat)
  let num := fun l : List Nat => l.foldl (fun v b => v * 256 + b) 0
  let h := num (aesBlock ks (block16 0))
  let j0 := num (aesBlock ks (block16 (beNat iv * 2 ^ 32 + 1)))
  if ghash h aad ct ^^^ j0 != beNat tag then none
  else
    let st := gcmStream ks (beNat iv) ((ct.length + 15) / 16) 2
    some (List.zipWith (fun b s => b ^^^ BitVec.ofNat 8 s) ct st)

end Sys2Proof.Machine
end

