-- ==== Sys2Proof/Machine/ClockOps.lean ====
section
/-! DEFINITION. Clocks, ring time and reference selection (R164 to R200): the frequency monitor, the
selection of the PLL reference, ring slaves, and the AON timer. -/

namespace Sys2Proof.Machine

/-- The most TRIM changes in a slew over one gate of 100 ms: 20 ppm per second (R180). -/
def slewPerGate : Int := 8589

/-- The most TRIM changes in ACQUIRE over one gate of 100 ms: 1000 ppm per second (R183). -/
def acquirePerGate : Int := 429496

/-- Moves `t` toward `goal` by at most `most`. -/
def moveToward (most t goal : Int) : Int := max (t - most) (min (t + most) goal)

/-! ### The frequency monitor (R175, R176) -/

/-- Is RING present: ring lock holds? -/
def Device.ringPresent (d : Device) : Bool := d.flag F.TRN_STAT_LOCK

/-- Is INPUT present: its group is locked at a multiple of 8 kHz? -/
def Device.inputPresent (d : Device) : Bool :=
  let g := d.inputGroup
  d.locked g && rateHz (d.get (rateField g)) % 8000 == 0 && rateHz (d.get (rateField g)) != 0

/-- The deviation of a source at the last gate end in 0.1 ppm, if it was measured. -/
def Device.deviation (d : Device) (src : Nat) : Option Int :=
  if src == 1 then
    if d.flag F.CLK_DEV_RING_VALID then some (d.geti F.CLK_DEV_RING_DEV) else none
  else if d.flag F.CLK_DEV_IN_VALID then some (d.geti F.CLK_DEV_IN_DEV) else none

/-- Is a source other than XTAL in tolerance (R176)? The held reference comes back only 10 ppm inside the
window. -/
def Device.inTolerance (d : Device) (src : Nat) : Bool :=
  match d.deviation src with
  | none => false
  | some v =>
    let win : Int := d.get F.CLK_MON_CFG_WIN
    let held := d.refSel == src && (d.clkMode == 2 || d.clkMode == 4)
    decide ((v.natAbs : Int) ≤ (if held then win - 10 else win) * 10)

/-- Is a source available at the last gate end (R176)? -/
def Device.available (d : Device) (src : Nat) : Bool :=
  match src with
  | 0 => d.flag F.CLK_STAT_XTAL_OK
  | 1 => d.flag F.CLK_STAT_RING_AV
  | _ => d.flag F.CLK_STAT_IN_AV

/-- Writes one deviation register at a gate end (R175). R175 gives no result for a deviation that DEV cannot hold, beyond
±3276.7 ppm: DEV then reads a free value (DESIGN CHOICE, entry 33). -/
def Device.writeDeviation (d : Device) (dev valid : Fld) (v : Option Int) : Device :=
  match v with
  | some x =>
    if -32768 ≤ x ∧ x ≤ 32767 then (d.puti dev x).setFlag valid true
    else ({ d with freshN := d.freshN + 1 }.put dev ((Config.freeWord d.freshN).toNat % 65536)).setFlag valid true
  | none => d.setFlag valid false

/-! ### Selection (R177 to R182) -/

/-- The priority list. -/
def Device.refList (d : Device) : List Nat :=
  [d.get F.CLK_REF_CFG_P0, d.get F.CLK_REF_CFG_P1, d.get F.CLK_REF_CFG_P2]

/-- The first entry of the priority list that is available and meets `ok`; RING entries are skipped
(R177). -/
def Device.candidate (d : Device) (ok : Nat → Bool) : Option Nat :=
  d.refList.find? fun s => s != 1 && d.available s && ok s

/-- A slew begins (R180): the dwell ends, and the DPLL records the phase offset of the source, whatever it is. -/
def Device.startSlew (d : Device) : Device :=
  let d := { d with clk.slewPhase := Config.freeWord d.freshN, freshN := d.freshN + 1 }
  (d.setClkMode 3).put F.CLK_STAT_DWELL_LEFT 0

/-- The device switches to another reference and slews to it (R179 to R182). -/
def Device.switchRef (d : Device) (src : Nat) : Device :=
  let old := d.refSel
  let d := (d.put F.CLK_STAT_SEL src).startSlew
  let d := d.setFlag F.CLK_EVT_SWITCH true
  d.raise 8 old (leBytes 1 src)

/-- The end of the dwell (R179): the candidate, the held source excluded, is selected. -/
def Device.dwellExpire (d : Device) : Device :=
  if d.dpllRuns && !d.clk.ringSlave && d.clkMode == 2 && d.get F.CLK_STAT_DWELL_LEFT == 0 then
    d.switchRef ((d.candidate fun s => s != d.refSel).getD 0)
  else d

/-- The entries listed above the selected reference. -/
def Device.listedAbove (d : Device) : List Nat := d.refList.takeWhile fun s => s != d.refSel

/-- A higher entry available for RETURN gates is switched to (R181). -/
def Device.refRevert (d : Device) : Device :=
  if !d.dpllRuns || d.clk.ringSlave || !d.flag F.CLK_REF_CFG_REVERT || d.clkMode == 0 then d
  else
    match d.listedAbove.find? fun s => s != 1 && d.get F.CLK_MON_CFG_RETURN ≤ d.clk.availRun.toList.getD s 0 with
    | some s => d.switchRef s
    | none => d

/-- A changed priority list is judged at a gate end (R182). -/
def Device.judgeList (d : Device) : Device :=
  if !d.clk.cfgChanged then d
  else
    let d := { d with clk.cfgChanged := false }
    match d.candidate fun _ => true with
    | some s => if s == d.refSel then d else d.switchRef s
    | none => d

/-- The PLL reference at a gate end, on a locked ring slave (R184). R177 does not apply there, so a changed list is spent. -/
def Device.gateSlave (d : Device) : Device :=
  let d := { d with clk.cfgChanged := false }
  let ok := d.inTolerance 1
  if !ok && d.clkMode != 4 then { d.holdTrim 4 true with clk.steering := false }
  else if ok && d.clkMode == 4 then { d.setClkMode 1 with clk.steering := false }
  else d

/-- The PLL reference at a gate end, on any other node (R178, R179, R191). -/
def Device.gateFree (d : Device) : Device :=
  let d :=
    if d.refSel == 0 then d
    else if d.inTolerance d.refSel then
      if d.clkMode == 2 then d.startSlew else d
    else if d.clkMode == 2 then d.put F.CLK_STAT_DWELL_LEFT (d.get F.CLK_STAT_DWELL_LEFT - 1)
    else d.loseReference
  d.judgeList

/-- The trim at which the DPLL meets the selected source: 0 on XTAL (R165, R180). -/
def Device.trimGoal (d : Device) (follow : Int) : Int := if d.refSel == 0 then 0 else clampTrim follow

/-- The trim that the DPLL has moved to at a gate end: it follows the reference in TRACK, it moves at 1000 ppm per
second in ACQUIRE (R183) and at 20 ppm per second in a slew (R180), and it is frozen in HOLDOVER and RING_HOLD. -/
def Device.gateTrim (d : Device) (follow : Int) : Device :=
  let t := d.geti F.CLK_TRIM_TRIM
  let goal := d.trimGoal follow
  if d.clkMode == 1 then d.puti F.CLK_TRIM_TRIM goal
  else if d.clkMode == 5 then d.puti F.CLK_TRIM_TRIM (moveToward acquirePerGate t goal)
  else if d.clkMode == 3 then d.puti F.CLK_TRIM_TRIM (moveToward slewPerGate t goal)
  else d

/-- The trim of a source in tolerance is remembered (R178). -/
def Device.rememberTrims (d : Device) : Device :=
  let t := d.geti F.CLK_TRIM_TRIM
  let add := fun (src : Nat) (l : List Int) => if d.inTolerance src then (t :: l).take 8 else l
  { d with clk.goodTrims := #v[add 1 d.clk.goodTrims[0], add 2 d.clk.goodTrims[1]] }

/-- A slew that has come within 0.1 ppm of `goal` has arrived (R180); on XTAL TRIM is then 0 (R165). -/
def Device.slewArrive (d : Device) (goal : Int) : Device :=
  if (d.geti F.CLK_TRIM_TRIM - goal).natAbs < 430 then
    let d := d.setClkMode 1
    if d.refSel == 0 then d.puti F.CLK_TRIM_TRIM 0 else d
  else d

/-- A gate end (R175). `ring` and `inp` are the deviations in 0.1 ppm, none for a source absent at any
instant of the gate; `follow` is the trim at which the DPLL meets the selected source. -/
def Device.gateEnd (d : Device) (ring inp : Option Int) (follow : Int) : Device :=
  if !d.linkRuns || !d.flag F.CLK_STAT_XTAL_OK then d
  else
    let ring := if d.ringPresent then ring else none
    let inp := if d.inputPresent then inp else none
    let d := d.writeDeviation F.CLK_DEV_RING_DEV F.CLK_DEV_RING_VALID ring
    let d := d.writeDeviation F.CLK_DEV_IN_DEV F.CLK_DEV_IN_VALID inp
    let av := #v[true, d.inTolerance 1, d.inTolerance 2]
    let d := d.setFlag F.CLK_STAT_RING_AV av[1]
    let d := d.setFlag F.CLK_STAT_IN_AV av[2]
    let runs : Vector Nat 3 := Vector.ofFn fun i : Fin 3 => if av[i] then d.clk.availRun[i] + 1 else 0
    let d := { d with clk.availRun := runs }
    if d.limp then d
    else
      let sel := d.refSel
      let slewing := d.clkMode == 3
      let goal := d.trimGoal follow
      let d := (d.gateTrim follow).rememberTrims
      let d := if d.clkMode == 0 then (d.setClkMode 1).puti F.CLK_TRIM_TRIM 0 else d
      let d := if d.clk.ringSlave then d.gateSlave else d.gateFree
      if slewing && d.clkMode == 3 && d.refSel == sel then d.slewArrive goal else d

/-- The selected source is absent. -/
def Device.refGone (d : Device) : Bool := if d.refSel == 1 then !d.ringPresent else !d.inputPresent

/-- A source becomes absent (R178, R191). -/
def Device.refAbsent (d : Device) : Device := if !d.clk.ringSlave && d.refGone then d.loseReference else d

/-- The trim that a slew has reached some milliseconds after the last gate end (R180). -/
def Device.slewAfter (d : Device) (goal : Int) (ms : Nat) : Int :=
  moveToward (85899 * min ms 100 / 1000) (d.geti F.CLK_TRIM_TRIM) goal

/-- A slew comes within 0.1 ppm of its target (R180), `ms` after the last gate end; `target` is the trim of the new
source. -/
def Device.slewComplete (d : Device) (target : Int) (ms : Nat) : Device :=
  let goal := d.trimGoal target
  let t := d.slewAfter goal ms
  if d.dpllRuns && d.clkMode == 3 && (t - goal).natAbs < 430 then (d.puti F.CLK_TRIM_TRIM t).slewArrive goal
  else d

/-! ### Ring slaves (R183 to R185) -/

/-- TRN reports the node as a locked ring slave: adopted, with ring lock, and not the master (R183, R532). -/
def Device.ringReports (d : Device) : Bool :=
  d.flag F.TRN_CFG_EN && d.ringPresent && d.get F.TRN_STAT_TRUST == 1 && d.get F.TRN_STAT_ROLE != 3

/-- The node becomes a locked ring slave (R183, R192). -/
def Device.acquireRing (d : Device) : Device :=
  if !d.dpllRuns || !d.ringReports then d
  else
    let d := { d with clk.ringSlave := true, clk.steering := false, clk.cfgChanged := false }
    ((d.put F.CLK_STAT_SEL 1).setClkMode 5).put F.CLK_STAT_DWELL_LEFT 0

/-- The phase has stayed within ±2 periods for one block (R183): the ring-time step to the master's ring
time follows at the next boundary, at which the master's frame count is `frame`. -/
def Device.acquireComplete (d : Device) (err : BitVec 16) (frame : BitVec 48) : Device :=
  if d.dpllRuns && d.clk.ringSlave && d.clkMode == 5 && err.toInt.natAbs ≤ 32 then
    let d := { d with clk.step := some (.slave frame) }
    (d.setClkMode 1).put F.CLK_PHASE_ERR err.toNat
  else d

/-- Is the step due also on a node that is no longer a locked ring slave (R172)? -/
def RtStep.stays : RtStep → Bool
  | .slave _ => false
  | .first | .limpReturn => true

/-- The node stops being a locked ring slave (R183): a lost source under R178. -/
def Device.loseRing (d : Device) : Device :=
  if !d.clk.ringSlave then d
  else
    let d := { d with clk.ringSlave := false, clk.steering := false, clk.step := d.clk.step.filter RtStep.stays }
    let d := (d.put F.CLK_PHASE_ERR 0).setFlag F.CLK_STAT_ALIGN_OUT false
    d.loseReference

/-- A phase measurement in RING_HOLD (R184): beyond 4 periods the trim moves toward the ring at no more than
20 ppm per second, until the error is within 2 periods. `goal` is the ring's trim and `ms` the time the
steering took. -/
def Device.ringHoldSteer (d : Device) (err : BitVec 16) (goal : Int) (ms : Nat) : Device :=
  if d.dpllRuns && d.clk.ringSlave && d.clkMode == 4 then
    let d := d.put F.CLK_PHASE_ERR err.toNat
    let steer := if err.toInt.natAbs ≤ 32 then false
      else d.clk.steering || decide (64 < err.toInt.natAbs)
    let d := { d with clk.steering := steer }
    if steer then
      d.puti F.CLK_TRIM_TRIM
        (moveToward (85899 * ms / 1000) (d.geti F.CLK_TRIM_TRIM) (clampTrim goal))
    else d
  else d

/-- The phase error of a locked slave leaves the 8 periods of R185. -/
def Device.alignOut (d : Device) (err : BitVec 16) : Device :=
  if d.dpllRuns && d.clk.ringSlave && !d.flag F.CLK_STAT_ALIGN_OUT && 128 < err.toInt.natAbs then
    let d := d.put F.CLK_PHASE_ERR err.toNat
    let d := (d.setFlag F.CLK_STAT_ALIGN_OUT true).setFlag F.CLK_EVT_ALIGN true
    d.log 137 1 1 (leBytes 2 err.toNat)
  else d

/-- The phase error comes back within 8 periods (R185). -/
def Device.alignReturn (d : Device) (err : BitVec 16) : Device :=
  if d.dpllRuns && d.clk.ringSlave && d.flag F.CLK_STAT_ALIGN_OUT && err.toInt.natAbs ≤ 128 then
    let d := d.put F.CLK_PHASE_ERR err.toNat
    (d.setFlag F.CLK_STAT_ALIGN_OUT false).log 137 1 0 (leBytes 2 err.toNat)
  else d

/-! ### Ring time (R170 to R174) -/

/-- A ring time rounded up to the next frame count that is a multiple of 16, with a sub-frame offset of 0 (R170, R172). -/
def RingTime.roundUp (t : RingTime) : RingTime :=
  ⟨BitVec.ofNat 48 ((t.frame.toNat + (if t.sub == 0 then 0 else 1) + 15) / 16 * 16), 0⟩

/-- Ring time at the block boundary that is reached now (R170): outside limp the next instant with a sub-frame
offset of 0 and a frame count that is a multiple of 16; in limp, and at the boundary that steps it on the return from
limp, the count kept. `moved` says that time has passed since the last
boundary, which may then stand at such an instant. -/
def Device.boundaryTime (d : Device) (moved : Bool) : RingTime :=
  let t := d.clk.rt
  if d.limp || d.clk.step == some .limpReturn then t
  else if moved && t.sub == 0 && t.frame.toNat % 16 == 0 then t
  else ⟨BitVec.ofNat 48 (t.frame.toNat / 16 * 16 + 16), 0⟩

/-- A ring-time step due at this boundary (R172). -/
def Device.stepRingTime (d : Device) : Device :=
  match d.clk.step with
  | none => d
  | some k =>
    let old := d.clk.rt
    let new : RingTime := match k with
      | .first => ⟨0, 0⟩
      | .slave f => RingTime.roundUp ⟨f, 0⟩
      | .limpReturn => old.roundUp
    let d := { d with clk.step := none, clk.rt := new }
    (d.setFlag F.CLK_EVT_RTSTEP true).log 133 1 0 (leBytes 8 old.packed.toNat)

/-- A read of CLK_RT_SUB: the sub-frame offset, with the frame count latched (R174). -/
def Device.readRingTime (d : Device) : Word × Device :=
  let t := d.clk.rt
  let d := (d.put F.CLK_RT_FL_FRAME (t.frame.toNat % 2 ^ 32)).put F.CLK_RT_FH_FRAME (t.frame.toNat / 2 ^ 32)
  (BitVec.ofNat 32 t.sub.toNat, d.put F.CLK_RT_SUB_SUB t.sub.toNat)

/-! ### AON (R188, R189) -/

/-- The AON domain is powered. -/
def Device.aonRuns (d : Device) : Bool := d.pwr.seq != .off && d.pwr.seq != .aonReset

/-- The AON counter before the compare value: the count steps that bring it there. -/
def Device.aonDistance (d : Device) : Nat :=
  let gap := (d.get F.CLK_AON_CMP_VALUE + 2 ^ 32 - d.get F.CLK_AON_CNT_COUNT) % 2 ^ 32
  if gap == 0 then 2 ^ 32 else gap

/-- `n` AON cycles pass, of which the last may reach the compare value (R188). The counter wraps; with EN = 1 the step that
brings it to VALUE raises AON_TIMER, and with PERIODIC it starts from 0. A step is compared with the VALUE of now (R194). -/
def Device.aonTimer (d : Device) (n : Nat) : Device :=
  if !d.aonRuns then d
  else if d.flag F.CLK_AON_CTL_EN && d.aonDistance ≤ n then
    let d := d.put F.CLK_AON_CNT_COUNT
      (if d.flag F.CLK_AON_CTL_PERIODIC then 0 else d.get F.CLK_AON_CMP_VALUE)
    d.fire 15
  else d.put F.CLK_AON_CNT_COUNT ((d.get F.CLK_AON_CNT_COUNT + n) % 2 ^ 32)

/-- A measurement of the LPO in Hz is written, rounded half-up to 0.1 Hz (R189). -/
def Device.lpoCalibrate (d : Device) (hz : Rat) : Device :=
  if d.aonRuns && d.linkRuns && d.get F.CLK_STAT_AON_SRC == 0 then
    (d.put F.CLK_LPO_CAL_FREQ ((hz * 10 + 1 / 2).floor.toNat)).setFlag F.CLK_LPO_CAL_VALID true
  else d

end Sys2Proof.Machine
end

