-- ==== Sys2Proof/Machine/EvcOps.lean ====
section
/-! DEFINITION. The event controller (R133 to R158): delivery, claim, completion, software fires,
withdrawals and the effect of its configuration writes. -/

namespace Sys2Proof.Machine

/-- A source is eligible for a target (R133). -/
def Device.eligible (d : Device) (n : Nat) (x : Nat) : Bool :=
  (d.get (F.EVC_SRC_n_TGT n)).testBit x && d.flag (F.EVC_TGT_CTL_x_EN x) &&
    d.get (F.EVC_TGT_CTL_x_THRESH x) < d.get (F.EVC_SRC_n_PRIO n)

/-- Sources DELIVERED to a target. -/
def Device.delivered (d : Device) (x : Fin 4) : Nat :=
  d.evc.src.toList.countP fun e => e.st == .delivered && e.target == x

/-- Sources IN_SERVICE at a target. -/
def Device.inService (d : Device) (x : Fin 4) : Nat :=
  d.evc.src.toList.countP fun e => e.st == .inService && e.target == x

/-- A target is idle (R134): a core while it sleeps in WAIT or is held in reset (R163), a pin while nothing is DELIVERED
to it. -/
def Device.targetIdle (d : Device) (x : Fin 4) : Bool :=
  match x with
  | 0 => d.c0.run == .sleeping || d.c0.run == .held
  | 1 => d.c1.run == .sleeping || d.c1.run == .held
  | _ => d.delivered x == 0

/-- The target is no core that is halted or held in reset: the sources of such a core stay PENDING (R158). -/
def Device.targetRuns (d : Device) (x : Fin 4) : Bool :=
  match x with
  | 0 => d.c0.run != .halted && d.c0.run != .held
  | 1 => d.c1.run != .halted && d.c1.run != .held
  | _ => true

/-- A target may accept a delivery (R134, R158). -/
def Device.mayAccept (d : Device) (x : Fin 4) : Bool :=
  d.flag F.EVC_CTL_GEN && d.flag (F.EVC_TGT_CTL_x_EN x) && d.targetRuns x && (!d.evc.timer[x] || d.targetIdle x)

/-- The targets in round-robin order, from the one after `x` (R135). -/
def roundRobin (x : Fin 4) : List (Fin 4) := [x + 1, x + 2, x + 3, x]

/-- Where a pending source goes, given which targets accept in this cycle. -/
def Device.route (d : Device) (accepts : Vector Bool 4) (n : Fin 128) : Option (Fin 4) :=
  (roundRobin (d.source n).target).find? fun x => accepts[x] && d.eligible n x

/-- The deliveries of one CORE cycle (R135): every pending source in ascending order; each target that
received one restarts its moderation timer (R136). Nothing is delivered while CORE is stopped. -/
def Device.deliver (d : Device) : Device :=
  if !d.coreRuns then d
  else
    let accepts : Vector Bool 4 := Vector.ofFn fun x => d.mayAccept x
    let step := fun (p : Device × List (Fin 4)) (n : Fin 128) =>
      if (p.1.source n).st == .pending then
        match p.1.route accepts n with
        | some x =>
          (p.1.setSource n { p.1.source n with st := .delivered, target := x }, x :: p.2)
        | none => p
      else p
    let (d', hit) := (List.finRange 128).foldl step (d, [])
    (List.finRange 4).foldl
      (fun d x => if hit.contains x then
          { d with evc.timer := d.evc.timer.set x (d.get (F.EVC_TGT_MOD_x_INTERVAL x) != 0) }
        else d) d'

/-- Is source `n` a better claim than `m` at equal state (R138)? -/
def Device.claimBetter (d : Device) (n m : Fin 128) : Bool :=
  let pn := d.get (F.EVC_SRC_n_PRIO n)
  let pm := d.get (F.EVC_SRC_n_PRIO m)
  pm < pn || (pn == pm && n < m)

/-- The source a claim for a target selects (R138). -/
def Device.claimChoice (d : Device) (x : Fin 4) : Option (Fin 128) :=
  (List.finRange 128).foldl
    (fun best n =>
      let e := d.source n
      if e.st == .delivered && e.target == x then
        match best with
        | none => some n
        | some m => if d.claimBetter n m then some n else best
      else best) none

/-- The claim word of R138. -/
def claimWord (n : Fin 128) (e : EvSource) : Word :=
  BitVec.ofNat 32 (n.val + 0x100 * e.count + 0x10000 * e.ovf.toNat + 0x20000 * e.lost.toNat +
    0x40000 * e.sw.toNat + 0x80000 * e.wake.toNat)

/-- A claim read of a target's claim register (R138): the word, and the source in service with its
marks cleared. 0xFF when nothing is DELIVERED. -/
def Device.claim (d : Device) (x : Fin 4) : Word × Device :=
  match d.claimChoice x with
  | none => (0xFF, d)
  | some n =>
    let e := d.source n
    (claimWord n e,
      d.setSource n { e with st := .inService, count := 0, ovf := false, lost := false,
                             sw := false, wake := false })

/-- A completion (R139). -/
def Device.completeEvent (d : Device) (x : Fin 4) (n : Nat) : Device :=
  if h : n < 128 then
    let e := d.source ⟨n, h⟩
    if e.st == .inService && e.target == x then d.setSource ⟨n, h⟩ e.complete
    else d.orField F.EVC_STAT_BADDONE 1
  else d

/-- The bits of a word, as the numbers of the bits that are 1. -/
def bitsOf (v : Word) : List Nat := (List.range 32).filter fun i => v.toNat.testBit i

/-- The latch of a source that is set and not yet taken (R149). -/
def Device.latchWaits (d : Device) (n : Nat) : Option Nat :=
  match wakeLatchOf n with
  | some k => if d.evc.taking && (d.get F.EVC_WLATCH_LATCH).testBit k then some k else none
  | none => none

/-- A software fire of one source (R145): at once, or behind its latch while that waits to be taken (R149). -/
def Device.softFireOne (d : Device) (n : Fin 128) : Device :=
  match d.latchWaits n.val with
  | some k => { d with evc.soft := d.evc.soft ||| 2 ^ k }
  | none => d.fireNow n true false

/-- A software fire of each source whose bit is 1 (R145); reserved sources are ignored. -/
def Device.softFire (d : Device) (i : Nat) (v : Word) : Device :=
  (bitsOf v).foldl
    (fun d b =>
      let n := 32 * i + b
      if h : n < 128 then (if isSource n then d.softFireOne ⟨n, h⟩ else d) else d) d

/-- A withdrawal of one source (R146). -/
def EvSource.withdraw (e : EvSource) : EvSource :=
  match e.st with
  | .idle => e
  | .inService => { e with repend := false, count := 0, ovf := false, sw := false, wake := false }
  | _ => { e with st := .idle, count := 0, ovf := false, lost := false, sw := false, wake := false }

/-- A withdrawal of each source whose bit is 1 (R146). -/
def Device.withdrawBits (d : Device) (i : Nat) (v : Word) : Device :=
  (bitsOf v).foldl
    (fun d b =>
      let n := 32 * i + b
      if h : n < 128 then d.setSource ⟨n, h⟩ (d.source ⟨n, h⟩).withdraw else d) d

/-- Sources DELIVERED to a target for which they are no longer eligible return to PENDING with their
marks kept (R151, R152). -/
def Device.reconsider (d : Device) : Device :=
  (List.finRange 128).foldl
    (fun d n =>
      let e := d.source n
      if e.st == .delivered && !d.eligible n e.target then d.setSource n { e with st := .pending }
      else d) d

/-- A write to EVC_TGT_MOD_x: 0 ends a running interval at once (R136). -/
def Device.moderationWritten (d : Device) (x : Fin 4) : Device :=
  if d.get (F.EVC_TGT_MOD_x_INTERVAL x) == 0 then
    { d with evc.timer := d.evc.timer.set x false }
  else d

/-- The CORE domain starts: the set latches are taken from now on, one per CORE cycle (R149). -/
def Device.transferLatches (d : Device) : Device := { d with evc.taking := d.get F.EVC_WLATCH_LATCH != 0 }

/-- A source fires out of its latch, or by the software fire that waited behind it. -/
def Device.latchFire (d : Device) (k : Nat) (sw wake : Bool) : Device :=
  let n := latchSource k
  if h : n < 128 then d.fireNow ⟨n, h⟩ sw wake else d

/-- The latch of the lowest source that is set becomes a fire marked WAKE and its bit clears; the software fires of sources
whose latch is no longer set act behind it; after the last one the synchronous path opens (R149). -/
def Device.takeLatch (d : Device) : Device :=
  if !d.evc.taking then d
  else
    let d := match (List.range 9).find? fun k => (d.get F.EVC_WLATCH_LATCH).testBit k with
      | some k => (d.latchFire k false true).andNotField F.EVC_WLATCH_LATCH (2 ^ k)
      | none => d
    let set := d.get F.EVC_WLATCH_LATCH
    let act := (List.range 9).filter fun k => d.evc.soft.testBit k && !set.testBit k
    let d := act.foldl (fun d k => d.latchFire k true false) d
    { d with evc.soft := d.evc.soft &&& set, evc.taking := set != 0 }

/-- One CORE cycle of the controller (R150): a latch is taken, then the deliveries are made. -/
def Device.evcCycle (d : Device) : Device := if d.coreRuns then d.takeLatch.deliver else d

/-- The word EVC_SRCSTAT_n shows (R163); zero for a reserved source (R12). -/
def Device.srcStat (d : Device) (n : Fin 128) : Word :=
  if !isSource n.val then 0
  else
    let e := d.source n
    let st := match e.st with | .idle => 0 | .pending => 1 | .delivered => 2 | .inService => 3
    BitVec.ofNat 32 (st + 4 * e.target.val + 16 * e.repend.toNat + 32 * e.ovf.toNat +
      64 * e.lost.toNat + 256 * e.count)

/-- The word EVC_TGT_STAT_x shows (R163). -/
def Device.tgtStat (d : Device) (x : Fin 4) : Word :=
  BitVec.ofNat 32 (d.delivered x + 256 * d.inService x + 65536 * (d.targetIdle x).toNat +
    131072 * (d.evc.timer[x]).toNat)

/-- The word EVC_PSETi and EVC_PCLRi read as: 1 for each source PENDING or DELIVERED (R163). -/
def Device.pendWord (d : Device) (i : Nat) : Word :=
  BitVec.ofNat 32 (((List.finRange 128).map fun n =>
    if n.val / 32 == i && ((d.source n).st == .pending || (d.source n).st == .delivered) then
      2 ^ (n.val % 32) else 0).sum)

/-- The level of a host interrupt pin: low while a source is DELIVERED to it; high while CORE is
stopped (R137). True is low. -/
def Device.hirqLow (d : Device) (x : Fin 4) : Bool := d.coreRuns && d.delivered x != 0

end Sys2Proof.Machine
end

