-- ==== Sys2Proof/Machine/WeirOps.lean ====
section
/-! DEFINITION. The Weir (R414 to R425): task states, permits, dispatch and readiness. -/

namespace Sys2Proof.Machine

/-- The free pools and the permits reach their registers (R411). -/
def Device.showPermits (d : Device) : Device :=
  let bits := fun (ok : Nat → Bool) => ((List.range 4).map fun c => if ok c then 2 ^ c else 0).sum
  let d := d.puti F.RSV_POOL_E_FREE (clamp 16 (ratHalfEven (d.rsv.fe * 100)))
  let d := d.puti F.RSV_POOL_H_FREE (clamp 16 (ratHalfEven (d.rsv.fh * 10)))
  let d := d.put F.RSV_PERMIT_E (bits (d.energyOk d.rsv.fe))
  d.put F.RSV_PERMIT_H (bits (d.heatOk d.rsv.fh))

/-- A dispatch draws the task's costs from the free pools, or from the held room (R412). -/
def Device.drawCosts (d : Device) (t : Nat) : Device :=
  if d.rsv.held && d.rsv.sel == some t then { d with rsv.held := false }
  else
    { d with rsv.fe := d.rsv.fe - d.taskE t, rsv.fh := d.rsv.fh - d.taskH t }.showPermits

/-- TASK_READY is raised when the condition of R419 first holds for some task. -/
def Device.notifyTasks (d before : Device) : Device :=
  if (List.range 64).any fun t => d.taskWaits t && !before.taskWaits t then d.fire 68 else d

/-- A ready request for one task (R414, R415). -/
def Device.requestTask (d : Device) (t : Nat) : Device :=
  if d.get (F.WEIR_DESC_t_AFF t) == 0 then d
  else
    match d.taskState t with
    | 0 => d.taskReady t
    | 2 => d.put (F.WEIR_STAT_t_REPEND t) 1
    | _ => d

/-- A withdrawal of one task (R415). -/
def Device.withdrawTask (d : Device) (t : Nat) : Device :=
  match d.taskState t with
  | 1 => d.taskIdle t
  | 2 => d.put (F.WEIR_STAT_t_REPEND t) 0
  | _ => d

/-- The tasks whose bits are set in a word of register `i`. -/
def taskBits (i : Nat) (v : Word) : List Nat := (bitsOf v).map fun b => 32 * i + b

/-- A write of WEIR_READYi. -/
def Device.readyWrite (d : Device) (i : Nat) (v : Word) : Device :=
  ((taskBits i v).foldl Device.requestTask d).notifyTasks d

/-- A write of WEIR_CANCELi. -/
def Device.cancelWrite (d : Device) (i : Nat) (v : Word) : Device :=
  (taskBits i v).foldl Device.withdrawTask d

/-- The word WEIR_READYi and WEIR_CANCELi read as. -/
def Device.readyWord (d : Device) (i : Nat) : Word :=
  BitVec.ofNat 32 (((List.range 32).map fun b => if d.taskState (32 * i + b) == 1 then 2 ^ b else 0).sum)

/-- The order of dispatch (R416): is task `t` better than `u`? -/
def Device.taskBetter (d : Device) (t u : Nat) : Bool :=
  let p := d.get (F.WEIR_STAT_t_EPRIO t)
  let q := d.get (F.WEIR_STAT_t_EPRIO u)
  let r := (d.weirRecord.lookup t).getD 0
  let v := (d.weirRecord.lookup u).getD 0
  decide (q < p) || (p == q && (decide (r < v) || (r == v && decide (t < u))))

/-- The best of the tasks that satisfy `ok`, in the order of dispatch. -/
def Device.bestTask (d : Device) (ok : Nat → Bool) : Option Nat :=
  (List.range 64).foldl
    (fun best t =>
      if ok t then
        match best with
        | none => some t
        | some u => if d.taskBetter t u then some t else best
      else best) none

/-- The task a TAKE of a core finds (R416). -/
def Device.takeChoice (d : Device) (c : CoreId) : Option Nat :=
  if d.flag (F.WEIR_COREc_HELD c.weir) then none
  else
    d.bestTask fun t =>
      d.taskState t == 1 && d.permitted t && (d.get (F.WEIR_DESC_t_AFF t)).testBit c.weir

/-- TAKE (R113, R416): the word it returns, and the dispatch. -/
def Device.take (d : Device) (c : CoreId) : Word × Device :=
  match d.takeChoice c with
  | none => (0, d)
  | some t =>
    let prio := d.get (F.WEIR_STAT_t_EPRIO t)
    let w := BitVec.ofNat 32 (2 ^ 31 + 2 ^ 30 * d.get (F.WEIR_DESC_t_MUST t) + 2 ^ 24 * prio + t)
    let d := d.drawCosts t
    let d := (d.put (F.WEIR_STAT_t_STATE t) 2).put (F.WEIR_STAT_t_CORE t) c.weir
    let d := d.put (F.WEIR_STAT_t_EPRIO t) (d.get (F.WEIR_DESC_t_PRIO t))
    let d := d.setFlag (F.WEIR_STAT_t_STARVED t) false
    let d := (d.put (F.WEIR_COREc_TASK c.weir) t).setFlag (F.WEIR_COREc_HELD c.weir) true
    (w, { d with weirRecord := d.weirRecord.filter fun r => r.1 != t
                 weirAge := d.weirAge.filter fun r => r.1 != t })

/-- DONE (R113): the task a core holds finishes and becomes READY or IDLE (R414). -/
def Device.finishTask (d : Device) (c : CoreId) (t : Nat) : Word × Device :=
  if d.flag (F.WEIR_COREc_HELD c.weir) && d.get (F.WEIR_COREc_TASK c.weir) == t then
    let again := d.flag (F.WEIR_STAT_t_REPEND t)
    let e := d.setFlag (F.WEIR_COREc_HELD c.weir) false
    let e := if again then e.taskReady t else e.taskIdle t
    (0x80000000, e.notifyTasks d)
  else (0, d)

/-- A task has waited STARVE blocks (R418): it is reported once in a wait. -/
def Device.taskStarved (d : Device) (t : Nat) : Device :=
  let lim := d.get F.WEIR_CFG_STARVE
  if d.coreRuns && d.taskState t == 1 && lim != 0 && lim ≤ d.get (F.WEIR_STAT_t_WAIT t) &&
      !d.flag (F.WEIR_STAT_t_STARVED t) then
    let d := d.setFlag (F.WEIR_STAT_t_STARVED t) true
    let d := d.orField (F.WEIR_STARVEDi_TASKS (t / 32)) (2 ^ (t % 32))
    d.raise 69 t (leBytes 1 (d.get (F.WEIR_DESC_t_ECLS t)) ++ leBytes 1 (d.get (F.WEIR_DESC_t_HCLS t)) ++
      leBytes 1 (d.get F.RSV_STAT_BIND))
  else d

/-- One boundary of one task (R415, R417, R418): the periodic request, the wait count and aging. -/
def Device.taskBoundary (d : Device) (blk : Nat) (t : Nat) : Device :=
  let period := d.get (F.WEIR_PER_t_PERIOD t)
  let due := period != 0 && blk % period == d.get (F.WEIR_PER_t_PHASE t)
  let waiting := d.taskState t == 1
  let d :=
    if waiting then
      let d := d.bump (F.WEIR_STAT_t_WAIT t)
      if d.permitted t then
        let n := (d.weirAge.lookup t).getD 0 + 1
        let age := d.get (F.WEIR_DESC_t_AGE t)
        let d := { d with weirAge := (t, n) :: d.weirAge.filter fun r => r.1 != t }
        if age != 0 && n % age == 0 then
          d.put (F.WEIR_STAT_t_EPRIO t) (min 7 (d.get (F.WEIR_STAT_t_EPRIO t) + 1))
        else d
      else d
    else d
  if due then d.requestTask t else d

/-- Action 6 of R31: every task in ascending order; `before` is the device before the boundary. -/
def Device.weirBoundary (d before : Device) (blk : Nat) : Device :=
  ((List.range 64).foldl (fun d t => d.taskBoundary blk t) d).notifyTasks before

end Sys2Proof.Machine
end

