-- ==== Sys2Proof/Machine/RsvOps.lean ====
section
/-! DEFINITION. The Reservoir (R400 to R413): cells, the energy pool, the heat pool, the ceiling law, the
squeeze and the permits. -/

namespace Sys2Proof.Machine

/-- A quotient; with a divisor of zero the manual gives no value, and it is free. -/
def ratOver (a b : Rat) : Rat := if b = 0 then Config.overZero a else a / b

/-! ### Cells (R401 to R403) -/

/-- The cells of the stack. -/
def Device.ncell (d : Device) : Nat := d.get F.RSV_STACK_NCELL

/-- The flags of a cell entry. -/
def Device.cellFlag (d : Device) (j bit : Nat) : Bool := (d.get (F.RSV_CELL_j_FLAGS j)).testBit bit

/-- A reading is stale when its age exceeds AGEMAX × 100 blocks (R401). -/
def Device.cellStale (d : Device) (j : Nat) : Bool :=
  d.get F.RSV_UNK_AGEMAX * 100 < d.rsv.age.toList.getD j 0

/-- A cell judged by the first row of R401. -/
def Device.cellUnknown (d : Device) (j : Nat) : Bool :=
  !d.cellFlag j 0 || d.cellFlag j 3 || d.cellFlag j 4 || d.cellStale j

/-- The reading of a cell in V. -/
def Device.cellVolts (d : Device) (j : Nat) : Rat := (d.get (F.RSV_CELL_j_V j) : Rat) / 10000

/-- The uncertainty of a cell in V (R401); the magnitude of the reference deviation counts. -/
def Device.cellU (d : Device) (j : Nat) : Rat :=
  if d.cellUnknown j then (d.get F.RSV_UNK_UNK_U : Rat) / 1000
  else if d.cellFlag j 2 then (d.get F.RSV_UNC_UCOARSE : Rat) / 10000
  else
    let base := (d.get F.RSV_UNC_UBASE : Rat) / 10000
    if d.cellFlag j 1 then
      base + ((d.geti (F.RSV_CELL_j_DEV j)).natAbs : Rat) / 100000 * d.cellVolts j
    else base

/-- The tightening of the limits of a coarse cell in V. -/
def Device.cellTight (d : Device) (j : Nat) : Rat :=
  if !d.cellUnknown j && d.cellFlag j 2 then (d.get F.RSV_UNC_TIGHT : Rat) / 1000 else 0

/-- Floor and ceiling of a cell in V. -/
def Device.cellFloor (d : Device) (j : Nat) : Rat :=
  (d.get F.RSV_VLIM_VFLOOR : Rat) / 10000 + d.cellTight j

/-- The ceiling of a cell in V. -/
def Device.cellCeil (d : Device) (j : Nat) : Rat :=
  (d.get F.RSV_VLIM_VCEIL : Rat) / 10000 - d.cellTight j

/-- The string resistance in Ω. -/
def Device.stringR (d : Device) : Rat := (d.get F.RSV_STACK_RS : Rat) / 10000

/-- The lowest cell temperature used (R403). -/
def Device.cellTmin (d : Device) : Rat :=
  if d.flag F.RSV_CTEMP_VALID then d.geti F.RSV_CTEMP_MIN else -20

/-- The highest cell temperature used (R404). -/
def Device.cellTmax (d : Device) : Rat :=
  if d.flag F.RSV_CTEMP_VALID then d.geti F.RSV_CTEMP_MAX else (d.get F.RSV_CELLT_TCMAX : Rat)

/-- The per-cell resistance in Ω (R403). -/
def Device.cellR (d : Device) : Rat :=
  d.stringR / d.ncell *
    (1 + (d.get F.RSV_CELLT_RCOLD : Rat) / 1000 * maxRat 0 (25 - d.cellTmin))

/-- ISAMP in A: the last settled one, or IMAX while there is none (R430). -/
def Device.isamp (d : Device) : Rat := d.rsv.isamp.getD ((d.get F.RSV_ILIM_IMAX : Rat) / 100)

/-- The stack's open-circuit voltage (R402, R430). -/
def Device.stackVoltage (d : Device) : Rat :=
  let pin := (d.get F.PWR_VMON_VSTK : Rat) / 2
  if d.get F.PWR_STAT_MAIN == 2 then
    match d.rsv.mean8, d.rsv.mean9 with
    | some v, some i => v + i * d.stringR
    | _, _ => pin
  else pin

/-- The cells of the stack that are judged. -/
def Device.cells (d : Device) : List Nat := List.range (min 32 d.ncell)

/-- The number of unknown cells. -/
def Device.unknownCells (d : Device) : Nat := (d.cells.filter d.cellUnknown).length

/-- The open-circuit estimate of each cell in V (R402, R403). -/
def Device.cellVoc (d : Device) : List (Nat × Rat) :=
  let r := d.cellR
  let known := fun j => d.cellVolts j + d.isamp * r
  let sk := ((d.cells.filter fun j => !d.cellUnknown j).map known).sum
  let nu : Rat := d.unknownCells
  let vu := if nu = 0 then 0 else (d.stackVoltage - sk) / nu
  d.cells.map fun j => (j, if d.cellUnknown j then vu else known j)

/-- The first smallest of some values, by index. -/
def smallest : List (Nat × Rat) → Nat × Rat
  | [] => (0, 0)
  | a :: t => t.foldl (fun m x => if x.2 < m.2 then x else m) a

/-- The first largest of some values, by index. -/
def largest : List (Nat × Rat) → Nat × Rat
  | [] => (0, 0)
  | a :: t => t.foldl (fun m x => if m.2 < x.2 then x else m) a

/-- The smallest headroom in V (R404). -/
def Device.headroom (d : Device) (voc : List (Nat × Rat)) : Rat :=
  (smallest (voc.map fun p => (p.1, p.2 - d.cellU p.1 - d.cellFloor p.1))).2

/-- Sets or clears one bit of RSV_STAT.FLAGS. -/
def Device.rsvFlag (d : Device) (bit : Nat) (b : Bool) : Device :=
  if b then d.orField F.RSV_STAT_FLAGS (2 ^ bit) else d.andNotField F.RSV_STAT_FLAGS (2 ^ bit)

/-- Is a bit of RSV_STAT.FLAGS set? -/
def Device.rsvHas (d : Device) (bit : Nat) : Bool := (d.get F.RSV_STAT_FLAGS).testBit bit

/-- The two cell limits (R405): each bit follows its condition, and its event is raised when it begins. -/
def Device.cellLimit (d : Device) (bit evt source : Nat) (holds : Bool) : Device :=
  let was := d.rsvHas bit
  let d := d.rsvFlag bit holds
  if holds then
    let d := d.orField F.RSV_EVT_EVT (2 ^ evt)
    if was then d else d.raise source 0
  else d

/-! ### Pools (R404, R406) -/

/-- The energy pool PE in A (R404). -/
def Device.poolE (d : Device) (voc : List (Nat × Rat)) : Rat :=
  let ie := maxRat 0 (ratOver (d.headroom voc) d.cellR)
  let ft := limitRat 0 1 (((d.get F.RSV_CELLT_TCMAX : Rat) - d.cellTmax) / 5)
  minRat ie ((d.get F.RSV_ILIM_IMAX : Rat) / 100) * ft

/-- The heatsink temperature, if an NTC of NTCMASK has a valid reading (R400, R406). -/
def Device.heatsink (d : Device) : Option Rat :=
  let ts := d.aux.ntc.toList.zipIdx.filterMap fun p =>
    if (d.get F.RSV_HEAT2_NTCMASK).testBit p.2 then p.1 else none
  match ts with
  | [] => none
  | t :: l => some (l.foldl maxRat t)

/-- The heat pool PH in W (R406). -/
def Device.poolH (d : Device) : Rat :=
  let tsmax : Rat := d.get F.RSV_HEAT0_TSMAX
  let ths := d.heatsink.getD tsmax
  let cth : Rat := (d.get F.RSV_HEAT1_CTHS : Rat) / 10
  let hor : Rat := (d.get F.RSV_HEAT0_HORIZ : Rat) / 10
  let rth : Rat := (d.get F.RSV_HEAT1_RTHS : Rat) / 1000
  let tamb : Rat := d.geti F.RSV_HEAT0_TAMB
  let ps := maxRat 0 (ratOver (cth * (tsmax - ths)) hor + ratOver (ths - tamb) rth)
  let die : Rat := d.geti F.PWR_TEMP_DIE
  ps * limitRat 0 1 (((d.get F.RSV_HEAT0_TDIEMAX : Rat) - die) / 10)

/-! ### The ceiling law (R407 to R409) -/

/-- LMAX of a channel. -/
def Device.lmax (d : Device) (i : Fin 4) : Rat := (d.get (F.RSV_n_LMAX_LMAX (i.val + 1)) : Rat) / 2 ^ 15

/-- The channels of the set A. -/
def Device.audioChannels (d : Device) : List (Fin 4) :=
  (List.finRange 4).filter fun i => d.guardUsed i && (d.get F.MOD_CTL_CH_EN).testBit i.val

/-- The demand at k = 1: the sums of G_n × LMAX_n² in A and of H_n × LMAX_n² in W. -/
def Device.demand (d : Device) : Rat × Rat :=
  let g := fun i : Fin 4 =>
    let z : Rat := (d.get (F.RSV_n_LOAD_ZMIN (i.val + 1)) : Rat) / 1000
    ratOver (d.vref * d.vref) (z * d.stackVoltage * (d.get F.RSV_ILIM_EFF : Rat) / 100) *
      d.lmax i * d.lmax i
  let h := fun i : Fin 4 =>
    (d.get (F.RSV_n_LOAD_HLOSS (i.val + 1)) : Rat) / 100 * d.lmax i * d.lmax i
  ((d.audioChannels.map g).sum, (d.audioChannels.map h).sum)

/-- The largest k from 0 to 1 with `sum` × k² not above `room`: 1 for a sum of zero, 0 when none. -/
def largestScale (sum room : Rat) : Rat :=
  if sum = 0 then 1 else if room < 0 then 0 else minRat 1 (ratSqrt (room / sum))

/-- The binding code of R407. -/
def bindScale (e h cap k0 : Rat) : Nat :=
  if k0 = 1 then 0 else if e = k0 then 1 else if h = k0 then 2 else if cap = k0 then 3 else 0

/-- The costs of the running tasks (R408). -/
def Device.runningCosts (d : Device) : Rat × Rat :=
  let ts := (List.range 64).filter fun t => d.taskState t == 2
  ((ts.map d.taskE).sum, (ts.map d.taskH).sum)

/-- Is a task with MUST = 1 running? -/
def Device.runningMust (d : Device) : Option Nat :=
  (List.range 64).find? fun t => d.taskState t == 2 && d.flag (F.WEIR_DESC_t_MUST t)

/-- One squeeze: the largest σ not above 1 with `pool` − `sum` × (k0 σ)² − `run` at least `need`. -/
def squeeze (pool sum k0 run need : Rat) : Rat :=
  let room := pool - run - need
  let full := sum * k0 * k0
  if room < 0 then 0 else if full ≤ room then 1 else ratSqrt (room / full)

/-- The delivered scale (R409). A rise from 0 reaches a free value at the most. -/
def Device.deliver1 (d : Device) (kt : Rat) : Rat :=
  let prev := d.rsv.k
  let rise := d.get F.RSV_SLEW_RISE
  if kt ≤ prev then kt
  else if prev = 0 then minRat kt (limitRat 0 1 (Config.ceilingStart rise))
  else minRat kt (prev / tenToMinus ((rise : Rat) / 20000))

/-- A low budget (R413): the condition shows in its bit, and the event is raised once per crossing. `level` is
the armed state. The answer is the new armed state. -/
def Device.budgetLow (d : Device) (bit evt source : Nat) (scale free : Rat) (level : Option Rat) :
    Option Rat × Device :=
  let thr := tenToMinus ((d.get F.RSV_SLEW_LOWK : Rat) / 200)
  let low := decide (scale < thr) || decide (free < 0)
  let d := d.rsvFlag bit low
  match level with
  | none => if low then (some thr, (d.orField F.RSV_EVT_EVT (2 ^ evt)).fire source) else (none, d)
  | some l =>
    if !low && decide (l < scale * tenToMinus (1 / 20)) then (none, d)
    else if !low && l = 1 then (none, d)
    else (some l, d)

/-- CEILING_MOVED (R413). -/
def Device.ceilingMoved (d : Device) : Device :=
  let a := d.rsv.k
  let b := d.rsv.kRaised
  let f := tenToMinus ((d.get F.RSV_SLEW_MOVE : Rat) / 200)
  if a ≠ b ∧ (minRat a b ≤ maxRat a b * f) then
    { (d.orField F.RSV_EVT_EVT 32).fire 66 with rsv.kRaised := a }
  else d

/-- The demand counts in the free pools (R410): in PLAY, from the bootstrap boundary on, and
in a sweep. They count in the free pools alone: k and the squeeze are computed as in PLAY. -/
def Device.demandCounts (d : Device) : Bool :=
  d.isState 3 || (d.playEntering && d.get F.PWR_STAT_PHASE == 2 && d.pwr.bootPassed) ||
    match d.diag.run with
    | some r => r.sweep
    | none => false

/-- The latched inputs of the block that ends (R400, R430). While the filter engine stands, in limp, what it last
latched stays (R432). -/
def Device.rsvLatch (d : Device) (sense : Vector (Vector Word 16) 10) : Device :=
  let settled := fun n : Fin 10 => d.senseRuns && d.inp.senseOn && d.inp.unset[n] == 0
  let v8 := sense[8].toList.map (d.senseVolts 8)
  let i9 := sense[9].toList.map (d.senseAmps 9)
  let both := settled 8 && settled 9
  { d with
    rsv.mean8 := if both then some (meanRat v8) else d.rsv.mean8
    rsv.mean9 := if both then some (meanRat i9) else d.rsv.mean9
    rsv.peak9 := if d.senseRuns && d.inp.senseOn then maxList (i9.map absRat) else d.rsv.peak9
    rsv.age := d.rsv.age.map (· + 1) }

/-- Stale marks and the three summary flags of R401. -/
def Device.rsvCells (d : Device) : Device :=
  let d := d.cells.foldl
    (fun d j =>
      if d.cellStale j then d.orField (F.RSV_CELL_j_FLAGS j) 32
      else d.andNotField (F.RSV_CELL_j_FLAGS j) 32) d
  let known := fun j => !d.cellUnknown j
  let d := d.rsvFlag 0 (d.unknownCells != 0)
  let d := d.rsvFlag 1 (d.cells.any fun j => known j && !d.cellFlag j 2 && d.cellFlag j 1)
  d.rsvFlag 2 (d.cells.any fun j => known j && d.cellFlag j 2)

/-- Coil headroom of heat class 3 (R411). -/
def Device.coilHeadroom (d : Device) : Bool :=
  d.audioChannels.all fun i =>
    decide ((d.get F.RSV_HEAT2_COILMIN : Rat) ≤ (d.gch i).tLim - (d.gch i).tEstL) &&
      decide (0 < (d.gch i).xMargin)

/-- The MUST task that R408 selects: the highest effective priority, the lowest index on a tie. -/
def Device.bestMust (d : Device) (denied : Nat → Bool) : Option Nat :=
  (List.range 64).foldl
    (fun best t =>
      if d.taskState t == 1 && d.flag (F.WEIR_DESC_t_MUST t) && denied t then
        match best with
        | none => some t
        | some u =>
          if d.get (F.WEIR_STAT_t_EPRIO u) < d.get (F.WEIR_STAT_t_EPRIO t) then some t else best
      else best) none

/-- SQUEEZE follows σ (R408). -/
def Device.squeezed (d : Device) : Device :=
  if d.rsv.sigma < 1 then
    if d.rsvHas 7 then d
    else
      let d := (d.rsvFlag 7 true).orField F.RSV_EVT_EVT 16
      let t := match d.rsv.sel with
        | some t => t
        | none => d.runningMust.getD 0
      d.raise 67 t (leBytes 2 (d.get F.RSV_SIGMA_SIGMA))
  else d.rsvFlag 7 false

/-- Action 3 of R31 (R407 to R413). Its events and entries come by ascending source (R33, R36). -/
def Device.reservoir (d : Device) (sense : Vector (Vector Word 16) 10) : Device :=
  let d := (d.rsvLatch sense).rsvCells
  let voc := d.cellVoc
  let lo := smallest (voc.map fun p => (p.1, p.2 - d.cellU p.1))
  let hi := largest (voc.map fun p => (p.1, p.2 + d.cellU p.1))
  let d := (d.put F.RSV_VMIN_V (toUQ 16 0 (lo.2 * 10000))).put F.RSV_VMIN_CELL lo.1
  let d := (d.put F.RSV_VMAX_V (toUQ 16 0 (hi.2 * 10000))).put F.RSV_VMAX_CELL hi.1
  let under := decide (d.headroom voc - d.rsv.peak9 * d.cellR < 0)
  let most := (largest (voc.map fun p => (p.1, p.2 + d.cellU p.1 - d.cellCeil p.1))).2
  let pe := d.poolE voc
  let ph := d.poolH
  let d := (d.put F.RSV_POOL_E_POOL (toUQ 16 0 (pe * 100))).put F.RSV_POOL_H_POOL (toUQ 16 0 (ph * 10))
  let d := d.setFlag F.RSV_STAT_HEAT_UNK d.heatsink.isNone
  let dem := d.demand
  let ke := largestScale dem.1 (pe - (d.get F.RSV_RES_ERES : Rat) / 1000)
  let kh := largestScale dem.2 (ph - (d.get F.RSV_RES_HRES : Rat) / 100)
  let cap : Rat := if d.unknownCells = 0 then 1 else (d.get F.RSV_UNK_CAP : Rat) / 256
  let kE := minRat ke cap
  let k0 := minRat kE kh
  let d := (d.put F.RSV_STAT_BIND (bindScale ke kh cap k0)).put F.RSV_K_K0 (toUQ 16 15 k0)
  let d := { d with rsv.coilOk := d.coilHeadroom }
  let counts := d.demandCounts
  let sum := if counts then dem else (0, 0)
  let run := d.runningCosts
  let k1 := d.deliver1 k0
  let free := fun (k : Rat) => (pe - sum.1 * k * k - run.1, ph - sum.2 * k * k - run.2)
  let f1 := free k1
  let sel := d.bestMust fun t => !d.classesOk f1.1 f1.2 t
  let need : Rat × Rat := match sel with
    | some t => (d.taskE t, d.taskH t)
    | none => (0, 0)
  let sig := minRat (squeeze pe dem.1 k0 run.1 need.1) (squeeze ph dem.2 k0 run.2 need.2)
  let least := tenToMinus ((d.get F.RSV_SLEW_SQMAX : Rat) / 200)
  let sigma := if sel.isSome || d.runningMust.isSome then maxRat sig least else 1
  let k := d.deliver1 (k0 * sigma)
  let held := sel.isSome && decide (sigma < 1)
  let f := free k
  let hold : Rat × Rat := if held then need else (0, 0)
  let d := { d with
    rsv.k := k, rsv.sigma := sigma, rsv.sel := sel, rsv.held := held
    rsv.fe := f.1 - hold.1, rsv.fh := f.2 - hold.2 }
  let d := d.showPermits
  let d := (d.put F.RSV_K_K (toUQ 16 15 k)).put F.RSV_SIGMA_SIGMA (toUQ 16 15 sigma)
  let d := (d.put F.RSV_SIGMA_TASK (sel.getD 0)).setFlag F.RSV_SIGMA_SEL sel.isSome
  let (e, d) := d.budgetLow 5 2 64 kE d.rsv.fe d.rsv.lowE
  let (h, d) := d.budgetLow 6 3 65 kh d.rsv.fh d.rsv.lowH
  let d := { d with rsv.lowE := e, rsv.lowH := h }.ceilingMoved.squeezed
  (d.cellLimit 3 0 70 under).cellLimit 4 1 71 (decide (0 ≤ most) && !voc.isEmpty)

/-- L_rsv of the four channels (R409). -/
def Device.ceilings (d : Device) : Vector Rat 4 := Vector.ofFn fun i => d.rsv.k * d.lmax i

/-- ISAMP of the last cell readings (R400): a settled lane 9 sample in A, in the register in 10 mA. -/
def Device.latchIsamp (d : Device) (w : Option Rat) : Device :=
  match w with
  | none => d
  | some i => { d with rsv.isamp := some i }.puti F.RSV_ISAMP_I (clamp 16 (ratHalfEven (i * 100)))

end Sys2Proof.Machine
end

