-- ==== Sys2Proof/Machine/XmOps.lean ====
section
/-! DEFINITION. The companion (XM-18, R486 to R520) and its side of the chain protocol (R439 to R446,
R455). -/

namespace Sys2Proof.Machine

/-! ### Frames (R440) -/

/-- The bytes of a frame: header, HCRC, payload and PCRC. -/
def chainFrame (b0 op seq len b4 : Nat) (payload : List Byte) : List Byte :=
  let h := [BitVec.ofNat 8 b0, BitVec.ofNat 8 op, BitVec.ofNat 8 seq, BitVec.ofNat 8 len, BitVec.ofNat 8 b4]
  h ++ beBytes2 (crc16 h) ++ (if payload.isEmpty then [] else payload ++ beBytes2 (crc16 payload))

/-- A companion's field. -/
def Companion.get (c : Companion) (f : Fld) : Nat := c.regs.get f

/-- A companion's signed field. -/
def Companion.geti (c : Companion) (f : Fld) : Int := c.regs.geti f

/-- Writes a companion's field. -/
def Companion.put (c : Companion) (f : Fld) (v : Nat) : Companion := { c with regs := c.regs.put f v }

/-- Writes a companion's signed field. -/
def Companion.puti (c : Companion) (f : Fld) (v : Int) : Companion := { c with regs := c.regs.puti f v }

/-- The companion takes frames: powered, awake and clear of the wake tone. -/
def Companion.hears (c : Companion) : Bool := c.powered && !c.asleep && !c.toneOn

/-- It acts on frames addressed to it. -/
def Companion.acts (c : Companion) : Bool := c.hears && c.addr != 0

/-- The companion drives a reply out of the port the command came from. -/
def Companion.answer (c : Companion) (f : ChainIn) (op status : Nat) (payload : List Byte := []) :
    Companion :=
  { c with out := some (f.port,
      chainFrame (128 + c.addr) op f.seq.toNat payload.length status payload) }

/-- An unsequenced command: refused with NAK_CRC or NAK_LEN, or answered. -/
def Companion.plain (c : Companion) (f : ChainIn) (op len : Nat)
    (act : Companion → Companion × Nat × List Byte) : Companion :=
  if !c.acts then c
  else if !f.pcrcOk then c.answer f op 0x0A
  else if f.payload.length != len then c.answer f op 0x03
  else
    let r := act c
    r.1.answer f op r.2.1 r.2.2

/-- The next SEQ: 0 is skipped (R446). -/
def seqAfter (s : Nat) : Nat := if (s + 1) % 256 = 0 then 1 else (s + 1) % 256

/-- A sequenced command (R446): executed at NEXTSEQ and cached, answered from the cache at LASTSEQ, refused
with NAK_SEQ otherwise. -/
def Companion.sequenced (c : Companion) (f : ChainIn) (op : Nat)
    (act : Companion → Companion × Nat × List Byte) : Companion :=
  if !c.acts then c
  else if !f.pcrcOk then c.answer f op 0x0A
  else
    let seq := f.seq.toNat
    if seq == c.nextSeq then
      let r := act c
      let c := { r.1 with cache := some r.2, lastSeq := seq, lastOp := op, nextSeq := seqAfter seq }
      c.answer f op r.2.1 r.2.2
    else
      match c.cache with
      | some (status, payload) =>
        if seq == c.lastSeq then c.answer f op status payload
        else c.answer f op 0x02 (leBytes 1 c.nextSeq)
      | none => c.answer f op 0x02 (leBytes 1 c.nextSeq)

/-! ### Flags, levels and reports (R465, R489, R493, R496) -/

/-- XM_STAT.LEVEL. -/
def Companion.level (c : Companion) : Nat := c.get F.XM_STAT_LEVEL

/-- XM_STAT.ATTR. -/
def Companion.attr (c : Companion) : Nat := c.get F.XM_STAT_ATTR

/-- REF_SUSPECT of R496. -/
def Companion.refSuspect (c : Companion) : Bool := c.level == 1 || (c.level == 2 && c.attr != 1)

/-- REF_FAULT of R496: coarse readings in place of fine. -/
def Companion.refFault (c : Companion) : Bool := c.level == 2 && c.attr != 2

/-- The enable bits of the 18 cells. -/
def Companion.balEn (c : Companion) : Nat := c.get F.XM_BAL_EN_L_EN + 65536 * c.get F.XM_BAL_EN_H_EN

/-- The wires judged open. -/
def Companion.openWires (c : Companion) : Nat := c.get F.XM_OW_RES_L_WIRES + 65536 * c.get F.XM_OW_RES_H_WIRES

/-- The cells that fail R498. -/
def Companion.plaus (c : Companion) : Nat := c.get F.XM_PLAUS_L_CELLS + 65536 * c.get F.XM_PLAUS_H_CELLS

/-- Brings XM_STAT.FLAGS up to date; TSYNC is kept. -/
def Companion.setFlags (c : Companion) : Companion :=
  let ts := c.get F.XM_STAT_FLAGS / 4 % 2
  c.put F.XM_STAT_FLAGS
    (c.refSuspect.toNat + 2 * c.refFault.toNat + 4 * ts + 8 * (c.openWires != 0).toNat +
      16 * (c.balEn != 0).toNat)

/-- Sets or clears TSYNC. -/
def Companion.setTsync (c : Companion) (b : Bool) : Companion :=
  let f := c.get F.XM_STAT_FLAGS
  c.put F.XM_STAT_FLAGS (f - 4 * (f / 4 % 2) + 4 * b.toNat)

/-- TSYNC. -/
def Companion.tsync (c : Companion) : Bool := (c.get F.XM_STAT_FLAGS).testBit 2

/-- The switches that are closed now: the chosen ones, unless a measurement, a test or the loss of TIME_SET
holds them open. -/
def Companion.showAct (c : Companion) : Companion :=
  let a := if c.hold || c.owRun || c.syncOff || c.asleep then 0 else c.chosen &&& c.balEn
  (c.put F.XM_BAL_ACT_L_ACT (a % 65536)).put F.XM_BAL_ACT_H_ACT (a / 65536)

/-- Writes the enable bits. -/
def Companion.setBalEn (c : Companion) (v : Nat) : Companion :=
  (((c.put F.XM_BAL_EN_L_EN (v % 65536)).put F.XM_BAL_EN_H_EN (v / 65536)).setFlags).showAct

/-- Clears one cell's enable (cell from 0). -/
def Companion.clearCell (c : Companion) (i : Nat) : Companion :=
  c.setBalEn (c.balEn - (c.balEn &&& 2 ^ i))

/-- Balancing stops: the enable bits clear, and the lock is set when `lock` (R502). -/
def Companion.stopBalancing (c : Companion) (lock : Bool) : Companion :=
  let c := c.setBalEn 0
  if lock then c.put F.XM_STAT_LOCK 1 else c

/-- The field of cell `i` (from 0) in a reply (R489, R498, R504). -/
def Companion.cellField (c : Companion) (i : Nat) : Nat :=
  if c.get F.XM_CFG_NCELL ≤ i then 0
  else if c.plaus.testBit i || c.openWires.testBit i || c.openWires.testBit (i + 1) then 0xFFFF
  else if c.refFault then c.get (F.XM_CRS_i_V (i + 1)) * 50
  else c.get (F.XM_CELL_i_V (i + 1))

/-- One byte of a signed number. -/
def signedByte (v : Int) : List Byte := [BitVec.ofInt 8 v]

/-- An NTC field of a reply (R489). -/
def ntcField (enabled converted : Bool) (t : Option Int) : List Byte :=
  match t with
  | some v => if enabled && converted then signedByte (divHalfEven v 10) else signedByte (-128)
  | none => signedByte (-128)

/-- The reply of R465, as it stands at Ts + T_conv. -/
def Companion.report (c : Companion) (id : Nat) (total ntc : Bool) (x : ConvIn) : List Byte :=
  leBytes 2 id ++ leBytes 2 (c.get F.XM_STAT_FLAGS) ++
    signedByte (max (-127) (min 127 (divHalfEven (c.geti F.XM_REF_DEV_DEV) 10))) ++
    leBytes 1 (c.get F.XM_CFG_NCELL) ++
    (List.range 18).flatMap (fun i => leBytes 2 (c.cellField i)) ++
    leBytes 2 (if total then (divHalfEven (c.get F.XM_TOTAL_V) 5).toNat else 0) ++
    ntcField (c.get F.XM_CFG_NTC1_EN == 1) ntc x.ntc1 ++
    ntcField (c.get F.XM_CFG_NTC2_EN == 1) ntc x.ntc2 ++ [0]

/-- A cycle performs the cross-conversion. -/
def Companion.crosses (c : Companion) (mask : Nat) : Bool := mask.testBit 1 || c.level != 0

/-- Chain time in 1/256 µs counts modulo 2⁴⁰. -/
def timeMod : Nat := 2 ^ 40

/-- The updates of the tracker per hour, from the chain time between two of them (R492). -/
def updatesPerHour (before now : Nat) : Rat :=
  3600 * 1000000 * 256 / ((now + timeMod - before - 1) % timeMod + 1 : Nat)

/-- The tracker takes the measurement of the sample at chain time `ts` (R492). -/
def Companion.track (c : Companion) (ratio : Rat) (ts : Nat) : Companion :=
  let m := (ratio - 1) * 1000000
  let w : Rat := 2 ^ c.get F.XM_REF_TRK_TC
  let new : Rat × Rat := match c.trk with
    | none => (m, 0)
    | some (dev, slope, before) =>
      let dev' := dev + (m - dev) / w
      (dev', slope + ((dev' - dev) * updatesPerHour before ts - slope) / w)
  let sat := fun (v : Rat) => max (-32767) (min 32767 (ratHalfEven v))
  (({ c with trk := some (new.1, new.2, ts) }).puti F.XM_REF_DEV_DEV (sat new.1)).puti F.XM_REF_SLOPE_SLOPE
    (sat new.2)

/-- LEVEL after a tracker update (R493); balancing stops and locks when it becomes FAULT (R502). -/
def Companion.grade (c : Companion) : Companion :=
  let a : Rat := match c.trk with
    | some (dev, _, _) => absRat dev
    | none => 0
  let warn : Rat := (c.get F.XM_REF_LIM_WARN : Rat) * 10
  let fault : Rat := (c.get F.XM_REF_LIM_FAULT : Rat) * 10
  match c.level with
  | 0 => if warn ≤ a then ((c.put F.XM_STAT_LEVEL 1).put F.XM_STAT_ATTR 3).setFlags else c
  | 1 =>
    if fault ≤ a then ((c.put F.XM_STAT_LEVEL 2).stopBalancing true).setFlags
    else if a < warn - 100 then ((c.put F.XM_STAT_LEVEL 0).put F.XM_STAT_ATTR 0).setFlags
    else c
  | _ => if a < fault - 200 then (c.put F.XM_STAT_LEVEL 1).setFlags else c

/-- The plausibility of one cell (R498). -/
def Companion.plausCell (c : Companion) (i : Fin 18) (fine : Nat) (coarse : Nat) : Companion :=
  if c.get F.XM_CFG_NCELL ≤ i.val then c
  else
    let far := decide ((c.get F.XM_PLTOL_V : Int) * 10 < ((fine : Int) - coarse * 50).natAbs)
    let bad := if far then c.plBad[i] + 1 else 0
    let good := if far then 0 else c.plGood[i] + 1
    let c := { c with plBad := c.plBad.set i bad, plGood := c.plGood.set i good }
    let marked := c.plaus.testBit i.val
    let p := if 3 ≤ bad && !marked then c.plaus + 2 ^ i.val
      else if 3 ≤ good && marked then c.plaus - 2 ^ i.val else c.plaus
    let c := (c.put F.XM_PLAUS_L_CELLS (p % 65536)).put F.XM_PLAUS_H_CELLS (p / 65536)
    if 3 ≤ bad then c.clearCell i.val else c

/-- Sleep takes effect (R505): balancing and the converters stop. -/
def Companion.toSleep (c : Companion) : Companion :=
  let c := { c.stopBalancing false with
    asleep := true, sleepDue := false, pend := none, conv := none, owRun := false, owWant := false, hold := false }
  (c.put F.XM_WAKE_WHY_WHY 0).showAct

/-- The results of a cycle are complete (R488, R489, R492, R498). -/
def Companion.complete (c : Companion) (x : ConvIn) : Companion :=
  match c.conv with
  | none => c
  | some s =>
    let coarse := s.mask.testBit 0 || c.level == 2
    let cross := c.crosses s.mask
    let total := s.mask.testBit 2 || c.level != 0
    let ntc := s.mask.testBit 3
    let fine := x.fine.map fun v => min v 50000
    let c := (List.finRange 18).foldl (fun c i => c.put (F.XM_CELL_i_V (i.val + 1)) fine[i]) c
    let n := c.get F.XM_CFG_NCELL
    let sum := ((fine.toList.take n).sum : Int)
    let c := c.put F.XM_FSUM_V (min (divHalfEven sum 20).toNat 65535)
    let c := if coarse then
        (List.finRange 18).foldl (fun c i => c.put (F.XM_CRS_i_V (i.val + 1)) x.coarse[i].toNat) c
      else c
    let c := if total then c.put F.XM_TOTAL_V x.total.toNat else c
    let c := if ntc then
        let c := match x.ntc1 with | some t => c.puti F.XM_NTC1_T t | none => c
        let c := match x.ntc2 with | some t => c.puti F.XM_NTC2_T t | none => c
        c.puti F.XM_DIE_T x.die
      else c
    let c := if coarse && c.level == 0 then
        (List.finRange 18).foldl (fun c i => c.plausCell i fine[i] x.coarse[i].toNat) c
      else c
    let c := c.setFlags
    let c := if cross then { c.track x.ratio s.ts with reply := none } else c
    let c := { c with reply := some (c.report s.id total ntc x), conv := none, hold := c.pend.isSome
                      cycles := c.cycles + 1 }
    let c := if cross then c.grade else c
    let auto := c.get F.XM_OW_CTL_AUTO * 16
    let c := if auto != 0 && c.cycles % auto == 0 then { c with owWant := true } else c
    if c.sleepDue then c.toSleep else c.showAct

/-- At Ts the inputs are held: the previous results are discarded, an open-wire test is abandoned and will
restart (R488, R489, R510). -/
def Companion.holdSample (c : Companion) : Companion :=
  match c.pend with
  | none => c
  | some s =>
    if c.conv.isSome || !c.powered || c.asleep then c
    else
      let c := { c with conv := some s, pend := none, reply := none, hold := true, time := s.ts
                        owWant := c.owWant || c.owRun, owRun := false }
      (c.put F.XM_SAMPID_ID s.id).showAct

/-! ### Chain commands -/

/-- Time passes. -/
def Companion.after (c : Companion) (dt : Nat) : Companion := { c with time := (c.time + dt) % timeMod }

/-- STATUS (R444). -/
def Companion.status (c : Companion) (f : ChainIn) : Companion :=
  c.plain f 0x01 0 fun c =>
    let flags := c.cache.isSome.toNat + 2 * c.boot.toNat
    ({ c with boot := false }, 0,
      leBytes 1 c.nextSeq ++ leBytes 1 c.lastSeq ++ leBytes 1 c.lastOp ++ leBytes 1 flags ++
        leBytes 1 f.hops.toNat ++ leBytes 1 (c.get F.XM_ID_REV) ++ [0, 0])

/-- ASSIGN (R444, R457): taken by an unaddressed companion. -/
def Companion.assign (c : Companion) (f : ChainIn) : Companion :=
  if !c.hears || c.addr != 0 then c
  else if !f.pcrcOk then c.answer f 0x02 0x0A
  else
    match f.payload with
    | [a, s] =>
      if 1 ≤ a.toNat && a.toNat ≤ 64 && s.toNat ≤ 1 then
        { c with addr := a.toNat, faceA := if s == 0 then f.port else f.port.other }.answer f 0x02 0
      else c.answer f 0x02 0x05
    | _ => c.answer f 0x02 0x03

/-- UNASSIGN (R444): the sequence state is kept. -/
def Companion.unassign (c : Companion) : Companion := if c.hears then { c with addr := 0 } else c

/-- READ_ID (R444). -/
def Companion.readId (c : Companion) (f : ChainIn) : Companion :=
  c.plain f 0x04 0 fun c => (c, 0, (leBytes 64 c.key.toNat).reverse)

/-- DELAY_PROBE (R443): a reply without payload. -/
def Companion.delayProbe (c : Companion) (f : ChainIn) : Companion :=
  c.plain f 0x06 0 fun c => (c, 0, [])

/-- The delay of a port in edge periods; none while it holds all ones (R491). -/
def Companion.delay (c : Companion) (port : Side) : Option Nat :=
  let v := if port == c.faceA then c.get F.XM_DLYA_L_DLY + 65536 * c.get F.XM_DLYA_H_DLY
    else c.get F.XM_DLYB_L_DLY + 65536 * c.get F.XM_DLYB_H_DLY
  if v = 0xFFFFFF then none else some v

/-- Edge periods in 1/256 µs. -/
def edgesToTime (d : Nat) : Nat := d * 125 / 384

/-- TIME_SET (R491): chain time is the carried value plus the delay; TSYNC needs a known delay. -/
def Companion.timeSet (c : Companion) (port : Side) (us : BitVec 32) (phase : Byte) : Companion :=
  if !c.acts then c
  else
    let d := c.delay port
    let t := us.toNat * 256 + phase.toNat + edgesToTime (d.getD 0)
    let c := { c with time := t % timeMod }
    if d.isSome then { c.setTsync true with syncOff := false }.showAct else c.setTsync false

/-- Is a sample converting, and when does it end? -/
def Companion.convEnd (c : Companion) : Option Nat :=
  c.conv.map fun s => s.ts + (if c.crosses s.mask then 220 else 120) * 256

/-- A sampling instant that a companion does not take up: less than 5 µs or more than 1 s ahead, or before the end of the
conversion in progress (R509). -/
def Companion.sampleLate (c : Companion) (ts : Nat) : Bool :=
  let ahead := (ts + timeMod - c.time) % timeMod
  let early := match c.convEnd with
    | some e => decide (timeMod / 2 ≤ (ts + timeMod - e % timeMod) % timeMod)
    | none => false
  ahead < 5 * 256 || 1000000 * 256 < ahead || early

/-- A SAMPLE_AT whose instant is still ahead holds the companion for it; one that is late is counted (R488). -/
def Companion.sampleTake (c : Companion) (ts : Nat) (id : BitVec 16) (mask : Byte) : Companion :=
  if c.sampleLate ts then
    c.put F.XM_ERRCNT_LATE (min (c.get F.XM_ERRCNT_LATE + 1) 255)
  else { c with pend := some ⟨ts, id.toNat, mask.toNat⟩, hold := true }.showAct

/-- SAMPLE_AT (R488, R509): `dt` is the time in 1/256 µs since the companion's chain time was last
known. -/
def Companion.sampleAt (c : Companion) (dt : Nat) (us : BitVec 32) (phase : Byte) (id : BitVec 16)
    (mask : Byte) : Companion :=
  if !c.acts then c else (c.after dt).sampleTake (us.toNat * 256 + phase.toNat) id mask

/-- READ_SAMPLE (R489). -/
def Companion.readSample (c : Companion) (f : ChainIn) : Companion :=
  c.plain f 0x09 2 fun c =>
    if c.conv.isSome then (c, 0x06, [])
    else
      match c.reply with
      | some r => if ofLe f.payload == c.get F.XM_SAMPID_ID then (c, 0, r) else (c, 0x09, [])
      | none => (c, 0x09, [])

/-- The register of an address, if the map lists it. -/
def xmReg (a : Nat) : Option RegSpec := regFind (0x100000000 + a)

/-- Is a register read-only? -/
def xmReadOnly (r : RegSpec) : Bool := r.fields.all fun f => f.acc == .ro

/-- The remaining minutes of a cell's timer, rounded up, while it is enabled (R499). -/
def Companion.remaining (c : Companion) (i : Nat) : Nat :=
  let t := c.get (F.XM_BAL_T_i_MIN (i + 1))
  if c.balEn.testBit i then (t * 60 - c.bleed.toList.getD i 0 + 59) / 60 else t

/-- The word a register reads as: write-only and reserved bits read zero. -/
def Companion.readWord (c : Companion) (a : Nat) : Nat :=
  match xmReg a with
  | none => 0
  | some r =>
    if a == 0x0C then c.time / 256 % 65536
    else if 0x58 ≤ a && a < 0x6A then c.remaining (a - 0x58)
    else
      let w := c.regs.word (0x100000000 + a)
      ((r.fields.filter fun f => f.acc != .wo).map fun f => fieldOf w f.lsb f.width * 2 ^ f.lsb).sum

/-- READ_REG (R507); a read of XM_CTIME_L latches XM_CTIME_H. -/
def Companion.readReg (c : Companion) (dt : Nat) (f : ChainIn) : Companion :=
  c.plain f 0x0A 2 fun c =>
    let c := c.after dt
    let a := (f.payload.getD 0 0).toNat
    let n := (f.payload.getD 1 0).toNat
    if n == 0 || 16 < n then (c, 0x03, [])
    else if (List.range n).any fun i => (xmReg (a + i)).isNone then (c, 0x04, [])
    else
      let c := if a ≤ 0x0C && 0x0C < a + n then c.put F.XM_CTIME_H_US (c.time / 256 / 65536) else c
      (c, 0, (List.range n).flatMap fun i => leBytes 2 (c.readWord (a + i)))

/-- The register values a WRITE_REG would leave: reserved bits are ignored. -/
def Companion.written (c : Companion) (a : Nat) (vs : List Nat) : Companion :=
  vs.zipIdx.foldl
    (fun c p =>
      match xmReg (a + p.2) with
      | some r =>
        r.fields.foldl
          (fun c f => if f.acc == .rw then
              c.put ⟨0x100000000 + a + p.2, f.lsb, f.width⟩ (fieldOf (BitVec.ofNat 32 p.1) f.lsb f.width)
            else c) c
      | none => c) c

/-- The reserved encodings of R520, on the values that would be in force. -/
def Companion.encodingOk (c : Companion) : Bool :=
  let g := c.get
  6 ≤ g F.XM_CFG_NCELL && g F.XM_CFG_NCELL ≤ 18 && g F.XM_REF_LIM_WARN != 0 &&
    decide (g F.XM_REF_LIM_WARN < g F.XM_REF_LIM_FAULT) && g F.XM_REF_LIM_FAULT ≤ 250 &&
    g F.XM_REF_TRK_TC ≤ 12 && 1 ≤ g F.XM_BAL_CTL_MAX && g F.XM_BAL_CTL_MAX ≤ 9 &&
    60 ≤ g F.XM_BAL_CTL_TDIE && g F.XM_BAL_CTL_TDIE ≤ 125 &&
    (List.range 18).all (fun i => g (F.XM_BAL_T_i_MIN (i + 1)) != 0) && g F.XM_OW_CTL_OWT != 0 &&
    1 ≤ g F.XM_SLP_INT_INT && g F.XM_SLP_INT_INT ≤ 3600 &&
    decide (g F.XM_SLP_WIN_LO < g F.XM_SLP_WIN_HI) && g F.XM_VTOL_V != 0 && g F.XM_PLTOL_V != 0

/-- The value a range writes to one address, if it covers it. -/
def rangeValue (a : Nat) (vs : List Nat) (x : Nat) : Option Nat :=
  if a ≤ x then (vs[x - a]?) else none

/-- A vote (R495). While LEVEL is NORMAL, ATTR stays NONE (R496). -/
def Companion.vote (c : Companion) : Companion :=
  if c.level == 0 then c
  else
  let e3 : Int := c.get F.XM_SHARE_V
  let a := ((c.get F.XM_FSUM_V : Int) - e3).natAbs * 2
  let b := ((c.get F.XM_TOTAL_V : Int) - e3).natAbs * 2
  let v := c.get F.XM_VTOL_V
  let attr := if b ≤ v && 2 * v < a then 1 else if a ≤ v && 2 * v < b then 2 else 3
  (c.put F.XM_STAT_ATTR attr).setFlags

/-- Does a range write a 1 to an enable bit or a balancing timer? The lock refuses that (R502). -/
def lockedWrite (a : Nat) (vs : List Nat) : Bool :=
  (rangeValue a vs 0x50).any (fun v => v % 65536 != 0) || (rangeValue a vs 0x51).any (fun v => v % 4 != 0) ||
    (List.range 18).any fun i => (rangeValue a vs (0x58 + i)).isSome

/-- The effects of an accepted WRITE_REG beyond the register values (R495, R499, R502, R503). -/
def Companion.writeEffects (c old : Companion) (a : Nat) (vs : List Nat) : Companion :=
  let started := fun i : Fin 18 =>
    (c.balEn.testBit i.val && !old.balEn.testBit i.val) || (rangeValue a vs (0x58 + i.val)).isSome
  let bleed : Vector Nat 18 := Vector.ofFn fun i => if started i then 0 else c.bleed[i]
  let c := { c with bleed := bleed }
  let c := match rangeValue a vs 0x53 with
    | some 0x5A0F => c.stopBalancing true
    | some 0xA5F0 => c.put F.XM_STAT_LOCK 0
    | _ => c
  let c := if (rangeValue a vs 0x74).any fun v => v.testBit 0 then { c with owWant := true } else c
  let c := if (rangeValue a vs 0x4F) == some (c.get F.XM_SAMPID_ID) then c.vote else c
  c.setFlags.showAct

/-- WRITE_REG executes (R507, R502). -/
def Companion.execWrite (c : Companion) (p : List Byte) : Companion × Nat × List Byte :=
  let a := (p.getD 0 0).toNat
  let n := (p.getD 1 0).toNat
  if n == 0 || 16 < n || p.length != 2 + 2 * n then (c, 0x03, [])
  else
    let vs := (List.range n).map fun i => ofLe ((p.drop (2 + 2 * i)).take 2)
    let bad := (List.range n).any fun i =>
      match xmReg (a + i) with
      | none => true
      | some r => xmReadOnly r
    if bad then (c, 0x04, [])
    else
      let c' := c.written a vs
      let key := rangeValue a vs 0x53
      if !c'.encodingOk || key.any (fun v => v != 0x5A0F && v != 0xA5F0) then (c, 0x05, [])
      else if (c.get F.XM_STAT_LOCK == 1 && lockedWrite a vs) || (key == some 0xA5F0 && c.level == 2) then
        (c, 0x07, [])
      else (c'.writeEffects c a vs, 0, [])

/-- WRITE_REG (R446, R507). -/
def Companion.writeReg (c : Companion) (f : ChainIn) : Companion :=
  c.sequenced f 0x0B fun c => c.execWrite f.payload

/-- COLLECT (R455). -/
def Companion.collect (c : Companion) (f : ChainIn) : Companion :=
  c.plain f 0x0C 1 fun c =>
    match c.cache with
    | some r => if ofLe f.payload == c.lastSeq then (c, r.1, r.2) else (c, 0x08, [])
    | none => (c, 0x08, [])

/-- SLEEP during a conversion waits for its end; an open-wire test is abandoned (R513). -/
def Companion.sleepSoon (c : Companion) : Companion :=
  if c.conv.isSome then { c with sleepDue := true, pend := none, owRun := false, owWant := false }.showAct
  else c.toSleep

/-- SLEEP (R505): answered when it was addressed. -/
def Companion.sleep (c : Companion) (bc : Bool) (f : ChainIn) : Companion :=
  if bc then (if c.hears then c.sleepSoon else c)
  else
    let r := c.plain f 0x0D 0 fun c => (c, 0, [])
    if c.acts && f.pcrcOk && f.payload.isEmpty then r.sleepSoon else r

/-- An undefined opcode (R444, R446): NAK_OPCODE when addressed, counted when broadcast. -/
def Companion.undefined (c : Companion) (op : Nat) (bc : Bool) (f : ChainIn) : Companion :=
  if bc then (if c.hears then { c with undef := c.undef + 1 } else c)
  else c.sequenced f op fun c => (c, 0x01, [])

/-- A frame that is not addressed to the companion is repeated out of the far port (R439, R442): with a
failed header CRC it stops and counts the error; a command goes on with HOPS + 1 and a new HCRC. -/
def Companion.repeatFrame (c : Companion) (port : Side) (bytes : List Byte) : Companion :=
  if !c.acts then c
  else
    let h := bytes.take 5
    if bytes.length < 7 || (bytes.drop 5).take 2 != beBytes2 (crc16 h) then
      c.put F.XM_ERRCNT_HCRC (min (c.get F.XM_ERRCNT_HCRC + 1) 255)
    else
      let reply := (bytes.getD 0 0).getLsbD 7
      let own := !reply && (bytes.getD 0 0).toNat == c.addr
      let b4 := (bytes.getD 4 0).toNat
      let b4' := b4 - b4 % 64 + (b4 % 64 + 1) % 64
      let h' := if reply then h else h.take 4 ++ [BitVec.ofNat 8 b4']
      if own then c else { c with out := some (port.other, h' ++ beBytes2 (crc16 h') ++ bytes.drop 7) }

/-! ### Time-driven events -/

/-- No TIME_SET for `ms` milliseconds clears TSYNC; once TSYNC is 0, `ms` milliseconds without it open the switches
(R491, R502). -/
def Companion.tsyncLost (c : Companion) (ms : Nat) : Companion :=
  if !c.powered then c
  else if c.tsync then (if 250 ≤ ms then c.setTsync false else c)
  else if 2000 ≤ ms then { c with syncOff := true }.showAct
  else c

/-- The cells BALANCE_SCHEDULE closes: most remaining bleed time first, at most MAX, no neighbours
(R500). -/
def Companion.schedule (c : Companion) : Nat :=
  let left := fun i => c.get (F.XM_BAL_T_i_MIN (i + 1)) * 60 - c.bleed.toList.getD i 0
  let order := ((List.range 18).filter fun i => c.balEn.testBit i).mergeSort
    fun i j => decide (left j < left i) || (left i == left j && decide (i ≤ j))
  (order.foldl
    (fun (p : Nat × Nat) i =>
      if p.2 < c.get F.XM_BAL_CTL_MAX && !p.1.testBit (i + 1) && !(i != 0 && p.1.testBit (i - 1)) then
        (p.1 + 2 ^ i, p.2 + 1)
      else p) (0, 0)).1

/-- Each second (R499, R500, R502): the bleed time of the chosen cells advances, and the switches are chosen
anew. `die` is the die temperature in 0.1 °C. -/
def Companion.balance (c : Companion) (die : Int) : Companion :=
  if !c.powered || c.asleep then c
  else
    let counting := fun i : Fin 18 =>
      c.chosen.testBit i.val && c.balEn.testBit i.val && !c.syncOff && !c.owRun && c.get F.XM_STAT_BAL_PAUSE == 0
    let bleed : Vector Nat 18 := Vector.ofFn fun i => if counting i then c.bleed[i] + 1 else c.bleed[i]
    let c := { c with bleed := bleed }
    let c := if 1400 ≤ die then c.stopBalancing false else c
    let lim : Int := c.get F.XM_BAL_CTL_TDIE
    let c := if lim * 10 ≤ die then c.put F.XM_STAT_BAL_PAUSE 1
      else if die ≤ lim * 10 - 100 then c.put F.XM_STAT_BAL_PAUSE 0 else c
    { c with chosen := if c.get F.XM_STAT_BAL_PAUSE == 1 then 0 else c.schedule }.showAct

/-- A cell's bleed time reaches its timer (R499). -/
def Companion.timerExpire (c : Companion) (i : Fin 18) : Companion :=
  if c.powered && c.balEn.testBit i.val && c.get (F.XM_BAL_T_i_MIN (i.val + 1)) * 60 ≤ c.bleed[i] then
    c.clearCell i.val
  else c

/-- An open-wire test starts (R503): bleeding pauses. -/
def Companion.owStart (c : Companion) : Companion :=
  if c.powered && !c.asleep && c.owWant && c.conv.isNone then
    { c with owWant := false, owRun := true }.showAct
  else c

/-- An open-wire test completes (R503, R504). `before` are the fine readings and `after` those of each
wire's test, in 0.1 mV. -/
def Companion.owEnd (c : Companion) (before : Vector Nat 18) (after : Vector (Vector Nat 18) 19) :
    Companion :=
  if !c.owRun then c
  else
    let lim : Int := (c.get F.XM_OW_THR_V : Int) * 100
    let opened := fun w : Fin 19 =>
      let up := (List.finRange 18).any fun i =>
        i.val < c.get F.XM_CFG_NCELL && i.val == w.val && decide (lim < (before[i] : Int) - ((after[w])[i] : Int))
      let down := (List.finRange 18).any fun i =>
        i.val < c.get F.XM_CFG_NCELL && i.val + 1 == w.val && decide (lim < ((after[w])[i] : Int) - (before[i] : Int))
      up || down
    let res := ((List.finRange 19).map fun w => if opened w then 2 ^ w.val else 0).sum
    let c := { c with owRun := false }
    let c := (c.put F.XM_OW_RES_L_WIRES (res % 65536)).put F.XM_OW_RES_H_WIRES (res / 65536)
    let c := (List.range 18).foldl
      (fun c i => if res.testBit i || res.testBit (i + 1) then c.clearCell i else c) c
    c.setFlags.showAct

/-- The companion wakes (R506): TSYNC is 0 and no frame is accepted until the tone has ended. -/
def Companion.wake (c : Companion) (why : Nat) : Companion :=
  let c := { c with asleep := false, toneOn := true }.setTsync false
  c.put F.XM_WAKE_WHY_WHY (c.get F.XM_WAKE_WHY_WHY ||| why)

/-- A window check in sleep (R506): coarse codes, and the NTCs in 0.1 °C. One that was under way when a tone woke the
companion completes as well (R513). -/
def Companion.windowCheck (c : Companion) (coarse : Vector (BitVec 10) 18) (ntc : List (Option Int)) :
    Companion :=
  if !(c.powered && (c.asleep || (c.toneOn && c.get F.XM_WAKE_WHY_WHY != 0))) then c
  else
    let cells := (coarse.toList.take (c.get F.XM_CFG_NCELL)).map fun v => v.toNat * 5
    let lo := if cells.any fun v => decide (v < c.get F.XM_SLP_WIN_LO * 20) then 2 else 0
    let hi := if cells.any fun v => decide (c.get F.XM_SLP_WIN_HI * 20 < v) then 4 else 0
    let en := [c.get F.XM_CFG_NTC1_EN == 1, c.get F.XM_CFG_NTC2_EN == 1]
    let hot := if (ntc.zip en).any fun p =>
        p.2 && p.1.any fun t => decide ((c.get F.XM_SLP_TMAX_T : Int) * 10 < t) then 8 else 0
    let c := (List.finRange 18).foldl (fun c i => c.put (F.XM_CRS_i_V (i.val + 1)) coarse[i].toNat) c
    let c := match ntc[0]? with | some (some t) => c.puti F.XM_NTC1_T t | _ => c
    let c := match ntc[1]? with | some (some t) => c.puti F.XM_NTC2_T t | _ => c
    if lo + hi + hot = 0 then c else c.wake (lo + hi + hot)

/-- A wake tone reaches a port (R468, R506): a sleeper wakes; every companion relays it. -/
def Companion.hearTone (c : Companion) : Companion :=
  if !c.powered then c else if c.asleep then c.wake 1 else { c with toneOn := true }

/-- The companion of a place on the chain. -/
def Device.companion (d : Device) (k : Fin 64) : Companion := d.companions[k]

/-- A command of a companion. -/
def Device.onCompanion (d : Device) (k : Fin 64) (f : Companion → Companion) : Device :=
  { d with companions := d.companions.set k (f d.companions[k]) }

end Sys2Proof.Machine
end

