-- ==== Sys2Proof/Machine/HostCore.lean ====
section
/-! DEFINITION. What the host ports share with the engines that serve them: ring messages that a node sends
(R542, R544), host frames and responses (R574 to R581), the completion of a command, and the arrival of a
frame at a client's parser (R576 to R580). -/

namespace Sys2Proof.Machine

/-! ### Ring messages -/

/-- The class of the queue a message type belongs to (R544). -/
def msgClass (type : Nat) : Fin 3 :=
  if (1 ≤ type ∧ type ≤ 7) ∨ (0x0B ≤ type ∧ type ≤ 0x0E) then 0 else if type = 0x0A then 1 else 2

/-- The SRC byte of this node: its number, with UNNUM while it has none (R542). -/
def Device.trnSrc (d : Device) : Nat :=
  d.get F.TRN_STAT_NODE + (if d.flag F.TRN_STAT_NUMV then 0 else 128)

/-- Queues a message of this node (R544). FLAGS carry FIRST and LAST in a message that is whole. -/
def Device.trnSend (d : Device) (dst type : Nat) (payload : List Byte) (flags : Nat := 6) : Device :=
  let m : Msg := ⟨dst, d.trnSrc, type, flags, d.trn.mseq, payload⟩
  let c := msgClass type
  let q : Vector (List Msg) 3 := d.trn.queue.set c (d.trn.queue[c] ++ [m])
  { d with trn.queue := q, trn.mseq := (d.trn.mseq + 1) % 256 }

/-- Cuts bytes into pieces of at most `n`. -/
def chunks (n : Nat) : Nat → List Byte → List (List Byte)
  | 0, _ => []
  | fuel + 1, bs => if bs.length ≤ n then [bs] else bs.take n :: chunks n fuel (bs.drop n)

/-- Sends a host frame as HOST_REQ or HOST_RSP fragments (R548): FRAG counts from 0, FIRST on the first and
LAST on the last, one MSEQ each. -/
def Device.trnFragments (d : Device) (dst type : Nat) (client : Client) (frame : List Byte) : Device :=
  let parts := chunks 252 16 frame
  let head := leBytes 1 client.idx ++ [0] ++ leBytes 2 frame.length
  (parts.zipIdx).foldl
    (fun d p =>
      let flags := (if p.2 == 0 then 2 else 0) + (if p.2 + 1 == parts.length then 4 else 0) + 16 * p.2
      d.trnSend dst type (head ++ p.1) flags) d

/-! ### Frames (R574, R575) -/

/-- A host frame. -/
def hostFrame (seq opcode flags : Nat) (payload : List Byte) : List Byte :=
  let h := leBytes 2 0xA55A ++ leBytes 2 seq ++ leBytes 2 opcode ++ leBytes 2 flags ++ leBytes 2 payload.length
  h ++ leBytes 2 (crc16 h) ++ payload ++ (if payload.isEmpty then [] else leBytes 4 (crc32 payload))

/-- The payload of a response: STATUS and EXTRA before the data. -/
def respPayload (status extra : Nat) (data : List Byte) : List Byte :=
  leBytes 2 status ++ leBytes 2 extra ++ data

/-- A client's port. -/
def Device.port (d : Device) (c : Client) : Hp := d.hp.toList.getD c.idx Hp.idle

/-- Replaces a client's port. -/
def Device.setPort (d : Device) (c : Client) (h : Hp) : Device :=
  match c with
  | .a => { d with hp := d.hp.set 0 h }
  | .b => { d with hp := d.hp.set 1 h }

/-- The bytes of complete frames that wait in the device's stream. -/
def Hp.outBytes (h : Hp) : Nat := ((h.outq.map List.length).sum) - h.sentOf

/-- The response frame of a command: RELAYED where it came over the ring or from a RELAY, CONV repeated. -/
def Cmd.response (k : Cmd) (payload : List Byte) : List Byte :=
  let relayed := match k.origin with
    | .ring _ | .loc _ => 8
    | _ => 0
  hostFrame k.seq k.opcode (1 + relayed + k.flags / 256 % 16 * 256) payload

/-- A frame enters the output queue of 4,096 bytes, behind every earlier response (R572, R581); while there is no room
it waits (R600). -/
def Hp.push (h : Hp) (frame : List Byte) : Hp :=
  if h.backlog.isEmpty && h.outBytes + frame.length ≤ 4096 then { h with outq := h.outq ++ [frame] }
  else { h with backlog := h.backlog ++ [frame] }

/-- Frames of a backlog enter the output queue as room frees. -/
def Hp.enter (h : Hp) : List (List Byte) → Hp
  | [] => { h with backlog := [] }
  | f :: t => if h.outBytes + f.length ≤ 4096 then { h with outq := h.outq ++ [f] }.enter t else { h with backlog := f :: t }

/-- Room has freed in the output queue. -/
def Hp.refill (h : Hp) : Hp := h.enter h.backlog

/-- A frame enters the output queue of a port. -/
def Device.pushOut (d : Device) (c : Client) (frame : List Byte) : Device := d.setPort c ((d.port c).push frame)

/-- Sets bits of HPx_EVT. -/
def Device.hpEvt (d : Device) (c : Client) (v : Nat) : Device := d.orField (F.HP_EVT_EVT c.idx) v

/-- The result of a request of TXN_CREQ (R636). -/
def Device.creqDone (d : Device) (status extra : Nat) (data : List Byte) : Device :=
  let a := d.get F.TXN_CBUF_ADDR * 4
  let d := d.bufferWrite a data
  let d := (d.put F.TXN_CRES_RLEN data.length).put F.TXN_CRES_STATE 3
  (d.put F.TXN_CRES2_STATUS status).put F.TXN_CRES2_EXTRA extra

/-- A client's index of EXP. -/
def Device.exp (d : Device) (c : Client) : Nat := d.get (F.HP_SEQ_EXP c.idx)

/-- Is the client synchronised? -/
def Device.synced (d : Device) (c : Client) : Bool := d.flag (F.HP_SEQ_SYNCED c.idx)

/-- A response leaves by the path of its command; a response to a RELAY of a local client completes that
RELAY, which `fuel` bounds: two clients can wait for each other only once. -/
def Device.deliverResponse (d : Device) (fuel : Nat) (c : Client) (k : Cmd) (payload : List Byte) : Device :=
  match fuel with
  | 0 => d
  | fuel + 1 =>
    match k.origin with
    | .port => d.pushOut c (k.response payload)
    | .ring n => d.trnFragments n 0x09 c (k.response payload)
    | .core => d.creqDone (ofLe (payload.take 2)) (ofLe ((payload.drop 2).take 2)) (payload.drop 4)
    | .loc c' =>
      let frame := k.response payload
      let h := d.port c'
      match h.queue, h.relay with
      | [], _ | _, none => d.bump (F.HP_CNT2_RELAYLATE c'.idx)
      | k' :: t, some _ =>
        let p := respPayload 0 0 frame
        let d := d.setPort c' { h with queue := t, busy := false, relay := none
                                       cache := ((k'.seq, p) :: h.cache).take 8 }
        d.deliverResponse fuel c' k' p

/-- A command of the queue completes (R577): its response is cached and leaves. `k` has been taken from the
queue. -/
def Device.finishCmd (d : Device) (c : Client) (k : Cmd) (payload : List Byte) : Device :=
  let h := d.port c
  let d := match k.origin with
    | .core => d
    | _ => d.setPort c { h with cache := ((k.seq, payload) :: h.cache).take 8 }
  d.deliverResponse 3 c k payload

/-- A request of TXN_CREQ enters its client's queue once there is room (R636). -/
def Device.creqEnter (d : Device) : Device :=
  if d.txn.creqWaits then
    let c : Client := if d.flag F.TXN_CREQ_CLIENT then .b else .a
    let h := d.port c
    if h.queue.length < 8 then
      let (payload, _, d) := d.readBuffer (d.get F.TXN_CBUF_ADDR * 4) (d.get F.TXN_CREQ_LEN_LEN)
      let k : Cmd := ⟨0, d.get F.TXN_CREQ_OPCODE, 0, payload, [], .core, d.linkCycle⟩
      { d.setPort c { h with queue := h.queue ++ [k] } with txn.creqWaits := false }
    else d
  else d

/-- The command at the head of a client's queue completes with a status. -/
def Device.complete (d : Device) (c : Client) (status : Nat) (extra : Nat := 0) (data : List Byte := []) :
    Device :=
  let h := d.port c
  match h.queue with
  | [] => d
  | k :: t =>
    let d := d.setPort c { h with queue := t, busy := false, relay := none }
    (d.finishCmd c k (respPayload status extra data)).creqEnter

/-- The command at the head of a client's queue begins to execute and completes later. -/
def Device.beginCmd (d : Device) (c : Client) : Device :=
  let h := d.port c
  let d := match h.queue with
    | k :: _ => if k.origin == Origin.core then d.put F.TXN_CRES_STATE 2 else d
    | [] => d
  d.setPort c { h with busy := true }

/-- The queued commands of a client that do not execute complete with ABORTED, in issue order (R600, R607);
the entry holds the first and the last CLIENT_SEQ. -/
def Device.abortQueue (d : Device) (c : Client) : Device :=
  let h := d.port c
  let keep := if h.busy then h.queue.take 1 else []
  let gone := if h.busy then h.queue.drop 1 else h.queue
  let d := d.setPort c { h with queue := keep }
  let d := gone.foldl (fun d k => d.finishCmd c k (respPayload 0x0E 0 [])) d
  let seqs := (gone.filter fun k => k.origin != Origin.core).map fun k => k.seq
  match seqs.head?, seqs.getLast? with
  | some x, some y => (d.hpEvt c 0x80).log 151 1 c.idx (leBytes 2 x ++ leBytes 2 y)
  | _, _ => d

/-! ### Arrival (R576 to R580) -/

/-- A client synchronises or loses synchronisation: EXP and SYNCED. -/
def Device.setExp (d : Device) (c : Client) (v : Nat) : Device := d.put (F.HP_SEQ_EXP c.idx) (v % 65536)

/-- PROTO_ERR (source 119). -/
def Device.protoErr (d : Device) : Device := d.fire 119

/-- A response that consumes nothing (checks 2 to 4). -/
def Device.answerNow (d : Device) (c : Client) (k : Cmd) (status extra : Nat) : Device :=
  d.deliverResponse 3 c k (respPayload status extra [])

/-- A frame that passes check 4 enters the queue; in STILL it sets the client's wake latch (R604). -/
def Device.enqueueCmd (d : Device) (c : Client) (k : Cmd) : Device :=
  let h := d.port c
  let d := d.setPort c { h with queue := h.queue ++ [{ k with at_ := d.linkCycle }] }
  if d.still then d.orField F.EVC_WLATCH_LATCH (2 ^ (7 + c.idx)) else d

/-- Check 4 (R578, R579). -/
def Device.judgeSeq (d : Device) (c : Client) (k : Cmd) : Device :=
  let h := d.port c
  let e := d.exp c
  if k.opcode == 1 && k.flags.testBit 2 then
    if h.queue.length < 8 then d.enqueueCmd c k else d.answerNow c k 0x0F 0
  else if !d.synced c then d.answerNow c k 0x03 0
  else if k.seq == e then
    if h.queue.length < 8 then (d.enqueueCmd c k).setExp c (e + 1) else d.answerNow c k 0x0F 0
  else
    let back := (e + 65536 - k.seq) % 65536
    if 1 ≤ back && back ≤ 8 then
      match h.cache.lookup k.seq with
      | some p => d.deliverResponse 3 c k p
      | none =>
        if h.queue.any fun q => q.seq == k.seq && q.origin != Origin.core then d.answerNow c k 0x10 0
        else (d.bump (F.HP_CNT_NAKSEQ c.idx)).answerNow c k 0x02 e
    else (d.bump (F.HP_CNT_NAKSEQ c.idx)).answerNow c k 0x02 e

/-- The command that a whole frame carries. -/
def frameCmd (frame : List Byte) (o : Origin) : Cmd :=
  let g := fun i => ofLe ((frame.drop i).take 2)
  ⟨g 2, g 4, g 6, (frame.drop 12).take (g 8), frame, o, 0⟩

/-- A frame with a good header CRC reaches a client's parser: checks 2 to 4. -/
def Device.arrive (d : Device) (c : Client) (frame : List Byte) (o : Origin) : Device :=
  let k := frameCmd frame o
  let len := ofLe ((frame.drop 8).take 2)
  if 1024 < len then
    ((d.bump (F.HP_CNT2_FRAMELEN c.idx)).hpEvt c 8).answerNow c { k with payload := [] } 0x04 0
  else if len != 0 && ofLe ((frame.drop (12 + len)).take 4) != crc32 k.payload then
    (((d.bump (F.HP_CNT_PCRC c.idx)).hpEvt c 2).protoErr).answerNow c k 0x05 0
  else d.judgeSeq c k

/-- A header is good: SYNC and HCRC. -/
def headerGood (frame : List Byte) : Bool :=
  12 ≤ frame.length && frame.take 2 == [0x5A, 0xA5] &&
    ofLe ((frame.drop 10).take 2) == crc16 (frame.take 10)

/-- The length of the frame that a good header announces; a header with a LEN above 1,024 stands alone. -/
def frameLength (frame : List Byte) : Nat :=
  let len := ofLe ((frame.drop 8).take 2)
  if 1024 < len || len = 0 then 12 else 16 + len

/-- A frame that did not come through the port's stream: over the ring or from a RELAY (R597). A failed header
is counted and dropped. -/
def Device.arriveWhole (d : Device) (c : Client) (frame : List Byte) (o : Origin) : Device :=
  if headerGood frame && frameLength frame ≤ frame.length then d.arrive c frame o
  else ((d.bump (F.HP_CNT_HCRC c.idx)).hpEvt c 1).protoErr

end Sys2Proof.Machine
end

