-- ==== Sys2Proof/Machine/SecOps.lean ====
section
/-! DEFINITION. The NVS and its line writes (R682 to R687), identity (R688 to R693), the rosters (R694 to
R698), the verification of images (R702 to R705) and the firmware update (R709 to R716). -/

namespace Sys2Proof.Machine

/-! ### Line writes -/

/-- The NVS read window. -/
def nvsBase : Nat := 0x30000000

/-- The area of an NVS offset (R682). -/
def nvsArea (o : Nat) : Nat :=
  if o < 0x10000 then 0 else if o < 0x70000 then 1 else if o < 0xD0000 then 2
  else if o < 0xF0000 then 3 else if o < 0xF8000 then 4 else 5

/-- The NVS offset of an image slot. -/
def slotBase (slot : Nat) : Nat := if slot = 0 then 0x10000 else 0x70000

/-- The programs of the line that holds an offset. -/
def Device.wearOf (d : Device) (o : Nat) : Nat := (d.nvs.wear.lookup (o / 64)).getD 0

/-- Counts programs of a line (R686): the area's largest count, and the report at the wear level. -/
def Device.program (d : Device) (o n : Nat) : Device :=
  let old := d.wearOf o
  let new := old + n
  let d := { d with nvs.wear := (o / 64, new) :: d.nvs.wear.filter fun w => w.1 != o / 64 }
  let a := nvsArea o
  let d := d.put (F.NVC_WEAR_a_MAX a) (max (d.get (F.NVC_WEAR_a_MAX a)) new)
  let lim := d.get F.NVC_CFG_WEARLIM * 1000
  if old < lim && lim ≤ new then
    (d.orField F.NVC_EVT_EVT 4).log (Config.openSource 0).toNat 0 0 (leBytes 4 (o / 64 * 64))
  else d

/-- The records reach their registers. -/
def Device.showNvs (d : Device) : Device :=
  let b := d.nvs.boot
  let u := d.nvs.upd
  let d := d.put F.SEC_BOOT_ACTIVE b.active
  let d := d.setFlag F.SEC_BOOT_ARMED b.armed
  let d := d.put F.SEC_BOOT_TRIES b.tries
  let d := d.setFlag F.SEC_BOOT_TRIALFAIL b.trialFail
  let d := d.put F.SEC_RBCNT_COUNT d.nvs.rollback
  let d := d.put F.SEC_KEYST_STATE ((List.finRange 4).map fun k => (d.nvs.keys[k]).state * 4 ^ k.val).sum
  let d := (d.put F.NVC_UPD_STATE u.state).put F.NVC_UPD_SLOT u.slot
  (d.put F.NVC_UPD_MARK_MARK u.mark).put F.NVC_UPD_LEN_LENGTH u.length

/-- A line takes its new content. -/
def Device.putLine (d : Device) (j : LineJob) : Device :=
  let d := { d with nvs.ecc := d.nvs.ecc.filter fun e => e.1 / 64 != j.offset / 64 }
  match j.data with
  | .persist bs n => { d.setBytes (nvsBase + j.offset) bs with nvs.pcount := n }.put F.SED_PCOUNT_P n
  | .bytes bs => d.setBytes (nvsBase + j.offset) bs
  | .boot r => { d with nvs.boot := r, nvs.bootBad := false }.showNvs
  | .upd r => { d with nvs.upd := r }.showNvs
  | .key k s => { d with nvs.keys := d.nvs.keys.set k s }.showNvs
  | .rollback n => { d with nvs.rollback := n }.showNvs
  | .image key => { d with nvs.imageKey := some key }

/-- A free number: nothing says what it is. -/
def Device.freeNat (d : Device) : Nat := (Config.freeWord d.freshN).toNat

/-- The content of a line whose write failed is undefined (R684): every value of it is a free value. -/
def Device.spoilLine (d : Device) (j : LineJob) : Device :=
  let x := fun i => (Config.freeWord (d.freshN + i)).toNat
  let h : BitVec 256 := BitVec.ofNat 256 (ofLe ((List.range 8).flatMap fun i => leBytes 4 (x i)))
  let e := { d with freshN := d.freshN + 16 }
  match j.data with
  | .bytes bs => e.setBytes (nvsBase + j.offset) (((List.range 16).flatMap fun i => leBytes 4 (x i)).take bs.length)
  | .persist _ _ => e.setBytes (nvsBase + j.offset / 64 * 64) ((List.range 16).flatMap fun i => leBytes 4 (x i))
  | .boot _ => { e with nvs.boot := ⟨x 0 % 2, (x 1).testBit 0, x 2 % 4, (x 3).testBit 0⟩ }.showNvs
  | .upd _ => { e with nvs.upd := ⟨x 8 % 5, x 9 % 2, x 10 % 0x60001, h, x 11 % 0x60001⟩ }.showNvs
  | .key k _ => { e with nvs.keys := d.nvs.keys.set k ⟨x 8 % 3, h⟩ }.showNvs
  | .rollback _ => { e with nvs.rollback := x 0 % 65536 }.showNvs
  | .image _ => { e with nvs.imageKey := some h }

/-- The programs of a line write: its line, and the journal unless it passes by it (R686). -/
def Device.countLine (d : Device) (j : LineJob) (fails : Bool) : Device :=
  let d := d.program j.offset (if fails then 3 else 1)
  if j.plain then d else (d.program 0xFF80 1).program 0xFFC0 2

/-- An NVS line write fails (R684): the offset is recorded, NVS_ERR raised and logged. -/
def Device.nvsErr (d : Device) (o : Nat) : Device :=
  let d := (d.put F.NVC_ERRADDR_OFFSET o).orField F.NVC_EVT_EVT 2
  d.raise 11 0 (leBytes 4 o)

/-- A span of the NVS holds a word that no read can correct (R685). -/
def Device.nvsLost (d : Device) (o n : Nat) : Bool :=
  d.nvs.ecc.any fun e => o < e.1 + 8 && e.1 < o + n && e.2.isNone

/-- One word of the NVS in error is read (R685): corrected and reported, or reported as failed. -/
def Device.nvsWordRead (d : Device) (e : Nat × Option (Fin 72)) : Device :=
  match e.2 with
  | some n => (d.orField F.NVC_EVT_EVT 8).raise 12 0 (leBytes 4 e.1 ++ leBytes 1 n.val)
  | none => d.nvsErr e.1

/-- A span of the NVS is read by the device itself: its words in error are reported (R685). True says that every word
could be read. -/
def Device.nvsScan (d : Device) (o n : Nat) : Bool × Device :=
  (!d.nvsLost o n, (d.nvs.ecc.filter fun e => o < e.1 + 8 && e.1 < o + n).foldl Device.nvsWordRead d)

/-- The areas whose failed writes latch the NVS fault (R652): the persistent log, the configuration store and
the rosters. -/
def nvsFaultArea (o : Nat) : Bool := 3 ≤ nvsArea o

/-- One line write ends (R683, R684). -/
def Device.endLine (d : Device) (j : LineJob) (fails : Bool) : Device :=
  let d := d.countLine j fails
  if fails then
    let d := (d.spoilLine j).nvsErr j.offset
    if nvsFaultArea j.offset then { d with sed.nvsFaultOpen := true }.systemFault 2 else d
  else { d.putLine j with sed.nvsFaultOpen := false }

/-! ### Identity (R688 to R693) -/

/-- The public key of this device, as its 64 bytes. -/
def ownKeyBytes : List Byte := beBytes 64 Config.ownKey.toNat

/-- The ID tag of a public key (R689). -/
def keyTag (key : List Byte) : Nat := ofLe ((sha256 key).take 8)

/-- The tag of this device. -/
def ownTag : Nat := keyTag ownKeyBytes

/-- The digest of R690. -/
def proofDigest (context : List Byte) (verifier nonce responder : Nat) : List Byte :=
  sha256 (context ++ leBytes 8 verifier ++ leBytes 16 nonce ++ leBytes 8 responder)

/-- The ASCII bytes TARN. -/
def tarnContext : List Byte := [0x54, 0x41, 0x52, 0x4E]

/-- The ASCII bytes SHOR. -/
def shorContext : List Byte := [0x53, 0x48, 0x4F, 0x52]

/-- A verification completes (R693). -/
def Device.authDone (d : Device) (kind result index tag : Nat) : Device :=
  let d := ((d.put F.SEC_AUTH_KIND kind).put F.SEC_AUTH_RESULT result).put F.SEC_AUTH_INDEX index
  ((d.put F.SEC_AUTHTAGL_TAG (tag % 2 ^ 32)).put F.SEC_AUTHTAGH_TAG (tag / 2 ^ 32)).fire 120

/-! ### Rosters (R694 to R698) -/

/-- The entries a roster has room for. -/
def rosterCap (ring : Bool) : Nat := if ring then 128 else 64

/-- The NVS offset of a copy of a roster. -/
def rosterBase (ring : Bool) (copy : Nat) : Nat :=
  if ring then 0xF8000 + copy * 0x840 else 0xF9080 + copy * 0x440

/-- The entries that a copy's entry lines spell; a tag of 0 is an unused entry. -/
def rosterEntries : Nat → List Byte → List RosterEntry
  | 0, _ => []
  | n + 1, bs =>
    let e : RosterEntry := ⟨ofLe (bs.take 8), (bs.getD 8 0).toNat, (bs.getD 9 0).toNat⟩
    let t := rosterEntries n (bs.drop 16)
    if e.tag = 0 then t else e :: t

/-- A copy of a roster: its generation and entries; none when its CRC fails or a word of it cannot be read. -/
def Device.rosterCopy (d : Device) (ring : Bool) (copy : Nat) : Option (Nat × List RosterEntry) :=
  let a := nvsBase + rosterBase ring copy
  let body := d.bytes (a + 64) (16 * rosterCap ring)
  if !d.nvsLost (rosterBase ring copy) (64 + 16 * rosterCap ring) && ofLe (d.bytes (a + 8) 4) == crc32 body then
    some (ofLe (d.bytes a 4), rosterEntries (rosterCap ring) body)
  else none

/-- The copy in force, its generation and entries. -/
def Device.rosterNow (d : Device) (ring : Bool) : Option (Nat × Nat × List RosterEntry) :=
  match d.rosterCopy ring 0, d.rosterCopy ring 1 with
  | some (g, x), some (h, y) => if g < h then some (1, h, y) else some (0, g, x)
  | some (g, x), none => some (0, g, x)
  | none, some (h, y) => some (1, h, y)
  | none, none => none

/-- The entries of a roster in force; empty when no copy is valid (R725). -/
def Device.rosterList (d : Device) (ring : Bool) : List RosterEntry :=
  match d.rosterNow ring with
  | some (_, _, l) => l
  | none => []

/-- The generation in force. -/
def Device.rosterGen (d : Device) (ring : Bool) : Nat :=
  match d.rosterNow ring with
  | some (_, g, _) => g
  | none => 0

/-- The entry bytes of a roster: each entry in the place of its index. -/
def rosterBytes (ring : Bool) (l : List RosterEntry) : List Byte :=
  (List.range (rosterCap ring)).flatMap fun i =>
    match l.find? fun e => e.index == i with
    | some e => leBytes 8 e.tag ++ leBytes 1 e.index ++ leBytes 1 e.flags ++ List.replicate 6 0
    | none => List.replicate 16 0

/-- The line writes of a roster change: the entry lines of the copy not in force, then its header. -/
def Device.rosterLines (d : Device) (ring : Bool) (gen : Nat) (l : List RosterEntry) : List LineJob :=
  let copy := match d.rosterNow ring with
    | some (0, _, _) => 1
    | _ => 0
  let base := rosterBase ring copy
  let body := rosterBytes ring l
  let lines := (List.range (rosterCap ring / 4)).map fun i =>
    (⟨base + 64 + 64 * i, .bytes ((body.drop (64 * i)).take 64), false⟩ : LineJob)
  let head := leBytes 4 gen ++ leBytes 2 l.length ++ [0, 0] ++ leBytes 4 (crc32 body) ++ List.replicate 52 0
  lines ++ [⟨base, .bytes head, false⟩]

/-- The generations and the validity of the rosters reach their registers. -/
def Device.showRosters (d : Device) : Device :=
  let d := (d.put F.SEC_RGEN_GEN (d.rosterGen true)).put F.SEC_CGEN_GEN (d.rosterGen false)
  let d := d.setFlag F.SEC_STAT_RBAD_RING (d.rosterNow true).isNone
  d.setFlag F.SEC_STAT_RBAD_CHAIN (d.rosterNow false).isNone

/-! ### Images (R702 to R705) -/

/-- A little-endian field of an image header. -/
def Device.imageField (d : Device) (slot o n : Nat) : Nat := ofLe (d.bytes (nvsBase + slotBase slot + o) n)

/-- One section entry (R703): load address, offset, length and type. -/
structure Section where
  load : Nat
  offset : Nat
  length : Nat
  type : Nat
  deriving DecidableEq, Repr

/-- A section of an image. -/
def Device.section (d : Device) (slot i : Nat) : Section :=
  let f := fun o => d.imageField slot (64 + 16 * i + o) 4
  ⟨f 0, f 4, f 8, f 12⟩

/-- A load range is where R703 puts its type. -/
def Section.placed (s : Section) : Bool :=
  match s.type with
  | 0 => 0x10000000 ≤ s.load && s.load + s.length ≤ 0x10180000
  | 1 => 0x20000000 ≤ s.load && s.load + s.length ≤ 0x20060000
  | 2 => s.load == 0
  | _ => false

/-- Do two sections share bytes of the image? -/
def Section.overlaps (s t : Section) : Bool :=
  s.offset < t.offset + t.length && t.offset < s.offset + s.length

/-- The sections of an image. -/
def Device.sections (d : Device) (slot : Nat) : List Section :=
  (List.range (min (d.imageField slot 20 1) 8)).map (d.section slot)

/-- Is the image encrypted? -/
def Device.imageEncrypted (d : Device) (slot : Nat) : Bool := d.imageField slot 18 2 == 1

/-- Check 2: the form of the header. -/
def Device.imageForm (d : Device) (slot : Nat) : Bool :=
  let n := d.imageField slot 20 1
  let ss := d.sections slot
  let clash := (List.range ss.length).any fun i =>
    (List.range i).any fun j => (d.section slot i).overlaps (d.section slot j)
  d.imageField slot 4 2 == 1 && d.imageField slot 6 2 == 256 && 1 ≤ n && n ≤ 8 &&
    d.imageField slot 18 2 < 2 && d.imageField slot 21 3 == 0 && d.imageField slot 56 8 == 0 &&
    ss.all (fun s => s.placed && 256 ≤ s.offset) && !clash &&
    d.imageField slot (64 + 16 * n) (16 * (8 - n)) == 0

/-- Check 3: the length. -/
def Device.imageLength (d : Device) (slot : Nat) : Bool :=
  let len := d.imageField slot 8 4
  let tail := 64 + (if d.imageEncrypted slot then 16 else 0)
  len ≤ 393216 && 256 + tail ≤ len && (d.sections slot).all fun s => s.offset + s.length + tail ≤ len

/-- Check 4: the hash of SIGNER is in an ACTIVE key slot. -/
def Device.imageKeyOk (d : Device) (slot : Nat) : Bool :=
  let h := beNat (sha256 (d.bytes (nvsBase + slotBase slot + 192) 64))
  d.nvs.keys.toList.any fun k => k.state == 1 && k.hash.toNat == h

/-- Check 5: the security version is not below the rollback counter. -/
def Device.imageSvnOk (d : Device) (slot : Nat) : Bool := d.nvs.rollback ≤ d.imageField slot 16 2

/-- Check 6: the signature. -/
def Device.imageSigned (d : Device) (slot : Nat) : Bool :=
  let a := nvsBase + slotBase slot
  let len := d.imageField slot 8 4
  ecdsaVerify (d.bytes (a + 192) 64) (sha256 (d.bytes a (len - 64))) (d.bytes (a + len - 64) 64)

/-- The sections that are copied at boot, in ascending order of their entries. -/
def Device.bootSections (d : Device) (slot : Nat) : List Section :=
  (d.sections slot).filter fun s => s.type != 2

/-- The bytes of the copied sections as they stand in the slot. -/
def Device.storedBytes (d : Device) (slot : Nat) : List Byte :=
  (d.bootSections slot).flatMap fun s => d.bytes (nvsBase + slotBase slot + s.offset) s.length

/-- The bytes of the copied sections in clear; none when check 7 fails. -/
def Device.imagePlain (d : Device) (slot : Nat) : Option (List Byte) :=
  let a := nvsBase + slotBase slot
  if d.imageEncrypted slot then
    match d.nvs.imageKey with
    | none => none
    | some key =>
      let len := d.imageField slot 8 4
      gcmDecrypt (beBytes 32 key.toNat) (d.bytes (a + 44) 12) (d.bytes a 256) (d.storedBytes slot)
        (d.bytes (a + len - 80) 16)
  else some (d.storedBytes slot)

/-- The verification of R705: the code of the first check that fails, 0 when none does. -/
def Device.verifySlot (d : Device) (slot : Nat) : Nat :=
  if d.imageField slot 0 4 != 0x504F594B then 1
  else if !d.imageForm slot then 2
  else if !d.imageLength slot then 3
  else if !d.imageKeyOk slot then 4
  else if !d.imageSvnOk slot then 5
  else if !d.imageSigned slot then 6
  else if (d.imagePlain slot).isNone then 7
  else 0

/-- How much of a slot its verification reads: the header, and the whole image where the header is good. -/
def Device.imageSpan (d : Device) (slot : Nat) : Nat :=
  if d.imageField slot 0 4 == 0x504F594B && d.imageForm slot && d.imageLength slot then d.imageField slot 8 4 else 256

/-! ### Firmware update (R709 to R716) -/

/-- The target slot: the one that is not running. -/
def Device.targetSlot (d : Device) : Nat := 1 - d.get F.SEC_BOOT_LAST

/-- The response data of an update opcode, which an error carries too. -/
def Device.updReply (d : Device) (opcode : Nat) (mark : Nat) : List Byte :=
  match opcode with
  | 0xA0 => leBytes 4 d.targetSlot ++ leBytes 4 mark
  | 0xA1 => leBytes 4 mark
  | 0xA3 => leBytes 4 (d.imageField d.targetSlot 12 4) ++ leBytes 4 (d.imageField d.targetSlot 16 2)
  | 0xA5 => leBytes 4 d.nvs.rollback
  | _ => []

/-- An update opcode ends with UPD_ERROR. -/
def Device.updError (d : Device) (c : Client) (opcode code : Nat) : Device :=
  d.complete c 0x18 code (d.updReply opcode d.nvs.upd.mark)

/-! ### Which line is written next (R712, R718) -/

/-- R712 binds the operation: a slot or record write of the update engine in READY, PLAY or SAFE, outside ROM operation. -/
def Device.bound (d : Device) (op : SecOp) : Bool := op.upd && d.running && !d.nvs.rom

/-- The block permits the operation's line writes. -/
def Device.mayWrite (d : Device) (op : SecOp) : Bool :=
  !d.bound op || (d.word R.RSV_PERMIT).toNat.testBit (d.get F.NVC_CFG_ECLS)

/-- An operation ends early with a code of R705: the lines written stand, and the record takes the mark they
reached (R712). -/
def Device.opCut (d : Device) (op : SecOp) (code : Nat) : Device :=
  let u := d.nvs.upd
  let plainLeft := op.lines.find? fun j => j.plain
  let d := match plainLeft, op.lines with
    | some j, _ => d.putLine ⟨0x40, .upd { u with mark := j.offset - slotBase u.slot }, false⟩
    | none, [j] => match j.data, op.reply with
      | .upd r, some q => if u.state == 1 && r.mark != u.mark && q.status == 0 then d.putLine j else d
      | _, _ => d
    | none, _ => d
  match op.reply with
  | some r =>
    match (d.port r.client).queue with
    | k :: _ => d.updError r.client k.opcode code
    | [] => d
  | none => d

/-- The next line write begins when none is in progress (R718): the persistent log, the journalled lines of SEC,
an NVC request, update data; the chosen operation moves to the front. A bound operation that finds BO_WARN ends
with SUPPLY. -/
def Device.nvsPick (d : Device) : Device :=
  if d.nvs.cur != NvsCur.none then d
  else
    let cut := if d.flag F.PWR_VMON_BO_WARN then d.nvs.ops.filter d.bound else []
    let rest := if d.flag F.PWR_VMON_BO_WARN then d.nvs.ops.filter fun o => !d.bound o else d.nvs.ops
    let d := cut.foldl (fun d o => d.opCut o 14) { d with nvs.ops := rest }
    let first := fun (plain : Bool) => d.nvs.ops.findIdx? fun o =>
      d.mayWrite o && (match o.lines with
        | j :: _ => j.plain == plain
        | [] => false)
    let take := fun (i : Nat) =>
      let ops := (d.nvs.ops[i]?).toList ++ d.nvs.ops.eraseIdx i
      { d with nvs.ops := ops, nvs.cur := .sec }
    if !d.sed.pq.isEmpty then { d with nvs.cur := .persist }
    else
      match first false with
      | some i => take i
      | none =>
        if d.nvs.req.isSome then { d with nvs.cur := .req }
        else
          match first true with
          | some i => take i
          | none => d

/-- The blocks that bound operations wait for their permit are counted; after 1 s in total an operation ends with
BUDGET (R712). -/
def Device.nvsBoundary (d : Device) : Device :=
  let waits := fun (o : SecOp) => d.bound o && !d.mayWrite o
  let inProgress := if d.nvs.cur == .sec then d.nvs.ops.take 1 else []
  let others := if d.nvs.cur == .sec then d.nvs.ops.drop 1 else d.nvs.ops
  let counted := others.map fun o => if waits o then { o with waited := o.waited + 1 } else o
  let out := counted.filter fun o => 6000 ≤ o.waited
  let kept := counted.filter fun o => o.waited < 6000
  let d := out.foldl (fun d o => d.opCut o 13) { d with nvs.ops := inProgress ++ kept }
  d.nvsPick

/-- An operation enters the queue of SEC and the update engine. -/
def Device.secOp (d : Device) (op : SecOp) : Device := { d with nvs.ops := d.nvs.ops ++ [op] }.nvsPick

/-! ### The update opcodes -/

/-- A write of the update record. -/
def updLine (r : UpdRec) : LineJob := ⟨0x40, .upd r, false⟩

/-- A write of the boot control record. -/
def bootLine (r : BootRec) : LineJob := ⟨0, .boot r, false⟩

/-- Starts an update operation that ends with OK. -/
def Device.updStart (d : Device) (c : Client) (lines : List LineJob) (data : List Byte) (act : SecAct := .none)
    (status : Nat := 0) (extra : Nat := 0) : Device :=
  (d.beginCmd c).secOp ⟨lines, some ⟨c, status, extra, data⟩, act, true, 0⟩

/-- UPD_BEGIN (R710). -/
def Device.updBegin (d : Device) (c : Client) (p : List Byte) : Device :=
  let len := ofLe (p.take 4)
  let hash : BitVec 256 := BitVec.ofNat 256 (beNat ((p.drop 4).take 32))
  let u := d.nvs.upd
  if u.state == 4 then d.updError c 0xA0 10
  else if 393216 < len || len < 320 then d.updError c 0xA0 3
  else if 1 ≤ u.state && u.state ≤ 3 && u.slot == d.targetSlot && u.length == len && u.hash == hash then
    d.complete c 0 0 (d.updReply 0xA0 u.mark)
  else
    let first : LineJob := ⟨slotBase d.targetSlot, .bytes (List.replicate 64 0), false⟩
    d.updStart c [first, updLine ⟨1, d.targetSlot, len, hash, 0⟩] (d.updReply 0xA0 0)

/-- The image lines of data that starts at slot offset `o`, a multiple of 64. -/
def Device.imageLines (d : Device) (slot o : Nat) (data : List Byte) : List LineJob :=
  (List.range ((data.length + 63) / 64)).map fun i =>
    let bs := (data.drop (64 * i)).take 64
    ⟨slotBase slot + o + 64 * i,
      .bytes (bs ++ d.bytes (nvsBase + slotBase slot + o + 64 * i + bs.length) (64 - bs.length)), true⟩

/-- UPD_DATA (R710). -/
def Device.updData (d : Device) (c : Client) (p : List Byte) : Device :=
  let o := ofLe (p.take 4)
  let data := p.drop 8
  let n := data.length
  let u := d.nvs.upd
  let a := nvsBase + slotBase u.slot
  if u.state != 1 then d.updError c 0xA1 10
  else if o % 64 != 0 || (n % 64 != 0 && o + n != u.length) then d.updError c 0xA1 17
  else if u.length < o + n then d.updError c 0xA1 3
  else if u.mark < o then d.updError c 0xA1 11
  else
    let below := min n (u.mark - o)
    let (ok, d) := d.nvsScan (slotBase u.slot + o) below
    if !ok then d.updError c 0xA1 9
    else if d.bytes (a + o) below != data.take below then d.updError c 0xA1 12
    else if o + n ≤ u.mark then d.complete c 0 0 (leBytes 4 u.mark)
    else
      let rec' : UpdRec := { u with mark := o + n, state := if o + n = u.length then 2 else 1 }
      d.updStart c (d.imageLines u.slot u.mark (data.drop below) ++ [updLine rec']) (leBytes 4 (o + n))

/-- UPD_STATUS (R709). -/
def Device.updStatus (d : Device) (c : Client) : Device :=
  let u := d.nvs.upd
  d.complete c 0 0 (leBytes 1 d.targetSlot ++ leBytes 3 u.state ++ leBytes 4 u.length ++ leBytes 4 u.mark ++
    leBytes 4 (d.word R.SEC_BOOT).toNat ++ leBytes 4 d.nvs.rollback)

/-- UPD_VERIFY (R711). -/
def Device.updVerify (d : Device) (c : Client) : Device :=
  let u := d.nvs.upd
  if u.state != 2 && u.state != 3 then d.updError c 0xA3 10
  else
    let (ok, d) := d.nvsScan (slotBase u.slot) u.length
    let code := if !ok then 9
      else if beNat (sha256 (d.bytes (nvsBase + slotBase u.slot) u.length)) != u.hash.toNat then 8
      else d.verifySlot u.slot
    let data := d.updReply 0xA3 u.mark
    if code == 0 then
      if u.state == 3 then d.complete c 0 0 data else d.updStart c [updLine { u with state := 3 }] data
    else if u.state == 2 then (d.fire 121).updError c 0xA3 code
    else d.updStart c [updLine { u with state := 2 }] data .imageBad 0x18 code

/-- UPD_ACTIVATE (R713). -/
def Device.updActivate (d : Device) (c : Client) (p : List Byte) : Device :=
  let tries := (p.getD 0 0).toNat
  let reset := (p.getD 1 0).toNat
  let u := d.nvs.upd
  if tries == 0 || 3 < tries || 1 < reset then d.complete c 0x0B
  else if u.state != 3 then d.updError c 0xA4 10
  else if d.flag F.PWR_VMON_BO_WARN then d.updError c 0xA4 14
  else
    let (ok, d) := d.nvsScan (slotBase u.slot) 256
    if !ok then d.updError c 0xA4 9
    else if !d.imageKeyOk u.slot then d.updError c 0xA4 4
    else if !d.imageSvnOk u.slot then d.updError c 0xA4 5
    else d.updStart c [bootLine { d.nvs.boot with armed := true, tries := tries }, updLine { u with state := 4 }] []
      (.activate (reset == 1))

/-- Is a confirmation in progress? -/
def Device.confirming (d : Device) : Bool :=
  d.nvs.ops.any fun o => match o.act with
    | .confirm _ _ _ => true
    | _ => false

/-- The operation of a confirmation (R714); none where it is answered STATE. -/
def Device.confirmOp (d : Device) (reply : Option SecReply) : Option SecOp :=
  if !d.flag F.SEC_BOOT_BOOTED_TRIAL || d.confirming then none
  else
    let last := d.get F.SEC_BOOT_LAST
    let svn := d.imageField last 16 2
    let count := max svn d.nvs.rollback
    let lines := [bootLine { d.nvs.boot with active := last, armed := false, trialFail := false }] ++
      (if d.nvs.rollback < svn then [⟨0x180, .rollback svn, false⟩] else []) ++
      (if d.nvs.upd.state == 0 then [] else [updLine { d.nvs.upd with state := 0 }])
    let reply := reply.map fun r => { r with data := leBytes 4 count }
    some ⟨lines, reply, .confirm last (d.imageField last 12 4) count, true, 0⟩

/-- UPD_CONFIRM (R714). -/
def Device.updConfirm (d : Device) (c : Client) : Device :=
  match d.confirmOp (some ⟨c, 0, 0, []⟩) with
  | some op => (d.beginCmd c).secOp op
  | none => d.updError c 0xA5 10

/-- UPD_ABORT (R715). -/
def Device.updAbort (d : Device) (c : Client) : Device :=
  let u := d.nvs.upd
  let lines := if u.state == 4 then [bootLine { d.nvs.boot with armed := false }] else []
  if u.state == 0 then d.complete c 0
  else d.updStart c (lines ++ [updLine { u with state := 0 }]) []

/-- The operations of UPD_KEY on key slot `k` (R715). -/
def Device.updKeyAt (d : Device) (c : Client) (k : Fin 4) (op : Nat) (value : BitVec 256) : Device :=
  let s := d.nvs.keys[k]
  let others := (List.finRange 4).any fun i => i != k && (d.nvs.keys[i]).state == 1
  match op with
  | 1 => if s.state != 0 then d.updError c 0xA7 10
    else d.updStart c [⟨0x80 + 0x40 * k.val, .key k ⟨1, value⟩, false⟩] [] (.key k.val op)
  | 2 => if s.state != 1 then d.updError c 0xA7 10
    else if !others then d.updError c 0xA7 15
    else d.updStart c [⟨0x80 + 0x40 * k.val, .key k { s with state := 2 }, false⟩] [] (.key k.val op)
  | 3 => d.updStart c [⟨0x1C0, .image value, false⟩] [] (.key k.val op)
  | _ => d.complete c 0x0B

/-- UPD_KEY (R715). -/
def Device.updKey (d : Device) (c : Client) (p : List Byte) : Device :=
  let slot := (p.getD 1 0).toNat
  if h : slot < 4 then
    d.updKeyAt c ⟨slot, h⟩ (p.getD 0 0).toNat (BitVec.ofNat 256 (beNat ((p.drop 4).take 32)))
  else d.complete c 0x0B

end Sys2Proof.Machine
end

