-- ==== Sys2Proof/Machine/SedOps.lean ====
section
/-! DEFINITION. The Sediment log (R655 to R663): numbering and writing entries to bank 7, the persistent
copies, acknowledgement, software entries, the start-up scan and the readout. -/

namespace Sys2Proof.Machine

/-- Does sequence number `a` lie after `b` in serial order (R659)? -/
def seqAfter32 (a b : Nat) : Bool :=
  let x := (a + 2 ^ 32 - b) % 2 ^ 32
  1 ≤ x && x < 2 ^ 31

/-- The 32 bytes of an entry (R653). -/
def LogEntry.bytes (e : LogEntry) (seq : Nat) : List Byte :=
  let body := leBytes 4 seq ++ leBytes 4 e.epoch.toNat ++ leBytes 8 e.rt.packed.toNat ++ leBytes 1 e.source ++
    leBytes 2 (e.detail % 8192 + 8192 * e.sev) ++ (e.data.take 11 ++ List.replicate (11 - e.data.length) 0)
  body ++ leBytes 2 (crc16 body)

/-- The place of a sequence number in bank 7 (R656). -/
def bank7Addr (seq : Nat) : Nat := 0x20070000 + 32 * (seq % 2048)

/-- The sequence number of 32 bytes whose CRC checks. -/
def entrySeq (bs : List Byte) : Option Nat :=
  if ofLe (bs.drop 30) == crc16 (bs.take 30) then some (ofLe (bs.take 4)) else none

/-- Is a word of the 32 bytes at an address uncorrectable? -/
def Device.entryLost (d : Device) (a : Nat) : Bool :=
  (List.range 8).any fun i => d.eccAt (a + 4 * i) == some .multi

/-- The entry held at a place of bank 7 (R656, R676). -/
def Device.heldAt (d : Device) (i : Nat) : Option Nat :=
  let a := bank7Addr i
  if d.entryLost a then none
  else
    match entrySeq (d.bytes a 32) with
    | some s => if s % 2048 == i % 2048 then some s else none
    | none => none

/-- The entry with a sequence number is held in bank 7. -/
def Device.held (d : Device) (seq : Nat) : Bool := d.heldAt seq == some seq

/-- LOG_HALF and the events of R658. -/
def Device.judgeHalf (d : Device) : Device :=
  let unread := (d.get F.SED_NEXT_SEQ + 2 ^ 33 - 1 - d.get F.SED_ACK_SEQ) % 2 ^ 32
  if unread < 1024 || 2 ^ 31 ≤ unread then d
  else if d.sed.halfArmed then ({ d with sed.halfArmed := false }.orField F.SED_EVT_EVT 1).fire 122
  else d

/-- An entry is selected for the persistent area (R651). -/
def Device.persists (d : Device) (e : LogEntry) : Bool :=
  d.get F.SED_CFG_PERSIST ≤ e.sev || e.source == 128 || e.source == 131 || e.source == 153 || e.source == 155

/-- An entry is queued for its persistent copy (R662). -/
def Device.queuePersist (d : Device) (seq : Nat) (bs : List Byte) : Device :=
  if d.sed.pq.length < 32 then
    let pq : List PersistEntry := d.sed.pq ++ [⟨seq, bs⟩]
    { d with sed.pq := pq }.nvsPick
  else (d.bump F.SED_CNT_PDROP).orField F.SED_EVT_EVT 4

/-- The oldest entry still held once number `seq` is written: the first number from SED_OLDEST_V on that bank 7 holds. -/
def Device.oldestFrom (d : Device) (seq : Nat) : Nat :=
  let old := d.get F.SED_OLDEST_V_SEQ
  let n := (seq + 2 ^ 32 - old) % 2 ^ 32
  match (List.range (n + 1)).find? fun i => d.held ((old + i) % 2 ^ 32) with
  | some i => (old + i) % 2 ^ 32
  | none => seq

/-- The earliest held entry after the entry `seq` was written (R660). -/
def Device.followOldest (d : Device) (seq : Nat) : Device := d.put F.SED_OLDEST_V_SEQ (d.oldestFrom seq)

/-- While the persistent area holds no entry, SED_OLDEST_P and SED_NEWEST_P follow SED_NEXT (R660, R680). -/
def Device.followEmpty (d : Device) (seq : Nat) : Device :=
  if (d.get F.SED_NEWEST_P_SEQ + 1) % 2 ^ 32 == d.get F.SED_OLDEST_P_SEQ then
    (d.put F.SED_OLDEST_P_SEQ ((seq + 1) % 2 ^ 32)).put F.SED_NEWEST_P_SEQ seq
  else d

/-- SED writes one entry to bank 7, its sequence number last (R655, R656, R658). -/
def Device.writeEntry (d : Device) (e : LogEntry) : Device :=
  let seq := d.get F.SED_NEXT_SEQ
  let bs := e.bytes seq
  let a := bank7Addr seq
  let lost := d.heldAt seq
  let words := [1, 2, 3, 4, 5, 6, 7, 0].map fun i => (i, BitVec.ofNat 32 (ofLe ((bs.drop (4 * i)).take 4)))
  let d := words.foldl (fun d p => d.storeWord (a + 4 * p.1) p.2) d
  let d := d.put F.SED_NEXT_SEQ ((seq + 1) % 2 ^ 32)
  let d := (d.followOldest seq).followEmpty seq
  let d := if e.source == 128 then { d with sed.resetSeq := seq } else d
  let d := match lost with
    | some s =>
      if seqAfter32 s (d.get F.SED_ACK_SEQ) then
        ((d.bump F.SED_CNT_LOST).orField F.SED_EVT_EVT 2).fire 123
      else d
    | none => d
  let d := if d.persists e then d.queuePersist seq bs else d
  d.judgeHalf

/-- The LOG_GAP entry takes its place in the queue once there is room for two (R657). -/
def Device.closeGap (d : Device) : Device :=
  match d.sed.gap with
  | none => d
  | some g =>
    if d.sed.wq.length + 2 ≤ logQueueCap then { d with sed.wq := d.sed.wq ++ [g.entry], sed.gap := none }
    else d

/-- SED takes the next queued entry and writes it (R655): after the start-up scan, while STREAM runs. -/
def Device.logWrite (d : Device) : Device :=
  if d.pwr.seq != .up || d.still then d
  else
    match d.sed.wq with
    | [] => d
    | e :: t => ({ d with sed.wq := t }.writeEntry e).closeGap

/-- The line write of a persistent entry with its count (R662). -/
def Device.persistJob (d : Device) (e : PersistEntry) : LineJob :=
  ⟨0xF0000 + 32 * (d.nvs.pcount % 1024), .persist e.bytes ((d.nvs.pcount + 1) % 2 ^ 32), false⟩

/-- The earliest of a list of sequence numbers, in serial order. -/
def seqFirst : List Nat → Option Nat
  | [] => none
  | s :: t => some (t.foldl (fun m x => if seqAfter32 m x then x else m) s)

/-- The latest of a list of sequence numbers, in serial order. -/
def seqLast : List Nat → Option Nat
  | [] => none
  | s :: t => some (t.foldl (fun m x => if seqAfter32 x m then x else m) s)

/-- A word of a persistent entry that no read can correct, by its NVS offset (R676, R685). -/
def Device.persistLost (d : Device) (i : Nat) : Option Nat :=
  (d.nvs.ecc.find? fun e => 0xF0000 + 32 * i ≤ e.1 && e.1 < 0xF0000 + 32 * i + 32 && e.2.isNone).map fun e => e.1

/-- The sequence numbers of the persistent entries whose CRC checks, by slot. -/
def Device.persisted (d : Device) : List (Nat × Nat) :=
  (List.range 1024).filterMap fun i =>
    let bs := d.bytes (0x300F0000 + 32 * i) 32
    match d.persistLost i, entrySeq bs with
    | none, some s => some (s, i)
    | _, _ => none

/-- SED_OLDEST_P and SED_NEWEST_P show the persistent entries whose CRC checks, or an empty area (R660). -/
def Device.showPersisted (d : Device) : Device :=
  let next := d.get F.SED_NEXT_SEQ
  let kept := d.persisted.map fun e => e.1
  let d := d.put F.SED_OLDEST_P_SEQ ((seqFirst kept).getD next)
  d.put F.SED_NEWEST_P_SEQ ((seqLast kept).getD ((next + 2 ^ 32 - 1) % 2 ^ 32))

/-- The entry at the head of the persistent queue is written with its count (R662), while that line write is in
progress. A write that fails leaves its line undefined (R684) and the entry unpersisted (R677). -/
def Device.persistWrite (d : Device) (fails : Bool) : Device :=
  match d.nvs.cur, d.sed.pq with
  | .persist, e :: t =>
    let d := { d with sed.pq := t, nvs.cur := .none }
    (d.endLine (d.persistJob e) fails).showPersisted.nvsPick
  | _, _ => d

/-- A write of SED_ACK (R658, R672). -/
def Device.ackWrite (d : Device) (v : Nat) : Device :=
  let d := d.put F.SED_ACK_SEQ v
  let unread := (d.get F.SED_NEXT_SEQ + 2 ^ 33 - 1 - v) % 2 ^ 32
  let d := if unread < 1024 then { d with sed.halfArmed := true } else d
  d.judgeHalf

/-- Is the value a reserved encoding of SED_ACK: after SED_NEXT − 1 (R658)? -/
def Device.ackReserved (d : Device) (v : Nat) : Bool :=
  seqAfter32 v ((d.get F.SED_NEXT_SEQ + 2 ^ 32 - 1) % 2 ^ 32)

/-- A software entry waits in the write queue (R680). -/
def Device.softPending (d : Device) : Bool := d.sed.wq.any fun e => e.source == 156

/-- Firmware writes a software entry (R661). -/
def Device.softEntry (d : Device) : Device :=
  let data := (List.range 3).flatMap fun i => leBytes 4 (d.word (R.SED_SW_DATAi i)).toNat
  d.log 156 (d.get F.SED_SW_CTL_SEV) (d.get F.SED_SW_CTL_DETAIL) (data.take 11)

/-- The system fault bits whose condition persists (R652). -/
def Device.sysPersists (d : Device) : Nat :=
  (if d.get F.TRN_STAT_TRUST == 1 then 0 else 1) + (if d.sed.nvsFaultOpen then 4 else 0)

/-- A host with SAFETY rights writes 1 to clear system fault bits (R652). PWR_FAULT.SYSTEM follows. -/
def Device.clearSysfault (d : Device) (v : Word) : Device :=
  let old := (d.word R.SED_SYSFAULT).toNat
  let clr := old &&& v.toNat &&& (15 - d.sysPersists)
  let d := d.setWord R.SED_SYSFAULT (BitVec.ofNat 32 (old - clr))
  if old == clr then
    d.setWord R.PWR_FAULT (BitVec.ofNat 32 ((d.word R.PWR_FAULT).toNat - ((d.word R.PWR_FAULT).toNat &&& 0x400)))
  else d

/-- The words in error that the start-up reads are reported (R676, R685): bank 7, the boot area, the system record, the
persistent area, the identity and the rosters. -/
def Device.scanErrors (d : Device) : Device :=
  let bad := d.ecc.filter fun e => 0x20070000 ≤ e.1 && e.1 < 0x20080000
  let d := (bad.mergeSort fun x y => x.1 ≤ y.1).foldl (fun d e => (d.readChecked e.1).2) d
  ((d.nvsScan 0 0x200).2.nvsScan 0xD0000 0x80).2.nvsScan 0xF0000 0x10000 |>.2

/-- The start-up scan (R660). -/
def Device.startupScan (d : Device) : Device :=
  let volatile := (List.range 2048).filterMap d.heldAt
  let kept := d.persisted.map fun e => e.1
  let next := match seqLast (volatile ++ kept) with
    | some s => (s + 1) % 2 ^ 32
    | none => 0
  let d := d.put F.SED_NEXT_SEQ next
  let oldest := (seqFirst volatile).getD next
  let d := (d.put F.SED_OLDEST_V_SEQ oldest).showPersisted
  let d := d.put F.SED_PCOUNT_P d.nvs.pcount
  let d := d.put F.SED_ACK_SEQ ((oldest + 2 ^ 32 - 1) % 2 ^ 32)
  { d with sed.halfArmed := true }

/-- A place of the log: of bank 7 or of the persistent area. -/
inductive LogPlace where
  | bank7 (i : Nat) | kept (i : Nat)
  deriving DecidableEq, Repr

/-- The sequence number that belongs to a place of bank 7: of the entry held there, or, where the place cannot be read, the latest
number that maps to it. -/
def Device.placeSeq (d : Device) (i : Nat) : Option Nat :=
  if d.entryLost (bank7Addr i) then
    let last := d.get F.SED_NEXT_SEQ + 2 ^ 32 - 1
    some ((last - (last + 2048 - i) % 2048) % 2 ^ 32)
  else d.heldAt i

/-- Where LOG_READ looks for the entries from `first` on, in ascending serial order (R663): in bank 7, and in the persistent area
for those that have no place there. -/
def Device.logPlaces (d : Device) (first : Nat) : List LogPlace :=
  let n := (d.get F.SED_NEXT_SEQ + 2 ^ 32 - first) % 2 ^ 32
  if n == 0 || 2 ^ 31 ≤ n then []
  else
    let dist := fun s : Nat => (s + 2 ^ 32 - first) % 2 ^ 32
    let vol := (List.range 2048).filterMap fun i => (d.placeSeq i).map fun s => (dist s, LogPlace.bank7 i)
    let per := d.persisted.filterMap fun e =>
      if d.placeSeq (e.1 % 2048) == some e.1 then none else some (dist e.1, LogPlace.kept e.2)
    (((vol ++ per).filter fun p => p.1 < n).mergeSort fun x y => x.1 ≤ y.1).map fun p => p.2

/-- The read of one place: none where it meets an uncorrectable error (R58, R59, R663, R685). -/
def Device.logPlace (d : Device) : LogPlace → Option (List Byte) × Device
  | .bank7 i =>
    let r := d.readRun (bank7Addr i) 8
    (if r.2.1 then some r.1 else none, r.2.2)
  | .kept i =>
    let r := d.nvsScan (0xF0000 + 32 * i) 32
    (if r.1 then some (d.bytes (0x300F0000 + 32 * i) 32) else none, r.2)

/-- The first `count` entries of some places that can be read. -/
def Device.logTake (d : Device) : List LogPlace → Nat → List (List Byte) × Device
  | [], _ => ([], d)
  | _ :: _, 0 => ([], d)
  | p :: t, n + 1 =>
    match d.logPlace p with
    | (some e, d) =>
      let r := d.logTake t n
      (e :: r.1, r.2)
    | (none, d) => d.logTake t (n + 1)

end Sys2Proof.Machine
end

