-- ==== Sys2Proof/Machine/LineCode.lean ====
section
/-! DEFINITION. What stands on the lines: the symbols of a Shoreline frame, the levels of the pair and how long a frame lasts
(R437, R438), and the scrambling of a Tarn frame (R523). -/

namespace Sys2Proof.Machine

/-- A bit period of the chain: a bit, or one of the two code violations J and K. -/
inductive LineSymbol where
  | zero | one | j | k
  deriving DecidableEq, Repr

/-- Does a symbol have a transition at its start (R437, R438)? -/
def LineSymbol.atStart : LineSymbol → Bool
  | .zero | .k => true
  | .one | .j => false

/-- Does a symbol have a transition at its middle? -/
def LineSymbol.atMiddle : LineSymbol → Bool
  | .zero | .one => true
  | .j | .k => false

/-- The symbols of a byte, most significant bit first. -/
def byteSymbols (b : Byte) : List LineSymbol :=
  (List.range 8).map fun i => if b.getLsbD (7 - i) then .one else .zero

/-- The symbols of a frame (R438): preamble, start delimiter, bytes, end delimiter. -/
def frameSymbols (bytes : List Byte) : List LineSymbol :=
  List.replicate 16 .zero ++ [.j, .k] ++ bytes.flatMap byteSymbols ++ [.j, .j]

/-- The two half-period levels of each symbol, from the level of the line before it. -/
def lineLevels : Bool → List LineSymbol → List (Bool × Bool)
  | _, [] => []
  | level, s :: rest =>
    let first := level != s.atStart
    let second := first != s.atMiddle
    (first, second) :: lineLevels second rest

/-- The bit periods that a frame with `len` payload bytes lasts (R438). -/
def framePeriods (len : Nat) : Nat := 16 + 2 + 8 * (7 + len + if len = 0 then 0 else 2) + 2

/-- One bit period in edge-clock periods: 48 LINK cycles (R437, R460). -/
def bitPeriod : Nat := 48 * 8

/-- One bit through the scrambler of R523: the bit sent and the state after it. -/
def scrambleBit (s : Nat) (b : Bool) : Bool × Nat :=
  let n := s.testBit 14 != s.testBit 13
  (b != n, (2 * s + n.toNat) % 2 ^ 15)

/-- A byte through the scrambler, most significant bit first. -/
def scrambleByte (s : Nat) (b : Byte) : Byte × Nat :=
  let r := (List.range 8).foldl
    (fun (p : Nat × Nat) i => let q := scrambleBit p.2 (b.getLsbD (7 - i)); (2 * p.1 + q.1.toNat, q.2)) (0, s)
  (BitVec.ofNat 8 r.1, r.2)

/-- Bytes through the scrambler. -/
def scrambleBytes : Nat → List Byte → List Byte
  | _, [] => []
  | s, b :: bs => let r := scrambleByte s b; r.1 :: scrambleBytes r.2 bs

/-- A Tarn frame on the line (R523): the sync word as it is, the rest scrambled from the state of all ones. The receiver
descrambles with the same sequence. -/
def scrambleFrame (bs : List Byte) : List Byte := bs.take 4 ++ scrambleBytes 0x7FFF (bs.drop 4)

end Sys2Proof.Machine
end

