-- ==== Sys2Proof/Machine/ShlOps.lean ====
section
/-! DEFINITION. The Shoreline chain master (R447 to R484): readings, commands and their ends, enumeration,
identity, breaks, the sample cycle, mailboxes and the wake tone. -/

namespace Sys2Proof.Machine

/-! ### Readings (R465, R466, R490, R497) -/

/-- What a companion remembers of position `k`, from 1. -/
def Device.shlPrev (d : Device) (k : Nat) : PrevReply := d.shl.prev.toList.getD (k - 1) ⟨0, false, []⟩

/-- Replaces it. -/
def Device.setShlPrev (d : Device) (k : Nat) (p : PrevReply) : Device :=
  if h : k - 1 < 64 then { d with shl.prev := d.shl.prev.set (k - 1) p } else d

/-- A cell field of a reply (R465), cell from 0. -/
def replyCell (p : List Byte) (i : Nat) : Nat := ofLe ((p.drop (6 + 2 * i)).take 2)

/-- The sum of the cell fields of a reply in 0.1 mV. -/
def replySum (p : List Byte) : Nat := ((List.range 18).map (replyCell p)).sum

/-- A signed byte of a reply. -/
def replyByte (p : List Byte) (i : Nat) : Int := (p.getD i 0).toInt

/-- RSV_CTEMP follows the valid NTC fields of all companions (R490). -/
def Device.showNtc (d : Device) : Device :=
  let all := d.shl.prev.toList.flatMap PrevReply.ntc
  match all with
  | [] => d.setFlag F.RSV_CTEMP_VALID false
  | t :: ts =>
    let lo := ts.foldl min t
    let hi := ts.foldl max t
    ((d.puti F.RSV_CTEMP_MIN lo).puti F.RSV_CTEMP_MAX hi).setFlag F.RSV_CTEMP_VALID true

/-- The mapped cells of companion `k` are unknown (R465, R466): `flags` is what their entries hold. -/
def Device.dropCells (d : Device) (k flags : Nat) : Device :=
  let base := d.get (F.SHL_Ck_MAP_BASE k)
  (List.range (d.get (F.SHL_Ck_MAP_NCELL k))).foldl (fun d i => d.put (F.RSV_CELL_j_FLAGS (base + i)) flags) d

/-- The cells of an UNREACHABLE companion carry UNREACH. -/
def Device.cellsUnreach (d : Device) (k : Nat) : Device :=
  let base := d.get (F.SHL_Ck_MAP_BASE k)
  (List.range (d.get (F.SHL_Ck_MAP_NCELL k))).foldl
    (fun d i => d.orField (F.RSV_CELL_j_FLAGS (base + i)) 16) d

/-- One cell of a checked reading (R465, R490): KNOWN unless the field says that there is no reading. -/
def Device.deliverCell (d : Device) (k i v dev flags : Nat) : Device :=
  let j := d.get (F.SHL_Ck_MAP_BASE k) + i
  if 32 ≤ j then d
  else
    let d := d.put (F.RSV_CELL_j_V j) v
    let d := d.put (F.RSV_CELL_j_DEV j) dev
    let d := d.put (F.RSV_CELL_j_FLAGS j) (if v == 0xFFFF then flags else flags + 1)
    if h : j < 32 then { d with rsv.age := d.rsv.age.set j 0 } else d

/-- The condition of PLAUSIBILITY of R497. -/
def replyImplausible (p : List Byte) (flags n : Nat) : Bool :=
  let gap := (List.range n).any fun i => replyCell p i == 0xFFFF
  let total := ofLe ((p.drop 42).take 2) * 100
  let sum := replySum p
  let off : Rat := absRat ((sum : Rat) - total)
  !flags.testBit 3 && (gap || (flags % 4 == 0 && total != 0 && decide ((total : Rat) * 3 / 1000 + 500 < off)))

/-- The events of a checked reply, in ascending source number (R497). -/
def Device.replyEvents (d : Device) (k : Nat) (p : List Byte) (flags : Nat) (bad mapBad : Bool) : Device :=
  let old := d.shlPrev k
  let d := if flags % 4 != 0 && old.flags % 4 == 0 then d.raise 87 k else d
  let d := if flags.testBit 1 && !old.flags.testBit 1 then d.raise 88 k else d
  let d := if flags.testBit 3 && !old.flags.testBit 3 then d.raise 89 k else d
  let d := if !flags.testBit 4 && old.flags.testBit 4 then d.fire 90 else d
  if mapBad then
    d.raise 91 k (leBytes 1 (d.get (F.SHL_Ck_MAP_NCELL k)) ++ leBytes 1 (p.getD 5 0).toNat)
  else if bad && !old.plaus then d.raise 91 k
  else d

/-- A checked reading of companion `k` reaches the Reservoir (R465, R466): `trust` says STRANGER, `unreach` that
it comes without a valid reading (R547). `i9` is the lane 9 current at its sampling instant (ISAMP). -/
def Device.deliverReading (d : Device) (k : Nat) (stranger unreach : Bool) (p : List Byte) (i9 : Option Rat) :
    Device :=
  if unreach then d.cellsUnreach k
  else
    let flags := ofLe ((p.drop 2).take 2)
    let n := d.get (F.SHL_Ck_MAP_NCELL k)
    let measured := (p.getD 5 0).toNat
    let ntc := [replyByte p 44, replyByte p 45].filter fun t => t != -128
    let d := d.put (F.SHL_Ck_SAMP_ID k) (ofLe (p.take 2))
    let d := d.put (F.SHL_Ck_SAMP_AGE k) 0
    let d := d.setFlag (F.SHL_Ck_STAT_TSYNC k) (flags.testBit 2)
    let d := d.latchIsamp i9
    let mismatch := measured != n
    let newErr := mismatch && !d.flag (F.SHL_Ck_STAT_MAPERR k)
    let d := d.setFlag (F.SHL_Ck_STAT_MAPERR k) mismatch
    let bad := replyImplausible p flags measured
    let d := d.replyEvents k p flags (bad && !mismatch) newErr
    let d := d.setShlPrev k ⟨flags, if mismatch then (d.shlPrev k).plaus else bad, ntc⟩
    let d := d.showNtc
    if mismatch then d.dropCells k 0
    else
      let suspect := flags.testBit 0 || !flags.testBit 2
      let bits := 2 * suspect.toNat + 4 * (flags.testBit 1).toNat + 8 * stranger.toNat
      (List.range n).foldl (fun d i => d.deliverCell k i (replyCell p i) (p.getD 4 0).toNat bits) d

/-! ### The chain as the master knows it (R452) -/

/-- The companions on the chain. -/
def Device.ncomp (d : Device) : Nat := d.get F.SHL_CFG_NCOMP

/-- The positions. -/
def Device.positions (d : Device) : List Nat := (List.range d.ncomp).map fun i => i + 1

/-- REACH of a position: 0 NOT_FOUND, 1 VIA_A, 2 VIA_B, 3 UNREACHABLE. -/
def Device.reach (d : Device) (k : Nat) : Nat := d.get (F.SHL_Ck_STAT_REACH k)

/-- Is a position reachable? -/
def Device.reachable (d : Device) (k : Nat) : Bool := d.reach k == 1 || d.reach k == 2

/-- Is a companion a STRANGER? -/
def Device.chainStranger (d : Device) (k : Nat) : Bool := d.get (F.SHL_Ck_STAT_TRUST k) == 2

/-- The codes of SHL_STAT.STATE. -/
def Device.shlState (d : Device) : Nat := d.get F.SHL_STAT_STATE

/-- LAST_A and FIRST_B follow REACH. -/
def Device.showReach (d : Device) : Device :=
  let a := (d.positions.filter fun k => d.reach k == 1).foldl max 0
  let bs := d.positions.filter fun k => d.reach k == 2
  let b := match bs with
    | [] => 0
    | k :: _ => k
  (d.put F.SHL_STAT_LAST_A a).put F.SHL_STAT_FIRST_B b

/-- Sets REACH of a position; an UNREACHABLE companion's cells carry UNREACH. -/
def Device.setReach (d : Device) (k r : Nat) : Device :=
  let d := (d.put (F.SHL_Ck_STAT_REACH k) r).showReach
  if r == 3 then d.cellsUnreach k else d

/-- Sets bits of SHL_EVT. -/
def Device.shlEvt (d : Device) (v : Nat) : Device := d.orField F.SHL_EVT_EVT v

/-! ### Sending -/

/-- The master may put a frame on the chain now: the role runs, no command is outstanding, the device is not in
limp and no wake tone stands in the way (R197, R464, R469). -/
def Device.shlFree (d : Device) : Bool :=
  d.shl.role && d.running && d.shl.cur.isNone && !d.limp && !d.shl.toneOn

/-- A frame leaves a port; the last eight are kept. -/
def Device.shlSend (d : Device) (side : Side) (bytes : List Byte) : Device :=
  { d with shl.sent := ((side, bytes) :: d.shl.sent).take 8 }

/-- The levels of a port while its newest frame leaves, from the idle level of the line (R437, R438). -/
def Device.portLevels (d : Device) (side : Side) (idle : Bool) : List (Bool × Bool) :=
  match d.shl.sent.find? fun f => f.1 == side with
  | some f => lineLevels idle (frameSymbols f.2)
  | none => []

/-- A broadcast leaves from SHL_A, and in SPLIT from both ports (R452); in LOOP its arrival at SHL_B is
awaited (R453). -/
def Device.shlBroadcast (d : Device) (op : Nat) (payload : List Byte) : Device :=
  let d := d.shlSend .a (chainFrame 127 op 0 payload.length 0 payload)
  if d.shlState == 3 then d.shlSend .b (chainFrame 127 op 0 payload.length 64 payload)
  else { d with shl.bcast := true }

/-- A LOOP frame leaves SHL_A, and its arrival at SHL_B is awaited (R453, R454). -/
def Device.sendLoop (d : Device) : Device :=
  { d with shl.wantLoop := false, shl.bcast := true }.shlSend .a (chainFrame 127 0x0E 0 0 0 [])

/-- The chain time that a TIME_SET carries (R461), in 1/256 µs modulo 2⁴⁰: of the ring time at which its start
delimiter leaves, 16 bit periods of preamble after the frame begins (R438). -/
def chainTime (t : RingTime) : Nat := edgesToTime (t.ticks + 16 * bitPeriod) % timeMod

/-- The bytes of a chain time: µs and phase. -/
def timeBytes (t : Nat) : List Byte := leBytes 4 (t / 256) ++ leBytes 1 (t % 256)

/-- Is an opcode sequenced (R444)? -/
def sequencedOp (op : Nat) : Bool := op == 0x0B || op == 0 || 0x0F ≤ op

/-- The frame of a job leaves from its side. -/
def Device.sendJob (d : Device) (j : Job) : Device :=
  let d := d.shlSend j.side
    (chainFrame j.addr j.opcode j.seq j.payload.length (64 * j.side.idx) j.payload)
  { d with shl.cur := some { j with waits := false } }

/-- A job on its way: the companion's current side unless the job names one, its SEQ, and OUT (R448). -/
def Device.startJob (d : Device) (j : Job) : Device :=
  let seq := if j.addr ≤ 64 && sequencedOp j.opcode then d.get (F.SHL_Ck_STAT_NEXTSEQ j.addr) else 0
  let d := if seq != 0 then d.setFlag (F.SHL_Ck_STAT_OUT j.addr) true else d
  let d := match j.kind with
    | .mailbox m => d.put (F.SHL_MB_RES_m_STATE m) 2
    | _ => d
  d.sendJob { j with seq := seq }

/-- A job for a companion from its current side. -/
def Device.jobTo (d : Device) (k op : Nat) (payload : List Byte) (kind : JobKind) : Job :=
  ⟨k, op, 0, payload, kind, if d.reach k == 2 then .b else .a, 0, false, 0, false⟩

/-- A job from a given side. -/
def jobFrom (k op : Nat) (payload : List Byte) (kind : JobKind) (side : Side) : Job :=
  ⟨k, op, 0, payload, kind, side, 0, false, 0, false⟩

/-- An internal job waits its turn. -/
def Device.addJob (d : Device) (j : Job) : Device := { d with shl.jobs := d.shl.jobs ++ [j] }

/-! ### Outcomes (R455, R456) -/

/-- An outcome is recorded: the register, PEND, and the entry; CHN_REPLY when it was pending. -/
def Device.recordOutcome (d : Device) (k seq kind status op : Nat) : Device :=
  let pend := d.flag (F.SHL_Ck_STAT_PEND k)
  let d := (d.put (F.SHL_Ck_OUTC_SEQ k) seq).put (F.SHL_Ck_OUTC_KIND k) kind
  let d := (d.put (F.SHL_Ck_OUTC_STATUS k) status).put (F.SHL_Ck_OUTC_LASTOP k) op
  let d := d.setFlag (F.SHL_Ck_STAT_PEND k) false
  let d := if pend then d.fire 81 else d
  d.log 145 1 k (leBytes 1 seq ++ leBytes 1 kind ++ leBytes 1 status ++ leBytes 1 op)

/-- The command that awaits its outcome at a companion. -/
def Device.pendOf (d : Device) (k : Nat) : Nat × Nat := d.shl.pendSeq.toList.getD (k - 1) (0, 0)

/-- Remembers it. -/
def Device.setPendOf (d : Device) (k : Nat) (p : Nat × Nat) : Device :=
  if h : k - 1 < 64 then { d with shl.pendSeq := d.shl.pendSeq.set (k - 1) p } else d

/-- A pending outcome is LOST: the companion restarted (R455). -/
def Device.loseOutcome (d : Device) (k : Nat) : Device :=
  if d.flag (F.SHL_Ck_STAT_PEND k) then
    d.recordOutcome k (d.pendOf k).1 3 0xFF (d.pendOf k).2
  else d

/-! ### Identity (R470, R471) -/

/-- The balancing stop of R502 is queued for a companion. -/
def Device.stopJob (d : Device) (k : Nat) : Device :=
  d.addJob (d.jobTo k 0x0B ([0x53, 1] ++ leBytes 2 0x5A0F) .stop)

/-- The cells of a companion carry UNTRUSTED, or no longer do. -/
def Device.cellsTrust (d : Device) (k : Nat) (stranger : Bool) : Device :=
  let base := d.get (F.SHL_Ck_MAP_BASE k)
  (List.range (d.get (F.SHL_Ck_MAP_NCELL k))).foldl
    (fun d i => if stranger then d.orField (F.RSV_CELL_j_FLAGS (base + i)) 8
      else d.andNotField (F.RSV_CELL_j_FLAGS (base + i)) 8) d

/-- A companion becomes a STRANGER (R471). -/
def Device.becomeStranger (d : Device) (k why tag : Nat) : Device :=
  let d := (d.put (F.SHL_Ck_STAT_TRUST k) 2).put (F.SHL_Ck_STAT_WHY k) why
  let d := (d.cellsTrust k true).shlEvt 16
  (d.raise 86 k (leBytes 8 tag ++ leBytes 1 why)).stopJob k

/-- A companion is ADOPTED. -/
def Device.becomeAdopted (d : Device) (k : Nat) : Device :=
  ((d.put (F.SHL_Ck_STAT_TRUST k) 1).put (F.SHL_Ck_STAT_WHY k) 0).cellsTrust k false

/-- The tag that SHL_Ck_TAG holds. -/
def Device.chainTag (d : Device) (k : Nat) : Nat :=
  d.get (F.SHL_Ck_TAGL_TAG k) + d.get (F.SHL_Ck_TAGH_TAG k) * 2 ^ 32

/-- Does another position of this chain hold a tag? -/
def Device.tagDuplicate (d : Device) (k tag : Nat) : Bool :=
  d.positions.any fun i => i != k && d.reach i != 0 && d.chainTag i == tag

/-- Draws 16 random bytes: a free value. -/
def Device.drawNonce (d : Device) : Nat × Device :=
  let x := fun i => (Config.freeWord (d.freshN + i)).toNat
  (x 0 + x 1 * 2 ^ 32 + x 2 * 2 ^ 64 + x 3 * 2 ^ 96, { d with freshN := d.freshN + 4 })

/-- The check of a companion ends without or with adoption, and is recorded (R693). -/
def Device.endCheck (d : Device) (k why tag : Nat) : Device :=
  let d := if why == 0 then d.becomeAdopted k else d.becomeStranger k why tag
  d.authDone 1 why k tag

/-! ### Enumeration (R457 to R459) -/

/-- The next command of enumeration. -/
def Device.enumNext (d : Device) (e : EnumRun) : Device := { d with shl.enum := some e }

/-- STATUS to the position of an enumeration from its side. -/
def EnumRun.ask (e : EnumRun) : EnumRun := { e with next := some (jobFrom e.k 1 [] .enumStatus e.side) }

/-- Enumeration ends (R458, R459): REACH of every position, the state, the event and the entry. The flags of earlier
replies count as clear (R497). -/
def Device.enumEnd (d : Device) (e : EnumRun) (loopOk : Bool) : Device :=
  let prev : Vector PrevReply 64 := d.shl.prev.map fun p => ⟨0, false, p.ntc⟩
  let d := { d with shl.enum := none, shl.first := false, shl.unassigned := false, shl.prev := prev }
  let d := d.positions.foldl
    (fun d k =>
      d.setReach k (if e.foundA.contains k then 1 else if e.foundB.contains k then 2 else 3)) d
  let all := d.positions.all fun k => e.foundA.contains k || e.foundB.contains k
  let d := if !all || e.fault then d.shlEvt 64 else d
  let whole := d.positions.all (fun k => d.reach k == 1) && loopOk
  let d := (d.put F.SHL_STAT_STATE (if whole then 2 else 3)).shlEvt 1
  let found := d.positions.filter d.reachable
  d.raise 80 0 (leBytes 8 ((found.map fun k => 2 ^ (k - 1)).sum))

/-- A side of enumeration ends (step 6 of R458). -/
def Device.enumSideEnd (d : Device) (e : EnumRun) : Device :=
  match e.side with
  | .a =>
    if e.foundA.contains d.ncomp then
      let d := d.enumNext { e with next := none, waitLoop := true }
      d.shlBroadcast 0x0E []
    else d.enumNext { e with side := .b, k := d.ncomp }.ask
  | .b => d.enumEnd e false

/-- The next position of a side (step 5 of R458). -/
def Device.enumAdvance (d : Device) (e : EnumRun) : Device :=
  let k := if e.side == .a then e.k + 1 else e.k - 1
  if k == 0 || d.ncomp < k || e.foundA.contains k || e.foundB.contains k then d.enumSideEnd e
  else d.enumNext { e with k := k }.ask

/-- A position is found on the side in progress. -/
def EnumRun.found (e : EnumRun) : EnumRun :=
  match e.side with
  | .a => { e with foundA := e.k :: e.foundA }
  | .b => { e with foundB := e.k :: e.foundB }

/-- Enumeration begins (R458). -/
def Device.enumStart (d : Device) : Device :=
  if d.shl.role && d.shl.enum.isNone then
    let d := d.put F.SHL_STAT_STATE 1
    { d with shl.locate := none, shl.bcast := false }.enumNext
      (EnumRun.ask { side := .a, k := 1, foundA := [], foundB := [], fault := false, next := none, held := none, waitLoop := false })
  else d

/-- The DELAY_PROBE of step 5. -/
def EnumRun.probe (e : EnumRun) : EnumRun :=
  { e with next := some (jobFrom e.k 6 [] (.delay true) e.side) }

/-- The READ_ID of step 4. -/
def EnumRun.identify (e : EnumRun) : EnumRun :=
  { e with next := some (jobFrom e.k 4 [] (.readId true) e.side) }

/-- The outcome of a command from before the reset is collected before the next step (R35, R42, R456). -/
def EnumRun.collectFirst (e : EnumRun) (seq : Byte) : EnumRun :=
  { e with next := some (jobFrom e.k 0x0C [seq] .collect e.side), held := e.next }

/-- Enumeration goes on with the step that a COLLECT has held back. -/
def Device.releaseHeld (d : Device) : Device :=
  match d.shl.enum with
  | some e => if e.held.isSome then d.enumNext { e with next := e.held, held := none } else d
  | none => d

/-- Goes on with enumeration after the identity check, if the check was part of it. -/
def Device.afterCheck (d : Device) (en : Bool) : Device :=
  match d.shl.enum with
  | some e => if en then d.enumNext e.probe else d
  | none => d

/-- Goes on with enumeration after a delay measurement, if it was part of it. -/
def Device.afterDelay (d : Device) (en : Bool) : Device :=
  match d.shl.enum with
  | some e => if en then d.enumAdvance e else d
  | none => d

/-- An answer to STATUS in enumeration (R456, R458, R459). -/
def Device.enumStatusReply (d : Device) (p : List Byte) : Device :=
  match d.shl.enum with
  | none => d
  | some e =>
    let k := e.k
    let hops := (p.getD 4 0).toNat
    let want := if e.side == .a then k - 1 else d.ncomp - k
    if hops != want then
      ((d.shlEvt 64).setReach k 3).enumSideEnd { e with fault := true }
    else
      let e := e.found
      let flags := (p.getD 3 0).toNat
      let d := d.put (F.SHL_Ck_STAT_NEXTSEQ k) (p.getD 0 0).toNat
      let d := if flags.testBit 1 then d.loseOutcome k else d
      let d := d.setReach k (if e.side == .a then 1 else 2)
      let e := if d.shl.first || d.get (F.SHL_Ck_STAT_TRUST k) == 0 then e.identify else e.probe
      if d.shl.first && flags.testBit 0 then
        (d.setPendOf k ((p.getD 1 0).toNat, (p.getD 2 0).toNat)).enumNext (e.collectFirst (p.getD 1 0))
      else d.enumNext e

/-- STATUS is not answered in enumeration: the position is assigned (step 3). -/
def Device.enumNoAnswer (d : Device) : Device :=
  match d.shl.enum with
  | none => d
  | some e =>
    d.enumNext { e with next := some (jobFrom 0 2 [BitVec.ofNat 8 e.k, BitVec.ofNat 8 e.side.idx] .enumAssign e.side) }

/-- ASSIGN is answered (steps 3 and 4): a restarted companion lost what was pending (R481) and is at NEXTSEQ 1, unless
the master had broadcast UNASSIGN, which keeps the sequence state. -/
def Device.enumAssigned (d : Device) (ok : Bool) : Device :=
  match d.shl.enum with
  | none => d
  | some e =>
    if ok then
      let d := d.loseOutcome e.k
      let d := if d.shl.unassigned then d else d.put (F.SHL_Ck_STAT_NEXTSEQ e.k) 1
      let e := e.found
      (d.setReach e.k (if e.side == .a then 1 else 2)).enumNext e.identify
    else d.enumSideEnd e

/-! ### Breaks (R453, R454) -/

/-- The location of a break begins once no command is outstanding (R474). -/
def Device.locateStart (d : Device) : Device :=
  { d with shl.wantLocate := false, shl.bcast := false,
           shl.locate := some { side := .a, k := 1, lastA := 0, firstB := d.ncomp + 1 } }

/-- A break is located: REACH, SPLIT, the event and the entry. -/
def Device.locateEnd (d : Device) (l : Locate) : Device :=
  let d := { d with shl.locate := none }
  let d := d.positions.foldl
    (fun d k => d.setReach k (if k ≤ l.lastA then 1 else if l.firstB ≤ k then 2 else 3)) d
  let d := (d.put F.SHL_STAT_STATE 3).shlEvt 2
  d.raise 83 (d.get F.SHL_STAT_LAST_A) (leBytes 1 (d.get F.SHL_STAT_FIRST_B))

/-- A position answers the location, or does not. -/
def Device.locateStep (d : Device) (answered : Bool) : Device :=
  match d.shl.locate with
  | none => d
  | some l =>
    match l.side with
    | .a =>
      let l := if answered then { l with lastA := l.k } else l
      if answered && l.k < d.ncomp then { d with shl.locate := some { l with k := l.k + 1 } }
      else { d with shl.locate := some { l with side := .b, k := d.ncomp } }
    | .b =>
      let l := if answered then { l with firstB := l.k } else l
      if answered && 1 < l.k then { d with shl.locate := some { l with k := l.k - 1 } }
      else d.locateEnd l

/-! ### The sample cycle (R463, R464, R494) -/

/-- Hundredths of a microsecond in edge periods. -/
def usToTicks (hundredths : Nat) : Nat := hundredths * 786432 / 100000

/-- The delay that LEAD must cover (R463): of the loop, or of the longer side in SPLIT. -/
def Device.travel (d : Device) : Nat :=
  if d.shlState == 3 then
    d.positions.foldl
      (fun m k =>
        let x := if d.reach k == 1 then d.get (F.SHL_Ck_DA_DLY k) else if d.reach k == 2 then d.get (F.SHL_Ck_DB_DLY k)
          else 0
        if x == 0xFFFFFF then m else max m x) 0
  else d.get F.SHL_LOOPDLY_DLY

/-- Ts of R463: the centre of the first quiet window at or after the lead. -/
def Device.sampleInstant (d : Device) (now : Nat) : Nat :=
  let lead := max (usToTicks (d.get F.SHL_SAMP_LEAD * 1000)) (d.travel + usToTicks 9617)
  let x := now + lead
  let P := carrierPeriod (d.get F.MOD_CFG_CARRIER)
  let w := d.get F.MOD_QUIET_WIDTH
  if d.flag F.MOD_QUIET_EN && 160 ≤ w then
    let ph := d.get F.MOD_QUIET_PHASE % P
    x + (ph + P - x % P) % P + w / 2
  else x

/-- Quiet alignment is not available (R463). -/
def Device.quietNa (d : Device) : Bool := !(d.flag F.MOD_QUIET_EN && 160 ≤ d.get F.MOD_QUIET_WIDTH)

/-- SAMPLE_AT leaves (R463, R473). -/
def Device.sendSampleAt (d : Device) (c : Cycle) : Device :=
  let ts := d.sampleInstant d.clk.rt.ticks
  let d := d.setFlag F.SHL_STAT_QUIET_NA d.quietNa
  let d := { d with shl.cycle := some { c with ts := ts, sent := true } }
  d.shlBroadcast 0x08
    (timeBytes (edgesToTime ts % timeMod) ++ leBytes 2 c.id ++ leBytes 1 (d.get F.SHL_SAMP_MASK))

/-- The share of companion `k` (R494); none where it cannot be computed. -/
def Device.shareFor (d : Device) (c : Cycle) (k : Nat) : Option Nat :=
  let others := d.positions.filter fun j => j != k && d.get (F.SHL_Ck_MAP_NCELL j) != 0
  let reply := fun j => c.replies.lookup j
  let clean := fun j => match reply j with
    | some p => ofLe ((p.drop 2).take 2) % 4 == 0 && !(ofLe ((p.drop 2).take 2)).testBit 3 &&
        (List.range 18).all fun i => replyCell p i != 0xFFFF
    | none => false
  let total := (d.positions.map fun j => d.get (F.SHL_Ck_MAP_NCELL j)).sum
  match d.senseNearest 8 c.ts with
  | none => none
  | some v8 =>
    if d.get F.PWR_STAT_MAIN == 2 && others.all (fun j => d.get (F.SHL_Ck_STAT_TRUST j) == 1 && clean j) &&
        total == d.get F.RSV_STACK_NCELL then
      let sum : Rat := (others.map fun j => (replySum ((reply j).getD []) : Rat)).sum / 10000
      some (max 0 (ratHalfEven ((v8 - sum) * 500))).toNat
    else none

/-- An UNREACHABLE companion is relayed with its REACH flags and no valid reading (R547). -/
def Device.relayUnreachable (d : Device) (c : Cycle) : Device :=
  if d.flag F.SHL_CFG_RELAY then
    (d.positions.filter fun k => d.reach k == 3 && d.get (F.SHL_Ck_MAP_NCELL k) != 0).foldl
      (fun d k => d.trnSend 0xFF 0x0A
        (leBytes 1 k ++ leBytes 1 (3 + 4 * d.get (F.SHL_Ck_STAT_TRUST k)) ++ leBytes 8 c.ts ++ List.replicate 48 0)) d
  else d

/-- Every read of a cycle has ended: what has no reading is relayed, and the shares are written (R494, R547). -/
def Device.cycleEnd (d : Device) (c : Cycle) : Device :=
  let d := { d with shl.cycle := none }.relayUnreachable c
  d.positions.foldl
    (fun d k =>
      match c.replies.lookup k with
      | some p =>
        if ofLe ((p.drop 2).take 2) % 4 != 0 && d.get (F.SHL_Ck_STAT_TRUST k) == 1 then
          match d.shareFor c k with
          | some e3 => d.addJob (d.jobTo k 0x0B ([0x4E, 2] ++ leBytes 2 (min e3 65535) ++ leBytes 2 c.id) .share)
          | none => d
        else d
      | none => d) d

/-- A read of the cycle ends. -/
def Device.readEnd (d : Device) (k : Nat) (reply : Option (List Byte)) : Device :=
  match d.shl.cycle with
  | none => d
  | some c =>
    let c := match reply with
      | some p => { c with replies := (k, p) :: c.replies }
      | none => c
    if c.toRead.isEmpty then d.cycleEnd c else { d with shl.cycle := some c }

/-- The relay of a checked reading over the ring (R467, R543). -/
def Device.relayReading (d : Device) (k : Nat) (ts : Nat) (p : List Byte) : Device :=
  if d.flag F.SHL_CFG_RELAY then
    d.trnSend 0xFF 0x0A
      (leBytes 1 k ++ leBytes 1 (d.reach k + 4 * d.get (F.SHL_Ck_STAT_TRUST k)) ++ leBytes 8 ts ++
        p.take 47 ++ [0])
  else d

/-! ### Mailboxes (R472) -/

/-- A mailbox command ends: the result, the reply payload in its buffer, CHN_REPLY, and the CHN_CMD of a host
(R590). -/
def Device.mailboxDone (d : Device) (m : Fin 4) (result status seq : Nat) (payload : List Byte) : Device :=
  let d := (d.put (F.SHL_MB_RES_m_STATE m) 3).put (F.SHL_MB_RES_m_RESULT m) result
  let d := (d.put (F.SHL_MB_RES_m_STATUS m) status).put (F.SHL_MB_RES_m_RLEN m) payload.length
  let d := d.put (F.SHL_MB_RES_m_SEQ m) seq
  let d := d.bufferWrite (d.get (F.SHL_MB_BUF_m_ADDR m) * 4) payload
  let d := d.fire 81
  let c : Client := if m.val = 2 then .a else .b
  let h := d.port c
  if 2 ≤ m.val && h.busy && (h.queue.head?.map fun k => k.opcode) == some 0x80 then
    let code := if result == 0 then 0 else if result == 1 then 0x16 else 0x0B
    d.complete c code 0
      (leBytes 1 result ++ leBytes 1 status ++ leBytes 1 payload.length ++ leBytes 1 seq ++ payload)
  else d

/-- The registers of balancing that R471 protects: XM_BAL_EN to XM_BAL_T_18. -/
def balancingRange (a n : Nat) : Bool := (List.range n).any fun i => 0x50 ≤ a + i && a + i < 0x6A

/-- A mailbox command that is not sent: a companion with PEND, or a balancing write to a STRANGER. -/
def Device.mailboxRefused (d : Device) (addr op : Nat) (payload : List Byte) : Bool :=
  1 ≤ addr && addr ≤ 64 && (d.flag (F.SHL_Ck_STAT_PEND addr) ||
    (op == 0x0B && d.chainStranger addr && balancingRange (payload.getD 0 0).toNat (payload.getD 1 0).toNat))

/-! ### The next frame -/

/-- The sides and positions that a cycle reads, in order (R464). -/
def Device.readOrder (d : Device) : List Nat :=
  (d.positions.filter fun k => d.reach k == 1) ++ (d.positions.filter fun k => d.reach k == 2).reverse

/-- The client whose CHN_CMD uses the mailbox, while that command executes (R590). -/
def Device.mailboxHost (d : Device) (m : Fin 4) : Option Cmd :=
  let h := d.port (if m.val = 2 then .a else .b)
  match h.queue with
  | k :: _ => if 2 ≤ m.val && h.busy && k.opcode == 0x80 then some k else none
  | [] => none

/-- The payload of a mailbox command: of the host's CHN_CMD, else read from the mailbox's buffer (R58, R59). -/
def Device.mailboxPayload (d : Device) (m : Fin 4) : List Byte × Device :=
  match d.mailboxHost m with
  | some k => (k.payload.drop 4, d)
  | none =>
    let r := d.readBuffer (d.get (F.SHL_MB_BUF_m_ADDR m) * 4) (d.get (F.SHL_MB_CTL_m_LEN m))
    (r.1, r.2.2)

/-- A sequenced command without a path ends UNREACHABLE without an attempt (R451), and sets PEND with the SEQ it had been
given (R448). A companion that already has PEND keeps its outstanding one. -/
def Device.pendNoPath (d : Device) (k op : Nat) : Device :=
  let seq := d.get (F.SHL_Ck_STAT_NEXTSEQ k)
  if sequencedOp op && seq != 0 && !d.flag (F.SHL_Ck_STAT_PEND k) then
    (d.setFlag (F.SHL_Ck_STAT_PEND k) true).setPendOf k (seq, op)
  else d

/-- A mailbox command comes to its turn. -/
def Device.startMailbox (d : Device) (m : Fin 4) : Device :=
  let addr := d.get (F.SHL_MB_CTL_m_ADDR m)
  let op := d.get (F.SHL_MB_CTL_m_OPCODE m)
  let (payload, d) := d.mailboxPayload m
  let d := { d with shl.mbq := d.shl.mbq.tail }
  if addr == 127 then
    let d := if op == 0x0D then { d with shl.wokeNeeded := true } else d
    (d.shlBroadcast op payload).mailboxDone m 0 0 0 []
  else if d.mailboxRefused addr op payload then d.mailboxDone m 2 0 0 []
  else if !d.reachable addr then
    (d.pendNoPath addr op).mailboxDone m 1 0 (if sequencedOp op then d.get (F.SHL_Ck_STAT_NEXTSEQ addr) else 0) []
  else d.startJob (d.jobTo addr op payload (.mailbox m))

/-- The cycle's next read, if there is one; a companion that has become unreachable is passed over. -/
def Device.startRead (d : Device) (c : Cycle) : Device :=
  match c.toRead.dropWhile fun k => !d.reachable k with
  | [] => d.cycleEnd c
  | k :: t => { d with shl.cycle := some { c with toRead := t } }.startJob (d.jobTo k 9 (leBytes 2 c.id) .read)

/-- A companion whose outcome can be collected (R455). -/
def Device.toCollect (d : Device) : Option Nat :=
  d.positions.find? fun k => d.flag (F.SHL_Ck_STAT_PEND k) && d.reachable k

/-- A cycle with reads to do. -/
def Shl.reads (s : Shl) : Option Cycle :=
  match s.cycle with
  | some c => if c.begun && !c.toRead.isEmpty then some c else none
  | none => none

/-- A cycle whose SAMPLE_AT has not left. -/
def Shl.unsent (s : Shl) : Option Cycle :=
  match s.cycle with
  | some c => if c.sent then none else some c
  | none => none

/-- The next of the internal jobs; one whose companion has no path ends UNREACHABLE at once (R451). -/
def Device.startInternal (d : Device) (j : Job) (t : List Job) : Device :=
  let d := { d with shl.jobs := t }
  if d.reachable j.addr || j.kind == .probe then d.startJob j
  else
    match j.kind with
    | .readId _ => d.endCheck j.addr 3 0
    | .challenge _ _ tag _ => d.endCheck j.addr 3 tag
    | _ => d.pendNoPath j.addr j.opcode

/-- The mailbox whose command goes before the next read of a cycle: mailboxes are served between the commands of the
cycle, but a read of the same companion goes first (R472, R473). -/
def Device.mailboxBefore (d : Device) (c : Cycle) : Option (Fin 4) :=
  match d.shl.mbq, c.toRead.find? d.reachable with
  | m :: _, some k => if d.get (F.SHL_MB_CTL_m_ADDR m) == k then none else some m
  | m :: _, none => some m
  | [], _ => none

/-- The chain heals (R454): every reachable companion is served from SHL_A. -/
def Device.healChain (d : Device) : Device :=
  let d := { d with shl.wantHeal := false }
  let d := d.positions.foldl (fun d k => if d.reachable k then d.setReach k 1 else d) d
  ((d.put F.SHL_STAT_STATE 2).shlEvt 4).log 147 1 0

/-- The next command of an enumeration in progress. -/
def Device.shlEnumerate (d : Device) (e : EnumRun) : Device :=
  match e.next with
  | some j => { d with shl.enum := some { e with next := none } }.startJob j
  | none => d

/-- The commands after the broadcasts: the sample cycle, the internal jobs and the mailboxes. -/
def Device.shlCommands (d : Device) : Device :=
  match d.shl.reads with
  | some c =>
    match d.mailboxBefore c with
    | some m => d.startMailbox m
    | none => d.startRead c
  | none =>
    match d.shl.jobs with
    | j :: t => d.startInternal j t
    | [] =>
      match d.shl.mbq with
      | m :: _ => d.startMailbox m
      | [] => d

/-- The broadcasts that wait, then the commands (R453, R454, R461, R463, R469, R473). -/
def Device.shlBroadcasts (d : Device) : Device :=
  if d.shl.wantUnassign then { d with shl.wantUnassign := false, shl.unassigned := true }.shlBroadcast 0x03 []
  else if d.shl.wantSleep then { d with shl.wantSleep := false, shl.wokeNeeded := true }.shlBroadcast 0x0D []
  else if d.shl.wantTime then
    { d with shl.wantTime := false, shl.wantLoop := false }.shlBroadcast 0x07 (timeBytes (chainTime d.clk.rt))
  else
    match d.shl.unsent with
    | some c => { d with shl.wantLoop := false }.sendSampleAt c
    | none => if d.shl.wantLoop then d.sendLoop else d.shlCommands

/-- A mailbox command that comes to its turn sends a frame. -/
def Device.mailboxSends (d : Device) (m : Fin 4) : Bool :=
  let addr := d.get (F.SHL_MB_CTL_m_ADDR m)
  addr == 127 ||
    (!d.mailboxRefused addr (d.get (F.SHL_MB_CTL_m_OPCODE m)) (d.mailboxPayload m).1 && d.reachable addr)

/-- The next of the commands sends a frame. -/
def Device.commandSends (d : Device) : Bool :=
  match d.shl.reads with
  | some c =>
    match d.mailboxBefore c with
    | some m => d.mailboxSends m
    | none => c.toRead.any d.reachable
  | none =>
    match d.shl.jobs with
    | j :: _ => d.reachable j.addr || j.kind == .probe
    | [] => d.shl.mbq.head?.any d.mailboxSends

/-- What comes next on the free chain sends a frame: before the first one after ICE or after SLEEP the tone comes
(R469). -/
def Device.shlSends (d : Device) : Bool :=
  d.toCollect.isSome || d.shl.wantLocate ||
    match d.shl.locate, d.shl.enum with
    | some _, _ => true
    | none, some e => e.next.isSome
    | none, none =>
      d.shl.wantUnassign || d.shl.wantSleep || d.shl.wantTime || d.shl.unsent.isSome || d.shl.wantLoop || d.commandSends

/-- The chain is free: the next frame leaves, in the order of R453, R454, R455, R458, R472 and R473. -/
def Device.shlNext (d : Device) : Device :=
  if !d.shlFree then d
  else if d.shl.wokeNeeded && d.shlSends then { d with shl.toneOn := true, shl.wokeNeeded := false }
  else if d.shl.wantHeal then d.healChain
  else
    match d.toCollect with
    | some k => d.startJob (d.jobTo k 0x0C (leBytes 1 (d.pendOf k).1) .collect)
    | none =>
      if d.shl.wantLocate then d.locateStart.startJob (jobFrom 1 1 [] .locate .a)
      else
        match d.shl.locate, d.shl.enum with
        | some l, _ => d.startJob (jobFrom l.k 1 [] .locate l.side)
        | none, some e => d.shlEnumerate e
        | none, none => d.shlBroadcasts

/-- Frames leave until a command is outstanding or nothing waits; broadcasts and refused commands leave the
chain free, and no more than 16 of them come at once. -/
def Device.shlPump (d : Device) : Device := (List.range 16).foldl (fun d _ => d.shlNext) d

/-! ### Ends of commands (R448 to R451) -/

/-- The side of a reply after a reversal becomes that of the companion, and of each companion beyond it that the master
reached by the path that failed (R451 and its example). -/
def Device.reverseFrom (d : Device) (k : Nat) (side : Side) : Device :=
  let beyond := fun i => match side with
    | .b => decide (k < i) && d.reach i == 1
    | .a => decide (i < k) && d.reach i == 2
  (d.positions.filter beyond).foldl (fun d i => d.setReach i (side.idx + 1)) (d.setReach k (side.idx + 1))

/-- What every answered command leaves with its companion: the command ends, nothing of it stays outstanding, its
sequence number is used up, and the companion is reached from the side that heard it (R451, R460, R476). -/
def Device.heardReply (d : Device) (j : Job) (status : Nat) (p : List Byte) : Device :=
  let k := j.addr
  let d := { d with shl.cur := none }
  if 1 ≤ k && k ≤ 64 then
    let d := if j.seq != 0 then d.setFlag (F.SHL_Ck_STAT_OUT k) false else d
    let d := if j.seq != 0 && status != 2 && status != 6 && status != 10 then
        d.put (F.SHL_Ck_STAT_NEXTSEQ k) (seqAfter j.seq) else d
    let d := if status == 2 then
        (d.put (F.SHL_Ck_STAT_NEXTSEQ k) (ofLe p)).log 146 1 k (leBytes 1 (ofLe p)) else d
    match j.kind with
    | .enumStatus | .locate => d
    | .delay _ | .delayWrite _ => if j.reversed then d.reverseFrom k j.side else d
    | .probe => if d.reach k == 3 then d.setReach k (j.side.idx + 1) else d
    | _ => if j.reversed then d.reverseFrom k j.side else d.setReach k (j.side.idx + 1)
  else d

/-- A command ends with a reply whose status and payload are given. The side of the reply becomes the companion's
current side (R451), but a measurement made from the other side on purpose moves nothing (R460), and of two answers to a
probe that of SHL_A counts (R476). `delta` is the time of a DELAY_PROBE in
edge periods (R460). -/
def Device.endReply (d : Device) (j : Job) (status : Nat) (p : List Byte) (delta : Nat) : Device :=
  let k := j.addr
  let d := d.heardReply j status p
  match j.kind with
  | .mailbox m => d.mailboxDone m 0 status j.seq p
  | .read =>
    match d.shl.cycle with
    | none => d
    | some c =>
      if status == 0 && p.length == 47 then
        let d := d.deliverReading k (d.chainStranger k) false p (d.senseNearest 9 c.ts)
        (d.relayReading k c.ts p).readEnd k (some p)
      else d.readEnd k none
  | .enumStatus => d.enumStatusReply p
  | .enumAssign => d.enumAssigned (status == 0)
  | .readId en =>
    let tag := keyTag p
    let dup := d.tagDuplicate k tag
    let d := (d.put (F.SHL_Ck_TAGL_TAG k) (tag % 2 ^ 32)).put (F.SHL_Ck_TAGH_TAG k) (tag / 2 ^ 32)
    if dup then (d.endCheck k 4 tag).afterCheck en
    else if (d.rosterList false).any fun e => e.tag == tag then
      let r := d.drawNonce
      let job := jobFrom k 5 (leBytes 16 r.1) (.challenge en r.1 tag p) j.side
      match r.2.shl.enum with
      | some e => if en then r.2.enumNext { e with next := some job } else r.2.addJob job
      | none => r.2.addJob job
    else (d.endCheck k 1 tag).afterCheck en
  | .challenge en nonce tag key =>
    let ok := ecdsaVerify key (proofDigest shorContext ownTag nonce tag) p
    (d.endCheck k (if ok then 0 else 2) tag).afterCheck en
  | .delay en =>
    let v := min ((delta - 64 * bitPeriod) / 2) 0xFFFFFE
    let d := d.put (if j.side == .a then F.SHL_Ck_DA_DLY k else F.SHL_Ck_DB_DLY k) v
    let w := jobFrom k 0x0B ([if j.side == .a then 8 else 10, 2] ++ leBytes 4 v) (.delayWrite en) j.side
    match d.shl.enum with
    | some e => if en then d.enumNext { e with next := some w } else d.addJob w
    | none => d.addJob w
  | .delayWrite en => d.afterDelay en
  | .share => d
  | .stop => d
  | .collect =>
    let pend := d.pendOf k
    if status == 8 then (d.recordOutcome k pend.1 2 8 pend.2).releaseHeld
    else ((d.recordOutcome k pend.1 1 status pend.2).put (F.SHL_Ck_STAT_NEXTSEQ k) (seqAfter pend.1)).releaseHeld
  | .locate => d.locateStep true
  | .probe => if (p.getD 3 0).toNat.testBit 1 then d.loseOutcome k else d

/-- A command ends UNREACHABLE (R448, R451). -/
def Device.endUnreachable (d : Device) (j : Job) : Device :=
  let k := j.addr
  let d := { d with shl.cur := none }
  let mark := fun (d : Device) =>
    let d := d.setReach k 3
    if j.seq != 0 then
      ((d.setFlag (F.SHL_Ck_STAT_OUT k) false).setFlag (F.SHL_Ck_STAT_PEND k) true).setPendOf k (j.seq, j.opcode)
    else d
  match j.kind with
  | .mailbox m => (mark d).mailboxDone m 1 0 j.seq []
  | .read => (mark d).readEnd k none
  | .enumStatus => d.enumNoAnswer
  | .enumAssign => d.enumAssigned false
  | .readId en => ((mark d).endCheck k 3 0).afterCheck en
  | .challenge en _ tag _ => ((mark d).endCheck k 3 tag).afterCheck en
  | .delay en => (mark d).afterDelay en
  | .delayWrite en => (mark d).afterDelay en
  | .locate => d.locateStep false
  | .probe => d
  | .collect => (mark d).releaseHeld
  | _ => mark d

/-- The steps of a command that stays on one side: enumeration, location and probing (R453, R454, R458). -/
def JobKind.oneSide : JobKind → Bool
  | .enumStatus | .enumAssign | .locate | .probe => true
  | _ => false

/-- How long a reply may take, in edge periods from the end delimiter of the command (R450). -/
def Device.replyTime (d : Device) (j : Job) : Nat :=
  if j.opcode == 5 then usToTicks 2000000
  else max (usToTicks (d.get F.SHL_TIMING_RTO * 1000)) (2 * d.get F.SHL_LOOPDLY_DLY + usToTicks 2000)

/-- An attempt fails (R451). In limp the outstanding command waits (R197), and none is outstanding in the 50 µs after
NAK_BUSY (R449). -/
def Device.attemptFails (d : Device) : Device :=
  match d.shl.cur with
  | none => d
  | some j =>
    if d.limp || j.waits then d
    else if j.tries < 3 then
      let d := (d.fire 82).bump F.SHL_CNT_RETRY
      d.sendJob { j with tries := j.tries + 1, busy := 0 }
    else if j.reversed || j.kind.oneSide then (d.endUnreachable j).shlPump
    else
      let d := (d.shlEvt 8).raise 84 j.addr
      d.sendJob { j with side := j.side.other, tries := 0, reversed := true, busy := 0 }

/-- An attempt times out `ticks` edge periods after the end delimiter of its command (R450). -/
def Device.attemptTimeout (d : Device) (ticks : Nat) : Device :=
  match d.shl.cur with
  | none => d
  | some j => if d.replyTime j ≤ ticks then d.attemptFails else d

/-- A valid start delimiter ends a jam of its port (R482). -/
def Device.unjam (d : Device) (side : Side) : Device :=
  match side with
  | .a => { d with shl.jam := d.shl.jam.set 0 false }
  | .b => { d with shl.jam := d.shl.jam.set 1 false }

/-- A reply reaches the master (R441, R449, R451); an aborted one counts as a timeout. -/
def Device.chainReply (d : Device) (side : Side) (bytes : List Byte) (delta : Nat) : Device :=
  match d.shl.cur with
  | none => d
  | some j =>
    let len := (bytes.getD 3 0).toNat % 128
    let p := (bytes.drop 7).take len
    let d := d.unjam side
    if side != j.side || d.limp || j.waits then d
    else if bytes.length < 7 then d.attemptFails
    else if (bytes.drop 5).take 2 != beBytes2 (crc16 (bytes.take 5)) then d.bump F.SHL_CNT_HCRC
    else if len != 0 && decide (bytes.length < 9 + len) then d.attemptFails
    else if !(bytes.getD 0 0).getLsbD 7 || (bytes.getD 1 0).toNat != j.opcode || (bytes.getD 2 0).toNat != j.seq then d
    else if len != 0 && (bytes.drop (7 + len)).take 2 != beBytes2 (crc16 p) then
      (d.bump F.SHL_CNT2_PCRC).attemptFails
    else
      match (bytes.getD 4 0).toNat with
      | 0x0A => d.attemptFails
      | 0x06 =>
        if 19 ≤ j.busy then d.attemptFails
        else { d with shl.cur := some { j with busy := j.busy + 1, waits := true } }
      | status => (d.endReply j status p delta).shlPump

/-- 50 µs after NAK_BUSY the command is sent again (R449). -/
def Device.nakBusyResend (d : Device) : Device :=
  match d.shl.cur with
  | some j => if j.waits && !d.limp then d.sendJob j else d
  | none => d

/-! ### Broadcasts and the loop -/

/-- A LOOP frame, or another broadcast, arrives whole at SHL_B; `dly` is its delay in edge periods (R453, R458). In SPLIT
the arrival is that of CHAIN_HEAL. -/
def Device.loopArrives (d : Device) (dly : Nat) : Device :=
  if !d.shl.role || !d.shl.bcast || d.shlState == 3 then d
  else
    let d := { d with shl.bcast := false, shl.jam := d.shl.jam.set 1 false }.put F.SHL_LOOPDLY_DLY (min dly 0xFFFFFF)
    match d.shl.enum with
    | some e => if e.waitLoop then (d.enumEnd e true).shlPump else d
    | none => d

/-- A broadcast has not arrived `ticks` edge periods after it left (R453, R458): the break is located, or enumeration goes on
from SHL_B. -/
def Device.broadcastLoss (d : Device) (ticks : Nat) : Device :=
  if !d.shl.bcast || decide (ticks < d.get F.SHL_LOOPDLY_DLY + usToTicks 5000) then d
  else
    let d := { d with shl.bcast := false }
    match d.shl.enum with
    | some e => if e.waitLoop then (d.enumEnd e false).shlPump else d
    | none => if d.shlState == 2 then { d with shl.wantLocate := true }.shlPump else d

/-- The probe of SPLIT (R454), and the enumeration of R481 while a mapped position is missing, `ms` after the last. -/
def Device.chainProbe (d : Device) (ms : Nat) : Device :=
  if !d.shl.role || d.limp || d.shl.enum.isSome || decide (ms < d.get F.SHL_TIMING_PROBE * 10) then d
  else
    let missing := d.positions.any fun k => d.get (F.SHL_Ck_MAP_NCELL k) != 0 && !d.reachable k
    let d := if d.shlState == 3 then
        let d := (d.positions.filter fun k => d.reach k == 3).foldl
          (fun d k => (d.addJob (jobFrom k 1 [] .probe .a)).addJob (jobFrom k 1 [] .probe .b)) d
        { d with shl.wantLoop := true }
      else d
    (if missing then d.enumStart else d).shlPump

/-- A LOOP frame has arrived whole in SPLIT (R454): the chain heals once no command is outstanding. -/
def Device.chainHeal (d : Device) : Device :=
  if d.shl.role && d.shlState == 3 && d.shl.bcast then
    { d with shl.wantHeal := true, shl.bcast := false, shl.jam := d.shl.jam.set 1 false }.shlPump
  else d

/-- The delay measurement of R460, `ms` after the last: each reachable companion from each side on which it is reachable. -/
def Device.delayMeasure (d : Device) (ms : Nat) : Device :=
  let due := d.get F.SHL_TIMING_DLYP * 100 ≤ ms
  if due && d.shl.role && !d.limp && (d.shlState == 2 || d.shlState == 3) then
    let d := (d.positions.filter d.reachable).foldl
      (fun d k =>
        let near := d.addJob (d.jobTo k 6 [] (.delay false))
        if d.shlState == 2 then near.addJob (jobFrom k 6 [] (.delay false) .b) else near) d
    d.shlPump
  else d

/-- TIME_SET falls due, `ms` after the last (R461). -/
def Device.timeSetSend (d : Device) (ms : Nat) : Device :=
  if d.shl.role && !d.limp && decide (d.get F.SHL_TIMING_SYNCP ≤ ms) then { d with shl.wantTime := true }.shlPump else d

/-- The LOOP frame of R453, `ms` after the last broadcast. -/
def Device.loopSend (d : Device) (ms : Nat) : Device :=
  if d.shl.role && d.shlState == 2 && decide (d.get F.SHL_TIMING_SYNCP ≤ ms) then { d with shl.wantLoop := true }.shlPump else d

/-- The reads of a cycle begin (R464). -/
def Device.sampleReadStart (d : Device) : Device :=
  match d.shl.cycle with
  | some c =>
    if c.sent && !c.begun then
      let c := { c with begun := true, toRead := d.readOrder }
      if c.toRead.isEmpty then d.cycleEnd c
      else { d with shl.cycle := some c }.shlPump
    else d
  | none => d

/-- A sample cycle falls due at a block boundary (R463, R464). -/
def Device.sampleCycle (d : Device) : Device :=
  if d.shl.role && !d.limp && (d.shlState == 2 || d.shlState == 3) &&
      d.sc.st.get F.ST_BLKCNT_COUNT % max 1 (d.get F.SHL_SAMP_PERIOD) == 0 then
    match d.shl.cycle with
    | some _ => (d.bump F.SHL_CNT2_SKIP).shlEvt 32
    | none =>
      let id := (d.shl.sampId + 1) % 65536
      { d with shl.sampId := id, shl.cycle := some ⟨id, 0, false, false, [], []⟩ }.shlPump
  else d

/-- A ring-time step from the ring time `old` meets the chain (R462, R475): a cycle between its SAMPLE_AT and its Ts is
abandoned. -/
def Device.shlRingStep (d : Device) (old : Nat) : Device :=
  if d.shl.role then
    let d := match d.shl.cycle with
      | some c => if c.sent && !c.begun && decide (old < c.ts) then { d with shl.cycle := none } else d
      | none => d
    { d with shl.wantTime := true }
  else d

/-- The age of every reading advances at a boundary (SHL_Ck_SAMP). -/
def Device.sampleAges (d : Device) : Device :=
  d.positions.foldl (fun d k => d.bump (F.SHL_Ck_SAMP_AGE k)) d

/-! ### The role, the tone and the rest -/

/-- The outstanding command when the role stops: it ends UNREACHABLE, which is its one result (R448), and a sequenced one
is collected later. -/
def Device.dropOutstanding (d : Device) : Device :=
  match d.shl.cur with
  | none => d
  | some j =>
    let d := if j.seq != 0 then
        ((d.setFlag (F.SHL_Ck_STAT_OUT j.addr) false).setFlag (F.SHL_Ck_STAT_PEND j.addr) true).setPendOf j.addr
          (j.seq, j.opcode)
      else d
    match j.kind with
    | .mailbox m => d.mailboxDone m 1 0 j.seq []
    | _ => d

/-- The master's role starts or stops (R464): it runs while EN = 1 in a running state. What belongs to the
companions is kept. -/
def Device.shlRole (d : Device) : Device :=
  let want := d.flag F.SHL_CFG_EN && d.running
  if want && !d.shl.role then { d with shl.role := true }.enumStart.shlPump
  else if !want && d.shl.role then
    let d := d.dropOutstanding
    let s := d.shl
    let rest : Shl := { Shl.idle with prev := s.prev, pendSeq := s.pendSeq, sampId := s.sampId, first := s.first,
                                      jam := s.jam, mbq := s.mbq, wokeNeeded := s.wokeNeeded, sent := s.sent }
    { d with shl := rest }.put F.SHL_STAT_STATE 0
  else d

/-- A wake tone is heard on a port of the master (R468). -/
def Device.masterTone (d : Device) : Device :=
  if d.shl.toneOn then d
  else if d.running || d.limp then (d.shlEvt 128).fire 85
  else d.orField F.EVC_WLATCH_LATCH 32

/-- The tone that the master drives ends and frames may leave again (R469). -/
def Device.masterToneEnd (d : Device) : Device :=
  if d.shl.toneOn then { d with shl.toneOn := false }.shlPump else d

/-- A port is jammed (R482): its companions are served from the other side from now on; with both ports jammed every
companion is UNREACHABLE. The attempt in progress times out as any other. -/
def Device.portJam (d : Device) (side : Side) : Device :=
  if d.shl.role then
    let other := d.shl.jam.toList.getD side.other.idx false
    let jam : Vector Bool 2 := match side with
      | .a => d.shl.jam.set 0 true
      | .b => d.shl.jam.set 1 true
    let d := d.positions.foldl
      (fun d k =>
        if d.reachable k && other then d.setReach k 3
        else if d.reach k == side.idx + 1 then d.setReach k (side.other.idx + 1)
        else d) { d with shl.jam := jam }
    d.log 148 1 side.idx
  else d

/-- A mailbox command is queued (R472, R478). -/
def Device.mailboxQueue (d : Device) (m : Fin 4) : Device :=
  let d := (d.put (F.SHL_MB_RES_m_STATE m) 1).put (F.SHL_MB_RES_m_SEQ m) 0
  { d with shl.mbq := d.shl.mbq ++ [m] }.shlPump

/-- The chain stops in limp: what is outstanding stays; it resumes with a TIME_SET (R197, R469). -/
def Device.shlLimpReturn (d : Device) : Device := { d with shl.wantTime := true }.shlPump

/-- The device has been in ICE: the tone comes before the first frame (R469). -/
def Device.shlAfterIce (d : Device) : Device := { d with shl.wokeNeeded := true }

/-- A roster commit acts on the chain (R471, R698): strangers whose tag is adopted are checked again; a
revoked tag makes its companion a STRANGER. -/
def Device.chainRoster (d : Device) (adopted revoked : List Nat) : Device :=
  let d := d.positions.foldl
    (fun d k =>
      if d.chainStranger k && adopted.contains (d.chainTag k) then d.addJob (d.jobTo k 4 [] (.readId false))
      else d) d
  let d := d.positions.foldl
    (fun d k =>
      if d.get (F.SHL_Ck_STAT_TRUST k) == 1 && revoked.contains (d.chainTag k) then
        d.becomeStranger k 1 (d.chainTag k)
      else d) d
  d.shlPump

/-- A companion signs a challenge (R444, R690). -/
def Companion.challenge (c : Companion) (f : ChainIn) (n : Nat) : Companion :=
  c.plain f 0x05 16 fun c =>
    let key := beBytes 64 c.key.toNat
    let digest := proofDigest shorContext ownTag (ofLe f.payload) (keyTag key)
    (c, 0, beBytes 64 (Config.signature c.key (BitVec.ofNat 256 (beNat digest)) n).toNat)

end Sys2Proof.Machine
end

