-- ==== Sys2Proof/Machine/TrnOps.lean ====
section
/-! DEFINITION. The Tarn ring node (R521 to R567): frames, slots, messages, presentation, ports, wrap and
heal, the master, join and leave, and relay. -/

namespace Sys2Proof.Machine

/-! ### The node -/

/-- TRN_STAT.ROLE: 0 NONE, 1 JOINING, 2 SLAVE, 3 MASTER. -/
def Device.trnRole (d : Device) : Nat := d.get F.TRN_STAT_ROLE

/-- Is the node the ring master? -/
def Device.ringMaster (d : Device) : Bool := d.trnRole == 3

/-- TRN_STAT.MODE: 0 OFF, 1 NORMAL, 2 WRAP_E, 3 WRAP_W, 4 ISOLATED, 5 REPEAT, 6 LOOPBACK. -/
def Device.trnMode (d : Device) : Nat := d.get F.TRN_STAT_MODE

/-- Is the node adopted? -/
def Device.adopted (d : Device) : Bool := d.get F.TRN_STAT_TRUST == 1

/-- Is the node a STRANGER? -/
def Device.strange (d : Device) : Bool := d.get F.TRN_STAT_TRUST == 2

/-- Ring lock. -/
def Device.trnLock (d : Device) : Bool := d.flag F.TRN_STAT_LOCK

/-- The node takes part in the ring (R558). -/
def Device.ringMember (d : Device) : Bool :=
  d.running && !d.limp && !d.trn.looped && d.flag F.TRN_CFG_EN

/-- Sets bits of TRN_EVT. -/
def Device.trnEvt (d : Device) (v : Nat) : Device := d.orField F.TRN_EVT_EVT v

/-- RING_MSG (source 104). -/
def Device.ringMsg (d : Device) : Device := d.fire 104

/-- The port of a side: TRN_W is side a, TRN_E side b. -/
def Device.trnPort (d : Device) (s : Side) : TrnPort := d.trn.ports.toList.getD s.idx .idle

/-- Replaces a port. -/
def Device.setTrnPort (d : Device) (s : Side) (p : TrnPort) : Device :=
  match s with
  | .a => { d with trn.ports := d.trn.ports.set 0 p }
  | .b => { d with trn.ports := d.trn.ports.set 1 p }

/-- Is a port UP? -/
def Device.portIsUp (d : Device) (s : Side) : Bool := (d.trnPort s).st == .up

/-- TRN_STAT.LINK follows the ports. -/
def Device.showLink (d : Device) : Device :=
  d.put F.TRN_STAT_LINK ((d.portIsUp .a).toNat + 2 * (d.portIsUp .b).toNat)

/-- The port whose RX feeds the processing path (R554). -/
def Device.procPort (d : Device) : Option Side :=
  match d.trnMode with
  | 1 => some .a
  | 2 => some .a
  | 3 => some .b
  | _ => none

/-- The frame period of now. -/
def Device.frameNow (d : Device) : Nat := d.clk.rt.frame.toNat

/-! ### Modes (R554, R555, R558) -/

/-- Entry into a wrap mode (R555). -/
def Device.enterWrap (d : Device) (mode : Nat) : Device :=
  ((d.put F.TRN_STAT_MODE mode).trnEvt 2).raise 97 0

/-- The mode the ports of a ring member take from their link states. -/
def Device.memberMode (d : Device) : Nat :=
  match d.portIsUp .a, d.portIsUp .b with
  | true, true => 1
  | true, false => 2
  | false, true => 3
  | false, false => 4

/-- The mode the power state gives (R558); a ring member keeps the mode it has. -/
def Device.trnModeUpdate (d : Device) : Device :=
  let m := d.trnMode
  if d.pwr.seq == .off || d.pwr.seq == .ice || d.pwr.seq == .retryWait then d.put F.TRN_STAT_MODE 0
  else if !d.linkRuns || d.limp || d.trn.looped then d.put F.TRN_STAT_MODE 6
  else if d.ringMember then
    if 1 ≤ m && m ≤ 4 then d
    else
      let n := d.memberMode
      if n == 2 || n == 3 then d.enterWrap n else d.put F.TRN_STAT_MODE n
  else d.put F.TRN_STAT_MODE 5

/-! ### Ports (R524) -/

/-- A sync word is seen while DOWN. -/
def Device.portTraining (d : Device) (s : Side) : Device :=
  if (d.trnPort s).st == .down && d.trnMode != 0 && d.trnMode != 6 then
    d.setTrnPort s { d.trnPort s with st := .training }
  else d

/-- 16 sync words in a row: the port is UP. A node in ISOLATED takes the path that this opens (R554). -/
def Device.portUp (d : Device) (s : Side) : Device :=
  if (d.trnPort s).st == .training then
    let d := (d.setTrnPort s { d.trnPort s with st := .up }).showLink
    if d.trnMode == 4 then
      if d.memberMode == 1 then d.put F.TRN_STAT_MODE 1 else d.enterWrap d.memberMode
    else d
  else d

/-- The cable delay register of a port. -/
def cableField (s : Side) : Fld := if s == .a then F.TRN_CBL_W_DLY else F.TRN_CBL_E_DLY

/-- A port goes DOWN (R524, R555, R559). -/
def Device.portDown (d : Device) (s : Side) : Device :=
  if (d.trnPort s).st == .down then d
  else
    let d := (d.setTrnPort s { d.trnPort s with st := .down, delays := [] }).showLink
    let d := d.put (cableField s) 0xFFFF
    let d := { d with trn.unwrapAt := none }
    let m := d.trnMode
    if m == 1 then
      match d.memberMode with
      | 4 => (d.put F.TRN_STAT_MODE 4).trnEvt 2 |>.raise 97 0
      | n => d.enterWrap n
    else if (m == 2 || m == 3) && d.memberMode == 4 then d.put F.TRN_STAT_MODE 4
    else d

/-! ### CRCs (R526, R527) -/

/-- What a receiver makes of a CRC. -/
inductive CrcSt where
  | good | stomped | failed
  deriving DecidableEq, Repr

/-- A received CRC of `w` bits against the right one. -/
def crcJudge (w got want : Nat) : CrcSt :=
  if got = want then .good else if got = 2 ^ w - 1 - want then .stomped else .failed

/-- The bytes `n` from `a` on. -/
def slice (bs : List Byte) (a n : Nat) : List Byte := (bs.drop a).take n

/-- The four CRCs of a frame: HCRC, CRC_A, CRC_C and LCRC (R525). -/
def frameCrcs (bs : List Byte) : CrcSt × CrcSt × CrcSt × CrcSt :=
  (crcJudge 16 (beNat (slice bs 14 2)) (crc16 (slice bs 4 10)),
    crcJudge 32 (ofLe (slice bs 1008 4)) (crc32 (slice bs 16 512)),
    crcJudge 32 (ofLe (slice bs 1012 4)) (crc32 (slice bs 528 480)),
    crcJudge 16 (beNat (slice bs 1022 2)) (crc16 (slice bs 1016 6)))

/-- One CRC of a port is counted (R527). -/
def Device.countCrc (d : Device) (s : Side) (c : CrcSt) : Device :=
  match c with
  | .good => d
  | .stomped => d.bump (if s == .a then F.TRN_CRC_W_UPSTR else F.TRN_CRC_E_UPSTR)
  | .failed => ((d.bump (if s == .a then F.TRN_CRC_W_LOCAL else F.TRN_CRC_E_LOCAL)).trnEvt 128).fire 103

/-- A CRC as it is sent on: recomputed, and inverted where the incoming one was not good. -/
def stomp (w v : Nat) (c : CrcSt) : Nat := if c == .good then v else 2 ^ w - 1 - v

/-! ### Messages (R542 to R546) -/

/-- The bytes of a message. -/
def Msg.bytes (m : Msg) : List Byte :=
  leBytes 1 m.dst ++ leBytes 1 m.src ++ leBytes 1 m.type ++ leBytes 1 m.flags ++ leBytes 2 m.payload.length ++
    leBytes 1 m.mseq ++ [0] ++ m.payload

/-- The length of a message with its header. -/
def Msg.size (m : Msg) : Nat := 8 + m.payload.length

/-- A PAD message of a payload length. -/
def padMsg (n : Nat) : Msg := ⟨0xFF, 0, 0, 0, 0, List.replicate n 0⟩

/-- The messages of a control region. -/
def parseMsgs : Nat → List Byte → List Msg
  | 0, _ => []
  | n + 1, bs =>
    if bs.length < 8 then []
    else
      let len := ofLe (slice bs 4 2)
      let g := fun i => (bs.getD i 0).toNat
      ⟨g 0, g 1, g 2, g 3, g 6, slice bs 8 len⟩ :: parseMsgs n (bs.drop (8 + len))

/-- Does a message carry RECIRC? -/
def Msg.recirc (m : Msg) : Bool := m.flags.testBit 0

/-- Is a destination reserved (R542)? -/
def dstReserved (n : Nat) : Bool := 0x81 ≤ n && n ≤ 0xFE

/-- Is a type reserved (R543)? -/
def typeReserved (n : Nat) : Bool := 0x10 ≤ n

/-- Is a message addressed to this node? -/
def Device.addressed (d : Device) (m : Msg) : Bool :=
  (m.dst ≤ 127 && d.flag F.TRN_STAT_NUMV && m.dst == d.get F.TRN_STAT_NODE) || (m.dst == 0x80 && d.ringMaster)

/-- What the node knows of another. -/
def Device.nodeRec (d : Device) (n : Nat) : Option NodeRec := d.trn.nodes.find? fun r => r.node == n

/-- Is node `n` a STRANGER? -/
def Device.nodeStranger (d : Device) (n : Nat) : Bool := n < 128 && d.get (F.TRN_NODE_k_STATE n) == 2

/-- Does a STRANGER stand in the way of a message (R546)? -/
def Device.dropped (d : Device) (m : Msg) : Bool :=
  (m.type == 8 || m.type == 9 || m.type == 10 || m.type == 15) &&
    (d.strange || m.src ≥ 128 || d.nodeStranger (m.src % 128))

/-- A message of a processed frame that this node acts on: addressed to it, or a broadcast that reaches it as
R545 says; reserved types and destinations are counted by every node. -/
def Device.takes (d : Device) (m : Msg) : Bool :=
  if m.type == 0 then false
  else if typeReserved m.type || dstReserved m.dst then true
  else if d.addressed m then true
  else if m.dst == 0xFF && m.src != d.trnSrc then
    if m.recirc then
      !d.ringMaster && (match d.nodeRec m.src with
        | some r => decide (d.get F.TRN_PATH_PATH < r.path)
        | none => false)
    else true
  else false

/-- A message enters the inbox, or is dropped and counted. -/
def Device.inboxAdd (d : Device) (m : Msg) : Device :=
  if d.dropped m then d.bump F.TRN_MSGCNT_DROP else { d with trn.inbox := d.trn.inbox ++ [m] }

/-- Puts a message into the first PAD that has room for it (R544); none where there is no such PAD. -/
def placeMsg (m : Msg) : List Msg → Option (List Msg)
  | [] => none
  | p :: t =>
    let room := p.payload.length
    let rest := room - m.payload.length
    if p.type == 0 && m.payload.length ≤ room && (rest == 0 || 8 ≤ rest) then
      some (m :: (if rest == 0 then t else padMsg (rest - 8) :: t))
    else (placeMsg m t).map fun l => p :: l

/-- The bytes of PAD in a region. -/
def padBytes (l : List Msg) : Nat := ((l.filter fun m => m.type == 0).map Msg.size).sum

/-- Places the messages of one class while they fit; the region, what is left, and what was placed. -/
def placeClass (keep : Nat) : List Msg → List Msg → List Msg × List Msg × List Msg
  | [], region => (region, [], [])
  | m :: t, region =>
    match placeMsg m region with
    | some r =>
      if padBytes r < keep then (region, m :: t, [])
      else
        let x := placeClass keep t r
        (x.1, x.2.1, m :: x.2.2)
    | none => (region, m :: t, [])

/-- Places the queued messages in a region (R544): an APP message that leaves is SENT. -/
def Device.placeQueued (d : Device) (region : List Msg) : Device × List Msg :=
  let keep := if d.ringMaster then 0 else 198
  let x := placeClass 0 d.trn.queue[0] region
  let y := placeClass 0 d.trn.queue[1] x.1
  let z := placeClass keep d.trn.queue[2] y.1
  let d := { d with trn.queue := #v[x.2.1, y.2.1, z.2.1] }
  let d := if z.2.2.any (fun m => m.type == 0x0F) then d.put F.TRN_APP_TX_STATE 2 else d
  (d, z.1)

/-! ### Slots (R534 to R540) -/

/-- The word of slot `s` of a frame. -/
def slotOf (bs : List Byte) (s : Nat) : Word := BitVec.ofNat 32 (ofLe (slice bs (16 + 4 * s) 4))

/-- The sample of a slot word. -/
def slotSample (w : Word) (frame : Nat) : HoldSample :=
  ⟨frame, (w.toInt / 256), w.getLsbD 7, w.getLsbD 6, w.getLsbD 5, w.toNat % 32⟩

/-- Does this node write slots (R534)? -/
def Device.writesSlots (d : Device) : Bool := d.adopted && d.running && d.trnLock

/-- The word that lane `n` puts out now, `x` being the sample of the input rate converter: its flags are those of its group
(R253), and it is zero where the lane holds zero. -/
def Device.laneNow (d : Device) (n : Nat) (x : Word) : Word :=
  match srcGroup (d.get (F.INP_LANE_n_SRC n)) with
  | none => windowWord 0 false false false d.epoch
  | some g =>
    let f := ((GroupFlow.run (d.group g).marks 16 0 (d.group g).flow).1.getD d.sampleNow (d.group g).flow)
    let ramps := f.ramp < 16 || (f.locked && !f.held && f.muted && f.muteRamp < 16)
    let valid := (laneSample f ⟨0, 0⟩ 0).2
    let served := !(d.inp.unserved.toList.getD n false) && d.slotExists g (d.get (F.INP_LANE_n_SLOT n))
    windowWord (if served && (valid || ramps) then toQ23 x else 0) (served && valid) (!f.settled) f.muteFlag d.epoch

/-- The word of entry `i` of TRN_TX_i; none while it writes nothing. A sample of the output window carries the epoch of its
block (R34, R72), a sample of the input rate converter that of now. -/
def Device.txWord (d : Device) (irc : Vector Word 16) (i : Fin 16) : Option (Nat × Word) :=
  if d.trn.stopped.testBit i.val then none
  else
    let slot := d.get (F.TRN_TX_i_SLOT i.val)
    match d.get (F.TRN_TX_i_SRC i.val) with
    | 1 => some (slot, d.laneNow (d.get (F.TRN_TX_i_INDEX i.val) % 32) irc[i])
    | 2 =>
      let ch := d.get (F.TRN_TX_i_INDEX i.val) % 4
      some (slot, windowWord (d.stream.last.toList.getD ch 0) true false false d.stream.lastEpoch)
    | _ => none

/-- The slots this node writes now, and ACTIVE of each entry. -/
def Device.ownSlots (d : Device) (irc : Vector Word 16) : List (Nat × Word) × Device :=
  let on := d.writesSlots
  let ws := (List.finRange 16).map fun i => if on then d.txWord irc i else none
  let d := (ws.zipIdx).foldl (fun d p => d.setFlag (F.TRN_TX_i_ACTIVE p.2) p.1.isSome) d
  (ws.filterMap id, d)

/-- The age base: whole frames of the path, rounded up. -/
def pathFrames (path : Nat) : Nat := (path + 131071) / 131072

/-- Does this node write a slot? -/
def Device.ownSlot (d : Device) (slot : Nat) : Bool :=
  (List.range 16).any fun i => d.flag (F.TRN_TX_i_ACTIVE i) && d.get (F.TRN_TX_i_SLOT i) == slot

/-- Is a slot written by this node or one behind it, so that its sample comes with FRAME − RECIRC (R537)? -/
def Device.slotLate (d : Device) (slot : Nat) : Bool :=
  !d.ringMaster && (d.ownSlot slot || match d.trn.nodes.find? fun r => r.slots.testBit slot with
    | some r => r.node != d.get F.TRN_MASTER_NODE && decide (d.get F.TRN_PATH_PATH ≤ r.path)
    | none => false)

/-- The value of the `n`-th sample in a row after the last good one (R538): 4 substitutes, the ramp, then zero. -/
def TrnLane.lostValue (l : TrnLane) (n : Nat) : Int :=
  if n ≤ 4 then l.good.value
  else if n ≤ 20 then ratHalfEven ((l.good.value : Rat) * (15 - ((n : Int) - 5 : Int)) / 16)
  else 0

/-- A substituted sample of origin frame `f` (R538). -/
def TrnLane.miss (l : TrnLane) (f : Nat) : TrnLane :=
  let n := l.missed + 1
  { l with hold := ({ l.good with frame := f, value := l.lostValue n, valid := false } :: l.hold).take 512, missed := n }

/-- A good sample reaches a lane (R538). A ramp that has begun goes on to its end; the good samples after it ramp in. -/
def TrnLane.take (l : TrnLane) (s : HoldSample) : TrnLane :=
  if 4 ≤ l.missed && l.missed < 20 then l.miss s.frame
  else
    let ramp := if 20 ≤ l.missed then 16 else l.rampIn
    let k := 16 - ramp
    let s' := if ramp = 0 then s else { s with value := ratHalfEven ((s.value : Rat) * ((k : Rat) + 1) / 16) }
    { l with hold := (s' :: l.hold).take 512, good := s, missed := 0, rampIn := ramp - 1 }

/-- The origin frame of the newest sample of a lane. -/
def TrnLane.newest (l : TrnLane) : Option Nat := l.hold.head?.map HoldSample.frame

/-- Substitutes for every frame up to `last` that did not come, and how many there are. -/
def TrnLane.fill (l : TrnLane) (last : Nat) : TrnLane × Nat :=
  match l.newest with
  | none => (l, 0)
  | some f =>
    let n := last - f
    let few := min n 32
    ((List.range few).foldl (fun l i => l.miss (last + 1 + i - few)) l, n)

/-- Does lane `n` read a Tarn slot? -/
def Device.tarnLane (d : Device) (n : Nat) : Bool := d.get (F.INP_LANE_n_SRC n) == 4

/-- A lane that consumes a slot takes it from a processed frame, after a substitute for each frame that did not come
(R537, R538). -/
def Device.takeSlot (d : Device) (frame : Nat) (ok : Bool) (bs : List Byte) (n : Fin 32) : Device :=
  let slot := d.get (F.INP_LANE_n_SLOT n.val)
  let back := if d.slotLate slot then d.trn.recirc else 0
  let f := frame - back
  let r := d.trn.lanes[n].fill (f - 1)
  let l : TrnLane := { r.1 with age := pathFrames (d.get F.TRN_PATH_PATH) + back }
  let old : Bool := l.newest.any fun x => decide (f ≤ x)
  let l' := if old then l else if ok then l.take (slotSample (slotOf bs slot) f) else l.miss f
  let gone := r.2 + (if ok || old then 0 else 1)
  let d := { d with trn.lanes := d.trn.lanes.set n l' }
  if gone = 0 then d else d.bump (F.TRN_LANEERR_n_COUNT n.val) gone

/-- Every consumed lane takes its slot of a processed frame. -/
def Device.takeSlots (d : Device) (frame : Nat) (ok : Bool) (bs : List Byte) : Device :=
  (List.finRange 32).foldl (fun d n => if d.tarnLane n.val then d.takeSlot frame ok bs n else d) d

/-- At a block boundary the samples that the block needs, up to origin frame `last`, are substituted where their frames
did not come (R538). -/
def Device.fillLane (d : Device) (last : Nat) (n : Fin 32) : Device :=
  let r := d.trn.lanes[n].fill last
  if d.tarnLane n.val && r.2 != 0 then
    { d with trn.lanes := d.trn.lanes.set n r.1 }.bump (F.TRN_LANEERR_n_COUNT n.val) r.2
  else d

/-! ### Frames (R525, R528 to R531, R536) -/

/-- The bytes of a frame (R525); `st` says which CRCs leave stomped, and `res` holds bytes 13 and 1021, which a frame
that is forwarded keeps as they arrived (R528). -/
def buildFrame (ctl master frame hops : Nat) (slots : List Byte) (msgs : List Byte) (path turn : Nat)
    (st : CrcSt × CrcSt × CrcSt × CrcSt) (res : Byte × Byte := (0, 0)) : List Byte :=
  let head := leBytes 1 ctl ++ leBytes 1 master ++ leBytes 6 frame ++ leBytes 1 hops ++ [res.1]
  let link := leBytes 5 (path % 2 ^ 20 + turn % 2 ^ 17 * 2 ^ 20) ++ [res.2]
  [0x3A, 0x7D, 0x5C, 0x19] ++ head ++ beBytes2 (stomp 16 (crc16 head) st.1) ++ slots ++ msgs ++
    leBytes 4 (stomp 32 (crc32 slots) st.2.1) ++ leBytes 4 (stomp 32 (crc32 msgs) st.2.2.1) ++ link ++
    beBytes2 (stomp 16 (crc16 link) st.2.2.2)

/-- The cable delay of a port in 1/16 period, 0 while unknown. -/
def Device.cable (d : Device) (s : Side) : Nat :=
  let v := d.get (cableField s)
  if v == 0xFFFF then 0 else v

/-- A frame leaves a port scrambled (R523); the last four are kept as they are on the line. -/
def Device.trnEmit (d : Device) (s : Side) (bs : List Byte) : Device :=
  let p := d.trnPort s
  let d := d.setTrnPort s { p with sentFrame := ofLe (slice bs 6 6), sentHops := (bs.getD 12 0).toNat }
  { d with trn.sent := ((s, scrambleFrame bs) :: d.trn.sent).take 4 }

/-- The messages that fill a control region alone. -/
def paddedRegion (m : Msg) : List Byte := m.bytes ++ (padMsg (480 - m.size - 8)).bytes

/-- The idle frame of a wrap node or an isolated node on a port (R554). -/
def Device.idleFrame (d : Device) (s : Side) (turn : Nat) : List Byte :=
  let region := if d.trn.beacon.isEmpty then (padMsg 472).bytes
    else paddedRegion ⟨0xFF, d.get F.TRN_MASTER_NODE, 1, 6, 0, d.trn.beacon⟩
  buildFrame 4 (d.get F.TRN_STAT_NODE) (d.trn.last.getD 0) 0 (List.replicate 512 0) region (d.cable s) turn
    (.good, .good, .good, .good)

/-- The cable delay of a port from a received TURN (R530), averaged over 16 frames. -/
def Device.measureCable (d : Device) (s : Side) (elapsed turn : Nat) : Device :=
  let p := d.trnPort s
  if p.st != .up then d
  else
    let skew := d.geti (if s == .a then F.TRN_SKEW_W else F.TRN_SKEW_E)
    let v : Int := ((elapsed : Int) - turn) / 2 + skew
    let ds := (v :: p.delays).take 16
    let d := d.setTrnPort s { p with delays := ds }
    let mean := ratHalfEven ((ds.sum : Rat) / ds.length)
    d.put (cableField s) (max 0 (min mean 0xFFFE)).toNat

/-- The required delay and the hold of R539 and R540. -/
def Device.needDelay (d : Device) : Device :=
  let ages := (List.finRange 32).map fun n => if d.tarnLane n.val then (d.trn.lanes[n]).age else 0
  let amax := ages.foldl max 0
  let n := d.get F.GRD_CFG_LOOKAHEAD
  let need := 34 + n + amax
  let late := d.trn.pdelay < need
  let h := if late then amax else d.trn.pdelay - 34 - n
  let d := (d.put F.TRN_NEED_D need).put F.TRN_NEED_H h
  if late && !d.flag F.TRN_STAT_LATE then
    (((d.setFlag F.TRN_STAT_LATE true).trnEvt 512).ringMsg).log 150 1 0 (leBytes 2 need ++ leBytes 2 d.trn.pdelay)
  else d.setFlag F.TRN_STAT_LATE late

/-- The sample of origin frame `f` that a lane presents (R539): none is presented twice (R541), and where the buffer
has none the lane is at zero. -/
def TrnLane.sampleAt (l : TrnLane) (f : Nat) : HoldSample :=
  let none' : HoldSample := { l.good with frame := f, value := 0, valid := false }
  if l.shown.any fun x => decide (f ≤ x) then none' else (l.hold.find? fun s => s.frame == f).getD none'

/-- The window words of a Tarn lane for the block that starts at frame `b` (R539), and the lane after it. A
change of H ramps the lane out in one block and in in the next (R541). -/
def TrnLane.window (l : TrnLane) (b h : Nat) (change : Bool) : List Word × TrnLane :=
  let y := ((l.hold.find? fun s => s.frame == b - 17 - h).map HoldSample.value).getD 0
  let words := (List.range 16).map fun k =>
    let s := l.sampleAt (b + k - 16 - h)
    if change then
      windowWord (ratHalfEven ((y : Rat) * (15 - (k : Rat)) / 16)) false s.unsettled s.mute s.epoch
    else if l.fadeIn then
      windowWord (ratHalfEven ((s.value : Rat) * ((k : Rat) + 1) / 16)) s.valid s.unsettled s.mute s.epoch
    else windowWord s.value s.valid s.unsettled s.mute s.epoch
  let waits := l.shown.any fun x => decide (b - 16 - h ≤ x)
  (words, { l with fadeIn := change || (l.fadeIn && waits)
                   shown := if change then l.shown else some (max (b - 1 - h) (l.shown.getD 0)) })

/-- The words of every lane for a block boundary, and the ring state after it (R539, R541). -/
def Device.tarnWindow (d : Device) : Vector (List Word) 32 × Device :=
  let h := d.get F.TRN_NEED_H
  let change := h != d.trn.oldH
  let d := (List.finRange 32).foldl (fun d n => d.fillLane (d.frameNow - 1 - d.trn.oldH) n) d
  let rows : Vector (List Word × TrnLane) 32 := d.trn.lanes.map fun l => l.window d.frameNow d.trn.oldH change
  (rows.map Prod.fst, { d with trn.lanes := rows.map Prod.snd, trn.oldH := h })

/-- After a ring-time step the frames of the lanes count anew, and the samples kept bear times of the old count. -/
def Device.lanesStepped (d : Device) : Device :=
  { d with trn.lanes := d.trn.lanes.map fun l => { l with shown := none }, inp.past := [] }

/-- The DOWN port of a wrap node. -/
def Device.wrapPort (d : Device) : Option Side :=
  match d.trnMode with
  | 2 => some .b
  | 3 => some .a
  | _ => none

/-- Has frame F of an UNWRAP been reached by frame `f` (R557)? -/
def Device.healDue (d : Device) (f : Nat) : Bool := d.trn.unwrapAt.any fun x => decide (x ≤ f)

/-- The node returns to NORMAL, or, as the master of the link, sees it healed (R557). -/
def Device.healNow (d : Device) : Device :=
  let d := if d.wrapPort.isSome then d.put F.TRN_STAT_MODE 1 else d
  ({ d with trn.unwrapAt := none }.trnEvt 4).raise 98 0

/-- The parts of a received frame. -/
structure FrameParts where
  ctl : Nat
  master : Nat
  frame : Nat
  hops : Nat
  path : Nat
  turn : Nat
  deriving DecidableEq, Repr

/-- Reads the parts of a frame. -/
def frameParts (bs : List Byte) : FrameParts :=
  let link := ofLe (slice bs 1016 6)
  ⟨(bs.getD 4 0).toNat, (bs.getD 5 0).toNat % 128, ofLe (slice bs 6 6), (bs.getD 12 0).toNat, link % 2 ^ 20,
    link / 2 ^ 20 % 2 ^ 17⟩

/-- The TX port a frame leaves by (R554, R556); none where the path ends, as that of every standby frame does at the
master. -/
def Device.exitPort (d : Device) (s : Side) (p : FrameParts) : Option Side :=
  match d.trnMode with
  | 1 =>
    if d.ringMaster && p.ctl % 2 == 1 then none
    else if d.ringMaster then
      (if p.ctl.testBit 1 && s == .b then some .a else none)
    else some s.other
  | 2 => if s == .a && !d.ringMaster then some .a else none
  | 3 => if s == .b && p.ctl % 2 == 0 && !d.ringMaster then some .b else none
  | 5 => some s.other
  | _ => none

/-- A frame is sent on: HOPS, the CRCs and LINK are rewritten, WRAP is set where WRAP_E turns it back. -/
def Device.forward (d : Device) (s : Side) (x : RingIn) (p : FrameParts)
    (st : CrcSt × CrcSt × CrcSt × CrcSt) (slots msgs : List Byte) : Device :=
  match d.exitPort s p with
  | none => d
  | some o =>
    let ctl := if d.trnMode == 2 && !p.ctl.testBit 1 then p.ctl + 2 else p.ctl
    let path := p.path + 96 * 16 + d.cable o
    let bs := buildFrame ctl (x.bytes.getD 5 0).toNat p.frame (min 255 (p.hops + 1)) slots msgs path x.turn.toNat st
      (x.bytes.getD 13 0, x.bytes.getD 1021 0)
    d.trnEmit o bs

/-- The messages of a frame in the order in which they act: a LEAVE goes before the JOIN_REQ of the same tag (R562). -/
def Device.actingOrder (d : Device) (ms : List Msg) : List Msg :=
  let joins := (ms.filter fun m => m.type == 3).map fun m => ofLe (slice m.payload 0 8)
  let early := fun (m : Msg) => m.type == 7 && (d.nodeRec m.src).any fun r => joins.contains r.tag
  ms.filter early ++ ms.filter fun m => !early m

/-- A frame that returned to its master (R536, R545, R556): its delay, ring lock, its slots and the messages to
recirculate. -/
def Device.returnFrame (d : Device) (p : FrameParts) (st : CrcSt × CrcSt × CrcSt × CrcSt) (bs : List Byte) :
    Device :=
  let d := d.put F.TRN_LOOP_LOOP p.path
  let d := d.put F.TRN_PATH_PATH p.path
  let msgs := if st.2.2.1 == .good then parseMsgs 60 (slice bs 528 480) else []
  let d := (d.actingOrder msgs).foldl (fun d m => if d.takes m then d.inboxAdd m else d) d
  let lost := msgs.filter fun m => m.recirc && m.type != 0 && m.dst ≤ 127 && !d.addressed m
  let d := if lost.isEmpty then d
    else (d.bump F.TRN_MSGCNT_UNDELIV lost.length).trnEvt 4096
  let again := msgs.filter fun m => m.type != 0 && !m.recirc && m.src != d.trnSrc && !d.addressed m
  let r : Returned := ⟨p.frame, st.2.1 == .good, (List.range 128).map (slotOf bs),
    again.map fun m => { m with flags := m.flags + 1 }⟩
  let d := d.takeSlots p.frame (st.2.1 == .good) bs
  { d with trn.returned := (r :: d.trn.returned).take 16, trn.last := some p.frame
           trn.same := d.trn.same + 1 }.needDelay

/-- A slave processes a frame (R528, R529, R531, R534, R544). -/
def Device.processFrame (d : Device) (s : Side) (x : RingIn) (p : FrameParts)
    (st : CrcSt × CrcSt × CrcSt × CrcSt) : Device :=
  let bs := x.bytes
  let same := if p.master == d.trn.lastMaster then d.trn.same + 1 else 1
  let d := { d with trn.last := some p.frame, trn.lastMaster := p.master, trn.same := same }
  let d := if st.2.2.2 == .good then d.put F.TRN_PATH_PATH p.path else d
  let d := (d.takeSlots p.frame (st.2.1 == .good) bs).needDelay
  let r := d.ownSlots x.irc
  let d := r.2
  let slots := (List.range 128).flatMap fun i =>
    match r.1.lookup i with
    | some w => leBytes 4 w.toNat
    | none => slice bs (16 + 4 * i) 4
  if st.2.2.1 == .good then
    let msgs := parseMsgs 60 (slice bs 528 480)
    let d := msgs.foldl (fun d m => if d.takes m then d.inboxAdd m else d) d
    let left := msgs.map fun m => if d.addressed m then padMsg m.payload.length else m
    let y := d.placeQueued left
    y.1.forward s x p st slots (y.2.flatMap Msg.bytes)
  else d.forward s x p st slots (slice bs 528 480)

/-- A wrap node meets frame F of the UNWRAP on its primary path: it returns to NORMAL for that frame (R557). -/
def Device.healAt (d : Device) (s : Side) (p : FrameParts) : Device :=
  if d.wrapPort.isSome && s == .a && p.ctl % 2 == 0 && !p.ctl.testBit 2 && d.healDue p.frame then d.healNow else d

/-- The descrambled bytes of a frame arrive at a port (R527 to R531, R555). -/
def Device.frameBytes (d : Device) (x : RingIn) : Device :=
  if x.bytes.length != 1024 || d.trnMode == 0 || d.trnMode == 6 || !d.linkRuns ||
      (d.trnPort x.port).st == .down then d
  else
    let s := x.port
    let st := frameCrcs x.bytes
    let d := (((d.countCrc s st.1).countCrc s st.2.1).countCrc s st.2.2.1).countCrc s st.2.2.2
    let p := frameParts x.bytes
    let d := if st.2.2.2 == .good then d.measureCable s x.elapsed p.turn else d
    let d := if st.1 == .good then d.healAt s p else d
    let d := if st.1 == .good && !p.ctl.testBit 2 then { d with trn.heard := true } else d
    let m := d.trnMode
    let mine := (d.trnPort s).sentFrame == p.frame && (d.trnPort s).sentHops == p.hops && p.frame != 0
    if st.1 != .good then d.forward s x p st (slice x.bytes 16 512) (slice x.bytes 528 480)
    else if mine && p.frame == d.frameNow && m != 5 then d.portDown s
    else if p.ctl.testBit 2 then
      let tag := match (parseMsgs 60 (slice x.bytes 528 480)).find? fun m => m.type == 1 with
        | some b => ofLe (b.payload.take 8)
        | none => 0
      d.setTrnPort s { d.trnPort s with neighbour := p.master, neighTag := tag }
    else if d.ringMaster && p.ctl % 2 == 0 && p.master == d.get F.TRN_STAT_NODE then
      let first := p.ctl.testBit 1 && !d.trn.wrapped
      let d := { d with trn.wrapped := p.ctl.testBit 1 }
      let d := if first then (d.trnEvt 2).raise 97 0 else d
      if p.ctl.testBit 1 && s == .b && m == 1 then
        d.forward s x p st (slice x.bytes 16 512) (slice x.bytes 528 480)
      else d.returnFrame p st x.bytes
    else
      let fresh := match d.trn.last with
        | some f => decide (f < p.frame)
        | none => true
      if d.procPort == some s && p.ctl % 2 == 0 && fresh then
        let d := d.processFrame s x p st
        if m == 2 then d.trnEmit .b (d.idleFrame .b x.turn.toNat)
        else if m == 3 then d.trnEmit .a (d.idleFrame .a x.turn.toNat)
        else d
      else
        let d := if m == 5 && s == .a && p.ctl % 2 == 0 then
            { d with trn.same := if p.master == d.trn.lastMaster then d.trn.same + 1 else 1
                     trn.lastMaster := p.master }
          else d
        d.forward s x p st (slice x.bytes 16 512) (slice x.bytes 528 480)

/-- A frame arrives at a port, scrambled as it left its sender (R523). -/
def Device.frameProcess (d : Device) (x : RingIn) : Device :=
  d.frameBytes { x with bytes := scrambleFrame x.bytes }

/-- The slots of the frame that the master originates (R536): `own` are its own slots and `old` the returned frame. -/
def originSlots (own : List (Nat × Word)) (old : Option Returned) : List Byte :=
  (List.range 128).flatMap fun i =>
    match own.lookup i with
    | some w => leBytes 4 w.toNat
    | none =>
      match old with
      | some o => if o.slotsOk then leBytes 4 (o.slots.getD i 0).toNat else [0, 0, 0, 0]
      | none => [0, 0, 0, 0]

/-- The frames that leave with the one originated: a standby frame on TRN_W TX while no WRAP frame arrives, and an idle
frame on the port of a wrap that is not in use (R554, R556). -/
def Device.besideFrame (d : Device) (f hold turn : Nat) : Device :=
  match d.trnMode with
  | 1 =>
    if d.trn.wrapped then d
    else
      d.trnEmit .a (buildFrame (1 + hold) (d.get F.TRN_STAT_NODE) f 0 (List.replicate 512 0) (padMsg 472).bytes
        (d.cable .a) turn (.good, .good, .good, .good))
  | 2 => d.trnEmit .b (d.idleFrame .b turn)
  | 3 => d.trnEmit .a (d.idleFrame .a turn)
  | _ => d

/-- The master originates frame f (R536, R542, R545, R556). -/
def Device.originate (d : Device) (irc : Vector Word 16) (turn : Nat) : Device :=
  let f := d.frameNow
  let old := d.trn.returned.find? fun r => r.frame + d.trn.recirc == f
  let r := d.ownSlots irc
  let region := match old with
    | some o => o.msgs.foldl (fun l m => (placeMsg m l).getD l) [padMsg 472]
    | none => [padMsg 472]
  let y := r.2.placeQueued region
  let d := y.1
  let east := d.trnMode != 2
  let o : Side := if east then .b else .a
  let hold := if d.clkMode != 1 && d.clkMode != 0 then 8 else 0
  let bs := buildFrame ((if east then 0 else 2) + hold) (d.get F.TRN_STAT_NODE) f 0 (originSlots r.1 old)
    (y.2.flatMap Msg.bytes) (d.cable o) turn (.good, .good, .good, .good)
  (d.trnEmit o bs).besideFrame f hold turn

/-- A frame period begins: the master originates its frame; an isolated node sends idle frames (R554). -/
def Device.frameOriginate (d : Device) (irc : Vector Word 16) (turn : BitVec 17) : Device :=
  let d := if d.ringMaster && d.healDue d.frameNow then d.healNow else d
  if !d.ringMember then d
  else if d.ringMaster && d.trn.stopNext then
    { d with trn.stopNext := false, trn.same := 0, trn.last := none }.put F.TRN_STAT_ROLE 2
      |>.setFlag F.TRN_STAT_LOCK false
  else if d.trnMode == 4 then
    let d := d.trnEmit .a (d.idleFrame .a turn.toNat)
    d.trnEmit .b (d.idleFrame .b turn.toNat)
  else if d.ringMaster then d.originate irc turn.toNat
  else d

/-! ### Ring lock (R532) -/

/-- Becomes a locked ring slave when adopted with ring lock (R532). -/
def Device.joinClock (d : Device) : Device :=
  if d.adopted && d.trnLock && d.flag F.TRN_CFG_EN && !d.ringMaster && !d.clk.ringSlave then d.acquireRing else d

/-- Ring lock is gained (R532): a slave after 16 frames of one master, a master as its frames return. -/
def Device.ringLock (d : Device) : Device :=
  let procUp := match d.procPort with
    | some s => d.portIsUp s
    | none => d.trnMode == 5 && d.portIsUp .a
  if !d.trnLock && procUp && (if d.ringMaster then 1 else 16) ≤ d.trn.same then
    let d := ((d.setFlag F.TRN_STAT_LOCK true).trnEvt 1).fire 96
    let d := if d.trnRole == 0 then d.put F.TRN_STAT_ROLE (if d.flag F.TRN_STAT_NUMV then 2 else 1) else d
    d.joinClock
  else d

/-- Ring lock ends. -/
def Device.dropRingLock (d : Device) : Device :=
  if d.trnLock then
    let d := { d.setFlag F.TRN_STAT_LOCK false with trn.same := 0 }
    let d := if d.trnRole == 1 then d.put F.TRN_STAT_ROLE 0 else d
    d.loseRing
  else d

/-- Ring lock is lost after 32 frame periods without a processed frame (R532). -/
def Device.ringLockLoss (d : Device) (frames : Nat) : Device := if 32 ≤ frames then d.dropRingLock else d

/-- Ring lock is lost at a block boundary while the phase error exceeds 256 periods (R532). -/
def Device.ringPhaseLoss (d : Device) : Device :=
  if !d.ringMaster && 256 * 16 < (d.geti F.CLK_PHASE_ERR).natAbs then d.dropRingLock else d

/-! ### Messages from the inbox -/

/-- Takes the first message of the inbox if it has a type. -/
def Device.takeMsg (d : Device) (type : Nat) (act : Device → Msg → Device) : Device :=
  match d.trn.inbox with
  | [] => d
  | m :: t =>
    if m.type == type && !dstReserved m.dst then act { d with trn.inbox := t } m else d

/-- The master's tag as the last beacon gave it. -/
def Device.masterTag (d : Device) : Nat := d.get F.TRN_MTAGL_TAG + d.get F.TRN_MTAGH_TAG * 2 ^ 32

/-- Writes the master's tag; a change is reported (R550). -/
def Device.setMasterTag (d : Device) (tag : Nat) : Device :=
  let old := d.masterTag
  let d := (d.put F.TRN_MTAGL_TAG (tag % 2 ^ 32)).put F.TRN_MTAGH_TAG (tag / 2 ^ 32)
  if old != tag && old != 0 then (d.trnEvt 64).raise 102 0 else d

/-- Is this node a master candidate (R549)? -/
def Device.candidateNode (d : Device) : Bool :=
  let l := d.rosterList true
  d.flag F.SYS_STRAP_MASTER_EN && d.flag F.TRN_CFG_MCAND && (l.isEmpty || l.any fun e => e.tag == ownTag)

/-- The candidates with a lower tag, without the current master (R549): of the roster, or, while it is empty, those that
the node has heard. -/
def Device.lowerCandidates (d : Device) : Nat :=
  let l := d.rosterList true
  if l.isEmpty then
    (d.trn.nodes.filter fun r =>
      d.flag (F.TRN_NODE_k_MEN r.node) && decide (r.tag < ownTag) && r.tag != d.masterTag).length
  else (l.filter fun e => e.flags.testBit 0 && decide (e.tag < ownTag) && e.tag != d.masterTag).length

/-- The rank of this node (R549), 0 for no candidate; the backup of the beacon has rank 1. -/
def Device.rank (d : Device) : Nat :=
  if d.candidateNode then (if d.trn.backup == ownTag then 1 else 1 + d.lowerCandidates) else 0

/-- Shows it. -/
def Device.showRank (d : Device) : Device := d.put F.TRN_MASTER_RANK d.rank

/-- The frame periods without a master after which a candidate takes over (R549). -/
def Device.takeoverWait (d : Device) : Nat :=
  let rostered := (d.rosterList true).any fun e => e.tag == ownTag
  16 * d.rank + if rostered && d.trn.heard then 0 else 96

/-- The carrier of the beacon against the node's own (R533). -/
def Device.judgeCarrier (d : Device) : Device :=
  let bad := d.trn.carrier != d.get F.MOD_CFG_CARRIER
  if bad && !d.flag F.TRN_STAT_CMISM then (((d.setFlag F.TRN_STAT_CMISM true).trnEvt 1024).ringMsg)
  else d.setFlag F.TRN_STAT_CMISM bad

/-- A BEACON (R533, R543, R550). -/
def Device.beaconMsg (d : Device) : Device :=
  d.takeMsg 1 fun d m =>
    let p := m.payload
    let tag := ofLe (slice p 0 8)
    if d.ringMaster then
      if tag < ownTag then { d with trn.stopNext := true, trn.beacon := p }.setMasterTag tag else d
    else
      let d := (d.setMasterTag tag).put F.TRN_MASTER_NODE (m.src % 128)
      let d := d.put F.TRN_ROSTER_GEN (ofLe (slice p 16 4))
      let d := { d with trn.beacon := p, trn.backup := ofLe (slice p 8 8), trn.pdelay := ofLe (slice p 20 2)
                        trn.recirc := (p.getD 22 0).toNat, trn.carrier := (p.getD 23 0).toNat, trn.known := true }
      d.judgeCarrier.needDelay.showRank

/-- The BEACON of the master (R543). -/
def Device.beaconSend (d : Device) : Device :=
  if d.ringMaster && d.ringMember then
    let l := (d.rosterList true).filter fun e => e.flags.testBit 0 && e.tag != ownTag
    let backup := match l with
      | [] => 0
      | e :: t => t.foldl (fun b x => min b x.tag) e.tag
    let active := ((List.range 128).filter fun k => d.get (F.TRN_NODE_k_STATE k) == 1).length
    let p := leBytes 8 ownTag ++ leBytes 8 backup ++ leBytes 4 (d.rosterGen true) ++ leBytes 2 d.trn.pdelay ++
      leBytes 1 d.trn.recirc ++ leBytes 1 (d.get F.MOD_CFG_CARRIER) ++ leBytes 1 active ++
      leBytes 1 d.trn.wrapped.toNat ++ leBytes 4 (d.get F.TRN_LOOP_LOOP) ++ [0, 0]
    ({ d with trn.beacon := p }.put F.TRN_ROSTER_GEN (d.rosterGen true)).trnSend 0xFF 1 p
  else d

/-- The slots this node announces, one bit per slot. -/
def Device.slotsWritten (d : Device) : Nat :=
  (List.range 16).foldl
    (fun v i => if d.get (F.TRN_TX_i_SRC i) != 0 && !d.trn.stopped.testBit i then
        v ||| 2 ^ d.get (F.TRN_TX_i_SLOT i) else v) 0

/-- The STATUS of a node (R543). -/
def Device.statusSend (d : Device) : Device :=
  if d.ringMember && d.trnLock then
    let state := d.trnRole + 4 * d.get F.TRN_STAT_TRUST + 16 * d.trnMode
    let flags := d.candidateNode.toNat + 2 * d.get F.TRN_STAT_LATE + 4 * d.get F.TRN_STAT_CMISM + 8
    d.trnSend 0xFF 2 (leBytes 8 ownTag ++ leBytes 4 (d.get F.TRN_PATH_PATH) ++ leBytes 2 (d.get F.TRN_NEED_D) ++
      leBytes 1 state ++ leBytes 1 flags ++ leBytes 16 (if d.writesSlots then d.slotsWritten else 0))
  else d

/-- A STATUS (R535, R540, R567): the record of its sender, and a slot that both write. -/
def Device.statusMsg (d : Device) : Device :=
  d.takeMsg 2 fun d m =>
    let p := m.payload
    let tag := ofLe (slice p 0 8)
    let path := ofLe (slice p 8 4)
    let flags := (p.getD 15 0).toNat
    let slots := ofLe (slice p 16 16)
    let trust := (p.getD 14 0).toNat / 4 % 4
    let n := m.src % 128
    if m.src ≥ 128 then d
    else
      let r : NodeRec := ⟨n, tag, path, slots⟩
      let d := { d with trn.nodes := r :: d.trn.nodes.filter fun q => q.node != n }
      let d := (d.put (F.TRN_NODE_k_STATE n) trust).setFlag (F.TRN_NODE_k_MEN n) (flags.testBit 0)
      let d := (d.setFlag (F.TRN_NODE_k_LATE n) (flags.testBit 1)).setFlag (F.TRN_NODE_k_CMISM n) (flags.testBit 2)
      let d := (d.put (F.TRN_NODE_k_PATH n) (min (path / 16) 65535)).showRank
      if trust == 1 && d.adopted && tag < ownTag then
        (List.range 16).foldl
          (fun d i =>
            let s := d.get (F.TRN_TX_i_SLOT i)
            if d.get (F.TRN_TX_i_SRC i) != 0 && !d.trn.stopped.testBit i && slots.testBit s then
              let d := { d with trn.stopped := d.trn.stopped + 2 ^ i }.setFlag (F.TRN_TX_i_ACTIVE i) false
              ((d.trnEvt 2048).ringMsg).log 149 1 s
            else d) d
      else d

/-! ### Joining (R551, R552, R692) -/

/-- A JOIN_REQ of an unnumbered node. -/
def Device.joinReqSend (d : Device) : Device :=
  if d.ringMember && d.trnLock && !d.flag F.TRN_STAT_NUMV && !d.ringMaster then
    (d.put F.TRN_STAT_ROLE 1).trnSend 0x80 3
      (leBytes 8 ownTag ++ leBytes 1 d.candidateNode.toNat ++ List.replicate 7 0)
  else d

/-- The master challenges a tag. -/
def Device.challengeTag (d : Device) (tag : Nat) : Device :=
  let r := d.drawNonce
  let d := { r.2 with trn.challenge := (tag, r.1) :: r.2.trn.challenge.filter fun c => c.1 != tag }
  d.trnSend 0xFF 4 (leBytes 8 tag ++ leBytes 16 r.1)

/-- A JOIN_REQ reaches the master. -/
def Device.joinReqMsg (d : Device) : Device :=
  d.takeMsg 3 fun d m => if d.ringMaster then d.challengeTag (ofLe (slice m.payload 0 8)) else d

/-- A CHALLENGE reaches the node whose tag it names. -/
def Device.challengeMsg (d : Device) : Device :=
  d.takeMsg 4 fun d m =>
    if ofLe (slice m.payload 0 8) == ownTag && !d.ringMaster then
      let digest := proofDigest tarnContext d.masterTag (ofLe (slice m.payload 8 16)) ownTag
      let sig := Config.signature Config.ownKey (BitVec.ofNat 256 (beNat digest)) d.freshN
      { d with freshN := d.freshN + 1 }.trnSend 0x80 5 (leBytes 8 ownTag ++ beBytes 64 sig.toNat)
    else d

/-- The numbers in use: the roster's, and those of present nodes. -/
def Device.numberFree (d : Device) (n : Nat) : Bool :=
  !((d.rosterList true).any fun e => e.index == n) && d.get (F.TRN_NODE_k_STATE n) == 0 &&
    n != d.get F.TRN_STAT_NODE

/-- A tag that is admitted under a number leaves every other number (R551). -/
def Device.renumber (d : Device) (tag n : Nat) : Device :=
  let old := d.trn.nodes.filter fun q => q.tag == tag && q.node != n
  let d := old.foldl (fun d q => d.put (F.TRN_NODE_k_STATE q.node) 0) d
  { d with trn.nodes := ⟨n, tag, 0, 0⟩ :: d.trn.nodes.filter fun q => q.node != n && q.tag != tag }

/-- Sends ADMIT and records the admission (R551). -/
def Device.admitNode (d : Device) (tag n why : Nat) : Device :=
  let trust := if why == 0 then 1 else 2
  let d := (d.renumber tag n).put (F.TRN_NODE_k_STATE n) trust
  let d := d.raise (if why == 0 then 99 else 101) n
  let d := d.trnEvt (if why == 0 then 8 else 32)
  d.trnSend 0xFF 6 (leBytes 8 tag ++ leBytes 1 n ++ leBytes 1 trust ++ leBytes 1 why ++ [0])

/-- The number a STRANGER has or receives. -/
def Device.strangerNumber (d : Device) (tag : Nat) : Option Nat :=
  match d.trn.nodes.find? fun r => r.tag == tag && d.get (F.TRN_NODE_k_STATE r.node) == 2 with
  | some r => some r.node
  | none => (List.range 128).find? d.numberFree

/-- A RESPONSE reaches the master (R551, R692). -/
def Device.responseMsg (d : Device) : Device :=
  d.takeMsg 5 fun d m =>
    let tag := ofLe (slice m.payload 0 8)
    match d.trn.challenge.lookup tag with
    | none => d
    | some nonce =>
      if !d.ringMaster then d
      else
        let digest := proofDigest tarnContext ownTag nonce tag
        let signed := (ecdsaRecover digest (slice m.payload 8 64)).any fun k => keyTag k == tag
        let d := { d with trn.challenge := d.trn.challenge.filter fun c => c.1 != tag }
        match (d.rosterList true).find? fun e => e.tag == tag with
        | some e =>
          if signed then (d.authDone 0 0 e.index tag).admitNode tag e.index 0
          else
            match d.strangerNumber tag with
            | some n => (d.authDone 0 2 n tag).admitNode tag n 2
            | none => d.authDone 0 2 0 tag
        | none =>
          match d.strangerNumber tag with
          | some n => (d.authDone 0 1 n tag).admitNode tag n 1
          | none => d.authDone 0 1 0 tag

/-- An ADMIT (R551, R552): the node it names takes its number and trust. -/
def Device.admitMsg (d : Device) : Device :=
  d.takeMsg 6 fun d m =>
    let p := m.payload
    let tag := ofLe (slice p 0 8)
    let n := (p.getD 8 0).toNat % 128
    let trust := (p.getD 9 0).toNat
    let d := if d.trn.nodes.any (fun q => q.node == n && q.tag == tag) then d else d.renumber tag n
    let d := d.put (F.TRN_NODE_k_STATE n) trust
    if tag == ownTag && !d.ringMaster then
      let d := (d.put F.TRN_STAT_NODE n).setFlag F.TRN_STAT_NUMV true
      let d := (d.put F.TRN_STAT_TRUST trust).put F.TRN_STAT_ROLE 2
      if trust == 1 then ((d.trnEvt 8).raise 99 n).joinClock
      else ((d.trnEvt 32).raise 101 n).loseRing.systemFault 0
    else d

/-! ### Leaving (R553) -/

/-- The LEAVE on a port: shown as a frame of its own. -/
def Device.leaveFrame (d : Device) (s : Side) (reason : Nat) : Device :=
  let m : Msg := ⟨0xFF, d.trnSrc, 7, 6, d.trn.mseq, [BitVec.ofNat 8 reason, 0, 0, 0]⟩
  d.trnEmit s (buildFrame 0 (d.get F.TRN_STAT_NODE) d.frameNow 0 (List.replicate 512 0) (paddedRegion m) (d.cable s) 0
    (.good, .good, .good, .good))

/-- A node leaves the ring: LEAVE with its reason on both ports, and its membership ends; what it had queued is
discarded. -/
def Device.leaveRing (d : Device) (reason : Nat) : Device :=
  if d.trnRole == 0 then d
  else
    let d := (d.leaveFrame .a reason).leaveFrame .b reason
    let d := { d with trn.queue := .replicate 3 [], trn.mseq := (d.trn.mseq + 1) % 256 }
    let d := ((d.put F.TRN_STAT_ROLE 0).setFlag F.TRN_STAT_NUMV false).put F.TRN_STAT_TRUST 0
    let d := { d.setFlag F.TRN_STAT_LOCK false with trn.same := 0, trn.last := none }
    d.loseRing

/-- A node is gone (R553): what it had begun, a join or a heal, is not completed (R562, R563). -/
def Device.nodeGone (d : Device) (n : Nat) (cause : Nat) : Device :=
  let d := d.put (F.TRN_NODE_k_STATE n) 0
  let tags := (d.trn.nodes.filter fun r => r.node == n).map NodeRec.tag
  let d := { d with
    trn.nodes := d.trn.nodes.filter fun r => r.node != n
    trn.challenge := d.trn.challenge.filter fun c => !tags.contains c.1
    trn.heals := d.trn.heals.filter fun h => h.node != n }
  if d.ringMaster then (d.trnEvt 16).raise 100 n (leBytes 1 cause) else d

/-- A LEAVE (R553). -/
def Device.leaveMsg (d : Device) : Device :=
  d.takeMsg 7 fun d m => if m.src < 128 then d.nodeGone m.src (m.payload.getD 0 0).toNat else d

/-- An adopted node has been silent for 288 frames (R553). -/
def Device.nodeLost (d : Device) (n : Fin 128) : Device :=
  if d.ringMaster && d.get (F.TRN_NODE_k_STATE n.val) == 1 then d.nodeGone n.val Config.lostCause.toNat else d

/-! ### Relay (R547, R548) -/

/-- The next fragment of a host frame joins its reassembly; a whole frame goes to `act`. -/
def Device.fragment (d : Device) (m : Msg) (rsp : Bool) (act : Device → Client → List Byte → Device) : Device :=
  let c : Client := if m.payload.getD 0 0 == 1 then .b else .a
  let total := ofLe (slice m.payload 2 2)
  let bytes := m.payload.drop 4
  let frag := m.flags / 16 % 16
  let first := m.flags.testBit 1
  let last := m.flags.testBit 2
  let isIt := fun (r : Reasm) => r.node == m.src && r.rsp == rsp
  let old := d.trn.reasm.find? isIt
  let rest := d.trn.reasm.filter fun r => !isIt r
  let next : Option Reasm :=
    if first then some ⟨m.src, c, rsp, m.mseq, 1, total, bytes⟩
    else
      match old with
      | some r =>
        if r.next == frag && (r.mseq + 1) % 256 == m.mseq then
          some { r with mseq := m.mseq, next := frag + 1, bytes := r.bytes ++ bytes }
        else none
      | none => none
  let d := { d with trn.reasm := rest }
  let d := if first && old.isSome then d.bump F.TRN_MSGCNT_REASM else d
  match next with
  | none => if old.isSome then d.bump F.TRN_MSGCNT_REASM else d
  | some r =>
    if last then
      if r.bytes.length == r.total then act d r.client r.bytes else d.bump F.TRN_MSGCNT_REASM
    else { d with trn.reasm := r :: rest }

/-- A HOST_REQ fragment (R548): the frame enters the parser of the client it names. -/
def Device.hostReqMsg (d : Device) : Device :=
  d.takeMsg 8 fun d m => d.fragment m false fun d c frame => d.arriveWhole c frame (.ring m.src)

/-- A HOST_RSP fragment (R603): the frame completes the RELAY that waits for it, or is late. -/
def Device.hostRspMsg (d : Device) : Device :=
  d.takeMsg 9 fun d m =>
    d.fragment m true fun d c frame =>
      if (d.port .a).relay == some (m.src, c) then d.complete .a 0 0 frame
      else if (d.port .b).relay == some (m.src, c) then d.complete .b 0 0 frame
      else d.bump (F.HP_CNT2_RELAYLATE c.idx)

/-- 10 ms pass before LAST (R548). -/
def Device.reassemblyTimeout (d : Device) (n : BitVec 7) : Device :=
  if d.trn.reasm.any fun r => r.node == n.toNat then
    { d with trn.reasm := d.trn.reasm.filter fun r => r.node != n.toNat }.bump F.TRN_MSGCNT_REASM
  else d

/-- A relayed reading (R467, R547), with ISAMP at its sampling instant. -/
def Device.cellsMsg (d : Device) : Device :=
  d.takeMsg 10 fun d m =>
    let p := m.payload
    let k := (p.getD 0 0).toNat
    let flags := (p.getD 1 0).toNat
    if !d.flag F.SHL_CFG_EN && m.src == d.get F.SHL_CFG_SRCNODE && 1 ≤ k && k ≤ 64 then
      d.deliverReading k (flags / 4 % 4 == 2) (flags % 4 == 3 || flags % 4 == 0) (slice p 10 47)
        (d.senseNearest 9 (ofLe (slice p 2 8)))
    else d

/-! ### The roster (R550, R695, R698) -/

/-- The ROSTER messages of the master: 20 entries each, the last one short (R550). -/
def Device.rosterSend (d : Device) : Device :=
  if d.ringMaster then
    let l := d.rosterList true
    let entry := fun (e : RosterEntry) => leBytes 8 e.tag ++ leBytes 1 e.index ++ leBytes 1 e.flags ++ [0, 0]
    (List.range (l.length / 20 + 1)).foldl
      (fun d i =>
        let part := (l.drop (20 * i)).take 20
        d.trnSend 0xFF 0x0B (leBytes 4 (d.rosterGen true) ++ leBytes 1 (20 * i) ++ leBytes 1 part.length ++
          leBytes 2 d.trn.pdelay ++ leBytes 1 d.trn.recirc ++ [0, 0, 0] ++ part.flatMap entry)) d
  else d

/-- The entries of a ROSTER message. -/
def rosterMsgEntries : Nat → List Byte → List RosterEntry
  | 0, _ => []
  | n + 1, bs =>
    ⟨ofLe (bs.take 8), (bs.getD 8 0).toNat, (bs.getD 9 0).toNat⟩ :: rosterMsgEntries n (bs.drop 12)

/-- A ROSTER message (R550, R695): a candidate stores a roster of a higher generation. -/
def Device.rosterMsg (d : Device) : Device :=
  d.takeMsg 0x0B fun d m =>
    let p := m.payload
    let gen := ofLe (slice p 0 4)
    let n := (p.getD 5 0).toNat
    if d.candidateNode && !d.ringMaster && d.rosterGen true < gen then
      let kept := if d.trn.rosterGen == gen && p.getD 4 0 != 0 then d.trn.roster else []
      let all := kept ++ rosterMsgEntries (min n 20) (p.drop 12)
      let d := { d with trn.pdelay := ofLe (slice p 6 2), trn.recirc := (p.getD 8 0).toNat, trn.known := true
                        trn.roster := all, trn.rosterGen := gen }
      if n < 20 then
        ({ d with trn.roster := [], trn.rosterGen := 0 }).secOp
          ⟨d.rosterLines true gen all, none, .none, false, 0⟩
      else d
    else d

/-- A commit of the ring roster acts (R698): ROSTER messages, a CHALLENGE for each STRANGER now rostered, and
ADMIT as a STRANGER for a revoked node. -/
def Device.ringRoster (d : Device) (adopted revoked : List Nat) : Device :=
  let d := d.rosterSend
  let d := d.trn.nodes.foldl
    (fun d r => if d.nodeStranger r.node && adopted.contains r.tag then d.challengeTag r.tag else d) d
  d.trn.nodes.foldl
    (fun d r =>
      if d.get (F.TRN_NODE_k_STATE r.node) == 1 && revoked.contains r.tag then
        let d := d.put (F.TRN_NODE_k_STATE r.node) 2
        d.trnSend 0xFF 6 (leBytes 8 r.tag ++ leBytes 1 r.node ++ [2, 1, 0])
      else d) d

/-! ### The master (R549, R550) -/

/-- A candidate that has seen no frame of a master for `frames` frame periods becomes master (R549, R550, R560, R695). -/
def Device.masterTakeover (d : Device) (frames : Nat) : Device :=
  if d.ringMember && d.candidateNode && !d.ringMaster && decide (d.takeoverWait ≤ frames) then
    let l := d.rosterList true
    let n := match l.find? fun e => e.tag == ownTag with
      | some e => e.index
      | none => 0
    let d := if l.isEmpty then
        d.secOp ⟨d.rosterLines true 1 [⟨ownTag, 0, 1⟩], none, .none, false, 0⟩ else d
    let d := if d.trn.known then d
      else { d with trn.pdelay := d.get F.TRN_RING_PDELAY, trn.recirc := d.get F.TRN_RING_RECIRC }
    let d := ((d.put F.TRN_STAT_ROLE 3).put F.TRN_STAT_NODE n).setFlag F.TRN_STAT_NUMV true
    let d := (d.put F.TRN_STAT_TRUST 1).put F.TRN_MASTER_NODE n
    let d := { d.setFlag F.TRN_STAT_LOCK false with trn.last := none, trn.same := 0, trn.stopNext := false
                                                    trn.carrier := d.get F.MOD_CFG_CARRIER }
    let d := (d.put (F.TRN_NODE_k_STATE n) 1).setFlag (F.TRN_NODE_k_MEN n) true
    ((d.setMasterTag ownTag).loseRing.needDelay.showRank).beaconSend
  else d

/-- TRN_RING changes on the master (R539, R550). -/
def Device.ringParams (d : Device) : Device :=
  if d.ringMaster then
    { d with trn.pdelay := d.get F.TRN_RING_PDELAY, trn.recirc := d.get F.TRN_RING_RECIRC }.needDelay
  else d

/-! ### Heal (R557, R559, R561) -/

/-- The master holds HEAL_READY from both sides of a link: UNWRAP (R557). -/
def Device.healNote (d : Device) (n : HealNote) (tag : Nat) : Device :=
  if tag != 0 && tag < ownTag then { d with trn.stopNext := true }
  else
    let other := d.trn.heals.find? fun h => h.node == n.neighbour && h.neighbour == n.node
    match other with
    | some _ =>
      let f := d.frameNow + 2 * d.trn.recirc + 32
      let d := { d with trn.heals := d.trn.heals.filter fun h => h.node != n.neighbour, trn.unwrapAt := some f }
      d.trnSend 0xFF 0x0D (leBytes 6 f ++ [0, 0])
    | none => { d with trn.heals := n :: d.trn.heals.filter fun h => h.node != n.node }

/-- The DOWN port of a wrap node has been UP for `frames` frames; the dwell ends after HEAL × 96 (R557). -/
def Device.healDwell (d : Device) (frames : Nat) : Device :=
  match d.wrapPort with
  | some s =>
    let p := d.trnPort s
    if p.st == .up && decide (d.get F.TRN_CFG_HEAL * 96 ≤ frames) then
      if d.ringMaster then d.healNote ⟨d.get F.TRN_STAT_NODE, s.idx, p.neighbour⟩ p.neighTag
      else
        d.trnSend 0x80 0x0C (leBytes 1 s.idx ++ leBytes 1 p.neighbour ++ leBytes 8 p.neighTag ++ [0, 0])
    else d
  | none => d

/-- A HEAL_READY reaches the master (R557, R561). -/
def Device.healReadyMsg (d : Device) : Device :=
  d.takeMsg 0x0C fun d m =>
    if d.ringMaster then
      d.healNote ⟨m.src % 128, (m.payload.getD 0 0).toNat, (m.payload.getD 1 0).toNat⟩ (ofLe (slice m.payload 2 8))
    else d

/-- An UNWRAP (R557): a wrap node whose port is UP notes F. -/
def Device.unwrapMsg (d : Device) : Device :=
  d.takeMsg 0x0D fun d m =>
    match d.wrapPort with
    | some s => if d.portIsUp s then { d with trn.unwrapAt := some (ofLe (slice m.payload 0 6)) } else d
    | none => d

/-- A wrap node whose neighbour belongs to a master of a lower tag is left by its own (R561). -/
def Device.leftBehind (d : Device) : Bool :=
  match d.wrapPort with
  | some s => d.portIsUp s && (d.trnPort s).neighTag != 0 && decide ((d.trnPort s).neighTag < d.masterTag)
  | none => false

/-- Frame F is reached (R557), or a wrap node beside a healed link is left by its stopped master (R561): the
node returns to NORMAL. -/
def Device.ringHeal (d : Device) : Device :=
  if d.healDue d.frameNow || d.leftBehind then d.healNow else d

/-! ### Other messages -/

/-- A NAK for a message of this node (R543) tells it that the message was refused; nothing else follows. -/
def Device.nakMsg (d : Device) : Device := d.takeMsg 0x0E fun d _ => d

/-- A message of a reserved type or destination (R542, R543): counted, and answered NAK when it was addressed to
this node. -/
def Device.unknownMsg (d : Device) : Device :=
  match d.trn.inbox with
  | [] => d
  | m :: t =>
    if typeReserved m.type || dstReserved m.dst then
      let d := ({ d with trn.inbox := t }.bump F.TRN_MSGCNT_UNKNOWN).trnEvt 8192
      if d.addressed m && typeReserved m.type then
        d.trnSend (m.src % 128) 0x0E [BitVec.ofNat 8 m.type, BitVec.ofNat 8 m.mseq, 0, 0]
      else d
    else d

/-- An APP message (R553). -/
def Device.appMsg (d : Device) : Device :=
  d.takeMsg 0x0F fun d m =>
    if d.flag F.TRN_APP_RX_VALID then d.bump F.TRN_MSGCNT_DROP
    else
      let d := d.bufferWrite (d.get F.TRN_APP_RXBUF_ADDR * 4) m.payload
      let d := (d.put F.TRN_APP_RX_SRC (m.src % 128)).put F.TRN_APP_RX_LEN m.payload.length
      ((d.setFlag F.TRN_APP_RX_VALID true).trnEvt 256).ringMsg

/-- GO of TRN_APP_TX (R553): the message is read from its buffer (R58, R59) and queued. -/
def Device.appGo (d : Device) : Device :=
  let (p, _, d) := d.readBuffer (d.get F.TRN_APP_TXBUF_ADDR * 4) (d.get F.TRN_APP_TX_LEN)
  (d.put F.TRN_APP_TX_STATE 1).trnSend (d.get F.TRN_APP_TX_DST) 0x0F p

/-- Line activity in ICE (R558). -/
def Device.ringActivity (d : Device) : Device :=
  if d.pwr.seq == .ice then d.orField F.EVC_WLATCH_LATCH 64 else d

end Sys2Proof.Machine
end

