-- ==== Sys2Proof/Machine/NvcOps.lean ====
section
/-! DEFINITION. The ends of NVS line writes and of the operations that write them (R683 to R687, R698, R710 to
R715), and the requests of the NVC (R687). -/

namespace Sys2Proof.Machine

/-- An operation whose lines are written acts (R26, R698, R713 to R715). -/
def Device.secAct (d : Device) (a : SecAct) (c : Option Client) : Device :=
  match a with
  | .none => d.showRosters
  | .roster ring gen changes adopted revoked =>
    let d := d.showRosters
    let d := d.log (Config.openSource 1).toNat 0 0
      (leBytes 1 (if ring then 0 else 1) ++ leBytes 4 gen ++ leBytes 1 changes)
    if ring then d.ringRoster adopted revoked else d.chainRoster adopted revoked
  | .confirm slot version counter =>
    let d := d.setFlag F.SEC_BOOT_BOOTED_TRIAL false
    d.log (Config.openSource 2).toNat 0 slot (leBytes 4 version ++ leBytes 2 counter)
  | .key _ _ => d.log (Config.openSource 3).toNat 0 0
  | .activate reset => if reset then { d with nvs.resetAfter := c } else d
  | .priv who mask => d.put (F.HP_PRIV_MASK who.idx) mask
  | .imageBad => d.fire 121

/-- The status and EXTRA of an operation whose line write failed: REJECTED with 8 for a roster, UPD_ERROR with 9 for
an update opcode, REJECTED otherwise (R697, R705). -/
def SecOp.failure (o : SecOp) : Nat × Nat :=
  match o.act with
  | .roster _ _ _ _ _ => (0x0B, 8)
  | _ => if o.upd then (0x18, 9) else (0x0B, 0)

/-- The operation at the front ends with its response and its act. -/
def Device.opDone (d : Device) (o : SecOp) : Device :=
  let d := match o.reply with
    | some r => d.complete r.client r.status r.extra r.data
    | none => d
  d.secAct o.act (o.reply.map SecReply.client)

/-- The operation at the front ends because a line write failed. -/
def Device.opFailed (d : Device) (o : SecOp) : Device :=
  match o.reply with
  | some r =>
    let (st, x) := o.failure
    if st == 0x18 then
      match (d.port r.client).queue with
      | k :: _ => d.updError r.client k.opcode x
      | [] => d
    else d.complete r.client st x
  | none => d

/-- The line in progress of the operation at the front is written, or fails (R683, R684, R710). -/
def Device.secLine (d : Device) (plain fails : Bool) : Device :=
  match d.nvs.cur, d.nvs.ops with
  | .sec, o :: t =>
    match o.lines with
    | j :: js =>
      if j.plain != plain then d
      else
        let d := { d with nvs.cur := .none }.endLine j fails
        let d :=
          if fails then { d with nvs.ops := t }.opFailed o
          else if js.isEmpty then { d with nvs.ops := t }.opDone o
          else
            let ops : List SecOp := { o with lines := js } :: t
            { d with nvs.ops := ops }
        d.nvsPick
    | [] => d
  | _, _ => d

/-- The line of an NVC request is written, or fails (R684, R687). -/
def Device.reqLine (d : Device) (fails : Bool) : Device :=
  match d.nvs.cur, d.nvs.req with
  | .req, some j =>
    let d := { d with nvs.cur := .none, nvs.req := none }.endLine j fails
    let d := d.setFlag F.NVC_REQ_BUSY false
    let d := if fails then d.put F.NVC_REQ_RESULT 2
      else ((d.put F.NVC_REQ_RESULT 1).orField F.NVC_EVT_EVT 1).fire 10
    d.nvsPick
  | _, _ => d

/-- A journalled line write of SEC or of a request ends. -/
def Device.nvsLineWrite (d : Device) (fails : Bool) : Device :=
  if d.nvs.cur == .req then d.reqLine fails else d.secLine false fails

/-- Does NVC_ADDR name a line that a request may write, and is no request in progress (R687)? -/
def Device.nvcReqReserved (d : Device) : Bool :=
  let o := d.get F.NVC_ADDR_LINE * 64
  d.flag F.NVC_REQ_BUSY || o < 0xD0080 || 0xF0000 ≤ o

/-- GO of NVC_REQ: the 64 bytes at NVC_SRC are to be written to their line (R687). A source word in error is
reported as a read of it is. -/
def Device.nvcReqGo (d : Device) : Device :=
  let a := d.get F.NVC_SRC_ADDR * 4
  let (bs, _, d) := d.readBuffer a 64
  let job : LineJob := ⟨d.get F.NVC_ADDR_LINE * 64, .bytes bs, false⟩
  let d := (d.setFlag F.NVC_REQ_BUSY true).put F.NVC_REQ_RESULT 0
  { d with nvs.req := some job }.nvsPick

/-- SEC_CONFIRM by a core (R714, R722): a confirmation that requires BOOTED_TRIAL and is otherwise refused
without effect. -/
def Device.secConfirm (d : Device) : Device :=
  match d.confirmOp none with
  | some op => d.secOp op
  | none => d

end Sys2Proof.Machine
end

