-- ==== Sys2Proof/Machine/ResetOps.lean ====
section
/-! DEFINITION. Resets (R216, R217), the boot ROM (R73, R74, R85, R706 to R708), and the start-up scans that go
with it. -/

namespace Sys2Proof.Machine

/-! ### What outlives a reset -/

/-- A register whose word outlives every reset but POWER_ON: those of the AON domain (R243, R202, R163), and
SYS_STRAP, which only its sampling changes (R786). -/
def keptRegister (a : Nat) : Bool :=
  a == R.SYS_STRAP ||
    match regFind a with
    | some r => r.aon
    | none => false

/-- The line write in progress, if there is one (R718). -/
def Device.lineInProgress (d : Device) : Option LineJob :=
  match d.nvs.cur with
  | .none => none
  | .persist => d.sed.pq.head?.map d.persistJob
  | .sec => d.nvs.ops.head?.bind fun o => o.lines.head?
  | .req => d.nvs.req

/-- The NVS at a reset: what waits is lost, and the line write in progress is interrupted; a line of update data,
which has no journal, is left undefined (R683, R710). -/
def Device.interruptNvs (d : Device) : Device :=
  let cut := d.lineInProgress
  let d := match cut with
    | some j => if j.plain then d.spoilLine j else d
    | none => d
  let left := match d.nvs.interrupted, cut with
    | some j, _ => some j
    | none, some j => if j.plain then none else some j
    | none, none => none
  { d with nvs.ops := [], nvs.req := none, nvs.cur := .none, nvs.interrupted := left, nvs.resetAfter := none
           nvs.rom := false }

/-- Is an address in a memory that keeps its content without VDD_CORE? -/
def nvsAddress (a : Nat) : Bool := 0x30000000 ≤ a && a < 0x30100000

/-- A reset of everything except the AON domain (R216): its cause is recorded, the sequence goes on from `seq`,
both gates of every half-bridge are off, EN_MAIN and PCHG are low, and the watchdog stops (R231). `core` says that
VDD_CORE stays in its range, so that the memories keep their content until the boot clear. -/
def Device.resetAll (d : Device) (cause : Nat) (seq : SeqStep) (core : Bool) : Device :=
  let d := d.interruptNvs
  let regs := d.regs.filter fun e => keptRegister e.1
  let mem := if core then d.mem else d.mem.filter fun e => nvsAddress e.1
  let pwr : Pwr := { Pwr.start with
    seq := seq, pgAux := d.pwr.pgAux, enAux := d.pwr.enAux, rstLow := d.pwr.rstLow }
  let trn : Trn := { Trn.idle with looped := core && d.trn.looped }
  let shl : Shl := { Shl.idle with wokeNeeded := d.shl.wokeNeeded }
  let raw := d.flag F.PWR_STAT_PRES_RAW
  let vdrv := d.flag F.GDV_STAT_VDRV_OK
  let ext := d.flag F.GDV_STAT_FAULT_N
  let e : Device := { Device.initial with
    regs := regs, mem := mem, ecc := if core then d.ecc else [], pwr := pwr, trn := trn, shl := shl
    companions := d.companions, nvs := d.nvs, lastRead := d.lastRead, freshN := d.freshN }
  let e := e.setFlag F.SYS_WDOG_CTL_EN false
  let e := ((e.setFlag F.PWR_STAT_PRES_RAW raw).setFlag F.GDV_STAT_VDRV_OK vdrv).setFlag F.GDV_STAT_FAULT_N ext
  e.updateDrvOk.orField ⟨R.SYS_RST_CAUSE, 0, 6⟩ (2 ^ cause)

/-- A power-on reset: everything, AON included (R216). What the NVS and the companions hold stays. -/
def Device.powerOnReset (d : Device) (seq : SeqStep) : Device :=
  let d := d.interruptNvs
  { Device.initial with
    pwr.seq := seq, mem := d.mem.filter fun e => nvsAddress e.1, companions := d.companions, nvs := d.nvs
    shl.wokeNeeded := d.shl.wokeNeeded, lastRead := d.lastRead, freshN := d.freshN }

/-- A reset that restarts from step 8 of R212: RST_PIN, WATCHDOG and SOFTWARE. -/
def Device.warmReset (d : Device) (cause : Nat) : Device := d.resetAll cause .locking true

/-- The SOFTWARE reset (R216). -/
def Device.softwareReset (d : Device) : Device := d.warmReset 4

/-! ### The reset of one core (R217) -/

/-- The address of the boot record (R707). -/
def bootRecordAddr : Nat := 0x1017FFE0

/-- A core at its image entry, at PRIV with IE = 0 and protection disabled, its registers zero except w1 (R74,
R217). -/
def Core.atEntry (entry vec : Word) : Core :=
  let k : Core := { Core.atReset with pc := entry, run := .running, bootEntry := entry, bootVec := vec }
  { k.setReg 1 (BitVec.ofNat 32 bootRecordAddr) with st := k.st.put F.ST_VECBASE_BASE (vec.toNat / 1024) }

/-- A pending APP command of a client ends ABORTED (R615). -/
def Device.appAborted (d : Device) (c : Client) : Device :=
  if d.flag (F.HP_FW_CTL_PEND c.idx) then (d.setFlag (F.HP_FW_CTL_PEND c.idx) false).complete c 0x0E else d

/-- SYS_CORE_RST (R217). A reset of C1 ends the pending APP commands (R615). The code by which the boot record names the cause CORE is a free value. -/
def Device.coreReset (d : Device) (c : CoreId) : Device :=
  if c.isControl && d.coreRuns && (d.core c).run != .held then
    let d := ((d.semBreakAll c).returnEvents c).abandonTask c
    let k := d.core c
    let d := d.setCore c { Core.atEntry k.bootEntry k.bootVec with buf := k.buf }
    let d := if c == .c0 then d.setFlag F.DBG_STAT_C0_HALT false else d.setFlag F.DBG_STAT_C1_HALT false
    let d := if c == .c1 then (d.appAborted .a).appAborted .b else d
    let w := Config.freeWord d.freshN
    { d with freshN := d.freshN + 1 }.storeWord (bootRecordAddr + 12) w
  else d

/-! ### The boot ROM (R73, R85) -/

/-- The boot clear: core SRAM and stream SRAM hold zero with valid check bits, bank 7 excepted. -/
def Device.bootClear (d : Device) : Device :=
  { d with mem := d.mem.filter (fun e => 0x20070000 ≤ e.1), ecc := d.ecc.filter (fun e => 0x20070000 ≤ e.1) }

/-- The journal at start-up (R683): a valid one is completed, any other leaves the target untouched. Returns the
line and the outcome. -/
def Device.recoverJournal (d : Device) (valid : Bool) : Option (Nat × Nat) × Device :=
  match d.nvs.interrupted with
  | none => (none, d)
  | some j =>
    let d := { d with nvs.interrupted := none }
    if valid then (some (j.offset, 1), (d.program j.offset 1).putLine j) else (some (j.offset, 0), d)

/-- A copy of the system record with a valid HMAC: its generation and the two masks (R717). -/
def Device.systemRecord (d : Device) (copy : Nat) : Option (Nat × Nat × Nat) :=
  let a := 0x300D0000 + 0x40 * copy
  let bs := d.bytes a 32
  if !d.nvsLost (0xD0000 + 0x40 * copy) 64 && ofLe (d.bytes (a + 32) 32) == (Config.deviceHmac bs).toNat then
    some (ofLe (bs.take 4), (bs.getD 4 0).toNat % 32, (bs.getD 5 0).toNat % 32)
  else none

/-- The copy of the system record in force, with its generation and masks. -/
def Device.systemNow (d : Device) : Option (Nat × Nat × Nat × Nat) :=
  match d.systemRecord 0, d.systemRecord 1 with
  | some (g, a, b), some (g', a', b') => if g < g' then some (1, g', a', b') else some (0, g, a, b)
  | some (g, a, b), none => some (0, g, a, b)
  | none, some (g, a, b) => some (1, g, a, b)
  | none, none => none

/-- The privilege masks at a reset: from the configuration store, else the defaults of R25 with CFGDEF (R717). -/
def Device.loadMasks (d : Device) : Device :=
  match d.systemNow with
  | some (_, _, a, b) => (d.put (F.HP_PRIV_MASK 0) a).put (F.HP_PRIV_MASK 1) b
  | none =>
    (((d.put (F.HP_PRIV_MASK 0) 0x13).put (F.HP_PRIV_MASK 1) 0x1C)).setFlag F.SEC_STAT_CFGDEF true

/-- The sections of an image are copied to their load addresses. -/
def Device.copySections : Device → List Section → List Byte → Device
  | d, [], _ => d
  | d, s :: t, bs => (d.setBytes s.load (bs.take s.length)).copySections t (bs.drop s.length)

/-- The image of a slot at its load addresses: in clear, or as it is stored where it cannot be decrypted. -/
def Device.copyImage (d : Device) (slot : Nat) : Device :=
  d.copySections (d.bootSections slot) ((d.imagePlain slot).getD (d.storedBytes slot))

/-- The verification of a slot by the boot ROM: the code of R705; a slot that fails raises IMAGE_VERIFY_FAIL. The image is
copied before its signature is checked (R73 step 4), so one that comes to that check stands in memory though it fails. -/
def Device.bootVerify (d : Device) (slot : Nat) : Nat × Device :=
  let (ok, d) := d.nvsScan (slotBase slot) (d.imageSpan slot)
  let r := if ok then d.verifySlot slot else 9
  let d := if r == 0 || r == 6 || r == 7 then d.copyImage slot else d
  (r, if r == 0 then d else d.fire 121)

/-- Step 3 of R73: the first slot, and whether it is chosen as a trial (R706). -/
def Device.chooseSlot (d : Device) : Nat × Bool × Device :=
  let d := if d.nvs.ecc.any (fun e => e.1 < 64 && e.2.isNone) then { d with nvs.bootBad := true } else d
  let b := d.nvs.boot
  if d.nvs.bootBad then
    ((0, false, { d with nvs.boot := ⟨0, false, 0, false⟩ }.showNvs.setFlag F.SEC_STAT_BCR_BAD true))
  else if b.armed && b.tries != 0 then
    (1 - b.active, true, d.endLine (bootLine { b with tries := b.tries - 1 }) false)
  else if b.armed then
    (b.active, false, d.endLine (bootLine { b with armed := false, trialFail := true }) false)
  else (b.active, false, d)

/-- The boot record (R707). -/
def Device.bootRecord (d : Device) (slot : Nat) (trial : Bool) (r0 r1 : Nat) : List Byte :=
  leBytes 1 slot ++ leBytes 1 trial.toNat ++ leBytes 1 d.nvs.boot.tries ++
    leBytes 1 (d.nvs.boot.trialFail.toNat + 2 * d.nvs.bootBad.toNat) ++ leBytes 4 (d.imageField slot 12 4) ++
    leBytes 2 (d.imageField slot 16 2) ++ leBytes 2 0 ++ leBytes 4 (d.word R.SYS_RST_CAUSE).toNat ++
    leBytes 2 r0 ++ leBytes 2 r1 ++ leBytes 2 d.nvs.rollback ++ leBytes 10 0

/-- Hand-off (R73 step 6, R74), the image standing in memory: the boot record, C0 and C1 at their entries, ST_SENTRY. -/
def Device.handOff (d : Device) (slot : Nat) (trial : Bool) (r0 r1 : Nat) : Device :=
  let f := fun o => BitVec.ofNat 32 (d.imageField slot o 4)
  let d := d.setBytes bootRecordAddr (d.bootRecord slot trial r0 r1)
  let d := (d.put F.SEC_BOOT_LAST slot).setFlag F.SEC_BOOT_BOOTED_TRIAL trial
  let d := { d with
    c0 := { Core.atEntry (f 24) (f 32) with cycles := d.c0.cycles }
    c1 := { Core.atEntry (f 28) (f 36) with cycles := d.c1.cycles } }
  d.cput .s F.ST_SENTRY_ENTRY ((f 40).toNat / 4)

/-- After a start-up the device is in READY, and the count for PG_AUX3 runs if it has not come (R212, R214). The
chain and the ring take the state up. A FAULT_N that is low all the while latches before (R311). -/
def Device.readyAfterBoot (d : Device) : Device :=
  let d := if d.flag F.GDV_STAT_FAULT_N then d.extFault else d
  let d := { d with pwr.seq := .up, pwr.pgto3 := !d.pwr.pgAux[2] }.updateDrvOk
  d.reachReady.shlRole.trnModeUpdate

/-- The start-up from the release of core reset to the hand-off, or to ROM operation when neither slot verifies
(R73, R85, R708). `journal` says whether the journal of an interrupted line write is valid (R683). The RESET entry is
the first of the start-up, the NVS_JOURNAL entry the second (R660, R665). A slot that was not examined has the result
16; with no slot booted, slot and version in the RESET entry are free values. -/
def Device.bootRom (d : Device) (journal : Bool) : Device :=
  if d.pwr.seq != .booting then d
  else
    let early := d.sed.wq
    let d := { d with sed.wq := [], sed.gap := none }.bootClear
    let (line, d) := d.recoverJournal journal
    let d := d.showNvs.showRosters.loadMasks
    let d := d.startupScan
    let (first, trial, d) := d.chooseSlot
    let (ra, d) := d.bootVerify first
    let (rb, d) := if ra == 0 then (16, d) else d.bootVerify (1 - first)
    let slot := if ra == 0 then first else 1 - first
    let booted := ra == 0 || rb == 0
    let (r0, r1) := if first == 0 then (ra, rb) else (rb, ra)
    let x := Config.freeWord d.freshN
    let y := Config.freeWord (d.freshN + 1)
    let d := { d with freshN := d.freshN + 2 }
    let late := d.sed.wq
    let d := { d with sed.wq := [] }.log 128 5 ((d.word R.SYS_RST_CAUSE).toNat % 64)
      (if booted then leBytes 1 slot ++ leBytes 4 (d.imageField slot 12 4)
        else leBytes 1 x.toNat ++ leBytes 4 y.toNat)
    let d := if d.limp then d.powerFault 6 else d
    let d := match line with
      | some (o, r) => d.log 153 1 r (leBytes 4 o)
      | none => d
    let d := { d with sed.wq := d.sed.wq ++ early ++ late }
    let d := d.scanErrors
    let d := if booted then d.handOff slot (trial && slot == first) r0 r1 else { d with nvs.rom := true }
    d.readyAfterBoot

end Sys2Proof.Machine
end

