-- ==== Sys2Proof/Machine/PowerOps.lean ====
section
/-! DEFINITION. The supply sequencer (R206 to R215), the analog loop (R167, R196 to R198), the requests of PWR_CMD
(R207 to R211, R218 to R229), presence (R221, R222), the PLAY entry sequence (R225, R226) and the watchdog (R231). -/

namespace Sys2Proof.Machine

/-- The blocks that follow the power state take up a new one (R464, R558). -/
def Device.followState (d : Device) : Device := d.shlRole.trnModeUpdate

/-- Drives one of EN_AUX1 to EN_AUX3. -/
def Device.enAux (d : Device) (n : Fin 3) (b : Bool) : Device := { d with pwr.enAux := d.pwr.enAux.set n b }

/-- The sequence goes to a step. -/
def Device.goSeq (d : Device) (s : SeqStep) : Device := ({ d with pwr.seq := s }).trnModeUpdate

/-! ### The supply sequence (R212 to R215) -/

/-- Step 2 of R212: EN_AUX1 high. -/
def Device.startSequence (d : Device) : Device := (d.enAux 0 true).goSeq .aux1

/-- VSTK rises through 20.0 V (R212 step 1). -/
def Device.porRise (d : Device) : Device :=
  if d.pwr.seq == .off then d.powerOnReset .aonReset else d

/-- The AON power-on reset is released (R212 step 2). -/
def Device.aonPorRelease (d : Device) : Device :=
  if d.pwr.seq == .aonReset then d.startSequence else d

/-- VSTK falls through 16.0 V: the power-on reset of the whole device (R206). -/
def Device.porFall (d : Device) : Device :=
  if d.pwr.seq == .off then d else d.powerOnReset .off

/-- Every EN_AUX goes low in the order of R211, EN_AUX3 at once. -/
def Device.beginDown (d : Device) (why : DownWhy) : Device :=
  ({ d.enAux 2 false with pwr.down := why }).goSeq .down2

/-- A power-good input rises: the sequence proceeds; PG_AUX3 counts toward DRV_OK (R212, R214). -/
def Device.pgAuxRise (d : Device) (n : Fin 3) : Device :=
  let d := { d with pwr.pgAux := d.pwr.pgAux.set n true }
  match n, d.pwr.seq with
  | 0, .aux1 => d.goSeq .gap1
  | 1, .aux2 => d.goSeq .gap2
  | 2, _ => ({ d with pwr.pgto3 := false }).updateDrvOk
  | _, _ => d

/-- The majority of three samples of the straps MASTER_EN, HPB_MODE, HPB_ADDR0 to HPB_ADDR2, bits 0 to 4, into
SYS_STRAP (R786). -/
def Device.sampleStraps (d : Device) (x : Vector (BitVec 5) 3) : Device :=
  let v := (x[0] &&& x[1]) ||| (x[0] &&& x[2]) ||| (x[1] &&& x[2])
  let bit := fun (i : Nat) => (v.getLsbD i).toNat
  let addr := 0x48 + 4 * bit 4 + 2 * bit 3 + bit 2
  d.setWord R.SYS_STRAP (BitVec.ofNat 32 (bit 0 + 2 * bit 1 + 4 * addr))

/-- The supplies are off: ICE, or the sequence again (R211, R215, R216). A latch that sets during the ICE entry wakes
the device there; that is a command of its own. -/
def Device.suppliesOff (d : Device) : Device :=
  let d := d.enAux 0 false
  match d.pwr.down with
  | .ice => d.goSeq .ice
  | .supply => d.startSequence
  | .retry =>
    if d.get F.PWR_SEQ_RETRY + 1 ≤ d.get F.PWR_SEQ_STAT_TRIES then
      (d.setFlag F.PWR_SEQ_STAT_SEQ_FAIL true).goSeq .ice
    else d.goSeq .retryWait

/-- VDD_CORE leaves its range: the volatile memories lose their content (R42, R75). -/
def Device.loseCore (d : Device) : Device :=
  { d with mem := d.mem.filter (fun e => nvsAddress e.1), ecc := [] }

/-- A GAP interval ends (R211, R212): the next enable, the straps, or a step of the switching off. An ICE entry ends the
life of the CORE, STREAM and LINK domains. -/
def Device.seqGapExpire (d : Device) (straps : Vector (BitVec 5) 3) : Device :=
  match d.pwr.seq with
  | .gap1 => (d.enAux 1 true).goSeq .aux2
  | .gap2 => (d.sampleStraps straps).goSeq .locking
  | .down2 => ((d.enAux 1 false).loseCore).goSeq .down1
  | .down1 => d.suppliesOff
  | .up =>
    if d.pwr.busy == .iceEntry then
      let d := ((d.unlockAll.interruptNvs.openMain.enAux 1 false).loseCore).setFlag F.CLK_STAT_AON_SRC true
      (({ d with pwr.busy := .none, pwr.down := .ice }).goSeq .down1).senseBoundary
    else d
  | _ => d

/-- The dividers are released, EN_AUX3 goes high, and the CORE domain starts with the latches of the wake (R212 step
9, R187, R149). -/
def Device.releaseDomains (d : Device) : Device :=
  let d := (d.enAux 2 true).goSeq .booting
  d.transferLatches

/-- Step 9 of R212, once LOCKED is set and RST_N is high (R773). -/
def Device.dividerRelease (d : Device) : Device :=
  if d.pwr.seq == .locking && d.flag F.CLK_STAT_LOCKED && !d.pwr.rstLow then
    let d := (d.put F.CLK_STAT_AON_SRC 0).setFlag F.CLK_STAT_RTVALID true
    ({ d with clk.step := some .first }).releaseDomains
  else if d.pwr.seq == .locking && d.limp && !d.pwr.rstLow then d.releaseDomains
  else d

/-- DRV_SUPPLY latches (R214, R239). -/
def Device.drvSupply (d : Device) : Device := d.powerFault 3

/-- A power-good timeout ends (R210, R214, R215). -/
def Device.pgtoExpire (d : Device) : Device :=
  let fail := fun (d : Device) (n : Nat) =>
    let d := (d.orField F.PWR_SEQ_STAT_FAIL_AUX (2 ^ n)).bump F.PWR_SEQ_STAT_TRIES
    d.beginDown .retry
  match d.pwr.seq with
  | .aux1 => fail d 0
  | .aux2 => fail d 1
  | .up =>
    if d.pwr.pgto3 && !d.pwr.pgAux[2] then
      let d := { d with pwr.pgto3 := false }
      if d.still then { d with pwr.pgto3Fail := true } else if d.running then d.drvSupply else d
    else d
  | _ => d

/-- One second after a failed attempt the sequence runs again from step 2 (R215). -/
def Device.seqRetry (d : Device) : Device := if d.pwr.seq == .retryWait then d.startSequence else d

/-- The sequence has passed step 3 of R212: VDD_IO and VDDA have come. -/
def Device.pastAux1 (d : Device) : Bool :=
  match d.pwr.seq with
  | .gap1 | .aux2 | .gap2 | .locking | .booting | .up => true
  | _ => false

/-- A power-good input falls (R216, R238, R239). PG_AUX3 counts while EN_AUX3 is high. -/
def Device.pgAuxFall (d : Device) (n : Fin 3) : Device :=
  let had := d.pwr.pgAux[n]
  let d := ({ d with pwr.pgAux := d.pwr.pgAux.set n false }).updateDrvOk
  if !had then d
  else if n == 2 then
    if d.running && d.pwr.enAux[2] then d.drvSupply else d
  else if d.pastAux1 then
    let d := d.resetAll 1 .down2 false
    ({ d.enAux 2 false with pwr.down := .supply }).trnModeUpdate
  else d

/-! ### The analog loop -/

/-- The crystal is stable and the loop locked (R167). -/
def Device.pllLock (d : Device) : Device :=
  if d.pastAux1 && d.pwr.seq != .up && d.pwr.seq != .booting && !d.limp then
    (d.setFlag F.CLK_STAT_XTAL_OK true).setFlag F.CLK_STAT_LOCKED true
  else d

/-- CORE, STREAM and LINK go on at the limp rates (R196 step 3). -/
def Device.toLimp (d : Device) : Device :=
  let d := (d.setClkMode 6).put F.CLK_STAT_SEL 3
  ((d.put F.CLK_STAT_AON_SRC 1).setFlag F.CLK_STAT_RTVALID false).put F.CLK_STAT_DWELL_LEFT 0

/-- The crystal detector has tripped. -/
def Device.xtalFail (d : Device) : Device :=
  (d.setFlag F.CLK_STAT_XTAL_OK false).setFlag F.CLK_EVT_XTALFAIL true

/-- LOCKED falls (R196 step 1). -/
def Device.loopLost (d : Device) : Device :=
  (d.setFlag F.CLK_STAT_LOCKED false).setFlag F.CLK_EVT_UNLOCK true

/-- Loss of lock (R196); `trip` says that the crystal detector tripped. Before the domains run only step 1 has something to
act on; in limp a loop that had locked again is lost once more, and one that had not can only lose its crystal. A ring-time
step that was due is overridden (R195). -/
def Device.pllUnlock (d : Device) (trip : Bool) : Device :=
  let was := d.flag F.CLK_STAT_LOCKED
  let d := if trip && d.pastAux1 && d.flag F.CLK_STAT_XTAL_OK then d.xtalFail else d
  if !was || !d.pastAux1 then d
  else
    let d := { d.loopLost with clk.step := none }
    if !d.linkRuns then d
    else if d.limp then (d.powerFault 6).fire 9
    else
      let d := ((d.toLimp.powerFault 6).fire 9).loseRing
      let d := { d.setFlag F.TRN_STAT_LOCK false with trn.same := 0, trn.last := none }
      d.trnModeUpdate.unlockAll.senseBoundary

/-- In limp the loop sets LOCKED again (R198). -/
def Device.analogRelock (d : Device) : Device :=
  if d.limp && d.flag F.CLK_STAT_XTAL_OK then d.setFlag F.CLK_STAT_LOCKED true else d

/-- The return from limp at a limp boundary, after LOCKED has held for 10 ms (R198, R172). -/
def Device.limpReturn (d : Device) : Device :=
  if d.limp && d.flag F.CLK_STAT_LOCKED && d.linkRuns then
    let d := ((d.setClkMode 0).put F.CLK_STAT_SEL 0).puti F.CLK_TRIM_TRIM 0
    let d := { d with clk.cfgChanged := false }
    let d := (d.put F.CLK_STAT_AON_SRC 0).setFlag F.CLK_STAT_RTVALID true
    ({ d with clk.step := some .limpReturn }).trnModeUpdate.shlLimpReturn
  else d

/-- The crystal has not been seen 20 ms after PG_AUX1 (R776): the start-up goes on in limp. -/
def Device.xtalStartTimeout (d : Device) : Device :=
  if d.pwr.seq == .locking && !d.flag F.CLK_STAT_XTAL_OK && !d.limp then
    let d := (d.setFlag F.CLK_EVT_XTALFAIL true).toLimp
    if d.pwr.rstLow then d else d.releaseDomains
  else d

/-! ### VSTK (R206) -/

/-- The VSTK pin monitor shows a reading in 0.5 V. -/
def Device.showVstk (d : Device) (v : BitVec 9) : Device := d.put F.PWR_VMON_VSTK v.toNat

/-- The monitor judges the trip level: below 22.0 V the fault BROWNOUT latches, from 24.0 V on it is over. Before the domains
run and in ICE a trip shows in BO_TRIP alone, and no bit of PWR_FAULT latches (DESIGN CHOICE, entry 35). -/
def Device.brownout (d : Device) (v : BitVec 9) : Device :=
  if !d.aonRuns then d
  else
    let d := d.showVstk v
    if v.toNat < 44 then
      let d := d.setFlag F.PWR_VMON_BO_TRIP true
      if d.linkRuns then d.powerFault 1 (leBytes 2 v.toNat) else d.openMain
    else if 48 ≤ v.toNat then d.setFlag F.PWR_VMON_BO_TRIP false
    else d

/-- The monitor judges the warning level. -/
def Device.brownoutWarn (d : Device) (v : BitVec 9) : Device :=
  if !d.aonRuns then d
  else
    let d := d.showVstk v
    let w := d.get F.PWR_BO_WARN
    if v.toNat < w then
      if d.flag F.PWR_VMON_BO_WARN then d else (d.setFlag F.PWR_VMON_BO_WARN true).fire 2
    else if w + 2 ≤ v.toNat then d.setFlag F.PWR_VMON_BO_WARN false
    else d

/-! ### The PLAY entry sequence and the ramps -/

/-- The channels under test in a PLAY entry (R376). -/
def Device.entryMask (d : Device) : Nat := d.diagMask (d.get F.MOD_CTL_CH_EN)

/-- PHASE PRESTART (R225 step 2). -/
def Device.startPrestart (d : Device) : Device :=
  (d.put F.PWR_STAT_PHASE 1).diagStart false true d.entryMask

/-- The drive of a state in which nothing modulates: an aborted run still lets its test current go to zero (R390). -/
def Device.restDrive (d : Device) : Device :=
  if d.diag.run.isSome then d else d.setDrive (if d.isState 4 then .safe else .off)

/-- The sequence ends before modulation: the request is refused with a reason, and the device stands in the state
from which the entry began (R232, R380). -/
def Device.refuseEntry (d : Device) (reason : Nat) : Device :=
  ((d.abandon reason).put F.PWR_STAT_PHASE 0).restDrive

/-- An accepted write of DIAG_CMD. ABORT within a PLAY entry ends the entry too (R390, R232): the request is refused, with reason
DIAG (DESIGN CHOICE, entry 43). -/
def Device.diagOrder (d : Device) (op mask : Nat) : Device :=
  let entry := op == 3 && d.playEntering && d.get F.PWR_STAT_PHASE == 1
  let d := d.diagCommand op mask
  if entry then d.refuseEntry 6 else d

/-- The ramp-out begins from the gain reached (R209, R226). -/
def Device.startRampOut (d : Device) : Device :=
  let reached := if d.get F.PWR_STAT_PHASE == 3 then min d.pwr.gainPos 512 else 512
  { d with pwr.busy := .rampOut, pwr.gainPos := 512 - reached }.put F.PWR_STAT_PHASE 4

/-- The transition or the precharge in progress is given up by a READY or MAIN_OPEN request (R209, R220): an ICE entry
drives EN_AUX3 high again, a sequence that modulates ramps out. -/
def Device.giveUp (d : Device) : Device :=
  let d := if d.pwr.pre == .idle then d
    else { d with pwr.pchg := false, pwr.pre := .idle }.put F.PWR_STAT_MAIN (if d.pwr.enMain then 2 else 0)
  match d.pwr.busy with
  | .none | .rampOut => d
  | .stillWait => { d with pwr.busy := .none }
  | .iceEntry => { d.enAux 2 true with pwr.busy := .none, pwr.pgto3 := true }
  | .playEntry _ =>
    if d.get F.PWR_STAT_PHASE == 3 then d.startRampOut
    else
      ({ d with pwr.busy := .none, pwr.gainPos := 0 }.put F.PWR_STAT_PHASE 0).restDrive

/-- 200 µs before a boundary the bootstrap precharge begins, once the checks have passed (R225 step 3, R383). -/
def Device.bootstrapStart (d : Device) : Device :=
  if d.playEntering && d.get F.PWR_STAT_PHASE == 1 && d.diag.run.isNone then
    ({ d with pwr.bootPassed := false }.put F.PWR_STAT_PHASE 2).setDrive .bootstrap
  else d.sweepBootstrap

/-- The valid DC resistances of the entry's run act at the bootstrap boundary (R343). -/
def Device.applyRdc (d : Device) : Device :=
  (List.finRange 4).foldl
    (fun d i =>
      if d.entryMask.testBit i.val && d.flag (F.DIAG_n_PRE_RDC_VALID (i.val + 1)) then
        d.guardRdc i (d.get (F.DIAG_n_RDC_RDC (i.val + 1)))
      else d) d

/-- The PLAY entry at a block boundary: the bootstrap boundary, or the boundary at which modulation begins (R225). -/
def Device.entryBoundary (d : Device) : Device :=
  if d.playEntering && d.get F.PWR_STAT_PHASE == 2 then
    if d.pwr.bootPassed then
      let d := { d.clearShapers with pwr.gainPos := 0, pwr.bootPassed := false }
      let d := (d.put F.PWR_STAT_STATE 3).setFlag F.MOD_OVERRIDE_EN false
      ((d.put F.PWR_STAT_PHASE 3).setDrive .modulate).pilotStart
    else { d with pwr.bootPassed := true }.applyRdc
  else d

/-- The samples of a ramp that have been handed over. -/
def Device.advanceRamp (d : Device) : Device :=
  if d.get F.PWR_STAT_PHASE == 3 || d.get F.PWR_STAT_PHASE == 4 then
    { d with pwr.gainPos := min 512 (d.pwr.gainPos + 16) }
  else d

/-- The ramp-in is over (R225 step 5). -/
def Device.rampInEnd (d : Device) : Device :=
  if d.playEntering && d.get F.PWR_STAT_PHASE == 3 && d.pwr.gainPos == 512 then
    ({ d with pwr.busy := .none }.put F.PWR_STAT_PHASE 0).finishRequest 2 0
  else d

/-- The boundary after the last ramped sample: gates off, READY (R226). -/
def Device.rampOutEnd (d : Device) : Device :=
  if d.pwr.busy == .rampOut && d.get F.PWR_STAT_PHASE == 4 && d.pwr.gainPos == 512 then
    let d := ({ d with pwr.busy := .none, pwr.gainPos := 0 }.put F.PWR_STAT_PHASE 0).setDrive .off
    ((d.put F.PWR_STAT_STATE 2).finishRequest 2 0).followState
  else d

/-! ### Main switch and precharge (R218 to R220) -/

/-- Conditions 1 to 3 of R218 for a precharge: none when they hold, else the reason. -/
def Device.prechargeBars (d : Device) : Option Nat :=
  if !d.flag F.PWR_STAT_PRES then some 4 else if !d.noOpeningFault then some 3 else none

/-- The MAIN_CLOSE request or the CLOSE phase that a precharge serves ends with a refusal. -/
def Device.prechargeFails (d : Device) (reason : Nat) : Device :=
  if d.playEntering then d.refuseEntry reason
  else if d.get F.PWR_CMD_STAT_REQ == 8 then d.finishRequest 3 reason else d

/-- A condition of R218 no longer holds, OPEN_ON_FAULT having been set with a fault latched: the main switch opens, and
a precharge ends with it. -/
def Device.mainPermission (d : Device) : Device :=
  if d.noOpeningFault || !d.running then d
  else
    let waits := d.pwr.pre != .idle && d.pwr.pre != .closing && d.get F.PWR_CMD_STAT_REQ == 8
    let d := d.openMain
    if waits then d.finishRequest 3 3 else d

/-- At the next boundary PCHG goes high (R219). -/
def Device.prechargeStart (d : Device) : Device :=
  if d.pwr.pre == .due && d.running then
    match d.prechargeBars with
    | none => { d with pwr.pchg := true, pwr.pre := .running 0 }.put F.PWR_STAT_MAIN 1
    | some r => { d with pwr.pre := .idle }.prechargeFails r
  else d

/-- The precharge at a block boundary: a block with every sample of the VSTK lane at 0.95 × PWR_VMON.VSTK or more
counts, any other restarts the count (R219). -/
def Device.prechargeBlock (d : Device) (lane : Vector Word 16) : Device :=
  match d.pwr.pre with
  | .running n =>
    let level : Rat := (d.get F.PWR_VMON_VSTK : Rat) / 2 * 95 / 100
    let good := (List.finRange 16).all fun k =>
      d.laneUsable 8 k.val && decide (level ≤ d.senseVolts 8 lane[k])
    { d with pwr.pre := .running (if good then n + 1 else 0) }
  | _ => d

/-- After SETTLE blocks above the threshold EN_MAIN goes high (R219). -/
def Device.prechargeEnd (d : Device) : Device :=
  match d.pwr.pre with
  | .running n =>
    if d.get F.PWR_PCHG_SETTLE ≤ n then
      let d := { d with pwr.enMain := true, pwr.pre := .closing }.put F.PWR_STAT_MAIN 2
      if d.playEntering then d.startPrestart
      else if d.get F.PWR_CMD_STAT_REQ == 8 then d.finishRequest 2 0 else d
    else d
  | _ => d

/-- OVERLAP blocks after EN_MAIN, PCHG goes low (R219). -/
def Device.pchgOverlapEnd (d : Device) : Device :=
  if d.pwr.pre == .closing then { d with pwr.pchg := false, pwr.pre := .idle } else d

/-- A precharge has not ended within TIMEOUT (R220). A MAIN_CLOSE request that began it completes as REFUSED with reason FAULT
(DESIGN CHOICE, entry 37). -/
def Device.pchgTimeout (d : Device) : Device :=
  match d.pwr.pre with
  | .running _ =>
    let d := { d with pwr.pchg := false, pwr.pre := .idle }.put F.PWR_STAT_MAIN 0
    let d := if d.get F.PWR_CMD_STAT_REQ == 8 then d.finishRequest 3 3 else d
    d.powerFault 2
  | _ => d

/-! ### Presence (R221, R222) -/

/-- The ring part of R222: LEAVE on both ports, then they are looped back. -/
def Device.presenceRing (d : Device) : Device :=
  ({ d.leaveRing 1 with trn.looped := true }).trnModeUpdate

/-- Every half-bridge is forced to its safe level while VDDA is up (R222 step 2, R227 step 1). -/
def Device.safeDrive (d : Device) : Device := if d.pastAux1 then d.setDrive .safe else d

/-- PRES_N goes high (R222, R232, R41). In ICE the response does not act (R221); the latch of the source sets as for every edge
while CORE is stopped (R148; DEDUCED, entry 38). -/
def Device.presLost (d : Device) : Device :=
  if d.pwr.seq == .off || d.pwr.seq == .aonReset then d
  else if d.pwr.seq == .ice then ((d.setFlag F.PWR_STAT_PRES false).setFlag F.PWR_STAT_PRES_RAW false).fire 3
  else
    let d := (d.setFlag F.PWR_STAT_PRES false).setFlag F.PWR_STAT_PRES_RAW false
    let waits := d.pwr.pre != .idle && d.pwr.pre != .closing && d.get F.PWR_CMD_STAT_REQ == 8
    let d := d.openMain
    let d := if waits then d.finishRequest 3 4 else d
    if d.running then
      let d := (d.powerFault 0).fire 3
      ((d.presenceRing).abortQueue .a).abortQueue .b
    else if d.still then ({ d.safeDrive with pwr.presDue := true }.fire 3).presenceRing
    else d.safeDrive.fire 3

/-- PRES_N has been low for DEB (R221, R219). -/
def Device.presGained (d : Device) : Device :=
  if !d.aonRuns || d.flag F.PWR_STAT_PRES then d
  else
    let d := ((d.setFlag F.PWR_STAT_PRES_RAW true).setFlag F.PWR_STAT_PRES true).fire 4
    if d.flag F.PWR_CTL_AUTO_MAIN && d.running && d.isState 2 && d.pwr.busy != .iceEntry &&
        d.get F.PWR_STAT_MAIN == 0 && d.pwr.pre == .idle then
      { d with pwr.pre := .due }
    else d

/-! ### Requests (R207 to R209, R224, R229) -/

/-- S is stopped (R207). -/
def Device.streamStopped (d : Device) : Bool :=
  d.cget .s F.ST_SSTATE_STATE == 0 && d.cget .s F.ST_SCTL_RUN == 0

/-- The right a host needs for a request: the bits of its mask of which one is enough (R208). -/
def requestRights (code : Nat) : Nat :=
  match code with
  | 1 => 5
  | 2 | 3 => 1
  | 4 => 2
  | _ => 4

/-- Does the master lack what R208 asks of it? -/
def Device.requestRefused (d : Device) (m : Master) (priv : Bool) (code : Nat) : Option Nat :=
  match m with
  | .portA => if d.get (F.HP_PRIV_MASK 0) &&& requestRights code == 0 then some 8 else none
  | .portB => if d.get (F.HP_PRIV_MASK 1) &&& requestRights code == 0 then some 8 else none
  | _ => if !priv then some 8 else if code == 6 || code == 7 then some 9 else none

/-- A transition, a precharge or a diagnostic run is in progress. -/
def Device.powerBusy (d : Device) : Bool :=
  d.pwr.busy != .none || d.diag.run.isSome ||
    match d.pwr.pre with
    | .due | .running _ => true
    | _ => false

/-- A client has a transaction in flight (R641). -/
def Device.txnInFlight (d : Device) : Bool := d.txn.flight.toList.any Option.isSome

/-- The conditions of R224, in order; `exit` for an EXIT_SAFE to PLAY. -/
def Device.playBars (d : Device) (exit : Bool) : Option Nat :=
  let closed := d.get F.PWR_STAT_MAIN == 2
  if d.anyFault then some 3
  else if !d.flag F.PWR_STAT_PRES then some 4
  else if !closed && !(exit && d.prechargeBars.isNone) then some 5
  else if !d.flag F.PWR_STAT_DRV_OK then some 7
  else if d.get F.DIAG_HOLD_HOLD != 0 then some 6
  else none

/-- What the present state holds against a request: the reason of the refusal (R207, R209, R219, R224, R641). -/
def Device.requestBars (d : Device) (code : Nat) : Option Nat :=
  let ready := d.running && d.isState 2
  match code with
  | 1 => if d.running && (!d.isState 4 || d.powerBusy) then none else some 2
  | 5 => if d.running && (!d.isState 4 || d.powerBusy) then none else some 2
  | 9 => if d.running then none else some 2
  | 2 => if !ready then some 2 else d.playBars false
  | 3 => if !ready || !d.streamStopped then some 2 else if d.txnInFlight then some 1 else none
  | 4 =>
    if !ready || !d.streamStopped then some 2
    else if d.txnInFlight then some 1
    else if d.anyFault then some 3 else none
  | 6 => if !(d.running && d.isState 4) then some 2 else if d.anyFault then some 3 else none
  | 7 => if !(d.running && d.isState 4) then some 2 else d.playBars true
  | _ => if !d.running then some 2 else if d.get F.PWR_STAT_MAIN == 2 then none else d.prechargeBars

/-- RESULT and REASON of the request just judged. -/
def Device.answerRequest (d : Device) (result reason : Nat) : Device :=
  (d.put F.PWR_CMD_STAT_RESULT result).put F.PWR_CMD_STAT_REASON reason

/-- An accepted READY request (R209, R226). -/
def Device.acceptReady (d : Device) : Device :=
  let d := d.diagStop
  if d.isState 3 && d.pwr.busy == .none then d.startRampOut.answerRequest 1 0
  else
    let d := d.giveUp
    if d.pwr.busy == .rampOut then d.answerRequest 1 0 else d.answerRequest 2 0

/-- An accepted PLAY request (R225). -/
def Device.acceptPlay (d : Device) : Device :=
  ({ d with pwr.busy := .playEntry false, pwr.gainPos := 0 }.answerRequest 1 0).startPrestart

/-- An accepted ICE request (R211): LEAVE, EN_MAIN and PCHG low, then EN_AUX3 low. -/
def Device.acceptIce (d : Device) : Device :=
  let d := ((d.leaveRing 0).openMain).enAux 2 false
  { d with pwr.busy := .iceEntry }.answerRequest 1 0

/-- An accepted SAFE request (R209). -/
def Device.acceptSafe (d : Device) : Device :=
  let ice := d.pwr.busy == .iceEntry
  let d := if ice then d.giveUp else d
  let d := if d.pwr.pre == .closing then d else { d with pwr.pchg := false, pwr.pre := .idle }
  let d := if d.get F.PWR_STAT_MAIN == 1 then d.put F.PWR_STAT_MAIN 0 else d
  (d.powerFault 8).diagAbort.answerRequest 2 0

/-- The client of a master, for an entry; a core has none. -/
def masterClient : Master → Nat
  | .portB => 1
  | _ => 0

/-- The SAFE_EXIT entry (R654). -/
def Device.logExit (d : Device) (m : Master) (code : Nat) : Device := d.log 130 4 code (leBytes 1 (masterClient m))

/-- An accepted EXIT_SAFE to READY (R229). -/
def Device.acceptExit (d : Device) (m : Master) : Device :=
  let d := ((d.logExit m 6).put F.PWR_STAT_STATE 2).put F.PWR_STAT_PHASE 0
  (d.setDrive .off).answerRequest 2 0

/-- An accepted EXIT_SAFE to PLAY (R225, R229). -/
def Device.acceptExitPlay (d : Device) (m : Master) : Device :=
  let d := d.logExit m 7
  let d := { d with pwr.busy := .playEntry true, pwr.gainPos := 0 }.answerRequest 1 0
  if d.get F.PWR_STAT_MAIN == 2 then d.startPrestart else { d with pwr.pre := .due }.put F.PWR_STAT_PHASE 5

/-- An accepted request acts. MAIN_OPEN in steady PLAY opens the main switch and modulation goes on (DESIGN CHOICE,
entry 36). -/
def Device.acceptRequest (d : Device) (m : Master) (code : Nat) : Device :=
  match code with
  | 1 => d.acceptReady
  | 2 => d.acceptPlay
  | 3 => { d with pwr.busy := .stillWait }.answerRequest 1 0
  | 4 => d.acceptIce
  | 5 => d.acceptSafe
  | 6 => d.acceptExit m
  | 7 => d.acceptExitPlay m
  | 8 =>
    if d.get F.PWR_STAT_MAIN == 2 then d.answerRequest 2 0
    else { d with pwr.pre := .due }.answerRequest 1 0
  | _ => d.diagStop.giveUp.openMain.answerRequest 2 0

/-- A write of PWR_CMD (R208, R209): judged, then refused with a reason or accepted. Code 0 does nothing. `priv` is
the level of a core. -/
def Device.pwrCommand (d : Device) (m : Master) (priv : Bool) (code : Nat) : Device :=
  if code == 0 then d
  else
    let d := d.put F.PWR_CMD_STAT_REQ code
    match d.requestRefused m priv code with
    | some r => d.answerRequest 3 r
    | none =>
      if d.powerBusy && !(code == 1 || code == 5 || code == 9) then d.answerRequest 3 1
      else
        match d.requestBars code with
        | some r => d.answerRequest 3 r
        | none => d.acceptRequest m code

/-! ### STILL (R210) -/

/-- Both queues are empty (R608). -/
def Device.queuesEmpty (d : Device) : Bool := d.hp.toList.all fun h => h.queue.isEmpty

/-- Both cores in WAIT: STILL at a block boundary. A diagnostic run in progress is a transition that it waits for (DEDUCED,
entry 45). The DC-on-load detector stops (R388). -/
def Device.stillEnter (d : Device) : Device :=
  if d.pwr.busy == .stillWait && d.diag.run.isNone && d.c0.run == .sleeping && d.c1.run == .sleeping && d.queuesEmpty then
    let d := if d.flag F.PWR_CTL_MAIN_HOLD && d.pwr.enMain then { d with pwr.pchg := false, pwr.pre := .idle }
      else d.openMain
    let d := ({ d.enAux 2 false with pwr.busy := .none }.finishRequest 2 0).put F.PWR_STAT_STATE 1
    let d := { d.setFlag F.MOD_OVERRIDE_EN false with diag.dc := .replicate 4 ⟨0, 0, 0⟩ }.put F.DIAG_STAT_DC_NOW 0
    d.unlockAll.senseBoundary.followState
  else d

/-- The cores were not in WAIT together, or commands were left, for 60 blocks (R210, R608). -/
def Device.stillTimeout (d : Device) : Device :=
  if d.pwr.busy == .stillWait then { d with pwr.busy := .none }.finishRequest 3 1 else d

/-- A set wake latch whose EVC_WAKE_EN bit is 1. -/
def Device.wakes (d : Device) : Bool := (d.word R.EVC_WLATCH &&& d.word R.EVC_WAKE_EN) != 0

/-- An enabled wake latch in STILL: EN_AUX3 high, the count for PG_AUX3 runs. -/
def Device.stillWake (d : Device) : Device :=
  if d.still && d.wakes && !d.pwr.waking then
    { d.enAux 2 true with pwr.waking := true, pwr.pgto3 := !d.pwr.pgAux[2] }
  else d

/-- CORE and STREAM are ungated: READY, with the latches of the wake; a presence lost in STILL, or a missing PG_AUX3,
is latched (R210, R222, R149). -/
def Device.stillUngate (d : Device) : Device :=
  if d.still && d.pwr.waking && (d.pwr.pgAux[2] || d.pwr.pgto3Fail) then
    let fail := d.pwr.pgto3Fail && !d.pwr.pgAux[2]
    let gone := d.pwr.presDue
    let d := { d with
      pwr.waking := false, pwr.pgto3Fail := false, pwr.presDue := false, pwr.pgto3 := false
      rsv.k := 0, rsv.isamp := none, rsv.mean8 := none, rsv.mean9 := none }
    let d := d.put F.PWR_STAT_STATE 2
    let d := if gone then d.powerFault 0 else d
    let d := if d.isState 4 then d else d.reachReady
    let d := if fail then d.drvSupply else d
    d.transferLatches.followState
  else d

/-! ### ICE and resets (R213, R216) -/

/-- An enabled wake latch in ICE: the sequence from step 2, the series of attempts anew (R213, R215). -/
def Device.iceWake (d : Device) : Device :=
  if d.pwr.seq == .ice && d.wakes then
    let d := (d.resetAll 5 .aux1 false).shlAfterIce
    (d.put F.PWR_SEQ_STAT_TRIES 0).startSequence
  else d

/-- RST_N goes low, or high again (R216, R773): one cause is recorded for the whole hold. While the supplies are being
switched off, the sequence begins anew from step 2 when they are off (DEDUCED, entry 40). -/
def Device.rstPin (d : Device) (low : Bool) : Device :=
  if !low then { d with pwr.rstLow := false }
  else if d.pwr.rstLow then d
  else
    let d := { d with pwr.rstLow := true }
    let cause := fun (d : Device) => d.orField ⟨R.SYS_RST_CAUSE, 0, 6⟩ 4
    match d.pwr.seq with
    | .off => { d with pwr.rstLow := false }
    | .up | .booting => (d.warmReset 2).trnModeUpdate
    | .ice | .retryWait =>
      let d := (d.resetAll 2 .aux1 false).shlAfterIce
      (d.put F.PWR_SEQ_STAT_TRIES 0).startSequence
    | .down2 | .down1 =>
      let ice := d.pwr.down == .ice
      let d := d.resetAll 2 d.pwr.seq false
      let d := if ice then d.shlAfterIce else d
      { d with pwr.down := .supply }.put F.PWR_SEQ_STAT_TRIES 0
    | _ => cause d

/-- The log's queue is written out. -/
def Device.drainLog (d : Device) : Device := (List.range 70).foldl (fun d _ => d.logWrite) d

/-- The watchdog counts (R231). -/
def Device.wdogCounts (d : Device) : Bool :=
  d.flag F.SYS_WDOG_CTL_EN && d.running && !(d.c0.run == .debug && d.c1.run == .debug)

/-- Three quarters of the watchdog's time (R231). -/
def Device.wdogWarn (d : Device) : Device :=
  if d.wdogCounts then (d.setFlag F.SYS_WDOG_STAT_WARNED true).fire 14 else d

/-- The watchdog expires: its entry is written, then the WATCHDOG reset (R231). The entries that still wait are lost
(R674). -/
def Device.wdogExpire (d : Device) : Device :=
  if d.wdogCounts then
    ({ d with sed.wq := [], sed.gap := none }.log 136 5 0).drainLog.warmReset 3 |>.trnModeUpdate
  else d

/-! ### Die temperature and NTCs (R230, R756) -/

/-- A sample of the auxiliary converter: NTC readings in 0.1 °C (none where not valid) and the die in °C. -/
def Device.auxSample (d : Device) (ntc : Vector (Option Int) 4) (die : Int) : Device :=
  if !d.running then d
  else
    let ntcs : Vector (Option Rat) 4 := ntc.map fun t => t.map fun x => (x : Rat) / 10
    let dieR : Rat := die
    let d := { d with aux.ntc := ntcs, aux.die := some dieR }.puti F.PWR_TEMP_DIE die
    let warn : Rat := (d.get F.PWR_TEMP_WARN : Rat)
    let d :=
      if decide (warn ≤ dieR) then
        if d.aux.dieWarned then d else { d with aux.dieWarned := true }.fire 6
      else if decide (dieR < warn - 5) then { d with aux.dieWarned := false }
      else d
    if 150 ≤ dieR then d.powerFault 7 (leBytes 2 (d.get F.PWR_TEMP_DIE)) else d

/-- A falling edge on WAKE_N (R768). -/
def Device.wakePin (d : Device) : Device := if d.aonRuns then d.fire 5 else d

/-! ### Clearing faults (R228) -/

/-- The bits of PWR_FAULT whose condition persists, summaries included. -/
def Device.faultPersists (d : Device) : Nat :=
  (if d.flag F.PWR_STAT_PRES then 0 else 1) + (if d.get F.PWR_VMON_VSTK < 48 then 2 else 0) +
    (if d.pwr.pgAux[2] then 0 else 8) + (if d.c0.run == .halted then 16 else 0) +
    (if d.c1.run == .halted then 32 else 0) +
    (if d.flag F.CLK_STAT_LOCKED && !d.limp then 0 else 64) +
    (match d.aux.die with
      | some t => if t < 140 then 0 else 128
      | none => 0) + 0x600

/-- Writes of 1 by a host clear the bits of PWR_FAULT whose condition has gone (R228). -/
def Device.clearFaults (d : Device) (v : Word) : Device :=
  let old := (d.word R.PWR_FAULT).toNat
  let clr := old &&& v.toNat % 512
  let stay := clr &&& d.faultPersists
  d.setWord R.PWR_FAULT (BitVec.ofNat 32 (old - (clr - stay)))

end Sys2Proof.Machine
end

