-- ==== Sys2Proof/Machine/Reserved.lean ====
section
/-! DEFINITION. The reserved encodings of the registers (R12): the values of one field alone, the combinations of
fields, and the values of the fields that act when they are written. -/

namespace Sys2Proof.Machine

/-- The values a field may hold, in the registers of a family: `count` registers `stride` apart from `base`, the
field at `lsb`, the values `lo` to `hi`. -/
structure FieldRange where
  base : Nat
  count : Nat
  stride : Nat
  lsb : Nat
  lo : Nat
  hi : Nat
  deriving DecidableEq, Repr

/-- One register's field. -/
def only (f : Fld) (lo hi : Nat) : FieldRange := ⟨f.addr, 1, 4, f.lsb, lo, hi⟩

/-- A field of a family of registers, from the field of its first one. -/
def each (f : Fld) (count stride lo hi : Nat) : FieldRange := ⟨f.addr, count, stride, f.lsb, lo, hi⟩

/-- The largest value of any field. -/
def anyMax : Nat := 0xFFFFFFFF

/-- The ranges of R202, R243, R649, R680, R731. -/
def systemRanges : List FieldRange :=
  [only F.CLK_REF_CFG_P0 0 2, only F.CLK_REF_CFG_P1 0 2, only F.CLK_REF_CFG_P2 0 2, only F.CLK_REF_CFG_INSRC 0 2,
   only F.CLK_REF_CFG_INBW 0 2, only F.CLK_MON_CFG_WIN 20 500, only F.CLK_MON_CFG_DWELL 1 100,
   only F.CLK_MON_CFG_RETURN 1 255, only F.CLK_AON_CMP_VALUE 1 anyMax,
   only F.SYS_WDOG_CTL_TIMEOUT 1 1023, only F.PWR_BO_WARN 45 120, only F.PWR_TEMP_WARN 85 140,
   only F.PWR_SEQ_PGTO 3 255, only F.PWR_SEQ_GAP 1 255, only F.PWR_PCHG_TIMEOUT 1 255, only F.PWR_PCHG_SETTLE 1 255,
   only F.PWR_PCHG_OVERLAP 1 255, only F.PWR_PRES_DEB 1 255,
   only F.TXN_CWIN_LEN_WORDS 0 1024, only F.TXN_SETTLE_BLOCKS 1 255, only F.TXN_CREQ_OPCODE 0x60 0x63,
   only F.SED_CFG_PERSIST 0 5, only F.SED_CFG_ECCMAX 1 255, only F.SED_SW_CTL_SEV 0 2, only F.NVC_CFG_WEARLIM 1 1000,
   each (F.HP_CFG_RETX 0) 2 0x10000 1 255]

/-- The ranges of R286, R287, R336, R337. -/
def signalRanges : List FieldRange :=
  [each (F.INP_PORTp_CFG_FORMAT 0) 2 4 0 3, each (F.INP_PORTp_CFG_WIDTH 0) 2 4 0 2, each (F.INP_PORTp_CFG_MRATE 0) 2 4 0 6,
   only F.INP_IEC_CFG_VFRAMES 1 15, only F.INP_IRC_CFG_BW 0 2, only F.INP_IRC_CFG_RCHG 1 255,
   each (F.INP_LANE_n_SRC 0) 32 4 0 4,
   only F.FEN_CAP_CTL_LANE 0 9, only F.FEN_CAP_CTL_STAGE 1 7, only F.FEN_CAP_CTL_TRIG 0 1,
   each (F.FEN_RSH_n_RSH 4) 4 4 100 1000000, only F.FEN_RSH_STK_RSH 100 1000000,
   only F.MOD_CFG_CARRIER 0 2, only F.MOD_REFRESH_N 4 64, only F.MOD_REFRESH_W_COUNT 48 255, only F.MOD_RFF_KMAX 64 255,
   only F.MOD_RFF_KMIN 8 64, only F.MOD_RFF_VREF_VREF 96 520,
   each (F.GDV_OC_n_LEVEL 0) 4 4 10 120, each (F.GDV_OC_n_CBC_MAX 0) 4 4 1 15, only F.GDV_OC_STK_LEVEL 10 120]

/-- The ranges of R374. -/
def guardRanges : List FieldRange :=
  [only F.GRD_CFG_LOOKAHEAD 24 192, only F.GRD_T_BLIND_VALUE 1 255, only F.GRD_BLIND_MARGIN_VALUE 0 50,
   each (F.GRD_n_ELEC_RE0 1) 4 0x100 500 anyMax, each (F.GRD_n_ELEC_ALPHA 1) 4 0x100 3000 4500,
   each (F.GRD_n_TH0_RTV 1) 4 0x100 1 anyMax, each (F.GRD_n_TH0_RTM 1) 4 0x100 1 anyMax,
   each (F.GRD_n_TH1_CTV 1) 4 0x100 1 anyMax, each (F.GRD_n_TH1_CTM 1) 4 0x100 1 anyMax,
   each (F.GRD_n_TH2_TMAX 1) 4 0x100 40 250, each (F.GRD_n_TH2_HORIZON 1) 4 0x100 1 anyMax,
   each (F.GRD_n_TH2_T0 1) 4 0x100 0 60, each (F.GRD_n_TH3_AMB_SRC 1) 4 0x100 0 5,
   each (F.GRD_n_TH3_COLD_OFS 1) 4 0x100 0 100, each (F.GRD_n_M0_BL0 1) 4 0x100 1 anyMax,
   each (F.GRD_n_M0_MMS 1) 4 0x100 1 anyMax, each (F.GRD_n_M1_KMS0 1) 4 0x100 1 anyMax,
   each (F.GRD_n_XLIM_XMAX 1) 4 0x100 10 4000, each (F.GRD_n_XLIM_XMARGIN 1) 4 0x100 128 255,
   each (F.GRD_n_LIM_REL 1) 4 0x100 1 anyMax, each (F.GRD_n_PILOT_FREQ 1) 4 0x100 16 320,
   each (F.GRD_n_PILOT_ITGT 1) 4 0x100 10 200, each (F.GRD_n_PILOT_RATIO 1) 4 0x100 3 40,
   each (F.GRD_n_PWIN_PERIODS 1) 4 0x100 1 anyMax, each (F.GRD_n_BB_FLO 1) 4 0x100 20 1000,
   each (F.GRD_n_BB_FHI 1) 4 0x100 100 4000, each (F.GRD_n_CONF_IREF 1) 4 0x100 1 anyMax,
   each (F.GRD_n_CONF_SPREAD 1) 4 0x100 1 anyMax, each (F.GRD_n_RES_RANGE 1) 4 0x100 1 50]

/-- The ranges of R399, R434. -/
def loadRanges : List FieldRange :=
  [only F.DIAG_CFG_ITEST 0 2, only F.DIAG_PRE_RAMP 1 255, only F.DIAG_PRE_HOLD 1 255, only F.DIAG_PRE_AVG 1 63,
   only F.DIAG_DC_CFG_FC 0 2, only F.DIAG_DC_CFG_LEVEL 10 120, only F.DIAG_DC_TIME_TIME 5 200, only F.DIAG_LC_COUNT 1 15,
   only F.DIAG_SWEEP_CFG_FSTART 5 anyMax, only F.DIAG_SWEEP_CFG_FSTOP 0 40000, only F.DIAG_SWEEP_LVL_LEVEL 1 100,
   only F.DIAG_SWEEP_LVL_POINTS 2 64, only F.DIAG_SWEEP_LVL_MEAS 1 255, each (F.DIAG_n_LIMIT_RMIN 1) 4 0x100 10 anyMax,
   only F.RSV_STACK_NCELL 10 32, only F.RSV_STACK_RS 1 anyMax, only F.RSV_ILIM_IMAX 1 anyMax, only F.RSV_HEAT1_RTHS 1 anyMax,
   only F.RSV_HEAT1_CTHS 1 anyMax, only F.RSV_HEAT0_HORIZ 1 anyMax, only F.RSV_SLEW_RISE 1 anyMax,
   only F.RSV_UNK_AGEMAX 1 anyMax, only F.RSV_UNK_CAP 1 anyMax, only F.RSV_VLIM_VFLOOR 20000 anyMax,
   only F.RSV_VLIM_VCEIL 0 46000, only F.RSV_ILIM_EFF 50 100, only F.RSV_HEAT0_TSMAX 40 150, only F.RSV_HEAT0_TDIEMAX 85 145,
   only F.RSV_SLEW_SQMAX 0 60, each (F.RSV_n_LOAD_ZMIN 1) 4 4 500 anyMax, each (F.RSV_n_LMAX_LMAX 1) 4 4 1 0x8000]

/-- The ranges of R485, R567. -/
def linkRanges : List FieldRange :=
  [only F.SHL_CFG_NCOMP 1 64, only F.SHL_TIMING_RTO 1 255, only F.SHL_TIMING_SYNCP 1 255, only F.SHL_TIMING_PROBE 1 255,
   only F.SHL_TIMING_DLYP 1 255, only F.SHL_SAMP_PERIOD 1 anyMax, only F.SHL_SAMP_LEAD 1 255,
   each (F.SHL_Ck_MAP_NCELL 1) 64 0x20 0 18, each (F.SHL_MB_CTL_m_LEN 0) 4 0x10 0 64,
   only F.TRN_RING_PDELAY 58 511, only F.TRN_RING_RECIRC 2 8, only F.TRN_CFG_HEAL 1 255,
   each (F.TRN_TX_i_SRC 0) 16 4 0 2, only F.TRN_APP_TX_LEN 0 256]

/-- The ranges of a block's fields. -/
def blockRanges (a : Nat) : List FieldRange :=
  match a / 0x10000 with
  | 0x4006 | 0x4007 | 0x4008 | 0x4009 => signalRanges
  | 0x400A => guardRanges
  | 0x400B | 0x4005 => loadRanges
  | 0x400C | 0x400D => linkRanges
  | _ => systemRanges

/-- The address is that of register `i` of a family. -/
def inFamily (a base count stride : Nat) : Bool :=
  base ≤ a && (a - base) % stride == 0 && (a - base) / stride < count

/-- The index of the register at an address of a family that begins at `base`. -/
def famIndex (a base stride : Nat) : Nat := (a - base) / stride

/-- The values outside an interval that a single field refuses: a mapped cell count of 1 to 5, a mailbox address of 0
or 65 to 126, a mailbox opcode outside R472, a reserved destination, an override code of 3. -/
def oddReserved (a lsb v : Nat) : Bool :=
  (lsb == 8 && inFamily a (R.SHL_Ck_MAP 1) 64 0x20 && 1 ≤ v && v ≤ 5) ||
  (inFamily a (R.SHL_MB_CTL_m 0) 4 0x10 &&
    ((lsb == 0 && (v == 0 || (65 ≤ v && v ≤ 126))) ||
     (lsb == 8 && !(v == 1 || v == 4 || v == 0x0A || v == 0x0B || v == 0x0D || 0x0F ≤ v)))) ||
  (a == R.TRN_APP_TX && lsb == 0 && 0x81 ≤ v && v ≤ 0xFE) ||
  (a == R.MOD_OVERRIDE && lsb == 8 && (List.range 8).any fun x => v / 4 ^ x % 4 == 3)

/-- The value is a reserved encoding of the field alone. -/
def fieldReserved (a lsb v : Nat) : Bool :=
  ((blockRanges a).any fun r => r.lsb == lsb && inFamily a r.base r.count r.stride && (v < r.lo || r.hi < v)) ||
    oddReserved a lsb v

/-! ### Combinations -/

/-- The master rates of INP_PORTp_CFG.MRATE in Hz. -/
def mrateHz (code : Nat) : Nat := [8000, 16000, 24000, 32000, 48000, 96000, 192000].getD code 192000

/-- The combinations of an input port (R246, R286). -/
def portReserved (r : RegMap) (p : Nat) : Bool :=
  let framed := r.get (F.INP_PORTp_CFG_FORMAT p) ≤ 1
  let slots := r.get (F.INP_PORTp_CFG_SLOTS p) + 1
  let bclk := mrateHz (r.get (F.INP_PORTp_CFG_MRATE p)) * slots * [16, 24, 32].getD (r.get (F.INP_PORTp_CFG_WIDTH p)) 32
  (framed && (slots != 2 || r.get (F.INP_PORTp_CFG_FSINV p) == 1)) ||
    (r.get (F.INP_PORTp_CFG_MASTER p) == 1 && (24576000 < bclk || 24576000 % bclk != 0))

/-- A Tarn entry names a lane that a Tarn slot feeds (R567). -/
def laneLooped (r : RegMap) (i : Nat) : Bool :=
  r.get (F.TRN_TX_i_SRC i) == 1 && r.get (F.INP_LANE_n_SRC (r.get (F.TRN_TX_i_INDEX i))) == 4

/-- The combinations of an input lane (R252, R567). -/
def laneReserved (r : RegMap) (n : Nat) : Bool :=
  let src := r.get (F.INP_LANE_n_SRC n)
  let slot := r.get (F.INP_LANE_n_SLOT n)
  ((src == 1 || src == 2) && 16 ≤ slot) || (src == 3 && 2 ≤ slot) ||
    (List.range 16).any fun i => r.get (F.TRN_TX_i_INDEX i) == n && laneLooped r i

/-- The combinations of the modulator (R290, R308, R326, R336). -/
def modReserved (r : RegMap) : Bool :=
  let P := carrierPeriod (r.get F.MOD_CFG_CARRIER)
  let ph := r.get F.MOD_QUIET_PHASE
  let wd := r.get F.MOD_QUIET_WIDTH
  let dead := r.get F.MOD_DEADTIME_COUNT
  let s := r.get F.MOD_SAFE_LEVEL
  let differ := fun (x y : Nat) => s.testBit x != s.testBit y
  P ≤ ph || P / 4 < wd || P < ph + wd || P / 2 < r.get F.MOD_REFRESH_W_COUNT + 2 * dead ||
    r.get F.MOD_MINPULSE_COUNT < dead + 8 ||
    (r.get F.MOD_CFG_MODE == 1 && (differ 0 2 || differ 1 3 || differ 4 6 || differ 5 7))

/-- The combinations of a Guard channel (R374). -/
def guardChanReserved (r : RegMap) (n : Nat) : Bool :=
  r.get (F.GRD_n_TH2_TMAX n) ≤ r.get (F.GRD_n_TH2_TWARN n) ||
    r.get (F.GRD_n_BB_FHI n) ≤ 2 * r.get (F.GRD_n_BB_FLO n) ||
    (r.get (F.GRD_n_PILOT_EN n) == 1 && 4 * r.get (F.GRD_n_BB_FLO n) < r.get (F.GRD_n_PILOT_FREQ n))

/-- The combinations of the load diagnostics (R399). -/
def diagReserved (r : RegMap) : Bool :=
  r.get F.DIAG_SWEEP_CFG_FSTOP ≤ r.get F.DIAG_SWEEP_CFG_FSTART ||
    [1, 2, 3, 4].any fun n =>
      r.get (F.DIAG_n_LIMIT_RMAX n) ≤ r.get (F.DIAG_n_LIMIT_RMIN n) ||
        3500000 < r.get (F.DIAG_n_LIMIT_RMAX n) * 10 * 25 * 2 ^ r.get F.DIAG_CFG_ITEST

/-- The combinations of the Reservoir (R434). -/
def rsvReserved (r : RegMap) : Bool :=
  r.get F.RSV_VLIM_VCEIL ≤ r.get F.RSV_VLIM_VFLOOR || r.get F.RSV_ECLASS_E2 < r.get F.RSV_ECLASS_E1 ||
    r.get F.RSV_ECLASS_E3 < r.get F.RSV_ECLASS_E2 || r.get F.RSV_HCLASS_H2 < r.get F.RSV_HCLASS_H1 ||
    r.get F.RSV_HCLASS_H3 < r.get F.RSV_HCLASS_H2

/-- The cells that a companion's map covers. -/
def mapCells (r : RegMap) (k : Nat) : Nat × Nat := (r.get (F.SHL_Ck_MAP_BASE k), r.get (F.SHL_Ck_MAP_NCELL k))

/-- The combinations of a companion's map (R485): beyond the 32 cells, or overlapping another map. -/
def mapReserved (r : RegMap) (k : Nat) : Bool :=
  let (b, n) := mapCells r k
  n != 0 && (32 < b + n ||
    ((List.range 64).any fun i =>
      let (b', n') := mapCells r (i + 1)
      i + 1 != k && n' != 0 && b < b' + n' && b' < b + n))

/-- The combinations of a Tarn entry (R567). -/
def txReserved (r : RegMap) (i : Nat) : Bool :=
  let src := r.get (F.TRN_TX_i_SRC i)
  src != 0 && ((src == 2 && 3 < r.get (F.TRN_TX_i_INDEX i)) || laneLooped r i ||
    (List.range 16).any fun j =>
      j != i && r.get (F.TRN_TX_i_SRC j) != 0 && r.get (F.TRN_TX_i_SLOT j) == r.get (F.TRN_TX_i_SLOT i))

/-- The combinations of the coefficient window (R632): its views lie in stream SRAM banks 0 to 5. -/
def windowReserved (r : RegMap) : Bool :=
  let a := r.get F.TXN_CWIN_BASE_ADDR * 16
  a < 0x20000000 || 0x20060000 < a + 12 * r.get F.TXN_CWIN_LEN_WORDS || 0x20060000 ≤ a

/-- The register values that would be in force form a reserved combination that the register at `a` takes part
in. -/
def comboReserved (r : RegMap) (a : Nat) : Bool :=
  match a / 0x10000 with
  | 0x4001 => a == R.CLK_REF_CFG &&
      (r.get F.CLK_REF_CFG_P0 == r.get F.CLK_REF_CFG_P1 || r.get F.CLK_REF_CFG_P0 == r.get F.CLK_REF_CFG_P2 ||
        r.get F.CLK_REF_CFG_P1 == r.get F.CLK_REF_CFG_P2)
  | 0x4004 => 0x40040200 ≤ a && a < 0x40040300 &&
      (r.get (F.WEIR_PER_t_PERIOD ((a - 0x40040200) / 4)) != 0 &&
        r.get (F.WEIR_PER_t_PERIOD ((a - 0x40040200) / 4)) ≤ r.get (F.WEIR_PER_t_PHASE ((a - 0x40040200) / 4)))
  | 0x4005 => a < 0x40050040 && rsvReserved r
  | 0x4006 =>
    if a < 0x40060008 then portReserved r ((a - 0x40060000) / 4)
    else inFamily a (R.INP_LANE_n 0) 32 4 && laneReserved r (famIndex a (R.INP_LANE_n 0) 4)
  | 0x4008 => modReserved r
  | 0x400A =>
    if a == R.GRD_T_BLIND || a == R.GRD_T_BLIND_LONG then
      r.get F.GRD_T_BLIND_LONG_VALUE * 10 ≤ r.get F.GRD_T_BLIND_VALUE
    else 0x400A0100 ≤ a && guardChanReserved r (a / 0x100 % 0x100)
  | 0x400B => diagReserved r
  | 0x400C => 0x400C0100 ≤ a && (a - 0x400C0100) % 0x20 == 0 && mapReserved r ((a - 0x400C0100) / 0x20 + 1)
  | 0x400D => inFamily a (R.TRN_TX_i 0) 16 4 && txReserved r (famIndex a (R.TRN_TX_i 0) 4)
  | 0x400E | 0x400F =>
    let b := r.get (F.HP_FW_BUF_ADDR (a / 0x10000 - 0x400E)) * 4
    a % 0x10000 == 0x30 && !(0x10000000 ≤ b && b + 1041 ≤ 0x10180000)
  | 0x4010 => (a == R.TXN_CWIN_BASE || (a == R.TXN_CWIN_LEN && r.get F.TXN_CWIN_LEN_WORDS != 0)) && windowReserved r
  | _ => false

/-! ### Fields that act, and registers that judge their write by the state -/

/-- The write is a reserved encoding of an acting field, or its register refuses it in the present state. `priv` is the
level of a core (R801); it is true for a host. -/
def Device.actReserved (d : Device) (m : Master) (priv : Bool) (a : Nat) (w : Word) : Bool :=
  let v := w.toNat
  let bit := fun (i : Nat) => w.getLsbD i
  if a == R.SYS_RST_REQ then v % 65536 != 0xA5C3
  else if a == R.SYS_CORE_RST then
    v / 256 % 256 != 0x3C || (bit 0 && bit 1) || (m == .c0 && bit 0) || (m == .c1 && bit 1)
  else if a == R.SYS_WDOG_KICK then v % 65536 != 0xC35A
  else if a == R.PWR_CMD then 0xA ≤ v % 16
  else if inFamily a (R.EVC_DONE_x 0) 4 4 then 128 ≤ v % 256
  else if inFamily a (R.EVC_SRC_n 0) 128 4 then
    let n := famIndex a (R.EVC_SRC_n 0) 4
    if h : n < 128 then (d.source ⟨n, h⟩).st != .idle && d.counted n != bit 8 else false
  else if 0x40040100 ≤ a && a < 0x40040300 then d.taskState (a / 4 % 64) != 0
  else if a == R.MOD_OVERRIDE then bit 0 && !(d.running && d.isState 2 && d.diag.run.isNone)
  else if a == R.DIAG_CMD then
    (v % 4 == 1 || v % 4 == 2) && !d.diagMayStart (v % 4 == 2) (v / 256 % 16)
  else if inFamily a (R.SHL_MB_CTL_m 0) 4 0x10 then
    let st := d.get (F.SHL_MB_RES_m_STATE (famIndex a (R.SHL_MB_CTL_m 0) 0x10))
    bit 31 && (st == 1 || st == 2)
  else if a == R.TRN_APP_TX then bit 31 && d.get F.TRN_APP_TX_STATE == 1
  else if a == R.HP_FW_CTL 0 || a == R.HP_FW_CTL 1 then
    let x := if a == R.HP_FW_CTL 0 then 0 else 1
    let rlen := v / 65536 % 2048
    rlen < 4 || 1024 < rlen || (bit 1 && !d.flag (F.HP_FW_CTL_PEND x))
  else if a == R.TXN_CREQ then
    !priv || (bit 31 && (d.get F.TXN_CRES_STATE == 1 || d.get F.TXN_CRES_STATE == 2))
  else if a == R.SED_ACK then d.ackReserved v
  else if a == R.SED_SW_CTL then !priv || (bit 31 && (m.isHost || d.softPending))
  else if a == R.SED_SOFTFLT then m.isHost || v % 65536 != 0x6C0D
  else if a == R.SEC_CONFIRM then m.isHost || !priv || v % 65536 != 0x7E11
  else if a == R.NVC_REQ then !priv || (bit 0 && d.nvcReqReserved)
  else false

end Sys2Proof.Machine
end

