-- ==== Sys2Proof/Machine/WindowOps.lean ====
section
/-! DEFINITION. Staged words and versions (R618, R622), the claims of transactions (R626, R638) and the coefficient
window with its three views and physical copies (R632 to R634). -/

namespace Sys2Proof.Machine

/-! ### Staged entries (R618) -/

/-- SPACE of an entry: 0 peripheral blocks, 1 the coefficient window. -/
def Entry.space (e : Entry) : Nat := e.key.toNat / 0x400000 % 4

/-- LSB of an entry. -/
def Entry.lsb (e : Entry) : Nat := e.key.toNat / 0x1000000 % 32

/-- The address of the word that an entry names. -/
def Entry.addr (e : Entry) : Nat :=
  (if e.space == 1 then 0x20000000 else 0x40000000) + e.key.toNat % 0x400000 / 4 * 4

/-- Does the entry name a word of the coefficient window? -/
def Entry.window (e : Entry) : Bool := e.space == 1

/-! ### Versions and stamps (R622) -/

/-- The version in force: epoch and revision. -/
def Device.version (d : Device) : Nat × Nat := (d.epoch, d.get F.TXN_REV_REV)

/-- The stamp of a word. -/
def Device.stampOf (d : Device) (a : Nat) : Nat × Nat := Store.get (fun _ => (0, 0)) d.stamps a

/-- A word takes the version in force as its stamp. -/
def Device.stampWord (d : Device) (a : Nat) : Device :=
  { d with stamps := Store.set (fun _ => (0, 0)) d.stamps a d.version }

/-- Is one version later than another? -/
def laterVersion (v w : Nat × Nat) : Bool := w.1 < v.1 || (w.1 == v.1 && w.2 < v.2)

/-- The revision increments, up to its largest value. -/
def Device.nextRevision (d : Device) : Device := d.bump F.TXN_REV_REV

/-! ### Claims (R626) -/

/-- A transaction claims its staged words from B1 on. -/
def Flight.claims (f : Flight) : Bool :=
  match f.phase with
  | .toWave2 | .toWave3 _ => true
  | _ => false

/-- The transactions in flight. -/
def Device.flights (d : Device) : List Flight := d.txn.flight.toList.filterMap id

/-- A word is claimed by a transaction in flight. -/
def Device.claimed (d : Device) (a : Nat) : Bool :=
  d.flights.any fun f => f.claims && f.entries.any fun e => !e.entry.window && e.entry.addr == a

/-- The coefficient window is claimed. -/
def Device.winClaimed (d : Device) : Bool :=
  d.flights.any fun f => f.claims && f.entries.any fun e => e.entry.window

/-! ### The coefficient window (R632 to R634) -/

/-- The three views. -/
inductive WinView where
  | cur | old | next
  deriving DecidableEq, Repr

/-- The length of the window in words; 0 while it is disabled. -/
def Device.winLen (d : Device) : Nat := d.get F.TXN_CWIN_LEN_WORDS

/-- The base of the window. -/
def Device.winBase (d : Device) : Nat := d.get F.TXN_CWIN_BASE_ADDR * 16

/-- The view and the word of the window that an address names. -/
def Device.windowAt (d : Device) (a : Nat) : Option (WinView × Nat) :=
  let l := d.winLen
  let b := d.winBase
  if l == 0 || a < b || b + 12 * l ≤ a then none
  else
    let i := (a - b) / 4
    some (if i < l then .cur else if i < 2 * l then .old else .next, i % l)

/-- The copy prepared for a transaction in flight. -/
def Device.preparedCopy (d : Device) : Option Nat := d.flights.findSome? fun f => f.copy

/-- The physical copies that no view in force and no transaction uses, smallest first. -/
def Device.freeCopies (d : Device) : List Nat :=
  (List.range 3).filter fun k =>
    k != d.get F.TXN_CWIN_STAT_CUR && k != d.get F.TXN_CWIN_STAT_OLD && !d.flights.any fun f => f.copy == some k

/-- The physical copy behind a view; while none is prepared, NEXT shows the smallest copy that is neither CUR nor OLD. -/
def Device.viewCopy (d : Device) : WinView → Nat
  | .cur => d.get F.TXN_CWIN_STAT_CUR
  | .old => d.get F.TXN_CWIN_STAT_OLD
  | .next => (d.preparedCopy).getD (d.freeCopies.headD 2)

/-- The address of word `i` of physical copy `k`. -/
def Device.copyAddr (d : Device) (k i : Nat) : Nat := d.winBase + 4 * (d.winLen * k + i)

/-- The memory word behind an address of stream SRAM. -/
def Device.physical (d : Device) (a : Nat) : Nat :=
  match d.windowAt a with
  | some (v, i) => d.copyAddr (d.viewCopy v) i + a % 4
  | none => a

/-- May a word of the CUR view be written directly (R633)? -/
def Device.winWritable (d : Device) (v : WinView) : Bool := v == .cur && !d.inPlay && !d.winClaimed

/-- A direct write to the CUR view: all three copies, and a revision (R633, R622). -/
def Device.winWrite (d : Device) (i : Nat) (w : Word) : Device :=
  let d := (List.range 3).foldl (fun d k => d.storeWord (d.copyAddr k i) w) d
  let d := d.nextRevision
  { d with txn.winStamp := d.version }

end Sys2Proof.Machine
end

