-- ==== Sys2Proof/Machine/BusRead.lean ====
section
/-! DEFINITION. Reads over the bus: memory, the NVS read window, and the registers with their side effects (R51,
R58, R59, R632, R685, R735). Whether a master may read an address is judged before. -/

namespace Sys2Proof.Machine

/-! ### Memory -/

/-- A read of stream SRAM, through the views of the coefficient window. -/
def Device.streamRead (d : Device) (a : Nat) : Option Word × Device := d.readChecked (d.physical a)

/-- The line of the boot area has been written, at manufacture or since (R736). -/
def Device.bootLineWritten (d : Device) (o : Nat) : Bool :=
  o < 0x1C0 || (o < 0x200 && d.nvs.imageKey.isSome) || (0xFF80 ≤ o && 0 < d.wearOf o)

/-- The word at an offset of the NVS: the records of the boot area have no layout in the manual. -/
def Device.nvsWordAt (d : Device) (o : Nat) : Word :=
  if o < 0x10000 then
    if d.bootLineWritten o then Config.bootAreaWord o (d.wearOf o) else 0xFFFFFFFF
  else d.memWord (0x30000000 + o)

/-- A read of the NVS read window (R685). -/
def Device.nvsRead (d : Device) (a : Nat) : Option Word × Device :=
  let o := (a - 0x30000000) / 4 * 4
  match d.nvs.ecc.lookup (nvsWord a) with
  | none => (some (d.nvsWordAt o), d)
  | some (some n) =>
    (some (d.nvsWordAt o),
      (d.orField F.NVC_EVT_EVT 8).raise 12 0 (leBytes 4 (nvsWord a) ++ leBytes 1 n.val))
  | some none => (none, d.nvsErr (nvsWord a))

/-! ### Registers whose value is computed -/

/-- A word from fields: position and value. -/
def packWord (fs : List (Nat × Nat)) : Word := BitVec.ofNat 32 ((fs.map fun f => f.2 * 2 ^ f.1).sum)

/-- The output queue through which the response of a command leaves has room for 1,040 bytes (R573). -/
def Device.outRoom (d : Device) (c : Client) (k : Cmd) : Bool :=
  match k.origin with
  | .port => (d.port c).outBytes + 1040 ≤ 4096
  | .loc c' => (d.port c').outBytes + 1040 ≤ 4096
  | _ => true

/-- The head of a client's queue waits for room (R573). -/
def Device.stalled (d : Device) (c : Client) : Bool :=
  match (d.port c).queue with
  | k :: _ => !(d.port c).busy && !d.outRoom c k
  | [] => false

/-- HPx_QSTAT. -/
def Device.qstat (d : Device) (c : Client) : Word :=
  let h := d.port c
  packWord [(0, h.queue.length % 16), (16, h.outBytes % 8192), (31, (d.stalled c).toNat)]

/-- HPx_CONV. -/
def Device.convWord (d : Device) (c : Client) : Word :=
  packWord (((d.port c).convs.toList.zipIdx).flatMap fun p =>
    [(p.2, if p.1.kind == 0 then 0 else 1), (8 + 2 * p.2, p.1.kind % 4)])

/-- TXN_CLIENT_c (R649). -/
def Device.txnClient (d : Device) (c : Client) : Word :=
  let n := (d.txn.stage.toList.getD c.idx []).length
  let (st, next) := match d.txn.flight.toList.getD c.idx none with
    | none => (0, 0)
    | some f =>
      match f.phase with
      | .judged => (0, 0)
      | .armed _ => (1, 1)
      | .toWave2 => (2, 2)
      | .toWave3 _ => (2, 3)
  packWord [(0, n), (12, st), (16, next)]

/-- The semaphores that a core holds. -/
def Device.semHeld (d : Device) (c : CoreId) : Word :=
  BitVec.ofNat 32 (((List.range 32).map fun n => if d.get (F.SEM_n_OWNER n) == c.owner then 2 ^ n else 0).sum)

/-- TXN_CWIN_STAT. -/
def Device.cwinStat (d : Device) : Word :=
  packWord [(0, d.get F.TXN_CWIN_STAT_CUR), (2, d.get F.TXN_CWIN_STAT_OLD), (4, d.preparedCopy.isSome.toNat),
    (5, d.winClaimed.toNat)]

/-- The value of a register as a read returns it, side effects apart. -/
def Device.regValue (d : Device) (a : Nat) : Word :=
  let w := d.word a
  let idx := fun (base : Nat) => (a - base) / 4
  match a / 0x10000 with
  | 0x4003 =>
    if inFamily a (R.EVC_SRCSTAT_n 0) 128 4 then
      (if h : idx (R.EVC_SRCSTAT_n 0) < 128 then d.srcStat ⟨idx (R.EVC_SRCSTAT_n 0), h⟩ else 0)
    else if inFamily a (R.EVC_TGT_STAT_x 0) 4 4 then
      (if h : idx (R.EVC_TGT_STAT_x 0) < 4 then d.tgtStat ⟨idx (R.EVC_TGT_STAT_x 0), h⟩ else 0)
    else if inFamily a (R.EVC_PSETi 0) 4 4 then d.pendWord (idx (R.EVC_PSETi 0))
    else if inFamily a (R.EVC_PCLRi 0) 4 4 then d.pendWord (idx (R.EVC_PCLRi 0))
    else w
  | 0x4004 =>
    if inFamily a (R.WEIR_READYi 0) 2 4 then d.readyWord (idx (R.WEIR_READYi 0))
    else if inFamily a (R.WEIR_CANCELi 0) 2 4 then d.readyWord (idx (R.WEIR_CANCELi 0))
    else if inFamily a (R.WEIR_STAT_t 0) 64 4 then putField w 3 1 (d.permitted (idx (R.WEIR_STAT_t 0))).toNat
    else w
  | 0x400A =>
    if d.pbtl2 && 0x400A0300 ≤ a && a < 0x400A0500 && 0x80 ≤ a % 0x100 then 0 else w
  | 0x4008 => if a == R.MOD_STAT then putField w 0 4 d.runMask else w
  | 0x400E | 0x400F =>
    let c : Client := if a / 0x10000 == 0x400E then .a else .b
    if a == R.HP_QSTAT c.idx then d.qstat c
    else if a == R.HP_CONV c.idx then d.convWord c
    else if a == R.HP_NTF c.idx then putField w 16 4 (d.port c).ntf.length
    else w
  | 0x4010 =>
    if a == R.TXN_CLIENT_c 0 then d.txnClient .a
    else if a == R.TXN_CLIENT_c 1 then d.txnClient .b
    else if a == R.TXN_CWIN_STAT then d.cwinStat
    else w
  | 0x4011 => if a == R.SED_QSTAT then packWord [(0, d.sed.wq.length), (16, d.sed.pq.length)] else w
  | 0x4012 =>
    if a == R.SEC_TAGL then BitVec.ofNat 32 ownTag
    else if a == R.SEC_TAGH then BitVec.ofNat 32 (ownTag / 2 ^ 32)
    else if inFamily a (R.SEC_PUBK_i 0) 16 4 then
      BitVec.ofNat 32 (ofLe ((ownKeyBytes.drop (a - R.SEC_PUBK_i 0)).take 4))
    else if a == R.SEC_RNGSTAT then 1
    else w
  | 0x4013 => if a == R.NVC_WQCNT then BitVec.ofNat 32 (d.wearOf (d.get F.NVC_WQ_LINE * 64)) else w
  | 0x4014 =>
    if a == R.SEM_HELD_C0 then d.semHeld .c0
    else if a == R.SEM_HELD_C1 then d.semHeld .c1
    else if a == R.SEM_HELD_S then d.semHeld .s
    else w
  | _ => w

/-- The state registers that the S state window reaches (R87): those of S, by number. -/
def sListed (n : Nat) : Bool := n == 0 || n == 1 || n == 8 || n == 9 || (0x20 ≤ n && n ≤ 0x2B)

/-- A read of a core's ST_CYCLE latches the high half of the counter (R45). -/
def Device.readCycle (d : Device) (c : CoreId) : Word × Device :=
  let n := (d.core c).cycles.toNat
  (BitVec.ofNat 32 n, d.cput c F.ST_CYCLEH_HIGH (n / 2 ^ 32))

/-- The number of the state register at an address of the S state window, the 256 bytes from 0x2006_5000 (R87). -/
def sIndex (a : Nat) : Nat := a % 256 / 4

/-- A read through the S state window. -/
def Device.sRead (d : Device) (a : Nat) : Word × Device :=
  let n := sIndex a
  if n == 0 then (0x102, d)
  else if n == 1 then (BitVec.ofNat 32 (d.cget .s F.ST_STATUS_SAT * 256), d)
  else if n == 8 then d.readCycle .s
  else if sListed n then (d.sc.st.word (a / 4 * 4), d)
  else (0, d)

/-- Which event unit's CLAIM register stands at an address, if one does (R138). -/
def claimIndex (a : Nat) : Option (Fin 4) := (List.finRange 4).find? fun i => a == R.EVC_CLAIM_x i.val

/-- A read of a register, with its side effects. Reserved bits and write-only fields are never stored, so they read
zero (R7, R12), and so does an unassigned address. -/
def Device.regRead (d : Device) (a : Nat) : Word × Device :=
  if a == R.SYS_REJECT_ADDR then
    (d.word a, (d.setWord R.SYS_REJECT_ADDR 0).setWord R.SYS_REJECT_CNT 0)
  else
    match claimIndex a with
    | some i => d.claim i
    | none =>
      if a == R.CLK_RT_SUB then d.readRingTime
      else if a == R.SEC_RNG then (Config.freeWord d.freshN, { d with freshN := d.freshN + 1 })
      else (d.regValue a, d)

/-- A read of the word at `a`, which lies in region `r`. -/
def Device.regionRead (d : Device) (a : Nat) (r : Region) : Option Word × Device :=
  match r with
  | .bootRom => (some (Config.romWord a), d)
  | .coreSram | .guardLines | .inWindows | .outWindow | .blockDesc | .bank7 => d.readChecked a
  | .streamLow => d.streamRead a
  | .sWindow => let r := d.sRead a; (some r.1, r.2)
  | .nvs => d.nvsRead a
  | .periph => let r := d.regRead a; (some r.1, r.2)
  | .bank6Other | .none => (some 0, d)

/-- A read of the word at an address, by any master that the map lets read it. None is an uncorrectable error. -/
def Device.busRead (d : Device) (a : Nat) : Option Word × Device := d.regionRead (wordAddr a) (regionOf (wordAddr a))

/-- A register-read command: the word stays with the master. -/
def Device.readCommand (d : Device) (a : Nat) : Device :=
  if d.coreRuns then
    let r := d.busRead a
    { r.2 with lastRead := r.1.getD 0 }
  else d

end Sys2Proof.Machine
end

