-- ==== Sys2Proof/Machine/CoreIssue.lean ====
section
/-! DEFINITION. What every Opcia instruction goes through: the checks of its fetch (R49, R51, R52), of
its class (R93), and its retirement (R46, R67, R127). -/

namespace Sys2Proof.Machine

/-- The kinds of access. -/
inductive AccessKind where
  | read | write | fetch
  deriving DecidableEq, Repr

/-- What the fixed map answers. -/
inductive MapAnswer where
  | allow | deny | absent
  deriving DecidableEq, Repr

/-- The fixed map of R51 for C0 and C1. -/
def fixedMapControl (r : Region) (k : AccessKind) : MapAnswer :=
  match r, k with
  | .none, _ => .absent
  | .bootRom, .write => .deny
  | .bootRom, _ => .allow
  | .coreSram, _ => .allow
  | .streamLow, .fetch => .deny
  | .streamLow, _ => .allow
  | .sWindow, .fetch => .deny
  | .sWindow, _ => .allow
  | .bank6Other, .fetch => .deny
  | .bank6Other, _ => .allow
  | .periph, .fetch => .deny
  | .periph, _ => .allow
  | .guardLines, k | .inWindows, k | .outWindow, k | .blockDesc, k | .bank7, k | .nvs, k =>
    if k = .read then .allow else .deny

/-- The fixed map of R51 for S: an absent address counts as a denied one. -/
def fixedMapStream (r : Region) (k : AccessKind) : MapAnswer :=
  match r, k with
  | .streamLow, _ => .allow
  | .inWindows, .read | .outWindow, .read | .outWindow, .write | .blockDesc, .read => .allow
  | _, _ => .deny

/-- The fixed map for a core. -/
def fixedMap (c : CoreId) (r : Region) (k : AccessKind) : MapAnswer :=
  match c with
  | .s => fixedMapStream r k
  | _ => fixedMapControl r k

/-- The core's current level: true for PRIV (R44). -/
def Device.atPriv (d : Device) (c : CoreId) : Bool := d.cget c F.ST_STATUS_PRIV == 1

/-- Does a protection region grant a kind of access at a level (R52)? -/
def MpuRegion.grants (r : MpuRegion) (k : AccessKind) (priv : Bool) : Bool :=
  match k, priv with
  | .read, true => r.attr.getLsbD 1
  | .write, true => r.attr.getLsbD 2
  | .fetch, true => r.attr.getLsbD 3
  | .read, false => r.attr.getLsbD 4
  | .write, false => r.attr.getLsbD 5
  | .fetch, false => r.attr.getLsbD 6

/-- Does a valid region contain an address (R52)? -/
def MpuRegion.contains (r : MpuRegion) (a : Nat) : Bool :=
  r.attr.getLsbD 0 && r.base.toNat / 256 * 256 ≤ a && a ≤ r.limit.toNat / 256 * 256 + 255

/-- The protection of R52 at a level: the first valid region that contains the address decides. -/
def Device.mpuAllows (d : Device) (c : CoreId) (a : Nat) (k : AccessKind) (priv : Bool) : Bool :=
  d.cget c F.ST_MPU_CTL_EN == 0 ||
    match (d.core c).mpu.toList.find? fun r => r.contains a with
    | some r => r.grants k priv
    | none => priv && d.cget c F.ST_MPU_CTL_PRIVDEF == 1

/-- The answer of the fixed map and, on C0 and C1, of the protection regions. -/
def Device.accessAnswer (d : Device) (c : CoreId) (a : Nat) (k : AccessKind) : MapAnswer :=
  match fixedMap c (regionOf a) k with
  | .allow => if c.isControl && !d.mpuAllows c a k (d.atPriv c) then .deny else .allow
  | r => r

/-- The cause that the fetch of the instruction at the program counter meets, if any. ECC_FETCH stands
first (R49). -/
def Device.fetchCause (d : Device) (c : CoreId) : Option CoreFault × Device :=
  let pc := (d.core c).pc
  let a := pc.toNat
  let (bad, d') : Bool × Device :=
    if fixedMap c (regionOf a) .fetch = .allow && isSram a then
      let r := d.readChecked a
      (r.1.isNone, r.2)
    else (false, d)
  if bad then (some (.eccFetch pc), d')
  else
    match d.accessAnswer c a .fetch with
    | .allow => (none, d')
    | .deny => (some (.fetchDenied pc), d')
    | .absent => (some (.busError pc false), d')

/-- The classes of R93: every core, the stream core alone, C0 and C1 at PRIV alone. -/
inductive InsnClass where
  | all | stream | control
  deriving DecidableEq, Repr

/-- The cause that an instruction's class meets on a core (R93). -/
def Device.classCause (d : Device) (c : CoreId) (k : InsnClass) : Option CoreFault :=
  match k with
  | .all => none
  | .stream => if c = .s then none else some .undef
  | .control => if c = .s then some .priv else if d.atPriv c then none else some .priv

/-- How an instruction ends: it retires and goes on with the next one, it retires and goes to a target, it meets a
cause, or the core has stopped executing under it (an earlier store of the core completed and reset the device). -/
inductive Retire where
  | ok (d : Device)
  | jump (d : Device) (pc : Word)
  | stop (d : Device) (f : CoreFault)
  | gone (d : Device)

/-- The device after the end of an instruction. -/
def Retire.finish (r : Retire) (c : CoreId) : Device :=
  match r with
  | .ok d => d.advance c
  | .jump d pc => d.setPc c pc
  | .stop d f => d.coreFault c f
  | .gone d => d

/-- The end of an instruction that has waited for earlier stores of its core. -/
def Device.after (d : Device) (c : CoreId) (r : Device → Retire) : Retire :=
  if d.executing c then r d else .gone d

/-- Runs one instruction of a core. A core that is not executing does nothing, and an instruction that S would run at the
deadline of its block does not retire (R76). An event due at the
instruction boundary is taken before it (R49). `reserved` says that the form carries a reserved field
value (R92). -/
def Device.issue (d : Device) (c : CoreId) (k : InsnClass) (reserved : Bool) (body : Device → Retire) :
    Device :=
  if !d.executing c then d
  else if d.atDeadline c then d.streamOverrun
  else if d.eventDue c then d.takeEvent c
  else
    match d.fetchCause c with
    | (some f, d) => d.coreFault c f
    | (none, d) =>
      if reserved then d.coreFault c .undef
      else
        match d.classCause c k with
        | some f => d.coreFault c f
        | none => (body d).finish c

end Sys2Proof.Machine
end

