-- ==== Sys2Proof/Machine/BusWrite.lean ====
section
/-! DEFINITION. Writes over the bus: the judgement of R12, R14, R15, R638, the effect of each access code (R7), the
actions of registers, and how the blocks take up a changed word, whether a direct write or a commit wave changed
it. -/

namespace Sys2Proof.Machine

/-! ### The judgement of a register write -/

/-- A field that only a transaction changes in PLAY (R8, R9). -/
def FieldSpec.guarded (f : FieldSpec) : Bool := f.acc == .txn || (f.acc == .rw && f.dir == .fix)

/-- A field that a write sets to its value. -/
def FieldSpec.settable (f : FieldSpec) : Bool := f.acc == .rw || f.acc == .txn

/-- The bits of a register's fields of a kind. -/
def RegSpec.mask (r : RegSpec) (p : FieldSpec → Bool) : Word :=
  r.fields.foldl (fun m f => if p f then m ||| fieldMask f.lsb f.width else m) 0

/-- The word with the settable fields of a write. -/
def RegSpec.setFields (r : RegSpec) (old w : Word) : Word :=
  let m := r.mask FieldSpec.settable
  (old &&& ~~~m) ||| (w &&& m)

/-- The registers of which a core may clear nothing (R228, R310, R381, R652): PWR_FAULT, the faults of GDV, DIAG_HOLD,
SED_SYSFAULT. A write of 1 that would clear a bit of PWR_FAULT, or of 1 at all to a bit of the others, is rejected. -/
def Device.hostOnlyClear (d : Device) (m : Master) (a : Nat) (w : Word) : Bool :=
  !m.isHost &&
    (if a == R.PWR_FAULT then d.word a &&& w &&& 0x1FF != 0
     else if a == R.GDV_FAULT then w &&& 7 != 0
     else if inFamily a (R.GDV_CH_FAULT_n 0) 4 4 || a == R.DIAG_HOLD || a == R.SED_SYSFAULT then w &&& 0xF != 0
     else false)

/-- The write carries a reserved encoding, alone or in combination, or meets a register that refuses it (R12, R14). -/
def Device.writeReserved (d : Device) (m : Master) (priv : Bool) (r : RegSpec) (a : Nat) (w : Word) : Bool :=
  let new := r.setFields (d.word a) w
  d.actReserved m priv a w || d.hostOnlyClear m a w ||
    (r.fields.any fun f => f.settable && fieldReserved a f.lsb (fieldOf w f.lsb f.width)) ||
    (r.fields.any FieldSpec.settable && comboReserved (d.regs.setWord a new) a)

/-- Some field that only a transaction changes in PLAY differs from its current value. -/
def Device.guardedChange (d : Device) (r : RegSpec) (a : Nat) (w : Word) : Bool :=
  (d.word a ^^^ w) &&& r.mask FieldSpec.guarded != 0

/-! ### How the blocks take up a changed word -/

/-- The blocks react to the settable fields of the word at `a`, which held `old`. -/
def Device.wordApplied (d : Device) (a : Nat) (old : Word) : Device :=
  let changed := d.word a != old
  match a / 0x10000 with
  | 0x4001 => if a == R.CLK_REF_CFG && (d.word a ^^^ old) &&& 0x33F != 0 then { d with clk.cfgChanged := true } else d
  | 0x4002 => if a == R.PWR_CTL then d.mainPermission else d
  | 0x4003 =>
    if inFamily a (R.EVC_TGT_MOD_x 0) 4 4 then
      let x := famIndex a (R.EVC_TGT_MOD_x 0) 4
      if h : x < 4 then d.moderationWritten ⟨x, h⟩ else d
    else d.reconsider
  | 0x4006 =>
    if !changed then d
    else if a == R.INP_PORTp_CFG 0 then d.groupChanged 0
    else if a == R.INP_PORTp_CFG 1 then d.groupChanged 1
    else if a == R.INP_IEC_CFG then d.groupChanged 2
    else if inFamily a (R.INP_LANE_n 0) 32 4 then
      let n := famIndex a (R.INP_LANE_n 0) 4
      if h : n < 32 then
        { d with inp.hold := d.inp.hold.set n 0, inp.rampFrom := d.inp.rampFrom.set n 0, trn.lanes := d.trn.lanes.set n .idle }
      else d
    else d
  | 0x4008 => if a == R.MOD_OVERRIDE then d.overrideChanged old else d
  | 0x4009 =>
    if inFamily a (R.GDV_OC_n 0) 4 4 then
      let n := famIndex a (R.GDV_OC_n 0) 4
      if h : n < 4 then d.ocWritten ⟨n, h⟩ else d
    else if a == R.GDV_EXT && changed && d.flag F.GDV_STAT_FAULT_N then d.extFault
    else d
  | 0x400C => if a == R.SHL_CFG then d.shlRole else d
  | 0x400D =>
    if a == R.TRN_CFG then
      let d := if fieldOf old 0 1 == 1 && !d.flag F.TRN_CFG_EN then d.leaveRing 2 else d
      d.trnModeUpdate
    else if a == R.TRN_RING && changed then d.ringParams
    else if inFamily a (R.TRN_TX_i 0) 16 4 && changed then
      let i := famIndex a (R.TRN_TX_i 0) 4
      if d.trn.stopped.testBit i then { d with trn.stopped := d.trn.stopped - 2 ^ i } else d
    else d
  | _ => d

/-! ### The actions of WO, W1S and W1C fields -/

/-- Clears the fields of a counter register. -/
def Device.zeroFields (d : Device) (fs : List Fld) : Device := fs.foldl (fun d f => d.put f 0) d

/-- A write of 1 to a CLR field (R286, R287, R336, R337, R374, R485, R567, R617, R680, R681). SEM_BRKCNT obeys C0 and C1
alone. -/
def Device.clearCounts (d : Device) (m : Master) (a : Nat) (w : Word) : Device :=
  let top := w.getLsbD 31
  if inFamily a (R.TRN_LANEERR_n 0) 32 4 then
    if top then d.put (F.TRN_LANEERR_n_COUNT (famIndex a (R.TRN_LANEERR_n 0) 4)) 0 else d
  else if inFamily a (R.FEN_SAT_n 0) 10 4 then
    let n := famIndex a (R.FEN_SAT_n 0) 4
    if top then d.zeroFields [F.FEN_SAT_n_COUNT n, F.FEN_SAT_n_STAGES n] else d
  else if inFamily a (R.GRD_n_X 1) 4 0x100 then
    if top then d.put (F.GRD_n_X_XPK (famIndex a (R.GRD_n_X 1) 0x100 + 1)) 0 else d
  else if a == R.INP_IEC_STAT then if w.getLsbD 15 then d.put F.INP_IEC_STAT_PARITY 0 else d
  else if a == R.INP_SLIPCNT then if top then d.put F.INP_SLIPCNT_COUNT 0 else d
  else if a == R.MOD_RFF_LIMCNT then if top then d.put F.MOD_RFF_LIMCNT_COUNT 0 else d
  else if a == R.GDV_OC_CNT then if top then d.put F.GDV_OC_CNT_COUNT 0 else d
  else if a == R.SHL_CNT2 then
    if top then d.zeroFields [F.SHL_CNT_HCRC, F.SHL_CNT_RETRY, F.SHL_CNT2_SKIP, F.SHL_CNT2_PCRC] else d
  else if a == R.TRN_CNT_CLR then
    if w.getLsbD 0 then ((d.setWord R.TRN_CRC_W 0).setWord R.TRN_CRC_E 0).setWord R.TRN_MSGCNT 0 else d
  else if a == R.HP_CNT2 0 || a == R.HP_CNT2 1 then
    if top then (d.setWord a 0).setWord (a - 4) 0 else d
  else if a == R.SED_CNT2 then if top then (d.setWord R.SED_CNT 0).setWord R.SED_CNT2 0 else d
  else if a == R.SEM_BRKCNT then if top && !m.isHost then d.put F.SEM_BRKCNT_COUNT 0 else d
  else d

/-- Firmware ends the pending APP command with the response at HPx_FW_BUF (R591). A response whose words the port cannot
read ends with MEM_ERROR (R59). -/
def Device.fwDone (d : Device) (c : Client) (rlen : Nat) : Device :=
  let (p, ok, d) := d.readBuffer (d.get (F.HP_FW_BUF_ADDR c.idx) * 4) rlen
  let d := d.setFlag (F.HP_FW_CTL_PEND c.idx) false
  if !ok then d.complete c 0x0C
  else d.complete c (ofLe (p.take 2)) (ofLe ((p.drop 2).take 2)) (p.drop 4)

/-- GO of TXN_CREQ (R636). -/
def Device.creqGo (d : Device) : Device :=
  { d.put F.TXN_CRES_STATE 1 with txn.creqWaits := true }.creqEnter

/-- START of FEN_CAP_CTL arms a capture (R269). -/
def Device.captureStart (d : Device) : Device :=
  { d.setFlag F.FEN_CAP_CTL_BUSY true with inp.capWait := d.get F.FEN_CAP_CTL_TRIG == 1 }

/-- SHL_CTL (R458, R469, R475). -/
def Device.shlControl (d : Device) (w : Word) : Device :=
  if !d.shl.role then d
  else
    let d := if w.getLsbD 1 then { d with shl.wantUnassign := true } else d
    let d := if w.getLsbD 2 then { d with shl.wantSleep := true } else d
    let d := if w.getLsbD 3 then { d with shl.toneOn := true } else d
    let d := if w.getLsbD 0 then d.enumStart else d
    d.shlPump

/-- The write acts on the block of the register: its WO and W1S fields, and the W1C fields that are not plain
bits. -/
def Device.registerActs (d : Device) (m : Master) (priv : Bool) (a : Nat) (w : Word) : Device :=
  let v := w.toNat
  let go := w.getLsbD 31
  match a / 0x10000 with
  | 0x4000 =>
    if a == R.SYS_RST_REQ then d.softwareReset
    else if a == R.SYS_CORE_RST then
      let d := if w.getLsbD 0 then d.coreReset .c0 else d
      if w.getLsbD 1 then d.coreReset .c1 else d
    else if a == R.SYS_WDOG_CTL then if w.getLsbD 0 then d.setFlag F.SYS_WDOG_CTL_EN true else d
    else d
  | 0x4002 =>
    if a == R.PWR_CMD then d.pwrCommand m priv (v % 16)
    else if a == R.PWR_FAULT then if m.isHost then d.clearFaults w else d
    else d
  | 0x4003 =>
    if inFamily a (R.EVC_DONE_x 0) 4 4 then
      let x := famIndex a (R.EVC_DONE_x 0) 4
      if h : x < 4 then d.completeEvent ⟨x, h⟩ (v % 256) else d
    else if inFamily a (R.EVC_PSETi 0) 4 4 then d.softFire (famIndex a (R.EVC_PSETi 0) 4) w
    else if inFamily a (R.EVC_PCLRi 0) 4 4 then d.withdrawBits (famIndex a (R.EVC_PCLRi 0) 4) w
    else d
  | 0x4004 =>
    if inFamily a (R.WEIR_READYi 0) 2 4 then d.readyWrite (famIndex a (R.WEIR_READYi 0) 4) w
    else if inFamily a (R.WEIR_CANCELi 0) 2 4 then d.cancelWrite (famIndex a (R.WEIR_CANCELi 0) 4) w
    else d
  | 0x4007 => if a == R.FEN_CAP_CTL then (if w.getLsbD 16 then d.captureStart else d) else d.clearCounts m a w
  | 0x4009 =>
    if inFamily a (R.GDV_CH_FAULT_n 0) 4 4 then
      if m.isHost then d.clearChFault (famIndex a (R.GDV_CH_FAULT_n 0) 4) w else d
    else if a == R.GDV_FAULT then if m.isHost then d.clearGdvFault w else d
    else d.clearCounts m a w
  | 0x400B =>
    if a == R.DIAG_CMD then d.diagOrder (v % 4) (v / 256 % 16)
    else if a == R.DIAG_HOLD then if m.isHost then d.clearHold w else d
    else d
  | 0x400C =>
    if a == R.SHL_CTL then d.shlControl w
    else if inFamily a (R.SHL_MB_CTL_m 0) 4 0x10 then
      let i := famIndex a (R.SHL_MB_CTL_m 0) 0x10
      if h : i < 4 then (if go then d.mailboxQueue ⟨i, h⟩ else d) else d
    else d.clearCounts m a w
  | 0x400D => if a == R.TRN_APP_TX then (if go then d.appGo else d) else d.clearCounts m a w
  | 0x400E | 0x400F =>
    let c : Client := if a / 0x10000 == 0x400E then .a else .b
    if a == R.HP_FW_CTL c.idx then
      if w.getLsbD 1 then d.fwDone c (v / 65536 % 2048) else d
    else d.clearCounts m a w
  | 0x4010 => if a == R.TXN_CREQ && go then d.creqGo else d
  | 0x4011 =>
    if a == R.SED_ACK then d.ackWrite v
    else if a == R.SED_SW_CTL then if go then d.softEntry else d
    else if a == R.SED_SOFTFLT then d.systemFault 3
    else if a == R.SED_SYSFAULT then if m.isHost then d.clearSysfault w else d
    else d.clearCounts m a w
  | 0x4012 => if a == R.SEC_CONFIRM then d.secConfirm else d
  | 0x4013 => if a == R.NVC_REQ && w.getLsbD 0 then d.nvcReqGo else d
  | 0x4015 => if a == R.DBG_CTL && w.getLsbD 0 then d.setFlag F.DBG_CTL_LOCK true else d
  | _ => d.clearCounts m a w

/-- The W1C fields of the register are plain bits: every one but the pending bits, the requests of the Weir, and the
faults that a condition can hold. -/
def plainW1c (a : Nat) : Bool :=
  !(inFamily a (R.EVC_PCLRi 0) 4 4 || inFamily a (R.WEIR_CANCELi 0) 2 4 || a == R.PWR_FAULT ||
    inFamily a (R.GDV_CH_FAULT_n 0) 4 4 || a == R.GDV_FAULT || a == R.DIAG_HOLD || a == R.SED_SYSFAULT)

/-! ### The write -/

/-- A write that passed the judgement takes effect: settable fields, plain W1C bits, the reactions of the blocks, the
actions; outside PLAY a change of a TXN or FIX field takes a revision and the word its stamp (R622). -/
def Device.writeAccepted (d : Device) (m : Master) (priv : Bool) (r : RegSpec) (a : Nat) (w : Word) : Device :=
  let old := d.word a
  let guarded := d.guardedChange r a w
  let new := r.setFields old w
  let new := if plainW1c a then new &&& ~~~(w &&& r.mask fun f => f.acc == .w1c) else new
  let d := d.setWord a new
  let d := if guarded then d.nextRevision.stampWord a else d
  let d := if r.fields.any FieldSpec.settable then d.wordApplied a old else d
  d.registerActs m priv a w

/-- A write to a register address. True says that it was rejected. A reserved event source takes no write and
reports none (R163). -/
def Device.regWrite (d : Device) (m : Master) (priv : Bool) (a : Nat) (w : Word) : Bool × Device :=
  match regFind a with
  | none => (false, if 0x40030400 ≤ a && a < 0x40030800 then d else d.addrWarn)
  | some r =>
    if d.writeReserved m priv r a w then (true, d.reject a)
    else if d.inPlay && d.guardedChange r a w then (true, d.reject a)
    else if d.claimed a && d.guardedChange r a w then (true, (d.reject a).orField F.TXN_EVT_EVT 64)
    else (false, d.writeAccepted m priv r a w)

/-- A write of ST_SCTL (R68). A 1 in FAULT is rejected. DESIGN CHOICE (log entry 30): in DEBUG the rule gives RUN no effect,
and the write only stores RUN and OVR_LIMIT. -/
def Device.sctlWrite (d : Device) (a : Nat) (w : Word) : Bool × Device :=
  let run := w.getLsbD 0
  let st := d.cget .s F.ST_SSTATE_STATE
  if run && st == 3 then (true, d.reject a)
  else
    let d := (d.cput .s F.ST_SCTL_RUN run.toNat).cput .s F.ST_SCTL_OVR_LIMIT (w.toNat / 256)
    if !run && st == 3 then (false, d.cput .s F.ST_SSTATE_STATE 0)
    else if run && st == 0 then
      let d := (d.cput .s F.ST_SFLT_CAUSE 0).cput .s F.ST_OVRCNT_CONSEC 0
      (false, { d with stream.muted := true, stream.resume := true })
    else (false, d)

/-- A write of ST_SENTRY (R69, R87). -/
def Device.sentryWrite (d : Device) (a : Nat) (w : Word) : Bool × Device :=
  let e := w.toNat / 4 * 4
  if d.cget .s F.ST_SCTL_RUN == 1 || e < 0x20000000 || 0x20060000 ≤ e then (true, d.reject a)
  else (false, d.cput .s F.ST_SENTRY_ENTRY (e / 4))

/-- A write through the S state window. -/
def Device.sWrite (d : Device) (a : Nat) (w : Word) : Bool × Device :=
  let n := sIndex a
  if n == 0x20 then d.sctlWrite a w
  else if n == 0x21 then d.sentryWrite a w
  else if n == 1 then (false, if w.getLsbD 8 then d.cput .s F.ST_STATUS_SAT 0 else d)
  else if n == 0x26 then (false, if w.getLsbD 31 then d.cput .s F.ST_OVRCNT_COUNT 0 else d)
  else if n == 0x2A then (false, if w.getLsbD 31 then d.cput .s F.ST_ENDMAX_MAX 0 else d)
  else if sListed n then (false, d)
  else (false, d.addrWarn)

/-- A write of stream SRAM banks 0 to 5: `by` is none for S. A write to a view that takes none is reported, except to S
(R633). -/
def Device.streamWrite (d : Device) (who : Option Master) (a : Nat) (w : Word) : Bool × Device :=
  match d.windowAt a with
  | none => (false, d.storeWord a w)
  | some (v, i) =>
    if d.winWritable v then (false, d.winWrite i w)
    else if who.isSome then (true, d.reject a)
    else (false, d)

/-- A write of the word at `a`, which lies in region `r`: is it rejected, and the device after it. -/
def Device.regionWrite (d : Device) (m : Master) (priv : Bool) (a : Nat) (w : Word) (r : Region) : Bool × Device :=
  match r with
  | .coreSram => (false, d.storeWord a w)
  | .streamLow => d.streamWrite (some m) a w
  | .sWindow => d.sWrite a w
  | .bank6Other => (false, d.addrWarn)
  | .periph => d.regWrite m priv a w
  | _ => (false, d)

/-- A write of the word at an address, by a master that the map lets write it. True says that it was rejected. -/
def Device.busWrite (d : Device) (m : Master) (priv : Bool) (a : Nat) (w : Word) : Bool × Device :=
  d.regionWrite m priv (wordAddr a) w (regionOf (wordAddr a))

/-- The level at which a master writes: that of the core; a host counts as privileged (R801). -/
def Device.masterPriv (d : Device) (m : Master) : Bool :=
  match m with
  | .c0 => d.atPriv .c0
  | .c1 => d.atPriv .c1
  | _ => true

/-- A write that reaches its register while the CORE domain runs (R7, R16), at the master's present level. -/
def Device.writeCommand (d : Device) (m : Master) (a : Nat) (w : Word) : Device :=
  if d.coreRuns then (d.busWrite m (d.masterPriv m) a w).2 else d

end Sys2Proof.Machine
end

