-- ==== Sys2Proof/Machine/Operands.lean ====
section
/-! DEFINITION. The operand forms of the Opcia instructions (R90): immediates, offsets, halfwords and
lanes. -/

namespace Sys2Proof.Machine

/-- A 16-bit immediate, sign-extended. -/
def immS (i : BitVec 16) : BitVec 32 := i.signExtend 32

/-- A 16-bit immediate, zero-extended. -/
def immZ (i : BitVec 16) : BitVec 32 := i.zeroExtend 32

/-- The target of a format B branch: PC + 4 × off. -/
def branchTarget (pc : BitVec 32) (off : BitVec 16) : BitVec 32 := pc + 4 * off.signExtend 32

/-- The target of a format J jump: PC + 4 × off. -/
def jumpTarget (pc : BitVec 32) (off : BitVec 26) : BitVec 32 := pc + 4 * off.signExtend 32

/-- The signed low halfword. -/
def loHalf (w : BitVec 32) : Int := (w.extractLsb' 0 16).toInt

/-- The signed high halfword. -/
def hiHalf (w : BitVec 32) : Int := (w.extractLsb' 16 16).toInt

/-- Lane `i` of a vector register (R114). -/
def lane (q : BitVec 128) (i : Nat) : BitVec 32 := q.extractLsb' (32 * i) 32

/-- A vector register built of four lanes. -/
def ofLanes (f : Nat → BitVec 32) : BitVec 128 := f 3 ++ f 2 ++ f 1 ++ f 0

/-- A vector register with one lane replaced. -/
def putLane (q : BitVec 128) (i : Nat) (w : BitVec 32) : BitVec 128 :=
  ofLanes fun j => if j = i then w else lane q j

/-- The lanes of a vector operation and whether any of them saturated. -/
def laneOp (f : BitVec 32 → BitVec 32 → Int) (a b : BitVec 128) : Nat → Int :=
  fun i => f (lane a i) (lane b i)

end Sys2Proof.Machine
end

