-- ==== Sys2Proof/Machine/State.lean ====
section
/-! DEFINITION. The state of the block: the queue of the commands that wait, first in first out, and the
device. Reset, faults and refusals. -/

namespace Sys2Proof.Machine

/-- The state. -/
structure State where
  pending : List Instr
  dev : Device
  deriving DecidableEq, Repr

/-- The faults of a step. No command of this block ends in one: every command of the table has its effect,
and one that the present state excludes changes nothing (log entry 1). Nothing raises a fault; safe. -/
inductive Fault where
  /-- Raised by nothing: kept so that the type is not empty. Safe. -/
  | unreachable
  deriving DecidableEq, Repr

/-- The refusals of a step. -/
inductive Refusal where
  /-- Raised by an arm of `exec` whose command has no meaning yet. Safe: the run stops. -/
  | notModelled (mnemonic : String)
  deriving DecidableEq, Repr

/-- The state right after reset: the start of the supply sequence of R212, with no command waiting. -/
def State.reset : State := ⟨[], Device.initial⟩

/-- A command's effect: a change of the device that leaves the queue alone. -/
def State.on (s : State) (f : Device → Device) : Host.Outcome State Fault Refusal :=
  .next { s with dev := f s.dev }

end Sys2Proof.Machine
end

