-- ==== Sys2Proof/Machine/OpciaAlu.lean ====
section
/-! DEFINITION. The integer instructions of Opcia (R97 to R99) and the branches and jumps (R103). -/

namespace Sys2Proof.Machine

/-- An instruction that writes one general register from two. -/
def Device.alu (d : Device) (c : CoreId) (rd rs1 rs2 : WReg) (f : Word → Word → Word) : Device :=
  d.issue c .all false fun d => .ok (d.setReg c rd (f (d.reg c rs1) (d.reg c rs2)))

/-- An instruction that writes one general register from another. -/
def Device.alu1 (d : Device) (c : CoreId) (rd rs1 : WReg) (f : Word → Word) : Device :=
  d.issue c .all false fun d => .ok (d.setReg c rd (f (d.reg c rs1)))

/-- An instruction that writes the clamped value of an exact result and marks the saturation. -/
def Device.aluSat (d : Device) (c : CoreId) (rd rs1 rs2 : WReg) (f : Word → Word → Int) : Device :=
  d.issue c .all false fun d =>
    let v := f (d.reg c rs1) (d.reg c rs2)
    .ok ((d.setReg c rd (sat32 v)).markSat c (clamps 32 v))

/-- 1 for true, 0 for false. -/
def flagWord (b : Bool) : Word := if b then 1 else 0

/-- The exact quotient DIV clamps (R98): a zero divisor gives a result that needs no clamp. -/
def divExact (a b : Word) : Int :=
  if b = 0 then (if 0 ≤ a.toInt then 0x7FFFFFFF else -0x80000000) else a.toInt.tdiv b.toInt

/-- DIVU (R98). -/
def divuWord (a b : Word) : Word := if b = 0 then 0xFFFFFFFF else BitVec.ofNat 32 (a.toNat / b.toNat)

/-- REM (R98): the remainder takes the sign of rs1. -/
def remWord (a b : Word) : Word := if b = 0 then a else BitVec.ofInt 32 (a.toInt.tmod b.toInt)

/-- REMU (R98). -/
def remuWord (a b : Word) : Word := if b = 0 then a else BitVec.ofNat 32 (a.toNat % b.toNat)

/-- The number of leading zero bits, 0 to 32. -/
def clz (w : Word) : Nat := if w = 0 then 32 else 31 - w.toNat.log2

/-- ADD (R97). -/
def execAdd (c : CoreId) (rd rs1 rs2 : WReg) (s : State) : Host.Outcome State Fault Refusal :=
  s.on fun d => d.alu c rd rs1 rs2 fun a b => a + b

/-- SUB (R97). -/
def execSub (c : CoreId) (rd rs1 rs2 : WReg) (s : State) : Host.Outcome State Fault Refusal :=
  s.on fun d => d.alu c rd rs1 rs2 fun a b => a - b

/-- AND (R97). -/
def execAnd (c : CoreId) (rd rs1 rs2 : WReg) (s : State) : Host.Outcome State Fault Refusal :=
  s.on fun d => d.alu c rd rs1 rs2 fun a b => a &&& b

/-- OR (R97). -/
def execOr (c : CoreId) (rd rs1 rs2 : WReg) (s : State) : Host.Outcome State Fault Refusal :=
  s.on fun d => d.alu c rd rs1 rs2 fun a b => a ||| b

/-- XOR (R97). -/
def execXor (c : CoreId) (rd rs1 rs2 : WReg) (s : State) : Host.Outcome State Fault Refusal :=
  s.on fun d => d.alu c rd rs1 rs2 fun a b => a ^^^ b

/-- SLL: the count is rs2[4:0] (R97). -/
def execSll (c : CoreId) (rd rs1 rs2 : WReg) (s : State) : Host.Outcome State Fault Refusal :=
  s.on fun d => d.alu c rd rs1 rs2 fun a b => a <<< (b.toNat % 32)

/-- SRL (R97). -/
def execSrl (c : CoreId) (rd rs1 rs2 : WReg) (s : State) : Host.Outcome State Fault Refusal :=
  s.on fun d => d.alu c rd rs1 rs2 fun a b => a >>> (b.toNat % 32)

/-- SRA (R97). -/
def execSra (c : CoreId) (rd rs1 rs2 : WReg) (s : State) : Host.Outcome State Fault Refusal :=
  s.on fun d => d.alu c rd rs1 rs2 fun a b => a.sshiftRight (b.toNat % 32)

/-- SLT (R97). -/
def execSlt (c : CoreId) (rd rs1 rs2 : WReg) (s : State) : Host.Outcome State Fault Refusal :=
  s.on fun d => d.alu c rd rs1 rs2 fun a b => flagWord (a.slt b)

/-- SLTU (R97). -/
def execSltu (c : CoreId) (rd rs1 rs2 : WReg) (s : State) : Host.Outcome State Fault Refusal :=
  s.on fun d => d.alu c rd rs1 rs2 fun a b => flagWord (a.ult b)

/-- MIN (R97). -/
def execMin (c : CoreId) (rd rs1 rs2 : WReg) (s : State) : Host.Outcome State Fault Refusal :=
  s.on fun d => d.alu c rd rs1 rs2 fun a b => if a.slt b then a else b

/-- MAX (R97). -/
def execMax (c : CoreId) (rd rs1 rs2 : WReg) (s : State) : Host.Outcome State Fault Refusal :=
  s.on fun d => d.alu c rd rs1 rs2 fun a b => if a.slt b then b else a

/-- MINU (R97). -/
def execMinu (c : CoreId) (rd rs1 rs2 : WReg) (s : State) : Host.Outcome State Fault Refusal :=
  s.on fun d => d.alu c rd rs1 rs2 fun a b => if a.ult b then a else b

/-- MAXU (R97). -/
def execMaxu (c : CoreId) (rd rs1 rs2 : WReg) (s : State) : Host.Outcome State Fault Refusal :=
  s.on fun d => d.alu c rd rs1 rs2 fun a b => if a.ult b then b else a

/-- MUL (R97). -/
def execMul (c : CoreId) (rd rs1 rs2 : WReg) (s : State) : Host.Outcome State Fault Refusal :=
  s.on fun d => d.alu c rd rs1 rs2 fun a b => a * b

/-- MULH: the high word of the signed product (R97). -/
def execMulh (c : CoreId) (rd rs1 rs2 : WReg) (s : State) : Host.Outcome State Fault Refusal :=
  s.on fun d => d.alu c rd rs1 rs2 fun a b => BitVec.ofInt 32 (a.toInt * b.toInt / 2 ^ 32)

/-- MULHU: the high word of the unsigned product (R97). -/
def execMulhu (c : CoreId) (rd rs1 rs2 : WReg) (s : State) : Host.Outcome State Fault Refusal :=
  s.on fun d => d.alu c rd rs1 rs2 fun a b => BitVec.ofNat 32 (a.toNat * b.toNat / 2 ^ 32)

/-- DIV: the quotient is clamped, and only the overflow of R98 sets SAT. -/
def execDiv (c : CoreId) (rd rs1 rs2 : WReg) (s : State) : Host.Outcome State Fault Refusal :=
  s.on fun d => d.aluSat c rd rs1 rs2 divExact

/-- DIVU (R98). -/
def execDivu (c : CoreId) (rd rs1 rs2 : WReg) (s : State) : Host.Outcome State Fault Refusal :=
  s.on fun d => d.alu c rd rs1 rs2 divuWord

/-- REM (R98). -/
def execRem (c : CoreId) (rd rs1 rs2 : WReg) (s : State) : Host.Outcome State Fault Refusal :=
  s.on fun d => d.alu c rd rs1 rs2 remWord

/-- REMU (R98). -/
def execRemu (c : CoreId) (rd rs1 rs2 : WReg) (s : State) : Host.Outcome State Fault Refusal :=
  s.on fun d => d.alu c rd rs1 rs2 remuWord

/-- CLZ (R97). -/
def execClz (c : CoreId) (rd rs1 : WReg) (s : State) : Host.Outcome State Fault Refusal :=
  s.on fun d => d.alu1 c rd rs1 fun a => BitVec.ofNat 32 (clz a)

/-- ADDI (R99). -/
def execAddi (c : CoreId) (rd rs1 : WReg) (imm : BitVec 16) (s : State) :
    Host.Outcome State Fault Refusal :=
  s.on fun d => d.alu1 c rd rs1 fun a => a + immS imm

/-- ANDI: the immediate is zero-extended (R99). -/
def execAndi (c : CoreId) (rd rs1 : WReg) (imm : BitVec 16) (s : State) :
    Host.Outcome State Fault Refusal :=
  s.on fun d => d.alu1 c rd rs1 fun a => a &&& immZ imm

/-- ORI (R99). -/
def execOri (c : CoreId) (rd rs1 : WReg) (imm : BitVec 16) (s : State) :
    Host.Outcome State Fault Refusal :=
  s.on fun d => d.alu1 c rd rs1 fun a => a ||| immZ imm

/-- XORI (R99). -/
def execXori (c : CoreId) (rd rs1 : WReg) (imm : BitVec 16) (s : State) :
    Host.Outcome State Fault Refusal :=
  s.on fun d => d.alu1 c rd rs1 fun a => a ^^^ immZ imm

/-- SLTI (R99). -/
def execSlti (c : CoreId) (rd rs1 : WReg) (imm : BitVec 16) (s : State) :
    Host.Outcome State Fault Refusal :=
  s.on fun d => d.alu1 c rd rs1 fun a => flagWord (a.slt (immS imm))

/-- SLTIU: the immediate is sign-extended first (R99). -/
def execSltiu (c : CoreId) (rd rs1 : WReg) (imm : BitVec 16) (s : State) :
    Host.Outcome State Fault Refusal :=
  s.on fun d => d.alu1 c rd rs1 fun a => flagWord (a.ult (immS imm))

/-- SLLI (R99). -/
def execSlli (c : CoreId) (rd rs1 : WReg) (n : BitVec 5) (s : State) :
    Host.Outcome State Fault Refusal :=
  s.on fun d => d.alu1 c rd rs1 fun a => a <<< n.toNat

/-- SRLI (R99). -/
def execSrli (c : CoreId) (rd rs1 : WReg) (n : BitVec 5) (s : State) :
    Host.Outcome State Fault Refusal :=
  s.on fun d => d.alu1 c rd rs1 fun a => a >>> n.toNat

/-- SRAI (R99). -/
def execSrai (c : CoreId) (rd rs1 : WReg) (n : BitVec 5) (s : State) :
    Host.Outcome State Fault Refusal :=
  s.on fun d => d.alu1 c rd rs1 fun a => a.sshiftRight n.toNat

/-- RORI (R99). -/
def execRori (c : CoreId) (rd rs1 : WReg) (n : BitVec 5) (s : State) :
    Host.Outcome State Fault Refusal :=
  s.on fun d => d.alu1 c rd rs1 fun a => a.rotateRight n.toNat

/-- LUI (R99). -/
def execLui (c : CoreId) (rd : WReg) (imm : BitVec 16) (s : State) :
    Host.Outcome State Fault Refusal :=
  s.on fun d => d.alu1 c rd 0 fun _ => immZ imm <<< 16

/-- ADDPC (R99). -/
def execAddpc (c : CoreId) (rd : WReg) (imm : BitVec 16) (s : State) :
    Host.Outcome State Fault Refusal :=
  s.on fun d => d.issue c .all false fun d =>
    .ok (d.setReg c rd ((d.core c).pc + 4 * immS imm))

/-! ### Branches and jumps (R103) -/

/-- A conditional branch. -/
def Device.branch (d : Device) (c : CoreId) (rs1 rs2 : WReg) (off : BitVec 16)
    (taken : Word → Word → Bool) : Device :=
  d.issue c .all false fun d =>
    if taken (d.reg c rs1) (d.reg c rs2) then .jump d (branchTarget (d.core c).pc off) else .ok d

/-- BEQ (R103). -/
def execBeq (c : CoreId) (rs1 rs2 : WReg) (off : BitVec 16) (s : State) :
    Host.Outcome State Fault Refusal :=
  s.on fun d => d.branch c rs1 rs2 off fun a b => a == b

/-- BNE (R103). -/
def execBne (c : CoreId) (rs1 rs2 : WReg) (off : BitVec 16) (s : State) :
    Host.Outcome State Fault Refusal :=
  s.on fun d => d.branch c rs1 rs2 off fun a b => a != b

/-- BLT (R103). -/
def execBlt (c : CoreId) (rs1 rs2 : WReg) (off : BitVec 16) (s : State) :
    Host.Outcome State Fault Refusal :=
  s.on fun d => d.branch c rs1 rs2 off fun a b => a.slt b

/-- BGE (R103). -/
def execBge (c : CoreId) (rs1 rs2 : WReg) (off : BitVec 16) (s : State) :
    Host.Outcome State Fault Refusal :=
  s.on fun d => d.branch c rs1 rs2 off fun a b => !a.slt b

/-- BLTU (R103). -/
def execBltu (c : CoreId) (rs1 rs2 : WReg) (off : BitVec 16) (s : State) :
    Host.Outcome State Fault Refusal :=
  s.on fun d => d.branch c rs1 rs2 off fun a b => a.ult b

/-- BGEU (R103). -/
def execBgeu (c : CoreId) (rs1 rs2 : WReg) (off : BitVec 16) (s : State) :
    Host.Outcome State Fault Refusal :=
  s.on fun d => d.branch c rs1 rs2 off fun a b => !a.ult b

/-- J (R103). -/
def execJ (c : CoreId) (off : BitVec 26) (s : State) : Host.Outcome State Fault Refusal :=
  s.on fun d => d.issue c .all false fun d => .jump d (jumpTarget (d.core c).pc off)

/-- JAL (R103). -/
def execJal (c : CoreId) (off : BitVec 26) (s : State) : Host.Outcome State Fault Refusal :=
  s.on fun d => d.issue c .all false fun d =>
    .jump (d.setReg c 31 ((d.core c).pc + 4)) (jumpTarget (d.core c).pc off)

/-- JALR: the target is computed before rd is written, and a misaligned one raises ALIGN (R103). -/
def execJalr (c : CoreId) (rd rs1 : WReg) (imm : BitVec 16) (s : State) :
    Host.Outcome State Fault Refusal :=
  s.on fun d => d.issue c .all false fun d =>
    let t := d.reg c rs1 + immS imm
    if t.toNat % 4 != 0 then .stop d (.align t false)
    else .jump (d.setReg c rd ((d.core c).pc + 4)) t

end Sys2Proof.Machine
end

