-- ==== Sys2Proof/Machine/OpciaAcc.lean ====
section
/-! DEFINITION. The fixed-point instructions of Opcia: accumulators (R105, R106), saturating operations
(R107) and the vector arithmetic of S (R115 to R117). -/

namespace Sys2Proof.Machine

/-- Writes a clamped accumulator and marks the saturation. -/
def Device.accSat (d : Device) (c : CoreId) (a : AReg) (v : Int) : Device :=
  (d.setAcc c a (sat72 v)).markSat c (clamps 72 v)

/-- The exact signed product of two words. -/
def prod (a b : Word) : Int := a.toInt * b.toInt

/-- The scaled sum of the halfword products of MAC16 (R105). -/
def prod16 (a b : Word) : Int := 2 ^ 32 * (loHalf a * loHalf b + hiHalf a * hiHalf b)

/-- An instruction of the ACC group: the accumulator receives the clamped value of `f old product`. -/
def Device.accOp (d : Device) (c : CoreId) (a : AReg) (rs1 rs2 : WReg) (p : Word → Word → Int)
    (f : Int → Int → Int) : Device :=
  d.issue c .all false fun d =>
    .ok (d.accSat c a (f (d.acc c a).toInt (p (d.reg c rs1) (d.reg c rs2))))

/-- MAC (R105). -/
def execMac (c : CoreId) (ad : AReg) (rs1 rs2 : WReg) (s : State) :
    Host.Outcome State Fault Refusal :=
  s.on fun d => d.accOp c ad rs1 rs2 prod fun a p => a + p

/-- MSU (R105). -/
def execMsu (c : CoreId) (ad : AReg) (rs1 rs2 : WReg) (s : State) :
    Host.Outcome State Fault Refusal :=
  s.on fun d => d.accOp c ad rs1 rs2 prod fun a p => a - p

/-- MPY (R105). -/
def execMpy (c : CoreId) (ad : AReg) (rs1 rs2 : WReg) (s : State) :
    Host.Outcome State Fault Refusal :=
  s.on fun d => d.accOp c ad rs1 rs2 prod fun _ p => p

/-- MPYN (R105). -/
def execMpyn (c : CoreId) (ad : AReg) (rs1 rs2 : WReg) (s : State) :
    Host.Outcome State Fault Refusal :=
  s.on fun d => d.accOp c ad rs1 rs2 prod fun _ p => -p

/-- MAC16 (R105). -/
def execMac16 (c : CoreId) (ad : AReg) (rs1 rs2 : WReg) (s : State) :
    Host.Outcome State Fault Refusal :=
  s.on fun d => d.accOp c ad rs1 rs2 prod16 fun a p => a + p

/-- MSU16 (R105). -/
def execMsu16 (c : CoreId) (ad : AReg) (rs1 rs2 : WReg) (s : State) :
    Host.Outcome State Fault Refusal :=
  s.on fun d => d.accOp c ad rs1 rs2 prod16 fun a p => a - p

/-- EXT: the rounded and clamped accumulator; mode 0b11 is reserved (R104, R106). -/
def execExt (c : CoreId) (w : WReg) (a : AReg) (n : BitVec 6) (mode : BitVec 2) (s : State) :
    Host.Outcome State Fault Refusal :=
  s.on fun d => d.issue c .all (roundMode mode).isNone fun d =>
    let v := roundBits ((roundMode mode).getD .floor) (d.acc c a).toInt n.toNat
    .ok ((d.setReg c w (sat32 v)).markSat c (clamps 32 v))

/-- ACLR (R106). -/
def execAclr (c : CoreId) (a : AReg) (s : State) : Host.Outcome State Fault Refusal :=
  s.on fun d => d.issue c .all false fun d => .ok (d.setAcc c a 0)

/-- ASET (R106). -/
def execAset (c : CoreId) (w : WReg) (a : AReg) (s : State) : Host.Outcome State Fault Refusal :=
  s.on fun d => d.issue c .all false fun d =>
    .ok (d.setAcc c a (BitVec.ofInt 72 ((d.reg c w).toInt * 2 ^ 31)))

/-- AADD (R106). -/
def execAadd (c : CoreId) (a b : AReg) (s : State) : Host.Outcome State Fault Refusal :=
  s.on fun d => d.issue c .all false fun d =>
    .ok (d.accSat c a ((d.acc c a).toInt + (d.acc c b).toInt))

/-- ASUB (R106). -/
def execAsub (c : CoreId) (a b : AReg) (s : State) : Host.Outcome State Fault Refusal :=
  s.on fun d => d.issue c .all false fun d =>
    .ok (d.accSat c a ((d.acc c a).toInt - (d.acc c b).toInt))

/-- ASHL: n from 16 is reserved (R106). -/
def execAshl (c : CoreId) (a : AReg) (n : BitVec 6) (s : State) : Host.Outcome State Fault Refusal :=
  s.on fun d => d.issue c .all (decide (16 ≤ n.toNat)) fun d =>
    .ok (d.accSat c a ((d.acc c a).toInt * 2 ^ n.toNat))

/-- ASHR: rounded toward minus infinity (R106). -/
def execAshr (c : CoreId) (a : AReg) (n : BitVec 6) (s : State) : Host.Outcome State Fault Refusal :=
  s.on fun d => d.issue c .all false fun d =>
    .ok (d.setAcc c a ((d.acc c a).sshiftRight n.toNat))

/-- ARDL (R106). -/
def execArdl (c : CoreId) (w : WReg) (a : AReg) (s : State) : Host.Outcome State Fault Refusal :=
  s.on fun d => d.issue c .all false fun d => .ok (d.setReg c w ((d.acc c a).extractLsb' 0 32))

/-- ARDM (R106). -/
def execArdm (c : CoreId) (w : WReg) (a : AReg) (s : State) : Host.Outcome State Fault Refusal :=
  s.on fun d => d.issue c .all false fun d => .ok (d.setReg c w ((d.acc c a).extractLsb' 32 32))

/-- ARDH: the top byte, sign-extended (R106). -/
def execArdh (c : CoreId) (w : WReg) (a : AReg) (s : State) : Host.Outcome State Fault Refusal :=
  s.on fun d => d.issue c .all false fun d =>
    .ok (d.setReg c w (((d.acc c a).extractLsb' 64 8).signExtend 32))

/-- AWRL (R106). -/
def execAwrl (c : CoreId) (w : WReg) (a : AReg) (s : State) : Host.Outcome State Fault Refusal :=
  s.on fun d => d.issue c .all false fun d =>
    .ok (d.setAcc c a ((d.acc c a).extractLsb' 32 40 ++ d.reg c w))

/-- AWRM (R106). -/
def execAwrm (c : CoreId) (w : WReg) (a : AReg) (s : State) : Host.Outcome State Fault Refusal :=
  s.on fun d => d.issue c .all false fun d =>
    .ok (d.setAcc c a ((d.acc c a).extractLsb' 64 8 ++ d.reg c w ++ (d.acc c a).extractLsb' 0 32))

/-- AWRH: w[31:8] is ignored (R106). -/
def execAwrh (c : CoreId) (w : WReg) (a : AReg) (s : State) : Host.Outcome State Fault Refusal :=
  s.on fun d => d.issue c .all false fun d =>
    .ok (d.setAcc c a ((d.reg c w).extractLsb' 0 8 ++ (d.acc c a).extractLsb' 0 64))

/-! ### Saturating operations (R107) -/

/-- QADD (R107). -/
def execQadd (c : CoreId) (rd rs1 rs2 : WReg) (s : State) : Host.Outcome State Fault Refusal :=
  s.on fun d => d.aluSat c rd rs1 rs2 fun a b => a.toInt + b.toInt

/-- QSUB (R107). -/
def execQsub (c : CoreId) (rd rs1 rs2 : WReg) (s : State) : Host.Outcome State Fault Refusal :=
  s.on fun d => d.aluSat c rd rs1 rs2 fun a b => a.toInt - b.toInt

/-- QMUL: rounded half-up (R107). -/
def execQmul (c : CoreId) (rd rs1 rs2 : WReg) (s : State) : Host.Outcome State Fault Refusal :=
  s.on fun d => d.aluSat c rd rs1 rs2 fun a b => roundBits .halfUp (prod a b) 31

/-- QMULF: rounded down (R107). -/
def execQmulf (c : CoreId) (rd rs1 rs2 : WReg) (s : State) : Host.Outcome State Fault Refusal :=
  s.on fun d => d.aluSat c rd rs1 rs2 fun a b => roundBits .floor (prod a b) 31

/-- QNEG (R107). -/
def execQneg (c : CoreId) (rd rs1 : WReg) (s : State) : Host.Outcome State Fault Refusal :=
  s.on fun d => d.aluSat c rd rs1 0 fun a _ => -a.toInt

/-- QABS (R107). -/
def execQabs (c : CoreId) (rd rs1 : WReg) (s : State) : Host.Outcome State Fault Refusal :=
  s.on fun d => d.aluSat c rd rs1 0 fun a _ => (a.toInt.natAbs : Int)

/-- QSHL (R107). -/
def execQshl (c : CoreId) (rd rs1 rs2 : WReg) (s : State) : Host.Outcome State Fault Refusal :=
  s.on fun d => d.aluSat c rd rs1 rs2 fun a b => a.toInt * 2 ^ (b.toNat % 32)

/-- QSHR: rounded half-up; the result always fits (R107). -/
def execQshr (c : CoreId) (rd rs1 rs2 : WReg) (s : State) : Host.Outcome State Fault Refusal :=
  s.on fun d => d.alu c rd rs1 rs2 fun a b =>
    BitVec.ofInt 32 (roundBits .halfUp a.toInt (b.toNat % 32))

/-! ### Vector arithmetic (R115 to R117) -/

/-- A lane-wise instruction whose results need no clamp. -/
def Device.vec (d : Device) (c : CoreId) (vd vs1 vs2 : QReg) (f : Word → Word → Word) : Device :=
  d.issue c .stream false fun d =>
    .ok (d.setQ c vd (ofLanes fun i => f (lane (d.qreg c vs1) i) (lane (d.qreg c vs2) i)))

/-- A lane-wise instruction with clamped results; a clamp of any lane sets SAT. -/
def Device.vecSat (d : Device) (c : CoreId) (vd vs1 vs2 : QReg) (f : Word → Word → Int) : Device :=
  d.issue c .stream false fun d =>
    let r := laneOp f (d.qreg c vs1) (d.qreg c vs2)
    .ok ((d.setQ c vd (ofLanes fun i => sat32 (r i))).markSat c
      ([0, 1, 2, 3].any fun i => clamps 32 (r i)))

/-- VADD (R115). -/
def execVadd (c : CoreId) (vd vs1 vs2 : QReg) (s : State) : Host.Outcome State Fault Refusal :=
  s.on fun d => d.vec c vd vs1 vs2 fun a b => a + b

/-- VSUB (R115). -/
def execVsub (c : CoreId) (vd vs1 vs2 : QReg) (s : State) : Host.Outcome State Fault Refusal :=
  s.on fun d => d.vec c vd vs1 vs2 fun a b => a - b

/-- VQADD (R115). -/
def execVqadd (c : CoreId) (vd vs1 vs2 : QReg) (s : State) : Host.Outcome State Fault Refusal :=
  s.on fun d => d.vecSat c vd vs1 vs2 fun a b => a.toInt + b.toInt

/-- VQSUB (R115). -/
def execVqsub (c : CoreId) (vd vs1 vs2 : QReg) (s : State) : Host.Outcome State Fault Refusal :=
  s.on fun d => d.vecSat c vd vs1 vs2 fun a b => a.toInt - b.toInt

/-- VQMUL (R115). -/
def execVqmul (c : CoreId) (vd vs1 vs2 : QReg) (s : State) : Host.Outcome State Fault Refusal :=
  s.on fun d => d.vecSat c vd vs1 vs2 fun a b => roundBits .halfUp (prod a b) 31

/-- VMIN (R115). -/
def execVmin (c : CoreId) (vd vs1 vs2 : QReg) (s : State) : Host.Outcome State Fault Refusal :=
  s.on fun d => d.vec c vd vs1 vs2 fun a b => if a.slt b then a else b

/-- VMAX (R115). -/
def execVmax (c : CoreId) (vd vs1 vs2 : QReg) (s : State) : Host.Outcome State Fault Refusal :=
  s.on fun d => d.vec c vd vs1 vs2 fun a b => if a.slt b then b else a

/-- VQABS (R115). -/
def execVqabs (c : CoreId) (vd vs1 : QReg) (s : State) : Host.Outcome State Fault Refusal :=
  s.on fun d => d.vecSat c vd vs1 vs1 fun a _ => (a.toInt.natAbs : Int)

/-- VQNEG (R115). -/
def execVqneg (c : CoreId) (vd vs1 : QReg) (s : State) : Host.Outcome State Fault Refusal :=
  s.on fun d => d.vecSat c vd vs1 vs1 fun a _ => -a.toInt

/-- VAND (R115). -/
def execVand (c : CoreId) (vd vs1 vs2 : QReg) (s : State) : Host.Outcome State Fault Refusal :=
  s.on fun d => d.vec c vd vs1 vs2 fun a b => a &&& b

/-- VOR (R115). -/
def execVor (c : CoreId) (vd vs1 vs2 : QReg) (s : State) : Host.Outcome State Fault Refusal :=
  s.on fun d => d.vec c vd vs1 vs2 fun a b => a ||| b

/-- VXOR (R115). -/
def execVxor (c : CoreId) (vd vs1 vs2 : QReg) (s : State) : Host.Outcome State Fault Refusal :=
  s.on fun d => d.vec c vd vs1 vs2 fun a b => a ^^^ b

/-- VSRA (R115). -/
def execVsra (c : CoreId) (vd vs1 : QReg) (n : BitVec 5) (s : State) :
    Host.Outcome State Fault Refusal :=
  s.on fun d => d.vec c vd vs1 vs1 fun a _ => a.sshiftRight n.toNat

/-- VQSHL (R115). -/
def execVqshl (c : CoreId) (vd vs1 : QReg) (n : BitVec 5) (s : State) :
    Host.Outcome State Fault Refusal :=
  s.on fun d => d.vecSat c vd vs1 vs1 fun a _ => a.toInt * 2 ^ n.toNat

/-- An instruction of the VMAC group: accumulator `i` receives the clamped value of `f old product`, with
the operand `g i` (R116). -/
def Device.vecAcc (d : Device) (c : CoreId) (qa : QReg) (g : Device → Nat → Word)
    (f : Int → Int → Int) : Device :=
  d.issue c .stream false fun d =>
    let q := d.qreg c qa
    .ok ((List.finRange 4).foldl
      (fun e i => e.accSat c i (f (d.acc c i).toInt (prod (lane q i.val) (g d i.val)))) d)

/-- VMACA (R116). -/
def execVmaca (c : CoreId) (qa qb : QReg) (s : State) : Host.Outcome State Fault Refusal :=
  s.on fun d => d.vecAcc c qa (fun d i => lane (d.qreg c qb) i) fun a p => a + p

/-- VMSUA (R116). -/
def execVmsua (c : CoreId) (qa qb : QReg) (s : State) : Host.Outcome State Fault Refusal :=
  s.on fun d => d.vecAcc c qa (fun d i => lane (d.qreg c qb) i) fun a p => a - p

/-- VMPYA (R116). -/
def execVmpya (c : CoreId) (qa qb : QReg) (s : State) : Host.Outcome State Fault Refusal :=
  s.on fun d => d.vecAcc c qa (fun d i => lane (d.qreg c qb) i) fun _ p => p

/-- VMACW (R116). -/
def execVmacw (c : CoreId) (qa : QReg) (w : WReg) (s : State) : Host.Outcome State Fault Refusal :=
  s.on fun d => d.vecAcc c qa (fun d _ => d.reg c w) fun a p => a + p

/-- VMPYW (R116). -/
def execVmpyw (c : CoreId) (qa : QReg) (w : WReg) (s : State) : Host.Outcome State Fault Refusal :=
  s.on fun d => d.vecAcc c qa (fun d _ => d.reg c w) fun _ p => p

/-- VEXT (R116). -/
def execVext (c : CoreId) (qa : QReg) (n : BitVec 6) (mode : BitVec 2) (s : State) :
    Host.Outcome State Fault Refusal :=
  s.on fun d => d.issue c .stream (roundMode mode).isNone fun d =>
    let m := (roundMode mode).getD .floor
    let r : Nat → Int := fun i => roundBits m ((d.core c).acc.toList.getD i 0).toInt n.toNat
    .ok ((d.setQ c qa (ofLanes fun i => sat32 (r i))).markSat c
      ([0, 1, 2, 3].any fun i => clamps 32 (r i)))

/-- VACLR (R116). -/
def execVaclr (c : CoreId) (s : State) : Host.Outcome State Fault Refusal :=
  s.on fun d => d.issue c .stream false fun d =>
    .ok ((List.finRange 4).foldl (fun e i => e.setAcc c i 0) d)

/-- VASET (R116). -/
def execVaset (c : CoreId) (qa : QReg) (s : State) : Host.Outcome State Fault Refusal :=
  s.on fun d => d.issue c .stream false fun d =>
    .ok ((List.finRange 4).foldl
      (fun e i => e.setAcc c i (BitVec.ofInt 72 ((lane (d.qreg c qa) i.val).toInt * 2 ^ 31))) d)

/-- VSPLAT (R117). -/
def execVsplat (c : CoreId) (q : QReg) (w : WReg) (s : State) : Host.Outcome State Fault Refusal :=
  s.on fun d => d.issue c .stream false fun d => .ok (d.setQ c q (ofLanes fun _ => d.reg c w))

/-- VGET (R117). -/
def execVget (c : CoreId) (q : QReg) (w : WReg) (i : Fin 4) (s : State) :
    Host.Outcome State Fault Refusal :=
  s.on fun d => d.issue c .stream false fun d => .ok (d.setReg c w (lane (d.qreg c q) i.val))

/-- VPUT (R117). -/
def execVput (c : CoreId) (q : QReg) (w : WReg) (i : Fin 4) (s : State) :
    Host.Outcome State Fault Refusal :=
  s.on fun d => d.issue c .stream false fun d =>
    .ok (d.setQ c q (putLane (d.qreg c q) i.val (d.reg c w)))

/-- VMOVQ (R117). -/
def execVmovq (c : CoreId) (q q2 : QReg) (s : State) : Host.Outcome State Fault Refusal :=
  s.on fun d => d.issue c .stream false fun d => .ok (d.setQ c q (d.qreg c q2))

/-- VROT (R117). -/
def execVrot (c : CoreId) (q q2 : QReg) (k : Fin 4) (s : State) :
    Host.Outcome State Fault Refusal :=
  s.on fun d => d.issue c .stream false fun d =>
    .ok (d.setQ c q (ofLanes fun i => lane (d.qreg c q2) ((i + k.val) % 4)))

end Sys2Proof.Machine
end

