-- ==== Sys2Proof/Machine/OpciaMem.lean ====
section
/-! DEFINITION. The loads, stores and the store buffer of Opcia (R100 to R102, R114, R118, R125). -/

namespace Sys2Proof.Machine

/-! ### The store buffer -/

/-- The block or memory that holds an address, as R56 orders accesses: the S state window counts as a register block
of its own (R101). -/
def blockOf (a : Nat) : Nat :=
  match regionOf a with
  | .periph => a / 0x10000
  | .sWindow => 3
  | .coreSram => 1
  | .nvs => 4
  | .bootRom | .none => 0
  | _ => 2

/-- Do narrow stores and buffered loads treat an address as SRAM (R101, R102)? -/
def sramAddr (a : Nat) : Bool := blockOf a == 1 || blockOf a == 2

/-- The master that a control core is on the bus. -/
def coreMaster : CoreId → Master
  | .c1 => .c1
  | _ => .c0

/-- A store reaches its target. -/
def Device.storeAt (d : Device) (c : CoreId) (e : StoreEntry) : Device :=
  match c with
  | .s =>
    match regionOf e.addr with
    | .streamLow => (d.streamWrite none e.addr e.data).2
    | _ => d.storeWord e.addr e.data
  | _ => (d.busWrite (coreMaster c) e.priv e.addr e.data).2

/-- The oldest buffered store completes and frees its entry (R102). -/
def Device.completeStore (d : Device) (c : CoreId) : Device :=
  match (d.core c).buf with
  | [] => d
  | e :: t => (d.setCore c { d.core c with buf := t }).storeAt c e

/-- Every buffered store completes (R108). -/
def Device.drainStores (d : Device) (c : CoreId) : Device := (d.completeStore c).completeStore c

/-- Does the buffer hold a store to the block of an address? -/
def Device.blockHeld (d : Device) (c : CoreId) (a : Nat) : Bool :=
  (d.core c).buf.any fun e => blockOf e.addr == blockOf a

/-- The buffered stores to the block or memory of an address complete, and those before them (R56). -/
def Device.drainBlock (d : Device) (c : CoreId) (a : Nat) : Device :=
  let d := if d.blockHeld c a then d.completeStore c else d
  if d.blockHeld c a then d.completeStore c else d

/-- The buffered word of an address, the youngest first. -/
def Device.buffered (d : Device) (c : CoreId) (a : Nat) : Option Word :=
  ((d.core c).buf.reverse.find? fun e => wordAddr e.addr == wordAddr a).map StoreEntry.data

/-- A word store enters the buffer; a full buffer first completes its oldest store (R102). -/
def Device.pushStore (d : Device) (c : CoreId) (a : Nat) (w : Word) : Device :=
  let d' := if 2 ≤ (d.core c).buf.length then d.completeStore c else d
  if d'.executing c then
    let k := d'.core c
    d'.setCore c { k with buf := k.buf ++ [⟨a, w, d.atPriv c⟩] }
  else d'

/-! ### Loads -/

/-- The address rs1 + imm. -/
def Device.memAddr (d : Device) (c : CoreId) (rs1 : WReg) (imm : BitVec 16) : Word :=
  d.reg c rs1 + imm.signExtend 32

/-- The cause that an access meets before it is made: alignment, then the map and the regions (R49). -/
def Device.accessCause (d : Device) (c : CoreId) (a : Word) (size : Nat) (store : Bool) : Option CoreFault :=
  if a.toNat % size != 0 then some (.align a store)
  else
    match d.accessAnswer c a.toNat (if store then .write else .read) with
    | .allow => none
    | .deny => some (if store then .storeDenied a else .loadDenied a)
    | .absent => some (.busError a store)

/-- The word of a permitted load: from the buffer where it holds the SRAM word, otherwise from its target after the
earlier stores of the same block. `u` is what has struck the word (R58, R59). None is an uncorrectable error. -/
def Device.loadWord (d : Device) (c : CoreId) (a : Nat) (u : Upset) : Option Word × Device :=
  match (if sramAddr a then d.buffered c a else none) with
  | some w => (some w, d)
  | none =>
    let d := d.drainBlock c a
    let at_ := if regionOf a == .streamLow then d.physical a else a
    let d := d.strike at_ u
    match c with
    | .s => d.readChecked at_
    | _ => d.busRead a

/-- A load of `size` bytes, extended as `ext` says (R100). -/
def Device.load (d : Device) (c : CoreId) (rd rs1 : WReg) (imm : BitVec 16) (u : Upset) (size : Nat)
    (ext : Word → Word) : Device :=
  d.issue c .all false fun d =>
    let a := d.memAddr c rs1 imm
    match d.accessCause c a size false with
    | some f => .stop d f
    | none =>
      match d.loadWord c a.toNat u with
      | (some w, d) => d.after c fun d => .ok (d.setReg c rd (ext (w >>> (8 * (a.toNat % 4)))))
      | (none, d) => d.after c fun d => .stop d (.eccData a false)

/-! ### Stores -/

/-- The bytes of a store in their lanes of `old`. -/
def mergeWord (old v : Word) (size lane : Nat) : Word :=
  let mask : Word := BitVec.ofNat 32 (2 ^ (8 * size) - 1) <<< (8 * lane)
  (old &&& ~~~mask) ||| ((v <<< (8 * lane)) &&& mask)

/-- The word behind a narrow store to SRAM: none where the store is not merged, because the views of the coefficient
window ignore it (R101, R633) or no memory stands there (R51). -/
def Device.mergeAt (d : Device) (a : Nat) : Option Nat :=
  match regionOf a with
  | .bank6Other => none
  | .streamLow =>
    match d.windowAt a with
    | some (v, _) => if d.winWritable v then some (d.physical a) else none
    | none => some a
  | _ => some a

/-- A halfword or byte store to SRAM: the read-modify-write of R101 at issue. -/
def Device.narrowStore (d : Device) (c : CoreId) (a v : Word) (size : Nat) : Retire :=
  let lane := a.toNat % 4
  let d := d.drainBlock c a.toNat
  let put : Device → Word → Device := fun d w => d.storeAt c ⟨wordAddr a.toNat, w, d.atPriv c⟩
  match d.mergeAt a.toNat with
  | none => .ok (put d (mergeWord 0 v size lane))
  | some p =>
    match d.readChecked p with
    | (some old, d) => .ok (put d (mergeWord old v size lane))
    | (none, d) => .stop d (.eccData a true)

/-- A store of `size` bytes (R100 to R102). -/
def Device.store (d : Device) (c : CoreId) (rs2 rs1 : WReg) (imm : BitVec 16) (size : Nat) : Device :=
  d.issue c .all false fun d =>
    let a := d.memAddr c rs1 imm
    let v := d.reg c rs2
    match d.accessCause c a size true with
    | some f => .stop d f
    | none =>
      if size == 4 then (d.pushStore c a.toNat v).after c .ok
      else if sramAddr a.toNat then d.narrowStore c a v size
      else (d.pushStore c (wordAddr a.toNat) (mergeWord 0 v size (a.toNat % 4))).after c .ok

/-! ### Vector loads and stores -/

/-- The first cause that the four addresses of a vector access meet: any misalignment before any denial, the lowest
lane first (R118). -/
def Device.vectorCause (d : Device) (c : CoreId) (as : List Word) (align : Nat) (store : Bool) : Option CoreFault :=
  match as.find? fun a => a.toNat % align != 0 with
  | some a => some (.align a store)
  | none => as.findSome? fun a => d.accessCause c a 4 store

/-- Four word loads in lane order. The first uncorrectable error stops them. -/
def Device.loadLanes (d : Device) (c : CoreId) : List (Word × Upset) → Except CoreFault (List Word) × Device
  | [] => (.ok [], d)
  | (a, u) :: t =>
    match d.loadWord c a.toNat u with
    | (none, d) => (.error (.eccData a false), d)
    | (some w, d) =>
      match d.loadLanes c t with
      | (.ok ws, d) => (.ok (w :: ws), d)
      | (.error f, d) => (.error f, d)

/-- A vector load from four addresses. -/
def Device.vectorLoad (d : Device) (c : CoreId) (q : QReg) (as : List Word) (u : Vector Upset 4) (cause : Option CoreFault) :
    Retire :=
  match cause with
  | some f => .stop d f
  | none =>
    match d.loadLanes c (as.zip u.toList) with
    | (.ok ws, d) => .ok (d.setQ c q (ofLanes fun i => ws.getD i 0))
    | (.error f, d) => .stop d f

/-- A vector store to four addresses. DESIGN CHOICE (log entry 32): it enters the store buffer as four word stores in lane
order, so that the first two complete at issue. -/
def Device.vectorStore (d : Device) (c : CoreId) (q : QReg) (as : List Word) (cause : Option CoreFault) : Retire :=
  match cause with
  | some f => .stop d f
  | none =>
    let v := d.qreg c q
    .ok ((as.zip (List.finRange 4)).foldl (fun d p => d.pushStore c p.1.toNat (lane v p.2.val)) d)

/-- The four word addresses from a base with a stride. -/
def laneAddrs (a stride : Word) : List Word := [a, a + stride, a + 2 * stride, a + 3 * stride]

/-! ### The instructions -/

/-- LW (R100). -/
def execLw (c : CoreId) (rd rs1 : WReg) (imm : BitVec 16) (u : Upset) (s : State) : Host.Outcome State Fault Refusal :=
  s.on fun d => d.load c rd rs1 imm u 4 fun w => w

/-- LH (R100): sign-extended. -/
def execLh (c : CoreId) (rd rs1 : WReg) (imm : BitVec 16) (u : Upset) (s : State) : Host.Outcome State Fault Refusal :=
  s.on fun d => d.load c rd rs1 imm u 2 fun w => (w.setWidth 16).signExtend 32

/-- LHU (R100): zero-extended. -/
def execLhu (c : CoreId) (rd rs1 : WReg) (imm : BitVec 16) (u : Upset) (s : State) : Host.Outcome State Fault Refusal :=
  s.on fun d => d.load c rd rs1 imm u 2 fun w => (w.setWidth 16).setWidth 32

/-- LB (R100): sign-extended. -/
def execLb (c : CoreId) (rd rs1 : WReg) (imm : BitVec 16) (u : Upset) (s : State) : Host.Outcome State Fault Refusal :=
  s.on fun d => d.load c rd rs1 imm u 1 fun w => (w.setWidth 8).signExtend 32

/-- LBU (R100): zero-extended. -/
def execLbu (c : CoreId) (rd rs1 : WReg) (imm : BitVec 16) (u : Upset) (s : State) : Host.Outcome State Fault Refusal :=
  s.on fun d => d.load c rd rs1 imm u 1 fun w => (w.setWidth 8).setWidth 32

/-- SW (R102). -/
def execSw (c : CoreId) (rs2 rs1 : WReg) (imm : BitVec 16) (s : State) : Host.Outcome State Fault Refusal :=
  s.on fun d => d.store c rs2 rs1 imm 4

/-- SH (R101). -/
def execSh (c : CoreId) (rs2 rs1 : WReg) (imm : BitVec 16) (s : State) : Host.Outcome State Fault Refusal :=
  s.on fun d => d.store c rs2 rs1 imm 2

/-- SB (R101). -/
def execSb (c : CoreId) (rs2 rs1 : WReg) (imm : BitVec 16) (s : State) : Host.Outcome State Fault Refusal :=
  s.on fun d => d.store c rs2 rs1 imm 1

/-- STORE_COMPLETE (R102). -/
def execStoreComplete (c : CoreId) (s : State) : Host.Outcome State Fault Refusal :=
  s.on fun d => if d.coreRuns then d.completeStore c else d

/-- VLD (R114): the address must be a multiple of 16. -/
def execVld (c : CoreId) (q : QReg) (rs1 : WReg) (imm : BitVec 16) (u : Vector Upset 4) (s : State) :
    Host.Outcome State Fault Refusal :=
  s.on fun d => d.issue c .stream false fun d =>
    let a := d.memAddr c rs1 imm
    d.vectorLoad c q (laneAddrs a 4) u (d.vectorCause c [a] 16 false)

/-- VST (R114). -/
def execVst (c : CoreId) (q : QReg) (rs1 : WReg) (imm : BitVec 16) (s : State) : Host.Outcome State Fault Refusal :=
  s.on fun d => d.issue c .stream false fun d =>
    let a := d.memAddr c rs1 imm
    d.vectorStore c q (laneAddrs a 4) (d.vectorCause c [a] 16 true)

/-- VLDS (R118). -/
def execVlds (c : CoreId) (q : QReg) (rs1 rs2 : WReg) (u : Vector Upset 4) (s : State) : Host.Outcome State Fault Refusal :=
  s.on fun d => d.issue c .stream false fun d =>
    let as := laneAddrs (d.reg c rs1) (d.reg c rs2)
    d.vectorLoad c q as u (d.vectorCause c as 4 false)

/-- VSTS (R118). -/
def execVsts (c : CoreId) (q : QReg) (rs1 rs2 : WReg) (s : State) : Host.Outcome State Fault Refusal :=
  s.on fun d => d.issue c .stream false fun d =>
    let as := laneAddrs (d.reg c rs1) (d.reg c rs2)
    d.vectorStore c q as (d.vectorCause c as 4 true)

end Sys2Proof.Machine
end

