-- ==== Sys2Proof/Machine/OpciaSys.lean ====
section
/-! DEFINITION. The system instructions of Opcia: FENCE, WAIT, ERET, TRAP (R108, R109), the state registers (R110,
R111), the semaphores (R60, R112), the Weir (R113), BLKEND and the deadline of S (R64 to R66, R119), and the events of
the cores that are no instruction (R46, R55, R92). -/

namespace Sys2Proof.Machine

/-! ### State registers -/

/-- The state register numbers of C0 and C1 (R87). -/
def controlListed (n : Nat) : Bool := n < 10 || (0x10 ≤ n && n ≤ 0x14)

/-- The state registers that TASK may read (R44). -/
def taskReadable (n : Nat) : Bool := n == 0 || n == 8 || n == 9

/-- The cause that an access to a state register meets (R44, R93, R111). -/
def Device.sregCause (d : Device) (c : CoreId) (n : Nat) (write : Bool) : Option CoreFault :=
  match c with
  | .s => if sListed n then none else some .undef
  | _ =>
    if !controlListed n then some .undef
    else if d.atPriv c || (!write && taskReadable n) then none
    else some .priv

/-- The protection region that ST_MPU_SEL names (R53). -/
def Device.mpuSel (d : Device) (c : CoreId) : Fin 16 := Fin.ofNat 16 (d.cget c F.ST_MPU_SEL_REGION)

/-- Reads a state register of C0 or C1 by its number. -/
def Device.sregRead (d : Device) (c : CoreId) (n : Nat) : Word × Device :=
  let r := (d.core c).mpu[d.mpuSel c]
  match n with
  | 0x00 => (BitVec.ofNat 32 (0x100 + c.num), d)
  | 0x08 => d.readCycle c
  | 0x12 => (r.base, d)
  | 0x13 => (r.limit, d)
  | 0x14 => (r.attr, d)
  | _ => ((d.core c).st.word (0x20065000 + 4 * n), d)

/-- Writes one of the region registers (R53). -/
def Device.mpuWrite (d : Device) (c : CoreId) (f : MpuRegion → MpuRegion) : Device :=
  let i := d.mpuSel c
  d.setCore c { d.core c with mpu := (d.core c).mpu.set i (f (d.core c).mpu[i]) }

/-- A write of ST_STATUS: IE, EXL, PIE and PPRIV take their bits, 1 clears SAT, PRIV is read-only (R87). -/
def Device.statusWrite (d : Device) (c : CoreId) (w : Word) : Device :=
  let d := d.cput c F.ST_STATUS_IE (w.getLsbD 0).toNat
  let d := d.cput c F.ST_STATUS_EXL (w.getLsbD 2).toNat
  let d := d.cput c F.ST_STATUS_PIE (w.getLsbD 4).toNat
  let d := d.cput c F.ST_STATUS_PPRIV (w.getLsbD 5).toNat
  if w.getLsbD 8 then d.cput c F.ST_STATUS_SAT 0 else d

/-- Writes a state register of C0 or C1 by its number; read-only fields and reserved bits keep their value (R44,
R12). -/
def Device.sregWrite (d : Device) (c : CoreId) (n : Nat) (w : Word) : Device :=
  let v := w.toNat
  match n with
  | 0x01 => d.statusWrite c w
  | 0x03 => d.cput c F.ST_EPC_EPC (v / 4)
  | 0x05 => d.cput c F.ST_VECBASE_BASE (v / 1024)
  | 0x06 => d.cput c F.ST_SCRATCH0_VALUE v
  | 0x07 => d.cput c F.ST_SCRATCH1_VALUE v
  | 0x10 => (d.cput c F.ST_MPU_CTL_EN (v % 2)).cput c F.ST_MPU_CTL_PRIVDEF (v / 2 % 2)
  | 0x11 => d.cput c F.ST_MPU_SEL_REGION (v % 16)
  | 0x12 => d.mpuWrite c fun r => { r with base := w &&& 0xFFFFFF00 }
  | 0x13 => d.mpuWrite c fun r => { r with limit := w &&& 0xFFFFFF00 }
  | 0x14 => d.mpuWrite c fun r => { r with attr := w &&& 0x7F }
  | _ => d

/-- SRD (R110). -/
def Device.srd (d : Device) (c : CoreId) (w : WReg) (n : Nat) : Device :=
  d.issue c .all false fun d =>
    match d.sregCause c n false with
    | some f => .stop d f
    | none =>
      let r := match c with
        | .s => d.sRead (0x20065000 + 4 * n)
        | _ => d.sregRead c n
      .ok (r.2.setReg c w r.1)

/-- SWR (R110, R111): S changes only ST_STATUS.SAT. -/
def Device.swr (d : Device) (c : CoreId) (w : WReg) (n : Nat) : Device :=
  d.issue c .all false fun d =>
    match d.sregCause c n true with
    | some f => .stop d f
    | none =>
      let v := d.reg c w
      .ok (match c with
        | .s => if n == 1 && v.getLsbD 8 then d.cput .s F.ST_STATUS_SAT 0 else d
        | _ => d.sregWrite c n v)

/-! ### Semaphores -/

/-- The cores that contend for a semaphore in one cycle: the caller, and those that `meets` names (bit 0 C0, bit 1 C1,
bit 2 S). -/
def contenders (c : CoreId) (meets : BitVec 3) : List CoreId :=
  [CoreId.c0, .c1, .s].filter fun x => x == c || meets.getLsbD x.num

/-- The winner among the contenders: the one that has gone longest without winning a tie on the semaphore (R61). -/
def Device.semWinner (d : Device) (n : Fin 32) (c : CoreId) (meets : BitVec 3) : CoreId :=
  (d.semOrder[n].find? fun x => (contenders c meets).contains x).getD c

/-- SEMTAKE: the token and the device after it (R60). Where SEMTAKE operations of other cores meet it in its cycle, the
winner of the tie takes the semaphore, and its own operation, if it is still to come, finds that it has won (R61). -/
def Device.semTake (d : Device) (c : CoreId) (n : Fin 32) (meets : BitVec 3) : Word × Device :=
  if d.get (F.SEM_n_OWNER n) == 0 then
    let w := d.semWinner n c meets
    let d := d.put (F.SEM_n_OWNER n) w.owner
    let tie := 1 < (contenders c meets).length
    let order := if tie then (d.semOrder[n].filter fun x => x != w) ++ [w] else d.semOrder[n]
    let d := { d with semOrder := d.semOrder.set n order, semWon := d.semWon.set n (if w == c then none else some w) }
    (d.semToken n (w == c), d)
  else if d.semWon[n] == some c then
    let d := { d with semWon := d.semWon.set n none }
    (d.semToken n true, d)
  else (d.semToken n false, d)

/-- SEMREL (R60). -/
def Device.semRelease (d : Device) (c : CoreId) (n : Nat) (g : Nat) : Word × Device :=
  if d.get (F.SEM_n_OWNER n) == c.owner && d.get (F.SEM_n_GEN n) == g then
    let d := d.put (F.SEM_n_OWNER n) 0
    (d.semToken n true, d)
  else (d.semToken n false, d)

/-- SEMBRK (R60). -/
def Device.semBreakBy (d : Device) (c : CoreId) (n : Nat) (o g : Nat) : Word × Device :=
  if o != 0 && d.get (F.SEM_n_OWNER n) == o && d.get (F.SEM_n_GEN n) == g then
    let d := d.semBreak n c.num
    (d.semToken n true, d)
  else (d.semToken n false, d)

/-- An instruction that ends with a word in a register. -/
def Retire.give (r : Word × Device) (c : CoreId) (rd : WReg) : Retire := .ok (r.2.setReg c rd r.1)

/-! ### S: the end of a block -/

/-- BLKEND retires in time: the block is complete (R64, R66, R87). -/
def Device.blockEnd (d : Device) : Device :=
  let at_ := d.cget .s F.ST_BLKCYC_CYCLE
  let d := d.cput .s F.ST_ENDCYC_LAST at_
  let d := d.cput .s F.ST_ENDMAX_MAX (max (d.cget .s F.ST_ENDMAX_MAX) at_)
  let d := (d.cput .s F.ST_OVRCNT_CONSEC 0).cput .s F.ST_SSTATE_STATE 2
  { d with stream.done := true }

/-! ### The scrubber (R55, R58, R59) -/

/-- The scrubber reads the word at an address of core or stream SRAM, which `u` has struck. -/
def Device.scrub (d : Device) (a : Nat) (u : Upset) : Device :=
  if d.coreRuns && isSram a then ((d.strike a u).readChecked a).2 else d

/-! ### The instructions -/

/-- FENCE (R108): every earlier store completes. -/
def execFence (c : CoreId) (s : State) : Host.Outcome State Fault Refusal :=
  s.on fun d => d.issue c .all false fun d => (d.drainStores c).after c .ok

/-- WAIT (R109): the core sleeps unless an event waits. -/
def execWait (c : CoreId) (s : State) : Host.Outcome State Fault Refusal :=
  s.on fun d => d.issue c .control false fun d =>
    if d.eventLine c then .ok d else .jump (d.setRun c .sleeping) ((d.core c).pc + 4)

/-- WAIT_WAKE (R109): a sleeping core wakes for an event: it takes it with IE = 1, else it goes on. -/
def execWaitWake (c : CoreId) (s : State) : Host.Outcome State Fault Refusal :=
  s.on fun d =>
    if d.coreRuns && c.isControl && (d.core c).run == .sleeping && d.eventLine c then
      if d.eventDue c then d.takeEvent c else d.setRun c .running
    else d

/-- ERET (R47). -/
def execEret (c : CoreId) (s : State) : Host.Outcome State Fault Refusal :=
  s.on fun d => d.issue c .control false fun d => .jump (d.returnException c) (BitVec.ofNat 32 (d.cget c F.ST_EPC_EPC * 4))

/-- TRAP (R108): the code is ignored. -/
def execTrap (c : CoreId) (_code : BitVec 20) (s : State) : Host.Outcome State Fault Refusal :=
  s.on fun d => d.issue c .all false fun d => .stop d .trap

/-- SRD (R110). -/
def execSrd (c : CoreId) (w : WReg) (num : BitVec 12) (s : State) : Host.Outcome State Fault Refusal :=
  s.on fun d => d.srd c w num.toNat

/-- SWR (R110, R111). -/
def execSwr (c : CoreId) (w : WReg) (num : BitVec 12) (s : State) : Host.Outcome State Fault Refusal :=
  s.on fun d => d.swr c w num.toNat

/-- SEMTAKE (R60, R61, R112): `meets` names the cores whose SEMTAKE of the same semaphore comes in the same cycle. -/
def execSemtake (c : CoreId) (rd : WReg) (n : Fin 32) (meets : BitVec 3) (s : State) : Host.Outcome State Fault Refusal :=
  s.on fun d => d.issue c .all false fun d => .give (d.semTake c n meets) c rd

/-- SEMREL (R60, R112): g = rs[15:0]. -/
def execSemrel (c : CoreId) (rd : WReg) (n : Fin 32) (rs : WReg) (s : State) : Host.Outcome State Fault Refusal :=
  s.on fun d => d.issue c .all false fun d => .give (d.semRelease c n.val ((d.reg c rs).toNat % 65536)) c rd

/-- SEMBRK (R60, R112): o = rs[17:16], g = rs[15:0]. -/
def execSembrk (c : CoreId) (rd : WReg) (n : Fin 32) (rs : WReg) (s : State) : Host.Outcome State Fault Refusal :=
  s.on fun d => d.issue c .control false fun d =>
    let v := (d.reg c rs).toNat
    .give (d.semBreakBy c n.val (v / 65536 % 4) (v % 65536)) c rd

/-- TAKE (R113, R416). -/
def execTake (c : CoreId) (rd : WReg) (s : State) : Host.Outcome State Fault Refusal :=
  s.on fun d => d.issue c .control false fun d => .give (d.take c) c rd

/-- DONE (R113). -/
def execDone (c : CoreId) (rd rs : WReg) (s : State) : Host.Outcome State Fault Refusal :=
  s.on fun d => d.issue c .control false fun d => .give (d.finishTask c ((d.reg c rs).toNat % 64)) c rd

/-- BLKEND (R119): a FENCE, then the block is complete. At the deadline or later it does not retire, and the block is an overrun
(R65, R76). -/
def execBlkend (c : CoreId) (s : State) : Host.Outcome State Fault Refusal :=
  s.on fun d => d.issue c .stream false fun d =>
    let d := d.drainStores c
    if d.atDeadline c then .gone d.streamOverrun else .ok d.blockEnd

/-- A word that is no instruction reaches a core: an unassigned major, an unlisted function or a nonzero reserved field
(R91, R92). -/
def execUndefInstruction (c : CoreId) (s : State) : Host.Outcome State Fault Refusal :=
  s.on fun d => d.issue c .all true fun d => .gone d

/-- EVENT_EXCEPTION (R46, R49): an event that is due at an instruction boundary is taken. -/
def execEventException (c : CoreId) (s : State) : Host.Outcome State Fault Refusal :=
  s.on fun d => if d.executing c && d.eventDue c then d.takeEvent c else d

/-- STREAM_OVERRUN (R65, R66). -/
def execStreamOverrun (s : State) : Host.Outcome State Fault Refusal := s.on Device.streamOverrun

/-- SCRUB_SLOT (R55). -/
def execScrubSlot (addr : Word) (u : Upset) (s : State) : Host.Outcome State Fault Refusal :=
  s.on fun d => d.scrub addr.toNat u

end Sys2Proof.Machine
end

