-- ==== Sys2Proof/Machine/TxnOps.lean ====
section
/-! DEFINITION. The transaction engine (R618 to R648): staging, the judgement of a commit, its preparation, its three
waves at the block boundaries, and its completion. -/

namespace Sys2Proof.Machine

/-! ### Entries against the values in force -/

/-- The field that an entry names, if its access is TXN. -/
def Entry.field (e : Entry) : Option FieldSpec :=
  match regFind e.addr with
  | some r => r.fields.find? fun f => f.lsb == e.lsb && f.acc == .txn
  | none => none

/-- The width of the field that an entry names. -/
def Entry.width (e : Entry) : Nat :=
  match e.field with
  | some f => f.width
  | none => 32

/-- The value in force of what an entry names. -/
def Device.entryNow (d : Device) (e : Entry) : Nat :=
  if e.window then (d.memWord (d.physical e.addr)).toNat else fieldOf (d.word e.addr) e.lsb e.width

/-- The value of an entry is in force. -/
def Device.entryHolds (d : Device) (e : Entry) : Bool := d.entryNow e == e.value.toNat

/-- The Dir attribute that an entry is sorted by; a window entry is neutral. -/
def Entry.dir (e : Entry) : Dir :=
  if e.window then .neu
  else match e.field with
    | some f => f.dir
    | none => .neu

/-- A number as the field compares it (R10). -/
def Entry.compared (e : Entry) (v : Nat) : Int :=
  match e.field with
  | some f => if f.signed && 2 ^ (f.width - 1) ≤ v then (v : Int) - 2 ^ f.width else v
  | none => v

/-- The wave that an entry is sorted into (R9); 0 where its value is in force already. -/
def Device.waveOf (d : Device) (e : Entry) : Nat :=
  if d.entryHolds e then 0
  else
    let up := decide (e.compared (d.entryNow e) < e.compared e.value.toNat)
    match e.dir with
    | .up => if up then 1 else 3
    | .dn => if up then 3 else 1
    | .neu | .fix => 2

/-- The registers with the entries applied. -/
def Device.prospect (d : Device) (es : List Entry) : RegMap :=
  es.foldl (fun r e => if e.window then r else r.put ⟨e.addr, e.lsb, e.width⟩ e.value.toNat) d.regs

/-- An entry takes part in a reserved combination of the registers `r`. -/
def Entry.combines (r : RegMap) (e : Entry) : Bool := !e.window && comboReserved r e.addr

/-- A window entry names no word of the CUR view of an enabled window (R625). -/
def Device.misplaced (d : Device) (e : Entry) : Bool :=
  e.window &&
    match d.windowAt e.addr with
    | some (.cur, _) => false
    | _ => true

/-- A staged word carries a stamp later than the base (check 7 of R624, with R622 and R625). -/
def Device.stampedLater (d : Device) (base : Nat × Nat) (e : Entry) : Bool :=
  (d.get F.TXN_REV_REV == 2 ^ 32 - 1 && base.1 == d.epoch) ||
    (if e.window then
      laterVersion d.txn.winStamp base || laterVersion (d.stampOf R.TXN_CWIN_BASE) base ||
        laterVersion (d.stampOf R.TXN_CWIN_LEN) base
     else laterVersion (d.stampOf e.addr) base)

/-- The other client's transaction in flight claims the word (check 8 of R624). -/
def Device.claimedByOther (d : Device) (c : Client) (e : Entry) : Bool :=
  match d.txn.flight.toList.getD c.other.idx none with
  | some f => f.claims && f.entries.any fun x =>
      if e.window then x.entry.window else !x.entry.window && x.entry.addr == e.addr
  | none => false

/-! ### Staging (R619, R621) -/

/-- A client's staging area. -/
def Device.staged (d : Device) (c : Client) : List Entry := d.txn.stage.toList.getD c.idx []

/-- Replaces a client's staging area. -/
def Device.setStaged (d : Device) (c : Client) (es : List Entry) : Device :=
  match c with
  | .a => { d with txn.stage := d.txn.stage.set 0 es }
  | .b => { d with txn.stage := d.txn.stage.set 1 es }

/-- Replaces a client's transaction in flight. -/
def Device.setFlight (d : Device) (c : Client) (f : Option Flight) : Device :=
  match c with
  | .a => { d with txn.flight := d.txn.flight.set 0 f }
  | .b => { d with txn.flight := d.txn.flight.set 1 f }

/-- A client's transaction in flight. -/
def Device.flightOf (d : Device) (c : Client) : Option Flight := d.txn.flight.toList.getD c.idx none

/-- An entry enters a staging area: it replaces the entry of the same field, or stands behind the others. -/
def stageEntry (es : List Entry) (e : Entry) : List Entry :=
  if es.any fun x => x.key == e.key then es.map fun x => if x.key == e.key then e else x else es ++ [e]

/-- The entries of bytes. -/
def entriesOf : Nat → List Byte → List Entry
  | 0, _ => []
  | n + 1, bs =>
    ⟨BitVec.ofNat 32 (ofLe (bs.take 4)), BitVec.ofNat 32 (ofLe ((bs.drop 4).take 4))⟩ :: entriesOf n (bs.drop 8)

/-- The bytes of an entry. -/
def Entry.bytes (e : Entry) : List Byte := leBytes 4 e.key.toNat ++ leBytes 4 e.value.toNat

/-- Check 3 of R619. -/
def Device.stageable (d : Device) (e : Entry) : Bool :=
  e.key &&& 0xE0000003 == 0 &&
    (if e.space == 0 then e.field.isSome else if e.space == 1 then e.lsb == 0 && !d.misplaced e else false)

/-- Check 4 of R619. -/
def Entry.valueOk (e : Entry) : Bool :=
  e.window || (e.value.toNat < 2 ^ e.width && !fieldReserved e.addr e.lsb e.value.toNat)

/-! ### The judgement of a commit (R624, R625) -/

/-- Why a commit fails: status, cause and the index of the first entry concerned. -/
structure TxnVerdict where
  status : Nat
  cause : Nat
  index : Nat
  deriving DecidableEq, Repr

/-- The first entry that a check concerns. -/
def firstEntry (es : List Entry) (p : Entry → Bool) (status cause : Nat) : Option TxnVerdict :=
  (es.findIdx? p).map fun i => ⟨status, cause, i⟩

/-- The first of several verdicts. -/
def firstVerdict (l : List (Option TxnVerdict)) : Option TxnVerdict := l.findSome? id

/-- The epochs that the other client's transaction, past its B1, is still to raise. -/
def Device.epochsDue (d : Device) (c : Client) : Nat :=
  match d.flightOf c.other with
  | some f => if f.phase == TxnPhase.toWave2 && !f.safe && f.entries.any fun e => e.wave == 2 then 1 else 0
  | none => 0

/-- The epoch has no room for a wave 2 with these entries of a client (R34). -/
def Device.epochEnds (d : Device) (c : Client) (es : List Entry) : Bool :=
  d.txn.ended || (2 ^ 32 - 1 ≤ d.epoch + d.epochsDue c && es.any fun e => d.waveOf e == 2)

/-- Checks 2 and 4 to 8 of R624 with the place check of R625; `bad` says that the staging area holds an uncorrectable
error. -/
def Device.judgeTxn (d : Device) (c : Client) (es : List Entry) (base : Nat × Nat) (bad : Bool) : Option TxnVerdict :=
  let r := d.prospect es
  firstVerdict
    [if bad then some ⟨0x15, 9, 0⟩ else none,
     if d.epochEnds c es then some ⟨0x15, 8, 0⟩ else none,
     if d.inPlay then firstEntry es (fun e => e.dir == .fix && !d.entryHolds e) 0x15 6 else none,
     firstEntry es (Entry.combines r) 0x15 7,
     firstEntry es d.misplaced 0x15 1,
     firstEntry es (d.stampedLater base) 0x13 0,
     firstEntry es (d.claimedByOther c) 0x13 0]

/-- An uncorrectable error of the staging area is reported before the commit reacts (R645); the manual gives the area no
address: the entry's is a free value. -/
def Device.stagingError (d : Device) (bad : Bool) : Device :=
  if bad then { d with freshN := d.freshN + 1 }.eccUncorr d.freeNat else d

/-! ### Completion (R623, R629 to R631) -/

/-- The bitmap of R623. -/
def Device.forceMap (d : Device) (es : List Entry) : Nat :=
  ((es.zipIdx).map fun p => if d.entryHolds p.1 then 2 ^ p.2 else 0).sum

/-- The number of entries in force. -/
def Device.inForce (d : Device) (es : List Entry) : Nat := (es.filter d.entryHolds).length

/-- A commit completes: the response of R623, TXN_CLIENT_c_LAST, the staging area emptied after OK and FAILED_PARTIAL,
the claims released. -/
def Device.txnEnd (d : Device) (c : Client) (es : List Entry) (v : TxnVerdict) (blk waves failWave : Nat) : Device :=
  let data := leBytes 4 d.epoch ++ leBytes 4 (d.get F.TXN_REV_REV) ++ leBytes 4 blk ++
    leBytes 1 waves ++ leBytes 1 failWave ++ leBytes 1 v.cause ++ [0] ++ leBytes 64 (d.forceMap es)
  let d := (d.put (F.TXN_CLIENT_c_LAST_STATUS c.idx) v.status).put (F.TXN_CLIENT_c_LAST_CAUSE c.idx) v.cause
  let d := (d.put (F.TXN_CLIENT_c_LAST_WAVES c.idx) waves).setFlight c none
  let d := if v.status == 0 || v.status == 0x14 then d.setStaged c [] else d
  d.complete c v.status (v.index % 512 + v.cause * 4096) data

/-- A commit is refused: nothing has been applied. -/
def Device.txnRefuse (d : Device) (c : Client) (es : List Entry) (v : TxnVerdict) (blk : Nat) : Device :=
  let d := if v.cause == 8 then { d with txn.ended := true } else d
  d.txnEnd c es v blk 0 0

/-- The entries of a transaction in flight. -/
def Flight.list (f : Flight) : List Entry := f.entries.map FlightEntry.entry

/-- The transaction is done (R630). -/
def Device.txnOk (d : Device) (c : Client) (f : Flight) : Device :=
  let d := (d.orField F.TXN_EVT_EVT (2 ^ (2 + c.idx))).fire 115
  d.txnEnd c f.list ⟨0, 0, 0⟩ f.blk f.waves 0

/-- The transaction ends with its waves up to now (R644). -/
def Device.txnFail (d : Device) (c : Client) (f : Flight) (wave cause index : Nat) : Device :=
  let d := (d.orField F.TXN_EVT_EVT (2 ^ (4 + c.idx))).raise 116 c.idx
    (leBytes 1 wave ++ leBytes 1 cause ++ leBytes 2 (d.inForce f.list))
  d.txnEnd c f.list ⟨0x14, cause, index⟩ f.blk f.waves wave

/-! ### Commit and arming (R624, R634) -/

/-- TXN_COMMIT at the head of its client's queue, its checks 1 to 8 (R624). A commit that passes them is to be armed. -/
def Device.txnCommit (d : Device) (c : Client) (base : Nat × Nat) (bad : Bool) : Device :=
  let es := d.staged c
  let d := d.stagingError (bad && !es.isEmpty)
  let v := if es.isEmpty then some ⟨0x15, 4, 0⟩
    else if bad then some ⟨0x15, 9, 0⟩
    else if laterVersion base d.version then some ⟨0x15, 5, 0⟩
    else d.judgeTxn c es base false
  match v with
  | some v => d.txnRefuse c es v 0
  | none =>
    let f : Flight :=
      { phase := .judged, baseEpoch := base.1, baseRev := base.2, entries := es.map fun e => ⟨e, 0⟩, settle := 0
        waves := 0, blk := 0, safe := false, copy := none }
    (d.beginCmd c).setFlight c (some f)

/-- Copies the copy behind CUR into copy `k` and applies the window entries; false when the read of a word fails. -/
def Device.prepareCopy (d : Device) (k : Nat) (es : List Entry) : Bool × Device :=
  let cur := d.get F.TXN_CWIN_STAT_CUR
  let (ok, d) := (List.range d.winLen).foldl
    (fun (p : Bool × Device) i =>
      let r := p.2.readChecked (p.2.copyAddr cur i)
      match r.1 with
      | some w => (p.1, r.2.storeWord (r.2.copyAddr k i) w)
      | none => (false, r.2)) (true, d)
  (ok, es.foldl
    (fun d e =>
      match d.windowAt e.addr with
      | some (.cur, i) => d.storeWord (d.copyAddr k i) e.value
      | _ => d) d)

/-- The block boundaries until B1: the first that falls at least 4,096 STREAM cycles after the arming (R626). -/
def Device.boundariesToB1 (d : Device) : Nat := if 28672 < d.cget .s F.ST_BLKCYC_CYCLE then 2 else 1

/-- A commit is armed: its window entries are prepared in the free copy (R634). A failed window copy refuses it. -/
def Device.txnArmed (d : Device) (c : Client) : Device :=
  match d.flightOf c with
  | some f =>
    if f.phase != TxnPhase.judged then d
    else
      let armed : Flight := { f with phase := .armed d.boundariesToB1 }
      let ws := f.list.filter Entry.window
      if ws.isEmpty then d.setFlight c (some armed)
      else
        match d.freeCopies with
        | [] => d
        | k :: _ =>
          let (ok, d) := d.prepareCopy k ws
          if ok then d.setFlight c (some { armed with copy := some k })
          else d.txnRefuse c f.list ⟨0x15, 9, 0⟩ 0
  | none => d

/-! ### The waves (R626 to R628) -/

/-- The entries of a wave. -/
def Flight.wave (f : Flight) (w : Nat) : List Entry := (f.entries.filter fun e => e.wave == w).map FlightEntry.entry

/-- No wave after `w` holds entries. -/
def Flight.lastWave (f : Flight) (w : Nat) : Bool := !f.entries.any fun e => w < e.wave

/-- The judgement of a wave at its boundary (R628): cause and index of the failure. -/
def Device.judgeWave (d : Device) (f : Flight) (w : Nat) : Option (Nat × Nat) :=
  let es := f.wave w
  let r := d.prospect es
  let here := fun (p : Entry → Bool) => f.entries.findIdx? fun e => e.wave == w && p e.entry
  let bars := [(here (Entry.combines r)).map fun i => (7, i),
    if w == 2 && d.inPlay then (here fun e => e.dir == .fix && !d.entryHolds e).map fun i => (6, i) else none]
  bars.findSome? id

/-- The words of the prepared copy are read for their errors before it comes into force (R645). -/
def Device.copyGood (d : Device) (k : Nat) : Bool × Device :=
  (List.range d.winLen).foldl
    (fun (p : Bool × Device) i =>
      let r := p.2.readChecked (p.2.copyAddr k i)
      (p.1 && r.1.isSome, r.2)) (true, d)

/-- The window rotates to the prepared copy (R634). -/
def Device.rotateWindow (d : Device) (k : Nat) : Device :=
  let d := (d.put F.TXN_CWIN_STAT_OLD (d.get F.TXN_CWIN_STAT_CUR)).put F.TXN_CWIN_STAT_CUR k
  { d with txn.fadeOld := true }

/-- The version after a wave that applies entries (R622). -/
def Device.waveVersion (d : Device) (w : Nat) : Device :=
  if w == 2 then
    let d := (d.put F.TXN_EPOCH_EPOCH (d.epoch + 1)).put F.TXN_REV_REV 0
    { d with txn.crossfade := true }
  else d.nextRevision

/-- The entries of a wave take effect: fields, the window, the version, the stamps of the words altered; the blocks take
up their words; TXN_WAVE_DONE (R630). -/
def Device.applyWave (d : Device) (c : Client) (f : Flight) (w : Nat) : Device :=
  let es := f.wave w
  let fields := es.filter fun e => !e.window
  let words := (fields.map Entry.addr).dedup
  let olds := words.map fun a => (a, d.word a)
  let d := { d with regs := d.prospect fields }
  let d := match f.copy with
    | some k => if es.any Entry.window then d.rotateWindow k else d
    | none => d
  let d := d.waveVersion w
  let d := words.foldl Device.stampWord d
  let d := if es.any Entry.window then { d with txn.winStamp := d.version } else d
  let d := olds.foldl (fun d p => d.wordApplied p.1 p.2) d
  let d := (d.orField F.TXN_EVT_EVT (2 ^ c.idx)).fire 114
  d.log 152 1 c.idx (leBytes 1 w ++ leBytes 4 d.epoch ++ leBytes 4 (d.get F.TXN_REV_REV) ++ leBytes 2 es.length)

/-- A transaction that a SAFE entry met: what is left of it after wave 1 is dropped (R38, R639). -/
def Device.dropForSafe (d : Device) (c : Client) (f : Flight) (from_ : Nat) : Device :=
  let w := if (f.wave 2).isEmpty || from_ == 3 then 3 else 2
  d.txnFail c f w 10 ((f.entries.findIdx? fun e => e.wave == w).getD 0)

/-- A wave of a transaction at its boundary: judged, applied whole or failed (R628, R644). The flight as it goes on, if
it does. -/
def Device.runWave (d : Device) (c : Client) (f : Flight) (w : Nat) (next : TxnPhase) (bad : Bool) : Device :=
  let go := fun (d : Device) (f : Flight) =>
    if f.lastWave w then d.txnOk c f
    else if f.safe then d.dropForSafe c f (w + 1)
    else d.setFlight c (some { f with phase := next })
  if (f.wave w).isEmpty then go d f
  else
    let d := d.stagingError bad
    let (ok, d) := match f.copy with
      | some k => if w == 2 && (f.wave 2).any Entry.window then d.copyGood k else (true, d)
      | none => (true, d)
    match d.judgeWave f w, ok && !bad with
    | some (cause, i), _ => d.txnFail c f w cause i
    | none, false => d.txnFail c f w 9 0
    | none, true => go (d.applyWave c f w) { f with waves := f.waves ||| 2 ^ (w - 1) }

/-- B1 (R626): the checks again, the claims, the sorting, wave 1. -/
def Device.firstBoundary (d : Device) (c : Client) (f : Flight) (bad : Bool) : Device :=
  let blk := d.cget .s F.ST_BLKCNT_COUNT
  let d := (d.put (F.TXN_CLIENT_c_B1_BLKCNT c.idx) blk).stagingError bad
  match d.judgeTxn c f.list (f.baseEpoch, f.baseRev) bad with
  | some v => d.txnRefuse c f.list v blk
  | none =>
    let f := { f with blk := blk, settle := d.get F.TXN_SETTLE_BLOCKS
                      entries := f.entries.map fun e => { e with wave := d.waveOf e.entry } }
    d.runWave c f 1 .toWave2 false

/-- Wave 3 (R627). -/
def Device.thirdWave (d : Device) (c : Client) (f : Flight) (bad : Bool) : Device :=
  if f.safe then d.dropForSafe c f 3 else d.runWave c f 3 (.toWave3 0) bad

/-- A transaction in flight at a block boundary. -/
def Device.flightBoundary (d : Device) (c : Client) (bad : Bool) : Device :=
  match d.flightOf c with
  | none => d
  | some f =>
    match f.phase with
    | .judged => d
    | .armed n => if 1 < n then d.setFlight c (some { f with phase := .armed (n - 1) }) else d.firstBoundary c f bad
    | .toWave2 => if f.safe then d.dropForSafe c f 2 else d.runWave c f 2 (.toWave3 f.settle) bad
    | .toWave3 n =>
      if f.safe || n ≤ 1 then d.thirdWave c f bad else d.setFlight c (some { f with phase := .toWave3 (n - 1) })

/-- How far a transaction is: those with later waves due come first at a boundary (R40, R626). -/
def Flight.rank (f : Flight) : Nat :=
  match f.phase with
  | .toWave3 _ => 3
  | .toWave2 => 2
  | .armed _ => 1
  | .judged => 0

/-- The commit waves due at a block boundary (R31 action 2): OLD returns to CUR, then the transactions, that of client A
first at one rank. `bad` names the staging areas with an uncorrectable error. -/
def Device.txnBoundary (d : Device) (bad : Vector Bool 2) : Device :=
  let d := if d.txn.fadeOld then
      { d.put F.TXN_CWIN_STAT_OLD (d.get F.TXN_CWIN_STAT_CUR) with txn.fadeOld := false }
    else d
  let d := { d with txn.crossfade := false }
  let rank : Client → Nat := fun c => ((d.flightOf c).map Flight.rank).getD 0
  if rank .a < rank .b then (d.flightBoundary .b bad[1]).flightBoundary .a bad[0]
  else (d.flightBoundary .a bad[0]).flightBoundary .b bad[1]

/-- Wave 3 of a client's transaction is due at this boundary, TXN_SETTLE blocks after B2; `bad` says that its staging
area holds an uncorrectable error. -/
def Device.txnWave3 (d : Device) (c : Client) (bad : Bool) : Device :=
  match d.flightOf c with
  | some f =>
    match f.phase with
    | .toWave3 n => if n ≤ 1 then d.thirdWave c f bad else d
    | _ => d
  | none => d

end Sys2Proof.Machine
end

