-- ==== Sys2Proof/Machine/Boundary.lean ====
section
/-! DEFINITION. The block boundary (R31): what the block that ends hands over, the commit waves, the Reservoir, the
Guard, the block that begins, and the Weir. -/

namespace Sys2Proof.Machine

/-! ### What S hands over (R64 to R68, R86) -/

/-- The sample of a channel in the output window; a word in error beyond correction is a free value. -/
def Device.outSample (d : Device) (i k : Nat) : Int × Device :=
  let r := d.readChecked (0x20064C00 + 64 * i + 4 * k)
  match r.1 with
  | some w => (w.toInt, r.2)
  | none => ((Config.freeWord r.2.freshN).toInt, { r.2 with freshN := r.2.freshN + 1 })

/-- The 16 samples of a channel in the output window. -/
def Device.outChannel (d : Device) (i : Nat) : List Int × Device :=
  (List.range 16).foldl (fun p k => let r := p.2.outSample i k; (p.1 ++ [r.1], r.2)) ([], d)

/-- The four channels of the output window. -/
def Device.outBlock (d : Device) : Vector (List Int) 4 × Device :=
  let (a, d) := d.outChannel 0
  let (b, d) := d.outChannel 1
  let (c, d) := d.outChannel 2
  let (e, d) := d.outChannel 3
  (#v[a, b, c, e], d)

/-- The ramp from a last sample to zero (R65). -/
def rampBlock (y : Int) : List Int := (List.range 16).map fun k => ratHalfEven ((y : Rat) * (15 - (k : Rat)) / 16)

/-- A block ramped in (R65). -/
def fadeBlock (xs : List Int) : List Int := xs.zipIdx.map fun p => ratHalfEven ((p.1 : Rat) * ((p.2 : Rat) + 1) / 16)

/-- A block of zeros. -/
def zeroBlock : Vector (List Int) 4 := .replicate 4 (List.replicate 16 0)

/-- The block that passes to the Guard at this boundary, with its epoch (R72), before S starts its next one. A stop by RUN = 0 lets the block
of S pass, then a ramp, then zero blocks. -/
def Device.streamPass (d : Device) : Vector (List Int) 4 × Device :=
  let st := d.cget .s F.ST_SSTATE_STATE
  let s := d.stream
  let ramp : Vector (List Int) 4 := s.last.map rampBlock
  let (out, muted, d) : Vector (List Int) 4 × Bool × Device :=
    if st == 3 || st == 4 then (zeroBlock, true, d)
    else if s.overrun then (ramp, true, d)
    else if s.done then
      let (xs, d) := d.outBlock
      (if s.muted then xs.map fadeBlock else xs, false, d)
    else if s.rampDue then (ramp, true, d)
    else (zeroBlock, true, d)
  let stops := (st == 1 || st == 2) && d.cget .s F.ST_SCTL_RUN == 0
  let last : Vector Int 4 := out.map fun xs => xs.getD 15 0
  let whole := st != 3 && st != 4 && !s.overrun && s.done
  let d := { d with
    stream.lastEpoch := if whole then s.epoch else d.epoch
    stream.done := false, stream.overrun := false, stream.last := last, stream.rampDue := stops
    stream.muted := muted || stops, stream.resume := s.resume || stops }
  (out, if stops then d.cput .s F.ST_SSTATE_STATE 0 else d)

/-! ### The block of S that begins (R63, R71) -/

/-- S starts a block at this boundary. -/
def Device.streamStarts (d : Device) : Bool :=
  d.cget .s F.ST_SCTL_RUN == 1 && d.cget .s F.ST_SSTATE_STATE != 3 && d.cget .s F.ST_SSTATE_STATE != 4

/-- The registers of S at the first block after RUN is set are undefined (R63): free values. -/
def Device.freeCore (d : Device) : Device :=
  let n := d.freshN
  let w : Vector Word 32 := .ofFn fun i => Config.freeWord (n + i.val)
  let acc : Vector Acc 4 := .ofFn fun i => BitVec.ofNat 72
    ((Config.freeWord (n + 32 + 3 * i.val)).toNat + 2 ^ 32 * (Config.freeWord (n + 33 + 3 * i.val)).toNat +
      2 ^ 64 * (Config.freeWord (n + 34 + 3 * i.val)).toNat)
  let q : Vector QWord 16 := .ofFn fun i => ofLanes fun j => Config.freeWord (n + 44 + 4 * i.val + j)
  { d with sc := { d.sc with w := w, acc := acc, q := q }, freshN := n + 108 }

/-- The block descriptor (R71). -/
def Device.writeDescriptor (d : Device) : Device :=
  let t := d.clk.rt
  let words : List Word := [
    BitVec.ofNat 32 t.frame.toNat,
    BitVec.ofNat 32 (t.frame.toNat / 2 ^ 32 + t.sub.toNat * 65536),
    BitVec.ofNat 32 d.epoch,
    BitVec.ofNat 32 (d.cget .s F.ST_BLKCNT_COUNT),
    BitVec.ofNat 32 d.validMask,
    BitVec.ofNat 32 (d.stream.resume.toNat + 2 * d.txn.crossfade.toNat + 4 * d.pbtl2.toNat), 0, 0]
  words.zipIdx.foldl (fun d p => d.storeWord (0x20064D00 + 4 * p.2) p.1) d

/-- S starts its block: the output bank is cleared, the descriptor written, and S runs from ST_SENTRY. -/
def Device.startStream (d : Device) : Device :=
  let d := (List.range 64).foldl (fun d k => d.storeWord (0x20064C00 + 4 * k) 0) d
  let d := d.writeDescriptor
  let d := if d.cget .s F.ST_SSTATE_STATE == 0 then d.freeCore else d
  let d := (d.setPc .s (BitVec.ofNat 32 (d.cget .s F.ST_SENTRY_ENTRY * 4))).cput .s F.ST_SSTATE_STATE 1
  { d with stream.resume := false, stream.epoch := d.epoch }

/-! ### The modulator at a boundary -/

/-- The events that the modulator raises once for a block, and the start of its next one (R289, R293, R297, R304). -/
def Device.stageEvents (d : Device) : Device :=
  let x := d.stage
  let d := { d with stage.clipSeen := false, stage.rffSeen := false, stage.refreshSeen := false }
  let d := if x.refreshSeen then d.fire 25 else d
  let d := if x.rffSeen then d.fire 26 else d
  if x.clipSeen then d.fire 27 else d

/-- After the waves: MOD_CFG acts, and the shadowed values wait for period 1 (R289, R305). -/
def Device.stageLoad (d : Device) : Device :=
  { d with stage.modeLive := d.word R.MOD_CFG, stage.shadowNext := d.shadowNow, stage.period := 0 }

/-! ### The boundary -/

/-- The count, the time and the end of the block before (R63, R170, R172). -/
def Device.boundaryStart (d : Device) : Device :=
  let d := d.streamOverrun
  let t := d.boundaryTime (d.cget .s F.ST_BLKCYC_CYCLE != 0)
  let d := { d.inputsReach t with clk.rt := t }
  let d := d.cput .s F.ST_BLKCNT_COUNT ((d.cget .s F.ST_BLKCNT_COUNT + 1) % 2 ^ 32)
  let d := d.cput .s F.ST_BLKCYC_CYCLE 0
  let d := if d.clk.step.isSome then (d.stepRingTime.shlRingStep d.clk.rt.ticks).lanesStepped else d
  d.ringPhaseLoss

/-- The block that ends is gathered, under the map and the epoch before the waves (R254). -/
def Device.boundaryGather (d : Device) (x : BoundaryIn) : Device :=
  let swap := d.streamStarts
  let (tarn, d) := d.tarnWindow
  let d := d.gatherLanes swap x.irc fun n => tarn[n]
  let d := (d.gatherSense swap x.sense).keepSense x.sense
  { (d.ircBoundary x.ratio x.small).stageEvents with inp.capWait := false }

/-- Action 2 of R31 and what takes effect with it. -/
def Device.boundaryWaves (d : Device) (x : BoundaryIn) : Device :=
  let d := (d.txnBoundary x.staging).stageLoad
  let d := d.lockMasters.ircLoad.settleAll
  ((d.entryBoundary).diagBoundary x.sense).prechargeBlock x.sense[8]

/-- The DC-on-load detectors take the terminal voltages of the block (R388). -/
def Device.dcNow (d : Device) (v : Vector (List Rat) 4) : Device :=
  (List.finRange 4).foldl (fun d n => d.dcTake n v[n]) d

/-- Actions 3 and 4 of R31. -/
def Device.boundaryBudget (d : Device) (x : BoundaryIn) (outs : Vector (List Int) 4) : Device :=
  let (outs, d) := d.sweepSine outs
  let d := d.dcNow x.dc
  if d.running then
    let d := (d.reservoir x.sense).guardResults x.sense
    let d := (d.loadChecks x.sense).guardModels x.sense
    (d.guardReport.guardOutputs outs d.ceilings).advanceRamp
  else d

/-- Actions 5 and 6 of R31, and the blocks that count time in boundaries. `before` is the device before the boundary. -/
def Device.boundaryEnd (d before : Device) : Device :=
  let d := if d.running || d.limp then d.fire 48 else d
  let d := if d.streamStarts then d.startStream else d
  let d := d.weirBoundary before (d.cget .s F.ST_BLKCNT_COUNT)
  (d.senseNext.senseBoundary.sampleAges.sampleCycle).nvsBoundary

/-- BLOCK_BOUNDARY. No boundary comes while the CORE and STREAM domains are gated or a debug halt stops STREAM. -/
def Device.blockBoundary (d : Device) (x : BoundaryIn) : Device :=
  if !d.coreRuns || d.stage.frozen then d
  else
    let e := d.boundaryStart
    let outs := e.senseOuts x.sense
    let e := e.saturations x.sat x.sense
    let x := { x with sense := outs }
    let e := e.boundaryGather x
    let e := e.boundaryWaves x
    let (outs, e) := e.streamPass
    (e.boundaryBudget x outs).boundaryEnd d

/-- BLOCK_BOUNDARY (R31). -/
def execBlockBoundary (x : BoundaryIn) (s : State) : Host.Outcome State Fault Refusal :=
  s.on fun d => d.blockBoundary x

end Sys2Proof.Machine
end

