-- ==== Sys2Proof/Machine/HostOps.lean ====
section
/-! DEFINITION. The host ports (R568 to R616): the byte streams, the frames, the judgement of a command at the head of
its client's queue, and the opcodes that the port and the engines execute. -/

namespace Sys2Proof.Machine

/-! ### The byte streams (R571 to R573) -/

/-- The port serves its lines: LINK runs. -/
def Device.portServes (d : Device) (c : Client) : Bool := d.linkRuns && d.flag (F.HP_CFG_EN c.idx)

/-- A notification frame. -/
def isNotification (f : List Byte) : Bool := (f.getD 6 0).getLsbD 1

/-- The port status word (R571). -/
def Device.statusWord (d : Device) (c : Client) : Nat :=
  let h := d.port c
  h.outBytes % 8192 + (2080 - h.inbuf.length) * 2 ^ 13 + d.get (F.HP_SEQ_SYNCED c.idx) * 2 ^ 25 +
    (if h.outq.any isNotification then 2 ^ 26 else 0) + (if d.limp then 2 ^ 27 else 0) +
    d.get F.PWR_STAT_STATE * 2 ^ 28

/-- The bytes of the output queue, from the first that has not left. -/
def Hp.stream (h : Hp) : List Byte := h.outq.flatten.drop h.sentOf

/-- `n` bytes of the stream have left: whole frames leave the queue. -/
def Hp.consume (h : Hp) : Nat → List (List Byte) → Nat → Hp
  | n, [], _ => { h with outq := [], sentOf := 0 * n }
  | n, f :: t, sent =>
    if n + sent < f.length then { h with outq := f :: t, sentOf := n + sent }
    else h.consume (n + sent - f.length) t 0

/-- Bytes of the stream, then zeros. -/
def takeZeros (n : Nat) (bs : List Byte) : List Byte := bs.take n ++ List.replicate (n - bs.length) 0

/-- Does a frame's sync stand here? -/
def syncHere (bs : List Byte) : Bool := bs.take 2 == [0x5A, 0xA5]

/-- The bytes behind the whole frames of an input buffer: the frame that is still incomplete. -/
def partialFrame : Nat → List Byte → List Byte
  | 0, bs => bs
  | fuel + 1, bs =>
    match bs with
    | [] => []
    | _ :: t =>
      if !syncHere bs then partialFrame fuel t
      else if bs.length < 12 then bs
      else if !headerGood bs then partialFrame fuel t
      else if bs.length < frameLength bs then bs
      else partialFrame fuel (bs.drop (frameLength bs))

/-- Bytes arrive at the input buffer (R572). When it is full, the frame they belong to is discarded with the bytes
already there and those still to come. -/
def Device.receive (d : Device) (c : Client) (bs : List Byte) : Device :=
  let h := d.port c
  let skip := min h.dropping bs.length
  let bs := bs.drop skip
  let h := { h with dropping := h.dropping - skip }
  let room := 2080 - h.inbuf.length
  if bs.length ≤ room then d.setPort c { h with inbuf := h.inbuf ++ bs }
  else
    let all := h.inbuf ++ bs
    let full := all.take 2080
    let cut := partialFrame 2081 full
    let kept := full.take (full.length - cut.length)
    let tail := all.drop kept.length
    let len := if headerGood tail then frameLength tail else tail.length
    let rest := tail.drop len
    let h := { h with inbuf := kept ++ rest.take (2080 - kept.length), dropping := len - tail.length }
    (((d.setPort c h).bump (F.HP_CNT_OVR c.idx)).hpEvt c 4).protoErr

/-- A wake by a port in ICE (R604): latch 7 or 8. -/
def Device.portWake (d : Device) (c : Client) : Device :=
  if d.pwr.seq == .ice then d.orField F.EVC_WLATCH_LATCH (2 ^ (7 + c.idx)) else d

/-- An SPI transaction: the bytes from the host, and as many to it, the port status word first (R569, R571). Port B is
an SPI port only with HPB_MODE = 0. -/
def Device.spiTransaction (d : Device) (c : Client) (mosi : List Byte) : Device :=
  if c == .b && d.flag F.SYS_STRAP_HPB_MODE then d
  else if !d.portServes c then d.portWake c
  else
    let h := d.port c
    let miso := takeZeros mosi.length (leBytes 4 (d.statusWord c) ++ h.stream)
    let h := ({ h with miso := miso }.consume (mosi.length - 4) h.outq h.sentOf).refill
    (d.setPort c h).receive c mosi

/-- An I²C transfer of port B to an address: bytes written, or a read of `n` acknowledged bytes and one that is not, which
is sent again at the next read. The device answers its own address alone, and no general call (R570); a start condition
wakes it from ICE (R604). -/
def Device.i2cTransfer (d : Device) (addr : BitVec 7) (written : List Byte) (read : Option Nat) : Device :=
  if !d.flag F.SYS_STRAP_HPB_MODE then d
  else if !d.portServes .b then d.portWake .b
  else if addr.toNat != d.get F.SYS_STRAP_HPB_ADDR then d
  else
    let d := if written.isEmpty then d else d.receive .b written
    match read with
    | none => d
    | some n =>
      let h := d.port .b
      let miso := takeZeros (n + 1) (leBytes 4 (d.statusWord .b) ++ h.stream)
      d.setPort .b ({ h with miso := miso }.consume (n - 4) h.outq h.sentOf).refill

/-- The bytes before the next sync are ignored (R572). -/
def skipToSync : List Byte → List Byte
  | [] => []
  | b :: t => if b == 0x5A && (t.isEmpty || t.head? == some 0xA5) then b :: t else skipToSync t

/-- The parser judges the next frame of the input buffer: checks 1 to 4 (R576). -/
def Device.hostFrame (d : Device) (c : Client) : Device :=
  if !d.linkRuns then d
  else
    let h := d.port c
    let bs := skipToSync h.inbuf
    let rest := fun (n : Nat) => d.setPort c { h with inbuf := bs.drop n }
    if bs.length < 12 then rest 0
    else if !headerGood bs then ((((rest 2).bump (F.HP_CNT_HCRC c.idx)).hpEvt c 1).protoErr)
    else if bs.length < frameLength bs then rest 0
    else (rest (frameLength bs)).arrive c (bs.take (frameLength bs)) .port

/-! ### Rights and the lease (R585, R598) -/

/-- A client's privilege mask: AUDIO 1, MAINT 2, SAFETY 4, CELLS 8, READ 16. -/
def Device.privMask (d : Device) (c : Client) : Nat := d.get (F.HP_PRIV_MASK c.idx)

/-- The client holds one of the rights of `m`; 0 asks for none. -/
def Device.hasRight (d : Device) (c : Client) (m : Nat) : Bool := m == 0 || d.privMask c &&& m != 0

/-- The lease is HELD by the client. -/
def Device.holdsLease (d : Device) (c : Client) : Bool :=
  d.get (F.HP_LEASE_STATE 0) == 1 && d.get (F.HP_LEASE_HOLDER 0) == c.idx + 1

/-- The rights of a request code (R208); none for a code that asks for nothing. -/
def stateRights (code : Nat) : Nat := if code == 0 || 10 ≤ code then 0 else requestRights code

/-- The rights and the lease that a host write of a word at an address needs (R585, R737); none where no host may
write. -/
def hostRight (a : Nat) (w : Word) : Option (Nat × Bool) :=
  match regionOf a with
  | .none => some (0, false)
  | .coreSram | .streamLow | .sWindow | .bank6Other => some (2, true)
  | .periph =>
    match a / 0x10000 with
    | 0x4002 => if a == R.PWR_CMD then some (stateRights (w.toNat % 16), false) else some (4, false)
    | 0x4003 => some (15, false)
    | 0x4005 | 0x400C => some (8, false)
    | 0x4006 | 0x4007 | 0x4008 | 0x400A => some (1, false)
    | 0x4009 => some (4, false)
    | 0x400B => if a == R.DIAG_HOLD then some (4, false) else some (1, false)
    | 0x4010 | 0x4014 => none
    | 0x4011 => if a == R.SED_SYSFAULT then some (4, false) else some (2, true)
    | _ => some (2, true)
  | _ => none

/-! ### Checks 5 to 9 (R576, R584) -/

/-- What the table of R584 asks of an opcode: rights, lease, and the kind of conversation (0 none, 4 any). -/
structure OpRule where
  rights : Nat
  lease : Bool
  conv : Nat
  deriving DecidableEq, Repr

/-- The opcodes of R584. -/
def opRule (op : Nat) : Option OpRule :=
  if op == 0x01 || op == 0x02 || op == 0x90 || op == 0xC0 || op == 0x11 || op == 0x30 || op == 0x60 then
    some ⟨0, false, 0⟩
  else if op == 0x03 || op == 0x10 || op == 0x63 || op == 0x70 then some ⟨16, false, 0⟩
  else if op == 0x20 || op == 0x61 || op == 0x62 then some ⟨15, false, 0⟩
  else if 0x40 ≤ op && op ≤ 0x42 then some ⟨2, false, 0⟩
  else if op == 0x43 then some ⟨6, false, 0⟩
  else if op == 0x50 then some ⟨2, true, 0⟩
  else if op == 0x80 then some ⟨8, false, 0⟩
  else if 0xA0 ≤ op && op ≤ 0xA7 then some ⟨2, true, 1⟩
  else if 0xB0 ≤ op && op ≤ 0xB3 then some ⟨2, true, 2⟩
  else if op == 0xC1 then some ⟨0, false, 4⟩
  else if 0x8000 ≤ op && op ≤ 0xFEFF then some ⟨16, false, 3⟩
  else none

/-- A little-endian field of a payload. -/
def field (p : List Byte) (o n : Nat) : Nat := ofLe ((p.drop o).take n)

/-- Check 6: the payload has the length that its opcode and count fields give (R584, R586, R601, R619, R621, R709). -/
def lenOk (op : Nat) (p : List Byte) : Bool :=
  let n := p.length
  let count := field p 4 2
  let word := field p 0 4 % 4 == 0 && 1 ≤ count && count ≤ 250
  match op with
  | 0x10 => n == 8 && word
  | 0x11 => n == 8 + 4 * count && word
  | 0x20 | 0x30 | 0x50 | 0xA4 | 0xB0 | 0xC0 => n == 4
  | 0x60 => n == 4 + 8 * field p 0 2 && 1 ≤ field p 0 2 && field p 0 2 ≤ 127
  | 0x61 | 0xB3 => n == 8
  | 0x63 => n == 4 && field p 2 2 ≤ 126
  | 0x70 => n == 8 && 1 ≤ field p 4 1 && field p 4 1 ≤ 31
  | 0x80 => 4 ≤ n && n == 4 + field p 2 1
  | 0x90 => 16 ≤ n && n ≤ 1024 && n == 4 + 12 + field p 12 2 + (if field p 12 2 == 0 then 0 else 4)
  | 0xA0 => n == 40
  | 0xA1 => 9 ≤ n && n ≤ 968
  | 0xA7 => n == 36
  | 0xB1 | 0xB2 => n == 12
  | _ => op == 0x02 || 0x8000 ≤ op || n == 0

/-- The opcodes that the boot ROM serves in ROM operation (R708). -/
def romServes (k : Cmd) : Bool :=
  k.opcode ≤ 3 || (0x40 ≤ k.opcode && k.opcode ≤ 0x43) || (k.opcode == 0xC0 && field k.payload 0 1 == 1) ||
    k.opcode == 0xC1 || (0xA0 ≤ k.opcode && k.opcode ≤ 0xA4) || k.opcode == 0xA6

/-- Check 5: a command without RSP, NTF or reserved FLAGS bits, of a defined opcode. -/
def Device.opDefined (d : Device) (c : Client) (k : Cmd) : Bool :=
  k.flags &&& 0xF0F3 == 0 && (!k.flags.testBit 2 || k.opcode == 1) && (opRule k.opcode).isSome &&
    (k.opcode < 0x8000 || d.flag (F.HP_CFG_FWOP c.idx)) && (!d.nvs.rom || romServes k)

/-- CONV of a command: 0 none. -/
def Cmd.conv (k : Cmd) : Nat := k.flags / 256 % 16

/-- The conversation that a command names. -/
def Device.convOf (d : Device) (c : Client) (n : Nat) : Conv :=
  if 1 ≤ n && n ≤ 4 then (d.port c).convs.toList.getD (n - 1) .closed else .closed

/-- Replaces a conversation of a client. -/
def Device.setConv (d : Device) (c : Client) (n : Nat) (v : Conv) : Device :=
  let h := d.port c
  let convs : Vector Conv 4 := .ofFn fun i => if i.val + 1 = n then v else h.convs[i]
  d.setPort c { h with convs := convs }

/-- Check 9 (R595, R596): none when it passes. An APP command may name none. -/
def Device.convBars (d : Device) (c : Client) (k : Cmd) (kind : Nat) : Option Nat :=
  let v := d.convOf c k.conv
  if kind == 0 || (kind == 3 && k.conv == 0) then none
  else if v.kind == 0 then some (if v.timedOut then 0x12 else 0x11)
  else if kind != 4 && v.kind != kind then some 0x11
  else none

/-- The rights and the lease of the words of a REG_WRITE. -/
def Device.writeBars (d : Device) (c : Client) (p : List Byte) : Option Nat :=
  let a := field p 0 4
  let needs := (List.range (field p 4 2)).map fun i => hostRight (a + 4 * i) (BitVec.ofNat 32 (field p (8 + 4 * i) 4))
  if needs.any fun n => match n with
    | some r => !d.hasRight c r.1
    | none => true
  then some 7
  else if needs.any fun n => match n with
    | some r => r.2 && !d.holdsLease c
    | none => false
  then some 8
  else none

/-- Checks 7 and 8 of an opcode whose rights depend on its payload (R208, R585, R595). -/
def Device.payloadBars (d : Device) (c : Client) (k : Cmd) : Option Nat :=
  let b := field k.payload 0 1
  match k.opcode with
  | 0x11 => d.writeBars c k.payload
  | 0x30 => if d.hasRight c (stateRights b) then none else some 7
  | 0xC0 =>
    if b == 1 || b == 2 then
      if !d.hasRight c 2 then some 7 else if !d.holdsLease c then some 8 else none
    else if b == 3 && !d.hasRight c 16 then some 7
    else none
  | _ => none

/-- Checks 5 to 9: the status that ends the command before it executes, if one does. -/
def Device.commandBars (d : Device) (c : Client) (k : Cmd) : Option Nat :=
  if !d.opDefined c k then some 1
  else if !lenOk k.opcode k.payload then some 6
  else
    match opRule k.opcode with
    | none => some 1
    | some r =>
      if !d.hasRight c r.rights then some 7
      else if r.lease && !d.holdsLease c then some 8
      else
        match d.payloadBars c k with
        | some s => some s
        | none => d.convBars c k r.conv

/-- What a command touches, as spans of addresses: a register access its words, any other command the block that serves it
and, for a commit, the words it stages. -/
def Device.spansOf (d : Device) (c : Client) (k : Cmd) : List (Nat × Nat) :=
  let block := fun (b : Nat) => (b * 0x10000, 0x10000)
  let staged := fun (es : List Entry) => es.map fun e => (e.addr, 4)
  let op := k.opcode
  if op == 0x10 || op == 0x11 then [(field k.payload 0 4, 4 * field k.payload 4 2)]
  else if op == 0x03 then [block 0x4002, (R.TXN_EPOCH, 4), (R.HP_LEASE 0, 4)]
  else if op == 0x20 then [block 0x4003]
  else if op == 0x30 then [block 0x4002]
  else if 0x40 ≤ op && op ≤ 0x43 then [(R.HP_LEASE 0, 4)]
  else if op == 0x50 then [(R.HP_PRIV 0, 4), (R.HP_PRIV 1, 4)]
  else if op == 0x60 then block 0x4010 :: staged (entriesOf (field k.payload 0 2) (k.payload.drop 4))
  else if op == 0x61 then block 0x4010 :: staged (d.staged c)
  else if op == 0x62 || op == 0x63 then [block 0x4010]
  else if op == 0x70 then [block 0x4011]
  else if op == 0x80 then [block 0x400C]
  else if op == 0x90 then [block 0x400D]
  else if 0xA0 ≤ op && op ≤ 0xB3 then [block 0x4012]
  else []

/-- Two commands touch one resource. -/
def spansMeet (x y : List (Nat × Nat)) : Bool := x.any fun p => y.any fun q => p.1 < q.1 + q.2 && q.1 < p.1 + p.2

/-- A command came to its parser before another of the other client: in an earlier cycle, or in the same one and from
client A (R32). -/
def Cmd.before (q : Cmd) (qc : Client) (k : Cmd) : Bool := q.at_ < k.at_ || (q.at_ == k.at_ && qc == .a)

/-- A command of the other client that came before waits still, and touches what this one touches (R32). -/
def Device.mustWait (d : Device) (c : Client) (k : Cmd) : Bool :=
  let h := d.port c.other
  let waiting := if h.busy then h.queue.drop 1 else h.queue
  waiting.any fun q => q.before c.other k && spansMeet (d.spansOf c.other q) (d.spansOf c k)

/-- The command at the head of a client's queue that may execute now: the device serves its hosts, nothing of the client
executes, the response has room, and no earlier command of the other client on the same resource waits (R32, R573,
R604). -/
def Device.headCmd (d : Device) (c : Client) : Option Cmd :=
  let h := d.port c
  match h.queue with
  | k :: _ => if d.coreRuns && (d.running || d.nvs.rom) && !h.busy && d.outRoom c k && !d.mustWait c k then some k
    else none
  | [] => none

/-- A command of the opcodes `p` at the head of its client's queue is judged and executes (R576). Another command leaves
the device as it is. -/
def Device.serve (d : Device) (c : Client) (p : Nat → Bool) (act : Device → Cmd → Device) : Device :=
  match d.headCmd c with
  | none => d
  | some k =>
    if !p k.opcode then d
    else
      match d.commandBars c k with
      | some s => d.complete c s
      | none => act d k

/-- A command of one opcode. -/
def Device.serveOp (d : Device) (c : Client) (op : Nat) (act : Device → Cmd → Device) : Device :=
  d.serve c (fun x => x == op) act

/-- An undefined opcode (R584, check 5). -/
def Device.hostUnknown (d : Device) (c : Client) : Device :=
  match d.headCmd c with
  | none => d
  | some k => if d.opDefined c k then d else d.complete c 1

/-! ### HELLO, PING, STATUS (R578, R584) -/

/-- HELLO: with SYNC it empties the cache, sets EXP and closes the conversations. -/
def Device.hello (d : Device) (c : Client) : Device :=
  d.serveOp c 1 fun d k =>
    let d :=
      if k.flags.testBit 2 then
        let h := d.port c
        let d := d.setPort c { h with cache := [], convs := .replicate 4 .closed }
        (d.setExp c (k.seq + 1)).setFlag (F.HP_SEQ_SYNCED c.idx) true
      else d
    d.complete c 0 0
      (leBytes 2 (d.exp c) ++ leBytes 1 (d.privMask c) ++ [0] ++ leBytes 4 (d.word R.SYS_RST_CAUSE).toNat ++
        leBytes 4 d.sed.resetSeq)

/-- PING; the response has room for 1,020 bytes. -/
def Device.ping (d : Device) (c : Client) : Device := d.serveOp c 2 fun d k => d.complete c 0 0 (k.payload.take 1020)

/-- The lease as response data. -/
def Device.leaseData (d : Device) : List Byte := leBytes 4 (d.word (R.HP_LEASE 0)).toNat

/-- STATUS. -/
def Device.hostStatus (d : Device) (c : Client) : Device :=
  d.serveOp c 3 fun d _ =>
    d.complete c 0 0
      (leBytes 4 (d.word R.PWR_STAT).toNat ++ leBytes 4 (d.word R.PWR_FAULT).toNat ++
        leBytes 4 (d.word R.PWR_CMD_STAT).toNat ++ leBytes 4 d.epoch ++ leBytes 8 d.clk.rt.packed.toNat ++ d.leaseData)

/-! ### Register access, events and states (R586 to R588) -/

/-- The master that a client's port is. -/
def portMaster : Client → Master
  | .a => .portA
  | .b => .portB

/-- The index of the first word of a span outside every block and memory. -/
def firstAbsent (a n : Nat) : Option Nat := (List.range n).find? fun i => regionOf (a + 4 * i) == Region.none

/-- Reads words in ascending order until one fails: the words, whether all were read, the device. -/
def Device.readWords (d : Device) (a : Nat) : Nat → List Word → List Word × Bool × Device
  | 0, acc => (acc, true, d)
  | n + 1, acc =>
    match d.busRead a with
    | (some w, d) => d.readWords (a + 4) n (acc ++ [w])
    | (none, d) => (acc, false, d)

/-- REG_READ. -/
def Device.regReadOp (d : Device) (c : Client) : Device :=
  d.serveOp c 0x10 fun d k =>
    let a := field k.payload 0 4
    let n := field k.payload 4 2
    match firstAbsent a n with
    | some i => d.complete c 0x0A i
    | none =>
      let (ws, ok, d) := d.readWords a n []
      let data := ws.flatMap fun w => leBytes 4 w.toNat
      if ok then d.complete c 0 0 data else d.complete c 0x0C ws.length data

/-- Writes words in ascending order until one is rejected: its index, if there is one. -/
def Device.writeWords (d : Device) (m : Master) (a : Nat) : Nat → List Word → Option Nat × Device
  | _, [] => (none, d)
  | i, w :: t =>
    match d.busWrite m true (a + 4 * i) w with
    | (true, d) => (some i, d)
    | (false, d) => d.writeWords m a (i + 1) t

/-- REG_WRITE. A write that resets the device leaves no command to complete. -/
def Device.regWriteOp (d : Device) (c : Client) : Device :=
  d.serveOp c 0x11 fun d k =>
    let a := field k.payload 0 4
    let n := field k.payload 4 2
    match firstAbsent a n with
    | some i => d.complete c 0x0A i
    | none =>
      let ws := (List.range n).map fun i => BitVec.ofNat 32 (field k.payload (8 + 4 * i) 4)
      match d.writeWords (portMaster c) a 0 ws with
      | (some i, d) => d.complete c 0x0B i (leBytes 4 (a + 4 * i))
      | (none, d) => d.complete c 0

/-- EVT_DONE: the completion register of the port's target; the notification of the source is served (R587, R593). -/
def Device.evtDone (d : Device) (c : Client) : Device :=
  d.serveOp c 0x20 fun d k =>
    let n := field k.payload 0 1
    if 128 ≤ n then
      (d.reject (R.EVC_DONE_x (2 + c.idx))).complete c 0x0B
    else
      let x : Fin 4 := if c == .a then 2 else 3
      let d := d.completeEvent x n
      let h := d.port c
      (d.setPort c { h with ntf := h.ntf.filter fun t => t.source != n }).complete c 0

/-- STATE_REQ (R588). -/
def Device.stateReq (d : Device) (c : Client) : Device :=
  d.serveOp c 0x30 fun d k =>
    let code := field k.payload 0 1
    if 10 ≤ code then (d.reject R.PWR_CMD).complete c 0x0B
    else
      let d := d.pwrCommand (portMaster c) true code
      let r := d.get F.PWR_CMD_STAT_RESULT
      if r == 3 then d.complete c 0x0D (d.get F.PWR_CMD_STAT_REASON) else d.complete c 0 r

/-! ### The lease (R598 to R600) -/

/-- Sets the lease in both blocks. -/
def Device.setLease (d : Device) (st holder remain : Nat) : Device :=
  (List.range 2).foldl
    (fun d x => ((d.put (F.HP_LEASE_STATE x) st).put (F.HP_LEASE_HOLDER x) holder).put (F.HP_LEASE_REMAIN x) remain) d

/-- STATE of the lease: 0 FREE, 1 HELD, 2 EXPIRED. -/
def Device.leaseState (d : Device) : Nat := d.get (F.HP_LEASE_STATE 0)

/-- The lease belongs to the client, held or expired. -/
def Device.leaseOf (d : Device) (c : Client) : Bool := d.leaseState != 0 && d.get (F.HP_LEASE_HOLDER 0) == c.idx + 1

/-- Grants or renews the lease: the timer starts at 49,152,000 LINK cycles, 500 ms (R599). -/
def Device.grantLease (d : Device) (c : Client) : Device := { d.setLease 1 (c.idx + 1) 500 with leasePhase := 0 }

/-- A lease opcode completes with the lease as its data. -/
def Device.leaseDone (d : Device) (c : Client) (status : Nat) : Device := d.complete c status 0 d.leaseData

/-- The client's UPDATE and ADOPT conversations close (R596). -/
def Device.closeLeased (d : Device) (c : Client) : Device :=
  let h := d.port c
  let convs := h.convs.map fun v => if v.kind == 1 || v.kind == 2 then Conv.closed else v
  d.setPort c { h with convs := convs }

/-- LEASE_ACQUIRE. -/
def Device.leaseAcquire (d : Device) (c : Client) : Device :=
  d.serveOp c 0x40 fun d _ =>
    if d.leaseState == 0 || d.leaseOf c then (d.grantLease c).leaseDone c 0 else d.leaseDone c 9

/-- LEASE_RENEW. -/
def Device.leaseRenew (d : Device) (c : Client) : Device :=
  d.serveOp c 0x41 fun d _ => if d.leaseOf c then (d.grantLease c).leaseDone c 0 else d.leaseDone c 8

/-- LEASE_RELEASE. -/
def Device.leaseRelease (d : Device) (c : Client) : Device :=
  d.serveOp c 0x42 fun d _ =>
    if d.leaseOf c then ((d.setLease 0 0 0).closeLeased c).leaseDone c 0 else d.leaseDone c 8

/-- The lease goes to a breaker with MAINT rights, else it is FREE. -/
def Device.takeLease (d : Device) (c : Client) : Device :=
  if d.hasRight c 2 then d.grantLease c else d.setLease 0 0 0

/-- LEASE_BREAK. Against an EXPIRED lease it waits for the command of the silent client that executes (R600). -/
def Device.leaseBreak (d : Device) (c : Client) : Device :=
  d.serveOp c 0x43 fun d _ =>
    let o := c.other
    if d.leaseState == 0 then (d.takeLease c).leaseDone c 0
    else if d.leaseOf c then d.leaseDone c 0
    else if d.leaseState == 1 then d.leaseDone c 9
    else if (d.port o).busy then d
    else
      let d := ((d.abortQueue o).closeLeased o).takeLease c
      let d := (d.hpEvt .a 64).hpEvt .b 64
      (d.raise 118 0).leaseDone c 0

/-- The lease timer ends (R599). -/
def Device.leaseExpired (d : Device) : Device :=
  if d.linkRuns && d.leaseState == 1 then
    let holder := d.get (F.HP_LEASE_HOLDER 0)
    let d := d.setLease 2 holder 0
    ((d.hpEvt .a 32).hpEvt .b 32).raise 117 (holder - 1)
  else d

/-- The STREAM cycles of a millisecond: 98,304 LINK cycles of two. -/
def leaseMs : Nat := 196608

/-- The lease timer in one STREAM cycle: REMAIN falls each millisecond, and at 0 the lease expires (R599). -/
def Device.tickLease (d : Device) : Device :=
  if d.leaseState != 1 then d
  else if d.leasePhase + 1 < leaseMs then { d with leasePhase := d.leasePhase + 1 }
  else
    let left := d.get (F.HP_LEASE_REMAIN 0) - 1
    let d := { d.setLease 1 (d.get (F.HP_LEASE_HOLDER 0)) left with leasePhase := 0 }
    if left = 0 then d.leaseExpired else d

/-! ### SET_PRIV (R26, R589, R717) -/

/-- The line write of a new system record. -/
def Device.systemLine (d : Device) (a b : Nat) : LineJob :=
  let (copy, gen) := match d.systemNow with
    | some (k, g, _, _) => (1 - k, g + 1)
    | none => (0, 1)
  let body := leBytes 4 gen ++ leBytes 1 a ++ leBytes 1 b ++ List.replicate 26 0
  ⟨0xD0000 + 0x40 * copy, .bytes (body ++ leBytes 32 (Config.deviceHmac body).toNat), false⟩

/-- SET_PRIV. -/
def Device.setPriv (d : Device) (c : Client) : Device :=
  d.serveOp c 0x50 fun d k =>
    let who := field k.payload 0 1
    let mask := field k.payload 1 1
    if 1 < who || 31 < mask then d.complete c 0x0B
    else
      let a := if who == 0 then mask else d.privMask .a
      let b := if who == 1 then mask else d.privMask .b
      if (a ||| b) &&& 4 == 0 || (a ||| b) &&& 2 == 0 then d.complete c 7
      else
        let op : SecOp :=
          { lines := [d.systemLine a b], reply := some ⟨c, 0, 0, []⟩, act := .priv (if who == 0 then .a else .b) mask
            upd := false, waited := 0 }
        (d.beginCmd c).secOp op

/-! ### Transactions (R619, R621) -/

/-- The first two checks of an entry in TXN_STAGE: DENIED, NO_LEASE. -/
def Device.stageRight (d : Device) (c : Client) (e : Entry) : Option Nat :=
  match hostRight e.addr 0 with
  | none => some 7
  | some r => if !d.hasRight c r.1 then some 7 else if r.2 && !d.holdsLease c then some 8 else none

/-- Judges and stages the entries of a TXN_STAGE in order: the new staging area, or the status, the cause and the index
of the first that fails. -/
def Device.stageAll (d : Device) (c : Client) : Nat → List Entry → List Entry → Except (Nat × Nat × Nat) (List Entry)
  | _, es, [] => .ok es
  | i, es, e :: t =>
    match d.stageRight c e with
    | some s => .error (s, 0, i)
    | none =>
      if !d.stageable e then .error (0x15, 1, i)
      else if !e.valueOk then .error (0x15, 2, i)
      else
        let es' := stageEntry es e
        if 512 < es'.length then .error (0x15, 3, i) else d.stageAll c (i + 1) es' t

/-- TXN_STAGE. -/
def Device.txnStage (d : Device) (c : Client) : Device :=
  d.serveOp c 0x60 fun d k =>
    match d.stageAll c 0 (d.staged c) (entriesOf (field k.payload 0 2) (k.payload.drop 4)) with
    | .ok es => (d.setStaged c es).complete c 0 0 (leBytes 2 es.length ++ [0, 0])
    | .error (s, cause, i) => d.complete c s (i + cause * 4096)

/-- TXN_COMMIT. -/
def Device.txnCommitOp (d : Device) (c : Client) (bad : Bool) : Device :=
  d.serveOp c 0x61 fun d k => d.txnCommit c (field k.payload 0 4, field k.payload 4 4) bad

/-- TXN_DISCARD. -/
def Device.txnDiscard (d : Device) (c : Client) : Device :=
  d.serveOp c 0x62 fun d _ => (d.setStaged c []).complete c 0 0 (leBytes 2 (d.staged c).length ++ [0, 0])

/-- TXN_QUERY. -/
def Device.txnQuery (d : Device) (c : Client) : Device :=
  d.serveOp c 0x63 fun d k =>
    let es := ((d.staged c).drop (field k.payload 0 2)).take (field k.payload 2 2)
    let st := fieldOf (d.txnClient c) 12 2
    d.complete c 0 es.length
      (leBytes 4 d.epoch ++ leBytes 4 (d.get F.TXN_REV_REV) ++ leBytes 2 (d.staged c).length ++ leBytes 1 st ++
        leBytes 1 (d.get F.TXN_SETTLE_BLOCKS) ++ es.flatMap Entry.bytes)

/-! ### LOG_READ (R663) -/

/-- LOG_READ. -/
def Device.logRead (d : Device) (c : Client) : Device :=
  d.serveOp c 0x70 fun d k =>
    let r := d.logTake (d.logPlaces (field k.payload 0 4)) (field k.payload 4 1)
    r.2.complete c 0 r.1.length r.1.flatten

/-! ### Chain and ring (R590, R601 to R603) -/

/-- CHN_CMD: mailbox 2 or 3. -/
def Device.chnCmd (d : Device) (c : Client) : Device :=
  d.serveOp c 0x80 fun d k =>
    let m : Fin 4 := if c == .a then 2 else 3
    let p := k.payload
    let addr := field p 0 1
    let op := field p 1 1
    let len := field p 2 1
    let st := d.get (F.SHL_MB_RES_m_STATE m.val)
    let a := R.SHL_MB_CTL_m m.val
    if addr == 0 || (65 ≤ addr && addr != 127) || fieldReserved a 8 op || 64 < len || st == 1 || st == 2 then
      d.complete c 0x0B
    else
      let d := (d.put (F.SHL_MB_CTL_m_ADDR m.val) addr).put (F.SHL_MB_CTL_m_OPCODE m.val) op
      let d := (d.put (F.SHL_MB_CTL_m_LEN m.val) len).bufferWrite (d.get (F.SHL_MB_BUF_m_ADDR m.val) * 4) (p.drop 4)
      (d.beginCmd c).mailboxQueue m

/-- RELAY (R601, R602). A target that is this node takes the frame at its own parser. -/
def Device.relayOp (d : Device) (c : Client) : Device :=
  d.serveOp c 0x90 fun d k =>
    let p := k.payload
    let node := field p 0 1
    let who := field p 1 1
    let ms := field p 2 2
    let frame := p.drop 4
    let target : Client := if who == 0 then .a else .b
    if 127 < node || 1 < who || ms == 0 || 1000 < ms then d.complete c 0x0B
    else if !d.adopted || !d.trnLock then d.complete c 0x16
    else if node == d.get F.TRN_STAT_NODE then
      let d := d.beginCmd c
      let d := d.setPort c { d.port c with relay := some (node, target) }
      d.arriveWhole target frame (.loc c)
    else if d.get (F.TRN_NODE_k_STATE node) != 1 then d.complete c 0x16
    else
      let d := d.beginCmd c
      (d.setPort c { d.port c with relay := some (node, target) }).trnFragments node 8 target frame

/-- A RELAY has not been answered in its time (R603). -/
def Device.relayTimeout (d : Device) (c : Client) : Device :=
  if (d.port c).busy && (d.port c).relay.isSome then d.complete c 0x17 else d

/-! ### Update opcodes (R709 to R715) -/

/-- An update opcode, handed to the engine with its client and its payload. -/
def Device.updOp (d : Device) (c : Client) (op : Nat) (act : Device → List Byte → Device) : Device :=
  d.serveOp c op fun d k => act d k.payload

/-- The reset of an activation, after its response has left or 100 ms after it (R713). -/
def Device.activateReset (d : Device) : Device :=
  if d.nvs.resetAfter.isSome then d.softwareReset else d

/-! ### Rosters (R696, R697) -/

/-- The node holds the roster of a kind. -/
def Device.holdsRoster (d : Device) (ring : Bool) : Bool := if ring then d.ringMaster else d.flag F.SHL_CFG_EN

/-- An ID opcode that cannot act. -/
def Device.idRefuse (d : Device) (c : Client) (code : Nat) : Device := d.complete c 0x0B code

/-- An ID opcode: KIND and the holder of its roster are judged first. -/
def Device.idOp (d : Device) (c : Client) (op : Nat) (act : Device → Cmd → Bool → Device) : Device :=
  d.serveOp c op fun d k =>
    let kind := field k.payload 0 1
    if 1 < kind then d.idRefuse c 7
    else if !d.holdsRoster (kind == 0) then
      let v := d.convOf c k.conv
      let d := if op == 0xB3 then d.setConv c k.conv { v with staged := [] } else d
      d.idRefuse c 1
    else act d k (kind == 0)

/-- The bytes of one roster entry (R694). -/
def rosterEntryBytes (e : RosterEntry) : List Byte :=
  leBytes 8 e.tag ++ leBytes 1 e.index ++ leBytes 1 e.flags ++ List.replicate 6 0

/-- ID_LIST. -/
def Device.idList (d : Device) (c : Client) : Device :=
  d.idOp c 0xB0 fun d k ring =>
    let first := field k.payload 1 1
    let n := field k.payload 2 1
    if n == 0 || 60 < n then d.idRefuse c 0
    else
      let l := d.rosterList ring
      let es := (List.range n).map fun i => (l.find? fun e => e.index == first + i).getD ⟨0, 0, 0⟩
      d.complete c 0 0 (leBytes 4 (d.rosterGen ring) ++ es.flatMap rosterEntryBytes)

/-- The roster with the staged changes of a kind applied. -/
def applyChanges (ring : Bool) (l : List RosterEntry) (cs : List IdChange) : List RosterEntry :=
  cs.foldl
    (fun l x =>
      if x.ring != ring then l
      else if x.adopt then l ++ [⟨x.tag, x.index, x.flags⟩]
      else l.filter fun e => e.tag != x.tag) l

/-- The index that an adopted tag takes: that of the STRANGER node which holds it, when free, else the lowest free. -/
def Device.adoptIndex (d : Device) (ring : Bool) (l : List RosterEntry) (tag : Nat) : Option Nat :=
  let free := fun (i : Nat) => !l.any fun e => e.index == i
  let cap := if ring then 128 else 64
  let own := if ring then
      (d.trn.nodes.find? fun r => r.tag == tag && d.get (F.TRN_NODE_k_STATE r.node) == 2).map fun r => r.node
    else none
  match own with
  | some n => if n < cap && free n then some n else (List.range cap).find? free
  | none => (List.range cap).find? free

/-- ID_ADOPT. -/
def Device.idAdopt (d : Device) (c : Client) : Device :=
  d.idOp c 0xB1 fun d k ring =>
    let flags := field k.payload 1 1
    let tag := field k.payload 4 8
    let v := d.convOf c k.conv
    let l := applyChanges ring (d.rosterList ring) v.staged
    if tag == 0 || (if ring then 1 < flags else flags != 0) then d.idRefuse c 0
    else if l.any (fun e => e.tag == tag) || v.staged.any (fun x => x.ring == ring && x.adopt && x.tag == tag) then
      d.idRefuse c 6
    else if 16 ≤ v.staged.length then d.idRefuse c 3
    else
      match d.adoptIndex ring l tag with
      | none => d.idRefuse c 3
      | some i =>
        (d.setConv c k.conv { v with staged := v.staged ++ [⟨true, ring, flags, tag, i⟩] }).complete c 0 0
          (leBytes 4 i)

/-- ID_REVOKE. -/
def Device.idRevoke (d : Device) (c : Client) : Device :=
  d.idOp c 0xB2 fun d k ring =>
    let tag := field k.payload 4 8
    let v := d.convOf c k.conv
    let l := applyChanges ring (d.rosterList ring) v.staged
    if tag == 0 then d.idRefuse c 0
    else if ring && tag == ownTag then d.idRefuse c 5
    else if !l.any (fun e => e.tag == tag) then d.idRefuse c 4
    else if 16 ≤ v.staged.length then d.idRefuse c 3
    else (d.setConv c k.conv { v with staged := v.staged ++ [⟨false, ring, 0, tag, 0⟩] }).complete c 0

/-- ID_COMMIT: the staged changes of the kind are written as a new generation (R694, R698). -/
def Device.idCommit (d : Device) (c : Client) : Device :=
  d.idOp c 0xB3 fun d k ring =>
    let v := d.convOf c k.conv
    let gen := d.rosterGen ring
    if gen != field k.payload 4 4 then d.idRefuse c 2
    else
      let mine := v.staged.filter fun x => x.ring == ring
      let l := applyChanges ring (d.rosterList ring) v.staged
      let d := d.setConv c k.conv { v with staged := v.staged.filter fun x => x.ring != ring }
      let tags := fun (adopt : Bool) => (mine.filter fun x => x.adopt == adopt).map IdChange.tag
      let op : SecOp :=
        { lines := d.rosterLines ring (gen + 1) l, reply := some ⟨c, 0, 0, leBytes 4 (gen + 1)⟩
          act := .roster ring (gen + 1) mine.length (tags true) (tags false), upd := false, waited := 0 }
      (d.beginCmd c).secOp op

/-! ### Conversations (R595, R596) -/

/-- CONV_OPEN. -/
def Device.convOpen (d : Device) (c : Client) : Device :=
  d.serveOp c 0xC0 fun d k =>
    let kind := field k.payload 0 1
    if kind == 0 || 3 < kind then d.complete c 0x0B
    else
      match (List.range 4).find? fun i => (d.convOf c (i + 1)).kind == 0 with
      | none => d.complete c 0x11
      | some i => (d.setConv c (i + 1) ⟨kind, false, []⟩).complete c 0 0 (leBytes 4 (i + 1))

/-- CONV_CLOSE. -/
def Device.convClose (d : Device) (c : Client) : Device :=
  d.serveOp c 0xC1 fun d k => (d.setConv c k.conv .closed).complete c 0

/-- The 2 s of an open conversation end; its timer does not run while a command naming it waits. -/
def Device.convTimeout (d : Device) (c : Client) (n : Fin 4) : Device :=
  let i := n.val + 1
  if d.linkRuns && (d.convOf c i).kind != 0 && !(d.port c).queue.any fun k => k.conv == i then
    let d := d.setConv c i ⟨0, true, []⟩
    ((d.bump (F.HP_CNT2_CONVTO c.idx)).hpEvt c 16).protoErr
  else d

/-! ### APP and notifications (R591, R593) -/

/-- An APP command goes to the firmware. -/
def Device.appOp (d : Device) (c : Client) : Device :=
  d.serve c (fun x => 0x8000 ≤ x && x ≤ 0xFEFF) fun d k =>
    let d := d.bufferWrite (d.get (F.HP_FW_BUF_ADDR c.idx) * 4) (k.frame ++ leBytes 1 (d.privMask c))
    ((d.beginCmd c).setFlag (F.HP_FW_CTL_PEND c.idx) true).fire (112 + c.idx)

/-- The port claims a source delivered to its pin and notifies the host. -/
def Device.notifyClaim (d : Device) (c : Client) : Device :=
  let h := d.port c
  let x : Fin 4 := if c == .a then 2 else 3
  if d.coreRuns && d.flag (F.HP_CFG_NOTIFY c.idx) && h.ntf.length < 8 && h.outBytes + 36 ≤ 4096 &&
      d.delivered x != 0 then
    let (w, d) := d.claim x
    let nseq := d.get (F.HP_NTF_NSEQ c.idx)
    let p := leBytes 4 0 ++ leBytes 4 w.toNat ++ leBytes 8 d.clk.rt.packed.toNat ++ leBytes 4 d.epoch
    let frame := Machine.hostFrame nseq 0x0F00 2 p
    let h := d.port c
    let d := d.setPort c { h with outq := h.outq ++ [frame], ntf := h.ntf ++ [⟨w.toNat % 256, frame⟩] }
    d.bumpWrap (F.HP_NTF_NSEQ c.idx)
  else d

/-- An outstanding notification is sent again `ms` after it was sent, RETX having passed. -/
def Device.notifyRetx (d : Device) (c : Client) (source : Fin 128) (ms : Nat) : Device :=
  let h := d.port c
  if !d.linkRuns || decide (ms < d.get (F.HP_CFG_RETX c.idx)) then d
  else
    match h.ntf.find? fun t => t.source == source.val with
    | some t => if h.outBytes + t.frame.length ≤ 4096 then d.pushOut c t.frame else d
    | none => d

end Sys2Proof.Machine
end

