-- ==== Sys2Proof/Machine/RegisterCommands.lean ====
section
/-! DEFINITION. Accesses to registers (R7, R12, R14 to R17) and the rows of the event controller (R133 to
R151). -/

namespace Sys2Proof.Machine

/-- Does a master hold the rights and the lease that its write needs (R585)? A core needs neither. PWR_CMD judges the right
itself and shows the refusal (R208). In ROM operation a host writes no register (R85, R708). -/
def Device.masterMay (d : Device) (m : Master) (a : Nat) (w : Word) : Bool :=
  let may := fun (c : Client) => a == R.PWR_CMD || match hostRight a w with
    | some r => d.hasRight c r.1 && (!r.2 || d.holdsLease c)
    | none => false
  match m with
  | .portA => !d.nvs.rom && may .a
  | .portB => !d.nvs.rom && may .b
  | _ => true

/-- A host reads registers with READ rights (R584), and not in ROM operation (R708). -/
def Device.masterReads (d : Device) (m : Master) : Bool :=
  match m with
  | .portA => !d.nvs.rom && d.hasRight .a 16
  | .portB => !d.nvs.rom && d.hasRight .b 16
  | _ => true

/-- A direct read of a register by a master that may make it. -/
def Device.directRead (d : Device) (m : Master) (a : Nat) : Device := if d.masterReads m then d.readCommand a else d

/-- A direct write of a word by a master that may make it. -/
def Device.directWrite (d : Device) (m : Master) (a : Nat) (w : Word) : Device :=
  if d.masterMay m a w then d.writeCommand m a w else d

/-- REGISTER_WRITE (R7): A direct write by a core or host to a register field that has no row of its own,
judged under the access codes, R12, R14 and R15. -/
def execRegisterWrite (m : Master) (addr v : Word) (s : State) : Host.Outcome State Fault Refusal :=
  s.on fun d => d.directWrite m addr.toNat v

/-- SYS_REJECT_ADDR_READ (R17): A read of SYS_REJECT_ADDR returns the first rejected address and clears it and
SYS_REJECT_CNT. -/
def execSysRejectAddrRead (m : Master) (s : State) : Host.Outcome State Fault Refusal :=
  s.on fun d => d.directRead m R.SYS_REJECT_ADDR

/-- RING_TIME_READ (R174): A read of CLK_RT_SUB latches CLK_RT_FL and CLK_RT_FH. -/
def execRingTimeRead (m : Master) (s : State) : Host.Outcome State Fault Refusal :=
  s.on fun d => d.directRead m R.CLK_RT_SUB

/-- RNG_READ (R730): A read of SEC_RNG returns 32 fresh random bits. -/
def execRngRead (m : Master) (s : State) : Host.Outcome State Fault Refusal :=
  s.on fun d => d.directRead m R.SEC_RNG

/-- ST_SCTL_RUN_WRITE (R68): A write of RUN stops S at the next boundary, stops a faulted S at once, or starts
S. -/
def execStSctlRunWrite (m : Master) (v : Word) (s : State) : Host.Outcome State Fault Refusal :=
  s.on fun d => d.directWrite m R.ST_SCTL v

/-- ST_SENTRY_WRITE (R69): A write of the entry address of S is rejected while RUN = 1. -/
def execStSentryWrite (m : Master) (v : Word) (s : State) : Host.Outcome State Fault Refusal :=
  s.on fun d => d.directWrite m R.ST_SENTRY v

/-- ST_OVRCNT_CLR (R87): writing 1 to ST_OVRCNT.CLR clears COUNT. -/
def execStOvrcntClr (m : Master) (s : State) : Host.Outcome State Fault Refusal :=
  s.on fun d => d.directWrite m R.ST_OVRCNT 0x80000000

/-- ST_ENDMAX_CLR (R87): writing 1 to ST_ENDMAX.CLR clears MAX. -/
def execStEndmaxClr (m : Master) (s : State) : Host.Outcome State Fault Refusal :=
  s.on fun d => d.directWrite m R.ST_ENDMAX 0x80000000

/-- EVC_DELIVERY (R135): pending sources are delivered in batches to targets that may accept, by round-robin. While
latches wait to be taken, one is taken in the same CORE cycle before the deliveries (R149, R150). -/
def execEvcDelivery (s : State) : Host.Outcome State Fault Refusal :=
  s.on fun d => d.evcCycle

/-- MODERATION_EXPIRE (R136): A target's moderation timer expires and it may accept deliveries again. -/
def execModerationExpire (x : Fin 4) (s : State) : Host.Outcome State Fault Refusal :=
  s.on fun d => if d.coreRuns then { d with evc.timer := d.evc.timer.set x false } else d

/-- EVENT_FIRE (R141): A hardware source fires and becomes PENDING, merges, counts or is lost by its mode. -/
def execEventFire (n : Fin 128) (s : State) : Host.Outcome State Fault Refusal :=
  s.on fun d => d.fire n.val

/-- EVC_CLAIM (R138): A read of a claim register claims the highest-priority delivered source and returns the
claim word. -/
def execEvcClaim (m : Master) (x : Fin 4) (s : State) : Host.Outcome State Fault Refusal :=
  s.on fun d => d.directRead m (R.EVC_CLAIM_x x.val)

/-- EVC_DONE (R139): A write of a source number completes it, making it PENDING or IDLE, or sets BADDONE. -/
def execEvcDone (m : Master) (x : Fin 4) (v : Word) (s : State) : Host.Outcome State Fault Refusal :=
  s.on fun d => d.directWrite m (R.EVC_DONE_x x.val) v

/-- EVC_PSET (R145): A write of 1 fires a source from software with the SW mark. -/
def execEvcPset (m : Master) (x : Fin 4) (v : Word) (s : State) : Host.Outcome State Fault Refusal :=
  s.on fun d => d.directWrite m (R.EVC_PSETi x.val) v

/-- EVC_PCLR (R146): A write of 1 withdraws a source. -/
def execEvcPclr (m : Master) (x : Fin 4) (v : Word) (s : State) : Host.Outcome State Fault Refusal :=
  s.on fun d => d.directWrite m (R.EVC_PCLRi x.val) v

/-- EVC_SRC_WRITE (R144): A write of a source's target set, priority or mode, rejecting a mode change while
not IDLE. -/
def execEvcSrcWrite (m : Master) (n : Fin 128) (v : Word) (s : State) : Host.Outcome State Fault Refusal :=
  s.on fun d => d.directWrite m (R.EVC_SRC_n n.val) v

/-- EVC_TGT_CTL_WRITE (R151): A write of a target's enable or threshold returns ineligible delivered sources
to PENDING. -/
def execEvcTgtCtlWrite (m : Master) (x : Fin 4) (v : Word) (s : State) : Host.Outcome State Fault Refusal :=
  s.on fun d => d.directWrite m (R.EVC_TGT_CTL_x x.val) v

/-- EVC_TGT_MOD_WRITE (R136): A write of the moderation interval, 0 ending the running interval at once. -/
def execEvcTgtModWrite (m : Master) (x : Fin 4) (v : Word) (s : State) : Host.Outcome State Fault Refusal :=
  s.on fun d => d.directWrite m (R.EVC_TGT_MOD_x x.val) v

/-- EVC_CTL_GEN_WRITE (R147): A write of the global delivery enable holds or resumes deliveries. -/
def execEvcCtlGenWrite (m : Master) (v : Word) (s : State) : Host.Outcome State Fault Refusal :=
  s.on fun d => d.directWrite m R.EVC_CTL v

/-- WAKE_LATCH_SET (R148): an edge of a wake-capable source while CORE is stopped sets its latch and may wake
the device. -/
def execWakeLatchSet (k : Fin 9) (s : State) : Host.Outcome State Fault Refusal :=
  s.on fun d => if (d.coreRuns && !d.evc.taking) || !d.aonRuns then d else d.orField F.EVC_WLATCH_LATCH (2 ^ k.val)

end Sys2Proof.Machine
end

