-- ==== Sys2Proof/Machine/ChainCommands.lean ====
section
/-! DEFINITION. The chain master (R443 to R485). -/

namespace Sys2Proof.Machine

/-- A wake tone is heard: by the master, or by the companion `k` (R468, R506). -/
def Device.toneHeard (d : Device) (k : Option (Fin 64)) : Device :=
  match k with
  | none => d.masterTone
  | some k => d.onCompanion k Companion.hearTone

/-- The tone that the master, or the companion `k`, drives has ended (R469, R506). -/
def Device.toneEnds (d : Device) (k : Option (Fin 64)) : Device :=
  match k with
  | none => d.masterToneEnd
  | some k => d.onCompanion k fun c => { c with toneOn := false }

/-- LOOP (R453): A LOOP broadcast travels the chain to prove the loop intact. -/
def execLoop (dly : Nat) (s : State) : Host.Outcome State Fault Refusal :=
  s.on fun d => d.loopArrives dly

/-- CHAIN_REPLY (R449): the master receives a reply and acts on its status, ending or resending the command.
-/
def execChainReply (side : Side) (bytes : List Byte) (delta : Nat) (s : State) : Host.Outcome State Fault Refusal :=
  s.on fun d => d.chainReply side bytes delta

/-- NAK_BUSY_RESEND (R449): 50 µs after NAK_BUSY the master resends the command. -/
def execNakBusyResend (s : State) : Host.Outcome State Fault Refusal :=
  s.on fun d => d.nakBusyResend

/-- ATTEMPT_TIMEOUT (R451): A reply that does not arrive within RTO causes a retry, a reversal or UNREACHABLE.
-/
def execAttemptTimeout (ticks : Nat) (s : State) : Host.Outcome State Fault Refusal :=
  s.on fun d => d.attemptTimeout ticks

/-- BROADCAST_LOSS (R453): A broadcast not arriving at SHL_B in LOOP starts locating the break. -/
def execBroadcastLoss (ticks : Nat) (s : State) : Host.Outcome State Fault Refusal :=
  s.on fun d => d.broadcastLoss ticks

/-- CHAIN_PROBE (R454): in SPLIT every PROBE interval a LOOP frame and STATUS to unreachable companions are
sent. -/
def execChainProbe (ms : Nat) (s : State) : Host.Outcome State Fault Refusal :=
  s.on fun d => d.chainProbe ms

/-- CHAIN_HEAL (R454): A LOOP frame arriving whole returns the chain to LOOP and logs the heal. -/
def execChainHeal (s : State) : Host.Outcome State Fault Refusal :=
  s.on fun d => d.chainHeal

/-- SHL_CTL_ENUM (R458): A write of ENUM, or the start of the master role, runs enumeration from both sides.
-/
def execShlCtlEnum (m : Master) (v : Word) (s : State) : Host.Outcome State Fault Refusal :=
  s.on fun d => d.directWrite m R.SHL_CTL v

/-- DELAY_MEASURE (R460): every DLYP interval the master probes each companion's delay and writes it. -/
def execDelayMeasure (ms : Nat) (s : State) : Host.Outcome State Fault Refusal :=
  s.on fun d => d.delayMeasure ms

/-- TIME_SET_SEND (R461): every SYNCP ms, or 1 ms after a ring-time step, the master broadcasts TIME_SET. -/
def execTimeSetSend (ms : Nat) (s : State) : Host.Outcome State Fault Refusal :=
  s.on fun d => d.timeSetSend ms

/-- LOOP_SEND (R453): with no broadcast for SYNCP ms the master sends a LOOP frame. -/
def execLoopSend (ms : Nat) (s : State) : Host.Outcome State Fault Refusal :=
  s.on fun d => d.loopSend ms

/-- SAMPLE_READ_START (R464): after Ts plus the conversion time the master reads each reachable companion. -/
def execSampleReadStart (s : State) : Host.Outcome State Fault Refusal :=
  s.on fun d => d.sampleReadStart

/-- CHN_WAKE (R468): A wake tone detected for 500 µs raises CHN_WAKE, sets latch 5, or is relayed by a
companion. -/
def execChnWake (k : Option (Fin 64)) (s : State) : Host.Outcome State Fault Refusal :=
  s.on fun d => d.toneHeard k

/-- SHL_CTL_WAKE (R469): A write of WAKE drives the wake tone for 2 ms on both ports. -/
def execShlCtlWake (m : Master) (v : Word) (s : State) : Host.Outcome State Fault Refusal :=
  s.on fun d => d.directWrite m R.SHL_CTL v

/-- SHL_CTL_SLEEP (R469): A write of SLEEP broadcasts SLEEP once no command is outstanding. -/
def execShlCtlSleep (m : Master) (v : Word) (s : State) : Host.Outcome State Fault Refusal :=
  s.on fun d => d.directWrite m R.SHL_CTL v

/-- SHL_CTL_UNASSIGN (R485): A write of UNASSIGN broadcasts UNASSIGN once no command is outstanding. -/
def execShlCtlUnassign (m : Master) (v : Word) (s : State) : Host.Outcome State Fault Refusal :=
  s.on fun d => d.directWrite m R.SHL_CTL v

/-- MAILBOX_GO (R472): writing GO queues a mailbox command, served between sample-cycle commands. -/
def execMailboxGo (m : Master) (mb : Fin 4) (v : Word) (s : State) : Host.Outcome State Fault Refusal :=
  s.on fun d => d.directWrite m (R.SHL_MB_CTL_m mb.val) v

/-- PORT_JAM (R482): A port with transitions for 2 ms without a start delimiter is jammed and reversed around.
-/
def execPortJam (side : Side) (s : State) : Host.Outcome State Fault Refusal :=
  s.on fun d => d.portJam side

/-- SHL_CNT_CLR (R485): writing 1 to SHL_CNT2.CLR clears SHL_CNT and SHL_CNT2. -/
def execShlCntClr (m : Master) (v : Word) (s : State) : Host.Outcome State Fault Refusal :=
  s.on fun d => d.directWrite m R.SHL_CNT2 v

/-- WAKE_TONE_END (R469): the wake tone that the master (2 ms) or a companion (4 ms) drives ends, and frames
may be sent or accepted again 2 ms later. -/
def execWakeToneEnd (k : Option (Fin 64)) (s : State) : Host.Outcome State Fault Refusal :=
  s.on fun d => d.toneEnds k

end Sys2Proof.Machine
end

