-- ==== Sys2Proof/Machine/ClockCommands.lean ====
section
/-! DEFINITION. The events of the clocks and of ring time (R167, R172 to R198). -/

namespace Sys2Proof.Machine

/-- GATE_END (R175): every 100 ms the frequency monitor writes the deviations of RING and INPUT. -/
def execGateEnd (ring inp : Option Int) (follow : Int) (s : State) : Host.Outcome State Fault Refusal :=
  s.on fun d => d.gateEnd ring inp follow

/-- REF_SOURCE_ABSENT (R178): the selected RING or INPUT reference becomes absent. -/
def execRefSourceAbsent (s : State) : Host.Outcome State Fault Refusal :=
  s.on fun d => d.refAbsent

/-- DWELL_EXPIRE (R179): at the end of the dwell the device switches to the candidate and slews. -/
def execDwellExpire (s : State) : Host.Outcome State Fault Refusal :=
  s.on fun d => d.dwellExpire

/-- REF_REVERT (R181): A higher entry available for RETURN gates is switched to. -/
def execRefRevert (s : State) : Host.Outcome State Fault Refusal :=
  s.on fun d => d.refRevert

/-- SLEW_COMPLETE (R180): TRIM reaches its target within 0.1 ppm and MODE becomes TRACK. -/
def execSlewComplete (target : Int) (ms : Nat) (s : State) : Host.Outcome State Fault Refusal :=
  s.on fun d => d.slewComplete target ms

/-- RING_SLAVE_ACQUIRE (R183): the node becomes a locked ring slave and MODE becomes ACQUIRE. -/
def execRingSlaveAcquire (s : State) : Host.Outcome State Fault Refusal :=
  s.on fun d => d.acquireRing

/-- ACQUIRE_COMPLETE (R183): phase within ±2 periods for one block makes MODE TRACK and schedules a ring-time
step. -/
def execAcquireComplete (err : BitVec 16) (frame : BitVec 48) (s : State) : Host.Outcome State Fault Refusal :=
  s.on fun d => d.acquireComplete err frame

/-- RING_HOLD_STEER (R184): A phase error beyond 4 periods in RING_HOLD steers TRIM until it is within 2
periods. -/
def execRingHoldSteer (err : BitVec 16) (goal : Int) (ms : Nat) (s : State) : Host.Outcome State Fault Refusal :=
  s.on fun d => d.ringHoldSteer err goal ms

/-- ALIGN_OUT (R185): A slave phase error beyond 8 periods sets ALIGN_OUT and logs. -/
def execAlignOut (err : BitVec 16) (s : State) : Host.Outcome State Fault Refusal :=
  s.on fun d => d.alignOut err

/-- ALIGN_RETURN (R185): the phase error returns within 8 periods, ALIGN_OUT clears and is logged. -/
def execAlignReturn (err : BitVec 16) (s : State) : Host.Outcome State Fault Refusal :=
  s.on fun d => d.alignReturn err

/-- PLL_LOCK (R167): the analog loop sets LOCKED after the crystal is stable. -/
def execPllLock (s : State) : Host.Outcome State Fault Refusal :=
  s.on fun d => d.pllLock

/-- PLL_UNLOCK (R196): loss of lock or crystal forces safe levels, moves to limp, latches PLL_UNLOCK and
enters SAFE. -/
def execPllUnlock (trip : Bool) (s : State) : Host.Outcome State Fault Refusal :=
  s.on fun d => d.pllUnlock trip

/-- ANALOG_RELOCK (R198): in limp the analog loop sets LOCKED after 1,024 good crystal edges. -/
def execAnalogRelock (s : State) : Host.Outcome State Fault Refusal :=
  s.on fun d => d.analogRelock

/-- LIMP_RETURN (R198): after LOCKED has held 10 ms the domains return to the PLL at the next limp boundary.
-/
def execLimpReturn (s : State) : Host.Outcome State Fault Refusal :=
  s.on fun d => d.limpReturn

/-- AON_TIMER (R188): `n` AON cycles pass; the count step that reaches CLK_AON_CMP raises AON_TIMER and restarts the counter if
periodic. -/
def execAonTimer (n : Nat) (s : State) : Host.Outcome State Fault Refusal :=
  s.on fun d => d.aonTimer n

/-- LPO_CALIBRATION (R189): each second the LPO is measured against the crystal and CLK_LPO_CAL is written. -/
def execLpoCalibration (hz : Rat) (s : State) : Host.Outcome State Fault Refusal :=
  s.on fun d => d.lpoCalibrate hz

/-- XTAL_START_TIMEOUT (R776): A crystal not seen 20 ms after PG_AUX1 makes the device start in limp with
PLL_UNLOCK. -/
def execXtalStartTimeout (s : State) : Host.Outcome State Fault Refusal :=
  s.on fun d => d.xtalStartTimeout

end Sys2Proof.Machine
end

