-- ==== Sys2Proof/Machine/GuardCommands.lean ====
section
/-! DEFINITION. The Guard and the load diagnostics (R350 to R397). -/

namespace Sys2Proof.Machine

/-- A write of DIAG_CMD with an operation and a channel mask (R382, R384). -/
def Device.diagWrite (d : Device) (m : Master) (op : Nat) (mask : BitVec 4) : Device :=
  d.directWrite m R.DIAG_CMD (BitVec.ofNat 32 (op + 256 * mask.toNat))

/-- A pre-start step ends (R376). A run within a PLAY entry that ends with a blocking result refuses the entry with
reason DIAG (R380). -/
def Device.prestartEnd (d : Device) (x : StepIn) : Device :=
  match d.diag.run with
  | none => d
  | some r =>
    let (d, ended) := d.prestartStep x
    if ended && r.inEntry && d.get F.DIAG_HOLD_HOLD &&& r.mask != 0 then d.refuseEntry 6 else d

/-- PILOT_WINDOW_END (R351): A pilot window ends, giving an Re estimate, the pilot amplitude update and
estimator selection. -/
def execPilotWindowEnd (i : Fin 4) (s : State) : Host.Outcome State Fault Refusal :=
  s.on fun d => d.pilotWindowEnd i

/-- BROADBAND_REPORT (R352): every 12,000 samples the broadband estimator reports Re and Iband. -/
def execBroadbandReport (i : Fin 4) (s : State) : Host.Outcome State Fault Refusal :=
  s.on fun d => d.broadbandReport i

/-- ESTIMATOR_BLIND (R356): A blind spell reaching GRD_T_BLIND sets RATCHET and raises ESTIMATOR_BLIND. -/
def execEstimatorBlind (i : Fin 4) (s : State) : Host.Outcome State Fault Refusal :=
  s.on fun d => d.estimatorBlind i

/-- ESTIMATOR_BLIND_LONG (R356): A blind spell reaching GRD_T_BLIND_LONG sets BLONG and lowers T_lim. -/
def execEstimatorBlindLong (i : Fin 4) (s : State) : Host.Outcome State Fault Refusal :=
  s.on fun d => d.estimatorBlindLong i

/-- GUARD_RECOVERY (R357): 30,000 non-blind blocks end recovery, restore T_lim and set RELEASE. -/
def execGuardRecovery (i : Fin 4) (s : State) : Host.Outcome State Fault Refusal :=
  s.on fun d => d.guardRecovery i

/-- RATCHET_RELEASE_END (R357): T_est reaches Tv and RATCHET and RELEASE clear. -/
def execRatchetReleaseEnd (i : Fin 4) (s : State) : Host.Outcome State Fault Refusal :=
  s.on fun d => d.ratchetEnd i

/-- GRD_X_CLR (R374): writing 1 to GRD_n_X.CLR clears XPK. -/
def execGrdXClr (m : Master) (i : Fin 4) (v : Word) (s : State) : Host.Outcome State Fault Refusal :=
  s.on fun d => d.directWrite m (R.GRD_n_X (i.val + 1)) v

/-- GRD_LINE_ECC (R367): an uncorrectable error in the lookahead line substitutes zero and sets GRD_EVT.ECC.
-/
def execGrdLineEcc (i : Fin 4) (j : Fin 16) (s : State) : Host.Outcome State Fault Refusal :=
  s.on fun d => d.lineError i j

/-- DIAG_PRESTART (R384): DIAG_CMD OP = PRESTART starts a standalone pre-start run. -/
def execDiagPrestart (m : Master) (mask : BitVec 4) (s : State) : Host.Outcome State Fault Refusal :=
  s.on fun d => d.diagWrite m 1 mask

/-- DIAG_SWEEP (R383): DIAG_CMD OP = SWEEP starts an impedance sweep. -/
def execDiagSweep (m : Master) (mask : BitVec 4) (s : State) : Host.Outcome State Fault Refusal :=
  s.on fun d => d.diagWrite m 2 mask

/-- DIAG_ABORT (R390): DIAG_CMD OP = ABORT ends the run in progress. -/
def execDiagAbort (m : Master) (mask : BitVec 4) (s : State) : Host.Outcome State Fault Refusal :=
  s.on fun d => d.diagWrite m 3 mask

/-- PRESTART_STEP_END (R376): A pre-start step ends and is judged, and the next step begins. -/
def execPrestartStepEnd (x : StepIn) (s : State) : Host.Outcome State Fault Refusal :=
  s.on fun d => d.prestartEnd x

/-- SWEEP_POINT_END (R383): A sweep point completes and its result entry is written. -/
def execSweepPointEnd (x : Vector SweepIn 4) (s : State) : Host.Outcome State Fault Refusal :=
  s.on fun d => d.sweepPoint x

/-- DC_ON_LOAD (R388): the filtered DC above LEVEL for TIME trips the detector, forcing safe levels and
latching DC_ON_LOAD. `vs` are the terminal voltages since the last block boundary or DC_ON_LOAD, one every 1/96,000 s. -/
def execDcOnLoad (n : Fin 4) (vs : List Rat) (s : State) : Host.Outcome State Fault Refusal :=
  s.on fun d => d.dcOnLoad n vs

/-- DIAG_HOLD_CLEAR (R381): A SAFETY host writes 1 to clear a DIAG_HOLD bit. -/
def execDiagHoldClear (m : Master) (v : Word) (s : State) : Host.Outcome State Fault Refusal :=
  s.on fun d => d.directWrite m R.DIAG_HOLD v

end Sys2Proof.Machine
end

