-- ==== Sys2Proof/Machine/HostCommands.lean ====
section
/-! DEFINITION. The host ports, the command protocol and the transactions (R570 to R649). -/

namespace Sys2Proof.Machine

/-- A direct write to a word of the coefficient window (R633); an address outside the views is no such write. -/
def Device.windowWrite (d : Device) (m : Master) (a : Nat) (v : Word) : Device :=
  if (d.windowAt a).isSome && regionOf a == .streamLow then d.directWrite m a v else d

/-- SPI_TRANSACTION (R571): A CS_N-framed SPI transaction returns the PSW and exchanges stream bytes,
discarding a partial byte. -/
def execSpiTransaction (c : Client) (mosi : List Byte) (s : State) : Host.Outcome State Fault Refusal :=
  s.on fun d => d.spiTransaction c mosi

/-- I2C_TRANSFER (R570): an I²C write continues the host stream, or a read returns the PSW and device stream.
-/
def execI2cTransfer (addr : BitVec 7) (written : List Byte) (read : Option Nat) (s : State) : Host.Outcome State Fault Refusal :=
  s.on fun d => d.i2cTransfer addr written read

/-- HOST_FRAME (R576): A frame found in a host stream is checked for header, length, CRC and sequence and
queued. -/
def execHostFrame (c : Client) (s : State) : Host.Outcome State Fault Refusal :=
  s.on fun d => d.hostFrame c

/-- HELLO (R578): HELLO returns the sequence state; with SYNC it resynchronises the client. -/
def execHello (c : Client) (s : State) : Host.Outcome State Fault Refusal :=
  s.on fun d => d.hello c

/-- PING (R584): PING returns its payload. -/
def execPing (c : Client) (s : State) : Host.Outcome State Fault Refusal :=
  s.on fun d => d.ping c

/-- STATUS (R584): STATUS returns power status, faults, epoch, ring time and the lease. -/
def execStatus (c : Client) (s : State) : Host.Outcome State Fault Refusal :=
  s.on fun d => d.hostStatus c

/-- REG_READ (R586): REG_READ reads count words in order, stopping at a memory error. -/
def execRegRead (c : Client) (s : State) : Host.Outcome State Fault Refusal :=
  s.on fun d => d.regReadOp c

/-- REG_WRITE (R586): REG_WRITE writes count words in order, stopping at a rejected write. -/
def execRegWrite (c : Client) (s : State) : Host.Outcome State Fault Refusal :=
  s.on fun d => d.regWriteOp c

/-- EVT_DONE (R587): EVT_DONE writes the source number to the client's EVC completion register. -/
def execEvtDone (c : Client) (s : State) : Host.Outcome State Fault Refusal :=
  s.on fun d => d.evtDone c

/-- STATE_REQ (R588): STATE_REQ writes a power request code and reports its judgement. -/
def execStateReq (c : Client) (s : State) : Host.Outcome State Fault Refusal :=
  s.on fun d => d.stateReq c

/-- LEASE_ACQUIRE (R598): LEASE_ACQUIRE takes or renews the maintenance lease. -/
def execLeaseAcquire (c : Client) (s : State) : Host.Outcome State Fault Refusal :=
  s.on fun d => d.leaseAcquire c

/-- LEASE_RENEW (R598): LEASE_RENEW restarts the holder's lease timer. -/
def execLeaseRenew (c : Client) (s : State) : Host.Outcome State Fault Refusal :=
  s.on fun d => d.leaseRenew c

/-- LEASE_RELEASE (R598): LEASE_RELEASE frees the holder's lease. -/
def execLeaseRelease (c : Client) (s : State) : Host.Outcome State Fault Refusal :=
  s.on fun d => d.leaseRelease c

/-- LEASE_BREAK (R600): LEASE_BREAK of an expired lease aborts the silent client's queue and takes or frees
the lease. -/
def execLeaseBreak (c : Client) (s : State) : Host.Outcome State Fault Refusal :=
  s.on fun d => d.leaseBreak c

/-- LEASE_EXPIRED (R599): the 500 ms lease timer ends and the lease becomes EXPIRED. -/
def execLeaseExpired (s : State) : Host.Outcome State Fault Refusal :=
  s.on fun d => d.leaseExpired

/-- SET_PRIV (R589): SET_PRIV changes a client's privilege mask and stores it. -/
def execSetPriv (c : Client) (s : State) : Host.Outcome State Fault Refusal :=
  s.on fun d => d.setPriv c

/-- TXN_STAGE (R619): TXN_STAGE checks and stages entries into the client's staging area. -/
def execTxnStage (c : Client) (s : State) : Host.Outcome State Fault Refusal :=
  s.on fun d => d.txnStage c

/-- TXN_COMMIT (R624): TXN_COMMIT checks a commit against the base version and claims and arms it. -/
def execTxnCommit (c : Client) (bad : Bool) (s : State) : Host.Outcome State Fault Refusal :=
  s.on fun d => d.txnCommitOp c bad

/-- TXN_DISCARD (R621): TXN_DISCARD empties the staging area. -/
def execTxnDiscard (c : Client) (s : State) : Host.Outcome State Fault Refusal :=
  s.on fun d => d.txnDiscard c

/-- TXN_QUERY (R621): TXN_QUERY returns the version, state and staged entries. -/
def execTxnQuery (c : Client) (s : State) : Host.Outcome State Fault Refusal :=
  s.on fun d => d.txnQuery c

/-- LOG_READ (R663): LOG_READ returns held or persisted entries from a first sequence number. -/
def execLogRead (c : Client) (s : State) : Host.Outcome State Fault Refusal :=
  s.on fun d => d.logRead c

/-- CHN_CMD (R590): CHN_CMD sends a chain command through the client's mailbox and returns its result. -/
def execChnCmd (c : Client) (s : State) : Host.Outcome State Fault Refusal :=
  s.on fun d => d.chnCmd c

/-- RELAY (R601): RELAY sends an embedded frame to a client of another node over the ring. -/
def execRelay (c : Client) (s : State) : Host.Outcome State Fault Refusal :=
  s.on fun d => d.relayOp c

/-- RELAY_TIMEOUT (R603): A RELAY without a response within its timeout completes RELAY_TIMEOUT. -/
def execRelayTimeout (c : Client) (s : State) : Host.Outcome State Fault Refusal :=
  s.on fun d => d.relayTimeout c

/-- CONV_OPEN (R595): CONV_OPEN opens the lowest free conversation of a kind. -/
def execConvOpen (c : Client) (s : State) : Host.Outcome State Fault Refusal :=
  s.on fun d => d.convOpen c

/-- CONV_CLOSE (R596): CONV_CLOSE closes the named conversation. -/
def execConvClose (c : Client) (s : State) : Host.Outcome State Fault Refusal :=
  s.on fun d => d.convClose c

/-- CONV_TIMEOUT (R596): A conversation idle for 2 s closes and raises PROTO_ERR. -/
def execConvTimeout (c : Client) (n : Fin 4) (s : State) : Host.Outcome State Fault Refusal :=
  s.on fun d => d.convTimeout c n

/-- APP (R591): an APP opcode is copied to the firmware buffer and raises HPA_FRAME or HPB_FRAME. -/
def execApp (c : Client) (s : State) : Host.Outcome State Fault Refusal :=
  s.on fun d => d.appOp c

/-- HOST_UNKNOWN_OPCODE (R576): an undefined host opcode is answered UNKNOWN_OPCODE with no side effect. -/
def execHostUnknownOpcode (c : Client) (s : State) : Host.Outcome State Fault Refusal :=
  s.on fun d => d.hostUnknown c

/-- FW_RESPONSE_DONE (R591): firmware writes DONE and RLEN and the port forms the APP response. -/
def execFwResponseDone (m : Master) (c : Client) (v : Word) (s : State) : Host.Outcome State Fault Refusal :=
  s.on fun d => d.directWrite m (R.HP_FW_CTL c.idx) v

/-- NOTIFY_CLAIM (R593): A port with room claims an event for its pin and sends a notification frame. -/
def execNotifyClaim (c : Client) (s : State) : Host.Outcome State Fault Refusal :=
  s.on fun d => d.notifyClaim c

/-- NOTIFY_RETX (R593): an outstanding notification is resent after RETX ms. -/
def execNotifyRetx (c : Client) (n : Fin 128) (ms : Nat) (s : State) : Host.Outcome State Fault Refusal :=
  s.on fun d => d.notifyRetx c n ms

/-- HP_CNT_CLR (R617): writing 1 to HPx_CNT2.CLR clears the port counters. -/
def execHpCntClr (m : Master) (c : Client) (v : Word) (s : State) : Host.Outcome State Fault Refusal :=
  s.on fun d => d.directWrite m (R.HP_CNT2 c.idx) v

/-- TXN_ARMED (R624): A commit's window copy is prepared and it is armed. -/
def execTxnArmed (c : Client) (s : State) : Host.Outcome State Fault Refusal :=
  s.on fun d => d.txnArmed c

/-- TXN_WAVE3 (R627): TXN_SETTLE blocks after B2 the loosening entries apply and the transaction completes. -/
def execTxnWave3 (c : Client) (bad : Bool) (s : State) : Host.Outcome State Fault Refusal :=
  s.on fun d => d.txnWave3 c bad

/-- CWIN_WRITE (R633): A write to the coefficient window writes all copies outside PLAY or is ignored and
rejected. -/
def execCwinWrite (m : Master) (a v : Word) (s : State) : Host.Outcome State Fault Refusal :=
  s.on fun d => d.windowWrite m a.toNat v

/-- TXN_CREQ_GO (R636): A core submits a transaction command to a client's queue through TXN_CREQ. -/
def execTxnCreqGo (m : Master) (v : Word) (s : State) : Host.Outcome State Fault Refusal :=
  s.on fun d => d.directWrite m R.TXN_CREQ v

end Sys2Proof.Machine
end

