-- ==== Sys2Proof/Machine/InputCommands.lean ====
section
/-! DEFINITION. The audio inputs, the input rate converter and the filter engine (R245 to R287). -/

namespace Sys2Proof.Machine

/-- A group locks where its conditions hold (R247). A lock in the cycle of a block boundary counts there for the load of the
converter (R272, R275). -/
def Device.inputLock (d : Device) (g : Fin 3) (hz : Rat) : Device :=
  if d.canLock g hz then
    let e := d.lockGroup g (classify g hz)
    if d.atBoundary then e.ircLoad else e
  else d

/-- A group meets an unlock condition (R247); `rel` is the deviation of its ratio in units of 2^-32 of the nominal ratio. -/
def Device.inputUnlock (d : Device) (g : Fin 3) (why : Nat) (rel : Int) : Device :=
  if d.unlockHolds g why rel then d.unlockGroup g why else d

/-- The read phase of a group leaves its range (R280); where an unlock condition holds in the same cycle, the unlock acts and
the slip is not counted (R272). -/
def Device.inputSlip (d : Device) (g : Fin 3) : Device :=
  match [6, 2, 4, 5].find? fun why => d.unlockHolds g why 0 with
  | some why => d.unlockGroup g why
  | none => d.slipGroup g

/-- A group settles where its conditions hold (R259). -/
def Device.inputSettle (d : Device) (g : Fin 3) : Device := if d.canSettle g then d.settleGroup g else d

/-- A word of the filter engine's state is in error beyond correction (R281): zero takes its place. -/
def Device.engineError (d : Device) (w : Fin 8192) (part : EngineWord) : Device :=
  if d.coreRuns then
    let a := 0x20068000 + 4 * w.val
    let d := ((d.eccUncorr a).setFlag F.FEN_EVT_ECC true).storeWord a 0
    match part with
    | .irc g => d.slipGroup g
    | .sense n j => d.laneRestart n j
  else d

/-- The 256th sample of an armed capture (R269): the samples and the ring time of the first. -/
def Device.captureDone (d : Device) (xs : Vector Word 256) (frame : BitVec 48) (sub : BitVec 13) : Device :=
  if d.flag F.FEN_CAP_CTL_BUSY && !d.inp.capWait && d.inp.senseOn then
    let d := xs.toList.zipIdx.foldl (fun d p => d.setWord (R.FEN_CAP_DATA_m p.2) p.1) d
    let d := (d.put F.FEN_CAP_FL_FRAME (frame.toNat % 2 ^ 32)).put F.FEN_CAP_SUB_SUB sub.toNat
    (d.setFlag F.FEN_CAP_CTL_BUSY false).setFlag F.FEN_CAP_CTL_DONE true
  else d

/-- I2S_FRAME (R245): A port receives one frame of slots into the IRC. -/
def execI2sFrame (p : Fin 2) (rise fall : List (Bool × Bool)) (s : State) : Host.Outcome State Fault Refusal :=
  s.on fun d => d.i2sFrame p rise fall

/-- IEC_SUBFRAME (R249): the receiver takes one subframe, substituting the last good word on a parity error.
-/
def execIecSubframe (ch : Fin 2) (word : BitVec 24) (parityOk codeOk valid cs z : Bool) (s : State) :
    Host.Outcome State Fault Refusal :=
  s.on fun d => d.iecSubframe ch word parityOk codeOk valid cs z

/-- INPUT_LOCK (R247): A group with 64 good frames at a classified rate locks and raises INPUT_LOCK. -/
def execInputLock (g : Fin 3) (hz : Rat) (s : State) : Host.Outcome State Fault Refusal :=
  s.on fun d => d.inputLock g hz

/-- INPUT_UNLOCK (R247): A group meets an unlock condition, records the reason, ramps its lanes and raises
INPUT_UNLOCK. -/
def execInputUnlock (g : Fin 3) (why : Fin 7) (rel : Int) (s : State) : Host.Outcome State Fault Refusal :=
  s.on fun d => d.inputUnlock g why.val rel

/-- CS_CAPTURE (R250): two identical 192-frame channel-status blocks are copied to the CS registers. -/
def execCsCapture (s : State) : Host.Outcome State Fault Refusal :=
  s.on fun d => d.csCapture

/-- IEC_UNMUTE (R251): after 192 clean frames with PCM status the receiver ramps back in. -/
def execIecUnmute (s : State) : Host.Outcome State Fault Refusal :=
  s.on fun d => d.iecUnmute

/-- IRC_SETTLE (R259): A group meeting the settle conditions clears UNSETTLED and raises IRC_RATIO_CHANGE. -/
def execIrcSettle (g : Fin 3) (s : State) : Host.Outcome State Fault Refusal :=
  s.on fun d => d.inputSettle g

/-- INP_SLIP (R280): A read phase leaving ±8 samples ramps the lanes, recentres and counts a slip. -/
def execInpSlip (g : Fin 3) (s : State) : Host.Outcome State Fault Refusal :=
  s.on fun d => d.inputSlip g

/-- INP_IEC_STAT_PCLR (R286): writing 1 to PCLR clears the parity count. -/
def execInpIecStatPclr (m : Master) (v : Word) (s : State) : Host.Outcome State Fault Refusal :=
  s.on fun d => d.directWrite m R.INP_IEC_STAT v

/-- INP_SLIPCNT_CLR (R286): writing 1 to INP_SLIPCNT.CLR clears the slip counts. -/
def execInpSlipcntClr (m : Master) (v : Word) (s : State) : Host.Outcome State Fault Refusal :=
  s.on fun d => d.directWrite m R.INP_SLIPCNT v

/-- LANE_SETTLED (R268): A sense lane stage has consumed as many settled samples as taps. -/
def execLaneSettled (n : Fin 10) (j : Fin 7) (s : State) : Host.Outcome State Fault Refusal :=
  s.on fun d => d.laneSettled n j

/-- FEN_ECC_ERROR (R281): an uncorrectable error in engine state uses zero, slips a group or restarts a lane's
settling. -/
def execFenEccError (w : Fin 8192) (part : EngineWord) (s : State) : Host.Outcome State Fault Refusal :=
  s.on fun d => d.engineError w part

/-- FEN_CAPTURE_START (R269): writing START arms a 256-sample capture of one lane and stage. -/
def execFenCaptureStart (m : Master) (v : Word) (s : State) : Host.Outcome State Fault Refusal :=
  s.on fun d => d.directWrite m R.FEN_CAP_CTL v

/-- FEN_CAPTURE_DONE (R269): the 256th captured sample clears BUSY and sets DONE. -/
def execFenCaptureDone (xs : Vector Word 256) (frame : BitVec 48) (sub : BitVec 13) (s : State) :
    Host.Outcome State Fault Refusal :=
  s.on fun d => d.captureDone xs frame sub

/-- FEN_SAT_CLR (R287): writing 1 to FEN_SAT_n.CLR clears COUNT and STAGES. -/
def execFenSatClr (m : Master) (n : Fin 10) (v : Word) (s : State) : Host.Outcome State Fault Refusal :=
  s.on fun d => d.directWrite m (R.FEN_SAT_n n.val) v

end Sys2Proof.Machine
end

