-- ==== Sys2Proof/Machine/MonitorCommands.lean ====
section
/-! DEFINITION. The XM-18 companions of the chain (R439 to R446, R488 to R514). -/

namespace Sys2Proof.Machine

/-- A WRITE_REG of XM_BAL_KEY (R502): the frame carries the register, a count of 1 and the key. -/
def keyFrame (f : ChainIn) (key : Nat) : ChainIn := { f with payload := [0x53, 1] ++ leBytes 2 key }

/-- A companion's signature of a challenge with the device's next nonce (R690). -/
def Device.chainSigns (d : Device) (k : Fin 64) (f : ChainIn) : Device :=
  { d.onCompanion k fun c => c.challenge f d.freshN with freshN := d.freshN + 1 }

/-- CHAIN_STATUS (R444): A companion answers STATUS with its sequence state, flags and revision. -/
def execChainStatus (k : Fin 64) (f : ChainIn) (s : State) : Host.Outcome State Fault Refusal :=
  s.on fun d => d.onCompanion k fun c => c.status f

/-- ASSIGN (R444): an unaddressed companion takes the address and records the side of its receiving port. -/
def execAssign (k : Fin 64) (f : ChainIn) (s : State) : Host.Outcome State Fault Refusal :=
  s.on fun d => d.onCompanion k fun c => c.assign f

/-- UNASSIGN (R444): every companion returns to address 0 and keeps its sequence state. -/
def execUnassign (k : Fin 64) (s : State) : Host.Outcome State Fault Refusal :=
  s.on fun d => d.onCompanion k fun c => c.unassign

/-- READ_ID (R444): A companion replies with its public key. -/
def execReadId (k : Fin 64) (f : ChainIn) (s : State) : Host.Outcome State Fault Refusal :=
  s.on fun d => d.onCompanion k fun c => c.readId f

/-- CHAIN_CHALLENGE (R444): A companion signs the nonce and replies within 15 ms. -/
def execChainChallenge (k : Fin 64) (f : ChainIn) (s : State) : Host.Outcome State Fault Refusal :=
  s.on fun d => d.chainSigns k f

/-- DELAY_PROBE (R443): A companion replies with a turn-around of exactly 64 bit periods. -/
def execDelayProbe (k : Fin 64) (f : ChainIn) (s : State) : Host.Outcome State Fault Refusal :=
  s.on fun d => d.onCompanion k fun c => c.delayProbe f

/-- TIME_SET (R461): A companion sets its chain time to the carried value plus its delay and steers its
oscillator. -/
def execTimeSet (k : Fin 64) (port : Side) (us : BitVec 32) (phase : Byte) (s : State) :
    Host.Outcome State Fault Refusal :=
  s.on fun d => d.onCompanion k fun c => c.timeSet port us phase

/-- SAMPLE_AT (R488): A companion schedules a held sample at Ts, opens its bleed switches and converts, or
ignores a late frame. -/
def execSampleAt (k : Fin 64) (dt : Nat) (us : BitVec 32) (phase : Byte) (id : BitVec 16) (mask : Byte) (s : State) :
    Host.Outcome State Fault Refusal :=
  s.on fun d => d.onCompanion k fun c => c.sampleAt dt us phase id mask

/-- READ_SAMPLE (R489): A companion replies with the latched sample, NAK_BUSY or NAK_STALE. -/
def execReadSample (k : Fin 64) (f : ChainIn) (s : State) : Host.Outcome State Fault Refusal :=
  s.on fun d => d.onCompanion k fun c => c.readSample f

/-- READ_REG (R507): A companion replies with count consecutive registers or NAK_ADDR. -/
def execReadReg (k : Fin 64) (dt : Nat) (f : ChainIn) (s : State) : Host.Outcome State Fault Refusal :=
  s.on fun d => d.onCompanion k fun c => c.readReg dt f

/-- WRITE_REG (R446): A sequenced register write executes once, is cached, or is answered NAK_SEQ. -/
def execWriteReg (k : Fin 64) (f : ChainIn) (s : State) : Host.Outcome State Fault Refusal :=
  s.on fun d => d.onCompanion k fun c => c.writeReg f

/-- COLLECT (R455): A companion returns the cached reply for the SEQ asked for or NAK_NOT_EXEC. -/
def execCollect (k : Fin 64) (f : ChainIn) (s : State) : Host.Outcome State Fault Refusal :=
  s.on fun d => d.onCompanion k fun c => c.collect f

/-- SLEEP (R505): A companion stops balancing and converters and sleeps, keeping its state. -/
def execSleep (k : Fin 64) (bc : Bool) (f : ChainIn) (s : State) : Host.Outcome State Fault Refusal :=
  s.on fun d => d.onCompanion k fun c => c.sleep bc f

/-- CHAIN_UNDEFINED_OPCODE (R444): an undefined opcode is answered NAK_OPCODE when addressed, or repeated and
counted when broadcast. -/
def execChainUndefinedOpcode (k : Fin 64) (op : Byte) (bc : Bool) (f : ChainIn) (s : State) :
    Host.Outcome State Fault Refusal :=
  s.on fun d => d.onCompanion k fun c => c.undefined op.toNat bc f

/-- FRAME_REPEAT (R439): A companion repeats a frame not addressed to it 4 bit periods later, stopping on a
header CRC failure. -/
def execFrameRepeat (k : Fin 64) (port : Side) (bytes : List Byte) (s : State) : Host.Outcome State Fault Refusal :=
  s.on fun d => d.onCompanion k fun c => c.repeatFrame port bytes

/-- SAMPLE_HOLD (R488): at chain time Ts a companion holds all cell inputs and starts converting. -/
def execSampleHold (k : Fin 64) (s : State) : Host.Outcome State Fault Refusal :=
  s.on fun d => d.onCompanion k fun c => c.holdSample

/-- CONVERSION_COMPLETE (R488): at Ts + T_conv the results are complete and the bleed switches may close. -/
def execConversionComplete (k : Fin 64) (x : ConvIn) (s : State) : Host.Outcome State Fault Refusal :=
  s.on fun d => d.onCompanion k fun c => c.complete x

/-- BALANCE_SCHEDULE (R500): each second the companion chooses the bleed switches to close under MAX,
adjacency and die limits. -/
def execBalanceSchedule (k : Fin 64) (die : Int) (s : State) : Host.Outcome State Fault Refusal :=
  s.on fun d => d.onCompanion k fun c => c.balance die

/-- BALANCE_TIMER_EXPIRE (R499): A cell's bleed time reaches its timer and its enable bit clears. -/
def execBalanceTimerExpire (k : Fin 64) (i : Fin 18) (s : State) : Host.Outcome State Fault Refusal :=
  s.on fun d => d.onCompanion k fun c => c.timerExpire i

/-- BALANCING_STOP (R502): XM_BAL_KEY = 0x5A0F clears every enable and locks balancing. -/
def execBalancingStop (k : Fin 64) (f : ChainIn) (s : State) : Host.Outcome State Fault Refusal :=
  s.on fun d => d.onCompanion k fun c => c.writeReg (keyFrame f 0x5A0F)

/-- BALANCING_UNLOCK (R502): XM_BAL_KEY = 0xA5F0 clears the lock unless LEVEL is FAULT. -/
def execBalancingUnlock (k : Fin 64) (f : ChainIn) (s : State) : Host.Outcome State Fault Refusal :=
  s.on fun d => d.onCompanion k fun c => c.writeReg (keyFrame f 0xA5F0)

/-- TSYNC_TIMEOUT (R491): no TIME_SET for 250 ms clears TSYNC; after 2 s the bleed switches open. -/
def execTsyncTimeout (k : Fin 64) (ms : Nat) (s : State) : Host.Outcome State Fault Refusal :=
  s.on fun d => d.onCompanion k fun c => c.tsyncLost ms

/-- OPEN_WIRE_TEST (R503): XM_OW_CTL.GO, or every AUTO × 16 cycles, starts an open-wire test. -/
def execOpenWireTest (k : Fin 64) (s : State) : Host.Outcome State Fault Refusal :=
  s.on fun d => d.onCompanion k fun c => c.owStart

/-- OPEN_WIRE_TEST_END (R503): the test completes, sets XM_OW_RES and OPEN_WIRE and marks adjacent cells. -/
def execOpenWireTestEnd (k : Fin 64) (before : Vector Nat 18) (after : Vector (Vector Nat 18) 19) (s : State) :
    Host.Outcome State Fault Refusal :=
  s.on fun d => d.onCompanion k fun c => c.owEnd before after

/-- SLEEP_WINDOW_CHECK (R506): every XM_SLP_INT s in sleep the companion checks its cells and NTCs and may
wake with a tone. -/
def execSleepWindowCheck (k : Fin 64) (coarse : Vector (BitVec 10) 18) (ntc : List (Option Int)) (s : State) :
    Host.Outcome State Fault Refusal :=
  s.on fun d => d.onCompanion k fun c => c.windowCheck coarse ntc

/-- XM_SUPPLY_LOSS (R514): VMOD below 7.0 V opens all bleed switches and resets the companion. -/
def execXmSupplyLoss (k : Fin 64) (s : State) : Host.Outcome State Fault Refusal :=
  s.on fun d => d.onCompanion k fun c => Companion.dark c.key

/-- XM_POWER_UP (R508): VMOD above 8.0 V starts the companion unaddressed with BOOT set. -/
def execXmPowerUp (k : Fin 64) (s : State) : Host.Outcome State Fault Refusal :=
  s.on fun d => d.onCompanion k fun c => if c.powered then c else Companion.fresh c.key

end Sys2Proof.Machine
end

