-- ==== Sys2Proof/Machine/PowerCommands.lean ====
section
/-! DEFINITION. The supplies, the power states, the resets, the main switch and the watchdog (R206 to R232). -/

namespace Sys2Proof.Machine

/-- A write of a request code to PWR_CMD (R208). -/
def Device.requestWrite (d : Device) (m : Master) (code : Nat) : Device := d.directWrite m R.PWR_CMD (BitVec.ofNat 32 code)

/-- BOOT_ROM (R73): after core reset C0 clears SRAM, reads the boot area, verifies and copies an image and
hands off. -/
def execBootRom (journal : Bool) (s : State) : Host.Outcome State Fault Refusal :=
  s.on fun d => d.bootRom journal

/-- POR_RISE (R212): VSTK rises through 20 V; the micro-regulator and LPO start. -/
def execPorRise (s : State) : Host.Outcome State Fault Refusal :=
  s.on fun d => d.porRise

/-- AON_POR_RELEASE (R212): the AON power-on reset is released and EN_AUX1 goes high. -/
def execAonPorRelease (s : State) : Host.Outcome State Fault Refusal :=
  s.on fun d => d.aonPorRelease

/-- POR_FALL (R206): VSTK falling through 16 V causes a power-on reset of the whole device. -/
def execPorFall (s : State) : Host.Outcome State Fault Refusal :=
  s.on fun d => d.porFall

/-- PG_AUX_RISE (R212): A power-good input rises and the start-up sequence proceeds. -/
def execPgAuxRise (n : Fin 3) (s : State) : Host.Outcome State Fault Refusal :=
  s.on fun d => d.pgAuxRise n

/-- SEQ_GAP_EXPIRE (R212): A GAP interval ends and the sequencer drives the next enable. -/
def execSeqGapExpire (straps : Vector (BitVec 5) 3) (s : State) : Host.Outcome State Fault Refusal :=
  s.on fun d => d.seqGapExpire straps

/-- DIVIDER_RELEASE (R212): the dividers and domain resets are released, AON moves to the PLL and EN_AUX3 goes
high. -/
def execDividerRelease (s : State) : Host.Outcome State Fault Refusal :=
  s.on fun d => d.dividerRelease

/-- PGTO_EXPIRE (R215): A power-good timeout ends; EN_AUX1/2 sequences are retried or DRV_SUPPLY is latched.
-/
def execPgtoExpire (s : State) : Host.Outcome State Fault Refusal :=
  s.on fun d => d.pgtoExpire

/-- SEQ_RETRY_EXPIRE (R215): after 1 s the sequence runs again from step 2. -/
def execSeqRetryExpire (s : State) : Host.Outcome State Fault Refusal :=
  s.on fun d => d.seqRetry

/-- PG_AUX_FALL (R238): A power-good input falls after it has come, causing a SUPPLY reset or DRV_SUPPLY. -/
def execPgAuxFall (n : Fin 3) (s : State) : Host.Outcome State Fault Refusal :=
  s.on fun d => d.pgAuxFall n

/-- BROWNOUT (R206): VSTK below the trip for 10 µs latches BROWNOUT and drops EN_MAIN and PCHG. -/
def execBrownout (v : BitVec 9) (s : State) : Host.Outcome State Fault Refusal :=
  s.on fun d => d.brownout v

/-- BROWNOUT_WARN (R206): VSTK crosses the warning level, raising BROWNOUT_WARN or clearing BO_WARN. -/
def execBrownoutWarn (v : BitVec 9) (s : State) : Host.Outcome State Fault Refusal :=
  s.on fun d => d.brownoutWarn v

/-- REQ_READY (R226): PWR_CMD code 0x1 stops PLAY with a ramp-out or abandons a transition. -/
def execReqReady (m : Master) (s : State) : Host.Outcome State Fault Refusal :=
  s.on fun d => d.requestWrite m 1

/-- REQ_PLAY (R225): PWR_CMD code 0x2 is judged under R224 and starts the PLAY entry sequence. -/
def execReqPlay (m : Master) (s : State) : Host.Outcome State Fault Refusal :=
  s.on fun d => d.requestWrite m 2

/-- REQ_STILL (R210): PWR_CMD code 0x3 waits for both cores in WAIT and enters STILL. -/
def execReqStill (m : Master) (s : State) : Host.Outcome State Fault Refusal :=
  s.on fun d => d.requestWrite m 3

/-- REQ_ICE (R211): PWR_CMD code 0x4 sends LEAVE and powers the rails down to ICE. -/
def execReqIce (m : Master) (s : State) : Host.Outcome State Fault Refusal :=
  s.on fun d => d.requestWrite m 4

/-- REQ_SAFE (R209): PWR_CMD code 0x5 latches REQUEST and enters SAFE. -/
def execReqSafe (m : Master) (s : State) : Host.Outcome State Fault Refusal :=
  s.on fun d => d.requestWrite m 5

/-- EXIT_SAFE_TO_READY (R229): PWR_CMD code 0x6 turns the gates off and enters READY when no fault is set. -/
def execExitSafeToReady (m : Master) (s : State) : Host.Outcome State Fault Refusal :=
  s.on fun d => d.requestWrite m 6

/-- EXIT_SAFE_TO_PLAY (R229): PWR_CMD code 0x7 runs the PLAY entry sequence from SAFE. -/
def execExitSafeToPlay (m : Master) (s : State) : Host.Outcome State Fault Refusal :=
  s.on fun d => d.requestWrite m 7

/-- MAIN_CLOSE (R219): PWR_CMD code 0x8 starts a precharge. -/
def execMainClose (m : Master) (s : State) : Host.Outcome State Fault Refusal :=
  s.on fun d => d.requestWrite m 8

/-- MAIN_OPEN (R220): PWR_CMD code 0x9 opens the main switch and ends a precharge. -/
def execMainOpen (m : Master) (s : State) : Host.Outcome State Fault Refusal :=
  s.on fun d => d.requestWrite m 9

/-- STILL_ENTER (R210): with both cores in WAIT, the device gates CORE and STREAM at a boundary and drops
VDRV. -/
def execStillEnter (s : State) : Host.Outcome State Fault Refusal :=
  s.on fun d => d.stillEnter

/-- STILL_WAIT_TIMEOUT (R210): cores not both in WAIT within 60 blocks refuse the STILL request with BUSY. -/
def execStillWaitTimeout (s : State) : Host.Outcome State Fault Refusal :=
  s.on fun d => d.stillTimeout

/-- STILL_WAKE (R210): an enabled wake latch in STILL raises EN_AUX3 and starts the PGTO count. -/
def execStillWake (s : State) : Host.Outcome State Fault Refusal :=
  s.on fun d => d.stillWake

/-- STILL_UNGATE (R210): CORE and STREAM are ungated at the boundary after PG_AUX3 and the device reaches
READY. -/
def execStillUngate (s : State) : Host.Outcome State Fault Refusal :=
  s.on fun d => d.stillUngate

/-- ICE_WAKE (R213): an enabled wake latch in ICE restarts the sequence from step 2. -/
def execIceWake (s : State) : Host.Outcome State Fault Refusal :=
  s.on fun d => d.iceWake

/-- RST_PIN (R216): RST_N low resets everything except AON. -/
def execRstPin (low : Bool) (s : State) : Host.Outcome State Fault Refusal :=
  s.on fun d => d.rstPin low

/-- WDOG_START (R231): writing 1 to SYS_WDOG_CTL.EN starts the watchdog. -/
def execWdogStart (m : Master) (v : Word) (s : State) : Host.Outcome State Fault Refusal :=
  s.on fun d => d.directWrite m R.SYS_WDOG_CTL v

/-- WDOG_KICK (R231): writing 0xC35A to SYS_WDOG_KICK restarts the watchdog count. -/
def execWdogKick (m : Master) (v : Word) (s : State) : Host.Outcome State Fault Refusal :=
  s.on fun d => d.directWrite m R.SYS_WDOG_KICK v

/-- WDOG_WARN (R231): at three quarters of the timeout WARNED is set and WDOG_WARN raised. -/
def execWdogWarn (s : State) : Host.Outcome State Fault Refusal :=
  s.on fun d => d.wdogWarn

/-- WDOG_EXPIRE (R231): at the full timeout a log entry is written and the WATCHDOG reset performed. -/
def execWdogExpire (s : State) : Host.Outcome State Fault Refusal :=
  s.on fun d => d.wdogExpire

/-- SOFTWARE_RESET (R216): writing the key to SYS_RST_REQ performs the SOFTWARE reset. -/
def execSoftwareReset (m : Master) (v : Word) (s : State) : Host.Outcome State Fault Refusal :=
  s.on fun d => d.directWrite m R.SYS_RST_REQ v

/-- CORE_RESET (R217): SYS_CORE_RST with its key resets one core and restarts it at its image entry. -/
def execCoreReset (m : Master) (v : Word) (s : State) : Host.Outcome State Fault Refusal :=
  s.on fun d => d.directWrite m R.SYS_CORE_RST v

/-- PRECHARGE_START (R219): at the next boundary PCHG goes high and MAIN reads PRECHARGING. -/
def execPrechargeStart (s : State) : Host.Outcome State Fault Refusal :=
  s.on fun d => d.prechargeStart

/-- PRECHARGE_END (R219): after SETTLE blocks above threshold EN_MAIN goes high and MAIN reads CLOSED. -/
def execPrechargeEnd (s : State) : Host.Outcome State Fault Refusal :=
  s.on fun d => d.prechargeEnd

/-- PCHG_OVERLAP_END (R219): OVERLAP blocks after EN_MAIN PCHG goes low. -/
def execPchgOverlapEnd (s : State) : Host.Outcome State Fault Refusal :=
  s.on fun d => d.pchgOverlapEnd

/-- PCHG_TIMEOUT (R220): A precharge that has not ended within TIMEOUT drops PCHG and latches PCHG_TIMEOUT. -/
def execPchgTimeout (s : State) : Host.Outcome State Fault Refusal :=
  s.on fun d => d.pchgTimeout

/-- PRES_LOST (R222): PRES_N high forces safe levels, drops EN_MAIN, latches PRES_LOST, sends LEAVE and loops
back the ring. -/
def execPresLost (s : State) : Host.Outcome State Fault Refusal :=
  s.on fun d => d.presLost

/-- PRES_GAINED (R221): PRES_N low for DEB sets PRES, raises PRES_GAINED and may start a precharge. -/
def execPresGained (s : State) : Host.Outcome State Fault Refusal :=
  s.on fun d => d.presGained

/-- BOOTSTRAP_START (R225): 200 µs before a boundary after the checks pass, the bootstrap precharge begins. -/
def execBootstrapStart (s : State) : Host.Outcome State Fault Refusal :=
  s.on fun d => d.bootstrapStart

/-- RAMP_IN_END (R225): after 512 samples PHASE reads STEADY. -/
def execRampInEnd (s : State) : Host.Outcome State Fault Refusal :=
  s.on fun d => d.rampInEnd

/-- RAMP_OUT_END (R226): after the 512-sample ramp-out the gates turn off and the state becomes READY. -/
def execRampOutEnd (s : State) : Host.Outcome State Fault Refusal :=
  s.on fun d => d.rampOutEnd

/-- PWR_FAULT_CLEAR (R228): A SAFETY host writes 1 to clear PWR_FAULT bits whose conditions no longer hold. -/
def execPwrFaultClear (m : Master) (v : Word) (s : State) : Host.Outcome State Fault Refusal :=
  s.on fun d => d.directWrite m R.PWR_FAULT v

/-- AUX_CONVERTER_SAMPLE (R756): every 1 ms the auxiliary converter reads NTC_1 to NTC_4 and the die
temperature. -/
def execAuxConverterSample (ntc : Vector (Option Int) 4) (die : Int) (s : State) : Host.Outcome State Fault Refusal :=
  s.on fun d => d.auxSample ntc die

/-- WAKE_PIN (R768): A WAKE_N falling edge raises WAKE_PIN or sets wake latch 3. -/
def execWakePin (s : State) : Host.Outcome State Fault Refusal :=
  s.on fun d => d.wakePin

end Sys2Proof.Machine
end

