-- ==== Sys2Proof/Machine/RingCommands.lean ====
section
/-! DEFINITION. The Tarn ring (R524 to R567). -/

namespace Sys2Proof.Machine

/-- FRAME_ORIGINATE (R536): each frame period the ring master originates a frame with its slots and
recirculated slots. -/
def execFrameOriginate (irc : Vector Word 16) (turn : BitVec 17) (s : State) : Host.Outcome State Fault Refusal :=
  s.on fun d => d.frameOriginate irc turn

/-- FRAME_PROCESS (R528): A node forwards a frame 96 periods later, reading and writing its slots and messages
and checking CRCs. -/
def execFrameProcess (x : RingIn) (s : State) : Host.Outcome State Fault Refusal :=
  s.on fun d => d.frameProcess x

/-- PORT_UP (R524): 16 sync words at their expected instants make a port UP. -/
def execPortUp (side : Side) (s : State) : Host.Outcome State Fault Refusal :=
  s.on fun d => d.portUp side

/-- PORT_DOWN (R524): three missing sync words, no signal or loop-back recognition make a port DOWN. -/
def execPortDown (side : Side) (s : State) : Host.Outcome State Fault Refusal :=
  s.on fun d => d.portDown side

/-- PORT_TRAINING (R524): A Tarn port receiver in DOWN sees a sync word and enters TRAINING. -/
def execPortTraining (side : Side) (s : State) : Host.Outcome State Fault Refusal :=
  s.on fun d => d.portTraining side

/-- RING_LOCK (R532): A slave meeting the lock conditions gains ring lock and raises RING_LOCK. -/
def execRingLock (s : State) : Host.Outcome State Fault Refusal :=
  s.on fun d => d.ringLock

/-- RING_LOCK_LOSS (R532): 32 frame periods without a processed frame or a phase error above 256 periods lose
ring lock. -/
def execRingLockLoss (frames : Nat) (s : State) : Host.Outcome State Fault Refusal :=
  s.on fun d => d.ringLockLoss frames

/-- BEACON (R550): A node receives a BEACON, adopting ring parameters or yielding to a lower-tag master. -/
def execBeacon (s : State) : Host.Outcome State Fault Refusal :=
  s.on fun d => d.beaconMsg

/-- BEACON_SEND (R543): every 16 frames the master queues a BEACON. -/
def execBeaconSend (s : State) : Host.Outcome State Fault Refusal :=
  s.on fun d => d.beaconSend

/-- TARN_STATUS (R535): A node receives a STATUS message, updating node records and resolving slot conflicts.
-/
def execTarnStatus (s : State) : Host.Outcome State Fault Refusal :=
  s.on fun d => d.statusMsg

/-- STATUS_SEND (R543): every 96 frames a node queues its STATUS message. -/
def execStatusSend (s : State) : Host.Outcome State Fault Refusal :=
  s.on fun d => d.statusSend

/-- JOIN_REQ (R551): the master receives a JOIN_REQ and answers with CHALLENGE within 2 frames. -/
def execJoinReq (s : State) : Host.Outcome State Fault Refusal :=
  s.on fun d => d.joinReqMsg

/-- JOIN_REQ_SEND (R551): an unnumbered node with ring lock sends JOIN_REQ every 10 ms until admitted. -/
def execJoinReqSend (s : State) : Host.Outcome State Fault Refusal :=
  s.on fun d => d.joinReqSend

/-- TARN_CHALLENGE (R551): A joining node receives CHALLENGE and answers RESPONSE within 15 ms. -/
def execTarnChallenge (s : State) : Host.Outcome State Fault Refusal :=
  s.on fun d => d.challengeMsg

/-- RESPONSE (R692): the master verifies a RESPONSE against the roster and sends ADMIT. -/
def execResponse (s : State) : Host.Outcome State Fault Refusal :=
  s.on fun d => d.responseMsg

/-- ADMIT (R551): A node receives its number and trust; ADOPTED or STRANGER is raised and logged. -/
def execTarnAdmit (s : State) : Host.Outcome State Fault Refusal :=
  s.on fun d => d.admitMsg

/-- LEAVE (R553): the master receives LEAVE, marks the node ABSENT and raises NODE_LEAVE. -/
def execLeave (s : State) : Host.Outcome State Fault Refusal :=
  s.on fun d => d.leaveMsg

/-- NODE_LOST (R553): no STATUS from an adopted node for 288 frames marks it ABSENT with cause LOST. -/
def execNodeLost (n : Fin 128) (s : State) : Host.Outcome State Fault Refusal :=
  s.on fun d => d.nodeLost n

/-- HOST_REQ (R548): A target reassembles HOST_REQ fragments and passes the frame to the named client's
parser. -/
def execHostReq (s : State) : Host.Outcome State Fault Refusal :=
  s.on fun d => d.hostReqMsg

/-- HOST_RSP (R603): A HOST_RSP completes a RELAY or is discarded as late. -/
def execHostRsp (s : State) : Host.Outcome State Fault Refusal :=
  s.on fun d => d.hostRspMsg

/-- REASSEMBLY_TIMEOUT (R548): A host frame without LAST for 10 ms is discarded and counted. -/
def execReassemblyTimeout (n : BitVec 7) (s : State) : Host.Outcome State Fault Refusal :=
  s.on fun d => d.reassemblyTimeout n

/-- CELLS (R547): A receiving node checks a relayed reading and latches it into its Reservoir. -/
def execCells (s : State) : Host.Outcome State Fault Refusal :=
  s.on fun d => d.cellsMsg

/-- ROSTER (R695): A candidate stores ROSTER messages with a higher generation. -/
def execRoster (s : State) : Host.Outcome State Fault Refusal :=
  s.on fun d => d.rosterMsg

/-- ROSTER_SEND (R550): every 960 frames and after each roster change the master sends its roster. -/
def execRosterSend (s : State) : Host.Outcome State Fault Refusal :=
  s.on fun d => d.rosterSend

/-- HEAL_DWELL_EXPIRE (R557): A wrap node whose port stays UP for HEAL × 96 frames sends HEAL_READY. -/
def execHealDwellExpire (frames : Nat) (s : State) : Host.Outcome State Fault Refusal :=
  s.on fun d => d.healDwell frames

/-- HEAL_READY (R557): the master holding HEAL_READY from both sides of a link broadcasts UNWRAP. -/
def execHealReady (s : State) : Host.Outcome State Fault Refusal :=
  s.on fun d => d.healReadyMsg

/-- UNWRAP (R557): the wrap nodes note frame F for returning to NORMAL. -/
def execUnwrap (s : State) : Host.Outcome State Fault Refusal :=
  s.on fun d => d.unwrapMsg

/-- RING_HEAL (R557): at frame F both nodes return to NORMAL and RING_HEAL is raised. -/
def execRingHeal (s : State) : Host.Outcome State Fault Refusal :=
  s.on fun d => d.ringHeal

/-- TARN_NAK (R543): A node receives a NAK for a message it sent. -/
def execTarnNak (s : State) : Host.Outcome State Fault Refusal :=
  s.on fun d => d.nakMsg

/-- TARN_UNKNOWN_MESSAGE (R543): A message of reserved type is counted and forwarded, with NAK if addressed.
-/
def execTarnUnknownMessage (s : State) : Host.Outcome State Fault Refusal :=
  s.on fun d => d.unknownMsg

/-- TARN_APP (R553): A received APP message is stored in TRN_APP_RX and raises RING_MSG, or is dropped. -/
def execTarnApp (s : State) : Host.Outcome State Fault Refusal :=
  s.on fun d => d.appMsg

/-- TRN_APP_GO (R553): writing GO queues an APP message from TRN_APP_TX. -/
def execTrnAppGo (m : Master) (v : Word) (s : State) : Host.Outcome State Fault Refusal :=
  s.on fun d => d.directWrite m R.TRN_APP_TX v

/-- TRN_APP_RELEASE (R567): writing 1 to TRN_APP_RX.VALID releases the receive buffer. -/
def execTrnAppRelease (m : Master) (v : Word) (s : State) : Host.Outcome State Fault Refusal :=
  s.on fun d => d.directWrite m R.TRN_APP_RX v

/-- TRN_CNT_CLR (R567): writing 1 clears TRN_CRC_W, TRN_CRC_E and TRN_MSGCNT. -/
def execTrnCntClr (m : Master) (v : Word) (s : State) : Host.Outcome State Fault Refusal :=
  s.on fun d => d.directWrite m R.TRN_CNT_CLR v

/-- TRN_LANEERR_CLR (R567): writing 1 clears a lane's substitution count. -/
def execTrnLaneerrClr (m : Master) (n : Fin 32) (v : Word) (s : State) : Host.Outcome State Fault Refusal :=
  s.on fun d => d.directWrite m (R.TRN_LANEERR_n n.val) v

/-- MASTER_TAKEOVER (R549): A candidate seeing no master frame for 16 × rank periods becomes master. -/
def execMasterTakeover (frames : Nat) (s : State) : Host.Outcome State Fault Refusal :=
  s.on fun d => d.masterTakeover frames

/-- RING_ACTIVITY_DETECT (R558): in ICE 100 µs of RX line activity sets wake latch 6. -/
def execRingActivityDetect (s : State) : Host.Outcome State Fault Refusal :=
  s.on fun d => d.ringActivity

end Sys2Proof.Machine
end

