-- ==== Sys2Proof/Machine/SecurityCommands.lean ====
section
/-! DEFINITION. The update, the identity, the log and the NVS (R652 to R722). -/

namespace Sys2Proof.Machine

/-- UPD_BEGIN (R710): UPD_BEGIN starts or resumes an image transfer into the non-running slot. -/
def execUpdBegin (c : Client) (s : State) : Host.Outcome State Fault Refusal :=
  s.on fun d => d.updOp c 0xA0 fun d p => d.updBegin c p

/-- UPD_DATA (R710): UPD_DATA compares or writes image lines and advances the mark. -/
def execUpdData (c : Client) (s : State) : Host.Outcome State Fault Refusal :=
  s.on fun d => d.updOp c 0xA1 fun d p => d.updData c p

/-- UPD_STATUS (R709): UPD_STATUS returns the update record and boot state. -/
def execUpdStatus (c : Client) (s : State) : Host.Outcome State Fault Refusal :=
  s.on fun d => d.updOp c 0xA2 fun d _ => d.updStatus c

/-- UPD_VERIFY (R711): UPD_VERIFY checks the declared hash and the image and marks it VERIFIED. -/
def execUpdVerify (c : Client) (s : State) : Host.Outcome State Fault Refusal :=
  s.on fun d => d.updOp c 0xA3 fun d _ => d.updVerify c

/-- UPD_ACTIVATE (R713): UPD_ACTIVATE arms a trial boot of the verified image, optionally resetting. -/
def execUpdActivate (c : Client) (s : State) : Host.Outcome State Fault Refusal :=
  s.on fun d => d.updOp c 0xA4 fun d p => d.updActivate c p

/-- UPD_CONFIRM (R714): UPD_CONFIRM makes the trial image active and raises the rollback counter. -/
def execUpdConfirm (c : Client) (s : State) : Host.Outcome State Fault Refusal :=
  s.on fun d => d.updOp c 0xA5 fun d _ => d.updConfirm c

/-- UPD_ABORT (R715): UPD_ABORT disarms a trial and resets the update record. -/
def execUpdAbort (c : Client) (s : State) : Host.Outcome State Fault Refusal :=
  s.on fun d => d.updOp c 0xA6 fun d _ => d.updAbort c

/-- UPD_KEY (R715): UPD_KEY programs or revokes a key slot or sets the image key. -/
def execUpdKey (c : Client) (s : State) : Host.Outcome State Fault Refusal :=
  s.on fun d => d.updOp c 0xA7 fun d p => d.updKey c p

/-- ACTIVATE_RESET (R713): after the response is read or 100 ms, the SOFTWARE reset of an activation is
performed. -/
def execActivateReset (s : State) : Host.Outcome State Fault Refusal :=
  s.on fun d => d.activateReset

/-- ID_LIST (R696): ID_LIST returns roster entries and generation. -/
def execIdList (c : Client) (s : State) : Host.Outcome State Fault Refusal :=
  s.on fun d => d.idList c

/-- ID_ADOPT (R697): ID_ADOPT stages a tag for the roster. -/
def execIdAdopt (c : Client) (s : State) : Host.Outcome State Fault Refusal :=
  s.on fun d => d.idAdopt c

/-- ID_REVOKE (R697): ID_REVOKE stages removal of a tag from the roster. -/
def execIdRevoke (c : Client) (s : State) : Host.Outcome State Fault Refusal :=
  s.on fun d => d.idRevoke c

/-- ID_COMMIT (R698): ID_COMMIT writes the staged roster changes and acts on adopted and revoked tags. -/
def execIdCommit (c : Client) (s : State) : Host.Outcome State Fault Refusal :=
  s.on fun d => d.idCommit c

/-- LOG_ENTRY_WRITE (R655): SED takes the next queued entry, gives it SED_NEXT and writes it to bank 7. -/
def execLogEntryWrite (s : State) : Host.Outcome State Fault Refusal :=
  s.on fun d => d.logWrite

/-- PERSIST_WRITE (R662): A queued entry is written to the persistent area with its count. -/
def execPersistWrite (fails : Bool) (s : State) : Host.Outcome State Fault Refusal :=
  s.on fun d => d.persistWrite fails

/-- SED_ACK_WRITE (R658): A write of SED_ACK acknowledges entries and may re-arm LOG_HALF. -/
def execSedAckWrite (m : Master) (v : Word) (s : State) : Host.Outcome State Fault Refusal :=
  s.on fun d => d.directWrite m R.SED_ACK v

/-- SOFTWARE_ENTRY (R661): A core at PRIV writes GO to SED_SW_CTL to write a software entry. -/
def execSoftwareEntry (m : Master) (v : Word) (s : State) : Host.Outcome State Fault Refusal :=
  s.on fun d => d.directWrite m R.SED_SW_CTL v

/-- SOFT_FAULT (R652): A core writes 0x6C0D to SED_SOFTFLT, latching the SOFT system fault. -/
def execSoftFault (m : Master) (v : Word) (s : State) : Host.Outcome State Fault Refusal :=
  s.on fun d => d.directWrite m R.SED_SOFTFLT v

/-- SED_SYSFAULT_CLEAR (R652): A SAFETY host writes 1 to clear system fault bits whose conditions no longer
hold. -/
def execSedSysfaultClear (m : Master) (v : Word) (s : State) : Host.Outcome State Fault Refusal :=
  s.on fun d => d.directWrite m R.SED_SYSFAULT v

/-- SED_CNT_CLR (R680): writing 1 to SED_CNT2.CLR clears SED_CNT and SED_CNT2. -/
def execSedCntClr (m : Master) (v : Word) (s : State) : Host.Outcome State Fault Refusal :=
  s.on fun d => d.directWrite m R.SED_CNT2 v

/-- SEM_BRKCNT_CLR (R681): writing 1 from a core clears SEM_BRKCNT. -/
def execSemBrkcntClr (m : Master) (v : Word) (s : State) : Host.Outcome State Fault Refusal :=
  s.on fun d => d.directWrite m R.SEM_BRKCNT v

/-- NVS_LINE_WRITE (R683): A journalled 64-byte line write completes, raising NVS_DONE or NVS_ERR. -/
def execNvsLineWrite (fails : Bool) (s : State) : Host.Outcome State Fault Refusal :=
  s.on fun d => d.nvsLineWrite fails

/-- NVC_REQ_GO (R687): A write of NVC_REQ.GO requests a configuration store line write. -/
def execNvcReqGo (m : Master) (v : Word) (s : State) : Host.Outcome State Fault Refusal :=
  s.on fun d => d.directWrite m R.NVC_REQ v

/-- SEC_CONFIRM (R714): A core writes 0x7E11 to SEC_CONFIRM to confirm the trial image. -/
def execSecConfirm (m : Master) (v : Word) (s : State) : Host.Outcome State Fault Refusal :=
  s.on fun d => d.directWrite m R.SEC_CONFIRM v

/-- IMAGE_LINE_WRITE (R710): an unjournalled image-slot line program of UPD_DATA completes, advancing the
written lines toward the new mark. -/
def execImageLineWrite (fails : Bool) (s : State) : Host.Outcome State Fault Refusal :=
  s.on fun d => d.secLine true fails

end Sys2Proof.Machine
end

