-- ==== Sys2Proof/Machine/DebugOps.lean ====
section
/-! DEFINITION. The debug halts of the TAP (R86, R316, R319, R369, R739, R741). -/

namespace Sys2Proof.Machine

/-- DBG_STAT.TAP_ACTIVE follows the halts in force. -/
def Device.tapActive (d : Device) : Device :=
  let any := d.flag F.DBG_STAT_C0_HALT || d.flag F.DBG_STAT_C1_HALT || d.flag F.DBG_STAT_S_HALT ||
    d.flag F.DBG_STAT_STREAM_HALT
  d.setFlag F.DBG_STAT_TAP_ACTIVE any

/-- The flag of DBG_STAT for a core. -/
def haltFlag : CoreId → Fld
  | .c0 => F.DBG_STAT_C0_HALT
  | .c1 => F.DBG_STAT_C1_HALT
  | .s => F.DBG_STAT_S_HALT

/-- A debug halt takes effect: refused while DBG_CTL.LOCK = 1 (R739). A halt of S stops its block cycle (R86); a halt of
the STREAM domain freezes the edge generator (R316). -/
def Device.debugHalt (d : Device) (t : HaltTarget) : Device :=
  if !d.coreRuns || d.flag F.DBG_CTL_LOCK then d
  else
    match t with
    | .stream => (d.freeze.setFlag F.DBG_STAT_STREAM_HALT true).tapActive
    | .core .s =>
      let st := d.cget .s F.ST_SSTATE_STATE
      if st == 4 then d
      else
        let d := { d with stream.dbgPrev := st, stream.muted := true, stream.resume := true }
        ((d.cput .s F.ST_SSTATE_STATE 4).setFlag F.DBG_STAT_S_HALT true).tapActive
    | .core c =>
      let k := d.core c
      if k.run == .running || k.run == .sleeping then
        ((d.setCore c { k with run := .debug, dbgRun := k.run }).setFlag (haltFlag c) true).tapActive
      else d

/-- The TAP releases a halt in force (R741). S waits for the next boundary (R86). DESIGN CHOICE (log entry 31): a halt that
found S STOPPED or in FAULT returns it to that state; and where no boundary fell in the halt, a block already completed or a
ramp already due is not passed, a zero block is. After a halt of the STREAM domain the
gates stay as held up to the next period boundary; in PLAY with no fault the shapers are cleared, and the Guard counts as
blind for long (R319, R369). -/
def Device.debugRelease (d : Device) (t : HaltTarget) : Device :=
  match t with
  | .stream =>
    if d.stage.frozen then
      let switching := d.stage.drive == .modulate || d.stage.drive == .sweep
      let d := { d with stage.frozen := false, stage.held := if switching then d.stage.held else none }
      let d := (d.setFlag F.MOD_STAT_FROZEN false).setFlag F.DBG_STAT_STREAM_HALT false
      let d := if d.isState 3 && !d.anyFault then d.clearShapers else d
      d.guardResume.tapActive
    else d
  | .core .s =>
    if d.cget .s F.ST_SSTATE_STATE == 4 then
      let st := if d.stream.dbgPrev == 1 then 2 else d.stream.dbgPrev
      let d := { d with stream.done := false, stream.overrun := false }
      ((d.cput .s F.ST_SSTATE_STATE st).setFlag F.DBG_STAT_S_HALT false).tapActive
    else d
  | .core c =>
    let k := d.core c
    if k.run == .debug then ((d.setCore c { k with run := k.dbgRun }).setFlag (haltFlag c) false).tapActive
    else d

end Sys2Proof.Machine
end

