-- ==== Sys2Proof/Machine/StageCommands.lean ====
section
/-! DEFINITION. The modulator, the gate drivers and the debug halts (R86, R291 to R319, R739 to R741). -/

namespace Sys2Proof.Machine

/-- A write to a fault register of the stage: a channel's, or the common one (R310). -/
def Device.faultWrite (d : Device) (m : Master) (ch : Option (Fin 4)) (v : Word) : Device :=
  match ch with
  | some n => d.directWrite m (R.GDV_CH_FAULT_n n.val) v
  | none => d.directWrite m R.GDV_FAULT v

/-- CARRIER_PERIOD (R301): each carrier period the device applies rail factor, shaper, edges, dither, minimum
pulse, quiet window and refresh. -/
def execCarrierPeriod (x : CarrierIn) (s : State) : Host.Outcome State Fault Refusal :=
  s.on fun d => d.carrierPeriodStep x

/-- NOISE_SHAPER_RESET (R293): A state saturated for 16 periods resets the channel's shaper and logs. -/
def execNoiseShaperReset (ch : Fin 4) (s : State) : Host.Outcome State Fault Refusal :=
  s.on fun d => d.shaperReset ch

/-- BOOTSTRAP_REFRESH (R304): after N full on-time periods a refresh pulse is inserted. -/
def execBootstrapRefresh (x : Fin 8) (s : State) : Host.Outcome State Fault Refusal :=
  s.on fun d => d.refresh x

/-- OVERCURRENT (R306): A channel comparator trips outside blanking, forcing the channel off and latching in
LATCH or at CBC_MAX. -/
def execOvercurrent (n : Fin 4) (s : State) : Host.Outcome State Fault Refusal :=
  s.on fun d => d.overcurrent n

/-- STACK_OVERCURRENT (R307): the stack comparator trips, turning every gate off and latching STK_OC. -/
def execStackOvercurrent (s : State) : Host.Outcome State Fault Refusal :=
  s.on fun d => d.stackOvercurrent

/-- INTERLOCK (R312): both gate commands on for more than 2 ns force the half-bridge off and latch INTERLOCK.
-/
def execInterlock (x : Fin 8) (s : State) : Host.Outcome State Fault Refusal :=
  s.on fun d => d.interlock x

/-- EXT_FAULT (R311): FAULT_N low for 50 ns latches EXT_FAULT and forces all half-bridges. -/
def execExtFault (s : State) : Host.Outcome State Fault Refusal :=
  s.on fun d => d.extFault

/-- VDRV_LOCKOUT (R315): VDRV below 9.5 V forces every half-bridge off and latches VDRV_UVLO in a running
state. -/
def execVdrvLockout (s : State) : Host.Outcome State Fault Refusal :=
  s.on fun d => d.vdrvLockout

/-- BOOTSTRAP_LOCKOUT (R315): BST_x − SW_x below 8.0 V forces the high side off and latches BST_UVLO in PLAY
or debug halt. -/
def execBootstrapLockout (x : Fin 8) (s : State) : Host.Outcome State Fault Refusal :=
  s.on fun d => d.bootstrapLockout x

/-- GDV_FAULT_CLEAR (R310): A SAFETY host writes 1 to clear stage fault bits whose conditions no longer hold.
-/
def execGdvFaultClear (m : Master) (ch : Option (Fin 4)) (v : Word) (s : State) : Host.Outcome State Fault Refusal :=
  s.on fun d => d.faultWrite m ch v

/-- MOD_OVERRIDE_WRITE (R313): A write of override mode drives half-bridges by code in READY or is rejected.
-/
def execModOverrideWrite (m : Master) (v : Word) (s : State) : Host.Outcome State Fault Refusal :=
  s.on fun d => d.directWrite m R.MOD_OVERRIDE v

/-- MOD_RFF_LIMCNT_CLR (R336): writing 1 clears MOD_RFF_LIMCNT. -/
def execModRffLimcntClr (m : Master) (v : Word) (s : State) : Host.Outcome State Fault Refusal :=
  s.on fun d => d.directWrite m R.MOD_RFF_LIMCNT v

/-- GDV_OC_CNT_CLR (R337): writing 1 clears GDV_OC_CNT. -/
def execGdvOcCntClr (m : Master) (v : Word) (s : State) : Host.Outcome State Fault Refusal :=
  s.on fun d => d.directWrite m R.GDV_OC_CNT v

/-- STREAM_DEBUG_HALT (R316): A debug halt freezes the edge generator with every gate command held. -/
def execStreamDebugHalt (s : State) : Host.Outcome State Fault Refusal :=
  s.on fun d => d.debugHalt .stream

/-- STREAM_DEBUG_RESUME (R319): on resume the shaper is cleared, modulation restarts and the Guard is forced
blind-long. -/
def execStreamDebugResume (s : State) : Host.Outcome State Fault Refusal :=
  s.on fun d => d.debugRelease .stream

/-- S_DEBUG_HALT (R86): A debug halt of S stops its block cycle and zero blocks are passed. -/
def execSDebugHalt (s : State) : Host.Outcome State Fault Refusal :=
  s.on fun d => d.debugHalt (.core .s)

/-- S_DEBUG_RESUME (R86): S waits for the next boundary and ramps in its first good block. -/
def execSDebugResume (s : State) : Host.Outcome State Fault Refusal :=
  s.on fun d => d.debugRelease (.core .s)

/-- VDRV_LOCKOUT_RELEASE (R315): VDRV rises above the 10.2 V rising level, the VDRV lockout ends and
GDV_STAT.VDRV_OK is set. -/
def execVdrvLockoutRelease (s : State) : Host.Outcome State Fault Refusal :=
  s.on fun d => d.vdrvRelease

/-- BOOTSTRAP_LOCKOUT_RELEASE (R315): BST_x − SW_x rises above 8.6 V, the high side is allowed again and
BST_OK is set. -/
def execBootstrapLockoutRelease (x : Fin 8) (s : State) : Host.Outcome State Fault Refusal :=
  s.on fun d => d.bootstrapRelease x

/-- DEBUG_LOCK (R739): setting DBG_CTL.LOCK restricts the TAP to boundary scan, IDCODE and BYPASS. -/
def execDebugLock (m : Master) (v : Word) (s : State) : Host.Outcome State Fault Refusal :=
  s.on fun d => d.directWrite m R.DBG_CTL v

/-- TAP_HALT_REQUEST (R739): A TAP halt request halts a core or the STREAM domain unless locked. -/
def execTapHaltRequest (t : HaltTarget) (s : State) : Host.Outcome State Fault Refusal :=
  s.on fun d => d.debugHalt t

/-- TAP_RELEASE (R741): the TAP releases a debug halt in force. -/
def execTapRelease (t : HaltTarget) (s : State) : Host.Outcome State Fault Refusal :=
  s.on fun d => d.debugRelease t

end Sys2Proof.Machine
end

