-- ==== Sys2Proof/Machine/WeirCommands.lean ====
section
/-! DEFINITION. The Weir (R415 to R418). -/

namespace Sys2Proof.Machine

/-- WEIR_READY (R415): A write of 1 to WEIR_READYi makes a task READY or sets REPEND. -/
def execWeirReady (m : Master) (i : Fin 2) (v : Word) (s : State) : Host.Outcome State Fault Refusal :=
  s.on fun d => d.directWrite m (R.WEIR_READYi i.val) v

/-- WEIR_CANCEL (R415): A write of 1 to WEIR_CANCELi withdraws a READY task or clears REPEND. -/
def execWeirCancel (m : Master) (i : Fin 2) (v : Word) (s : State) : Host.Outcome State Fault Refusal :=
  s.on fun d => d.directWrite m (R.WEIR_CANCELi i.val) v

/-- TASK_STARVED (R418): A task waiting STARVE blocks sets STARVED, raises TASK_STARVED and logs. -/
def execTaskStarved (t : Fin 64) (s : State) : Host.Outcome State Fault Refusal :=
  s.on fun d => d.taskStarved t.val

end Sys2Proof.Machine
end

