-- ==== Sys2Proof/Machine/Dispatch.lean ====
section
/-! DEFINITION. Every command and its meaning. -/

namespace Sys2Proof.Machine

def exec (i : Instr) (s : State) : Host.Outcome State Fault Refusal :=
  match i with
  | .registerWrite m addr v => Sys2Proof.Machine.execRegisterWrite m addr v s
  | .sysRejectAddrRead m => Sys2Proof.Machine.execSysRejectAddrRead m s
  | .blockBoundary x => Sys2Proof.Machine.execBlockBoundary x s
  | .add c rd rs1 rs2 => Sys2Proof.Machine.execAdd c rd rs1 rs2 s
  | .sub c rd rs1 rs2 => Sys2Proof.Machine.execSub c rd rs1 rs2 s
  | .and c rd rs1 rs2 => Sys2Proof.Machine.execAnd c rd rs1 rs2 s
  | .or c rd rs1 rs2 => Sys2Proof.Machine.execOr c rd rs1 rs2 s
  | .xor c rd rs1 rs2 => Sys2Proof.Machine.execXor c rd rs1 rs2 s
  | .sll c rd rs1 rs2 => Sys2Proof.Machine.execSll c rd rs1 rs2 s
  | .srl c rd rs1 rs2 => Sys2Proof.Machine.execSrl c rd rs1 rs2 s
  | .sra c rd rs1 rs2 => Sys2Proof.Machine.execSra c rd rs1 rs2 s
  | .slt c rd rs1 rs2 => Sys2Proof.Machine.execSlt c rd rs1 rs2 s
  | .sltu c rd rs1 rs2 => Sys2Proof.Machine.execSltu c rd rs1 rs2 s
  | .min c rd rs1 rs2 => Sys2Proof.Machine.execMin c rd rs1 rs2 s
  | .max c rd rs1 rs2 => Sys2Proof.Machine.execMax c rd rs1 rs2 s
  | .minu c rd rs1 rs2 => Sys2Proof.Machine.execMinu c rd rs1 rs2 s
  | .maxu c rd rs1 rs2 => Sys2Proof.Machine.execMaxu c rd rs1 rs2 s
  | .mul c rd rs1 rs2 => Sys2Proof.Machine.execMul c rd rs1 rs2 s
  | .mulh c rd rs1 rs2 => Sys2Proof.Machine.execMulh c rd rs1 rs2 s
  | .mulhu c rd rs1 rs2 => Sys2Proof.Machine.execMulhu c rd rs1 rs2 s
  | .div c rd rs1 rs2 => Sys2Proof.Machine.execDiv c rd rs1 rs2 s
  | .divu c rd rs1 rs2 => Sys2Proof.Machine.execDivu c rd rs1 rs2 s
  | .rem c rd rs1 rs2 => Sys2Proof.Machine.execRem c rd rs1 rs2 s
  | .remu c rd rs1 rs2 => Sys2Proof.Machine.execRemu c rd rs1 rs2 s
  | .clz c rd rs1 => Sys2Proof.Machine.execClz c rd rs1 s
  | .addi c rd rs1 imm => Sys2Proof.Machine.execAddi c rd rs1 imm s
  | .andi c rd rs1 imm => Sys2Proof.Machine.execAndi c rd rs1 imm s
  | .ori c rd rs1 imm => Sys2Proof.Machine.execOri c rd rs1 imm s
  | .xori c rd rs1 imm => Sys2Proof.Machine.execXori c rd rs1 imm s
  | .slti c rd rs1 imm => Sys2Proof.Machine.execSlti c rd rs1 imm s
  | .sltiu c rd rs1 imm => Sys2Proof.Machine.execSltiu c rd rs1 imm s
  | .slli c rd rs1 n => Sys2Proof.Machine.execSlli c rd rs1 n s
  | .srli c rd rs1 n => Sys2Proof.Machine.execSrli c rd rs1 n s
  | .srai c rd rs1 n => Sys2Proof.Machine.execSrai c rd rs1 n s
  | .rori c rd rs1 n => Sys2Proof.Machine.execRori c rd rs1 n s
  | .lui c rd imm => Sys2Proof.Machine.execLui c rd imm s
  | .addpc c rd imm => Sys2Proof.Machine.execAddpc c rd imm s
  | .lw c rd rs1 imm u => Sys2Proof.Machine.execLw c rd rs1 imm u s
  | .lh c rd rs1 imm u => Sys2Proof.Machine.execLh c rd rs1 imm u s
  | .lhu c rd rs1 imm u => Sys2Proof.Machine.execLhu c rd rs1 imm u s
  | .lb c rd rs1 imm u => Sys2Proof.Machine.execLb c rd rs1 imm u s
  | .lbu c rd rs1 imm u => Sys2Proof.Machine.execLbu c rd rs1 imm u s
  | .sw c rs2 rs1 imm => Sys2Proof.Machine.execSw c rs2 rs1 imm s
  | .sh c rs2 rs1 imm => Sys2Proof.Machine.execSh c rs2 rs1 imm s
  | .sb c rs2 rs1 imm => Sys2Proof.Machine.execSb c rs2 rs1 imm s
  | .storeComplete c => Sys2Proof.Machine.execStoreComplete c s
  | .beq c rs1 rs2 off => Sys2Proof.Machine.execBeq c rs1 rs2 off s
  | .bne c rs1 rs2 off => Sys2Proof.Machine.execBne c rs1 rs2 off s
  | .blt c rs1 rs2 off => Sys2Proof.Machine.execBlt c rs1 rs2 off s
  | .bge c rs1 rs2 off => Sys2Proof.Machine.execBge c rs1 rs2 off s
  | .bltu c rs1 rs2 off => Sys2Proof.Machine.execBltu c rs1 rs2 off s
  | .bgeu c rs1 rs2 off => Sys2Proof.Machine.execBgeu c rs1 rs2 off s
  | .j c off => Sys2Proof.Machine.execJ c off s
  | .jal c off => Sys2Proof.Machine.execJal c off s
  | .jalr c rd rs1 imm => Sys2Proof.Machine.execJalr c rd rs1 imm s
  | .mac c ad rs1 rs2 => Sys2Proof.Machine.execMac c ad rs1 rs2 s
  | .msu c ad rs1 rs2 => Sys2Proof.Machine.execMsu c ad rs1 rs2 s
  | .mpy c ad rs1 rs2 => Sys2Proof.Machine.execMpy c ad rs1 rs2 s
  | .mpyn c ad rs1 rs2 => Sys2Proof.Machine.execMpyn c ad rs1 rs2 s
  | .mac16 c ad rs1 rs2 => Sys2Proof.Machine.execMac16 c ad rs1 rs2 s
  | .msu16 c ad rs1 rs2 => Sys2Proof.Machine.execMsu16 c ad rs1 rs2 s
  | .ext c w a n mode => Sys2Proof.Machine.execExt c w a n mode s
  | .aclr c a => Sys2Proof.Machine.execAclr c a s
  | .aset c w a => Sys2Proof.Machine.execAset c w a s
  | .aadd c a b => Sys2Proof.Machine.execAadd c a b s
  | .asub c a b => Sys2Proof.Machine.execAsub c a b s
  | .ashl c a n => Sys2Proof.Machine.execAshl c a n s
  | .ashr c a n => Sys2Proof.Machine.execAshr c a n s
  | .ardl c w a => Sys2Proof.Machine.execArdl c w a s
  | .ardm c w a => Sys2Proof.Machine.execArdm c w a s
  | .ardh c w a => Sys2Proof.Machine.execArdh c w a s
  | .awrl c w a => Sys2Proof.Machine.execAwrl c w a s
  | .awrm c w a => Sys2Proof.Machine.execAwrm c w a s
  | .awrh c w a => Sys2Proof.Machine.execAwrh c w a s
  | .qadd c rd rs1 rs2 => Sys2Proof.Machine.execQadd c rd rs1 rs2 s
  | .qsub c rd rs1 rs2 => Sys2Proof.Machine.execQsub c rd rs1 rs2 s
  | .qmul c rd rs1 rs2 => Sys2Proof.Machine.execQmul c rd rs1 rs2 s
  | .qmulf c rd rs1 rs2 => Sys2Proof.Machine.execQmulf c rd rs1 rs2 s
  | .qneg c rd rs1 => Sys2Proof.Machine.execQneg c rd rs1 s
  | .qabs c rd rs1 => Sys2Proof.Machine.execQabs c rd rs1 s
  | .qshl c rd rs1 rs2 => Sys2Proof.Machine.execQshl c rd rs1 rs2 s
  | .qshr c rd rs1 rs2 => Sys2Proof.Machine.execQshr c rd rs1 rs2 s
  | .fence c => Sys2Proof.Machine.execFence c s
  | .wait c => Sys2Proof.Machine.execWait c s
  | .waitWake c => Sys2Proof.Machine.execWaitWake c s
  | .eret c => Sys2Proof.Machine.execEret c s
  | .trap c code => Sys2Proof.Machine.execTrap c code s
  | .srd c w num => Sys2Proof.Machine.execSrd c w num s
  | .swr c w num => Sys2Proof.Machine.execSwr c w num s
  | .semtake c rd n meets => Sys2Proof.Machine.execSemtake c rd n meets s
  | .semrel c rd n rs => Sys2Proof.Machine.execSemrel c rd n rs s
  | .sembrk c rd n rs => Sys2Proof.Machine.execSembrk c rd n rs s
  | .take c rd => Sys2Proof.Machine.execTake c rd s
  | .done c rd rs => Sys2Proof.Machine.execDone c rd rs s
  | .vld c q rs1 imm u => Sys2Proof.Machine.execVld c q rs1 imm u s
  | .vst c q rs1 imm => Sys2Proof.Machine.execVst c q rs1 imm s
  | .vadd c vd vs1 vs2 => Sys2Proof.Machine.execVadd c vd vs1 vs2 s
  | .vsub c vd vs1 vs2 => Sys2Proof.Machine.execVsub c vd vs1 vs2 s
  | .vqadd c vd vs1 vs2 => Sys2Proof.Machine.execVqadd c vd vs1 vs2 s
  | .vqsub c vd vs1 vs2 => Sys2Proof.Machine.execVqsub c vd vs1 vs2 s
  | .vqmul c vd vs1 vs2 => Sys2Proof.Machine.execVqmul c vd vs1 vs2 s
  | .vmin c vd vs1 vs2 => Sys2Proof.Machine.execVmin c vd vs1 vs2 s
  | .vmax c vd vs1 vs2 => Sys2Proof.Machine.execVmax c vd vs1 vs2 s
  | .vqabs c vd vs1 => Sys2Proof.Machine.execVqabs c vd vs1 s
  | .vqneg c vd vs1 => Sys2Proof.Machine.execVqneg c vd vs1 s
  | .vand c vd vs1 vs2 => Sys2Proof.Machine.execVand c vd vs1 vs2 s
  | .vor c vd vs1 vs2 => Sys2Proof.Machine.execVor c vd vs1 vs2 s
  | .vxor c vd vs1 vs2 => Sys2Proof.Machine.execVxor c vd vs1 vs2 s
  | .vsra c vd vs1 n => Sys2Proof.Machine.execVsra c vd vs1 n s
  | .vqshl c vd vs1 n => Sys2Proof.Machine.execVqshl c vd vs1 n s
  | .vmaca c qa qb => Sys2Proof.Machine.execVmaca c qa qb s
  | .vmsua c qa qb => Sys2Proof.Machine.execVmsua c qa qb s
  | .vmpya c qa qb => Sys2Proof.Machine.execVmpya c qa qb s
  | .vmacw c qa w => Sys2Proof.Machine.execVmacw c qa w s
  | .vmpyw c qa w => Sys2Proof.Machine.execVmpyw c qa w s
  | .vext c qa n mode => Sys2Proof.Machine.execVext c qa n mode s
  | .vaclr c => Sys2Proof.Machine.execVaclr c s
  | .vaset c qa => Sys2Proof.Machine.execVaset c qa s
  | .vsplat c q w => Sys2Proof.Machine.execVsplat c q w s
  | .vget c q w lane => Sys2Proof.Machine.execVget c q w lane s
  | .vput c q w lane => Sys2Proof.Machine.execVput c q w lane s
  | .vmovq c q q2 => Sys2Proof.Machine.execVmovq c q q2 s
  | .vrot c q q2 lane => Sys2Proof.Machine.execVrot c q q2 lane s
  | .vlds c q rs1 rs2 u => Sys2Proof.Machine.execVlds c q rs1 rs2 u s
  | .vsts c q rs1 rs2 => Sys2Proof.Machine.execVsts c q rs1 rs2 s
  | .blkend c => Sys2Proof.Machine.execBlkend c s
  | .undefInstruction c => Sys2Proof.Machine.execUndefInstruction c s
  | .eventException c => Sys2Proof.Machine.execEventException c s
  | .streamOverrun => Sys2Proof.Machine.execStreamOverrun s
  | .scrubSlot addr u => Sys2Proof.Machine.execScrubSlot addr u s
  | .stSctlRunWrite m v => Sys2Proof.Machine.execStSctlRunWrite m v s
  | .stSentryWrite m v => Sys2Proof.Machine.execStSentryWrite m v s
  | .stOvrcntClr m => Sys2Proof.Machine.execStOvrcntClr m s
  | .stEndmaxClr m => Sys2Proof.Machine.execStEndmaxClr m s
  | .bootRom journal => Sys2Proof.Machine.execBootRom journal s
  | .evcDelivery => Sys2Proof.Machine.execEvcDelivery s
  | .moderationExpire x => Sys2Proof.Machine.execModerationExpire x s
  | .eventFire n => Sys2Proof.Machine.execEventFire n s
  | .evcClaim m x => Sys2Proof.Machine.execEvcClaim m x s
  | .evcDone m x v => Sys2Proof.Machine.execEvcDone m x v s
  | .evcPset m x v => Sys2Proof.Machine.execEvcPset m x v s
  | .evcPclr m x v => Sys2Proof.Machine.execEvcPclr m x v s
  | .evcSrcWrite m n v => Sys2Proof.Machine.execEvcSrcWrite m n v s
  | .evcTgtCtlWrite m x v => Sys2Proof.Machine.execEvcTgtCtlWrite m x v s
  | .evcTgtModWrite m x v => Sys2Proof.Machine.execEvcTgtModWrite m x v s
  | .evcCtlGenWrite m v => Sys2Proof.Machine.execEvcCtlGenWrite m v s
  | .wakeLatchSet k => Sys2Proof.Machine.execWakeLatchSet k s
  | .gateEnd ring inp follow => Sys2Proof.Machine.execGateEnd ring inp follow s
  | .refSourceAbsent => Sys2Proof.Machine.execRefSourceAbsent s
  | .dwellExpire => Sys2Proof.Machine.execDwellExpire s
  | .refRevert => Sys2Proof.Machine.execRefRevert s
  | .slewComplete target ms => Sys2Proof.Machine.execSlewComplete target ms s
  | .ringSlaveAcquire => Sys2Proof.Machine.execRingSlaveAcquire s
  | .acquireComplete err frame => Sys2Proof.Machine.execAcquireComplete err frame s
  | .ringHoldSteer err goal ms => Sys2Proof.Machine.execRingHoldSteer err goal ms s
  | .alignOut err => Sys2Proof.Machine.execAlignOut err s
  | .alignReturn err => Sys2Proof.Machine.execAlignReturn err s
  | .pllLock => Sys2Proof.Machine.execPllLock s
  | .pllUnlock trip => Sys2Proof.Machine.execPllUnlock trip s
  | .analogRelock => Sys2Proof.Machine.execAnalogRelock s
  | .limpReturn => Sys2Proof.Machine.execLimpReturn s
  | .ringTimeRead m => Sys2Proof.Machine.execRingTimeRead m s
  | .aonTimer n => Sys2Proof.Machine.execAonTimer n s
  | .lpoCalibration hz => Sys2Proof.Machine.execLpoCalibration hz s
  | .xtalStartTimeout => Sys2Proof.Machine.execXtalStartTimeout s
  | .porRise => Sys2Proof.Machine.execPorRise s
  | .aonPorRelease => Sys2Proof.Machine.execAonPorRelease s
  | .porFall => Sys2Proof.Machine.execPorFall s
  | .pgAuxRise n => Sys2Proof.Machine.execPgAuxRise n s
  | .seqGapExpire straps => Sys2Proof.Machine.execSeqGapExpire straps s
  | .dividerRelease => Sys2Proof.Machine.execDividerRelease s
  | .pgtoExpire => Sys2Proof.Machine.execPgtoExpire s
  | .seqRetryExpire => Sys2Proof.Machine.execSeqRetryExpire s
  | .pgAuxFall n => Sys2Proof.Machine.execPgAuxFall n s
  | .brownout v => Sys2Proof.Machine.execBrownout v s
  | .brownoutWarn v => Sys2Proof.Machine.execBrownoutWarn v s
  | .reqReady m => Sys2Proof.Machine.execReqReady m s
  | .reqPlay m => Sys2Proof.Machine.execReqPlay m s
  | .reqStill m => Sys2Proof.Machine.execReqStill m s
  | .reqIce m => Sys2Proof.Machine.execReqIce m s
  | .reqSafe m => Sys2Proof.Machine.execReqSafe m s
  | .exitSafeToReady m => Sys2Proof.Machine.execExitSafeToReady m s
  | .exitSafeToPlay m => Sys2Proof.Machine.execExitSafeToPlay m s
  | .mainClose m => Sys2Proof.Machine.execMainClose m s
  | .mainOpen m => Sys2Proof.Machine.execMainOpen m s
  | .stillEnter => Sys2Proof.Machine.execStillEnter s
  | .stillWaitTimeout => Sys2Proof.Machine.execStillWaitTimeout s
  | .stillWake => Sys2Proof.Machine.execStillWake s
  | .stillUngate => Sys2Proof.Machine.execStillUngate s
  | .iceWake => Sys2Proof.Machine.execIceWake s
  | .rstPin low => Sys2Proof.Machine.execRstPin low s
  | .wdogStart m v => Sys2Proof.Machine.execWdogStart m v s
  | .wdogKick m v => Sys2Proof.Machine.execWdogKick m v s
  | .wdogWarn => Sys2Proof.Machine.execWdogWarn s
  | .wdogExpire => Sys2Proof.Machine.execWdogExpire s
  | .softwareReset m v => Sys2Proof.Machine.execSoftwareReset m v s
  | .coreReset m v => Sys2Proof.Machine.execCoreReset m v s
  | .prechargeStart => Sys2Proof.Machine.execPrechargeStart s
  | .prechargeEnd => Sys2Proof.Machine.execPrechargeEnd s
  | .pchgOverlapEnd => Sys2Proof.Machine.execPchgOverlapEnd s
  | .pchgTimeout => Sys2Proof.Machine.execPchgTimeout s
  | .presLost => Sys2Proof.Machine.execPresLost s
  | .presGained => Sys2Proof.Machine.execPresGained s
  | .bootstrapStart => Sys2Proof.Machine.execBootstrapStart s
  | .rampInEnd => Sys2Proof.Machine.execRampInEnd s
  | .rampOutEnd => Sys2Proof.Machine.execRampOutEnd s
  | .pwrFaultClear m v => Sys2Proof.Machine.execPwrFaultClear m v s
  | .auxConverterSample ntc die => Sys2Proof.Machine.execAuxConverterSample ntc die s
  | .wakePin => Sys2Proof.Machine.execWakePin s
  | .i2sFrame p rise fall => Sys2Proof.Machine.execI2sFrame p rise fall s
  | .iecSubframe ch word parityOk codeOk valid cs z => Sys2Proof.Machine.execIecSubframe ch word parityOk codeOk valid cs z s
  | .inputLock g hz => Sys2Proof.Machine.execInputLock g hz s
  | .inputUnlock g why rel => Sys2Proof.Machine.execInputUnlock g why rel s
  | .csCapture => Sys2Proof.Machine.execCsCapture s
  | .iecUnmute => Sys2Proof.Machine.execIecUnmute s
  | .ircSettle g => Sys2Proof.Machine.execIrcSettle g s
  | .inpSlip g => Sys2Proof.Machine.execInpSlip g s
  | .inpIecStatPclr m v => Sys2Proof.Machine.execInpIecStatPclr m v s
  | .inpSlipcntClr m v => Sys2Proof.Machine.execInpSlipcntClr m v s
  | .laneSettled n j => Sys2Proof.Machine.execLaneSettled n j s
  | .fenEccError w part => Sys2Proof.Machine.execFenEccError w part s
  | .fenCaptureStart m v => Sys2Proof.Machine.execFenCaptureStart m v s
  | .fenCaptureDone xs frame sub => Sys2Proof.Machine.execFenCaptureDone xs frame sub s
  | .fenSatClr m n v => Sys2Proof.Machine.execFenSatClr m n v s
  | .carrierPeriod x => Sys2Proof.Machine.execCarrierPeriod x s
  | .noiseShaperReset ch => Sys2Proof.Machine.execNoiseShaperReset ch s
  | .bootstrapRefresh x => Sys2Proof.Machine.execBootstrapRefresh x s
  | .overcurrent n => Sys2Proof.Machine.execOvercurrent n s
  | .stackOvercurrent => Sys2Proof.Machine.execStackOvercurrent s
  | .interlock x => Sys2Proof.Machine.execInterlock x s
  | .extFault => Sys2Proof.Machine.execExtFault s
  | .vdrvLockout => Sys2Proof.Machine.execVdrvLockout s
  | .bootstrapLockout x => Sys2Proof.Machine.execBootstrapLockout x s
  | .gdvFaultClear m ch v => Sys2Proof.Machine.execGdvFaultClear m ch v s
  | .modOverrideWrite m v => Sys2Proof.Machine.execModOverrideWrite m v s
  | .modRffLimcntClr m v => Sys2Proof.Machine.execModRffLimcntClr m v s
  | .gdvOcCntClr m v => Sys2Proof.Machine.execGdvOcCntClr m v s
  | .streamDebugHalt => Sys2Proof.Machine.execStreamDebugHalt s
  | .streamDebugResume => Sys2Proof.Machine.execStreamDebugResume s
  | .sDebugHalt => Sys2Proof.Machine.execSDebugHalt s
  | .sDebugResume => Sys2Proof.Machine.execSDebugResume s
  | .pilotWindowEnd idx => Sys2Proof.Machine.execPilotWindowEnd idx s
  | .broadbandReport idx => Sys2Proof.Machine.execBroadbandReport idx s
  | .estimatorBlind idx => Sys2Proof.Machine.execEstimatorBlind idx s
  | .estimatorBlindLong idx => Sys2Proof.Machine.execEstimatorBlindLong idx s
  | .guardRecovery idx => Sys2Proof.Machine.execGuardRecovery idx s
  | .ratchetReleaseEnd idx => Sys2Proof.Machine.execRatchetReleaseEnd idx s
  | .grdXClr m idx v => Sys2Proof.Machine.execGrdXClr m idx v s
  | .grdLineEcc idx j => Sys2Proof.Machine.execGrdLineEcc idx j s
  | .diagPrestart m mask => Sys2Proof.Machine.execDiagPrestart m mask s
  | .diagSweep m mask => Sys2Proof.Machine.execDiagSweep m mask s
  | .diagAbort m mask => Sys2Proof.Machine.execDiagAbort m mask s
  | .prestartStepEnd x => Sys2Proof.Machine.execPrestartStepEnd x s
  | .sweepPointEnd x => Sys2Proof.Machine.execSweepPointEnd x s
  | .dcOnLoad n vs => Sys2Proof.Machine.execDcOnLoad n vs s
  | .diagHoldClear m v => Sys2Proof.Machine.execDiagHoldClear m v s
  | .weirReady m idx v => Sys2Proof.Machine.execWeirReady m idx v s
  | .weirCancel m idx v => Sys2Proof.Machine.execWeirCancel m idx v s
  | .taskStarved t => Sys2Proof.Machine.execTaskStarved t s
  | .chainStatus k f => Sys2Proof.Machine.execChainStatus k f s
  | .assign k f => Sys2Proof.Machine.execAssign k f s
  | .unassign k => Sys2Proof.Machine.execUnassign k s
  | .readId k f => Sys2Proof.Machine.execReadId k f s
  | .chainChallenge k f => Sys2Proof.Machine.execChainChallenge k f s
  | .delayProbe k f => Sys2Proof.Machine.execDelayProbe k f s
  | .timeSet k port us phase => Sys2Proof.Machine.execTimeSet k port us phase s
  | .sampleAt k dt us phase id mask => Sys2Proof.Machine.execSampleAt k dt us phase id mask s
  | .readSample k f => Sys2Proof.Machine.execReadSample k f s
  | .readReg k dt f => Sys2Proof.Machine.execReadReg k dt f s
  | .writeReg k f => Sys2Proof.Machine.execWriteReg k f s
  | .collect k f => Sys2Proof.Machine.execCollect k f s
  | .sleep k bc f => Sys2Proof.Machine.execSleep k bc f s
  | .loop dly => Sys2Proof.Machine.execLoop dly s
  | .chainUndefinedOpcode k op bc f => Sys2Proof.Machine.execChainUndefinedOpcode k op bc f s
  | .frameRepeat k port bytes => Sys2Proof.Machine.execFrameRepeat k port bytes s
  | .chainReply side bytes delta => Sys2Proof.Machine.execChainReply side bytes delta s
  | .nakBusyResend => Sys2Proof.Machine.execNakBusyResend s
  | .attemptTimeout ticks => Sys2Proof.Machine.execAttemptTimeout ticks s
  | .broadcastLoss ticks => Sys2Proof.Machine.execBroadcastLoss ticks s
  | .chainProbe ms => Sys2Proof.Machine.execChainProbe ms s
  | .chainHeal => Sys2Proof.Machine.execChainHeal s
  | .shlCtlEnum m v => Sys2Proof.Machine.execShlCtlEnum m v s
  | .delayMeasure ms => Sys2Proof.Machine.execDelayMeasure ms s
  | .timeSetSend ms => Sys2Proof.Machine.execTimeSetSend ms s
  | .loopSend ms => Sys2Proof.Machine.execLoopSend ms s
  | .sampleReadStart => Sys2Proof.Machine.execSampleReadStart s
  | .chnWake k => Sys2Proof.Machine.execChnWake k s
  | .shlCtlWake m v => Sys2Proof.Machine.execShlCtlWake m v s
  | .shlCtlSleep m v => Sys2Proof.Machine.execShlCtlSleep m v s
  | .shlCtlUnassign m v => Sys2Proof.Machine.execShlCtlUnassign m v s
  | .mailboxGo m mb v => Sys2Proof.Machine.execMailboxGo m mb v s
  | .portJam side => Sys2Proof.Machine.execPortJam side s
  | .shlCntClr m v => Sys2Proof.Machine.execShlCntClr m v s
  | .sampleHold k => Sys2Proof.Machine.execSampleHold k s
  | .conversionComplete k x => Sys2Proof.Machine.execConversionComplete k x s
  | .balanceSchedule k die => Sys2Proof.Machine.execBalanceSchedule k die s
  | .balanceTimerExpire k idx => Sys2Proof.Machine.execBalanceTimerExpire k idx s
  | .balancingStop k f => Sys2Proof.Machine.execBalancingStop k f s
  | .balancingUnlock k f => Sys2Proof.Machine.execBalancingUnlock k f s
  | .tsyncTimeout k ms => Sys2Proof.Machine.execTsyncTimeout k ms s
  | .openWireTest k => Sys2Proof.Machine.execOpenWireTest k s
  | .openWireTestEnd k before after => Sys2Proof.Machine.execOpenWireTestEnd k before after s
  | .sleepWindowCheck k coarse ntc => Sys2Proof.Machine.execSleepWindowCheck k coarse ntc s
  | .xmSupplyLoss k => Sys2Proof.Machine.execXmSupplyLoss k s
  | .xmPowerUp k => Sys2Proof.Machine.execXmPowerUp k s
  | .frameOriginate irc turn => Sys2Proof.Machine.execFrameOriginate irc turn s
  | .frameProcess x => Sys2Proof.Machine.execFrameProcess x s
  | .portUp side => Sys2Proof.Machine.execPortUp side s
  | .portDown side => Sys2Proof.Machine.execPortDown side s
  | .ringLock => Sys2Proof.Machine.execRingLock s
  | .ringLockLoss frames => Sys2Proof.Machine.execRingLockLoss frames s
  | .beacon => Sys2Proof.Machine.execBeacon s
  | .beaconSend => Sys2Proof.Machine.execBeaconSend s
  | .tarnStatus => Sys2Proof.Machine.execTarnStatus s
  | .statusSend => Sys2Proof.Machine.execStatusSend s
  | .joinReq => Sys2Proof.Machine.execJoinReq s
  | .joinReqSend => Sys2Proof.Machine.execJoinReqSend s
  | .tarnChallenge => Sys2Proof.Machine.execTarnChallenge s
  | .response => Sys2Proof.Machine.execResponse s
  | .tarnAdmit => Sys2Proof.Machine.execTarnAdmit s
  | .leave => Sys2Proof.Machine.execLeave s
  | .nodeLost n => Sys2Proof.Machine.execNodeLost n s
  | .hostReq => Sys2Proof.Machine.execHostReq s
  | .hostRsp => Sys2Proof.Machine.execHostRsp s
  | .reassemblyTimeout n => Sys2Proof.Machine.execReassemblyTimeout n s
  | .cells => Sys2Proof.Machine.execCells s
  | .roster => Sys2Proof.Machine.execRoster s
  | .rosterSend => Sys2Proof.Machine.execRosterSend s
  | .healDwellExpire frames => Sys2Proof.Machine.execHealDwellExpire frames s
  | .healReady => Sys2Proof.Machine.execHealReady s
  | .unwrap => Sys2Proof.Machine.execUnwrap s
  | .ringHeal => Sys2Proof.Machine.execRingHeal s
  | .tarnNak => Sys2Proof.Machine.execTarnNak s
  | .tarnUnknownMessage => Sys2Proof.Machine.execTarnUnknownMessage s
  | .tarnApp => Sys2Proof.Machine.execTarnApp s
  | .trnAppGo m v => Sys2Proof.Machine.execTrnAppGo m v s
  | .trnAppRelease m v => Sys2Proof.Machine.execTrnAppRelease m v s
  | .trnCntClr m v => Sys2Proof.Machine.execTrnCntClr m v s
  | .trnLaneerrClr m n v => Sys2Proof.Machine.execTrnLaneerrClr m n v s
  | .masterTakeover frames => Sys2Proof.Machine.execMasterTakeover frames s
  | .ringActivityDetect => Sys2Proof.Machine.execRingActivityDetect s
  | .spiTransaction c mosi => Sys2Proof.Machine.execSpiTransaction c mosi s
  | .i2cTransfer addr written read => Sys2Proof.Machine.execI2cTransfer addr written read s
  | .hostFrame c => Sys2Proof.Machine.execHostFrame c s
  | .hello c => Sys2Proof.Machine.execHello c s
  | .ping c => Sys2Proof.Machine.execPing c s
  | .status c => Sys2Proof.Machine.execStatus c s
  | .regRead c => Sys2Proof.Machine.execRegRead c s
  | .regWrite c => Sys2Proof.Machine.execRegWrite c s
  | .evtDone c => Sys2Proof.Machine.execEvtDone c s
  | .stateReq c => Sys2Proof.Machine.execStateReq c s
  | .leaseAcquire c => Sys2Proof.Machine.execLeaseAcquire c s
  | .leaseRenew c => Sys2Proof.Machine.execLeaseRenew c s
  | .leaseRelease c => Sys2Proof.Machine.execLeaseRelease c s
  | .leaseBreak c => Sys2Proof.Machine.execLeaseBreak c s
  | .leaseExpired => Sys2Proof.Machine.execLeaseExpired s
  | .setPriv c => Sys2Proof.Machine.execSetPriv c s
  | .txnStage c => Sys2Proof.Machine.execTxnStage c s
  | .txnCommit c bad => Sys2Proof.Machine.execTxnCommit c bad s
  | .txnDiscard c => Sys2Proof.Machine.execTxnDiscard c s
  | .txnQuery c => Sys2Proof.Machine.execTxnQuery c s
  | .logRead c => Sys2Proof.Machine.execLogRead c s
  | .chnCmd c => Sys2Proof.Machine.execChnCmd c s
  | .relay c => Sys2Proof.Machine.execRelay c s
  | .relayTimeout c => Sys2Proof.Machine.execRelayTimeout c s
  | .updBegin c => Sys2Proof.Machine.execUpdBegin c s
  | .updData c => Sys2Proof.Machine.execUpdData c s
  | .updStatus c => Sys2Proof.Machine.execUpdStatus c s
  | .updVerify c => Sys2Proof.Machine.execUpdVerify c s
  | .updActivate c => Sys2Proof.Machine.execUpdActivate c s
  | .activateReset => Sys2Proof.Machine.execActivateReset s
  | .updConfirm c => Sys2Proof.Machine.execUpdConfirm c s
  | .updAbort c => Sys2Proof.Machine.execUpdAbort c s
  | .updKey c => Sys2Proof.Machine.execUpdKey c s
  | .idList c => Sys2Proof.Machine.execIdList c s
  | .idAdopt c => Sys2Proof.Machine.execIdAdopt c s
  | .idRevoke c => Sys2Proof.Machine.execIdRevoke c s
  | .idCommit c => Sys2Proof.Machine.execIdCommit c s
  | .convOpen c => Sys2Proof.Machine.execConvOpen c s
  | .convClose c => Sys2Proof.Machine.execConvClose c s
  | .convTimeout c n => Sys2Proof.Machine.execConvTimeout c n s
  | .app c => Sys2Proof.Machine.execApp c s
  | .hostUnknownOpcode c => Sys2Proof.Machine.execHostUnknownOpcode c s
  | .fwResponseDone m c v => Sys2Proof.Machine.execFwResponseDone m c v s
  | .notifyClaim c => Sys2Proof.Machine.execNotifyClaim c s
  | .notifyRetx c n ms => Sys2Proof.Machine.execNotifyRetx c n ms s
  | .hpCntClr m c v => Sys2Proof.Machine.execHpCntClr m c v s
  | .txnArmed c => Sys2Proof.Machine.execTxnArmed c s
  | .txnWave3 c bad => Sys2Proof.Machine.execTxnWave3 c bad s
  | .cwinWrite m a v => Sys2Proof.Machine.execCwinWrite m a v s
  | .txnCreqGo m v => Sys2Proof.Machine.execTxnCreqGo m v s
  | .logEntryWrite => Sys2Proof.Machine.execLogEntryWrite s
  | .persistWrite fails => Sys2Proof.Machine.execPersistWrite fails s
  | .sedAckWrite m v => Sys2Proof.Machine.execSedAckWrite m v s
  | .softwareEntry m v => Sys2Proof.Machine.execSoftwareEntry m v s
  | .softFault m v => Sys2Proof.Machine.execSoftFault m v s
  | .sedSysfaultClear m v => Sys2Proof.Machine.execSedSysfaultClear m v s
  | .sedCntClr m v => Sys2Proof.Machine.execSedCntClr m v s
  | .semBrkcntClr m v => Sys2Proof.Machine.execSemBrkcntClr m v s
  | .nvsLineWrite fails => Sys2Proof.Machine.execNvsLineWrite fails s
  | .nvcReqGo m v => Sys2Proof.Machine.execNvcReqGo m v s
  | .secConfirm m v => Sys2Proof.Machine.execSecConfirm m v s
  | .rngRead m => Sys2Proof.Machine.execRngRead m s
  | .debugLock m v => Sys2Proof.Machine.execDebugLock m v s
  | .tapHaltRequest t => Sys2Proof.Machine.execTapHaltRequest t s
  | .tapRelease t => Sys2Proof.Machine.execTapRelease t s
  | .portTraining side => Sys2Proof.Machine.execPortTraining side s
  | .vdrvLockoutRelease => Sys2Proof.Machine.execVdrvLockoutRelease s
  | .bootstrapLockoutRelease x => Sys2Proof.Machine.execBootstrapLockoutRelease x s
  | .wakeToneEnd k => Sys2Proof.Machine.execWakeToneEnd k s
  | .imageLineWrite fails => Sys2Proof.Machine.execImageLineWrite fails s

end Sys2Proof.Machine
end

