-- ==== Sys2Proof/Machine/TickOps.lean ====
section
/-! DEFINITION. What a STREAM cycle in which no command waits does: the counters of time advance (R45, R63, R171). -/

namespace Sys2Proof.Machine

/-- Ring time some edge-clock periods later. -/
def RingTime.plus (t : RingTime) (n : Nat) : RingTime :=
  let k := t.ticks + n
  ⟨BitVec.ofNat 48 (k / 8192), BitVec.ofNat 13 k⟩

/-- The cycle counter of a core some cycles later. -/
def Core.count (k : Core) (n : Nat) : Core := { k with cycles := k.cycles + BitVec.ofNat 64 n }

/-- One STREAM cycle of S: its counter and the position in the block, at most 32,767. -/
def Device.tickStream (d : Device) : Device :=
  let s := d.sc.count 1
  { d with sc := { s with st := s.st.put F.ST_BLKCYC_CYCLE (min 32767 (s.st.get F.ST_BLKCYC_CYCLE + 1)) } }

/-- The STREAM cycles of an AON cycle while AON runs from the PLL: 48,000 periods of it (R187). -/
def aonCycle : Nat := 6000

/-- AON in one STREAM cycle: it counts from the PLL; from the LPO its cycles come with AON_TIMER alone. -/
def Device.tickAon (d : Device) : Device :=
  if d.flag F.CLK_STAT_AON_SRC || !d.linkRuns then d
  else if d.clk.aonPhase + 1 < aonCycle then { d with clk.aonPhase := d.clk.aonPhase + 1 }
  else { d with clk.aonPhase := 0 }.aonTimer 1

/-- One STREAM cycle: 2 CORE cycles of C0 and C1, 1 cycle of S, and 4 edge-clock periods of ring time. A gated or halted
domain stands still. -/
def Device.tick (d : Device) : Device :=
  let d := if d.coreRuns then { d with c0 := d.c0.count 2, c1 := d.c1.count 2 } else d
  let d := if d.coreRuns && !d.stage.frozen then d.tickStream else d
  let d := if d.linkRuns then
      { d.inputsReach (d.clk.rt.plus 4) with clk.rt := d.clk.rt.plus 4, linkClock := d.linkClock + 1 }.tickLease
    else d
  d.tickAon

end Sys2Proof.Machine
end

