-- ==== Sys2Proof/Machine/OpciaDecode.lean ====
section
/-! DEFINITION. The instruction words of Opcia (R88 to R92): the command that each 32-bit word is on a core. The block's
commands carry their operands; this is the map from the words of R89 to them, one definition per format or group. A word
that is no instruction, by its major, its function code or a reserved field, is UNDEF_INSTRUCTION. -/

namespace Sys2Proof.Machine

/-- `len` bits of an instruction word from bit `lo` on, as a number. -/
def bitsAt (w : Word) (lo len : Nat) : Nat := w.toNat / 2 ^ lo % 2 ^ len

/-- The register that a 5-bit field at `lo` names (R90). -/
def wAt (w : Word) (lo : Nat) : WReg := Fin.ofNat 32 (bitsAt w lo 5)

/-- The vector register that a 4-bit field at `lo` names (R90). -/
def qAt (w : Word) (lo : Nat) : QReg := Fin.ofNat 16 (bitsAt w lo 4)

/-- The accumulator that a 2-bit field at `lo` names (R90). -/
def aAt (w : Word) (lo : Nat) : AReg := Fin.ofNat 4 (bitsAt w lo 2)

/-- The immediate of formats I, S and VL, and the offset of format B. -/
def immAt (w : Word) : BitVec 16 := BitVec.ofNat 16 (bitsAt w 0 16)

/-- A word whose reserved fields are zero is the instruction `i`, any other is none (R92). -/
def ifClear (reserved : Nat) (c : CoreId) (i : Instr) : Instr := if reserved = 0 then i else .undefInstruction c

/-- The ALU group (R97): format R, x in [10:6]. -/
def decodeAlu (c : CoreId) (w : Word) : Instr :=
  let rd := wAt w 21
  let r1 := wAt w 16
  let r2 := wAt w 11
  ifClear (bitsAt w 6 5) c <|
    match bitsAt w 0 6 with
    | 0x00 => .add c rd r1 r2
    | 0x01 => .sub c rd r1 r2
    | 0x02 => .and c rd r1 r2
    | 0x03 => .or c rd r1 r2
    | 0x04 => .xor c rd r1 r2
    | 0x05 => .sll c rd r1 r2
    | 0x06 => .srl c rd r1 r2
    | 0x07 => .sra c rd r1 r2
    | 0x08 => .slt c rd r1 r2
    | 0x09 => .sltu c rd r1 r2
    | 0x0A => .min c rd r1 r2
    | 0x0B => .max c rd r1 r2
    | 0x0C => .minu c rd r1 r2
    | 0x0D => .maxu c rd r1 r2
    | 0x10 => .mul c rd r1 r2
    | 0x11 => .mulh c rd r1 r2
    | 0x12 => .mulhu c rd r1 r2
    | 0x14 => .div c rd r1 r2
    | 0x15 => .divu c rd r1 r2
    | 0x16 => .rem c rd r1 r2
    | 0x17 => .remu c rd r1 r2
    | 0x18 => ifClear (bitsAt w 11 5) c (.clz c rd r1)
    | _ => .undefInstruction c

/-- SHI (R99): imm[6:5] selects the shift, imm[15:7] is reserved. -/
def decodeShi (c : CoreId) (w : Word) : Instr :=
  let rd := wAt w 21
  let r1 := wAt w 16
  let n : BitVec 5 := BitVec.ofNat 5 (bitsAt w 0 5)
  ifClear (bitsAt w 7 9) c <|
    match bitsAt w 5 2 with
    | 0 => .slli c rd r1 n
    | 1 => .srli c rd r1 n
    | 2 => .srai c rd r1 n
    | _ => .rori c rd r1 n

/-- The ACC group (R105): format A, x in [23:21] and [10:6]. -/
def decodeAcc (c : CoreId) (w : Word) : Instr :=
  let a := aAt w 24
  let r1 := wAt w 16
  let r2 := wAt w 11
  ifClear (bitsAt w 21 3 + bitsAt w 6 5) c <|
    match bitsAt w 0 6 with
    | 0 => .mac c a r1 r2
    | 1 => .msu c a r1 r2
    | 2 => .mpy c a r1 r2
    | 3 => .mpyn c a r1 r2
    | 4 => .mac16 c a r1 r2
    | 5 => .msu16 c a r1 r2
    | _ => .undefInstruction c

/-- The AMOV group (R106): format M, x in [8:6]. Each instruction names the sum of the fields that it leaves unused. -/
def decodeAmov (c : CoreId) (w : Word) : Instr :=
  let r := wAt w 21
  let a := aAt w 19
  let b := aAt w 17
  let n : BitVec 6 := BitVec.ofNat 6 (bitsAt w 11 6)
  let mode : BitVec 2 := BitVec.ofNat 2 (bitsAt w 9 2)
  let fw := bitsAt w 21 5
  let fb := bitsAt w 17 2
  let fn := bitsAt w 11 6
  let fm := bitsAt w 9 2
  ifClear (bitsAt w 6 3) c <|
    match bitsAt w 0 6 with
    | 0x00 => ifClear (fb + fm / 3) c (.ext c r a n mode)
    | 0x01 => ifClear (fw + fb + fn + fm) c (.aclr c a)
    | 0x02 => ifClear (fb + fn + fm) c (.aset c r a)
    | 0x03 => ifClear (fw + fn + fm) c (.aadd c a b)
    | 0x04 => ifClear (fw + fn + fm) c (.asub c a b)
    | 0x05 => ifClear (fw + fb + fm + fn / 16) c (.ashl c a n)
    | 0x06 => ifClear (fw + fb + fm) c (.ashr c a n)
    | 0x07 => ifClear (fb + fn + fm) c (.ardl c r a)
    | 0x08 => ifClear (fb + fn + fm) c (.ardm c r a)
    | 0x09 => ifClear (fb + fn + fm) c (.ardh c r a)
    | 0x0A => ifClear (fb + fn + fm) c (.awrl c r a)
    | 0x0B => ifClear (fb + fn + fm) c (.awrm c r a)
    | 0x0C => ifClear (fb + fn + fm) c (.awrh c r a)
    | _ => .undefInstruction c

/-- The QOPS group (R107): format R. -/
def decodeQops (c : CoreId) (w : Word) : Instr :=
  let rd := wAt w 21
  let r1 := wAt w 16
  let r2 := wAt w 11
  ifClear (bitsAt w 6 5) c <|
    match bitsAt w 0 6 with
    | 0 => .qadd c rd r1 r2
    | 1 => .qsub c rd r1 r2
    | 2 => .qmul c rd r1 r2
    | 3 => .qmulf c rd r1 r2
    | 4 => ifClear (bitsAt w 11 5) c (.qneg c rd r1)
    | 5 => ifClear (bitsAt w 11 5) c (.qabs c rd r1)
    | 6 => .qshl c rd r1 r2
    | 7 => .qshr c rd r1 r2
    | _ => .undefInstruction c

/-- The SYS group (R108): format Z; only TRAP leaves its code open. -/
def decodeSys (c : CoreId) (w : Word) : Instr :=
  let code := bitsAt w 6 20
  match bitsAt w 0 6 with
  | 1 => ifClear code c (.fence c)
  | 2 => ifClear code c (.wait c)
  | 3 => ifClear code c (.eret c)
  | 4 => .trap c (BitVec.ofNat 20 code)
  | _ => .undefInstruction c

/-- The SREG group (R110): format T, x in [20:18]. -/
def decodeSreg (c : CoreId) (w : Word) : Instr :=
  let num : BitVec 12 := BitVec.ofNat 12 (bitsAt w 6 12)
  ifClear (bitsAt w 18 3) c <|
    match bitsAt w 0 6 with
    | 0 => .srd c (wAt w 21) num
    | 1 => .swr c (wAt w 21) num
    | _ => .undefInstruction c

/-- The SEM group (R112): format Y, x in [15:11]. A SEMTAKE that meets no other. -/
def decodeSem (c : CoreId) (w : Word) : Instr :=
  let rd := wAt w 21
  let rs := wAt w 16
  let n : Fin 32 := Fin.ofNat 32 (bitsAt w 6 5)
  ifClear (bitsAt w 11 5) c <|
    match bitsAt w 0 6 with
    | 0 => ifClear (bitsAt w 16 5) c (.semtake c rd n 0)
    | 1 => .semrel c rd n rs
    | 2 => .sembrk c rd n rs
    | _ => .undefInstruction c

/-- The WEIR group (R113): format Y with n reserved. -/
def decodeWeir (c : CoreId) (w : Word) : Instr :=
  ifClear (bitsAt w 6 10) c <|
    match bitsAt w 0 6 with
    | 0 => ifClear (bitsAt w 16 5) c (.take c (wAt w 21))
    | 1 => .done c (wAt w 21) (wAt w 16)
    | _ => .undefInstruction c

/-- The VALU group (R115): format V, x in [13:11]. -/
def decodeValu (c : CoreId) (w : Word) : Instr :=
  let vd := qAt w 22
  let v1 := qAt w 18
  let v2 := qAt w 14
  let f2 := bitsAt w 14 4
  let fn := bitsAt w 6 5
  let n : BitVec 5 := BitVec.ofNat 5 fn
  ifClear (bitsAt w 11 3) c <|
    match bitsAt w 0 6 with
    | 0x00 => ifClear fn c (.vadd c vd v1 v2)
    | 0x01 => ifClear fn c (.vsub c vd v1 v2)
    | 0x02 => ifClear fn c (.vqadd c vd v1 v2)
    | 0x03 => ifClear fn c (.vqsub c vd v1 v2)
    | 0x04 => ifClear fn c (.vqmul c vd v1 v2)
    | 0x05 => ifClear fn c (.vmin c vd v1 v2)
    | 0x06 => ifClear fn c (.vmax c vd v1 v2)
    | 0x07 => ifClear (fn + f2) c (.vqabs c vd v1)
    | 0x08 => ifClear (fn + f2) c (.vqneg c vd v1)
    | 0x09 => ifClear fn c (.vand c vd v1 v2)
    | 0x0A => ifClear fn c (.vor c vd v1 v2)
    | 0x0B => ifClear fn c (.vxor c vd v1 v2)
    | 0x0C => ifClear f2 c (.vsra c vd v1 n)
    | 0x0D => ifClear f2 c (.vqshl c vd v1 n)
    | _ => .undefInstruction c

/-- The VMAC group (R90, R116): format VM, x in [8:6]. b names a vector register with b[4] reserved, or a general one. -/
def decodeVmac (c : CoreId) (w : Word) : Instr :=
  let qa := qAt w 22
  let qb := qAt w 17
  let high := bitsAt w 21 1
  let fq := bitsAt w 22 4
  let fb := bitsAt w 17 5
  let fn := bitsAt w 11 6
  let fm := bitsAt w 9 2
  ifClear (bitsAt w 6 3) c <|
    match bitsAt w 0 6 with
    | 0 => ifClear (high + fn + fm) c (.vmaca c qa qb)
    | 1 => ifClear (high + fn + fm) c (.vmsua c qa qb)
    | 2 => ifClear (high + fn + fm) c (.vmpya c qa qb)
    | 3 => ifClear (fn + fm) c (.vmacw c qa (wAt w 17))
    | 4 => ifClear (fn + fm) c (.vmpyw c qa (wAt w 17))
    | 5 => ifClear (fb + fm / 3) c (.vext c qa (BitVec.ofNat 6 fn) (BitVec.ofNat 2 fm))
    | 6 => ifClear (fq + fb + fn + fm) c (.vaclr c)
    | 7 => ifClear (fb + fn + fm) c (.vaset c qa)
    | _ => .undefInstruction c

/-- The VMOV group (R117): format VX, x in [10:6]. -/
def decodeVmov (c : CoreId) (w : Word) : Instr :=
  let q := qAt w 22
  let r := wAt w 17
  let lane : Fin 4 := Fin.ofNat 4 (bitsAt w 15 2)
  let q2 := qAt w 11
  let fw := bitsAt w 17 5
  let fl := bitsAt w 15 2
  let f2 := bitsAt w 11 4
  ifClear (bitsAt w 6 5) c <|
    match bitsAt w 0 6 with
    | 0 => ifClear (fl + f2) c (.vsplat c q r)
    | 1 => ifClear f2 c (.vget c q r lane)
    | 2 => ifClear f2 c (.vput c q r lane)
    | 3 => ifClear (fw + fl) c (.vmovq c q q2)
    | 4 => ifClear fw c (.vrot c q q2 lane)
    | _ => .undefInstruction c

/-- The VLSX group (R118): format VS, x in [21] and [10:6]. No word read is struck by an upset. -/
def decodeVlsx (c : CoreId) (w : Word) : Instr :=
  let q := qAt w 22
  ifClear (bitsAt w 21 1 + bitsAt w 6 5) c <|
    match bitsAt w 0 6 with
    | 0 => .vlds c q (wAt w 16) (wAt w 11) (.replicate 4 .none)
    | 1 => .vsts c q (wAt w 16) (wAt w 11)
    | _ => .undefInstruction c

/-- The instruction that a word is on a core: the map of the majors (R88, R91), in bits [31:26]. -/
def decodeOpcia (c : CoreId) (w : Word) : Instr :=
  let hi := wAt w 21
  let r1 := wAt w 16
  let f1 := bitsAt w 16 5
  let imm := immAt w
  let off : BitVec 26 := BitVec.ofNat 26 (bitsAt w 0 26)
  let vq := qAt w 22
  match bitsAt w 26 6 with
  | 0x01 => decodeAlu c w
  | 0x02 => .addi c hi r1 imm
  | 0x03 => .andi c hi r1 imm
  | 0x04 => .ori c hi r1 imm
  | 0x05 => .xori c hi r1 imm
  | 0x06 => .slti c hi r1 imm
  | 0x07 => .sltiu c hi r1 imm
  | 0x08 => decodeShi c w
  | 0x09 => ifClear f1 c (.lui c hi imm)
  | 0x0A => ifClear f1 c (.addpc c hi imm)
  | 0x10 => .lw c hi r1 imm .none
  | 0x11 => .lh c hi r1 imm .none
  | 0x12 => .lhu c hi r1 imm .none
  | 0x13 => .lb c hi r1 imm .none
  | 0x14 => .lbu c hi r1 imm .none
  | 0x15 => .sw c hi r1 imm
  | 0x16 => .sh c hi r1 imm
  | 0x17 => .sb c hi r1 imm
  | 0x18 => ifClear (bitsAt w 21 1) c (.vld c vq r1 imm (.replicate 4 .none))
  | 0x19 => ifClear (bitsAt w 21 1) c (.vst c vq r1 imm)
  | 0x20 => .beq c hi r1 imm
  | 0x21 => .bne c hi r1 imm
  | 0x22 => .blt c hi r1 imm
  | 0x23 => .bge c hi r1 imm
  | 0x24 => .bltu c hi r1 imm
  | 0x25 => .bgeu c hi r1 imm
  | 0x26 => .j c off
  | 0x27 => .jal c off
  | 0x28 => .jalr c hi r1 imm
  | 0x30 => decodeAcc c w
  | 0x31 => decodeAmov c w
  | 0x32 => decodeQops c w
  | 0x34 => decodeValu c w
  | 0x35 => decodeVmac c w
  | 0x36 => decodeVmov c w
  | 0x37 => decodeVlsx c w
  | 0x38 => decodeSys c w
  | 0x39 => decodeSreg c w
  | 0x3A => decodeSem c w
  | 0x3B => decodeWeir c w
  | 0x3D => if bitsAt w 0 26 = 0 then .blkend c else .undefInstruction c
  | _ => .undefInstruction c

/-- The instruction word at a core's program counter (R88): the words are little-endian in memory. -/
def Device.wordAtPc (d : Device) (c : CoreId) : Word := d.memWord (d.core c).pc.toNat

end Sys2Proof.Machine
end

