-- ==== Sys2Proof/Machine/Pins.lean ====
section
/-! DEFINITION. What the outputs show in each state (R787): levels of the state, no effect of their own. -/

namespace Sys2Proof.Machine

/-- What an output shows: its supply is absent and its pull holds it, it is released, or it is driven. -/
inductive PinOut where
  | unpowered | released | low | high
  deriving DecidableEq, Repr

/-- A driven level. -/
def PinOut.level (b : Bool) : PinOut := if b then .high else .low

/-- VDRV is on, so that the gate drivers hold their outputs. -/
def Device.driversOn (d : Device) : Bool := d.pwr.enAux[(2 : Fin 3)]

/-- GH of a half-bridge: pulled to SW through 10 kΩ while the drivers are off. -/
def Device.ghOut (d : Device) (x : Fin 8) : PinOut :=
  if d.driversOn then .level (d.gateNow x == .highOn) else .unpowered

/-- GL of a half-bridge: pulled to PGND through 10 kΩ while the drivers are off. -/
def Device.glOut (d : Device) (x : Fin 8) : PinOut :=
  if d.driversOn then .level (d.gateNow x == .lowOn) else .unpowered

/-- An output of the AON domain: left to the board's pull-down while that domain is off. -/
def Device.aonOut (d : Device) (b : Bool) : PinOut := if d.aonRuns then .level b else .unpowered

/-- EN_MAIN. -/
def Device.enMainOut (d : Device) : PinOut := d.aonOut d.pwr.enMain

/-- PCHG. -/
def Device.pchgOut (d : Device) : PinOut := d.aonOut d.pwr.pchg

/-- EN_AUX1 to EN_AUX3. -/
def Device.enAuxOut (d : Device) (k : Fin 3) : PinOut := d.aonOut d.pwr.enAux[k]

/-- VDD_IO is on. -/
def Device.ioOn (d : Device) : Bool := d.aonRuns && d.pwr.enAux[(0 : Fin 3)]

/-- HIRQ of a host port, target `x` of the event controller: released until step 9 of R212, then under R137. -/
def Device.hirqOut (d : Device) (x : Fin 4) : PinOut :=
  if !d.ioOn then .unpowered
  else if !d.linkRuns then .released
  else .level !(d.hirqLow x)

/-- Does a host port drive its MISO, while its CS_N is low? -/
def Device.misoDriven (d : Device) (csLow : Bool) : Bool := d.ioOn && d.linkRuns && csLow

/-- Does a port drive BCLK and FS at their present instant? A halt holds them at their levels. -/
def Device.bclkDriven (d : Device) (p : Fin 2) : Bool := d.ioOn && d.portDrives p

/-- XTAL_OUT oscillates. -/
def Device.xtalRuns (d : Device) : Bool :=
  d.aonRuns && (match d.pwr.seq with
    | .off | .aonReset | .aux1 | .down1 | .ice | .retryWait => false
    | _ => true)

end Sys2Proof.Machine
end

