-- ==== Sys2Proof/WellFormed.lean ====
section
/-! DEFINITION. The well-formed commands: those whose operands the rules admit. A command that is not well-formed names
nothing that can happen to the device. -/

namespace Sys2Proof

/-- A word address of core or stream SRAM (R55, R58). -/
def isSramWord (a : Nat) : Bool :=
  a % 4 == 0 && ((0x10000000 ≤ a && a < 0x10180000) || (0x20000000 ≤ a && a < 0x20080000))

/-- A chain frame has at most 64 payload bytes (R438). -/
def ChainIn.wf (f : ChainIn) : Bool := decide (f.payload.length ≤ 64)

/-- An opcode that the chain does not define (R444): 0x01 to 0x0E are defined. -/
def undefinedChainOp (op : Nat) : Bool := op == 0 || decide (0x0E < op)

/-- Is a command well-formed? The scrubber reads an aligned SRAM word
(R55); a rate, a reason, a length and a frequency are ones that exist (R247, R257); frames have the lengths of their
protocol (R438, R525). -/
def Instr.wellFormed : Instr → Bool
  | .scrubSlot addr _ => isSramWord addr.toNat
  | .lpoCalibration hz => decide (0 < hz)
  | .i2sFrame _ rise fall => decide (0 < rise.length) && fall.length == rise.length
  | .inputLock _ hz => decide (0 < hz)
  | .inputUnlock _ why _ => why != 0
  | .chainStatus _ f => f.wf
  | .assign _ f => f.wf
  | .readId _ f => f.wf
  | .chainChallenge _ f => f.wf
  | .delayProbe _ f => f.wf
  | .readSample _ f => f.wf
  | .readReg _ _ f => f.wf
  | .writeReg _ f => f.wf
  | .collect _ f => f.wf
  | .sleep _ _ f => f.wf
  | .chainUndefinedOpcode _ op _ _ => undefinedChainOp op.toNat
  | .frameRepeat _ _ bytes => decide (bytes.length ≤ 73)
  | .chainReply _ bytes _ => decide (bytes.length ≤ 73)
  | .balancingStop _ f => f.wf
  | .balancingUnlock _ f => f.wf
  | .frameProcess x => x.bytes.length == 1024
  | .registerWrite .. | .sysRejectAddrRead .. | .blockBoundary .. | .add .. | .sub .. | .and .. | .or .. | .xor ..
  | .sll .. | .srl .. | .sra .. | .slt .. | .sltu .. | .min .. | .max .. | .minu .. | .maxu .. | .mul .. | .mulh ..
  | .mulhu .. | .div .. | .divu .. | .rem .. | .remu .. | .clz .. | .addi .. | .andi .. | .ori .. | .xori ..
  | .slti .. | .sltiu .. | .slli .. | .srli .. | .srai .. | .rori .. | .lui .. | .addpc .. | .lw .. | .lh ..
  | .lhu .. | .lb .. | .lbu .. | .sw .. | .sh .. | .sb .. | .storeComplete .. | .beq .. | .bne .. | .blt ..
  | .bge .. | .bltu .. | .bgeu .. | .j .. | .jal .. | .jalr .. | .mac .. | .msu .. | .mpy .. | .mpyn .. | .mac16 ..
  | .msu16 .. | .ext .. | .aclr .. | .aset .. | .aadd .. | .asub .. | .ashl .. | .ashr .. | .ardl .. | .ardm ..
  | .ardh .. | .awrl .. | .awrm .. | .awrh .. | .qadd .. | .qsub .. | .qmul .. | .qmulf .. | .qneg .. | .qabs ..
  | .qshl .. | .qshr .. | .fence .. | .wait .. | .waitWake .. | .eret .. | .trap .. | .srd .. | .swr ..
  | .semtake .. | .semrel .. | .sembrk .. | .take .. | .done .. | .vld .. | .vst .. | .vadd .. | .vsub ..
  | .vqadd .. | .vqsub .. | .vqmul .. | .vmin .. | .vmax .. | .vqabs .. | .vqneg .. | .vand .. | .vor .. | .vxor ..
  | .vsra .. | .vqshl .. | .vmaca .. | .vmsua .. | .vmpya .. | .vmacw .. | .vmpyw .. | .vext .. | .vaclr ..
  | .vaset .. | .vsplat .. | .vget .. | .vput .. | .vmovq .. | .vrot .. | .vlds .. | .vsts .. | .blkend ..
  | .undefInstruction .. | .eventException .. | .streamOverrun | .stSctlRunWrite .. | .stSentryWrite ..
  | .stOvrcntClr .. | .stEndmaxClr .. | .bootRom .. | .evcDelivery | .moderationExpire .. | .eventFire ..
  | .evcClaim .. | .evcDone .. | .evcPset .. | .evcPclr .. | .evcSrcWrite .. | .evcTgtCtlWrite ..
  | .evcTgtModWrite .. | .evcCtlGenWrite .. | .wakeLatchSet .. | .gateEnd .. | .refSourceAbsent | .dwellExpire
  | .refRevert | .slewComplete .. | .ringSlaveAcquire | .acquireComplete .. | .ringHoldSteer .. | .alignOut ..
  | .alignReturn .. | .pllLock | .pllUnlock .. | .analogRelock | .limpReturn | .ringTimeRead .. | .aonTimer ..
  | .xtalStartTimeout | .porRise | .aonPorRelease | .porFall | .pgAuxRise .. | .seqGapExpire .. | .dividerRelease
  | .pgtoExpire | .seqRetryExpire | .pgAuxFall .. | .brownout .. | .brownoutWarn .. | .reqReady .. | .reqPlay ..
  | .reqStill .. | .reqIce .. | .reqSafe .. | .exitSafeToReady .. | .exitSafeToPlay .. | .mainClose ..
  | .mainOpen .. | .stillEnter | .stillWaitTimeout | .stillWake | .stillUngate | .iceWake | .rstPin ..
  | .wdogStart .. | .wdogKick .. | .wdogWarn | .wdogExpire | .softwareReset .. | .coreReset .. | .prechargeStart
  | .prechargeEnd | .pchgOverlapEnd | .pchgTimeout | .presLost | .presGained | .bootstrapStart | .rampInEnd
  | .rampOutEnd | .pwrFaultClear .. | .auxConverterSample .. | .wakePin | .iecSubframe .. | .csCapture | .iecUnmute
  | .ircSettle .. | .inpSlip .. | .inpIecStatPclr .. | .inpSlipcntClr .. | .laneSettled .. | .fenEccError ..
  | .fenCaptureStart .. | .fenCaptureDone .. | .fenSatClr .. | .carrierPeriod .. | .noiseShaperReset ..
  | .bootstrapRefresh .. | .overcurrent .. | .stackOvercurrent | .interlock .. | .extFault | .vdrvLockout
  | .bootstrapLockout .. | .gdvFaultClear .. | .modOverrideWrite .. | .modRffLimcntClr .. | .gdvOcCntClr ..
  | .streamDebugHalt | .streamDebugResume | .sDebugHalt | .sDebugResume | .pilotWindowEnd .. | .broadbandReport ..
  | .estimatorBlind .. | .estimatorBlindLong .. | .guardRecovery .. | .ratchetReleaseEnd .. | .grdXClr ..
  | .grdLineEcc .. | .diagPrestart .. | .diagSweep .. | .diagAbort .. | .prestartStepEnd .. | .sweepPointEnd ..
  | .dcOnLoad .. | .diagHoldClear .. | .weirReady .. | .weirCancel .. | .taskStarved .. | .unassign .. | .timeSet ..
  | .sampleAt .. | .loop .. | .nakBusyResend | .attemptTimeout .. | .broadcastLoss .. | .chainProbe .. | .chainHeal
  | .shlCtlEnum .. | .delayMeasure .. | .timeSetSend .. | .loopSend .. | .sampleReadStart .. | .chnWake .. | .shlCtlWake ..
  | .shlCtlSleep .. | .shlCtlUnassign .. | .mailboxGo .. | .portJam .. | .shlCntClr .. | .sampleHold ..
  | .conversionComplete .. | .balanceSchedule .. | .balanceTimerExpire .. | .tsyncTimeout .. | .openWireTest ..
  | .openWireTestEnd .. | .sleepWindowCheck .. | .xmSupplyLoss .. | .xmPowerUp .. | .frameOriginate .. | .portUp ..
  | .portDown .. | .ringLock | .ringLockLoss .. | .beacon | .beaconSend | .tarnStatus | .statusSend | .joinReq
  | .joinReqSend | .tarnChallenge | .response | .tarnAdmit | .leave | .nodeLost .. | .hostReq | .hostRsp
  | .reassemblyTimeout .. | .cells .. | .roster | .rosterSend | .healDwellExpire .. | .healReady | .unwrap | .ringHeal
  | .tarnNak | .tarnUnknownMessage | .tarnApp | .trnAppGo .. | .trnAppRelease .. | .trnCntClr .. | .trnLaneerrClr ..
  | .masterTakeover .. | .ringActivityDetect | .spiTransaction .. | .i2cTransfer .. | .hostFrame .. | .hello ..
  | .ping .. | .status .. | .regRead .. | .regWrite .. | .evtDone .. | .stateReq .. | .leaseAcquire ..
  | .leaseRenew .. | .leaseRelease .. | .leaseBreak .. | .leaseExpired | .setPriv .. | .txnStage .. | .txnCommit ..
  | .txnDiscard .. | .txnQuery .. | .logRead .. | .chnCmd .. | .relay .. | .relayTimeout .. | .updBegin ..
  | .updData .. | .updStatus .. | .updVerify .. | .updActivate .. | .activateReset | .updConfirm .. | .updAbort ..
  | .updKey .. | .idList .. | .idAdopt .. | .idRevoke .. | .idCommit .. | .convOpen .. | .convClose ..
  | .convTimeout .. | .app .. | .hostUnknownOpcode .. | .fwResponseDone .. | .notifyClaim .. | .notifyRetx ..
  | .hpCntClr .. | .txnArmed .. | .txnWave3 .. | .cwinWrite .. | .txnCreqGo .. | .logEntryWrite | .persistWrite ..
  | .sedAckWrite .. | .softwareEntry .. | .softFault .. | .sedSysfaultClear .. | .sedCntClr .. | .semBrkcntClr ..
  | .nvsLineWrite .. | .nvcReqGo .. | .secConfirm .. | .rngRead .. | .debugLock .. | .tapHaltRequest ..
  | .tapRelease .. | .portTraining .. | .vdrvLockoutRelease | .bootstrapLockoutRelease .. | .wakeToneEnd ..
  | .imageLineWrite .. => true

end Sys2Proof
end

