-- ==== Sys2Proof/Safety.lean ====
section
/-! DEFINITION. What a safe run is: no step stops, and the stores of the device keep their canonical form. -/

namespace Sys2Proof.Machine

/-- The canonical form of the memory: addresses strictly rising, no byte listed that reads so unlisted. -/
def Memory.wf (m : List Host.Cell) : Bool := Store.wf memDefault m

/-- The canonical form of a register file. -/
def RegMap.wf (m : RegMap) : Bool := Store.wf resetWord m

/-- The canonical form of every store of the device: the mapped registers, the memories, the state registers of the three
cores and the registers of the companions. -/
def Device.wf (d : Device) : Bool :=
  RegMap.wf d.regs && Memory.wf d.mem && RegMap.wf d.c0.st && RegMap.wf d.c1.st && RegMap.wf d.sc.st &&
    d.companions.all fun c => RegMap.wf c.regs

/-- A state whose stores are canonical. -/
def State.wf (s : State) : Bool := s.dev.wf

/-- A command completes: it answers a next state, whose queue is the one it found, and what `p` says holds of the device
after it. -/
def Completes (i : Instr) (s : State) (p : Device → Prop) : Prop :=
  ∃ t, exec i s = .next t ∧ t.pending = s.pending ∧ p t.dev

/-- The device after core `c` has fetched its next instruction: a wrong bit that the fetch met is corrected and
reported (R58). -/
def Device.fetched (d : Device) (c : CoreId) : Device := (d.fetchCause c).2

/-- Core `c` executes, S before the deadline of its block, no event comes before its next instruction, and neither the fetch nor the class of the instruction
meets a cause (R49, R93). -/
def Device.ready (d : Device) (c : CoreId) (k : InsnClass) : Prop :=
  d.executing c = true ∧ d.atDeadline c = false ∧ d.eventDue c = false ∧ (d.fetchCause c).1 = none ∧ d.classCause c k = none

/-- The state in which an instruction of core `c` has retired: the core has become `f` of itself and goes on at `next`,
and nothing else has changed since the fetch. -/
def State.retire (s : State) (c : CoreId) (next : Word) (f : Core → Core) : State :=
  { s with dev := (s.dev.fetched c).setCore c { f (s.dev.core c) with pc := next } }

/-- The program counter of a core. -/
def State.pc (s : State) (c : CoreId) : Word := (s.dev.core c).pc

/-- ST_STATUS.SAT is set where a clamp changed a value (R104). -/
def Core.sticky (k : Core) (sat : Bool) : Core := if sat then { k with st := k.st.put F.ST_STATUS_SAT 1 } else k

/-- The instruction has retired, goes on with the next one, and has written a general register. -/
def State.writes (s : State) (c : CoreId) (rd : WReg) (v : Word) : State :=
  s.retire c (s.pc c + 4) fun k => k.setReg rd v

/-- The same with an exact result, clamped to a word; a clamp that changes it sets SAT. -/
def State.writesSat (s : State) (c : CoreId) (rd : WReg) (v : Int) : State :=
  s.retire c (s.pc c + 4) fun k => (k.setReg rd (sat32 v)).sticky (clamps 32 v)

/-- The same with an accumulator and its 72 bits. -/
def State.accumulates (s : State) (c : CoreId) (a : AReg) (v : Int) : State :=
  s.retire c (s.pc c + 4) fun k =>
    ({ k with acc := k.acc.set a (sat72 v) } : Core).sticky (clamps 72 v)

/-- The same with an accumulator that takes a value as it is. -/
def State.setsAcc (s : State) (c : CoreId) (a : AReg) (v : Acc) : State :=
  s.retire c (s.pc c + 4) fun k => { k with acc := k.acc.set a v }

/-- The same with a vector register whose lanes are given. -/
def State.setsLanes (s : State) (c : CoreId) (q : QReg) (f : Nat → Word) : State :=
  s.retire c (s.pc c + 4) fun k => { k with q := k.q.set q (ofLanes f) }

/-- The same with exact lanes, each clamped; a clamp that changes any sets SAT. -/
def State.setsLanesSat (s : State) (c : CoreId) (q : QReg) (f : Nat → Int) : State :=
  s.retire c (s.pc c + 4) fun k =>
    ({ k with q := k.q.set q (ofLanes fun i => sat32 (f i)) } : Core).sticky ([0, 1, 2, 3].any fun i => clamps 32 (f i))

/-! ### What a command of the block changes -/

/-- The registers in which the log and the event controller keep their counters, flags and wake latches. -/
def noteWords : List Nat := [R.SED_CNT2, R.SED_EVT, R.EVC_STAT, R.EVC_WLATCH]

/-- `e` is `d` with the words `ws` in the register file, each at its address, and nothing else changed. -/
def Device.wrote (d e : Device) (ws : List (Nat × Word)) : Prop :=
  e = { d with regs := e.regs } ∧ ∀ a, e.word a = (ws.lookup a).getD (d.word a)

/-- The same, apart from what the log and the event controller hold. -/
def Device.noted (d e : Device) (ws : List (Nat × Word)) : Prop :=
  e = { d with regs := e.regs, evc := e.evc, sed := e.sed } ∧
    ∀ a, a ∉ noteWords → e.word a = (ws.lookup a).getD (d.word a)

/-- The log entry that an occurrence makes now (R653, R654). -/
def Device.entry (d : Device) (source sev detail : Nat) (data : List Byte) : LogEntry :=
  { epoch := BitVec.ofNat 32 d.epoch, rt := d.clk.rt, source := source, sev := sev, detail := detail, data := data }

/-- Where the log has room for the entries `es` and eight more, they have joined its queue, in this order and each in its place
among the entries of its instant (R33, R657). -/
def Device.logged (d e : Device) (es : List LogEntry) : Prop :=
  d.sed.gap = none → d.sed.wq.length + es.length + 8 ≤ logQueueCap →
    ∃ more, e.sed.wq = more.foldl placeEntry d.sed.wq ∧ es.Sublist more

/-- Source `n` has fired: found IDLE while no wake latch catches it, it is PENDING. -/
def Device.fired (d e : Device) (n : Fin 128) : Prop :=
  d.latchArmed n.val = false → (d.source n).st = .idle → (e.source n).st = .pending

/-- `e` is the device after a reset of everything but the AON domain (R216): every other register is at its reset value,
those of AON stand, the cause is added to those recorded, the watchdog has stopped, the cores are held in reset, the events
are idle, the gates are off and EN_MAIN and PCHG are low. The pins show in PWR_STAT and GDV_STAT; `ex` are registers of which
nothing is said. -/
def Device.afresh (d e : Device) (cause : Nat) (ex : List Nat) : Prop :=
  (∀ a, keptRegister a = false → a ∉ [R.PWR_STAT, R.GDV_STAT, R.TRN_STAT] → e.word a = resetWord a) ∧
  (∀ a, keptRegister a = true → a ∉ R.SYS_RST_CAUSE :: R.SYS_WDOG_CTL :: ex → e.word a = d.word a) ∧
  (∀ i < 6, (e.word R.SYS_RST_CAUSE).getLsbD i = ((d.word R.SYS_RST_CAUSE).getLsbD i || i == cause)) ∧
  e.get F.SYS_WDOG_CTL_EN = 0 ∧ e.get F.SYS_WDOG_CTL_TIMEOUT = d.get F.SYS_WDOG_CTL_TIMEOUT ∧
  e.c0 = .atReset ∧ e.c1 = .atReset ∧ e.sc = .atReset ∧ e.evc = .idle ∧ e.stage = .idle ∧ e.pwr.enMain = false ∧
  e.pwr.pchg = false ∧ e.companions = d.companions

/-- The frame of a command of the chain master, with the port it leaves from (R440). -/
def Job.frame (j : Job) : Side × List Byte :=
  (j.side, chainFrame j.addr j.opcode j.seq j.payload.length (64 * j.side.idx) j.payload)

/-- The chain is free and nothing waits for it, apart from a sample cycle: what comes up next leaves at once. -/
def Device.chainQuiet (d : Device) : Prop :=
  d.shlFree = true ∧ d.toCollect = none ∧ d.shl.enum = none ∧ d.shl.locate = none ∧ d.shl.jobs = [] ∧ d.shl.mbq = [] ∧
    d.shl.wokeNeeded = false ∧ d.shl.wantHeal = false ∧ d.shl.wantLocate = false ∧ d.shl.wantUnassign = false ∧
    d.shl.wantSleep = false ∧ d.shl.wantTime = false ∧ d.shl.wantLoop = false

/-- The chain master has sent frames, the last of them first, and `f` is the rest of it; nothing else has changed. -/
def Device.chainSent (d : Device) (fs : List (Side × List Byte)) (f : Shl → Shl) : Device :=
  { d with shl := { f d.shl with sent := (fs ++ d.shl.sent).take 8 } }

/-- The command `k` stands at the head of client `c`'s queue and may execute now; it came through the port, and no request of
a core waits for room. -/
def Device.serves (d : Device) (c : Client) (k : Cmd) : Prop :=
  d.headCmd c = some k ∧ k.origin = .port ∧ d.txn.creqWaits = false

/-- The command `k` at the head of client `c`'s queue has completed: it has left the queue, its response is cached and
pushed to the port's output queue, and nothing else has changed (R577). -/
def Device.answered (d : Device) (c : Client) (k : Cmd) (status extra : Nat) (data : List Byte) : Device :=
  let h := d.port c
  let p := respPayload status extra data
  d.setPort c (({ h with queue := h.queue.tail, busy := false, relay := none, cache := ((k.seq, p) :: h.cache).take 8 } : Hp).push
    (k.response p))

/-- The command at the head of client `c`'s queue goes on, and the operation `op` has joined those that write lines; where
nothing was to be written, its first line write has begun. -/
def Device.begins (d e : Device) (c : Client) (op : SecOp) : Prop :=
  let h := d.port c
  let busy := d.setPort c { h with busy := true }
  (d.nvs.cur ≠ .none → e = { busy with nvs := { d.nvs with ops := d.nvs.ops ++ [op] } }) ∧
  (d.nvs.cur = .none → d.nvs.ops = [] → d.sed.pq = [] → d.nvs.req = none → d.mayWrite op = true →
    d.get F.PWR_VMON_BO_WARN = 0 → e = { busy with nvs := { d.nvs with ops := [op], cur := .sec } })

/-- The companion at place `k` has become `c`, and nothing else has changed. -/
def Device.withCompanion (d : Device) (k : Fin 64) (c : Companion) : Device :=
  { d with companions := d.companions.set k c }

/-- A run of `k` steps that meets no stop and ends with canonical stores. -/
def safeRun (k : Nat) (s : State) : Prop :=
  match Sys2Proof.core.run k s with
  | .next t => State.wf t = true
  | _ => False

end Sys2Proof.Machine
end

