-- ==== Sys2Proof/Certificates/Slice0/Obligations.lean ====
section
/-! DEFINITION. The statements for the provers. -/

open Sys2Proof Sys2Proof.Machine

/-- For every command c and every state s, a step of s with c at the front of its queue is exec c on s with the rest of
the queue. -/
def Obligations.StepRunsFront : Prop :=
  ∀ (c : Instr) (s : State), step { s with pending := c :: s.pending } = exec c s

/-- R45, R63, R171, R188, R599: on an empty queue a step lets one STREAM cycle pass (the model's choice, log entry 2): C0
and C1 count two cycles, S one and its position in the block, ring time goes on by four edge-clock periods, AON counts
once in 6,000 STREAM cycles while it runs from the PLL, and a lease that is held loses a millisecond at the end of
each. The cores do not move, memory stays as it is, and without LINK nothing changes. -/
def Obligations.IdleStep : Prop :=
  ∀ s : State, s.pending = [] →
    let d := s.dev
    (∃ e, step s = .next { s with dev := e } ∧ e.mem = d.mem ∧ e.companions = d.companions ∧
      (∀ c, (e.core c).pc = (d.core c).pc ∧ (e.core c).w = (d.core c).w) ∧
      (d.coreRuns = true → e.c0.cycles = d.c0.cycles + 2 ∧ e.c1.cycles = d.c1.cycles + 2) ∧
      (d.coreRuns = true → d.stage.frozen = false → e.sc.cycles = d.sc.cycles + 1 ∧
        e.cget .s F.ST_BLKCYC_CYCLE = min 32767 (d.cget .s F.ST_BLKCYC_CYCLE + 1)) ∧
      (d.linkRuns = true → e.clk.rt = d.clk.rt.plus 4) ∧
      (d.linkRuns = true → d.get F.CLK_STAT_AON_SRC = 0 → d.get F.CLK_AON_CTL_EN = 0 →
        e.get F.CLK_AON_CNT_COUNT =
          (d.get F.CLK_AON_CNT_COUNT + if 6000 ≤ d.clk.aonPhase + 1 then 1 else 0) % 2 ^ 32) ∧
      (d.linkRuns = true → d.get (F.HP_LEASE_STATE 0) = 1 → 2 ≤ d.get (F.HP_LEASE_REMAIN 0) →
        e.get (F.HP_LEASE_STATE 0) = 1 ∧ e.get (F.HP_LEASE_REMAIN 0) =
          d.get (F.HP_LEASE_REMAIN 0) - if 196608 ≤ d.leasePhase + 1 then 1 else 0)) ∧
    (d.linkRuns = false → step s = .next s)

/-- No command stops: on every state it answers a next state, and leaves the queue alone.
A command that the present state excludes leaves the device as it is (the model's choice, log entry 1). -/
def Obligations.EveryCommandCompletes : Prop :=
  ∀ (i : Instr) (s : State), ∃ t, exec i s = .next t ∧ t.pending = s.pending

/-- The canonical form of the stores is an invariant: the memory, the register files of the device, of its cores and of
the companions list their entries in rising order and none that reads as unlisted. -/
def Obligations.StepKeepsStoresCanonical : Prop :=
  ∀ s t : State, State.wf s = true → step s = .next t → State.wf t = true

/-- The stores are canonical after reset. -/
def Obligations.ResetStoresCanonical : Prop :=
 State.wf State.reset = true

/-- R25, R44, R60, R141, R160, R212, R216, R224, R621, R660, R699: after reset no command waits, the registers hold the
words of their tables, memory lists nothing, C0 and C1 are at PRIV with IE = 0, the semaphores are free, the sources
idle, the gates off, EN_MAIN and PCHG low, the staging areas empty, and the clients hold the privileges of R25.
That memory lists nothing, and the words and fields to which no rule gives a start, are the model's choice (log entries 10, 11 and 39). -/
def Obligations.ResetState : Prop :=
  let s := State.reset
  let d := s.dev
  s.pending = [] ∧ d.mem = [] ∧ (∀ a, d.word a = resetWord a) ∧
  (∀ c : CoreId, c ≠ .s → d.cget c F.ST_STATUS_PRIV = 1 ∧ d.cget c F.ST_STATUS_IE = 0 ∧ d.cget c F.ST_STATUS_EXL = 0 ∧
    d.cget c F.ST_CAUSE_CODE = 0 ∧ (d.core c).buf = [] ∧ ∀ r, (d.core c).reg r = 0) ∧
  (∀ n : Fin 32, d.get (F.SEM_n_OWNER n) = 0 ∧ d.get (F.SEM_n_GEN n) = 0) ∧
  (∀ n, (d.source n).st = .idle ∧ (d.source n).count = 0) ∧
  d.privMask .a = 1 + 2 + 16 ∧ d.privMask .b = 4 + 8 + 16 ∧ d.pwr.enMain = false ∧ d.pwr.pchg = false ∧
  d.stage.drive = .off ∧ d.epoch = 0 ∧ d.get F.TXN_REV_REV = 0 ∧ (∀ c, d.staged c = [] ∧ d.flightOf c = none ∧ (d.port c).queue = []) ∧
  d.get (F.HP_LEASE_STATE 0) = 0

/-- R97: each instruction of the ALU group but the divisions, on every core that is ready for it, writes the word of its
row to rd (w0 discards it), goes on at PC + 4 and changes nothing else. R98: the divisions, with a divisor of zero and
with the one quotient that overflows. -/
def Obligations.IntegerInstructions : Prop :=
  (∀ (s : State) (c : CoreId) (rd rs1 rs2 : WReg), s.dev.ready c .all →
    let a := (s.dev.core c).reg rs1
    let b := (s.dev.core c).reg rs2
    let n := (b.extractLsb' 0 5).toNat
    exec (.add c rd rs1 rs2) s = .next (s.writes c rd (a + b)) ∧
    exec (.sub c rd rs1 rs2) s = .next (s.writes c rd (a - b)) ∧
    exec (.and c rd rs1 rs2) s = .next (s.writes c rd (a &&& b)) ∧
    exec (.or c rd rs1 rs2) s = .next (s.writes c rd (a ||| b)) ∧
    exec (.xor c rd rs1 rs2) s = .next (s.writes c rd (a ^^^ b)) ∧
    exec (.sll c rd rs1 rs2) s = .next (s.writes c rd (a <<< n)) ∧
    exec (.srl c rd rs1 rs2) s = .next (s.writes c rd (a >>> n)) ∧
    exec (.sra c rd rs1 rs2) s = .next (s.writes c rd (a.sshiftRight n)) ∧
    exec (.slt c rd rs1 rs2) s = .next (s.writes c rd (if a.toInt < b.toInt then 1 else 0)) ∧
    exec (.sltu c rd rs1 rs2) s = .next (s.writes c rd (if a.toNat < b.toNat then 1 else 0)) ∧
    exec (.min c rd rs1 rs2) s = .next (s.writes c rd (if a.toInt < b.toInt then a else b)) ∧
    exec (.max c rd rs1 rs2) s = .next (s.writes c rd (if a.toInt < b.toInt then b else a)) ∧
    exec (.minu c rd rs1 rs2) s = .next (s.writes c rd (if a.toNat < b.toNat then a else b)) ∧
    exec (.maxu c rd rs1 rs2) s = .next (s.writes c rd (if a.toNat < b.toNat then b else a)) ∧
    exec (.mul c rd rs1 rs2) s = .next (s.writes c rd (BitVec.ofInt 32 (a.toInt * b.toInt))) ∧
    exec (.mulh c rd rs1 rs2) s = .next (s.writes c rd (BitVec.ofInt 32 (a.toInt * b.toInt / 2 ^ 32))) ∧
    exec (.mulhu c rd rs1 rs2) s = .next (s.writes c rd (BitVec.ofNat 32 (a.toNat * b.toNat / 2 ^ 32))) ∧
    (∀ m ≤ 32, a.toNat < 2 ^ (32 - m) → (m = 32 ∨ 2 ^ (31 - m) ≤ a.toNat) →
      exec (.clz c rd rs1) s = .next (s.writes c rd (BitVec.ofNat 32 m)))) ∧
  (∀ (s : State) (c : CoreId) (rd rs1 rs2 : WReg), s.dev.ready c .all →
    let a := (s.dev.core c).reg rs1
    let b := (s.dev.core c).reg rs2
    (b ≠ 0 →
      exec (.div c rd rs1 rs2) s = .next (s.writesSat c rd (a.toInt.tdiv b.toInt)) ∧
      exec (.divu c rd rs1 rs2) s = .next (s.writes c rd (BitVec.ofNat 32 (a.toNat / b.toNat))) ∧
      exec (.rem c rd rs1 rs2) s = .next (s.writes c rd (BitVec.ofInt 32 (a.toInt.tmod b.toInt))) ∧
      exec (.remu c rd rs1 rs2) s = .next (s.writes c rd (BitVec.ofNat 32 (a.toNat % b.toNat)))) ∧
    (b = 0 →
      exec (.div c rd rs1 rs2) s = .next (s.writes c rd (if 0 ≤ a.toInt then 0x7FFFFFFF else 0x80000000)) ∧
      exec (.divu c rd rs1 rs2) s = .next (s.writes c rd 0xFFFFFFFF) ∧
      exec (.rem c rd rs1 rs2) s = .next (s.writes c rd a) ∧
      exec (.remu c rd rs1 rs2) s = .next (s.writes c rd a)) ∧
    (a = 0x80000000 → b = 0xFFFFFFFF →
      exec (.div c rd rs1 rs2) s =
        .next (s.retire c (s.pc c + 4) fun k => (k.setReg rd 0x7FFFFFFF).sticky true) ∧
      exec (.rem c rd rs1 rs2) s = .next (s.writes c rd 0)))

/-- R99: the immediate instructions. R88 to R92: the instruction words. The major opcode in bits [31:26] and the operands
in the places of their format give the instruction; a word with an unassigned major, an unlisted function code or a
reserved field that is not zero is no instruction. -/
def Obligations.ImmediateGroup : Prop :=
  (∀ (s : State) (c : CoreId) (rd rs1 : WReg) (imm : BitVec 16) (n : BitVec 5), s.dev.ready c .all →
    let a := (s.dev.core c).reg rs1
    let x : Word := imm.signExtend 32
    let z : Word := imm.zeroExtend 32
    exec (.addi c rd rs1 imm) s = .next (s.writes c rd (a + x)) ∧
    exec (.andi c rd rs1 imm) s = .next (s.writes c rd (a &&& z)) ∧
    exec (.ori c rd rs1 imm) s = .next (s.writes c rd (a ||| z)) ∧
    exec (.xori c rd rs1 imm) s = .next (s.writes c rd (a ^^^ z)) ∧
    exec (.slti c rd rs1 imm) s = .next (s.writes c rd (if a.toInt < imm.toInt then 1 else 0)) ∧
    exec (.sltiu c rd rs1 imm) s = .next (s.writes c rd (if a.toNat < x.toNat then 1 else 0)) ∧
    exec (.slli c rd rs1 n) s = .next (s.writes c rd (a <<< n.toNat)) ∧
    exec (.srli c rd rs1 n) s = .next (s.writes c rd (a >>> n.toNat)) ∧
    exec (.srai c rd rs1 n) s = .next (s.writes c rd (a.sshiftRight n.toNat)) ∧
    exec (.rori c rd rs1 n) s = .next (s.writes c rd (a >>> n.toNat ||| a <<< ((32 - n.toNat) % 32))) ∧
    exec (.lui c rd imm) s = .next (s.writes c rd (BitVec.ofNat 32 (imm.toNat * 65536))) ∧
    exec (.addpc c rd imm) s = .next (s.writes c rd (s.pc c + 4 * x))) ∧
  (∀ (c : CoreId) (rd r1 r2 : WReg) (a b : AReg) (n : BitVec 6) (m : Fin 3) (imm : BitVec 16) (off : BitVec 26) (code : BitVec 20)
      (w : Word),
    let word := fun (x : Nat) => decodeOpcia c (BitVec.ofNat 32 x)
    let i := fun (major : Nat) => word (major * 2 ^ 26 + rd.val * 2 ^ 21 + r1.val * 2 ^ 16 + imm.toNat)
    let r := fun (major f : Nat) => word (major * 2 ^ 26 + rd.val * 2 ^ 21 + r1.val * 2 ^ 16 + r2.val * 2 ^ 11 + f)
    let x := fun (f n m : Nat) =>
      word (0x31 * 2 ^ 26 + rd.val * 2 ^ 21 + a.val * 2 ^ 19 + b.val * 2 ^ 17 + n * 2 ^ 11 + m * 2 ^ 9 + f)
    let z := fun (major f : Nat) => word (major * 2 ^ 26 + code.toNat * 2 ^ 6 + f)
    i 0x02 = .addi c rd r1 imm ∧ i 0x03 = .andi c rd r1 imm ∧ i 0x04 = .ori c rd r1 imm ∧ i 0x05 = .xori c rd r1 imm ∧
    i 0x06 = .slti c rd r1 imm ∧ i 0x07 = .sltiu c rd r1 imm ∧ i 0x10 = .lw c rd r1 imm .none ∧ i 0x12 = .lhu c rd r1 imm .none ∧
    i 0x13 = .lb c rd r1 imm .none ∧ i 0x15 = .sw c rd r1 imm ∧ i 0x16 = .sh c rd r1 imm ∧ i 0x17 = .sb c rd r1 imm ∧
    i 0x20 = .beq c rd r1 imm ∧ i 0x21 = .bne c rd r1 imm ∧ i 0x22 = .blt c rd r1 imm ∧ i 0x25 = .bgeu c rd r1 imm ∧
    i 0x28 = .jalr c rd r1 imm ∧
    r 0x01 0x00 = .add c rd r1 r2 ∧ r 0x01 0x01 = .sub c rd r1 r2 ∧ r 0x01 0x04 = .xor c rd r1 r2 ∧ r 0x01 0x09 = .sltu c rd r1 r2 ∧
    r 0x01 0x10 = .mul c rd r1 r2 ∧ r 0x01 0x14 = .div c rd r1 r2 ∧ r 0x01 0x17 = .remu c rd r1 r2 ∧
    r 0x32 0 = .qadd c rd r1 r2 ∧ r 0x32 3 = .qmulf c rd r1 r2 ∧ r 0x32 7 = .qshr c rd r1 r2 ∧
    (b.val = 0 → x 0x00 n.toNat m.val = .ext c rd a n (BitVec.ofNat 2 m.val)) ∧ x 0x00 n.toNat 3 = .undefInstruction c ∧
    (rd.val = 0 → x 0x03 0 0 = .aadd c a b) ∧ (rd.val ≠ 0 → x 0x03 0 0 = .undefInstruction c) ∧
    z 0x38 4 = .trap c code ∧ (code.toNat = 0 ↔ z 0x38 2 = .wait c) ∧
    word (0x27 * 2 ^ 26 + off.toNat) = .jal c off ∧
    (∀ f, 0x19 ≤ f → f < 64 → r 0x01 f = .undefInstruction c) ∧
    (w.toNat / 2 ^ 26 = 1 → w.toNat / 64 % 32 ≠ 0 → decodeOpcia c w = .undefInstruction c) ∧
    (w.toNat / 2 ^ 26 ∈ [0x00, 0x0B, 0x0F, 0x1A, 0x1F, 0x29, 0x2F, 0x33, 0x3C, 0x3E, 0x3F] → decodeOpcia c w = .undefInstruction c))

/-- R103: branches and jumps. -/
def Obligations.BranchesAndJumps : Prop :=
  ∀ (s : State) (c : CoreId) (rd rs1 rs2 : WReg) (off imm : BitVec 16) (far : BitVec 26), s.dev.ready c .all →
    let a := (s.dev.core c).reg rs1
    let b := (s.dev.core c).reg rs2
    let goes := fun (p : Prop) [Decidable p] => s.retire c (if p then s.pc c + 4 * off.signExtend 32 else s.pc c + 4) id
    let t := a + imm.signExtend 32
    exec (.beq c rs1 rs2 off) s = .next (goes (a = b)) ∧
    exec (.bne c rs1 rs2 off) s = .next (goes (a ≠ b)) ∧
    exec (.blt c rs1 rs2 off) s = .next (goes (a.toInt < b.toInt)) ∧
    exec (.bge c rs1 rs2 off) s = .next (goes (b.toInt ≤ a.toInt)) ∧
    exec (.bltu c rs1 rs2 off) s = .next (goes (a.toNat < b.toNat)) ∧
    exec (.bgeu c rs1 rs2 off) s = .next (goes (b.toNat ≤ a.toNat)) ∧
    exec (.j c far) s = .next (s.retire c (s.pc c + 4 * far.signExtend 32) id) ∧
    exec (.jal c far) s = .next (s.retire c (s.pc c + 4 * far.signExtend 32) fun k => k.setReg 31 (s.pc c + 4)) ∧
    (t.toNat % 4 = 0 → exec (.jalr c rd rs1 imm) s = .next (s.retire c t fun k => k.setReg rd (s.pc c + 4))) ∧
    (t.toNat % 4 ≠ 0 → exec (.jalr c rd rs1 imm) s =
      .next { s with dev := (s.dev.fetched c).coreFault c (.align t false) })

/-- R105: the ACC group. R106: the AMOV group. R107: the QOPS group. -/
def Obligations.AccumulatorInstructions : Prop :=
  (∀ (s : State) (c : CoreId) (ad : AReg) (rs1 rs2 : WReg), s.dev.ready c .all →
    let a := (s.dev.core c).reg rs1
    let b := (s.dev.core c).reg rs2
    let old := ((s.dev.core c).acc[ad]).toInt
    let p := a.toInt * b.toInt
    let h : Int := 2 ^ 32 * ((a.extractLsb' 0 16).toInt * (b.extractLsb' 0 16).toInt +
      (a.extractLsb' 16 16).toInt * (b.extractLsb' 16 16).toInt)
    exec (.mac c ad rs1 rs2) s = .next (s.accumulates c ad (old + p)) ∧
    exec (.msu c ad rs1 rs2) s = .next (s.accumulates c ad (old - p)) ∧
    exec (.mpy c ad rs1 rs2) s = .next (s.setsAcc c ad (BitVec.ofInt 72 p)) ∧
    exec (.mpyn c ad rs1 rs2) s = .next (s.setsAcc c ad (BitVec.ofInt 72 (-p))) ∧
    exec (.mac16 c ad rs1 rs2) s = .next (s.accumulates c ad (old + h)) ∧
    exec (.msu16 c ad rs1 rs2) s = .next (s.accumulates c ad (old - h))) ∧
  (∀ (s : State) (c : CoreId) (w : WReg) (a b : AReg) (n : BitVec 6) (mode : BitVec 2), s.dev.ready c .all →
    let x := (s.dev.core c).acc[a]
    let y := (s.dev.core c).acc[b]
    let v := (s.dev.core c).reg w
    (∀ m, roundMode mode = some m →
      exec (.ext c w a n mode) s = .next (s.writesSat c w (roundBits m x.toInt n.toNat))) ∧
    (mode = 3 → exec (.ext c w a n mode) s = .next { s with dev := (s.dev.fetched c).coreFault c .undef }) ∧
    exec (.aclr c a) s = .next (s.setsAcc c a 0) ∧
    exec (.aset c w a) s = .next (s.setsAcc c a (BitVec.ofInt 72 (v.toInt * 2 ^ 31))) ∧
    exec (.aadd c a b) s = .next (s.accumulates c a (x.toInt + y.toInt)) ∧
    exec (.asub c a b) s = .next (s.accumulates c a (x.toInt - y.toInt)) ∧
    (n.toNat < 16 → exec (.ashl c a n) s = .next (s.accumulates c a (x.toInt * 2 ^ n.toNat))) ∧
    (16 ≤ n.toNat → exec (.ashl c a n) s = .next { s with dev := (s.dev.fetched c).coreFault c .undef }) ∧
    exec (.ashr c a n) s = .next (s.setsAcc c a (BitVec.ofInt 72 (x.toInt / 2 ^ n.toNat))) ∧
    exec (.ardl c w a) s = .next (s.writes c w (x.extractLsb' 0 32)) ∧
    exec (.ardm c w a) s = .next (s.writes c w (x.extractLsb' 32 32)) ∧
    exec (.ardh c w a) s = .next (s.writes c w ((x.extractLsb' 64 8).signExtend 32)) ∧
    exec (.awrl c w a) s = .next (s.setsAcc c a (x.extractLsb' 64 8 ++ x.extractLsb' 32 32 ++ v)) ∧
    exec (.awrm c w a) s = .next (s.setsAcc c a (x.extractLsb' 64 8 ++ v ++ x.extractLsb' 0 32)) ∧
    exec (.awrh c w a) s = .next (s.setsAcc c a (v.extractLsb' 0 8 ++ x.extractLsb' 0 64))) ∧
  (∀ (s : State) (c : CoreId) (rd rs1 rs2 : WReg), s.dev.ready c .all →
    let a := ((s.dev.core c).reg rs1).toInt
    let b := ((s.dev.core c).reg rs2).toInt
    let n := (((s.dev.core c).reg rs2).extractLsb' 0 5).toNat
    exec (.qadd c rd rs1 rs2) s = .next (s.writesSat c rd (a + b)) ∧
    exec (.qsub c rd rs1 rs2) s = .next (s.writesSat c rd (a - b)) ∧
    exec (.qmul c rd rs1 rs2) s = .next (s.writesSat c rd (roundBits .halfUp (a * b) 31)) ∧
    exec (.qmulf c rd rs1 rs2) s = .next (s.writesSat c rd (roundBits .floor (a * b) 31)) ∧
    exec (.qneg c rd rs1) s = .next (s.writesSat c rd (-a)) ∧
    exec (.qabs c rd rs1) s = .next (s.writesSat c rd |a|) ∧
    exec (.qshl c rd rs1 rs2) s = .next (s.writesSat c rd (a * 2 ^ n)) ∧
    exec (.qshr c rd rs1 rs2) s = .next (s.writes c rd (BitVec.ofInt 32 (roundBits .halfUp a n))))

/-- R115: the VALU group, lane by lane. R116: the VMAC group, accumulator by accumulator. R117: the VMOV group. -/
def Obligations.VectorInstructions : Prop :=
  (∀ (s : State) (vd vs1 vs2 : QReg) (n : BitVec 5), s.dev.ready .s .stream →
    let a := fun i => lane ((s.dev.core .s).q[vs1]) i
    let b := fun i => lane ((s.dev.core .s).q[vs2]) i
    exec (.vadd .s vd vs1 vs2) s = .next (s.setsLanes .s vd fun i => a i + b i) ∧
    exec (.vsub .s vd vs1 vs2) s = .next (s.setsLanes .s vd fun i => a i - b i) ∧
    exec (.vqadd .s vd vs1 vs2) s = .next (s.setsLanesSat .s vd fun i => (a i).toInt + (b i).toInt) ∧
    exec (.vqsub .s vd vs1 vs2) s = .next (s.setsLanesSat .s vd fun i => (a i).toInt - (b i).toInt) ∧
    exec (.vqmul .s vd vs1 vs2) s =
      .next (s.setsLanesSat .s vd fun i => roundBits .halfUp ((a i).toInt * (b i).toInt) 31) ∧
    exec (.vmin .s vd vs1 vs2) s = .next (s.setsLanes .s vd fun i => if (a i).toInt < (b i).toInt then a i else b i) ∧
    exec (.vmax .s vd vs1 vs2) s = .next (s.setsLanes .s vd fun i => if (a i).toInt < (b i).toInt then b i else a i) ∧
    exec (.vqabs .s vd vs1) s = .next (s.setsLanesSat .s vd fun i => |(a i).toInt|) ∧
    exec (.vqneg .s vd vs1) s = .next (s.setsLanesSat .s vd fun i => -(a i).toInt) ∧
    exec (.vand .s vd vs1 vs2) s = .next (s.setsLanes .s vd fun i => a i &&& b i) ∧
    exec (.vor .s vd vs1 vs2) s = .next (s.setsLanes .s vd fun i => a i ||| b i) ∧
    exec (.vxor .s vd vs1 vs2) s = .next (s.setsLanes .s vd fun i => a i ^^^ b i) ∧
    exec (.vsra .s vd vs1 n) s = .next (s.setsLanes .s vd fun i => (a i).sshiftRight n.toNat) ∧
    exec (.vqshl .s vd vs1 n) s = .next (s.setsLanesSat .s vd fun i => (a i).toInt * 2 ^ n.toNat)) ∧
  (∀ (s : State) (qa qb : QReg) (w : WReg) (n : BitVec 6) (mode : BitVec 2), s.dev.ready .s .stream →
    let k := s.dev.core .s
    let old := fun (i : Fin 4) => (k.acc[i]).toInt
    let p := fun (i : Fin 4) => (lane k.q[qa] i.val).toInt * (lane k.q[qb] i.val).toInt
    let pw := fun (i : Fin 4) => (lane k.q[qa] i.val).toInt * (k.reg w).toInt
    let all := fun (f : Fin 4 → Int) => s.retire .s (s.pc .s + 4) fun k =>
      ({ k with acc := .ofFn fun i => sat72 (f i) } : Core).sticky ((List.finRange 4).any fun i => clamps 72 (f i))
    exec (.vmaca .s qa qb) s = .next (all fun i => old i + p i) ∧
    exec (.vmsua .s qa qb) s = .next (all fun i => old i - p i) ∧
    exec (.vmpya .s qa qb) s = .next (all p) ∧
    exec (.vmacw .s qa w) s = .next (all fun i => old i + pw i) ∧
    exec (.vmpyw .s qa w) s = .next (all pw) ∧
    (∀ m, roundMode mode = some m → exec (.vext .s qa n mode) s =
      .next (s.setsLanesSat .s qa fun i => roundBits m (k.acc.toList.getD i 0).toInt n.toNat)) ∧
    exec (.vaclr .s) s = .next (s.retire .s (s.pc .s + 4) fun k => { k with acc := .replicate 4 0 }) ∧
    exec (.vaset .s qa) s = .next (s.retire .s (s.pc .s + 4) fun k =>
      { k with acc := .ofFn fun i => BitVec.ofInt 72 ((lane k.q[qa] i.val).toInt * 2 ^ 31) })) ∧
  (∀ (s : State) (q q2 : QReg) (w : WReg) (i : Fin 4), s.dev.ready .s .stream →
    let k := s.dev.core .s
    exec (.vsplat .s q w) s = .next (s.setsLanes .s q fun _ => k.reg w) ∧
    exec (.vget .s q w i) s = .next (s.writes .s w (lane k.q[q] i.val)) ∧
    exec (.vput .s q w i) s = .next (s.setsLanes .s q fun j => if j = i.val then k.reg w else lane k.q[q] j) ∧
    exec (.vmovq .s q q2) s = .next (s.setsLanes .s q fun j => lane k.q[q2] j) ∧
    exec (.vrot .s q q2 i) s = .next (s.setsLanes .s q fun j => lane k.q[q2] ((j + i.val) % 4)))

/-- R93: on a core that the class of an instruction shuts out, the instruction has none of its effect: a vector
instruction and BLKEND are undefined on C0 and C1, the instructions of C0 and C1 at PRIV raise PRIV elsewhere. -/
def Obligations.ClassesRefuse : Prop :=
  ∀ (s : State) (c : CoreId) (vd vs1 vs2 : QReg) (rd rs : WReg) (n : Fin 32), s.dev.ready c .all →
    let undef := Host.Outcome.next { s with dev := (s.dev.fetched c).coreFault c .undef }
    let priv := Host.Outcome.next { s with dev := (s.dev.fetched c).coreFault c .priv }
    (c ≠ .s → exec (.vadd c vd vs1 vs2) s = undef ∧ exec (.vmaca c vd vs1) s = undef ∧ exec (.vmovq c vd vs1) s = undef ∧
      exec (.blkend c) s = undef) ∧
    (c = .s ∨ s.dev.atPriv c = false → exec (.wait c) s = priv ∧ exec (.eret c) s = priv ∧ exec (.take c rd) s = priv ∧
      exec (.done c rd rs) s = priv ∧ exec (.sembrk c rd n rs) s = priv)

/-- R46, R48, R92, R108: TRAP and a word that is no instruction take the exception of C0 and C1: the address (for TRAP
that of the next instruction), the cause and a zero ST_EVAL are recorded, IE and PRIV are saved, the core goes to PRIV
with EXL = 1 and IE = 0, and on at ST_VECBASE + 64 × the code. R67: on S the same instructions are stream faults, TRAP
and UNDEF: S stops in FAULT at the instruction, which ST_SFPC names, and the count of faults rises. R50: an exception
that comes while ST_STATUS.EXL = 1 is recorded and halts the core: ST_STATUS keeps its value, and PWR_FAULT names the
core. R46, R49, R137: an event that is due is taken before the next instruction, with ST_EPC the address of that
instruction and the cause EVENT. -/
def Obligations.ExceptionsAndEvents : Prop :=
  (∀ (s : State) (c : CoreId) (code : BitVec 20), c ≠ .s → s.dev.ready c .all → s.dev.cget c F.ST_STATUS_EXL = 0 →
    s.pc c % 4 = 0 →
    let took := fun (n : Nat) (epc : Word) (e : Device) =>
      e.cget c F.ST_EPC_EPC * 4 = epc.toNat ∧ e.cget c F.ST_CAUSE_CODE = n ∧ e.cget c F.ST_CAUSE_STORE = 0 ∧
      e.cget c F.ST_EVAL_EVAL = 0 ∧ e.cget c F.ST_STATUS_PIE = s.dev.cget c F.ST_STATUS_IE ∧
      e.cget c F.ST_STATUS_PPRIV = s.dev.cget c F.ST_STATUS_PRIV ∧ e.cget c F.ST_STATUS_IE = 0 ∧
      e.cget c F.ST_STATUS_PRIV = 1 ∧ e.cget c F.ST_STATUS_EXL = 1 ∧
      (e.core c).pc = BitVec.ofNat 32 (s.dev.cget c F.ST_VECBASE_BASE * 1024 + 64 * n) ∧
      (e.core c).w = (s.dev.core c).w ∧ (e.core c).acc = (s.dev.core c).acc ∧ (e.core c).buf = (s.dev.core c).buf
    Completes (.trap c code) s (took 10 (s.pc c + 4)) ∧ Completes (.undefInstruction c) s (took 1 (s.pc c))) ∧
  (∀ (s : State) (code : BitVec 20), s.dev.ready .s .all →
    let took := fun (n : Nat) (e : Device) =>
      e.cget .s F.ST_SFLT_CAUSE = n ∧ e.cget .s F.ST_SFPC_PC = (s.pc .s).toNat ∧ e.cget .s F.ST_SFADDR_ADDR = 0 ∧
      e.cget .s F.ST_FLTCNT_COUNT = min (s.dev.cget .s F.ST_FLTCNT_COUNT + 1) 255 ∧
      e.cget .s F.ST_SSTATE_STATE = 3 ∧ (e.core .s).pc = s.pc .s ∧ e.stream.muted = true
    Completes (.trap .s code) s (took 7) ∧ Completes (.undefInstruction .s) s (took 1)) ∧
  (∀ (s : State) (c : CoreId), c ≠ .s → s.dev.ready c .all → s.dev.cget c F.ST_STATUS_EXL = 1 →
    s.pc c % 4 = 0 → Completes (.undefInstruction c) s fun e =>
      e.cget c F.ST_EPC_EPC * 4 = (s.pc c).toNat ∧ e.cget c F.ST_CAUSE_CODE = 1 ∧ e.cget c F.ST_EVAL_EVAL = 0 ∧
      (e.core c).st.word R.ST_STATUS = (s.dev.core c).st.word R.ST_STATUS ∧ (e.core c).run = .halted ∧
      (e.word R.PWR_FAULT).getLsbD (4 + c.num) = true) ∧
  (∀ (s : State) (c : CoreId), c ≠ .s → s.dev.executing c = true → s.dev.eventDue c = true →
    s.dev.cget c F.ST_STATUS_EXL = 0 → s.pc c % 4 = 0 →
    Completes (.eventException c) s fun e =>
      e.cget c F.ST_EPC_EPC * 4 = (s.pc c).toNat ∧ e.cget c F.ST_CAUSE_CODE = 0x0B ∧ e.cget c F.ST_EVAL_EVAL = 0 ∧
      e.cget c F.ST_STATUS_IE = 0 ∧ e.cget c F.ST_STATUS_EXL = 1 ∧ e.cget c F.ST_STATUS_PRIV = 1 ∧
      (e.core c).pc = BitVec.ofNat 32 (s.dev.cget c F.ST_VECBASE_BASE * 1024 + 704))

/-- R47, R108, R109: ERET, FENCE with nothing in the store buffer, WAIT with and without an event, and the wake. -/
def Obligations.SystemInstructions : Prop :=
  ∀ (s : State) (c : CoreId),
    (s.dev.ready c .control → Completes (.eret c) s fun e =>
      (e.core c).pc = BitVec.ofNat 32 (s.dev.cget c F.ST_EPC_EPC * 4) ∧
      e.cget c F.ST_STATUS_IE = s.dev.cget c F.ST_STATUS_PIE ∧
      e.cget c F.ST_STATUS_PRIV = s.dev.cget c F.ST_STATUS_PPRIV ∧ e.cget c F.ST_STATUS_EXL = 0 ∧
      (e.core c).w = (s.dev.core c).w) ∧
    (s.dev.ready c .all → (s.dev.fetched c).executing c = true → (s.dev.core c).buf = [] →
      exec (.fence c) s = .next (s.retire c (s.pc c + 4) id)) ∧
    (s.dev.ready c .control → (s.dev.fetched c).eventLine c = false →
      exec (.wait c) s = .next (s.retire c (s.pc c + 4) fun k => { k with run := .sleeping })) ∧
    (s.dev.ready c .control → (s.dev.fetched c).eventLine c = true →
      exec (.wait c) s = .next (s.retire c (s.pc c + 4) id)) ∧
    (s.dev.coreRuns = true → c ≠ .s → (s.dev.core c).run = .sleeping → s.dev.eventLine c = true →
      s.dev.cget c F.ST_STATUS_IE = 0 →
      exec (.waitWake c) s = .next { s with dev := s.dev.setCore c { s.dev.core c with run := .running } })

/-- R44, R110, R111: reads and writes of state registers. A level that may not use a register raises PRIV, an unlisted
number UNDEF. -/
def Obligations.StateRegisters : Prop :=
  ∀ (s : State) (c : CoreId) (w : WReg) (num : BitVec 12), s.dev.ready c .all →
    let v := (s.dev.core c).reg w
    (num = 0 → exec (.srd c w num) s = .next (s.writes c w (BitVec.ofNat 32 (0x100 + c.num)))) ∧
    (c ≠ .s → s.dev.atPriv c = true → num = 6 →
      exec (.srd c w num) s = .next (s.writes c w ((s.dev.core c).st.word R.ST_SCRATCH0)) ∧
      exec (.swr c w num) s = .next (s.retire c (s.pc c + 4) fun k => { k with st := k.st.put F.ST_SCRATCH0_VALUE v.toNat })) ∧
    (c ≠ .s → s.dev.atPriv c = true → num = 3 →
      exec (.swr c w num) s = .next (s.retire c (s.pc c + 4) fun k => { k with st := k.st.put F.ST_EPC_EPC (v.toNat / 4) })) ∧
    (c ≠ .s → s.dev.atPriv c = false → num ≠ 0 → num ≠ 8 → num ≠ 9 → num.toNat < 10 →
      exec (.srd c w num) s = .next { s with dev := (s.dev.fetched c).coreFault c .priv } ∧
      exec (.swr c w num) s = .next { s with dev := (s.dev.fetched c).coreFault c .priv }) ∧
    (0x2C ≤ num.toNat → exec (.srd c w num) s = .next { s with dev := (s.dev.fetched c).coreFault c .undef } ∧
      exec (.swr c w num) s = .next { s with dev := (s.dev.fetched c).coreFault c .undef }) ∧
    (c = .s → num = 1 → exec (.swr c w num) s = .next (s.retire c (s.pc c + 4) fun k =>
      if v.getLsbD 8 then { k with st := k.st.put F.ST_STATUS_SAT 0 } else k))

/-- R60: the semaphores. After reset all are free with GEN 0. SEMTAKE takes a free semaphore; SEMREL frees it for its
owner with the present GEN; SEMBRK at PRIV on C0 and C1 breaks it for the owner and GEN it names, counts GEN on and is
logged; otherwise none of them has an effect. Each writes the token of the values after the operation. SEMBRK at TASK
raises PRIV, on S it is a stream fault with cause PRIV. Where SEMTAKE operations meet in one cycle (R61), the
contender that has gone longest without winning a tie takes the semaphore, and only its token is DONE. -/
def Obligations.Semaphores : Prop :=
  (∀ n : Fin 32, State.reset.dev.get (F.SEM_n_OWNER n) = 0 ∧ State.reset.dev.get (F.SEM_n_GEN n) = 0) ∧
  ∀ (s : State) (c : CoreId) (rd rs : WReg) (n : Fin 32) (meets : BitVec 3),
    let own := s.dev.get (F.SEM_n_OWNER n)
    let gen := s.dev.get (F.SEM_n_GEN n)
    let v := (s.dev.core c).reg rs
    let meet := fun (x : CoreId) => x = c ∨ meets.getLsbD x.num = true
    let won := s.dev.semWon[n] = some c
    let token := fun (e : Device) (done : Bool) => rd ≠ 0 →
      (e.core c).reg rd = e.word (R.SEM_n n) ||| (if done then 0x80000000 else 0)
    let goesOn := fun (e : Device) => (e.core c).pc = s.pc c + 4
    (s.dev.ready c .all →
      Completes (.semtake c rd n 0) s (fun e => goesOn e ∧ e.get (F.SEM_n_GEN n) = gen ∧
        e.get (F.SEM_n_OWNER n) = (if own = 0 then c.owner else own) ∧ token e (decide (own = 0 ∨ won))) ∧
      (own = 0 → ∀ w, s.dev.semOrder[n].find? (fun x => decide (meet x)) = some w →
        Completes (.semtake c rd n meets) s fun e => goesOn e ∧ e.get (F.SEM_n_GEN n) = gen ∧
          e.get (F.SEM_n_OWNER n) = w.owner ∧ token e (decide (w = c)) ∧ (w ≠ c → e.semWon[n] = some w)) ∧
      (own ≠ 0 → Completes (.semtake c rd n meets) s fun e => goesOn e ∧ e.get (F.SEM_n_GEN n) = gen ∧
          e.get (F.SEM_n_OWNER n) = own ∧ token e (decide won)) ∧
      Completes (.semrel c rd n rs) s (fun e =>
        let done := own = c.owner ∧ gen = v.toNat % 65536
        goesOn e ∧ e.get (F.SEM_n_GEN n) = gen ∧ e.get (F.SEM_n_OWNER n) = (if done then 0 else own) ∧
          token e (decide done)) ∧
      (c ≠ .s → s.dev.atPriv c = false → Completes (.sembrk c rd n rs) s fun e =>
        e.cget c F.ST_CAUSE_CODE = CoreFault.priv.code ∧ e.regs.get (F.SEM_n_OWNER n) = own) ∧
      (c = .s → Completes (.sembrk c rd n rs) s fun e =>
        e.cget .s F.ST_SFLT_CAUSE = 2 ∧ e.cget .s F.ST_SSTATE_STATE = 3)) ∧
    (s.dev.ready c .control → Completes (.sembrk c rd n rs) s fun e =>
      let done := own ≠ 0 ∧ own = v.toNat / 65536 % 4 ∧ gen = v.toNat % 65536
      goesOn e ∧ e.get (F.SEM_n_GEN n) = (if done then (gen + 1) % 65536 else gen) ∧
        e.get (F.SEM_n_OWNER n) = (if done then 0 else own) ∧ token e (decide done) ∧
        (done → (s.dev.fetched c).logged e
          [s.dev.entry 132 1 n (leBytes 1 own ++ leBytes 2 gen ++ leBytes 1 c.num)]))

/-- R100, R49: a load whose address meets a cause takes it and writes nothing; a load that gets its word writes the
addressed part of it, extended as its row says; an uncorrectable error on the way is ECC_DATA. R2, R100: a load of C0
or C1 from a good word of core SRAM, with nothing in the store buffer, gives the bytes at its address, least
significant first. -/
def Obligations.Loads : Prop :=
  (∀ (s : State) (c : CoreId) (rd rs1 : WReg) (imm : BitVec 16) (u : Upset), s.dev.ready c .all →
    let d := s.dev.fetched c
    let a := (s.dev.core c).reg rs1 + imm.signExtend 32
    let row := fun (i : Instr) (size : Nat) (ext : Word → Word) =>
      (∀ f, d.accessCause c a size false = some f → exec i s = .next { s with dev := d.coreFault c f }) ∧
      (∀ w e, d.accessCause c a size false = none → d.loadWord c a.toNat u = (some w, e) → e.executing c = true →
        exec i s = .next { s with dev := (e.setReg c rd (ext (w >>> (8 * (a.toNat % 4))))).advance c }) ∧
      (∀ e, d.accessCause c a size false = none → d.loadWord c a.toNat u = (none, e) → e.executing c = true →
        exec i s = .next { s with dev := e.coreFault c (.eccData a false) })
    row (.lw c rd rs1 imm u) 4 id ∧
    row (.lh c rd rs1 imm u) 2 (fun w => (w.extractLsb' 0 16).signExtend 32) ∧
    row (.lhu c rd rs1 imm u) 2 (fun w => (w.extractLsb' 0 16).zeroExtend 32) ∧
    row (.lb c rd rs1 imm u) 1 (fun w => (w.extractLsb' 0 8).signExtend 32) ∧
    row (.lbu c rd rs1 imm u) 1 (fun w => (w.extractLsb' 0 8).zeroExtend 32)) ∧
  (∀ (s : State) (c : CoreId) (rd rs1 : WReg) (imm : BitVec 16), c ≠ .s → s.dev.ready c .all → s.dev.fetched c = s.dev →
    (s.dev.core c).buf = [] →
    let d := s.dev
    let w := (s.dev.core c).reg rs1 + imm.signExtend 32
    let a := w.toNat
    regionOf a = .coreSram → d.eccAt a = none → d.mpuAllows c a .read (d.atPriv c) = true →
    let b := fun (i : Nat) => (d.byte (a + i)).toNat
    (a % 4 = 0 → exec (.lw c rd rs1 imm .none) s =
      .next (s.writes c rd (BitVec.ofNat 32 (b 0 + 2 ^ 8 * b 1 + 2 ^ 16 * b 2 + 2 ^ 24 * b 3)))) ∧
    (a % 2 = 0 →
      exec (.lh c rd rs1 imm .none) s = .next (s.writes c rd ((BitVec.ofNat 16 (b 0 + 2 ^ 8 * b 1)).signExtend 32)) ∧
      exec (.lhu c rd rs1 imm .none) s = .next (s.writes c rd (BitVec.ofNat 32 (b 0 + 2 ^ 8 * b 1)))) ∧
    exec (.lb c rd rs1 imm .none) s = .next (s.writes c rd ((d.byte a).signExtend 32)) ∧
    exec (.lbu c rd rs1 imm .none) s = .next (s.writes c rd (BitVec.ofNat 32 (b 0))))

/-- R101, R102: a permitted word store with room in the store buffer enters it and retires, and memory is untouched; a
halfword or byte store to core SRAM writes its bytes at issue and no other byte. R102: the oldest store of C0 or C1
completes at core SRAM: its four bytes are written, no other, and its entry is free. -/
def Obligations.Stores : Prop :=
  (∀ (s : State) (c : CoreId) (rs2 rs1 : WReg) (imm : BitVec 16), s.dev.ready c .all → s.dev.fetched c = s.dev →
    let d := s.dev
    let w := (s.dev.core c).reg rs1 + imm.signExtend 32
    let a := w.toNat
    let v := (s.dev.core c).reg rs2
    (d.accessCause c w 4 true = none → (d.core c).buf.length < 2 → exec (.sw c rs2 rs1 imm) s =
      .next (s.retire c (s.pc c + 4) fun k => { k with buf := k.buf ++ [⟨a, v, d.atPriv c⟩] })) ∧
    (∀ f, d.accessCause c w 4 true = some f → exec (.sw c rs2 rs1 imm) s = .next { s with dev := d.coreFault c f }) ∧
    (c ≠ .s → (d.core c).buf = [] → regionOf a = .coreSram → d.eccAt a = none →
      let stores := fun (n : Nat) (e : Device) =>
        (∀ x, e.byte x = if a ≤ x ∧ x < a + n then BitVec.ofNat 8 (v.toNat / 2 ^ (8 * (x - a))) else d.byte x) ∧
        e.core c = { d.core c with pc := s.pc c + 4 } ∧ e.regs = d.regs
      (d.accessCause c w 2 true = none → Completes (.sh c rs2 rs1 imm) s (stores 2)) ∧
      (d.accessCause c w 1 true = none → Completes (.sb c rs2 rs1 imm) s (stores 1)))) ∧
  (∀ (s : State) (c : CoreId) (e : StoreEntry) (t : List StoreEntry), c ≠ .s → s.dev.coreRuns = true →
    (s.dev.core c).buf = e :: t → regionOf e.addr = .coreSram → e.addr % 4 = 0 →
    Completes (.storeComplete c) s fun d =>
      (∀ x, d.byte x = if e.addr ≤ x ∧ x < e.addr + 4 then BitVec.ofNat 8 (e.data.toNat / 2 ^ (8 * (x - e.addr)))
        else s.dev.byte x) ∧
      d.core c = { s.dev.core c with buf := t } ∧ d.regs = s.dev.regs ∧ d.eccAt e.addr = none)

/-- R114, R118: the vector accesses of S to good words of stream SRAM outside the coefficient window, with nothing in the
store buffer: a load fills the four lanes; a store leaves the last two words in the buffer and has written the first
two. -/
def Obligations.VectorMemory : Prop :=
  ∀ (s : State) (q : QReg) (rs1 rs2 : WReg) (imm : BitVec 16), s.dev.ready .s .stream → s.dev.fetched .s = s.dev →
    (s.dev.core .s).buf = [] →
    let d := s.dev
    let a := (d.core .s).reg rs1 + imm.signExtend 32
    let r := (d.core .s).reg rs1
    let st := (d.core .s).reg rs2
    let plain := fun (x : Word) => x.toNat % 4 = 0 ∧ regionOf x.toNat = .streamLow ∧ d.windowAt x.toNat = none ∧
      d.eccAt x.toNat = none
    let none4 : Vector Upset 4 := .replicate 4 .none
    let stored := fun (f : Nat → Word) (e : Device) =>
      (e.core .s).pc = s.pc .s + 4 ∧ (e.core .s).buf = [⟨(f 2).toNat, lane (d.core .s).q[q] 2, d.atPriv .s⟩,
        ⟨(f 3).toNat, lane (d.core .s).q[q] 3, d.atPriv .s⟩] ∧
      e.memWord (f 1).toNat = lane (d.core .s).q[q] 1 ∧
      ((f 0).toNat ≠ (f 1).toNat → e.memWord (f 0).toNat = lane (d.core .s).q[q] 0) ∧
      (∀ x, x / 4 ≠ (f 0).toNat / 4 → x / 4 ≠ (f 1).toNat / 4 → e.byte x = d.byte x)
    let byStep := fun (i : Nat) => r + BitVec.ofNat 32 i * st
    let inRow := fun (i : Nat) => a + BitVec.ofNat 32 (4 * i)
    (a.toNat % 16 = 0 → (∀ i < 4, plain (inRow i)) →
      exec (.vld .s q rs1 imm none4) s = .next (s.setsLanes .s q fun i => d.memWord (inRow i).toNat) ∧
      Completes (.vst .s q rs1 imm) s (stored inRow)) ∧
    ((∀ i < 4, plain (byStep i)) →
      exec (.vlds .s q rs1 rs2 none4) s = .next (s.setsLanes .s q fun i => d.memWord (byStep i).toNat) ∧
      Completes (.vsts .s q rs1 rs2) s (stored byStep))

/-- R113, R414, R416: TAKE dispatches the task that the Weir finds and names it in rd, and writes zero where it finds
none; DONE of the task the core holds frees the core and returns the task to IDLE, or to READY where a request waits.
R414, R415, R417 to R419: the Weir. A ready request makes an idle task READY with its own priority and nothing waited,
and one of a task that runs is kept; a withdrawal takes it back; a task that has waited too long is reported once. -/
def Obligations.TasksAndWeir : Prop :=
  (∀ (s : State) (c : CoreId) (rd rs : WReg), rd ≠ 0 → s.dev.ready c .control → s.dev.fetched c = s.dev →
    let d := s.dev
    let v := (d.core c).reg rs
    let n := v.toNat % 64
    (d.takeChoice c = none → exec (.take c rd) s = .next (s.writes c rd 0)) ∧
    (∀ t, d.takeChoice c = some t → t < 64 → Completes (.take c rd) s fun e =>
      e.taskState t = 2 ∧ e.get (F.WEIR_STAT_t_CORE t) = c.weir ∧ e.get (F.WEIR_COREc_TASK c.weir) = t ∧
      e.get (F.WEIR_COREc_HELD c.weir) = 1 ∧ e.get (F.WEIR_STAT_t_EPRIO t) = d.get (F.WEIR_DESC_t_PRIO t) ∧
      ((e.core c).reg rd).toNat = 2 ^ 31 + 2 ^ 30 * d.get (F.WEIR_DESC_t_MUST t) +
        2 ^ 24 * d.get (F.WEIR_STAT_t_EPRIO t) + t ∧ (e.core c).pc = s.pc c + 4) ∧
    (d.get (F.WEIR_COREc_HELD c.weir) = 0 ∨ d.get (F.WEIR_COREc_TASK c.weir) ≠ n →
      exec (.done c rd rs) s = .next (s.writes c rd 0)) ∧
    (d.get (F.WEIR_COREc_HELD c.weir) = 1 → d.get (F.WEIR_COREc_TASK c.weir) = n → Completes (.done c rd rs) s fun e =>
      e.get (F.WEIR_COREc_HELD c.weir) = 0 ∧ (e.core c).reg rd = 0x80000000 ∧
      e.taskState n = d.get (F.WEIR_STAT_t_REPEND n) ∧ e.get (F.WEIR_STAT_t_REPEND n) = 0 ∧ (e.core c).pc = s.pc c + 4)) ∧
  (∀ (s : State) (m : Master) (t : Fin 64) (v : Word), s.dev.coreRuns = true →
    let d := s.dev
    let i : Fin 2 := ⟨t.val / 32, by omega⟩
    let may := fun a => d.masterMay m a v = true
    let st := fun (e : Device) => e.get (F.WEIR_STAT_t_STATE t.val)
    let bit := v.toNat.testBit (t.val % 32)
    let asked := bit = true ∧ d.get (F.WEIR_DESC_t_AFF t.val) ≠ 0
    (may (R.WEIR_READYi i.val) → Completes (.weirReady m i v) s fun e =>
      (asked → st d = 0 → st e = 1 ∧ e.get (F.WEIR_STAT_t_EPRIO t.val) = d.get (F.WEIR_DESC_t_PRIO t.val) ∧
        e.get (F.WEIR_STAT_t_WAIT t.val) = 0) ∧
      (asked → st d = 2 → st e = 2 ∧ e.get (F.WEIR_STAT_t_REPEND t.val) = 1) ∧
      (¬ asked ∨ st d = 1 → e.word (R.WEIR_STAT_t t.val) = d.word (R.WEIR_STAT_t t.val)) ∧ e.mem = d.mem) ∧
    (may (R.WEIR_CANCELi i.val) → Completes (.weirCancel m i v) s fun e =>
      (bit = true → st d = 1 → st e = 0) ∧
      (bit = true → st d = 2 → st e = 2 ∧ e.get (F.WEIR_STAT_t_REPEND t.val) = 0) ∧
      (bit = false ∨ st d = 0 → e.word (R.WEIR_STAT_t t.val) = d.word (R.WEIR_STAT_t t.val)) ∧ e.mem = d.mem) ∧
    (st d = 1 → d.get F.WEIR_CFG_STARVE ≠ 0 → d.get F.WEIR_CFG_STARVE ≤ d.get (F.WEIR_STAT_t_WAIT t.val) →
      d.get (F.WEIR_STAT_t_STARVED t.val) = 0 → Completes (.taskStarved t) s fun e =>
        e.get (F.WEIR_STAT_t_STARVED t.val) = 1 ∧ (e.get (F.WEIR_STARVEDi_TASKS i.val)).testBit (t.val % 32) = true ∧
        d.fired e 69 ∧ st e = 1) ∧
    (d.get F.WEIR_CFG_STARVE = 0 ∨ d.get (F.WEIR_STAT_t_STARVED t.val) = 1 → exec (.taskStarved t) s = .next s))

/-- R64 to R66, R87: BLKEND in time completes the block; at the deadline a block without it overruns and is counted. R31,
R63, R170, R172: a block boundary outside a debug halt counts the block, restarts the block's cycles and moves ring
time to the boundary; a stopped S whose RUN is 1 starts its block at the entry. A boundary that does not come changes
nothing. -/
def Obligations.BlocksAndBoundaries : Prop :=
  (∀ (s : State),
    (s.dev.ready .s .stream → s.dev.fetched .s = s.dev → (s.dev.core .s).buf = [] →
      s.dev.cget .s F.ST_BLKCYC_CYCLE < 32704 → Completes (.blkend .s) s fun e =>
        e.cget .s F.ST_SSTATE_STATE = 2 ∧ e.cget .s F.ST_ENDCYC_LAST = s.dev.cget .s F.ST_BLKCYC_CYCLE ∧
        e.cget .s F.ST_OVRCNT_CONSEC = 0 ∧ e.stream.done = true ∧ (e.core .s).pc = s.pc .s + 4 ∧ e.mem = s.dev.mem) ∧
    (s.dev.executing .s = true → s.dev.cget .s F.ST_SCTL_OVR_LIMIT = 0 → Completes .streamOverrun s fun e =>
        e.cget .s F.ST_SSTATE_STATE = 2 ∧
        e.cget .s F.ST_OVRCNT_COUNT = min 65535 (s.dev.cget .s F.ST_OVRCNT_COUNT + 1) ∧
        e.cget .s F.ST_OVRCNT_CONSEC = min 255 (s.dev.cget .s F.ST_OVRCNT_CONSEC + 1) ∧ e.stream.overrun = true ∧
        (e.core .s).pc = s.pc .s) ∧
    (s.dev.executing .s = true → s.dev.cget .s F.ST_SCTL_OVR_LIMIT ≠ 0 →
      s.dev.cget .s F.ST_SCTL_OVR_LIMIT ≤ s.dev.cget .s F.ST_OVRCNT_CONSEC + 1 → Completes .streamOverrun s fun e =>
        e.cget .s F.ST_SSTATE_STATE = 3 ∧ e.cget .s F.ST_SFLT_CAUSE = 8)) ∧
  (∀ (s : State) (x : BoundaryIn),
    let d := s.dev
    (d.coreRuns = false ∨ d.stage.frozen = true → exec (.blockBoundary x) s = .next s) ∧
    (d.coreRuns = true → d.stage.frozen = false → Completes (.blockBoundary x) s fun e =>
      e.cget .s F.ST_BLKCNT_COUNT = (d.cget .s F.ST_BLKCNT_COUNT + 1) % 2 ^ 32 ∧ e.cget .s F.ST_BLKCYC_CYCLE = 0 ∧
      (d.limp = false → d.clk.step = none → e.clk.rt.sub = 0 ∧ e.clk.rt.frame.toNat % 16 = 0) ∧
      (d.cget .s F.ST_SCTL_RUN = 1 → d.cget .s F.ST_SSTATE_STATE = 0 →
        e.cget .s F.ST_SSTATE_STATE = 1 ∧ (e.core .s).pc = BitVec.ofNat 32 (d.cget .s F.ST_SENTRY_ENTRY * 4))))

/-- R58, R59: the scrubber reads a word of SRAM that may have been struck. A good word is left alone. One wrong bit is
corrected: the word keeps its data and is good again, ECC_CORR fires, and an entry holds the address and the position
of the bit. A word with more wrong bits stays in error, ECC_UNCORR fires, and an entry holds the address. -/
def Obligations.Scrubber : Prop :=
  ∀ (s : State) (a : Word) (u : Upset), s.dev.coreRuns = true → isSram a.toNat = true →
    let d := s.dev
    let word := a.toNat / 4 * 4
    let met := match u, d.eccAt a.toNat with
      | .bit n, none => some (.bit n)
      | .bit _, some _ => some .multi
      | .multi, _ => some .multi
      | _, x => x
    Completes (.scrubSlot a u) s fun e => e.mem = d.mem ∧
      (met = none → e = d) ∧
      (∀ n : Fin 39, met = some (.bit n) → e.eccAt a.toNat = none ∧ d.fired e 12 ∧
        d.logged e [d.entry 12 0 0 (leBytes 4 word ++ leBytes 1 n.val)]) ∧
      (met = some .multi → e.eccAt a.toNat = some .multi ∧ d.fired e 13 ∧
        d.logged e [d.entry 13 2 0 (leBytes 4 word)])

/-- R7, R12, R15, R17, R585, R622: a direct write of a peripheral register. A reserved value, and in PLAY a change of a
field that only a transaction may change, is rejected and reported; an address without a register is reported; a host
without the rights does nothing. Any other write of a register of the Reservoir sets its writable fields, clears the
W1C bits written 1, and changes no other register but the revision. -/
def Obligations.RegisterWrites : Prop :=
  ∀ (s : State) (m : Master) (addr v : Word),
    let d := s.dev
    let a := addr.toNat
    let priv := d.masterPriv m
    let rejected := fun (e : Device) =>
      d.noted e (if d.word R.SYS_REJECT_ADDR = 0 then [(R.SYS_REJECT_ADDR, addr)]
        else [(R.SYS_REJECT_CNT, putField (d.word R.SYS_REJECT_CNT) 0 8 (min (d.get F.SYS_REJECT_CNT_COUNT + 1) 255))]) ∧
      d.fired e 0 ∧ d.logged e [d.entry 0 0 0 (leBytes 4 a)]
    (d.masterMay m a v = false → exec (.registerWrite m addr v) s = .next s) ∧
    (d.coreRuns = true → d.masterMay m a v = true → a % 4 = 0 → 0x40000000 ≤ a → a < 0x40160000 →
      (regFind a = none → (a < 0x40030400 ∨ 0x40030800 ≤ a) → Completes (.registerWrite m addr v) s fun e =>
        d.noted e [] ∧ d.fired e 1) ∧
      (∀ r, regFind a = some r →
        (d.writeReserved m priv r a v = true → Completes (.registerWrite m addr v) s rejected) ∧
        (d.inPlay = true → d.guardedChange r a v = true → Completes (.registerWrite m addr v) s rejected) ∧
        (0x40050000 ≤ a → a < 0x40060000 → d.writeReserved m priv r a v = false →
          (d.guardedChange r a v = true → d.inPlay = false ∧ d.claimed a = false) →
          Completes (.registerWrite m addr v) s fun e =>
            e = { d with regs := e.regs, stamps := e.stamps } ∧
            (∀ i < 32, (e.word a).getLsbD i =
              if r.fields.any fun f => (f.acc == .rw || f.acc == .txn) && f.lsb ≤ i && i < f.lsb + f.width then v.getLsbD i
              else if r.fields.any fun f => f.acc == .w1c && f.lsb ≤ i && i < f.lsb + f.width then
                (d.word a).getLsbD i && !v.getLsbD i
              else (d.word a).getLsbD i) ∧
            (∀ b, b ≠ a → b ≠ R.TXN_REV → e.word b = d.word b) ∧
            e.get F.TXN_REV_REV =
              (if d.guardedChange r a v then min (d.get F.TXN_REV_REV + 1) (2 ^ F.TXN_REV_REV.width - 1)
               else d.get F.TXN_REV_REV))))

/-- R17, R174, R730: the reads that act, by a master with the right to read. A read of SYS_REJECT_ADDR answers with it and
clears it and the count, a read of CLK_RT_SUB answers with the sub-frame count and latches the frame count, and a read
of SEC_RNG answers with a fresh word. A host without the right reads nothing. -/
def Obligations.ActingReads : Prop :=
  ∀ (s : State) (m : Master), s.dev.coreRuns = true →
    let d := s.dev
    let t := d.clk.rt
    (d.masterReads m = true →
      Completes (.sysRejectAddrRead m) s (fun e =>
        ({ d with lastRead := d.word R.SYS_REJECT_ADDR } : Device).wrote e [(R.SYS_REJECT_ADDR, 0), (R.SYS_REJECT_CNT, 0)]) ∧
      Completes (.ringTimeRead m) s (fun e =>
        e = { d with regs := e.regs, lastRead := BitVec.ofNat 32 t.sub.toNat } ∧
        e.get F.CLK_RT_FL_FRAME + 2 ^ 32 * e.get F.CLK_RT_FH_FRAME = t.frame.toNat ∧
        ∀ a, a ≠ R.CLK_RT_FL → a ≠ R.CLK_RT_FH → a ≠ R.CLK_RT_SUB → e.word a = d.word a) ∧
      exec (.rngRead m) s =
        .next { s with dev := { d with lastRead := Config.freeWord d.freshN, freshN := d.freshN + 1 } }) ∧
    (d.masterReads m = false →
      exec (.sysRejectAddrRead m) s = .next s ∧ exec (.ringTimeRead m) s = .next s ∧ exec (.rngRead m) s = .next s)

/-- R68, R69, R87: the S state window, written by a master that may. A write of RUN = 1 to a faulted S is rejected, a
write of 0 stops it; RUN = 1 starts a stopped S and clears its cause; in the other states RUN and OVR_LIMIT are stored
(in DEBUG the model's choice, log entry 30); the entry is rejected while RUN is 1 and outside banks 0 to 5; the
counters clear. -/
def Obligations.StreamCoreControl : Prop :=
  ∀ (s : State) (m : Master) (v : Word), s.dev.coreRuns = true →
    let d := s.dev
    let may := fun a w => d.masterMay m a w = true
    let rejected := fun (e : Device) => e.sc = d.sc ∧ e.stream = d.stream ∧ e.mem = d.mem ∧ d.fired e 0
    let state := d.cget .s F.ST_SSTATE_STATE
    (may R.ST_SCTL v →
      (state = 3 → v.getLsbD 0 = true → Completes (.stSctlRunWrite m v) s rejected) ∧
      (state = 3 → v.getLsbD 0 = false → Completes (.stSctlRunWrite m v) s fun e =>
        e.cget .s F.ST_SSTATE_STATE = 0 ∧ e.cget .s F.ST_SCTL_RUN = 0 ∧ e.regs = d.regs ∧ e.mem = d.mem) ∧
      (state = 0 → v.getLsbD 0 = true → Completes (.stSctlRunWrite m v) s fun e =>
        e.cget .s F.ST_SSTATE_STATE = 0 ∧ e.cget .s F.ST_SCTL_RUN = 1 ∧ e.cget .s F.ST_SFLT_CAUSE = 0 ∧
        e.cget .s F.ST_OVRCNT_CONSEC = 0 ∧ e.cget .s F.ST_SCTL_OVR_LIMIT = v.toNat / 256 % 256 ∧
        e.stream.resume = true ∧ e.regs = d.regs ∧ e.mem = d.mem) ∧
      (state ≠ 0 → state ≠ 3 → Completes (.stSctlRunWrite m v) s fun e =>
        e.cget .s F.ST_SSTATE_STATE = state ∧ e.cget .s F.ST_SCTL_RUN = v.toNat % 2 ∧ (e.core .s).pc = (d.core .s).pc ∧
        e.stream = d.stream ∧ e.regs = d.regs ∧ e.mem = d.mem)) ∧
    (may R.ST_SENTRY v →
      (d.cget .s F.ST_SCTL_RUN = 1 ∨ v.toNat < 0x20000000 ∨ 0x20060000 ≤ v.toNat →
        Completes (.stSentryWrite m v) s rejected) ∧
      (d.cget .s F.ST_SCTL_RUN = 0 → 0x20000000 ≤ v.toNat → v.toNat < 0x20060000 →
        Completes (.stSentryWrite m v) s fun e =>
          e.cget .s F.ST_SENTRY_ENTRY = v.toNat / 4 ∧ (e.core .s).pc = (d.core .s).pc ∧ e.regs = d.regs ∧ e.mem = d.mem)) ∧
    (may R.ST_OVRCNT 0x80000000 → Completes (.stOvrcntClr m) s fun e =>
      e.cget .s F.ST_OVRCNT_COUNT = 0 ∧ e.cget .s F.ST_OVRCNT_CONSEC = d.cget .s F.ST_OVRCNT_CONSEC ∧ e.regs = d.regs) ∧
    (may R.ST_ENDMAX 0x80000000 → Completes (.stEndmaxClr m) s fun e =>
      e.cget .s F.ST_ENDMAX_MAX = 0 ∧ e.cget .s F.ST_ENDCYC_LAST = d.cget .s F.ST_ENDCYC_LAST ∧ e.regs = d.regs)

/-- R141 to R143: one hardware fire of a source that R131 lists and that no wake latch catches, by its state and its mode;
the other sources and every register but EVC_STAT and the log's own are left alone. The numbers that R131 leaves out
do nothing, and 124 to 127 fire by software only (R132). R133 to R136, R149: a delivery cycle. While no latches wait,
each pending source goes to the first target, in round-robin order from the one after its last, that accepts in this
cycle and for which it is eligible; a target that received one restarts its timer. While latches wait, the lowest is
taken first: its bit clears and its IDLE source has fired with the WAKE mark. -/
def Obligations.EventFiresAndDelivery : Prop :=
  (∀ (s : State) (n : Fin 128),
    let d := s.dev
    let x := d.source n
    let cnt := d.get (F.EVC_SRC_n_MODE n.val) = 1
    let full := fun (y : EvSource) (e : Device) =>
      (if x.count < 255 then e.source n = { y with count := x.count + 1 }
       else e.source n = { y with ovf := true } ∧ e.get F.EVC_STAT_OVFANY = 1)
    (isSource n.val = false ∨ 124 ≤ n.val → exec (.eventFire n) s = .next s) ∧
    (isSource n.val = true → n.val < 124 → d.latchArmed n.val = false → Completes (.eventFire n) s fun e =>
      d.noted e [] ∧ (∀ k, k ≠ n → e.source k = d.source k) ∧
      (x.st = .idle → e.source n = { x with st := .pending, count := 1, sw := false, wake := false }) ∧
      (x.st = .pending ∨ x.st = .delivered → ¬ cnt → e.source n = x) ∧
      (x.st = .pending ∨ x.st = .delivered → cnt → full x e) ∧
      (x.st = .inService → ¬ cnt → e.source n = { x with lost := true } ∧ e.get F.EVC_STAT_LOSTANY = 1) ∧
      (x.st = .inService → cnt → x.repend = false →
        e.source n = { x with repend := true, count := 1, sw := false, wake := false }) ∧
      (x.st = .inService → cnt → x.repend = true → full x e))) ∧
  (∀ (s : State), s.dev.coreRuns = true →
    let d := s.dev
    let ok := fun (n : Fin 128) (x : Fin 4) => d.mayAccept x && (d.get (F.EVC_SRC_n_TGT n.val)).testBit x.val &&
      d.flag (F.EVC_TGT_CTL_x_EN x.val) && d.get (F.EVC_TGT_CTL_x_THRESH x.val) < d.get (F.EVC_SRC_n_PRIO n.val)
    let goes := fun (n : Fin 128) =>
      if (d.source n).st = .pending then
        [(d.source n).target + 1, (d.source n).target + 2, (d.source n).target + 3, (d.source n).target].find? (ok n)
      else none
    (d.evc.taking = false → Completes .evcDelivery s fun e =>
      e = { d with evc := e.evc } ∧
      (∀ n, e.source n = match goes n with
        | some x => { d.source n with st := .delivered, target := x }
        | none => d.source n) ∧
      ∀ x : Fin 4, e.evc.timer[x] =
        if ∃ n, goes n = some x then d.get (F.EVC_TGT_MOD_x_INTERVAL x.val) != 0 else d.evc.timer[x]) ∧
    (d.evc.taking = true → ∀ k : Fin 9, (d.get F.EVC_WLATCH_LATCH).testBit k.val = true →
      (∀ j < k.val, (d.get F.EVC_WLATCH_LATCH).testBit j = false) → Completes .evcDelivery s fun e =>
        (e.get F.EVC_WLATCH_LATCH).testBit k.val = false ∧
        (∀ j : Fin 9, j ≠ k → (e.get F.EVC_WLATCH_LATCH).testBit j.val = (d.get F.EVC_WLATCH_LATCH).testBit j.val) ∧
        (∀ n : Fin 128, n.val = latchSource k.val → (d.source n).st = .idle →
          ((e.source n).st = .pending ∨ (e.source n).st = .delivered) ∧ (e.source n).wake = true ∧
          (d.evc.soft.testBit k.val = false → (e.source n).count = 1))))

/-- R136, R138, R139, R144 to R147, R151: what a master that may does to the event controller. A claim answers with the
highest-priority delivered source, or with 0xFF; a completion returns its source, a wrong one sets BADDONE; a software
fire of an IDLE source marks it; a withdrawal; a change of mode only while IDLE; the controls of the targets and of
delivery; the end of a moderation interval. -/
def Obligations.EventControl : Prop :=
  ∀ (s : State) (m : Master) (x : Fin 4) (n : Fin 128) (k : Fin 9) (v : Word), s.dev.coreRuns = true →
    let d := s.dev
    let may := fun a => d.masterMay m a v = true
    let here := fun (y : Fin 128) => (d.source y).st = .delivered ∧ (d.source y).target = x
    let prio := fun (y : Fin 128) => d.get (F.EVC_SRC_n_PRIO y.val)
    let others := fun (e : Device) => ∀ y, y ≠ n → e.source y = d.source y
    let bit := v.toNat.testBit (n.val % 32)
    exec (.moderationExpire x) s = .next { s with dev := { d with evc.timer := d.evc.timer.set x false } } ∧
    (d.masterReads m = true → (∀ y, ¬ here y) → exec (.evcClaim m x) s = .next { s with dev := { d with lastRead := 0xFF } }) ∧
    (d.masterReads m = true → here n → (∀ y, here y → prio y < prio n ∨ (prio y = prio n ∧ n ≤ y)) → Completes (.evcClaim m x) s fun e =>
      others e ∧ (e.source n).st = .inService ∧ (e.source n).target = x ∧ (e.source n).count = 0 ∧
      e.lastRead.toNat % 256 = n.val ∧ ((d.source n).count < 256 → e.lastRead.toNat / 256 % 256 = (d.source n).count) ∧
      e.regs = d.regs) ∧
    (may (R.EVC_DONE_x x.val) → v.toNat % 256 = n.val →
      ((d.source n).st = .inService → (d.source n).target = x → Completes (.evcDone m x v) s fun e =>
        others e ∧ (e.source n).st = (if (d.source n).repend then .pending else .idle) ∧ (e.source n).repend = false) ∧
      ((d.source n).st ≠ .inService ∨ (d.source n).target ≠ x → Completes (.evcDone m x v) s fun e =>
        (∀ y, e.source y = d.source y) ∧ e.get F.EVC_STAT_BADDONE = 1)) ∧
    (may (R.EVC_PSETi (n.val / 32)) → isSource n.val = true → d.evc.taking = false → (d.source n).st = .idle →
      Completes (.evcPset m ⟨n.val / 32, by omega⟩ v) s fun e =>
        e.source n = if bit then { d.source n with st := .pending, count := 1, sw := true, wake := false } else d.source n) ∧
    (may (R.EVC_PCLRi (n.val / 32)) → Completes (.evcPclr m ⟨n.val / 32, by omega⟩ v) s fun e =>
        (bit = false → e.source n = d.source n) ∧
        (bit = true → (d.source n).st ≠ .inService → (e.source n).st = .idle) ∧
        (bit = true → (d.source n).st = .inService → (e.source n).st = .inService ∧ (e.source n).repend = false)) ∧
    (may (R.EVC_SRC_n n.val) → isSource n.val = true →
      ((d.source n).st ≠ .idle → (v.getLsbD 8).toNat ≠ d.get (F.EVC_SRC_n_MODE n.val) →
        Completes (.evcSrcWrite m n v) s fun e => e.word (R.EVC_SRC_n n.val) = d.word (R.EVC_SRC_n n.val) ∧
          d.fired e 0) ∧
      ((d.source n).st = .idle ∨ (v.getLsbD 8).toNat = d.get (F.EVC_SRC_n_MODE n.val) →
        Completes (.evcSrcWrite m n v) s fun e =>
          e.get (F.EVC_SRC_n_TGT n.val) = v.toNat % 16 ∧ e.get (F.EVC_SRC_n_PRIO n.val) = v.toNat / 16 % 8 ∧
          e.get (F.EVC_SRC_n_MODE n.val) = (v.getLsbD 8).toNat ∧
          (∀ a, a ≠ R.EVC_SRC_n n.val → e.word a = d.word a) ∧ e.mem = d.mem)) ∧
    (may (R.EVC_TGT_CTL_x x.val) → Completes (.evcTgtCtlWrite m x v) s fun e =>
      e.get (F.EVC_TGT_CTL_x_EN x.val) = v.toNat % 2 ∧ e.get (F.EVC_TGT_CTL_x_THRESH x.val) = v.toNat / 2 % 8 ∧
      (∀ a, a ≠ R.EVC_TGT_CTL_x x.val → e.word a = d.word a) ∧
      (v.toNat % 2 = 0 → here n → (e.source n).st = .pending)) ∧
    (may (R.EVC_TGT_MOD_x x.val) → Completes (.evcTgtModWrite m x v) s fun e =>
      e.get (F.EVC_TGT_MOD_x_INTERVAL x.val) = v.toNat % 65536 ∧
      e.evc.timer[x] = (d.evc.timer[x] && v.toNat % 65536 != 0) ∧ e.evc.src = d.evc.src) ∧
    (may R.EVC_CTL → Completes (.evcCtlGenWrite m v) s fun e =>
      e.get F.EVC_CTL_GEN = v.toNat % 2 ∧ ∀ a, a ≠ R.EVC_CTL → e.word a = d.word a)

/-- R175, R176, R178 to R180, R183, R184, R191: the end of a gate. The deviation of a source that was present is written
and judged against its window, 10 ppm tighter for the reference held; in TRACK the trim follows INPUT; out of
tolerance it goes to HOLDOVER and its dwell counts down, in tolerance again it is slewed to, at most 20 ppm per second
and to TRACK within 0.1 ppm; a ring slave moves at most 1000 ppm per second in ACQUIRE, and goes to RING_HOLD and
back. -/
def Obligations.GateEnds : Prop :=
  ∀ (s : State) (ring inp : Option Int) (follow : Int) (v : Int), s.dev.linkRuns = true →
    s.dev.flag F.CLK_STAT_XTAL_OK = true → -2 ^ 15 ≤ v → v < 2 ^ 15 →
    let d := s.dev
    let sel := d.get F.CLK_STAT_SEL
    let mode := d.get F.CLK_STAT_MODE
    let win : Int := d.get F.CLK_MON_CFG_WIN
    let good := fun (src : Nat) => |v| ≤ (if sel = src ∧ (mode = 2 ∨ mode = 4) then win - 10 else win) * 10
    let goal := max (-4294967) (min 4294967 follow)
    let free := d.clk.ringSlave = false ∧ d.limp = false ∧ d.clk.cfgChanged = false ∧ sel = 2 ∧ d.inputPresent = true
    (d.ringPresent = true → Completes (.gateEnd (some v) inp follow) s fun e =>
      e.geti F.CLK_DEV_RING_DEV = v ∧ e.get F.CLK_DEV_RING_VALID = 1 ∧
      (e.get F.CLK_STAT_RING_AV = 1 ↔ good 1) ∧ e.mem = d.mem) ∧
    (d.ringPresent = false → Completes (.gateEnd ring inp follow) s fun e =>
      e.get F.CLK_DEV_RING_VALID = 0 ∧ e.get F.CLK_STAT_RING_AV = 0) ∧
    (d.inputPresent = true → Completes (.gateEnd ring (some v) follow) s fun e =>
      e.geti F.CLK_DEV_IN_DEV = v ∧ e.get F.CLK_DEV_IN_VALID = 1 ∧ (e.get F.CLK_STAT_IN_AV = 1 ↔ good 2)) ∧
    (free → mode = 1 → good 2 → Completes (.gateEnd ring (some v) follow) s fun e =>
      e.get F.CLK_STAT_MODE = 1 ∧ e.geti F.CLK_TRIM_TRIM = max (-4294967) (min 4294967 follow)) ∧
    (free → mode = 1 → ¬ good 2 → Completes (.gateEnd ring (some v) follow) s fun e =>
      e.get F.CLK_STAT_MODE = 2 ∧ e.get F.CLK_STAT_DWELL_LEFT = d.get F.CLK_MON_CFG_DWELL ∧
      e.get F.CLK_EVT_TOL = 1 ∧ e.geti F.CLK_HOLD_TRIM = e.geti F.CLK_TRIM_TRIM ∧ d.fired e 7) ∧
    (free → mode = 2 → good 2 → Completes (.gateEnd ring (some v) follow) s fun e =>
      e.get F.CLK_STAT_MODE = 3 ∧ e.get F.CLK_STAT_DWELL_LEFT = 0 ∧ e.get F.CLK_STAT_SEL = 2) ∧
    (free → mode = 2 → ¬ good 2 → Completes (.gateEnd ring (some v) follow) s fun e =>
      e.get F.CLK_STAT_MODE = 2 ∧ e.get F.CLK_STAT_DWELL_LEFT = d.get F.CLK_STAT_DWELL_LEFT - 1 ∧
      e.geti F.CLK_TRIM_TRIM = d.geti F.CLK_TRIM_TRIM) ∧
    (free → mode = 3 → good 2 → |d.geti F.CLK_TRIM_TRIM| ≤ 4294967 → Completes (.gateEnd ring (some v) follow) s fun e =>
      e.geti F.CLK_TRIM_TRIM = max (d.geti F.CLK_TRIM_TRIM - 8589) (min (d.geti F.CLK_TRIM_TRIM + 8589) goal) ∧
      e.get F.CLK_STAT_MODE = if |e.geti F.CLK_TRIM_TRIM - goal| < 430 then 1 else 3) ∧
    (d.clk.ringSlave = true → d.limp = false → d.ringPresent = true → mode = 5 → sel = 1 → good 1 →
      |d.geti F.CLK_TRIM_TRIM| ≤ 4294967 → Completes (.gateEnd (some v) inp follow) s fun e =>
        e.get F.CLK_STAT_MODE = 5 ∧
        e.geti F.CLK_TRIM_TRIM = max (d.geti F.CLK_TRIM_TRIM - 429496) (min (d.geti F.CLK_TRIM_TRIM + 429496) goal)) ∧
    (d.clk.ringSlave = true → d.limp = false → d.ringPresent = true → mode = 1 → sel = 1 → ¬ good 1 →
      Completes (.gateEnd (some v) inp follow) s fun e => e.get F.CLK_STAT_MODE = 4 ∧ e.get F.CLK_STAT_SEL = 1) ∧
    (d.clk.ringSlave = true → d.limp = false → d.ringPresent = true → mode = 4 → good 1 →
      Completes (.gateEnd (some v) inp follow) s fun e => e.get F.CLK_STAT_MODE = 1)

/-- R177 to R181: the selection of the reference. A reference that is absent leads to HOLDOVER with its dwell; at the end
of the dwell the first listed available source other than the one held is slewed to, XTAL if there is none; a higher
entry that has been available long enough is returned to; a slew that comes within 0.1 ppm of its target between gate
ends, at 20 ppm per second, ends in TRACK, and on XTAL at a trim of 0. -/
def Obligations.ReferenceSelection : Prop :=
  ∀ (s : State) (target : Int) (ms : Nat), s.dev.dpllRuns = true → s.dev.clk.ringSlave = false →
    let d := s.dev
    let sel := d.get F.CLK_STAT_SEL
    let mode := d.get F.CLK_STAT_MODE
    let list := [d.get F.CLK_REF_CFG_P0, d.get F.CLK_REF_CFG_P1, d.get F.CLK_REF_CFG_P2]
    let up := fun (x : Nat) => if x = 0 then d.get F.CLK_STAT_XTAL_OK = 1 else d.get F.CLK_STAT_IN_AV = 1
    let goal := if sel = 0 then 0 else max (-4294967) (min 4294967 target)
    let t := d.geti F.CLK_TRIM_TRIM
    let most : Int := 85899 * min ms 100 / 1000
    let reached := max (t - most) (min (t + most) goal)
    let switched := fun (x : Nat) (e : Device) =>
      e.get F.CLK_STAT_SEL = x ∧ e.get F.CLK_STAT_MODE = 3 ∧ e.get F.CLK_STAT_DWELL_LEFT = 0 ∧ e.get F.CLK_EVT_SWITCH = 1 ∧
      d.fired e 8 ∧ d.logged e [d.entry 8 1 sel (leBytes 1 x)] ∧ e.mem = d.mem
    (sel ≠ 0 → (if sel = 1 then d.ringPresent else d.inputPresent) = false → mode ≠ 2 → Completes .refSourceAbsent s fun e =>
      e.get F.CLK_STAT_MODE = 2 ∧ e.get F.CLK_STAT_SEL = sel ∧
      e.get F.CLK_STAT_DWELL_LEFT = d.get F.CLK_MON_CFG_DWELL ∧ e.get F.CLK_EVT_TOL = 1 ∧ d.fired e 7 ∧ e.mem = d.mem) ∧
    (sel = 0 → exec .refSourceAbsent s = .next s) ∧
    (mode = 2 → d.get F.CLK_STAT_DWELL_LEFT = 0 →
      (∀ x, (list.find? fun y => y != 1 && y != sel && decide (up y)) = some x →
        Completes .dwellExpire s (switched x)) ∧
      ((list.find? fun y => y != 1 && y != sel && decide (up y)) = none → Completes .dwellExpire s (switched 0))) ∧
    (mode ≠ 2 ∨ d.get F.CLK_STAT_DWELL_LEFT ≠ 0 → exec .dwellExpire s = .next s) ∧
    (d.get F.CLK_REF_CFG_REVERT = 1 → mode ≠ 0 → ∀ x, x = d.get F.CLK_REF_CFG_P0 → x ≠ sel →
      (x = 0 ∨ x = 2) → d.get F.CLK_MON_CFG_RETURN ≤ d.clk.availRun.toList.getD x 0 →
      Completes .refRevert s (switched x)) ∧
    (d.get F.CLK_REF_CFG_REVERT = 0 → exec .refRevert s = .next s) ∧
    (mode = 3 → |t| ≤ 4294967 → |reached - goal| < 430 → Completes (.slewComplete target ms) s fun e =>
      e.get F.CLK_STAT_MODE = 1 ∧ e.geti F.CLK_TRIM_TRIM = (if sel = 0 then 0 else reached) ∧ e = { d with regs := e.regs }) ∧
    (mode ≠ 3 ∨ 430 ≤ |reached - goal| → exec (.slewComplete target ms) s = .next s)

/-- R183 to R185: a node that TRN reports as a locked ring slave acquires the ring, tracks it once the phase is within 2
periods and steps its ring time; in RING_HOLD a phase beyond 4 periods steers the trim until it is within 2; ALIGN_OUT
is set beyond 8 periods and cleared within 8. R167, R188, R189, R195, R196, R198, R776: the analog loop and the AON
timer. The loop locks in the start-up. A loss of lock while LINK runs leads to limp, overrides a ring-time step that
was due, latches PLL_UNLOCK and fires 9; in limp the loop locks again, may be lost once more, and the domains return
to it; a crystal that does not come leads to limp. AON cycles count CLK_AON_CNT on; the one that brings it to
CLK_AON_CMP with EN = 1 fires 15 and restarts it from zero where it is periodic. The LPO calibration is a tenth of a
hertz, rounded half up. -/
def Obligations.RingSlaveAndAnalogLoop : Prop :=
  (∀ (s : State) (err : BitVec 16) (frame : BitVec 48) (goal : Int) (ms : Nat), s.dev.dpllRuns = true →
    let d := s.dev
    let mode := d.get F.CLK_STAT_MODE
    let t := d.geti F.CLK_TRIM_TRIM
    let aim := max (-4294967) (min 4294967 goal)
    let most : Int := 85899 * ms / 1000
    (d.get F.TRN_CFG_EN = 1 → d.get F.TRN_STAT_LOCK = 1 → d.get F.TRN_STAT_TRUST = 1 → d.get F.TRN_STAT_ROLE ≠ 3 →
      Completes .ringSlaveAcquire s fun e =>
      e.get F.CLK_STAT_SEL = 1 ∧ e.get F.CLK_STAT_MODE = 5 ∧ e.get F.CLK_STAT_DWELL_LEFT = 0 ∧ e.clk.ringSlave = true ∧
      e = { d with regs := e.regs, clk := e.clk } ∧ ∀ a, a ≠ R.CLK_STAT → e.word a = d.word a) ∧
    (d.clk.ringSlave = true → mode = 5 →
      (|err.toInt| ≤ 32 → Completes (.acquireComplete err frame) s fun e =>
        e.get F.CLK_STAT_MODE = 1 ∧ e.get F.CLK_PHASE_ERR = err.toNat ∧ e.clk.step = some (.slave frame)) ∧
      (32 < |err.toInt| → exec (.acquireComplete err frame) s = .next s)) ∧
    (d.clk.ringSlave = true → mode = 4 →
      (|err.toInt| ≤ 32 → Completes (.ringHoldSteer err goal ms) s fun e =>
        e.clk.steering = false ∧ e.geti F.CLK_TRIM_TRIM = t ∧ e.get F.CLK_PHASE_ERR = err.toNat) ∧
      (64 < |err.toInt| → |t| ≤ 4294967 → Completes (.ringHoldSteer err goal ms) s fun e =>
        e.clk.steering = true ∧ e.geti F.CLK_TRIM_TRIM = max (t - most) (min (t + most) aim) ∧
        e.get F.CLK_PHASE_ERR = err.toNat)) ∧
    (d.clk.ringSlave = true → d.get F.CLK_STAT_ALIGN_OUT = 0 → 128 < |err.toInt| → Completes (.alignOut err) s fun e =>
      e.get F.CLK_STAT_ALIGN_OUT = 1 ∧ e.get F.CLK_EVT_ALIGN = 1 ∧ e.get F.CLK_PHASE_ERR = err.toNat ∧
      d.logged e [d.entry 137 1 1 (leBytes 2 err.toNat)]) ∧
    (d.clk.ringSlave = true → d.get F.CLK_STAT_ALIGN_OUT = 1 → |err.toInt| ≤ 128 → Completes (.alignReturn err) s fun e =>
      e.get F.CLK_STAT_ALIGN_OUT = 0 ∧ e.get F.CLK_PHASE_ERR = err.toNat ∧
      d.logged e [d.entry 137 1 0 (leBytes 2 err.toNat)])) ∧
  (∀ (s : State) (trip : Bool) (hz : Rat) (n : Nat),
    let d := s.dev
    let gap := (d.get F.CLK_AON_CMP_VALUE + 2 ^ 32 - d.get F.CLK_AON_CNT_COUNT) % 2 ^ 32
    (d.pastAux1 = true → d.pwr.seq ≠ .up → d.pwr.seq ≠ .booting → d.limp = false → Completes .pllLock s fun e =>
      e.get F.CLK_STAT_XTAL_OK = 1 ∧ e.get F.CLK_STAT_LOCKED = 1 ∧ e = { d with regs := e.regs } ∧
      ∀ a, a ≠ R.CLK_STAT → e.word a = d.word a) ∧
    (d.linkRuns = true → d.limp = false → d.get F.CLK_STAT_LOCKED = 1 → (d.word R.PWR_FAULT).getLsbD 6 = false →
      Completes (.pllUnlock trip) s fun e =>
      e.get F.CLK_STAT_LOCKED = 0 ∧ e.get F.CLK_STAT_MODE = 6 ∧ e.get F.CLK_STAT_SEL = 3 ∧ e.get F.CLK_STAT_AON_SRC = 1 ∧
      e.get F.CLK_STAT_RTVALID = 0 ∧ e.get F.CLK_EVT_UNLOCK = 1 ∧ (e.word R.PWR_FAULT).getLsbD 6 = true ∧
      e.clk.step = none ∧ e.clk.ringSlave = false ∧ d.fired e 9 ∧
      (trip = true → d.get F.CLK_STAT_XTAL_OK = 1 → e.get F.CLK_EVT_XTALFAIL = 1 ∧ e.get F.CLK_STAT_XTAL_OK = 0) ∧
      (d.running = true → e.get F.PWR_STAT_STATE = 4)) ∧
    (d.linkRuns = true → d.limp = true → d.get F.CLK_STAT_LOCKED = 1 → (d.word R.PWR_FAULT).getLsbD 6 = true →
      Completes (.pllUnlock trip) s fun e =>
      e.get F.CLK_STAT_LOCKED = 0 ∧ e.get F.CLK_STAT_MODE = 6 ∧ e.get F.CLK_EVT_UNLOCK = 1 ∧ d.fired e 9 ∧
      d.logged e [d.entry 131 4 6 []]) ∧
    (d.get F.CLK_STAT_LOCKED = 0 → exec (.pllUnlock false) s = .next s) ∧
    (d.limp = true → d.get F.CLK_STAT_XTAL_OK = 1 → Completes .analogRelock s fun e =>
      e.get F.CLK_STAT_LOCKED = 1 ∧ e.get F.CLK_STAT_MODE = 6 ∧ e = { d with regs := e.regs } ∧
      ∀ a, a ≠ R.CLK_STAT → e.word a = d.word a) ∧
    (d.limp = true → d.get F.CLK_STAT_LOCKED = 1 → d.linkRuns = true → Completes .limpReturn s fun e =>
      e.get F.CLK_STAT_MODE = 0 ∧ e.get F.CLK_STAT_SEL = 0 ∧ e.get F.CLK_STAT_AON_SRC = 0 ∧
      e.get F.CLK_STAT_RTVALID = 1 ∧ e.clk.step = some .limpReturn ∧ e.pwr = d.pwr) ∧
    (d.aonRuns = true → d.get F.CLK_AON_CTL_EN = 1 → gap ≠ 0 → gap ≤ n → Completes (.aonTimer n) s fun e =>
      e.get F.CLK_AON_CNT_COUNT = (if d.get F.CLK_AON_CTL_PERIODIC = 1 then 0 else d.get F.CLK_AON_CMP_VALUE) ∧
      d.fired e 15 ∧ (d.coreRuns = false → (e.get F.EVC_WLATCH_LATCH).testBit 4 = true)) ∧
    (d.aonRuns = true → (d.get F.CLK_AON_CTL_EN = 0 ∨ (gap ≠ 0 ∧ n < gap) ∨ (gap = 0 ∧ n < 2 ^ 32)) →
      Completes (.aonTimer n) s fun e => e.get F.CLK_AON_CNT_COUNT = (d.get F.CLK_AON_CNT_COUNT + n) % 2 ^ 32 ∧
        e = { d with regs := e.regs } ∧ ∀ a, a ≠ R.CLK_AON_CNT → e.word a = d.word a) ∧
    (d.aonRuns = true → d.linkRuns = true → d.get F.CLK_STAT_AON_SRC = 0 → 0 ≤ hz → hz < 100000 →
      Completes (.lpoCalibration hz) s fun e =>
        (e.get F.CLK_LPO_CAL_FREQ : Int) = (hz * 10 + 1 / 2).floor ∧ e.get F.CLK_LPO_CAL_VALID = 1 ∧
        e = { d with regs := e.regs } ∧ ∀ a, a ≠ R.CLK_LPO_CAL → e.word a = d.word a) ∧
    (d.pwr.seq = .locking → d.get F.CLK_STAT_XTAL_OK = 0 → d.limp = false → Completes .xtalStartTimeout s fun e =>
      e.get F.CLK_EVT_XTALFAIL = 1 ∧ e.get F.CLK_STAT_MODE = 6 ∧
      (d.pwr.rstLow = false → e.pwr.seq = .booting ∧ e.pwr.enAux[2] = true) ∧ (d.pwr.rstLow = true → e.pwr = d.pwr)))

/-- R206, R211 to R216, R238: the supply sequence. Each power-good and each gap moves it on by one step; a timeout or a
power-good that falls switches the supplies off for another attempt or a SUPPLY reset; the end of an ICE entry's first
gap stops what LINK held and the memories lose their content; a wake from ICE starts it anew.
The zeros of the memories and what no rule gives a start are the model's choice (log entries 10 and 11). -/
def Obligations.SupplySequence : Prop :=
  ∀ (s : State) (x : Vector (BitVec 5) 3),
    let d := s.dev
    let seq := d.pwr.seq
    let manufactured := fun (e : Device) => (∀ a, e.word a = resetWord a) ∧ e.c0 = .atReset ∧ e.c1 = .atReset ∧
      e.sc = .atReset ∧ e.evc = .idle ∧ e.pwr.enMain = false ∧ e.pwr.pchg = false ∧ e.companions = d.companions
    (seq = .off → Completes .porRise s fun e => manufactured e ∧ e.pwr.seq = .aonReset) ∧
    (seq ≠ .off → Completes .porFall s fun e => manufactured e ∧ e.pwr.seq = .off) ∧
    (seq = .aonReset → Completes .aonPorRelease s fun e => e.pwr.seq = .aux1 ∧ e.pwr.enAux[0] = true ∧ e.mem = d.mem) ∧
    (seq = .aux1 → Completes (.pgAuxRise 0) s fun e => e.pwr.seq = .gap1 ∧ e.pwr.pgAux[0] = true) ∧
    (seq = .aux2 → Completes (.pgAuxRise 1) s fun e => e.pwr.seq = .gap2 ∧ e.pwr.pgAux[1] = true) ∧
    Completes (.pgAuxRise 2) s (fun e => e.pwr.seq = seq ∧ e.pwr.pgAux[2] = true ∧ e.pwr.pgto3 = false ∧
      e.get F.PWR_STAT_DRV_OK = d.get F.GDV_STAT_VDRV_OK) ∧
    (seq = .gap1 → Completes (.seqGapExpire x) s fun e => e.pwr.seq = .aux2 ∧ e.pwr.enAux[1] = true ∧ e.mem = d.mem) ∧
    (seq = .gap2 → Completes (.seqGapExpire x) s fun e =>
      let v := ((x[0] &&& x[1]) ||| (x[0] &&& x[2]) ||| (x[1] &&& x[2])).toNat
      e.pwr.seq = .locking ∧ (e.word R.SYS_STRAP).toNat = v % 4 + 4 * (0x48 + v / 4) ∧ e.mem = d.mem) ∧
    (seq = .down2 → Completes (.seqGapExpire x) s fun e => e.pwr.seq = .down1 ∧ e.pwr.enAux[1] = false ∧ e.ecc = [] ∧
      ∀ a, (a < 0x30000000 → e.byte a = 0) ∧ (0x30000000 ≤ a → a < 0x30100000 → e.byte a = d.byte a)) ∧
    (seq = .down1 → Completes (.seqGapExpire x) s fun e => e.pwr.enAux[0] = (d.pwr.down == .supply) ∧
      (d.pwr.down = .ice → e.pwr.seq = .ice) ∧ (d.pwr.down = .supply → e.pwr.seq = .aux1) ∧
      (d.pwr.down = .retry → d.get F.PWR_SEQ_STAT_TRIES ≤ d.get F.PWR_SEQ_RETRY → e.pwr.seq = .retryWait) ∧
      (d.pwr.down = .retry → d.get F.PWR_SEQ_RETRY < d.get F.PWR_SEQ_STAT_TRIES →
        e.pwr.seq = .ice ∧ e.get F.PWR_SEQ_STAT_SEQ_FAIL = 1)) ∧
    (seq = .locking → d.get F.CLK_STAT_LOCKED = 1 → d.pwr.rstLow = false → Completes .dividerRelease s fun e =>
      e.pwr.seq = .booting ∧ e.pwr.enAux[2] = true ∧ e.get F.CLK_STAT_AON_SRC = 0 ∧ e.get F.CLK_STAT_RTVALID = 1 ∧
      e.clk.step = some .first ∧ (d.get F.EVC_WLATCH_LATCH ≠ 0 → e.evc.taking = true)) ∧
    (d.pwr.seq = .up → d.pwr.busy = .iceEntry → Completes (.seqGapExpire x) s fun e =>
      e.pwr.seq = .down1 ∧ e.pwr.down = .ice ∧ e.pwr.busy = .none ∧ e.pwr.enAux[1] = false ∧ e.pwr.enMain = false ∧
      e.pwr.pchg = false ∧ e.get F.CLK_STAT_AON_SRC = 1 ∧ (∀ g : Fin 3, (e.inp.group[g]).flow.locked = false) ∧
      ∀ a, a < 0x30000000 → e.byte a = 0) ∧
    (seq = .locking → d.pwr.rstLow = true → exec .dividerRelease s = .next s) ∧
    (∀ n : Fin 2, seq = (if n = 0 then .aux1 else .aux2) → Completes .pgtoExpire s fun e =>
      e.pwr.seq = .down2 ∧ e.pwr.down = .retry ∧ e.pwr.enAux[2] = false ∧
      (e.get F.PWR_SEQ_STAT_FAIL_AUX).testBit n.val = true ∧
      e.get F.PWR_SEQ_STAT_TRIES = min (d.get F.PWR_SEQ_STAT_TRIES + 1) 7) ∧
    (d.running = true → d.pwr.pgto3 = true → d.pwr.pgAux[2] = false → (d.word R.PWR_FAULT).getLsbD 3 = false →
      Completes .pgtoExpire s fun e => (e.word R.PWR_FAULT).getLsbD 3 = true ∧ e.get F.PWR_STAT_STATE = 4 ∧
        e.pwr.enMain = false) ∧
    (seq = .retryWait → Completes .seqRetryExpire s fun e => e.pwr.seq = .aux1 ∧ e.pwr.enAux[0] = true) ∧
    (∀ n : Fin 2, d.pwr.pgAux[n] = true → d.pastAux1 = true → Completes (.pgAuxFall (if n = 0 then 0 else 1)) s fun e =>
      d.afresh e 1 [] ∧ e.pwr.seq = .down2 ∧ e.pwr.down = .supply ∧ e.pwr.enAux[2] = false) ∧
    (d.running = true → d.pwr.pgAux[2] = true → d.pwr.enAux[2] = true → (d.word R.PWR_FAULT).getLsbD 3 = false →
      Completes (.pgAuxFall 2) s fun e => (e.word R.PWR_FAULT).getLsbD 3 = true ∧ e.get F.PWR_STAT_STATE = 4 ∧
        e.pwr.enMain = false ∧ e.get F.PWR_STAT_DRV_OK = 0) ∧
    (seq = .ice → d.word R.EVC_WLATCH &&& d.word R.EVC_WAKE_EN ≠ 0 → Completes .iceWake s fun e =>
      d.afresh e 5 [R.PWR_SEQ_STAT] ∧ e.pwr.seq = .aux1 ∧ e.get F.PWR_SEQ_STAT_TRIES = 0)

/-- R73, R216, R217, R231, R773: the resets, the watchdog and the end of a start-up. RST_N low while the supplies are
switched off has the sequence begin anew once they are off (DEDUCED, log entry 40). -/
def Obligations.Resets : Prop :=
  ∀ (s : State) (m : Master) (c : CoreId) (v : Word) (j : Bool),
    let d := s.dev
    let may := fun a w => d.coreRuns = true ∧ d.masterMay m a w = true
    let warm := fun (cause : Nat) (e : Device) => d.afresh e cause [] ∧ e.pwr.seq = .locking
    (d.pwr.rstLow = false → d.pwr.seq = .up ∨ d.pwr.seq = .booting → Completes (.rstPin true) s fun e =>
      warm 2 e ∧ e.pwr.rstLow = true ∧ ∀ a < 0x30000000, e.byte a = d.byte a) ∧
    (d.pwr.rstLow = false → d.pwr.seq = .down1 ∨ d.pwr.seq = .down2 → Completes (.rstPin true) s fun e =>
      d.afresh e 2 [R.PWR_SEQ_STAT] ∧ e.pwr.seq = d.pwr.seq ∧ e.pwr.down = .supply ∧ e.pwr.rstLow = true) ∧
    exec (.rstPin false) s = .next { s with dev := { d with pwr.rstLow := false } } ∧
    (may R.SYS_RST_REQ 0xA5C3 → Completes (.softwareReset m 0xA5C3) s (warm 4)) ∧
    (may R.SYS_RST_REQ v → v.toNat % 65536 ≠ 0xA5C3 → Completes (.softwareReset m v) s fun e =>
      e.pwr = d.pwr ∧ e.c0 = d.c0 ∧ e.c1 = d.c1 ∧ d.fired e 0) ∧
    (d.get F.SYS_WDOG_CTL_EN = 1 → d.running = true → d.c0.run ≠ .debug →
      Completes .wdogExpire s (warm 3) ∧
      Completes .wdogWarn s (fun e => e.get F.SYS_WDOG_STAT_WARNED = 1 ∧ d.fired e 14 ∧ e.pwr = d.pwr)) ∧
    (d.get F.SYS_WDOG_CTL_EN = 0 ∨ d.running = false → exec .wdogExpire s = .next s ∧ exec .wdogWarn s = .next s) ∧
    (may R.SYS_WDOG_CTL v → v.getLsbD 0 = true → v.toNat / 65536 % 1024 = d.get F.SYS_WDOG_CTL_TIMEOUT →
      1 ≤ d.get F.SYS_WDOG_CTL_TIMEOUT → d.get F.SYS_WDOG_CTL_TIMEOUT < 1024 → Completes (.wdogStart m v) s fun e =>
        e.get F.SYS_WDOG_CTL_EN = 1 ∧ e.get F.SYS_WDOG_CTL_TIMEOUT = d.get F.SYS_WDOG_CTL_TIMEOUT ∧
        e = { d with regs := e.regs } ∧ ∀ a, a ≠ R.SYS_WDOG_CTL → e.word a = d.word a) ∧
    (may R.SYS_WDOG_KICK v → v.toNat % 65536 = 0xC35A → Completes (.wdogKick m v) s fun e =>
      e = { d with regs := e.regs } ∧ ∀ a, e.word a = d.word a) ∧
    (may R.SYS_WDOG_KICK v → v.toNat % 65536 ≠ 0xC35A → Completes (.wdogKick m v) s fun e => d.fired e 0 ∧ e.pwr = d.pwr) ∧
    (c ≠ .s → (d.core c).run ≠ .held → v = (if c = .c0 then 0x3C01 else 0x3C02) →
      m ≠ (if c = .c0 then .c0 else .c1) → may R.SYS_CORE_RST v → Completes (.coreReset m v) s fun e =>
        (e.core c).pc = (d.core c).bootEntry ∧ (e.core c).run = .running ∧ (e.core c).w = (Vector.replicate 32 0).set 1 0x1017FFE0 ∧
        (e.core c).acc = .replicate 4 0 ∧ e.cget c F.ST_STATUS_IE = 0 ∧ e.cget c F.ST_STATUS_PRIV = 1 ∧
        e.cget c F.ST_VECBASE_BASE = (d.core c).bootVec.toNat / 1024 ∧
        (∀ n < 32, d.get (F.SEM_n_OWNER n) = c.owner → e.get (F.SEM_n_OWNER n) = 0 ∧
          e.get (F.SEM_n_GEN n) = (d.get (F.SEM_n_GEN n) + 1) % 65536) ∧
        e.pwr = d.pwr) ∧
    (d.pwr.seq = .booting → Completes (.bootRom j) s fun e =>
      e.pwr.seq = .up ∧ e.get F.PWR_STAT_STATE = (if e.word R.PWR_FAULT = 0 then 2 else 4) ∧
      (e.nvs.rom = true ∨ (e.c0.run = .running ∧ e.c1.run = .running ∧ e.c0.reg 1 = 0x1017FFE0 ∧
        e.c1.reg 1 = 0x1017FFE0 ∧ e.c0.pc = e.c0.bootEntry ∧ e.c1.pc = e.c1.bootEntry)))

/-- R206, R221, R222, R227, R228, R230, R768: the monitors. BROWNOUT and PRES_LOST latch, open the main switch and lead to
SAFE; the warnings fire once; a fault bit clears only when its condition has gone. In STILL a lost presence forces the
safe levels and waits for the wake; in ICE it only sets its wake latch (DEDUCED, log entry 38). -/
def Obligations.Supervision : Prop :=
  ∀ (s : State) (m : Master) (v : BitVec 9) (w : Word) (ntc : Vector (Option Int) 4) (die : Int),
    let d := s.dev
    let bit := fun (e : Device) (i : Nat) => (e.word R.PWR_FAULT).getLsbD i
    let latches := fun (i : Nat) (e : Device) => bit e i = true ∧ (d.running = true → e.get F.PWR_STAT_STATE = 4)
    let open_ := fun (e : Device) => e.pwr.enMain = false ∧ e.pwr.pchg = false ∧ e.get F.PWR_STAT_MAIN = 0
    (d.aonRuns = true → v.toNat < 44 → d.linkRuns = true → bit d 1 = false → Completes (.brownout v) s fun e =>
      latches 1 e ∧ open_ e ∧ e.get F.PWR_VMON_BO_TRIP = 1 ∧ e.get F.PWR_VMON_VSTK = v.toNat ∧ e.mem = d.mem) ∧
    (d.aonRuns = true → 48 ≤ v.toNat → Completes (.brownout v) s fun e =>
      e.get F.PWR_VMON_BO_TRIP = 0 ∧ e.get F.PWR_VMON_VSTK = v.toNat ∧ bit e 1 = bit d 1) ∧
    (d.aonRuns = true → v.toNat < d.get F.PWR_BO_WARN → d.get F.PWR_VMON_BO_WARN = 0 →
      Completes (.brownoutWarn v) s fun e => e.get F.PWR_VMON_BO_WARN = 1 ∧ d.fired e 2 ∧
        e.get F.PWR_VMON_VSTK = v.toNat) ∧
    (d.aonRuns = true → d.get F.PWR_BO_WARN + 2 ≤ v.toNat → Completes (.brownoutWarn v) s fun e =>
      e.get F.PWR_VMON_BO_WARN = 0 ∧ e = { d with regs := e.regs } ∧ ∀ a, a ≠ R.PWR_VMON → e.word a = d.word a) ∧
    (d.running = true → bit d 0 = false → Completes .presLost s fun e =>
      latches 0 e ∧ open_ e ∧ e.get F.PWR_STAT_PRES = 0 ∧ e.get F.PWR_STAT_PRES_RAW = 0 ∧ d.fired e 3 ∧
      e.trn.looped = true) ∧
    (d.still = true → d.pastAux1 = true → Completes .presLost s fun e =>
      e.stage.drive = .safe ∧ open_ e ∧ e.pwr.presDue = true ∧ e.get F.PWR_STAT_STATE = 1 ∧ e.trn.looped = true ∧
      e.word R.PWR_FAULT = d.word R.PWR_FAULT) ∧
    (d.pwr.seq = .ice → Completes .presLost s fun e =>
      e.get F.PWR_STAT_PRES = 0 ∧ e.get F.PWR_STAT_PRES_RAW = 0 ∧ (e.get F.EVC_WLATCH_LATCH).testBit 1 = true ∧ e.pwr = d.pwr) ∧
    (d.aonRuns = true → d.get F.PWR_STAT_PRES = 0 → Completes .presGained s fun e =>
      e.get F.PWR_STAT_PRES = 1 ∧ e.get F.PWR_STAT_PRES_RAW = 1 ∧ d.fired e 4 ∧
      (d.get F.PWR_CTL_AUTO_MAIN = 1 → d.running = true → d.get F.PWR_STAT_STATE = 2 → d.get F.PWR_STAT_MAIN = 0 →
        d.pwr.pre = .idle → d.pwr.busy ≠ .iceEntry → e.pwr.pre = .due) ∧
      (d.get F.PWR_CTL_AUTO_MAIN = 0 ∨ d.pwr.busy = .iceEntry → e.pwr = d.pwr)) ∧
    (d.running = true → -40 ≤ die → die < 150 → Completes (.auxConverterSample ntc die) s fun e =>
      e.geti F.PWR_TEMP_DIE = die ∧ e.aux.die = some (die : Rat) ∧ (∀ i : Fin 4, e.aux.ntc[i] = ntc[i].map fun t => (t : Rat) / 10) ∧
      ((d.get F.PWR_TEMP_WARN : Int) ≤ die → e.aux.dieWarned = true ∧ (d.aux.dieWarned = false → d.fired e 6)) ∧
      (die < (d.get F.PWR_TEMP_WARN : Int) - 5 → e.aux.dieWarned = false) ∧ e.word R.PWR_FAULT = d.word R.PWR_FAULT) ∧
    (d.running = true → 150 ≤ die → die < 1000 → bit d 7 = false → Completes (.auxConverterSample ntc die) s (latches 7)) ∧
    (d.aonRuns = true → Completes .wakePin s fun e =>
      d.fired e 5 ∧ (d.coreRuns = false → (e.get F.EVC_WLATCH_LATCH).testBit 3 = true) ∧ d.noted e []) ∧
    (d.coreRuns = true → d.masterMay m R.PWR_FAULT w = true → m.isHost = true → Completes (.pwrFaultClear m w) s fun e =>
      let gone := fun (i : Nat) => match i with
        | 0 => d.flag F.PWR_STAT_PRES
        | 1 => decide (48 ≤ d.get F.PWR_VMON_VSTK)
        | 2 => true
        | 3 => d.pwr.pgAux[2]
        | 4 => d.c0.run != .halted
        | 5 => d.c1.run != .halted
        | 6 => d.flag F.CLK_STAT_LOCKED && !d.limp
        | 7 => (d.aux.die.getD 0) < 140
        | 8 => true
        | _ => false
      (∀ i < 32, bit e i = (bit d i && !(w.getLsbD i && gone i))) ∧ e = { d with regs := e.regs } ∧
      ∀ a, a ≠ R.PWR_FAULT → e.word a = d.word a) ∧
    (d.coreRuns = true → m.isHost = false → d.word R.PWR_FAULT &&& w &&& 0x1FF ≠ 0 → Completes (.pwrFaultClear m w) s fun e =>
      e.word R.PWR_FAULT = d.word R.PWR_FAULT ∧ d.fired e 0)

/-- R207 to R211, R220, R224 to R226, R229, R232: the requests of PWR_CMD. Each is recorded, judged in the order of the
rules and refused with its reason, or begins what it asks for. MAIN_OPEN opens the main switch in steady PLAY too (the
model's choice, log entry 36). -/
def Obligations.PowerRequests : Prop :=
  ∀ (s : State) (m : Master), s.dev.coreRuns = true →
    let d := s.dev
    let may := fun (code : Nat) => d.masterMay m R.PWR_CMD (BitVec.ofNat 32 code) = true
    let asks := fun (code : Nat) => may code ∧ d.requestRefused m (d.masterPriv m) code = none
    let stat := fun (e : Device) (code result reason : Nat) => e.get F.PWR_CMD_STAT_REQ = code ∧
      e.get F.PWR_CMD_STAT_RESULT = result ∧ e.get F.PWR_CMD_STAT_REASON = reason
    let refused := fun (code reason : Nat) (e : Device) => stat e code 3 reason ∧ e = { d with regs := e.regs } ∧
      ∀ a, a ≠ R.PWR_CMD_STAT → e.word a = d.word a
    let ready := d.running = true ∧ d.get F.PWR_STAT_STATE = 2
    let safe := d.running = true ∧ d.get F.PWR_STAT_STATE = 4
    let free := d.powerBusy = false
    let stopped := d.cget .s F.ST_SSTATE_STATE = 0 ∧ d.cget .s F.ST_SCTL_RUN = 0
    let fault := d.word R.PWR_FAULT ≠ 0
    let bar := fun (e : Device) => e.get F.PWR_STAT_STATE = d.get F.PWR_STAT_STATE
    -- who may ask
    (m.isHost = false → d.masterPriv m = false → Completes (.reqPlay m) s (refused 2 8)) ∧
    (m.isHost = false → d.masterPriv m = true → Completes (.exitSafeToReady m) s (refused 6 9) ∧
      Completes (.exitSafeToPlay m) s (refused 7 9)) ∧
    (m = .portA → d.nvs.rom = false →
      (d.get (F.HP_PRIV_MASK 0) &&& 1 = 0 → Completes (.reqPlay m) s (refused 2 8) ∧ Completes (.reqStill m) s (refused 3 8)) ∧
      (d.get (F.HP_PRIV_MASK 0) &&& 2 = 0 → Completes (.reqIce m) s (refused 4 8)) ∧
      (d.get (F.HP_PRIV_MASK 0) &&& 5 = 0 → Completes (.reqReady m) s (refused 1 8)) ∧
      (d.get (F.HP_PRIV_MASK 0) &&& 4 = 0 → Completes (.reqSafe m) s (refused 5 8) ∧ Completes (.mainClose m) s (refused 8 8) ∧
        Completes (.mainOpen m) s (refused 9 8))) ∧
    -- PLAY
    (asks 2 → ¬ free → Completes (.reqPlay m) s (refused 2 1)) ∧
    (asks 2 → free → ¬ ready → Completes (.reqPlay m) s (refused 2 2)) ∧
    (asks 2 → free → ready → fault → Completes (.reqPlay m) s (refused 2 3)) ∧
    (asks 2 → free → ready → ¬ fault → d.get F.PWR_STAT_PRES = 0 → Completes (.reqPlay m) s (refused 2 4)) ∧
    (asks 2 → free → ready → ¬ fault → d.get F.PWR_STAT_PRES = 1 → d.get F.PWR_STAT_MAIN ≠ 2 →
      Completes (.reqPlay m) s (refused 2 5)) ∧
    (asks 2 → free → ready → ¬ fault → d.get F.PWR_STAT_PRES = 1 → d.get F.PWR_STAT_MAIN = 2 →
      (d.get F.PWR_STAT_DRV_OK = 0 → Completes (.reqPlay m) s (refused 2 7)) ∧
      (d.get F.PWR_STAT_DRV_OK = 1 → d.get F.DIAG_HOLD_HOLD ≠ 0 → Completes (.reqPlay m) s (refused 2 6)) ∧
      (d.get F.PWR_STAT_DRV_OK = 1 → d.get F.DIAG_HOLD_HOLD = 0 → Completes (.reqPlay m) s fun e =>
        stat e 2 1 0 ∧ bar e ∧ e.pwr.busy = .playEntry false ∧ e.get F.PWR_STAT_PHASE = 1 ∧ e.diag.run.isSome = true)) ∧
    -- READY
    (asks 1 → d.running = true → d.get F.PWR_STAT_STATE = 3 → d.pwr.busy = .none → d.get F.PWR_STAT_PHASE = 0 →
      Completes (.reqReady m) s fun e => stat e 1 1 0 ∧ bar e ∧ e.pwr.busy = .rampOut ∧ e.get F.PWR_STAT_PHASE = 4 ∧
        e.pwr.gainPos = 0) ∧
    (asks 1 → ready → d.pwr.busy = .stillWait → Completes (.reqReady m) s fun e =>
      stat e 1 2 0 ∧ bar e ∧ e.pwr.busy = .none) ∧
    (asks 1 → safe → free → Completes (.reqReady m) s (refused 1 2)) ∧
    -- STILL and ICE
    (asks 3 → free → ready → stopped → d.txnInFlight = false → Completes (.reqStill m) s fun e =>
      stat e 3 1 0 ∧ bar e ∧ e.pwr.busy = .stillWait) ∧
    (asks 3 → free → ¬ (ready ∧ stopped) → Completes (.reqStill m) s (refused 3 2)) ∧
    (asks 4 → free → ready → stopped → d.txnInFlight = false → ¬ fault → Completes (.reqIce m) s fun e =>
      stat e 4 1 0 ∧ bar e ∧ e.pwr.busy = .iceEntry ∧ e.pwr.enAux[2] = false ∧ e.pwr.enMain = false ∧
      e.pwr.pchg = false ∧ e.get F.PWR_STAT_MAIN = 0) ∧
    (asks 4 → free → ready → stopped → d.txnInFlight = true → Completes (.reqIce m) s (refused 4 1)) ∧
    -- SAFE and the way out of it
    (asks 5 → safe → free → Completes (.reqSafe m) s (refused 5 2)) ∧
    (asks 5 → d.running = true → d.get F.PWR_STAT_STATE ≠ 4 ∨ ¬ free → (d.word R.PWR_FAULT).getLsbD 8 = false → Completes (.reqSafe m) s fun e =>
      stat e 5 2 0 ∧ e.get F.PWR_STAT_STATE = 4 ∧ (e.word R.PWR_FAULT).getLsbD 8 = true ∧
      (d.get F.PWR_STAT_STATE ≠ 4 → e.pwr.busy = .none)) ∧
    (asks 6 → free → safe → fault → Completes (.exitSafeToReady m) s (refused 6 3)) ∧
    (asks 6 → free → safe → ¬ fault → Completes (.exitSafeToReady m) s fun e =>
      stat e 6 2 0 ∧ e.get F.PWR_STAT_STATE = 2 ∧ e.get F.PWR_STAT_PHASE = 0 ∧ e.stage.drive = .off) ∧
    (asks 7 → free → safe → d.playBars true = none → Completes (.exitSafeToPlay m) s fun e =>
      stat e 7 1 0 ∧ bar e ∧ e.pwr.busy = .playEntry true ∧
      (d.get F.PWR_STAT_MAIN = 2 → e.get F.PWR_STAT_PHASE = 1) ∧
      (d.get F.PWR_STAT_MAIN ≠ 2 → e.get F.PWR_STAT_PHASE = 5 ∧ e.pwr.pre = .due)) ∧
    -- the main switch
    (asks 8 → free → d.running = true → d.get F.PWR_STAT_MAIN = 2 → Completes (.mainClose m) s fun e =>
      stat e 8 2 0 ∧ e.pwr = d.pwr) ∧
    (asks 8 → free → d.running = true → d.get F.PWR_STAT_MAIN ≠ 2 →
      (d.get F.PWR_STAT_PRES = 0 → Completes (.mainClose m) s (refused 8 4)) ∧
      (d.get F.PWR_STAT_PRES = 1 → ¬ fault → Completes (.mainClose m) s fun e => stat e 8 1 0 ∧ e.pwr.pre = .due)) ∧
    (asks 9 → d.running = true → Completes (.mainOpen m) s fun e =>
      stat e 9 2 0 ∧ e.pwr.enMain = false ∧ e.pwr.pchg = false ∧ e.get F.PWR_STAT_MAIN = 0 ∧ e.pwr.pre = .idle)

/-- R210, R219, R220, R225, R226: what a request has begun goes on and ends. STILL waits for a diagnostic run (DEDUCED,
log entry 45), and a MAIN_CLOSE whose precharge times out ends REFUSED with reason FAULT (the model's choice, log
entry 37). -/
def Obligations.PowerTransitions : Prop :=
  ∀ (s : State),
    let d := s.dev
    let phase := d.get F.PWR_STAT_PHASE
    let ended := fun (e : Device) (result reason : Nat) => d.get F.PWR_CMD_STAT_RESULT = 1 →
      e.get F.PWR_CMD_STAT_RESULT = result ∧ e.get F.PWR_CMD_STAT_REASON = reason
    (d.pwr.busy = .stillWait → d.diag.run = none → d.c0.run = .sleeping → d.c1.run = .sleeping → d.queuesEmpty = true →
      Completes .stillEnter s fun e => e.get F.PWR_STAT_STATE = 1 ∧ e.pwr.busy = .none ∧ e.pwr.enAux[2] = false ∧
        ended e 2 0 ∧ (d.get F.PWR_CTL_MAIN_HOLD = 0 → e.pwr.enMain = false ∧ e.get F.PWR_STAT_MAIN = 0) ∧
        (d.get F.PWR_CTL_MAIN_HOLD = 1 → e.pwr.enMain = d.pwr.enMain)) ∧
    (d.pwr.busy = .stillWait → (d.c0.run ≠ .sleeping ∨ d.c1.run ≠ .sleeping ∨ d.diag.run.isSome = true) → exec .stillEnter s = .next s) ∧
    (d.pwr.busy = .stillWait → Completes .stillWaitTimeout s fun e => e.pwr = { d.pwr with busy := .none } ∧ ended e 3 1 ∧
      e = { d with regs := e.regs, pwr := e.pwr } ∧ ∀ a, a ≠ R.PWR_CMD_STAT → e.word a = d.word a) ∧
    (d.still = true → d.word R.EVC_WLATCH &&& d.word R.EVC_WAKE_EN ≠ 0 → d.pwr.waking = false →
      exec .stillWake s = .next { s with dev := { d with
        pwr.enAux := d.pwr.enAux.set 2 true, pwr.waking := true, pwr.pgto3 := !d.pwr.pgAux[2] } }) ∧
    (d.still = true → d.pwr.waking = true → d.pwr.pgAux[2] = true → d.pwr.presDue = false → d.word R.PWR_FAULT = 0 →
      Completes .stillUngate s fun e => e.get F.PWR_STAT_STATE = 2 ∧ e.pwr.seq = .up ∧ e.pwr.waking = false ∧
        e.stage.drive = .off ∧ e.evc.taking = true) ∧
    (d.pwr.pre = .due → d.running = true → d.get F.PWR_STAT_PRES = 1 → d.word R.PWR_FAULT = 0 →
      Completes .prechargeStart s fun e => e.pwr = { d.pwr with pchg := true, pre := .running 0 } ∧
        e.get F.PWR_STAT_MAIN = 1 ∧ e = { d with regs := e.regs, pwr := e.pwr } ∧ ∀ a, a ≠ R.PWR_STAT → e.word a = d.word a) ∧
    (∀ n, d.pwr.pre = .running n → d.get F.PWR_PCHG_SETTLE ≤ n → d.playEntering = false → Completes .prechargeEnd s fun e =>
      e.pwr = { d.pwr with enMain := true, pre := .closing } ∧ e.get F.PWR_STAT_MAIN = 2 ∧
      (d.get F.PWR_CMD_STAT_REQ = 8 → ended e 2 0)) ∧
    (∀ n, d.pwr.pre = .running n → n < d.get F.PWR_PCHG_SETTLE → exec .prechargeEnd s = .next s) ∧
    (d.pwr.pre = .closing → exec .pchgOverlapEnd s =
      .next { s with dev := { d with pwr.pchg := false, pwr.pre := .idle } }) ∧
    (∀ n, d.pwr.pre = .running n → (d.word R.PWR_FAULT).getLsbD 2 = false → Completes .pchgTimeout s fun e =>
      e.pwr.pchg = false ∧ e.pwr.pre = .idle ∧ e.get F.PWR_STAT_MAIN = 0 ∧ (e.word R.PWR_FAULT).getLsbD 2 = true ∧
      (d.get F.PWR_CMD_STAT_REQ = 8 → ended e 3 3)) ∧
    (d.playEntering = true → phase = 1 → d.diag.run = none → Completes .bootstrapStart s fun e =>
      e.get F.PWR_STAT_PHASE = 2 ∧ e.stage.drive = .bootstrap ∧ e.pwr = { d.pwr with bootPassed := false } ∧ e.mem = d.mem) ∧
    (d.playEntering = true → phase = 3 → d.pwr.gainPos = 512 → Completes .rampInEnd s fun e =>
      e.pwr = { d.pwr with busy := .none } ∧ e.get F.PWR_STAT_PHASE = 0 ∧ ended e 2 0 ∧
      e.get F.PWR_STAT_STATE = d.get F.PWR_STAT_STATE ∧ e.stage = d.stage) ∧
    (d.pwr.busy = .rampOut → phase = 4 → d.pwr.gainPos = 512 → Completes .rampOutEnd s fun e =>
      e.get F.PWR_STAT_STATE = 2 ∧ e.get F.PWR_STAT_PHASE = 0 ∧ e.stage.drive = .off ∧ e.pwr.busy = .none ∧ ended e 2 0)

/-- R291 to R294, R297, R299, R301, R304, R306, R313: the carrier period, the shaper reset, the refresh and the override
mode. A carrier period shows the pins, ends the trips of the one before, and moves the period count on; while nothing
drives the gates, the half-bridges stay as they are. With the values that act in it, a channel that modulates takes
the interpolator's output times the rail factor, advances its five states, places the edges of both sides, and takes v
from the on-times placed; the rail factor is 1 with feedforward off, and VREF / VBUS within its limits from a settled
sample. A state at its limit for 16 periods clears the channel's states and is logged. A half-bridge on for N periods
takes a refresh pulse in the next. Override follows the codes in READY, and rejects a reserved code and EN = 1
elsewhere. -/
def Obligations.Modulator : Prop :=
  ∀ (s : State) (x : CarrierIn) (ch : Fin 4) (hb : Fin 8) (m : Master) (v : Word),
    let d := s.dev
    let p := d.periodStart
    let c := d.stage.chan[ch]
    let pins := fun (e : Device) => e.get F.GDV_STAT_OC_NOW = x.oc.toNat ∧ e.get F.GDV_STAT_STK_OC_NOW = x.stk.toNat ∧
      e.get F.GDV_STAT_FAULT_N = x.extLow.toNat
    let runs := d.running = true ∧ d.limp = false ∧ d.stage.frozen = false
    let sat := fun (r : Rat) => max (-4) (min 4 r)
    let coef := fun (k : Nat) => (p.actingI (F.MOD_NS_Ak_COEF k) : Rat) / 2 ^ 22
    let P : Rat := ((2048 / 2 ^ p.carrier : Nat) : Rat)
    (d.running = false ∨ d.limp = true → exec (.carrierPeriod x) s = .next s) ∧
    (d.running = true → d.limp = false → d.stage.frozen = true → Completes (.carrierPeriod x) s fun e =>
      pins e ∧ e = { d with regs := e.regs } ∧ ∀ a, a ≠ R.GDV_STAT → e.word a = d.word a) ∧
    (runs → Completes (.carrierPeriod x) s fun e =>
      pins e ∧ e.stage.period = d.stage.period + 1 ∧ e.stage.drive = d.stage.drive ∧ e.mem = d.mem ∧ e.pwr = d.pwr ∧
      (∀ c : Fin 4, e.stage.chan[c].tripped = false) ∧
      (d.stage.drive = .off → ∀ y : Fin 8, e.stage.half[y] = d.stage.half[y])) ∧
    (runs → (p.acting F.MOD_RFF_EN = 0 → Completes (.carrierPeriod x) s fun e => e.get F.MOD_RFF_STAT_K = 2 ^ 14) ∧
      (∀ w, p.acting F.MOD_RFF_EN ≠ 0 → d.stage.vbus = some (w, false) → d.vbus w ≠ 0 →
        let lo : Rat := (p.acting F.MOD_RFF_KMIN : Rat) / 64
        let hi : Rat := (p.acting F.MOD_RFF_KMAX : Rat) / 64
        let k := max lo (min hi ((p.acting F.MOD_RFF_VREF_VREF : Rat) / 4 / d.vbus w))
        0 < lo → lo ≤ hi → k < 4 → Completes (.carrierPeriod x) s fun e =>
          e.get F.MOD_RFF_STAT_K = (ratHalfEven (k * 2 ^ 14)).toNat ∧ e.get F.MOD_STAT_RFF_HELD = 0 ∧
          e.get F.MOD_STAT_RFF_NONE = 0)) ∧
    (runs → p.modulating ch.val = true →
      let k := p.railFactor.1
      let u := ((p.interpolated ch).toInt : Rat) / 2 ^ 31 * k
      let x1 := sat (c.x[0] + (u - c.v) - (p.acting F.MOD_NS_G_G1 : Rat) / 2 ^ 16 * c.x[1])
      let x2 := sat (c.x[1] + x1)
      let x3 := sat (c.x[2] + x2 - (p.acting F.MOD_NS_G_G2 : Rat) / 2 ^ 16 * c.x[3])
      let x4 := sat (c.x[3] + x3)
      let x5 := sat (c.x[4] + x4)
      let q := u + coef 1 * x1 + coef 2 * x2 + coef 3 * x3 + coef 4 * x4 + coef 5 * x5
      let μ := max (-1) (min 1 q)
      let placed := fun (pos : Bool) => p.placeSide (ratHalfEven ((if pos then 1 + μ else 1 - μ) / 2 * P * 16)) pos
      Completes (.carrierPeriod x) s fun e =>
        e.stage.chan[ch].x = #v[x1, x2, x3, x4, x5] ∧
        e.stage.chan[ch].v = ((e.sideTime ch true - e.sideTime ch false : Int) : Rat) / P ∧
        (q < -1 ∨ 1 < q → (e.get F.MOD_EVT_CLIP).testBit ch.val = true) ∧
        ∀ y : Fin 8, d.channelOf y.val = ch.val →
          e.stage.half[y].onEdge = (placed (y.val % 2 = 0)).onEdge ∧ e.stage.half[y].offEdge = (placed (y.val % 2 = 0)).offEdge ∧
          e.stage.half[y].refreshDue = false) ∧
    ((∃ k : Fin 5, 16 ≤ c.satRun[k]) → Completes (.noiseShaperReset ch) s fun e =>
      e.stage.chan[ch] = { c with x := .replicate 5 0, satRun := .replicate 5 0 } ∧
      (∀ c, c ≠ ch → e.stage.chan[c] = d.stage.chan[c]) ∧ (e.get F.MOD_EVT_CLIP).testBit ch.val = true ∧
      (e.get F.MOD_EVT_NSRST).testBit ch.val = true ∧ d.logged e [d.entry 140 2 (ch.val + 1) []]) ∧
    ((∀ k : Fin 5, c.satRun[k] < 16) → exec (.noiseShaperReset ch) s = .next s) ∧
    (d.gate hb = .modulating → d.acting F.MOD_REFRESH_N ≤ d.stage.half[hb].fullRun → Completes (.bootstrapRefresh hb) s fun e =>
      e.stage.half[hb].refreshDue = true ∧ (e.get F.MOD_EVT_REFRESH).testBit hb.val = true ∧
      ∀ y, y ≠ hb → e.stage.half[y] = d.stage.half[y]) ∧
    (d.gate hb ≠ .modulating ∨ d.stage.half[hb].fullRun < d.acting F.MOD_REFRESH_N →
      exec (.bootstrapRefresh hb) s = .next s) ∧
    (d.coreRuns = true → d.masterMay m R.MOD_OVERRIDE v = true → modReserved d.regs = false →
      (v.getLsbD 0 = true → ¬ (d.running = true ∧ d.get F.PWR_STAT_STATE = 2 ∧ d.diag.run = none) →
        Completes (.modOverrideWrite m v) s fun e => e.word R.MOD_OVERRIDE = d.word R.MOD_OVERRIDE ∧ d.fired e 0) ∧
      ((∃ y < 8, v.toNat / 256 / 4 ^ y % 4 = 3) →
        Completes (.modOverrideWrite m v) s fun e => e.word R.MOD_OVERRIDE = d.word R.MOD_OVERRIDE ∧ d.fired e 0) ∧
      ((∀ y < 8, v.toNat / 256 / 4 ^ y % 4 ≠ 3) → d.running = true → d.get F.PWR_STAT_STATE = 2 → d.diag.run = none →
        Completes (.modOverrideWrite m v) s fun e =>
          e.get F.MOD_OVERRIDE_EN = v.toNat % 2 ∧ e.get F.MOD_OVERRIDE_CODE = v.toNat / 256 % 65536 ∧
          (v.toNat % 2 = 1 → d.stage.drive = .off → d.stage.held = none → ∀ y, d.gateForced y = false →
            (v.toNat / 256 / 4 ^ y.val % 4 = 0 → e.gate y = .allOff) ∧
            (v.toNat / 256 / 4 ^ y.val % 4 = 1 → e.gate y = .lowOn) ∧
            (v.toNat / 256 / 4 ^ y.val % 4 = 2 → (d.get F.GDV_STAT_BST_OK).testBit y.val = true → e.gate y = .highOn))))

/-- R303, R306, R307, R310 to R312, R315, R325: the faults of the power stage. Each forces its half-bridges off and
latches its bit; a latched bit sets PWR_FAULT.STAGE and leads a running device to SAFE. A channel comparator counts
only outside blanking, and in CBC mode below CBC_MAX trips in a row it turns the channel off for the rest of the
period alone. Outside PLAY, with no freeze, a bootstrap lockout clears its BST_OK alone. A release of a lockout
restores its flag. R228, R310, R336, R337, R374: a host clears the fault bits of the stage whose conditions have gone,
with the last of them the summary; a core may clear none. The counters of MOD, GDV and GRD clear. -/
def Obligations.StageFaults : Prop :=
  (∀ (s : State) (n : Fin 4) (x : Fin 8),
    let d := s.dev
    let fresh := (d.word R.PWR_FAULT).getLsbD 9 = false
    let latched := fun (e : Device) => fresh → (e.word R.PWR_FAULT).getLsbD 9 = true ∧
      (d.running = true → e.get F.PWR_STAT_STATE = 4)
    let bit := fun (e : Device) (c i : Nat) => (e.word (R.GDV_CH_FAULT_n c)).getLsbD i
    let off := fun (e : Device) (sel : Nat → Prop) => ∀ y : Fin 8, sel y.val → e.stage.half[y].forced = true
    let ch := d.comparatorChannel n.val
    (d.running = true → d.blanked ch = false → d.get (F.GDV_OC_n_MODE n.val) = 0 → bit d n.val 0 = false → Completes (.overcurrent n) s fun e =>
      bit e n.val 0 = true ∧ latched e ∧ off e (fun y => d.channelOf y = ch) ∧
      e.get F.GDV_OC_CNT_COUNT = min (d.get F.GDV_OC_CNT_COUNT + 1) 65535 ∧ (e.get F.GDV_STAT_OC_NOW).testBit n.val = true) ∧
    (d.running = true → d.blanked ch = false → d.get (F.GDV_OC_n_MODE n.val) = 1 → (h : ch < 4) → d.stage.chan[ch].tripped = false →
      d.stage.chan[ch].tripRun + 1 < d.get (F.GDV_OC_n_CBC_MAX n.val) → Completes (.overcurrent n) s fun e =>
        e.stage.chan[ch].tripped = true ∧ e.stage.chan[ch].tripRun = d.stage.chan[ch].tripRun + 1 ∧
        (∀ c < 4, ∀ i, bit e c i = bit d c i) ∧ d.fired e 21 ∧ e.pwr = d.pwr ∧
        e.get F.GDV_OC_CNT_COUNT = min (d.get F.GDV_OC_CNT_COUNT + 1) 65535) ∧
    (d.blanked ch = true → exec (.overcurrent n) s = .next s) ∧
    (d.running = false → exec (.overcurrent n) s = .next s ∧ exec .stackOvercurrent s = .next s) ∧
    (d.running = true → d.get F.GDV_FAULT_STK_OC = 0 → Completes .stackOvercurrent s fun e =>
      e.get F.GDV_FAULT_STK_OC = 1 ∧ latched e ∧ off e (fun _ => True) ∧ e.get F.GDV_STAT_STK_OC_NOW = 1) ∧
    (d.pwr.seq ≠ .off → d.pwr.seq ≠ .aonReset → bit d (d.channelOf x.val) 1 = false → Completes (.interlock x) s fun e =>
      bit e (d.channelOf x.val) 1 = true ∧ latched e ∧ off e (fun y => d.channelOf y = d.channelOf x.val) ∧
      e.get F.GDV_ILK_INFO_VALID = 1 ∧
      e.get F.GDV_ILK_INFO_HB = (if d.get F.GDV_ILK_INFO_VALID = 1 then d.get F.GDV_ILK_INFO_HB else x.val)) ∧
    (d.get F.GDV_EXT_EN = 1 → d.get F.GDV_FAULT_EXT_FAULT = 0 → Completes .extFault s fun e =>
      e.get F.GDV_FAULT_EXT_FAULT = 1 ∧ latched e ∧ e.get F.GDV_STAT_FAULT_N = 1) ∧
    (d.get F.GDV_EXT_EN = 0 → Completes .extFault s fun e => e.get F.GDV_STAT_FAULT_N = 1 ∧
      e = { d with regs := e.regs } ∧ ∀ a, a ≠ R.GDV_STAT → e.word a = d.word a) ∧
    (d.running = true → d.get F.GDV_FAULT_VDRV_UVLO = 0 → Completes .vdrvLockout s fun e =>
      e.get F.GDV_FAULT_VDRV_UVLO = 1 ∧ latched e ∧ e.get F.GDV_STAT_VDRV_OK = 0 ∧ e.get F.PWR_STAT_DRV_OK = 0 ∧
      ∀ y, e.gate y = .allOff) ∧
    (d.running = false → Completes .vdrvLockout s fun e => e.get F.GDV_STAT_VDRV_OK = 0 ∧ e.get F.PWR_STAT_DRV_OK = 0 ∧
      e = { d with regs := e.regs } ∧ ∀ a, a ≠ R.GDV_STAT → a ≠ R.PWR_STAT → e.word a = d.word a) ∧
    Completes .vdrvLockoutRelease s (fun e => e.get F.GDV_STAT_VDRV_OK = 1 ∧
      e.get F.PWR_STAT_DRV_OK = d.pwr.pgAux[2].toNat ∧ e = { d with regs := e.regs } ∧
      ∀ a, a ≠ R.GDV_STAT → a ≠ R.PWR_STAT → e.word a = d.word a) ∧
    (d.running = true → d.get F.PWR_STAT_STATE = 3 → bit d (d.channelOf x.val) 2 = false →
      Completes (.bootstrapLockout x) s fun e => bit e (d.channelOf x.val) 2 = true ∧ latched e ∧
        (e.get F.GDV_STAT_BST_OK).testBit x.val = false ∧ e.stage.half[x].forced = true) ∧
    (d.running = true → d.get F.PWR_STAT_STATE ≠ 3 → d.stage.frozen = false → Completes (.bootstrapLockout x) s fun e =>
      (∀ y, (e.get F.GDV_STAT_BST_OK).testBit y = ((d.get F.GDV_STAT_BST_OK).testBit y && y != x.val)) ∧
      e = { d with regs := e.regs } ∧ ∀ a, a ≠ R.GDV_STAT → e.word a = d.word a) ∧
    Completes (.bootstrapLockoutRelease x) s (fun e =>
      (∀ y, (e.get F.GDV_STAT_BST_OK).testBit y = ((d.get F.GDV_STAT_BST_OK).testBit y || y == x.val)) ∧
      e = { d with regs := e.regs } ∧ ∀ a, a ≠ R.GDV_STAT → e.word a = d.word a)) ∧
  (∀ (s : State) (m : Master) (n : Fin 4) (v : Word), s.dev.coreRuns = true →
    let d := s.dev
    let may := fun a => d.masterMay m a v = true
    let a := R.GDV_CH_FAULT_n n.val
    let gone := fun (i : Nat) => match i with
      | 0 => !(d.get F.GDV_STAT_OC_NOW).testBit n.val
      | 1 => true
      | 2 => (List.finRange 8).all fun x => d.channelOf x.val != n.val || !d.stage.half[x].bstLatched ||
          (d.get F.GDV_STAT_BST_OK).testBit x.val
      | 3 => !(d.get F.DIAG_STAT_DC_NOW).testBit n.val
      | _ => false
    let common := fun (i : Nat) => match i with
      | 0 => d.flag F.GDV_STAT_VDRV_OK
      | 1 => !d.flag F.GDV_STAT_FAULT_N
      | 2 => !d.flag F.GDV_STAT_STK_OC_NOW
      | _ => false
    let cleared := fun (e : Device) (b : Nat) (g : Nat → Bool) =>
      (∀ i < 32, (e.word b).getLsbD i = ((d.word b).getLsbD i && !(v.getLsbD i && g i))) ∧
      (e.stageFaults = false → (e.word R.PWR_FAULT).getLsbD 9 = false) ∧
      (e.stageFaults = true → e.word R.PWR_FAULT = d.word R.PWR_FAULT) ∧ e.mem = d.mem ∧ e.pwr = d.pwr
    let zeroed := fun (i : Instr) (f : Fld) => may f.addr → Completes i s fun e =>
      e.get f = (if v.getLsbD 31 then 0 else d.get f) ∧ e = { d with regs := e.regs } ∧
      ∀ b, b ≠ f.addr → e.word b = d.word b
    (m.isHost = true → may a → Completes (.gdvFaultClear m (some n) v) s (cleared · a gone)) ∧
    (m.isHost = true → may R.GDV_FAULT → Completes (.gdvFaultClear m none v) s (cleared · R.GDV_FAULT common)) ∧
    (m.isHost = false → v.toNat % 16 ≠ 0 → Completes (.gdvFaultClear m (some n) v) s fun e =>
      e.word a = d.word a ∧ d.fired e 0) ∧
    (m.isHost = false → v.toNat % 8 ≠ 0 → Completes (.gdvFaultClear m none v) s fun e =>
      e.word R.GDV_FAULT = d.word R.GDV_FAULT ∧ d.fired e 0) ∧
    zeroed (.modRffLimcntClr m v) F.MOD_RFF_LIMCNT_COUNT ∧ zeroed (.gdvOcCntClr m v) F.GDV_OC_CNT_COUNT ∧
    zeroed (.grdXClr m n v) (F.GRD_n_X_XPK (n.val + 1)))

/-- R86, R316, R319, R369, R739, R741: the debug halts. None is granted while DBG_CTL.LOCK is set. A halt of STREAM holds
the gates as they are; after it the Guard counts as blind and in PLAY without a fault the shapers start anew. A halted
S that ran a block waits for the next boundary; that one found STOPPED or in FAULT returns there, and that a block
already complete is not passed, are the model's choices (log entry 31). -/
def Obligations.DebugHalts : Prop :=
  ∀ (s : State) (m : Master) (c : CoreId) (t : HaltTarget) (v : Word),
    let d := s.dev
    let st := d.cget .s F.ST_SSTATE_STATE
    let flag := fun (c : CoreId) => match c with
      | .c0 => F.DBG_STAT_C0_HALT
      | .c1 => F.DBG_STAT_C1_HALT
      | .s => F.DBG_STAT_S_HALT
    (d.coreRuns = true → d.masterMay m R.DBG_CTL v = true → Completes (.debugLock m v) s fun e =>
      e.get F.DBG_CTL_LOCK = (if v.getLsbD 0 then 1 else d.get F.DBG_CTL_LOCK) ∧ e = { d with regs := e.regs } ∧
      ∀ a, a ≠ R.DBG_CTL → e.word a = d.word a) ∧
    (d.get F.DBG_CTL_LOCK = 1 → exec (.tapHaltRequest t) s = .next s ∧ exec .streamDebugHalt s = .next s ∧
      exec .sDebugHalt s = .next s) ∧
    (d.coreRuns = true → d.get F.DBG_CTL_LOCK = 0 → c ≠ .s → (d.core c).run = .running ∨ (d.core c).run = .sleeping →
      Completes (.tapHaltRequest (.core c)) s fun e =>
        e.core c = { d.core c with run := .debug, dbgRun := (d.core c).run } ∧ e.get (flag c) = 1 ∧
        e.get F.DBG_STAT_TAP_ACTIVE = 1 ∧ ∀ c', c' ≠ c → e.core c' = d.core c') ∧
    (c ≠ .s → (d.core c).run = .debug → Completes (.tapRelease (.core c)) s fun e =>
      e.core c = { d.core c with run := (d.core c).dbgRun } ∧ e.get (flag c) = 0 ∧ e.mem = d.mem) ∧
    (d.coreRuns = true → d.get F.DBG_CTL_LOCK = 0 → Completes .streamDebugHalt s fun e =>
      e.stage = { d.stage with frozen := true, held := some (Vector.ofFn d.gateNow) } ∧ e.get F.MOD_STAT_FROZEN = 1 ∧ e.get F.DBG_STAT_STREAM_HALT = 1 ∧
      e.get F.DBG_STAT_TAP_ACTIVE = 1 ∧ e.mem = d.mem) ∧
    (d.stage.frozen = true → Completes .streamDebugResume s fun e =>
      e.stage.frozen = false ∧ e.get F.MOD_STAT_FROZEN = 0 ∧ e.get F.DBG_STAT_STREAM_HALT = 0 ∧
      (∀ i : Fin 4, e.guard.chan[i].forced = true) ∧
      (d.get F.PWR_STAT_STATE = 3 → d.word R.PWR_FAULT = 0 →
        (∀ i : Fin 4, e.stage.chan[i].x = .replicate 5 0 ∧ e.stage.chan[i].v = 0) ∧
        ∀ y : Fin 8, e.stage.half[y].fullRun = 0)) ∧
    (d.coreRuns = true → d.get F.DBG_CTL_LOCK = 0 → st ≠ 4 → Completes .sDebugHalt s fun e =>
      e.cget .s F.ST_SSTATE_STATE = 4 ∧ e.get F.DBG_STAT_S_HALT = 1 ∧ e.stream.dbgPrev = st ∧ e.stage = d.stage) ∧
    (st = 4 → d.stream.dbgPrev < 8 → Completes .sDebugResume s fun e =>
      e.cget .s F.ST_SSTATE_STATE = (if d.stream.dbgPrev = 1 then 2 else d.stream.dbgPrev) ∧
      e.get F.DBG_STAT_S_HALT = 0 ∧ e.stream.done = false ∧ e.mem = d.mem)

/-- R350 to R352, R356, R357, R367: the estimators of a Guard channel. A pilot window that is complete gives Re(Vp / Ip),
the current's amplitude and what the selection needs, and the pilot's amplitude follows ITGT / Ip within 1/2 to 2 and
up to 1/16; a complete broadband interval gives its report; both wait for the next boundary from their command on (the
model's choice, log entry 47). A blind spell ratchets, and after it ends the release begins once 30,000 blocks were
not blind, until T_est is at Tv. A lookahead word in error leaves as zero under its pilot. -/
def Obligations.GuardEstimators : Prop :=
  ∀ (s : State) (i : Fin 4) (j : Fin 16),
    let d := s.dev
    let n := i.val + 1
    let c := d.guard.chan[i]
    let used := d.guardUsed i = true
    let spell := d.get (F.GRD_n_BLINDT_BLOCKS n)
    let itgt : Rat := (d.get (F.GRD_n_PILOT_ITGT n) : Rat) / 1000
    let others := fun (e : Device) => ∀ k : Fin 4, k ≠ i → e.guard.chan[k] = d.guard.chan[k]
    (∀ w ap, c.winDone = some (w, ap) → 0 < w.used →
      let den := w.i.1 * w.i.1 + w.i.2 * w.i.2
      let re := (w.v.1 * w.i.1 + w.v.2 * w.i.2) / den
      let ip := 2 * ratSqrt den / w.used
      let prog := 2 * ratSqrt (w.y.1 * w.y.1 + w.y.2 * w.y.2) / w.used
      den ≠ 0 → ip ≠ 0 → exec (.pilotWindowEnd i) s = .next { s with dev := d.setGch i { c with
        winDone := none, pendP := some ⟨re, ip, prog, ap⟩
        ap := if c.pilotOn then min (1 / 16) (c.ap * max (1 / 2) (min 2 (itgt / ip))) else c.ap } }) ∧
    (c.winDone = none → exec (.pilotWindowEnd i) s = .next s) ∧
    (∀ r, c.bandDone = some r → exec (.broadbandReport i) s =
      .next { s with dev := d.setGch i { c with bandDone := none, pendB := some r } }) ∧
    (c.bandDone = none → exec (.broadbandReport i) s = .next s) ∧
    (d.get (F.GRD_n_STAT_BLIND n) = 1 → d.get (F.GRD_n_STAT_RATCHET n) = 0 ∨ d.get (F.GRD_n_STAT_RELEASE n) = 1 →
      d.blindBlocks ≤ spell → Completes (.estimatorBlind i) s fun e => e.get (F.GRD_n_STAT_RATCHET n) = 1 ∧
        e.get (F.GRD_n_STAT_RELEASE n) = 0 ∧ (e.get F.GRD_EVT_BLIND).testBit i.val = true ∧ d.fired e 36 ∧
        d.logged e [d.entry 36 1 n []] ∧ e.guard = d.guard ∧ e.get (F.GRD_n_STAT_BLIND n) = 1) ∧
    (spell < d.blindBlocks → exec (.estimatorBlind i) s = .next s) ∧
    (d.get (F.GRD_n_STAT_BLIND n) = 1 → d.get (F.GRD_n_STAT_RATCHET n) = 1 → d.get (F.GRD_n_STAT_RELEASE n) = 0 →
      d.get (F.GRD_n_STAT_BLONG n) = 0 → d.blindLongBlocks ≤ spell →
      Completes (.estimatorBlindLong i) s fun e => e.get (F.GRD_n_STAT_BLONG n) = 1 ∧
        (e.get F.GRD_EVT_BLONG).testBit i.val = true ∧ d.fired e 37 ∧
        e.tLimit i = (d.get (F.GRD_n_TH2_TMAX n) : Rat) - (d.get F.GRD_BLIND_MARGIN_VALUE : Rat)) ∧
    (spell < d.blindLongBlocks → exec (.estimatorBlindLong i) s = .next s) ∧
    (d.get (F.GRD_n_STAT_RECOV n) = 1 → 30000 ≤ c.recov → d.blindCounts = true → d.blindNow i = false →
      Completes (.guardRecovery i) s fun e =>
      e.get (F.GRD_n_STAT_BLIND n) = 0 ∧ e.get (F.GRD_n_STAT_BLONG n) = 0 ∧ e.get (F.GRD_n_STAT_RECOV n) = 0 ∧
      e.get (F.GRD_n_STAT_RELEASE n) = 1 ∧ e.get (F.GRD_n_BLINDT_BLOCKS n) = 0 ∧ others e ∧
      e.tLimit i = (d.get (F.GRD_n_TH2_TMAX n) : Rat) ∧ d.logged e [d.entry 142 1 n []]) ∧
    (c.recov < 30000 → exec (.guardRecovery i) s = .next s) ∧
    (d.get (F.GRD_n_STAT_RELEASE n) = 1 → c.atTv = true → Completes (.ratchetReleaseEnd i) s fun e =>
      e.get (F.GRD_n_STAT_RATCHET n) = 0 ∧ e.get (F.GRD_n_STAT_RELEASE n) = 0 ∧
      e = { d.setGch i { c with atTv := false } with regs := e.regs } ∧
      ∀ a, a ≠ R.GRD_n_STAT n → e.word a = d.word a) ∧
    (c.atTv = false → exec (.ratchetReleaseEnd i) s = .next s) ∧
    (d.running = true → used → j.val < d.stage.guardOut[i].length → Completes (.grdLineEcc i j) s fun e =>
      e.get F.GRD_EVT_ECC = 1 ∧
      e.eccAt (lineAddr i (d.get F.GRD_LINE_WP_INDEX + 512 + j.val - d.get F.GRD_CFG_LOOKAHEAD - 16)) = some .multi ∧
      e.stage.guardOut[i][j.val]? = some (clamp 32 (ratHalfEven (c.pilotOut.getD j.val 0 * 2 ^ 31))) ∧
      e.mem = d.mem ∧ ∀ k : Fin 4, k ≠ i → e.stage.guardOut[k] = d.stage.guardOut[k])

/-- R376, R377, R381 to R385, R388, R390: the load diagnostics. A run begins under the conditions of R384 alone; an abort
gives the channels that have no result ABORTED, once a test current or a sine has gone to zero; ABORT within a PLAY
entry refuses the entry with reason DIAG (the model's choice, log entry 43). At a boundary a step that has lasted goes
on to the next: a switch node beyond the limit fails its channel, and after step E the channel's DC resistance is
judged. A sweep point that has been measured writes its entries. A DC-on-load detector whose timer runs out latches
its fault, 5 % early at most (log entry 46). A hold clears for a host. -/
def Obligations.LoadDiagnostics : Prop :=
  ∀ (s : State) (m : Master) (mask : BitVec 4) (x : StepIn) (w : Vector SweepIn 4) (n : Fin 4) (v : Word) (vs : List Rat),
    let d := s.dev
    let word := fun (op : Nat) => BitVec.ofNat 32 (op + 256 * mask.toNat)
    let may := fun (op : Nat) => d.coreRuns = true ∧ d.masterMay m R.DIAG_CMD (word op) = true
    let begun := fun (sweep : Bool) (e : Device) => e.diag.run = some (.fresh sweep false (d.diagMask mask.toNat)) ∧
      e.get F.DIAG_STAT_RUN = (if sweep then 2 else 1) ∧ e.stage = d.stage ∧ e.pwr = d.pwr ∧ e.mem = d.mem
    let rejected := fun (e : Device) => e.diag = d.diag ∧ e.stage = d.stage ∧ d.fired e 0
    let inEntry := d.playEntering = true ∧ d.get F.PWR_STAT_PHASE = 1
    let goes := fun (r : DiagRun) (step : DiagStep) (e : Device) => ∃ q, e.diag.run = some q ∧ q.step = step ∧ q.blocks = 0 ∧
      q.mask = r.mask ∧ q.failed = r.failed ∧ q.results = r.results
    let dc := vs.foldl (DcDetector.step d.dcCorner ((d.get F.DIAG_DC_CFG_LEVEL : Rat) / 2)) d.diag.dc[n]
    let due := dc.timer ≠ 0 ∧ 912 * d.get F.DIAG_DC_TIME_TIME ≤ 100 * (dc.timer - 1)
    let acts := d.running = true ∧ (d.get F.DIAG_DC_CFG_EN).testBit n.val = true ∧ n.val < d.outputs
    (may 1 → (if d.diagMayStart false mask.toNat then Completes (.diagPrestart m mask) s (begun false)
      else Completes (.diagPrestart m mask) s rejected)) ∧
    (may 2 → (if d.diagMayStart true mask.toNat then Completes (.diagSweep m mask) s (begun true)
      else Completes (.diagSweep m mask) s rejected)) ∧
    (may 3 → ¬ inEntry → d.diag.run = none → Completes (.diagAbort m mask) s fun e => e = { d with regs := e.regs } ∧
      ∀ a, e.word a = d.word a) ∧
    (∀ r, may 3 → d.diag.run = some r →
      (r.step = .c ∨ r.step = .d ∨ r.step = .e ∨ r.step = .f → ¬ inEntry → Completes (.diagAbort m mask) s fun e =>
        e.diag.run = some { r with step := .fall, blocks := 0 } ∧ e.stage = d.stage) ∧
      (r.step = .sineIn ∨ r.step = .settle ∨ r.step = .measure ∨ r.step = .sineOut ∨ r.step = .gatesOff → ¬ inEntry →
        Completes (.diagAbort m mask) s fun e =>
          e.diag.run = some { r with step := .sineFall, blocks := 0 } ∧ e.stage = d.stage) ∧
      (r.step = .a ∨ r.step = .b ∨ r.step = .await ∨ r.step = .bootstrap → Completes (.diagAbort m mask) s fun e =>
        e.diag.run = none ∧ e.get F.DIAG_STAT_RUN = 0 ∧ e.get F.DIAG_EVT_ABORTED = 1 ∧ d.fired e 41 ∧
        (∀ i : Fin 4, r.mask.testBit i.val = true → e.get (F.DIAG_n_PRE_RESULT (i.val + 1)) =
          (if r.results[i].result = 0 then 7 else r.results[i].result) % 8) ∧
        (∀ i : Fin 4, r.mask.testBit i.val = false →
          e.get (F.DIAG_n_PRE_RESULT (i.val + 1)) = d.get (F.DIAG_n_PRE_RESULT (i.val + 1))))) ∧
    (may 3 → inEntry → Completes (.diagAbort m mask) s fun e => e.pwr.busy = .none ∧ e.get F.PWR_STAT_PHASE = 0 ∧
      e.get F.PWR_STAT_STATE = d.get F.PWR_STAT_STATE ∧
      (d.get F.PWR_CMD_STAT_RESULT = 1 → e.get F.PWR_CMD_STAT_RESULT = 3 ∧ e.get F.PWR_CMD_STAT_REASON = 6)) ∧
    (∀ r, d.diag.run = some r → r.begun = true → d.atBoundary = true → r.stepBlocks ≤ r.blocks →
      (r.step = .a → Completes (.prestartStepEnd x) s fun e =>
        ∃ q, e.diag.run = some q ∧ q.step = .b ∧ q.blocks = 0 ∧
          ∀ i : Fin 4, r.mask.testBit i.val = true → r.failed.testBit i.val = false → x.beyond[i].isSome = true →
            q.results[i].result = 2) ∧
      (r.step = .b → r.sweep = false → fieldOf r.cfg 1 1 = 1 → Completes (.prestartStepEnd x) s fun e =>
        ∃ q, e.diag.run = some q ∧ q.step = .c ∧ q.blocks = 0 ∧
          ∀ i : Fin 4, r.mask.testBit i.val = true → r.failed.testBit i.val = false → x.beyond[i].isSome = true →
            q.results[i].result = 3) ∧
      (r.step = .c → Completes (.prestartStepEnd x) s (goes r .d)) ∧
      (r.step = .d → Completes (.prestartStepEnd x) s (goes r .e)) ∧
      (r.step = .e → Completes (.prestartStepEnd x) s fun e => ∃ q, e.diag.run = some q ∧ q.step = .f ∧ q.blocks = 0 ∧
        ∀ i : Fin 4, r.mask.testBit i.val = true → r.failed.testBit i.val = false →
          let rdc := r.sum[i] / (16 * r.stepBlocks : Nat) / r.itest
          let mOhm := (ratHalfEven (rdc * 1000)).toNat
          (x.compliance[i] = true → q.results[i] = ⟨5, 0, false, some 0xFFFFF⟩) ∧
          (x.compliance[i] = false → q.results[i].rdc = some (min mOhm 0xFFFFF) ∧
            ((fieldOf r.limits[i] 16 16 : Rat) / 100 < rdc → q.results[i].result = 5) ∧
            (rdc ≤ (fieldOf r.limits[i] 16 16 : Rat) / 100 → rdc < (fieldOf r.limits[i] 0 16 : Rat) / 100 →
              q.results[i].result = 4))) ∧
      (r.step = .f → Completes (.prestartStepEnd x) s fun e => e.diag.run = none ∧ e.get F.DIAG_STAT_RUN = 0 ∧
        e.get F.DIAG_EVT_PRE_DONE = (if r.sweep then d.get F.DIAG_EVT_PRE_DONE else 1) ∧ d.fired e 41 ∧
        ∀ i : Fin 4, r.mask.testBit i.val = true → e.get (F.DIAG_n_PRE_RESULT (i.val + 1)) =
          (if r.results[i].result = 0 then 1 else r.results[i].result) % 8)) ∧
    (∀ r, d.diag.run = some r → r.blocks < r.stepBlocks ∨ d.atBoundary = false → exec (.prestartStepEnd x) s = .next s) ∧
    (∀ r, d.diag.run = some r → d.pointFull r = true → r.point < 64 → Completes (.sweepPointEnd w) s fun e =>
      e.diag.run = some { r with pointDone := true } ∧
      ∀ i : Fin 4, r.mask.testBit i.val = true →
        (e.word (F.DIAG_n_SW_m_WORD (i.val + 1) r.point 0).addr).toNat % 2 ^ 22 = r.pointFreq r.point % 2 ^ 22 ∧
        (0 ≤ w[i].mag → (e.word (F.DIAG_n_SW_m_WORD (i.val + 1) r.point 1).addr).toNat % 2 ^ 20 =
          min (ratHalfEven (w[i].mag * 1000)).toNat 1048575) ∧
        e.get (F.DIAG_n_SWST_NPTS (i.val + 1)) = min (d.get (F.DIAG_n_SWST_NPTS (i.val + 1)) + 1) 127) ∧
    (∀ r, d.diag.run = some r → d.pointFull r = false → exec (.sweepPointEnd w) s = .next s) ∧
    (acts → due → (d.word R.PWR_FAULT).getLsbD 9 = false → (d.word (R.GDV_CH_FAULT_n n.val)).getLsbD 3 = false →
      Completes (.dcOnLoad n vs) s fun e =>
        (e.word (R.GDV_CH_FAULT_n n.val)).getLsbD 3 = true ∧ (e.word R.PWR_FAULT).getLsbD 9 = true ∧
        e.get F.PWR_STAT_STATE = 4 ∧ e.diag.dc[n] = dc) ∧
    (acts → ¬ due → Completes (.dcOnLoad n vs) s fun e =>
      e = { d with regs := e.regs, diag := { d.diag with dc := d.diag.dc.set n dc } } ∧
      ((e.get F.DIAG_STAT_DC_NOW).testBit n.val = true ↔ (d.get F.DIAG_DC_CFG_LEVEL : Rat) / 2 ≤ |dc.y|) ∧
      ∀ a, a ≠ R.DIAG_STAT → e.word a = d.word a) ∧
    (¬ acts → Completes (.dcOnLoad n vs) s fun e =>
      e = { d with regs := e.regs, diag := { d.diag with dc := d.diag.dc.set n ⟨0, 0, 0⟩ } } ∧
      (e.get F.DIAG_STAT_DC_NOW).testBit n.val = false ∧ ∀ a, a ≠ R.DIAG_STAT → e.word a = d.word a) ∧
    (d.coreRuns = true → m.isHost = true → d.masterMay m R.DIAG_HOLD v = true → Completes (.diagHoldClear m v) s fun e =>
      (∀ i < 4, (e.get F.DIAG_HOLD_HOLD).testBit i = ((d.get F.DIAG_HOLD_HOLD).testBit i && !v.getLsbD i)) ∧
      e = { d with regs := e.regs } ∧ ∀ a, a ≠ R.DIAG_HOLD → e.word a = d.word a) ∧
    (d.coreRuns = true → m.isHost = false → v.toNat % 16 ≠ 0 → Completes (.diagHoldClear m v) s fun e =>
      e.get F.DIAG_HOLD_HOLD = d.get F.DIAG_HOLD_HOLD ∧ d.fired e 0)

/-- R449, R450, R451, R456: what ends an attempt of the chain master's command: a reply, NAK_BUSY, a corrupt frame, a
timeout. A reply ends the command, and the mailbox shows it; three retries follow a timeout, then the same from the
other side, then the companion is UNREACHABLE. R455, R472, R478: a mailbox. GO queues the command; on a free chain it
leaves for its companion with the companion's next sequence number; one that R472 refuses ends REJECTED; GO to a
mailbox in use is rejected. -/
def Obligations.ChainCommandsEnd : Prop :=
  (∀ (s : State) (j : Job) (status : Nat) (p bytes : List Byte) (delta ticks : Nat),
    let d := s.dev
    let k := j.addr
    let replyTime := if j.opcode = 5 then usToTicks 2000000
      else max (usToTicks (d.get F.SHL_TIMING_RTO * 1000)) (2 * d.get F.SHL_LOOPDLY_DLY + usToTicks 2000)
    let late := replyTime ≤ ticks
    let reply := chainFrame (128 + k) j.opcode j.seq p.length status p
    let fits := 1 ≤ k ∧ k ≤ 64 ∧ j.opcode < 256 ∧ j.seq < 256 ∧ status < 256 ∧ p.length ≤ 64
    let heard : Vector Bool 2 := match j.side with
      | .a => d.shl.jam.set 0 false
      | .b => d.shl.jam.set 1 false
    (d.shl.cur = none → ∀ side, exec (.chainReply side bytes delta) s = .next s ∧ exec .nakBusyResend s = .next s ∧
      exec (.attemptTimeout ticks) s = .next s) ∧
    (d.shl.cur = some j → d.limp = true → exec (.attemptTimeout ticks) s = .next s ∧ exec .nakBusyResend s = .next s) ∧
    (d.shl.cur = some j → j.waits = true ∨ ¬ late → exec (.attemptTimeout ticks) s = .next s) ∧
    (d.shl.cur = some j → j.waits = false → exec .nakBusyResend s = .next s) ∧
    (d.shl.cur = some j → j.waits = true → d.limp = false →
      Completes .nakBusyResend s fun e =>
        e = d.chainSent [j.frame] fun m => { m with cur := some { j with waits := false } }) ∧
    (d.shl.cur = some j → j.waits = false → d.limp = false →
      (late → j.tries < 3 → Completes (.attemptTimeout ticks) s fun e =>
        e.shl = { d.shl with cur := some { j with tries := j.tries + 1, busy := 0 }, sent := (j.frame :: d.shl.sent).take 8 } ∧
        e.get F.SHL_CNT_RETRY = min (d.get F.SHL_CNT_RETRY + 1) (2 ^ F.SHL_CNT_RETRY.width - 1) ∧ d.fired e 82) ∧
      (late → 3 ≤ j.tries → j.reversed = false → j.kind.oneSide = false → k ≤ 64 → Completes (.attemptTimeout ticks) s fun e =>
        let j' := { j with side := j.side.other, tries := 0, reversed := true, busy := 0 }
        e.shl = { d.shl with cur := some j', sent := (j'.frame :: d.shl.sent).take 8 } ∧
        (e.get F.SHL_EVT_EVT).testBit 3 = true ∧ d.fired e 84 ∧
        d.logged e [d.entry 84 (sourceSev 84) j.addr []]) ∧
      (∀ m : Fin 4, m.val < 2 → j.kind = .mailbox m → late → 3 ≤ j.tries → j.reversed = true → 1 ≤ k → k ≤ 64 →
        { d with shl.cur := none }.chainQuiet → d.shl.cycle = none → Completes (.attemptTimeout ticks) s fun e =>
          e.shl.cur = none ∧ e.reach k = 3 ∧ e.get (F.SHL_MB_RES_m_STATE m) = 3 ∧ e.get (F.SHL_MB_RES_m_RESULT m) = 1 ∧
          (j.seq ≠ 0 → e.get (F.SHL_Ck_STAT_PEND k) = 1 ∧ e.get (F.SHL_Ck_STAT_OUT k) = 0) ∧ d.fired e 81) ∧
      (fits → status = 6 → j.busy < 19 → exec (.chainReply j.side reply delta) s =
        .next { s with dev := { d with shl := { d.shl with
          jam := heard, cur := some { j with busy := j.busy + 1, waits := true } } } }) ∧
      (7 ≤ bytes.length → (bytes.drop 5).take 2 ≠ beBytes2 (crc16 (bytes.take 5)) →
        Completes (.chainReply j.side bytes delta) s fun e =>
          e = { d with shl := { d.shl with jam := heard }, regs := e.regs } ∧
          e.get F.SHL_CNT_HCRC = min (d.get F.SHL_CNT_HCRC + 1) (2 ^ F.SHL_CNT_HCRC.width - 1) ∧
          ∀ a, a ≠ R.SHL_CNT → e.word a = d.word a) ∧
      (∀ m : Fin 4, m.val < 2 → j.kind = .mailbox m → fits → status ≠ 2 → status ≠ 6 → status ≠ 10 →
        { d with shl.cur := none }.chainQuiet → d.shl.cycle = none → d.get (F.SHL_Ck_STAT_PEND k) = 0 →
        Completes (.chainReply j.side reply delta) s fun e =>
          e.shl.cur = none ∧ e.reach k = j.side.idx + 1 ∧ e.get (F.SHL_MB_RES_m_STATE m) = 3 ∧
          e.get (F.SHL_MB_RES_m_RESULT m) = 0 ∧ e.get (F.SHL_MB_RES_m_STATUS m) = status ∧
          e.get (F.SHL_MB_RES_m_RLEN m) = p.length ∧ e.get (F.SHL_MB_RES_m_SEQ m) = j.seq ∧ d.fired e 81 ∧
          (j.seq ≠ 0 → e.get (F.SHL_Ck_STAT_NEXTSEQ k) = (if j.seq = 255 then 1 else j.seq + 1) ∧
            e.get (F.SHL_Ck_STAT_OUT k) = 0)))) ∧
  (∀ (s : State) (m : Master) (b : Fin 4) (v : Word),
    let d := s.dev
    let a := R.SHL_MB_CTL_m b.val
    let k := v.toNat % 128
    let op := v.toNat / 256 % 256
    let len := v.toNat / 65536 % 128
    let st := d.get (F.SHL_MB_RES_m_STATE b)
    let base := d.get (F.SHL_MB_BUF_m_ADDR b) * 4
    let payload := d.bytes base len
    d.coreRuns = true → d.masterMay m a v = true → v.getLsbD 31 = true →
    (st = 1 ∨ st = 2 → Completes (.mailboxGo m b v) s fun e => e.word a = d.word a ∧ e.shl = d.shl ∧ d.fired e 0) ∧
    (st = 0 ∨ st = 3 → 1 ≤ k → k ≤ 64 → (op = 1 ∨ op = 4 ∨ op = 0x0A ∨ op = 0x0B ∨ op = 0x0D ∨ 0x0F ≤ op) → len ≤ 64 →
      (d.shl.role = false → Completes (.mailboxGo m b v) s fun e =>
        e.get (F.SHL_MB_CTL_m_ADDR b) = k ∧ e.get (F.SHL_MB_CTL_m_OPCODE b) = op ∧ e.get (F.SHL_MB_CTL_m_LEN b) = len ∧
        e.get (F.SHL_MB_RES_m_STATE b) = 1 ∧ e.get (F.SHL_MB_RES_m_SEQ b) = 0 ∧
        e = { d with shl := { d.shl with mbq := d.shl.mbq ++ [b] }, regs := e.regs } ∧
        ∀ x, x ≠ a → x ≠ R.SHL_MB_RES_m b → e.word x = d.word x) ∧
      (b.val < 2 → d.chainQuiet → d.shl.cycle = none → d.get (F.SHL_Ck_STAT_PEND k) = 1 → Completes (.mailboxGo m b v) s fun e =>
        e.get (F.SHL_MB_RES_m_STATE b) = 3 ∧ e.get (F.SHL_MB_RES_m_RESULT b) = 2 ∧ e.shl = d.shl ∧ d.fired e 81) ∧
      (b.val < 2 → d.chainQuiet → d.shl.cycle = none → d.get (F.SHL_Ck_STAT_PEND k) = 0 → d.chainStranger k = false →
        d.reachable k = true → (∀ i < (len + 3) / 4, d.eccAt (base + 4 * i) = none) → Completes (.mailboxGo m b v) s fun e =>
          let seq := if op = 0x0B ∨ 0x0F ≤ op then d.get (F.SHL_Ck_STAT_NEXTSEQ k) else 0
          let j : Job := ⟨k, op, seq, payload, .mailbox b, if d.reach k = 2 then .b else .a, 0, false, 0, false⟩
          e.get (F.SHL_MB_RES_m_STATE b) = 2 ∧ e.mem = d.mem ∧
          e.shl = { d.shl with cur := some j, sent := (j.frame :: d.shl.sent).take 8 } ∧
          (seq ≠ 0 → e.get (F.SHL_Ck_STAT_OUT k) = 1))))

/-- R453, R454, R482: the broadcasts of the loop. One that arrives at SHL_B gives the loop delay, one that does not starts
the location of the break, a LOOP frame that arrives in SPLIT heals the chain, and a jammed port is reversed around. -/
def Obligations.ChainLoop : Prop :=
  ∀ (s : State) (dly ticks : Nat) (side : Side),
    let d := s.dev
    let late := d.get F.SHL_LOOPDLY_DLY + usToTicks 5000 ≤ ticks
    let alone := d.shl.enum = none ∧ d.shl.jobs = [] ∧ d.shl.mbq = [] ∧ d.shl.cycle = none
    let places := (List.range (d.get F.SHL_CFG_NCOMP)).map (· + 1)
    (d.shl.role = false ∨ d.shl.bcast = false ∨ d.get F.SHL_STAT_STATE = 3 → exec (.loop dly) s = .next s) ∧
    (d.shl.role = true → d.shl.bcast = true → d.get F.SHL_STAT_STATE ≠ 3 → d.shl.enum = none → Completes (.loop dly) s fun e =>
      e = { d with shl := { d.shl with bcast := false, jam := d.shl.jam.set 1 false }, regs := e.regs } ∧
      e.get F.SHL_LOOPDLY_DLY = min dly 0xFFFFFF ∧ ∀ a, a ≠ R.SHL_LOOPDLY → e.word a = d.word a) ∧
    (∀ r, d.shl.role = true → d.shl.bcast = true → d.get F.SHL_STAT_STATE ≠ 3 → d.shl.enum = some r → r.waitLoop = true →
      (∀ k ∈ places, k ∈ r.foundA) → d.shl.jobs = [] → d.shl.mbq = [] → d.shl.cycle = none → Completes (.loop dly) s fun e =>
        e.get F.SHL_STAT_STATE = 2 ∧ e.shl.enum = none ∧ (e.get F.SHL_EVT_EVT).testBit 0 = true ∧ d.fired e 80 ∧
        ∀ k ∈ places, e.reach k = 1) ∧
    (d.shl.bcast = false ∨ ¬ late → exec (.broadcastLoss ticks) s = .next s) ∧
    (late → d.shl.bcast = true → d.shl.enum = none → d.get F.SHL_STAT_STATE ≠ 2 →
      exec (.broadcastLoss ticks) s = .next { s with dev := { d with shl := { d.shl with bcast := false } } }) ∧
    (late → d.shl.bcast = true → d.get F.SHL_STAT_STATE = 2 → d.chainQuiet → Completes (.broadcastLoss ticks) s fun e =>
      e = d.chainSent [(.a, chainFrame 1 1 0 0 0 [])] fun m =>
        { m with bcast := false, locate := some ⟨.a, 1, 0, d.get F.SHL_CFG_NCOMP + 1⟩,
                 cur := some ⟨1, 1, 0, [], .locate, .a, 0, false, 0, false⟩ }) ∧
    (late → d.shl.bcast = true → d.get F.SHL_STAT_STATE = 2 → d.shl.enum = none → d.shl.cur ≠ none →
      exec (.broadcastLoss ticks) s = .next { s with dev := { d with shl := { d.shl with bcast := false, wantLocate := true } } }) ∧
    (d.shl.role = false ∨ d.get F.SHL_STAT_STATE ≠ 3 ∨ d.shl.bcast = false → exec .chainHeal s = .next s) ∧
    (d.shl.role = true → d.get F.SHL_STAT_STATE = 3 → d.shl.bcast = true → alone → d.shlFree = true →
      d.shl.wokeNeeded = false → Completes .chainHeal s fun e =>
        e.get F.SHL_STAT_STATE = 2 ∧ (e.get F.SHL_EVT_EVT).testBit 2 = true ∧ d.logged e [d.entry 147 1 0 []] ∧
        ∀ k ∈ places, e.reach k = if d.reach k = 1 ∨ d.reach k = 2 then 1 else d.reach k) ∧
    (d.shl.role = false → exec (.portJam side) s = .next s) ∧
    (d.shl.role = true → Completes (.portJam side) s fun e =>
      let other := d.shl.jam.toList.getD side.other.idx false
      e.shl.jam.toList.getD side.idx false = true ∧ e.shl.cur = d.shl.cur ∧ d.logged e [d.entry 148 1 side.idx []] ∧
      ∀ k ∈ places, e.reach k =
        if other = true ∧ (d.reach k = 1 ∨ d.reach k = 2) then 3
        else if d.reach k = side.idx + 1 then side.other.idx + 1 else d.reach k)

/-- R453, R454, R458, R460, R461, R464, R469, R475: what the chain master sends. On a free chain the frame leaves at once
when its time has passed: TIME_SET, the LOOP frame, the first command of an enumeration (of SHL_CTL, or while a mapped
position is missing), of a delay measurement and of a sample cycle's reads, UNASSIGN and SLEEP; a SLEEP that meets a
command in progress waits. WAKE starts the tone. -/
def Obligations.ChainSends : Prop :=
  ∀ (s : State) (m : Master) (v : Word) (ms : Nat),
    let d := s.dev
    let sync := d.get F.SHL_TIMING_SYNCP ≤ ms
    let probe := d.get F.SHL_TIMING_PROBE * 10 ≤ ms
    let measure := d.get F.SHL_TIMING_DLYP * 100 ≤ ms
    let idle := d.chainQuiet ∧ d.shl.cycle = none
    let split := d.get F.SHL_STAT_STATE = 3
    let ctl := d.coreRuns = true ∧ d.masterMay m R.SHL_CTL v = true
    let places := (List.range (d.get F.SHL_CFG_NCOMP)).map (· + 1)
    let near := fun k => places.filter (fun k => d.reach k == 1 || d.reach k == 2) |>.contains k
    let broadcast := fun (op : Nat) (p : List Byte) =>
      if split then [(Side.b, chainFrame 127 op 0 p.length 64 p), (Side.a, chainFrame 127 op 0 p.length 0 p)]
      else [(Side.a, chainFrame 127 op 0 p.length 0 p)]
    let time := chainTime d.clk.rt
    let first := jobFrom 1 1 [] .enumStatus .a
    let next := fun (e : Device) => (Host.Outcome.next { s with dev := e } : Host.Outcome State Fault Refusal)
    let loops := d.chainSent [(.a, chainFrame 127 14 0 0 0 [])] fun x => { x with bcast := true }
    (d.shl.role = false ∨ d.limp = true ∨ ¬ sync → exec (.timeSetSend ms) s = .next s) ∧
    (idle → sync → exec (.timeSetSend ms) s = next (d.chainSent (broadcast 7 (leBytes 4 (time / 256) ++ leBytes 1 (time % 256))) fun x =>
      { x with bcast := x.bcast || !decide split })) ∧
    (d.shl.role = false ∨ d.get F.SHL_STAT_STATE ≠ 2 ∨ ¬ sync → exec (.loopSend ms) s = .next s) ∧
    (idle → d.get F.SHL_STAT_STATE = 2 → sync → exec (.loopSend ms) s = next loops) ∧
    (d.shl.role = false ∨ d.limp = true ∨ d.shl.enum ≠ none ∨ ¬ probe → exec (.chainProbe ms) s = .next s) ∧
    (idle → ¬ split → (∀ k ∈ places, d.get (F.SHL_Ck_MAP_NCELL k) ≠ 0 → near k = true) → exec (.chainProbe ms) s = .next s) ∧
    (idle → probe → split → (∀ k ∈ places, d.reach k ≠ 3) → (∀ k ∈ places, d.get (F.SHL_Ck_MAP_NCELL k) ≠ 0 → near k = true) →
      exec (.chainProbe ms) s = next loops) ∧
    (idle → probe → (∃ k ∈ places, d.get (F.SHL_Ck_MAP_NCELL k) ≠ 0 ∧ near k = false) → Completes (.chainProbe ms) s fun e =>
      e.get F.SHL_STAT_STATE = 1 ∧ e.shl.cur = some first ∧ e.shl.sent = (first.frame :: d.shl.sent).take 8) ∧
    (ctl → d.shl.role = false → ∀ c ∈ [Instr.shlCtlEnum m v, .shlCtlWake m v, .shlCtlSleep m v, .shlCtlUnassign m v],
      Completes c s fun e => d.wrote e []) ∧
    (ctl → idle → v.toNat % 16 = 1 → Completes (.shlCtlEnum m v) s fun e =>
      e.get F.SHL_STAT_STATE = 1 ∧ e.shl.cur = some first ∧ e.shl.sent = (first.frame :: d.shl.sent).take 8 ∧
      e.shl.bcast = false) ∧
    (ctl → idle → v.toNat % 16 = 2 → Completes (.shlCtlUnassign m v) s fun e => e = { d.chainSent (broadcast 3 []) fun x =>
        { x with unassigned := true, bcast := x.bcast || !decide split } with regs := e.regs } ∧ ∀ a, e.word a = d.word a) ∧
    (ctl → idle → v.toNat % 16 = 4 → Completes (.shlCtlSleep m v) s fun e => e = { d.chainSent (broadcast 13 []) fun x =>
        { x with wokeNeeded := true, bcast := x.bcast || !decide split } with regs := e.regs } ∧ ∀ a, e.word a = d.word a) ∧
    (ctl → d.shl.role = true → d.shl.cur ≠ none → v.toNat % 16 = 4 → Completes (.shlCtlSleep m v) s fun e =>
      e = { d with shl := { d.shl with wantSleep := true }, regs := e.regs } ∧ ∀ a, e.word a = d.word a) ∧
    (ctl → d.shl.role = true → v.toNat % 16 = 8 → Completes (.shlCtlWake m v) s fun e =>
      e = { d with shl := { d.shl with toneOn := true }, regs := e.regs } ∧ ∀ a, e.word a = d.word a) ∧
    (idle → measure → d.get F.SHL_STAT_STATE = 2 ∨ split →
      (places.filter near = [] → exec (.delayMeasure ms) s = .next s) ∧
      (∀ k t, places.filter near = k :: t → Completes (.delayMeasure ms) s fun e =>
        e.shl.cur = some (jobFrom k 6 [] (.delay false) (if d.reach k = 2 then .b else .a)) ∧
        e.shl.jobs.length = (if split then 1 else 2) * (t.length + 1) - 1)) ∧
    (d.shl.role = false ∨ d.limp = true ∨ d.get F.SHL_STAT_STATE < 2 ∨ ¬ measure → exec (.delayMeasure ms) s = .next s) ∧
    (d.shl.cycle = none → exec .sampleReadStart s = .next s) ∧
    (∀ c, d.shl.cycle = some c → c.sent = true → c.begun = false → d.chainQuiet → ∀ k t, d.readOrder = k :: t →
      Completes .sampleReadStart s fun e =>
        let side : Side := if d.reach k = 2 then .b else .a
        e.shl.cur = some (jobFrom k 9 (leBytes 2 c.id) .read side) ∧
        (∃ c', e.shl.cycle = some c' ∧ c'.id = c.id ∧ c'.ts = c.ts ∧ c'.begun = true ∧ c'.toRead = t) ∧
        e.shl.sent = ((side, chainFrame k 9 0 2 (64 * side.idx) (leBytes 2 c.id)) :: d.shl.sent).take 8)

/-- R468, R469, R485, R506: the wake tone at the master and at a companion, and the counters of the chain. R148, R149: an
edge of a wake-capable source while the CORE domain is stopped, or until the last latch has been taken, sets its latch
where AON runs. -/
def Obligations.WakeTonesAndLatches : Prop :=
  (∀ (s : State) (k : Fin 64) (m : Master) (v : Word),
    let d := s.dev
    let c := d.companion k
    (d.shl.toneOn = true → exec (.chnWake none) s = .next s) ∧
    (d.shl.toneOn = false → d.running = true → Completes (.chnWake none) s fun e =>
      (e.get F.SHL_EVT_EVT).testBit 7 = true ∧ d.fired e 85 ∧ e.shl = d.shl) ∧
    (d.shl.toneOn = false → d.running = false → d.limp = false → Completes (.chnWake none) s fun e =>
      (e.get F.EVC_WLATCH_LATCH).testBit 5 = true ∧ e = { d with regs := e.regs } ∧
      ∀ a, a ≠ R.EVC_WLATCH → e.word a = d.word a) ∧
    (d.shl.toneOn = false → exec (.wakeToneEnd none) s = .next s) ∧
    (d.shl.toneOn = true → { d with shl.toneOn := false }.chainQuiet → d.shl.cycle = none →
      exec (.wakeToneEnd none) s = .next { s with dev := { d with shl := { d.shl with toneOn := false } } }) ∧
    (c.powered = false → exec (.chnWake (some k)) s = .next s) ∧
    (c.powered = true → c.asleep = false →
      exec (.chnWake (some k)) s = .next { s with dev := d.withCompanion k { c with toneOn := true } }) ∧
    (c.powered = true → c.asleep = true → Completes (.chnWake (some k)) s fun e =>
      let c' := e.companion k
      e = d.withCompanion k c' ∧ c'.asleep = false ∧ c'.toneOn = true ∧ c'.tsync = false ∧
      (c'.get F.XM_WAKE_WHY_WHY).testBit 0 = true ∧ c'.addr = c.addr ∧ c'.nextSeq = c.nextSeq ∧ c'.cache = c.cache) ∧
    exec (.wakeToneEnd (some k)) s = .next { s with dev := d.withCompanion k { c with toneOn := false } } ∧
    (d.coreRuns = true → d.masterMay m R.SHL_CNT2 v = true → Completes (.shlCntClr m v) s fun e =>
      e = { d with regs := e.regs } ∧ (∀ a, a ≠ R.SHL_CNT → a ≠ R.SHL_CNT2 → e.word a = d.word a) ∧
      (v.getLsbD 31 = true → e.get F.SHL_CNT_HCRC = 0 ∧ e.get F.SHL_CNT_RETRY = 0 ∧ e.get F.SHL_CNT2_SKIP = 0 ∧
        e.get F.SHL_CNT2_PCRC = 0) ∧
      (v.getLsbD 31 = false → ∀ a, e.word a = d.word a))) ∧
  (∀ (s : State) (k : Fin 9), (s.dev.coreRuns = false ∨ s.dev.evc.taking = true) → s.dev.aonRuns = true →
    Completes (.wakeLatchSet k) s fun e =>
      s.dev.wrote e [(R.EVC_WLATCH, putField (s.dev.word R.EVC_WLATCH) 0 9
        (s.dev.get F.EVC_WLATCH_LATCH ||| 2 ^ k.val))] ∧
      e.get F.EVC_WLATCH_LATCH = s.dev.get F.EVC_WLATCH_LATCH ||| 2 ^ k.val)

/-- R441, R443 to R446, R455, R489, R505, R507: the commands that a companion answers. It acts on none while it has no
address; a wrong payload CRC and a wrong length are answered as such; STATUS, READ_ID, DELAY_PROBE, READ_SAMPLE,
READ_REG, COLLECT and CHALLENGE reply and change nothing else of note; a sequenced command runs once, at NEXTSEQ, and
is answered from the cache at LASTSEQ. -/
def Obligations.CompanionReplies : Prop :=
  ∀ (s : State) (k : Fin 64) (f : ChainIn) (dt : Nat) (op : Byte),
    let d := s.dev
    let c := d.companion k
    let sends := fun (o st : Nat) (p : List Byte) (c' : Companion) =>
      { c' with out := some (f.port, chainFrame (128 + c.addr) o f.seq.toNat p.length st p) }
    let now := fun (i : Instr) (c' : Companion) => exec i s = .next { s with dev := d.withCompanion k c' }
    let seq := f.seq.toNat
    let ran := fun (o : Nat) (r : Companion × Nat × List Byte) => sends o r.2.1 r.2.2
      { r.1 with cache := some r.2, lastSeq := seq, lastOp := o, nextSeq := if seq = 255 then 1 else seq + 1 }
    let plain := [(1, Instr.chainStatus k f), (4, .readId k f), (6, .delayProbe k f), (9, .readSample k f),
      (10, .readReg k dt f), (12, .collect k f)]
    let sequenced := [(11, Instr.writeReg k f), (op.toNat, .chainUndefinedOpcode k op false f)]
    (c.acts = false → (∀ x ∈ plain ++ sequenced, exec x.2 s = .next s) ∧ exec (.sleep k false f) s = .next s) ∧
    (c.acts = true → f.pcrcOk = false →
      (∀ x ∈ plain ++ sequenced, now x.2 (sends x.1 10 [] c)) ∧ now (.sleep k false f) (sends 13 10 [] c)) ∧
    (c.acts = true → f.pcrcOk = true →
      (f.payload.length ≠ 0 → now (.chainStatus k f) (sends 1 3 [] c) ∧ now (.readId k f) (sends 4 3 [] c) ∧
        now (.delayProbe k f) (sends 6 3 [] c) ∧ now (.sleep k false f) (sends 13 3 [] c)) ∧
      (f.payload.length ≠ 2 → now (.readSample k f) (sends 9 3 [] c) ∧ now (.readReg k dt f) (sends 10 3 [] c)) ∧
      (f.payload.length ≠ 1 → now (.collect k f) (sends 12 3 [] c)) ∧
      (f.payload = [] →
        now (.chainStatus k f) (sends 1 0 ([c.nextSeq, c.lastSeq, c.lastOp, c.cache.isSome.toNat + 2 * c.boot.toNat,
          f.hops.toNat, c.get F.XM_ID_REV, 0, 0].map (BitVec.ofNat 8)) { c with boot := false }) ∧
        now (.readId k f) (sends 4 0 (leBytes 64 c.key.toNat).reverse c) ∧
        now (.delayProbe k f) (sends 6 0 [] c)) ∧
      (f.payload.length = 2 →
        (c.conv ≠ none → now (.readSample k f) (sends 9 6 [] c)) ∧
        (c.conv = none → ∀ r, c.reply = some r → ofLe f.payload = c.get F.XM_SAMPID_ID →
          now (.readSample k f) (sends 9 0 r c)) ∧
        (c.conv = none → c.reply = none ∨ ofLe f.payload ≠ c.get F.XM_SAMPID_ID →
          now (.readSample k f) (sends 9 9 [] c))) ∧
      (∀ a n : Byte, f.payload = [a, n] →
        (n = 0 ∨ 16 < n.toNat → now (.readReg k dt f) (sends 10 3 [] (c.after dt))) ∧
        (n ≠ 0 → n.toNat ≤ 16 → (∃ i < n.toNat, xmReg (a.toNat + i) = none) →
          now (.readReg k dt f) (sends 10 4 [] (c.after dt))) ∧
        (n ≠ 0 → n.toNat ≤ 16 → (∀ i < n.toNat, xmReg (a.toNat + i) ≠ none) →
          Completes (.readReg k dt f) s fun e =>
            let c' := e.companion k
            e = d.withCompanion k c' ∧ c'.time = (c.time + dt) % 2 ^ 40 ∧
            c' = { c with time := c'.time, regs := c'.regs, out := c'.out } ∧
            (∀ g : Fld, g.addr ≠ F.XM_CTIME_H_US.addr → c'.get g = c.get g) ∧
            (a.toNat ≤ 12 → 12 < a.toNat + n.toNat → c'.get F.XM_CTIME_H_US = c'.time / 2 ^ 24) ∧
            c'.out = some (f.port, chainFrame (128 + c.addr) 10 seq (2 * n.toNat) 0
              ((List.range n.toNat).flatMap fun i => leBytes 2 (c'.readWord (a.toNat + i)))))) ∧
      (f.payload.length = 1 →
        (∀ r, c.cache = some r → ofLe f.payload = c.lastSeq → now (.collect k f) (sends 12 r.1 r.2 c)) ∧
        (c.cache = none ∨ ofLe f.payload ≠ c.lastSeq → now (.collect k f) (sends 12 8 [] c))) ∧
      (seq = c.nextSeq → now (.writeReg k f) (ran 11 (c.execWrite f.payload)) ∧
        now (.chainUndefinedOpcode k op false f) (ran op.toNat (c, 1, []))) ∧
      (seq ≠ c.nextSeq → ∀ r, c.cache = some r → seq = c.lastSeq →
        ∀ x ∈ sequenced, now x.2 (sends x.1 r.1 r.2 c)) ∧
      (seq ≠ c.nextSeq → c.cache = none ∨ seq ≠ c.lastSeq →
        ∀ x ∈ sequenced, now x.2 (sends x.1 2 [BitVec.ofNat 8 c.nextSeq] c)) ∧
      (f.payload.length = 16 → exec (.chainChallenge k f) s = .next { s with dev :=
        { d.withCompanion k (sends 5 0 (beBytes 64 (Config.signature c.key (BitVec.ofNat 256
            (beNat (proofDigest shorContext ownTag (ofLe f.payload) (keyTag (beBytes 64 c.key.toNat))))) d.freshN).toNat) c)
          with freshN := d.freshN + 1 } })) ∧
    (c.hears = false → exec (.chainUndefinedOpcode k op true f) s = .next s) ∧
    (c.hears = true → now (.chainUndefinedOpcode k op true f) { c with undef := c.undef + 1 })

/-- R444, R457, R439, R442, R502, R505, R507: addressing, repeating, sleeping and register writes. A companion takes an
address once, repeats what is not for it with one hop more, sleeps with balancing off, and a write of a register sets
its fields, or is refused for its address, its value or the lock. -/
def Obligations.CompanionDuties : Prop :=
  ∀ (s : State) (k : Fin 64) (f : ChainIn) (port : Side) (bytes : List Byte) (a t lo hi : Byte),
    let d := s.dev
    let c := d.companion k
    let now := fun (i : Instr) (c' : Companion) => exec i s = .next { s with dev := d.withCompanion k c' }
    let sends := fun (o st : Nat) (c' : Companion) =>
      { c' with out := some (f.port, chainFrame (128 + c'.addr) o f.seq.toNat 0 st []) }
    let next := f.seq.toNat = c.nextSeq ∧ c.acts = true ∧ f.pcrcOk = true
    let status := fun (i : Instr) (st : Nat) (p : Companion → Prop) => Completes i s fun e =>
      let c' := e.companion k
      e = d.withCompanion k c' ∧ c'.cache = some (st, []) ∧ c'.lastSeq = c.nextSeq ∧ p c'
    let asleep := fun (c' : Companion) => c'.asleep = true ∧ c'.balEn = 0 ∧ c'.pend = none ∧ c'.conv = none ∧ c'.owRun = false ∧
      c'.get F.XM_BAL_ACT_L_ACT = 0 ∧ c'.get F.XM_BAL_ACT_H_ACT = 0 ∧ c'.addr = c.addr ∧ c'.nextSeq = c.nextSeq ∧
      c'.get F.XM_WAKE_WHY_WHY = 0
    let v := lo.toNat + 256 * hi.toNat
    (c.hears = true → c.addr = 0 → f.pcrcOk = true → f.payload = [a, t] → 1 ≤ a.toNat → a.toNat ≤ 64 → t.toNat ≤ 1 →
      now (.assign k f) (sends 2 0 { c with addr := a.toNat, faceA := if t = 0 then f.port else f.port.other })) ∧
    (c.hears = false ∨ c.addr ≠ 0 → exec (.assign k f) s = .next s) ∧
    (c.hears = true → now (.unassign k) { c with addr := 0 }) ∧
    (c.hears = false → exec (.unassign k) s = .next s ∧ exec (.sleep k true f) s = .next s) ∧
    (c.acts = false → exec (.frameRepeat k port bytes) s = .next s) ∧
    (c.acts = true → bytes.length < 7 ∨ (bytes.drop 5).take 2 ≠ beBytes2 (crc16 (bytes.take 5)) →
      Completes (.frameRepeat k port bytes) s fun e =>
        let c' := e.companion k
        e = d.withCompanion k c' ∧ c' = { c with regs := c'.regs } ∧
        c'.get F.XM_ERRCNT_HCRC = min (c.get F.XM_ERRCNT_HCRC + 1) 255) ∧
    (∀ b0 o sq len : Nat, ∀ hops : BitVec 6, ∀ up : Nat, ∀ p : List Byte,
      b0 < 256 → o < 256 → sq < 256 → len < 256 → up < 4 → c.acts = true →
      bytes = chainFrame b0 o sq len (64 * up + hops.toNat) p →
      (128 ≤ b0 → now (.frameRepeat k port bytes) { c with out := some (port.other, bytes) }) ∧
      (b0 < 128 → b0 ≠ c.addr → now (.frameRepeat k port bytes)
        { c with out := some (port.other, chainFrame b0 o sq len (64 * up + (hops + 1).toNat) p) }) ∧
      (b0 < 128 → b0 = c.addr → exec (.frameRepeat k port bytes) s = .next s)) ∧
    (c.hears = true → c.conv = none → Completes (.sleep k true f) s fun e =>
      let c' := e.companion k
      e = d.withCompanion k c' ∧ asleep c' ∧ c'.out = c.out) ∧
    (c.acts = true → f.pcrcOk = true → f.payload = [] → c.conv = none → Completes (.sleep k false f) s fun e =>
      let c' := e.companion k
      e = d.withCompanion k c' ∧ asleep c' ∧ c'.out = some (f.port, chainFrame (128 + c.addr) 13 f.seq.toNat 0 0 [])) ∧
    (c.hears = true → c.conv ≠ none → Completes (.sleep k true f) s fun e =>
      let c' := e.companion k
      e = d.withCompanion k c' ∧ c'.asleep = false ∧ c'.sleepDue = true ∧ c'.conv = c.conv ∧ c'.pend = none) ∧
    (next → c.encodingOk = true → status (.balancingStop k f) 0 fun c' =>
      c'.balEn = 0 ∧ c'.get F.XM_STAT_LOCK = 1 ∧ c'.get F.XM_BAL_ACT_L_ACT = 0 ∧ c'.get F.XM_BAL_ACT_H_ACT = 0) ∧
    (next → c.encodingOk = true → c.level ≠ 2 → status (.balancingUnlock k f) 0 fun c' =>
      c'.get F.XM_STAT_LOCK = 0 ∧ c'.balEn = c.balEn) ∧
    (next → c.encodingOk = true → c.level = 2 → status (.balancingUnlock k f) 7 fun c' =>
      c'.regs = c.regs) ∧
    (next → f.payload = [a, 1, lo, hi] →
      (xmReg a.toNat = none → status (.writeReg k f) 4 fun c' => c'.regs = c.regs) ∧
      (∀ r, xmReg a.toNat = some r →
        (r.fields.all (fun g => g.acc == .ro) = true → status (.writeReg k f) 4 fun c' => c'.regs = c.regs) ∧
        (r.fields.all (fun g => g.acc == .ro) = false → (c.written a.toNat [v]).encodingOk = false →
          status (.writeReg k f) 5 fun c' => c'.regs = c.regs) ∧
        (r.fields.all (fun g => g.acc == .ro) = false → (c.written a.toNat [v]).encodingOk = true → a ≠ 0x53 →
          c.get F.XM_STAT_LOCK = 0 → status (.writeReg k f) 0 fun c' =>
            ∀ g ∈ r.fields, g.acc = .rw →
              c'.get ⟨0x100000000 + a.toNat, g.lsb, g.width⟩ = v / 2 ^ g.lsb % 2 ^ g.width)))

/-- R461, R488, R489, R491, R497 to R500, R502, R503, R506, R508, R514: what time and the world do to a companion: its
chain time, the hold and the conversion of a sample, balancing, the open-wire test, the checks in sleep, and its
supply. -/
def Obligations.CompanionEvents : Prop :=
  ∀ (s : State) (k : Fin 64) (port : Side) (us : BitVec 32) (phase mask : Byte) (id : BitVec 16) (dt ms : Nat) (x : ConvIn)
      (die : Int) (i : Fin 18) (before : Vector Nat 18) (after : Vector (Vector Nat 18) 19)
      (coarse : Vector (BitVec 10) 18) (ntc : List (Option Int)),
    let d := s.dev
    let c := d.companion k
    let now := fun (i : Instr) (c' : Companion) => exec i s = .next { s with dev := d.withCompanion k c' }
    let gives := fun (i : Instr) (p : Companion → Prop) => Completes i s fun e =>
      e = d.withCompanion k (e.companion k) ∧ p (e.companion k)
    let t := us.toNat * 256 + phase.toNat
    (c.acts = false → exec (.timeSet k port us phase) s = .next s ∧ exec (.sampleAt k dt us phase id mask) s = .next s) ∧
    (c.acts = true → ∀ y, c.delay port = some y → gives (.timeSet k port us phase) fun c' =>
      c'.time = (t + y * 125 / 384) % 2 ^ 40 ∧ c'.tsync = true ∧ c'.syncOff = false) ∧
    (c.acts = true → c.delay port = none → gives (.timeSet k port us phase) fun c' =>
      c'.time = t % 2 ^ 40 ∧ c'.tsync = false) ∧
    (c.acts = true → (c.after dt).sampleLate t = true → gives (.sampleAt k dt us phase id mask) fun c' =>
      c'.get F.XM_ERRCNT_LATE = min (c.get F.XM_ERRCNT_LATE + 1) 255 ∧ c'.pend = c.pend ∧ c'.hold = c.hold) ∧
    (c.acts = true → (c.after dt).sampleLate t = false → gives (.sampleAt k dt us phase id mask) fun c' =>
      c'.pend = some ⟨t, id.toNat, mask.toNat⟩ ∧ c'.hold = true ∧ c'.get F.XM_BAL_ACT_L_ACT = 0 ∧
      c'.get F.XM_BAL_ACT_H_ACT = 0) ∧
    (c.pend = none ∨ c.conv ≠ none ∨ c.powered = false ∨ c.asleep = true → exec (.sampleHold k) s = .next s) ∧
    (∀ p, c.pend = some p → c.conv = none → c.powered = true → c.asleep = false → gives (.sampleHold k) fun c' =>
      c'.conv = some p ∧ c'.pend = none ∧ c'.reply = none ∧ c'.time = p.ts ∧ c'.get F.XM_SAMPID_ID = p.id % 65536 ∧
      c'.get F.XM_BAL_ACT_L_ACT = 0) ∧
    (c.conv = none → exec (.conversionComplete k x) s = .next s) ∧
    (∀ p, c.conv = some p → c.level = 0 → c.sleepDue = false → p.mask.testBit 1 = false →
      gives (.conversionComplete k x) fun c' =>
        c'.conv = none ∧ c'.cycles = c.cycles + 1 ∧ c'.reply ≠ none ∧
        (∀ j : Fin 18, c'.get (F.XM_CELL_i_V (j.val + 1)) = min x.fine[j] 50000) ∧
        (p.mask.testBit 2 = true → c'.get F.XM_TOTAL_V = x.total.toNat) ∧
        (p.mask.testBit 0 = true → ∀ j : Fin 18, c'.get (F.XM_CRS_i_V (j.val + 1)) = x.coarse[j].toNat)) ∧
    (c.powered = false ∨ c.asleep = true → exec (.balanceSchedule k die) s = .next s) ∧
    (c.powered = true → c.asleep = false → (c.get F.XM_BAL_CTL_TDIE : Int) * 10 ≤ die → gives (.balanceSchedule k die) fun c' =>
      c'.get F.XM_STAT_BAL_PAUSE = 1 ∧ c'.get F.XM_BAL_ACT_L_ACT = 0 ∧ c'.get F.XM_BAL_ACT_H_ACT = 0 ∧
      (1400 ≤ die → c'.balEn = 0)) ∧
    (c.powered = true → c.asleep = false → gives (.balanceSchedule k die) fun c' =>
      c'.chosen &&& c'.balEn = c'.chosen ∧ (∀ j, c'.chosen.testBit j = true → c'.chosen.testBit (j + 1) = false) ∧
      ((List.range 18).filter fun j => c'.chosen.testBit j).length ≤ c.get F.XM_BAL_CTL_MAX) ∧
    (c.powered = true → c.balEn.testBit i.val = true → c.get (F.XM_BAL_T_i_MIN (i.val + 1)) * 60 ≤ c.bleed[i] →
      gives (.balanceTimerExpire k i) fun c' => ∀ j, c'.balEn.testBit j = (c.balEn.testBit j && j != i.val)) ∧
    (c.powered = false ∨ c.balEn.testBit i.val = false ∨ c.bleed[i] < c.get (F.XM_BAL_T_i_MIN (i.val + 1)) * 60 →
      exec (.balanceTimerExpire k i) s = .next s) ∧
    (c.powered = true → c.tsync = true → 250 ≤ ms → gives (.tsyncTimeout k ms) fun c' => c'.tsync = false) ∧
    (c.powered = true → c.tsync = false → 2000 ≤ ms → gives (.tsyncTimeout k ms) fun c' =>
      c'.syncOff = true ∧ c'.get F.XM_BAL_ACT_L_ACT = 0 ∧ c'.get F.XM_BAL_ACT_H_ACT = 0) ∧
    (c.powered = false ∨ ms < 250 ∨ (c.tsync = false ∧ ms < 2000) → exec (.tsyncTimeout k ms) s = .next s) ∧
    (c.powered = true → c.asleep = false → c.owWant = true → c.conv = none → gives (.openWireTest k) fun c' =>
      c'.owRun = true ∧ c'.owWant = false ∧ c'.get F.XM_BAL_ACT_L_ACT = 0) ∧
    (c.powered = false ∨ c.asleep = true ∨ c.owWant = false ∨ c.conv ≠ none → exec (.openWireTest k) s = .next s) ∧
    (c.owRun = false → exec (.openWireTestEnd k before after) s = .next s) ∧
    (c.owRun = true → gives (.openWireTestEnd k before after) fun c' =>
      c'.owRun = false ∧ ((c'.get F.XM_STAT_FLAGS).testBit 3 = true ↔ c'.openWires ≠ 0) ∧
      ∀ j < 18, (c'.openWires.testBit j || c'.openWires.testBit (j + 1)) = true → c'.balEn.testBit j = false) ∧
    (c.powered = true → c.asleep = true → (∃ j : Fin 18, j.val < c.get F.XM_CFG_NCELL ∧
        coarse[j].toNat * 5 < c.get F.XM_SLP_WIN_LO * 20) → gives (.sleepWindowCheck k coarse ntc) fun c' =>
      c'.asleep = false ∧ c'.toneOn = true ∧ (c'.get F.XM_WAKE_WHY_WHY).testBit 1 = true ∧ c'.tsync = false) ∧
    (c.powered = false → exec (.sleepWindowCheck k coarse ntc) s = .next s) ∧
    now (.xmSupplyLoss k) (.dark c.key) ∧
    (c.powered = false → now (.xmPowerUp k) (.fresh c.key)) ∧
    (c.powered = true → exec (.xmPowerUp k) s = .next s)

/-- R244, R245, R247, R257 to R259, R263, R272, R274, R280: an input group. At each BCLK edge that counts a port takes one
bit; the FS edge that starts a frame ends the one before, whose slots stand with the first bit on top; a run of edges
acts one after the other. Good and wrong frames are counted; 64 good ones at a measured rate within 0.5 % of a nominal
one lock the group (the entry of the lock is DEDUCED, log entry 42), an unlock condition unlocks it with its reason,
it settles at a boundary where the conditions of R259 hold, and a slip counts and starts the settling anew, unless an
unlock condition holds with it. R249 to R251, R286: the IEC 60958 receiver. A subframe with a parity error counts and
repeats the last good word, the second subframe ends a frame, two identical channel status blocks are captured, one
that is no PCM begins the mute ramp of 16 samples, and the receiver unmutes after 192 clean frames with PCM status. -/
def Obligations.InputsAndReceiver : Prop :=
  (∀ (s : State) (p : Fin 2) (g : Fin 3) (fs sd : Bool) (rise fall rise' fall' : List (Bool × Bool)) (hz : Rat) (rel : Int) (why : Fin 7)
      (m : Master) (v : Word),
    let d := s.dev
    let gp : Fin 3 := ⟨p.val, by omega⟩
    let x := d.group gp
    let width := [16, 24, 32, 32].getD (d.get (F.INP_PORTp_CFG_WIDTH p.val)) 32
    let len := (d.get (F.INP_PORTp_CFG_SLOTS p.val) + 1) * width
    let format := d.get (F.INP_PORTp_CFG_FORMAT p.val)
    let low := format = 0 ∨ d.get (F.INP_PORTp_CFG_FSINV p.val) = 1
    let starts := fs ≠ x.fsLast ∧ (if low then fs = false else fs = true)
    let port := d.get (F.INP_PORTp_CFG_EN p.val) = 1 ∧ d.running = true ∧ d.limp = false
    let counts := if d.get (F.INP_PORTp_CFG_EDGE p.val) = 1 then rise = [] ∧ fall = [(fs, sd)] else rise = [(fs, sd)] ∧ fall = []
    let bit := fun (e : Device) (f : Fld) (i : Nat) => (e.get f).testBit i
    let code := classify g hz
    let locks := d.running = true ∧ d.limp = false ∧ d.groupEnabled g = true ∧ d.groupMaster g = false ∧
      64 ≤ (d.group g).good ∧ code ≠ 0 ∧ d.bclkFits g code = true
    let clash := ∃ y ∈ [6, 2, 4, 5], d.unlockHolds g y 0 = true
    (¬ port → exec (.i2sFrame p rise fall) s = .next s) ∧
    (port → counts → ¬ starts → exec (.i2sFrame p rise fall) s = .next { s with dev := d.setGroup gp ({ x with bits := x.bits.map fun bs => bs ++ [sd], fsLast := fs } : InGroup) }) ∧
    (port → counts → starts → x.bits = none → exec (.i2sFrame p rise fall) s = .next { s with dev := d.setGroup gp ({ x with bits := some [sd], fsLast := fs } : InGroup) }) ∧
    (∀ bs, port → counts → starts → x.bits = some bs →
      let data := if format = 0 ∨ format = 2 then bs.drop 1 ++ [sd] else bs
      (data.length ≠ len → exec (.i2sFrame p rise fall) s = .next { s with dev := d.setGroup gp ({ x with bits := some [sd], fsLast := fs, good := 0, bad := x.bad + 1 } : InGroup) }) ∧
      (data.length = len → Completes (.i2sFrame p rise fall) s fun e =>
        e = d.setGroup gp (e.group gp) ∧ (e.group gp).frame.length = d.get (F.INP_PORTp_CFG_SLOTS p.val) + 1 ∧
        e.group gp = { x with bits := some [sd], fsLast := fs, good := x.good + 1, bad := 0, frame := (e.group gp).frame } ∧
        ∀ i ≤ d.get (F.INP_PORTp_CFG_SLOTS p.val), ∀ j < 32,
          ((e.group gp).frame.getD i 0).getLsbD (31 - j) = (decide (j < width) && data.getD (i * width + j) false))) ∧
    (∀ t, exec (.i2sFrame p rise fall) s = .next t →
      exec (.i2sFrame p (rise ++ rise') (fall ++ fall')) s = exec (.i2sFrame p rise' fall') t) ∧
    (∀ c, rateAllowed g c = true → rateAllowed g code = true → (rateHz c : Rat) = hz → code = c) ∧
    (bit d F.INP_STAT_LOCK g.val = true ∨ ¬ locks → exec (.inputLock g hz) s = .next s) ∧
    (bit d F.INP_STAT_LOCK g.val = false → locks → Completes (.inputLock g hz) s fun e =>
      (∀ i, bit e F.INP_STAT_LOCK i = (bit d F.INP_STAT_LOCK i || i == g.val)) ∧ e.get (rateField g) = code ∧
      bit e F.INP_EVT_LOCK g.val = true ∧ d.fired e 51 ∧ d.logged e [d.entry 51 0 g.val []] ∧
      (e.group g).since = 0 ∧ (e.group g).phaseRun = 0 ∧
      (∀ y, y ≠ g → e.group y = d.group y) ∧ e.mem = d.mem ∧ e.pwr = d.pwr ∧
      (g = 2 → e.get F.INP_IEC_STAT_PRO = 0 ∧ e.get F.INP_IEC_STAT_NONAUDIO = 0 ∧
        ∀ i < 6, e.get (F.INP_CS_A_i_BITS i) = 0 ∧ e.get (F.INP_CS_B_i_BITS i) = 0)) ∧
    (bit d F.INP_STAT_LOCK g.val = false → exec (.inputUnlock g why rel) s = .next s ∧ exec (.ircSettle g) s = .next s ∧
      exec (.inpSlip g) s = .next s) ∧
    (bit d F.INP_STAT_LOCK g.val = true → d.unlockHolds g why.val rel = false → exec (.inputUnlock g why rel) s = .next s) ∧
    (bit d F.INP_STAT_LOCK g.val = true → d.unlockHolds g why.val rel = true → Completes (.inputUnlock g why rel) s fun e =>
      (∀ i, bit e F.INP_STAT_LOCK i = (bit d F.INP_STAT_LOCK i && i != g.val)) ∧
      (∀ i, bit e F.INP_STAT_SETTLED i = (bit d F.INP_STAT_SETTLED i && i != g.val)) ∧
      e.get (rateField g) = 0 ∧ e.get (whyField g) = why.val ∧ bit e F.INP_EVT_UNL g.val = true ∧ d.fired e 52 ∧
      d.logged e [d.entry 52 (sourceSev 52) g.val [BitVec.ofNat 8 why.val]] ∧ (e.group g).good = 0 ∧ (e.group g).bad = 0) ∧
    (bit d F.INP_STAT_SETTLED g.val = true ∨ (d.group g).phaseRun < 16 ∨ d.atBoundary = false ∨
        ((d.group g).since : Rat) < 2 * ircDelay (d.get (rateField g)) → exec (.ircSettle g) s = .next s) ∧
    (d.atBoundary = true → bit d F.INP_STAT_LOCK g.val = true → bit d F.INP_STAT_SETTLED g.val = false →
      16 ≤ (d.group g).phaseRun → 2 * ircDelay (d.get (rateField g)) ≤ (d.group g).since → Completes (.ircSettle g) s fun e =>
        (∀ i, bit e F.INP_STAT_SETTLED i = (bit d F.INP_STAT_SETTLED i || i == g.val)) ∧
        bit e F.INP_STAT_LOCK g.val = true ∧ d.fired e 53 ∧ (e.group g).flow.held = false ∧ (e.group g).flow.settled = true ∧
        (e.group g).refDev = d.geti (F.INP_RATIO_g_DEV g.val)) ∧
    (bit d F.INP_STAT_LOCK g.val = true → ¬ clash → Completes (.inpSlip g) s fun e =>
      let n := min ((d.word R.INP_SLIPCNT).toNat / 2 ^ (8 * g.val) % 256 + 1) 255
      (e.word R.INP_SLIPCNT).toNat / 2 ^ (8 * g.val) % 256 = n ∧ bit e F.INP_EVT_SLIP g.val = true ∧
      bit e F.INP_STAT_SETTLED g.val = false ∧ bit e F.INP_STAT_LOCK g.val = true ∧ (e.group g).since = 0 ∧
      d.logged e [d.entry 138 2 g.val [BitVec.ofNat 8 n]]) ∧
    (bit d F.INP_STAT_LOCK g.val = true → clash → Completes (.inpSlip g) s fun e =>
      bit e F.INP_STAT_LOCK g.val = false ∧ e.word R.INP_SLIPCNT = d.word R.INP_SLIPCNT ∧ d.fired e 52) ∧
    (d.coreRuns = true → d.masterMay m R.INP_SLIPCNT v = true → Completes (.inpSlipcntClr m v) s fun e =>
      e = { d with regs := e.regs } ∧ (∀ a, a ≠ R.INP_SLIPCNT → e.word a = d.word a) ∧
      e.get F.INP_SLIPCNT_COUNT = if v.getLsbD 31 then 0 else d.get F.INP_SLIPCNT_COUNT)) ∧
  (∀ (s : State) (ch : Fin 2) (word : BitVec 24) (parityOk codeOk valid cs z : Bool) (m : Master) (v : Word),
    let d := s.dev
    let c := Instr.iecSubframe ch word parityOk codeOk valid cs z
    let x := d.inp.iec
    let g := d.group 2
    let w : Word := if parityOk then word ++ (0 : BitVec 8) else x.lastGood[ch]
    let spoiled := x.codeBad = true ∨ codeOk = false
    (d.get F.INP_IEC_CFG_EN = 0 ∨ d.running = false → exec c s = .next s) ∧
    (d.get F.INP_IEC_CFG_EN = 1 → d.running = true → Completes c s fun e =>
      e.inp.iec.lastGood = x.lastGood.set ch w ∧ e.inp.iec.parityRun = (if parityOk then 0 else x.parityRun + 1) ∧
      e.get F.INP_IEC_STAT_PARITY =
        (if parityOk then d.get F.INP_IEC_STAT_PARITY else min (d.get F.INP_IEC_STAT_PARITY + 1) 65535) ∧
      (ch = 0 → (e.group 2).frame = [w] ∧ (e.group 2).good = g.good ∧ (e.group 2).bad = g.bad) ∧
      (ch = 1 → (e.group 2).frame = g.frame.take 1 ++ [w] ∧
        (spoiled → (e.group 2).good = 0 ∧ (e.group 2).bad = g.bad + 1) ∧
        (¬ spoiled → (e.group 2).good = g.good + 1 ∧ (e.group 2).bad = 0)) ∧
      e.mem = d.mem ∧ e.group 0 = d.group 0 ∧ e.group 1 = d.group 1) ∧
    (∀ b, x.blockNew = some b → x.blockOld = some b → d.locked 2 = true →
      (∃ i < 6, d.get (F.INP_CS_A_i_BITS i) ≠ csWord b[0] i ∨ d.get (F.INP_CS_B_i_BITS i) ≠ csWord b[1] i) →
      Completes .csCapture s fun e =>
        (∀ i < 6, e.get (F.INP_CS_A_i_BITS i) = csWord b[0] i ∧ e.get (F.INP_CS_B_i_BITS i) = csWord b[1] i) ∧
        e.get F.INP_EVT_CS_NEW = 1 ∧ e.get F.INP_IEC_STAT_PRO = (b[0].getD 0 false).toNat ∧
        e.get F.INP_IEC_STAT_NONAUDIO = (b[0].getD 1 false).toNat ∧
        (b[0].getD 0 false = true ∨ b[0].getD 1 false = true → d.get F.INP_IEC_STAT_MUTED = 0 → x.muteLeft = none →
          e.inp.iec.muteLeft = some 16 ∧ (e.group 2).marks = g.marks ++ [(d.clk.rt.frame.toNat % 16, .mute)] ∧
          e.get F.INP_IEC_STAT_MUTED = 0)) ∧
    (x.blockNew = none ∨ x.blockOld ≠ x.blockNew ∨ d.locked 2 = false → exec .csCapture s = .next s) ∧
    (d.get F.INP_IEC_STAT_MUTED = 1 → d.get F.INP_IEC_STAT_PRO = 0 → d.get F.INP_IEC_STAT_NONAUDIO = 0 → 192 ≤ x.vClean →
      Completes .iecUnmute s fun e => e.get F.INP_IEC_STAT_MUTED = 0 ∧ e.get F.INP_IEC_STAT_VMUTE = 0 ∧
        (e.group 2).marks = g.marks ++ [(d.clk.rt.frame.toNat % 16, .unmute)] ∧
        ∀ a, a ≠ R.INP_IEC_STAT → e.word a = d.word a) ∧
    (d.get F.INP_IEC_STAT_MUTED = 0 ∨ d.get F.INP_IEC_STAT_PRO = 1 ∨ d.get F.INP_IEC_STAT_NONAUDIO = 1 ∨ x.vClean < 192 →
      exec .iecUnmute s = .next s) ∧
    (d.coreRuns = true → d.masterMay m R.INP_IEC_STAT v = true → Completes (.inpIecStatPclr m v) s fun e =>
      e = { d with regs := e.regs } ∧ (∀ a, a ≠ R.INP_IEC_STAT → e.word a = d.word a) ∧
      e.get F.INP_IEC_STAT_PARITY = (if v.getLsbD 15 then 0 else d.get F.INP_IEC_STAT_PARITY) ∧
      e.get F.INP_IEC_STAT_MUTED = d.get F.INP_IEC_STAT_MUTED))

/-- R265, R268, R269, R281, R287: the filter engine. A stage settles after the one before it, once it has consumed as many
samples as its profile gives it taps; an error in its state puts zero there and slips the group or restarts the lane,
and a capture is armed by START and ends with its 256 samples and the ring time. -/
def Obligations.FilterEngine : Prop :=
  ∀ (s : State) (n : Fin 10) (j : Fin 7) (w : Fin 8192) (g : Fin 3) (m : Master) (v : Word) (xs : Vector Word 256)
      (frame : BitVec 48) (sub : BitVec 13),
    let d := s.dev
    let bit := fun (e : Device) (f : Fld) (i : Nat) => (e.get f).testBit i
    let taps := if d.get (F.FEN_LANE_n_PROF n.val) = 1 then [3, 3, 3, 3, 23, 39, 79] else [7, 7, 11, 15, 23, 39, 79]
    let need := taps.getD j.val 0 * (64 * 2 ^ j.val)
    let zeroed := fun (e : Device) => (∀ i < 4, e.byte (0x20068000 + 4 * w.val + i) = 0) ∧
      ∀ a, a < 0x20068000 + 4 * w.val ∨ 0x20068000 + 4 * w.val + 4 ≤ a → e.byte a = d.byte a
    (d.inp.senseOn = false ∨ (j.val ≠ 0 ∧ (d.inp.stages[n]).testBit (j.val - 1) = false) ∨
        (d.inp.stages[n]).testBit j.val = true ∨ d.inp.fed[n] < need → exec (.laneSettled n j) s = .next s) ∧
    (d.inp.senseOn = true → j.val = 0 ∨ (d.inp.stages[n]).testBit (j.val - 1) = true → (d.inp.stages[n]).testBit j.val = false →
      need ≤ d.inp.fed[n] → Completes (.laneSettled n j) s fun e =>
      (e.inp.stages[n]).testBit j.val = true ∧ e.inp.fed[n] = d.inp.fed[n] - need ∧ (∀ y, y ≠ n → e.inp.stages[y] = d.inp.stages[y]) ∧
      (∀ i, bit e F.FEN_STAT_SETTLED i = (bit d F.FEN_STAT_SETTLED i || (j.val == 6 && i == n.val)))) ∧
    (d.coreRuns = false → exec (.fenEccError w (.irc g)) s = .next s ∧ exec (.fenEccError w (.sense n j)) s = .next s) ∧
    (d.coreRuns = true → Completes (.fenEccError w (.irc g)) s fun e =>
      e.get F.FEN_EVT_ECC = 1 ∧ d.fired e 13 ∧ zeroed e ∧
      (d.locked g = true → bit e F.INP_STAT_SETTLED g.val = false ∧ bit e F.INP_EVT_SLIP g.val = true)) ∧
    (d.coreRuns = true → Completes (.fenEccError w (.sense n j)) s fun e =>
      e.get F.FEN_EVT_ECC = 1 ∧ d.fired e 13 ∧ zeroed e ∧ e.get F.FEN_STAT_ALL = 0 ∧ bit e F.FEN_STAT_SETTLED n.val = false ∧
      e.inp.stages[n] = d.inp.stages[n] % 2 ^ j.val ∧
      d.logged e [d.entry 13 (sourceSev 13) 0 (leBytes 4 (0x20068000 + 4 * w.val))]) ∧
    (d.coreRuns = true → d.masterMay m R.FEN_CAP_CTL v = true → v.toNat % 16 < 10 → v.toNat / 16 % 8 ≠ 0 →
      v.toNat / 256 % 4 < 2 → Completes (.fenCaptureStart m v) s fun e =>
        e.get F.FEN_CAP_CTL_LANE = v.toNat % 16 ∧ e.get F.FEN_CAP_CTL_STAGE = v.toNat / 16 % 8 ∧
        e.get F.FEN_CAP_CTL_TRIG = v.toNat / 256 % 4 ∧ (∀ a, a ≠ R.FEN_CAP_CTL → e.word a = d.word a) ∧
        (v.getLsbD 16 = true → e.get F.FEN_CAP_CTL_BUSY = 1 ∧ (e.inp.capWait = true ↔ v.toNat / 256 % 4 = 1)) ∧
        (v.getLsbD 16 = false → e.inp = d.inp ∧ e.get F.FEN_CAP_CTL_BUSY = d.get F.FEN_CAP_CTL_BUSY)) ∧
    (d.coreRuns = true → d.masterMay m R.FEN_CAP_CTL v = true →
      10 ≤ v.toNat % 16 ∨ v.toNat / 16 % 8 = 0 ∨ 2 ≤ v.toNat / 256 % 4 → Completes (.fenCaptureStart m v) s fun e =>
        e.word R.FEN_CAP_CTL = d.word R.FEN_CAP_CTL ∧ e.inp = d.inp ∧ d.fired e 0) ∧
    (d.get F.FEN_CAP_CTL_BUSY = 0 ∨ d.inp.capWait = true ∨ d.inp.senseOn = false → exec (.fenCaptureDone xs frame sub) s = .next s) ∧
    (d.get F.FEN_CAP_CTL_BUSY = 1 → d.inp.capWait = false → d.inp.senseOn = true → Completes (.fenCaptureDone xs frame sub) s fun e =>
      e = { d with regs := e.regs } ∧ (∀ i : Fin 256, e.word (R.FEN_CAP_DATA_m i.val) = xs[i]) ∧
      e.get F.FEN_CAP_FL_FRAME = frame.toNat % 2 ^ 32 ∧ e.get F.FEN_CAP_SUB_SUB = sub.toNat ∧
      e.get F.FEN_CAP_CTL_BUSY = 0 ∧ e.get F.FEN_CAP_CTL_DONE = 1) ∧
    (d.coreRuns = true → d.masterMay m (R.FEN_SAT_n n.val) v = true → Completes (.fenSatClr m n v) s fun e =>
      e = { d with regs := e.regs } ∧ (∀ a, a ≠ R.FEN_SAT_n n.val → e.word a = d.word a) ∧
      e.get (F.FEN_SAT_n_COUNT n.val) = (if v.getLsbD 31 then 0 else d.get (F.FEN_SAT_n_COUNT n.val)) ∧
      e.get (F.FEN_SAT_n_STAGES n.val) = (if v.getLsbD 31 then 0 else d.get (F.FEN_SAT_n_STAGES n.val)))

/-- R523 to R525, R528, R532, R534, R536, R554, R555, R557, R558: the ring's ports and frames. A port trains, comes UP and
goes DOWN, and the mode follows; the master originates a whole frame with good CRCs, on the line as it is scrambled; a
slave in NORMAL sends a frame on from the other port with one hop more, its own delay added, the slots of its output
window channels written, and the slots that no entry of its own writes as they came. A master has ring lock from its
first returned frame, a slave after 16 frames (DEDUCED, log entry 53), and it is lost after 32 frame periods. -/
def Obligations.RingFrames : Prop :=
  ∀ (s : State) (side : Side) (irc : Vector Word 16) (turn : BitVec 17) (x : RingIn) (frames : Nat),
    let d := s.dev
    let rx := scrambleFrame x.bytes
    let port := d.trnPort side
    let other := d.trnPort side.other
    let mode := d.get F.TRN_STAT_MODE
    let good := (CrcSt.good, CrcSt.good, CrcSt.good, CrcSt.good)
    let writes := fun (j : Nat) => d.adopted = true ∧ d.running = true ∧ d.get F.TRN_STAT_LOCK = 1 ∧
      d.trn.stopped.testBit j = false ∧ (d.get (F.TRN_TX_i_SRC j) = 1 ∨ d.get (F.TRN_TX_i_SRC j) = 2)
    let p := frameParts rx
    (port.st = .down → mode ≠ 0 → mode ≠ 6 → Completes (.portTraining side) s fun e =>
      e = d.setTrnPort side { port with st := .training }) ∧
    (port.st ≠ .down ∨ mode = 0 ∨ mode = 6 → exec (.portTraining side) s = .next s) ∧
    (port.st ≠ .training → exec (.portUp side) s = .next s) ∧
    (port.st = .training → Completes (.portUp side) s fun e =>
      (e.trnPort side).st = .up ∧ e.trnPort side.other = other ∧
      (e.get F.TRN_STAT_LINK).testBit side.idx = true ∧
      (mode ≠ 4 → e.get F.TRN_STAT_MODE = mode) ∧
      (mode = 4 → other.st = .up → e.get F.TRN_STAT_MODE = 1) ∧
      (mode = 4 → other.st ≠ .up → e.get F.TRN_STAT_MODE = side.idx + 2 ∧ d.fired e 97)) ∧
    (port.st = .down → exec (.portDown side) s = .next s) ∧
    (port.st ≠ .down → Completes (.portDown side) s fun e =>
      (e.trnPort side).st = .down ∧ (e.trnPort side).delays = [] ∧ e.trnPort side.other = other ∧
      (e.get F.TRN_STAT_LINK).testBit side.idx = false ∧ e.get (cableField side) = 0xFFFF ∧ e.trn.unwrapAt = none ∧
      (mode = 1 → d.fired e 97 ∧ (e.get F.TRN_EVT_EVT).testBit 1 = true ∧
        e.get F.TRN_STAT_MODE = if other.st = .up then 3 - side.idx else 4) ∧
      (mode = 2 ∨ mode = 3 → e.get F.TRN_STAT_MODE = if other.st = .up then mode else 4) ∧
      (mode ≠ 1 → mode ≠ 2 → mode ≠ 3 → e.get F.TRN_STAT_MODE = mode)) ∧
    (d.get F.TRN_STAT_LOCK = 1 ∨ d.trn.same < (if d.ringMaster then 1 else 16) → exec .ringLock s = .next s) ∧
    (d.get F.TRN_STAT_LOCK = 0 → (if d.ringMaster then 1 else 16) ≤ d.trn.same → mode = 1 → d.portIsUp .a = true → Completes .ringLock s fun e =>
      e.get F.TRN_STAT_LOCK = 1 ∧ (e.get F.TRN_EVT_EVT).testBit 0 = true ∧ d.fired e 96 ∧
      e.get F.TRN_STAT_ROLE = (if d.get F.TRN_STAT_ROLE = 0 then (if d.get F.TRN_STAT_NUMV = 1 then 2 else 1)
        else d.get F.TRN_STAT_ROLE)) ∧
    (d.get F.TRN_STAT_LOCK = 0 ∨ frames < 32 → exec (.ringLockLoss frames) s = .next s) ∧
    (d.get F.TRN_STAT_LOCK = 1 → 32 ≤ frames → Completes (.ringLockLoss frames) s fun e =>
      e.get F.TRN_STAT_LOCK = 0 ∧ e.trn.same = 0 ∧ e.clk.ringSlave = false ∧
      e.get F.TRN_STAT_ROLE = if d.get F.TRN_STAT_ROLE = 1 then 0 else d.get F.TRN_STAT_ROLE) ∧
    (d.pwr.seq = .ice → Completes .ringActivityDetect s fun e =>
      (e.get F.EVC_WLATCH_LATCH).testBit 6 = true ∧ e = { d with regs := e.regs } ∧
      ∀ a, a ≠ R.EVC_WLATCH → e.word a = d.word a) ∧
    (d.pwr.seq ≠ .ice → exec .ringActivityDetect s = .next s) ∧
    (d.ringMember = false → d.trn.unwrapAt = none → exec (.frameOriginate irc turn) s = .next s) ∧
    (d.ringMember = true → d.ringMaster = true → d.trn.unwrapAt = none → d.trn.stopNext = true → Completes (.frameOriginate irc turn) s fun e =>
      e.get F.TRN_STAT_ROLE = 2 ∧ e.get F.TRN_STAT_LOCK = 0 ∧ e.trn.stopNext = false ∧ e.trn.sent = d.trn.sent) ∧
    (d.ringMember = true → d.ringMaster = true → d.trn.unwrapAt = none → d.trn.stopNext = false → mode = 1 →
      d.portIsUp .b = true → Completes (.frameOriginate irc turn) s fun e =>
        ∃ bs, (Side.b, scrambleFrame bs) ∈ e.trn.sent ∧ bs.length = 1024 ∧ frameCrcs bs = good ∧
          frameParts bs = ⟨if d.clkMode ≠ 1 ∧ d.clkMode ≠ 0 then 8 else 0, d.get F.TRN_STAT_NODE, d.clk.rt.frame.toNat, 0,
            d.cable .b, turn.toNat⟩) ∧
    (x.bytes.length ≠ 1024 ∨ mode = 0 ∨ mode = 6 ∨ (d.trnPort x.port).st = .down → exec (.frameProcess x) s = .next s) ∧
    (x.bytes.length = 1024 → frameCrcs rx = good → x.port = .a → (d.trnPort .a).st ≠ .down → d.linkRuns = true →
      mode = 1 → d.ringMaster = false → p.ctl % 2 = 0 → p.ctl.testBit 2 = false → (d.trnPort .a).sentFrame ≠ p.frame →
      (∀ f, d.trn.last = some f → f < p.frame) →
      (parseMsgs 60 (slice rx 528 480)).flatMap Msg.bytes = slice rx 528 480 →
      Completes (.frameProcess x) s fun e =>
        e.trn.last = some p.frame ∧ e.get F.TRN_PATH_PATH = p.path ∧
        e.trn.same = (if p.master = d.trn.lastMaster then d.trn.same + 1 else 1) ∧
        ∃ bs, e.trn.sent.head? = some (Side.b, scrambleFrame bs) ∧ bs.length = 1024 ∧ frameCrcs bs = good ∧
          frameParts bs = { p with hops := min 255 (p.hops + 1), path := (p.path + 1536 + d.cable .b) % 2 ^ 20,
                                   turn := x.turn.toNat } ∧
          ∀ i < 128,
            ((∀ j < 16, writes j → d.get (F.TRN_TX_i_SLOT j) ≠ i) → slotOf bs i = slotOf rx i) ∧
            ∀ j < 16, writes j → d.get (F.TRN_TX_i_SLOT j) = i → (∀ k < j, writes k → d.get (F.TRN_TX_i_SLOT k) ≠ i) →
              d.get (F.TRN_TX_i_SRC j) = 2 → slotOf bs i = windowWord
                (d.stream.last.toList.getD (d.get (F.TRN_TX_i_INDEX j) % 4) 0) true false false d.stream.lastEpoch)

/-- R533, R535, R543, R547 to R553, R557, R567, R603, R692: the ring messages that a node takes from its inbox. A command
of another type than the first message's does nothing; the message that is taken leaves the inbox. -/
def Obligations.RingMessages : Prop :=
  ∀ (s : State) (m : Msg) (rest : List Msg),
    let d := s.dev
    let p := m.payload
    let n := m.src % 128
    let tag := ofLe (slice p 0 8)
    let master := d.get F.TRN_STAT_ROLE = 3
    let taken : Device := { d with trn.inbox := rest }
    let only := fun (c : Instr) => exec c s = .next { s with dev := taken }
    let sends := fun (e : Device) (dst type : Nat) (q : List Byte) =>
      (e.trn.queue[msgClass type]).getLast? = some ⟨dst, d.trnSrc, type, 6, d.trn.mseq, q⟩
    let commands := [(1, Instr.beacon), (2, .tarnStatus), (3, .joinReq), (4, .tarnChallenge), (5, .response), (6, .tarnAdmit),
      (7, .leave), (8, .hostReq), (9, .hostRsp), (10, .cells), (11, .roster), (12, .healReady), (13, .unwrap),
      (14, .tarnNak), (15, .tarnApp)]
    (d.trn.inbox = [] → (∀ c ∈ commands, exec c.2 s = .next s) ∧ exec .tarnUnknownMessage s = .next s) ∧
    (d.trn.inbox = m :: rest →
      (∀ c ∈ commands, m.type ≠ c.1 ∨ dstReserved m.dst = true → exec c.2 s = .next s) ∧
      (typeReserved m.type = false → dstReserved m.dst = false → exec .tarnUnknownMessage s = .next s) ∧
      (typeReserved m.type = true ∨ dstReserved m.dst = true → Completes .tarnUnknownMessage s fun e =>
        e.trn.inbox = rest ∧ (e.get F.TRN_EVT_EVT).testBit 13 = true ∧
        e.get F.TRN_MSGCNT_UNKNOWN = min (d.get F.TRN_MSGCNT_UNKNOWN + 1) (2 ^ F.TRN_MSGCNT_UNKNOWN.width - 1) ∧
        (d.addressed m = true → typeReserved m.type = true →
          sends e n 14 [BitVec.ofNat 8 m.type, BitVec.ofNat 8 m.mseq, 0, 0])) ∧
      (dstReserved m.dst = false →
        (m.type = 1 → ¬ master → Completes .beacon s fun e =>
          e.trn.inbox = rest ∧ e.masterTag = tag ∧ e.get F.TRN_MASTER_NODE = n ∧ e.trn.beacon = p ∧
          e.trn.pdelay = ofLe (slice p 20 2) ∧ e.trn.recirc = (p.getD 22 0).toNat ∧ e.trn.known = true ∧
          e.get F.TRN_ROSTER_GEN = ofLe (slice p 16 4) ∧
          (e.get F.TRN_STAT_CMISM = 1 ↔ (p.getD 23 0).toNat ≠ d.get F.MOD_CFG_CARRIER)) ∧
        (m.type = 1 → master → Completes .beacon s fun e =>
          if tag < ownTag then e.trn.stopNext = true ∧ e.masterTag = tag else e = taken) ∧
        (m.type = 2 → m.src < 128 → Completes .tarnStatus s fun e =>
          e.trn.inbox = rest ∧ e.get (F.TRN_NODE_k_STATE n) = (p.getD 14 0).toNat / 4 % 4 ∧
          e.get (F.TRN_NODE_k_MEN n) = (p.getD 15 0).toNat % 2 ∧
          e.get (F.TRN_NODE_k_PATH n) = min (ofLe (slice p 8 4) / 16) 65535 ∧
          e.nodeRec n = some ⟨n, tag, ofLe (slice p 8 4), ofLe (slice p 16 16)⟩) ∧
        (m.type = 2 → 128 ≤ m.src → only .tarnStatus) ∧
        (m.type = 3 → master → Completes .joinReq s fun e =>
          e.trn.inbox = rest ∧ ∃ nonce, e.trn.challenge.lookup tag = some nonce ∧
            sends e 0xFF 4 (leBytes 8 tag ++ leBytes 16 nonce)) ∧
        (m.type = 3 → ¬ master → only .joinReq) ∧
        (m.type = 4 → ¬ master → tag = ownTag → Completes .tarnChallenge s fun e =>
          e.trn.inbox = rest ∧ sends e 0x80 5 (leBytes 8 ownTag ++ beBytes 64 (Config.signature Config.ownKey
            (BitVec.ofNat 256 (beNat (proofDigest tarnContext d.masterTag (ofLe (slice p 8 16)) ownTag))) d.freshN).toNat)) ∧
        (m.type = 4 → master ∨ tag ≠ ownTag → only .tarnChallenge) ∧
        (m.type = 5 → ¬ master ∨ d.trn.challenge.lookup tag = none → only .response) ∧
        (∀ nonce r, m.type = 5 → master → d.trn.challenge.lookup tag = some nonce →
          (d.rosterList true).find? (fun e => e.tag == tag) = some r → r.index < 128 → (∀ q ∈ d.trn.nodes, q.node < 128) →
          Completes .response s fun e => d.fired e 120 ∧
            if ((ecdsaRecover (proofDigest tarnContext ownTag nonce tag) (slice p 8 64)).any fun k => keyTag k == tag) = true
            then
              e.get (F.TRN_NODE_k_STATE r.index) = 1 ∧ d.fired e 99 ∧ e.get F.SEC_AUTH_RESULT = 0 ∧
              e.get F.SEC_AUTH_INDEX = r.index ∧
              sends e 0xFF 6 (leBytes 8 tag ++ leBytes 1 r.index ++ leBytes 1 1 ++ leBytes 1 0 ++ [0])
            else e.get F.SEC_AUTH_RESULT = 2 ∧ ∀ x, d.strangerNumber tag = some x →
              e.get (F.TRN_NODE_k_STATE x) = 2 ∧ e.get F.SEC_AUTH_INDEX = x ∧ d.fired e 101) ∧
        (m.type = 6 → ¬ master → tag = ownTag → ((p.getD 9 0).toNat = 1 ∨ (p.getD 9 0).toNat = 2) →
          Completes .tarnAdmit s fun e =>
            e.trn.inbox = rest ∧ e.get F.TRN_STAT_NODE = (p.getD 8 0).toNat % 128 ∧ e.get F.TRN_STAT_NUMV = 1 ∧
            e.get F.TRN_STAT_TRUST = (p.getD 9 0).toNat ∧ e.get F.TRN_STAT_ROLE = 2 ∧
            d.fired e (if (p.getD 9 0).toNat = 1 then 99 else 101) ∧
            ((p.getD 9 0).toNat = 2 → (e.word R.SED_SYSFAULT).getLsbD 0 = true)) ∧
        (m.type = 6 → tag ≠ ownTag → Completes .tarnAdmit s fun e =>
          e.trn.inbox = rest ∧ e.get F.TRN_STAT_NODE = d.get F.TRN_STAT_NODE ∧
          e.get (F.TRN_NODE_k_STATE ((p.getD 8 0).toNat % 128)) = (p.getD 9 0).toNat % 4) ∧
        (m.type = 7 → m.src < 128 → Completes .leave s fun e =>
          e.trn.inbox = rest ∧ e.get (F.TRN_NODE_k_STATE m.src) = 0 ∧ e.nodeRec m.src = none ∧
          (master → d.fired e 100 ∧ d.logged e [d.entry 100 (sourceSev 100) m.src [p.getD 0 0]])) ∧
        (m.type = 7 → 128 ≤ m.src → only .leave) ∧
        (m.type = 8 ∨ m.type = 9 → m.flags.testBit 1 = true → m.flags.testBit 2 = true →
          p.length ≠ ofLe (slice p 2 2) + 4 → 4 ≤ p.length →
          (d.trn.reasm.find? fun r => r.node == m.src && r.rsp == (m.type == 9)) = none →
          Completes (if m.type = 8 then .hostReq else .hostRsp) s fun e =>
            e.trn.inbox = rest ∧ e.trn.reasm = d.trn.reasm ∧
            e.get F.TRN_MSGCNT_REASM = min (d.get F.TRN_MSGCNT_REASM + 1) (2 ^ F.TRN_MSGCNT_REASM.width - 1)) ∧
        (m.type = 8 ∨ m.type = 9 → m.flags.testBit 1 = true → m.flags.testBit 2 = false →
          (d.trn.reasm.find? fun r => r.node == m.src && r.rsp == (m.type == 9)) = none →
          Completes (if m.type = 8 then .hostReq else .hostRsp) s fun e =>
            ∃ r, e = { taken with trn.reasm := r :: d.trn.reasm } ∧ r.node = m.src ∧ r.mseq = m.mseq ∧
              r.total = ofLe (slice p 2 2) ∧ r.bytes = p.drop 4 ∧ r.next = 1) ∧
        (m.type = 8 → m.flags.testBit 1 = true → m.flags.testBit 2 = true → p.length = ofLe (slice p 2 2) + 4 →
          (∀ r ∈ d.trn.reasm, r.node ≠ m.src) → Completes .hostReq s fun e =>
            e = taken.arriveWhole (if p.getD 0 0 = 1 then .b else .a) (p.drop 4) (.ring m.src)) ∧
        (m.type = 9 → m.flags.testBit 1 = true → m.flags.testBit 2 = true → p.length = ofLe (slice p 2 2) + 4 →
          (∀ r ∈ d.trn.reasm, r.node ≠ m.src) → ∀ c : Client, c = (if p.getD 0 0 = 1 then .b else .a) →
          (∀ y, (d.port .a).relay = some (m.src, c) ∨ (d.port .b).relay = some (m.src, c) →
            y = (if (d.port .a).relay = some (m.src, c) then Client.a else .b) →
            Completes .hostRsp s fun e => e = taken.complete y 0 0 (p.drop 4)) ∧
          ((d.port .a).relay ≠ some (m.src, c) → (d.port .b).relay ≠ some (m.src, c) → Completes .hostRsp s fun e =>
            e = { taken with regs := e.regs } ∧ e.get (F.HP_CNT2_RELAYLATE c.idx) =
              min (d.get (F.HP_CNT2_RELAYLATE c.idx) + 1) (2 ^ (F.HP_CNT2_RELAYLATE c.idx).width - 1))) ∧
        (m.type = 10 → d.get F.SHL_CFG_EN = 1 ∨ m.src ≠ d.get F.SHL_CFG_SRCNODE → only .cells) ∧
        (m.type = 10 → d.get F.SHL_CFG_EN = 0 → m.src = d.get F.SHL_CFG_SRCNODE → ∀ k, (p.getD 0 0).toNat = k → 1 ≤ k →
          k ≤ 64 → (p.getD 1 0).toNat % 4 = 1 → d.get (F.SHL_Ck_MAP_NCELL k) = (p.getD 15 0).toNat →
          d.get (F.SHL_Ck_MAP_NCELL k) ≤ 18 → d.get (F.SHL_Ck_MAP_BASE k) + d.get (F.SHL_Ck_MAP_NCELL k) ≤ 32 →
          Completes .cells s fun e => e.trn.inbox = rest ∧ ∀ i < d.get (F.SHL_Ck_MAP_NCELL k),
            e.get (F.RSV_CELL_j_V (d.get (F.SHL_Ck_MAP_BASE k) + i)) = replyCell (slice p 10 47) i) ∧
        (m.type = 11 → d.candidateNode = false ∨ master ∨ ofLe (slice p 0 4) ≤ d.rosterGen true → only .roster) ∧
        (m.type = 11 → d.candidateNode = true → ¬ master → d.rosterGen true < ofLe (slice p 0 4) →
          20 ≤ (p.getD 5 0).toNat → Completes .roster s fun e =>
            e.trn.inbox = rest ∧ e.trn.rosterGen = ofLe (slice p 0 4) ∧ e.nvs = d.nvs ∧
            ∃ kept, e.trn.roster = kept ++ rosterMsgEntries 20 (p.drop 12) ∧ (p.getD 4 0 = 0 → kept = [])) ∧
        (m.type = 12 → ¬ master → only .healReady) ∧
        (m.type = 12 → master → Completes .healReady s fun e =>
          (ofLe (slice p 2 8) ≠ 0 → ofLe (slice p 2 8) < ownTag → e = { taken with trn.stopNext := true })) ∧
        (m.type = 12 → master → ofLe (slice p 2 8) = 0 ∨ ownTag ≤ ofLe (slice p 2 8) →
          (∃ h ∈ d.trn.heals, h.node = (p.getD 1 0).toNat ∧ h.neighbour = n) → Completes .healReady s fun e =>
            let f := d.clk.rt.frame.toNat + 2 * d.trn.recirc + 32
            e.trn.unwrapAt = some f ∧ sends e 0xFF 13 (leBytes 6 f ++ [0, 0])) ∧
        (m.type = 13 → (d.get F.TRN_STAT_MODE = 2 ∧ d.portIsUp .b = true) ∨ (d.get F.TRN_STAT_MODE = 3 ∧ d.portIsUp .a = true) →
          Completes .unwrap s fun e => e = { taken with trn.unwrapAt := some (ofLe (slice p 0 6)) }) ∧
        (m.type = 13 → d.get F.TRN_STAT_MODE ≠ 2 → d.get F.TRN_STAT_MODE ≠ 3 → only .unwrap) ∧
        (m.type = 14 → only .tarnNak) ∧
        (m.type = 15 → d.get F.TRN_APP_RX_VALID = 1 → Completes .tarnApp s fun e =>
          e.trn.inbox = rest ∧ e.mem = d.mem ∧
          e.get F.TRN_MSGCNT_DROP = min (d.get F.TRN_MSGCNT_DROP + 1) (2 ^ F.TRN_MSGCNT_DROP.width - 1)) ∧
        (m.type = 15 → d.get F.TRN_APP_RX_VALID = 0 → p.length ≤ 240 → Completes .tarnApp s fun e =>
          e.trn.inbox = rest ∧ e.get F.TRN_APP_RX_VALID = 1 ∧ e.get F.TRN_APP_RX_SRC = n ∧
          e.get F.TRN_APP_RX_LEN = p.length ∧ (e.get F.TRN_EVT_EVT).testBit 8 = true ∧ d.fired e 104 ∧
          (0x10000000 ≤ d.get F.TRN_APP_RXBUF_ADDR * 4 → d.get F.TRN_APP_RXBUF_ADDR * 4 + p.length ≤ 0x10180000 →
            e.bytes (d.get F.TRN_APP_RXBUF_ADDR * 4) p.length = p))))

/-- R543, R548 to R551, R553, R557, R567: what a ring node sends of its own, its takeover of the ring after 16 frames per
rank (96 more where it has no roster entry or has heard no frame, log entry 54), the heal at frame F after a dwell of
HEAL × 96 frames, and the registers of the ring that act. -/
def Obligations.RingDuties : Prop :=
  ∀ (s : State) (n : Fin 128) (k : BitVec 7) (lane : Fin 32) (m : Master) (v : Word) (frames : Nat),
    let d := s.dev
    let master := d.get F.TRN_STAT_ROLE = 3
    let sends := fun (e : Device) (dst type : Nat) (q : List Byte → Prop) =>
      ∃ w, (e.trn.queue[msgClass type]).getLast? = some w ∧ w.dst = dst ∧ w.src = d.trnSrc ∧ w.type = type ∧
        w.mseq = d.trn.mseq ∧ q w.payload
    let locked := d.ringMember = true ∧ d.get F.TRN_STAT_LOCK = 1
    let wait := 16 * d.rank + if (∃ q ∈ d.rosterList true, q.tag = ownTag) ∧ d.trn.heard = true then 0 else 96
    (¬ master ∨ d.ringMember = false → exec .beaconSend s = .next s) ∧
    (master → d.ringMember = true → Completes .beaconSend s fun e =>
      e.get F.TRN_ROSTER_GEN = d.rosterGen true % 2 ^ 32 ∧ sends e 0xFF 1 fun q =>
        e.trn.beacon = q ∧ q.take 8 = leBytes 8 ownTag ∧ slice q 20 2 = leBytes 2 d.trn.pdelay ∧
        slice q 22 1 = leBytes 1 d.trn.recirc ∧ slice q 23 1 = leBytes 1 (d.get F.MOD_CFG_CARRIER)) ∧
    (¬ locked → exec .statusSend s = .next s) ∧
    (locked → Completes .statusSend s fun e => e.regs = d.regs ∧ sends e 0xFF 2 fun q =>
      q.take 8 = leBytes 8 ownTag ∧ slice q 8 4 = leBytes 4 (d.get F.TRN_PATH_PATH) ∧
      slice q 12 2 = leBytes 2 (d.get F.TRN_NEED_D)) ∧
    (¬ locked ∨ d.get F.TRN_STAT_NUMV = 1 ∨ master → exec .joinReqSend s = .next s) ∧
    (locked → d.get F.TRN_STAT_NUMV = 0 → ¬ master → Completes .joinReqSend s fun e =>
      e.get F.TRN_STAT_ROLE = 1 ∧ sends e 0x80 3 fun q => q.take 8 = leBytes 8 ownTag) ∧
    (¬ master → exec .rosterSend s = .next s) ∧
    (master → Completes .rosterSend s fun e => e.regs = d.regs ∧
      (e.trn.queue[0]).length = (d.trn.queue[0]).length + (d.rosterList true).length / 20 + 1) ∧
    (¬ master ∨ d.get (F.TRN_NODE_k_STATE n.val) ≠ 1 → exec (.nodeLost n) s = .next s) ∧
    (master → d.get (F.TRN_NODE_k_STATE n.val) = 1 → Completes (.nodeLost n) s fun e =>
      e.get (F.TRN_NODE_k_STATE n.val) = 0 ∧ e.nodeRec n.val = none ∧ d.fired e 100) ∧
    ((∀ r ∈ d.trn.reasm, r.node ≠ k.toNat) → exec (.reassemblyTimeout k) s = .next s) ∧
    ((∃ r ∈ d.trn.reasm, r.node = k.toNat) → Completes (.reassemblyTimeout k) s fun e =>
      (∀ r, r ∈ e.trn.reasm ↔ r ∈ d.trn.reasm ∧ r.node ≠ k.toNat) ∧
      e.get F.TRN_MSGCNT_REASM = min (d.get F.TRN_MSGCNT_REASM + 1) (2 ^ F.TRN_MSGCNT_REASM.width - 1)) ∧
    (d.wrapPort = none ∨ frames < d.get F.TRN_CFG_HEAL * 96 → exec (.healDwellExpire frames) s = .next s) ∧
    (∀ w, d.wrapPort = some w → d.portIsUp w = false → exec (.healDwellExpire frames) s = .next s) ∧
    (∀ w, d.wrapPort = some w → d.portIsUp w = true → d.get F.TRN_CFG_HEAL * 96 ≤ frames → ¬ master →
      Completes (.healDwellExpire frames) s fun e =>
      e.regs = d.regs ∧ sends e 0x80 12 fun q =>
        q = leBytes 1 w.idx ++ leBytes 1 (d.trnPort w).neighbour ++ leBytes 8 (d.trnPort w).neighTag ++ [0, 0]) ∧
    (∀ f, d.trn.unwrapAt = some f → f ≤ d.clk.rt.frame.toNat → Completes .ringHeal s fun e =>
      e.trn.unwrapAt = none ∧ (e.get F.TRN_EVT_EVT).testBit 2 = true ∧ d.fired e 98 ∧
      (d.wrapPort ≠ none → e.get F.TRN_STAT_MODE = 1)) ∧
    ((∀ f, d.trn.unwrapAt = some f → d.clk.rt.frame.toNat < f) → d.wrapPort = none → exec .ringHeal s = .next s) ∧
    (d.ringMember = false ∨ d.candidateNode = false ∨ master ∨ frames < wait → exec (.masterTakeover frames) s = .next s) ∧
    (d.ringMember = true → d.candidateNode = true → ¬ master → wait ≤ frames → Completes (.masterTakeover frames) s fun e =>
      e.get F.TRN_STAT_ROLE = 3 ∧ e.get F.TRN_STAT_NUMV = 1 ∧ e.get F.TRN_STAT_TRUST = 1 ∧ e.get F.TRN_STAT_LOCK = 0 ∧
      e.clk.ringSlave = false ∧ e.masterTag = ownTag ∧ e.get F.TRN_MASTER_NODE = e.get F.TRN_STAT_NODE ∧
      e.trn.carrier = d.get F.MOD_CFG_CARRIER ∧
      ∃ w, (e.trn.queue[0]).getLast? = some w ∧ w.dst = 0xFF ∧ w.type = 1 ∧ w.payload.take 8 = leBytes 8 ownTag) ∧
    (d.coreRuns = true →
      (d.masterMay m R.TRN_APP_TX v = true → v.getLsbD 31 = true → d.get F.TRN_APP_TX_STATE = 1 →
        Completes (.trnAppGo m v) s fun e => e.word R.TRN_APP_TX = d.word R.TRN_APP_TX ∧ e.trn = d.trn ∧ d.fired e 0) ∧
      (d.masterMay m R.TRN_APP_TX v = true → v.getLsbD 31 = true → d.get F.TRN_APP_TX_STATE ≠ 1 →
        v.toNat % 256 < 129 → v.toNat / 256 % 512 ≤ 256 → Completes (.trnAppGo m v) s fun e =>
          e.get F.TRN_APP_TX_STATE = 1 ∧ sends e (v.toNat % 256) 15 fun q =>
            (∀ i < (v.toNat / 256 % 512 + 3) / 4, d.eccAt (d.get F.TRN_APP_TXBUF_ADDR * 4 + 4 * i) = none) →
              q = d.bytes (d.get F.TRN_APP_TXBUF_ADDR * 4) (v.toNat / 256 % 512)) ∧
      (d.masterMay m R.TRN_APP_RX v = true → Completes (.trnAppRelease m v) s fun e =>
        e = { d with regs := e.regs } ∧ (∀ a, a ≠ R.TRN_APP_RX → e.word a = d.word a) ∧
        e.get F.TRN_APP_RX_VALID = (if v.getLsbD F.TRN_APP_RX_VALID.lsb then 0 else d.get F.TRN_APP_RX_VALID)) ∧
      (d.masterMay m R.TRN_CNT_CLR v = true → Completes (.trnCntClr m v) s fun e => e = { d with regs := e.regs } ∧
        (v.getLsbD 0 = true → e.word R.TRN_CRC_W = 0 ∧ e.word R.TRN_CRC_E = 0 ∧ e.word R.TRN_MSGCNT = 0) ∧
        ∀ a, (v.getLsbD 0 = false ∨ a ∉ [R.TRN_CRC_W, R.TRN_CRC_E, R.TRN_MSGCNT]) → e.word a = d.word a) ∧
      (d.masterMay m (R.TRN_LANEERR_n lane.val) v = true → Completes (.trnLaneerrClr m lane v) s fun e =>
        e = { d with regs := e.regs } ∧ (∀ a, a ≠ R.TRN_LANEERR_n lane.val → e.word a = d.word a) ∧
        e.get (F.TRN_LANEERR_n_COUNT lane.val) =
          if v.getLsbD 31 then 0 else d.get (F.TRN_LANEERR_n_COUNT lane.val)))

/-- R569 to R572, R574 to R579, R604: the byte streams of the ports and the judgement of an arriving frame. A transfer
returns the status word and the stream and stores what was sent; a full buffer is an overrun; an I²C transfer to
another address is no transfer of the device, though in ICE a start condition wakes port B (DEDUCED, log entry 55);
the parser takes a whole frame, counts a bad one, and answers by the sequence number. -/
def Obligations.HostPorts : Prop :=
  ∀ (s : State) (c : Client) (mosi written : List Byte) (addr : BitVec 7) (read : Option Nat) (n seq op flags : Nat) (payload rest : List Byte),
    let d := s.dev
    let h := d.port c
    let hb := d.port .b
    let wake := fun (x : Client) (e : Device) => e = { d with regs := e.regs } ∧
      (e.get F.EVC_WLATCH_LATCH).testBit (7 + x.idx) = true ∧ ∀ a, a ≠ R.EVC_WLATCH → e.word a = d.word a
    let counted := fun (e : Device) (f : Fld) => e.get f = min (d.get f + 1) (2 ^ f.width - 1)
    let spi := c = .a ∨ d.get F.SYS_STRAP_HPB_MODE = 0
    let i2c := d.get F.SYS_STRAP_HPB_MODE = 1
    let wrote : Device := d.setPort .b { hb with inbuf := hb.inbuf ++ written }
    (¬ spi → exec (.spiTransaction c mosi) s = .next s) ∧
    (spi → d.portServes c = false → (d.pwr.seq ≠ .ice → exec (.spiTransaction c mosi) s = .next s) ∧
      (d.pwr.seq = .ice → Completes (.spiTransaction c mosi) s (wake c))) ∧
    (spi → d.portServes c = true → h.backlog = [] → h.dropping = 0 → h.inbuf.length + mosi.length ≤ 2080 →
      Completes (.spiTransaction c mosi) s fun e =>
        let h' := e.port c
        e = d.setPort c { h with miso := h'.miso, outq := h'.outq, sentOf := h'.sentOf, inbuf := h.inbuf ++ mosi } ∧
        h'.miso = takeZeros mosi.length (leBytes 4 (d.statusWord c) ++ h.stream) ∧
        h'.stream = h.stream.drop (mosi.length - 4)) ∧
    (spi → d.portServes c = true → h.dropping = 0 → h.inbuf.length ≤ 2080 → 2080 < h.inbuf.length + mosi.length →
      Completes (.spiTransaction c mosi) s fun e =>
        counted e (F.HP_CNT_OVR c.idx) ∧ (e.get (F.HP_EVT_EVT c.idx)).testBit 2 = true ∧ d.fired e 119) ∧
    (¬ i2c → exec (.i2cTransfer addr written read) s = .next s) ∧
    (i2c → d.portServes .b = false → (d.pwr.seq ≠ .ice → exec (.i2cTransfer addr written read) s = .next s) ∧
      (d.pwr.seq = .ice → Completes (.i2cTransfer addr written read) s (wake .b))) ∧
    (i2c → d.portServes .b = true → addr.toNat ≠ d.get F.SYS_STRAP_HPB_ADDR → exec (.i2cTransfer addr written read) s = .next s) ∧
    (i2c → d.portServes .b = true → addr.toNat = d.get F.SYS_STRAP_HPB_ADDR → hb.dropping = 0 →
      hb.inbuf.length + written.length ≤ 2080 →
      exec (.i2cTransfer addr written none) s = .next { s with dev := wrote } ∧
      (hb.backlog = [] → Completes (.i2cTransfer addr written (some n)) s fun e =>
        let h' := e.port .b
        e = wrote.setPort .b { wrote.port .b with miso := h'.miso, outq := h'.outq, sentOf := h'.sentOf } ∧
        h'.miso = takeZeros (n + 1) (leBytes 4 (wrote.statusWord .b) ++ hb.stream) ∧
        h'.stream = hb.stream.drop (n - 4))) ∧
    (d.linkRuns = false → exec (.hostFrame c) s = .next s) ∧
    (d.linkRuns = true → h.inbuf = [0x5A, 0xA5] ++ rest → 10 ≤ rest.length → headerGood h.inbuf = false →
      Completes (.hostFrame c) s fun e =>
        e.port c = { h with inbuf := rest } ∧ counted e (F.HP_CNT_HCRC c.idx) ∧
        (e.get (F.HP_EVT_EVT c.idx)).testBit 0 = true ∧ d.fired e 119) ∧
    (d.linkRuns = true → headerGood h.inbuf = true → 1024 < field h.inbuf 8 2 → Completes (.hostFrame c) s fun e =>
      e.port c = ({ h with inbuf := h.inbuf.drop 12 } : Hp).push
        ((frameCmd (h.inbuf.take 12) .port).response (respPayload 4 0 [])) ∧
      counted e (F.HP_CNT2_FRAMELEN c.idx) ∧ (e.get (F.HP_EVT_EVT c.idx)).testBit 3 = true) ∧
    (d.linkRuns = true → headerGood h.inbuf = true → field h.inbuf 8 2 ≤ 1024 → 1 ≤ field h.inbuf 8 2 →
      16 + field h.inbuf 8 2 ≤ h.inbuf.length →
      field h.inbuf (12 + field h.inbuf 8 2) 4 ≠ crc32 ((h.inbuf.drop 12).take (field h.inbuf 8 2)) →
      Completes (.hostFrame c) s fun e =>
        e.port c = ({ h with inbuf := h.inbuf.drop (16 + field h.inbuf 8 2) } : Hp).push
          ((frameCmd (h.inbuf.take 12) .port).response (respPayload 5 0 [])) ∧
        counted e (F.HP_CNT_PCRC c.idx) ∧ (e.get (F.HP_EVT_EVT c.idx)).testBit 1 = true ∧ d.fired e 119) ∧
    (d.linkRuns = true → h.inbuf = hostFrame seq op flags payload ++ rest → seq < 65536 → op < 65536 → flags < 65536 →
      payload.length ≤ 1024 →
      let k : Cmd := ⟨seq, op, flags, payload, hostFrame seq op flags payload, .port, d.linkCycle⟩
      let took : Hp := { h with inbuf := rest }
      let answers := fun (st extra : Nat) => Completes (.hostFrame c) s fun e =>
        e.port c = took.push (k.response (respPayload st extra [])) ∧ d.exp c = e.exp c
      let sync := op = 1 ∧ flags.testBit 2 = true
      let back := (d.exp c + 65536 - seq) % 65536
      let near := d.synced c = true ∧ 1 ≤ back ∧ back ≤ 8
      let queued : Hp := { took with queue := h.queue ++ [k] }
      (sync → h.queue.length < 8 → d.still = false → exec (.hostFrame c) s = .next { s with dev := d.setPort c queued }) ∧
      (sync ∨ (d.synced c = true ∧ seq = d.exp c) → h.queue.length < 8 → d.still = true → Completes (.hostFrame c) s fun e =>
        e.port c = queued ∧ (e.get F.EVC_WLATCH_LATCH).testBit (7 + c.idx) = true) ∧
      (¬ sync → d.synced c = true → seq = d.exp c → h.queue.length < 8 → d.still = false → Completes (.hostFrame c) s fun e =>
        e = { d.setPort c queued with regs := e.regs } ∧ e.exp c = (seq + 1) % 65536 ∧
        ∀ a, a ≠ R.HP_SEQ c.idx → e.word a = d.word a) ∧
      (sync ∨ (d.synced c = true ∧ seq = d.exp c) → 8 ≤ h.queue.length → answers 0x0F 0) ∧
      (¬ sync → d.synced c = false → answers 3 0) ∧
      (¬ sync → near → ∀ p, h.cache.lookup seq = some p →
        exec (.hostFrame c) s = .next { s with dev := d.setPort c (took.push (k.response p)) }) ∧
      (¬ sync → near → h.cache.lookup seq = none → (∃ q ∈ h.queue, q.seq = seq ∧ q.origin ≠ .core) → answers 0x10 0) ∧
      (¬ sync → near → h.cache.lookup seq = none → (∀ q ∈ h.queue, q.seq = seq → q.origin = .core) →
        answers 2 (d.exp c) ∧ Completes (.hostFrame c) s fun e => counted e (F.HP_CNT_NAKSEQ c.idx)) ∧
      (¬ sync → d.synced c = true → seq ≠ d.exp c → ¬ near →
        answers 2 (d.exp c) ∧ Completes (.hostFrame c) s fun e => counted e (F.HP_CNT_NAKSEQ c.idx)))

/-- R32, R573, R576, R584, R585, R598: checks 5 to 9 at the head of a queue. The command at the head executes once LINK
and the cores run, none of its client executes, its response has room, and no command of the other client that came
before it, port A's first on a tie, waits and touches the same resource (a resource is a span of addresses, DEDUCED,
log entry 56); until then, and where another command stands at the head, the device stays as it is. A command without
its form, its rights or the lease completes with the status of the first check that fails. -/
def Obligations.HostJudgement : Prop :=
  ∀ (s : State) (c : Client) (bad : Bool) (k : Cmd),
    let d := s.dev
    let commands := [(0x01, Instr.hello c), (0x02, .ping c), (0x03, .status c), (0x10, .regRead c), (0x11, .regWrite c),
      (0x20, .evtDone c), (0x30, .stateReq c), (0x40, .leaseAcquire c), (0x41, .leaseRenew c), (0x42, .leaseRelease c),
      (0x43, .leaseBreak c), (0x50, .setPriv c), (0x60, .txnStage c), (0x61, .txnCommit c bad), (0x62, .txnDiscard c),
      (0x63, .txnQuery c), (0x70, .logRead c), (0x80, .chnCmd c), (0x90, .relay c), (0xA0, .updBegin c), (0xA1, .updData c),
      (0xA2, .updStatus c), (0xA3, .updVerify c), (0xA4, .updActivate c), (0xA5, .updConfirm c), (0xA6, .updAbort c),
      (0xA7, .updKey c), (0xB0, .idList c), (0xB1, .idAdopt c), (0xB2, .idRevoke c), (0xB3, .idCommit c),
      (0xC0, .convOpen c), (0xC1, .convClose c)]
    let rights := [(0x03, 16), (0x10, 16), (0x63, 16), (0x70, 16), (0x20, 15), (0x61, 15), (0x62, 15), (0x40, 2), (0x41, 2),
      (0x42, 2), (0x43, 6), (0x50, 2), (0x80, 8), (0xA0, 2), (0xA1, 2), (0xA2, 2), (0xA3, 2), (0xA4, 2), (0xA5, 2), (0xA6, 2),
      (0xA7, 2), (0xB0, 2), (0xB1, 2), (0xB2, 2), (0xB3, 2)]
    let ends := fun (i : Instr) (st : Nat) => exec i s = .next { s with dev := d.answered c k st 0 [] }
    (∀ q t, (d.port c).queue = q :: t → (d.headCmd c = some q ↔ d.coreRuns = true ∧ (d.running = true ∨ d.nvs.rom = true) ∧
      (d.port c).busy = false ∧ d.outRoom c q = true ∧
      ∀ o ∈ (if (d.port c.other).busy then (d.port c.other).queue.drop 1 else (d.port c.other).queue),
        o.at_ < q.at_ ∨ (o.at_ = q.at_ ∧ c = .b) →
        ∀ x ∈ d.spansOf c.other o, ∀ y ∈ d.spansOf c q, x.1 + x.2 ≤ y.1 ∨ y.1 + y.2 ≤ x.1)) ∧
    (d.headCmd c = none → (∀ x ∈ commands, exec x.2 s = .next s) ∧ exec (.app c) s = .next s ∧
      exec (.hostUnknownOpcode c) s = .next s) ∧
    (d.headCmd c = some k → (∀ x ∈ commands, k.opcode ≠ x.1 → exec x.2 s = .next s) ∧
      (k.opcode < 0x8000 ∨ 0xFEFF < k.opcode → exec (.app c) s = .next s) ∧
      (d.opDefined c k = true → exec (.hostUnknownOpcode c) s = .next s)) ∧
    (d.serves c k →
      (d.opDefined c k = false → ends (.hostUnknownOpcode c) 1 ∧ (∀ x ∈ commands, k.opcode = x.1 → ends x.2 1) ∧
        (0x8000 ≤ k.opcode → k.opcode ≤ 0xFEFF → ends (.app c) 1)) ∧
      (d.opDefined c k = true → lenOk k.opcode k.payload = false → ∀ x ∈ commands, k.opcode = x.1 → ends x.2 6) ∧
      (d.opDefined c k = true → lenOk k.opcode k.payload = true →
        (∀ x ∈ commands, ∀ r ∈ rights, k.opcode = x.1 → r.1 = x.1 → d.privMask c &&& r.2 = 0 → ends x.2 7) ∧
        (∀ x ∈ commands, k.opcode = x.1 → (x.1 = 0x50 ∨ (0xA0 ≤ x.1 ∧ x.1 ≤ 0xB3)) → d.privMask c &&& 2 ≠ 0 →
          d.holdsLease c = false → ends x.2 8) ∧
        (k.opcode = 0x11 → (∃ i < field k.payload 4 2, ∃ r, hostRight (field k.payload 0 4 + 4 * i)
            (BitVec.ofNat 32 (field k.payload (8 + 4 * i) 4)) = some r ∧ d.hasRight c r.1 = false) → ends (.regWrite c) 7) ∧
        (k.opcode = 0x30 → d.hasRight c (stateRights (field k.payload 0 1)) = false → ends (.stateReq c) 7) ∧
        (0x8000 ≤ k.opcode → d.privMask c &&& 16 = 0 → ends (.app c) 7) ∧
        (k.opcode = 0xC1 → (d.convOf c k.conv).kind = 0 →
          ends (.convClose c) (if (d.convOf c k.conv).timedOut then 0x12 else 0x11))))

/-- R17, R25, R26, R578, R584 to R589, R598 to R600: HELLO, PING, STATUS, register access, EVT_DONE, STATE_REQ, SET_PRIV
and the lease. -/
def Obligations.HostCommandSet : Prop :=
  ∀ (s : State) (c : Client) (k : Cmd),
    let d := s.dev
    let h := d.port c
    let o := c.other
    let p := k.payload
    let ends := fun (i : Instr) (st ex : Nat) (data : List Byte) => exec i s = .next { s with dev := d.answered c k st ex data }
    let go := fun (op : Nat) => d.serves c k ∧ k.opcode = op ∧ d.commandBars c k = none
    let lease := fun (e : Device) => leBytes 4 (e.word (R.HP_LEASE 0)).toNat
    let leased := fun (e : Device) (st holder remain : Nat) => ∀ x < 2, e.get (F.HP_LEASE_STATE x) = st ∧
      e.get (F.HP_LEASE_HOLDER x) = holder ∧ e.get (F.HP_LEASE_REMAIN x) = remain
    let led := fun (i : Instr) (base : Device) (st holder remain : Nat) => Completes i s fun e =>
      e = ({ base with regs := e.regs, leasePhase := if st = 1 then 0 else d.leasePhase } : Device).answered c k 0 0 (lease e) ∧
      leased e st holder remain ∧
      ∀ a, a ≠ R.HP_LEASE 0 → a ≠ R.HP_LEASE 1 → e.word a = d.word a
    let state := d.get (F.HP_LEASE_STATE 0)
    let mine := state ≠ 0 ∧ d.get (F.HP_LEASE_HOLDER 0) = c.idx + 1
    let maint := d.privMask c &&& 2 ≠ 0
    (go 1 → k.flags.testBit 2 = false → ends (.hello c) 0 0 (leBytes 2 (d.exp c) ++ leBytes 1 (d.privMask c) ++ [0] ++
      leBytes 4 (d.word R.SYS_RST_CAUSE).toNat ++ leBytes 4 d.sed.resetSeq)) ∧
    (go 1 → k.flags.testBit 2 = true → Completes (.hello c) s fun e =>
      e.exp c = (k.seq + 1) % 65536 ∧ e.synced c = true ∧ (e.port c).queue = h.queue.tail ∧
      (e.port c).convs = .replicate 4 .closed ∧ (e.port c).cache = [(k.seq, respPayload 0 0
        (leBytes 2 (k.seq + 1) ++ leBytes 1 (d.privMask c) ++ [0] ++ leBytes 4 (d.word R.SYS_RST_CAUSE).toNat ++
          leBytes 4 d.sed.resetSeq))]) ∧
    (go 2 → ends (.ping c) 0 0 (p.take 1020)) ∧
    (go 3 → ends (.status c) 0 0 (leBytes 4 (d.word R.PWR_STAT).toNat ++ leBytes 4 (d.word R.PWR_FAULT).toNat ++
      leBytes 4 (d.word R.PWR_CMD_STAT).toNat ++ leBytes 4 d.epoch ++ leBytes 8 d.clk.rt.packed.toNat ++ lease d)) ∧
    (∀ i < field p 4 2, regionOf (field p 0 4 + 4 * i) = .none → (∀ j < i, regionOf (field p 0 4 + 4 * j) ≠ .none) →
      (go 0x10 → ends (.regRead c) 0x0A i []) ∧ (go 0x11 → ends (.regWrite c) 0x0A i [])) ∧
    (go 0x10 → d.ecc = [] → (∀ i < field p 4 2, regionOf (field p 0 4 + 4 * i) = .coreSram) →
      ends (.regRead c) 0 0 ((List.range (field p 4 2)).flatMap fun i => leBytes 4 (d.memWord (field p 0 4 + 4 * i)).toNat)) ∧
    (go 0x11 → (∀ i < field p 4 2, regionOf (field p 0 4 + 4 * i) = .coreSram) → Completes (.regWrite c) s fun e =>
      e = ({ d with mem := e.mem, ecc := e.ecc } : Device).answered c k 0 0 [] ∧
      (∀ i < field p 4 2, (e.memWord (field p 0 4 + 4 * i)).toNat = field p (8 + 4 * i) 4) ∧
      ∀ b, b < field p 0 4 ∨ field p 0 4 + 4 * field p 4 2 ≤ b → e.byte b = d.byte b) ∧
    (∀ r, go 0x11 → field p 4 2 = 1 → regionOf (field p 0 4) = .periph → regFind (field p 0 4) = some r →
      d.writeReserved (portMaster c) true r (field p 0 4) (BitVec.ofNat 32 (field p 8 4)) = true →
      Completes (.regWrite c) s fun e =>
        e.port c = (d.answered c k 0x0B 0 (leBytes 4 (field p 0 4))).port c ∧ d.fired e 0) ∧
    (∀ n : Fin 128, go 0x20 → field p 0 1 = n → Completes (.evtDone c) s fun e =>
      e.port c = { (d.answered c k 0 0 []).port c with ntf := h.ntf.filter fun t => t.source != n.val } ∧
      ((d.source n).st = .inService ∧ (d.source n).target = (if c = .a then 2 else 3) →
        e.source n = (d.source n).complete ∧ e.regs = d.regs) ∧
      (¬ ((d.source n).st = .inService ∧ (d.source n).target = (if c = .a then 2 else 3)) →
        e.source n = d.source n ∧ e.get F.EVC_STAT_BADDONE = 1)) ∧
    (go 0x20 → 128 ≤ field p 0 1 → Completes (.evtDone c) s fun e =>
      e.port c = (d.answered c k 0x0B 0 []).port c ∧ d.fired e 0) ∧
    (go 0x30 → 10 ≤ field p 0 1 → Completes (.stateReq c) s fun e =>
      e.port c = (d.answered c k 0x0B 0 []).port c ∧ d.fired e 0 ∧ e.word R.PWR_CMD_STAT = d.word R.PWR_CMD_STAT) ∧
    (∀ r < 16, go 0x30 → 1 ≤ field p 0 1 → field p 0 1 ≤ 9 → d.powerBusy = false → d.requestBars (field p 0 1) = some r →
      Completes (.stateReq c) s fun e => e = ({ d with regs := e.regs } : Device).answered c k 0x0D r [] ∧
        e.get F.PWR_CMD_STAT_REQ = field p 0 1 ∧ e.get F.PWR_CMD_STAT_RESULT = 3 ∧ e.get F.PWR_CMD_STAT_REASON = r) ∧
    (go 0x30 → field p 0 1 = 8 → d.powerBusy = false → d.requestBars 8 = none → d.get F.PWR_STAT_MAIN ≠ 2 →
      Completes (.stateReq c) s fun e =>
        e = ({ d with regs := e.regs, pwr := { d.pwr with pre := .due } } : Device).answered c k 0 1 [] ∧
        e.get F.PWR_CMD_STAT_REQ = 8 ∧ e.get F.PWR_CMD_STAT_RESULT = 1) ∧
    (go 0x50 → 1 < field p 0 1 ∨ 31 < field p 1 1 → ends (.setPriv c) 0x0B 0 []) ∧
    (∀ a b, go 0x50 → field p 0 1 ≤ 1 → field p 1 1 ≤ 31 →
      a = (if field p 0 1 = 0 then field p 1 1 else d.privMask .a) →
      b = (if field p 0 1 = 1 then field p 1 1 else d.privMask .b) →
      ((a ||| b) &&& 4 = 0 ∨ (a ||| b) &&& 2 = 0 → ends (.setPriv c) 7 0 []) ∧
      ((a ||| b) &&& 4 ≠ 0 → (a ||| b) &&& 2 ≠ 0 → Completes (.setPriv c) s fun e =>
        d.begins e c ⟨[d.systemLine a b], some ⟨c, 0, 0, []⟩,
          .priv (if field p 0 1 = 0 then .a else .b) (field p 1 1), false, 0⟩)) ∧
    (go 0x40 → state = 0 ∨ mine → led (.leaseAcquire c) d 1 (c.idx + 1) 500) ∧
    (go 0x40 → state ≠ 0 → ¬ mine → ends (.leaseAcquire c) 9 0 (lease d)) ∧
    (go 0x41 → mine → led (.leaseRenew c) d 1 (c.idx + 1) 500) ∧
    (go 0x41 → ¬ mine → ends (.leaseRenew c) 8 0 (lease d)) ∧
    (go 0x42 → mine → led (.leaseRelease c) (d.setPort c { h with
      convs := h.convs.map fun v => if v.kind = 1 ∨ v.kind = 2 then .closed else v }) 0 0 0) ∧
    (go 0x42 → ¬ mine → ends (.leaseRelease c) 8 0 (lease d)) ∧
    (go 0x43 → state = 0 → maint → led (.leaseBreak c) d 1 (c.idx + 1) 500) ∧
    (go 0x43 → state = 0 → ¬ maint → led (.leaseBreak c) d 0 0 0) ∧
    (go 0x43 → mine → ends (.leaseBreak c) 0 0 (lease d)) ∧
    (go 0x43 → state = 1 → ¬ mine → ends (.leaseBreak c) 9 0 (lease d)) ∧
    (go 0x43 → state = 2 → ¬ mine → (d.port o).busy = true → exec (.leaseBreak c) s = .next s) ∧
    (go 0x43 → state = 2 → ¬ mine → (d.port o).busy = false → (∀ q ∈ (d.port o).queue, q.origin = .port) →
      Completes (.leaseBreak c) s fun e =>
        (maint → leased e 1 (c.idx + 1) 500) ∧ (¬ maint → leased e 0 0 0) ∧
        (e.port o).queue = [] ∧ (∀ v ∈ (e.port o).convs.toList, v.kind ≠ 1 ∧ v.kind ≠ 2) ∧
        (∀ x < 2, (e.get (F.HP_EVT_EVT x)).testBit 6 = true) ∧ d.fired e 118 ∧
        d.logged e [d.entry 118 (sourceSev 118) 0 []] ∧
        (e.port c).cache.head? = some (k.seq, respPayload 0 0 (lease e)) ∧
        ∀ q, (d.port o).queue = [q] → (e.port o).cache.head? = some (q.seq, respPayload 0x0E 0 []) ∧
          (e.get (F.HP_EVT_EVT o.idx)).testBit 7 = true) ∧
    (d.linkRuns = false ∨ state ≠ 1 → exec .leaseExpired s = .next s) ∧
    (d.linkRuns = true → state = 1 → Completes .leaseExpired s fun e =>
      leased e 2 (d.get (F.HP_LEASE_HOLDER 0)) 0 ∧ (∀ x < 2, (e.get (F.HP_EVT_EVT x)).testBit 5 = true) ∧ d.fired e 117 ∧
      d.logged e [d.entry 117 (sourceSev 117) (d.get (F.HP_LEASE_HOLDER 0) - 1) []])

/-- R590, R591, R593, R595, R596, R601 to R603, R617, R663: LOG_READ, which answers the first entries from a number on
that bank 7 or the persistent area holds; CHN_CMD, RELAY, the conversations, APP commands with the answer of the
firmware, notifications and their resending after RETX ms, and the counters of a port. -/
def Obligations.HostServices : Prop :=
  ∀ (s : State) (c : Client) (k : Cmd) (i : Fin 4) (src : Fin 128) (m : Master) (v : Word) (time : Nat),
    let d := s.dev
    let h := d.port c
    let p := k.payload
    let ends := fun (x : Instr) (st ex : Nat) (data : List Byte) => exec x s = .next { s with dev := d.answered c k st ex data }
    let go := fun (op : Nat) => d.serves c k ∧ k.opcode = op ∧ d.commandBars c k = none
    let done := fun (x : Instr) (e : Device) => exec x s = .next { s with dev := e }
    let mb := if c = .a then 2 else 3
    let inUse := d.get (F.SHL_MB_RES_m_STATE mb) = 1 ∨ d.get (F.SHL_MB_RES_m_STATE mb) = 2
    let opOk := field p 1 1 = 1 ∨ field p 1 1 = 4 ∨ field p 1 1 = 0x0A ∨ field p 1 1 = 0x0B ∨ field p 1 1 = 0x0D ∨
      0x0F ≤ field p 1 1
    let addrOk := (1 ≤ field p 0 1 ∧ field p 0 1 ≤ 64) ∨ field p 0 1 = 127
    let node := field p 0 1
    let ms := field p 2 2
    let target : Client := if field p 1 1 = 0 then .a else .b
    let relayOk := node ≤ 127 ∧ field p 1 1 ≤ 1 ∧ 1 ≤ ms ∧ ms ≤ 1000
    let ring := d.get F.TRN_STAT_TRUST = 1 ∧ d.get F.TRN_STAT_LOCK = 1
    let waits : Hp := { h with busy := true, relay := some (node, target) }
    let kind := field p 0 1
    let x : Fin 4 := if c = .a then 2 else 3
    let rlen := v.toNat / 65536 % 2048
    let resp := d.bytes (d.get (F.HP_FW_BUF_ADDR c.idx) * 4) rlen
    let buf := d.get (F.HP_FW_BUF_ADDR c.idx) * 4
    let inSram := fun (a n : Nat) => 0x10000000 ≤ a ∧ a + n ≤ 0x10180000
    let after := fun (q : Nat) => (q + 2 ^ 32 - field p 0 4) % 2 ^ 32
    let logged := fun (q : Nat) => q < 2 ^ 32 ∧ after (d.get F.SED_NEXT_SEQ) < 2 ^ 31 ∧ after q < after (d.get F.SED_NEXT_SEQ) ∧
      (d.heldAt (q % 2048) = some q ∨ ∃ y ∈ d.persisted, y.1 = q)
    (go 0x70 → d.ecc = [] → d.nvs.ecc = [] → (d.persisted.map Prod.fst).Nodup → ∃ ss : List Nat, ss.length ≤ field p 4 1 ∧ ss.Pairwise (fun a b => after a < after b) ∧
        (∀ q ∈ ss, logged q) ∧
        (∀ q, logged q → q ∈ ss ∨ (ss.length = field p 4 1 ∧ ∀ y ∈ ss, after y < after q)) ∧
        ends (.logRead c) 0 ss.length (ss.flatMap fun q => if d.heldAt (q % 2048) = some q then d.bytes (bank7Addr (q % 2048)) 32
          else ((d.persisted.lookup q).map fun i => d.bytes (0x300F0000 + 32 * i) 32).getD [])) ∧
    (go 0x80 → ¬ addrOk ∨ ¬ opOk ∨ 64 < field p 2 1 ∨ inUse → ends (.chnCmd c) 0x0B 0 []) ∧
    (go 0x80 → addrOk → opOk → field p 2 1 ≤ 64 → ¬ inUse → d.shl.role = false → Completes (.chnCmd c) s fun e =>
      e.port c = { h with busy := true } ∧ e.get (F.SHL_MB_CTL_m_ADDR mb) = field p 0 1 ∧
      e.get (F.SHL_MB_CTL_m_OPCODE mb) = field p 1 1 ∧ e.get (F.SHL_MB_CTL_m_LEN mb) = field p 2 1 ∧
      e.get (F.SHL_MB_RES_m_STATE mb) = 1 ∧ e.shl.mbq = d.shl.mbq ++ [if c = .a then 2 else 3] ∧
      (inSram (d.get (F.SHL_MB_BUF_m_ADDR mb) * 4) (field p 2 1) →
        e.bytes (d.get (F.SHL_MB_BUF_m_ADDR mb) * 4) (field p 2 1) = p.drop 4)) ∧
    (go 0x90 → ¬ relayOk → ends (.relay c) 0x0B 0 []) ∧
    (go 0x90 → relayOk → ¬ ring ∨ (node ≠ d.get F.TRN_STAT_NODE ∧ d.get (F.TRN_NODE_k_STATE node) ≠ 1) →
      ends (.relay c) 0x16 0 []) ∧
    (go 0x90 → relayOk → ring → node = d.get F.TRN_STAT_NODE → done (.relay c)
      ((d.setPort c waits).arriveWhole target (p.drop 4) (.loc c))) ∧
    (go 0x90 → relayOk → ring → node ≠ d.get F.TRN_STAT_NODE → d.get (F.TRN_NODE_k_STATE node) = 1 → p.length ≤ 256 →
      Completes (.relay c) s fun e =>
        e = { d.setPort c waits with trn := { d.trn with queue := e.trn.queue, mseq := (d.trn.mseq + 1) % 256 } } ∧
        (∀ j : Fin 3, e.trn.queue[j] = if j.val = (msgClass 8).val then d.trn.queue[j] ++ [⟨node, d.trnSrc, 8, 6, d.trn.mseq,
          leBytes 1 target.idx ++ [0] ++ leBytes 2 (p.length - 4) ++ p.drop 4⟩] else d.trn.queue[j])) ∧
    (h.busy = false ∨ h.relay = none → exec (.relayTimeout c) s = .next s) ∧
    (h.busy = true → h.relay ≠ none → h.queue.head? = some k → k.origin = .port → d.txn.creqWaits = false →
      ends (.relayTimeout c) 0x17 0 []) ∧
    (go 0xC0 → kind = 0 ∨ 3 < kind → ends (.convOpen c) 0x0B 0 []) ∧
    (go 0xC0 → 1 ≤ kind → kind ≤ 3 → (∀ j : Fin 4, (h.convs[j]).kind ≠ 0) → ends (.convOpen c) 0x11 0 []) ∧
    (go 0xC0 → 1 ≤ kind → kind ≤ 3 → (h.convs[i]).kind = 0 → (∀ j : Fin 4, j < i → (h.convs[j]).kind ≠ 0) →
      done (.convOpen c)
        ((d.setPort c { h with convs := h.convs.set i ⟨kind, false, []⟩ }).answered c k 0 0 (leBytes 4 (i.val + 1)))) ∧
    (go 0xC1 → k.conv = i.val + 1 → done (.convClose c)
      ((d.setPort c { h with convs := h.convs.set i .closed }).answered c k 0 0 [])) ∧
    (d.linkRuns = false ∨ (h.convs[i]).kind = 0 ∨ (∃ q ∈ h.queue, q.conv = i.val + 1) →
      exec (.convTimeout c i) s = .next s) ∧
    (d.linkRuns = true → (h.convs[i]).kind ≠ 0 → (∀ q ∈ h.queue, q.conv ≠ i.val + 1) → Completes (.convTimeout c i) s fun e =>
      e.port c = { h with convs := h.convs.set i ⟨0, true, []⟩ } ∧
      e.get (F.HP_CNT2_CONVTO c.idx) = min (d.get (F.HP_CNT2_CONVTO c.idx) + 1) (2 ^ (F.HP_CNT2_CONVTO c.idx).width - 1) ∧
      (e.get (F.HP_EVT_EVT c.idx)).testBit 4 = true ∧ d.fired e 119) ∧
    (d.serves c k → 0x8000 ≤ k.opcode → k.opcode ≤ 0xFEFF → d.commandBars c k = none → Completes (.app c) s fun e =>
      e.port c = { h with busy := true } ∧ e.get (F.HP_FW_CTL_PEND c.idx) = 1 ∧
      d.fired e (if c = .a then 112 else 113) ∧
      (inSram buf (k.frame.length + 1) → e.bytes buf (k.frame.length + 1) = k.frame ++ leBytes 1 (d.privMask c))) ∧
    (d.coreRuns = true → d.masterMay m (R.HP_FW_CTL c.idx) v = true →
      (rlen < 4 ∨ 1024 < rlen ∨ (v.getLsbD 1 = true ∧ d.get (F.HP_FW_CTL_PEND c.idx) = 0) →
        Completes (.fwResponseDone m c v) s fun e => e.hp = d.hp ∧ e.get (F.HP_FW_CTL_PEND c.idx) =
          d.get (F.HP_FW_CTL_PEND c.idx) ∧ d.fired e 0) ∧
      (4 ≤ rlen → rlen ≤ 1024 → v.getLsbD 1 = false → Completes (.fwResponseDone m c v) s fun e =>
        e = { d with regs := e.regs } ∧ ∀ a, e.word a = d.word a) ∧
      (4 ≤ rlen → rlen ≤ 1024 → v.getLsbD 1 = true → d.get (F.HP_FW_CTL_PEND c.idx) = 1 → h.queue.head? = some k →
        (∀ j < (rlen + 3) / 4, d.eccAt (buf + 4 * j) = none) →
        k.origin = .port → d.txn.creqWaits = false → Completes (.fwResponseDone m c v) s fun e =>
          e = ({ d with regs := e.regs } : Device).answered c k (ofLe (resp.take 2)) (ofLe ((resp.drop 2).take 2))
            (resp.drop 4) ∧ e.get (F.HP_FW_CTL_PEND c.idx) = 0)) ∧
    (d.coreRuns = false ∨ d.get (F.HP_CFG_NOTIFY c.idx) = 0 ∨ 8 ≤ h.ntf.length ∨ 4060 < h.outBytes ∨ d.delivered x = 0 →
      exec (.notifyClaim c) s = .next s) ∧
    (∀ n, d.coreRuns = true → d.get (F.HP_CFG_NOTIFY c.idx) = 1 → h.ntf.length < 8 → h.outBytes ≤ 4060 →
      d.delivered x ≠ 0 → d.claimChoice x = some n → Completes (.notifyClaim c) s fun e =>
        let w := claimWord n (d.source n)
        let f := hostFrame (d.get (F.HP_NTF_NSEQ c.idx)) 0x0F00 2
          (leBytes 4 0 ++ leBytes 4 w.toNat ++ leBytes 8 d.clk.rt.packed.toNat ++ leBytes 4 d.epoch)
        e.port c = { h with outq := h.outq ++ [f], ntf := h.ntf ++ [⟨w.toNat % 256, f⟩] } ∧
        e.get (F.HP_NTF_NSEQ c.idx) = (d.get (F.HP_NTF_NSEQ c.idx) + 1) % 65536 ∧ (e.source n).st = .inService) ∧
    (d.linkRuns = false ∨ time < d.get (F.HP_CFG_RETX c.idx) ∨ (∀ t ∈ h.ntf, t.source ≠ src.val) →
      exec (.notifyRetx c src time) s = .next s) ∧
    (∀ t, d.linkRuns = true → d.get (F.HP_CFG_RETX c.idx) ≤ time → h.ntf = [t] → t.source = src.val →
      (h.outBytes + t.frame.length ≤ 4096 →
        done (.notifyRetx c src time) (d.setPort c (h.push t.frame))) ∧
      (4096 < h.outBytes + t.frame.length → exec (.notifyRetx c src time) s = .next s)) ∧
    (d.coreRuns = true → d.masterMay m (R.HP_CNT2 c.idx) v = true → Completes (.hpCntClr m c v) s fun e =>
      e = { d with regs := e.regs } ∧
      (v.getLsbD 31 = true → e.word (R.HP_CNT c.idx) = 0 ∧ e.word (R.HP_CNT2 c.idx) = 0) ∧
      ∀ a, (v.getLsbD 31 = false ∨ (a ≠ R.HP_CNT c.idx ∧ a ≠ R.HP_CNT2 c.idx)) → e.word a = d.word a)

/-- R33, R34, R618 to R645, R649: the staging areas, the commit, its arming, its third wave, the coefficient window, and a
request of a core. A commit that a check refuses applies nothing and answers why; one that passes is judged, armed at
the boundary that R626 gives, and completes after its last wave. -/
def Obligations.Transactions : Prop :=
  ∀ (s : State) (c : Client) (k : Cmd) (bad : Bool) (x : Entry) (m : Master) (a v : Word),
    let d := s.dev
    let h := d.port c
    let p := k.payload
    let es := d.staged c
    let done := fun (i : Instr) (e : Device) => exec i s = .next { s with dev := e }
    let ends := fun (i : Instr) (st ex : Nat) (data : List Byte) => done i (d.answered c k st ex data)
    let go := fun (op : Nat) => d.serves c k ∧ k.opcode = op ∧ d.commandBars c k = none
    let count := fun (l : List Entry) => leBytes 2 l.length ++ [0, 0]
    let one := go 0x60 ∧ p = leBytes 2 1 ++ [0, 0] ++ x.bytes
    let base := (field p 0 4, field p 4 4)
    let refused := fun (i : Instr) (l : List Entry) (st cause index : Nat) => Completes i s fun e =>
      e.get (F.TXN_CLIENT_c_LAST_STATUS c.idx) = st ∧ e.get (F.TXN_CLIENT_c_LAST_CAUSE c.idx) = cause ∧
      e.get (F.TXN_CLIENT_c_LAST_WAVES c.idx) = 0 ∧ e.staged c = es ∧ e.flightOf c = none ∧ e.mem = d.mem ∧
      (∀ b, b ≠ R.TXN_CLIENT_c_LAST c.idx → e.word b = d.word b) ∧
      e.port c = (d.answered c k st (index % 512 + cause * 4096) (leBytes 4 d.epoch ++ leBytes 4 (d.get F.TXN_REV_REV) ++
        leBytes 4 0 ++ leBytes 1 0 ++ leBytes 1 0 ++ leBytes 1 cause ++ [0] ++ leBytes 64 (d.forceMap l))).port c
    let judged : Flight := ⟨.judged, base.1, base.2, es.map fun e => ⟨e, 0⟩, 0, 0, 0, false, none⟩
    let left := if 28672 < d.cget .s F.ST_BLKCYC_CYCLE then 2 else 1
    (one → ∀ st, d.stageRight c x = some st → ends (.txnStage c) st 0 []) ∧
    (one → d.stageRight c x = none →
      (d.stageable x = false → ends (.txnStage c) 0x15 0x1000 []) ∧
      (d.stageable x = true → x.valueOk = false → ends (.txnStage c) 0x15 0x2000 []) ∧
      (d.stageable x = true → x.valueOk = true →
        ((∀ y ∈ es, y.key ≠ x.key) → es.length < 512 →
          done (.txnStage c) ((d.setStaged c (es ++ [x])).answered c k 0 0 (count (es ++ [x])))) ∧
        ((∀ y ∈ es, y.key ≠ x.key) → 512 ≤ es.length → ends (.txnStage c) 0x15 0x3000 []) ∧
        (∀ l y r, es = l ++ [y] ++ r → y.key = x.key → (∀ z ∈ l ++ r, z.key ≠ x.key) → es.length ≤ 512 →
          done (.txnStage c) ((d.setStaged c (l ++ [x] ++ r)).answered c k 0 0 (count es))))) ∧
    (go 0x62 → done (.txnDiscard c) ((d.setStaged c []).answered c k 0 0 (count es))) ∧
    (go 0x63 → let part := (es.drop (field p 0 2)).take (field p 2 2)
      ends (.txnQuery c) 0 part.length (leBytes 4 d.epoch ++ leBytes 4 (d.get F.TXN_REV_REV) ++ leBytes 2 es.length ++
        leBytes 1 (fieldOf (d.txnClient c) 12 2) ++ leBytes 1 (d.get F.TXN_SETTLE_BLOCKS) ++ part.flatMap Entry.bytes)) ∧
    (go 0x61 → d.flightOf c = none →
      (es = [] → refused (.txnCommit c bad) [] 0x15 4 0) ∧
      (es ≠ [] → laterVersion base d.version = true → refused (.txnCommit c false) es 0x15 5 0) ∧
      (es ≠ [] → laterVersion base d.version = false →
        (∀ w, d.judgeTxn c es base false = some w → refused (.txnCommit c false) es w.status w.cause w.index) ∧
        (d.judgeTxn c es base false = none →
          done (.txnCommit c false) ((d.setPort c { h with busy := true }).setFlight c (some judged))))) ∧
    (d.flightOf c = none → done (.txnArmed c) d ∧ done (.txnWave3 c bad) d) ∧
    (∀ f, d.flightOf c = some f →
      (f.phase ≠ .judged → done (.txnArmed c) d) ∧
      (f.phase = .judged → (∀ e ∈ f.list, e.window = false) →
        done (.txnArmed c) (d.setFlight c (some { f with phase := .armed left }))) ∧
      (f.phase = .judged → (∃ e ∈ f.list, e.window = true) → d.freeCopies = [] → done (.txnArmed c) d) ∧
      (∀ n t i, f.phase = .judged → f.list.filter Entry.window = [x] → d.freeCopies = n :: t → d.ecc = [] →
        d.windowAt x.addr = some (.cur, i) → i < d.winLen → Completes (.txnArmed c) s fun e =>
          e = { d.setFlight c (some { f with phase := .armed left, copy := some n }) with mem := e.mem, ecc := [] } ∧
          ∀ j < d.winLen, e.memWord (d.copyAddr n j) =
            if j = i then x.value else d.memWord (d.copyAddr (d.get F.TXN_CWIN_STAT_CUR) j)) ∧
      ((∀ n, f.phase ≠ .toWave3 n) → done (.txnWave3 c bad) d) ∧
      (∀ n, f.phase = .toWave3 n → 1 < n → done (.txnWave3 c bad) d) ∧
      (∀ n, f.phase = .toWave3 n → n ≤ 1 → f.safe = true → Completes (.txnWave3 c bad) s fun e =>
        e.flightOf c = none ∧ e.staged c = [] ∧ e.get (F.TXN_CLIENT_c_LAST_STATUS c.idx) = 0x14 ∧
        e.get (F.TXN_CLIENT_c_LAST_CAUSE c.idx) = 10 ∧ e.get (F.TXN_CLIENT_c_LAST_WAVES c.idx) = f.waves % 8 ∧
        (e.get F.TXN_EVT_EVT).testBit (4 + c.idx) = true ∧ d.fired e 116) ∧
      (∀ n, f.phase = .toWave3 n → n ≤ 1 → f.safe = false → f.entries.any (fun e => decide (3 ≤ e.wave)) = false →
        Completes (.txnWave3 c bad) s fun e =>
          e.flightOf c = none ∧ e.staged c = [] ∧ e.get (F.TXN_CLIENT_c_LAST_STATUS c.idx) = 0 ∧
          e.get (F.TXN_CLIENT_c_LAST_CAUSE c.idx) = 0 ∧ e.get (F.TXN_CLIENT_c_LAST_WAVES c.idx) = f.waves % 8 ∧
          (e.get F.TXN_EVT_EVT).testBit (2 + c.idx) = true ∧ d.fired e 115 ∧ e.get F.TXN_REV_REV = d.get F.TXN_REV_REV)) ∧
    (∀ f n q, d.flightOf c = some f → f.phase = .toWave3 n → n ≤ 1 → f.safe = false → f.copy = none → f.wave 3 = [x] →
      (∀ y ∈ f.entries, y.wave ≤ 3) → x.window = false → x.field = some q → comboReserved (d.prospect [x]) x.addr = false →
      Completes (.txnWave3 c false) s fun e =>
        e.get ⟨x.addr, x.lsb, q.width⟩ = x.value.toNat % 2 ^ q.width ∧ e.epoch = d.epoch ∧
        e.get F.TXN_REV_REV = min (d.get F.TXN_REV_REV + 1) (2 ^ F.TXN_REV_REV.width - 1) ∧ e.stampOf x.addr = e.version ∧
        e.flightOf c = none ∧ e.staged c = [] ∧ e.get (F.TXN_CLIENT_c_LAST_STATUS c.idx) = 0 ∧
        e.get (F.TXN_CLIENT_c_LAST_WAVES c.idx) = (f.waves ||| 4) % 8 ∧ (e.get F.TXN_EVT_EVT).testBit c.idx = true ∧
        (e.get F.TXN_EVT_EVT).testBit (2 + c.idx) = true ∧ d.fired e 114 ∧ d.fired e 115) ∧
    (d.windowAt a.toNat = none → done (.cwinWrite m a v) d) ∧
    (∀ w i, a.toNat % 4 = 0 → d.windowAt a.toNat = some (w, i) → regionOf a.toNat = .streamLow → d.coreRuns = true →
      d.masterMay m a.toNat v = true →
      (d.winWritable w = false → Completes (.cwinWrite m a v) s fun e => e.mem = d.mem ∧ e.txn = d.txn ∧ d.fired e 0) ∧
      (d.winWritable w = true → Completes (.cwinWrite m a v) s fun e =>
        (∀ n < 3, e.memWord (d.copyAddr n i) = v) ∧
        (∀ b, (∀ n < 3, b < d.copyAddr n i ∨ d.copyAddr n i + 4 ≤ b) → e.byte b = d.byte b) ∧
        e.get F.TXN_REV_REV = min (d.get F.TXN_REV_REV + 1) (2 ^ F.TXN_REV_REV.width - 1) ∧ e.txn.winStamp = e.version)) ∧
    (m.isHost = true → done (.txnCreqGo m v) d) ∧
    (m.isHost = false → d.coreRuns = true → v.getLsbD 31 = true → 0x60 ≤ v.toNat % 65536 → v.toNat % 65536 ≤ 0x63 →
      let whom : Client := if v.getLsbD 16 then .b else .a
      let cmd : Cmd := ⟨0, v.toNat % 65536, 0, d.bytes (d.get F.TXN_CBUF_ADDR * 4) (d.get F.TXN_CREQ_LEN_LEN), [], .core, d.linkCycle⟩
      let waits := d.get F.TXN_CRES_STATE = 1 ∨ d.get F.TXN_CRES_STATE = 2
      (d.masterPriv m = false ∨ waits → Completes (.txnCreqGo m v) s fun e => e.hp = d.hp ∧ e.txn = d.txn ∧
        e.word R.TXN_CREQ = d.word R.TXN_CREQ ∧ d.fired e 0) ∧
      (d.masterPriv m = true → ¬ waits → Completes (.txnCreqGo m v) s fun e =>
        e.get F.TXN_CRES_STATE = 1 ∧ e.get F.TXN_CREQ_OPCODE = v.toNat % 65536 ∧
        e.get F.TXN_CREQ_CLIENT = v.toNat / 65536 % 2 ∧
        ((d.port whom).queue.length < 8 →
          (∀ j < (d.get F.TXN_CREQ_LEN_LEN + 3) / 4, d.eccAt (d.get F.TXN_CBUF_ADDR * 4 + 4 * j) = none) → e.txn.creqWaits = false ∧
          e.hp = (d.setPort whom { d.port whom with queue := (d.port whom).queue ++ [cmd] }).hp) ∧
        (8 ≤ (d.port whom).queue.length → e.txn.creqWaits = true ∧ e.hp = d.hp)))

/-- R705, R709 to R715: the firmware update. Each opcode answers its error in the order of the checks, or begins to write
its lines; the status is read at once; the activation ends in a SOFTWARE reset. -/
def Obligations.Updates : Prop :=
  ∀ (s : State) (c : Client) (k : Cmd) (m : Master) (v : Word),
    let d := s.dev
    let p := k.payload
    let u := d.nvs.upd
    let b := d.nvs.boot
    let good := d.nvs.ecc = []
    let ends := fun (x : Instr) (st ex : Nat) (data : List Byte) => exec x s = .next { s with dev := d.answered c k st ex data }
    let begins := fun (x : Instr) (lines : List LineJob) (st ex : Nat) (data : List Byte) (a : SecAct) =>
      Completes x s fun e => d.begins e c ⟨lines, some ⟨c, st, ex, data⟩, a, true, 0⟩
    let go := fun (op : Nat) => d.serves c k ∧ k.opcode = op ∧ d.commandBars c k = none
    let target := 1 - d.get F.SEC_BOOT_LAST
    let rec_ := fun (r : UpdRec) => (⟨0x40, .upd r, false⟩ : LineJob)
    let ctl := fun (r : BootRec) => (⟨0, .boot r, false⟩ : LineJob)
    let len := field p 0 4
    let hash : BitVec 256 := BitVec.ofNat 256 (beNat ((p.drop 4).take 32))
    let o := field p 0 4
    let data := p.drop 8
    let n := data.length
    let a := nvsBase + slotBase u.slot
    let names := leBytes 4 (d.imageField target 12 4) ++ leBytes 4 (d.imageField target 16 2)
    let code := if beNat (sha256 (d.bytes a u.length)) ≠ u.hash.toNat then 8 else d.verifySlot u.slot
    let tries := (p.getD 0 0).toNat
    let reset := (p.getD 1 0).toNat
    let slot := (p.getD 1 0).toNat
    let value : BitVec 256 := BitVec.ofNat 256 (beNat ((p.drop 4).take 32))
    let last := d.get F.SEC_BOOT_LAST
    let svn := d.imageField last 16 2
    let high := max svn d.nvs.rollback
    let confirmLines := [ctl { b with active := last, armed := false, trialFail := false }] ++
      (if d.nvs.rollback < svn then [⟨0x180, .rollback svn, false⟩] else []) ++
      (if u.state = 0 then [] else [rec_ { u with state := 0 }])
    let trial := d.get F.SEC_BOOT_BOOTED_TRIAL = 1 ∧ d.confirming = false
    (go 0xA0 →
      (u.state = 4 → ends (.updBegin c) 0x18 10 (leBytes 4 target ++ leBytes 4 u.mark)) ∧
      (u.state ≠ 4 → 393216 < len ∨ len < 320 → ends (.updBegin c) 0x18 3 (leBytes 4 target ++ leBytes 4 u.mark)) ∧
      (u.state ≠ 4 → 320 ≤ len → len ≤ 393216 →
        let same := 1 ≤ u.state ∧ u.state ≤ 3 ∧ u.slot = target ∧ u.length = len ∧ u.hash = hash
        (same → ends (.updBegin c) 0 0 (leBytes 4 target ++ leBytes 4 u.mark)) ∧
        (¬ same → begins (.updBegin c) [⟨slotBase target, .bytes (List.replicate 64 0), false⟩,
          rec_ ⟨1, target, len, hash, 0⟩] 0 0 (leBytes 4 target ++ leBytes 4 0) .none))) ∧
    (go 0xA1 →
      (u.state ≠ 1 → ends (.updData c) 0x18 10 (leBytes 4 u.mark)) ∧
      (u.state = 1 → o % 64 ≠ 0 ∨ (n % 64 ≠ 0 ∧ o + n ≠ u.length) → ends (.updData c) 0x18 17 (leBytes 4 u.mark)) ∧
      (u.state = 1 → o % 64 = 0 → n % 64 = 0 ∨ o + n = u.length →
        (u.length < o + n → ends (.updData c) 0x18 3 (leBytes 4 u.mark)) ∧
        (o + n ≤ u.length → u.mark < o → ends (.updData c) 0x18 11 (leBytes 4 u.mark)) ∧
        (o + n ≤ u.length → o ≤ u.mark → good →
          let below := min n (u.mark - o)
          (d.bytes (a + o) below ≠ data.take below → ends (.updData c) 0x18 12 (leBytes 4 u.mark)) ∧
          (d.bytes (a + o) below = data.take below → o + n ≤ u.mark → ends (.updData c) 0 0 (leBytes 4 u.mark)) ∧
          (d.bytes (a + o) below = data.take below → u.mark < o + n → begins (.updData c)
            (d.imageLines u.slot u.mark (data.drop below) ++
              [rec_ { u with mark := o + n, state := if o + n = u.length then 2 else 1 }]) 0 0 (leBytes 4 (o + n)) .none)))) ∧
    (go 0xA2 → ends (.updStatus c) 0 0 (leBytes 1 target ++ leBytes 3 u.state ++ leBytes 4 u.length ++ leBytes 4 u.mark ++
      leBytes 4 (d.word R.SEC_BOOT).toNat ++ leBytes 4 d.nvs.rollback)) ∧
    (go 0xA3 →
      (u.state ≠ 2 → u.state ≠ 3 → ends (.updVerify c) 0x18 10 names) ∧
      (good → u.state = 3 → if code = 0 then ends (.updVerify c) 0 0 names
        else begins (.updVerify c) [rec_ { u with state := 2 }] 0x18 code names .imageBad) ∧
      (good → u.state = 2 → if code = 0 then begins (.updVerify c) [rec_ { u with state := 3 }] 0 0 names .none
        else Completes (.updVerify c) s fun e =>
          e.port c = (d.answered c k 0x18 code names).port c ∧ d.fired e 121 ∧ e.nvs = d.nvs)) ∧
    (go 0xA4 →
      (tries = 0 ∨ 3 < tries ∨ 1 < reset → ends (.updActivate c) 0x0B 0 []) ∧
      (1 ≤ tries → tries ≤ 3 → reset ≤ 1 →
        (u.state ≠ 3 → ends (.updActivate c) 0x18 10 []) ∧
        (u.state = 3 → d.get F.PWR_VMON_BO_WARN = 1 → ends (.updActivate c) 0x18 14 []) ∧
        (u.state = 3 → d.get F.PWR_VMON_BO_WARN = 0 → good →
          if d.imageKeyOk u.slot = false then ends (.updActivate c) 0x18 4 []
          else if d.imageSvnOk u.slot = false then ends (.updActivate c) 0x18 5 []
          else begins (.updActivate c) [ctl { b with armed := true, tries := tries }, rec_ { u with state := 4 }] 0 0 []
            (.activate (decide (reset = 1)))))) ∧
    (go 0xA5 → ¬ trial → ends (.updConfirm c) 0x18 10 (leBytes 4 d.nvs.rollback)) ∧
    (go 0xA5 → trial → begins (.updConfirm c) confirmLines 0 0 (leBytes 4 high)
      (.confirm last (d.imageField last 12 4) high)) ∧
    (go 0xA6 → u.state = 0 → ends (.updAbort c) 0 0 []) ∧
    (go 0xA6 → u.state ≠ 0 → begins (.updAbort c)
      ((if u.state = 4 then [ctl { b with armed := false }] else []) ++ [rec_ { u with state := 0 }]) 0 0 [] .none) ∧
    (go 0xA7 → 4 ≤ slot → ends (.updKey c) 0x0B 0 []) ∧
    (∀ i : Fin 4, go 0xA7 → slot = i.val →
      let key := d.nvs.keys[i]
      let line := fun (x : KeySlot) => [(⟨0x80 + 0x40 * i.val, .key i x, false⟩ : LineJob)]
      let others := ∃ j : Fin 4, j ≠ i ∧ (d.nvs.keys[j]).state = 1
      (tries = 1 → key.state = 0 → begins (.updKey c) (line ⟨1, value⟩) 0 0 [] (.key i.val 1)) ∧
      (tries = 1 → key.state ≠ 0 → ends (.updKey c) 0x18 10 []) ∧
      (tries = 2 → key.state ≠ 1 → ends (.updKey c) 0x18 10 []) ∧
      (tries = 2 → key.state = 1 → ¬ others → ends (.updKey c) 0x18 15 []) ∧
      (tries = 2 → key.state = 1 → others → begins (.updKey c) (line { key with state := 2 }) 0 0 [] (.key i.val 2)) ∧
      (tries = 3 → begins (.updKey c) [⟨0x1C0, .image value, false⟩] 0 0 [] (.key i.val 3)) ∧
      (tries = 0 ∨ 3 < tries → ends (.updKey c) 0x0B 0 [])) ∧
    (d.nvs.resetAfter = none → exec .activateReset s = .next s) ∧
    (d.nvs.resetAfter ≠ none → Completes .activateReset s fun e => d.afresh e 4 [] ∧ e.pwr.seq = .locking) ∧
    (d.coreRuns = true → d.masterMay m R.SEC_CONFIRM v = true →
      (m.isHost = true ∨ d.masterPriv m = false ∨ v.toNat % 65536 ≠ 0x7E11 → Completes (.secConfirm m v) s fun e =>
        e.nvs = d.nvs ∧ d.fired e 0) ∧
      (m.isHost = false → d.masterPriv m = true → v.toNat % 65536 = 0x7E11 →
        (¬ trial → Completes (.secConfirm m v) s fun e => e = { d with regs := e.regs } ∧ ∀ x, e.word x = d.word x) ∧
        (trial → d.nvs.cur ≠ .none → Completes (.secConfirm m v) s fun e =>
          e = { d with regs := e.regs, nvs := { d.nvs with ops := d.nvs.ops ++
            [⟨confirmLines, none, .confirm last (d.imageField last 12 4) high, true, 0⟩] } } ∧
          ∀ x, e.word x = d.word x)))

/-- R683 to R687, R698, R705, R710, R712 to R715, R718: the line writes. A line that ends takes its content, and the
operation goes on with its next line or ends with its answer; a write that fails is reported, and in the areas of R652
it is a system fault; a request of the NVC and an entry of the persistent log are written the same way, and an entry
later than those kept becomes the newest of them. -/
def Obligations.LineWrites : Prop :=
  ∀ (s : State) (fails plain : Bool) (m : Master) (v : Word),
    let d := s.dev
    let x := fun (f : Bool) => if plain then Instr.imageLineWrite f else .nvsLineWrite f
    let placed := fun (e : Device) (j : LineJob) => match j.data with
      | .bytes bs => e.bytes (nvsBase + j.offset) bs.length = bs
      | .persist bs n => e.bytes (nvsBase + j.offset) bs.length = bs ∧ e.nvs.pcount = n
      | .boot r => e.nvs.boot = r ∧ e.get F.SEC_BOOT_ACTIVE = r.active % 2 ^ F.SEC_BOOT_ACTIVE.width
      | .upd r => e.nvs.upd = r ∧ e.get F.NVC_UPD_STATE = r.state % 2 ^ F.NVC_UPD_STATE.width ∧
        e.get F.NVC_UPD_MARK_MARK = r.mark % 2 ^ F.NVC_UPD_MARK_MARK.width
      | .key k r => e.nvs.keys[k] = r
      | .rollback n => e.nvs.rollback = n ∧ e.get F.SEC_RBCNT_COUNT = n % 2 ^ F.SEC_RBCNT_COUNT.width
      | .image r => e.nvs.imageKey = some r
    let failed := fun (e : Device) (j : LineJob) => e.get F.NVC_ERRADDR_OFFSET = j.offset % 2 ^ F.NVC_ERRADDR_OFFSET.width ∧
      (e.get F.NVC_EVT_EVT).testBit 1 = true ∧ d.fired e 11
    let free := d.sed.pq = [] ∧ d.nvs.req = none ∧ d.get F.PWR_VMON_BO_WARN = 0
    (d.nvs.cur = .none → exec (x fails) s = .next s ∧ exec (.persistWrite fails) s = .next s) ∧
    (d.nvs.cur = .persist → exec (x fails) s = .next s) ∧
    (d.nvs.cur = .req → exec (.imageLineWrite fails) s = .next s ∧ exec (.persistWrite fails) s = .next s) ∧
    (∀ j, d.nvs.cur = .req → d.nvs.req = some j → d.sed.pq = [] → d.nvs.ops = [] →
      (Completes (.nvsLineWrite false) s fun e => placed e j ∧ e.nvs.cur = .none ∧ e.nvs.req = none ∧
        e.get F.NVC_REQ_BUSY = 0 ∧ e.get F.NVC_REQ_RESULT = 1 ∧ (e.get F.NVC_EVT_EVT).testBit 0 = true ∧ d.fired e 10 ∧
        e.sed.nvsFaultOpen = false) ∧
      (Completes (.nvsLineWrite true) s fun e => e.nvs.cur = .none ∧ e.nvs.req = none ∧ e.get F.NVC_REQ_BUSY = 0 ∧
        e.get F.NVC_REQ_RESULT = 2 ∧ (0xD0000 ≤ j.offset → (e.word R.SED_SYSFAULT).getLsbD 2 = true) ∧
        ((d.word R.SED_SYSFAULT).getLsbD 2 = true → failed e j))) ∧
    (∀ o j js, d.nvs.cur = .sec → d.nvs.ops = [o] → o.lines = j :: js →
      (j.plain ≠ plain → exec (x fails) s = .next s) ∧
      (j.plain = plain → js ≠ [] → free → Completes (x false) s fun e =>
        placed e j ∧ e.nvs.ops = [{ o with lines := js }] ∧ (d.mayWrite o = true → e.nvs.cur = .sec)) ∧
      (j.plain = plain → js = [] → free →
        (o.reply = none → o.act = .none → Completes (x false) s fun e => placed e j ∧ e.nvs.ops = [] ∧ e.nvs.cur = .none) ∧
        (∀ r k, o.reply = some r → (d.port r.client).queue.head? = some k → k.origin = .port → d.txn.creqWaits = false →
          let answers := fun (e : Device) => placed e j ∧ e.nvs.ops = [] ∧
            e.port r.client = (d.answered r.client k r.status r.extra r.data).port r.client
          (o.act = .none → Completes (x false) s answers) ∧
          (∀ who mask, o.act = .priv who mask → Completes (x false) s fun e => answers e ∧
            e.get (F.HP_PRIV_MASK who.idx) = mask % 32) ∧
          (∀ i y, o.act = .key i y → Completes (x false) s answers) ∧
          (∀ w y n, o.act = .confirm w y n → Completes (x false) s fun e => answers e ∧ e.get F.SEC_BOOT_BOOTED_TRIAL = 0) ∧
          (∀ reset, o.act = .activate reset → Completes (x false) s fun e => answers e ∧
            e.nvs.resetAfter = if reset then some r.client else d.nvs.resetAfter) ∧
          (o.act = .imageBad → Completes (x false) s fun e => answers e ∧ d.fired e 121) ∧
          (o.upd = true → (∀ ring gen n l l', o.act ≠ .roster ring gen n l l') → j.offset < 0xD0000 →
            Completes (x true) s fun e => failed e j ∧ e.nvs.ops = [] ∧
              ∃ data, (e.port r.client).cache.head? = some (k.seq, respPayload 0x18 9 data)) ∧
          (o.upd = false → (d.word R.SED_SYSFAULT).getLsbD 2 = true → Completes (x true) s fun e =>
            failed e j ∧ e.nvs.ops = [] ∧ (e.port r.client).cache.head? = some (k.seq, respPayload 0x0B
              (match o.act with | .roster _ _ _ _ _ => 8 | _ => 0) [])))) ∧
      exec (.persistWrite fails) s = .next s) ∧
    (∀ y t, d.nvs.cur = .persist → d.sed.pq = y :: t → y.bytes.length = 32 → d.nvs.ops = [] → d.nvs.req = none →
      (Completes (.persistWrite false) s fun e => e.sed.pq = t ∧ e.nvs.pcount = (d.nvs.pcount + 1) % 2 ^ 32 ∧
        e.get F.SED_PCOUNT_P = (d.nvs.pcount + 1) % 2 ^ 32 ∧
        (d.nvs.ecc = [] → entrySeq y.bytes = some y.seq → y.seq < 2 ^ 32 →
          (∀ q ∈ d.persisted, q.2 ≠ d.nvs.pcount % 1024 → seqAfter32 y.seq q.1 = true) → e.get F.SED_NEWEST_P_SEQ = y.seq) ∧
        e.bytes (0x300F0000 + 32 * (d.nvs.pcount % 1024)) 32 = y.bytes ∧ (t = [] ↔ e.nvs.cur = .none)) ∧
      (Completes (.persistWrite true) s fun e => e.sed.pq = t ∧ e.nvs.pcount = d.nvs.pcount ∧
        (e.word R.SED_SYSFAULT).getLsbD 2 = true)) ∧
    (d.coreRuns = true → d.masterMay m R.NVC_REQ v = true →
      let line := d.get F.NVC_ADDR_LINE * 64
      let bars := d.get F.NVC_REQ_BUSY = 1 ∨ line < 0xD0080 ∨ 0xF0000 ≤ line
      (d.masterPriv m = false ∨ (v.getLsbD 0 = true ∧ bars) → Completes (.nvcReqGo m v) s fun e =>
        e.nvs = d.nvs ∧ e.word R.NVC_REQ = d.word R.NVC_REQ ∧ d.fired e 0) ∧
      (d.masterPriv m = true → v.getLsbD 0 = false → Completes (.nvcReqGo m v) s fun e =>
        e = { d with regs := e.regs } ∧ ∀ a, e.word a = d.word a) ∧
      (d.masterPriv m = true → v.getLsbD 0 = true → ¬ bars → d.ecc = [] → d.nvs.ops = [] → Completes (.nvcReqGo m v) s fun e =>
        e.get F.NVC_REQ_BUSY = 1 ∧ e.get F.NVC_REQ_RESULT = 0 ∧
        e.nvs.req = some ⟨line, .bytes (d.bytes (d.get F.NVC_SRC_ADDR * 4) 64), false⟩ ∧
        (d.nvs.cur = .none → d.sed.pq = [] → e.nvs.cur = .req)))

/-- R651 to R662, R672, R680, R681: the log and the system faults. The entry at the front takes the next number and its
place in bank 7, and while the persistent area is empty its registers follow SED_NEXT (DEDUCED, log entry 50); the
acknowledgement, the software entry, the soft fault, the clearing of the system faults and the counters. R594, R595,
R694 to R698: the rosters over a host port. The holder of a roster lists it, stages adoptions and removals in the
conversation, and commits them as a new generation. -/
def Obligations.SedimentLog : Prop :=
  (∀ (s : State) (m : Master) (v : Word),
    let d := s.dev
    let may := fun (a : Nat) => d.coreRuns = true ∧ d.masterMay m a v = true
    let seq := d.get F.SED_NEXT_SEQ
    let unread := (seq + 2 ^ 33 - 1 - v.toNat) % 2 ^ 32
    let late := seqAfter32 v.toNat ((seq + 2 ^ 32 - 1) % 2 ^ 32) = true
    let old := d.word R.SED_SYSFAULT
    let holds := fun (i : Nat) => (i = 0 ∧ d.get F.TRN_STAT_TRUST ≠ 1) ∨ (i = 2 ∧ d.sed.nvsFaultOpen = true)
    let regsOnly := fun (e : Device) => e = { d with regs := e.regs }
    (∀ y : LogEntry, d.persists y = true ↔ d.get F.SED_CFG_PERSIST ≤ y.sev ∨ y.source = 128 ∨ y.source = 131 ∨
      y.source = 155 ∨ y.source = 153) ∧
    (d.pwr.seq ≠ .up ∨ d.still = true ∨ d.sed.wq = [] → exec .logEntryWrite s = .next s) ∧
    (∀ y t, d.pwr.seq = .up → d.still = false → d.sed.gap = none → d.sed.wq = y :: t → Completes .logEntryWrite s fun e =>
      e.sed.wq = t ∧ e.get F.SED_NEXT_SEQ = (seq + 1) % 2 ^ 32 ∧ e.bytes (bank7Addr seq) 32 = y.bytes seq ∧
      (∀ b, b < bank7Addr seq ∨ bank7Addr seq + 32 ≤ b → d.nvs.ops = [] → e.byte b = d.byte b) ∧
      ((d.get F.SED_NEWEST_P_SEQ + 1) % 2 ^ 32 = d.get F.SED_OLDEST_P_SEQ → e.get F.SED_OLDEST_P_SEQ = (seq + 1) % 2 ^ 32 ∧
        e.get F.SED_NEWEST_P_SEQ = seq) ∧
      e.sed.resetSeq = (if y.source = 128 then seq else d.sed.resetSeq) ∧
      (d.persists y = true → d.sed.pq.length < 32 → e.sed.pq = d.sed.pq ++ [⟨seq, y.bytes seq⟩]) ∧
      (d.persists y = true → 32 ≤ d.sed.pq.length → e.sed.pq = d.sed.pq ∧
        e.get F.SED_CNT_PDROP = min (d.get F.SED_CNT_PDROP + 1) (2 ^ F.SED_CNT_PDROP.width - 1)) ∧
      (d.persists y = false → e.sed.pq = d.sed.pq)) ∧
    (may R.SED_ACK → late → Completes (.sedAckWrite m v) s fun e =>
      e.word R.SED_ACK = d.word R.SED_ACK ∧ e.sed.halfArmed = d.sed.halfArmed ∧ d.fired e 0) ∧
    (may R.SED_ACK → ¬ late → Completes (.sedAckWrite m v) s fun e => e.word R.SED_ACK = v ∧
      (unread < 1024 → e.sed.halfArmed = true) ∧
      (1024 ≤ unread → unread < 2 ^ 31 → d.sed.halfArmed = true →
        e.sed.halfArmed = false ∧ (e.get F.SED_EVT_EVT).testBit 0 = true ∧ d.fired e 122)) ∧
    (may R.SED_SW_CTL → d.masterPriv m = false ∨ 2 < v.toNat / 8192 % 8 ∨
        (v.getLsbD 31 = true ∧ (m.isHost = true ∨ ∃ y ∈ d.sed.wq, y.source = 156)) →
      Completes (.softwareEntry m v) s fun e => e.word R.SED_SW_CTL = d.word R.SED_SW_CTL ∧ d.fired e 0) ∧
    (may R.SED_SW_CTL → d.masterPriv m = true → v.toNat / 8192 % 8 ≤ 2 →
      (v.getLsbD 31 = false → Completes (.softwareEntry m v) s fun e => regsOnly e ∧
        e.get F.SED_SW_CTL_DETAIL = v.toNat % 8192 ∧ e.get F.SED_SW_CTL_SEV = v.toNat / 8192 % 8) ∧
      (v.getLsbD 31 = true → m.isHost = false → (∀ y ∈ d.sed.wq, y.source ≠ 156) → Completes (.softwareEntry m v) s fun e =>
        d.logged e [d.entry 156 (v.toNat / 8192 % 8) (v.toNat % 8192) ((leBytes 4 (d.word (R.SED_SW_DATAi 0)).toNat ++
          leBytes 4 (d.word (R.SED_SW_DATAi 1)).toNat ++ leBytes 4 (d.word (R.SED_SW_DATAi 2)).toNat).take 11)])) ∧
    (may R.SED_SOFTFLT → m.isHost = true ∨ v.toNat % 65536 ≠ 0x6C0D → Completes (.softFault m v) s fun e =>
      e.word R.SED_SYSFAULT = old ∧ e.pwr = d.pwr ∧ d.fired e 0) ∧
    (may R.SED_SOFTFLT → m.isHost = false → v.toNat % 65536 = 0x6C0D → Completes (.softFault m v) s fun e =>
      (∀ i < 4, (e.word R.SED_SYSFAULT).getLsbD i = (old.getLsbD i || i == 3)) ∧
      (old.getLsbD 3 = false → (e.word R.PWR_FAULT).getLsbD 10 = true)) ∧
    (may R.SED_SYSFAULT → m.isHost = false → v.toNat % 16 ≠ 0 → Completes (.sedSysfaultClear m v) s fun e =>
      e.word R.SED_SYSFAULT = old ∧ e.pwr = d.pwr ∧ d.fired e 0) ∧
    (may R.SED_SYSFAULT → m.isHost = true → old.toNat < 16 → Completes (.sedSysfaultClear m v) s fun e => regsOnly e ∧
      (∀ i < 4, (e.word R.SED_SYSFAULT).getLsbD i = true ↔ old.getLsbD i = true ∧ (v.getLsbD i = false ∨ holds i)) ∧
      ((e.word R.PWR_FAULT).getLsbD 10 = true ↔ (d.word R.PWR_FAULT).getLsbD 10 = true ∧ e.word R.SED_SYSFAULT ≠ 0) ∧
      ∀ a, a ≠ R.SED_SYSFAULT → a ≠ R.PWR_FAULT → e.word a = d.word a) ∧
    (may R.SED_CNT2 → Completes (.sedCntClr m v) s fun e => regsOnly e ∧
      (v.getLsbD 31 = true → e.word R.SED_CNT = 0 ∧ e.word R.SED_CNT2 = 0) ∧
      ∀ a, v.getLsbD 31 = false ∨ (a ≠ R.SED_CNT ∧ a ≠ R.SED_CNT2) → e.word a = d.word a) ∧
    (m.isHost = true → exec (.semBrkcntClr m v) s = .next s) ∧
    (m.isHost = false → d.coreRuns = true → Completes (.semBrkcntClr m v) s fun e => regsOnly e ∧
      e.get F.SEM_BRKCNT_COUNT = (if v.getLsbD 31 then 0 else d.get F.SEM_BRKCNT_COUNT) ∧
      ∀ a, a ≠ R.SEM_BRKCNT → e.word a = d.word a)) ∧
  (∀ (s : State) (c : Client) (k : Cmd),
    let d := s.dev
    let p := k.payload
    let kind := field p 0 1
    let ring := kind == 0
    let holder := (kind = 0 ∧ d.ringMaster = true) ∨ (kind = 1 ∧ d.get F.SHL_CFG_EN = 1)
    let conv := d.convOf c k.conv
    let done := fun (i : Instr) (e : Device) => exec i s = .next { s with dev := e }
    let ends := fun (i : Instr) (st ex : Nat) (data : List Byte) => done i (d.answered c k st ex data)
    let no := fun (i : Instr) (code : Nat) => ends i 0x0B code []
    let go := fun (op : Nat) => d.serves c k ∧ k.opcode = op ∧ d.commandBars c k = none
    let gen := d.rosterGen ring
    let l := applyChanges ring (d.rosterList ring) conv.staged
    let first := field p 1 1
    let n := field p 2 1
    let flags := field p 1 1
    let tag := field p 4 8
    let present := (∃ e ∈ l, e.tag = tag) ∨ ∃ y ∈ conv.staged, y.ring = ring ∧ y.adopt = true ∧ y.tag = tag
    let stages := fun (y : IdChange) => d.setConv c k.conv { conv with staged := conv.staged ++ [y] }
    let at_ := fun (i : Nat) => (((d.rosterList ring).find? fun e => e.index == i).getD ⟨0, 0, 0⟩ : RosterEntry)
    let commands := [(0xB0, Instr.idList c), (0xB1, .idAdopt c), (0xB2, .idRevoke c), (0xB3, .idCommit c)]
    (∀ x ∈ commands, go x.1 → 1 < kind → no x.2 7) ∧
    (∀ x ∈ commands, x.1 ≠ 0xB3 → go x.1 → kind ≤ 1 → ¬ holder → no x.2 1) ∧
    (go 0xB3 → kind ≤ 1 → ¬ holder →
      done (.idCommit c) ((d.setConv c k.conv { conv with staged := [] }).answered c k 0x0B 1 [])) ∧
    (holder →
      (go 0xB0 → n = 0 ∨ 60 < n → no (.idList c) 0) ∧
      (go 0xB0 → 1 ≤ n → n ≤ 60 → ends (.idList c) 0 0 (leBytes 4 gen ++ (List.range n).flatMap fun i =>
        leBytes 8 (at_ (first + i)).tag ++ leBytes 1 (at_ (first + i)).index ++ leBytes 1 (at_ (first + i)).flags ++
          List.replicate 6 0)) ∧
      (go 0xB1 → tag = 0 ∨ 1 < flags ∨ (kind = 1 ∧ flags ≠ 0) → no (.idAdopt c) 0) ∧
      (go 0xB1 → tag ≠ 0 → flags ≤ 1 → (kind = 1 → flags = 0) →
        (present → no (.idAdopt c) 6) ∧
        (¬ present → 16 ≤ conv.staged.length → no (.idAdopt c) 3) ∧
        (¬ present → conv.staged.length < 16 → d.adoptIndex ring l tag = none → no (.idAdopt c) 3) ∧
        (∀ i, ¬ present → conv.staged.length < 16 → d.adoptIndex ring l tag = some i →
          done (.idAdopt c) ((stages ⟨true, ring, flags, tag, i⟩).answered c k 0 0 (leBytes 4 i)))) ∧
      (go 0xB2 →
        let bars : Option Nat := if tag = 0 then some 0 else if kind = 0 ∧ tag = ownTag then some 5
          else if ∀ e ∈ l, e.tag ≠ tag then some 4 else if 16 ≤ conv.staged.length then some 3 else none
        (∀ code, bars = some code → no (.idRevoke c) code) ∧
        (bars = none → done (.idRevoke c) ((stages ⟨false, ring, 0, tag, 0⟩).answered c k 0 0 []))) ∧
      (go 0xB3 → gen ≠ field p 4 4 → no (.idCommit c) 2) ∧
      (go 0xB3 → gen = field p 4 4 → Completes (.idCommit c) s fun e =>
        let mine := conv.staged.filter fun y => y.ring == ring
        (d.setConv c k.conv { conv with staged := conv.staged.filter fun y => y.ring != ring }).begins e c
          ⟨d.rosterLines ring (gen + 1) l, some ⟨c, 0, 0, leBytes 4 (gen + 1)⟩,
            .roster ring (gen + 1) mine.length ((mine.filter fun y => y.adopt).map IdChange.tag)
              ((mine.filter fun y => !y.adopt).map IdChange.tag), false, 0⟩)) ∧
    (∀ r t i, (∀ e ∈ l, e.index ≠ i) → (∀ j < i, ∃ e ∈ l, e.index = j) → i < (if r then 128 else 64) →
      (r = false ∨ ∀ q ∈ d.trn.nodes, q.tag ≠ t) → d.adoptIndex r l t = some i))
end

