-- ==== Sys2Proof/Laws/RegMap.lean ====
section
/-! SUPPORT. The laws of stores and register files: a read after a write gives the value written, a
write leaves every other key and every other field alone, and the canonical form is kept. -/

namespace Sys2Proof.Machine

theorem Store.get_erase_ne {β : Type} (d : Nat → β) (m : List (Nat × β)) {k j : Nat} (h : j ≠ k) :
    Store.get d (Store.erase m k) j = Store.get d m j := by
  induction m with
  | nil => rfl
  | cons e t ih =>
    obtain ⟨k', v⟩ := e
    by_cases hk : k = k'
    · subst hk; simp only [Store.erase, if_true, Store.get, h, if_false, ih]
    · simp only [Store.erase, hk, if_false, Store.get, ih]

theorem Store.get_insert_same {β : Type} (d : Nat → β) (m : List (Nat × β)) (k : Nat) (v : β) :
    Store.get d (Store.insert m k v) k = v := by
  induction m with
  | nil => simp [Store.insert, Store.get]
  | cons e t ih =>
    obtain ⟨k', v'⟩ := e
    simp only [Store.insert]
    split
    · simp [Store.get]
    · split
      · simp [Store.get]
      · rename_i h2; simp [Store.get, h2, ih]

theorem Store.get_insert_ne {β : Type} (d : Nat → β) (m : List (Nat × β)) {k j : Nat} (v : β)
    (h : j ≠ k) : Store.get d (Store.insert m k v) j = Store.get d m j := by
  induction m with
  | nil => simp [Store.insert, Store.get, h]
  | cons e t ih =>
    obtain ⟨k', v'⟩ := e
    simp only [Store.insert]
    split
    · simp [Store.get, h]
    · split
      · rename_i h2; subst h2; simp [Store.get, h]
      · simp only [Store.get, ih]

theorem Store.wfFrom_mono {β : Type} [DecidableEq β] (d : Nat → β) {lo hi : Nat}
    {m : List (Nat × β)} (h : lo ≤ hi) (w : Store.wfFrom d hi m = true) :
    Store.wfFrom d lo m = true := by
  cases m with
  | nil => rfl
  | cons e t =>
    simp only [Store.wfFrom, Bool.and_eq_true, decide_eq_true_eq] at w ⊢
    exact ⟨⟨le_trans h w.1.1, w.1.2⟩, w.2⟩

theorem Store.get_of_wfFrom {β : Type} [DecidableEq β] (d : Nat → β) {lo k : Nat}
    {m : List (Nat × β)} (w : Store.wfFrom d lo m = true) (h : k < lo) :
    Store.get d m k = d k := by
  induction m generalizing lo with
  | nil => rfl
  | cons e t ih =>
    simp only [Store.wfFrom, Bool.and_eq_true, decide_eq_true_eq] at w
    have : k ≠ e.1 := by omega
    simp only [Store.get, this, if_false]
    exact ih w.2 (by omega)

theorem Store.get_erase_same {β : Type} (d : Nat → β) (m : List (Nat × β)) (k : Nat) :
    Store.get d (Store.erase m k) k = d k := by
  induction m with
  | nil => rfl
  | cons e t ih =>
    by_cases hk : k = e.1
    · simp only [Store.erase, hk, if_true]; rw [← hk]; exact ih
    · simp only [Store.erase, hk, if_false, Store.get]; exact ih

theorem Store.wfFrom_erase {β : Type} [DecidableEq β] (d : Nat → β) {lo : Nat}
    {m : List (Nat × β)} (k : Nat) (w : Store.wfFrom d lo m = true) :
    Store.wfFrom d lo (Store.erase m k) = true := by
  induction m generalizing lo with
  | nil => rfl
  | cons e t ih =>
    have w' := w
    simp only [Store.wfFrom, Bool.and_eq_true, decide_eq_true_eq] at w
    by_cases hk : k = e.1
    · simp only [Store.erase, hk, if_true]
      rw [← hk]
      exact Store.wfFrom_mono d (by omega) (ih w.2)
    · simp only [Store.erase, hk, if_false, Store.wfFrom, Bool.and_eq_true, decide_eq_true_eq]
      exact ⟨w.1, ih w.2⟩

theorem Store.wfFrom_insert {β : Type} [DecidableEq β] (d : Nat → β) {lo : Nat}
    {m : List (Nat × β)} {k : Nat} {v : β} (hk : lo ≤ k) (hv : v ≠ d k)
    (w : Store.wfFrom d lo m = true) : Store.wfFrom d lo (Store.insert m k v) = true := by
  induction m generalizing lo with
  | nil => simp [Store.insert, Store.wfFrom, hk, hv]
  | cons e t ih =>
    simp only [Store.wfFrom, Bool.and_eq_true, decide_eq_true_eq] at w
    simp only [Store.insert]
    split
    · rename_i hlt
      simp only [Store.wfFrom, Bool.and_eq_true, decide_eq_true_eq, bne_iff_ne]
      exact ⟨⟨hk, hv⟩, ⟨⟨by omega, by simpa using w.1.2⟩, w.2⟩⟩
    · split
      · rename_i h1 h2
        simp only [Store.wfFrom, Bool.and_eq_true, decide_eq_true_eq, bne_iff_ne]
        exact ⟨⟨hk, hv⟩, by rw [h2]; exact w.2⟩
      · rename_i h1 h2
        simp only [Store.wfFrom, Bool.and_eq_true, decide_eq_true_eq]
        exact ⟨w.1, ih (by omega) w.2⟩

/-- A write keeps the canonical form. -/
theorem Store.wf_set {β : Type} [DecidableEq β] (d : Nat → β) {m : List (Nat × β)} (k : Nat) (v : β)
    (w : Store.wf d m = true) : Store.wf d (Store.set d m k v) = true := by
  unfold Store.set Store.wf at *
  split
  · exact Store.wfFrom_erase d k w
  · rename_i h; exact Store.wfFrom_insert d (Nat.zero_le k) h w

/-- A write leaves every other key alone. -/
theorem Store.get_set_ne {β : Type} [DecidableEq β] (d : Nat → β) (m : List (Nat × β)) {k j : Nat}
    (v : β) (h : j ≠ k) : Store.get d (Store.set d m k v) j = Store.get d m j := by
  unfold Store.set
  split
  · exact Store.get_erase_ne d m h
  · exact Store.get_insert_ne d m v h

/-- A read after a write gives the value written. -/
theorem Store.get_set_same {β : Type} [DecidableEq β] (d : Nat → β) (m : List (Nat × β)) (k : Nat)
    (v : β) : Store.get d (Store.set d m k v) k = v := by
  unfold Store.set
  split
  · rename_i h; rw [h]; exact Store.get_erase_same d m k
  · exact Store.get_insert_same d m k v

theorem Store.wfFrom_filter {β : Type} [DecidableEq β] (d : Nat → β) (p : Nat → Bool) {lo : Nat}
    {m : List (Nat × β)} (w : Store.wfFrom d lo m = true) :
    Store.wfFrom d lo (Store.clear p m) = true := by
  induction m generalizing lo with
  | nil => rfl
  | cons e t ih =>
    simp only [Store.wfFrom, Bool.and_eq_true, decide_eq_true_eq] at w
    simp only [Store.clear, List.filter]
    split
    · simp only [Store.wfFrom, Bool.and_eq_true, decide_eq_true_eq]
      exact ⟨w.1, ih w.2⟩
    · exact Store.wfFrom_mono d (by omega) (ih w.2)

/-- Clearing a range keeps the canonical form. -/
theorem Store.wf_clear {β : Type} [DecidableEq β] (d : Nat → β) (p : Nat → Bool)
    {m : List (Nat × β)} (w : Store.wf d m = true) : Store.wf d (Store.clear p m) = true :=
  Store.wfFrom_filter d p w

/-- Clearing leaves every key outside the range alone. -/
theorem Store.get_clear_of_not {β : Type} (d : Nat → β) (p : Nat → Bool) (m : List (Nat × β))
    {k : Nat} (h : p k = false) : Store.get d (Store.clear p m) k = Store.get d m k := by
  induction m with
  | nil => rfl
  | cons e t ih =>
    simp only [Store.clear, List.filter]
    by_cases hp : p e.1 = true
    · have : k ≠ e.1 := by intro hc; rw [hc] at h; simp [h] at hp
      simp only [hp, Bool.not_true, Store.get, this, if_false]
      exact ih
    · simp only [Bool.not_eq_true] at hp
      simp only [hp, Bool.not_false, Store.get]
      split
      · rfl
      · exact ih

theorem fieldOf_lt (w : Word) (lsb width : Nat) : fieldOf w lsb width < 2 ^ width :=
  Nat.mod_lt _ (Nat.two_pow_pos width)

end Sys2Proof.Machine
end

