-- ==== Sys2Proof/Laws/State.lean ====
section
/-! SUPPORT. The laws of the state: what each field reads after each update of the device. A register field reads what was
last written to it, and no write reaches another field. -/

namespace Sys2Proof.Machine

/-- The bits of a field lie in its word. -/
def Fld.fits (f : Fld) : Bool := f.lsb + f.width ≤ 32

/-- Two fields share no bit. -/
def Fld.apart (f g : Fld) : Bool := f.addr != g.addr || f.lsb + f.width ≤ g.lsb || g.lsb + g.width ≤ f.lsb

theorem mul_add_lt_mul {a b A B : Nat} (ha : a < A) (hb : b < B) : a * B + b < A * B :=
  calc a * B + b < a * B + B := Nat.add_lt_add_left hb _
    _ = (a + 1) * B := (Nat.succ_mul a B).symm
    _ ≤ A * B := Nat.mul_le_mul_right B ha

theorem putField_toNat (w : Word) (lsb width v : Nat) (h : lsb + width ≤ 32) :
    (putField w lsb width v).toNat =
      w.toNat / 2 ^ (lsb + width) * 2 ^ (lsb + width) + v % 2 ^ width * 2 ^ lsb + w.toNat % 2 ^ lsb := by
  have hw : w.toNat < 2 ^ 32 := w.isLt
  have e1 : w.toNat / 2 ^ (lsb + width) = w.toNat / 2 ^ lsb / 2 ^ width := by
    rw [pow_add, Nat.div_div_eq_div_mul]
  have e2 := Nat.div_add_mod w.toNat (2 ^ lsb)
  have e3 := Nat.div_add_mod (w.toNat / 2 ^ lsb) (2 ^ width)
  have hp : 2 ^ (lsb + width) = 2 ^ lsb * 2 ^ width := pow_add 2 lsb width
  have hv : v % 2 ^ width < 2 ^ width := Nat.mod_lt _ (Nat.two_pow_pos _)
  have hl : w.toNat % 2 ^ lsb < 2 ^ lsb := Nat.mod_lt _ (Nat.two_pow_pos _)
  have hs : w.toNat = w.toNat / 2 ^ lsb / 2 ^ width * 2 ^ (lsb + width) +
      w.toNat / 2 ^ lsb % 2 ^ width * 2 ^ lsb + w.toNat % 2 ^ lsb := by
    calc w.toNat = 2 ^ lsb * (w.toNat / 2 ^ lsb) + w.toNat % 2 ^ lsb := e2.symm
      _ = 2 ^ lsb * (2 ^ width * (w.toNat / 2 ^ lsb / 2 ^ width) + w.toNat / 2 ^ lsb % 2 ^ width) +
          w.toNat % 2 ^ lsb := by rw [e3]
      _ = _ := by rw [hp]; ring
  have hsub : w.toNat - fieldOf w lsb width * 2 ^ lsb = w.toNat / 2 ^ lsb / 2 ^ width * 2 ^ (lsb + width) +
      w.toNat % 2 ^ lsb := by
    unfold fieldOf; omega
  have hlt : w.toNat / 2 ^ lsb / 2 ^ width * 2 ^ (lsb + width) + v % 2 ^ width * 2 ^ lsb + w.toNat % 2 ^ lsb < 2 ^ 32 := by
    have h1 : w.toNat / 2 ^ (lsb + width) < 2 ^ (32 - (lsb + width)) := by
      rw [Nat.div_lt_iff_lt_mul (Nat.two_pow_pos _), ← pow_add]
      rwa [Nat.sub_add_cancel h]
    rw [e1] at h1
    have h2 : v % 2 ^ width * 2 ^ lsb + w.toNat % 2 ^ lsb < 2 ^ (lsb + width) := by
      rw [hp, mul_comm (2 ^ lsb)]; exact mul_add_lt_mul hv hl
    have h3 : (2:Nat) ^ 32 = 2 ^ (32 - (lsb + width)) * 2 ^ (lsb + width) := by
      rw [← pow_add, Nat.sub_add_cancel h]
    rw [h3, add_assoc]
    exact mul_add_lt_mul h1 h2
  unfold putField
  rw [BitVec.toNat_ofNat, hsub, e1, Nat.mod_eq_of_lt] <;> omega

theorem fieldOf_putField_same (w : Word) (lsb width v : Nat) (h : lsb + width ≤ 32) :
    fieldOf (putField w lsb width v) lsb width = v % 2 ^ width := by
  unfold fieldOf
  rw [putField_toNat w lsb width v h, pow_add, mul_comm (2 ^ lsb), ← mul_assoc, ← add_mul, add_comm _ (w.toNat % _),
    Nat.add_mul_div_right _ _ (Nat.two_pow_pos _), Nat.div_eq_of_lt (Nat.mod_lt _ (Nat.two_pow_pos _)), zero_add,
    add_comm, Nat.add_mul_mod_self_right, Nat.mod_mod]

theorem fieldOf_putField_apart (w : Word) (lsb width v l k : Nat) (h : lsb + width ≤ 32)
    (hd : lsb + width ≤ l ∨ l + k ≤ lsb) : fieldOf (putField w lsb width v) l k = fieldOf w l k := by
  have hv : v % 2 ^ width < 2 ^ width := Nat.mod_lt _ (Nat.two_pow_pos _)
  have hl : w.toNat % 2 ^ lsb < 2 ^ lsb := Nat.mod_lt _ (Nat.two_pow_pos _)
  have hp : 2 ^ (lsb + width) = 2 ^ lsb * 2 ^ width := pow_add 2 lsb width
  have e := putField_toNat w lsb width v h
  unfold fieldOf
  rcases hd with hd | hd
  · have hq : (putField w lsb width v).toNat / 2 ^ (lsb + width) = w.toNat / 2 ^ (lsb + width) := by
      have h2 : v % 2 ^ width * 2 ^ lsb + w.toNat % 2 ^ lsb < 2 ^ (lsb + width) := by
        rw [hp, mul_comm (2 ^ lsb)]; exact mul_add_lt_mul hv hl
      rw [e, add_assoc, mul_comm, Nat.mul_add_div (Nat.two_pow_pos _), Nat.div_eq_of_lt h2, add_zero]
    have split : ∀ x : Nat, x / 2 ^ l = x / 2 ^ (lsb + width) / 2 ^ (l - (lsb + width)) := by
      intro x; rw [Nat.div_div_eq_div_mul, ← pow_add, Nat.add_sub_cancel' hd]
    rw [split, hq, ← split]
  · have hm : (putField w lsb width v).toNat % 2 ^ lsb = w.toNat % 2 ^ lsb := by
      rw [e, pow_add, mul_comm (2 ^ lsb), ← mul_assoc, ← add_mul, add_comm, Nat.add_mul_mod_self_right, Nat.mod_mod]
    have low : ∀ x : Nat, x / 2 ^ l % 2 ^ k = x % 2 ^ lsb % 2 ^ (l + k) / 2 ^ l := by
      intro x
      rw [Nat.mod_mod_of_dvd _ (pow_dvd_pow 2 hd), pow_add, Nat.mod_mul_right_div_self]
    rw [low, hm, ← low]

theorem RegMap.word_setWord_same (m : RegMap) (a : Nat) (w : Word) : (m.setWord a w).word a = w :=
  Store.get_set_same _ _ _ _

theorem RegMap.word_setWord_ne (m : RegMap) {a b : Nat} (w : Word) (h : b ≠ a) : (m.setWord a w).word b = m.word b :=
  Store.get_set_ne _ _ _ h

theorem RegMap.get_put_same (m : RegMap) (f : Fld) (v : Nat) (h : f.fits = true) :
    (m.put f v).get f = v % 2 ^ f.width := by
  unfold RegMap.get RegMap.put
  rw [RegMap.word_setWord_same]
  exact fieldOf_putField_same _ _ _ _ (by simpa [Fld.fits] using h)

theorem RegMap.get_put_apart (m : RegMap) (f g : Fld) (v : Nat) (hf : f.fits = true) (h : f.apart g = true) :
    (m.put f v).get g = m.get g := by
  unfold RegMap.get RegMap.put
  by_cases ha : g.addr = f.addr
  · rw [ha, RegMap.word_setWord_same]
    refine fieldOf_putField_apart _ _ _ _ _ _ (by simpa [Fld.fits] using hf) ?_
    simpa [Fld.apart, ha] using h
  · rw [RegMap.word_setWord_ne _ _ ha]

theorem RegMap.get_setWord_ne (m : RegMap) (a : Nat) (w : Word) (g : Fld) (h : g.addr ≠ a) :
    (m.setWord a w).get g = m.get g := by
  unfold RegMap.get
  rw [RegMap.word_setWord_ne _ _ h]

theorem RegMap.get_setWord_same (m : RegMap) (w : Word) (g : Fld) :
    (m.setWord g.addr w).get g = fieldOf w g.lsb g.width := by
  unfold RegMap.get
  rw [RegMap.word_setWord_same]

theorem RegMap.word_put_ne (m : RegMap) (f : Fld) (v : Nat) {a : Nat} (h : a ≠ f.addr) :
    (m.put f v).word a = m.word a := RegMap.word_setWord_ne _ _ h

theorem RegMap.get_lt (m : RegMap) (f : Fld) : m.get f < 2 ^ f.width := fieldOf_lt _ _ _

/-! ### Register writes leave the rest of the device alone -/

@[simp] theorem Device.put_regs (d : Device) (f : Fld) (v : Nat) : (d.put f v).regs = d.regs.put f v := rfl
@[simp] theorem Device.put_mem (d : Device) (f : Fld) (v : Nat) : (d.put f v).mem = d.mem := rfl
@[simp] theorem Device.put_ecc (d : Device) (f : Fld) (v : Nat) : (d.put f v).ecc = d.ecc := rfl
@[simp] theorem Device.put_c0 (d : Device) (f : Fld) (v : Nat) : (d.put f v).c0 = d.c0 := rfl
@[simp] theorem Device.put_c1 (d : Device) (f : Fld) (v : Nat) : (d.put f v).c1 = d.c1 := rfl
@[simp] theorem Device.put_sc (d : Device) (f : Fld) (v : Nat) : (d.put f v).sc = d.sc := rfl
@[simp] theorem Device.put_stream (d : Device) (f : Fld) (v : Nat) : (d.put f v).stream = d.stream := rfl
@[simp] theorem Device.put_evc (d : Device) (f : Fld) (v : Nat) : (d.put f v).evc = d.evc := rfl
@[simp] theorem Device.put_sed (d : Device) (f : Fld) (v : Nat) : (d.put f v).sed = d.sed := rfl
@[simp] theorem Device.put_clk (d : Device) (f : Fld) (v : Nat) : (d.put f v).clk = d.clk := rfl
@[simp] theorem Device.put_pwr (d : Device) (f : Fld) (v : Nat) : (d.put f v).pwr = d.pwr := rfl
@[simp] theorem Device.put_stage (d : Device) (f : Fld) (v : Nat) : (d.put f v).stage = d.stage := rfl
@[simp] theorem Device.put_diag (d : Device) (f : Fld) (v : Nat) : (d.put f v).diag = d.diag := rfl
@[simp] theorem Device.put_inp (d : Device) (f : Fld) (v : Nat) : (d.put f v).inp = d.inp := rfl
@[simp] theorem Device.put_guard (d : Device) (f : Fld) (v : Nat) : (d.put f v).guard = d.guard := rfl
@[simp] theorem Device.put_aux (d : Device) (f : Fld) (v : Nat) : (d.put f v).aux = d.aux := rfl
@[simp] theorem Device.put_rsv (d : Device) (f : Fld) (v : Nat) : (d.put f v).rsv = d.rsv := rfl
@[simp] theorem Device.put_companions (d : Device) (f : Fld) (v : Nat) : (d.put f v).companions = d.companions := rfl
@[simp] theorem Device.put_shl (d : Device) (f : Fld) (v : Nat) : (d.put f v).shl = d.shl := rfl
@[simp] theorem Device.put_trn (d : Device) (f : Fld) (v : Nat) : (d.put f v).trn = d.trn := rfl
@[simp] theorem Device.put_nvs (d : Device) (f : Fld) (v : Nat) : (d.put f v).nvs = d.nvs := rfl
@[simp] theorem Device.put_hp (d : Device) (f : Fld) (v : Nat) : (d.put f v).hp = d.hp := rfl
@[simp] theorem Device.put_txn (d : Device) (f : Fld) (v : Nat) : (d.put f v).txn = d.txn := rfl
@[simp] theorem Device.put_weirRecord (d : Device) (f : Fld) (v : Nat) : (d.put f v).weirRecord = d.weirRecord := rfl
@[simp] theorem Device.put_weirAge (d : Device) (f : Fld) (v : Nat) : (d.put f v).weirAge = d.weirAge := rfl
@[simp] theorem Device.put_semOrder (d : Device) (f : Fld) (v : Nat) : (d.put f v).semOrder = d.semOrder := rfl
@[simp] theorem Device.put_semWon (d : Device) (f : Fld) (v : Nat) : (d.put f v).semWon = d.semWon := rfl
@[simp] theorem Device.put_stamps (d : Device) (f : Fld) (v : Nat) : (d.put f v).stamps = d.stamps := rfl
@[simp] theorem Device.put_linkClock (d : Device) (f : Fld) (v : Nat) : (d.put f v).linkClock = d.linkClock := rfl
@[simp] theorem Device.put_leasePhase (d : Device) (f : Fld) (v : Nat) : (d.put f v).leasePhase = d.leasePhase := rfl
@[simp] theorem Device.put_lastRead (d : Device) (f : Fld) (v : Nat) : (d.put f v).lastRead = d.lastRead := rfl
@[simp] theorem Device.put_freshN (d : Device) (f : Fld) (v : Nat) : (d.put f v).freshN = d.freshN := rfl

@[simp] theorem Device.setWord_regs (d : Device) (a : Nat) (w : Word) : (d.setWord a w).regs = d.regs.setWord a w := rfl
@[simp] theorem Device.setWord_mem (d : Device) (a : Nat) (w : Word) : (d.setWord a w).mem = d.mem := rfl
@[simp] theorem Device.setWord_ecc (d : Device) (a : Nat) (w : Word) : (d.setWord a w).ecc = d.ecc := rfl
@[simp] theorem Device.setWord_c0 (d : Device) (a : Nat) (w : Word) : (d.setWord a w).c0 = d.c0 := rfl
@[simp] theorem Device.setWord_c1 (d : Device) (a : Nat) (w : Word) : (d.setWord a w).c1 = d.c1 := rfl
@[simp] theorem Device.setWord_sc (d : Device) (a : Nat) (w : Word) : (d.setWord a w).sc = d.sc := rfl
@[simp] theorem Device.setWord_stream (d : Device) (a : Nat) (w : Word) : (d.setWord a w).stream = d.stream := rfl
@[simp] theorem Device.setWord_evc (d : Device) (a : Nat) (w : Word) : (d.setWord a w).evc = d.evc := rfl
@[simp] theorem Device.setWord_sed (d : Device) (a : Nat) (w : Word) : (d.setWord a w).sed = d.sed := rfl
@[simp] theorem Device.setWord_clk (d : Device) (a : Nat) (w : Word) : (d.setWord a w).clk = d.clk := rfl
@[simp] theorem Device.setWord_pwr (d : Device) (a : Nat) (w : Word) : (d.setWord a w).pwr = d.pwr := rfl
@[simp] theorem Device.setWord_stage (d : Device) (a : Nat) (w : Word) : (d.setWord a w).stage = d.stage := rfl
@[simp] theorem Device.setWord_diag (d : Device) (a : Nat) (w : Word) : (d.setWord a w).diag = d.diag := rfl
@[simp] theorem Device.setWord_inp (d : Device) (a : Nat) (w : Word) : (d.setWord a w).inp = d.inp := rfl
@[simp] theorem Device.setWord_guard (d : Device) (a : Nat) (w : Word) : (d.setWord a w).guard = d.guard := rfl
@[simp] theorem Device.setWord_aux (d : Device) (a : Nat) (w : Word) : (d.setWord a w).aux = d.aux := rfl
@[simp] theorem Device.setWord_rsv (d : Device) (a : Nat) (w : Word) : (d.setWord a w).rsv = d.rsv := rfl
@[simp] theorem Device.setWord_companions (d : Device) (a : Nat) (w : Word) : (d.setWord a w).companions = d.companions := rfl
@[simp] theorem Device.setWord_shl (d : Device) (a : Nat) (w : Word) : (d.setWord a w).shl = d.shl := rfl
@[simp] theorem Device.setWord_trn (d : Device) (a : Nat) (w : Word) : (d.setWord a w).trn = d.trn := rfl
@[simp] theorem Device.setWord_nvs (d : Device) (a : Nat) (w : Word) : (d.setWord a w).nvs = d.nvs := rfl
@[simp] theorem Device.setWord_hp (d : Device) (a : Nat) (w : Word) : (d.setWord a w).hp = d.hp := rfl
@[simp] theorem Device.setWord_txn (d : Device) (a : Nat) (w : Word) : (d.setWord a w).txn = d.txn := rfl
@[simp] theorem Device.setWord_weirRecord (d : Device) (a : Nat) (w : Word) : (d.setWord a w).weirRecord = d.weirRecord := rfl
@[simp] theorem Device.setWord_weirAge (d : Device) (a : Nat) (w : Word) : (d.setWord a w).weirAge = d.weirAge := rfl
@[simp] theorem Device.setWord_semOrder (d : Device) (a : Nat) (w : Word) : (d.setWord a w).semOrder = d.semOrder := rfl
@[simp] theorem Device.setWord_semWon (d : Device) (a : Nat) (w : Word) : (d.setWord a w).semWon = d.semWon := rfl
@[simp] theorem Device.setWord_stamps (d : Device) (a : Nat) (w : Word) : (d.setWord a w).stamps = d.stamps := rfl
@[simp] theorem Device.setWord_linkClock (d : Device) (a : Nat) (w : Word) : (d.setWord a w).linkClock = d.linkClock := rfl
@[simp] theorem Device.setWord_leasePhase (d : Device) (a : Nat) (w : Word) : (d.setWord a w).leasePhase = d.leasePhase := rfl
@[simp] theorem Device.setWord_lastRead (d : Device) (a : Nat) (w : Word) : (d.setWord a w).lastRead = d.lastRead := rfl
@[simp] theorem Device.setWord_freshN (d : Device) (a : Nat) (w : Word) : (d.setWord a w).freshN = d.freshN := rfl

/-! ### The cores -/

@[simp] theorem Device.core_setCore (d : Device) (c : CoreId) (k : Core) : (d.setCore c k).core c = k := by
  cases c <;> rfl

theorem Device.core_setCore_ne (d : Device) {c e : CoreId} (k : Core) (h : e ≠ c) :
    (d.setCore c k).core e = d.core e := by
  cases c <;> cases e <;> first | rfl | exact absurd rfl h

@[simp] theorem Device.setCore_setCore (d : Device) (c : CoreId) (j k : Core) :
    (d.setCore c j).setCore c k = d.setCore c k := by
  cases c <;> rfl

@[simp] theorem Device.core_put (d : Device) (c : CoreId) (f : Fld) (v : Nat) : (d.put f v).core c = d.core c := by
  cases c <;> rfl

@[simp] theorem Device.setCore_regs (d : Device) (c : CoreId) (k : Core) : (d.setCore c k).regs = d.regs := by
  cases c <;> rfl
@[simp] theorem Device.setCore_mem (d : Device) (c : CoreId) (k : Core) : (d.setCore c k).mem = d.mem := by
  cases c <;> rfl
@[simp] theorem Device.setCore_ecc (d : Device) (c : CoreId) (k : Core) : (d.setCore c k).ecc = d.ecc := by
  cases c <;> rfl
@[simp] theorem Device.setCore_stream (d : Device) (c : CoreId) (k : Core) : (d.setCore c k).stream = d.stream := by
  cases c <;> rfl
@[simp] theorem Device.setCore_evc (d : Device) (c : CoreId) (k : Core) : (d.setCore c k).evc = d.evc := by
  cases c <;> rfl
@[simp] theorem Device.setCore_sed (d : Device) (c : CoreId) (k : Core) : (d.setCore c k).sed = d.sed := by
  cases c <;> rfl
@[simp] theorem Device.setCore_clk (d : Device) (c : CoreId) (k : Core) : (d.setCore c k).clk = d.clk := by
  cases c <;> rfl
@[simp] theorem Device.setCore_pwr (d : Device) (c : CoreId) (k : Core) : (d.setCore c k).pwr = d.pwr := by
  cases c <;> rfl
@[simp] theorem Device.setCore_stage (d : Device) (c : CoreId) (k : Core) : (d.setCore c k).stage = d.stage := by
  cases c <;> rfl
@[simp] theorem Device.setCore_diag (d : Device) (c : CoreId) (k : Core) : (d.setCore c k).diag = d.diag := by
  cases c <;> rfl
@[simp] theorem Device.setCore_inp (d : Device) (c : CoreId) (k : Core) : (d.setCore c k).inp = d.inp := by
  cases c <;> rfl
@[simp] theorem Device.setCore_guard (d : Device) (c : CoreId) (k : Core) : (d.setCore c k).guard = d.guard := by
  cases c <;> rfl
@[simp] theorem Device.setCore_aux (d : Device) (c : CoreId) (k : Core) : (d.setCore c k).aux = d.aux := by
  cases c <;> rfl
@[simp] theorem Device.setCore_rsv (d : Device) (c : CoreId) (k : Core) : (d.setCore c k).rsv = d.rsv := by
  cases c <;> rfl
@[simp] theorem Device.setCore_companions (d : Device) (c : CoreId) (k : Core) : (d.setCore c k).companions = d.companions := by
  cases c <;> rfl
@[simp] theorem Device.setCore_shl (d : Device) (c : CoreId) (k : Core) : (d.setCore c k).shl = d.shl := by
  cases c <;> rfl
@[simp] theorem Device.setCore_trn (d : Device) (c : CoreId) (k : Core) : (d.setCore c k).trn = d.trn := by
  cases c <;> rfl
@[simp] theorem Device.setCore_nvs (d : Device) (c : CoreId) (k : Core) : (d.setCore c k).nvs = d.nvs := by
  cases c <;> rfl
@[simp] theorem Device.setCore_hp (d : Device) (c : CoreId) (k : Core) : (d.setCore c k).hp = d.hp := by
  cases c <;> rfl
@[simp] theorem Device.setCore_txn (d : Device) (c : CoreId) (k : Core) : (d.setCore c k).txn = d.txn := by
  cases c <;> rfl
@[simp] theorem Device.setCore_weirRecord (d : Device) (c : CoreId) (k : Core) : (d.setCore c k).weirRecord = d.weirRecord := by
  cases c <;> rfl
@[simp] theorem Device.setCore_weirAge (d : Device) (c : CoreId) (k : Core) : (d.setCore c k).weirAge = d.weirAge := by
  cases c <;> rfl
@[simp] theorem Device.setCore_semOrder (d : Device) (c : CoreId) (k : Core) : (d.setCore c k).semOrder = d.semOrder := by
  cases c <;> rfl
@[simp] theorem Device.setCore_semWon (d : Device) (c : CoreId) (k : Core) : (d.setCore c k).semWon = d.semWon := by
  cases c <;> rfl
@[simp] theorem Device.setCore_stamps (d : Device) (c : CoreId) (k : Core) : (d.setCore c k).stamps = d.stamps := by
  cases c <;> rfl
@[simp] theorem Device.setCore_linkClock (d : Device) (c : CoreId) (k : Core) : (d.setCore c k).linkClock = d.linkClock := by
  cases c <;> rfl
@[simp] theorem Device.setCore_leasePhase (d : Device) (c : CoreId) (k : Core) : (d.setCore c k).leasePhase = d.leasePhase := by
  cases c <;> rfl
@[simp] theorem Device.setCore_lastRead (d : Device) (c : CoreId) (k : Core) : (d.setCore c k).lastRead = d.lastRead := by
  cases c <;> rfl
@[simp] theorem Device.setCore_freshN (d : Device) (c : CoreId) (k : Core) : (d.setCore c k).freshN = d.freshN := by
  cases c <;> rfl

end Sys2Proof.Machine
end

