-- ==== Sys2Proof/Laws/Ops.lean ====
section
/-! SUPPORT. What the shared operations can do: the log, the fire of an event source, and what they leave alone. -/

namespace Sys2Proof.Machine

/-- A field outside the counters and flags that the log and the event controller keep. -/
def Fld.quiet (g : Fld) : Bool :=
  g.addr != R.SED_CNT2 && g.addr != R.SED_EVT && g.addr != R.EVC_STAT && g.addr != R.EVC_WLATCH

/-- `e` differs from `d` only in what the log and the event controller hold. -/
def Noted (d e : Device) : Prop :=
  ∃ regs evc sed, e = { d with regs := regs, evc := evc, sed := sed } ∧
    ∀ g : Fld, g.quiet = true → regs.get g = d.regs.get g

theorem Noted.refl (d : Device) : Noted d d := ⟨d.regs, d.evc, d.sed, rfl, fun _ _ => rfl⟩

theorem Noted.trans {d e f : Device} (h : Noted d e) (k : Noted e f) : Noted d f := by
  obtain ⟨r1, x1, s1, rfl, g1⟩ := h
  obtain ⟨r2, x2, s2, rfl, g2⟩ := k
  exact ⟨r2, x2, s2, rfl, fun g q => (g2 g q).trans (g1 g q)⟩

theorem Noted.put {d : Device} {f : Fld} {v : Nat} (hf : f.fits = true)
    (h : f.addr = R.SED_CNT2 ∨ f.addr = R.SED_EVT ∨ f.addr = R.EVC_STAT ∨ f.addr = R.EVC_WLATCH) :
    Noted d (d.put f v) := by
  refine ⟨_, d.evc, d.sed, rfl, fun g q => RegMap.get_put_apart _ _ _ _ hf ?_⟩
  simp only [Fld.quiet, Bool.and_eq_true, bne_iff_ne, ne_eq] at q
  have : f.addr ≠ g.addr := by
    rcases h with h | h | h | h <;> rw [h] <;> intro e <;> simp [← e] at q
  simp [Fld.apart, this]

theorem Noted.sed {d : Device} {x : Sed} : Noted d { d with sed := x } := ⟨_, _, _, rfl, fun _ _ => rfl⟩
theorem Noted.evc {d : Device} {x : Evc} : Noted d { d with evc := x } := ⟨_, _, _, rfl, fun _ _ => rfl⟩

/-- An entry that arrives at the log changes the log alone (R657). -/
theorem Device.logEntry_noted (d : Device) (e : LogEntry) : Noted d (d.logEntry e) := by
  unfold Device.logEntry
  have gap : ∀ f : Device, Noted f ((f.bump F.SED_CNT2_GAP).orField F.SED_EVT_EVT 8) := fun f =>
    (Noted.put (by decide) (.inl rfl)).trans (Noted.put (by decide) (.inr (.inl rfl)))
  split
  · split
    · exact Noted.sed
    · exact Noted.sed.trans (gap _)
  · split
    · exact Noted.sed
    · exact Noted.sed.trans (gap _)

theorem Device.log_noted (d : Device) (n sev detail : Nat) (data : List Byte) :
    Noted d (d.log n sev detail data) := Device.logEntry_noted _ _

theorem Device.setSource_noted (d : Device) (n : Fin 128) (e : EvSource) : Noted d (d.setSource n e) := Noted.evc

theorem Device.countFire_noted (d : Device) (n : Fin 128) (e : EvSource) : Noted d (d.countFire n e) := by
  unfold Device.countFire
  split
  · exact Device.setSource_noted _ _ _
  · have h : Noted d ((d.setSource n { e with ovf := true }).orField F.EVC_STAT_OVFANY 1) :=
      (Device.setSource_noted _ _ _).trans (Noted.put (by decide) (.inr (.inr (.inl rfl))))
    dsimp only
    split
    · exact h
    · exact h.trans (Device.log_noted _ _ _ _ _)

theorem Device.fireNow_noted (d : Device) (n : Fin 128) (sw wake : Bool) : Noted d (d.fireNow n sw wake) := by
  unfold Device.fireNow
  dsimp only
  split
  · exact Device.setSource_noted _ _ _
  · split
    · split
      · exact Device.countFire_noted _ _ _
      · exact Device.setSource_noted _ _ _
    · exact (Device.setSource_noted _ _ _).trans (Noted.put (by decide) (.inr (.inr (.inl rfl))))
  · split
    · exact Device.countFire_noted _ _ _
    · exact Device.setSource_noted _ _ _

/-- A fire changes the event controller, its wake latches and, at an overflow, the log (R141 to R148). -/
theorem Device.fire_noted (d : Device) (n : Nat) : Noted d (d.fire n) := by
  unfold Device.fire
  split
  · exact Noted.refl _
  · split
    · split
      · exact Device.fireNow_noted _ _ _ _
      · exact Noted.refl _
    · split
      · exact Noted.put (by decide) (.inr (.inr (.inr rfl)))
      · exact Noted.refl _

theorem Device.raise_noted (d : Device) (n detail : Nat) (data : List Byte) : Noted d (d.raise n detail data) :=
  (Device.fire_noted _ _).trans (Device.log_noted _ _ _ _ _)

theorem Device.addrWarn_noted (d : Device) : Noted d d.addrWarn := Device.fire_noted _ _

/-- An entry that finds room joins the write queue, in its place among the entries of its instant (R33, R655). -/
theorem Device.log_queued (d : Device) (n sev detail : Nat) (data : List Byte) (hg : d.sed.gap = none)
    (hq : d.sed.wq.length < logQueueCap) :
    d.log n sev detail data = { d with sed := { d.sed with wq := placeEntry d.sed.wq (
      { epoch := BitVec.ofNat 32 d.epoch, rt := d.clk.rt, source := n, sev := sev, detail := detail % 8192,
        data := data.take 11 } : LogEntry) } } := by
  unfold Device.log Device.logEntry
  rw [hg]
  simp [hq]

/-- An entry of a source that R33 gives no place of its own stands behind those that wait. -/
theorem placeEntry_last (q : List LogEntry) (e : LogEntry) (h : faultRank e.source = none) :
    placeEntry q e = q ++ [e] := by
  have k : ∀ l : List LogEntry, placeBefore e l = e :: l := by
    intro l
    cases l with
    | nil => rfl
    | cons x t =>
      have : x.follows e = false := by
        unfold LogEntry.follows
        rw [h]
        cases faultRank x.source <;> simp
      simp [placeBefore, this]
  unfold placeEntry
  rw [k]
  simp

/-- An IDLE source that fires while no wake latch takes it becomes PENDING (R141). -/
theorem Device.fire_idle (d : Device) (n : Fin 128) (hs : isSource n.val = true) (hn : n.val < 124)
    (h : d.latchArmed n.val = false) (hi : (d.source n).st = .idle) :
    d.fire n.val = d.setSource n { d.source n with st := .pending, count := 1, sw := false, wake := false } := by
  unfold Device.fire Device.fireNow
  simp [h, hi, hs, Nat.not_le.mpr hn]

theorem Device.source_setSource (d : Device) (n : Fin 128) (e : EvSource) : (d.setSource n e).source n = e := by
  simp [Device.source, Device.setSource]

theorem Device.source_setSource_ne (d : Device) {n m : Fin 128} (e : EvSource) (h : m ≠ n) :
    (d.setSource n e).source m = d.source m := by
  have : n.val ≠ m.val := fun e => h (Fin.ext e.symm)
  simp [Device.source, Device.setSource, this]

/-! ### What the noted operations leave alone -/

theorem Noted.get {d e : Device} (h : Noted d e) {g : Fld} (q : g.quiet = true) : e.regs.get g = d.regs.get g := by
  obtain ⟨_, _, _, rfl, k⟩ := h; exact k g q
theorem Noted.mem {d e : Device} (h : Noted d e) : e.mem = d.mem := by
  obtain ⟨_, _, _, rfl, _⟩ := h; rfl
theorem Noted.ecc {d e : Device} (h : Noted d e) : e.ecc = d.ecc := by
  obtain ⟨_, _, _, rfl, _⟩ := h; rfl
theorem Noted.c0 {d e : Device} (h : Noted d e) : e.c0 = d.c0 := by
  obtain ⟨_, _, _, rfl, _⟩ := h; rfl
theorem Noted.c1 {d e : Device} (h : Noted d e) : e.c1 = d.c1 := by
  obtain ⟨_, _, _, rfl, _⟩ := h; rfl
theorem Noted.sc {d e : Device} (h : Noted d e) : e.sc = d.sc := by
  obtain ⟨_, _, _, rfl, _⟩ := h; rfl
theorem Noted.stream {d e : Device} (h : Noted d e) : e.stream = d.stream := by
  obtain ⟨_, _, _, rfl, _⟩ := h; rfl
theorem Noted.clk {d e : Device} (h : Noted d e) : e.clk = d.clk := by
  obtain ⟨_, _, _, rfl, _⟩ := h; rfl
theorem Noted.pwr {d e : Device} (h : Noted d e) : e.pwr = d.pwr := by
  obtain ⟨_, _, _, rfl, _⟩ := h; rfl
theorem Noted.stage {d e : Device} (h : Noted d e) : e.stage = d.stage := by
  obtain ⟨_, _, _, rfl, _⟩ := h; rfl
theorem Noted.diag {d e : Device} (h : Noted d e) : e.diag = d.diag := by
  obtain ⟨_, _, _, rfl, _⟩ := h; rfl
theorem Noted.inp {d e : Device} (h : Noted d e) : e.inp = d.inp := by
  obtain ⟨_, _, _, rfl, _⟩ := h; rfl
theorem Noted.guard {d e : Device} (h : Noted d e) : e.guard = d.guard := by
  obtain ⟨_, _, _, rfl, _⟩ := h; rfl
theorem Noted.aux {d e : Device} (h : Noted d e) : e.aux = d.aux := by
  obtain ⟨_, _, _, rfl, _⟩ := h; rfl
theorem Noted.rsv {d e : Device} (h : Noted d e) : e.rsv = d.rsv := by
  obtain ⟨_, _, _, rfl, _⟩ := h; rfl
theorem Noted.companions {d e : Device} (h : Noted d e) : e.companions = d.companions := by
  obtain ⟨_, _, _, rfl, _⟩ := h; rfl
theorem Noted.shl {d e : Device} (h : Noted d e) : e.shl = d.shl := by
  obtain ⟨_, _, _, rfl, _⟩ := h; rfl
theorem Noted.trn {d e : Device} (h : Noted d e) : e.trn = d.trn := by
  obtain ⟨_, _, _, rfl, _⟩ := h; rfl
theorem Noted.nvs {d e : Device} (h : Noted d e) : e.nvs = d.nvs := by
  obtain ⟨_, _, _, rfl, _⟩ := h; rfl
theorem Noted.hp {d e : Device} (h : Noted d e) : e.hp = d.hp := by
  obtain ⟨_, _, _, rfl, _⟩ := h; rfl
theorem Noted.txn {d e : Device} (h : Noted d e) : e.txn = d.txn := by
  obtain ⟨_, _, _, rfl, _⟩ := h; rfl
theorem Noted.weirRecord {d e : Device} (h : Noted d e) : e.weirRecord = d.weirRecord := by
  obtain ⟨_, _, _, rfl, _⟩ := h; rfl
theorem Noted.weirAge {d e : Device} (h : Noted d e) : e.weirAge = d.weirAge := by
  obtain ⟨_, _, _, rfl, _⟩ := h; rfl
theorem Noted.semOrder {d e : Device} (h : Noted d e) : e.semOrder = d.semOrder := by
  obtain ⟨_, _, _, rfl, _⟩ := h; rfl
theorem Noted.semWon {d e : Device} (h : Noted d e) : e.semWon = d.semWon := by
  obtain ⟨_, _, _, rfl, _⟩ := h; rfl
theorem Noted.stamps {d e : Device} (h : Noted d e) : e.stamps = d.stamps := by
  obtain ⟨_, _, _, rfl, _⟩ := h; rfl
theorem Noted.linkClock {d e : Device} (h : Noted d e) : e.linkClock = d.linkClock := by
  obtain ⟨_, _, _, rfl, _⟩ := h; rfl
theorem Noted.leasePhase {d e : Device} (h : Noted d e) : e.leasePhase = d.leasePhase := by
  obtain ⟨_, _, _, rfl, _⟩ := h; rfl
theorem Noted.lastRead {d e : Device} (h : Noted d e) : e.lastRead = d.lastRead := by
  obtain ⟨_, _, _, rfl, _⟩ := h; rfl
theorem Noted.freshN {d e : Device} (h : Noted d e) : e.freshN = d.freshN := by
  obtain ⟨_, _, _, rfl, _⟩ := h; rfl
theorem Noted.core {d e : Device} (h : Noted d e) (c : CoreId) : e.core c = d.core c := by
  obtain ⟨_, _, _, rfl, _⟩ := h; cases c <;> rfl

theorem Device.log_get (d : Device) (n sev detail : Nat) (data : List Byte) {g : Fld} (q : g.quiet = true) :
    (d.log n sev detail data).regs.get g = d.regs.get g := Noted.get (Device.log_noted _ _ _ _ _) q
@[simp] theorem Device.log_mem (d : Device) (n sev detail : Nat) (data : List Byte) : (d.log n sev detail data).mem = d.mem :=
  Noted.mem (Device.log_noted _ _ _ _ _)
@[simp] theorem Device.log_ecc (d : Device) (n sev detail : Nat) (data : List Byte) : (d.log n sev detail data).ecc = d.ecc :=
  Noted.ecc (Device.log_noted _ _ _ _ _)
@[simp] theorem Device.log_c0 (d : Device) (n sev detail : Nat) (data : List Byte) : (d.log n sev detail data).c0 = d.c0 :=
  Noted.c0 (Device.log_noted _ _ _ _ _)
@[simp] theorem Device.log_c1 (d : Device) (n sev detail : Nat) (data : List Byte) : (d.log n sev detail data).c1 = d.c1 :=
  Noted.c1 (Device.log_noted _ _ _ _ _)
@[simp] theorem Device.log_sc (d : Device) (n sev detail : Nat) (data : List Byte) : (d.log n sev detail data).sc = d.sc :=
  Noted.sc (Device.log_noted _ _ _ _ _)
@[simp] theorem Device.log_stream (d : Device) (n sev detail : Nat) (data : List Byte) : (d.log n sev detail data).stream = d.stream :=
  Noted.stream (Device.log_noted _ _ _ _ _)
@[simp] theorem Device.log_clk (d : Device) (n sev detail : Nat) (data : List Byte) : (d.log n sev detail data).clk = d.clk :=
  Noted.clk (Device.log_noted _ _ _ _ _)
@[simp] theorem Device.log_pwr (d : Device) (n sev detail : Nat) (data : List Byte) : (d.log n sev detail data).pwr = d.pwr :=
  Noted.pwr (Device.log_noted _ _ _ _ _)
@[simp] theorem Device.log_stage (d : Device) (n sev detail : Nat) (data : List Byte) : (d.log n sev detail data).stage = d.stage :=
  Noted.stage (Device.log_noted _ _ _ _ _)
@[simp] theorem Device.log_diag (d : Device) (n sev detail : Nat) (data : List Byte) : (d.log n sev detail data).diag = d.diag :=
  Noted.diag (Device.log_noted _ _ _ _ _)
@[simp] theorem Device.log_inp (d : Device) (n sev detail : Nat) (data : List Byte) : (d.log n sev detail data).inp = d.inp :=
  Noted.inp (Device.log_noted _ _ _ _ _)
@[simp] theorem Device.log_guard (d : Device) (n sev detail : Nat) (data : List Byte) : (d.log n sev detail data).guard = d.guard :=
  Noted.guard (Device.log_noted _ _ _ _ _)
@[simp] theorem Device.log_aux (d : Device) (n sev detail : Nat) (data : List Byte) : (d.log n sev detail data).aux = d.aux :=
  Noted.aux (Device.log_noted _ _ _ _ _)
@[simp] theorem Device.log_rsv (d : Device) (n sev detail : Nat) (data : List Byte) : (d.log n sev detail data).rsv = d.rsv :=
  Noted.rsv (Device.log_noted _ _ _ _ _)
@[simp] theorem Device.log_companions (d : Device) (n sev detail : Nat) (data : List Byte) : (d.log n sev detail data).companions = d.companions :=
  Noted.companions (Device.log_noted _ _ _ _ _)
@[simp] theorem Device.log_shl (d : Device) (n sev detail : Nat) (data : List Byte) : (d.log n sev detail data).shl = d.shl :=
  Noted.shl (Device.log_noted _ _ _ _ _)
@[simp] theorem Device.log_trn (d : Device) (n sev detail : Nat) (data : List Byte) : (d.log n sev detail data).trn = d.trn :=
  Noted.trn (Device.log_noted _ _ _ _ _)
@[simp] theorem Device.log_nvs (d : Device) (n sev detail : Nat) (data : List Byte) : (d.log n sev detail data).nvs = d.nvs :=
  Noted.nvs (Device.log_noted _ _ _ _ _)
@[simp] theorem Device.log_hp (d : Device) (n sev detail : Nat) (data : List Byte) : (d.log n sev detail data).hp = d.hp :=
  Noted.hp (Device.log_noted _ _ _ _ _)
@[simp] theorem Device.log_txn (d : Device) (n sev detail : Nat) (data : List Byte) : (d.log n sev detail data).txn = d.txn :=
  Noted.txn (Device.log_noted _ _ _ _ _)
@[simp] theorem Device.log_weirRecord (d : Device) (n sev detail : Nat) (data : List Byte) : (d.log n sev detail data).weirRecord = d.weirRecord :=
  Noted.weirRecord (Device.log_noted _ _ _ _ _)
@[simp] theorem Device.log_weirAge (d : Device) (n sev detail : Nat) (data : List Byte) : (d.log n sev detail data).weirAge = d.weirAge :=
  Noted.weirAge (Device.log_noted _ _ _ _ _)
@[simp] theorem Device.log_semOrder (d : Device) (n sev detail : Nat) (data : List Byte) : (d.log n sev detail data).semOrder = d.semOrder :=
  Noted.semOrder (Device.log_noted _ _ _ _ _)
@[simp] theorem Device.log_semWon (d : Device) (n sev detail : Nat) (data : List Byte) : (d.log n sev detail data).semWon = d.semWon :=
  Noted.semWon (Device.log_noted _ _ _ _ _)
@[simp] theorem Device.log_stamps (d : Device) (n sev detail : Nat) (data : List Byte) : (d.log n sev detail data).stamps = d.stamps :=
  Noted.stamps (Device.log_noted _ _ _ _ _)
@[simp] theorem Device.log_linkClock (d : Device) (n sev detail : Nat) (data : List Byte) : (d.log n sev detail data).linkClock = d.linkClock :=
  Noted.linkClock (Device.log_noted _ _ _ _ _)
@[simp] theorem Device.log_leasePhase (d : Device) (n sev detail : Nat) (data : List Byte) : (d.log n sev detail data).leasePhase = d.leasePhase :=
  Noted.leasePhase (Device.log_noted _ _ _ _ _)
@[simp] theorem Device.log_lastRead (d : Device) (n sev detail : Nat) (data : List Byte) : (d.log n sev detail data).lastRead = d.lastRead :=
  Noted.lastRead (Device.log_noted _ _ _ _ _)
@[simp] theorem Device.log_freshN (d : Device) (n sev detail : Nat) (data : List Byte) : (d.log n sev detail data).freshN = d.freshN :=
  Noted.freshN (Device.log_noted _ _ _ _ _)
@[simp] theorem Device.log_core (d : Device) (n sev detail : Nat) (data : List Byte) (c : CoreId) : (d.log n sev detail data).core c = d.core c :=
  Noted.core (Device.log_noted _ _ _ _ _) c

theorem Device.fire_get (d : Device) (n : Nat) {g : Fld} (q : g.quiet = true) :
    (d.fire n).regs.get g = d.regs.get g := Noted.get (Device.fire_noted _ _) q
@[simp] theorem Device.fire_mem (d : Device) (n : Nat) : (d.fire n).mem = d.mem :=
  Noted.mem (Device.fire_noted _ _)
@[simp] theorem Device.fire_ecc (d : Device) (n : Nat) : (d.fire n).ecc = d.ecc :=
  Noted.ecc (Device.fire_noted _ _)
@[simp] theorem Device.fire_c0 (d : Device) (n : Nat) : (d.fire n).c0 = d.c0 :=
  Noted.c0 (Device.fire_noted _ _)
@[simp] theorem Device.fire_c1 (d : Device) (n : Nat) : (d.fire n).c1 = d.c1 :=
  Noted.c1 (Device.fire_noted _ _)
@[simp] theorem Device.fire_sc (d : Device) (n : Nat) : (d.fire n).sc = d.sc :=
  Noted.sc (Device.fire_noted _ _)
@[simp] theorem Device.fire_stream (d : Device) (n : Nat) : (d.fire n).stream = d.stream :=
  Noted.stream (Device.fire_noted _ _)
@[simp] theorem Device.fire_clk (d : Device) (n : Nat) : (d.fire n).clk = d.clk :=
  Noted.clk (Device.fire_noted _ _)
@[simp] theorem Device.fire_pwr (d : Device) (n : Nat) : (d.fire n).pwr = d.pwr :=
  Noted.pwr (Device.fire_noted _ _)
@[simp] theorem Device.fire_stage (d : Device) (n : Nat) : (d.fire n).stage = d.stage :=
  Noted.stage (Device.fire_noted _ _)
@[simp] theorem Device.fire_diag (d : Device) (n : Nat) : (d.fire n).diag = d.diag :=
  Noted.diag (Device.fire_noted _ _)
@[simp] theorem Device.fire_inp (d : Device) (n : Nat) : (d.fire n).inp = d.inp :=
  Noted.inp (Device.fire_noted _ _)
@[simp] theorem Device.fire_guard (d : Device) (n : Nat) : (d.fire n).guard = d.guard :=
  Noted.guard (Device.fire_noted _ _)
@[simp] theorem Device.fire_aux (d : Device) (n : Nat) : (d.fire n).aux = d.aux :=
  Noted.aux (Device.fire_noted _ _)
@[simp] theorem Device.fire_rsv (d : Device) (n : Nat) : (d.fire n).rsv = d.rsv :=
  Noted.rsv (Device.fire_noted _ _)
@[simp] theorem Device.fire_companions (d : Device) (n : Nat) : (d.fire n).companions = d.companions :=
  Noted.companions (Device.fire_noted _ _)
@[simp] theorem Device.fire_shl (d : Device) (n : Nat) : (d.fire n).shl = d.shl :=
  Noted.shl (Device.fire_noted _ _)
@[simp] theorem Device.fire_trn (d : Device) (n : Nat) : (d.fire n).trn = d.trn :=
  Noted.trn (Device.fire_noted _ _)
@[simp] theorem Device.fire_nvs (d : Device) (n : Nat) : (d.fire n).nvs = d.nvs :=
  Noted.nvs (Device.fire_noted _ _)
@[simp] theorem Device.fire_hp (d : Device) (n : Nat) : (d.fire n).hp = d.hp :=
  Noted.hp (Device.fire_noted _ _)
@[simp] theorem Device.fire_txn (d : Device) (n : Nat) : (d.fire n).txn = d.txn :=
  Noted.txn (Device.fire_noted _ _)
@[simp] theorem Device.fire_weirRecord (d : Device) (n : Nat) : (d.fire n).weirRecord = d.weirRecord :=
  Noted.weirRecord (Device.fire_noted _ _)
@[simp] theorem Device.fire_weirAge (d : Device) (n : Nat) : (d.fire n).weirAge = d.weirAge :=
  Noted.weirAge (Device.fire_noted _ _)
@[simp] theorem Device.fire_semOrder (d : Device) (n : Nat) : (d.fire n).semOrder = d.semOrder :=
  Noted.semOrder (Device.fire_noted _ _)
@[simp] theorem Device.fire_semWon (d : Device) (n : Nat) : (d.fire n).semWon = d.semWon :=
  Noted.semWon (Device.fire_noted _ _)
@[simp] theorem Device.fire_stamps (d : Device) (n : Nat) : (d.fire n).stamps = d.stamps :=
  Noted.stamps (Device.fire_noted _ _)
@[simp] theorem Device.fire_linkClock (d : Device) (n : Nat) : (d.fire n).linkClock = d.linkClock :=
  Noted.linkClock (Device.fire_noted _ _)
@[simp] theorem Device.fire_leasePhase (d : Device) (n : Nat) : (d.fire n).leasePhase = d.leasePhase :=
  Noted.leasePhase (Device.fire_noted _ _)
@[simp] theorem Device.fire_lastRead (d : Device) (n : Nat) : (d.fire n).lastRead = d.lastRead :=
  Noted.lastRead (Device.fire_noted _ _)
@[simp] theorem Device.fire_freshN (d : Device) (n : Nat) : (d.fire n).freshN = d.freshN :=
  Noted.freshN (Device.fire_noted _ _)
@[simp] theorem Device.fire_core (d : Device) (n : Nat) (c : CoreId) : (d.fire n).core c = d.core c :=
  Noted.core (Device.fire_noted _ _) c

theorem Device.raise_get (d : Device) (n detail : Nat) (data : List Byte) {g : Fld} (q : g.quiet = true) :
    (d.raise n detail data).regs.get g = d.regs.get g := Noted.get (Device.raise_noted _ _ _ _) q
@[simp] theorem Device.raise_mem (d : Device) (n detail : Nat) (data : List Byte) : (d.raise n detail data).mem = d.mem :=
  Noted.mem (Device.raise_noted _ _ _ _)
@[simp] theorem Device.raise_ecc (d : Device) (n detail : Nat) (data : List Byte) : (d.raise n detail data).ecc = d.ecc :=
  Noted.ecc (Device.raise_noted _ _ _ _)
@[simp] theorem Device.raise_c0 (d : Device) (n detail : Nat) (data : List Byte) : (d.raise n detail data).c0 = d.c0 :=
  Noted.c0 (Device.raise_noted _ _ _ _)
@[simp] theorem Device.raise_c1 (d : Device) (n detail : Nat) (data : List Byte) : (d.raise n detail data).c1 = d.c1 :=
  Noted.c1 (Device.raise_noted _ _ _ _)
@[simp] theorem Device.raise_sc (d : Device) (n detail : Nat) (data : List Byte) : (d.raise n detail data).sc = d.sc :=
  Noted.sc (Device.raise_noted _ _ _ _)
@[simp] theorem Device.raise_stream (d : Device) (n detail : Nat) (data : List Byte) : (d.raise n detail data).stream = d.stream :=
  Noted.stream (Device.raise_noted _ _ _ _)
@[simp] theorem Device.raise_clk (d : Device) (n detail : Nat) (data : List Byte) : (d.raise n detail data).clk = d.clk :=
  Noted.clk (Device.raise_noted _ _ _ _)
@[simp] theorem Device.raise_pwr (d : Device) (n detail : Nat) (data : List Byte) : (d.raise n detail data).pwr = d.pwr :=
  Noted.pwr (Device.raise_noted _ _ _ _)
@[simp] theorem Device.raise_stage (d : Device) (n detail : Nat) (data : List Byte) : (d.raise n detail data).stage = d.stage :=
  Noted.stage (Device.raise_noted _ _ _ _)
@[simp] theorem Device.raise_diag (d : Device) (n detail : Nat) (data : List Byte) : (d.raise n detail data).diag = d.diag :=
  Noted.diag (Device.raise_noted _ _ _ _)
@[simp] theorem Device.raise_inp (d : Device) (n detail : Nat) (data : List Byte) : (d.raise n detail data).inp = d.inp :=
  Noted.inp (Device.raise_noted _ _ _ _)
@[simp] theorem Device.raise_guard (d : Device) (n detail : Nat) (data : List Byte) : (d.raise n detail data).guard = d.guard :=
  Noted.guard (Device.raise_noted _ _ _ _)
@[simp] theorem Device.raise_aux (d : Device) (n detail : Nat) (data : List Byte) : (d.raise n detail data).aux = d.aux :=
  Noted.aux (Device.raise_noted _ _ _ _)
@[simp] theorem Device.raise_rsv (d : Device) (n detail : Nat) (data : List Byte) : (d.raise n detail data).rsv = d.rsv :=
  Noted.rsv (Device.raise_noted _ _ _ _)
@[simp] theorem Device.raise_companions (d : Device) (n detail : Nat) (data : List Byte) : (d.raise n detail data).companions = d.companions :=
  Noted.companions (Device.raise_noted _ _ _ _)
@[simp] theorem Device.raise_shl (d : Device) (n detail : Nat) (data : List Byte) : (d.raise n detail data).shl = d.shl :=
  Noted.shl (Device.raise_noted _ _ _ _)
@[simp] theorem Device.raise_trn (d : Device) (n detail : Nat) (data : List Byte) : (d.raise n detail data).trn = d.trn :=
  Noted.trn (Device.raise_noted _ _ _ _)
@[simp] theorem Device.raise_nvs (d : Device) (n detail : Nat) (data : List Byte) : (d.raise n detail data).nvs = d.nvs :=
  Noted.nvs (Device.raise_noted _ _ _ _)
@[simp] theorem Device.raise_hp (d : Device) (n detail : Nat) (data : List Byte) : (d.raise n detail data).hp = d.hp :=
  Noted.hp (Device.raise_noted _ _ _ _)
@[simp] theorem Device.raise_txn (d : Device) (n detail : Nat) (data : List Byte) : (d.raise n detail data).txn = d.txn :=
  Noted.txn (Device.raise_noted _ _ _ _)
@[simp] theorem Device.raise_weirRecord (d : Device) (n detail : Nat) (data : List Byte) : (d.raise n detail data).weirRecord = d.weirRecord :=
  Noted.weirRecord (Device.raise_noted _ _ _ _)
@[simp] theorem Device.raise_weirAge (d : Device) (n detail : Nat) (data : List Byte) : (d.raise n detail data).weirAge = d.weirAge :=
  Noted.weirAge (Device.raise_noted _ _ _ _)
@[simp] theorem Device.raise_semOrder (d : Device) (n detail : Nat) (data : List Byte) : (d.raise n detail data).semOrder = d.semOrder :=
  Noted.semOrder (Device.raise_noted _ _ _ _)
@[simp] theorem Device.raise_semWon (d : Device) (n detail : Nat) (data : List Byte) : (d.raise n detail data).semWon = d.semWon :=
  Noted.semWon (Device.raise_noted _ _ _ _)
@[simp] theorem Device.raise_stamps (d : Device) (n detail : Nat) (data : List Byte) : (d.raise n detail data).stamps = d.stamps :=
  Noted.stamps (Device.raise_noted _ _ _ _)
@[simp] theorem Device.raise_linkClock (d : Device) (n detail : Nat) (data : List Byte) : (d.raise n detail data).linkClock = d.linkClock :=
  Noted.linkClock (Device.raise_noted _ _ _ _)
@[simp] theorem Device.raise_leasePhase (d : Device) (n detail : Nat) (data : List Byte) : (d.raise n detail data).leasePhase = d.leasePhase :=
  Noted.leasePhase (Device.raise_noted _ _ _ _)
@[simp] theorem Device.raise_lastRead (d : Device) (n detail : Nat) (data : List Byte) : (d.raise n detail data).lastRead = d.lastRead :=
  Noted.lastRead (Device.raise_noted _ _ _ _)
@[simp] theorem Device.raise_freshN (d : Device) (n detail : Nat) (data : List Byte) : (d.raise n detail data).freshN = d.freshN :=
  Noted.freshN (Device.raise_noted _ _ _ _)
@[simp] theorem Device.raise_core (d : Device) (n detail : Nat) (data : List Byte) (c : CoreId) : (d.raise n detail data).core c = d.core c :=
  Noted.core (Device.raise_noted _ _ _ _) c

end Sys2Proof.Machine
end

