-- ==== Sys2Proof/Laws/Issue.lean ====
section
/-! SUPPORT. What every Opcia instruction goes through: a ready instruction acts on the device after its fetch, which has
left the cores alone, and retires. -/

namespace Sys2Proof.Machine

theorem Device.clearEcc_core (d : Device) (a : Nat) (c : CoreId) : (d.clearEcc a).core c = d.core c := by
  cases c <;> rfl

theorem Device.eccCorr_core (d : Device) (a bit : Nat) (c : CoreId) : (d.eccCorr a bit).core c = d.core c := by
  unfold Device.eccCorr
  rw [Device.raise_core, Device.clearEcc_core]

/-- A checked read that gives a word leaves the cores alone. -/
theorem Device.readChecked_core (d : Device) (a : Nat) (c : CoreId) (h : (d.readChecked a).1.isNone = false) :
    (d.readChecked a).2.core c = d.core c := by
  unfold Device.readChecked at *
  split at h
  · rfl
  · exact Device.eccCorr_core _ _ _ _
  · cases h

/-- A fetch that meets no cause leaves the cores alone. -/
theorem Device.fetched_core (d : Device) (c e : CoreId) (h : (d.fetchCause c).1 = none) :
    (d.fetched c).core e = d.core e := by
  unfold Device.fetched
  unfold Device.fetchCause at *
  by_cases hs : fixedMap c (regionOf (d.core c).pc.toNat) .fetch = .allow && isSram (d.core c).pc.toNat
  · simp only [hs, if_true] at *
    split at h
    · cases h
    · rename_i hn
      simp only [hn]
      have hn' := Bool.eq_false_of_not_eq_true hn
      generalize d.accessAnswer c (d.core c).pc.toNat .fetch = ans
      cases ans <;> exact Device.readChecked_core _ _ _ hn'
  · simp only [hs] at *
    generalize d.accessAnswer c (d.core c).pc.toNat .fetch = ans
    cases ans <;> rfl

@[simp] theorem Device.fetched_reg (d : Device) (c : CoreId) (r : WReg) (h : (d.fetchCause c).1 = none) :
    (d.fetched c).reg c r = (d.core c).reg r := by
  unfold Device.reg; rw [Device.fetched_core _ _ _ h]

theorem Device.fetched_classCause (d : Device) (c : CoreId) (k : InsnClass) (h : (d.fetchCause c).1 = none) :
    (d.fetched c).classCause c k = d.classCause c k := by
  unfold Device.classCause Device.atPriv Device.cget
  rw [Device.fetched_core _ _ _ h]

/-- A ready instruction acts on the device after its fetch and ends there. -/
theorem Device.issue_ready {d : Device} {c : CoreId} {k : InsnClass} (body : Device → Retire) (h : d.ready c k) :
    d.issue c k false body = (body (d.fetched c)).finish c := by
  obtain ⟨he, hd, hv, hf, hc⟩ := h
  have hk := Device.fetched_classCause d c k hf
  unfold Device.issue
  simp only [he, hd, hv, Bool.not_true, Bool.false_eq_true, if_false]
  unfold Device.fetched at *
  generalize d.fetchCause c = r at *
  obtain ⟨f, e⟩ := r
  cases hf
  dsimp only
  have hk2 : e.classCause c k = none := hk.trans hc
  rw [hk2]

/-- A ready instruction with a reserved field value is undefined (R92). -/
theorem Device.issue_reserved {d : Device} {c : CoreId} {k : InsnClass} (body : Device → Retire) (h : d.ready c k) :
    d.issue c k true body = (d.fetched c).coreFault c .undef := by
  obtain ⟨he, hd, hv, hf, -⟩ := h
  unfold Device.issue Device.fetched
  simp only [he, hd, hv, Bool.not_true, Bool.false_eq_true, if_false]
  generalize d.fetchCause c = r at *
  obtain ⟨f, e⟩ := r
  cases hf
  rfl

/-- An instruction that changes its core alone and goes on. -/
theorem State.retire_ok {s : State} {c : CoreId} {k : InsnClass} {body : Device → Retire} {f : Core → Core}
    (h : s.dev.ready c k)
    (hb : body (s.dev.fetched c) = .ok ((s.dev.fetched c).setCore c (f (s.dev.core c))))
    (hp : (f (s.dev.core c)).pc = (s.dev.core c).pc) :
    s.on (fun d => d.issue c k false body) = .next (s.retire c (s.pc c + 4) f) := by
  unfold State.on State.retire State.pc
  dsimp only
  rw [Device.issue_ready body h, hb]
  simp only [Retire.finish, Device.advance, Device.setPc, Device.core_setCore, Device.setCore_setCore, hp]

/-! ### One result -/

theorem Core.setReg_pc (k : Core) (r : WReg) (v : Word) : (k.setReg r v).pc = k.pc := by
  unfold Core.setReg; split <;> rfl

theorem Core.sticky_pc (k : Core) (b : Bool) : (k.sticky b).pc = k.pc := by
  unfold Core.sticky; split <;> rfl

theorem State.writes_ok {s : State} {c : CoreId} {k : InsnClass} {rd : WReg} {f : Device → Word} {v : Word}
    (h : s.dev.ready c k) (hv : f (s.dev.fetched c) = v) :
    s.on (fun d => d.issue c k false fun d => .ok (d.setReg c rd (f d))) = .next (s.writes c rd v) := by
  refine State.retire_ok h ?_ (Core.setReg_pc _ _ _)
  show Retire.ok _ = _
  rw [Device.setReg, hv, Device.fetched_core _ _ _ h.2.2.2.1]

theorem Device.markSat_setCore (d : Device) (c : CoreId) (k : Core) (b : Bool) : (d.setCore c k).markSat c b = d.setCore c (k.sticky b) := by
  unfold Device.markSat Core.sticky; split
  · simp [Device.cput]
  · rfl

theorem State.writesSat_ok {s : State} {c : CoreId} {k : InsnClass} {rd : WReg} {f : Device → Int} {v : Int}
    (h : s.dev.ready c k) (hv : f (s.dev.fetched c) = v) :
    s.on (fun d => d.issue c k false fun d => .ok ((d.setReg c rd (sat32 (f d))).markSat c (clamps 32 (f d)))) = .next (s.writesSat c rd v) := by
  refine State.retire_ok h ?_ ((Core.sticky_pc _ _).trans (Core.setReg_pc _ _ _))
  show Retire.ok _ = _
  rw [Device.setReg, hv, Device.fetched_core _ _ _ h.2.2.2.1, Device.markSat_setCore]

theorem State.acc_ok {s : State} {c : CoreId} {k : InsnClass} {a : AReg} {f : Device → Int} {v : Int}
    (h : s.dev.ready c k) (hv : f (s.dev.fetched c) = v) :
    s.on (fun d => d.issue c k false fun d => .ok (d.accSat c a (f d))) = .next (s.accumulates c a v) := by
  refine State.retire_ok h ?_ (Core.sticky_pc _ _)
  show Retire.ok _ = _
  rw [Device.accSat, Device.setAcc, hv, Device.fetched_core _ _ _ h.2.2.2.1, Device.markSat_setCore]

theorem State.setsAcc_ok {s : State} {c : CoreId} {k : InsnClass} {a : AReg} {f : Device → Acc} {v : Acc}
    (h : s.dev.ready c k) (hv : f (s.dev.fetched c) = v) :
    s.on (fun d => d.issue c k false fun d => .ok (d.setAcc c a (f d))) = .next (s.setsAcc c a v) := by
  refine State.retire_ok h ?_ rfl
  show Retire.ok _ = _
  rw [Device.setAcc, hv, Device.fetched_core _ _ _ h.2.2.2.1]

end Sys2Proof.Machine
end

