-- ==== Sys2Proof/Laws/WfBase.lean ====
section
/-! SUPPORT. The canonical form of the stores (`Device.wf`): what it says field by field, and the operations on fields,
bytes, cores and companions that keep it. -/

namespace Sys2Proof.Machine

theorem RegMap.setWord_wf {m : RegMap} (a : Nat) (w : Word) (h : RegMap.wf m = true) :
    RegMap.wf (m.setWord a w) = true := Store.wf_set resetWord a w h

theorem RegMap.put_wf {m : RegMap} (f : Fld) (v : Nat) (h : RegMap.wf m = true) :
    RegMap.wf (m.put f v) = true := RegMap.setWord_wf _ _ h

theorem RegMap.puti_wf {m : RegMap} (f : Fld) (v : Int) (h : RegMap.wf m = true) :
    RegMap.wf (m.puti f v) = true := RegMap.put_wf _ _ h

theorem RegMap.filter_wf {m : RegMap} (p : Nat → Bool) (h : RegMap.wf m = true) :
    RegMap.wf (m.filter fun e => p e.1) = true := by
  have := Store.wf_clear resetWord (fun k => !p k) h
  simpa [Store.clear, RegMap.wf] using this

theorem RegMap.nil_wf : RegMap.wf [] = true := rfl

theorem Memory.set_wf {m : List Host.Cell} (a : Nat) (b : Byte) (h : Memory.wf m = true) :
    Memory.wf (Store.set memDefault m a b) = true := Store.wf_set memDefault a b h

theorem Memory.filter_wf {m : List Host.Cell} (p : Nat → Bool) (h : Memory.wf m = true) :
    Memory.wf (m.filter fun e => p e.1) = true := by
  have := Store.wf_clear memDefault (fun k => !p k) h
  simpa [Store.clear, Memory.wf] using this

theorem Memory.nil_wf : Memory.wf [] = true := rfl

/-- The canonical form of a device, store by store. -/
theorem Device.wf_iff {d : Device} : d.wf = true ↔
    RegMap.wf d.regs = true ∧ Memory.wf d.mem = true ∧ RegMap.wf d.c0.st = true ∧ RegMap.wf d.c1.st = true ∧
      RegMap.wf d.sc.st = true ∧ (d.companions.all fun c => RegMap.wf c.regs) = true := by
  simp only [Device.wf, Bool.and_eq_true]
  constructor
  · rintro ⟨⟨⟨⟨⟨a, b⟩, c⟩, e⟩, f⟩, g⟩; exact ⟨a, b, c, e, f, g⟩
  · rintro ⟨a, b, c, e, f, g⟩; exact ⟨⟨⟨⟨⟨a, b⟩, c⟩, e⟩, f⟩, g⟩

theorem Device.wf_regs {d : Device} (h : d.wf = true) : RegMap.wf d.regs = true := (Device.wf_iff.1 h).1
theorem Device.wf_mem {d : Device} (h : d.wf = true) : Memory.wf d.mem = true := (Device.wf_iff.1 h).2.1
theorem Device.wf_c0 {d : Device} (h : d.wf = true) : RegMap.wf d.c0.st = true := (Device.wf_iff.1 h).2.2.1
theorem Device.wf_c1 {d : Device} (h : d.wf = true) : RegMap.wf d.c1.st = true := (Device.wf_iff.1 h).2.2.2.1
theorem Device.wf_sc {d : Device} (h : d.wf = true) : RegMap.wf d.sc.st = true := (Device.wf_iff.1 h).2.2.2.2.1
theorem Device.wf_companions {d : Device} (h : d.wf = true) :
    (d.companions.all fun c => RegMap.wf c.regs) = true := (Device.wf_iff.1 h).2.2.2.2.2

theorem Device.wf_companion {d : Device} (k : Fin 64) (h : d.wf = true) :
    RegMap.wf d.companions[k].regs = true := by
  have := Device.wf_companions h
  rw [Vector.all_eq_true] at this
  exact this k.val k.isLt

/-- A device whose stores are those of another is canonical with it. -/
theorem Device.wf_congr {d e : Device} (h : d.wf = true) (h1 : e.regs = d.regs) (h2 : e.mem = d.mem)
    (h3 : e.c0.st = d.c0.st) (h4 : e.c1.st = d.c1.st) (h5 : e.sc.st = d.sc.st)
    (h6 : e.companions = d.companions) : e.wf = true := by
  unfold Device.wf; rw [h1, h2, h3, h4, h5, h6]; exact h

/-- Changes outside the stores keep the canonical form. -/
theorem Device.wf_mk {d : Device} (h : d.wf = true) {ecc stream evc sed clk pwr stage diag inp guard aux rsv shl trn nvs
    hp txn weirRecord weirAge semOrder semWon stamps linkClock leasePhase lastRead freshN} :
    (Device.mk d.regs d.mem ecc d.c0 d.c1 d.sc stream evc sed clk pwr stage diag inp guard aux rsv d.companions shl trn
      nvs hp txn weirRecord weirAge semOrder semWon stamps linkClock leasePhase lastRead freshN).wf = true := h

/-- A device put together from canonical stores. -/
theorem Device.wf_parts {regs mem ecc c0 c1 sc stream evc sed clk pwr stage diag inp guard aux rsv companions shl trn nvs
    hp txn weirRecord weirAge semOrder semWon stamps linkClock leasePhase lastRead freshN} (h1 : RegMap.wf regs = true) (h2 : Memory.wf mem = true)
    (h3 : RegMap.wf c0.st = true) (h4 : RegMap.wf c1.st = true) (h5 : RegMap.wf sc.st = true)
    (h6 : (companions.all fun c : Companion => RegMap.wf c.regs) = true) :
    (Device.mk regs mem ecc c0 c1 sc stream evc sed clk pwr stage diag inp guard aux rsv companions shl trn
      nvs hp txn weirRecord weirAge semOrder semWon stamps linkClock leasePhase lastRead freshN).wf = true :=
  Device.wf_iff.2 ⟨h1, h2, h3, h4, h5, h6⟩

theorem Device.wf_foldl {α : Type} {g : Device → α → Device} (l : List α) {d : Device}
    (hg : ∀ d x, d.wf = true → (g d x).wf = true) (h : d.wf = true) : (l.foldl g d).wf = true := by
  induction l generalizing d with
  | nil => exact h
  | cons x t ih => exact ih (hg _ _ h)

theorem Device.wf_foldl_snd {α β : Type} {g : β × Device → α → β × Device} (l : List α) {p : β × Device}
    (hg : ∀ p x, p.2.wf = true → (g p x).2.wf = true) (h : p.2.wf = true) : (l.foldl g p).2.wf = true := by
  induction l generalizing p with
  | nil => exact h
  | cons x t ih => exact ih (hg _ _ h)

theorem Device.wf_foldl_fst {α β : Type} {g : Device × β → α → Device × β} (l : List α) {p : Device × β}
    (hg : ∀ p x, p.1.wf = true → (g p x).1.wf = true) (h : p.1.wf = true) : (l.foldl g p).1.wf = true := by
  induction l generalizing p with
  | nil => exact h
  | cons x t ih => exact ih (hg _ _ h)

theorem Device.wf_ite {p : Prop} [Decidable p] {a b : Device} (ha : a.wf = true) (hb : b.wf = true) :
    (if p then a else b).wf = true := by split <;> assumption

theorem Device.wf_ite_snd {p : Prop} [Decidable p] {α : Type} {a b : α × Device} (ha : a.2.wf = true)
    (hb : b.2.wf = true) : (if p then a else b).2.wf = true := by split <;> assumption

theorem Companion.wf_mk {powered key asleep addr faceA nextSeq lastSeq lastOp cache boot regs time pend conv reply trk
    plBad plGood bleed chosen hold syncOff owWant owRun sleepDue cycles toneOn undef out} (h : RegMap.wf regs = true) :
    RegMap.wf (Companion.mk powered key asleep addr faceA nextSeq lastSeq lastOp cache boot regs time pend conv reply trk
      plBad plGood bleed chosen hold syncOff owWant owRun sleepDue cycles toneOn undef out).regs = true := h

theorem Companion.wf_ite {p : Prop} [Decidable p] {a b : Companion} (ha : RegMap.wf a.regs = true)
    (hb : RegMap.wf b.regs = true) : RegMap.wf (if p then a else b).regs = true := by split <;> assumption

theorem Companion.wf_ite_fst {p : Prop} [Decidable p] {α : Type} {a b : Companion × α}
    (ha : RegMap.wf a.1.regs = true) (hb : RegMap.wf b.1.regs = true) :
    RegMap.wf (if p then a else b).1.regs = true := by split <;> assumption

theorem Companion.wf_foldl {α : Type} {g : Companion → α → Companion} (l : List α) {c : Companion}
    (hg : ∀ c x, RegMap.wf c.regs = true → RegMap.wf (g c x).regs = true) (h : RegMap.wf c.regs = true) :
    RegMap.wf (l.foldl g c).regs = true := by
  induction l generalizing c with
  | nil => exact h
  | cons x t ih => exact ih (hg _ _ h)

theorem Device.wf_of_snd {α : Type} {p : α × Device} {x : α} {d : Device} (e : p = (x, d)) (h : p.2.wf = true) :
    d.wf = true := by rw [e] at h; exact h

theorem Device.wf_of_fst {α : Type} {p : Device × α} {x : α} {d : Device} (e : p = (d, x)) (h : p.1.wf = true) :
    d.wf = true := by rw [e] at h; exact h

theorem Device.wf_of_snd2 {α β : Type} {p : α × β × Device} {x : α} {y : β} {d : Device} (e : p = (x, y, d))
    (h : p.2.2.wf = true) : d.wf = true := by rw [e] at h; exact h

theorem Device.put_wf {d : Device} (f : Fld) (v : Nat) (h : d.wf = true) : (d.put f v).wf = true :=
  Device.wf_parts (RegMap.put_wf f v (Device.wf_regs h)) (Device.wf_mem h) (Device.wf_c0 h) (Device.wf_c1 h)
    (Device.wf_sc h) (Device.wf_companions h)

theorem Device.puti_wf {d : Device} (f : Fld) (v : Int) (h : d.wf = true) : (d.puti f v).wf = true :=
  Device.put_wf f _ h

theorem Device.setWord_wf {d : Device} (a : Nat) (w : Word) (h : d.wf = true) : (d.setWord a w).wf = true :=
  Device.wf_parts (RegMap.setWord_wf a w (Device.wf_regs h)) (Device.wf_mem h) (Device.wf_c0 h) (Device.wf_c1 h)
    (Device.wf_sc h) (Device.wf_companions h)

theorem Device.setByte_wf {d : Device} (a : Nat) (b : Byte) (h : d.wf = true) : (d.setByte a b).wf = true :=
  Device.wf_parts (Device.wf_regs h) (Memory.set_wf a b (Device.wf_mem h)) (Device.wf_c0 h) (Device.wf_c1 h)
    (Device.wf_sc h) (Device.wf_companions h)

theorem Device.setBytes_wf {d : Device} (a : Nat) (bs : List Byte) (h : d.wf = true) : (d.setBytes a bs).wf = true := by
  induction bs generalizing d a with
  | nil => exact h
  | cons b t ih => exact ih (a + 1) (Device.setByte_wf a b h)

theorem Device.setCore_wf {d : Device} (c : CoreId) {k : Core} (hk : RegMap.wf k.st = true) (h : d.wf = true) :
    (d.setCore c k).wf = true := by
  cases c
  · exact Device.wf_parts (Device.wf_regs h) (Device.wf_mem h) hk (Device.wf_c1 h) (Device.wf_sc h)
      (Device.wf_companions h)
  · exact Device.wf_parts (Device.wf_regs h) (Device.wf_mem h) (Device.wf_c0 h) hk (Device.wf_sc h)
      (Device.wf_companions h)
  · exact Device.wf_parts (Device.wf_regs h) (Device.wf_mem h) (Device.wf_c0 h) (Device.wf_c1 h) hk
      (Device.wf_companions h)

theorem Device.core_wf {d : Device} (c : CoreId) (h : d.wf = true) : RegMap.wf (d.core c).st = true := by
  cases c
  · exact Device.wf_c0 h
  · exact Device.wf_c1 h
  · exact Device.wf_sc h

theorem Device.onCompanion_wf {d : Device} (k : Fin 64) {f : Companion → Companion} (h : d.wf = true)
    (hf : ∀ c : Companion, RegMap.wf c.regs = true → RegMap.wf (f c).regs = true) : (d.onCompanion k f).wf = true := by
  refine Device.wf_parts (Device.wf_regs h) (Device.wf_mem h) (Device.wf_c0 h) (Device.wf_c1 h) (Device.wf_sc h) ?_
  have hc := Device.wf_companions h
  have hk := hf _ (Device.wf_companion k h)
  rw [Vector.all_eq_true] at hc ⊢
  intro i hi
  rw [Vector.getElem_set]
  split
  · exact hk
  · exact hc i hi

/-- The device in which an instruction ends. -/
def Retire.device : Retire → Device
  | .ok d | .jump d _ | .stop d _ | .gone d => d

theorem Retire.ok_wf {d : Device} (h : d.wf = true) : (Retire.ok d).device.wf = true := h
theorem Retire.jump_wf {d : Device} (pc : Word) (h : d.wf = true) : (Retire.jump d pc).device.wf = true := h
theorem Retire.stop_wf {d : Device} (f : CoreFault) (h : d.wf = true) : (Retire.stop d f).device.wf = true := h
theorem Retire.gone_wf {d : Device} (h : d.wf = true) : (Retire.gone d).device.wf = true := h

/-- What every command does: it answers a next state that differs in the device alone, and a device whose stores are
canonical stays so. -/
def Settles (s : State) (o : Host.Outcome State Fault Refusal) : Prop :=
  ∃ d : Device, o = .next { s with dev := d } ∧ (s.dev.wf = true → d.wf = true)

theorem State.on_settles {s : State} {f : Device → Device} (hf : ∀ d, d.wf = true → (f d).wf = true) :
    Settles s (s.on f) := ⟨f s.dev, rfl, hf s.dev⟩

end Sys2Proof.Machine
end

