-- ==== Sys2Proof/Laws/WfDeviceChain.lean ====
section
/-! SUPPORT. The functions of `Machine/DeviceChain.lean` keep the canonical form of the stores. -/

namespace Sys2Proof.Machine

theorem Companion.fresh_wf {key : BitVec 512}  :
    RegMap.wf (Companion.fresh key).regs = true := by
  unfold Companion.fresh
  repeat' first
    | with_reducible exact RegMap.nil_wf

theorem Companion.dark_wf {key : BitVec 512}  :
    RegMap.wf (Companion.dark key).regs = true := by
  unfold Companion.dark
  repeat' first
    | with_reducible apply Companion.fresh_wf

end Sys2Proof.Machine
end

