-- ==== Sys2Proof/Laws/WfDeviceInit.lean ====
section
/-! SUPPORT. The functions of `Machine/DeviceInit.lean` keep the canonical form of the stores. -/

namespace Sys2Proof.Machine

theorem Core.atReset_wf   :
    RegMap.wf (Core.atReset).st = true := by
  unfold Core.atReset
  repeat' first
    | with_reducible exact RegMap.nil_wf

theorem Device.initial_wf   :
    (Device.initial).wf = true := by
  simp only [Device.wf, Device.initial, Bool.and_eq_true]
  refine ⟨⟨⟨⟨⟨rfl, rfl⟩, rfl⟩, rfl⟩, rfl⟩, ?_⟩
  rw [Vector.all_eq_true]
  intro i hi
  rw [Vector.getElem_ofFn]
  rfl

end Sys2Proof.Machine
end

