-- ==== Sys2Proof/Laws/WfOps.lean ====
section
/-! SUPPORT. The functions of `Machine/Ops.lean` keep the canonical form of the stores. -/

namespace Sys2Proof.Machine

theorem Device.setFlag_wf {d : Device} {f : Fld} {b : Bool} (h0 : d.wf = true) :
    (Device.setFlag d f b).wf = true := by
  unfold Device.setFlag
  repeat' first
    | with_reducible assumption | with_reducible apply Device.put_wf

theorem Device.bump_wf {d : Device} {f : Fld} {n : Nat} (h0 : d.wf = true) :
    (Device.bump d f n).wf = true := by
  unfold Device.bump
  repeat' first
    | with_reducible assumption | with_reducible apply Device.put_wf

theorem Device.bumpWrap_wf {d : Device} {f : Fld} {n : Nat} (h0 : d.wf = true) :
    (Device.bumpWrap d f n).wf = true := by
  unfold Device.bumpWrap
  repeat' first
    | with_reducible assumption | with_reducible apply Device.put_wf

theorem Device.orField_wf {d : Device} {f : Fld} {v : Nat} (h0 : d.wf = true) :
    (Device.orField d f v).wf = true := by
  unfold Device.orField
  repeat' first
    | with_reducible assumption | with_reducible apply Device.put_wf

theorem Device.andNotField_wf {d : Device} {f : Fld} {v : Nat} (h0 : d.wf = true) :
    (Device.andNotField d f v).wf = true := by
  unfold Device.andNotField
  repeat' first
    | with_reducible assumption | with_reducible apply Device.put_wf

theorem Device.logEntry_wf {d : Device} {e : LogEntry} (h0 : d.wf = true) :
    (Device.logEntry d e).wf = true := by
  unfold Device.logEntry
  repeat' first
    | with_reducible assumption | with_reducible apply Device.bump_wf | with_reducible apply Device.orField_wf
    | (fail_if_no_progress with_reducible apply Device.wf_mk) | split

theorem Device.log_wf {d : Device} {source : Nat} {sev : Nat} {detail : Nat} {data : List Byte} (h0 : d.wf = true) :
    (Device.log d source sev detail data).wf = true := by
  unfold Device.log
  repeat' first
    | with_reducible assumption | with_reducible apply Device.logEntry_wf

theorem Device.setSource_wf {d : Device} {n : Fin 128} {e : EvSource} (h0 : d.wf = true) :
    (Device.setSource d n e).wf = true := by
  unfold Device.setSource
  repeat' first
    | with_reducible assumption | (fail_if_no_progress with_reducible apply Device.wf_mk)

theorem Device.countFire_wf {d : Device} {n : Fin 128} {e : EvSource} (h0 : d.wf = true) :
    (Device.countFire d n e).wf = true := by
  unfold Device.countFire
  repeat' first
    | with_reducible assumption | with_reducible apply Device.log_wf | with_reducible apply Device.orField_wf
    | with_reducible apply Device.setSource_wf | with_reducible apply Device.wf_ite

theorem Device.fireNow_wf {d : Device} {n : Fin 128} {sw : Bool} {wake : Bool} (h0 : d.wf = true) :
    (Device.fireNow d n sw wake).wf = true := by
  unfold Device.fireNow
  repeat' first
    | with_reducible assumption | with_reducible apply Device.countFire_wf | with_reducible apply Device.orField_wf
    | with_reducible apply Device.setSource_wf | split | (fail_if_no_progress extract_lets)

theorem Device.fire_wf {d : Device} {n : Nat} (h0 : d.wf = true) :
    (Device.fire d n).wf = true := by
  unfold Device.fire
  repeat' first
    | with_reducible assumption | with_reducible apply Device.fireNow_wf | with_reducible apply Device.orField_wf
    | split

theorem Device.raise_wf {d : Device} {n : Nat} {detail : Nat} {data : List Byte} (h0 : d.wf = true) :
    (Device.raise d n detail data).wf = true := by
  unfold Device.raise
  repeat' first
    | with_reducible assumption | with_reducible apply Device.fire_wf | with_reducible apply Device.log_wf

theorem Device.reject_wf {d : Device} {a : Nat} (h0 : d.wf = true) :
    (Device.reject d a).wf = true := by
  unfold Device.reject
  repeat' first
    | with_reducible assumption | with_reducible apply Device.bump_wf | with_reducible apply Device.fire_wf
    | with_reducible apply Device.log_wf | with_reducible apply Device.put_wf | with_reducible apply Device.wf_ite

theorem Device.addrWarn_wf {d : Device} (h0 : d.wf = true) :
    (Device.addrWarn d).wf = true := by
  unfold Device.addrWarn
  repeat' first
    | with_reducible assumption | with_reducible apply Device.fire_wf

theorem Device.setMemWord_wf {d : Device} {a : Nat} {w : Word} (h0 : d.wf = true) :
    (Device.setMemWord d a w).wf = true := by
  unfold Device.setMemWord
  repeat' first
    | with_reducible assumption | with_reducible apply Device.setBytes_wf

theorem Device.clearEcc_wf {d : Device} {a : Nat} (h0 : d.wf = true) :
    (Device.clearEcc d a).wf = true := by
  unfold Device.clearEcc
  repeat' first
    | with_reducible assumption | (fail_if_no_progress with_reducible apply Device.wf_mk)

theorem Device.storeWord_wf {d : Device} {a : Nat} {w : Word} (h0 : d.wf = true) :
    (Device.storeWord d a w).wf = true := by
  unfold Device.storeWord
  repeat' first
    | with_reducible assumption | with_reducible apply Device.clearEcc_wf | with_reducible apply Device.setMemWord_wf

theorem Device.bufferWrite_wf {d : Device} {a : Nat} {bs : List Byte} (h0 : d.wf = true) :
    (Device.bufferWrite d a bs).wf = true := by
  unfold Device.bufferWrite
  repeat' first
    | with_reducible assumption | with_reducible apply Device.setBytes_wf | with_reducible apply Device.wf_ite
    | (fail_if_no_progress with_reducible apply Device.wf_mk)

theorem Device.setNvsErr_wf {d : Device} {o : Nat} {e : Option (Fin 72)} (h0 : d.wf = true) :
    (Device.setNvsErr d o e).wf = true := by
  unfold Device.setNvsErr
  repeat' first
    | with_reducible assumption | (fail_if_no_progress with_reducible apply Device.wf_mk)

theorem Device.strike_wf {d : Device} {a : Nat} {u : Upset} (h0 : d.wf = true) :
    (Device.strike d a u).wf = true := by
  unfold Device.strike
  repeat' first
    | with_reducible assumption | with_reducible apply Device.clearEcc_wf | with_reducible apply Device.setNvsErr_wf
    | (fail_if_no_progress with_reducible apply Device.wf_mk) | split

end Sys2Proof.Machine
end

