-- ==== Sys2Proof/Laws/WfClockHold.lean ====
section
/-! SUPPORT. The functions of `Machine/ClockHold.lean` keep the canonical form of the stores. -/

namespace Sys2Proof.Machine

theorem Device.setClkMode_wf {d : Device} {m : Nat} (h0 : d.wf = true) :
    (Device.setClkMode d m).wf = true := by
  unfold Device.setClkMode
  repeat' first
    | with_reducible assumption | with_reducible apply Device.put_wf

theorem Device.holdTrim_wf {d : Device} {mode : Nat} {mean : Bool} (h0 : d.wf = true) :
    (Device.holdTrim d mode mean).wf = true := by
  unfold Device.holdTrim
  repeat' first
    | with_reducible assumption | with_reducible apply Device.put_wf | with_reducible apply Device.puti_wf
    | with_reducible apply Device.raise_wf | with_reducible apply Device.setClkMode_wf
    | with_reducible apply Device.setFlag_wf

theorem Device.loseReference_wf {d : Device} (h0 : d.wf = true) :
    (Device.loseReference d).wf = true := by
  unfold Device.loseReference
  repeat' first
    | with_reducible assumption | with_reducible apply Device.holdTrim_wf | with_reducible apply Device.wf_ite

theorem Device.inputLost_wf {d : Device} {g : Fin 3} (h0 : d.wf = true) :
    (Device.inputLost d g).wf = true := by
  unfold Device.inputLost
  repeat' first
    | with_reducible assumption | with_reducible apply Device.loseReference_wf | with_reducible apply Device.wf_ite

end Sys2Proof.Machine
end

