-- ==== Sys2Proof/Laws/WfDiagRunOps.lean ====
section
/-! SUPPORT. The functions of `Machine/DiagRunOps.lean` keep the canonical form of the stores. -/

namespace Sys2Proof.Machine

theorem Device.diagWriteResult_wf {d : Device} {n : Nat} {r : DiagResult} (h0 : d.wf = true) :
    (Device.diagWriteResult d n r).wf = true := by
  unfold Device.diagWriteResult
  repeat' first
    | with_reducible assumption | with_reducible apply Device.put_wf | with_reducible apply Device.setFlag_wf | split

theorem Device.diagHolds_wf {d : Device} {r : DiagRun} (h0 : d.wf = true) :
    (Device.diagHolds d r).wf = true := by
  unfold Device.diagHolds
  repeat' first
    | intro _ | with_reducible assumption | with_reducible apply Device.andNotField_wf
    | with_reducible apply Device.orField_wf | with_reducible apply Device.wf_ite
    | with_reducible apply Device.wf_foldl

theorem Device.diagEnd_wf {d : Device} {r : DiagRun} {aborted : Bool} (h0 : d.wf = true) :
    (Device.diagEnd d r aborted).wf = true := by
  unfold Device.diagEnd
  repeat' first
    | intro _ | with_reducible assumption | with_reducible apply Device.diagHolds_wf
    | with_reducible apply Device.diagWriteResult_wf | with_reducible apply Device.fire_wf
    | with_reducible apply Device.log_wf | with_reducible apply Device.orField_wf
    | with_reducible apply Device.put_wf | with_reducible apply Device.raise_wf
    | with_reducible apply Device.setFlag_wf | with_reducible apply Device.wf_ite
    | with_reducible apply Device.wf_foldl | (fail_if_no_progress with_reducible apply Device.wf_mk)

theorem Device.diagAbort_wf {d : Device} (h0 : d.wf = true) :
    (Device.diagAbort d).wf = true := by
  unfold Device.diagAbort
  repeat' first
    | with_reducible assumption | with_reducible apply Device.diagEnd_wf | split

theorem Device.diagStop_wf {d : Device} (h0 : d.wf = true) :
    (Device.diagStop d).wf = true := by
  unfold Device.diagStop
  repeat' first
    | with_reducible assumption | with_reducible apply Device.diagEnd_wf
    | (fail_if_no_progress with_reducible apply Device.wf_mk) | split

end Sys2Proof.Machine
end

