-- ==== Sys2Proof/Laws/WfSafeOps.lean ====
section
/-! SUPPORT. The functions of `Machine/SafeOps.lean` keep the canonical form of the stores. -/

namespace Sys2Proof.Machine

theorem Device.openMain_wf {d : Device} (h0 : d.wf = true) :
    (Device.openMain d).wf = true := by
  unfold Device.openMain
  repeat' first
    | with_reducible assumption | with_reducible apply Device.put_wf
    | (fail_if_no_progress with_reducible apply Device.wf_mk)

theorem Device.setDrive_wf {d : Device} {m : Drive} (h0 : d.wf = true) :
    (Device.setDrive d m).wf = true := by
  unfold Device.setDrive
  repeat' first
    | with_reducible assumption | (fail_if_no_progress with_reducible apply Device.wf_mk)

theorem Device.releaseForces_wf {d : Device} (h0 : d.wf = true) :
    (Device.releaseForces d).wf = true := by
  unfold Device.releaseForces
  repeat' first
    | with_reducible assumption | (fail_if_no_progress with_reducible apply Device.wf_mk)

theorem Device.forceOff_wf {d : Device} {sel : Nat → Bool} (h0 : d.wf = true) :
    (Device.forceOff d sel).wf = true := by
  unfold Device.forceOff
  repeat' first
    | with_reducible assumption | (fail_if_no_progress with_reducible apply Device.wf_mk)

theorem Device.finishRequest_wf {d : Device} {result : Nat} {reason : Nat} (h0 : d.wf = true) :
    (Device.finishRequest d result reason).wf = true := by
  unfold Device.finishRequest
  repeat' first
    | with_reducible assumption | with_reducible apply Device.put_wf | with_reducible apply Device.wf_ite

theorem Device.endClose_wf {d : Device} (h0 : d.wf = true) :
    (Device.endClose d).wf = true := by
  unfold Device.endClose
  repeat' first
    | with_reducible assumption | with_reducible apply Device.put_wf | with_reducible apply Device.wf_ite
    | (fail_if_no_progress with_reducible apply Device.wf_mk)

theorem Device.abandon_wf {d : Device} {reason : Nat} (h0 : d.wf = true) :
    (Device.abandon d reason).wf = true := by
  unfold Device.abandon
  repeat' first
    | with_reducible assumption | with_reducible apply Device.finishRequest_wf | with_reducible apply Device.wf_ite
    | (fail_if_no_progress with_reducible apply Device.wf_mk)

theorem Device.enterSafe_wf {d : Device} {reason : Nat} (h0 : d.wf = true) :
    (Device.enterSafe d reason).wf = true := by
  unfold Device.enterSafe
  repeat' first
    | with_reducible assumption | with_reducible apply Device.abandon_wf | with_reducible apply Device.log_wf
    | with_reducible apply Device.put_wf | with_reducible apply Device.setDrive_wf
    | with_reducible apply Device.setFlag_wf | (fail_if_no_progress with_reducible apply Device.wf_mk)

theorem Device.faultOpensMain_wf {d : Device} {bit : Nat} (h0 : d.wf = true) :
    (Device.faultOpensMain d bit).wf = true := by
  unfold Device.faultOpensMain
  repeat' first
    | with_reducible assumption | with_reducible apply Device.finishRequest_wf
    | with_reducible apply Device.openMain_wf | with_reducible apply Device.wf_ite

theorem Device.latchFault_wf {d : Device} {bit : Nat} {entry : Device → Device} (h0 : d.wf = true) (h1 : ∀ x0, x0.wf = true → (entry x0).wf = true) :
    (Device.latchFault d bit entry).wf = true := by
  unfold Device.latchFault
  repeat' first
    | with_reducible assumption | with_reducible apply h1 | with_reducible apply Device.abandon_wf
    | with_reducible apply Device.diagAbort_wf | with_reducible apply Device.endClose_wf
    | with_reducible apply Device.enterSafe_wf | with_reducible apply Device.faultOpensMain_wf
    | with_reducible apply Device.put_wf | with_reducible apply Device.setDrive_wf
    | with_reducible apply Device.setWord_wf | with_reducible apply Device.wf_ite

theorem Device.powerFault_wf {d : Device} {bit : Nat} {data : List Byte} (h0 : d.wf = true) :
    (Device.powerFault d bit data).wf = true := by
  unfold Device.powerFault
  repeat' first
    | intro _ | with_reducible assumption | with_reducible apply Device.latchFault_wf
    | with_reducible apply Device.log_wf | with_reducible apply Device.wf_ite

theorem Device.reachReady_wf {d : Device} (h0 : d.wf = true) :
    (Device.reachReady d).wf = true := by
  unfold Device.reachReady
  repeat' first
    | with_reducible assumption | with_reducible apply Device.enterSafe_wf | with_reducible apply Device.put_wf
    | with_reducible apply Device.setDrive_wf | with_reducible apply Device.wf_ite
    | (fail_if_no_progress with_reducible apply Device.wf_mk)

theorem Device.systemFault_wf {d : Device} {bit : Nat} (h0 : d.wf = true) :
    (Device.systemFault d bit).wf = true := by
  unfold Device.systemFault
  repeat' first
    | intro _ | with_reducible assumption | with_reducible apply Device.latchFault_wf
    | with_reducible apply Device.log_wf | with_reducible apply Device.setWord_wf
    | with_reducible apply Device.wf_ite

theorem Device.eccUncorr_wf {d : Device} {a : Nat} (h0 : d.wf = true) :
    (Device.eccUncorr d a).wf = true := by
  unfold Device.eccUncorr
  repeat' first
    | with_reducible assumption | with_reducible apply Device.raise_wf | with_reducible apply Device.systemFault_wf
    | with_reducible apply Device.wf_ite | (fail_if_no_progress with_reducible apply Device.wf_mk)

theorem Device.eccCorr_wf {d : Device} {a : Nat} {bit : Nat} (h0 : d.wf = true) :
    (Device.eccCorr d a bit).wf = true := by
  unfold Device.eccCorr
  repeat' first
    | with_reducible assumption | with_reducible apply Device.clearEcc_wf | with_reducible apply Device.raise_wf

theorem Device.readChecked_wf {d : Device} {a : Nat} (h0 : d.wf = true) :
    (Device.readChecked d a).2.wf = true := by
  unfold Device.readChecked
  repeat' first
    | with_reducible assumption | with_reducible apply Device.eccCorr_wf | with_reducible apply Device.eccUncorr_wf
    | split

theorem Device.readRun_wf {d : Device} {a : Nat} {a0 : Nat} (h0 : d.wf = true) :
    (Device.readRun d a a0).2.2.wf = true := by
  induction a0 generalizing d a with
  | zero => exact h0
  | succ n ih =>
    have h := Device.readChecked_wf (a := a) h0
    simp only [Device.readRun]
    generalize d.readChecked a = r at h
    obtain ⟨_ | w, e⟩ := r
    · exact ih h
    · exact ih h

theorem Device.readBuffer_wf {d : Device} {a : Nat} {n : Nat} (h0 : d.wf = true) :
    (Device.readBuffer d a n).2.2.wf = true := by
  unfold Device.readBuffer
  repeat' first
    | with_reducible assumption | with_reducible apply Device.readRun_wf

theorem Device.semBreak_wf {d : Device} {n : Nat} {breaker : Nat} (h0 : d.wf = true) :
    (Device.semBreak d n breaker).wf = true := by
  unfold Device.semBreak
  repeat' first
    | with_reducible assumption | with_reducible apply Device.bump_wf | with_reducible apply Device.log_wf
    | with_reducible apply Device.put_wf | (fail_if_no_progress with_reducible apply Device.wf_mk) | split

theorem Device.semBreakAll_wf {d : Device} {c : CoreId} (h0 : d.wf = true) :
    (Device.semBreakAll d c).wf = true := by
  unfold Device.semBreakAll
  repeat' first
    | intro _ | with_reducible assumption | with_reducible apply Device.semBreak_wf
    | with_reducible apply Device.wf_ite | with_reducible apply Device.wf_foldl

theorem Device.returnEvents_wf {d : Device} {c : CoreId} (h0 : d.wf = true) :
    (Device.returnEvents d c).wf = true := by
  unfold Device.returnEvents
  repeat' first
    | intro _ | with_reducible assumption | with_reducible apply Device.log_wf
    | with_reducible apply Device.setSource_wf | with_reducible apply Device.wf_ite
    | with_reducible apply Device.wf_foldl

theorem Device.taskReady_wf {d : Device} {t : Nat} (h0 : d.wf = true) :
    (Device.taskReady d t).wf = true := by
  unfold Device.taskReady
  repeat' first
    | with_reducible assumption | with_reducible apply Device.put_wf | with_reducible apply Device.setFlag_wf
    | (fail_if_no_progress with_reducible apply Device.wf_mk)

theorem Device.taskIdle_wf {d : Device} {t : Nat} (h0 : d.wf = true) :
    (Device.taskIdle d t).wf = true := by
  unfold Device.taskIdle
  repeat' first
    | with_reducible assumption | with_reducible apply Device.put_wf | with_reducible apply Device.setFlag_wf
    | (fail_if_no_progress with_reducible apply Device.wf_mk)

theorem Device.abandonTask_wf {d : Device} {c : CoreId} (h0 : d.wf = true) :
    (Device.abandonTask d c).wf = true := by
  unfold Device.abandonTask
  repeat' first
    | with_reducible assumption | with_reducible apply Device.fire_wf | with_reducible apply Device.log_wf
    | with_reducible apply Device.orField_wf | with_reducible apply Device.setFlag_wf
    | with_reducible apply Device.taskIdle_wf | with_reducible apply Device.taskReady_wf
    | with_reducible apply Device.wf_ite

end Sys2Proof.Machine
end

