-- ==== Sys2Proof/Laws/WfCoreOps.lean ====
section
/-! SUPPORT. The functions of `Machine/CoreOps.lean` keep the canonical form of the stores. -/

namespace Sys2Proof.Machine

theorem Device.cput_wf {d : Device} {c : CoreId} {f : Fld} {v : Nat} (h0 : d.wf = true) :
    (Device.cput d c f v).wf = true := by
  unfold Device.cput
  repeat' first
    | with_reducible assumption | with_reducible apply Device.core_wf | with_reducible apply RegMap.put_wf
    | with_reducible apply Device.setCore_wf

theorem Device.setPc_wf {d : Device} {c : CoreId} {a : Word} (h0 : d.wf = true) :
    (Device.setPc d c a).wf = true := by
  unfold Device.setPc
  repeat' first
    | with_reducible assumption | with_reducible apply Device.core_wf | with_reducible apply Device.setCore_wf

theorem Device.advance_wf {d : Device} {c : CoreId} (h0 : d.wf = true) :
    (Device.advance d c).wf = true := by
  unfold Device.advance
  repeat' first
    | with_reducible assumption | with_reducible apply Device.setPc_wf

theorem Device.setRun_wf {d : Device} {c : CoreId} {r : CoreRun} (h0 : d.wf = true) :
    (Device.setRun d c r).wf = true := by
  unfold Device.setRun
  repeat' first
    | with_reducible assumption | with_reducible apply Device.core_wf | with_reducible apply Device.setCore_wf

theorem Device.recordException_wf {d : Device} {c : CoreId} {code : Nat} {store : Bool} {eval : Word} {epc : Word} (h0 : d.wf = true) :
    (Device.recordException d c code store eval epc).wf = true := by
  unfold Device.recordException
  repeat' first
    | with_reducible assumption | with_reducible apply Device.cput_wf

theorem Device.haltCore_wf {d : Device} {c : CoreId} (h0 : d.wf = true) :
    (Device.haltCore d c).wf = true := by
  unfold Device.haltCore
  repeat' first
    | with_reducible assumption | with_reducible apply Device.abandonTask_wf
    | with_reducible apply Device.powerFault_wf | with_reducible apply Device.returnEvents_wf
    | with_reducible apply Device.semBreakAll_wf | with_reducible apply Device.setRun_wf

theorem Device.takeException_wf {d : Device} {c : CoreId} {code : Nat} {store : Bool} {eval : Word} {epc : Word} (h0 : d.wf = true) :
    (Device.takeException d c code store eval epc).wf = true := by
  unfold Device.takeException
  repeat' first
    | with_reducible assumption | with_reducible apply Device.cput_wf | with_reducible apply Device.haltCore_wf
    | with_reducible apply Device.recordException_wf | with_reducible apply Device.setPc_wf
    | with_reducible apply Device.wf_ite

theorem Device.returnException_wf {d : Device} {c : CoreId} (h0 : d.wf = true) :
    (Device.returnException d c).wf = true := by
  unfold Device.returnException
  repeat' first
    | with_reducible assumption | with_reducible apply Device.cput_wf | with_reducible apply Device.setPc_wf

theorem Device.streamFault_wf {d : Device} {code : Nat} {pc : Word} {addr : Word} (h0 : d.wf = true) :
    (Device.streamFault d code pc addr).wf = true := by
  unfold Device.streamFault
  repeat' first
    | with_reducible assumption | with_reducible apply Device.cput_wf | with_reducible apply Device.raise_wf
    | with_reducible apply Device.semBreakAll_wf | (fail_if_no_progress with_reducible apply Device.wf_mk)

theorem Device.streamOverrun_wf {d : Device} (h0 : d.wf = true) :
    (Device.streamOverrun d).wf = true := by
  unfold Device.streamOverrun
  repeat' first
    | with_reducible assumption | with_reducible apply Device.cput_wf | with_reducible apply Device.raise_wf
    | with_reducible apply Device.streamFault_wf | with_reducible apply Device.wf_ite
    | (fail_if_no_progress with_reducible apply Device.wf_mk)

theorem Device.coreFault_wf {d : Device} {c : CoreId} {f : CoreFault} (h0 : d.wf = true) :
    (Device.coreFault d c f).wf = true := by
  unfold Device.coreFault
  repeat' first
    | with_reducible assumption | with_reducible apply Device.streamFault_wf
    | with_reducible apply Device.takeException_wf | split

theorem Device.takeEvent_wf {d : Device} {c : CoreId} (h0 : d.wf = true) :
    (Device.takeEvent d c).wf = true := by
  unfold Device.takeEvent
  repeat' first
    | with_reducible assumption | with_reducible apply Device.setRun_wf
    | with_reducible apply Device.takeException_wf

theorem Core.setReg_wf {k : Core} {r : WReg} {v : Word} (h0 : RegMap.wf k.st = true) :
    RegMap.wf (Core.setReg k r v).st = true := by
  unfold Core.setReg
  repeat' first
    | with_reducible assumption | split

theorem Device.setReg_wf {d : Device} {c : CoreId} {r : WReg} {v : Word} (h0 : d.wf = true) :
    (Device.setReg d c r v).wf = true := by
  unfold Device.setReg
  repeat' first
    | with_reducible assumption | with_reducible apply Device.core_wf | with_reducible apply Device.setCore_wf
    | with_reducible apply Core.setReg_wf

theorem Device.setAcc_wf {d : Device} {c : CoreId} {a : AReg} {v : Acc} (h0 : d.wf = true) :
    (Device.setAcc d c a v).wf = true := by
  unfold Device.setAcc
  repeat' first
    | with_reducible assumption | with_reducible apply Device.core_wf | with_reducible apply Device.setCore_wf

theorem Device.setQ_wf {d : Device} {c : CoreId} {q : QReg} {v : QWord} (h0 : d.wf = true) :
    (Device.setQ d c q v).wf = true := by
  unfold Device.setQ
  repeat' first
    | with_reducible assumption | with_reducible apply Device.core_wf | with_reducible apply Device.setCore_wf

theorem Device.markSat_wf {d : Device} {c : CoreId} {sat : Bool} (h0 : d.wf = true) :
    (Device.markSat d c sat).wf = true := by
  unfold Device.markSat
  repeat' first
    | with_reducible assumption | with_reducible apply Device.cput_wf | with_reducible apply Device.wf_ite

end Sys2Proof.Machine
end

