-- ==== Sys2Proof/Laws/WfInputOps.lean ====
section
/-! SUPPORT. The functions of `Machine/InputOps.lean` keep the canonical form of the stores. -/

namespace Sys2Proof.Machine

theorem Device.setGroup_wf {d : Device} {g : Fin 3} {x : InGroup} (h0 : d.wf = true) :
    (Device.setGroup d g x).wf = true := by
  unfold Device.setGroup
  repeat' first
    | with_reducible assumption | (fail_if_no_progress with_reducible apply Device.wf_mk)

theorem Device.mark_wf {d : Device} {g : Fin 3} {m : FlowMark} (h0 : d.wf = true) :
    (Device.mark d g m).wf = true := by
  unfold Device.mark
  repeat' first
    | with_reducible assumption | with_reducible apply Device.setGroup_wf

theorem Device.frameEnds_wf {d : Device} {p : Fin 2} {g : Fin 3} {bs : List Bool} (h0 : d.wf = true) :
    (Device.frameEnds d p g bs).wf = true := by
  unfold Device.frameEnds
  repeat' first
    | with_reducible assumption | with_reducible apply Device.setGroup_wf | with_reducible apply Device.wf_ite

theorem Device.bclkEdge_wf {d : Device} {p : Fin 2} {g : Fin 3} {fs : Bool} {sd : Bool} (h0 : d.wf = true) :
    (Device.bclkEdge d p g fs sd).wf = true := by
  unfold Device.bclkEdge
  repeat' first
    | with_reducible assumption | with_reducible apply Device.frameEnds_wf | with_reducible apply Device.setGroup_wf
    | with_reducible apply Device.wf_ite | split

theorem Device.i2sFrame_wf {d : Device} {p : Fin 2} {rise : List (Bool × Bool)} {fall : List (Bool × Bool)} (h0 : d.wf = true) :
    (Device.i2sFrame d p rise fall).wf = true := by
  unfold Device.i2sFrame
  repeat' first
    | intro _ | with_reducible assumption | with_reducible apply Device.bclkEdge_wf
    | with_reducible apply Device.wf_ite | with_reducible apply Device.wf_foldl

theorem Device.iecMute_wf {d : Device} (h0 : d.wf = true) :
    (Device.iecMute d).wf = true := by
  unfold Device.iecMute
  repeat' first
    | with_reducible assumption | with_reducible apply Device.mark_wf | with_reducible apply Device.wf_ite
    | (fail_if_no_progress with_reducible apply Device.wf_mk)

theorem Device.mutePasses_wf {d : Device} {n : Nat} (h0 : d.wf = true) :
    (Device.mutePasses d n).wf = true := by
  unfold Device.mutePasses
  repeat' first
    | with_reducible assumption | with_reducible apply Device.setFlag_wf
    | (fail_if_no_progress with_reducible apply Device.wf_mk) | split

theorem Device.iecStart_wf {d : Device} (h0 : d.wf = true) :
    (Device.iecStart d).wf = true := by
  unfold Device.iecStart
  repeat' first
    | with_reducible assumption | with_reducible apply Device.iecMute_wf | with_reducible apply Device.setFlag_wf

theorem Device.lockGroup_wf {d : Device} {g : Fin 3} {code : Nat} (h0 : d.wf = true) :
    (Device.lockGroup d g code).wf = true := by
  unfold Device.lockGroup
  repeat' first
    | intro _ | with_reducible assumption | with_reducible apply Device.fire_wf
    | with_reducible apply Device.iecStart_wf | with_reducible apply Device.log_wf
    | with_reducible apply Device.mark_wf | with_reducible apply Device.orField_wf
    | with_reducible apply Device.put_wf | with_reducible apply Device.setGroup_wf
    | with_reducible apply Device.wf_ite | with_reducible apply Device.wf_foldl
    | (fail_if_no_progress with_reducible apply Device.wf_mk)

theorem Device.unlockGroup_wf {d : Device} {g : Fin 3} {why : Nat} (h0 : d.wf = true) :
    (Device.unlockGroup d g why).wf = true := by
  unfold Device.unlockGroup
  repeat' first
    | with_reducible assumption | with_reducible apply Device.andNotField_wf
    | with_reducible apply Device.inputLost_wf | with_reducible apply Device.mark_wf
    | with_reducible apply Device.orField_wf | with_reducible apply Device.put_wf
    | with_reducible apply Device.raise_wf | with_reducible apply Device.setGroup_wf
    | with_reducible apply Device.wf_ite | (fail_if_no_progress with_reducible apply Device.wf_mk)

theorem Device.groupChanged_wf {d : Device} {g : Fin 3} (h0 : d.wf = true) :
    (Device.groupChanged d g).wf = true := by
  unfold Device.groupChanged
  repeat' first
    | with_reducible assumption | with_reducible apply Device.setGroup_wf
    | with_reducible apply Device.unlockGroup_wf

theorem Device.unlockAll_wf {d : Device} (h0 : d.wf = true) :
    (Device.unlockAll d).wf = true := by
  unfold Device.unlockAll
  repeat' first
    | with_reducible assumption | with_reducible apply Device.groupChanged_wf | with_reducible apply Device.wf_foldl

theorem Device.slipGroup_wf {d : Device} {g : Fin 3} (h0 : d.wf = true) :
    (Device.slipGroup d g).wf = true := by
  unfold Device.slipGroup
  repeat' first
    | with_reducible assumption | with_reducible apply Device.andNotField_wf | with_reducible apply Device.bump_wf
    | with_reducible apply Device.log_wf | with_reducible apply Device.mark_wf
    | with_reducible apply Device.orField_wf | with_reducible apply Device.setGroup_wf
    | with_reducible apply Device.wf_ite

theorem Device.settleGroup_wf {d : Device} {g : Fin 3} (h0 : d.wf = true) :
    (Device.settleGroup d g).wf = true := by
  unfold Device.settleGroup
  repeat' first
    | with_reducible assumption | with_reducible apply Device.fire_wf | with_reducible apply Device.orField_wf
    | with_reducible apply Device.setGroup_wf

theorem Device.iecSubframe_wf {d : Device} {ch : Fin 2} {word : BitVec 24} {parityOk : Bool} {codeOk : Bool} {valid : Bool} {cs : Bool} {z : Bool} (h0 : d.wf = true) :
    (Device.iecSubframe d ch word parityOk codeOk valid cs z).wf = true := by
  unfold Device.iecSubframe
  repeat' first
    | with_reducible assumption | with_reducible apply Device.bump_wf | with_reducible apply Device.iecMute_wf
    | with_reducible apply Device.setFlag_wf | with_reducible apply Device.setGroup_wf
    | with_reducible apply Device.wf_ite | (fail_if_no_progress with_reducible apply Device.wf_mk)

theorem Device.csCapture_wf {d : Device} (h0 : d.wf = true) :
    (Device.csCapture d).wf = true := by
  unfold Device.csCapture
  repeat' first
    | intro _ | with_reducible assumption | with_reducible apply Device.iecMute_wf
    | with_reducible apply Device.put_wf | with_reducible apply Device.setFlag_wf
    | with_reducible apply Device.wf_ite | with_reducible apply Device.wf_foldl | split

theorem Device.iecUnmute_wf {d : Device} (h0 : d.wf = true) :
    (Device.iecUnmute d).wf = true := by
  unfold Device.iecUnmute
  repeat' first
    | with_reducible assumption | with_reducible apply Device.mark_wf | with_reducible apply Device.setFlag_wf
    | with_reducible apply Device.wf_ite

theorem Device.ircLoad_wf {d : Device} (h0 : d.wf = true) :
    (Device.ircLoad d).wf = true := by
  unfold Device.ircLoad
  repeat' first
    | with_reducible assumption | with_reducible apply Device.log_wf | with_reducible apply Device.setFlag_wf
    | with_reducible apply Device.wf_ite | (fail_if_no_progress with_reducible apply Device.wf_mk)

theorem Device.writeLane_wf {d : Device} {base : Nat} {i : Nat} {ws : List Word} (h0 : d.wf = true) :
    (Device.writeLane d base i ws).wf = true := by
  unfold Device.writeLane
  repeat' first
    | intro _ | with_reducible assumption | with_reducible apply Device.storeWord_wf
    | with_reducible apply Device.wf_foldl

theorem Device.gatherLanes_wf {d : Device} {swap : Bool} {irc : Vector (Vector Word 16) 32} {tarn : Fin 32 → List Word} (h0 : d.wf = true) :
    (Device.gatherLanes d swap irc tarn).wf = true := by
  unfold Device.gatherLanes
  repeat' first
    | intro _ | with_reducible assumption | with_reducible apply Device.setGroup_wf
    | with_reducible apply Device.writeLane_wf | with_reducible apply Device.wf_ite
    | with_reducible apply Device.wf_foldl | (fail_if_no_progress with_reducible apply Device.wf_mk)

theorem Device.senseBoundary_wf {d : Device} (h0 : d.wf = true) :
    (Device.senseBoundary d).wf = true := by
  unfold Device.senseBoundary
  repeat' first
    | with_reducible assumption | with_reducible apply Device.put_wf | with_reducible apply Device.setFlag_wf
    | with_reducible apply Device.wf_ite | (fail_if_no_progress with_reducible apply Device.wf_mk)

theorem Device.laneSettled_wf {d : Device} {n : Fin 10} {j : Fin 7} (h0 : d.wf = true) :
    (Device.laneSettled d n j).wf = true := by
  unfold Device.laneSettled
  repeat' first
    | with_reducible assumption | with_reducible apply Device.orField_wf | with_reducible apply Device.wf_ite
    | (fail_if_no_progress with_reducible apply Device.wf_mk)

theorem Device.senseFeeds_wf {d : Device} {t : Nat} (h0 : d.wf = true) :
    (Device.senseFeeds d t).wf = true := by
  unfold Device.senseFeeds
  repeat' first
    | with_reducible assumption | with_reducible apply Device.wf_ite
    | (fail_if_no_progress with_reducible apply Device.wf_mk)

theorem Device.inputsReach_wf {d : Device} {t : RingTime} (h0 : d.wf = true) :
    (Device.inputsReach d t).wf = true := by
  unfold Device.inputsReach
  repeat' first
    | with_reducible assumption | with_reducible apply Device.mutePasses_wf
    | with_reducible apply Device.senseFeeds_wf

theorem Device.laneRestart_wf {d : Device} {n : Fin 10} {j : Fin 7} (h0 : d.wf = true) :
    (Device.laneRestart d n j).wf = true := by
  unfold Device.laneRestart
  repeat' first
    | with_reducible assumption | with_reducible apply Device.andNotField_wf | with_reducible apply Device.setFlag_wf
    | (fail_if_no_progress with_reducible apply Device.wf_mk)

theorem Device.settleAll_wf {d : Device} (h0 : d.wf = true) :
    (Device.settleAll d).wf = true := by
  unfold Device.settleAll
  repeat' first
    | with_reducible assumption | with_reducible apply Device.fire_wf | with_reducible apply Device.setFlag_wf
    | with_reducible apply Device.wf_ite

theorem Device.gatherSense_wf {d : Device} {swap : Bool} {sense : Vector (Vector Word 16) 10} (h0 : d.wf = true) :
    (Device.gatherSense d swap sense).wf = true := by
  unfold Device.gatherSense
  repeat' first
    | intro _ | with_reducible assumption | with_reducible apply Device.writeLane_wf
    | with_reducible apply Device.wf_ite | with_reducible apply Device.wf_foldl

theorem Device.senseNext_wf {d : Device} (h0 : d.wf = true) :
    (Device.senseNext d).wf = true := by
  unfold Device.senseNext
  repeat' first
    | with_reducible assumption | (fail_if_no_progress with_reducible apply Device.wf_mk)

theorem Device.countSat_wf {d : Device} {n : Nat} {j : Nat} {k : Nat} (h0 : d.wf = true) :
    (Device.countSat d n j k).wf = true := by
  unfold Device.countSat
  repeat' first
    | with_reducible assumption | with_reducible apply Device.bump_wf | with_reducible apply Device.orField_wf
    | with_reducible apply Device.wf_ite

theorem Device.saturations_wf {d : Device} {early : List (Fin 10 × Fin 6 × Word)} {last : Vector (Vector Word 16) 10} (h0 : d.wf = true) :
    (Device.saturations d early last).wf = true := by
  unfold Device.saturations
  repeat' first
    | intro _ | with_reducible assumption | with_reducible apply Device.countSat_wf
    | with_reducible apply Device.fire_wf | with_reducible apply Device.setFlag_wf
    | with_reducible apply Device.wf_ite | with_reducible apply Device.wf_foldl

theorem Device.ircGroup_wf {d : Device} {g : Fin 3} {rel : Int} {small : Bool} (h0 : d.wf = true) :
    (Device.ircGroup d g rel small).wf = true := by
  unfold Device.ircGroup
  repeat' first
    | with_reducible assumption | with_reducible apply Device.fire_wf | with_reducible apply Device.log_wf
    | with_reducible apply Device.puti_wf | with_reducible apply Device.setGroup_wf
    | with_reducible apply Device.unlockGroup_wf | with_reducible apply Device.wf_ite

theorem Device.ircBoundary_wf {d : Device} {rel : Vector Int 3} {small : Vector Bool 3} (h0 : d.wf = true) :
    (Device.ircBoundary d rel small).wf = true := by
  unfold Device.ircBoundary
  repeat' first
    | intro _ | with_reducible assumption | with_reducible apply Device.ircGroup_wf
    | with_reducible apply Device.wf_foldl

theorem Device.lockMasters_wf {d : Device} (h0 : d.wf = true) :
    (Device.lockMasters d).wf = true := by
  unfold Device.lockMasters
  repeat' first
    | intro _ | with_reducible assumption | with_reducible apply Device.lockGroup_wf
    | with_reducible apply Device.wf_ite | with_reducible apply Device.wf_foldl

theorem Device.keepSense_wf {d : Device} {sense : Vector (Vector Word 16) 10} (h0 : d.wf = true) :
    (Device.keepSense d sense).wf = true := by
  unfold Device.keepSense
  repeat' first
    | with_reducible assumption | with_reducible apply Device.wf_ite
    | (fail_if_no_progress with_reducible apply Device.wf_mk)

end Sys2Proof.Machine
end

