-- ==== Sys2Proof/Laws/WfModOps.lean ====
section
/-! SUPPORT. The functions of `Machine/ModOps.lean` keep the canonical form of the stores. -/

namespace Sys2Proof.Machine

theorem Device.shadowNow_wf {d : Device} (h0 : d.wf = true) :
    RegMap.wf (Device.shadowNow d) = true := by
  unfold Device.shadowNow
  repeat' first
    | with_reducible assumption | with_reducible apply RegMap.filter_wf | with_reducible apply Device.wf_regs

theorem Device.shadowLoad_wf {d : Device} (h0 : d.wf = true) :
    (Device.shadowLoad d).wf = true := by
  unfold Device.shadowLoad
  repeat' first
    | with_reducible assumption | with_reducible apply Device.wf_ite
    | (fail_if_no_progress with_reducible apply Device.wf_mk)

theorem Device.railFactor_wf {d : Device} (h0 : d.wf = true) :
    (Device.railFactor d).2.wf = true := by
  unfold Device.railFactor
  repeat' first
    | with_reducible assumption | with_reducible apply Device.bump_wf | with_reducible apply Device.put_wf
    | with_reducible apply Device.setFlag_wf | with_reducible apply Device.wf_ite_snd
    | (fail_if_no_progress with_reducible apply Device.wf_mk) | split

theorem Device.railArrive_wf {d : Device} {v : Vector Word 2} (h0 : d.wf = true) :
    (Device.railArrive d v).wf = true := by
  unfold Device.railArrive
  repeat' first
    | with_reducible assumption | (fail_if_no_progress with_reducible apply Device.wf_mk) | split

theorem Device.channelPeriod_wf {d : Device} {ch : Fin 4} {u : Word} {k : Rat} (h0 : d.wf = true) :
    (Device.channelPeriod d ch u k).wf = true := by
  unfold Device.channelPeriod
  repeat' first
    | with_reducible assumption | with_reducible apply Device.orField_wf | with_reducible apply Device.wf_ite
    | (fail_if_no_progress with_reducible apply Device.wf_mk)

theorem Device.shaperReset_wf {d : Device} {ch : Fin 4} (h0 : d.wf = true) :
    (Device.shaperReset d ch).wf = true := by
  unfold Device.shaperReset
  repeat' first
    | with_reducible assumption | with_reducible apply Device.log_wf | with_reducible apply Device.orField_wf
    | with_reducible apply Device.wf_ite | (fail_if_no_progress with_reducible apply Device.wf_mk)

theorem Device.refresh_wf {d : Device} {x : Fin 8} (h0 : d.wf = true) :
    (Device.refresh d x).wf = true := by
  unfold Device.refresh
  repeat' first
    | with_reducible assumption | with_reducible apply Device.orField_wf | with_reducible apply Device.wf_ite
    | (fail_if_no_progress with_reducible apply Device.wf_mk)

theorem Device.clearShapers_wf {d : Device} (h0 : d.wf = true) :
    (Device.clearShapers d).wf = true := by
  unfold Device.clearShapers
  repeat' first
    | with_reducible assumption | (fail_if_no_progress with_reducible apply Device.wf_mk)

theorem Device.periodStart_wf {d : Device} (h0 : d.wf = true) :
    (Device.periodStart d).wf = true := by
  unfold Device.periodStart
  repeat' first
    | with_reducible assumption | with_reducible apply Device.shadowLoad_wf
    | (fail_if_no_progress with_reducible apply Device.wf_mk)

theorem Device.carrierPeriodStep_wf {d : Device} {x : CarrierIn} (h0 : d.wf = true) :
    (Device.carrierPeriodStep d x).wf = true := by
  unfold Device.carrierPeriodStep
  repeat' first
    | intro _ | with_reducible assumption | with_reducible apply Device.channelPeriod_wf
    | with_reducible apply Device.periodStart_wf | with_reducible apply Device.put_wf
    | with_reducible apply Device.railArrive_wf | with_reducible apply Device.railFactor_wf
    | with_reducible apply Device.setFlag_wf | with_reducible apply Device.wf_ite
    | with_reducible apply Device.wf_foldl | (fail_if_no_progress with_reducible apply Device.wf_mk)

theorem Device.overrideChanged_wf {d : Device} {old : Word} (h0 : d.wf = true) :
    (Device.overrideChanged d old).wf = true := by
  unfold Device.overrideChanged
  repeat' first
    | with_reducible assumption | (fail_if_no_progress with_reducible apply Device.wf_mk)

end Sys2Proof.Machine
end

