-- ==== Sys2Proof/Laws/WfStageOps.lean ====
section
/-! SUPPORT. The functions of `Machine/StageOps.lean` keep the canonical form of the stores. -/

namespace Sys2Proof.Machine

theorem Device.stageFault_wf {d : Device} {entry : Device → Device} (h0 : d.wf = true) (h1 : ∀ x0, x0.wf = true → (entry x0).wf = true) :
    (Device.stageFault d entry).wf = true := by
  unfold Device.stageFault
  repeat' first
    | with_reducible assumption | with_reducible apply h1 | with_reducible apply Device.latchFault_wf

theorem Device.channelFault_wf {d : Device} {n : Nat} {bit : Nat} {source : Nat} (h0 : d.wf = true) :
    (Device.channelFault d n bit source).wf = true := by
  unfold Device.channelFault
  repeat' first
    | intro _ | with_reducible assumption | with_reducible apply Device.fire_wf
    | with_reducible apply Device.raise_wf | with_reducible apply Device.setWord_wf
    | with_reducible apply Device.stageFault_wf | with_reducible apply Device.wf_ite

theorem Device.overcurrent_wf {d : Device} {n : Fin 4} (h0 : d.wf = true) :
    (Device.overcurrent d n).wf = true := by
  unfold Device.overcurrent
  repeat' first
    | with_reducible assumption | with_reducible apply Device.bump_wf | with_reducible apply Device.channelFault_wf
    | with_reducible apply Device.fire_wf | with_reducible apply Device.forceOff_wf
    | with_reducible apply Device.orField_wf | with_reducible apply Device.wf_ite
    | (fail_if_no_progress with_reducible apply Device.wf_mk)

theorem Device.ocWritten_wf {d : Device} {n : Fin 4} (h0 : d.wf = true) :
    (Device.ocWritten d n).wf = true := by
  unfold Device.ocWritten
  repeat' first
    | with_reducible assumption | with_reducible apply Device.channelFault_wf
    | with_reducible apply Device.forceOff_wf | with_reducible apply Device.wf_ite

theorem Device.stackOvercurrent_wf {d : Device} (h0 : d.wf = true) :
    (Device.stackOvercurrent d).wf = true := by
  unfold Device.stackOvercurrent
  repeat' first
    | intro _ | with_reducible assumption | with_reducible apply Device.fire_wf
    | with_reducible apply Device.forceOff_wf | with_reducible apply Device.raise_wf
    | with_reducible apply Device.setFlag_wf | with_reducible apply Device.stageFault_wf
    | with_reducible apply Device.wf_ite

theorem Device.interlock_wf {d : Device} {x : Fin 8} (h0 : d.wf = true) :
    (Device.interlock d x).wf = true := by
  unfold Device.interlock
  repeat' first
    | with_reducible assumption | with_reducible apply Device.channelFault_wf
    | with_reducible apply Device.forceOff_wf | with_reducible apply Device.put_wf
    | with_reducible apply Device.setFlag_wf | with_reducible apply Device.wf_ite

theorem Device.extFault_wf {d : Device} (h0 : d.wf = true) :
    (Device.extFault d).wf = true := by
  unfold Device.extFault
  repeat' first
    | intro _ | with_reducible assumption | with_reducible apply Device.fire_wf
    | with_reducible apply Device.raise_wf | with_reducible apply Device.setFlag_wf
    | with_reducible apply Device.stageFault_wf | with_reducible apply Device.wf_ite

theorem Device.updateDrvOk_wf {d : Device} (h0 : d.wf = true) :
    (Device.updateDrvOk d).wf = true := by
  unfold Device.updateDrvOk
  repeat' first
    | with_reducible assumption | with_reducible apply Device.setFlag_wf

theorem Device.vdrvLockout_wf {d : Device} (h0 : d.wf = true) :
    (Device.vdrvLockout d).wf = true := by
  unfold Device.vdrvLockout
  repeat' first
    | intro _ | with_reducible assumption | with_reducible apply Device.fire_wf
    | with_reducible apply Device.raise_wf | with_reducible apply Device.setFlag_wf
    | with_reducible apply Device.stageFault_wf | with_reducible apply Device.updateDrvOk_wf
    | with_reducible apply Device.wf_ite

theorem Device.vdrvRelease_wf {d : Device} (h0 : d.wf = true) :
    (Device.vdrvRelease d).wf = true := by
  unfold Device.vdrvRelease
  repeat' first
    | with_reducible assumption | with_reducible apply Device.setFlag_wf | with_reducible apply Device.updateDrvOk_wf

theorem Device.bootstrapLockout_wf {d : Device} {x : Fin 8} (h0 : d.wf = true) :
    (Device.bootstrapLockout d x).wf = true := by
  unfold Device.bootstrapLockout
  repeat' first
    | with_reducible assumption | with_reducible apply Device.andNotField_wf
    | with_reducible apply Device.channelFault_wf | with_reducible apply Device.forceOff_wf
    | with_reducible apply Device.wf_ite | (fail_if_no_progress with_reducible apply Device.wf_mk)

theorem Device.bootstrapRelease_wf {d : Device} {x : Fin 8} (h0 : d.wf = true) :
    (Device.bootstrapRelease d x).wf = true := by
  unfold Device.bootstrapRelease
  repeat' first
    | with_reducible assumption | with_reducible apply Device.orField_wf

theorem Device.stageCleared_wf {d : Device} (h0 : d.wf = true) :
    (Device.stageCleared d).wf = true := by
  unfold Device.stageCleared
  repeat' first
    | with_reducible assumption | with_reducible apply Device.setWord_wf | with_reducible apply Device.wf_ite
    | (fail_if_no_progress with_reducible apply Device.wf_mk)

theorem Device.clearChFault_wf {d : Device} {n : Nat} {v : Word} (h0 : d.wf = true) :
    (Device.clearChFault d n v).wf = true := by
  unfold Device.clearChFault
  repeat' first
    | with_reducible assumption | with_reducible apply Device.setFlag_wf | with_reducible apply Device.setWord_wf
    | with_reducible apply Device.stageCleared_wf | with_reducible apply Device.wf_ite

theorem Device.clearGdvFault_wf {d : Device} {v : Word} (h0 : d.wf = true) :
    (Device.clearGdvFault d v).wf = true := by
  unfold Device.clearGdvFault
  repeat' first
    | with_reducible assumption | with_reducible apply Device.setWord_wf
    | with_reducible apply Device.stageCleared_wf

theorem Device.freeze_wf {d : Device} (h0 : d.wf = true) :
    (Device.freeze d).wf = true := by
  unfold Device.freeze
  repeat' first
    | with_reducible assumption | with_reducible apply Device.setFlag_wf
    | (fail_if_no_progress with_reducible apply Device.wf_mk)

end Sys2Proof.Machine
end

