-- ==== Sys2Proof/Laws/WfGuardOps.lean ====
section
/-! SUPPORT. The functions of `Machine/GuardOps.lean` keep the canonical form of the stores. -/

namespace Sys2Proof.Machine

theorem Device.setGch_wf {d : Device} {n : Fin 4} {c : GuardChan} (h0 : d.wf = true) :
    (Device.setGch d n c).wf = true := by
  unfold Device.setGch
  repeat' first
    | with_reducible assumption | (fail_if_no_progress with_reducible apply Device.wf_mk)

theorem Device.guardTake_wf {d : Device} {i : Fin 4} (h0 : d.wf = true) :
    (Device.guardTake d i).wf = true := by
  unfold Device.guardTake
  repeat' first
    | with_reducible assumption | with_reducible apply Device.put_wf | with_reducible apply Device.setGch_wf
    | with_reducible apply Device.wf_ite | split

theorem Device.dropConfidence_wf {d : Device} {n : Nat} (h0 : d.wf = true) :
    (Device.dropConfidence d n).wf = true := by
  unfold Device.dropConfidence
  repeat' first
    | with_reducible assumption | with_reducible apply Device.put_wf

theorem Device.guardBlind_wf {d : Device} {i : Fin 4} (h0 : d.wf = true) :
    (Device.guardBlind d i).wf = true := by
  unfold Device.guardBlind
  repeat' first
    | with_reducible assumption | with_reducible apply Device.bump_wf | with_reducible apply Device.put_wf
    | with_reducible apply Device.setFlag_wf | with_reducible apply Device.setGch_wf
    | with_reducible apply Device.wf_ite

theorem Device.guardPublish_wf {d : Device} {i : Fin 4} (h0 : d.wf = true) :
    (Device.guardPublish d i).wf = true := by
  unfold Device.guardPublish
  repeat' first
    | with_reducible assumption | with_reducible apply Device.setGch_wf

theorem Device.estimatorBlind_wf {d : Device} {i : Fin 4} (h0 : d.wf = true) :
    (Device.estimatorBlind d i).wf = true := by
  unfold Device.estimatorBlind
  repeat' first
    | with_reducible assumption | with_reducible apply Device.orField_wf | with_reducible apply Device.raise_wf
    | with_reducible apply Device.setFlag_wf | with_reducible apply Device.wf_ite

theorem Device.estimatorBlindLong_wf {d : Device} {i : Fin 4} (h0 : d.wf = true) :
    (Device.estimatorBlindLong d i).wf = true := by
  unfold Device.estimatorBlindLong
  repeat' first
    | with_reducible assumption | with_reducible apply Device.orField_wf | with_reducible apply Device.raise_wf
    | with_reducible apply Device.setFlag_wf | with_reducible apply Device.wf_ite

theorem Device.guardRecovery_wf {d : Device} {i : Fin 4} (h0 : d.wf = true) :
    (Device.guardRecovery d i).wf = true := by
  unfold Device.guardRecovery
  repeat' first
    | with_reducible assumption | with_reducible apply Device.log_wf | with_reducible apply Device.orField_wf
    | with_reducible apply Device.put_wf | with_reducible apply Device.setFlag_wf
    | with_reducible apply Device.setGch_wf | with_reducible apply Device.wf_ite

theorem Device.ratchetEnd_wf {d : Device} {i : Fin 4} (h0 : d.wf = true) :
    (Device.ratchetEnd d i).wf = true := by
  unfold Device.ratchetEnd
  repeat' first
    | with_reducible assumption | with_reducible apply Device.setFlag_wf | with_reducible apply Device.setGch_wf
    | with_reducible apply Device.wf_ite

theorem Device.guardCorrect_wf {d : Device} {i : Fin 4} (h0 : d.wf = true) :
    (Device.guardCorrect d i).wf = true := by
  unfold Device.guardCorrect
  repeat' first
    | with_reducible assumption | with_reducible apply Device.put_wf | with_reducible apply Device.puti_wf
    | with_reducible apply Device.setGch_wf | split | (fail_if_no_progress extract_lets)

theorem Device.guardThermal_wf {d : Device} {i : Fin 4} {power : Rat} (h0 : d.wf = true) :
    (Device.guardThermal d i power).wf = true := by
  unfold Device.guardThermal
  repeat' first
    | with_reducible assumption | with_reducible apply Device.setGch_wf

theorem Device.guardShow_wf {d : Device} {i : Fin 4} (h0 : d.wf = true) :
    (Device.guardShow d i).wf = true := by
  unfold Device.guardShow
  repeat' first
    | with_reducible assumption | with_reducible apply Device.puti_wf

theorem Device.guardRdc_wf {d : Device} {i : Fin 4} {mOhm : Nat} (h0 : d.wf = true) :
    (Device.guardRdc d i mOhm).wf = true := by
  unfold Device.guardRdc
  repeat' first
    | intro _ | with_reducible assumption | with_reducible apply Device.log_wf | with_reducible apply Device.put_wf
    | with_reducible apply Device.setFlag_wf | with_reducible apply Device.setGch_wf
    | with_reducible apply Device.wf_foldl

theorem Device.guardStart_wf {d : Device} (h0 : d.wf = true) :
    (Device.guardStart d).wf = true := by
  unfold Device.guardStart
  repeat' first
    | intro _ | with_reducible assumption | with_reducible apply Device.setGch_wf
    | with_reducible apply Device.wf_ite | with_reducible apply Device.wf_foldl
    | (fail_if_no_progress with_reducible apply Device.wf_mk)

theorem Device.lineRead_wf {d : Device} {i : Fin 4} {idx : Nat} (h0 : d.wf = true) :
    (Device.lineRead d i idx).2.wf = true := by
  unfold Device.lineRead
  repeat' first
    | with_reducible assumption | with_reducible apply Device.readChecked_wf | with_reducible apply Device.setFlag_wf
    | split | with_reducible refine Device.wf_of_snd (by assumption) ?_

theorem Device.lineEnter_wf {d : Device} {i : Fin 4} {xs : List Int} (h0 : d.wf = true) :
    (Device.lineEnter d i xs).wf = true := by
  unfold Device.lineEnter
  repeat' first
    | intro _ | with_reducible assumption | with_reducible apply Device.put_wf
    | with_reducible apply Device.setGch_wf | with_reducible apply Device.storeWord_wf
    | with_reducible apply Device.wf_foldl

theorem Device.pilotGate_wf {d : Device} {i : Fin 4} (h0 : d.wf = true) :
    (Device.pilotGate d i).wf = true := by
  unfold Device.pilotGate
  repeat' first
    | with_reducible assumption | with_reducible apply Device.setGch_wf | with_reducible apply Device.wf_ite

theorem Device.guardSample_wf {d : Device} {i : Fin 4} {wp : Nat} {lcoil : Rat} {g : Rat} {j : Nat} (h0 : d.wf = true) :
    (Device.guardSample d i wp lcoil g j).1.wf = true := by
  unfold Device.guardSample
  repeat' first
    | with_reducible assumption | with_reducible apply Device.lineRead_wf

theorem Device.guardBlock_wf {d : Device} {i : Fin 4} {wp : Nat} {lcoil : Rat} (h0 : d.wf = true) :
    (Device.guardBlock d i wp lcoil).wf = true := by
  unfold Device.guardBlock
  repeat' first
    | intro _ | with_reducible assumption | with_reducible apply Device.guardSample_wf
    | with_reducible apply Device.put_wf | with_reducible apply Device.setGch_wf
    | with_reducible apply Device.wf_foldl_fst | (fail_if_no_progress with_reducible apply Device.wf_mk)

theorem Device.guardTrack_wf {d : Device} {i : Fin 4} {ms : List (Option (Rat × Rat))} {emf : List Rat} {blind : Bool} (h0 : d.wf = true) :
    (Device.guardTrack d i ms emf blind).wf = true := by
  unfold Device.guardTrack
  repeat' first
    | with_reducible assumption | with_reducible apply Device.put_wf | with_reducible apply Device.setFlag_wf
    | with_reducible apply Device.setGch_wf

theorem Device.pilotBlock_wf {d : Device} {i : Fin 4} {ms : List (Option (Rat × Rat))} (h0 : d.wf = true) :
    (Device.pilotBlock d i ms).wf = true := by
  unfold Device.pilotBlock
  repeat' first
    | with_reducible assumption | with_reducible apply Device.setGch_wf | with_reducible apply Device.wf_ite

theorem Device.bandBlock_wf {d : Device} {i : Fin 4} {ms : List (Option (Rat × Rat))} (h0 : d.wf = true) :
    (Device.bandBlock d i ms).wf = true := by
  unfold Device.bandBlock
  repeat' first
    | with_reducible assumption | with_reducible apply Device.setGch_wf | with_reducible apply Device.wf_ite

theorem Device.guardEvents_wf {d : Device} {i : Fin 4} {limited : Bool} (h0 : d.wf = true) :
    (Device.guardEvents d i limited).wf = true := by
  unfold Device.guardEvents
  repeat' first
    | with_reducible assumption | with_reducible apply Device.fire_wf | with_reducible apply Device.orField_wf
    | with_reducible apply Device.setGch_wf | with_reducible apply Device.wf_ite

theorem Device.pilotWindowEnd_wf {d : Device} {i : Fin 4} (h0 : d.wf = true) :
    (Device.pilotWindowEnd d i).wf = true := by
  unfold Device.pilotWindowEnd
  repeat' first
    | with_reducible assumption | with_reducible apply Device.setGch_wf | split | (fail_if_no_progress extract_lets)

theorem Device.broadbandReport_wf {d : Device} {i : Fin 4} (h0 : d.wf = true) :
    (Device.broadbandReport d i).wf = true := by
  unfold Device.broadbandReport
  repeat' first
    | with_reducible assumption | with_reducible apply Device.setGch_wf | split | (fail_if_no_progress extract_lets)

theorem Device.pilotStart_wf {d : Device} (h0 : d.wf = true) :
    (Device.pilotStart d).wf = true := by
  unfold Device.pilotStart
  repeat' first
    | intro _ | with_reducible assumption | with_reducible apply Device.setGch_wf
    | with_reducible apply Device.wf_foldl

theorem Device.guardResults_wf {d : Device} {sense : Vector (Vector Word 16) 10} (h0 : d.wf = true) :
    (Device.guardResults d sense).wf = true := by
  unfold Device.guardResults
  repeat' first
    | intro _ | with_reducible assumption | with_reducible apply Device.dropConfidence_wf
    | with_reducible apply Device.guardStart_wf | with_reducible apply Device.guardTake_wf
    | with_reducible apply Device.put_wf | with_reducible apply Device.setFlag_wf
    | with_reducible apply Device.setGch_wf | with_reducible apply Device.wf_ite
    | with_reducible apply Device.wf_foldl

theorem Device.guardLatch_wf {d : Device} {i : Fin 4} {peak : Rat} (h0 : d.wf = true) :
    (Device.guardLatch d i peak).wf = true := by
  unfold Device.guardLatch
  repeat' first
    | with_reducible assumption | with_reducible apply Device.setGch_wf

theorem Device.guardModels_wf {d : Device} {sense : Vector (Vector Word 16) 10} (h0 : d.wf = true) :
    (Device.guardModels d sense).wf = true := by
  unfold Device.guardModels
  repeat' first
    | intro _ | with_reducible assumption | with_reducible apply Device.bandBlock_wf
    | with_reducible apply Device.guardBlind_wf | with_reducible apply Device.guardCorrect_wf
    | with_reducible apply Device.guardLatch_wf | with_reducible apply Device.guardPublish_wf
    | with_reducible apply Device.guardShow_wf | with_reducible apply Device.guardThermal_wf
    | with_reducible apply Device.guardTrack_wf | with_reducible apply Device.pilotBlock_wf
    | with_reducible apply Device.put_wf | with_reducible apply Device.setGch_wf | with_reducible apply Device.wf_ite
    | with_reducible apply Device.wf_foldl

theorem Device.guardOutputs_wf {d : Device} {outs : Vector (List Int) 4} {lrsv : Vector Rat 4} (h0 : d.wf = true) :
    (Device.guardOutputs d outs lrsv).wf = true := by
  unfold Device.guardOutputs
  repeat' first
    | intro _ | with_reducible assumption | with_reducible apply Device.guardBlock_wf
    | with_reducible apply Device.lineEnter_wf | with_reducible apply Device.pilotGate_wf
    | with_reducible apply Device.put_wf | with_reducible apply Device.setGch_wf | with_reducible apply Device.wf_ite
    | with_reducible apply Device.wf_foldl

theorem Device.guardReport_wf {d : Device} (h0 : d.wf = true) :
    (Device.guardReport d).wf = true := by
  unfold Device.guardReport
  repeat' first
    | intro _ | with_reducible assumption | with_reducible apply Device.guardEvents_wf
    | with_reducible apply Device.wf_ite | with_reducible apply Device.wf_foldl

theorem Device.lineError_wf {d : Device} {i : Fin 4} {j : Fin 16} (h0 : d.wf = true) :
    (Device.lineError d i j).wf = true := by
  unfold Device.lineError
  repeat' first
    | with_reducible assumption | with_reducible apply Device.eccUncorr_wf | with_reducible apply Device.setFlag_wf
    | with_reducible apply Device.strike_wf | with_reducible apply Device.wf_ite
    | (fail_if_no_progress with_reducible apply Device.wf_mk)

theorem Device.guardResume_wf {d : Device} (h0 : d.wf = true) :
    (Device.guardResume d).wf = true := by
  unfold Device.guardResume
  repeat' first
    | intro _ | with_reducible assumption | with_reducible apply Device.put_wf
    | with_reducible apply Device.setGch_wf | with_reducible apply Device.wf_foldl

end Sys2Proof.Machine
end

