-- ==== Sys2Proof/Laws/WfDiagOps.lean ====
section
/-! SUPPORT. The functions of `Machine/DiagOps.lean` keep the canonical form of the stores. -/

namespace Sys2Proof.Machine

theorem Device.diagStart_wf {d : Device} {sweep : Bool} {inEntry : Bool} {mask : Nat} (h0 : d.wf = true) :
    (Device.diagStart d sweep inEntry mask).wf = true := by
  unfold Device.diagStart
  repeat' first
    | with_reducible assumption | with_reducible apply Device.put_wf
    | (fail_if_no_progress with_reducible apply Device.wf_mk)

theorem Device.diagCommand_wf {d : Device} {op : Nat} {mask : Nat} (h0 : d.wf = true) :
    (Device.diagCommand d op mask).wf = true := by
  unfold Device.diagCommand
  repeat' first
    | with_reducible assumption | with_reducible apply Device.diagStart_wf | with_reducible apply Device.diagStop_wf
    | split

theorem Device.diagLatch_wf {d : Device} {r : DiagRun} (h0 : d.wf = true) :
    (Device.diagLatch d r).wf = true := by
  unfold Device.diagLatch
  repeat' first
    | intro _ | with_reducible assumption | with_reducible apply Device.put_wf
    | with_reducible apply Device.setFlag_wf | with_reducible apply Device.wf_ite
    | with_reducible apply Device.wf_foldl | (fail_if_no_progress with_reducible apply Device.wf_mk)

theorem Device.diagNext_wf {d : Device} {r : DiagRun} {s : DiagStep} (h0 : d.wf = true) :
    (Device.diagNext d r s).wf = true := by
  unfold Device.diagNext
  repeat' first
    | with_reducible assumption | (fail_if_no_progress with_reducible apply Device.wf_mk)

theorem Device.afterShorts_wf {d : Device} {r : DiagRun} (h0 : d.wf = true) :
    (Device.afterShorts d r).1.wf = true := by
  unfold Device.afterShorts
  repeat' first
    | with_reducible assumption | with_reducible apply Device.diagEnd_wf | with_reducible apply Device.diagNext_wf
    | split

theorem Device.prestartStep_wf {d : Device} {x : StepIn} (h0 : d.wf = true) :
    (Device.prestartStep d x).1.wf = true := by
  unfold Device.prestartStep
  repeat' first
    | with_reducible assumption | with_reducible apply Device.afterShorts_wf | with_reducible apply Device.diagEnd_wf
    | with_reducible apply Device.diagNext_wf | split

theorem Device.sweepSine_wf {d : Device} {outs : Vector (List Int) 4} (h0 : d.wf = true) :
    (Device.sweepSine d outs).2.wf = true := by
  unfold Device.sweepSine
  repeat' first
    | with_reducible assumption | (fail_if_no_progress with_reducible apply Device.wf_mk) | split

theorem Device.sweepPoint_wf {d : Device} {x : Vector SweepIn 4} (h0 : d.wf = true) :
    (Device.sweepPoint d x).wf = true := by
  unfold Device.sweepPoint
  repeat' first
    | intro _ | with_reducible assumption | with_reducible apply Device.bump_wf
    | with_reducible apply Device.setWord_wf | with_reducible apply Device.wf_foldl
    | (fail_if_no_progress with_reducible apply Device.wf_mk) | split

theorem Device.nextPoint_wf {d : Device} {r : DiagRun} (h0 : d.wf = true) :
    (Device.nextPoint d r).wf = true := by
  unfold Device.nextPoint
  repeat' first
    | with_reducible assumption | with_reducible apply Device.diagNext_wf | with_reducible apply Device.put_wf
    | with_reducible apply Device.wf_ite

theorem Device.sweepEnd_wf {d : Device} {r : DiagRun} (h0 : d.wf = true) :
    (Device.sweepEnd d r).wf = true := by
  unfold Device.sweepEnd
  repeat' first
    | intro _ | with_reducible assumption | with_reducible apply Device.diagEnd_wf
    | with_reducible apply Device.setFlag_wf | with_reducible apply Device.wf_ite
    | with_reducible apply Device.wf_foldl

theorem Device.diagBoundary_wf {d : Device} {sense : Vector (Vector Word 16) 10} (h0 : d.wf = true) :
    (Device.diagBoundary d sense).wf = true := by
  unfold Device.diagBoundary
  repeat' first
    | with_reducible assumption | with_reducible apply Device.clearShapers_wf
    | with_reducible apply Device.diagEnd_wf | with_reducible apply Device.diagLatch_wf
    | with_reducible apply Device.diagNext_wf | with_reducible apply Device.nextPoint_wf
    | with_reducible apply Device.put_wf | with_reducible apply Device.sweepEnd_wf
    | (fail_if_no_progress with_reducible apply Device.wf_mk) | split | (fail_if_no_progress extract_lets)

theorem Device.sweepBootstrap_wf {d : Device} (h0 : d.wf = true) :
    (Device.sweepBootstrap d).wf = true := by
  unfold Device.sweepBootstrap
  repeat' first
    | with_reducible assumption | with_reducible apply Device.diagNext_wf
    | (fail_if_no_progress with_reducible apply Device.wf_mk) | split

theorem Device.loadCheck_wf {d : Device} {i : Fin 4} {k : Fin 5} {found : Bool} (h0 : d.wf = true) :
    (Device.loadCheck d i k found).wf = true := by
  unfold Device.loadCheck
  repeat' first
    | with_reducible assumption | with_reducible apply Device.orField_wf | with_reducible apply Device.put_wf
    | with_reducible apply Device.raise_wf | with_reducible apply Device.setFlag_wf
    | with_reducible apply Device.wf_ite | (fail_if_no_progress with_reducible apply Device.wf_mk)

theorem Device.loadChecks_wf {d : Device} {sense : Vector (Vector Word 16) 10} (h0 : d.wf = true) :
    (Device.loadChecks d sense).wf = true := by
  unfold Device.loadChecks
  repeat' first
    | intro _ | with_reducible assumption | with_reducible apply Device.loadCheck_wf
    | with_reducible apply Device.wf_foldl | split

theorem Device.dcTake_wf {d : Device} {n : Fin 4} {vs : List Rat} (h0 : d.wf = true) :
    (Device.dcTake d n vs).wf = true := by
  unfold Device.dcTake
  repeat' first
    | with_reducible assumption | with_reducible apply Device.andNotField_wf | with_reducible apply Device.orField_wf
    | with_reducible apply Device.wf_ite | (fail_if_no_progress with_reducible apply Device.wf_mk)

theorem Device.dcOnLoad_wf {d : Device} {n : Fin 4} {vs : List Rat} (h0 : d.wf = true) :
    (Device.dcOnLoad d n vs).wf = true := by
  unfold Device.dcOnLoad
  repeat' first
    | with_reducible assumption | with_reducible apply Device.channelFault_wf | with_reducible apply Device.dcTake_wf
    | with_reducible apply Device.wf_ite

theorem Device.clearHold_wf {d : Device} {v : Word} (h0 : d.wf = true) :
    (Device.clearHold d v).wf = true := by
  unfold Device.clearHold
  repeat' first
    | with_reducible assumption | with_reducible apply Device.andNotField_wf

end Sys2Proof.Machine
end

