-- ==== Sys2Proof/Laws/WfClockOps.lean ====
section
/-! SUPPORT. The functions of `Machine/ClockOps.lean` keep the canonical form of the stores. -/

namespace Sys2Proof.Machine

theorem Device.writeDeviation_wf {d : Device} {dev : Fld} {valid : Fld} {v : Option Int} (h0 : d.wf = true) :
    (Device.writeDeviation d dev valid v).wf = true := by
  unfold Device.writeDeviation
  repeat' first
    | with_reducible assumption | with_reducible apply Device.put_wf | with_reducible apply Device.puti_wf
    | with_reducible apply Device.setFlag_wf | (fail_if_no_progress with_reducible apply Device.wf_mk) | split

theorem Device.startSlew_wf {d : Device} (h0 : d.wf = true) :
    (Device.startSlew d).wf = true := by
  unfold Device.startSlew
  repeat' first
    | with_reducible assumption | with_reducible apply Device.put_wf | with_reducible apply Device.setClkMode_wf
    | (fail_if_no_progress with_reducible apply Device.wf_mk)

theorem Device.switchRef_wf {d : Device} {src : Nat} (h0 : d.wf = true) :
    (Device.switchRef d src).wf = true := by
  unfold Device.switchRef
  repeat' first
    | with_reducible assumption | with_reducible apply Device.put_wf | with_reducible apply Device.raise_wf
    | with_reducible apply Device.setFlag_wf | with_reducible apply Device.startSlew_wf

theorem Device.dwellExpire_wf {d : Device} (h0 : d.wf = true) :
    (Device.dwellExpire d).wf = true := by
  unfold Device.dwellExpire
  repeat' first
    | with_reducible assumption | with_reducible apply Device.switchRef_wf | with_reducible apply Device.wf_ite

theorem Device.refRevert_wf {d : Device} (h0 : d.wf = true) :
    (Device.refRevert d).wf = true := by
  unfold Device.refRevert
  repeat' first
    | with_reducible assumption | with_reducible apply Device.switchRef_wf | split

theorem Device.judgeList_wf {d : Device} (h0 : d.wf = true) :
    (Device.judgeList d).wf = true := by
  unfold Device.judgeList
  repeat' first
    | with_reducible assumption | with_reducible apply Device.switchRef_wf
    | (fail_if_no_progress with_reducible apply Device.wf_mk) | split | (fail_if_no_progress extract_lets)

theorem Device.gateSlave_wf {d : Device} (h0 : d.wf = true) :
    (Device.gateSlave d).wf = true := by
  unfold Device.gateSlave
  repeat' first
    | with_reducible assumption | with_reducible apply Device.holdTrim_wf | with_reducible apply Device.setClkMode_wf
    | with_reducible apply Device.wf_ite | (fail_if_no_progress with_reducible apply Device.wf_mk)

theorem Device.gateFree_wf {d : Device} (h0 : d.wf = true) :
    (Device.gateFree d).wf = true := by
  unfold Device.gateFree
  repeat' first
    | with_reducible assumption | with_reducible apply Device.judgeList_wf
    | with_reducible apply Device.loseReference_wf | with_reducible apply Device.put_wf
    | with_reducible apply Device.startSlew_wf | with_reducible apply Device.wf_ite

theorem Device.gateTrim_wf {d : Device} {follow : Int} (h0 : d.wf = true) :
    (Device.gateTrim d follow).wf = true := by
  unfold Device.gateTrim
  repeat' first
    | with_reducible assumption | with_reducible apply Device.puti_wf | with_reducible apply Device.wf_ite

theorem Device.rememberTrims_wf {d : Device} (h0 : d.wf = true) :
    (Device.rememberTrims d).wf = true := by
  unfold Device.rememberTrims
  repeat' first
    | with_reducible assumption | (fail_if_no_progress with_reducible apply Device.wf_mk)

theorem Device.slewArrive_wf {d : Device} {goal : Int} (h0 : d.wf = true) :
    (Device.slewArrive d goal).wf = true := by
  unfold Device.slewArrive
  repeat' first
    | with_reducible assumption | with_reducible apply Device.puti_wf | with_reducible apply Device.setClkMode_wf
    | with_reducible apply Device.wf_ite

theorem Device.gateEnd_wf {d : Device} {ring : Option Int} {inp : Option Int} {follow : Int} (h0 : d.wf = true) :
    (Device.gateEnd d ring inp follow).wf = true := by
  unfold Device.gateEnd
  repeat' first
    | with_reducible assumption | with_reducible apply Device.gateFree_wf | with_reducible apply Device.gateSlave_wf
    | with_reducible apply Device.gateTrim_wf | with_reducible apply Device.puti_wf
    | with_reducible apply Device.rememberTrims_wf | with_reducible apply Device.setClkMode_wf
    | with_reducible apply Device.setFlag_wf | with_reducible apply Device.slewArrive_wf
    | with_reducible apply Device.writeDeviation_wf | with_reducible apply Device.wf_ite
    | (fail_if_no_progress with_reducible apply Device.wf_mk)

theorem Device.refAbsent_wf {d : Device} (h0 : d.wf = true) :
    (Device.refAbsent d).wf = true := by
  unfold Device.refAbsent
  repeat' first
    | with_reducible assumption | with_reducible apply Device.loseReference_wf | with_reducible apply Device.wf_ite

theorem Device.slewComplete_wf {d : Device} {target : Int} {ms : Nat} (h0 : d.wf = true) :
    (Device.slewComplete d target ms).wf = true := by
  unfold Device.slewComplete
  repeat' first
    | with_reducible assumption | with_reducible apply Device.puti_wf | with_reducible apply Device.slewArrive_wf
    | with_reducible apply Device.wf_ite

theorem Device.acquireRing_wf {d : Device} (h0 : d.wf = true) :
    (Device.acquireRing d).wf = true := by
  unfold Device.acquireRing
  repeat' first
    | with_reducible assumption | with_reducible apply Device.put_wf | with_reducible apply Device.setClkMode_wf
    | with_reducible apply Device.wf_ite | (fail_if_no_progress with_reducible apply Device.wf_mk)

theorem Device.acquireComplete_wf {d : Device} {err : BitVec 16} {frame : BitVec 48} (h0 : d.wf = true) :
    (Device.acquireComplete d err frame).wf = true := by
  unfold Device.acquireComplete
  repeat' first
    | with_reducible assumption | with_reducible apply Device.put_wf | with_reducible apply Device.setClkMode_wf
    | with_reducible apply Device.wf_ite | (fail_if_no_progress with_reducible apply Device.wf_mk)

theorem Device.loseRing_wf {d : Device} (h0 : d.wf = true) :
    (Device.loseRing d).wf = true := by
  unfold Device.loseRing
  repeat' first
    | with_reducible assumption | with_reducible apply Device.loseReference_wf | with_reducible apply Device.put_wf
    | with_reducible apply Device.setFlag_wf | with_reducible apply Device.wf_ite
    | (fail_if_no_progress with_reducible apply Device.wf_mk)

theorem Device.ringHoldSteer_wf {d : Device} {err : BitVec 16} {goal : Int} {ms : Nat} (h0 : d.wf = true) :
    (Device.ringHoldSteer d err goal ms).wf = true := by
  unfold Device.ringHoldSteer
  repeat' first
    | with_reducible assumption | with_reducible apply Device.put_wf | with_reducible apply Device.puti_wf
    | with_reducible apply Device.wf_ite | (fail_if_no_progress with_reducible apply Device.wf_mk)

theorem Device.alignOut_wf {d : Device} {err : BitVec 16} (h0 : d.wf = true) :
    (Device.alignOut d err).wf = true := by
  unfold Device.alignOut
  repeat' first
    | with_reducible assumption | with_reducible apply Device.log_wf | with_reducible apply Device.put_wf
    | with_reducible apply Device.setFlag_wf | with_reducible apply Device.wf_ite

theorem Device.alignReturn_wf {d : Device} {err : BitVec 16} (h0 : d.wf = true) :
    (Device.alignReturn d err).wf = true := by
  unfold Device.alignReturn
  repeat' first
    | with_reducible assumption | with_reducible apply Device.log_wf | with_reducible apply Device.put_wf
    | with_reducible apply Device.setFlag_wf | with_reducible apply Device.wf_ite

theorem Device.stepRingTime_wf {d : Device} (h0 : d.wf = true) :
    (Device.stepRingTime d).wf = true := by
  unfold Device.stepRingTime
  repeat' first
    | with_reducible assumption | with_reducible apply Device.log_wf | with_reducible apply Device.setFlag_wf
    | (fail_if_no_progress with_reducible apply Device.wf_mk) | split

theorem Device.readRingTime_wf {d : Device} (h0 : d.wf = true) :
    (Device.readRingTime d).2.wf = true := by
  unfold Device.readRingTime
  repeat' first
    | with_reducible assumption | with_reducible apply Device.put_wf

theorem Device.aonTimer_wf {d : Device} {n : Nat} (h0 : d.wf = true) :
    (Device.aonTimer d n).wf = true := by
  unfold Device.aonTimer
  repeat' first
    | with_reducible assumption | with_reducible apply Device.fire_wf | with_reducible apply Device.put_wf
    | with_reducible apply Device.wf_ite

theorem Device.lpoCalibrate_wf {d : Device} {hz : Rat} (h0 : d.wf = true) :
    (Device.lpoCalibrate d hz).wf = true := by
  unfold Device.lpoCalibrate
  repeat' first
    | with_reducible assumption | with_reducible apply Device.put_wf | with_reducible apply Device.setFlag_wf
    | with_reducible apply Device.wf_ite

end Sys2Proof.Machine
end

