-- ==== Sys2Proof/Laws/WfEvcOps.lean ====
section
/-! SUPPORT. The functions of `Machine/EvcOps.lean` keep the canonical form of the stores. -/

namespace Sys2Proof.Machine

theorem Device.deliver_wf {d : Device} (h0 : d.wf = true) :
    (Device.deliver d).wf = true := by
  unfold Device.deliver
  repeat' first
    | intro _ | with_reducible assumption | with_reducible apply Device.setSource_wf
    | with_reducible apply Device.wf_foldl | with_reducible apply Device.wf_foldl_fst
    | (fail_if_no_progress with_reducible apply Device.wf_mk) | split

theorem Device.claim_wf {d : Device} {x : Fin 4} (h0 : d.wf = true) :
    (Device.claim d x).2.wf = true := by
  unfold Device.claim
  repeat' first
    | with_reducible assumption | with_reducible apply Device.setSource_wf | split

theorem Device.completeEvent_wf {d : Device} {x : Fin 4} {n : Nat} (h0 : d.wf = true) :
    (Device.completeEvent d x n).wf = true := by
  unfold Device.completeEvent
  repeat' first
    | with_reducible assumption | with_reducible apply Device.orField_wf | with_reducible apply Device.setSource_wf
    | with_reducible apply Device.wf_ite | split

theorem Device.softFireOne_wf {d : Device} {n : Fin 128} (h0 : d.wf = true) :
    (Device.softFireOne d n).wf = true := by
  unfold Device.softFireOne
  repeat' first
    | with_reducible assumption | with_reducible apply Device.fireNow_wf
    | (fail_if_no_progress with_reducible apply Device.wf_mk) | split

theorem Device.softFire_wf {d : Device} {i : Nat} {v : Word} (h0 : d.wf = true) :
    (Device.softFire d i v).wf = true := by
  unfold Device.softFire
  repeat' first
    | intro _ | with_reducible assumption | with_reducible apply Device.softFireOne_wf
    | with_reducible apply Device.wf_foldl | split | (fail_if_no_progress extract_lets)

theorem Device.withdrawBits_wf {d : Device} {i : Nat} {v : Word} (h0 : d.wf = true) :
    (Device.withdrawBits d i v).wf = true := by
  unfold Device.withdrawBits
  repeat' first
    | intro _ | with_reducible assumption | with_reducible apply Device.setSource_wf
    | with_reducible apply Device.wf_foldl | split | (fail_if_no_progress extract_lets)

theorem Device.reconsider_wf {d : Device} (h0 : d.wf = true) :
    (Device.reconsider d).wf = true := by
  unfold Device.reconsider
  repeat' first
    | intro _ | with_reducible assumption | with_reducible apply Device.setSource_wf
    | with_reducible apply Device.wf_ite | with_reducible apply Device.wf_foldl

theorem Device.moderationWritten_wf {d : Device} {x : Fin 4} (h0 : d.wf = true) :
    (Device.moderationWritten d x).wf = true := by
  unfold Device.moderationWritten
  repeat' first
    | with_reducible assumption | with_reducible apply Device.wf_ite
    | (fail_if_no_progress with_reducible apply Device.wf_mk)

theorem Device.transferLatches_wf {d : Device} (h0 : d.wf = true) :
    (Device.transferLatches d).wf = true := by
  unfold Device.transferLatches
  repeat' first
    | with_reducible assumption | (fail_if_no_progress with_reducible apply Device.wf_mk)

theorem Device.latchFire_wf {d : Device} {k : Nat} {sw : Bool} {wake : Bool} (h0 : d.wf = true) :
    (Device.latchFire d k sw wake).wf = true := by
  unfold Device.latchFire
  repeat' first
    | with_reducible assumption | with_reducible apply Device.fireNow_wf | split | (fail_if_no_progress extract_lets)

theorem Device.takeLatch_wf {d : Device} (h0 : d.wf = true) :
    (Device.takeLatch d).wf = true := by
  unfold Device.takeLatch
  repeat' first
    | intro _ | with_reducible assumption | with_reducible apply Device.andNotField_wf
    | with_reducible apply Device.latchFire_wf | with_reducible apply Device.wf_foldl
    | (fail_if_no_progress with_reducible apply Device.wf_mk) | split

theorem Device.evcCycle_wf {d : Device} (h0 : d.wf = true) :
    (Device.evcCycle d).wf = true := by
  unfold Device.evcCycle
  repeat' first
    | with_reducible assumption | with_reducible apply Device.deliver_wf | with_reducible apply Device.takeLatch_wf
    | with_reducible apply Device.wf_ite

end Sys2Proof.Machine
end

