-- ==== Sys2Proof/Laws/WfWeirOps.lean ====
section
/-! SUPPORT. The functions of `Machine/WeirOps.lean` keep the canonical form of the stores. -/

namespace Sys2Proof.Machine

theorem Device.showPermits_wf {d : Device} (h0 : d.wf = true) :
    (Device.showPermits d).wf = true := by
  unfold Device.showPermits
  repeat' first
    | with_reducible assumption | with_reducible apply Device.put_wf | with_reducible apply Device.puti_wf

theorem Device.drawCosts_wf {d : Device} {t : Nat} (h0 : d.wf = true) :
    (Device.drawCosts d t).wf = true := by
  unfold Device.drawCosts
  repeat' first
    | with_reducible assumption | with_reducible apply Device.showPermits_wf | with_reducible apply Device.wf_ite
    | (fail_if_no_progress with_reducible apply Device.wf_mk)

theorem Device.notifyTasks_wf {d : Device} {before : Device} (h0 : d.wf = true) (h1 : before.wf = true) :
    (Device.notifyTasks d before).wf = true := by
  unfold Device.notifyTasks
  repeat' first
    | with_reducible assumption | with_reducible apply Device.fire_wf | with_reducible apply Device.wf_ite

theorem Device.requestTask_wf {d : Device} {t : Nat} (h0 : d.wf = true) :
    (Device.requestTask d t).wf = true := by
  unfold Device.requestTask
  repeat' first
    | with_reducible assumption | with_reducible apply Device.put_wf | with_reducible apply Device.taskReady_wf
    | split

theorem Device.withdrawTask_wf {d : Device} {t : Nat} (h0 : d.wf = true) :
    (Device.withdrawTask d t).wf = true := by
  unfold Device.withdrawTask
  repeat' first
    | with_reducible assumption | with_reducible apply Device.put_wf | with_reducible apply Device.taskIdle_wf
    | split

theorem Device.readyWrite_wf {d : Device} {i : Nat} {v : Word} (h0 : d.wf = true) :
    (Device.readyWrite d i v).wf = true := by
  unfold Device.readyWrite
  repeat' first
    | with_reducible assumption | with_reducible apply Device.notifyTasks_wf
    | with_reducible apply Device.requestTask_wf | with_reducible apply Device.wf_foldl

theorem Device.cancelWrite_wf {d : Device} {i : Nat} {v : Word} (h0 : d.wf = true) :
    (Device.cancelWrite d i v).wf = true := by
  unfold Device.cancelWrite
  repeat' first
    | with_reducible assumption | with_reducible apply Device.withdrawTask_wf | with_reducible apply Device.wf_foldl

theorem Device.take_wf {d : Device} {c : CoreId} (h0 : d.wf = true) :
    (Device.take d c).2.wf = true := by
  unfold Device.take
  repeat' first
    | with_reducible assumption | with_reducible apply Device.drawCosts_wf | with_reducible apply Device.put_wf
    | with_reducible apply Device.setFlag_wf | (fail_if_no_progress with_reducible apply Device.wf_mk) | split

theorem Device.finishTask_wf {d : Device} {c : CoreId} {t : Nat} (h0 : d.wf = true) :
    (Device.finishTask d c t).2.wf = true := by
  unfold Device.finishTask
  repeat' first
    | with_reducible assumption | with_reducible apply Device.notifyTasks_wf | with_reducible apply Device.setFlag_wf
    | with_reducible apply Device.taskIdle_wf | with_reducible apply Device.taskReady_wf
    | with_reducible apply Device.wf_ite | with_reducible apply Device.wf_ite_snd

theorem Device.taskStarved_wf {d : Device} {t : Nat} (h0 : d.wf = true) :
    (Device.taskStarved d t).wf = true := by
  unfold Device.taskStarved
  repeat' first
    | with_reducible assumption | with_reducible apply Device.orField_wf | with_reducible apply Device.raise_wf
    | with_reducible apply Device.setFlag_wf | with_reducible apply Device.wf_ite

theorem Device.taskBoundary_wf {d : Device} {blk : Nat} {t : Nat} (h0 : d.wf = true) :
    (Device.taskBoundary d blk t).wf = true := by
  unfold Device.taskBoundary
  repeat' first
    | with_reducible assumption | with_reducible apply Device.bump_wf | with_reducible apply Device.put_wf
    | with_reducible apply Device.requestTask_wf | with_reducible apply Device.wf_ite
    | (fail_if_no_progress with_reducible apply Device.wf_mk)

theorem Device.weirBoundary_wf {d : Device} {before : Device} {blk : Nat} (h0 : d.wf = true) (h1 : before.wf = true) :
    (Device.weirBoundary d before blk).wf = true := by
  unfold Device.weirBoundary
  repeat' first
    | intro _ | with_reducible assumption | with_reducible apply Device.notifyTasks_wf
    | with_reducible apply Device.taskBoundary_wf | with_reducible apply Device.wf_foldl

end Sys2Proof.Machine
end

