-- ==== Sys2Proof/Laws/WfRsvOps.lean ====
section
/-! SUPPORT. The functions of `Machine/RsvOps.lean` keep the canonical form of the stores. -/

namespace Sys2Proof.Machine

theorem Device.rsvFlag_wf {d : Device} {bit : Nat} {b : Bool} (h0 : d.wf = true) :
    (Device.rsvFlag d bit b).wf = true := by
  unfold Device.rsvFlag
  repeat' first
    | with_reducible assumption | with_reducible apply Device.andNotField_wf | with_reducible apply Device.orField_wf
    | with_reducible apply Device.wf_ite

theorem Device.cellLimit_wf {d : Device} {bit : Nat} {evt : Nat} {source : Nat} {holds : Bool} (h0 : d.wf = true) :
    (Device.cellLimit d bit evt source holds).wf = true := by
  unfold Device.cellLimit
  repeat' first
    | with_reducible assumption | with_reducible apply Device.orField_wf | with_reducible apply Device.raise_wf
    | with_reducible apply Device.rsvFlag_wf | with_reducible apply Device.wf_ite

theorem Device.budgetLow_wf {d : Device} {bit : Nat} {evt : Nat} {source : Nat} {scale : Rat} {free : Rat} {level : Option Rat} (h0 : d.wf = true) :
    (Device.budgetLow d bit evt source scale free level).2.wf = true := by
  unfold Device.budgetLow
  repeat' first
    | with_reducible assumption | with_reducible apply Device.fire_wf | with_reducible apply Device.orField_wf
    | with_reducible apply Device.rsvFlag_wf | with_reducible apply Device.wf_ite_snd | split

theorem Device.ceilingMoved_wf {d : Device} (h0 : d.wf = true) :
    (Device.ceilingMoved d).wf = true := by
  unfold Device.ceilingMoved
  repeat' first
    | with_reducible assumption | with_reducible apply Device.fire_wf | with_reducible apply Device.orField_wf
    | with_reducible apply Device.wf_ite | (fail_if_no_progress with_reducible apply Device.wf_mk)

theorem Device.rsvLatch_wf {d : Device} {sense : Vector (Vector Word 16) 10} (h0 : d.wf = true) :
    (Device.rsvLatch d sense).wf = true := by
  unfold Device.rsvLatch
  repeat' first
    | with_reducible assumption | (fail_if_no_progress with_reducible apply Device.wf_mk)

theorem Device.rsvCells_wf {d : Device} (h0 : d.wf = true) :
    (Device.rsvCells d).wf = true := by
  unfold Device.rsvCells
  repeat' first
    | intro _ | with_reducible assumption | with_reducible apply Device.andNotField_wf
    | with_reducible apply Device.orField_wf | with_reducible apply Device.rsvFlag_wf
    | with_reducible apply Device.wf_ite | with_reducible apply Device.wf_foldl

theorem Device.squeezed_wf {d : Device} (h0 : d.wf = true) :
    (Device.squeezed d).wf = true := by
  unfold Device.squeezed
  repeat' first
    | with_reducible assumption | with_reducible apply Device.orField_wf | with_reducible apply Device.raise_wf
    | with_reducible apply Device.rsvFlag_wf | with_reducible apply Device.wf_ite

theorem Device.reservoir_wf {d : Device} {sense : Vector (Vector Word 16) 10} (h0 : d.wf = true) :
    (Device.reservoir d sense).wf = true := by
  unfold Device.reservoir
  repeat' first
    | with_reducible assumption | with_reducible apply Device.budgetLow_wf
    | with_reducible apply Device.ceilingMoved_wf | with_reducible apply Device.cellLimit_wf
    | with_reducible apply Device.put_wf | with_reducible apply Device.rsvCells_wf
    | with_reducible apply Device.rsvLatch_wf | with_reducible apply Device.setFlag_wf
    | with_reducible apply Device.showPermits_wf | with_reducible apply Device.squeezed_wf
    | (fail_if_no_progress with_reducible apply Device.wf_mk)

theorem Device.latchIsamp_wf {d : Device} {w : Option Rat} (h0 : d.wf = true) :
    (Device.latchIsamp d w).wf = true := by
  unfold Device.latchIsamp
  repeat' first
    | with_reducible assumption | with_reducible apply Device.puti_wf
    | (fail_if_no_progress with_reducible apply Device.wf_mk) | split

end Sys2Proof.Machine
end

