-- ==== Sys2Proof/Laws/WfXmOps.lean ====
section
/-! SUPPORT. The functions of `Machine/XmOps.lean` keep the canonical form of the stores. -/

namespace Sys2Proof.Machine

theorem Companion.put_wf {c : Companion} {f : Fld} {v : Nat} (h0 : RegMap.wf c.regs = true) :
    RegMap.wf (Companion.put c f v).regs = true := by
  unfold Companion.put
  repeat' first
    | with_reducible assumption | with_reducible apply RegMap.put_wf

theorem Companion.puti_wf {c : Companion} {f : Fld} {v : Int} (h0 : RegMap.wf c.regs = true) :
    RegMap.wf (Companion.puti c f v).regs = true := by
  unfold Companion.puti
  repeat' first
    | with_reducible assumption | with_reducible apply RegMap.puti_wf

theorem Companion.answer_wf {c : Companion} {f : ChainIn} {op : Nat} {status : Nat} {payload : List Byte} (h0 : RegMap.wf c.regs = true) :
    RegMap.wf (Companion.answer c f op status payload).regs = true := by
  unfold Companion.answer
  assumption

theorem Companion.plain_wf {c : Companion} {f : ChainIn} {op : Nat} {len : Nat} {act : Companion → Companion × Nat × List Byte} (h0 : RegMap.wf c.regs = true) (h1 : ∀ x0, RegMap.wf x0.regs = true → RegMap.wf (act x0).1.regs = true) :
    RegMap.wf (Companion.plain c f op len act).regs = true := by
  unfold Companion.plain
  repeat' first
    | with_reducible assumption | with_reducible apply h1 | with_reducible apply Companion.answer_wf
    | with_reducible apply Companion.wf_ite

theorem Companion.sequenced_wf {c : Companion} {f : ChainIn} {op : Nat} {act : Companion → Companion × Nat × List Byte} (h0 : RegMap.wf c.regs = true) (h1 : ∀ x0, RegMap.wf x0.regs = true → RegMap.wf (act x0).1.regs = true) :
    RegMap.wf (Companion.sequenced c f op act).regs = true := by
  unfold Companion.sequenced
  repeat' first
    | with_reducible assumption | with_reducible apply h1 | with_reducible apply Companion.answer_wf
    | with_reducible apply Companion.wf_ite | split

theorem Companion.setFlags_wf {c : Companion} (h0 : RegMap.wf c.regs = true) :
    RegMap.wf (Companion.setFlags c).regs = true := by
  unfold Companion.setFlags
  repeat' first
    | with_reducible assumption | with_reducible apply Companion.put_wf

theorem Companion.setTsync_wf {c : Companion} {b : Bool} (h0 : RegMap.wf c.regs = true) :
    RegMap.wf (Companion.setTsync c b).regs = true := by
  unfold Companion.setTsync
  repeat' first
    | with_reducible assumption | with_reducible apply Companion.put_wf

theorem Companion.showAct_wf {c : Companion} (h0 : RegMap.wf c.regs = true) :
    RegMap.wf (Companion.showAct c).regs = true := by
  unfold Companion.showAct
  repeat' first
    | with_reducible assumption | with_reducible apply Companion.put_wf

theorem Companion.setBalEn_wf {c : Companion} {v : Nat} (h0 : RegMap.wf c.regs = true) :
    RegMap.wf (Companion.setBalEn c v).regs = true := by
  unfold Companion.setBalEn
  repeat' first
    | with_reducible assumption | with_reducible apply Companion.put_wf | with_reducible apply Companion.setFlags_wf
    | with_reducible apply Companion.showAct_wf

theorem Companion.clearCell_wf {c : Companion} {i : Nat} (h0 : RegMap.wf c.regs = true) :
    RegMap.wf (Companion.clearCell c i).regs = true := by
  unfold Companion.clearCell
  repeat' first
    | with_reducible assumption | with_reducible apply Companion.setBalEn_wf

theorem Companion.stopBalancing_wf {c : Companion} {lock : Bool} (h0 : RegMap.wf c.regs = true) :
    RegMap.wf (Companion.stopBalancing c lock).regs = true := by
  unfold Companion.stopBalancing
  repeat' first
    | with_reducible assumption | with_reducible apply Companion.put_wf | with_reducible apply Companion.setBalEn_wf
    | with_reducible apply Companion.wf_ite

theorem Companion.track_wf {c : Companion} {ratio : Rat} {ts : Nat} (h0 : RegMap.wf c.regs = true) :
    RegMap.wf (Companion.track c ratio ts).regs = true := by
  unfold Companion.track
  repeat' first
    | with_reducible assumption | with_reducible apply Companion.puti_wf

theorem Companion.grade_wf {c : Companion} (h0 : RegMap.wf c.regs = true) :
    RegMap.wf (Companion.grade c).regs = true := by
  unfold Companion.grade
  repeat' first
    | with_reducible assumption | with_reducible apply Companion.put_wf | with_reducible apply Companion.setFlags_wf
    | with_reducible apply Companion.stopBalancing_wf | with_reducible apply Companion.wf_ite | split

theorem Companion.plausCell_wf {c : Companion} {i : Fin 18} {fine : Nat} {coarse : Nat} (h0 : RegMap.wf c.regs = true) :
    RegMap.wf (Companion.plausCell c i fine coarse).regs = true := by
  unfold Companion.plausCell
  repeat' first
    | with_reducible assumption | with_reducible apply Companion.clearCell_wf | with_reducible apply Companion.put_wf
    | with_reducible apply Companion.wf_ite

theorem Companion.toSleep_wf {c : Companion} (h0 : RegMap.wf c.regs = true) :
    RegMap.wf (Companion.toSleep c).regs = true := by
  unfold Companion.toSleep
  repeat' first
    | with_reducible assumption | with_reducible apply Companion.put_wf | with_reducible apply Companion.showAct_wf
    | with_reducible apply Companion.stopBalancing_wf

theorem Companion.complete_wf {c : Companion} {x : ConvIn} (h0 : RegMap.wf c.regs = true) :
    RegMap.wf (Companion.complete c x).regs = true := by
  unfold Companion.complete
  repeat' first
    | intro _ | with_reducible assumption | with_reducible apply Companion.grade_wf
    | with_reducible apply Companion.plausCell_wf | with_reducible apply Companion.put_wf
    | with_reducible apply Companion.puti_wf | with_reducible apply Companion.setFlags_wf
    | with_reducible apply Companion.showAct_wf | with_reducible apply Companion.toSleep_wf
    | with_reducible apply Companion.track_wf | with_reducible apply Companion.wf_ite
    | with_reducible apply Companion.wf_foldl | split

theorem Companion.holdSample_wf {c : Companion} (h0 : RegMap.wf c.regs = true) :
    RegMap.wf (Companion.holdSample c).regs = true := by
  unfold Companion.holdSample
  repeat' first
    | with_reducible assumption | with_reducible apply Companion.put_wf | with_reducible apply Companion.showAct_wf
    | split

theorem Companion.after_wf {c : Companion} {dt : Nat} (h0 : RegMap.wf c.regs = true) :
    RegMap.wf (Companion.after c dt).regs = true := by
  unfold Companion.after
  assumption

theorem Companion.status_wf {c : Companion} {f : ChainIn} (h0 : RegMap.wf c.regs = true) :
    RegMap.wf (Companion.status c f).regs = true := by
  unfold Companion.status
  repeat' first
    | intro _ | with_reducible assumption | with_reducible apply Companion.plain_wf

theorem Companion.assign_wf {c : Companion} {f : ChainIn} (h0 : RegMap.wf c.regs = true) :
    RegMap.wf (Companion.assign c f).regs = true := by
  unfold Companion.assign
  repeat' first
    | with_reducible assumption | with_reducible apply Companion.answer_wf | split

theorem Companion.unassign_wf {c : Companion} (h0 : RegMap.wf c.regs = true) :
    RegMap.wf (Companion.unassign c).regs = true := by
  unfold Companion.unassign
  repeat' first
    | with_reducible assumption | with_reducible apply Companion.wf_ite

theorem Companion.readId_wf {c : Companion} {f : ChainIn} (h0 : RegMap.wf c.regs = true) :
    RegMap.wf (Companion.readId c f).regs = true := by
  unfold Companion.readId
  repeat' first
    | intro _ | with_reducible assumption | with_reducible apply Companion.plain_wf

theorem Companion.delayProbe_wf {c : Companion} {f : ChainIn} (h0 : RegMap.wf c.regs = true) :
    RegMap.wf (Companion.delayProbe c f).regs = true := by
  unfold Companion.delayProbe
  repeat' first
    | intro _ | with_reducible assumption | with_reducible apply Companion.plain_wf

theorem Companion.timeSet_wf {c : Companion} {port : Side} {us : BitVec 32} {phase : Byte} (h0 : RegMap.wf c.regs = true) :
    RegMap.wf (Companion.timeSet c port us phase).regs = true := by
  unfold Companion.timeSet
  repeat' first
    | with_reducible assumption | with_reducible apply Companion.setTsync_wf
    | with_reducible apply Companion.showAct_wf | with_reducible apply Companion.wf_ite

theorem Companion.sampleTake_wf {c : Companion} {ts : Nat} {id : BitVec 16} {mask : Byte} (h0 : RegMap.wf c.regs = true) :
    RegMap.wf (Companion.sampleTake c ts id mask).regs = true := by
  unfold Companion.sampleTake
  repeat' first
    | with_reducible assumption | with_reducible apply Companion.put_wf | with_reducible apply Companion.showAct_wf
    | with_reducible apply Companion.wf_ite

theorem Companion.sampleAt_wf {c : Companion} {dt : Nat} {us : BitVec 32} {phase : Byte} {id : BitVec 16} {mask : Byte} (h0 : RegMap.wf c.regs = true) :
    RegMap.wf (Companion.sampleAt c dt us phase id mask).regs = true := by
  unfold Companion.sampleAt
  repeat' first
    | with_reducible assumption | with_reducible apply Companion.after_wf
    | with_reducible apply Companion.sampleTake_wf | with_reducible apply Companion.wf_ite

theorem Companion.readSample_wf {c : Companion} {f : ChainIn} (h0 : RegMap.wf c.regs = true) :
    RegMap.wf (Companion.readSample c f).regs = true := by
  unfold Companion.readSample
  repeat' first
    | intro _ | with_reducible assumption | with_reducible apply Companion.plain_wf | split

theorem Companion.readReg_wf {c : Companion} {dt : Nat} {f : ChainIn} (h0 : RegMap.wf c.regs = true) :
    RegMap.wf (Companion.readReg c dt f).regs = true := by
  unfold Companion.readReg
  repeat' first
    | intro _ | with_reducible assumption | with_reducible apply Companion.after_wf
    | with_reducible apply Companion.plain_wf | with_reducible apply Companion.put_wf
    | with_reducible apply Companion.wf_ite | with_reducible apply Companion.wf_ite_fst

theorem Companion.written_wf {c : Companion} {a : Nat} {vs : List Nat} (h0 : RegMap.wf c.regs = true) :
    RegMap.wf (Companion.written c a vs).regs = true := by
  unfold Companion.written
  repeat' first
    | intro _ | with_reducible assumption | with_reducible apply Companion.put_wf
    | with_reducible apply Companion.wf_foldl | split

theorem Companion.vote_wf {c : Companion} (h0 : RegMap.wf c.regs = true) :
    RegMap.wf (Companion.vote c).regs = true := by
  unfold Companion.vote
  repeat' first
    | with_reducible assumption | with_reducible apply Companion.put_wf | with_reducible apply Companion.setFlags_wf
    | with_reducible apply Companion.wf_ite

theorem Companion.writeEffects_wf {c : Companion} {old : Companion} {a : Nat} {vs : List Nat} (h0 : RegMap.wf c.regs = true) (h1 : RegMap.wf old.regs = true) :
    RegMap.wf (Companion.writeEffects c old a vs).regs = true := by
  unfold Companion.writeEffects
  repeat' first
    | with_reducible assumption | with_reducible apply Companion.put_wf | with_reducible apply Companion.setFlags_wf
    | with_reducible apply Companion.showAct_wf | with_reducible apply Companion.stopBalancing_wf
    | with_reducible apply Companion.vote_wf | split

theorem Companion.execWrite_wf {c : Companion} {p : List Byte} (h0 : RegMap.wf c.regs = true) :
    RegMap.wf (Companion.execWrite c p).1.regs = true := by
  unfold Companion.execWrite
  repeat' first
    | with_reducible assumption | with_reducible apply Companion.writeEffects_wf
    | with_reducible apply Companion.written_wf | with_reducible apply Companion.wf_ite_fst

theorem Companion.writeReg_wf {c : Companion} {f : ChainIn} (h0 : RegMap.wf c.regs = true) :
    RegMap.wf (Companion.writeReg c f).regs = true := by
  unfold Companion.writeReg
  repeat' first
    | intro _ | with_reducible assumption | with_reducible apply Companion.execWrite_wf
    | with_reducible apply Companion.sequenced_wf

theorem Companion.collect_wf {c : Companion} {f : ChainIn} (h0 : RegMap.wf c.regs = true) :
    RegMap.wf (Companion.collect c f).regs = true := by
  unfold Companion.collect
  repeat' first
    | intro _ | with_reducible assumption | with_reducible apply Companion.plain_wf | split

theorem Companion.sleepSoon_wf {c : Companion} (h0 : RegMap.wf c.regs = true) :
    RegMap.wf (Companion.sleepSoon c).regs = true := by
  unfold Companion.sleepSoon
  repeat' first
    | with_reducible assumption | with_reducible apply Companion.showAct_wf
    | with_reducible apply Companion.toSleep_wf | with_reducible apply Companion.wf_ite

theorem Companion.sleep_wf {c : Companion} {bc : Bool} {f : ChainIn} (h0 : RegMap.wf c.regs = true) :
    RegMap.wf (Companion.sleep c bc f).regs = true := by
  unfold Companion.sleep
  repeat' first
    | intro _ | with_reducible assumption | with_reducible apply Companion.plain_wf
    | with_reducible apply Companion.sleepSoon_wf | with_reducible apply Companion.wf_ite

theorem Companion.undefined_wf {c : Companion} {op : Nat} {bc : Bool} {f : ChainIn} (h0 : RegMap.wf c.regs = true) :
    RegMap.wf (Companion.undefined c op bc f).regs = true := by
  unfold Companion.undefined
  repeat' first
    | intro _ | with_reducible assumption | with_reducible apply Companion.sequenced_wf
    | with_reducible apply Companion.wf_ite

theorem Companion.repeatFrame_wf {c : Companion} {port : Side} {bytes : List Byte} (h0 : RegMap.wf c.regs = true) :
    RegMap.wf (Companion.repeatFrame c port bytes).regs = true := by
  unfold Companion.repeatFrame
  repeat' first
    | with_reducible assumption | with_reducible apply Companion.put_wf | with_reducible apply Companion.wf_ite

theorem Companion.tsyncLost_wf {c : Companion} {ms : Nat} (h0 : RegMap.wf c.regs = true) :
    RegMap.wf (Companion.tsyncLost c ms).regs = true := by
  unfold Companion.tsyncLost
  repeat' first
    | with_reducible assumption | with_reducible apply Companion.setTsync_wf
    | with_reducible apply Companion.showAct_wf | with_reducible apply Companion.wf_ite

theorem Companion.balance_wf {c : Companion} {die : Int} (h0 : RegMap.wf c.regs = true) :
    RegMap.wf (Companion.balance c die).regs = true := by
  unfold Companion.balance
  repeat' first
    | with_reducible assumption | with_reducible apply Companion.put_wf | with_reducible apply Companion.showAct_wf
    | with_reducible apply Companion.stopBalancing_wf | with_reducible apply Companion.wf_ite

theorem Companion.timerExpire_wf {c : Companion} {i : Fin 18} (h0 : RegMap.wf c.regs = true) :
    RegMap.wf (Companion.timerExpire c i).regs = true := by
  unfold Companion.timerExpire
  repeat' first
    | with_reducible assumption | with_reducible apply Companion.clearCell_wf | with_reducible apply Companion.wf_ite

theorem Companion.owStart_wf {c : Companion} (h0 : RegMap.wf c.regs = true) :
    RegMap.wf (Companion.owStart c).regs = true := by
  unfold Companion.owStart
  repeat' first
    | with_reducible assumption | with_reducible apply Companion.showAct_wf | with_reducible apply Companion.wf_ite

theorem Companion.owEnd_wf {c : Companion} {before : Vector Nat 18} {after : Vector (Vector Nat 18) 19} (h0 : RegMap.wf c.regs = true) :
    RegMap.wf (Companion.owEnd c before after).regs = true := by
  unfold Companion.owEnd
  repeat' first
    | intro _ | with_reducible assumption | with_reducible apply Companion.clearCell_wf
    | with_reducible apply Companion.put_wf | with_reducible apply Companion.setFlags_wf
    | with_reducible apply Companion.showAct_wf | with_reducible apply Companion.wf_ite
    | with_reducible apply Companion.wf_foldl

theorem Companion.wake_wf {c : Companion} {why : Nat} (h0 : RegMap.wf c.regs = true) :
    RegMap.wf (Companion.wake c why).regs = true := by
  unfold Companion.wake
  repeat' first
    | with_reducible assumption | with_reducible apply Companion.put_wf | with_reducible apply Companion.setTsync_wf

theorem Companion.windowCheck_wf {c : Companion} {coarse : Vector (BitVec 10) 18} {ntc : List (Option Int)} (h0 : RegMap.wf c.regs = true) :
    RegMap.wf (Companion.windowCheck c coarse ntc).regs = true := by
  unfold Companion.windowCheck
  repeat' first
    | intro _ | with_reducible assumption | with_reducible apply Companion.put_wf
    | with_reducible apply Companion.puti_wf | with_reducible apply Companion.wake_wf
    | with_reducible apply Companion.wf_ite | with_reducible apply Companion.wf_foldl | split

theorem Companion.hearTone_wf {c : Companion} (h0 : RegMap.wf c.regs = true) :
    RegMap.wf (Companion.hearTone c).regs = true := by
  unfold Companion.hearTone
  repeat' first
    | with_reducible assumption | with_reducible apply Companion.wake_wf | with_reducible apply Companion.wf_ite

theorem Device.companion_wf {d : Device} {k : Fin 64} (h0 : d.wf = true) :
    RegMap.wf (Device.companion d k).regs = true := by
  unfold Device.companion
  repeat' first
    | with_reducible assumption | with_reducible apply Device.wf_companion

end Sys2Proof.Machine
end

