-- ==== Sys2Proof/Laws/WfHostCore.lean ====
section
/-! SUPPORT. The functions of `Machine/HostCore.lean` keep the canonical form of the stores. -/

namespace Sys2Proof.Machine

theorem Device.trnSend_wf {d : Device} {dst : Nat} {type : Nat} {payload : List Byte} {flags : Nat} (h0 : d.wf = true) :
    (Device.trnSend d dst type payload flags).wf = true := by
  unfold Device.trnSend
  repeat' first
    | with_reducible assumption | (fail_if_no_progress with_reducible apply Device.wf_mk)

theorem Device.trnFragments_wf {d : Device} {dst : Nat} {type : Nat} {client : Client} {frame : List Byte} (h0 : d.wf = true) :
    (Device.trnFragments d dst type client frame).wf = true := by
  unfold Device.trnFragments
  repeat' first
    | intro _ | with_reducible assumption | with_reducible apply Device.trnSend_wf
    | with_reducible apply Device.wf_foldl

theorem Device.setPort_wf {d : Device} {c : Client} {h : Hp} (h0 : d.wf = true) :
    (Device.setPort d c h).wf = true := by
  unfold Device.setPort
  repeat' first
    | with_reducible assumption | (fail_if_no_progress with_reducible apply Device.wf_mk) | split

theorem Device.pushOut_wf {d : Device} {c : Client} {frame : List Byte} (h0 : d.wf = true) :
    (Device.pushOut d c frame).wf = true := by
  unfold Device.pushOut
  repeat' first
    | with_reducible assumption | with_reducible apply Device.setPort_wf

theorem Device.hpEvt_wf {d : Device} {c : Client} {v : Nat} (h0 : d.wf = true) :
    (Device.hpEvt d c v).wf = true := by
  unfold Device.hpEvt
  repeat' first
    | with_reducible assumption | with_reducible apply Device.orField_wf

theorem Device.creqDone_wf {d : Device} {status : Nat} {extra : Nat} {data : List Byte} (h0 : d.wf = true) :
    (Device.creqDone d status extra data).wf = true := by
  unfold Device.creqDone
  repeat' first
    | with_reducible assumption | with_reducible apply Device.bufferWrite_wf | with_reducible apply Device.put_wf

theorem Device.deliverResponse_wf {d : Device} {fuel : Nat} {c : Client} {k : Cmd} {payload : List Byte} (h0 : d.wf = true) :
    (Device.deliverResponse d fuel c k payload).wf = true := by
  induction fuel generalizing d c k payload with
  | zero => exact h0
  | succ n ih =>
    unfold Device.deliverResponse
    split
    · exact Device.pushOut_wf h0
    · exact Device.trnFragments_wf h0
    · exact Device.creqDone_wf h0
    · extract_lets
      split
      · exact Device.bump_wf h0
      · exact Device.bump_wf h0
      · exact ih (Device.setPort_wf h0)

theorem Device.finishCmd_wf {d : Device} {c : Client} {k : Cmd} {payload : List Byte} (h0 : d.wf = true) :
    (Device.finishCmd d c k payload).wf = true := by
  unfold Device.finishCmd
  repeat' first
    | with_reducible assumption | with_reducible apply Device.deliverResponse_wf
    | with_reducible apply Device.setPort_wf | split

theorem Device.creqEnter_wf {d : Device} (h0 : d.wf = true) :
    (Device.creqEnter d).wf = true := by
  unfold Device.creqEnter
  repeat' first
    | with_reducible assumption | with_reducible apply Device.readBuffer_wf | with_reducible apply Device.setPort_wf
    | with_reducible apply Device.wf_ite | (fail_if_no_progress with_reducible apply Device.wf_mk)

theorem Device.complete_wf {d : Device} {c : Client} {status : Nat} {extra : Nat} {data : List Byte} (h0 : d.wf = true) :
    (Device.complete d c status extra data).wf = true := by
  unfold Device.complete
  repeat' first
    | with_reducible assumption | with_reducible apply Device.creqEnter_wf | with_reducible apply Device.finishCmd_wf
    | with_reducible apply Device.setPort_wf | split | (fail_if_no_progress extract_lets)

theorem Device.beginCmd_wf {d : Device} {c : Client} (h0 : d.wf = true) :
    (Device.beginCmd d c).wf = true := by
  unfold Device.beginCmd
  repeat' first
    | with_reducible assumption | with_reducible apply Device.put_wf | with_reducible apply Device.setPort_wf | split

theorem Device.abortQueue_wf {d : Device} {c : Client} (h0 : d.wf = true) :
    (Device.abortQueue d c).wf = true := by
  unfold Device.abortQueue
  repeat' first
    | intro _ | with_reducible assumption | with_reducible apply Device.finishCmd_wf
    | with_reducible apply Device.hpEvt_wf | with_reducible apply Device.log_wf
    | with_reducible apply Device.setPort_wf | with_reducible apply Device.wf_foldl | split
    | (fail_if_no_progress extract_lets)

theorem Device.setExp_wf {d : Device} {c : Client} {v : Nat} (h0 : d.wf = true) :
    (Device.setExp d c v).wf = true := by
  unfold Device.setExp
  repeat' first
    | with_reducible assumption | with_reducible apply Device.put_wf

theorem Device.protoErr_wf {d : Device} (h0 : d.wf = true) :
    (Device.protoErr d).wf = true := by
  unfold Device.protoErr
  repeat' first
    | with_reducible assumption | with_reducible apply Device.fire_wf

theorem Device.answerNow_wf {d : Device} {c : Client} {k : Cmd} {status : Nat} {extra : Nat} (h0 : d.wf = true) :
    (Device.answerNow d c k status extra).wf = true := by
  unfold Device.answerNow
  repeat' first
    | with_reducible assumption | with_reducible apply Device.deliverResponse_wf

theorem Device.enqueueCmd_wf {d : Device} {c : Client} {k : Cmd} (h0 : d.wf = true) :
    (Device.enqueueCmd d c k).wf = true := by
  unfold Device.enqueueCmd
  repeat' first
    | with_reducible assumption | with_reducible apply Device.orField_wf | with_reducible apply Device.setPort_wf
    | with_reducible apply Device.wf_ite

theorem Device.judgeSeq_wf {d : Device} {c : Client} {k : Cmd} (h0 : d.wf = true) :
    (Device.judgeSeq d c k).wf = true := by
  unfold Device.judgeSeq
  repeat' first
    | with_reducible assumption | with_reducible apply Device.answerNow_wf | with_reducible apply Device.bump_wf
    | with_reducible apply Device.deliverResponse_wf | with_reducible apply Device.enqueueCmd_wf
    | with_reducible apply Device.setExp_wf | with_reducible apply Device.wf_ite | split

theorem Device.arrive_wf {d : Device} {c : Client} {frame : List Byte} {o : Origin} (h0 : d.wf = true) :
    (Device.arrive d c frame o).wf = true := by
  unfold Device.arrive
  repeat' first
    | with_reducible assumption | with_reducible apply Device.answerNow_wf | with_reducible apply Device.bump_wf
    | with_reducible apply Device.hpEvt_wf | with_reducible apply Device.judgeSeq_wf
    | with_reducible apply Device.protoErr_wf | with_reducible apply Device.wf_ite

theorem Device.arriveWhole_wf {d : Device} {c : Client} {frame : List Byte} {o : Origin} (h0 : d.wf = true) :
    (Device.arriveWhole d c frame o).wf = true := by
  unfold Device.arriveWhole
  repeat' first
    | with_reducible assumption | with_reducible apply Device.arrive_wf | with_reducible apply Device.bump_wf
    | with_reducible apply Device.hpEvt_wf | with_reducible apply Device.protoErr_wf
    | with_reducible apply Device.wf_ite

end Sys2Proof.Machine
end

