-- ==== Sys2Proof/Laws/WfSecOps.lean ====
section
/-! SUPPORT. The functions of `Machine/SecOps.lean` keep the canonical form of the stores. -/

namespace Sys2Proof.Machine

theorem Device.program_wf {d : Device} {o : Nat} {n : Nat} (h0 : d.wf = true) :
    (Device.program d o n).wf = true := by
  unfold Device.program
  repeat' first
    | with_reducible assumption | with_reducible apply Device.log_wf | with_reducible apply Device.orField_wf
    | with_reducible apply Device.put_wf | with_reducible apply Device.wf_ite
    | (fail_if_no_progress with_reducible apply Device.wf_mk)

theorem Device.showNvs_wf {d : Device} (h0 : d.wf = true) :
    (Device.showNvs d).wf = true := by
  unfold Device.showNvs
  repeat' first
    | with_reducible assumption | with_reducible apply Device.put_wf | with_reducible apply Device.setFlag_wf

theorem Device.putLine_wf {d : Device} {j : LineJob} (h0 : d.wf = true) :
    (Device.putLine d j).wf = true := by
  unfold Device.putLine
  repeat' first
    | with_reducible assumption | with_reducible apply Device.put_wf | with_reducible apply Device.setBytes_wf
    | with_reducible apply Device.showNvs_wf | (fail_if_no_progress with_reducible apply Device.wf_mk) | split

theorem Device.spoilLine_wf {d : Device} {j : LineJob} (h0 : d.wf = true) :
    (Device.spoilLine d j).wf = true := by
  unfold Device.spoilLine
  repeat' first
    | with_reducible assumption | with_reducible apply Device.setBytes_wf | with_reducible apply Device.showNvs_wf
    | (fail_if_no_progress with_reducible apply Device.wf_mk) | split

theorem Device.countLine_wf {d : Device} {j : LineJob} {fails : Bool} (h0 : d.wf = true) :
    (Device.countLine d j fails).wf = true := by
  unfold Device.countLine
  repeat' first
    | with_reducible assumption | with_reducible apply Device.program_wf | with_reducible apply Device.wf_ite

theorem Device.nvsErr_wf {d : Device} {o : Nat} (h0 : d.wf = true) :
    (Device.nvsErr d o).wf = true := by
  unfold Device.nvsErr
  repeat' first
    | with_reducible assumption | with_reducible apply Device.orField_wf | with_reducible apply Device.put_wf
    | with_reducible apply Device.raise_wf

theorem Device.nvsWordRead_wf {d : Device} {e : Nat × Option (Fin 72)} (h0 : d.wf = true) :
    (Device.nvsWordRead d e).wf = true := by
  unfold Device.nvsWordRead
  repeat' first
    | with_reducible assumption | with_reducible apply Device.nvsErr_wf | with_reducible apply Device.orField_wf
    | with_reducible apply Device.raise_wf | split

theorem Device.nvsScan_wf {d : Device} {o : Nat} {n : Nat} (h0 : d.wf = true) :
    (Device.nvsScan d o n).2.wf = true := by
  unfold Device.nvsScan
  repeat' first
    | with_reducible assumption | with_reducible apply Device.nvsWordRead_wf | with_reducible apply Device.wf_foldl

theorem Device.endLine_wf {d : Device} {j : LineJob} {fails : Bool} (h0 : d.wf = true) :
    (Device.endLine d j fails).wf = true := by
  unfold Device.endLine
  repeat' first
    | with_reducible assumption | with_reducible apply Device.countLine_wf | with_reducible apply Device.nvsErr_wf
    | with_reducible apply Device.putLine_wf | with_reducible apply Device.spoilLine_wf
    | with_reducible apply Device.systemFault_wf | with_reducible apply Device.wf_ite
    | (fail_if_no_progress with_reducible apply Device.wf_mk)

theorem Device.authDone_wf {d : Device} {kind : Nat} {result : Nat} {index : Nat} {tag : Nat} (h0 : d.wf = true) :
    (Device.authDone d kind result index tag).wf = true := by
  unfold Device.authDone
  repeat' first
    | with_reducible assumption | with_reducible apply Device.fire_wf | with_reducible apply Device.put_wf

theorem Device.showRosters_wf {d : Device} (h0 : d.wf = true) :
    (Device.showRosters d).wf = true := by
  unfold Device.showRosters
  repeat' first
    | with_reducible assumption | with_reducible apply Device.put_wf | with_reducible apply Device.setFlag_wf

theorem Device.updError_wf {d : Device} {c : Client} {opcode : Nat} {code : Nat} (h0 : d.wf = true) :
    (Device.updError d c opcode code).wf = true := by
  unfold Device.updError
  repeat' first
    | with_reducible assumption | with_reducible apply Device.complete_wf

theorem Device.opCut_wf {d : Device} {op : SecOp} {code : Nat} (h0 : d.wf = true) :
    (Device.opCut d op code).wf = true := by
  have key : ∀ e : Device, e.wf = true → (match op.reply with
  | some r =>
    match (e.port r.client).queue with
    | k :: _ => e.updError r.client k.opcode code
    | [] => e
  | none => e).wf = true := by
    intro e he
    split
    · split
      · exact Device.updError_wf he
      · exact he
    · exact he
  refine key _ ?_
  extract_lets
  split
  · exact Device.putLine_wf h0
  · split
    · split
      · exact Device.putLine_wf h0
      · exact h0
    · exact h0
  · exact h0

theorem Device.nvsPick_wf {d : Device} (h0 : d.wf = true) :
    (Device.nvsPick d).wf = true := by
  unfold Device.nvsPick
  repeat' first
    | intro _ | with_reducible assumption | with_reducible apply Device.opCut_wf | with_reducible apply Device.wf_ite
    | with_reducible apply Device.wf_foldl | (fail_if_no_progress with_reducible apply Device.wf_mk) | split

theorem Device.nvsBoundary_wf {d : Device} (h0 : d.wf = true) :
    (Device.nvsBoundary d).wf = true := by
  unfold Device.nvsBoundary
  repeat' first
    | intro _ | with_reducible assumption | with_reducible apply Device.nvsPick_wf
    | with_reducible apply Device.opCut_wf | with_reducible apply Device.wf_foldl
    | (fail_if_no_progress with_reducible apply Device.wf_mk)

theorem Device.secOp_wf {d : Device} {op : SecOp} (h0 : d.wf = true) :
    (Device.secOp d op).wf = true := by
  unfold Device.secOp
  repeat' first
    | with_reducible assumption | with_reducible apply Device.nvsPick_wf
    | (fail_if_no_progress with_reducible apply Device.wf_mk)

theorem Device.updStart_wf {d : Device} {c : Client} {lines : List LineJob} {data : List Byte} {act : SecAct} {status : Nat} {extra : Nat} (h0 : d.wf = true) :
    (Device.updStart d c lines data act status extra).wf = true := by
  unfold Device.updStart
  repeat' first
    | with_reducible assumption | with_reducible apply Device.beginCmd_wf | with_reducible apply Device.secOp_wf

theorem Device.updBegin_wf {d : Device} {c : Client} {p : List Byte} (h0 : d.wf = true) :
    (Device.updBegin d c p).wf = true := by
  unfold Device.updBegin
  repeat' first
    | with_reducible assumption | with_reducible apply Device.complete_wf | with_reducible apply Device.updError_wf
    | with_reducible apply Device.updStart_wf | with_reducible apply Device.wf_ite

theorem Device.updData_wf {d : Device} {c : Client} {p : List Byte} (h0 : d.wf = true) :
    (Device.updData d c p).wf = true := by
  unfold Device.updData
  repeat' first
    | with_reducible assumption | with_reducible apply Device.complete_wf | with_reducible apply Device.nvsScan_wf
    | with_reducible apply Device.updError_wf | with_reducible apply Device.updStart_wf
    | with_reducible apply Device.wf_ite

theorem Device.updStatus_wf {d : Device} {c : Client} (h0 : d.wf = true) :
    (Device.updStatus d c).wf = true := by
  unfold Device.updStatus
  repeat' first
    | with_reducible assumption | with_reducible apply Device.complete_wf

theorem Device.updVerify_wf {d : Device} {c : Client} (h0 : d.wf = true) :
    (Device.updVerify d c).wf = true := by
  unfold Device.updVerify
  repeat' first
    | with_reducible assumption | with_reducible apply Device.complete_wf | with_reducible apply Device.fire_wf
    | with_reducible apply Device.nvsScan_wf | with_reducible apply Device.updError_wf
    | with_reducible apply Device.updStart_wf | with_reducible apply Device.wf_ite

theorem Device.updActivate_wf {d : Device} {c : Client} {p : List Byte} (h0 : d.wf = true) :
    (Device.updActivate d c p).wf = true := by
  unfold Device.updActivate
  repeat' first
    | with_reducible assumption | with_reducible apply Device.complete_wf | with_reducible apply Device.nvsScan_wf
    | with_reducible apply Device.updError_wf | with_reducible apply Device.updStart_wf
    | with_reducible apply Device.wf_ite

theorem Device.updConfirm_wf {d : Device} {c : Client} (h0 : d.wf = true) :
    (Device.updConfirm d c).wf = true := by
  unfold Device.updConfirm
  repeat' first
    | with_reducible assumption | with_reducible apply Device.beginCmd_wf | with_reducible apply Device.secOp_wf
    | with_reducible apply Device.updError_wf | split

theorem Device.updAbort_wf {d : Device} {c : Client} (h0 : d.wf = true) :
    (Device.updAbort d c).wf = true := by
  unfold Device.updAbort
  repeat' first
    | with_reducible assumption | with_reducible apply Device.complete_wf | with_reducible apply Device.updStart_wf
    | with_reducible apply Device.wf_ite

theorem Device.updKeyAt_wf {d : Device} {c : Client} {k : Fin 4} {op : Nat} {value : BitVec 256} (h0 : d.wf = true) :
    (Device.updKeyAt d c k op value).wf = true := by
  unfold Device.updKeyAt
  repeat' first
    | with_reducible assumption | with_reducible apply Device.complete_wf | with_reducible apply Device.updError_wf
    | with_reducible apply Device.updStart_wf | with_reducible apply Device.wf_ite | split

theorem Device.updKey_wf {d : Device} {c : Client} {p : List Byte} (h0 : d.wf = true) :
    (Device.updKey d c p).wf = true := by
  unfold Device.updKey
  repeat' first
    | with_reducible assumption | with_reducible apply Device.complete_wf | with_reducible apply Device.updKeyAt_wf
    | split | (fail_if_no_progress extract_lets)

end Sys2Proof.Machine
end

