-- ==== Sys2Proof/Laws/WfSedOps.lean ====
section
/-! SUPPORT. The functions of `Machine/SedOps.lean` keep the canonical form of the stores. -/

namespace Sys2Proof.Machine

theorem Device.judgeHalf_wf {d : Device} (h0 : d.wf = true) :
    (Device.judgeHalf d).wf = true := by
  unfold Device.judgeHalf
  repeat' first
    | with_reducible assumption | with_reducible apply Device.fire_wf | with_reducible apply Device.orField_wf
    | with_reducible apply Device.wf_ite | (fail_if_no_progress with_reducible apply Device.wf_mk)

theorem Device.queuePersist_wf {d : Device} {seq : Nat} {bs : List Byte} (h0 : d.wf = true) :
    (Device.queuePersist d seq bs).wf = true := by
  unfold Device.queuePersist
  repeat' first
    | with_reducible assumption | with_reducible apply Device.bump_wf | with_reducible apply Device.nvsPick_wf
    | with_reducible apply Device.orField_wf | with_reducible apply Device.wf_ite
    | (fail_if_no_progress with_reducible apply Device.wf_mk)

theorem Device.followOldest_wf {d : Device} {seq : Nat} (h0 : d.wf = true) :
    (Device.followOldest d seq).wf = true := by
  unfold Device.followOldest
  repeat' first
    | with_reducible assumption | with_reducible apply Device.put_wf

theorem Device.followEmpty_wf {d : Device} {seq : Nat} (h0 : d.wf = true) :
    (Device.followEmpty d seq).wf = true := by
  unfold Device.followEmpty
  repeat' first
    | with_reducible assumption | with_reducible apply Device.put_wf | with_reducible apply Device.wf_ite

theorem Device.writeEntry_wf {d : Device} {e : LogEntry} (h0 : d.wf = true) :
    (Device.writeEntry d e).wf = true := by
  unfold Device.writeEntry
  repeat' first
    | intro _ | with_reducible assumption | with_reducible apply Device.bump_wf | with_reducible apply Device.fire_wf
    | with_reducible apply Device.followEmpty_wf | with_reducible apply Device.followOldest_wf
    | with_reducible apply Device.judgeHalf_wf | with_reducible apply Device.orField_wf
    | with_reducible apply Device.put_wf | with_reducible apply Device.queuePersist_wf
    | with_reducible apply Device.storeWord_wf | with_reducible apply Device.wf_foldl
    | (fail_if_no_progress with_reducible apply Device.wf_mk) | split

theorem Device.closeGap_wf {d : Device} (h0 : d.wf = true) :
    (Device.closeGap d).wf = true := by
  unfold Device.closeGap
  repeat' first
    | with_reducible assumption | (fail_if_no_progress with_reducible apply Device.wf_mk) | split

theorem Device.logWrite_wf {d : Device} (h0 : d.wf = true) :
    (Device.logWrite d).wf = true := by
  unfold Device.logWrite
  repeat' first
    | with_reducible assumption | with_reducible apply Device.closeGap_wf | with_reducible apply Device.writeEntry_wf
    | (fail_if_no_progress with_reducible apply Device.wf_mk) | split

theorem Device.showPersisted_wf {d : Device} (h0 : d.wf = true) :
    (Device.showPersisted d).wf = true := by
  unfold Device.showPersisted
  repeat' first
    | with_reducible assumption | with_reducible apply Device.put_wf

theorem Device.persistWrite_wf {d : Device} {fails : Bool} (h0 : d.wf = true) :
    (Device.persistWrite d fails).wf = true := by
  unfold Device.persistWrite
  repeat' first
    | with_reducible assumption | with_reducible apply Device.endLine_wf | with_reducible apply Device.nvsPick_wf
    | with_reducible apply Device.showPersisted_wf | (fail_if_no_progress with_reducible apply Device.wf_mk) | split

theorem Device.ackWrite_wf {d : Device} {v : Nat} (h0 : d.wf = true) :
    (Device.ackWrite d v).wf = true := by
  unfold Device.ackWrite
  repeat' first
    | with_reducible assumption | with_reducible apply Device.judgeHalf_wf | with_reducible apply Device.put_wf
    | with_reducible apply Device.wf_ite | (fail_if_no_progress with_reducible apply Device.wf_mk)

theorem Device.softEntry_wf {d : Device} (h0 : d.wf = true) :
    (Device.softEntry d).wf = true := by
  unfold Device.softEntry
  repeat' first
    | with_reducible assumption | with_reducible apply Device.log_wf

theorem Device.clearSysfault_wf {d : Device} {v : Word} (h0 : d.wf = true) :
    (Device.clearSysfault d v).wf = true := by
  unfold Device.clearSysfault
  repeat' first
    | with_reducible assumption | with_reducible apply Device.setWord_wf | with_reducible apply Device.wf_ite

theorem Device.scanErrors_wf {d : Device} (h0 : d.wf = true) :
    (Device.scanErrors d).wf = true := by
  unfold Device.scanErrors
  repeat' first
    | intro _ | with_reducible assumption | with_reducible apply Device.nvsScan_wf
    | with_reducible apply Device.readChecked_wf | with_reducible apply Device.wf_foldl

theorem Device.startupScan_wf {d : Device} (h0 : d.wf = true) :
    (Device.startupScan d).wf = true := by
  unfold Device.startupScan
  repeat' first
    | with_reducible assumption | with_reducible apply Device.put_wf | with_reducible apply Device.showPersisted_wf
    | (fail_if_no_progress with_reducible apply Device.wf_mk)

theorem Device.logPlace_wf {d : Device} {a0 : LogPlace} (h0 : d.wf = true) :
    (Device.logPlace d a0).2.wf = true := by
  unfold Device.logPlace
  repeat' first
    | with_reducible assumption | with_reducible apply Device.nvsScan_wf | with_reducible apply Device.readRun_wf
    | split

theorem Device.logTake_wf {d : Device} {a0 : List LogPlace} {a1 : Nat} (h0 : d.wf = true) :
    (Device.logTake d a0 a1).2.wf = true := by
  induction a0 generalizing d a1 with
  | nil => cases a1 <;> exact h0
  | cons p t ih =>
    cases a1 with
    | zero => exact h0
    | succ n =>
      have h := Device.logPlace_wf (a0 := p) h0
      simp only [Device.logTake]
      generalize d.logPlace p = r at h
      obtain ⟨_ | e, f⟩ := r
      · exact ih h
      · exact ih h

end Sys2Proof.Machine
end

