-- ==== Sys2Proof/Laws/WfShlOps.lean ====
section
/-! SUPPORT. The functions of `Machine/ShlOps.lean` keep the canonical form of the stores. -/

namespace Sys2Proof.Machine

theorem Device.setShlPrev_wf {d : Device} {k : Nat} {p : PrevReply} (h0 : d.wf = true) :
    (Device.setShlPrev d k p).wf = true := by
  unfold Device.setShlPrev
  repeat' first
    | with_reducible assumption | (fail_if_no_progress with_reducible apply Device.wf_mk) | split

theorem Device.showNtc_wf {d : Device} (h0 : d.wf = true) :
    (Device.showNtc d).wf = true := by
  unfold Device.showNtc
  dsimp only
  generalize d.shl.prev.toList.flatMap PrevReply.ntc = l
  cases l
  · exact Device.setFlag_wf h0
  · exact Device.setFlag_wf (Device.puti_wf _ _ (Device.puti_wf _ _ h0))

theorem Device.dropCells_wf {d : Device} {k : Nat} {flags : Nat} (h0 : d.wf = true) :
    (Device.dropCells d k flags).wf = true := by
  unfold Device.dropCells
  repeat' first
    | intro _ | with_reducible assumption | with_reducible apply Device.put_wf | with_reducible apply Device.wf_foldl

theorem Device.cellsUnreach_wf {d : Device} {k : Nat} (h0 : d.wf = true) :
    (Device.cellsUnreach d k).wf = true := by
  unfold Device.cellsUnreach
  repeat' first
    | intro _ | with_reducible assumption | with_reducible apply Device.orField_wf
    | with_reducible apply Device.wf_foldl

theorem Device.deliverCell_wf {d : Device} {k : Nat} {i : Nat} {v : Nat} {dev : Nat} {flags : Nat} (h0 : d.wf = true) :
    (Device.deliverCell d k i v dev flags).wf = true := by
  unfold Device.deliverCell
  repeat' first
    | with_reducible assumption | with_reducible apply Device.put_wf | with_reducible apply Device.wf_ite
    | (fail_if_no_progress with_reducible apply Device.wf_mk) | split

theorem Device.replyEvents_wf {d : Device} {k : Nat} {p : List Byte} {flags : Nat} {bad : Bool} {mapBad : Bool} (h0 : d.wf = true) :
    (Device.replyEvents d k p flags bad mapBad).wf = true := by
  unfold Device.replyEvents
  repeat' first
    | with_reducible assumption | with_reducible apply Device.fire_wf | with_reducible apply Device.raise_wf
    | with_reducible apply Device.wf_ite

theorem Device.deliverReading_wf {d : Device} {k : Nat} {stranger : Bool} {unreach : Bool} {p : List Byte} {i9 : Option Rat} (h0 : d.wf = true) :
    (Device.deliverReading d k stranger unreach p i9).wf = true := by
  unfold Device.deliverReading
  repeat' first
    | intro _ | with_reducible assumption | with_reducible apply Device.cellsUnreach_wf
    | with_reducible apply Device.deliverCell_wf | with_reducible apply Device.dropCells_wf
    | with_reducible apply Device.latchIsamp_wf | with_reducible apply Device.put_wf
    | with_reducible apply Device.replyEvents_wf | with_reducible apply Device.setFlag_wf
    | with_reducible apply Device.setShlPrev_wf | with_reducible apply Device.showNtc_wf
    | with_reducible apply Device.wf_ite | with_reducible apply Device.wf_foldl

theorem Device.showReach_wf {d : Device} (h0 : d.wf = true) :
    (Device.showReach d).wf = true := by
  unfold Device.showReach
  repeat' first
    | with_reducible assumption | with_reducible apply Device.put_wf

theorem Device.setReach_wf {d : Device} {k : Nat} {r : Nat} (h0 : d.wf = true) :
    (Device.setReach d k r).wf = true := by
  unfold Device.setReach
  repeat' first
    | with_reducible assumption | with_reducible apply Device.cellsUnreach_wf | with_reducible apply Device.put_wf
    | with_reducible apply Device.showReach_wf | with_reducible apply Device.wf_ite

theorem Device.shlEvt_wf {d : Device} {v : Nat} (h0 : d.wf = true) :
    (Device.shlEvt d v).wf = true := by
  unfold Device.shlEvt
  repeat' first
    | with_reducible assumption | with_reducible apply Device.orField_wf

theorem Device.shlSend_wf {d : Device} {side : Side} {bytes : List Byte} (h0 : d.wf = true) :
    (Device.shlSend d side bytes).wf = true := by
  unfold Device.shlSend
  repeat' first
    | with_reducible assumption | (fail_if_no_progress with_reducible apply Device.wf_mk)

theorem Device.shlBroadcast_wf {d : Device} {op : Nat} {payload : List Byte} (h0 : d.wf = true) :
    (Device.shlBroadcast d op payload).wf = true := by
  unfold Device.shlBroadcast
  repeat' first
    | with_reducible assumption | with_reducible apply Device.shlSend_wf | with_reducible apply Device.wf_ite
    | (fail_if_no_progress with_reducible apply Device.wf_mk)

theorem Device.sendLoop_wf {d : Device} (h0 : d.wf = true) :
    (Device.sendLoop d).wf = true := by
  unfold Device.sendLoop
  repeat' first
    | with_reducible assumption | with_reducible apply Device.shlSend_wf
    | (fail_if_no_progress with_reducible apply Device.wf_mk)

theorem Device.sendJob_wf {d : Device} {j : Job} (h0 : d.wf = true) :
    (Device.sendJob d j).wf = true := by
  unfold Device.sendJob
  repeat' first
    | with_reducible assumption | with_reducible apply Device.shlSend_wf
    | (fail_if_no_progress with_reducible apply Device.wf_mk)

theorem Device.startJob_wf {d : Device} {j : Job} (h0 : d.wf = true) :
    (Device.startJob d j).wf = true := by
  unfold Device.startJob
  repeat' first
    | with_reducible assumption | with_reducible apply Device.put_wf | with_reducible apply Device.sendJob_wf
    | with_reducible apply Device.setFlag_wf | split

theorem Device.addJob_wf {d : Device} {j : Job} (h0 : d.wf = true) :
    (Device.addJob d j).wf = true := by
  unfold Device.addJob
  repeat' first
    | with_reducible assumption | (fail_if_no_progress with_reducible apply Device.wf_mk)

theorem Device.recordOutcome_wf {d : Device} {k : Nat} {seq : Nat} {kind : Nat} {status : Nat} {op : Nat} (h0 : d.wf = true) :
    (Device.recordOutcome d k seq kind status op).wf = true := by
  unfold Device.recordOutcome
  repeat' first
    | with_reducible assumption | with_reducible apply Device.fire_wf | with_reducible apply Device.log_wf
    | with_reducible apply Device.put_wf | with_reducible apply Device.setFlag_wf
    | with_reducible apply Device.wf_ite

theorem Device.setPendOf_wf {d : Device} {k : Nat} {p : Nat × Nat} (h0 : d.wf = true) :
    (Device.setPendOf d k p).wf = true := by
  unfold Device.setPendOf
  repeat' first
    | with_reducible assumption | (fail_if_no_progress with_reducible apply Device.wf_mk) | split

theorem Device.loseOutcome_wf {d : Device} {k : Nat} (h0 : d.wf = true) :
    (Device.loseOutcome d k).wf = true := by
  unfold Device.loseOutcome
  repeat' first
    | with_reducible assumption | with_reducible apply Device.recordOutcome_wf | with_reducible apply Device.wf_ite

theorem Device.stopJob_wf {d : Device} {k : Nat} (h0 : d.wf = true) :
    (Device.stopJob d k).wf = true := by
  unfold Device.stopJob
  repeat' first
    | with_reducible assumption | with_reducible apply Device.addJob_wf

theorem Device.cellsTrust_wf {d : Device} {k : Nat} {stranger : Bool} (h0 : d.wf = true) :
    (Device.cellsTrust d k stranger).wf = true := by
  unfold Device.cellsTrust
  repeat' first
    | intro _ | with_reducible assumption | with_reducible apply Device.andNotField_wf
    | with_reducible apply Device.orField_wf | with_reducible apply Device.wf_ite
    | with_reducible apply Device.wf_foldl

theorem Device.becomeStranger_wf {d : Device} {k : Nat} {why : Nat} {tag : Nat} (h0 : d.wf = true) :
    (Device.becomeStranger d k why tag).wf = true := by
  unfold Device.becomeStranger
  repeat' first
    | with_reducible assumption | with_reducible apply Device.cellsTrust_wf | with_reducible apply Device.put_wf
    | with_reducible apply Device.raise_wf | with_reducible apply Device.shlEvt_wf
    | with_reducible apply Device.stopJob_wf

theorem Device.becomeAdopted_wf {d : Device} {k : Nat} (h0 : d.wf = true) :
    (Device.becomeAdopted d k).wf = true := by
  unfold Device.becomeAdopted
  repeat' first
    | with_reducible assumption | with_reducible apply Device.cellsTrust_wf | with_reducible apply Device.put_wf

theorem Device.drawNonce_wf {d : Device} (h0 : d.wf = true) :
    (Device.drawNonce d).2.wf = true := by
  unfold Device.drawNonce
  repeat' first
    | with_reducible assumption | (fail_if_no_progress with_reducible apply Device.wf_mk)

theorem Device.endCheck_wf {d : Device} {k : Nat} {why : Nat} {tag : Nat} (h0 : d.wf = true) :
    (Device.endCheck d k why tag).wf = true := by
  unfold Device.endCheck
  repeat' first
    | with_reducible assumption | with_reducible apply Device.authDone_wf
    | with_reducible apply Device.becomeAdopted_wf | with_reducible apply Device.becomeStranger_wf
    | with_reducible apply Device.wf_ite

theorem Device.enumNext_wf {d : Device} {e : EnumRun} (h0 : d.wf = true) :
    (Device.enumNext d e).wf = true := by
  unfold Device.enumNext
  repeat' first
    | with_reducible assumption | (fail_if_no_progress with_reducible apply Device.wf_mk)

theorem Device.enumEnd_wf {d : Device} {e : EnumRun} {loopOk : Bool} (h0 : d.wf = true) :
    (Device.enumEnd d e loopOk).wf = true := by
  unfold Device.enumEnd
  repeat' first
    | intro _ | with_reducible assumption | with_reducible apply Device.put_wf | with_reducible apply Device.raise_wf
    | with_reducible apply Device.setReach_wf | with_reducible apply Device.shlEvt_wf
    | with_reducible apply Device.wf_ite | with_reducible apply Device.wf_foldl
    | (fail_if_no_progress with_reducible apply Device.wf_mk)

theorem Device.enumSideEnd_wf {d : Device} {e : EnumRun} (h0 : d.wf = true) :
    (Device.enumSideEnd d e).wf = true := by
  unfold Device.enumSideEnd
  repeat' first
    | with_reducible assumption | with_reducible apply Device.enumEnd_wf | with_reducible apply Device.enumNext_wf
    | with_reducible apply Device.shlBroadcast_wf | split

theorem Device.enumAdvance_wf {d : Device} {e : EnumRun} (h0 : d.wf = true) :
    (Device.enumAdvance d e).wf = true := by
  unfold Device.enumAdvance
  repeat' first
    | with_reducible assumption | with_reducible apply Device.enumNext_wf
    | with_reducible apply Device.enumSideEnd_wf | with_reducible apply Device.wf_ite

theorem Device.enumStart_wf {d : Device} (h0 : d.wf = true) :
    (Device.enumStart d).wf = true := by
  unfold Device.enumStart
  repeat' first
    | with_reducible assumption | with_reducible apply Device.enumNext_wf | with_reducible apply Device.put_wf
    | with_reducible apply Device.wf_ite | (fail_if_no_progress with_reducible apply Device.wf_mk)

theorem Device.releaseHeld_wf {d : Device} (h0 : d.wf = true) :
    (Device.releaseHeld d).wf = true := by
  unfold Device.releaseHeld
  repeat' first
    | with_reducible assumption | with_reducible apply Device.enumNext_wf | split

theorem Device.afterCheck_wf {d : Device} {en : Bool} (h0 : d.wf = true) :
    (Device.afterCheck d en).wf = true := by
  unfold Device.afterCheck
  repeat' first
    | with_reducible assumption | with_reducible apply Device.enumNext_wf | split

theorem Device.afterDelay_wf {d : Device} {en : Bool} (h0 : d.wf = true) :
    (Device.afterDelay d en).wf = true := by
  unfold Device.afterDelay
  repeat' first
    | with_reducible assumption | with_reducible apply Device.enumAdvance_wf | split

theorem Device.enumStatusReply_wf {d : Device} {p : List Byte} (h0 : d.wf = true) :
    (Device.enumStatusReply d p).wf = true := by
  unfold Device.enumStatusReply
  repeat' first
    | with_reducible assumption | with_reducible apply Device.enumNext_wf
    | with_reducible apply Device.enumSideEnd_wf | with_reducible apply Device.loseOutcome_wf
    | with_reducible apply Device.put_wf | with_reducible apply Device.setPendOf_wf
    | with_reducible apply Device.setReach_wf | with_reducible apply Device.shlEvt_wf
    | with_reducible apply Device.wf_ite | split

theorem Device.enumNoAnswer_wf {d : Device} (h0 : d.wf = true) :
    (Device.enumNoAnswer d).wf = true := by
  unfold Device.enumNoAnswer
  repeat' first
    | with_reducible assumption | with_reducible apply Device.enumNext_wf | split

theorem Device.enumAssigned_wf {d : Device} {ok : Bool} (h0 : d.wf = true) :
    (Device.enumAssigned d ok).wf = true := by
  unfold Device.enumAssigned
  repeat' first
    | with_reducible assumption | with_reducible apply Device.enumNext_wf
    | with_reducible apply Device.enumSideEnd_wf | with_reducible apply Device.loseOutcome_wf
    | with_reducible apply Device.put_wf | with_reducible apply Device.setReach_wf | split

theorem Device.locateStart_wf {d : Device} (h0 : d.wf = true) :
    (Device.locateStart d).wf = true := by
  unfold Device.locateStart
  repeat' first
    | with_reducible assumption | (fail_if_no_progress with_reducible apply Device.wf_mk)

theorem Device.locateEnd_wf {d : Device} {l : Locate} (h0 : d.wf = true) :
    (Device.locateEnd d l).wf = true := by
  unfold Device.locateEnd
  repeat' first
    | intro _ | with_reducible assumption | with_reducible apply Device.put_wf | with_reducible apply Device.raise_wf
    | with_reducible apply Device.setReach_wf | with_reducible apply Device.shlEvt_wf
    | with_reducible apply Device.wf_foldl | (fail_if_no_progress with_reducible apply Device.wf_mk)

theorem Device.locateStep_wf {d : Device} {answered : Bool} (h0 : d.wf = true) :
    (Device.locateStep d answered).wf = true := by
  unfold Device.locateStep
  repeat' first
    | with_reducible assumption | with_reducible apply Device.locateEnd_wf | with_reducible apply Device.wf_ite
    | (fail_if_no_progress with_reducible apply Device.wf_mk) | split

theorem Device.sendSampleAt_wf {d : Device} {c : Cycle} (h0 : d.wf = true) :
    (Device.sendSampleAt d c).wf = true := by
  unfold Device.sendSampleAt
  repeat' first
    | with_reducible assumption | with_reducible apply Device.setFlag_wf
    | with_reducible apply Device.shlBroadcast_wf | (fail_if_no_progress with_reducible apply Device.wf_mk)

theorem Device.relayUnreachable_wf {d : Device} {c : Cycle} (h0 : d.wf = true) :
    (Device.relayUnreachable d c).wf = true := by
  unfold Device.relayUnreachable
  repeat' first
    | intro _ | with_reducible assumption | with_reducible apply Device.trnSend_wf
    | with_reducible apply Device.wf_ite | with_reducible apply Device.wf_foldl

theorem Device.cycleEnd_wf {d : Device} {c : Cycle} (h0 : d.wf = true) :
    (Device.cycleEnd d c).wf = true := by
  unfold Device.cycleEnd
  repeat' first
    | intro _ | with_reducible assumption | with_reducible apply Device.addJob_wf
    | with_reducible apply Device.relayUnreachable_wf | with_reducible apply Device.wf_foldl
    | (fail_if_no_progress with_reducible apply Device.wf_mk) | split

theorem Device.readEnd_wf {d : Device} {k : Nat} {reply : Option (List Byte)} (h0 : d.wf = true) :
    (Device.readEnd d k reply).wf = true := by
  unfold Device.readEnd
  repeat' first
    | with_reducible assumption | with_reducible apply Device.cycleEnd_wf | with_reducible apply Device.wf_ite
    | (fail_if_no_progress with_reducible apply Device.wf_mk) | split

theorem Device.relayReading_wf {d : Device} {k : Nat} {ts : Nat} {p : List Byte} (h0 : d.wf = true) :
    (Device.relayReading d k ts p).wf = true := by
  unfold Device.relayReading
  repeat' first
    | with_reducible assumption | with_reducible apply Device.trnSend_wf | with_reducible apply Device.wf_ite

theorem Device.mailboxDone_wf {d : Device} {m : Fin 4} {result : Nat} {status : Nat} {seq : Nat} {payload : List Byte} (h0 : d.wf = true) :
    (Device.mailboxDone d m result status seq payload).wf = true := by
  unfold Device.mailboxDone
  repeat' first
    | with_reducible assumption | with_reducible apply Device.bufferWrite_wf
    | with_reducible apply Device.complete_wf | with_reducible apply Device.fire_wf
    | with_reducible apply Device.put_wf | with_reducible apply Device.wf_ite

theorem Device.mailboxPayload_wf {d : Device} {m : Fin 4} (h0 : d.wf = true) :
    (Device.mailboxPayload d m).2.wf = true := by
  unfold Device.mailboxPayload
  repeat' first
    | with_reducible assumption | with_reducible apply Device.readBuffer_wf | split

theorem Device.pendNoPath_wf {d : Device} {k : Nat} {op : Nat} (h0 : d.wf = true) :
    (Device.pendNoPath d k op).wf = true := by
  unfold Device.pendNoPath
  repeat' first
    | with_reducible assumption | with_reducible apply Device.setFlag_wf | with_reducible apply Device.setPendOf_wf
    | with_reducible apply Device.wf_ite

theorem Device.startMailbox_wf {d : Device} {m : Fin 4} (h0 : d.wf = true) :
    (Device.startMailbox d m).wf = true := by
  unfold Device.startMailbox
  repeat' first
    | with_reducible assumption | with_reducible apply Device.mailboxDone_wf
    | with_reducible apply Device.mailboxPayload_wf | with_reducible apply Device.pendNoPath_wf
    | with_reducible apply Device.shlBroadcast_wf | with_reducible apply Device.startJob_wf
    | with_reducible apply Device.wf_ite | (fail_if_no_progress with_reducible apply Device.wf_mk)

theorem Device.startRead_wf {d : Device} {c : Cycle} (h0 : d.wf = true) :
    (Device.startRead d c).wf = true := by
  unfold Device.startRead
  repeat' first
    | with_reducible assumption | with_reducible apply Device.cycleEnd_wf | with_reducible apply Device.startJob_wf
    | (fail_if_no_progress with_reducible apply Device.wf_mk) | split

theorem Device.startInternal_wf {d : Device} {j : Job} {t : List Job} (h0 : d.wf = true) :
    (Device.startInternal d j t).wf = true := by
  unfold Device.startInternal
  repeat' first
    | with_reducible assumption | with_reducible apply Device.endCheck_wf | with_reducible apply Device.pendNoPath_wf
    | with_reducible apply Device.startJob_wf | with_reducible apply Device.wf_ite
    | (fail_if_no_progress with_reducible apply Device.wf_mk) | split

theorem Device.healChain_wf {d : Device} (h0 : d.wf = true) :
    (Device.healChain d).wf = true := by
  unfold Device.healChain
  repeat' first
    | intro _ | with_reducible assumption | with_reducible apply Device.log_wf | with_reducible apply Device.put_wf
    | with_reducible apply Device.setReach_wf | with_reducible apply Device.shlEvt_wf
    | with_reducible apply Device.wf_ite | with_reducible apply Device.wf_foldl
    | (fail_if_no_progress with_reducible apply Device.wf_mk)

theorem Device.shlEnumerate_wf {d : Device} {e : EnumRun} (h0 : d.wf = true) :
    (Device.shlEnumerate d e).wf = true := by
  unfold Device.shlEnumerate
  repeat' first
    | with_reducible assumption | with_reducible apply Device.startJob_wf
    | (fail_if_no_progress with_reducible apply Device.wf_mk) | split

theorem Device.shlCommands_wf {d : Device} (h0 : d.wf = true) :
    (Device.shlCommands d).wf = true := by
  unfold Device.shlCommands
  repeat' first
    | with_reducible assumption | with_reducible apply Device.startInternal_wf
    | with_reducible apply Device.startMailbox_wf | with_reducible apply Device.startRead_wf | split

theorem Device.shlBroadcasts_wf {d : Device} (h0 : d.wf = true) :
    (Device.shlBroadcasts d).wf = true := by
  unfold Device.shlBroadcasts
  repeat' first
    | with_reducible assumption | with_reducible apply Device.sendLoop_wf
    | with_reducible apply Device.sendSampleAt_wf | with_reducible apply Device.shlBroadcast_wf
    | with_reducible apply Device.shlCommands_wf | (fail_if_no_progress with_reducible apply Device.wf_mk) | split

theorem Device.shlNext_wf {d : Device} (h0 : d.wf = true) :
    (Device.shlNext d).wf = true := by
  unfold Device.shlNext
  repeat' first
    | with_reducible assumption | with_reducible apply Device.healChain_wf
    | with_reducible apply Device.locateStart_wf | with_reducible apply Device.shlBroadcasts_wf
    | with_reducible apply Device.shlEnumerate_wf | with_reducible apply Device.startJob_wf
    | (fail_if_no_progress with_reducible apply Device.wf_mk) | split

theorem Device.shlPump_wf {d : Device} (h0 : d.wf = true) :
    (Device.shlPump d).wf = true := by
  unfold Device.shlPump
  repeat' first
    | intro _ | with_reducible assumption | with_reducible apply Device.shlNext_wf
    | with_reducible apply Device.wf_foldl

theorem Device.reverseFrom_wf {d : Device} {k : Nat} {side : Side} (h0 : d.wf = true) :
    (Device.reverseFrom d k side).wf = true := by
  unfold Device.reverseFrom
  repeat' first
    | intro _ | with_reducible assumption | with_reducible apply Device.setReach_wf
    | with_reducible apply Device.wf_foldl

theorem Device.heardReply_wf {d : Device} {j : Job} {status : Nat} {p : List Byte} (h0 : d.wf = true) :
    (Device.heardReply d j status p).wf = true := by
  unfold Device.heardReply
  repeat' first
    | with_reducible assumption | with_reducible apply Device.log_wf | with_reducible apply Device.put_wf
    | with_reducible apply Device.reverseFrom_wf | with_reducible apply Device.setFlag_wf
    | with_reducible apply Device.setReach_wf | with_reducible apply Device.wf_ite
    | (fail_if_no_progress with_reducible apply Device.wf_mk) | split

theorem Device.endReply_wf {d : Device} {j : Job} {status : Nat} {p : List Byte} {delta : Nat} (h0 : d.wf = true) :
    (Device.endReply d j status p delta).wf = true := by
  unfold Device.endReply
  repeat' first
    | with_reducible assumption | with_reducible apply Device.addJob_wf | with_reducible apply Device.afterCheck_wf
    | with_reducible apply Device.afterDelay_wf | with_reducible apply Device.deliverReading_wf
    | with_reducible apply Device.drawNonce_wf | with_reducible apply Device.endCheck_wf
    | with_reducible apply Device.enumAssigned_wf | with_reducible apply Device.enumNext_wf
    | with_reducible apply Device.enumStatusReply_wf | with_reducible apply Device.heardReply_wf
    | with_reducible apply Device.locateStep_wf | with_reducible apply Device.loseOutcome_wf
    | with_reducible apply Device.mailboxDone_wf | with_reducible apply Device.put_wf
    | with_reducible apply Device.readEnd_wf | with_reducible apply Device.recordOutcome_wf
    | with_reducible apply Device.relayReading_wf | with_reducible apply Device.releaseHeld_wf | split
    | (fail_if_no_progress extract_lets)

theorem Device.endUnreachable_wf {d : Device} {j : Job} (h0 : d.wf = true) :
    (Device.endUnreachable d j).wf = true := by
  unfold Device.endUnreachable
  repeat' first
    | with_reducible assumption | with_reducible apply Device.afterCheck_wf
    | with_reducible apply Device.afterDelay_wf | with_reducible apply Device.endCheck_wf
    | with_reducible apply Device.enumAssigned_wf | with_reducible apply Device.enumNoAnswer_wf
    | with_reducible apply Device.locateStep_wf | with_reducible apply Device.mailboxDone_wf
    | with_reducible apply Device.readEnd_wf | with_reducible apply Device.releaseHeld_wf
    | with_reducible apply Device.setFlag_wf | with_reducible apply Device.setPendOf_wf
    | with_reducible apply Device.setReach_wf | (fail_if_no_progress with_reducible apply Device.wf_mk) | split

theorem Device.attemptFails_wf {d : Device} (h0 : d.wf = true) :
    (Device.attemptFails d).wf = true := by
  unfold Device.attemptFails
  repeat' first
    | with_reducible assumption | with_reducible apply Device.bump_wf | with_reducible apply Device.endUnreachable_wf
    | with_reducible apply Device.fire_wf | with_reducible apply Device.raise_wf
    | with_reducible apply Device.sendJob_wf | with_reducible apply Device.shlEvt_wf
    | with_reducible apply Device.shlPump_wf | split

theorem Device.attemptTimeout_wf {d : Device} {ticks : Nat} (h0 : d.wf = true) :
    (Device.attemptTimeout d ticks).wf = true := by
  unfold Device.attemptTimeout
  repeat' first
    | with_reducible assumption | with_reducible apply Device.attemptFails_wf | split

theorem Device.unjam_wf {d : Device} {side : Side} (h0 : d.wf = true) :
    (Device.unjam d side).wf = true := by
  unfold Device.unjam
  repeat' first
    | with_reducible assumption | (fail_if_no_progress with_reducible apply Device.wf_mk) | split

theorem Device.chainReply_wf {d : Device} {side : Side} {bytes : List Byte} {delta : Nat} (h0 : d.wf = true) :
    (Device.chainReply d side bytes delta).wf = true := by
  unfold Device.chainReply
  repeat' first
    | with_reducible assumption | with_reducible apply Device.attemptFails_wf | with_reducible apply Device.bump_wf
    | with_reducible apply Device.endReply_wf | with_reducible apply Device.shlPump_wf
    | with_reducible apply Device.unjam_wf | with_reducible apply Device.wf_ite
    | (fail_if_no_progress with_reducible apply Device.wf_mk) | split

theorem Device.nakBusyResend_wf {d : Device} (h0 : d.wf = true) :
    (Device.nakBusyResend d).wf = true := by
  unfold Device.nakBusyResend
  repeat' first
    | with_reducible assumption | with_reducible apply Device.sendJob_wf | split

theorem Device.loopArrives_wf {d : Device} {dly : Nat} (h0 : d.wf = true) :
    (Device.loopArrives d dly).wf = true := by
  unfold Device.loopArrives
  repeat' first
    | with_reducible assumption | with_reducible apply Device.enumEnd_wf | with_reducible apply Device.put_wf
    | with_reducible apply Device.shlPump_wf | (fail_if_no_progress with_reducible apply Device.wf_mk) | split
    | (fail_if_no_progress extract_lets)

theorem Device.broadcastLoss_wf {d : Device} {ticks : Nat} (h0 : d.wf = true) :
    (Device.broadcastLoss d ticks).wf = true := by
  unfold Device.broadcastLoss
  repeat' first
    | with_reducible assumption | with_reducible apply Device.enumEnd_wf | with_reducible apply Device.shlPump_wf
    | (fail_if_no_progress with_reducible apply Device.wf_mk) | split | (fail_if_no_progress extract_lets)

theorem Device.chainProbe_wf {d : Device} {ms : Nat} (h0 : d.wf = true) :
    (Device.chainProbe d ms).wf = true := by
  unfold Device.chainProbe
  repeat' first
    | intro _ | with_reducible assumption | with_reducible apply Device.addJob_wf
    | with_reducible apply Device.enumStart_wf | with_reducible apply Device.shlPump_wf
    | with_reducible apply Device.wf_ite | with_reducible apply Device.wf_foldl
    | (fail_if_no_progress with_reducible apply Device.wf_mk)

theorem Device.chainHeal_wf {d : Device} (h0 : d.wf = true) :
    (Device.chainHeal d).wf = true := by
  unfold Device.chainHeal
  repeat' first
    | with_reducible assumption | with_reducible apply Device.shlPump_wf | with_reducible apply Device.wf_ite
    | (fail_if_no_progress with_reducible apply Device.wf_mk)

theorem Device.delayMeasure_wf {d : Device} {ms : Nat} (h0 : d.wf = true) :
    (Device.delayMeasure d ms).wf = true := by
  unfold Device.delayMeasure
  repeat' first
    | intro _ | with_reducible assumption | with_reducible apply Device.addJob_wf
    | with_reducible apply Device.shlPump_wf | with_reducible apply Device.wf_ite
    | with_reducible apply Device.wf_foldl

theorem Device.timeSetSend_wf {d : Device} {ms : Nat} (h0 : d.wf = true) :
    (Device.timeSetSend d ms).wf = true := by
  unfold Device.timeSetSend
  repeat' first
    | with_reducible assumption | with_reducible apply Device.shlPump_wf | with_reducible apply Device.wf_ite
    | (fail_if_no_progress with_reducible apply Device.wf_mk)

theorem Device.loopSend_wf {d : Device} {ms : Nat} (h0 : d.wf = true) :
    (Device.loopSend d ms).wf = true := by
  unfold Device.loopSend
  repeat' first
    | with_reducible assumption | with_reducible apply Device.shlPump_wf | with_reducible apply Device.wf_ite
    | (fail_if_no_progress with_reducible apply Device.wf_mk)

theorem Device.sampleReadStart_wf {d : Device} (h0 : d.wf = true) :
    (Device.sampleReadStart d).wf = true := by
  unfold Device.sampleReadStart
  repeat' first
    | with_reducible assumption | with_reducible apply Device.cycleEnd_wf | with_reducible apply Device.shlPump_wf
    | with_reducible apply Device.wf_ite | (fail_if_no_progress with_reducible apply Device.wf_mk) | split

theorem Device.sampleCycle_wf {d : Device} (h0 : d.wf = true) :
    (Device.sampleCycle d).wf = true := by
  unfold Device.sampleCycle
  repeat' first
    | with_reducible assumption | with_reducible apply Device.bump_wf | with_reducible apply Device.shlEvt_wf
    | with_reducible apply Device.shlPump_wf | (fail_if_no_progress with_reducible apply Device.wf_mk) | split

theorem Device.shlRingStep_wf {d : Device} {old : Nat} (h0 : d.wf = true) :
    (Device.shlRingStep d old).wf = true := by
  unfold Device.shlRingStep
  repeat' first
    | with_reducible assumption | (fail_if_no_progress with_reducible apply Device.wf_mk) | split

theorem Device.sampleAges_wf {d : Device} (h0 : d.wf = true) :
    (Device.sampleAges d).wf = true := by
  unfold Device.sampleAges
  repeat' first
    | intro _ | with_reducible assumption | with_reducible apply Device.bump_wf
    | with_reducible apply Device.wf_foldl

theorem Device.dropOutstanding_wf {d : Device} (h0 : d.wf = true) :
    (Device.dropOutstanding d).wf = true := by
  unfold Device.dropOutstanding
  repeat' first
    | with_reducible assumption | with_reducible apply Device.mailboxDone_wf | with_reducible apply Device.setFlag_wf
    | with_reducible apply Device.setPendOf_wf | split

theorem Device.shlRole_wf {d : Device} (h0 : d.wf = true) :
    (Device.shlRole d).wf = true := by
  unfold Device.shlRole
  repeat' first
    | with_reducible assumption | with_reducible apply Device.dropOutstanding_wf
    | with_reducible apply Device.enumStart_wf | with_reducible apply Device.put_wf
    | with_reducible apply Device.shlPump_wf | with_reducible apply Device.wf_ite
    | (fail_if_no_progress with_reducible apply Device.wf_mk)

theorem Device.masterTone_wf {d : Device} (h0 : d.wf = true) :
    (Device.masterTone d).wf = true := by
  unfold Device.masterTone
  repeat' first
    | with_reducible assumption | with_reducible apply Device.fire_wf | with_reducible apply Device.orField_wf
    | with_reducible apply Device.shlEvt_wf | with_reducible apply Device.wf_ite

theorem Device.masterToneEnd_wf {d : Device} (h0 : d.wf = true) :
    (Device.masterToneEnd d).wf = true := by
  unfold Device.masterToneEnd
  repeat' first
    | with_reducible assumption | with_reducible apply Device.shlPump_wf | with_reducible apply Device.wf_ite
    | (fail_if_no_progress with_reducible apply Device.wf_mk)

theorem Device.portJam_wf {d : Device} {side : Side} (h0 : d.wf = true) :
    (Device.portJam d side).wf = true := by
  unfold Device.portJam
  repeat' first
    | intro _ | with_reducible assumption | with_reducible apply Device.log_wf
    | with_reducible apply Device.setReach_wf | with_reducible apply Device.wf_ite
    | with_reducible apply Device.wf_foldl | (fail_if_no_progress with_reducible apply Device.wf_mk)

theorem Device.mailboxQueue_wf {d : Device} {m : Fin 4} (h0 : d.wf = true) :
    (Device.mailboxQueue d m).wf = true := by
  unfold Device.mailboxQueue
  repeat' first
    | with_reducible assumption | with_reducible apply Device.put_wf | with_reducible apply Device.shlPump_wf
    | (fail_if_no_progress with_reducible apply Device.wf_mk)

theorem Device.shlLimpReturn_wf {d : Device} (h0 : d.wf = true) :
    (Device.shlLimpReturn d).wf = true := by
  unfold Device.shlLimpReturn
  repeat' first
    | with_reducible assumption | with_reducible apply Device.shlPump_wf
    | (fail_if_no_progress with_reducible apply Device.wf_mk)

theorem Device.shlAfterIce_wf {d : Device} (h0 : d.wf = true) :
    (Device.shlAfterIce d).wf = true := by
  unfold Device.shlAfterIce
  repeat' first
    | with_reducible assumption | (fail_if_no_progress with_reducible apply Device.wf_mk)

theorem Device.chainRoster_wf {d : Device} {adopted : List Nat} {revoked : List Nat} (h0 : d.wf = true) :
    (Device.chainRoster d adopted revoked).wf = true := by
  unfold Device.chainRoster
  repeat' first
    | intro _ | with_reducible assumption | with_reducible apply Device.addJob_wf
    | with_reducible apply Device.becomeStranger_wf | with_reducible apply Device.shlPump_wf
    | with_reducible apply Device.wf_ite | with_reducible apply Device.wf_foldl

theorem Companion.challenge_wf {c : Companion} {f : ChainIn} {n : Nat} (h0 : RegMap.wf c.regs = true) :
    RegMap.wf (Companion.challenge c f n).regs = true := by
  unfold Companion.challenge
  repeat' first
    | intro _ | with_reducible assumption | with_reducible apply Companion.plain_wf

end Sys2Proof.Machine
end

