-- ==== Sys2Proof/Laws/WfTrnOps.lean ====
section
/-! SUPPORT. The functions of `Machine/TrnOps.lean` keep the canonical form of the stores. -/

namespace Sys2Proof.Machine

theorem Device.trnEvt_wf {d : Device} {v : Nat} (h0 : d.wf = true) :
    (Device.trnEvt d v).wf = true := by
  unfold Device.trnEvt
  repeat' first
    | with_reducible assumption | with_reducible apply Device.orField_wf

theorem Device.ringMsg_wf {d : Device} (h0 : d.wf = true) :
    (Device.ringMsg d).wf = true := by
  unfold Device.ringMsg
  repeat' first
    | with_reducible assumption | with_reducible apply Device.fire_wf

theorem Device.setTrnPort_wf {d : Device} {s : Side} {p : TrnPort} (h0 : d.wf = true) :
    (Device.setTrnPort d s p).wf = true := by
  unfold Device.setTrnPort
  repeat' first
    | with_reducible assumption | (fail_if_no_progress with_reducible apply Device.wf_mk) | split

theorem Device.showLink_wf {d : Device} (h0 : d.wf = true) :
    (Device.showLink d).wf = true := by
  unfold Device.showLink
  repeat' first
    | with_reducible assumption | with_reducible apply Device.put_wf

theorem Device.enterWrap_wf {d : Device} {mode : Nat} (h0 : d.wf = true) :
    (Device.enterWrap d mode).wf = true := by
  unfold Device.enterWrap
  repeat' first
    | with_reducible assumption | with_reducible apply Device.put_wf | with_reducible apply Device.raise_wf
    | with_reducible apply Device.trnEvt_wf

theorem Device.trnModeUpdate_wf {d : Device} (h0 : d.wf = true) :
    (Device.trnModeUpdate d).wf = true := by
  unfold Device.trnModeUpdate
  repeat' first
    | with_reducible assumption | with_reducible apply Device.enterWrap_wf | with_reducible apply Device.put_wf
    | with_reducible apply Device.wf_ite

theorem Device.portTraining_wf {d : Device} {s : Side} (h0 : d.wf = true) :
    (Device.portTraining d s).wf = true := by
  unfold Device.portTraining
  repeat' first
    | with_reducible assumption | with_reducible apply Device.setTrnPort_wf | with_reducible apply Device.wf_ite

theorem Device.portUp_wf {d : Device} {s : Side} (h0 : d.wf = true) :
    (Device.portUp d s).wf = true := by
  unfold Device.portUp
  repeat' first
    | with_reducible assumption | with_reducible apply Device.enterWrap_wf | with_reducible apply Device.put_wf
    | with_reducible apply Device.setTrnPort_wf | with_reducible apply Device.showLink_wf
    | with_reducible apply Device.wf_ite

theorem Device.portDown_wf {d : Device} {s : Side} (h0 : d.wf = true) :
    (Device.portDown d s).wf = true := by
  unfold Device.portDown
  repeat' first
    | with_reducible assumption | with_reducible apply Device.enterWrap_wf | with_reducible apply Device.put_wf
    | with_reducible apply Device.raise_wf | with_reducible apply Device.setTrnPort_wf
    | with_reducible apply Device.showLink_wf | with_reducible apply Device.trnEvt_wf
    | with_reducible apply Device.wf_ite | (fail_if_no_progress with_reducible apply Device.wf_mk) | split

theorem Device.countCrc_wf {d : Device} {s : Side} {c : CrcSt} (h0 : d.wf = true) :
    (Device.countCrc d s c).wf = true := by
  unfold Device.countCrc
  repeat' first
    | with_reducible assumption | with_reducible apply Device.bump_wf | with_reducible apply Device.fire_wf
    | with_reducible apply Device.trnEvt_wf | split

theorem Device.inboxAdd_wf {d : Device} {m : Msg} (h0 : d.wf = true) :
    (Device.inboxAdd d m).wf = true := by
  unfold Device.inboxAdd
  repeat' first
    | with_reducible assumption | with_reducible apply Device.bump_wf | with_reducible apply Device.wf_ite
    | (fail_if_no_progress with_reducible apply Device.wf_mk)

theorem Device.placeQueued_wf {d : Device} {region : List Msg} (h0 : d.wf = true) :
    (Device.placeQueued d region).1.wf = true := by
  unfold Device.placeQueued
  repeat' first
    | with_reducible assumption | with_reducible apply Device.put_wf | with_reducible apply Device.wf_ite
    | (fail_if_no_progress with_reducible apply Device.wf_mk)

theorem Device.ownSlots_wf {d : Device} {irc : Vector Word 16} (h0 : d.wf = true) :
    (Device.ownSlots d irc).2.wf = true := by
  unfold Device.ownSlots
  repeat' first
    | intro _ | with_reducible assumption | with_reducible apply Device.setFlag_wf
    | with_reducible apply Device.wf_foldl

theorem Device.takeSlot_wf {d : Device} {frame : Nat} {ok : Bool} {bs : List Byte} {n : Fin 32} (h0 : d.wf = true) :
    (Device.takeSlot d frame ok bs n).wf = true := by
  unfold Device.takeSlot
  repeat' first
    | with_reducible assumption | with_reducible apply Device.bump_wf | with_reducible apply Device.wf_ite
    | (fail_if_no_progress with_reducible apply Device.wf_mk)

theorem Device.takeSlots_wf {d : Device} {frame : Nat} {ok : Bool} {bs : List Byte} (h0 : d.wf = true) :
    (Device.takeSlots d frame ok bs).wf = true := by
  unfold Device.takeSlots
  repeat' first
    | intro _ | with_reducible assumption | with_reducible apply Device.takeSlot_wf
    | with_reducible apply Device.wf_ite | with_reducible apply Device.wf_foldl

theorem Device.fillLane_wf {d : Device} {last : Nat} {n : Fin 32} (h0 : d.wf = true) :
    (Device.fillLane d last n).wf = true := by
  unfold Device.fillLane
  repeat' first
    | with_reducible assumption | with_reducible apply Device.bump_wf | with_reducible apply Device.wf_ite
    | (fail_if_no_progress with_reducible apply Device.wf_mk)

theorem Device.trnEmit_wf {d : Device} {s : Side} {bs : List Byte} (h0 : d.wf = true) :
    (Device.trnEmit d s bs).wf = true := by
  unfold Device.trnEmit
  repeat' first
    | with_reducible assumption | with_reducible apply Device.setTrnPort_wf
    | (fail_if_no_progress with_reducible apply Device.wf_mk)

theorem Device.measureCable_wf {d : Device} {s : Side} {elapsed : Nat} {turn : Nat} (h0 : d.wf = true) :
    (Device.measureCable d s elapsed turn).wf = true := by
  unfold Device.measureCable
  repeat' first
    | with_reducible assumption | with_reducible apply Device.put_wf | with_reducible apply Device.setTrnPort_wf
    | with_reducible apply Device.wf_ite

theorem Device.needDelay_wf {d : Device} (h0 : d.wf = true) :
    (Device.needDelay d).wf = true := by
  unfold Device.needDelay
  repeat' first
    | with_reducible assumption | with_reducible apply Device.log_wf | with_reducible apply Device.put_wf
    | with_reducible apply Device.ringMsg_wf | with_reducible apply Device.setFlag_wf
    | with_reducible apply Device.trnEvt_wf | with_reducible apply Device.wf_ite

theorem Device.tarnWindow_wf {d : Device} (h0 : d.wf = true) :
    (Device.tarnWindow d).2.wf = true := by
  unfold Device.tarnWindow
  repeat' first
    | intro _ | with_reducible assumption | with_reducible apply Device.fillLane_wf
    | with_reducible apply Device.wf_foldl | (fail_if_no_progress with_reducible apply Device.wf_mk)

theorem Device.lanesStepped_wf {d : Device} (h0 : d.wf = true) :
    (Device.lanesStepped d).wf = true := by
  unfold Device.lanesStepped
  repeat' first
    | with_reducible assumption | (fail_if_no_progress with_reducible apply Device.wf_mk)

theorem Device.healNow_wf {d : Device} (h0 : d.wf = true) :
    (Device.healNow d).wf = true := by
  unfold Device.healNow
  repeat' first
    | with_reducible assumption | with_reducible apply Device.put_wf | with_reducible apply Device.raise_wf
    | with_reducible apply Device.trnEvt_wf | with_reducible apply Device.wf_ite
    | (fail_if_no_progress with_reducible apply Device.wf_mk)

theorem Device.forward_wf {d : Device} {s : Side} {x : RingIn} {p : FrameParts} {st : CrcSt × CrcSt × CrcSt × CrcSt} {slots : List Byte} {msgs : List Byte} (h0 : d.wf = true) :
    (Device.forward d s x p st slots msgs).wf = true := by
  unfold Device.forward
  repeat' first
    | with_reducible assumption | with_reducible apply Device.trnEmit_wf | split

theorem Device.returnFrame_wf {d : Device} {p : FrameParts} {st : CrcSt × CrcSt × CrcSt × CrcSt} {bs : List Byte} (h0 : d.wf = true) :
    (Device.returnFrame d p st bs).wf = true := by
  unfold Device.returnFrame
  repeat' first
    | intro _ | with_reducible assumption | with_reducible apply Device.bump_wf
    | with_reducible apply Device.inboxAdd_wf | with_reducible apply Device.needDelay_wf
    | with_reducible apply Device.put_wf | with_reducible apply Device.takeSlots_wf
    | with_reducible apply Device.trnEvt_wf | with_reducible apply Device.wf_ite
    | with_reducible apply Device.wf_foldl | (fail_if_no_progress with_reducible apply Device.wf_mk)

theorem Device.processFrame_wf {d : Device} {s : Side} {x : RingIn} {p : FrameParts} {st : CrcSt × CrcSt × CrcSt × CrcSt} (h0 : d.wf = true) :
    (Device.processFrame d s x p st).wf = true := by
  unfold Device.processFrame
  repeat' first
    | intro _ | with_reducible assumption | with_reducible apply Device.forward_wf
    | with_reducible apply Device.inboxAdd_wf | with_reducible apply Device.needDelay_wf
    | with_reducible apply Device.ownSlots_wf | with_reducible apply Device.placeQueued_wf
    | with_reducible apply Device.put_wf | with_reducible apply Device.takeSlots_wf
    | with_reducible apply Device.wf_ite | with_reducible apply Device.wf_foldl
    | (fail_if_no_progress with_reducible apply Device.wf_mk)

theorem Device.healAt_wf {d : Device} {s : Side} {p : FrameParts} (h0 : d.wf = true) :
    (Device.healAt d s p).wf = true := by
  unfold Device.healAt
  repeat' first
    | with_reducible assumption | with_reducible apply Device.healNow_wf | with_reducible apply Device.wf_ite

theorem Device.frameBytes_wf {d : Device} {x : RingIn} (h0 : d.wf = true) :
    (Device.frameBytes d x).wf = true := by
  unfold Device.frameBytes
  repeat' first
    | with_reducible assumption | with_reducible apply Device.countCrc_wf | with_reducible apply Device.forward_wf
    | with_reducible apply Device.healAt_wf | with_reducible apply Device.measureCable_wf
    | with_reducible apply Device.portDown_wf | with_reducible apply Device.processFrame_wf
    | with_reducible apply Device.raise_wf | with_reducible apply Device.returnFrame_wf
    | with_reducible apply Device.setTrnPort_wf | with_reducible apply Device.trnEmit_wf
    | with_reducible apply Device.trnEvt_wf | with_reducible apply Device.wf_ite
    | (fail_if_no_progress with_reducible apply Device.wf_mk)

theorem Device.frameProcess_wf {d : Device} {x : RingIn} (h0 : d.wf = true) :
    (Device.frameProcess d x).wf = true := by
  unfold Device.frameProcess
  repeat' first
    | with_reducible assumption | with_reducible apply Device.frameBytes_wf

theorem Device.besideFrame_wf {d : Device} {f : Nat} {hold : Nat} {turn : Nat} (h0 : d.wf = true) :
    (Device.besideFrame d f hold turn).wf = true := by
  unfold Device.besideFrame
  repeat' first
    | with_reducible assumption | with_reducible apply Device.trnEmit_wf | split

theorem Device.originate_wf {d : Device} {irc : Vector Word 16} {turn : Nat} (h0 : d.wf = true) :
    (Device.originate d irc turn).wf = true := by
  unfold Device.originate
  repeat' first
    | with_reducible assumption | with_reducible apply Device.besideFrame_wf
    | with_reducible apply Device.ownSlots_wf | with_reducible apply Device.placeQueued_wf
    | with_reducible apply Device.trnEmit_wf

theorem Device.frameOriginate_wf {d : Device} {irc : Vector Word 16} {turn : BitVec 17} (h0 : d.wf = true) :
    (Device.frameOriginate d irc turn).wf = true := by
  unfold Device.frameOriginate
  repeat' first
    | with_reducible assumption | with_reducible apply Device.healNow_wf | with_reducible apply Device.originate_wf
    | with_reducible apply Device.put_wf | with_reducible apply Device.setFlag_wf
    | with_reducible apply Device.trnEmit_wf | with_reducible apply Device.wf_ite
    | (fail_if_no_progress with_reducible apply Device.wf_mk)

theorem Device.joinClock_wf {d : Device} (h0 : d.wf = true) :
    (Device.joinClock d).wf = true := by
  unfold Device.joinClock
  repeat' first
    | with_reducible assumption | with_reducible apply Device.acquireRing_wf | with_reducible apply Device.wf_ite

theorem Device.ringLock_wf {d : Device} (h0 : d.wf = true) :
    (Device.ringLock d).wf = true := by
  unfold Device.ringLock
  repeat' first
    | with_reducible assumption | with_reducible apply Device.fire_wf | with_reducible apply Device.joinClock_wf
    | with_reducible apply Device.put_wf | with_reducible apply Device.setFlag_wf
    | with_reducible apply Device.trnEvt_wf | with_reducible apply Device.wf_ite

theorem Device.dropRingLock_wf {d : Device} (h0 : d.wf = true) :
    (Device.dropRingLock d).wf = true := by
  unfold Device.dropRingLock
  repeat' first
    | with_reducible assumption | with_reducible apply Device.loseRing_wf | with_reducible apply Device.put_wf
    | with_reducible apply Device.setFlag_wf | with_reducible apply Device.wf_ite
    | (fail_if_no_progress with_reducible apply Device.wf_mk)

theorem Device.ringLockLoss_wf {d : Device} {frames : Nat} (h0 : d.wf = true) :
    (Device.ringLockLoss d frames).wf = true := by
  unfold Device.ringLockLoss
  repeat' first
    | with_reducible assumption | with_reducible apply Device.dropRingLock_wf | with_reducible apply Device.wf_ite

theorem Device.ringPhaseLoss_wf {d : Device} (h0 : d.wf = true) :
    (Device.ringPhaseLoss d).wf = true := by
  unfold Device.ringPhaseLoss
  repeat' first
    | with_reducible assumption | with_reducible apply Device.dropRingLock_wf | with_reducible apply Device.wf_ite

theorem Device.takeMsg_wf {d : Device} {type : Nat} {act : Device → Msg → Device} (h0 : d.wf = true) (h1 : ∀ x0 x1, x0.wf = true → (act x0 x1).wf = true) :
    (Device.takeMsg d type act).wf = true := by
  unfold Device.takeMsg
  repeat' first
    | with_reducible assumption | with_reducible apply h1 | (fail_if_no_progress with_reducible apply Device.wf_mk)
    | split

theorem Device.setMasterTag_wf {d : Device} {tag : Nat} (h0 : d.wf = true) :
    (Device.setMasterTag d tag).wf = true := by
  unfold Device.setMasterTag
  repeat' first
    | with_reducible assumption | with_reducible apply Device.put_wf | with_reducible apply Device.raise_wf
    | with_reducible apply Device.trnEvt_wf | with_reducible apply Device.wf_ite

theorem Device.showRank_wf {d : Device} (h0 : d.wf = true) :
    (Device.showRank d).wf = true := by
  unfold Device.showRank
  repeat' first
    | with_reducible assumption | with_reducible apply Device.put_wf

theorem Device.judgeCarrier_wf {d : Device} (h0 : d.wf = true) :
    (Device.judgeCarrier d).wf = true := by
  unfold Device.judgeCarrier
  repeat' first
    | with_reducible assumption | with_reducible apply Device.ringMsg_wf | with_reducible apply Device.setFlag_wf
    | with_reducible apply Device.trnEvt_wf | with_reducible apply Device.wf_ite

theorem Device.beaconMsg_wf {d : Device} (h0 : d.wf = true) :
    (Device.beaconMsg d).wf = true := by
  unfold Device.beaconMsg
  repeat' first
    | intro _ | with_reducible assumption | with_reducible apply Device.judgeCarrier_wf
    | with_reducible apply Device.needDelay_wf | with_reducible apply Device.put_wf
    | with_reducible apply Device.setMasterTag_wf | with_reducible apply Device.showRank_wf
    | with_reducible apply Device.takeMsg_wf | with_reducible apply Device.wf_ite
    | (fail_if_no_progress with_reducible apply Device.wf_mk)

theorem Device.beaconSend_wf {d : Device} (h0 : d.wf = true) :
    (Device.beaconSend d).wf = true := by
  unfold Device.beaconSend
  repeat' first
    | with_reducible assumption | with_reducible apply Device.put_wf | with_reducible apply Device.trnSend_wf
    | with_reducible apply Device.wf_ite | (fail_if_no_progress with_reducible apply Device.wf_mk)

theorem Device.statusSend_wf {d : Device} (h0 : d.wf = true) :
    (Device.statusSend d).wf = true := by
  unfold Device.statusSend
  repeat' first
    | with_reducible assumption | with_reducible apply Device.trnSend_wf | with_reducible apply Device.wf_ite

theorem Device.statusMsg_wf {d : Device} (h0 : d.wf = true) :
    (Device.statusMsg d).wf = true := by
  unfold Device.statusMsg
  repeat' first
    | intro _ | with_reducible assumption | with_reducible apply Device.log_wf | with_reducible apply Device.put_wf
    | with_reducible apply Device.ringMsg_wf | with_reducible apply Device.setFlag_wf
    | with_reducible apply Device.showRank_wf | with_reducible apply Device.takeMsg_wf
    | with_reducible apply Device.trnEvt_wf | with_reducible apply Device.wf_ite
    | with_reducible apply Device.wf_foldl | (fail_if_no_progress with_reducible apply Device.wf_mk)

theorem Device.joinReqSend_wf {d : Device} (h0 : d.wf = true) :
    (Device.joinReqSend d).wf = true := by
  unfold Device.joinReqSend
  repeat' first
    | with_reducible assumption | with_reducible apply Device.put_wf | with_reducible apply Device.trnSend_wf
    | with_reducible apply Device.wf_ite

theorem Device.challengeTag_wf {d : Device} {tag : Nat} (h0 : d.wf = true) :
    (Device.challengeTag d tag).wf = true := by
  unfold Device.challengeTag
  repeat' first
    | with_reducible assumption | with_reducible apply Device.drawNonce_wf | with_reducible apply Device.trnSend_wf
    | (fail_if_no_progress with_reducible apply Device.wf_mk)

theorem Device.joinReqMsg_wf {d : Device} (h0 : d.wf = true) :
    (Device.joinReqMsg d).wf = true := by
  unfold Device.joinReqMsg
  repeat' first
    | intro _ | with_reducible assumption | with_reducible apply Device.challengeTag_wf
    | with_reducible apply Device.takeMsg_wf | with_reducible apply Device.wf_ite

theorem Device.challengeMsg_wf {d : Device} (h0 : d.wf = true) :
    (Device.challengeMsg d).wf = true := by
  unfold Device.challengeMsg
  repeat' first
    | intro _ | with_reducible assumption | with_reducible apply Device.takeMsg_wf
    | with_reducible apply Device.trnSend_wf | with_reducible apply Device.wf_ite
    | (fail_if_no_progress with_reducible apply Device.wf_mk)

theorem Device.renumber_wf {d : Device} {tag : Nat} {n : Nat} (h0 : d.wf = true) :
    (Device.renumber d tag n).wf = true := by
  unfold Device.renumber
  repeat' first
    | intro _ | with_reducible assumption | with_reducible apply Device.put_wf | with_reducible apply Device.wf_foldl
    | (fail_if_no_progress with_reducible apply Device.wf_mk)

theorem Device.admitNode_wf {d : Device} {tag : Nat} {n : Nat} {why : Nat} (h0 : d.wf = true) :
    (Device.admitNode d tag n why).wf = true := by
  unfold Device.admitNode
  repeat' first
    | with_reducible assumption | with_reducible apply Device.put_wf | with_reducible apply Device.raise_wf
    | with_reducible apply Device.renumber_wf | with_reducible apply Device.trnEvt_wf
    | with_reducible apply Device.trnSend_wf

theorem Device.responseMsg_wf {d : Device} (h0 : d.wf = true) :
    (Device.responseMsg d).wf = true := by
  unfold Device.responseMsg
  repeat' first
    | intro _ | with_reducible assumption | with_reducible apply Device.admitNode_wf
    | with_reducible apply Device.authDone_wf | with_reducible apply Device.takeMsg_wf
    | (fail_if_no_progress with_reducible apply Device.wf_mk) | split | (fail_if_no_progress extract_lets)

theorem Device.admitMsg_wf {d : Device} (h0 : d.wf = true) :
    (Device.admitMsg d).wf = true := by
  unfold Device.admitMsg
  repeat' first
    | intro _ | with_reducible assumption | with_reducible apply Device.joinClock_wf
    | with_reducible apply Device.loseRing_wf | with_reducible apply Device.put_wf
    | with_reducible apply Device.raise_wf | with_reducible apply Device.renumber_wf
    | with_reducible apply Device.setFlag_wf | with_reducible apply Device.systemFault_wf
    | with_reducible apply Device.takeMsg_wf | with_reducible apply Device.trnEvt_wf
    | with_reducible apply Device.wf_ite

theorem Device.leaveFrame_wf {d : Device} {s : Side} {reason : Nat} (h0 : d.wf = true) :
    (Device.leaveFrame d s reason).wf = true := by
  unfold Device.leaveFrame
  repeat' first
    | with_reducible assumption | with_reducible apply Device.trnEmit_wf

theorem Device.leaveRing_wf {d : Device} {reason : Nat} (h0 : d.wf = true) :
    (Device.leaveRing d reason).wf = true := by
  unfold Device.leaveRing
  repeat' first
    | with_reducible assumption | with_reducible apply Device.leaveFrame_wf | with_reducible apply Device.loseRing_wf
    | with_reducible apply Device.put_wf | with_reducible apply Device.setFlag_wf
    | with_reducible apply Device.wf_ite | (fail_if_no_progress with_reducible apply Device.wf_mk)

theorem Device.nodeGone_wf {d : Device} {n : Nat} {cause : Nat} (h0 : d.wf = true) :
    (Device.nodeGone d n cause).wf = true := by
  unfold Device.nodeGone
  repeat' first
    | with_reducible assumption | with_reducible apply Device.put_wf | with_reducible apply Device.raise_wf
    | with_reducible apply Device.trnEvt_wf | with_reducible apply Device.wf_ite
    | (fail_if_no_progress with_reducible apply Device.wf_mk)

theorem Device.leaveMsg_wf {d : Device} (h0 : d.wf = true) :
    (Device.leaveMsg d).wf = true := by
  unfold Device.leaveMsg
  repeat' first
    | intro _ | with_reducible assumption | with_reducible apply Device.nodeGone_wf
    | with_reducible apply Device.takeMsg_wf | with_reducible apply Device.wf_ite

theorem Device.nodeLost_wf {d : Device} {n : Fin 128} (h0 : d.wf = true) :
    (Device.nodeLost d n).wf = true := by
  unfold Device.nodeLost
  repeat' first
    | with_reducible assumption | with_reducible apply Device.nodeGone_wf | with_reducible apply Device.wf_ite

theorem Device.fragment_wf {d : Device} {m : Msg} {rsp : Bool} {act : Device → Client → List Byte → Device} (h0 : d.wf = true) (h1 : ∀ x0 x1 x2, x0.wf = true → (act x0 x1 x2).wf = true) :
    (Device.fragment d m rsp act).wf = true := by
  unfold Device.fragment
  extract_lets c total bytes frag first last isIt old rest next t d1 d2
  have e : d2.wf = true := Device.wf_ite (Device.bump_wf h0) h0
  clear_value d2 next
  cases next with
  | none => exact Device.wf_ite (Device.bump_wf e) e
  | some r => exact Device.wf_ite (Device.wf_ite (h1 _ _ _ e) (Device.bump_wf e)) e

theorem Device.hostReqMsg_wf {d : Device} (h0 : d.wf = true) :
    (Device.hostReqMsg d).wf = true := by
  unfold Device.hostReqMsg
  repeat' first
    | intro _ | with_reducible assumption | with_reducible apply Device.arriveWhole_wf
    | with_reducible apply Device.fragment_wf | with_reducible apply Device.takeMsg_wf

theorem Device.hostRspMsg_wf {d : Device} (h0 : d.wf = true) :
    (Device.hostRspMsg d).wf = true := by
  unfold Device.hostRspMsg
  repeat' first
    | intro _ | with_reducible assumption | with_reducible apply Device.bump_wf
    | with_reducible apply Device.complete_wf | with_reducible apply Device.fragment_wf
    | with_reducible apply Device.takeMsg_wf | with_reducible apply Device.wf_ite

theorem Device.reassemblyTimeout_wf {d : Device} {n : BitVec 7} (h0 : d.wf = true) :
    (Device.reassemblyTimeout d n).wf = true := by
  unfold Device.reassemblyTimeout
  repeat' first
    | with_reducible assumption | with_reducible apply Device.bump_wf | with_reducible apply Device.wf_ite
    | (fail_if_no_progress with_reducible apply Device.wf_mk)

theorem Device.cellsMsg_wf {d : Device} (h0 : d.wf = true) :
    (Device.cellsMsg d).wf = true := by
  unfold Device.cellsMsg
  repeat' first
    | intro _ | with_reducible assumption | with_reducible apply Device.deliverReading_wf
    | with_reducible apply Device.takeMsg_wf | with_reducible apply Device.wf_ite

theorem Device.rosterSend_wf {d : Device} (h0 : d.wf = true) :
    (Device.rosterSend d).wf = true := by
  unfold Device.rosterSend
  repeat' first
    | intro _ | with_reducible assumption | with_reducible apply Device.trnSend_wf
    | with_reducible apply Device.wf_ite | with_reducible apply Device.wf_foldl

theorem Device.rosterMsg_wf {d : Device} (h0 : d.wf = true) :
    (Device.rosterMsg d).wf = true := by
  unfold Device.rosterMsg
  repeat' first
    | intro _ | with_reducible assumption | with_reducible apply Device.secOp_wf
    | with_reducible apply Device.takeMsg_wf | with_reducible apply Device.wf_ite
    | (fail_if_no_progress with_reducible apply Device.wf_mk)

theorem Device.ringRoster_wf {d : Device} {adopted : List Nat} {revoked : List Nat} (h0 : d.wf = true) :
    (Device.ringRoster d adopted revoked).wf = true := by
  unfold Device.ringRoster
  repeat' first
    | intro _ | with_reducible assumption | with_reducible apply Device.challengeTag_wf
    | with_reducible apply Device.put_wf | with_reducible apply Device.rosterSend_wf
    | with_reducible apply Device.trnSend_wf | with_reducible apply Device.wf_ite
    | with_reducible apply Device.wf_foldl

theorem Device.masterTakeover_wf {d : Device} {frames : Nat} (h0 : d.wf = true) :
    (Device.masterTakeover d frames).wf = true := by
  unfold Device.masterTakeover
  repeat' first
    | with_reducible assumption | with_reducible apply Device.beaconSend_wf | with_reducible apply Device.loseRing_wf
    | with_reducible apply Device.needDelay_wf | with_reducible apply Device.put_wf
    | with_reducible apply Device.secOp_wf | with_reducible apply Device.setFlag_wf
    | with_reducible apply Device.setMasterTag_wf | with_reducible apply Device.showRank_wf
    | with_reducible apply Device.wf_ite | (fail_if_no_progress with_reducible apply Device.wf_mk)

theorem Device.ringParams_wf {d : Device} (h0 : d.wf = true) :
    (Device.ringParams d).wf = true := by
  unfold Device.ringParams
  repeat' first
    | with_reducible assumption | with_reducible apply Device.needDelay_wf | with_reducible apply Device.wf_ite
    | (fail_if_no_progress with_reducible apply Device.wf_mk)

theorem Device.healNote_wf {d : Device} {n : HealNote} {tag : Nat} (h0 : d.wf = true) :
    (Device.healNote d n tag).wf = true := by
  unfold Device.healNote
  split
  · exact h0
  · dsimp only
    generalize List.find? _ _ = o
    cases o
    · exact h0
    · exact Device.trnSend_wf h0

theorem Device.healDwell_wf {d : Device} {frames : Nat} (h0 : d.wf = true) :
    (Device.healDwell d frames).wf = true := by
  unfold Device.healDwell
  repeat' first
    | with_reducible assumption | with_reducible apply Device.healNote_wf | with_reducible apply Device.trnSend_wf
    | with_reducible apply Device.wf_ite | split

theorem Device.healReadyMsg_wf {d : Device} (h0 : d.wf = true) :
    (Device.healReadyMsg d).wf = true := by
  unfold Device.healReadyMsg
  repeat' first
    | intro _ | with_reducible assumption | with_reducible apply Device.healNote_wf
    | with_reducible apply Device.takeMsg_wf | with_reducible apply Device.wf_ite

theorem Device.unwrapMsg_wf {d : Device} (h0 : d.wf = true) :
    (Device.unwrapMsg d).wf = true := by
  unfold Device.unwrapMsg
  repeat' first
    | intro _ | with_reducible assumption | with_reducible apply Device.takeMsg_wf
    | (fail_if_no_progress with_reducible apply Device.wf_mk) | split

theorem Device.ringHeal_wf {d : Device} (h0 : d.wf = true) :
    (Device.ringHeal d).wf = true := by
  unfold Device.ringHeal
  repeat' first
    | with_reducible assumption | with_reducible apply Device.healNow_wf | with_reducible apply Device.wf_ite

theorem Device.nakMsg_wf {d : Device} (h0 : d.wf = true) :
    (Device.nakMsg d).wf = true := by
  unfold Device.nakMsg
  repeat' first
    | intro _ | with_reducible assumption | with_reducible apply Device.takeMsg_wf

theorem Device.unknownMsg_wf {d : Device} (h0 : d.wf = true) :
    (Device.unknownMsg d).wf = true := by
  unfold Device.unknownMsg
  repeat' first
    | with_reducible assumption | with_reducible apply Device.bump_wf | with_reducible apply Device.trnEvt_wf
    | with_reducible apply Device.trnSend_wf | with_reducible apply Device.wf_ite
    | (fail_if_no_progress with_reducible apply Device.wf_mk) | split

theorem Device.appMsg_wf {d : Device} (h0 : d.wf = true) :
    (Device.appMsg d).wf = true := by
  unfold Device.appMsg
  repeat' first
    | intro _ | with_reducible assumption | with_reducible apply Device.bufferWrite_wf
    | with_reducible apply Device.bump_wf | with_reducible apply Device.put_wf
    | with_reducible apply Device.ringMsg_wf | with_reducible apply Device.setFlag_wf
    | with_reducible apply Device.takeMsg_wf | with_reducible apply Device.trnEvt_wf
    | with_reducible apply Device.wf_ite

theorem Device.appGo_wf {d : Device} (h0 : d.wf = true) :
    (Device.appGo d).wf = true := by
  unfold Device.appGo
  repeat' first
    | with_reducible assumption | with_reducible apply Device.put_wf | with_reducible apply Device.readBuffer_wf
    | with_reducible apply Device.trnSend_wf

theorem Device.ringActivity_wf {d : Device} (h0 : d.wf = true) :
    (Device.ringActivity d).wf = true := by
  unfold Device.ringActivity
  repeat' first
    | with_reducible assumption | with_reducible apply Device.orField_wf | with_reducible apply Device.wf_ite

end Sys2Proof.Machine
end

