-- ==== Sys2Proof/Laws/WfNvcOps.lean ====
section
/-! SUPPORT. The functions of `Machine/NvcOps.lean` keep the canonical form of the stores. -/

namespace Sys2Proof.Machine

theorem Device.secAct_wf {d : Device} {a : SecAct} {c : Option Client} (h0 : d.wf = true) :
    (Device.secAct d a c).wf = true := by
  unfold Device.secAct
  repeat' first
    | with_reducible assumption | with_reducible apply Device.chainRoster_wf | with_reducible apply Device.fire_wf
    | with_reducible apply Device.log_wf | with_reducible apply Device.put_wf
    | with_reducible apply Device.ringRoster_wf | with_reducible apply Device.setFlag_wf
    | with_reducible apply Device.showRosters_wf | (fail_if_no_progress with_reducible apply Device.wf_mk) | split

theorem Device.opDone_wf {d : Device} {o : SecOp} (h0 : d.wf = true) :
    (Device.opDone d o).wf = true := by
  unfold Device.opDone
  repeat' first
    | with_reducible assumption | with_reducible apply Device.complete_wf | with_reducible apply Device.secAct_wf
    | split

theorem Device.opFailed_wf {d : Device} {o : SecOp} (h0 : d.wf = true) :
    (Device.opFailed d o).wf = true := by
  unfold Device.opFailed
  repeat' first
    | with_reducible assumption | with_reducible apply Device.complete_wf | with_reducible apply Device.updError_wf
    | split

theorem Device.secLine_wf {d : Device} {plain : Bool} {fails : Bool} (h0 : d.wf = true) :
    (Device.secLine d plain fails).wf = true := by
  unfold Device.secLine
  repeat' first
    | with_reducible assumption | with_reducible apply Device.endLine_wf | with_reducible apply Device.nvsPick_wf
    | with_reducible apply Device.opDone_wf | with_reducible apply Device.opFailed_wf
    | (fail_if_no_progress with_reducible apply Device.wf_mk) | split

theorem Device.reqLine_wf {d : Device} {fails : Bool} (h0 : d.wf = true) :
    (Device.reqLine d fails).wf = true := by
  unfold Device.reqLine
  repeat' first
    | with_reducible assumption | with_reducible apply Device.endLine_wf | with_reducible apply Device.fire_wf
    | with_reducible apply Device.nvsPick_wf | with_reducible apply Device.orField_wf
    | with_reducible apply Device.put_wf | with_reducible apply Device.setFlag_wf
    | (fail_if_no_progress with_reducible apply Device.wf_mk) | split

theorem Device.nvsLineWrite_wf {d : Device} {fails : Bool} (h0 : d.wf = true) :
    (Device.nvsLineWrite d fails).wf = true := by
  unfold Device.nvsLineWrite
  repeat' first
    | with_reducible assumption | with_reducible apply Device.reqLine_wf | with_reducible apply Device.secLine_wf
    | with_reducible apply Device.wf_ite

theorem Device.nvcReqGo_wf {d : Device} (h0 : d.wf = true) :
    (Device.nvcReqGo d).wf = true := by
  unfold Device.nvcReqGo
  repeat' first
    | with_reducible assumption | with_reducible apply Device.nvsPick_wf | with_reducible apply Device.put_wf
    | with_reducible apply Device.readBuffer_wf | with_reducible apply Device.setFlag_wf
    | (fail_if_no_progress with_reducible apply Device.wf_mk)

theorem Device.secConfirm_wf {d : Device} (h0 : d.wf = true) :
    (Device.secConfirm d).wf = true := by
  unfold Device.secConfirm
  repeat' first
    | with_reducible assumption | with_reducible apply Device.secOp_wf | split

end Sys2Proof.Machine
end

