-- ==== Sys2Proof/Laws/WfResetOps.lean ====
section
/-! SUPPORT. The functions of `Machine/ResetOps.lean` keep the canonical form of the stores. -/

namespace Sys2Proof.Machine

theorem Device.interruptNvs_wf {d : Device} (h0 : d.wf = true) :
    (Device.interruptNvs d).wf = true := by
  unfold Device.interruptNvs
  repeat' first
    | with_reducible assumption | with_reducible apply Device.spoilLine_wf
    | (fail_if_no_progress with_reducible apply Device.wf_mk) | split

theorem Device.resetAll_wf {d : Device} {cause : Nat} {seq : SeqStep} {core : Bool} (h0 : d.wf = true) :
    (Device.resetAll d cause seq core).wf = true := by
  have h := Device.interruptNvs_wf h0
  refine Device.orField_wf (Device.updateDrvOk_wf (Device.setFlag_wf (Device.setFlag_wf (Device.setFlag_wf
    (Device.setFlag_wf (Device.wf_parts (RegMap.filter_wf keptRegister (Device.wf_regs h)) ?_
    (Device.wf_c0 Device.initial_wf) (Device.wf_c1 Device.initial_wf) (Device.wf_sc Device.initial_wf)
    (Device.wf_companions h)))))))
  split
  · exact Device.wf_mem h
  · exact Memory.filter_wf nvsAddress (Device.wf_mem h)

theorem Device.powerOnReset_wf {d : Device} {seq : SeqStep} (h0 : d.wf = true) :
    (Device.powerOnReset d seq).wf = true := by
  exact Device.wf_parts (Device.wf_regs Device.initial_wf) (Memory.filter_wf nvsAddress (Device.wf_mem (Device.interruptNvs_wf h0)))
    (Device.wf_c0 Device.initial_wf) (Device.wf_c1 Device.initial_wf) (Device.wf_sc Device.initial_wf)
    (Device.wf_companions (Device.interruptNvs_wf h0))

theorem Device.warmReset_wf {d : Device} {cause : Nat} (h0 : d.wf = true) :
    (Device.warmReset d cause).wf = true := by
  unfold Device.warmReset
  repeat' first
    | with_reducible assumption | with_reducible apply Device.resetAll_wf

theorem Device.softwareReset_wf {d : Device} (h0 : d.wf = true) :
    (Device.softwareReset d).wf = true := by
  unfold Device.softwareReset
  repeat' first
    | with_reducible assumption | with_reducible apply Device.warmReset_wf

theorem Core.atEntry_wf {entry : Word} {vec : Word}  :
    RegMap.wf (Core.atEntry entry vec).st = true := by
  unfold Core.atEntry
  repeat' first
    | with_reducible apply Core.atReset_wf | with_reducible apply RegMap.put_wf

theorem Device.appAborted_wf {d : Device} {c : Client} (h0 : d.wf = true) :
    (Device.appAborted d c).wf = true := by
  unfold Device.appAborted
  repeat' first
    | with_reducible assumption | with_reducible apply Device.complete_wf | with_reducible apply Device.setFlag_wf
    | with_reducible apply Device.wf_ite

theorem Device.coreReset_wf {d : Device} {c : CoreId} (h0 : d.wf = true) :
    (Device.coreReset d c).wf = true := by
  unfold Device.coreReset
  repeat' first
    | with_reducible assumption | with_reducible apply Device.abandonTask_wf
    | with_reducible apply Device.appAborted_wf | with_reducible apply Core.atEntry_wf
    | with_reducible apply Device.returnEvents_wf | with_reducible apply Device.semBreakAll_wf
    | with_reducible apply Device.setCore_wf | with_reducible apply Device.setFlag_wf
    | with_reducible apply Device.storeWord_wf | with_reducible apply Device.wf_ite
    | (fail_if_no_progress with_reducible apply Device.wf_mk)

theorem Device.bootClear_wf {d : Device} (h0 : d.wf = true) :
    (Device.bootClear d).wf = true := by
  exact Device.wf_parts (Device.wf_regs h0) (Memory.filter_wf (fun a => 0x20070000 ≤ a) (Device.wf_mem h0)) (Device.wf_c0 h0) (Device.wf_c1 h0)
    (Device.wf_sc h0) (Device.wf_companions h0)

theorem Device.recoverJournal_wf {d : Device} {valid : Bool} (h0 : d.wf = true) :
    (Device.recoverJournal d valid).2.wf = true := by
  unfold Device.recoverJournal
  repeat' first
    | with_reducible assumption | with_reducible apply Device.program_wf | with_reducible apply Device.putLine_wf
    | (fail_if_no_progress with_reducible apply Device.wf_mk) | split

theorem Device.loadMasks_wf {d : Device} (h0 : d.wf = true) :
    (Device.loadMasks d).wf = true := by
  unfold Device.loadMasks
  repeat' first
    | with_reducible assumption | with_reducible apply Device.put_wf | with_reducible apply Device.setFlag_wf | split

theorem Device.copySections_wf {a0 : Device} {a1 : List Section} {a2 : List Byte} (h0 : a0.wf = true) :
    (Device.copySections a0 a1 a2).wf = true := by
  induction a1 generalizing a0 a2 with
  | nil => exact h0
  | cons s t ih => exact ih (Device.setBytes_wf _ _ h0)

theorem Device.copyImage_wf {d : Device} {slot : Nat} (h0 : d.wf = true) :
    (Device.copyImage d slot).wf = true := by
  unfold Device.copyImage
  repeat' first
    | with_reducible assumption | with_reducible apply Device.copySections_wf

theorem Device.bootVerify_wf {d : Device} {slot : Nat} (h0 : d.wf = true) :
    (Device.bootVerify d slot).2.wf = true := by
  unfold Device.bootVerify
  repeat' first
    | with_reducible assumption | with_reducible apply Device.copyImage_wf | with_reducible apply Device.fire_wf
    | with_reducible apply Device.nvsScan_wf | with_reducible apply Device.wf_ite

theorem Device.chooseSlot_wf {d : Device} (h0 : d.wf = true) :
    (Device.chooseSlot d).2.2.wf = true := by
  unfold Device.chooseSlot
  repeat' first
    | with_reducible assumption | with_reducible apply Device.endLine_wf | with_reducible apply Device.setFlag_wf
    | with_reducible apply Device.showNvs_wf | (fail_if_no_progress with_reducible apply Device.wf_mk) | split
    | (fail_if_no_progress extract_lets)

theorem Device.handOff_wf {d : Device} {slot : Nat} {trial : Bool} {r0 : Nat} {r1 : Nat} (h0 : d.wf = true) :
    (Device.handOff d slot trial r0 r1).wf = true := by
  unfold Device.handOff
  extract_lets f d1 d2 d3
  have h1 : d1.wf = true := Device.setBytes_wf _ _ h0
  clear_value d1
  have h2 : d2.wf = true := Device.setFlag_wf (Device.put_wf _ _ h1)
  clear_value d2 f
  exact Device.cput_wf (Device.wf_parts (Device.wf_regs h2) (Device.wf_mem h2) Core.atEntry_wf Core.atEntry_wf
    (Device.wf_sc h2) (Device.wf_companions h2))

theorem Device.readyAfterBoot_wf {d : Device} (h0 : d.wf = true) :
    (Device.readyAfterBoot d).wf = true := by
  unfold Device.readyAfterBoot
  repeat' first
    | with_reducible assumption | with_reducible apply Device.extFault_wf | with_reducible apply Device.reachReady_wf
    | with_reducible apply Device.shlRole_wf | with_reducible apply Device.trnModeUpdate_wf
    | with_reducible apply Device.updateDrvOk_wf | with_reducible apply Device.wf_ite
    | (fail_if_no_progress with_reducible apply Device.wf_mk)

theorem Device.bootRom_wf {d : Device} {journal : Bool} (h0 : d.wf = true) :
    (Device.bootRom d journal).wf = true := by
  unfold Device.bootRom
  repeat' first
    | with_reducible assumption | with_reducible apply Device.bootClear_wf
    | with_reducible apply Device.bootVerify_wf | with_reducible apply Device.chooseSlot_wf
    | with_reducible apply Device.handOff_wf | with_reducible apply Device.loadMasks_wf
    | with_reducible apply Device.log_wf | with_reducible apply Device.powerFault_wf
    | with_reducible apply Device.readyAfterBoot_wf | with_reducible apply Device.recoverJournal_wf
    | with_reducible apply Device.scanErrors_wf | with_reducible apply Device.showNvs_wf
    | with_reducible apply Device.showRosters_wf | with_reducible apply Device.startupScan_wf
    | with_reducible apply Device.wf_ite | (fail_if_no_progress with_reducible apply Device.wf_mk) | split

end Sys2Proof.Machine
end

