-- ==== Sys2Proof/Laws/WfPowerOps.lean ====
section
/-! SUPPORT. The functions of `Machine/PowerOps.lean` keep the canonical form of the stores. -/

namespace Sys2Proof.Machine

theorem Device.followState_wf {d : Device} (h0 : d.wf = true) :
    (Device.followState d).wf = true := by
  unfold Device.followState
  repeat' first
    | with_reducible assumption | with_reducible apply Device.shlRole_wf
    | with_reducible apply Device.trnModeUpdate_wf

theorem Device.enAux_wf {d : Device} {n : Fin 3} {b : Bool} (h0 : d.wf = true) :
    (Device.enAux d n b).wf = true := by
  unfold Device.enAux
  repeat' first
    | with_reducible assumption | (fail_if_no_progress with_reducible apply Device.wf_mk)

theorem Device.goSeq_wf {d : Device} {s : SeqStep} (h0 : d.wf = true) :
    (Device.goSeq d s).wf = true := by
  unfold Device.goSeq
  repeat' first
    | with_reducible assumption | with_reducible apply Device.trnModeUpdate_wf
    | (fail_if_no_progress with_reducible apply Device.wf_mk)

theorem Device.startSequence_wf {d : Device} (h0 : d.wf = true) :
    (Device.startSequence d).wf = true := by
  unfold Device.startSequence
  repeat' first
    | with_reducible assumption | with_reducible apply Device.enAux_wf | with_reducible apply Device.goSeq_wf

theorem Device.porRise_wf {d : Device} (h0 : d.wf = true) :
    (Device.porRise d).wf = true := by
  unfold Device.porRise
  repeat' first
    | with_reducible assumption | with_reducible apply Device.powerOnReset_wf | with_reducible apply Device.wf_ite

theorem Device.aonPorRelease_wf {d : Device} (h0 : d.wf = true) :
    (Device.aonPorRelease d).wf = true := by
  unfold Device.aonPorRelease
  repeat' first
    | with_reducible assumption | with_reducible apply Device.startSequence_wf | with_reducible apply Device.wf_ite

theorem Device.porFall_wf {d : Device} (h0 : d.wf = true) :
    (Device.porFall d).wf = true := by
  unfold Device.porFall
  repeat' first
    | with_reducible assumption | with_reducible apply Device.powerOnReset_wf | with_reducible apply Device.wf_ite

theorem Device.beginDown_wf {d : Device} {why : DownWhy} (h0 : d.wf = true) :
    (Device.beginDown d why).wf = true := by
  unfold Device.beginDown
  repeat' first
    | with_reducible assumption | with_reducible apply Device.enAux_wf | with_reducible apply Device.goSeq_wf
    | (fail_if_no_progress with_reducible apply Device.wf_mk)

theorem Device.pgAuxRise_wf {d : Device} {n : Fin 3} (h0 : d.wf = true) :
    (Device.pgAuxRise d n).wf = true := by
  unfold Device.pgAuxRise
  repeat' first
    | with_reducible assumption | with_reducible apply Device.goSeq_wf | with_reducible apply Device.updateDrvOk_wf
    | (fail_if_no_progress with_reducible apply Device.wf_mk) | split | (fail_if_no_progress extract_lets)

theorem Device.sampleStraps_wf {d : Device} {x : Vector (BitVec 5) 3} (h0 : d.wf = true) :
    (Device.sampleStraps d x).wf = true := by
  unfold Device.sampleStraps
  repeat' first
    | with_reducible assumption | with_reducible apply Device.setWord_wf

theorem Device.suppliesOff_wf {d : Device} (h0 : d.wf = true) :
    (Device.suppliesOff d).wf = true := by
  unfold Device.suppliesOff
  repeat' first
    | with_reducible assumption | with_reducible apply Device.enAux_wf | with_reducible apply Device.goSeq_wf
    | with_reducible apply Device.setFlag_wf | with_reducible apply Device.startSequence_wf | split
    | (fail_if_no_progress extract_lets)

theorem Device.loseCore_wf {d : Device} (h0 : d.wf = true) :
    (Device.loseCore d).wf = true := by
  exact Device.wf_parts (Device.wf_regs h0) (Memory.filter_wf nvsAddress (Device.wf_mem h0)) (Device.wf_c0 h0) (Device.wf_c1 h0)
    (Device.wf_sc h0) (Device.wf_companions h0)

theorem Device.seqGapExpire_wf {d : Device} {straps : Vector (BitVec 5) 3} (h0 : d.wf = true) :
    (Device.seqGapExpire d straps).wf = true := by
  unfold Device.seqGapExpire
  repeat' first
    | with_reducible assumption | with_reducible apply Device.enAux_wf | with_reducible apply Device.goSeq_wf
    | with_reducible apply Device.interruptNvs_wf | with_reducible apply Device.loseCore_wf
    | with_reducible apply Device.openMain_wf | with_reducible apply Device.sampleStraps_wf
    | with_reducible apply Device.senseBoundary_wf | with_reducible apply Device.setFlag_wf
    | with_reducible apply Device.suppliesOff_wf | with_reducible apply Device.unlockAll_wf
    | (fail_if_no_progress with_reducible apply Device.wf_mk) | split

theorem Device.releaseDomains_wf {d : Device} (h0 : d.wf = true) :
    (Device.releaseDomains d).wf = true := by
  unfold Device.releaseDomains
  repeat' first
    | with_reducible assumption | with_reducible apply Device.enAux_wf | with_reducible apply Device.goSeq_wf
    | with_reducible apply Device.transferLatches_wf

theorem Device.dividerRelease_wf {d : Device} (h0 : d.wf = true) :
    (Device.dividerRelease d).wf = true := by
  unfold Device.dividerRelease
  repeat' first
    | with_reducible assumption | with_reducible apply Device.put_wf | with_reducible apply Device.releaseDomains_wf
    | with_reducible apply Device.setFlag_wf | with_reducible apply Device.wf_ite
    | (fail_if_no_progress with_reducible apply Device.wf_mk)

theorem Device.drvSupply_wf {d : Device} (h0 : d.wf = true) :
    (Device.drvSupply d).wf = true := by
  unfold Device.drvSupply
  repeat' first
    | with_reducible assumption | with_reducible apply Device.powerFault_wf

theorem Device.pgtoExpire_wf {d : Device} (h0 : d.wf = true) :
    (Device.pgtoExpire d).wf = true := by
  unfold Device.pgtoExpire
  repeat' first
    | with_reducible assumption | with_reducible apply Device.beginDown_wf | with_reducible apply Device.bump_wf
    | with_reducible apply Device.drvSupply_wf | with_reducible apply Device.orField_wf
    | with_reducible apply Device.wf_ite | (fail_if_no_progress with_reducible apply Device.wf_mk) | split

theorem Device.seqRetry_wf {d : Device} (h0 : d.wf = true) :
    (Device.seqRetry d).wf = true := by
  unfold Device.seqRetry
  repeat' first
    | with_reducible assumption | with_reducible apply Device.startSequence_wf | with_reducible apply Device.wf_ite

theorem Device.pgAuxFall_wf {d : Device} {n : Fin 3} (h0 : d.wf = true) :
    (Device.pgAuxFall d n).wf = true := by
  unfold Device.pgAuxFall
  repeat' first
    | with_reducible assumption | with_reducible apply Device.drvSupply_wf | with_reducible apply Device.enAux_wf
    | with_reducible apply Device.resetAll_wf | with_reducible apply Device.trnModeUpdate_wf
    | with_reducible apply Device.updateDrvOk_wf | with_reducible apply Device.wf_ite
    | (fail_if_no_progress with_reducible apply Device.wf_mk)

theorem Device.pllLock_wf {d : Device} (h0 : d.wf = true) :
    (Device.pllLock d).wf = true := by
  unfold Device.pllLock
  repeat' first
    | with_reducible assumption | with_reducible apply Device.setFlag_wf | with_reducible apply Device.wf_ite

theorem Device.toLimp_wf {d : Device} (h0 : d.wf = true) :
    (Device.toLimp d).wf = true := by
  unfold Device.toLimp
  repeat' first
    | with_reducible assumption | with_reducible apply Device.put_wf | with_reducible apply Device.setClkMode_wf
    | with_reducible apply Device.setFlag_wf

theorem Device.xtalFail_wf {d : Device} (h0 : d.wf = true) :
    (Device.xtalFail d).wf = true := by
  unfold Device.xtalFail
  repeat' first
    | with_reducible assumption | with_reducible apply Device.setFlag_wf

theorem Device.loopLost_wf {d : Device} (h0 : d.wf = true) :
    (Device.loopLost d).wf = true := by
  unfold Device.loopLost
  repeat' first
    | with_reducible assumption | with_reducible apply Device.setFlag_wf

theorem Device.pllUnlock_wf {d : Device} {trip : Bool} (h0 : d.wf = true) :
    (Device.pllUnlock d trip).wf = true := by
  unfold Device.pllUnlock
  repeat' first
    | with_reducible assumption | with_reducible apply Device.fire_wf | with_reducible apply Device.loopLost_wf
    | with_reducible apply Device.loseRing_wf | with_reducible apply Device.powerFault_wf
    | with_reducible apply Device.senseBoundary_wf | with_reducible apply Device.setFlag_wf
    | with_reducible apply Device.toLimp_wf | with_reducible apply Device.trnModeUpdate_wf
    | with_reducible apply Device.unlockAll_wf | with_reducible apply Device.xtalFail_wf
    | with_reducible apply Device.wf_ite | (fail_if_no_progress with_reducible apply Device.wf_mk)

theorem Device.analogRelock_wf {d : Device} (h0 : d.wf = true) :
    (Device.analogRelock d).wf = true := by
  unfold Device.analogRelock
  repeat' first
    | with_reducible assumption | with_reducible apply Device.setFlag_wf | with_reducible apply Device.wf_ite

theorem Device.limpReturn_wf {d : Device} (h0 : d.wf = true) :
    (Device.limpReturn d).wf = true := by
  unfold Device.limpReturn
  repeat' first
    | with_reducible assumption | with_reducible apply Device.put_wf | with_reducible apply Device.puti_wf
    | with_reducible apply Device.setClkMode_wf | with_reducible apply Device.setFlag_wf
    | with_reducible apply Device.shlLimpReturn_wf | with_reducible apply Device.trnModeUpdate_wf
    | with_reducible apply Device.wf_ite | (fail_if_no_progress with_reducible apply Device.wf_mk)

theorem Device.xtalStartTimeout_wf {d : Device} (h0 : d.wf = true) :
    (Device.xtalStartTimeout d).wf = true := by
  unfold Device.xtalStartTimeout
  repeat' first
    | with_reducible assumption | with_reducible apply Device.releaseDomains_wf
    | with_reducible apply Device.setFlag_wf | with_reducible apply Device.toLimp_wf
    | with_reducible apply Device.wf_ite

theorem Device.showVstk_wf {d : Device} {v : BitVec 9} (h0 : d.wf = true) :
    (Device.showVstk d v).wf = true := by
  unfold Device.showVstk
  repeat' first
    | with_reducible assumption | with_reducible apply Device.put_wf

theorem Device.brownout_wf {d : Device} {v : BitVec 9} (h0 : d.wf = true) :
    (Device.brownout d v).wf = true := by
  unfold Device.brownout
  repeat' first
    | with_reducible assumption | with_reducible apply Device.openMain_wf | with_reducible apply Device.powerFault_wf
    | with_reducible apply Device.setFlag_wf | with_reducible apply Device.showVstk_wf
    | with_reducible apply Device.wf_ite

theorem Device.brownoutWarn_wf {d : Device} {v : BitVec 9} (h0 : d.wf = true) :
    (Device.brownoutWarn d v).wf = true := by
  unfold Device.brownoutWarn
  repeat' first
    | with_reducible assumption | with_reducible apply Device.fire_wf | with_reducible apply Device.setFlag_wf
    | with_reducible apply Device.showVstk_wf | with_reducible apply Device.wf_ite

theorem Device.startPrestart_wf {d : Device} (h0 : d.wf = true) :
    (Device.startPrestart d).wf = true := by
  unfold Device.startPrestart
  repeat' first
    | with_reducible assumption | with_reducible apply Device.diagStart_wf | with_reducible apply Device.put_wf

theorem Device.restDrive_wf {d : Device} (h0 : d.wf = true) :
    (Device.restDrive d).wf = true := by
  unfold Device.restDrive
  repeat' first
    | with_reducible assumption | with_reducible apply Device.setDrive_wf | with_reducible apply Device.wf_ite

theorem Device.refuseEntry_wf {d : Device} {reason : Nat} (h0 : d.wf = true) :
    (Device.refuseEntry d reason).wf = true := by
  unfold Device.refuseEntry
  repeat' first
    | with_reducible assumption | with_reducible apply Device.abandon_wf | with_reducible apply Device.put_wf
    | with_reducible apply Device.restDrive_wf

theorem Device.diagOrder_wf {d : Device} {op : Nat} {mask : Nat} (h0 : d.wf = true) :
    (Device.diagOrder d op mask).wf = true := by
  unfold Device.diagOrder
  repeat' first
    | with_reducible assumption | with_reducible apply Device.diagCommand_wf
    | with_reducible apply Device.refuseEntry_wf | with_reducible apply Device.wf_ite

theorem Device.startRampOut_wf {d : Device} (h0 : d.wf = true) :
    (Device.startRampOut d).wf = true := by
  unfold Device.startRampOut
  repeat' first
    | with_reducible assumption | with_reducible apply Device.put_wf
    | (fail_if_no_progress with_reducible apply Device.wf_mk)

theorem Device.giveUp_wf {d : Device} (h0 : d.wf = true) :
    (Device.giveUp d).wf = true := by
  unfold Device.giveUp
  repeat' first
    | with_reducible assumption | with_reducible apply Device.enAux_wf | with_reducible apply Device.put_wf
    | with_reducible apply Device.restDrive_wf | with_reducible apply Device.startRampOut_wf
    | (fail_if_no_progress with_reducible apply Device.wf_mk) | split | (fail_if_no_progress extract_lets)

theorem Device.bootstrapStart_wf {d : Device} (h0 : d.wf = true) :
    (Device.bootstrapStart d).wf = true := by
  unfold Device.bootstrapStart
  repeat' first
    | with_reducible assumption | with_reducible apply Device.put_wf | with_reducible apply Device.setDrive_wf
    | with_reducible apply Device.sweepBootstrap_wf | with_reducible apply Device.wf_ite
    | (fail_if_no_progress with_reducible apply Device.wf_mk)

theorem Device.applyRdc_wf {d : Device} (h0 : d.wf = true) :
    (Device.applyRdc d).wf = true := by
  unfold Device.applyRdc
  repeat' first
    | intro _ | with_reducible assumption | with_reducible apply Device.guardRdc_wf
    | with_reducible apply Device.wf_ite | with_reducible apply Device.wf_foldl

theorem Device.entryBoundary_wf {d : Device} (h0 : d.wf = true) :
    (Device.entryBoundary d).wf = true := by
  unfold Device.entryBoundary
  repeat' first
    | with_reducible assumption | with_reducible apply Device.applyRdc_wf
    | with_reducible apply Device.clearShapers_wf | with_reducible apply Device.pilotStart_wf
    | with_reducible apply Device.put_wf | with_reducible apply Device.setDrive_wf
    | with_reducible apply Device.setFlag_wf | with_reducible apply Device.wf_ite
    | (fail_if_no_progress with_reducible apply Device.wf_mk)

theorem Device.advanceRamp_wf {d : Device} (h0 : d.wf = true) :
    (Device.advanceRamp d).wf = true := by
  unfold Device.advanceRamp
  repeat' first
    | with_reducible assumption | with_reducible apply Device.wf_ite
    | (fail_if_no_progress with_reducible apply Device.wf_mk)

theorem Device.rampInEnd_wf {d : Device} (h0 : d.wf = true) :
    (Device.rampInEnd d).wf = true := by
  unfold Device.rampInEnd
  repeat' first
    | with_reducible assumption | with_reducible apply Device.finishRequest_wf | with_reducible apply Device.put_wf
    | with_reducible apply Device.wf_ite | (fail_if_no_progress with_reducible apply Device.wf_mk)

theorem Device.rampOutEnd_wf {d : Device} (h0 : d.wf = true) :
    (Device.rampOutEnd d).wf = true := by
  unfold Device.rampOutEnd
  repeat' first
    | with_reducible assumption | with_reducible apply Device.finishRequest_wf
    | with_reducible apply Device.followState_wf | with_reducible apply Device.put_wf
    | with_reducible apply Device.setDrive_wf | with_reducible apply Device.wf_ite
    | (fail_if_no_progress with_reducible apply Device.wf_mk)

theorem Device.prechargeFails_wf {d : Device} {reason : Nat} (h0 : d.wf = true) :
    (Device.prechargeFails d reason).wf = true := by
  unfold Device.prechargeFails
  repeat' first
    | with_reducible assumption | with_reducible apply Device.finishRequest_wf
    | with_reducible apply Device.refuseEntry_wf | with_reducible apply Device.wf_ite

theorem Device.mainPermission_wf {d : Device} (h0 : d.wf = true) :
    (Device.mainPermission d).wf = true := by
  unfold Device.mainPermission
  repeat' first
    | with_reducible assumption | with_reducible apply Device.finishRequest_wf
    | with_reducible apply Device.openMain_wf | with_reducible apply Device.wf_ite

theorem Device.prechargeStart_wf {d : Device} (h0 : d.wf = true) :
    (Device.prechargeStart d).wf = true := by
  unfold Device.prechargeStart
  repeat' first
    | with_reducible assumption | with_reducible apply Device.prechargeFails_wf | with_reducible apply Device.put_wf
    | (fail_if_no_progress with_reducible apply Device.wf_mk) | split

theorem Device.prechargeBlock_wf {d : Device} {lane : Vector Word 16} (h0 : d.wf = true) :
    (Device.prechargeBlock d lane).wf = true := by
  unfold Device.prechargeBlock
  repeat' first
    | with_reducible assumption | (fail_if_no_progress with_reducible apply Device.wf_mk) | split

theorem Device.prechargeEnd_wf {d : Device} (h0 : d.wf = true) :
    (Device.prechargeEnd d).wf = true := by
  unfold Device.prechargeEnd
  repeat' first
    | with_reducible assumption | with_reducible apply Device.finishRequest_wf | with_reducible apply Device.put_wf
    | with_reducible apply Device.startPrestart_wf | with_reducible apply Device.wf_ite
    | (fail_if_no_progress with_reducible apply Device.wf_mk) | split

theorem Device.pchgOverlapEnd_wf {d : Device} (h0 : d.wf = true) :
    (Device.pchgOverlapEnd d).wf = true := by
  unfold Device.pchgOverlapEnd
  repeat' first
    | with_reducible assumption | with_reducible apply Device.wf_ite
    | (fail_if_no_progress with_reducible apply Device.wf_mk)

theorem Device.pchgTimeout_wf {d : Device} (h0 : d.wf = true) :
    (Device.pchgTimeout d).wf = true := by
  unfold Device.pchgTimeout
  repeat' first
    | with_reducible assumption | with_reducible apply Device.finishRequest_wf
    | with_reducible apply Device.powerFault_wf | with_reducible apply Device.put_wf
    | (fail_if_no_progress with_reducible apply Device.wf_mk) | split

theorem Device.presenceRing_wf {d : Device} (h0 : d.wf = true) :
    (Device.presenceRing d).wf = true := by
  unfold Device.presenceRing
  repeat' first
    | with_reducible assumption | with_reducible apply Device.leaveRing_wf
    | with_reducible apply Device.trnModeUpdate_wf | (fail_if_no_progress with_reducible apply Device.wf_mk)

theorem Device.safeDrive_wf {d : Device} (h0 : d.wf = true) :
    (Device.safeDrive d).wf = true := by
  unfold Device.safeDrive
  repeat' first
    | with_reducible assumption | with_reducible apply Device.setDrive_wf | with_reducible apply Device.wf_ite

theorem Device.presLost_wf {d : Device} (h0 : d.wf = true) :
    (Device.presLost d).wf = true := by
  unfold Device.presLost
  repeat' first
    | with_reducible assumption | with_reducible apply Device.abortQueue_wf
    | with_reducible apply Device.finishRequest_wf | with_reducible apply Device.fire_wf
    | with_reducible apply Device.openMain_wf | with_reducible apply Device.powerFault_wf
    | with_reducible apply Device.presenceRing_wf | with_reducible apply Device.safeDrive_wf
    | with_reducible apply Device.setFlag_wf | with_reducible apply Device.wf_ite
    | (fail_if_no_progress with_reducible apply Device.wf_mk)

theorem Device.presGained_wf {d : Device} (h0 : d.wf = true) :
    (Device.presGained d).wf = true := by
  unfold Device.presGained
  repeat' first
    | with_reducible assumption | with_reducible apply Device.fire_wf | with_reducible apply Device.setFlag_wf
    | with_reducible apply Device.wf_ite | (fail_if_no_progress with_reducible apply Device.wf_mk)

theorem Device.answerRequest_wf {d : Device} {result : Nat} {reason : Nat} (h0 : d.wf = true) :
    (Device.answerRequest d result reason).wf = true := by
  unfold Device.answerRequest
  repeat' first
    | with_reducible assumption | with_reducible apply Device.put_wf

theorem Device.acceptReady_wf {d : Device} (h0 : d.wf = true) :
    (Device.acceptReady d).wf = true := by
  unfold Device.acceptReady
  repeat' first
    | with_reducible assumption | with_reducible apply Device.answerRequest_wf
    | with_reducible apply Device.diagStop_wf | with_reducible apply Device.giveUp_wf
    | with_reducible apply Device.startRampOut_wf | with_reducible apply Device.wf_ite

theorem Device.acceptPlay_wf {d : Device} (h0 : d.wf = true) :
    (Device.acceptPlay d).wf = true := by
  unfold Device.acceptPlay
  repeat' first
    | with_reducible assumption | with_reducible apply Device.answerRequest_wf
    | with_reducible apply Device.startPrestart_wf | (fail_if_no_progress with_reducible apply Device.wf_mk)

theorem Device.acceptIce_wf {d : Device} (h0 : d.wf = true) :
    (Device.acceptIce d).wf = true := by
  unfold Device.acceptIce
  repeat' first
    | with_reducible assumption | with_reducible apply Device.answerRequest_wf | with_reducible apply Device.enAux_wf
    | with_reducible apply Device.leaveRing_wf | with_reducible apply Device.openMain_wf
    | (fail_if_no_progress with_reducible apply Device.wf_mk)

theorem Device.acceptSafe_wf {d : Device} (h0 : d.wf = true) :
    (Device.acceptSafe d).wf = true := by
  unfold Device.acceptSafe
  repeat' first
    | with_reducible assumption | with_reducible apply Device.answerRequest_wf
    | with_reducible apply Device.diagAbort_wf | with_reducible apply Device.giveUp_wf
    | with_reducible apply Device.powerFault_wf | with_reducible apply Device.put_wf
    | with_reducible apply Device.wf_ite | (fail_if_no_progress with_reducible apply Device.wf_mk)

theorem Device.logExit_wf {d : Device} {m : Master} {code : Nat} (h0 : d.wf = true) :
    (Device.logExit d m code).wf = true := by
  unfold Device.logExit
  repeat' first
    | with_reducible assumption | with_reducible apply Device.log_wf

theorem Device.acceptExit_wf {d : Device} {m : Master} (h0 : d.wf = true) :
    (Device.acceptExit d m).wf = true := by
  unfold Device.acceptExit
  repeat' first
    | with_reducible assumption | with_reducible apply Device.answerRequest_wf
    | with_reducible apply Device.logExit_wf | with_reducible apply Device.put_wf
    | with_reducible apply Device.setDrive_wf

theorem Device.acceptExitPlay_wf {d : Device} {m : Master} (h0 : d.wf = true) :
    (Device.acceptExitPlay d m).wf = true := by
  unfold Device.acceptExitPlay
  repeat' first
    | with_reducible assumption | with_reducible apply Device.answerRequest_wf
    | with_reducible apply Device.logExit_wf | with_reducible apply Device.put_wf
    | with_reducible apply Device.startPrestart_wf | with_reducible apply Device.wf_ite
    | (fail_if_no_progress with_reducible apply Device.wf_mk)

theorem Device.acceptRequest_wf {d : Device} {m : Master} {code : Nat} (h0 : d.wf = true) :
    (Device.acceptRequest d m code).wf = true := by
  unfold Device.acceptRequest
  repeat' first
    | with_reducible assumption | with_reducible apply Device.acceptExit_wf
    | with_reducible apply Device.acceptExitPlay_wf | with_reducible apply Device.acceptIce_wf
    | with_reducible apply Device.acceptPlay_wf | with_reducible apply Device.acceptReady_wf
    | with_reducible apply Device.acceptSafe_wf | with_reducible apply Device.answerRequest_wf
    | with_reducible apply Device.diagStop_wf | with_reducible apply Device.giveUp_wf
    | with_reducible apply Device.openMain_wf | (fail_if_no_progress with_reducible apply Device.wf_mk) | split

theorem Device.pwrCommand_wf {d : Device} {m : Master} {priv : Bool} {code : Nat} (h0 : d.wf = true) :
    (Device.pwrCommand d m priv code).wf = true := by
  unfold Device.pwrCommand
  repeat' first
    | with_reducible assumption | with_reducible apply Device.acceptRequest_wf
    | with_reducible apply Device.answerRequest_wf | with_reducible apply Device.put_wf | split
    | (fail_if_no_progress extract_lets)

theorem Device.stillEnter_wf {d : Device} (h0 : d.wf = true) :
    (Device.stillEnter d).wf = true := by
  unfold Device.stillEnter
  repeat' first
    | with_reducible assumption | with_reducible apply Device.enAux_wf | with_reducible apply Device.finishRequest_wf
    | with_reducible apply Device.followState_wf | with_reducible apply Device.openMain_wf
    | with_reducible apply Device.put_wf | with_reducible apply Device.senseBoundary_wf
    | with_reducible apply Device.setFlag_wf | with_reducible apply Device.unlockAll_wf
    | with_reducible apply Device.wf_ite | (fail_if_no_progress with_reducible apply Device.wf_mk)

theorem Device.stillTimeout_wf {d : Device} (h0 : d.wf = true) :
    (Device.stillTimeout d).wf = true := by
  unfold Device.stillTimeout
  repeat' first
    | with_reducible assumption | with_reducible apply Device.finishRequest_wf | with_reducible apply Device.wf_ite
    | (fail_if_no_progress with_reducible apply Device.wf_mk)

theorem Device.stillWake_wf {d : Device} (h0 : d.wf = true) :
    (Device.stillWake d).wf = true := by
  unfold Device.stillWake
  repeat' first
    | with_reducible assumption | with_reducible apply Device.enAux_wf | with_reducible apply Device.wf_ite
    | (fail_if_no_progress with_reducible apply Device.wf_mk)

theorem Device.stillUngate_wf {d : Device} (h0 : d.wf = true) :
    (Device.stillUngate d).wf = true := by
  unfold Device.stillUngate
  repeat' first
    | with_reducible assumption | with_reducible apply Device.drvSupply_wf
    | with_reducible apply Device.followState_wf | with_reducible apply Device.powerFault_wf
    | with_reducible apply Device.put_wf | with_reducible apply Device.reachReady_wf
    | with_reducible apply Device.transferLatches_wf | with_reducible apply Device.wf_ite
    | (fail_if_no_progress with_reducible apply Device.wf_mk)

theorem Device.iceWake_wf {d : Device} (h0 : d.wf = true) :
    (Device.iceWake d).wf = true := by
  unfold Device.iceWake
  repeat' first
    | with_reducible assumption | with_reducible apply Device.put_wf | with_reducible apply Device.resetAll_wf
    | with_reducible apply Device.shlAfterIce_wf | with_reducible apply Device.startSequence_wf
    | with_reducible apply Device.wf_ite

theorem Device.rstPin_wf {d : Device} {low : Bool} (h0 : d.wf = true) :
    (Device.rstPin d low).wf = true := by
  unfold Device.rstPin
  repeat' first
    | with_reducible assumption | with_reducible apply Device.orField_wf | with_reducible apply Device.put_wf
    | with_reducible apply Device.resetAll_wf | with_reducible apply Device.shlAfterIce_wf
    | with_reducible apply Device.startSequence_wf | with_reducible apply Device.trnModeUpdate_wf
    | with_reducible apply Device.warmReset_wf | with_reducible apply Device.wf_ite
    | (fail_if_no_progress with_reducible apply Device.wf_mk) | split | (fail_if_no_progress extract_lets)

theorem Device.drainLog_wf {d : Device} (h0 : d.wf = true) :
    (Device.drainLog d).wf = true := by
  unfold Device.drainLog
  repeat' first
    | intro _ | with_reducible assumption | with_reducible apply Device.logWrite_wf
    | with_reducible apply Device.wf_foldl

theorem Device.wdogWarn_wf {d : Device} (h0 : d.wf = true) :
    (Device.wdogWarn d).wf = true := by
  unfold Device.wdogWarn
  repeat' first
    | with_reducible assumption | with_reducible apply Device.fire_wf | with_reducible apply Device.setFlag_wf
    | with_reducible apply Device.wf_ite

theorem Device.wdogExpire_wf {d : Device} (h0 : d.wf = true) :
    (Device.wdogExpire d).wf = true := by
  unfold Device.wdogExpire
  repeat' first
    | with_reducible assumption | with_reducible apply Device.drainLog_wf | with_reducible apply Device.log_wf
    | with_reducible apply Device.trnModeUpdate_wf | with_reducible apply Device.warmReset_wf
    | with_reducible apply Device.wf_ite | (fail_if_no_progress with_reducible apply Device.wf_mk)

theorem Device.auxSample_wf {d : Device} {ntc : Vector (Option Int) 4} {die : Int} (h0 : d.wf = true) :
    (Device.auxSample d ntc die).wf = true := by
  unfold Device.auxSample
  repeat' first
    | with_reducible assumption | with_reducible apply Device.fire_wf | with_reducible apply Device.powerFault_wf
    | with_reducible apply Device.puti_wf | with_reducible apply Device.wf_ite
    | (fail_if_no_progress with_reducible apply Device.wf_mk)

theorem Device.wakePin_wf {d : Device} (h0 : d.wf = true) :
    (Device.wakePin d).wf = true := by
  unfold Device.wakePin
  repeat' first
    | with_reducible assumption | with_reducible apply Device.fire_wf | with_reducible apply Device.wf_ite

theorem Device.clearFaults_wf {d : Device} {v : Word} (h0 : d.wf = true) :
    (Device.clearFaults d v).wf = true := by
  unfold Device.clearFaults
  repeat' first
    | with_reducible assumption | with_reducible apply Device.setWord_wf

end Sys2Proof.Machine
end

