-- ==== Sys2Proof/Laws/WfWindowOps.lean ====
section
/-! SUPPORT. The functions of `Machine/WindowOps.lean` keep the canonical form of the stores. -/

namespace Sys2Proof.Machine

theorem Device.stampWord_wf {d : Device} {a : Nat} (h0 : d.wf = true) :
    (Device.stampWord d a).wf = true := by
  unfold Device.stampWord
  repeat' first
    | with_reducible assumption | (fail_if_no_progress with_reducible apply Device.wf_mk)

theorem Device.nextRevision_wf {d : Device} (h0 : d.wf = true) :
    (Device.nextRevision d).wf = true := by
  unfold Device.nextRevision
  repeat' first
    | with_reducible assumption | with_reducible apply Device.bump_wf

theorem Device.winWrite_wf {d : Device} {i : Nat} {w : Word} (h0 : d.wf = true) :
    (Device.winWrite d i w).wf = true := by
  unfold Device.winWrite
  repeat' first
    | intro _ | with_reducible assumption | with_reducible apply Device.nextRevision_wf
    | with_reducible apply Device.storeWord_wf | with_reducible apply Device.wf_foldl
    | (fail_if_no_progress with_reducible apply Device.wf_mk)

end Sys2Proof.Machine
end

