-- ==== Sys2Proof/Laws/WfBusRead.lean ====
section
/-! SUPPORT. The functions of `Machine/BusRead.lean` keep the canonical form of the stores. -/

namespace Sys2Proof.Machine

theorem Device.streamRead_wf {d : Device} {a : Nat} (h0 : d.wf = true) :
    (Device.streamRead d a).2.wf = true := by
  unfold Device.streamRead
  repeat' first
    | with_reducible assumption | with_reducible apply Device.readChecked_wf

theorem Device.nvsRead_wf {d : Device} {a : Nat} (h0 : d.wf = true) :
    (Device.nvsRead d a).2.wf = true := by
  unfold Device.nvsRead
  repeat' first
    | with_reducible assumption | with_reducible apply Device.nvsErr_wf | with_reducible apply Device.orField_wf
    | with_reducible apply Device.raise_wf | split

theorem Device.readCycle_wf {d : Device} {c : CoreId} (h0 : d.wf = true) :
    (Device.readCycle d c).2.wf = true := by
  unfold Device.readCycle
  repeat' first
    | with_reducible assumption | with_reducible apply Device.cput_wf

theorem Device.sRead_wf {d : Device} {a : Nat} (h0 : d.wf = true) :
    (Device.sRead d a).2.wf = true := by
  unfold Device.sRead
  repeat' first
    | with_reducible assumption | with_reducible apply Device.readCycle_wf | with_reducible apply Device.wf_ite_snd

theorem Device.regRead_wf {d : Device} {a : Nat} (h0 : d.wf = true) :
    (Device.regRead d a).2.wf = true := by
  unfold Device.regRead
  repeat' first
    | with_reducible assumption | with_reducible apply Device.claim_wf | with_reducible apply Device.readRingTime_wf
    | with_reducible apply Device.setWord_wf | (fail_if_no_progress with_reducible apply Device.wf_mk) | split

theorem Device.regionRead_wf {d : Device} {a : Nat} {r : Region} (h0 : d.wf = true) :
    (Device.regionRead d a r).2.wf = true := by
  cases r
  case sWindow => exact Device.sRead_wf h0
  case periph => exact Device.regRead_wf h0
  case nvs => exact Device.nvsRead_wf h0
  case streamLow => exact Device.streamRead_wf h0
  case bootRom => exact h0
  case bank6Other => exact h0
  case none => exact h0
  all_goals exact Device.readChecked_wf h0

theorem Device.busRead_wf {d : Device} {a : Nat} (h0 : d.wf = true) :
    (Device.busRead d a).2.wf = true := by
  unfold Device.busRead
  repeat' first
    | with_reducible assumption | with_reducible apply Device.regionRead_wf

theorem Device.readCommand_wf {d : Device} {a : Nat} (h0 : d.wf = true) :
    (Device.readCommand d a).wf = true := by
  unfold Device.readCommand
  repeat' first
    | with_reducible assumption | with_reducible apply Device.busRead_wf | with_reducible apply Device.wf_ite
    | (fail_if_no_progress with_reducible apply Device.wf_mk)

end Sys2Proof.Machine
end

