-- ==== Sys2Proof/Laws/WfCoreIssue.lean ====
section
/-! SUPPORT. The functions of `Machine/CoreIssue.lean` keep the canonical form of the stores. -/

namespace Sys2Proof.Machine

theorem Device.fetchCause_wf {d : Device} {c : CoreId} (h0 : d.wf = true) :
    (Device.fetchCause d c).2.wf = true := by
  unfold Device.fetchCause
  repeat' first
    | with_reducible assumption | with_reducible apply Device.readChecked_wf | with_reducible apply Device.wf_ite_snd
    | split

theorem Retire.finish_wf {r : Retire} {c : CoreId} (h0 : r.device.wf = true) :
    (Retire.finish r c).wf = true := by
  cases r with
  | ok d => exact Device.advance_wf h0
  | jump d pc => exact Device.setPc_wf h0
  | stop d f => exact Device.coreFault_wf h0
  | gone d => exact h0

theorem Device.after_wf {d : Device} {c : CoreId} {r : Device → Retire} (h0 : d.wf = true) (h1 : ∀ x0, x0.wf = true → (r x0).device.wf = true) :
    (Device.after d c r).device.wf = true := by
  unfold Device.after
  repeat' first
    | with_reducible assumption | with_reducible apply h1 | with_reducible apply Retire.gone_wf | split

theorem Device.issue_wf {d : Device} {c : CoreId} {k : InsnClass} {reserved : Bool} {body : Device → Retire} (h0 : d.wf = true) (h1 : ∀ x0, x0.wf = true → (body x0).device.wf = true) :
    (Device.issue d c k reserved body).wf = true := by
  unfold Device.issue
  repeat' first
    | with_reducible assumption | with_reducible apply h1 | with_reducible apply Device.coreFault_wf
    | with_reducible apply Device.fetchCause_wf | with_reducible apply Retire.finish_wf
    | with_reducible apply Device.streamOverrun_wf | with_reducible apply Device.takeEvent_wf | split
    | with_reducible refine Device.wf_of_snd (by assumption) ?_

end Sys2Proof.Machine
end

