-- ==== Sys2Proof/Laws/WfBusWrite.lean ====
section
/-! SUPPORT. The functions of `Machine/BusWrite.lean` keep the canonical form of the stores. -/

namespace Sys2Proof.Machine

theorem Device.wordApplied_wf {d : Device} {a : Nat} {old : Word} (h0 : d.wf = true) :
    (Device.wordApplied d a old).wf = true := by
  unfold Device.wordApplied
  repeat' first
    | with_reducible assumption | with_reducible apply Device.extFault_wf
    | with_reducible apply Device.groupChanged_wf | with_reducible apply Device.leaveRing_wf
    | with_reducible apply Device.mainPermission_wf | with_reducible apply Device.moderationWritten_wf
    | with_reducible apply Device.ocWritten_wf | with_reducible apply Device.overrideChanged_wf
    | with_reducible apply Device.reconsider_wf | with_reducible apply Device.ringParams_wf
    | with_reducible apply Device.shlRole_wf | with_reducible apply Device.trnModeUpdate_wf
    | (fail_if_no_progress with_reducible apply Device.wf_mk) | split | (fail_if_no_progress extract_lets)

theorem Device.zeroFields_wf {d : Device} {fs : List Fld} (h0 : d.wf = true) :
    (Device.zeroFields d fs).wf = true := by
  unfold Device.zeroFields
  repeat' first
    | intro _ | with_reducible assumption | with_reducible apply Device.put_wf | with_reducible apply Device.wf_foldl

theorem Device.clearCounts_wf {d : Device} {m : Master} {a : Nat} {w : Word} (h0 : d.wf = true) :
    (Device.clearCounts d m a w).wf = true := by
  unfold Device.clearCounts
  repeat' first
    | with_reducible assumption | with_reducible apply Device.put_wf | with_reducible apply Device.setWord_wf
    | with_reducible apply Device.zeroFields_wf | with_reducible apply Device.wf_ite

theorem Device.fwDone_wf {d : Device} {c : Client} {rlen : Nat} (h0 : d.wf = true) :
    (Device.fwDone d c rlen).wf = true := by
  unfold Device.fwDone
  repeat' first
    | with_reducible assumption | with_reducible apply Device.complete_wf | with_reducible apply Device.readBuffer_wf
    | with_reducible apply Device.setFlag_wf | with_reducible apply Device.wf_ite

theorem Device.creqGo_wf {d : Device} (h0 : d.wf = true) :
    (Device.creqGo d).wf = true := by
  unfold Device.creqGo
  repeat' first
    | with_reducible assumption | with_reducible apply Device.creqEnter_wf | with_reducible apply Device.put_wf
    | (fail_if_no_progress with_reducible apply Device.wf_mk)

theorem Device.captureStart_wf {d : Device} (h0 : d.wf = true) :
    (Device.captureStart d).wf = true := by
  unfold Device.captureStart
  repeat' first
    | with_reducible assumption | with_reducible apply Device.setFlag_wf
    | (fail_if_no_progress with_reducible apply Device.wf_mk)

theorem Device.shlControl_wf {d : Device} {w : Word} (h0 : d.wf = true) :
    (Device.shlControl d w).wf = true := by
  unfold Device.shlControl
  repeat' first
    | with_reducible assumption | with_reducible apply Device.enumStart_wf | with_reducible apply Device.shlPump_wf
    | with_reducible apply Device.wf_ite | (fail_if_no_progress with_reducible apply Device.wf_mk)

theorem Device.registerActs_wf {d : Device} {m : Master} {priv : Bool} {a : Nat} {w : Word} (h0 : d.wf = true) :
    (Device.registerActs d m priv a w).wf = true := by
  unfold Device.registerActs
  repeat' first
    | with_reducible assumption | with_reducible apply Device.ackWrite_wf | with_reducible apply Device.appGo_wf
    | with_reducible apply Device.cancelWrite_wf | with_reducible apply Device.captureStart_wf
    | with_reducible apply Device.clearChFault_wf | with_reducible apply Device.clearCounts_wf
    | with_reducible apply Device.clearFaults_wf | with_reducible apply Device.clearGdvFault_wf
    | with_reducible apply Device.clearHold_wf | with_reducible apply Device.clearSysfault_wf
    | with_reducible apply Device.completeEvent_wf | with_reducible apply Device.coreReset_wf
    | with_reducible apply Device.creqGo_wf | with_reducible apply Device.diagOrder_wf
    | with_reducible apply Device.fwDone_wf | with_reducible apply Device.mailboxQueue_wf
    | with_reducible apply Device.nvcReqGo_wf | with_reducible apply Device.pwrCommand_wf
    | with_reducible apply Device.readyWrite_wf | with_reducible apply Device.secConfirm_wf
    | with_reducible apply Device.setFlag_wf | with_reducible apply Device.shlControl_wf
    | with_reducible apply Device.softEntry_wf | with_reducible apply Device.softFire_wf
    | with_reducible apply Device.softwareReset_wf | with_reducible apply Device.systemFault_wf
    | with_reducible apply Device.withdrawBits_wf | split | (fail_if_no_progress extract_lets)

theorem Device.writeAccepted_wf {d : Device} {m : Master} {priv : Bool} {r : RegSpec} {a : Nat} {w : Word} (h0 : d.wf = true) :
    (Device.writeAccepted d m priv r a w).wf = true := by
  unfold Device.writeAccepted
  repeat' first
    | with_reducible assumption | with_reducible apply Device.nextRevision_wf
    | with_reducible apply Device.registerActs_wf | with_reducible apply Device.setWord_wf
    | with_reducible apply Device.stampWord_wf | with_reducible apply Device.wordApplied_wf
    | with_reducible apply Device.wf_ite

theorem Device.regWrite_wf {d : Device} {m : Master} {priv : Bool} {a : Nat} {w : Word} (h0 : d.wf = true) :
    (Device.regWrite d m priv a w).2.wf = true := by
  unfold Device.regWrite
  repeat' first
    | with_reducible assumption | with_reducible apply Device.addrWarn_wf | with_reducible apply Device.orField_wf
    | with_reducible apply Device.reject_wf | with_reducible apply Device.writeAccepted_wf | split

theorem Device.sctlWrite_wf {d : Device} {a : Nat} {w : Word} (h0 : d.wf = true) :
    (Device.sctlWrite d a w).2.wf = true := by
  unfold Device.sctlWrite
  repeat' first
    | with_reducible assumption | with_reducible apply Device.cput_wf | with_reducible apply Device.reject_wf
    | with_reducible apply Device.wf_ite_snd | (fail_if_no_progress with_reducible apply Device.wf_mk)

theorem Device.sentryWrite_wf {d : Device} {a : Nat} {w : Word} (h0 : d.wf = true) :
    (Device.sentryWrite d a w).2.wf = true := by
  unfold Device.sentryWrite
  repeat' first
    | with_reducible assumption | with_reducible apply Device.cput_wf | with_reducible apply Device.reject_wf
    | with_reducible apply Device.wf_ite_snd

theorem Device.sWrite_wf {d : Device} {a : Nat} {w : Word} (h0 : d.wf = true) :
    (Device.sWrite d a w).2.wf = true := by
  unfold Device.sWrite
  repeat' first
    | with_reducible assumption | with_reducible apply Device.addrWarn_wf | with_reducible apply Device.cput_wf
    | with_reducible apply Device.sctlWrite_wf | with_reducible apply Device.sentryWrite_wf
    | with_reducible apply Device.wf_ite | with_reducible apply Device.wf_ite_snd

theorem Device.streamWrite_wf {d : Device} {who : Option Master} {a : Nat} {w : Word} (h0 : d.wf = true) :
    (Device.streamWrite d who a w).2.wf = true := by
  unfold Device.streamWrite
  repeat' first
    | with_reducible assumption | with_reducible apply Device.reject_wf | with_reducible apply Device.storeWord_wf
    | with_reducible apply Device.winWrite_wf | split

theorem Device.regionWrite_wf {d : Device} {m : Master} {priv : Bool} {a : Nat} {w : Word} {r : Region} (h0 : d.wf = true) :
    (Device.regionWrite d m priv a w r).2.wf = true := by
  cases r
  case coreSram => exact Device.storeWord_wf h0
  case streamLow => exact Device.streamWrite_wf h0
  case sWindow => exact Device.sWrite_wf h0
  case bank6Other => exact Device.addrWarn_wf h0
  case periph => exact Device.regWrite_wf h0
  all_goals exact h0

theorem Device.busWrite_wf {d : Device} {m : Master} {priv : Bool} {a : Nat} {w : Word} (h0 : d.wf = true) :
    (Device.busWrite d m priv a w).2.wf = true := by
  unfold Device.busWrite
  repeat' first
    | with_reducible assumption | with_reducible apply Device.regionWrite_wf

theorem Device.writeCommand_wf {d : Device} {m : Master} {a : Nat} {w : Word} (h0 : d.wf = true) :
    (Device.writeCommand d m a w).wf = true := by
  unfold Device.writeCommand
  repeat' first
    | with_reducible assumption | with_reducible apply Device.busWrite_wf | with_reducible apply Device.wf_ite

end Sys2Proof.Machine
end

