-- ==== Sys2Proof/Laws/WfOpciaAlu.lean ====
section
/-! SUPPORT. The functions of `Machine/OpciaAlu.lean` keep the canonical form of the stores. -/

namespace Sys2Proof.Machine

theorem Device.alu_wf {d : Device} {c : CoreId} {rd : WReg} {rs1 : WReg} {rs2 : WReg} {f : Word → Word → Word} (h0 : d.wf = true) :
    (Device.alu d c rd rs1 rs2 f).wf = true := by
  unfold Device.alu
  repeat' first
    | intro _ | with_reducible assumption | with_reducible apply Device.issue_wf
    | with_reducible apply Device.setReg_wf | with_reducible apply Retire.ok_wf

theorem Device.alu1_wf {d : Device} {c : CoreId} {rd : WReg} {rs1 : WReg} {f : Word → Word} (h0 : d.wf = true) :
    (Device.alu1 d c rd rs1 f).wf = true := by
  unfold Device.alu1
  repeat' first
    | intro _ | with_reducible assumption | with_reducible apply Device.issue_wf
    | with_reducible apply Device.setReg_wf | with_reducible apply Retire.ok_wf

theorem Device.aluSat_wf {d : Device} {c : CoreId} {rd : WReg} {rs1 : WReg} {rs2 : WReg} {f : Word → Word → Int} (h0 : d.wf = true) :
    (Device.aluSat d c rd rs1 rs2 f).wf = true := by
  unfold Device.aluSat
  repeat' first
    | intro _ | with_reducible assumption | with_reducible apply Device.issue_wf
    | with_reducible apply Device.markSat_wf | with_reducible apply Device.setReg_wf
    | with_reducible apply Retire.ok_wf

theorem execAdd_settles {c : CoreId} {rd : WReg} {rs1 : WReg} {rs2 : WReg} {s : State}  :
    Settles s (execAdd c rd rs1 rs2 s) := by
  unfold execAdd
  refine State.on_settles fun d h0 => ?_
  repeat' first
    | with_reducible assumption | with_reducible apply Device.alu_wf

theorem execSub_settles {c : CoreId} {rd : WReg} {rs1 : WReg} {rs2 : WReg} {s : State}  :
    Settles s (execSub c rd rs1 rs2 s) := by
  unfold execSub
  refine State.on_settles fun d h0 => ?_
  repeat' first
    | with_reducible assumption | with_reducible apply Device.alu_wf

theorem execAnd_settles {c : CoreId} {rd : WReg} {rs1 : WReg} {rs2 : WReg} {s : State}  :
    Settles s (execAnd c rd rs1 rs2 s) := by
  unfold execAnd
  refine State.on_settles fun d h0 => ?_
  repeat' first
    | with_reducible assumption | with_reducible apply Device.alu_wf

theorem execOr_settles {c : CoreId} {rd : WReg} {rs1 : WReg} {rs2 : WReg} {s : State}  :
    Settles s (execOr c rd rs1 rs2 s) := by
  unfold execOr
  refine State.on_settles fun d h0 => ?_
  repeat' first
    | with_reducible assumption | with_reducible apply Device.alu_wf

theorem execXor_settles {c : CoreId} {rd : WReg} {rs1 : WReg} {rs2 : WReg} {s : State}  :
    Settles s (execXor c rd rs1 rs2 s) := by
  unfold execXor
  refine State.on_settles fun d h0 => ?_
  repeat' first
    | with_reducible assumption | with_reducible apply Device.alu_wf

theorem execSll_settles {c : CoreId} {rd : WReg} {rs1 : WReg} {rs2 : WReg} {s : State}  :
    Settles s (execSll c rd rs1 rs2 s) := by
  unfold execSll
  refine State.on_settles fun d h0 => ?_
  repeat' first
    | with_reducible assumption | with_reducible apply Device.alu_wf

theorem execSrl_settles {c : CoreId} {rd : WReg} {rs1 : WReg} {rs2 : WReg} {s : State}  :
    Settles s (execSrl c rd rs1 rs2 s) := by
  unfold execSrl
  refine State.on_settles fun d h0 => ?_
  repeat' first
    | with_reducible assumption | with_reducible apply Device.alu_wf

theorem execSra_settles {c : CoreId} {rd : WReg} {rs1 : WReg} {rs2 : WReg} {s : State}  :
    Settles s (execSra c rd rs1 rs2 s) := by
  unfold execSra
  refine State.on_settles fun d h0 => ?_
  repeat' first
    | with_reducible assumption | with_reducible apply Device.alu_wf

theorem execSlt_settles {c : CoreId} {rd : WReg} {rs1 : WReg} {rs2 : WReg} {s : State}  :
    Settles s (execSlt c rd rs1 rs2 s) := by
  unfold execSlt
  refine State.on_settles fun d h0 => ?_
  repeat' first
    | with_reducible assumption | with_reducible apply Device.alu_wf

theorem execSltu_settles {c : CoreId} {rd : WReg} {rs1 : WReg} {rs2 : WReg} {s : State}  :
    Settles s (execSltu c rd rs1 rs2 s) := by
  unfold execSltu
  refine State.on_settles fun d h0 => ?_
  repeat' first
    | with_reducible assumption | with_reducible apply Device.alu_wf

theorem execMin_settles {c : CoreId} {rd : WReg} {rs1 : WReg} {rs2 : WReg} {s : State}  :
    Settles s (execMin c rd rs1 rs2 s) := by
  unfold execMin
  refine State.on_settles fun d h0 => ?_
  repeat' first
    | with_reducible assumption | with_reducible apply Device.alu_wf

theorem execMax_settles {c : CoreId} {rd : WReg} {rs1 : WReg} {rs2 : WReg} {s : State}  :
    Settles s (execMax c rd rs1 rs2 s) := by
  unfold execMax
  refine State.on_settles fun d h0 => ?_
  repeat' first
    | with_reducible assumption | with_reducible apply Device.alu_wf

theorem execMinu_settles {c : CoreId} {rd : WReg} {rs1 : WReg} {rs2 : WReg} {s : State}  :
    Settles s (execMinu c rd rs1 rs2 s) := by
  unfold execMinu
  refine State.on_settles fun d h0 => ?_
  repeat' first
    | with_reducible assumption | with_reducible apply Device.alu_wf

theorem execMaxu_settles {c : CoreId} {rd : WReg} {rs1 : WReg} {rs2 : WReg} {s : State}  :
    Settles s (execMaxu c rd rs1 rs2 s) := by
  unfold execMaxu
  refine State.on_settles fun d h0 => ?_
  repeat' first
    | with_reducible assumption | with_reducible apply Device.alu_wf

theorem execMul_settles {c : CoreId} {rd : WReg} {rs1 : WReg} {rs2 : WReg} {s : State}  :
    Settles s (execMul c rd rs1 rs2 s) := by
  unfold execMul
  refine State.on_settles fun d h0 => ?_
  repeat' first
    | with_reducible assumption | with_reducible apply Device.alu_wf

theorem execMulh_settles {c : CoreId} {rd : WReg} {rs1 : WReg} {rs2 : WReg} {s : State}  :
    Settles s (execMulh c rd rs1 rs2 s) := by
  unfold execMulh
  refine State.on_settles fun d h0 => ?_
  repeat' first
    | with_reducible assumption | with_reducible apply Device.alu_wf

theorem execMulhu_settles {c : CoreId} {rd : WReg} {rs1 : WReg} {rs2 : WReg} {s : State}  :
    Settles s (execMulhu c rd rs1 rs2 s) := by
  unfold execMulhu
  refine State.on_settles fun d h0 => ?_
  repeat' first
    | with_reducible assumption | with_reducible apply Device.alu_wf

theorem execDiv_settles {c : CoreId} {rd : WReg} {rs1 : WReg} {rs2 : WReg} {s : State}  :
    Settles s (execDiv c rd rs1 rs2 s) := by
  unfold execDiv
  refine State.on_settles fun d h0 => ?_
  repeat' first
    | with_reducible assumption | with_reducible apply Device.aluSat_wf

theorem execDivu_settles {c : CoreId} {rd : WReg} {rs1 : WReg} {rs2 : WReg} {s : State}  :
    Settles s (execDivu c rd rs1 rs2 s) := by
  unfold execDivu
  refine State.on_settles fun d h0 => ?_
  repeat' first
    | with_reducible assumption | with_reducible apply Device.alu_wf

theorem execRem_settles {c : CoreId} {rd : WReg} {rs1 : WReg} {rs2 : WReg} {s : State}  :
    Settles s (execRem c rd rs1 rs2 s) := by
  unfold execRem
  refine State.on_settles fun d h0 => ?_
  repeat' first
    | with_reducible assumption | with_reducible apply Device.alu_wf

theorem execRemu_settles {c : CoreId} {rd : WReg} {rs1 : WReg} {rs2 : WReg} {s : State}  :
    Settles s (execRemu c rd rs1 rs2 s) := by
  unfold execRemu
  refine State.on_settles fun d h0 => ?_
  repeat' first
    | with_reducible assumption | with_reducible apply Device.alu_wf

theorem execClz_settles {c : CoreId} {rd : WReg} {rs1 : WReg} {s : State}  :
    Settles s (execClz c rd rs1 s) := by
  unfold execClz
  refine State.on_settles fun d h0 => ?_
  repeat' first
    | with_reducible assumption | with_reducible apply Device.alu1_wf

theorem execAddi_settles {c : CoreId} {rd : WReg} {rs1 : WReg} {imm : BitVec 16} {s : State}  :
    Settles s (execAddi c rd rs1 imm s) := by
  unfold execAddi
  refine State.on_settles fun d h0 => ?_
  repeat' first
    | with_reducible assumption | with_reducible apply Device.alu1_wf

theorem execAndi_settles {c : CoreId} {rd : WReg} {rs1 : WReg} {imm : BitVec 16} {s : State}  :
    Settles s (execAndi c rd rs1 imm s) := by
  unfold execAndi
  refine State.on_settles fun d h0 => ?_
  repeat' first
    | with_reducible assumption | with_reducible apply Device.alu1_wf

theorem execOri_settles {c : CoreId} {rd : WReg} {rs1 : WReg} {imm : BitVec 16} {s : State}  :
    Settles s (execOri c rd rs1 imm s) := by
  unfold execOri
  refine State.on_settles fun d h0 => ?_
  repeat' first
    | with_reducible assumption | with_reducible apply Device.alu1_wf

theorem execXori_settles {c : CoreId} {rd : WReg} {rs1 : WReg} {imm : BitVec 16} {s : State}  :
    Settles s (execXori c rd rs1 imm s) := by
  unfold execXori
  refine State.on_settles fun d h0 => ?_
  repeat' first
    | with_reducible assumption | with_reducible apply Device.alu1_wf

theorem execSlti_settles {c : CoreId} {rd : WReg} {rs1 : WReg} {imm : BitVec 16} {s : State}  :
    Settles s (execSlti c rd rs1 imm s) := by
  unfold execSlti
  refine State.on_settles fun d h0 => ?_
  repeat' first
    | with_reducible assumption | with_reducible apply Device.alu1_wf

theorem execSltiu_settles {c : CoreId} {rd : WReg} {rs1 : WReg} {imm : BitVec 16} {s : State}  :
    Settles s (execSltiu c rd rs1 imm s) := by
  unfold execSltiu
  refine State.on_settles fun d h0 => ?_
  repeat' first
    | with_reducible assumption | with_reducible apply Device.alu1_wf

theorem execSlli_settles {c : CoreId} {rd : WReg} {rs1 : WReg} {n : BitVec 5} {s : State}  :
    Settles s (execSlli c rd rs1 n s) := by
  unfold execSlli
  refine State.on_settles fun d h0 => ?_
  repeat' first
    | with_reducible assumption | with_reducible apply Device.alu1_wf

theorem execSrli_settles {c : CoreId} {rd : WReg} {rs1 : WReg} {n : BitVec 5} {s : State}  :
    Settles s (execSrli c rd rs1 n s) := by
  unfold execSrli
  refine State.on_settles fun d h0 => ?_
  repeat' first
    | with_reducible assumption | with_reducible apply Device.alu1_wf

theorem execSrai_settles {c : CoreId} {rd : WReg} {rs1 : WReg} {n : BitVec 5} {s : State}  :
    Settles s (execSrai c rd rs1 n s) := by
  unfold execSrai
  refine State.on_settles fun d h0 => ?_
  repeat' first
    | with_reducible assumption | with_reducible apply Device.alu1_wf

theorem execRori_settles {c : CoreId} {rd : WReg} {rs1 : WReg} {n : BitVec 5} {s : State}  :
    Settles s (execRori c rd rs1 n s) := by
  unfold execRori
  refine State.on_settles fun d h0 => ?_
  repeat' first
    | with_reducible assumption | with_reducible apply Device.alu1_wf

theorem execLui_settles {c : CoreId} {rd : WReg} {imm : BitVec 16} {s : State}  :
    Settles s (execLui c rd imm s) := by
  unfold execLui
  refine State.on_settles fun d h0 => ?_
  repeat' first
    | with_reducible assumption | with_reducible apply Device.alu1_wf

theorem execAddpc_settles {c : CoreId} {rd : WReg} {imm : BitVec 16} {s : State}  :
    Settles s (execAddpc c rd imm s) := by
  unfold execAddpc
  refine State.on_settles fun d h0 => ?_
  repeat' first
    | intro _ | with_reducible assumption | with_reducible apply Device.issue_wf
    | with_reducible apply Device.setReg_wf | with_reducible apply Retire.ok_wf

theorem Device.branch_wf {d : Device} {c : CoreId} {rs1 : WReg} {rs2 : WReg} {off : BitVec 16} {taken : Word → Word → Bool} (h0 : d.wf = true) :
    (Device.branch d c rs1 rs2 off taken).wf = true := by
  unfold Device.branch
  repeat' first
    | intro _ | with_reducible assumption | with_reducible apply Device.issue_wf | with_reducible apply Retire.ok_wf
    | with_reducible apply Retire.jump_wf | split

theorem execBeq_settles {c : CoreId} {rs1 : WReg} {rs2 : WReg} {off : BitVec 16} {s : State}  :
    Settles s (execBeq c rs1 rs2 off s) := by
  unfold execBeq
  refine State.on_settles fun d h0 => ?_
  repeat' first
    | with_reducible assumption | with_reducible apply Device.branch_wf

theorem execBne_settles {c : CoreId} {rs1 : WReg} {rs2 : WReg} {off : BitVec 16} {s : State}  :
    Settles s (execBne c rs1 rs2 off s) := by
  unfold execBne
  refine State.on_settles fun d h0 => ?_
  repeat' first
    | with_reducible assumption | with_reducible apply Device.branch_wf

theorem execBlt_settles {c : CoreId} {rs1 : WReg} {rs2 : WReg} {off : BitVec 16} {s : State}  :
    Settles s (execBlt c rs1 rs2 off s) := by
  unfold execBlt
  refine State.on_settles fun d h0 => ?_
  repeat' first
    | with_reducible assumption | with_reducible apply Device.branch_wf

theorem execBge_settles {c : CoreId} {rs1 : WReg} {rs2 : WReg} {off : BitVec 16} {s : State}  :
    Settles s (execBge c rs1 rs2 off s) := by
  unfold execBge
  refine State.on_settles fun d h0 => ?_
  repeat' first
    | with_reducible assumption | with_reducible apply Device.branch_wf

theorem execBltu_settles {c : CoreId} {rs1 : WReg} {rs2 : WReg} {off : BitVec 16} {s : State}  :
    Settles s (execBltu c rs1 rs2 off s) := by
  unfold execBltu
  refine State.on_settles fun d h0 => ?_
  repeat' first
    | with_reducible assumption | with_reducible apply Device.branch_wf

theorem execBgeu_settles {c : CoreId} {rs1 : WReg} {rs2 : WReg} {off : BitVec 16} {s : State}  :
    Settles s (execBgeu c rs1 rs2 off s) := by
  unfold execBgeu
  refine State.on_settles fun d h0 => ?_
  repeat' first
    | with_reducible assumption | with_reducible apply Device.branch_wf

theorem execJ_settles {c : CoreId} {off : BitVec 26} {s : State}  :
    Settles s (execJ c off s) := by
  unfold execJ
  refine State.on_settles fun d h0 => ?_
  repeat' first
    | intro _ | with_reducible assumption | with_reducible apply Device.issue_wf
    | with_reducible apply Retire.jump_wf

theorem execJal_settles {c : CoreId} {off : BitVec 26} {s : State}  :
    Settles s (execJal c off s) := by
  unfold execJal
  refine State.on_settles fun d h0 => ?_
  repeat' first
    | intro _ | with_reducible assumption | with_reducible apply Device.issue_wf
    | with_reducible apply Device.setReg_wf | with_reducible apply Retire.jump_wf

theorem execJalr_settles {c : CoreId} {rd : WReg} {rs1 : WReg} {imm : BitVec 16} {s : State}  :
    Settles s (execJalr c rd rs1 imm s) := by
  unfold execJalr
  refine State.on_settles fun d h0 => ?_
  repeat' first
    | intro _ | with_reducible assumption | with_reducible apply Device.issue_wf
    | with_reducible apply Device.setReg_wf | with_reducible apply Retire.jump_wf
    | with_reducible apply Retire.stop_wf | split | (fail_if_no_progress extract_lets)

end Sys2Proof.Machine
end

