-- ==== Sys2Proof/Laws/WfOpciaAcc.lean ====
section
/-! SUPPORT. The functions of `Machine/OpciaAcc.lean` keep the canonical form of the stores. -/

namespace Sys2Proof.Machine

theorem Device.accSat_wf {d : Device} {c : CoreId} {a : AReg} {v : Int} (h0 : d.wf = true) :
    (Device.accSat d c a v).wf = true := by
  unfold Device.accSat
  repeat' first
    | with_reducible assumption | with_reducible apply Device.markSat_wf | with_reducible apply Device.setAcc_wf

theorem Device.accOp_wf {d : Device} {c : CoreId} {a : AReg} {rs1 : WReg} {rs2 : WReg} {p : Word → Word → Int} {f : Int → Int → Int} (h0 : d.wf = true) :
    (Device.accOp d c a rs1 rs2 p f).wf = true := by
  unfold Device.accOp
  repeat' first
    | intro _ | with_reducible assumption | with_reducible apply Device.accSat_wf
    | with_reducible apply Device.issue_wf | with_reducible apply Retire.ok_wf

theorem execMac_settles {c : CoreId} {ad : AReg} {rs1 : WReg} {rs2 : WReg} {s : State}  :
    Settles s (execMac c ad rs1 rs2 s) := by
  unfold execMac
  refine State.on_settles fun d h0 => ?_
  repeat' first
    | with_reducible assumption | with_reducible apply Device.accOp_wf

theorem execMsu_settles {c : CoreId} {ad : AReg} {rs1 : WReg} {rs2 : WReg} {s : State}  :
    Settles s (execMsu c ad rs1 rs2 s) := by
  unfold execMsu
  refine State.on_settles fun d h0 => ?_
  repeat' first
    | with_reducible assumption | with_reducible apply Device.accOp_wf

theorem execMpy_settles {c : CoreId} {ad : AReg} {rs1 : WReg} {rs2 : WReg} {s : State}  :
    Settles s (execMpy c ad rs1 rs2 s) := by
  unfold execMpy
  refine State.on_settles fun d h0 => ?_
  repeat' first
    | with_reducible assumption | with_reducible apply Device.accOp_wf

theorem execMpyn_settles {c : CoreId} {ad : AReg} {rs1 : WReg} {rs2 : WReg} {s : State}  :
    Settles s (execMpyn c ad rs1 rs2 s) := by
  unfold execMpyn
  refine State.on_settles fun d h0 => ?_
  repeat' first
    | with_reducible assumption | with_reducible apply Device.accOp_wf

theorem execMac16_settles {c : CoreId} {ad : AReg} {rs1 : WReg} {rs2 : WReg} {s : State}  :
    Settles s (execMac16 c ad rs1 rs2 s) := by
  unfold execMac16
  refine State.on_settles fun d h0 => ?_
  repeat' first
    | with_reducible assumption | with_reducible apply Device.accOp_wf

theorem execMsu16_settles {c : CoreId} {ad : AReg} {rs1 : WReg} {rs2 : WReg} {s : State}  :
    Settles s (execMsu16 c ad rs1 rs2 s) := by
  unfold execMsu16
  refine State.on_settles fun d h0 => ?_
  repeat' first
    | with_reducible assumption | with_reducible apply Device.accOp_wf

theorem execExt_settles {c : CoreId} {w : WReg} {a : AReg} {n : BitVec 6} {mode : BitVec 2} {s : State}  :
    Settles s (execExt c w a n mode s) := by
  unfold execExt
  refine State.on_settles fun d h0 => ?_
  repeat' first
    | intro _ | with_reducible assumption | with_reducible apply Device.issue_wf
    | with_reducible apply Device.markSat_wf | with_reducible apply Device.setReg_wf
    | with_reducible apply Retire.ok_wf

theorem execAclr_settles {c : CoreId} {a : AReg} {s : State}  :
    Settles s (execAclr c a s) := by
  unfold execAclr
  refine State.on_settles fun d h0 => ?_
  repeat' first
    | intro _ | with_reducible assumption | with_reducible apply Device.issue_wf
    | with_reducible apply Device.setAcc_wf | with_reducible apply Retire.ok_wf

theorem execAset_settles {c : CoreId} {w : WReg} {a : AReg} {s : State}  :
    Settles s (execAset c w a s) := by
  unfold execAset
  refine State.on_settles fun d h0 => ?_
  repeat' first
    | intro _ | with_reducible assumption | with_reducible apply Device.issue_wf
    | with_reducible apply Device.setAcc_wf | with_reducible apply Retire.ok_wf

theorem execAadd_settles {c : CoreId} {a : AReg} {b : AReg} {s : State}  :
    Settles s (execAadd c a b s) := by
  unfold execAadd
  refine State.on_settles fun d h0 => ?_
  repeat' first
    | intro _ | with_reducible assumption | with_reducible apply Device.accSat_wf
    | with_reducible apply Device.issue_wf | with_reducible apply Retire.ok_wf

theorem execAsub_settles {c : CoreId} {a : AReg} {b : AReg} {s : State}  :
    Settles s (execAsub c a b s) := by
  unfold execAsub
  refine State.on_settles fun d h0 => ?_
  repeat' first
    | intro _ | with_reducible assumption | with_reducible apply Device.accSat_wf
    | with_reducible apply Device.issue_wf | with_reducible apply Retire.ok_wf

theorem execAshl_settles {c : CoreId} {a : AReg} {n : BitVec 6} {s : State}  :
    Settles s (execAshl c a n s) := by
  unfold execAshl
  refine State.on_settles fun d h0 => ?_
  repeat' first
    | intro _ | with_reducible assumption | with_reducible apply Device.accSat_wf
    | with_reducible apply Device.issue_wf | with_reducible apply Retire.ok_wf

theorem execAshr_settles {c : CoreId} {a : AReg} {n : BitVec 6} {s : State}  :
    Settles s (execAshr c a n s) := by
  unfold execAshr
  refine State.on_settles fun d h0 => ?_
  repeat' first
    | intro _ | with_reducible assumption | with_reducible apply Device.issue_wf
    | with_reducible apply Device.setAcc_wf | with_reducible apply Retire.ok_wf

theorem execArdl_settles {c : CoreId} {w : WReg} {a : AReg} {s : State}  :
    Settles s (execArdl c w a s) := by
  unfold execArdl
  refine State.on_settles fun d h0 => ?_
  repeat' first
    | intro _ | with_reducible assumption | with_reducible apply Device.issue_wf
    | with_reducible apply Device.setReg_wf | with_reducible apply Retire.ok_wf

theorem execArdm_settles {c : CoreId} {w : WReg} {a : AReg} {s : State}  :
    Settles s (execArdm c w a s) := by
  unfold execArdm
  refine State.on_settles fun d h0 => ?_
  repeat' first
    | intro _ | with_reducible assumption | with_reducible apply Device.issue_wf
    | with_reducible apply Device.setReg_wf | with_reducible apply Retire.ok_wf

theorem execArdh_settles {c : CoreId} {w : WReg} {a : AReg} {s : State}  :
    Settles s (execArdh c w a s) := by
  unfold execArdh
  refine State.on_settles fun d h0 => ?_
  repeat' first
    | intro _ | with_reducible assumption | with_reducible apply Device.issue_wf
    | with_reducible apply Device.setReg_wf | with_reducible apply Retire.ok_wf

theorem execAwrl_settles {c : CoreId} {w : WReg} {a : AReg} {s : State}  :
    Settles s (execAwrl c w a s) := by
  unfold execAwrl
  refine State.on_settles fun d h0 => ?_
  repeat' first
    | intro _ | with_reducible assumption | with_reducible apply Device.issue_wf
    | with_reducible apply Device.setAcc_wf | with_reducible apply Retire.ok_wf

theorem execAwrm_settles {c : CoreId} {w : WReg} {a : AReg} {s : State}  :
    Settles s (execAwrm c w a s) := by
  unfold execAwrm
  refine State.on_settles fun d h0 => ?_
  repeat' first
    | intro _ | with_reducible assumption | with_reducible apply Device.issue_wf
    | with_reducible apply Device.setAcc_wf | with_reducible apply Retire.ok_wf

theorem execAwrh_settles {c : CoreId} {w : WReg} {a : AReg} {s : State}  :
    Settles s (execAwrh c w a s) := by
  unfold execAwrh
  refine State.on_settles fun d h0 => ?_
  repeat' first
    | intro _ | with_reducible assumption | with_reducible apply Device.issue_wf
    | with_reducible apply Device.setAcc_wf | with_reducible apply Retire.ok_wf

theorem execQadd_settles {c : CoreId} {rd : WReg} {rs1 : WReg} {rs2 : WReg} {s : State}  :
    Settles s (execQadd c rd rs1 rs2 s) := by
  unfold execQadd
  refine State.on_settles fun d h0 => ?_
  repeat' first
    | with_reducible assumption | with_reducible apply Device.aluSat_wf

theorem execQsub_settles {c : CoreId} {rd : WReg} {rs1 : WReg} {rs2 : WReg} {s : State}  :
    Settles s (execQsub c rd rs1 rs2 s) := by
  unfold execQsub
  refine State.on_settles fun d h0 => ?_
  repeat' first
    | with_reducible assumption | with_reducible apply Device.aluSat_wf

theorem execQmul_settles {c : CoreId} {rd : WReg} {rs1 : WReg} {rs2 : WReg} {s : State}  :
    Settles s (execQmul c rd rs1 rs2 s) := by
  unfold execQmul
  refine State.on_settles fun d h0 => ?_
  repeat' first
    | with_reducible assumption | with_reducible apply Device.aluSat_wf

theorem execQmulf_settles {c : CoreId} {rd : WReg} {rs1 : WReg} {rs2 : WReg} {s : State}  :
    Settles s (execQmulf c rd rs1 rs2 s) := by
  unfold execQmulf
  refine State.on_settles fun d h0 => ?_
  repeat' first
    | with_reducible assumption | with_reducible apply Device.aluSat_wf

theorem execQneg_settles {c : CoreId} {rd : WReg} {rs1 : WReg} {s : State}  :
    Settles s (execQneg c rd rs1 s) := by
  unfold execQneg
  refine State.on_settles fun d h0 => ?_
  repeat' first
    | with_reducible assumption | with_reducible apply Device.aluSat_wf

theorem execQabs_settles {c : CoreId} {rd : WReg} {rs1 : WReg} {s : State}  :
    Settles s (execQabs c rd rs1 s) := by
  unfold execQabs
  refine State.on_settles fun d h0 => ?_
  repeat' first
    | with_reducible assumption | with_reducible apply Device.aluSat_wf

theorem execQshl_settles {c : CoreId} {rd : WReg} {rs1 : WReg} {rs2 : WReg} {s : State}  :
    Settles s (execQshl c rd rs1 rs2 s) := by
  unfold execQshl
  refine State.on_settles fun d h0 => ?_
  repeat' first
    | with_reducible assumption | with_reducible apply Device.aluSat_wf

theorem execQshr_settles {c : CoreId} {rd : WReg} {rs1 : WReg} {rs2 : WReg} {s : State}  :
    Settles s (execQshr c rd rs1 rs2 s) := by
  unfold execQshr
  refine State.on_settles fun d h0 => ?_
  repeat' first
    | with_reducible assumption | with_reducible apply Device.alu_wf

theorem Device.vec_wf {d : Device} {c : CoreId} {vd : QReg} {vs1 : QReg} {vs2 : QReg} {f : Word → Word → Word} (h0 : d.wf = true) :
    (Device.vec d c vd vs1 vs2 f).wf = true := by
  unfold Device.vec
  repeat' first
    | intro _ | with_reducible assumption | with_reducible apply Device.issue_wf
    | with_reducible apply Device.setQ_wf | with_reducible apply Retire.ok_wf

theorem Device.vecSat_wf {d : Device} {c : CoreId} {vd : QReg} {vs1 : QReg} {vs2 : QReg} {f : Word → Word → Int} (h0 : d.wf = true) :
    (Device.vecSat d c vd vs1 vs2 f).wf = true := by
  unfold Device.vecSat
  repeat' first
    | intro _ | with_reducible assumption | with_reducible apply Device.issue_wf
    | with_reducible apply Device.markSat_wf | with_reducible apply Device.setQ_wf
    | with_reducible apply Retire.ok_wf

theorem execVadd_settles {c : CoreId} {vd : QReg} {vs1 : QReg} {vs2 : QReg} {s : State}  :
    Settles s (execVadd c vd vs1 vs2 s) := by
  unfold execVadd
  refine State.on_settles fun d h0 => ?_
  repeat' first
    | with_reducible assumption | with_reducible apply Device.vec_wf

theorem execVsub_settles {c : CoreId} {vd : QReg} {vs1 : QReg} {vs2 : QReg} {s : State}  :
    Settles s (execVsub c vd vs1 vs2 s) := by
  unfold execVsub
  refine State.on_settles fun d h0 => ?_
  repeat' first
    | with_reducible assumption | with_reducible apply Device.vec_wf

theorem execVqadd_settles {c : CoreId} {vd : QReg} {vs1 : QReg} {vs2 : QReg} {s : State}  :
    Settles s (execVqadd c vd vs1 vs2 s) := by
  unfold execVqadd
  refine State.on_settles fun d h0 => ?_
  repeat' first
    | with_reducible assumption | with_reducible apply Device.vecSat_wf

theorem execVqsub_settles {c : CoreId} {vd : QReg} {vs1 : QReg} {vs2 : QReg} {s : State}  :
    Settles s (execVqsub c vd vs1 vs2 s) := by
  unfold execVqsub
  refine State.on_settles fun d h0 => ?_
  repeat' first
    | with_reducible assumption | with_reducible apply Device.vecSat_wf

theorem execVqmul_settles {c : CoreId} {vd : QReg} {vs1 : QReg} {vs2 : QReg} {s : State}  :
    Settles s (execVqmul c vd vs1 vs2 s) := by
  unfold execVqmul
  refine State.on_settles fun d h0 => ?_
  repeat' first
    | with_reducible assumption | with_reducible apply Device.vecSat_wf

theorem execVmin_settles {c : CoreId} {vd : QReg} {vs1 : QReg} {vs2 : QReg} {s : State}  :
    Settles s (execVmin c vd vs1 vs2 s) := by
  unfold execVmin
  refine State.on_settles fun d h0 => ?_
  repeat' first
    | with_reducible assumption | with_reducible apply Device.vec_wf

theorem execVmax_settles {c : CoreId} {vd : QReg} {vs1 : QReg} {vs2 : QReg} {s : State}  :
    Settles s (execVmax c vd vs1 vs2 s) := by
  unfold execVmax
  refine State.on_settles fun d h0 => ?_
  repeat' first
    | with_reducible assumption | with_reducible apply Device.vec_wf

theorem execVqabs_settles {c : CoreId} {vd : QReg} {vs1 : QReg} {s : State}  :
    Settles s (execVqabs c vd vs1 s) := by
  unfold execVqabs
  refine State.on_settles fun d h0 => ?_
  repeat' first
    | with_reducible assumption | with_reducible apply Device.vecSat_wf

theorem execVqneg_settles {c : CoreId} {vd : QReg} {vs1 : QReg} {s : State}  :
    Settles s (execVqneg c vd vs1 s) := by
  unfold execVqneg
  refine State.on_settles fun d h0 => ?_
  repeat' first
    | with_reducible assumption | with_reducible apply Device.vecSat_wf

theorem execVand_settles {c : CoreId} {vd : QReg} {vs1 : QReg} {vs2 : QReg} {s : State}  :
    Settles s (execVand c vd vs1 vs2 s) := by
  unfold execVand
  refine State.on_settles fun d h0 => ?_
  repeat' first
    | with_reducible assumption | with_reducible apply Device.vec_wf

theorem execVor_settles {c : CoreId} {vd : QReg} {vs1 : QReg} {vs2 : QReg} {s : State}  :
    Settles s (execVor c vd vs1 vs2 s) := by
  unfold execVor
  refine State.on_settles fun d h0 => ?_
  repeat' first
    | with_reducible assumption | with_reducible apply Device.vec_wf

theorem execVxor_settles {c : CoreId} {vd : QReg} {vs1 : QReg} {vs2 : QReg} {s : State}  :
    Settles s (execVxor c vd vs1 vs2 s) := by
  unfold execVxor
  refine State.on_settles fun d h0 => ?_
  repeat' first
    | with_reducible assumption | with_reducible apply Device.vec_wf

theorem execVsra_settles {c : CoreId} {vd : QReg} {vs1 : QReg} {n : BitVec 5} {s : State}  :
    Settles s (execVsra c vd vs1 n s) := by
  unfold execVsra
  refine State.on_settles fun d h0 => ?_
  repeat' first
    | with_reducible assumption | with_reducible apply Device.vec_wf

theorem execVqshl_settles {c : CoreId} {vd : QReg} {vs1 : QReg} {n : BitVec 5} {s : State}  :
    Settles s (execVqshl c vd vs1 n s) := by
  unfold execVqshl
  refine State.on_settles fun d h0 => ?_
  repeat' first
    | with_reducible assumption | with_reducible apply Device.vecSat_wf

theorem Device.vecAcc_wf {d : Device} {c : CoreId} {qa : QReg} {g : Device → Nat → Word} {f : Int → Int → Int} (h0 : d.wf = true) :
    (Device.vecAcc d c qa g f).wf = true := by
  unfold Device.vecAcc
  repeat' first
    | intro _ | with_reducible assumption | with_reducible apply Device.accSat_wf
    | with_reducible apply Device.issue_wf | with_reducible apply Device.wf_foldl | with_reducible apply Retire.ok_wf

theorem execVmaca_settles {c : CoreId} {qa : QReg} {qb : QReg} {s : State}  :
    Settles s (execVmaca c qa qb s) := by
  unfold execVmaca
  refine State.on_settles fun d h0 => ?_
  repeat' first
    | with_reducible assumption | with_reducible apply Device.vecAcc_wf

theorem execVmsua_settles {c : CoreId} {qa : QReg} {qb : QReg} {s : State}  :
    Settles s (execVmsua c qa qb s) := by
  unfold execVmsua
  refine State.on_settles fun d h0 => ?_
  repeat' first
    | with_reducible assumption | with_reducible apply Device.vecAcc_wf

theorem execVmpya_settles {c : CoreId} {qa : QReg} {qb : QReg} {s : State}  :
    Settles s (execVmpya c qa qb s) := by
  unfold execVmpya
  refine State.on_settles fun d h0 => ?_
  repeat' first
    | with_reducible assumption | with_reducible apply Device.vecAcc_wf

theorem execVmacw_settles {c : CoreId} {qa : QReg} {w : WReg} {s : State}  :
    Settles s (execVmacw c qa w s) := by
  unfold execVmacw
  refine State.on_settles fun d h0 => ?_
  repeat' first
    | with_reducible assumption | with_reducible apply Device.vecAcc_wf

theorem execVmpyw_settles {c : CoreId} {qa : QReg} {w : WReg} {s : State}  :
    Settles s (execVmpyw c qa w s) := by
  unfold execVmpyw
  refine State.on_settles fun d h0 => ?_
  repeat' first
    | with_reducible assumption | with_reducible apply Device.vecAcc_wf

theorem execVext_settles {c : CoreId} {qa : QReg} {n : BitVec 6} {mode : BitVec 2} {s : State}  :
    Settles s (execVext c qa n mode s) := by
  unfold execVext
  refine State.on_settles fun d h0 => ?_
  repeat' first
    | intro _ | with_reducible assumption | with_reducible apply Device.issue_wf
    | with_reducible apply Device.markSat_wf | with_reducible apply Device.setQ_wf
    | with_reducible apply Retire.ok_wf

theorem execVaclr_settles {c : CoreId} {s : State}  :
    Settles s (execVaclr c s) := by
  unfold execVaclr
  refine State.on_settles fun d h0 => ?_
  repeat' first
    | intro _ | with_reducible assumption | with_reducible apply Device.issue_wf
    | with_reducible apply Device.setAcc_wf | with_reducible apply Device.wf_foldl
    | with_reducible apply Retire.ok_wf

theorem execVaset_settles {c : CoreId} {qa : QReg} {s : State}  :
    Settles s (execVaset c qa s) := by
  unfold execVaset
  refine State.on_settles fun d h0 => ?_
  repeat' first
    | intro _ | with_reducible assumption | with_reducible apply Device.issue_wf
    | with_reducible apply Device.setAcc_wf | with_reducible apply Device.wf_foldl
    | with_reducible apply Retire.ok_wf

theorem execVsplat_settles {c : CoreId} {q : QReg} {w : WReg} {s : State}  :
    Settles s (execVsplat c q w s) := by
  unfold execVsplat
  refine State.on_settles fun d h0 => ?_
  repeat' first
    | intro _ | with_reducible assumption | with_reducible apply Device.issue_wf
    | with_reducible apply Device.setQ_wf | with_reducible apply Retire.ok_wf

theorem execVget_settles {c : CoreId} {q : QReg} {w : WReg} {i : Fin 4} {s : State}  :
    Settles s (execVget c q w i s) := by
  unfold execVget
  refine State.on_settles fun d h0 => ?_
  repeat' first
    | intro _ | with_reducible assumption | with_reducible apply Device.issue_wf
    | with_reducible apply Device.setReg_wf | with_reducible apply Retire.ok_wf

theorem execVput_settles {c : CoreId} {q : QReg} {w : WReg} {i : Fin 4} {s : State}  :
    Settles s (execVput c q w i s) := by
  unfold execVput
  refine State.on_settles fun d h0 => ?_
  repeat' first
    | intro _ | with_reducible assumption | with_reducible apply Device.issue_wf
    | with_reducible apply Device.setQ_wf | with_reducible apply Retire.ok_wf

theorem execVmovq_settles {c : CoreId} {q : QReg} {q2 : QReg} {s : State}  :
    Settles s (execVmovq c q q2 s) := by
  unfold execVmovq
  refine State.on_settles fun d h0 => ?_
  repeat' first
    | intro _ | with_reducible assumption | with_reducible apply Device.issue_wf
    | with_reducible apply Device.setQ_wf | with_reducible apply Retire.ok_wf

theorem execVrot_settles {c : CoreId} {q : QReg} {q2 : QReg} {k : Fin 4} {s : State}  :
    Settles s (execVrot c q q2 k s) := by
  unfold execVrot
  refine State.on_settles fun d h0 => ?_
  repeat' first
    | intro _ | with_reducible assumption | with_reducible apply Device.issue_wf
    | with_reducible apply Device.setQ_wf | with_reducible apply Retire.ok_wf

end Sys2Proof.Machine
end

