-- ==== Sys2Proof/Laws/WfOpciaMem.lean ====
section
/-! SUPPORT. The functions of `Machine/OpciaMem.lean` keep the canonical form of the stores. -/

namespace Sys2Proof.Machine

theorem Device.storeAt_wf {d : Device} {c : CoreId} {e : StoreEntry} (h0 : d.wf = true) :
    (Device.storeAt d c e).wf = true := by
  unfold Device.storeAt
  repeat' first
    | with_reducible assumption | with_reducible apply Device.busWrite_wf | with_reducible apply Device.storeWord_wf
    | with_reducible apply Device.streamWrite_wf | split

theorem Device.completeStore_wf {d : Device} {c : CoreId} (h0 : d.wf = true) :
    (Device.completeStore d c).wf = true := by
  unfold Device.completeStore
  repeat' first
    | with_reducible assumption | with_reducible apply Device.core_wf | with_reducible apply Device.setCore_wf
    | with_reducible apply Device.storeAt_wf | split

theorem Device.drainStores_wf {d : Device} {c : CoreId} (h0 : d.wf = true) :
    (Device.drainStores d c).wf = true := by
  unfold Device.drainStores
  repeat' first
    | with_reducible assumption | with_reducible apply Device.completeStore_wf

theorem Device.drainBlock_wf {d : Device} {c : CoreId} {a : Nat} (h0 : d.wf = true) :
    (Device.drainBlock d c a).wf = true := by
  unfold Device.drainBlock
  repeat' first
    | with_reducible assumption | with_reducible apply Device.completeStore_wf | with_reducible apply Device.wf_ite

theorem Device.pushStore_wf {d : Device} {c : CoreId} {a : Nat} {w : Word} (h0 : d.wf = true) :
    (Device.pushStore d c a w).wf = true := by
  unfold Device.pushStore
  repeat' first
    | with_reducible assumption | with_reducible apply Device.completeStore_wf | with_reducible apply Device.core_wf
    | with_reducible apply Device.setCore_wf | with_reducible apply Device.wf_ite

theorem Device.loadWord_wf {d : Device} {c : CoreId} {a : Nat} {u : Upset} (h0 : d.wf = true) :
    (Device.loadWord d c a u).2.wf = true := by
  unfold Device.loadWord
  repeat' first
    | with_reducible assumption | with_reducible apply Device.busRead_wf | with_reducible apply Device.drainBlock_wf
    | with_reducible apply Device.readChecked_wf | with_reducible apply Device.strike_wf | split

theorem Device.load_wf {d : Device} {c : CoreId} {rd : WReg} {rs1 : WReg} {imm : BitVec 16} {u : Upset} {size : Nat} {ext : Word → Word} (h0 : d.wf = true) :
    (Device.load d c rd rs1 imm u size ext).wf = true := by
  unfold Device.load
  repeat' first
    | intro _ | with_reducible assumption | with_reducible apply Device.after_wf
    | with_reducible apply Device.issue_wf | with_reducible apply Device.loadWord_wf
    | with_reducible apply Device.setReg_wf | with_reducible apply Retire.ok_wf | with_reducible apply Retire.stop_wf
    | split | (fail_if_no_progress extract_lets) | with_reducible refine Device.wf_of_snd (by assumption) ?_

theorem Device.narrowStore_wf {d : Device} {c : CoreId} {a : Word} {v : Word} {size : Nat} (h0 : d.wf = true) :
    (Device.narrowStore d c a v size).device.wf = true := by
  unfold Device.narrowStore
  repeat' first
    | with_reducible assumption | with_reducible apply Device.drainBlock_wf
    | with_reducible apply Device.readChecked_wf | with_reducible apply Device.storeAt_wf
    | with_reducible apply Retire.ok_wf | with_reducible apply Retire.stop_wf | split
    | (fail_if_no_progress extract_lets) | with_reducible refine Device.wf_of_snd (by assumption) ?_

theorem Device.store_wf {d : Device} {c : CoreId} {rs2 : WReg} {rs1 : WReg} {imm : BitVec 16} {size : Nat} (h0 : d.wf = true) :
    (Device.store d c rs2 rs1 imm size).wf = true := by
  unfold Device.store
  repeat' first
    | intro _ | with_reducible assumption | with_reducible apply Device.after_wf
    | with_reducible apply Device.issue_wf | with_reducible apply Device.narrowStore_wf
    | with_reducible apply Device.pushStore_wf | with_reducible apply Retire.ok_wf
    | with_reducible apply Retire.stop_wf | split | (fail_if_no_progress extract_lets)

theorem Device.loadLanes_wf {d : Device} {c : CoreId} {a0 : List (Word × Upset)} (h0 : d.wf = true) :
    (Device.loadLanes d c a0).2.wf = true := by
  induction a0 generalizing d with
  | nil => exact h0
  | cons p t ih =>
    have h := Device.loadWord_wf (c := c) (a := p.1.toNat) (u := p.2) h0
    simp only [Device.loadLanes]
    generalize d.loadWord c p.1.toNat p.2 = r at h
    obtain ⟨_ | w, e⟩ := r
    · exact h
    · have g := ih (d := e) h
      dsimp only
      generalize e.loadLanes c t = r at g
      obtain ⟨_ | w, e⟩ := r <;> exact g

theorem Device.vectorLoad_wf {d : Device} {c : CoreId} {q : QReg} {as : List Word} {u : Vector Upset 4} {cause : Option CoreFault} (h0 : d.wf = true) :
    (Device.vectorLoad d c q as u cause).device.wf = true := by
  unfold Device.vectorLoad
  repeat' first
    | with_reducible assumption | with_reducible apply Device.loadLanes_wf | with_reducible apply Device.setQ_wf
    | with_reducible apply Retire.ok_wf | with_reducible apply Retire.stop_wf | split
    | with_reducible refine Device.wf_of_snd (by assumption) ?_

theorem Device.vectorStore_wf {d : Device} {c : CoreId} {q : QReg} {as : List Word} {cause : Option CoreFault} (h0 : d.wf = true) :
    (Device.vectorStore d c q as cause).device.wf = true := by
  unfold Device.vectorStore
  repeat' first
    | intro _ | with_reducible assumption | with_reducible apply Device.pushStore_wf
    | with_reducible apply Device.wf_foldl | with_reducible apply Retire.ok_wf | with_reducible apply Retire.stop_wf
    | split

theorem execLw_settles {c : CoreId} {rd : WReg} {rs1 : WReg} {imm : BitVec 16} {u : Upset} {s : State}  :
    Settles s (execLw c rd rs1 imm u s) := by
  unfold execLw
  refine State.on_settles fun d h0 => ?_
  repeat' first
    | with_reducible assumption | with_reducible apply Device.load_wf

theorem execLh_settles {c : CoreId} {rd : WReg} {rs1 : WReg} {imm : BitVec 16} {u : Upset} {s : State}  :
    Settles s (execLh c rd rs1 imm u s) := by
  unfold execLh
  refine State.on_settles fun d h0 => ?_
  repeat' first
    | with_reducible assumption | with_reducible apply Device.load_wf

theorem execLhu_settles {c : CoreId} {rd : WReg} {rs1 : WReg} {imm : BitVec 16} {u : Upset} {s : State}  :
    Settles s (execLhu c rd rs1 imm u s) := by
  unfold execLhu
  refine State.on_settles fun d h0 => ?_
  repeat' first
    | with_reducible assumption | with_reducible apply Device.load_wf

theorem execLb_settles {c : CoreId} {rd : WReg} {rs1 : WReg} {imm : BitVec 16} {u : Upset} {s : State}  :
    Settles s (execLb c rd rs1 imm u s) := by
  unfold execLb
  refine State.on_settles fun d h0 => ?_
  repeat' first
    | with_reducible assumption | with_reducible apply Device.load_wf

theorem execLbu_settles {c : CoreId} {rd : WReg} {rs1 : WReg} {imm : BitVec 16} {u : Upset} {s : State}  :
    Settles s (execLbu c rd rs1 imm u s) := by
  unfold execLbu
  refine State.on_settles fun d h0 => ?_
  repeat' first
    | with_reducible assumption | with_reducible apply Device.load_wf

theorem execSw_settles {c : CoreId} {rs2 : WReg} {rs1 : WReg} {imm : BitVec 16} {s : State}  :
    Settles s (execSw c rs2 rs1 imm s) := by
  unfold execSw
  refine State.on_settles fun d h0 => ?_
  repeat' first
    | with_reducible assumption | with_reducible apply Device.store_wf

theorem execSh_settles {c : CoreId} {rs2 : WReg} {rs1 : WReg} {imm : BitVec 16} {s : State}  :
    Settles s (execSh c rs2 rs1 imm s) := by
  unfold execSh
  refine State.on_settles fun d h0 => ?_
  repeat' first
    | with_reducible assumption | with_reducible apply Device.store_wf

theorem execSb_settles {c : CoreId} {rs2 : WReg} {rs1 : WReg} {imm : BitVec 16} {s : State}  :
    Settles s (execSb c rs2 rs1 imm s) := by
  unfold execSb
  refine State.on_settles fun d h0 => ?_
  repeat' first
    | with_reducible assumption | with_reducible apply Device.store_wf

theorem execStoreComplete_settles {c : CoreId} {s : State}  :
    Settles s (execStoreComplete c s) := by
  unfold execStoreComplete
  refine State.on_settles fun d h0 => ?_
  repeat' first
    | with_reducible assumption | with_reducible apply Device.completeStore_wf | with_reducible apply Device.wf_ite

theorem execVld_settles {c : CoreId} {q : QReg} {rs1 : WReg} {imm : BitVec 16} {u : Vector Upset 4} {s : State}  :
    Settles s (execVld c q rs1 imm u s) := by
  unfold execVld
  refine State.on_settles fun d h0 => ?_
  repeat' first
    | intro _ | with_reducible assumption | with_reducible apply Device.issue_wf
    | with_reducible apply Device.vectorLoad_wf

theorem execVst_settles {c : CoreId} {q : QReg} {rs1 : WReg} {imm : BitVec 16} {s : State}  :
    Settles s (execVst c q rs1 imm s) := by
  unfold execVst
  refine State.on_settles fun d h0 => ?_
  repeat' first
    | intro _ | with_reducible assumption | with_reducible apply Device.issue_wf
    | with_reducible apply Device.vectorStore_wf

theorem execVlds_settles {c : CoreId} {q : QReg} {rs1 : WReg} {rs2 : WReg} {u : Vector Upset 4} {s : State}  :
    Settles s (execVlds c q rs1 rs2 u s) := by
  unfold execVlds
  refine State.on_settles fun d h0 => ?_
  repeat' first
    | intro _ | with_reducible assumption | with_reducible apply Device.issue_wf
    | with_reducible apply Device.vectorLoad_wf

theorem execVsts_settles {c : CoreId} {q : QReg} {rs1 : WReg} {rs2 : WReg} {s : State}  :
    Settles s (execVsts c q rs1 rs2 s) := by
  unfold execVsts
  refine State.on_settles fun d h0 => ?_
  repeat' first
    | intro _ | with_reducible assumption | with_reducible apply Device.issue_wf
    | with_reducible apply Device.vectorStore_wf

end Sys2Proof.Machine
end

