-- ==== Sys2Proof/Laws/WfOpciaSys.lean ====
section
/-! SUPPORT. The functions of `Machine/OpciaSys.lean` keep the canonical form of the stores. -/

namespace Sys2Proof.Machine

theorem Device.sregRead_wf {d : Device} {c : CoreId} {n : Nat} (h0 : d.wf = true) :
    (Device.sregRead d c n).2.wf = true := by
  unfold Device.sregRead
  repeat' first
    | with_reducible assumption | with_reducible apply Device.readCycle_wf | split

theorem Device.mpuWrite_wf {d : Device} {c : CoreId} {f : MpuRegion → MpuRegion} (h0 : d.wf = true) :
    (Device.mpuWrite d c f).wf = true := by
  unfold Device.mpuWrite
  repeat' first
    | with_reducible assumption | with_reducible apply Device.core_wf | with_reducible apply Device.setCore_wf

theorem Device.statusWrite_wf {d : Device} {c : CoreId} {w : Word} (h0 : d.wf = true) :
    (Device.statusWrite d c w).wf = true := by
  unfold Device.statusWrite
  repeat' first
    | with_reducible assumption | with_reducible apply Device.cput_wf | with_reducible apply Device.wf_ite

theorem Device.sregWrite_wf {d : Device} {c : CoreId} {n : Nat} {w : Word} (h0 : d.wf = true) :
    (Device.sregWrite d c n w).wf = true := by
  unfold Device.sregWrite
  repeat' first
    | with_reducible assumption | with_reducible apply Device.cput_wf | with_reducible apply Device.mpuWrite_wf
    | with_reducible apply Device.statusWrite_wf | split

theorem Device.srd_wf {d : Device} {c : CoreId} {w : WReg} {n : Nat} (h0 : d.wf = true) :
    (Device.srd d c w n).wf = true := by
  unfold Device.srd
  repeat' first
    | intro _ | with_reducible assumption | with_reducible apply Device.issue_wf
    | with_reducible apply Device.sRead_wf | with_reducible apply Device.setReg_wf
    | with_reducible apply Device.sregRead_wf | with_reducible apply Retire.ok_wf
    | with_reducible apply Retire.stop_wf | split

theorem Device.swr_wf {d : Device} {c : CoreId} {w : WReg} {n : Nat} (h0 : d.wf = true) :
    (Device.swr d c w n).wf = true := by
  unfold Device.swr
  repeat' first
    | intro _ | with_reducible assumption | with_reducible apply Device.cput_wf
    | with_reducible apply Device.issue_wf | with_reducible apply Device.sregWrite_wf
    | with_reducible apply Retire.ok_wf | with_reducible apply Retire.stop_wf | split

theorem Device.semTake_wf {d : Device} {c : CoreId} {n : Fin 32} {meets : BitVec 3} (h0 : d.wf = true) :
    (Device.semTake d c n meets).2.wf = true := by
  unfold Device.semTake
  repeat' first
    | with_reducible assumption | with_reducible apply Device.put_wf | with_reducible apply Device.wf_ite
    | with_reducible apply Device.wf_ite_snd | (fail_if_no_progress with_reducible apply Device.wf_mk)

theorem Device.semRelease_wf {d : Device} {c : CoreId} {n : Nat} {g : Nat} (h0 : d.wf = true) :
    (Device.semRelease d c n g).2.wf = true := by
  unfold Device.semRelease
  repeat' first
    | with_reducible assumption | with_reducible apply Device.put_wf | with_reducible apply Device.wf_ite_snd

theorem Device.semBreakBy_wf {d : Device} {c : CoreId} {n : Nat} {o : Nat} {g : Nat} (h0 : d.wf = true) :
    (Device.semBreakBy d c n o g).2.wf = true := by
  unfold Device.semBreakBy
  repeat' first
    | with_reducible assumption | with_reducible apply Device.semBreak_wf | with_reducible apply Device.wf_ite_snd

theorem Retire.give_wf {r : Word × Device} {c : CoreId} {rd : WReg} (h0 : r.2.wf = true) :
    (Retire.give r c rd).device.wf = true := by
  exact Device.setReg_wf h0

theorem Device.blockEnd_wf {d : Device} (h0 : d.wf = true) :
    (Device.blockEnd d).wf = true := by
  unfold Device.blockEnd
  repeat' first
    | with_reducible assumption | with_reducible apply Device.cput_wf
    | (fail_if_no_progress with_reducible apply Device.wf_mk)

theorem Device.scrub_wf {d : Device} {a : Nat} {u : Upset} (h0 : d.wf = true) :
    (Device.scrub d a u).wf = true := by
  unfold Device.scrub
  repeat' first
    | with_reducible assumption | with_reducible apply Device.readChecked_wf | with_reducible apply Device.strike_wf
    | with_reducible apply Device.wf_ite

theorem execFence_settles {c : CoreId} {s : State}  :
    Settles s (execFence c s) := by
  unfold execFence
  refine State.on_settles fun d h0 => ?_
  repeat' first
    | intro _ | with_reducible assumption | with_reducible apply Device.after_wf
    | with_reducible apply Device.drainStores_wf | with_reducible apply Device.issue_wf
    | with_reducible apply Retire.ok_wf

theorem execWait_settles {c : CoreId} {s : State}  :
    Settles s (execWait c s) := by
  unfold execWait
  refine State.on_settles fun d h0 => ?_
  repeat' first
    | intro _ | with_reducible assumption | with_reducible apply Device.issue_wf
    | with_reducible apply Device.setRun_wf | with_reducible apply Retire.ok_wf | with_reducible apply Retire.jump_wf
    | split

theorem execWaitWake_settles {c : CoreId} {s : State}  :
    Settles s (execWaitWake c s) := by
  unfold execWaitWake
  refine State.on_settles fun d h0 => ?_
  repeat' first
    | with_reducible assumption | with_reducible apply Device.setRun_wf | with_reducible apply Device.takeEvent_wf
    | with_reducible apply Device.wf_ite

theorem execEret_settles {c : CoreId} {s : State}  :
    Settles s (execEret c s) := by
  unfold execEret
  refine State.on_settles fun d h0 => ?_
  repeat' first
    | intro _ | with_reducible assumption | with_reducible apply Device.issue_wf
    | with_reducible apply Device.returnException_wf | with_reducible apply Retire.jump_wf

theorem execTrap_settles {c : CoreId} {_code : BitVec 20} {s : State}  :
    Settles s (execTrap c _code s) := by
  unfold execTrap
  refine State.on_settles fun d h0 => ?_
  repeat' first
    | intro _ | with_reducible assumption | with_reducible apply Device.issue_wf
    | with_reducible apply Retire.stop_wf

theorem execSrd_settles {c : CoreId} {w : WReg} {num : BitVec 12} {s : State}  :
    Settles s (execSrd c w num s) := by
  unfold execSrd
  refine State.on_settles fun d h0 => ?_
  repeat' first
    | with_reducible assumption | with_reducible apply Device.srd_wf

theorem execSwr_settles {c : CoreId} {w : WReg} {num : BitVec 12} {s : State}  :
    Settles s (execSwr c w num s) := by
  unfold execSwr
  refine State.on_settles fun d h0 => ?_
  repeat' first
    | with_reducible assumption | with_reducible apply Device.swr_wf

theorem execSemtake_settles {c : CoreId} {rd : WReg} {n : Fin 32} {meets : BitVec 3} {s : State}  :
    Settles s (execSemtake c rd n meets s) := by
  unfold execSemtake
  refine State.on_settles fun d h0 => ?_
  repeat' first
    | intro _ | with_reducible assumption | with_reducible apply Retire.give_wf
    | with_reducible apply Device.issue_wf | with_reducible apply Device.semTake_wf

theorem execSemrel_settles {c : CoreId} {rd : WReg} {n : Fin 32} {rs : WReg} {s : State}  :
    Settles s (execSemrel c rd n rs s) := by
  unfold execSemrel
  refine State.on_settles fun d h0 => ?_
  repeat' first
    | intro _ | with_reducible assumption | with_reducible apply Retire.give_wf
    | with_reducible apply Device.issue_wf | with_reducible apply Device.semRelease_wf

theorem execSembrk_settles {c : CoreId} {rd : WReg} {n : Fin 32} {rs : WReg} {s : State}  :
    Settles s (execSembrk c rd n rs s) := by
  unfold execSembrk
  refine State.on_settles fun d h0 => ?_
  repeat' first
    | intro _ | with_reducible assumption | with_reducible apply Retire.give_wf
    | with_reducible apply Device.issue_wf | with_reducible apply Device.semBreakBy_wf

theorem execTake_settles {c : CoreId} {rd : WReg} {s : State}  :
    Settles s (execTake c rd s) := by
  unfold execTake
  refine State.on_settles fun d h0 => ?_
  repeat' first
    | intro _ | with_reducible assumption | with_reducible apply Retire.give_wf
    | with_reducible apply Device.issue_wf | with_reducible apply Device.take_wf

theorem execDone_settles {c : CoreId} {rd : WReg} {rs : WReg} {s : State}  :
    Settles s (execDone c rd rs s) := by
  unfold execDone
  refine State.on_settles fun d h0 => ?_
  repeat' first
    | intro _ | with_reducible assumption | with_reducible apply Device.finishTask_wf
    | with_reducible apply Retire.give_wf | with_reducible apply Device.issue_wf

theorem execBlkend_settles {c : CoreId} {s : State}  :
    Settles s (execBlkend c s) := by
  unfold execBlkend
  refine State.on_settles fun d h0 => ?_
  repeat' first
    | intro _ | with_reducible assumption | with_reducible apply Device.blockEnd_wf
    | with_reducible apply Device.drainStores_wf | with_reducible apply Device.issue_wf
    | with_reducible apply Device.streamOverrun_wf | with_reducible apply Retire.ok_wf
    | with_reducible apply Retire.gone_wf | split | (fail_if_no_progress extract_lets)

theorem execUndefInstruction_settles {c : CoreId} {s : State}  :
    Settles s (execUndefInstruction c s) := by
  unfold execUndefInstruction
  refine State.on_settles fun d h0 => ?_
  repeat' first
    | with_reducible assumption | with_reducible apply Device.issue_wf | with_reducible apply Retire.gone_wf

theorem execEventException_settles {c : CoreId} {s : State}  :
    Settles s (execEventException c s) := by
  unfold execEventException
  refine State.on_settles fun d h0 => ?_
  repeat' first
    | with_reducible assumption | with_reducible apply Device.takeEvent_wf | with_reducible apply Device.wf_ite

theorem execStreamOverrun_settles {s : State}  :
    Settles s (execStreamOverrun s) := by
  unfold execStreamOverrun
  refine State.on_settles fun d h0 => ?_
  repeat' first
    | with_reducible assumption | with_reducible apply Device.streamOverrun_wf

theorem execScrubSlot_settles {addr : Word} {u : Upset} {s : State}  :
    Settles s (execScrubSlot addr u s) := by
  unfold execScrubSlot
  refine State.on_settles fun d h0 => ?_
  repeat' first
    | with_reducible assumption | with_reducible apply Device.scrub_wf

end Sys2Proof.Machine
end

