-- ==== Sys2Proof/Laws/WfTxnOps.lean ====
section
/-! SUPPORT. The functions of `Machine/TxnOps.lean` keep the canonical form of the stores. -/

namespace Sys2Proof.Machine

theorem Device.prospect_wf {d : Device} {es : List Entry} (h0 : d.wf = true) :
    RegMap.wf (Device.prospect d es) = true := by
  have key : ∀ (r : RegMap), RegMap.wf r = true → RegMap.wf (es.foldl
      (fun r e => if e.window then r else r.put ⟨e.addr, e.lsb, e.width⟩ e.value.toNat) r) = true := by
    induction es with
    | nil => exact fun _ h => h
    | cons e t ih =>
      intro r h
      refine ih _ ?_
      dsimp only
      split
      · exact h
      · exact RegMap.put_wf _ _ h
  exact key _ (Device.wf_regs h0)

theorem Device.setStaged_wf {d : Device} {c : Client} {es : List Entry} (h0 : d.wf = true) :
    (Device.setStaged d c es).wf = true := by
  unfold Device.setStaged
  repeat' first
    | with_reducible assumption | (fail_if_no_progress with_reducible apply Device.wf_mk) | split

theorem Device.setFlight_wf {d : Device} {c : Client} {f : Option Flight} (h0 : d.wf = true) :
    (Device.setFlight d c f).wf = true := by
  unfold Device.setFlight
  repeat' first
    | with_reducible assumption | (fail_if_no_progress with_reducible apply Device.wf_mk) | split

theorem Device.stagingError_wf {d : Device} {bad : Bool} (h0 : d.wf = true) :
    (Device.stagingError d bad).wf = true := by
  unfold Device.stagingError
  repeat' first
    | with_reducible assumption | with_reducible apply Device.eccUncorr_wf | with_reducible apply Device.wf_ite
    | (fail_if_no_progress with_reducible apply Device.wf_mk)

theorem Device.txnEnd_wf {d : Device} {c : Client} {es : List Entry} {v : TxnVerdict} {blk : Nat} {waves : Nat} {failWave : Nat} (h0 : d.wf = true) :
    (Device.txnEnd d c es v blk waves failWave).wf = true := by
  unfold Device.txnEnd
  repeat' first
    | with_reducible assumption | with_reducible apply Device.complete_wf | with_reducible apply Device.put_wf
    | with_reducible apply Device.setFlight_wf | with_reducible apply Device.setStaged_wf
    | with_reducible apply Device.wf_ite

theorem Device.txnRefuse_wf {d : Device} {c : Client} {es : List Entry} {v : TxnVerdict} {blk : Nat} (h0 : d.wf = true) :
    (Device.txnRefuse d c es v blk).wf = true := by
  unfold Device.txnRefuse
  repeat' first
    | with_reducible assumption | with_reducible apply Device.txnEnd_wf | with_reducible apply Device.wf_ite
    | (fail_if_no_progress with_reducible apply Device.wf_mk)

theorem Device.txnOk_wf {d : Device} {c : Client} {f : Flight} (h0 : d.wf = true) :
    (Device.txnOk d c f).wf = true := by
  unfold Device.txnOk
  repeat' first
    | with_reducible assumption | with_reducible apply Device.fire_wf | with_reducible apply Device.orField_wf
    | with_reducible apply Device.txnEnd_wf

theorem Device.txnFail_wf {d : Device} {c : Client} {f : Flight} {wave : Nat} {cause : Nat} {index : Nat} (h0 : d.wf = true) :
    (Device.txnFail d c f wave cause index).wf = true := by
  unfold Device.txnFail
  repeat' first
    | with_reducible assumption | with_reducible apply Device.orField_wf | with_reducible apply Device.raise_wf
    | with_reducible apply Device.txnEnd_wf

theorem Device.txnCommit_wf {d : Device} {c : Client} {base : Nat × Nat} {bad : Bool} (h0 : d.wf = true) :
    (Device.txnCommit d c base bad).wf = true := by
  unfold Device.txnCommit
  extract_lets es e v f
  have h : e.wf = true := Device.stagingError_wf h0
  clear_value v e
  cases v
  · exact Device.setFlight_wf (Device.beginCmd_wf h)
  · exact Device.txnRefuse_wf h

theorem Device.prepareCopy_wf {d : Device} {k : Nat} {es : List Entry} (h0 : d.wf = true) :
    (Device.prepareCopy d k es).2.wf = true := by
  unfold Device.prepareCopy
  repeat' first
    | intro _ | with_reducible assumption | with_reducible apply Device.readChecked_wf
    | with_reducible apply Device.storeWord_wf | with_reducible apply Device.wf_foldl
    | with_reducible apply Device.wf_foldl_snd | split | (fail_if_no_progress extract_lets)

theorem Device.txnArmed_wf {d : Device} {c : Client} (h0 : d.wf = true) :
    (Device.txnArmed d c).wf = true := by
  unfold Device.txnArmed
  repeat' first
    | with_reducible assumption | with_reducible apply Device.prepareCopy_wf
    | with_reducible apply Device.setFlight_wf | with_reducible apply Device.txnRefuse_wf
    | with_reducible apply Device.wf_ite | split

theorem Device.copyGood_wf {d : Device} {k : Nat} (h0 : d.wf = true) :
    (Device.copyGood d k).2.wf = true := by
  unfold Device.copyGood
  repeat' first
    | intro _ | with_reducible assumption | with_reducible apply Device.readChecked_wf
    | with_reducible apply Device.wf_foldl_snd

theorem Device.rotateWindow_wf {d : Device} {k : Nat} (h0 : d.wf = true) :
    (Device.rotateWindow d k).wf = true := by
  unfold Device.rotateWindow
  repeat' first
    | with_reducible assumption | with_reducible apply Device.put_wf
    | (fail_if_no_progress with_reducible apply Device.wf_mk)

theorem Device.waveVersion_wf {d : Device} {w : Nat} (h0 : d.wf = true) :
    (Device.waveVersion d w).wf = true := by
  unfold Device.waveVersion
  repeat' first
    | with_reducible assumption | with_reducible apply Device.nextRevision_wf | with_reducible apply Device.put_wf
    | with_reducible apply Device.wf_ite | (fail_if_no_progress with_reducible apply Device.wf_mk)

theorem Device.applyWave_wf {d : Device} {c : Client} {f : Flight} {w : Nat} (h0 : d.wf = true) :
    (Device.applyWave d c f w).wf = true := by
  unfold Device.applyWave
  extract_lets es fields words olds d1 d2 d3 d4 t d5 d6 d7
  have h1 : d1.wf = true := Device.wf_parts (Device.prospect_wf h0) (Device.wf_mem h0) (Device.wf_c0 h0) (Device.wf_c1 h0)
    (Device.wf_sc h0) (Device.wf_companions h0)
  clear_value d1
  have h2 : d2.wf = true := by
    unfold d2
    cases f.copy with
    | none => exact h1
    | some k => exact Device.wf_ite (Device.rotateWindow_wf h1) h1
  clear_value d2
  have h4 : d4.wf = true := Device.wf_foldl _ (fun _ _ h => Device.stampWord_wf h) (Device.waveVersion_wf h2)
  clear_value d4
  have h5 : d5.wf = true := Device.wf_ite h4 h4
  have h6 : d6.wf = true := Device.wf_foldl _ (fun _ _ h => Device.wordApplied_wf h) h5
  exact Device.log_wf (Device.fire_wf (Device.orField_wf h6))

theorem Device.dropForSafe_wf {d : Device} {c : Client} {f : Flight} {from_ : Nat} (h0 : d.wf = true) :
    (Device.dropForSafe d c f from_).wf = true := by
  unfold Device.dropForSafe
  repeat' first
    | with_reducible assumption | with_reducible apply Device.txnFail_wf

theorem Device.runWave_wf {d : Device} {c : Client} {f : Flight} {w : Nat} {next : TxnPhase} {bad : Bool} (h0 : d.wf = true) :
    (Device.runWave d c f w next bad).wf = true := by
  unfold Device.runWave
  repeat' first
    | with_reducible assumption | with_reducible apply Device.applyWave_wf | with_reducible apply Device.copyGood_wf
    | with_reducible apply Device.dropForSafe_wf | with_reducible apply Device.setFlight_wf
    | with_reducible apply Device.stagingError_wf | with_reducible apply Device.txnFail_wf
    | with_reducible apply Device.txnOk_wf | with_reducible apply Device.wf_ite | split
    | (fail_if_no_progress extract_lets) | with_reducible refine Device.wf_of_snd (by assumption) ?_

theorem Device.firstBoundary_wf {d : Device} {c : Client} {f : Flight} {bad : Bool} (h0 : d.wf = true) :
    (Device.firstBoundary d c f bad).wf = true := by
  unfold Device.firstBoundary
  repeat' first
    | with_reducible assumption | with_reducible apply Device.put_wf | with_reducible apply Device.runWave_wf
    | with_reducible apply Device.stagingError_wf | with_reducible apply Device.txnRefuse_wf | split
    | (fail_if_no_progress extract_lets)

theorem Device.thirdWave_wf {d : Device} {c : Client} {f : Flight} {bad : Bool} (h0 : d.wf = true) :
    (Device.thirdWave d c f bad).wf = true := by
  unfold Device.thirdWave
  repeat' first
    | with_reducible assumption | with_reducible apply Device.dropForSafe_wf | with_reducible apply Device.runWave_wf
    | with_reducible apply Device.wf_ite

theorem Device.flightBoundary_wf {d : Device} {c : Client} {bad : Bool} (h0 : d.wf = true) :
    (Device.flightBoundary d c bad).wf = true := by
  unfold Device.flightBoundary
  repeat' first
    | with_reducible assumption | with_reducible apply Device.dropForSafe_wf
    | with_reducible apply Device.firstBoundary_wf | with_reducible apply Device.runWave_wf
    | with_reducible apply Device.setFlight_wf | with_reducible apply Device.thirdWave_wf | split

theorem Device.txnBoundary_wf {d : Device} {bad : Vector Bool 2} (h0 : d.wf = true) :
    (Device.txnBoundary d bad).wf = true := by
  unfold Device.txnBoundary
  repeat' first
    | with_reducible assumption | with_reducible apply Device.flightBoundary_wf | with_reducible apply Device.put_wf
    | with_reducible apply Device.wf_ite | (fail_if_no_progress with_reducible apply Device.wf_mk)

theorem Device.txnWave3_wf {d : Device} {c : Client} {bad : Bool} (h0 : d.wf = true) :
    (Device.txnWave3 d c bad).wf = true := by
  unfold Device.txnWave3
  repeat' first
    | with_reducible assumption | with_reducible apply Device.thirdWave_wf | split

end Sys2Proof.Machine
end

