-- ==== Sys2Proof/Laws/WfBoundary.lean ====
section
/-! SUPPORT. The functions of `Machine/Boundary.lean` keep the canonical form of the stores. -/

namespace Sys2Proof.Machine

theorem Device.outSample_wf {d : Device} {i : Nat} {k : Nat} (h0 : d.wf = true) :
    (Device.outSample d i k).2.wf = true := by
  unfold Device.outSample
  repeat' first
    | with_reducible assumption | with_reducible apply Device.readChecked_wf
    | (fail_if_no_progress with_reducible apply Device.wf_mk) | split | (fail_if_no_progress extract_lets)

theorem Device.outChannel_wf {d : Device} {i : Nat} (h0 : d.wf = true) :
    (Device.outChannel d i).2.wf = true := by
  unfold Device.outChannel
  repeat' first
    | intro _ | with_reducible assumption | with_reducible apply Device.outSample_wf
    | with_reducible apply Device.wf_foldl_snd

theorem Device.outBlock_wf {d : Device} (h0 : d.wf = true) :
    (Device.outBlock d).2.wf = true := by
  unfold Device.outBlock
  repeat' first
    | with_reducible assumption | with_reducible apply Device.outChannel_wf

theorem Device.streamPass_wf {d : Device} (h0 : d.wf = true) :
    (Device.streamPass d).2.wf = true := by
  unfold Device.streamPass
  repeat' first
    | with_reducible assumption | with_reducible apply Device.cput_wf | with_reducible apply Device.outBlock_wf
    | with_reducible apply Device.wf_ite | (fail_if_no_progress with_reducible apply Device.wf_mk) | split

theorem Device.freeCore_wf {d : Device} (h0 : d.wf = true) :
    (Device.freeCore d).wf = true := by
  exact Device.wf_parts (Device.wf_regs h0) (Device.wf_mem h0) (Device.wf_c0 h0) (Device.wf_c1 h0)
    (Device.wf_sc (d := d) h0) (Device.wf_companions h0)

theorem Device.writeDescriptor_wf {d : Device} (h0 : d.wf = true) :
    (Device.writeDescriptor d).wf = true := by
  unfold Device.writeDescriptor
  repeat' first
    | intro _ | with_reducible assumption | with_reducible apply Device.storeWord_wf
    | with_reducible apply Device.wf_foldl

theorem Device.startStream_wf {d : Device} (h0 : d.wf = true) :
    (Device.startStream d).wf = true := by
  unfold Device.startStream
  repeat' first
    | intro _ | with_reducible assumption | with_reducible apply Device.cput_wf
    | with_reducible apply Device.freeCore_wf | with_reducible apply Device.setPc_wf
    | with_reducible apply Device.storeWord_wf | with_reducible apply Device.writeDescriptor_wf
    | with_reducible apply Device.wf_ite | with_reducible apply Device.wf_foldl
    | (fail_if_no_progress with_reducible apply Device.wf_mk)

theorem Device.stageEvents_wf {d : Device} (h0 : d.wf = true) :
    (Device.stageEvents d).wf = true := by
  unfold Device.stageEvents
  repeat' first
    | with_reducible assumption | with_reducible apply Device.fire_wf | with_reducible apply Device.wf_ite
    | (fail_if_no_progress with_reducible apply Device.wf_mk)

theorem Device.stageLoad_wf {d : Device} (h0 : d.wf = true) :
    (Device.stageLoad d).wf = true := by
  unfold Device.stageLoad
  repeat' first
    | with_reducible assumption | (fail_if_no_progress with_reducible apply Device.wf_mk)

theorem Device.boundaryStart_wf {d : Device} (h0 : d.wf = true) :
    (Device.boundaryStart d).wf = true := by
  unfold Device.boundaryStart
  repeat' first
    | with_reducible assumption | with_reducible apply Device.cput_wf | with_reducible apply Device.inputsReach_wf
    | with_reducible apply Device.lanesStepped_wf | with_reducible apply Device.ringPhaseLoss_wf
    | with_reducible apply Device.shlRingStep_wf | with_reducible apply Device.stepRingTime_wf
    | with_reducible apply Device.streamOverrun_wf | with_reducible apply Device.wf_ite
    | (fail_if_no_progress with_reducible apply Device.wf_mk)

theorem Device.boundaryGather_wf {d : Device} {x : BoundaryIn} (h0 : d.wf = true) :
    (Device.boundaryGather d x).wf = true := by
  unfold Device.boundaryGather
  repeat' first
    | with_reducible assumption | with_reducible apply Device.gatherLanes_wf
    | with_reducible apply Device.gatherSense_wf | with_reducible apply Device.ircBoundary_wf
    | with_reducible apply Device.keepSense_wf | with_reducible apply Device.stageEvents_wf
    | with_reducible apply Device.tarnWindow_wf | (fail_if_no_progress with_reducible apply Device.wf_mk)

theorem Device.boundaryWaves_wf {d : Device} {x : BoundaryIn} (h0 : d.wf = true) :
    (Device.boundaryWaves d x).wf = true := by
  unfold Device.boundaryWaves
  repeat' first
    | with_reducible assumption | with_reducible apply Device.diagBoundary_wf
    | with_reducible apply Device.entryBoundary_wf | with_reducible apply Device.ircLoad_wf
    | with_reducible apply Device.lockMasters_wf | with_reducible apply Device.prechargeBlock_wf
    | with_reducible apply Device.settleAll_wf | with_reducible apply Device.stageLoad_wf
    | with_reducible apply Device.txnBoundary_wf

theorem Device.dcNow_wf {d : Device} {v : Vector (List Rat) 4} (h0 : d.wf = true) :
    (Device.dcNow d v).wf = true := by
  unfold Device.dcNow
  repeat' first
    | intro _ | with_reducible assumption | with_reducible apply Device.dcTake_wf
    | with_reducible apply Device.wf_foldl

theorem Device.boundaryBudget_wf {d : Device} {x : BoundaryIn} {outs : Vector (List Int) 4} (h0 : d.wf = true) :
    (Device.boundaryBudget d x outs).wf = true := by
  unfold Device.boundaryBudget
  repeat' first
    | with_reducible assumption | with_reducible apply Device.advanceRamp_wf | with_reducible apply Device.dcNow_wf
    | with_reducible apply Device.guardModels_wf | with_reducible apply Device.guardOutputs_wf
    | with_reducible apply Device.guardReport_wf | with_reducible apply Device.guardResults_wf
    | with_reducible apply Device.loadChecks_wf | with_reducible apply Device.reservoir_wf
    | with_reducible apply Device.sweepSine_wf | with_reducible apply Device.wf_ite

theorem Device.boundaryEnd_wf {d : Device} {before : Device} (h0 : d.wf = true) (h1 : before.wf = true) :
    (Device.boundaryEnd d before).wf = true := by
  unfold Device.boundaryEnd
  repeat' first
    | with_reducible assumption | with_reducible apply Device.fire_wf | with_reducible apply Device.nvsBoundary_wf
    | with_reducible apply Device.sampleAges_wf | with_reducible apply Device.sampleCycle_wf
    | with_reducible apply Device.senseBoundary_wf | with_reducible apply Device.senseNext_wf
    | with_reducible apply Device.startStream_wf | with_reducible apply Device.weirBoundary_wf
    | with_reducible apply Device.wf_ite

theorem Device.blockBoundary_wf {d : Device} {x : BoundaryIn} (h0 : d.wf = true) :
    (Device.blockBoundary d x).wf = true := by
  unfold Device.blockBoundary
  repeat' first
    | with_reducible assumption | with_reducible apply Device.boundaryBudget_wf
    | with_reducible apply Device.boundaryEnd_wf | with_reducible apply Device.boundaryGather_wf
    | with_reducible apply Device.boundaryStart_wf | with_reducible apply Device.boundaryWaves_wf
    | with_reducible apply Device.saturations_wf | with_reducible apply Device.streamPass_wf
    | with_reducible apply Device.wf_ite

theorem execBlockBoundary_settles {x : BoundaryIn} {s : State}  :
    Settles s (execBlockBoundary x s) := by
  unfold execBlockBoundary
  refine State.on_settles fun d h0 => ?_
  repeat' first
    | with_reducible assumption | with_reducible apply Device.blockBoundary_wf

end Sys2Proof.Machine
end

