-- ==== Sys2Proof/Laws/WfHostOps.lean ====
section
/-! SUPPORT. The functions of `Machine/HostOps.lean` keep the canonical form of the stores. -/

namespace Sys2Proof.Machine

theorem Device.receive_wf {d : Device} {c : Client} {bs : List Byte} (h0 : d.wf = true) :
    (Device.receive d c bs).wf = true := by
  unfold Device.receive
  repeat' first
    | with_reducible assumption | with_reducible apply Device.bump_wf | with_reducible apply Device.hpEvt_wf
    | with_reducible apply Device.protoErr_wf | with_reducible apply Device.setPort_wf
    | with_reducible apply Device.wf_ite

theorem Device.portWake_wf {d : Device} {c : Client} (h0 : d.wf = true) :
    (Device.portWake d c).wf = true := by
  unfold Device.portWake
  repeat' first
    | with_reducible assumption | with_reducible apply Device.orField_wf | with_reducible apply Device.wf_ite

theorem Device.spiTransaction_wf {d : Device} {c : Client} {mosi : List Byte} (h0 : d.wf = true) :
    (Device.spiTransaction d c mosi).wf = true := by
  unfold Device.spiTransaction
  repeat' first
    | with_reducible assumption | with_reducible apply Device.portWake_wf | with_reducible apply Device.receive_wf
    | with_reducible apply Device.setPort_wf | with_reducible apply Device.wf_ite

theorem Device.i2cTransfer_wf {d : Device} {addr : BitVec 7} {written : List Byte} {read : Option Nat} (h0 : d.wf = true) :
    (Device.i2cTransfer d addr written read).wf = true := by
  unfold Device.i2cTransfer
  repeat' first
    | with_reducible assumption | with_reducible apply Device.portWake_wf | with_reducible apply Device.receive_wf
    | with_reducible apply Device.setPort_wf | split

theorem Device.hostFrame_wf {d : Device} {c : Client} (h0 : d.wf = true) :
    (Device.hostFrame d c).wf = true := by
  unfold Device.hostFrame
  repeat' first
    | with_reducible assumption | with_reducible apply Device.arrive_wf | with_reducible apply Device.bump_wf
    | with_reducible apply Device.hpEvt_wf | with_reducible apply Device.protoErr_wf
    | with_reducible apply Device.setPort_wf | with_reducible apply Device.wf_ite

theorem Device.setConv_wf {d : Device} {c : Client} {n : Nat} {v : Conv} (h0 : d.wf = true) :
    (Device.setConv d c n v).wf = true := by
  unfold Device.setConv
  repeat' first
    | with_reducible assumption | with_reducible apply Device.setPort_wf

theorem Device.serve_wf {d : Device} {c : Client} {p : Nat → Bool} {act : Device → Cmd → Device} (h0 : d.wf = true) (h1 : ∀ x0 x1, x0.wf = true → (act x0 x1).wf = true) :
    (Device.serve d c p act).wf = true := by
  unfold Device.serve
  repeat' first
    | with_reducible assumption | with_reducible apply h1 | with_reducible apply Device.complete_wf | split

theorem Device.serveOp_wf {d : Device} {c : Client} {op : Nat} {act : Device → Cmd → Device} (h0 : d.wf = true) (h1 : ∀ x0 x1, x0.wf = true → (act x0 x1).wf = true) :
    (Device.serveOp d c op act).wf = true := by
  unfold Device.serveOp
  repeat' first
    | with_reducible assumption | with_reducible apply h1 | with_reducible apply Device.serve_wf

theorem Device.hostUnknown_wf {d : Device} {c : Client} (h0 : d.wf = true) :
    (Device.hostUnknown d c).wf = true := by
  unfold Device.hostUnknown
  repeat' first
    | with_reducible assumption | with_reducible apply Device.complete_wf | split

theorem Device.hello_wf {d : Device} {c : Client} (h0 : d.wf = true) :
    (Device.hello d c).wf = true := by
  unfold Device.hello
  repeat' first
    | intro _ | with_reducible assumption | with_reducible apply Device.complete_wf
    | with_reducible apply Device.serveOp_wf | with_reducible apply Device.setExp_wf
    | with_reducible apply Device.setFlag_wf | with_reducible apply Device.setPort_wf
    | with_reducible apply Device.wf_ite

theorem Device.ping_wf {d : Device} {c : Client} (h0 : d.wf = true) :
    (Device.ping d c).wf = true := by
  unfold Device.ping
  repeat' first
    | intro _ | with_reducible assumption | with_reducible apply Device.complete_wf
    | with_reducible apply Device.serveOp_wf

theorem Device.hostStatus_wf {d : Device} {c : Client} (h0 : d.wf = true) :
    (Device.hostStatus d c).wf = true := by
  unfold Device.hostStatus
  repeat' first
    | intro _ | with_reducible assumption | with_reducible apply Device.complete_wf
    | with_reducible apply Device.serveOp_wf

theorem Device.readWords_wf {d : Device} {a : Nat} {a0 : Nat} {a1 : List Word} (h0 : d.wf = true) :
    (Device.readWords d a a0 a1).2.2.wf = true := by
  induction a0 generalizing d a a1 with
  | zero => exact h0
  | succ n ih =>
    have h := Device.busRead_wf (a := a) h0
    simp only [Device.readWords]
    generalize d.busRead a = r at h
    obtain ⟨_ | w, e⟩ := r
    · exact h
    · exact ih h

theorem Device.regReadOp_wf {d : Device} {c : Client} (h0 : d.wf = true) :
    (Device.regReadOp d c).wf = true := by
  unfold Device.regReadOp
  repeat' first
    | intro _ | with_reducible assumption | with_reducible apply Device.complete_wf
    | with_reducible apply Device.readWords_wf | with_reducible apply Device.serveOp_wf
    | with_reducible apply Device.wf_ite | split | (fail_if_no_progress extract_lets)

theorem Device.writeWords_wf {d : Device} {m : Master} {a : Nat} {a0 : Nat} {a1 : List Word} (h0 : d.wf = true) :
    (Device.writeWords d m a a0 a1).2.wf = true := by
  induction a1 generalizing d a0 with
  | nil => cases a0 <;> exact h0
  | cons w t ih =>
    have h := Device.busWrite_wf (m := m) (priv := true) (a := a + 4 * a0) (w := w) h0
    cases a0 <;>
    · simp only [Device.writeWords]
      generalize d.busWrite m true _ w = r at h
      obtain ⟨_ | _, e⟩ := r
      · exact ih h
      · exact h

theorem Device.regWriteOp_wf {d : Device} {c : Client} (h0 : d.wf = true) :
    (Device.regWriteOp d c).wf = true := by
  unfold Device.regWriteOp
  repeat' first
    | intro _ | with_reducible assumption | with_reducible apply Device.complete_wf
    | with_reducible apply Device.serveOp_wf | with_reducible apply Device.writeWords_wf | split
    | (fail_if_no_progress extract_lets) | with_reducible refine Device.wf_of_snd (by assumption) ?_

theorem Device.evtDone_wf {d : Device} {c : Client} (h0 : d.wf = true) :
    (Device.evtDone d c).wf = true := by
  unfold Device.evtDone
  repeat' first
    | intro _ | with_reducible assumption | with_reducible apply Device.complete_wf
    | with_reducible apply Device.completeEvent_wf | with_reducible apply Device.reject_wf
    | with_reducible apply Device.serveOp_wf | with_reducible apply Device.setPort_wf
    | with_reducible apply Device.wf_ite

theorem Device.stateReq_wf {d : Device} {c : Client} (h0 : d.wf = true) :
    (Device.stateReq d c).wf = true := by
  unfold Device.stateReq
  repeat' first
    | intro _ | with_reducible assumption | with_reducible apply Device.complete_wf
    | with_reducible apply Device.pwrCommand_wf | with_reducible apply Device.reject_wf
    | with_reducible apply Device.serveOp_wf | with_reducible apply Device.wf_ite

theorem Device.setLease_wf {d : Device} {st : Nat} {holder : Nat} {remain : Nat} (h0 : d.wf = true) :
    (Device.setLease d st holder remain).wf = true := by
  unfold Device.setLease
  repeat' first
    | intro _ | with_reducible assumption | with_reducible apply Device.put_wf | with_reducible apply Device.wf_foldl

theorem Device.grantLease_wf {d : Device} {c : Client} (h0 : d.wf = true) :
    (Device.grantLease d c).wf = true := by
  unfold Device.grantLease
  repeat' first
    | with_reducible assumption | with_reducible apply Device.setLease_wf
    | (fail_if_no_progress with_reducible apply Device.wf_mk)

theorem Device.leaseDone_wf {d : Device} {c : Client} {status : Nat} (h0 : d.wf = true) :
    (Device.leaseDone d c status).wf = true := by
  unfold Device.leaseDone
  repeat' first
    | with_reducible assumption | with_reducible apply Device.complete_wf

theorem Device.closeLeased_wf {d : Device} {c : Client} (h0 : d.wf = true) :
    (Device.closeLeased d c).wf = true := by
  unfold Device.closeLeased
  repeat' first
    | with_reducible assumption | with_reducible apply Device.setPort_wf

theorem Device.leaseAcquire_wf {d : Device} {c : Client} (h0 : d.wf = true) :
    (Device.leaseAcquire d c).wf = true := by
  unfold Device.leaseAcquire
  repeat' first
    | intro _ | with_reducible assumption | with_reducible apply Device.grantLease_wf
    | with_reducible apply Device.leaseDone_wf | with_reducible apply Device.serveOp_wf
    | with_reducible apply Device.wf_ite

theorem Device.leaseRenew_wf {d : Device} {c : Client} (h0 : d.wf = true) :
    (Device.leaseRenew d c).wf = true := by
  unfold Device.leaseRenew
  repeat' first
    | intro _ | with_reducible assumption | with_reducible apply Device.grantLease_wf
    | with_reducible apply Device.leaseDone_wf | with_reducible apply Device.serveOp_wf
    | with_reducible apply Device.wf_ite

theorem Device.leaseRelease_wf {d : Device} {c : Client} (h0 : d.wf = true) :
    (Device.leaseRelease d c).wf = true := by
  unfold Device.leaseRelease
  repeat' first
    | intro _ | with_reducible assumption | with_reducible apply Device.closeLeased_wf
    | with_reducible apply Device.leaseDone_wf | with_reducible apply Device.serveOp_wf
    | with_reducible apply Device.setLease_wf | with_reducible apply Device.wf_ite

theorem Device.takeLease_wf {d : Device} {c : Client} (h0 : d.wf = true) :
    (Device.takeLease d c).wf = true := by
  unfold Device.takeLease
  repeat' first
    | with_reducible assumption | with_reducible apply Device.grantLease_wf | with_reducible apply Device.setLease_wf
    | with_reducible apply Device.wf_ite

theorem Device.leaseBreak_wf {d : Device} {c : Client} (h0 : d.wf = true) :
    (Device.leaseBreak d c).wf = true := by
  unfold Device.leaseBreak
  repeat' first
    | intro _ | with_reducible assumption | with_reducible apply Device.abortQueue_wf
    | with_reducible apply Device.closeLeased_wf | with_reducible apply Device.hpEvt_wf
    | with_reducible apply Device.leaseDone_wf | with_reducible apply Device.raise_wf
    | with_reducible apply Device.serveOp_wf | with_reducible apply Device.takeLease_wf
    | with_reducible apply Device.wf_ite

theorem Device.leaseExpired_wf {d : Device} (h0 : d.wf = true) :
    (Device.leaseExpired d).wf = true := by
  unfold Device.leaseExpired
  repeat' first
    | with_reducible assumption | with_reducible apply Device.hpEvt_wf | with_reducible apply Device.raise_wf
    | with_reducible apply Device.setLease_wf | with_reducible apply Device.wf_ite

theorem Device.tickLease_wf {d : Device} (h0 : d.wf = true) :
    (Device.tickLease d).wf = true := by
  unfold Device.tickLease
  repeat' first
    | with_reducible assumption | with_reducible apply Device.leaseExpired_wf
    | with_reducible apply Device.setLease_wf | with_reducible apply Device.wf_ite
    | (fail_if_no_progress with_reducible apply Device.wf_mk)

theorem Device.setPriv_wf {d : Device} {c : Client} (h0 : d.wf = true) :
    (Device.setPriv d c).wf = true := by
  unfold Device.setPriv
  repeat' first
    | intro _ | with_reducible assumption | with_reducible apply Device.beginCmd_wf
    | with_reducible apply Device.complete_wf | with_reducible apply Device.secOp_wf
    | with_reducible apply Device.serveOp_wf | with_reducible apply Device.wf_ite

theorem Device.txnStage_wf {d : Device} {c : Client} (h0 : d.wf = true) :
    (Device.txnStage d c).wf = true := by
  unfold Device.txnStage
  repeat' first
    | intro _ | with_reducible assumption | with_reducible apply Device.complete_wf
    | with_reducible apply Device.serveOp_wf | with_reducible apply Device.setStaged_wf | split

theorem Device.txnCommitOp_wf {d : Device} {c : Client} {bad : Bool} (h0 : d.wf = true) :
    (Device.txnCommitOp d c bad).wf = true := by
  unfold Device.txnCommitOp
  repeat' first
    | intro _ | with_reducible assumption | with_reducible apply Device.serveOp_wf
    | with_reducible apply Device.txnCommit_wf

theorem Device.txnDiscard_wf {d : Device} {c : Client} (h0 : d.wf = true) :
    (Device.txnDiscard d c).wf = true := by
  unfold Device.txnDiscard
  repeat' first
    | intro _ | with_reducible assumption | with_reducible apply Device.complete_wf
    | with_reducible apply Device.serveOp_wf | with_reducible apply Device.setStaged_wf

theorem Device.txnQuery_wf {d : Device} {c : Client} (h0 : d.wf = true) :
    (Device.txnQuery d c).wf = true := by
  unfold Device.txnQuery
  repeat' first
    | intro _ | with_reducible assumption | with_reducible apply Device.complete_wf
    | with_reducible apply Device.serveOp_wf

theorem Device.logRead_wf {d : Device} {c : Client} (h0 : d.wf = true) :
    (Device.logRead d c).wf = true := by
  unfold Device.logRead
  repeat' first
    | intro _ | with_reducible assumption | with_reducible apply Device.complete_wf
    | with_reducible apply Device.logTake_wf | with_reducible apply Device.serveOp_wf

theorem Device.chnCmd_wf {d : Device} {c : Client} (h0 : d.wf = true) :
    (Device.chnCmd d c).wf = true := by
  unfold Device.chnCmd
  repeat' first
    | intro _ | with_reducible assumption | with_reducible apply Device.beginCmd_wf
    | with_reducible apply Device.bufferWrite_wf | with_reducible apply Device.complete_wf
    | with_reducible apply Device.mailboxQueue_wf | with_reducible apply Device.put_wf
    | with_reducible apply Device.serveOp_wf | with_reducible apply Device.wf_ite

theorem Device.relayOp_wf {d : Device} {c : Client} (h0 : d.wf = true) :
    (Device.relayOp d c).wf = true := by
  unfold Device.relayOp
  repeat' first
    | intro _ | with_reducible assumption | with_reducible apply Device.arriveWhole_wf
    | with_reducible apply Device.beginCmd_wf | with_reducible apply Device.complete_wf
    | with_reducible apply Device.serveOp_wf | with_reducible apply Device.setPort_wf
    | with_reducible apply Device.trnFragments_wf | with_reducible apply Device.wf_ite

theorem Device.relayTimeout_wf {d : Device} {c : Client} (h0 : d.wf = true) :
    (Device.relayTimeout d c).wf = true := by
  unfold Device.relayTimeout
  repeat' first
    | with_reducible assumption | with_reducible apply Device.complete_wf | with_reducible apply Device.wf_ite

theorem Device.updOp_wf {d : Device} {c : Client} {op : Nat} {act : Device → List Byte → Device} (h0 : d.wf = true) (h1 : ∀ x0 x1, x0.wf = true → (act x0 x1).wf = true) :
    (Device.updOp d c op act).wf = true := by
  unfold Device.updOp
  repeat' first
    | intro _ | with_reducible assumption | with_reducible apply h1 | with_reducible apply Device.serveOp_wf

theorem Device.activateReset_wf {d : Device} (h0 : d.wf = true) :
    (Device.activateReset d).wf = true := by
  unfold Device.activateReset
  repeat' first
    | with_reducible assumption | with_reducible apply Device.softwareReset_wf | with_reducible apply Device.wf_ite

theorem Device.idRefuse_wf {d : Device} {c : Client} {code : Nat} (h0 : d.wf = true) :
    (Device.idRefuse d c code).wf = true := by
  unfold Device.idRefuse
  repeat' first
    | with_reducible assumption | with_reducible apply Device.complete_wf

theorem Device.idOp_wf {d : Device} {c : Client} {op : Nat} {act : Device → Cmd → Bool → Device} (h0 : d.wf = true) (h1 : ∀ x0 x1 x2, x0.wf = true → (act x0 x1 x2).wf = true) :
    (Device.idOp d c op act).wf = true := by
  unfold Device.idOp
  repeat' first
    | intro _ | with_reducible assumption | with_reducible apply h1 | with_reducible apply Device.idRefuse_wf
    | with_reducible apply Device.serveOp_wf | with_reducible apply Device.setConv_wf
    | with_reducible apply Device.wf_ite

theorem Device.idList_wf {d : Device} {c : Client} (h0 : d.wf = true) :
    (Device.idList d c).wf = true := by
  unfold Device.idList
  repeat' first
    | intro _ | with_reducible assumption | with_reducible apply Device.complete_wf
    | with_reducible apply Device.idOp_wf | with_reducible apply Device.idRefuse_wf
    | with_reducible apply Device.wf_ite

theorem Device.idAdopt_wf {d : Device} {c : Client} (h0 : d.wf = true) :
    (Device.idAdopt d c).wf = true := by
  unfold Device.idAdopt
  repeat' first
    | intro _ | with_reducible assumption | with_reducible apply Device.complete_wf
    | with_reducible apply Device.idOp_wf | with_reducible apply Device.idRefuse_wf
    | with_reducible apply Device.setConv_wf | with_reducible apply Device.wf_ite | split

theorem Device.idRevoke_wf {d : Device} {c : Client} (h0 : d.wf = true) :
    (Device.idRevoke d c).wf = true := by
  unfold Device.idRevoke
  repeat' first
    | intro _ | with_reducible assumption | with_reducible apply Device.complete_wf
    | with_reducible apply Device.idOp_wf | with_reducible apply Device.idRefuse_wf
    | with_reducible apply Device.setConv_wf | with_reducible apply Device.wf_ite

theorem Device.idCommit_wf {d : Device} {c : Client} (h0 : d.wf = true) :
    (Device.idCommit d c).wf = true := by
  unfold Device.idCommit
  repeat' first
    | intro _ | with_reducible assumption | with_reducible apply Device.beginCmd_wf
    | with_reducible apply Device.idOp_wf | with_reducible apply Device.idRefuse_wf
    | with_reducible apply Device.secOp_wf | with_reducible apply Device.setConv_wf
    | with_reducible apply Device.wf_ite

theorem Device.convOpen_wf {d : Device} {c : Client} (h0 : d.wf = true) :
    (Device.convOpen d c).wf = true := by
  unfold Device.convOpen
  repeat' first
    | intro _ | with_reducible assumption | with_reducible apply Device.complete_wf
    | with_reducible apply Device.serveOp_wf | with_reducible apply Device.setConv_wf
    | with_reducible apply Device.wf_ite | split

theorem Device.convClose_wf {d : Device} {c : Client} (h0 : d.wf = true) :
    (Device.convClose d c).wf = true := by
  unfold Device.convClose
  repeat' first
    | intro _ | with_reducible assumption | with_reducible apply Device.complete_wf
    | with_reducible apply Device.serveOp_wf | with_reducible apply Device.setConv_wf

theorem Device.convTimeout_wf {d : Device} {c : Client} {n : Fin 4} (h0 : d.wf = true) :
    (Device.convTimeout d c n).wf = true := by
  unfold Device.convTimeout
  repeat' first
    | with_reducible assumption | with_reducible apply Device.bump_wf | with_reducible apply Device.hpEvt_wf
    | with_reducible apply Device.protoErr_wf | with_reducible apply Device.setConv_wf
    | with_reducible apply Device.wf_ite

theorem Device.appOp_wf {d : Device} {c : Client} (h0 : d.wf = true) :
    (Device.appOp d c).wf = true := by
  unfold Device.appOp
  repeat' first
    | intro _ | with_reducible assumption | with_reducible apply Device.beginCmd_wf
    | with_reducible apply Device.bufferWrite_wf | with_reducible apply Device.fire_wf
    | with_reducible apply Device.serve_wf | with_reducible apply Device.setFlag_wf

theorem Device.notifyClaim_wf {d : Device} {c : Client} (h0 : d.wf = true) :
    (Device.notifyClaim d c).wf = true := by
  unfold Device.notifyClaim
  repeat' first
    | with_reducible assumption | with_reducible apply Device.bumpWrap_wf | with_reducible apply Device.claim_wf
    | with_reducible apply Device.setPort_wf | with_reducible apply Device.wf_ite

theorem Device.notifyRetx_wf {d : Device} {c : Client} {source : Fin 128} {ms : Nat} (h0 : d.wf = true) :
    (Device.notifyRetx d c source ms).wf = true := by
  unfold Device.notifyRetx
  repeat' first
    | with_reducible assumption | with_reducible apply Device.pushOut_wf | with_reducible apply Device.wf_ite | split

end Sys2Proof.Machine
end

