-- ==== Sys2Proof/Laws/WfRegisterCommands.lean ====
section
/-! SUPPORT. The functions of `Machine/RegisterCommands.lean` keep the canonical form of the stores. -/

namespace Sys2Proof.Machine

theorem Device.directRead_wf {d : Device} {m : Master} {a : Nat} (h0 : d.wf = true) :
    (Device.directRead d m a).wf = true := by
  unfold Device.directRead
  repeat' first
    | with_reducible assumption | with_reducible apply Device.readCommand_wf | with_reducible apply Device.wf_ite

theorem Device.directWrite_wf {d : Device} {m : Master} {a : Nat} {w : Word} (h0 : d.wf = true) :
    (Device.directWrite d m a w).wf = true := by
  unfold Device.directWrite
  repeat' first
    | with_reducible assumption | with_reducible apply Device.writeCommand_wf | with_reducible apply Device.wf_ite

theorem execRegisterWrite_settles {m : Master} {addr : Word} {v : Word} {s : State}  :
    Settles s (execRegisterWrite m addr v s) := by
  unfold execRegisterWrite
  refine State.on_settles fun d h0 => ?_
  repeat' first
    | with_reducible assumption | with_reducible apply Device.directWrite_wf

theorem execSysRejectAddrRead_settles {m : Master} {s : State}  :
    Settles s (execSysRejectAddrRead m s) := by
  unfold execSysRejectAddrRead
  refine State.on_settles fun d h0 => ?_
  repeat' first
    | with_reducible assumption | with_reducible apply Device.directRead_wf

theorem execRingTimeRead_settles {m : Master} {s : State}  :
    Settles s (execRingTimeRead m s) := by
  unfold execRingTimeRead
  refine State.on_settles fun d h0 => ?_
  repeat' first
    | with_reducible assumption | with_reducible apply Device.directRead_wf

theorem execRngRead_settles {m : Master} {s : State}  :
    Settles s (execRngRead m s) := by
  unfold execRngRead
  refine State.on_settles fun d h0 => ?_
  repeat' first
    | with_reducible assumption | with_reducible apply Device.directRead_wf

theorem execStSctlRunWrite_settles {m : Master} {v : Word} {s : State}  :
    Settles s (execStSctlRunWrite m v s) := by
  unfold execStSctlRunWrite
  refine State.on_settles fun d h0 => ?_
  repeat' first
    | with_reducible assumption | with_reducible apply Device.directWrite_wf

theorem execStSentryWrite_settles {m : Master} {v : Word} {s : State}  :
    Settles s (execStSentryWrite m v s) := by
  unfold execStSentryWrite
  refine State.on_settles fun d h0 => ?_
  repeat' first
    | with_reducible assumption | with_reducible apply Device.directWrite_wf

theorem execStOvrcntClr_settles {m : Master} {s : State}  :
    Settles s (execStOvrcntClr m s) := by
  unfold execStOvrcntClr
  refine State.on_settles fun d h0 => ?_
  repeat' first
    | with_reducible assumption | with_reducible apply Device.directWrite_wf

theorem execStEndmaxClr_settles {m : Master} {s : State}  :
    Settles s (execStEndmaxClr m s) := by
  unfold execStEndmaxClr
  refine State.on_settles fun d h0 => ?_
  repeat' first
    | with_reducible assumption | with_reducible apply Device.directWrite_wf

theorem execEvcDelivery_settles {s : State}  :
    Settles s (execEvcDelivery s) := by
  unfold execEvcDelivery
  refine State.on_settles fun d h0 => ?_
  repeat' first
    | with_reducible assumption | with_reducible apply Device.evcCycle_wf

theorem execModerationExpire_settles {x : Fin 4} {s : State}  :
    Settles s (execModerationExpire x s) := by
  unfold execModerationExpire
  refine State.on_settles fun d h0 => ?_
  repeat' first
    | with_reducible assumption | with_reducible apply Device.wf_ite
    | (fail_if_no_progress with_reducible apply Device.wf_mk)

theorem execEventFire_settles {n : Fin 128} {s : State}  :
    Settles s (execEventFire n s) := by
  unfold execEventFire
  refine State.on_settles fun d h0 => ?_
  repeat' first
    | with_reducible assumption | with_reducible apply Device.fire_wf

theorem execEvcClaim_settles {m : Master} {x : Fin 4} {s : State}  :
    Settles s (execEvcClaim m x s) := by
  unfold execEvcClaim
  refine State.on_settles fun d h0 => ?_
  repeat' first
    | with_reducible assumption | with_reducible apply Device.directRead_wf

theorem execEvcDone_settles {m : Master} {x : Fin 4} {v : Word} {s : State}  :
    Settles s (execEvcDone m x v s) := by
  unfold execEvcDone
  refine State.on_settles fun d h0 => ?_
  repeat' first
    | with_reducible assumption | with_reducible apply Device.directWrite_wf

theorem execEvcPset_settles {m : Master} {x : Fin 4} {v : Word} {s : State}  :
    Settles s (execEvcPset m x v s) := by
  unfold execEvcPset
  refine State.on_settles fun d h0 => ?_
  repeat' first
    | with_reducible assumption | with_reducible apply Device.directWrite_wf

theorem execEvcPclr_settles {m : Master} {x : Fin 4} {v : Word} {s : State}  :
    Settles s (execEvcPclr m x v s) := by
  unfold execEvcPclr
  refine State.on_settles fun d h0 => ?_
  repeat' first
    | with_reducible assumption | with_reducible apply Device.directWrite_wf

theorem execEvcSrcWrite_settles {m : Master} {n : Fin 128} {v : Word} {s : State}  :
    Settles s (execEvcSrcWrite m n v s) := by
  unfold execEvcSrcWrite
  refine State.on_settles fun d h0 => ?_
  repeat' first
    | with_reducible assumption | with_reducible apply Device.directWrite_wf

theorem execEvcTgtCtlWrite_settles {m : Master} {x : Fin 4} {v : Word} {s : State}  :
    Settles s (execEvcTgtCtlWrite m x v s) := by
  unfold execEvcTgtCtlWrite
  refine State.on_settles fun d h0 => ?_
  repeat' first
    | with_reducible assumption | with_reducible apply Device.directWrite_wf

theorem execEvcTgtModWrite_settles {m : Master} {x : Fin 4} {v : Word} {s : State}  :
    Settles s (execEvcTgtModWrite m x v s) := by
  unfold execEvcTgtModWrite
  refine State.on_settles fun d h0 => ?_
  repeat' first
    | with_reducible assumption | with_reducible apply Device.directWrite_wf

theorem execEvcCtlGenWrite_settles {m : Master} {v : Word} {s : State}  :
    Settles s (execEvcCtlGenWrite m v s) := by
  unfold execEvcCtlGenWrite
  refine State.on_settles fun d h0 => ?_
  repeat' first
    | with_reducible assumption | with_reducible apply Device.directWrite_wf

theorem execWakeLatchSet_settles {k : Fin 9} {s : State}  :
    Settles s (execWakeLatchSet k s) := by
  unfold execWakeLatchSet
  refine State.on_settles fun d h0 => ?_
  repeat' first
    | with_reducible assumption | with_reducible apply Device.orField_wf | with_reducible apply Device.wf_ite

end Sys2Proof.Machine
end

