-- ==== Sys2Proof/Laws/WfChainCommands.lean ====
section
/-! SUPPORT. The functions of `Machine/ChainCommands.lean` keep the canonical form of the stores. -/

namespace Sys2Proof.Machine

theorem Device.toneHeard_wf {d : Device} {k : Option (Fin 64)} (h0 : d.wf = true) :
    (Device.toneHeard d k).wf = true := by
  unfold Device.toneHeard
  repeat' first
    | with_reducible assumption | with_reducible apply Companion.hearTone_wf
    | with_reducible apply Device.masterTone_wf | with_reducible apply Device.onCompanion_wf | split

theorem Device.toneEnds_wf {d : Device} {k : Option (Fin 64)} (h0 : d.wf = true) :
    (Device.toneEnds d k).wf = true := by
  unfold Device.toneEnds
  repeat' first
    | intro _ | with_reducible assumption | with_reducible apply Device.masterToneEnd_wf
    | with_reducible apply Device.onCompanion_wf | split

theorem execLoop_settles {dly : Nat} {s : State}  :
    Settles s (execLoop dly s) := by
  unfold execLoop
  refine State.on_settles fun d h0 => ?_
  repeat' first
    | with_reducible assumption | with_reducible apply Device.loopArrives_wf

theorem execChainReply_settles {side : Side} {bytes : List Byte} {delta : Nat} {s : State}  :
    Settles s (execChainReply side bytes delta s) := by
  unfold execChainReply
  refine State.on_settles fun d h0 => ?_
  repeat' first
    | with_reducible assumption | with_reducible apply Device.chainReply_wf

theorem execNakBusyResend_settles {s : State}  :
    Settles s (execNakBusyResend s) := by
  unfold execNakBusyResend
  refine State.on_settles fun d h0 => ?_
  repeat' first
    | with_reducible assumption | with_reducible apply Device.nakBusyResend_wf

theorem execAttemptTimeout_settles {ticks : Nat} {s : State}  :
    Settles s (execAttemptTimeout ticks s) := by
  unfold execAttemptTimeout
  refine State.on_settles fun d h0 => ?_
  repeat' first
    | with_reducible assumption | with_reducible apply Device.attemptTimeout_wf

theorem execBroadcastLoss_settles {ticks : Nat} {s : State}  :
    Settles s (execBroadcastLoss ticks s) := by
  unfold execBroadcastLoss
  refine State.on_settles fun d h0 => ?_
  repeat' first
    | with_reducible assumption | with_reducible apply Device.broadcastLoss_wf

theorem execChainProbe_settles {ms : Nat} {s : State}  :
    Settles s (execChainProbe ms s) := by
  unfold execChainProbe
  refine State.on_settles fun d h0 => ?_
  repeat' first
    | with_reducible assumption | with_reducible apply Device.chainProbe_wf

theorem execChainHeal_settles {s : State}  :
    Settles s (execChainHeal s) := by
  unfold execChainHeal
  refine State.on_settles fun d h0 => ?_
  repeat' first
    | with_reducible assumption | with_reducible apply Device.chainHeal_wf

theorem execShlCtlEnum_settles {m : Master} {v : Word} {s : State}  :
    Settles s (execShlCtlEnum m v s) := by
  unfold execShlCtlEnum
  refine State.on_settles fun d h0 => ?_
  repeat' first
    | with_reducible assumption | with_reducible apply Device.directWrite_wf

theorem execDelayMeasure_settles {ms : Nat} {s : State}  :
    Settles s (execDelayMeasure ms s) := by
  unfold execDelayMeasure
  refine State.on_settles fun d h0 => ?_
  repeat' first
    | with_reducible assumption | with_reducible apply Device.delayMeasure_wf

theorem execTimeSetSend_settles {ms : Nat} {s : State}  :
    Settles s (execTimeSetSend ms s) := by
  unfold execTimeSetSend
  refine State.on_settles fun d h0 => ?_
  repeat' first
    | with_reducible assumption | with_reducible apply Device.timeSetSend_wf

theorem execLoopSend_settles {ms : Nat} {s : State}  :
    Settles s (execLoopSend ms s) := by
  unfold execLoopSend
  refine State.on_settles fun d h0 => ?_
  repeat' first
    | with_reducible assumption | with_reducible apply Device.loopSend_wf

theorem execSampleReadStart_settles {s : State}  :
    Settles s (execSampleReadStart s) := by
  unfold execSampleReadStart
  refine State.on_settles fun d h0 => ?_
  repeat' first
    | with_reducible assumption | with_reducible apply Device.sampleReadStart_wf

theorem execChnWake_settles {k : Option (Fin 64)} {s : State}  :
    Settles s (execChnWake k s) := by
  unfold execChnWake
  refine State.on_settles fun d h0 => ?_
  repeat' first
    | with_reducible assumption | with_reducible apply Device.toneHeard_wf

theorem execShlCtlWake_settles {m : Master} {v : Word} {s : State}  :
    Settles s (execShlCtlWake m v s) := by
  unfold execShlCtlWake
  refine State.on_settles fun d h0 => ?_
  repeat' first
    | with_reducible assumption | with_reducible apply Device.directWrite_wf

theorem execShlCtlSleep_settles {m : Master} {v : Word} {s : State}  :
    Settles s (execShlCtlSleep m v s) := by
  unfold execShlCtlSleep
  refine State.on_settles fun d h0 => ?_
  repeat' first
    | with_reducible assumption | with_reducible apply Device.directWrite_wf

theorem execShlCtlUnassign_settles {m : Master} {v : Word} {s : State}  :
    Settles s (execShlCtlUnassign m v s) := by
  unfold execShlCtlUnassign
  refine State.on_settles fun d h0 => ?_
  repeat' first
    | with_reducible assumption | with_reducible apply Device.directWrite_wf

theorem execMailboxGo_settles {m : Master} {mb : Fin 4} {v : Word} {s : State}  :
    Settles s (execMailboxGo m mb v s) := by
  unfold execMailboxGo
  refine State.on_settles fun d h0 => ?_
  repeat' first
    | with_reducible assumption | with_reducible apply Device.directWrite_wf

theorem execPortJam_settles {side : Side} {s : State}  :
    Settles s (execPortJam side s) := by
  unfold execPortJam
  refine State.on_settles fun d h0 => ?_
  repeat' first
    | with_reducible assumption | with_reducible apply Device.portJam_wf

theorem execShlCntClr_settles {m : Master} {v : Word} {s : State}  :
    Settles s (execShlCntClr m v s) := by
  unfold execShlCntClr
  refine State.on_settles fun d h0 => ?_
  repeat' first
    | with_reducible assumption | with_reducible apply Device.directWrite_wf

theorem execWakeToneEnd_settles {k : Option (Fin 64)} {s : State}  :
    Settles s (execWakeToneEnd k s) := by
  unfold execWakeToneEnd
  refine State.on_settles fun d h0 => ?_
  repeat' first
    | with_reducible assumption | with_reducible apply Device.toneEnds_wf

end Sys2Proof.Machine
end

