-- ==== Sys2Proof/Laws/WfClockCommands.lean ====
section
/-! SUPPORT. The functions of `Machine/ClockCommands.lean` keep the canonical form of the stores. -/

namespace Sys2Proof.Machine

theorem execGateEnd_settles {ring : Option Int} {inp : Option Int} {follow : Int} {s : State}  :
    Settles s (execGateEnd ring inp follow s) := by
  unfold execGateEnd
  refine State.on_settles fun d h0 => ?_
  repeat' first
    | with_reducible assumption | with_reducible apply Device.gateEnd_wf

theorem execRefSourceAbsent_settles {s : State}  :
    Settles s (execRefSourceAbsent s) := by
  unfold execRefSourceAbsent
  refine State.on_settles fun d h0 => ?_
  repeat' first
    | with_reducible assumption | with_reducible apply Device.refAbsent_wf

theorem execDwellExpire_settles {s : State}  :
    Settles s (execDwellExpire s) := by
  unfold execDwellExpire
  refine State.on_settles fun d h0 => ?_
  repeat' first
    | with_reducible assumption | with_reducible apply Device.dwellExpire_wf

theorem execRefRevert_settles {s : State}  :
    Settles s (execRefRevert s) := by
  unfold execRefRevert
  refine State.on_settles fun d h0 => ?_
  repeat' first
    | with_reducible assumption | with_reducible apply Device.refRevert_wf

theorem execSlewComplete_settles {target : Int} {ms : Nat} {s : State}  :
    Settles s (execSlewComplete target ms s) := by
  unfold execSlewComplete
  refine State.on_settles fun d h0 => ?_
  repeat' first
    | with_reducible assumption | with_reducible apply Device.slewComplete_wf

theorem execRingSlaveAcquire_settles {s : State}  :
    Settles s (execRingSlaveAcquire s) := by
  unfold execRingSlaveAcquire
  refine State.on_settles fun d h0 => ?_
  repeat' first
    | with_reducible assumption | with_reducible apply Device.acquireRing_wf

theorem execAcquireComplete_settles {err : BitVec 16} {frame : BitVec 48} {s : State}  :
    Settles s (execAcquireComplete err frame s) := by
  unfold execAcquireComplete
  refine State.on_settles fun d h0 => ?_
  repeat' first
    | with_reducible assumption | with_reducible apply Device.acquireComplete_wf

theorem execRingHoldSteer_settles {err : BitVec 16} {goal : Int} {ms : Nat} {s : State}  :
    Settles s (execRingHoldSteer err goal ms s) := by
  unfold execRingHoldSteer
  refine State.on_settles fun d h0 => ?_
  repeat' first
    | with_reducible assumption | with_reducible apply Device.ringHoldSteer_wf

theorem execAlignOut_settles {err : BitVec 16} {s : State}  :
    Settles s (execAlignOut err s) := by
  unfold execAlignOut
  refine State.on_settles fun d h0 => ?_
  repeat' first
    | with_reducible assumption | with_reducible apply Device.alignOut_wf

theorem execAlignReturn_settles {err : BitVec 16} {s : State}  :
    Settles s (execAlignReturn err s) := by
  unfold execAlignReturn
  refine State.on_settles fun d h0 => ?_
  repeat' first
    | with_reducible assumption | with_reducible apply Device.alignReturn_wf

theorem execPllLock_settles {s : State}  :
    Settles s (execPllLock s) := by
  unfold execPllLock
  refine State.on_settles fun d h0 => ?_
  repeat' first
    | with_reducible assumption | with_reducible apply Device.pllLock_wf

theorem execPllUnlock_settles {trip : Bool} {s : State}  :
    Settles s (execPllUnlock trip s) := by
  unfold execPllUnlock
  refine State.on_settles fun d h0 => ?_
  repeat' first
    | with_reducible assumption | with_reducible apply Device.pllUnlock_wf

theorem execAnalogRelock_settles {s : State}  :
    Settles s (execAnalogRelock s) := by
  unfold execAnalogRelock
  refine State.on_settles fun d h0 => ?_
  repeat' first
    | with_reducible assumption | with_reducible apply Device.analogRelock_wf

theorem execLimpReturn_settles {s : State}  :
    Settles s (execLimpReturn s) := by
  unfold execLimpReturn
  refine State.on_settles fun d h0 => ?_
  repeat' first
    | with_reducible assumption | with_reducible apply Device.limpReturn_wf

theorem execAonTimer_settles {n : Nat} {s : State}  :
    Settles s (execAonTimer n s) := by
  unfold execAonTimer
  refine State.on_settles fun d h0 => ?_
  repeat' first
    | with_reducible assumption | with_reducible apply Device.aonTimer_wf

theorem execLpoCalibration_settles {hz : Rat} {s : State}  :
    Settles s (execLpoCalibration hz s) := by
  unfold execLpoCalibration
  refine State.on_settles fun d h0 => ?_
  repeat' first
    | with_reducible assumption | with_reducible apply Device.lpoCalibrate_wf

theorem execXtalStartTimeout_settles {s : State}  :
    Settles s (execXtalStartTimeout s) := by
  unfold execXtalStartTimeout
  refine State.on_settles fun d h0 => ?_
  repeat' first
    | with_reducible assumption | with_reducible apply Device.xtalStartTimeout_wf

end Sys2Proof.Machine
end

