-- ==== Sys2Proof/Laws/WfDebugOps.lean ====
section
/-! SUPPORT. The functions of `Machine/DebugOps.lean` keep the canonical form of the stores. -/

namespace Sys2Proof.Machine

theorem Device.tapActive_wf {d : Device} (h0 : d.wf = true) :
    (Device.tapActive d).wf = true := by
  unfold Device.tapActive
  repeat' first
    | with_reducible assumption | with_reducible apply Device.setFlag_wf

theorem Device.debugHalt_wf {d : Device} {t : HaltTarget} (h0 : d.wf = true) :
    (Device.debugHalt d t).wf = true := by
  unfold Device.debugHalt
  repeat' first
    | with_reducible assumption | with_reducible apply Device.core_wf | with_reducible apply Device.cput_wf
    | with_reducible apply Device.freeze_wf | with_reducible apply Device.setCore_wf
    | with_reducible apply Device.setFlag_wf | with_reducible apply Device.tapActive_wf
    | with_reducible apply Device.wf_ite | (fail_if_no_progress with_reducible apply Device.wf_mk) | split

theorem Device.debugRelease_wf {d : Device} {t : HaltTarget} (h0 : d.wf = true) :
    (Device.debugRelease d t).wf = true := by
  unfold Device.debugRelease
  repeat' first
    | with_reducible assumption | with_reducible apply Device.clearShapers_wf | with_reducible apply Device.core_wf
    | with_reducible apply Device.cput_wf | with_reducible apply Device.guardResume_wf
    | with_reducible apply Device.setCore_wf | with_reducible apply Device.setFlag_wf
    | with_reducible apply Device.tapActive_wf | with_reducible apply Device.wf_ite
    | (fail_if_no_progress with_reducible apply Device.wf_mk) | split

end Sys2Proof.Machine
end

