-- ==== Sys2Proof/Laws/WfGuardCommands.lean ====
section
/-! SUPPORT. The functions of `Machine/GuardCommands.lean` keep the canonical form of the stores. -/

namespace Sys2Proof.Machine

theorem Device.diagWrite_wf {d : Device} {m : Master} {op : Nat} {mask : BitVec 4} (h0 : d.wf = true) :
    (Device.diagWrite d m op mask).wf = true := by
  unfold Device.diagWrite
  repeat' first
    | with_reducible assumption | with_reducible apply Device.directWrite_wf

theorem Device.prestartEnd_wf {d : Device} {x : StepIn} (h0 : d.wf = true) :
    (Device.prestartEnd d x).wf = true := by
  unfold Device.prestartEnd
  repeat' first
    | with_reducible assumption | with_reducible apply Device.prestartStep_wf
    | with_reducible apply Device.refuseEntry_wf | with_reducible apply Device.wf_ite | split

theorem execPilotWindowEnd_settles {i : Fin 4} {s : State}  :
    Settles s (execPilotWindowEnd i s) := by
  unfold execPilotWindowEnd
  refine State.on_settles fun d h0 => ?_
  repeat' first
    | with_reducible assumption | with_reducible apply Device.pilotWindowEnd_wf

theorem execBroadbandReport_settles {i : Fin 4} {s : State}  :
    Settles s (execBroadbandReport i s) := by
  unfold execBroadbandReport
  refine State.on_settles fun d h0 => ?_
  repeat' first
    | with_reducible assumption | with_reducible apply Device.broadbandReport_wf

theorem execEstimatorBlind_settles {i : Fin 4} {s : State}  :
    Settles s (execEstimatorBlind i s) := by
  unfold execEstimatorBlind
  refine State.on_settles fun d h0 => ?_
  repeat' first
    | with_reducible assumption | with_reducible apply Device.estimatorBlind_wf

theorem execEstimatorBlindLong_settles {i : Fin 4} {s : State}  :
    Settles s (execEstimatorBlindLong i s) := by
  unfold execEstimatorBlindLong
  refine State.on_settles fun d h0 => ?_
  repeat' first
    | with_reducible assumption | with_reducible apply Device.estimatorBlindLong_wf

theorem execGuardRecovery_settles {i : Fin 4} {s : State}  :
    Settles s (execGuardRecovery i s) := by
  unfold execGuardRecovery
  refine State.on_settles fun d h0 => ?_
  repeat' first
    | with_reducible assumption | with_reducible apply Device.guardRecovery_wf

theorem execRatchetReleaseEnd_settles {i : Fin 4} {s : State}  :
    Settles s (execRatchetReleaseEnd i s) := by
  unfold execRatchetReleaseEnd
  refine State.on_settles fun d h0 => ?_
  repeat' first
    | with_reducible assumption | with_reducible apply Device.ratchetEnd_wf

theorem execGrdXClr_settles {m : Master} {i : Fin 4} {v : Word} {s : State}  :
    Settles s (execGrdXClr m i v s) := by
  unfold execGrdXClr
  refine State.on_settles fun d h0 => ?_
  repeat' first
    | with_reducible assumption | with_reducible apply Device.directWrite_wf

theorem execGrdLineEcc_settles {i : Fin 4} {j : Fin 16} {s : State}  :
    Settles s (execGrdLineEcc i j s) := by
  unfold execGrdLineEcc
  refine State.on_settles fun d h0 => ?_
  repeat' first
    | with_reducible assumption | with_reducible apply Device.lineError_wf

theorem execDiagPrestart_settles {m : Master} {mask : BitVec 4} {s : State}  :
    Settles s (execDiagPrestart m mask s) := by
  unfold execDiagPrestart
  refine State.on_settles fun d h0 => ?_
  repeat' first
    | with_reducible assumption | with_reducible apply Device.diagWrite_wf

theorem execDiagSweep_settles {m : Master} {mask : BitVec 4} {s : State}  :
    Settles s (execDiagSweep m mask s) := by
  unfold execDiagSweep
  refine State.on_settles fun d h0 => ?_
  repeat' first
    | with_reducible assumption | with_reducible apply Device.diagWrite_wf

theorem execDiagAbort_settles {m : Master} {mask : BitVec 4} {s : State}  :
    Settles s (execDiagAbort m mask s) := by
  unfold execDiagAbort
  refine State.on_settles fun d h0 => ?_
  repeat' first
    | with_reducible assumption | with_reducible apply Device.diagWrite_wf

theorem execPrestartStepEnd_settles {x : StepIn} {s : State}  :
    Settles s (execPrestartStepEnd x s) := by
  unfold execPrestartStepEnd
  refine State.on_settles fun d h0 => ?_
  repeat' first
    | with_reducible assumption | with_reducible apply Device.prestartEnd_wf

theorem execSweepPointEnd_settles {x : Vector SweepIn 4} {s : State}  :
    Settles s (execSweepPointEnd x s) := by
  unfold execSweepPointEnd
  refine State.on_settles fun d h0 => ?_
  repeat' first
    | with_reducible assumption | with_reducible apply Device.sweepPoint_wf

theorem execDcOnLoad_settles {n : Fin 4} {vs : List Rat} {s : State}  :
    Settles s (execDcOnLoad n vs s) := by
  unfold execDcOnLoad
  refine State.on_settles fun d h0 => ?_
  repeat' first
    | with_reducible assumption | with_reducible apply Device.dcOnLoad_wf

theorem execDiagHoldClear_settles {m : Master} {v : Word} {s : State}  :
    Settles s (execDiagHoldClear m v s) := by
  unfold execDiagHoldClear
  refine State.on_settles fun d h0 => ?_
  repeat' first
    | with_reducible assumption | with_reducible apply Device.directWrite_wf

end Sys2Proof.Machine
end

