-- ==== Sys2Proof/Laws/WfHostCommands.lean ====
section
/-! SUPPORT. The functions of `Machine/HostCommands.lean` keep the canonical form of the stores. -/

namespace Sys2Proof.Machine

theorem Device.windowWrite_wf {d : Device} {m : Master} {a : Nat} {v : Word} (h0 : d.wf = true) :
    (Device.windowWrite d m a v).wf = true := by
  unfold Device.windowWrite
  repeat' first
    | with_reducible assumption | with_reducible apply Device.directWrite_wf | with_reducible apply Device.wf_ite

theorem execSpiTransaction_settles {c : Client} {mosi : List Byte} {s : State}  :
    Settles s (execSpiTransaction c mosi s) := by
  unfold execSpiTransaction
  refine State.on_settles fun d h0 => ?_
  repeat' first
    | with_reducible assumption | with_reducible apply Device.spiTransaction_wf

theorem execI2cTransfer_settles {addr : BitVec 7} {written : List Byte} {read : Option Nat} {s : State}  :
    Settles s (execI2cTransfer addr written read s) := by
  unfold execI2cTransfer
  refine State.on_settles fun d h0 => ?_
  repeat' first
    | with_reducible assumption | with_reducible apply Device.i2cTransfer_wf

theorem execHostFrame_settles {c : Client} {s : State}  :
    Settles s (execHostFrame c s) := by
  unfold execHostFrame
  refine State.on_settles fun d h0 => ?_
  repeat' first
    | with_reducible assumption | with_reducible apply Device.hostFrame_wf

theorem execHello_settles {c : Client} {s : State}  :
    Settles s (execHello c s) := by
  unfold execHello
  refine State.on_settles fun d h0 => ?_
  repeat' first
    | with_reducible assumption | with_reducible apply Device.hello_wf

theorem execPing_settles {c : Client} {s : State}  :
    Settles s (execPing c s) := by
  unfold execPing
  refine State.on_settles fun d h0 => ?_
  repeat' first
    | with_reducible assumption | with_reducible apply Device.ping_wf

theorem execStatus_settles {c : Client} {s : State}  :
    Settles s (execStatus c s) := by
  unfold execStatus
  refine State.on_settles fun d h0 => ?_
  repeat' first
    | with_reducible assumption | with_reducible apply Device.hostStatus_wf

theorem execRegRead_settles {c : Client} {s : State}  :
    Settles s (execRegRead c s) := by
  unfold execRegRead
  refine State.on_settles fun d h0 => ?_
  repeat' first
    | with_reducible assumption | with_reducible apply Device.regReadOp_wf

theorem execRegWrite_settles {c : Client} {s : State}  :
    Settles s (execRegWrite c s) := by
  unfold execRegWrite
  refine State.on_settles fun d h0 => ?_
  repeat' first
    | with_reducible assumption | with_reducible apply Device.regWriteOp_wf

theorem execEvtDone_settles {c : Client} {s : State}  :
    Settles s (execEvtDone c s) := by
  unfold execEvtDone
  refine State.on_settles fun d h0 => ?_
  repeat' first
    | with_reducible assumption | with_reducible apply Device.evtDone_wf

theorem execStateReq_settles {c : Client} {s : State}  :
    Settles s (execStateReq c s) := by
  unfold execStateReq
  refine State.on_settles fun d h0 => ?_
  repeat' first
    | with_reducible assumption | with_reducible apply Device.stateReq_wf

theorem execLeaseAcquire_settles {c : Client} {s : State}  :
    Settles s (execLeaseAcquire c s) := by
  unfold execLeaseAcquire
  refine State.on_settles fun d h0 => ?_
  repeat' first
    | with_reducible assumption | with_reducible apply Device.leaseAcquire_wf

theorem execLeaseRenew_settles {c : Client} {s : State}  :
    Settles s (execLeaseRenew c s) := by
  unfold execLeaseRenew
  refine State.on_settles fun d h0 => ?_
  repeat' first
    | with_reducible assumption | with_reducible apply Device.leaseRenew_wf

theorem execLeaseRelease_settles {c : Client} {s : State}  :
    Settles s (execLeaseRelease c s) := by
  unfold execLeaseRelease
  refine State.on_settles fun d h0 => ?_
  repeat' first
    | with_reducible assumption | with_reducible apply Device.leaseRelease_wf

theorem execLeaseBreak_settles {c : Client} {s : State}  :
    Settles s (execLeaseBreak c s) := by
  unfold execLeaseBreak
  refine State.on_settles fun d h0 => ?_
  repeat' first
    | with_reducible assumption | with_reducible apply Device.leaseBreak_wf

theorem execLeaseExpired_settles {s : State}  :
    Settles s (execLeaseExpired s) := by
  unfold execLeaseExpired
  refine State.on_settles fun d h0 => ?_
  repeat' first
    | with_reducible assumption | with_reducible apply Device.leaseExpired_wf

theorem execSetPriv_settles {c : Client} {s : State}  :
    Settles s (execSetPriv c s) := by
  unfold execSetPriv
  refine State.on_settles fun d h0 => ?_
  repeat' first
    | with_reducible assumption | with_reducible apply Device.setPriv_wf

theorem execTxnStage_settles {c : Client} {s : State}  :
    Settles s (execTxnStage c s) := by
  unfold execTxnStage
  refine State.on_settles fun d h0 => ?_
  repeat' first
    | with_reducible assumption | with_reducible apply Device.txnStage_wf

theorem execTxnCommit_settles {c : Client} {bad : Bool} {s : State}  :
    Settles s (execTxnCommit c bad s) := by
  unfold execTxnCommit
  refine State.on_settles fun d h0 => ?_
  repeat' first
    | with_reducible assumption | with_reducible apply Device.txnCommitOp_wf

theorem execTxnDiscard_settles {c : Client} {s : State}  :
    Settles s (execTxnDiscard c s) := by
  unfold execTxnDiscard
  refine State.on_settles fun d h0 => ?_
  repeat' first
    | with_reducible assumption | with_reducible apply Device.txnDiscard_wf

theorem execTxnQuery_settles {c : Client} {s : State}  :
    Settles s (execTxnQuery c s) := by
  unfold execTxnQuery
  refine State.on_settles fun d h0 => ?_
  repeat' first
    | with_reducible assumption | with_reducible apply Device.txnQuery_wf

theorem execLogRead_settles {c : Client} {s : State}  :
    Settles s (execLogRead c s) := by
  unfold execLogRead
  refine State.on_settles fun d h0 => ?_
  repeat' first
    | with_reducible assumption | with_reducible apply Device.logRead_wf

theorem execChnCmd_settles {c : Client} {s : State}  :
    Settles s (execChnCmd c s) := by
  unfold execChnCmd
  refine State.on_settles fun d h0 => ?_
  repeat' first
    | with_reducible assumption | with_reducible apply Device.chnCmd_wf

theorem execRelay_settles {c : Client} {s : State}  :
    Settles s (execRelay c s) := by
  unfold execRelay
  refine State.on_settles fun d h0 => ?_
  repeat' first
    | with_reducible assumption | with_reducible apply Device.relayOp_wf

theorem execRelayTimeout_settles {c : Client} {s : State}  :
    Settles s (execRelayTimeout c s) := by
  unfold execRelayTimeout
  refine State.on_settles fun d h0 => ?_
  repeat' first
    | with_reducible assumption | with_reducible apply Device.relayTimeout_wf

theorem execConvOpen_settles {c : Client} {s : State}  :
    Settles s (execConvOpen c s) := by
  unfold execConvOpen
  refine State.on_settles fun d h0 => ?_
  repeat' first
    | with_reducible assumption | with_reducible apply Device.convOpen_wf

theorem execConvClose_settles {c : Client} {s : State}  :
    Settles s (execConvClose c s) := by
  unfold execConvClose
  refine State.on_settles fun d h0 => ?_
  repeat' first
    | with_reducible assumption | with_reducible apply Device.convClose_wf

theorem execConvTimeout_settles {c : Client} {n : Fin 4} {s : State}  :
    Settles s (execConvTimeout c n s) := by
  unfold execConvTimeout
  refine State.on_settles fun d h0 => ?_
  repeat' first
    | with_reducible assumption | with_reducible apply Device.convTimeout_wf

theorem execApp_settles {c : Client} {s : State}  :
    Settles s (execApp c s) := by
  unfold execApp
  refine State.on_settles fun d h0 => ?_
  repeat' first
    | with_reducible assumption | with_reducible apply Device.appOp_wf

theorem execHostUnknownOpcode_settles {c : Client} {s : State}  :
    Settles s (execHostUnknownOpcode c s) := by
  unfold execHostUnknownOpcode
  refine State.on_settles fun d h0 => ?_
  repeat' first
    | with_reducible assumption | with_reducible apply Device.hostUnknown_wf

theorem execFwResponseDone_settles {m : Master} {c : Client} {v : Word} {s : State}  :
    Settles s (execFwResponseDone m c v s) := by
  unfold execFwResponseDone
  refine State.on_settles fun d h0 => ?_
  repeat' first
    | with_reducible assumption | with_reducible apply Device.directWrite_wf

theorem execNotifyClaim_settles {c : Client} {s : State}  :
    Settles s (execNotifyClaim c s) := by
  unfold execNotifyClaim
  refine State.on_settles fun d h0 => ?_
  repeat' first
    | with_reducible assumption | with_reducible apply Device.notifyClaim_wf

theorem execNotifyRetx_settles {c : Client} {n : Fin 128} {ms : Nat} {s : State}  :
    Settles s (execNotifyRetx c n ms s) := by
  unfold execNotifyRetx
  refine State.on_settles fun d h0 => ?_
  repeat' first
    | with_reducible assumption | with_reducible apply Device.notifyRetx_wf

theorem execHpCntClr_settles {m : Master} {c : Client} {v : Word} {s : State}  :
    Settles s (execHpCntClr m c v s) := by
  unfold execHpCntClr
  refine State.on_settles fun d h0 => ?_
  repeat' first
    | with_reducible assumption | with_reducible apply Device.directWrite_wf

theorem execTxnArmed_settles {c : Client} {s : State}  :
    Settles s (execTxnArmed c s) := by
  unfold execTxnArmed
  refine State.on_settles fun d h0 => ?_
  repeat' first
    | with_reducible assumption | with_reducible apply Device.txnArmed_wf

theorem execTxnWave3_settles {c : Client} {bad : Bool} {s : State}  :
    Settles s (execTxnWave3 c bad s) := by
  unfold execTxnWave3
  refine State.on_settles fun d h0 => ?_
  repeat' first
    | with_reducible assumption | with_reducible apply Device.txnWave3_wf

theorem execCwinWrite_settles {m : Master} {a : Word} {v : Word} {s : State}  :
    Settles s (execCwinWrite m a v s) := by
  unfold execCwinWrite
  refine State.on_settles fun d h0 => ?_
  repeat' first
    | with_reducible assumption | with_reducible apply Device.windowWrite_wf

theorem execTxnCreqGo_settles {m : Master} {v : Word} {s : State}  :
    Settles s (execTxnCreqGo m v s) := by
  unfold execTxnCreqGo
  refine State.on_settles fun d h0 => ?_
  repeat' first
    | with_reducible assumption | with_reducible apply Device.directWrite_wf

end Sys2Proof.Machine
end

