-- ==== Sys2Proof/Laws/WfInputCommands.lean ====
section
/-! SUPPORT. The functions of `Machine/InputCommands.lean` keep the canonical form of the stores. -/

namespace Sys2Proof.Machine

theorem Device.inputLock_wf {d : Device} {g : Fin 3} {hz : Rat} (h0 : d.wf = true) :
    (Device.inputLock d g hz).wf = true := by
  unfold Device.inputLock
  repeat' first
    | with_reducible assumption | with_reducible apply Device.ircLoad_wf | with_reducible apply Device.lockGroup_wf
    | with_reducible apply Device.wf_ite

theorem Device.inputUnlock_wf {d : Device} {g : Fin 3} {why : Nat} {rel : Int} (h0 : d.wf = true) :
    (Device.inputUnlock d g why rel).wf = true := by
  unfold Device.inputUnlock
  repeat' first
    | with_reducible assumption | with_reducible apply Device.unlockGroup_wf | with_reducible apply Device.wf_ite

theorem Device.inputSlip_wf {d : Device} {g : Fin 3} (h0 : d.wf = true) :
    (Device.inputSlip d g).wf = true := by
  unfold Device.inputSlip
  repeat' first
    | with_reducible assumption | with_reducible apply Device.slipGroup_wf
    | with_reducible apply Device.unlockGroup_wf | split

theorem Device.inputSettle_wf {d : Device} {g : Fin 3} (h0 : d.wf = true) :
    (Device.inputSettle d g).wf = true := by
  unfold Device.inputSettle
  repeat' first
    | with_reducible assumption | with_reducible apply Device.settleGroup_wf | with_reducible apply Device.wf_ite

theorem Device.engineError_wf {d : Device} {w : Fin 8192} {part : EngineWord} (h0 : d.wf = true) :
    (Device.engineError d w part).wf = true := by
  unfold Device.engineError
  repeat' first
    | with_reducible assumption | with_reducible apply Device.eccUncorr_wf
    | with_reducible apply Device.laneRestart_wf | with_reducible apply Device.setFlag_wf
    | with_reducible apply Device.slipGroup_wf | with_reducible apply Device.storeWord_wf | split

theorem Device.captureDone_wf {d : Device} {xs : Vector Word 256} {frame : BitVec 48} {sub : BitVec 13} (h0 : d.wf = true) :
    (Device.captureDone d xs frame sub).wf = true := by
  unfold Device.captureDone
  repeat' first
    | intro _ | with_reducible assumption | with_reducible apply Device.put_wf
    | with_reducible apply Device.setFlag_wf | with_reducible apply Device.setWord_wf
    | with_reducible apply Device.wf_ite | with_reducible apply Device.wf_foldl

theorem execI2sFrame_settles {p : Fin 2} {rise : List (Bool × Bool)} {fall : List (Bool × Bool)} {s : State}  :
    Settles s (execI2sFrame p rise fall s) := by
  unfold execI2sFrame
  refine State.on_settles fun d h0 => ?_
  repeat' first
    | with_reducible assumption | with_reducible apply Device.i2sFrame_wf

theorem execIecSubframe_settles {ch : Fin 2} {word : BitVec 24} {parityOk : Bool} {codeOk : Bool} {valid : Bool} {cs : Bool} {z : Bool} {s : State}  :
    Settles s (execIecSubframe ch word parityOk codeOk valid cs z s) := by
  unfold execIecSubframe
  refine State.on_settles fun d h0 => ?_
  repeat' first
    | with_reducible assumption | with_reducible apply Device.iecSubframe_wf

theorem execInputLock_settles {g : Fin 3} {hz : Rat} {s : State}  :
    Settles s (execInputLock g hz s) := by
  unfold execInputLock
  refine State.on_settles fun d h0 => ?_
  repeat' first
    | with_reducible assumption | with_reducible apply Device.inputLock_wf

theorem execInputUnlock_settles {g : Fin 3} {why : Fin 7} {rel : Int} {s : State}  :
    Settles s (execInputUnlock g why rel s) := by
  unfold execInputUnlock
  refine State.on_settles fun d h0 => ?_
  repeat' first
    | with_reducible assumption | with_reducible apply Device.inputUnlock_wf

theorem execCsCapture_settles {s : State}  :
    Settles s (execCsCapture s) := by
  unfold execCsCapture
  refine State.on_settles fun d h0 => ?_
  repeat' first
    | with_reducible assumption | with_reducible apply Device.csCapture_wf

theorem execIecUnmute_settles {s : State}  :
    Settles s (execIecUnmute s) := by
  unfold execIecUnmute
  refine State.on_settles fun d h0 => ?_
  repeat' first
    | with_reducible assumption | with_reducible apply Device.iecUnmute_wf

theorem execIrcSettle_settles {g : Fin 3} {s : State}  :
    Settles s (execIrcSettle g s) := by
  unfold execIrcSettle
  refine State.on_settles fun d h0 => ?_
  repeat' first
    | with_reducible assumption | with_reducible apply Device.inputSettle_wf

theorem execInpSlip_settles {g : Fin 3} {s : State}  :
    Settles s (execInpSlip g s) := by
  unfold execInpSlip
  refine State.on_settles fun d h0 => ?_
  repeat' first
    | with_reducible assumption | with_reducible apply Device.inputSlip_wf

theorem execInpIecStatPclr_settles {m : Master} {v : Word} {s : State}  :
    Settles s (execInpIecStatPclr m v s) := by
  unfold execInpIecStatPclr
  refine State.on_settles fun d h0 => ?_
  repeat' first
    | with_reducible assumption | with_reducible apply Device.directWrite_wf

theorem execInpSlipcntClr_settles {m : Master} {v : Word} {s : State}  :
    Settles s (execInpSlipcntClr m v s) := by
  unfold execInpSlipcntClr
  refine State.on_settles fun d h0 => ?_
  repeat' first
    | with_reducible assumption | with_reducible apply Device.directWrite_wf

theorem execLaneSettled_settles {n : Fin 10} {j : Fin 7} {s : State}  :
    Settles s (execLaneSettled n j s) := by
  unfold execLaneSettled
  refine State.on_settles fun d h0 => ?_
  repeat' first
    | with_reducible assumption | with_reducible apply Device.laneSettled_wf

theorem execFenEccError_settles {w : Fin 8192} {part : EngineWord} {s : State}  :
    Settles s (execFenEccError w part s) := by
  unfold execFenEccError
  refine State.on_settles fun d h0 => ?_
  repeat' first
    | with_reducible assumption | with_reducible apply Device.engineError_wf

theorem execFenCaptureStart_settles {m : Master} {v : Word} {s : State}  :
    Settles s (execFenCaptureStart m v s) := by
  unfold execFenCaptureStart
  refine State.on_settles fun d h0 => ?_
  repeat' first
    | with_reducible assumption | with_reducible apply Device.directWrite_wf

theorem execFenCaptureDone_settles {xs : Vector Word 256} {frame : BitVec 48} {sub : BitVec 13} {s : State}  :
    Settles s (execFenCaptureDone xs frame sub s) := by
  unfold execFenCaptureDone
  refine State.on_settles fun d h0 => ?_
  repeat' first
    | with_reducible assumption | with_reducible apply Device.captureDone_wf

theorem execFenSatClr_settles {m : Master} {n : Fin 10} {v : Word} {s : State}  :
    Settles s (execFenSatClr m n v s) := by
  unfold execFenSatClr
  refine State.on_settles fun d h0 => ?_
  repeat' first
    | with_reducible assumption | with_reducible apply Device.directWrite_wf

end Sys2Proof.Machine
end

