-- ==== Sys2Proof/Laws/WfMonitorCommands.lean ====
section
/-! SUPPORT. The functions of `Machine/MonitorCommands.lean` keep the canonical form of the stores. -/

namespace Sys2Proof.Machine

theorem Device.chainSigns_wf {d : Device} {k : Fin 64} {f : ChainIn} (h0 : d.wf = true) :
    (Device.chainSigns d k f).wf = true := by
  unfold Device.chainSigns
  repeat' first
    | intro _ | with_reducible assumption | with_reducible apply Companion.challenge_wf
    | with_reducible apply Device.onCompanion_wf | (fail_if_no_progress with_reducible apply Device.wf_mk)

theorem execChainStatus_settles {k : Fin 64} {f : ChainIn} {s : State}  :
    Settles s (execChainStatus k f s) := by
  unfold execChainStatus
  refine State.on_settles fun d h0 => ?_
  repeat' first
    | intro _ | with_reducible assumption | with_reducible apply Device.onCompanion_wf
    | with_reducible apply Companion.status_wf

theorem execAssign_settles {k : Fin 64} {f : ChainIn} {s : State}  :
    Settles s (execAssign k f s) := by
  unfold execAssign
  refine State.on_settles fun d h0 => ?_
  repeat' first
    | intro _ | with_reducible assumption | with_reducible apply Companion.assign_wf
    | with_reducible apply Device.onCompanion_wf

theorem execUnassign_settles {k : Fin 64} {s : State}  :
    Settles s (execUnassign k s) := by
  unfold execUnassign
  refine State.on_settles fun d h0 => ?_
  repeat' first
    | with_reducible assumption | with_reducible apply Device.onCompanion_wf
    | with_reducible apply Companion.unassign_wf

theorem execReadId_settles {k : Fin 64} {f : ChainIn} {s : State}  :
    Settles s (execReadId k f s) := by
  unfold execReadId
  refine State.on_settles fun d h0 => ?_
  repeat' first
    | intro _ | with_reducible assumption | with_reducible apply Device.onCompanion_wf
    | with_reducible apply Companion.readId_wf

theorem execChainChallenge_settles {k : Fin 64} {f : ChainIn} {s : State}  :
    Settles s (execChainChallenge k f s) := by
  unfold execChainChallenge
  refine State.on_settles fun d h0 => ?_
  repeat' first
    | with_reducible assumption | with_reducible apply Device.chainSigns_wf

theorem execDelayProbe_settles {k : Fin 64} {f : ChainIn} {s : State}  :
    Settles s (execDelayProbe k f s) := by
  unfold execDelayProbe
  refine State.on_settles fun d h0 => ?_
  repeat' first
    | intro _ | with_reducible assumption | with_reducible apply Companion.delayProbe_wf
    | with_reducible apply Device.onCompanion_wf

theorem execTimeSet_settles {k : Fin 64} {port : Side} {us : BitVec 32} {phase : Byte} {s : State}  :
    Settles s (execTimeSet k port us phase s) := by
  unfold execTimeSet
  refine State.on_settles fun d h0 => ?_
  repeat' first
    | intro _ | with_reducible assumption | with_reducible apply Device.onCompanion_wf
    | with_reducible apply Companion.timeSet_wf

theorem execSampleAt_settles {k : Fin 64} {dt : Nat} {us : BitVec 32} {phase : Byte} {id : BitVec 16} {mask : Byte} {s : State}  :
    Settles s (execSampleAt k dt us phase id mask s) := by
  unfold execSampleAt
  refine State.on_settles fun d h0 => ?_
  repeat' first
    | intro _ | with_reducible assumption | with_reducible apply Device.onCompanion_wf
    | with_reducible apply Companion.sampleAt_wf

theorem execReadSample_settles {k : Fin 64} {f : ChainIn} {s : State}  :
    Settles s (execReadSample k f s) := by
  unfold execReadSample
  refine State.on_settles fun d h0 => ?_
  repeat' first
    | intro _ | with_reducible assumption | with_reducible apply Device.onCompanion_wf
    | with_reducible apply Companion.readSample_wf

theorem execReadReg_settles {k : Fin 64} {dt : Nat} {f : ChainIn} {s : State}  :
    Settles s (execReadReg k dt f s) := by
  unfold execReadReg
  refine State.on_settles fun d h0 => ?_
  repeat' first
    | intro _ | with_reducible assumption | with_reducible apply Device.onCompanion_wf
    | with_reducible apply Companion.readReg_wf

theorem execWriteReg_settles {k : Fin 64} {f : ChainIn} {s : State}  :
    Settles s (execWriteReg k f s) := by
  unfold execWriteReg
  refine State.on_settles fun d h0 => ?_
  repeat' first
    | intro _ | with_reducible assumption | with_reducible apply Device.onCompanion_wf
    | with_reducible apply Companion.writeReg_wf

theorem execCollect_settles {k : Fin 64} {f : ChainIn} {s : State}  :
    Settles s (execCollect k f s) := by
  unfold execCollect
  refine State.on_settles fun d h0 => ?_
  repeat' first
    | intro _ | with_reducible assumption | with_reducible apply Companion.collect_wf
    | with_reducible apply Device.onCompanion_wf

theorem execSleep_settles {k : Fin 64} {bc : Bool} {f : ChainIn} {s : State}  :
    Settles s (execSleep k bc f s) := by
  unfold execSleep
  refine State.on_settles fun d h0 => ?_
  repeat' first
    | intro _ | with_reducible assumption | with_reducible apply Device.onCompanion_wf
    | with_reducible apply Companion.sleep_wf

theorem execChainUndefinedOpcode_settles {k : Fin 64} {op : Byte} {bc : Bool} {f : ChainIn} {s : State}  :
    Settles s (execChainUndefinedOpcode k op bc f s) := by
  unfold execChainUndefinedOpcode
  refine State.on_settles fun d h0 => ?_
  repeat' first
    | intro _ | with_reducible assumption | with_reducible apply Device.onCompanion_wf
    | with_reducible apply Companion.undefined_wf

theorem execFrameRepeat_settles {k : Fin 64} {port : Side} {bytes : List Byte} {s : State}  :
    Settles s (execFrameRepeat k port bytes s) := by
  unfold execFrameRepeat
  refine State.on_settles fun d h0 => ?_
  repeat' first
    | intro _ | with_reducible assumption | with_reducible apply Device.onCompanion_wf
    | with_reducible apply Companion.repeatFrame_wf

theorem execSampleHold_settles {k : Fin 64} {s : State}  :
    Settles s (execSampleHold k s) := by
  unfold execSampleHold
  refine State.on_settles fun d h0 => ?_
  repeat' first
    | with_reducible assumption | with_reducible apply Companion.holdSample_wf
    | with_reducible apply Device.onCompanion_wf

theorem execConversionComplete_settles {k : Fin 64} {x : ConvIn} {s : State}  :
    Settles s (execConversionComplete k x s) := by
  unfold execConversionComplete
  refine State.on_settles fun d h0 => ?_
  repeat' first
    | intro _ | with_reducible assumption | with_reducible apply Companion.complete_wf
    | with_reducible apply Device.onCompanion_wf

theorem execBalanceSchedule_settles {k : Fin 64} {die : Int} {s : State}  :
    Settles s (execBalanceSchedule k die s) := by
  unfold execBalanceSchedule
  refine State.on_settles fun d h0 => ?_
  repeat' first
    | intro _ | with_reducible assumption | with_reducible apply Companion.balance_wf
    | with_reducible apply Device.onCompanion_wf

theorem execBalanceTimerExpire_settles {k : Fin 64} {i : Fin 18} {s : State}  :
    Settles s (execBalanceTimerExpire k i s) := by
  unfold execBalanceTimerExpire
  refine State.on_settles fun d h0 => ?_
  repeat' first
    | intro _ | with_reducible assumption | with_reducible apply Device.onCompanion_wf
    | with_reducible apply Companion.timerExpire_wf

theorem execBalancingStop_settles {k : Fin 64} {f : ChainIn} {s : State}  :
    Settles s (execBalancingStop k f s) := by
  unfold execBalancingStop
  refine State.on_settles fun d h0 => ?_
  repeat' first
    | intro _ | with_reducible assumption | with_reducible apply Device.onCompanion_wf
    | with_reducible apply Companion.writeReg_wf

theorem execBalancingUnlock_settles {k : Fin 64} {f : ChainIn} {s : State}  :
    Settles s (execBalancingUnlock k f s) := by
  unfold execBalancingUnlock
  refine State.on_settles fun d h0 => ?_
  repeat' first
    | intro _ | with_reducible assumption | with_reducible apply Device.onCompanion_wf
    | with_reducible apply Companion.writeReg_wf

theorem execTsyncTimeout_settles {k : Fin 64} {ms : Nat} {s : State}  :
    Settles s (execTsyncTimeout k ms s) := by
  unfold execTsyncTimeout
  refine State.on_settles fun d h0 => ?_
  repeat' first
    | intro _ | with_reducible assumption | with_reducible apply Device.onCompanion_wf
    | with_reducible apply Companion.tsyncLost_wf

theorem execOpenWireTest_settles {k : Fin 64} {s : State}  :
    Settles s (execOpenWireTest k s) := by
  unfold execOpenWireTest
  refine State.on_settles fun d h0 => ?_
  repeat' first
    | with_reducible assumption | with_reducible apply Device.onCompanion_wf
    | with_reducible apply Companion.owStart_wf

theorem execOpenWireTestEnd_settles {k : Fin 64} {before : Vector Nat 18} {after : Vector (Vector Nat 18) 19} {s : State}  :
    Settles s (execOpenWireTestEnd k before after s) := by
  unfold execOpenWireTestEnd
  refine State.on_settles fun d h0 => ?_
  repeat' first
    | intro _ | with_reducible assumption | with_reducible apply Device.onCompanion_wf
    | with_reducible apply Companion.owEnd_wf

theorem execSleepWindowCheck_settles {k : Fin 64} {coarse : Vector (BitVec 10) 18} {ntc : List (Option Int)} {s : State}  :
    Settles s (execSleepWindowCheck k coarse ntc s) := by
  unfold execSleepWindowCheck
  refine State.on_settles fun d h0 => ?_
  repeat' first
    | intro _ | with_reducible assumption | with_reducible apply Device.onCompanion_wf
    | with_reducible apply Companion.windowCheck_wf

theorem execXmSupplyLoss_settles {k : Fin 64} {s : State}  :
    Settles s (execXmSupplyLoss k s) := by
  unfold execXmSupplyLoss
  refine State.on_settles fun d h0 => ?_
  repeat' first
    | intro _ | with_reducible assumption | with_reducible apply Companion.dark_wf
    | with_reducible apply Device.onCompanion_wf

theorem execXmPowerUp_settles {k : Fin 64} {s : State}  :
    Settles s (execXmPowerUp k s) := by
  unfold execXmPowerUp
  refine State.on_settles fun d h0 => ?_
  repeat' first
    | intro _ | with_reducible assumption | with_reducible apply Companion.fresh_wf
    | with_reducible apply Device.onCompanion_wf | split

end Sys2Proof.Machine
end

