-- ==== Sys2Proof/Laws/WfPowerCommands.lean ====
section
/-! SUPPORT. The functions of `Machine/PowerCommands.lean` keep the canonical form of the stores. -/

namespace Sys2Proof.Machine

theorem Device.requestWrite_wf {d : Device} {m : Master} {code : Nat} (h0 : d.wf = true) :
    (Device.requestWrite d m code).wf = true := by
  unfold Device.requestWrite
  repeat' first
    | with_reducible assumption | with_reducible apply Device.directWrite_wf

theorem execBootRom_settles {journal : Bool} {s : State}  :
    Settles s (execBootRom journal s) := by
  unfold execBootRom
  refine State.on_settles fun d h0 => ?_
  repeat' first
    | with_reducible assumption | with_reducible apply Device.bootRom_wf

theorem execPorRise_settles {s : State}  :
    Settles s (execPorRise s) := by
  unfold execPorRise
  refine State.on_settles fun d h0 => ?_
  repeat' first
    | with_reducible assumption | with_reducible apply Device.porRise_wf

theorem execAonPorRelease_settles {s : State}  :
    Settles s (execAonPorRelease s) := by
  unfold execAonPorRelease
  refine State.on_settles fun d h0 => ?_
  repeat' first
    | with_reducible assumption | with_reducible apply Device.aonPorRelease_wf

theorem execPorFall_settles {s : State}  :
    Settles s (execPorFall s) := by
  unfold execPorFall
  refine State.on_settles fun d h0 => ?_
  repeat' first
    | with_reducible assumption | with_reducible apply Device.porFall_wf

theorem execPgAuxRise_settles {n : Fin 3} {s : State}  :
    Settles s (execPgAuxRise n s) := by
  unfold execPgAuxRise
  refine State.on_settles fun d h0 => ?_
  repeat' first
    | with_reducible assumption | with_reducible apply Device.pgAuxRise_wf

theorem execSeqGapExpire_settles {straps : Vector (BitVec 5) 3} {s : State}  :
    Settles s (execSeqGapExpire straps s) := by
  unfold execSeqGapExpire
  refine State.on_settles fun d h0 => ?_
  repeat' first
    | with_reducible assumption | with_reducible apply Device.seqGapExpire_wf

theorem execDividerRelease_settles {s : State}  :
    Settles s (execDividerRelease s) := by
  unfold execDividerRelease
  refine State.on_settles fun d h0 => ?_
  repeat' first
    | with_reducible assumption | with_reducible apply Device.dividerRelease_wf

theorem execPgtoExpire_settles {s : State}  :
    Settles s (execPgtoExpire s) := by
  unfold execPgtoExpire
  refine State.on_settles fun d h0 => ?_
  repeat' first
    | with_reducible assumption | with_reducible apply Device.pgtoExpire_wf

theorem execSeqRetryExpire_settles {s : State}  :
    Settles s (execSeqRetryExpire s) := by
  unfold execSeqRetryExpire
  refine State.on_settles fun d h0 => ?_
  repeat' first
    | with_reducible assumption | with_reducible apply Device.seqRetry_wf

theorem execPgAuxFall_settles {n : Fin 3} {s : State}  :
    Settles s (execPgAuxFall n s) := by
  unfold execPgAuxFall
  refine State.on_settles fun d h0 => ?_
  repeat' first
    | with_reducible assumption | with_reducible apply Device.pgAuxFall_wf

theorem execBrownout_settles {v : BitVec 9} {s : State}  :
    Settles s (execBrownout v s) := by
  unfold execBrownout
  refine State.on_settles fun d h0 => ?_
  repeat' first
    | with_reducible assumption | with_reducible apply Device.brownout_wf

theorem execBrownoutWarn_settles {v : BitVec 9} {s : State}  :
    Settles s (execBrownoutWarn v s) := by
  unfold execBrownoutWarn
  refine State.on_settles fun d h0 => ?_
  repeat' first
    | with_reducible assumption | with_reducible apply Device.brownoutWarn_wf

theorem execReqReady_settles {m : Master} {s : State}  :
    Settles s (execReqReady m s) := by
  unfold execReqReady
  refine State.on_settles fun d h0 => ?_
  repeat' first
    | with_reducible assumption | with_reducible apply Device.requestWrite_wf

theorem execReqPlay_settles {m : Master} {s : State}  :
    Settles s (execReqPlay m s) := by
  unfold execReqPlay
  refine State.on_settles fun d h0 => ?_
  repeat' first
    | with_reducible assumption | with_reducible apply Device.requestWrite_wf

theorem execReqStill_settles {m : Master} {s : State}  :
    Settles s (execReqStill m s) := by
  unfold execReqStill
  refine State.on_settles fun d h0 => ?_
  repeat' first
    | with_reducible assumption | with_reducible apply Device.requestWrite_wf

theorem execReqIce_settles {m : Master} {s : State}  :
    Settles s (execReqIce m s) := by
  unfold execReqIce
  refine State.on_settles fun d h0 => ?_
  repeat' first
    | with_reducible assumption | with_reducible apply Device.requestWrite_wf

theorem execReqSafe_settles {m : Master} {s : State}  :
    Settles s (execReqSafe m s) := by
  unfold execReqSafe
  refine State.on_settles fun d h0 => ?_
  repeat' first
    | with_reducible assumption | with_reducible apply Device.requestWrite_wf

theorem execExitSafeToReady_settles {m : Master} {s : State}  :
    Settles s (execExitSafeToReady m s) := by
  unfold execExitSafeToReady
  refine State.on_settles fun d h0 => ?_
  repeat' first
    | with_reducible assumption | with_reducible apply Device.requestWrite_wf

theorem execExitSafeToPlay_settles {m : Master} {s : State}  :
    Settles s (execExitSafeToPlay m s) := by
  unfold execExitSafeToPlay
  refine State.on_settles fun d h0 => ?_
  repeat' first
    | with_reducible assumption | with_reducible apply Device.requestWrite_wf

theorem execMainClose_settles {m : Master} {s : State}  :
    Settles s (execMainClose m s) := by
  unfold execMainClose
  refine State.on_settles fun d h0 => ?_
  repeat' first
    | with_reducible assumption | with_reducible apply Device.requestWrite_wf

theorem execMainOpen_settles {m : Master} {s : State}  :
    Settles s (execMainOpen m s) := by
  unfold execMainOpen
  refine State.on_settles fun d h0 => ?_
  repeat' first
    | with_reducible assumption | with_reducible apply Device.requestWrite_wf

theorem execStillEnter_settles {s : State}  :
    Settles s (execStillEnter s) := by
  unfold execStillEnter
  refine State.on_settles fun d h0 => ?_
  repeat' first
    | with_reducible assumption | with_reducible apply Device.stillEnter_wf

theorem execStillWaitTimeout_settles {s : State}  :
    Settles s (execStillWaitTimeout s) := by
  unfold execStillWaitTimeout
  refine State.on_settles fun d h0 => ?_
  repeat' first
    | with_reducible assumption | with_reducible apply Device.stillTimeout_wf

theorem execStillWake_settles {s : State}  :
    Settles s (execStillWake s) := by
  unfold execStillWake
  refine State.on_settles fun d h0 => ?_
  repeat' first
    | with_reducible assumption | with_reducible apply Device.stillWake_wf

theorem execStillUngate_settles {s : State}  :
    Settles s (execStillUngate s) := by
  unfold execStillUngate
  refine State.on_settles fun d h0 => ?_
  repeat' first
    | with_reducible assumption | with_reducible apply Device.stillUngate_wf

theorem execIceWake_settles {s : State}  :
    Settles s (execIceWake s) := by
  unfold execIceWake
  refine State.on_settles fun d h0 => ?_
  repeat' first
    | with_reducible assumption | with_reducible apply Device.iceWake_wf

theorem execRstPin_settles {low : Bool} {s : State}  :
    Settles s (execRstPin low s) := by
  unfold execRstPin
  refine State.on_settles fun d h0 => ?_
  repeat' first
    | with_reducible assumption | with_reducible apply Device.rstPin_wf

theorem execWdogStart_settles {m : Master} {v : Word} {s : State}  :
    Settles s (execWdogStart m v s) := by
  unfold execWdogStart
  refine State.on_settles fun d h0 => ?_
  repeat' first
    | with_reducible assumption | with_reducible apply Device.directWrite_wf

theorem execWdogKick_settles {m : Master} {v : Word} {s : State}  :
    Settles s (execWdogKick m v s) := by
  unfold execWdogKick
  refine State.on_settles fun d h0 => ?_
  repeat' first
    | with_reducible assumption | with_reducible apply Device.directWrite_wf

theorem execWdogWarn_settles {s : State}  :
    Settles s (execWdogWarn s) := by
  unfold execWdogWarn
  refine State.on_settles fun d h0 => ?_
  repeat' first
    | with_reducible assumption | with_reducible apply Device.wdogWarn_wf

theorem execWdogExpire_settles {s : State}  :
    Settles s (execWdogExpire s) := by
  unfold execWdogExpire
  refine State.on_settles fun d h0 => ?_
  repeat' first
    | with_reducible assumption | with_reducible apply Device.wdogExpire_wf

theorem execSoftwareReset_settles {m : Master} {v : Word} {s : State}  :
    Settles s (execSoftwareReset m v s) := by
  unfold execSoftwareReset
  refine State.on_settles fun d h0 => ?_
  repeat' first
    | with_reducible assumption | with_reducible apply Device.directWrite_wf

theorem execCoreReset_settles {m : Master} {v : Word} {s : State}  :
    Settles s (execCoreReset m v s) := by
  unfold execCoreReset
  refine State.on_settles fun d h0 => ?_
  repeat' first
    | with_reducible assumption | with_reducible apply Device.directWrite_wf

theorem execPrechargeStart_settles {s : State}  :
    Settles s (execPrechargeStart s) := by
  unfold execPrechargeStart
  refine State.on_settles fun d h0 => ?_
  repeat' first
    | with_reducible assumption | with_reducible apply Device.prechargeStart_wf

theorem execPrechargeEnd_settles {s : State}  :
    Settles s (execPrechargeEnd s) := by
  unfold execPrechargeEnd
  refine State.on_settles fun d h0 => ?_
  repeat' first
    | with_reducible assumption | with_reducible apply Device.prechargeEnd_wf

theorem execPchgOverlapEnd_settles {s : State}  :
    Settles s (execPchgOverlapEnd s) := by
  unfold execPchgOverlapEnd
  refine State.on_settles fun d h0 => ?_
  repeat' first
    | with_reducible assumption | with_reducible apply Device.pchgOverlapEnd_wf

theorem execPchgTimeout_settles {s : State}  :
    Settles s (execPchgTimeout s) := by
  unfold execPchgTimeout
  refine State.on_settles fun d h0 => ?_
  repeat' first
    | with_reducible assumption | with_reducible apply Device.pchgTimeout_wf

theorem execPresLost_settles {s : State}  :
    Settles s (execPresLost s) := by
  unfold execPresLost
  refine State.on_settles fun d h0 => ?_
  repeat' first
    | with_reducible assumption | with_reducible apply Device.presLost_wf

theorem execPresGained_settles {s : State}  :
    Settles s (execPresGained s) := by
  unfold execPresGained
  refine State.on_settles fun d h0 => ?_
  repeat' first
    | with_reducible assumption | with_reducible apply Device.presGained_wf

theorem execBootstrapStart_settles {s : State}  :
    Settles s (execBootstrapStart s) := by
  unfold execBootstrapStart
  refine State.on_settles fun d h0 => ?_
  repeat' first
    | with_reducible assumption | with_reducible apply Device.bootstrapStart_wf

theorem execRampInEnd_settles {s : State}  :
    Settles s (execRampInEnd s) := by
  unfold execRampInEnd
  refine State.on_settles fun d h0 => ?_
  repeat' first
    | with_reducible assumption | with_reducible apply Device.rampInEnd_wf

theorem execRampOutEnd_settles {s : State}  :
    Settles s (execRampOutEnd s) := by
  unfold execRampOutEnd
  refine State.on_settles fun d h0 => ?_
  repeat' first
    | with_reducible assumption | with_reducible apply Device.rampOutEnd_wf

theorem execPwrFaultClear_settles {m : Master} {v : Word} {s : State}  :
    Settles s (execPwrFaultClear m v s) := by
  unfold execPwrFaultClear
  refine State.on_settles fun d h0 => ?_
  repeat' first
    | with_reducible assumption | with_reducible apply Device.directWrite_wf

theorem execAuxConverterSample_settles {ntc : Vector (Option Int) 4} {die : Int} {s : State}  :
    Settles s (execAuxConverterSample ntc die s) := by
  unfold execAuxConverterSample
  refine State.on_settles fun d h0 => ?_
  repeat' first
    | with_reducible assumption | with_reducible apply Device.auxSample_wf

theorem execWakePin_settles {s : State}  :
    Settles s (execWakePin s) := by
  unfold execWakePin
  refine State.on_settles fun d h0 => ?_
  repeat' first
    | with_reducible assumption | with_reducible apply Device.wakePin_wf

end Sys2Proof.Machine
end

