-- ==== Sys2Proof/Laws/WfRingCommands.lean ====
section
/-! SUPPORT. The functions of `Machine/RingCommands.lean` keep the canonical form of the stores. -/

namespace Sys2Proof.Machine

theorem execFrameOriginate_settles {irc : Vector Word 16} {turn : BitVec 17} {s : State}  :
    Settles s (execFrameOriginate irc turn s) := by
  unfold execFrameOriginate
  refine State.on_settles fun d h0 => ?_
  repeat' first
    | with_reducible assumption | with_reducible apply Device.frameOriginate_wf

theorem execFrameProcess_settles {x : RingIn} {s : State}  :
    Settles s (execFrameProcess x s) := by
  unfold execFrameProcess
  refine State.on_settles fun d h0 => ?_
  repeat' first
    | with_reducible assumption | with_reducible apply Device.frameProcess_wf

theorem execPortUp_settles {side : Side} {s : State}  :
    Settles s (execPortUp side s) := by
  unfold execPortUp
  refine State.on_settles fun d h0 => ?_
  repeat' first
    | with_reducible assumption | with_reducible apply Device.portUp_wf

theorem execPortDown_settles {side : Side} {s : State}  :
    Settles s (execPortDown side s) := by
  unfold execPortDown
  refine State.on_settles fun d h0 => ?_
  repeat' first
    | with_reducible assumption | with_reducible apply Device.portDown_wf

theorem execPortTraining_settles {side : Side} {s : State}  :
    Settles s (execPortTraining side s) := by
  unfold execPortTraining
  refine State.on_settles fun d h0 => ?_
  repeat' first
    | with_reducible assumption | with_reducible apply Device.portTraining_wf

theorem execRingLock_settles {s : State}  :
    Settles s (execRingLock s) := by
  unfold execRingLock
  refine State.on_settles fun d h0 => ?_
  repeat' first
    | with_reducible assumption | with_reducible apply Device.ringLock_wf

theorem execRingLockLoss_settles {frames : Nat} {s : State}  :
    Settles s (execRingLockLoss frames s) := by
  unfold execRingLockLoss
  refine State.on_settles fun d h0 => ?_
  repeat' first
    | with_reducible assumption | with_reducible apply Device.ringLockLoss_wf

theorem execBeacon_settles {s : State}  :
    Settles s (execBeacon s) := by
  unfold execBeacon
  refine State.on_settles fun d h0 => ?_
  repeat' first
    | with_reducible assumption | with_reducible apply Device.beaconMsg_wf

theorem execBeaconSend_settles {s : State}  :
    Settles s (execBeaconSend s) := by
  unfold execBeaconSend
  refine State.on_settles fun d h0 => ?_
  repeat' first
    | with_reducible assumption | with_reducible apply Device.beaconSend_wf

theorem execTarnStatus_settles {s : State}  :
    Settles s (execTarnStatus s) := by
  unfold execTarnStatus
  refine State.on_settles fun d h0 => ?_
  repeat' first
    | with_reducible assumption | with_reducible apply Device.statusMsg_wf

theorem execStatusSend_settles {s : State}  :
    Settles s (execStatusSend s) := by
  unfold execStatusSend
  refine State.on_settles fun d h0 => ?_
  repeat' first
    | with_reducible assumption | with_reducible apply Device.statusSend_wf

theorem execJoinReq_settles {s : State}  :
    Settles s (execJoinReq s) := by
  unfold execJoinReq
  refine State.on_settles fun d h0 => ?_
  repeat' first
    | with_reducible assumption | with_reducible apply Device.joinReqMsg_wf

theorem execJoinReqSend_settles {s : State}  :
    Settles s (execJoinReqSend s) := by
  unfold execJoinReqSend
  refine State.on_settles fun d h0 => ?_
  repeat' first
    | with_reducible assumption | with_reducible apply Device.joinReqSend_wf

theorem execTarnChallenge_settles {s : State}  :
    Settles s (execTarnChallenge s) := by
  unfold execTarnChallenge
  refine State.on_settles fun d h0 => ?_
  repeat' first
    | with_reducible assumption | with_reducible apply Device.challengeMsg_wf

theorem execResponse_settles {s : State}  :
    Settles s (execResponse s) := by
  unfold execResponse
  refine State.on_settles fun d h0 => ?_
  repeat' first
    | with_reducible assumption | with_reducible apply Device.responseMsg_wf

theorem execTarnAdmit_settles {s : State}  :
    Settles s (execTarnAdmit s) := by
  unfold execTarnAdmit
  refine State.on_settles fun d h0 => ?_
  repeat' first
    | with_reducible assumption | with_reducible apply Device.admitMsg_wf

theorem execLeave_settles {s : State}  :
    Settles s (execLeave s) := by
  unfold execLeave
  refine State.on_settles fun d h0 => ?_
  repeat' first
    | with_reducible assumption | with_reducible apply Device.leaveMsg_wf

theorem execNodeLost_settles {n : Fin 128} {s : State}  :
    Settles s (execNodeLost n s) := by
  unfold execNodeLost
  refine State.on_settles fun d h0 => ?_
  repeat' first
    | with_reducible assumption | with_reducible apply Device.nodeLost_wf

theorem execHostReq_settles {s : State}  :
    Settles s (execHostReq s) := by
  unfold execHostReq
  refine State.on_settles fun d h0 => ?_
  repeat' first
    | with_reducible assumption | with_reducible apply Device.hostReqMsg_wf

theorem execHostRsp_settles {s : State}  :
    Settles s (execHostRsp s) := by
  unfold execHostRsp
  refine State.on_settles fun d h0 => ?_
  repeat' first
    | with_reducible assumption | with_reducible apply Device.hostRspMsg_wf

theorem execReassemblyTimeout_settles {n : BitVec 7} {s : State}  :
    Settles s (execReassemblyTimeout n s) := by
  unfold execReassemblyTimeout
  refine State.on_settles fun d h0 => ?_
  repeat' first
    | with_reducible assumption | with_reducible apply Device.reassemblyTimeout_wf

theorem execCells_settles {s : State}  :
    Settles s (execCells s) := by
  unfold execCells
  refine State.on_settles fun d h0 => ?_
  repeat' first
    | with_reducible assumption | with_reducible apply Device.cellsMsg_wf

theorem execRoster_settles {s : State}  :
    Settles s (execRoster s) := by
  unfold execRoster
  refine State.on_settles fun d h0 => ?_
  repeat' first
    | with_reducible assumption | with_reducible apply Device.rosterMsg_wf

theorem execRosterSend_settles {s : State}  :
    Settles s (execRosterSend s) := by
  unfold execRosterSend
  refine State.on_settles fun d h0 => ?_
  repeat' first
    | with_reducible assumption | with_reducible apply Device.rosterSend_wf

theorem execHealDwellExpire_settles {frames : Nat} {s : State}  :
    Settles s (execHealDwellExpire frames s) := by
  unfold execHealDwellExpire
  refine State.on_settles fun d h0 => ?_
  repeat' first
    | with_reducible assumption | with_reducible apply Device.healDwell_wf

theorem execHealReady_settles {s : State}  :
    Settles s (execHealReady s) := by
  unfold execHealReady
  refine State.on_settles fun d h0 => ?_
  repeat' first
    | with_reducible assumption | with_reducible apply Device.healReadyMsg_wf

theorem execUnwrap_settles {s : State}  :
    Settles s (execUnwrap s) := by
  unfold execUnwrap
  refine State.on_settles fun d h0 => ?_
  repeat' first
    | with_reducible assumption | with_reducible apply Device.unwrapMsg_wf

theorem execRingHeal_settles {s : State}  :
    Settles s (execRingHeal s) := by
  unfold execRingHeal
  refine State.on_settles fun d h0 => ?_
  repeat' first
    | with_reducible assumption | with_reducible apply Device.ringHeal_wf

theorem execTarnNak_settles {s : State}  :
    Settles s (execTarnNak s) := by
  unfold execTarnNak
  refine State.on_settles fun d h0 => ?_
  repeat' first
    | with_reducible assumption | with_reducible apply Device.nakMsg_wf

theorem execTarnUnknownMessage_settles {s : State}  :
    Settles s (execTarnUnknownMessage s) := by
  unfold execTarnUnknownMessage
  refine State.on_settles fun d h0 => ?_
  repeat' first
    | with_reducible assumption | with_reducible apply Device.unknownMsg_wf

theorem execTarnApp_settles {s : State}  :
    Settles s (execTarnApp s) := by
  unfold execTarnApp
  refine State.on_settles fun d h0 => ?_
  repeat' first
    | with_reducible assumption | with_reducible apply Device.appMsg_wf

theorem execTrnAppGo_settles {m : Master} {v : Word} {s : State}  :
    Settles s (execTrnAppGo m v s) := by
  unfold execTrnAppGo
  refine State.on_settles fun d h0 => ?_
  repeat' first
    | with_reducible assumption | with_reducible apply Device.directWrite_wf

theorem execTrnAppRelease_settles {m : Master} {v : Word} {s : State}  :
    Settles s (execTrnAppRelease m v s) := by
  unfold execTrnAppRelease
  refine State.on_settles fun d h0 => ?_
  repeat' first
    | with_reducible assumption | with_reducible apply Device.directWrite_wf

theorem execTrnCntClr_settles {m : Master} {v : Word} {s : State}  :
    Settles s (execTrnCntClr m v s) := by
  unfold execTrnCntClr
  refine State.on_settles fun d h0 => ?_
  repeat' first
    | with_reducible assumption | with_reducible apply Device.directWrite_wf

theorem execTrnLaneerrClr_settles {m : Master} {n : Fin 32} {v : Word} {s : State}  :
    Settles s (execTrnLaneerrClr m n v s) := by
  unfold execTrnLaneerrClr
  refine State.on_settles fun d h0 => ?_
  repeat' first
    | with_reducible assumption | with_reducible apply Device.directWrite_wf

theorem execMasterTakeover_settles {frames : Nat} {s : State}  :
    Settles s (execMasterTakeover frames s) := by
  unfold execMasterTakeover
  refine State.on_settles fun d h0 => ?_
  repeat' first
    | with_reducible assumption | with_reducible apply Device.masterTakeover_wf

theorem execRingActivityDetect_settles {s : State}  :
    Settles s (execRingActivityDetect s) := by
  unfold execRingActivityDetect
  refine State.on_settles fun d h0 => ?_
  repeat' first
    | with_reducible assumption | with_reducible apply Device.ringActivity_wf

end Sys2Proof.Machine
end

