-- ==== Sys2Proof/Laws/WfSecurityCommands.lean ====
section
/-! SUPPORT. The functions of `Machine/SecurityCommands.lean` keep the canonical form of the stores. -/

namespace Sys2Proof.Machine

theorem execUpdBegin_settles {c : Client} {s : State}  :
    Settles s (execUpdBegin c s) := by
  unfold execUpdBegin
  refine State.on_settles fun d h0 => ?_
  repeat' first
    | intro _ | with_reducible assumption | with_reducible apply Device.updBegin_wf
    | with_reducible apply Device.updOp_wf

theorem execUpdData_settles {c : Client} {s : State}  :
    Settles s (execUpdData c s) := by
  unfold execUpdData
  refine State.on_settles fun d h0 => ?_
  repeat' first
    | intro _ | with_reducible assumption | with_reducible apply Device.updData_wf
    | with_reducible apply Device.updOp_wf

theorem execUpdStatus_settles {c : Client} {s : State}  :
    Settles s (execUpdStatus c s) := by
  unfold execUpdStatus
  refine State.on_settles fun d h0 => ?_
  repeat' first
    | intro _ | with_reducible assumption | with_reducible apply Device.updOp_wf
    | with_reducible apply Device.updStatus_wf

theorem execUpdVerify_settles {c : Client} {s : State}  :
    Settles s (execUpdVerify c s) := by
  unfold execUpdVerify
  refine State.on_settles fun d h0 => ?_
  repeat' first
    | intro _ | with_reducible assumption | with_reducible apply Device.updOp_wf
    | with_reducible apply Device.updVerify_wf

theorem execUpdActivate_settles {c : Client} {s : State}  :
    Settles s (execUpdActivate c s) := by
  unfold execUpdActivate
  refine State.on_settles fun d h0 => ?_
  repeat' first
    | intro _ | with_reducible assumption | with_reducible apply Device.updActivate_wf
    | with_reducible apply Device.updOp_wf

theorem execUpdConfirm_settles {c : Client} {s : State}  :
    Settles s (execUpdConfirm c s) := by
  unfold execUpdConfirm
  refine State.on_settles fun d h0 => ?_
  repeat' first
    | intro _ | with_reducible assumption | with_reducible apply Device.updConfirm_wf
    | with_reducible apply Device.updOp_wf

theorem execUpdAbort_settles {c : Client} {s : State}  :
    Settles s (execUpdAbort c s) := by
  unfold execUpdAbort
  refine State.on_settles fun d h0 => ?_
  repeat' first
    | intro _ | with_reducible assumption | with_reducible apply Device.updAbort_wf
    | with_reducible apply Device.updOp_wf

theorem execUpdKey_settles {c : Client} {s : State}  :
    Settles s (execUpdKey c s) := by
  unfold execUpdKey
  refine State.on_settles fun d h0 => ?_
  repeat' first
    | intro _ | with_reducible assumption | with_reducible apply Device.updKey_wf
    | with_reducible apply Device.updOp_wf

theorem execActivateReset_settles {s : State}  :
    Settles s (execActivateReset s) := by
  unfold execActivateReset
  refine State.on_settles fun d h0 => ?_
  repeat' first
    | with_reducible assumption | with_reducible apply Device.activateReset_wf

theorem execIdList_settles {c : Client} {s : State}  :
    Settles s (execIdList c s) := by
  unfold execIdList
  refine State.on_settles fun d h0 => ?_
  repeat' first
    | with_reducible assumption | with_reducible apply Device.idList_wf

theorem execIdAdopt_settles {c : Client} {s : State}  :
    Settles s (execIdAdopt c s) := by
  unfold execIdAdopt
  refine State.on_settles fun d h0 => ?_
  repeat' first
    | with_reducible assumption | with_reducible apply Device.idAdopt_wf

theorem execIdRevoke_settles {c : Client} {s : State}  :
    Settles s (execIdRevoke c s) := by
  unfold execIdRevoke
  refine State.on_settles fun d h0 => ?_
  repeat' first
    | with_reducible assumption | with_reducible apply Device.idRevoke_wf

theorem execIdCommit_settles {c : Client} {s : State}  :
    Settles s (execIdCommit c s) := by
  unfold execIdCommit
  refine State.on_settles fun d h0 => ?_
  repeat' first
    | with_reducible assumption | with_reducible apply Device.idCommit_wf

theorem execLogEntryWrite_settles {s : State}  :
    Settles s (execLogEntryWrite s) := by
  unfold execLogEntryWrite
  refine State.on_settles fun d h0 => ?_
  repeat' first
    | with_reducible assumption | with_reducible apply Device.logWrite_wf

theorem execPersistWrite_settles {fails : Bool} {s : State}  :
    Settles s (execPersistWrite fails s) := by
  unfold execPersistWrite
  refine State.on_settles fun d h0 => ?_
  repeat' first
    | with_reducible assumption | with_reducible apply Device.persistWrite_wf

theorem execSedAckWrite_settles {m : Master} {v : Word} {s : State}  :
    Settles s (execSedAckWrite m v s) := by
  unfold execSedAckWrite
  refine State.on_settles fun d h0 => ?_
  repeat' first
    | with_reducible assumption | with_reducible apply Device.directWrite_wf

theorem execSoftwareEntry_settles {m : Master} {v : Word} {s : State}  :
    Settles s (execSoftwareEntry m v s) := by
  unfold execSoftwareEntry
  refine State.on_settles fun d h0 => ?_
  repeat' first
    | with_reducible assumption | with_reducible apply Device.directWrite_wf

theorem execSoftFault_settles {m : Master} {v : Word} {s : State}  :
    Settles s (execSoftFault m v s) := by
  unfold execSoftFault
  refine State.on_settles fun d h0 => ?_
  repeat' first
    | with_reducible assumption | with_reducible apply Device.directWrite_wf

theorem execSedSysfaultClear_settles {m : Master} {v : Word} {s : State}  :
    Settles s (execSedSysfaultClear m v s) := by
  unfold execSedSysfaultClear
  refine State.on_settles fun d h0 => ?_
  repeat' first
    | with_reducible assumption | with_reducible apply Device.directWrite_wf

theorem execSedCntClr_settles {m : Master} {v : Word} {s : State}  :
    Settles s (execSedCntClr m v s) := by
  unfold execSedCntClr
  refine State.on_settles fun d h0 => ?_
  repeat' first
    | with_reducible assumption | with_reducible apply Device.directWrite_wf

theorem execSemBrkcntClr_settles {m : Master} {v : Word} {s : State}  :
    Settles s (execSemBrkcntClr m v s) := by
  unfold execSemBrkcntClr
  refine State.on_settles fun d h0 => ?_
  repeat' first
    | with_reducible assumption | with_reducible apply Device.directWrite_wf

theorem execNvsLineWrite_settles {fails : Bool} {s : State}  :
    Settles s (execNvsLineWrite fails s) := by
  unfold execNvsLineWrite
  refine State.on_settles fun d h0 => ?_
  repeat' first
    | with_reducible assumption | with_reducible apply Device.nvsLineWrite_wf

theorem execNvcReqGo_settles {m : Master} {v : Word} {s : State}  :
    Settles s (execNvcReqGo m v s) := by
  unfold execNvcReqGo
  refine State.on_settles fun d h0 => ?_
  repeat' first
    | with_reducible assumption | with_reducible apply Device.directWrite_wf

theorem execSecConfirm_settles {m : Master} {v : Word} {s : State}  :
    Settles s (execSecConfirm m v s) := by
  unfold execSecConfirm
  refine State.on_settles fun d h0 => ?_
  repeat' first
    | with_reducible assumption | with_reducible apply Device.directWrite_wf

theorem execImageLineWrite_settles {fails : Bool} {s : State}  :
    Settles s (execImageLineWrite fails s) := by
  unfold execImageLineWrite
  refine State.on_settles fun d h0 => ?_
  repeat' first
    | with_reducible assumption | with_reducible apply Device.secLine_wf

end Sys2Proof.Machine
end

