-- ==== Sys2Proof/Laws/WfStageCommands.lean ====
section
/-! SUPPORT. The functions of `Machine/StageCommands.lean` keep the canonical form of the stores. -/

namespace Sys2Proof.Machine

theorem Device.faultWrite_wf {d : Device} {m : Master} {ch : Option (Fin 4)} {v : Word} (h0 : d.wf = true) :
    (Device.faultWrite d m ch v).wf = true := by
  unfold Device.faultWrite
  repeat' first
    | with_reducible assumption | with_reducible apply Device.directWrite_wf | split

theorem execCarrierPeriod_settles {x : CarrierIn} {s : State}  :
    Settles s (execCarrierPeriod x s) := by
  unfold execCarrierPeriod
  refine State.on_settles fun d h0 => ?_
  repeat' first
    | with_reducible assumption | with_reducible apply Device.carrierPeriodStep_wf

theorem execNoiseShaperReset_settles {ch : Fin 4} {s : State}  :
    Settles s (execNoiseShaperReset ch s) := by
  unfold execNoiseShaperReset
  refine State.on_settles fun d h0 => ?_
  repeat' first
    | with_reducible assumption | with_reducible apply Device.shaperReset_wf

theorem execBootstrapRefresh_settles {x : Fin 8} {s : State}  :
    Settles s (execBootstrapRefresh x s) := by
  unfold execBootstrapRefresh
  refine State.on_settles fun d h0 => ?_
  repeat' first
    | with_reducible assumption | with_reducible apply Device.refresh_wf

theorem execOvercurrent_settles {n : Fin 4} {s : State}  :
    Settles s (execOvercurrent n s) := by
  unfold execOvercurrent
  refine State.on_settles fun d h0 => ?_
  repeat' first
    | with_reducible assumption | with_reducible apply Device.overcurrent_wf

theorem execStackOvercurrent_settles {s : State}  :
    Settles s (execStackOvercurrent s) := by
  unfold execStackOvercurrent
  refine State.on_settles fun d h0 => ?_
  repeat' first
    | with_reducible assumption | with_reducible apply Device.stackOvercurrent_wf

theorem execInterlock_settles {x : Fin 8} {s : State}  :
    Settles s (execInterlock x s) := by
  unfold execInterlock
  refine State.on_settles fun d h0 => ?_
  repeat' first
    | with_reducible assumption | with_reducible apply Device.interlock_wf

theorem execExtFault_settles {s : State}  :
    Settles s (execExtFault s) := by
  unfold execExtFault
  refine State.on_settles fun d h0 => ?_
  repeat' first
    | with_reducible assumption | with_reducible apply Device.extFault_wf

theorem execVdrvLockout_settles {s : State}  :
    Settles s (execVdrvLockout s) := by
  unfold execVdrvLockout
  refine State.on_settles fun d h0 => ?_
  repeat' first
    | with_reducible assumption | with_reducible apply Device.vdrvLockout_wf

theorem execBootstrapLockout_settles {x : Fin 8} {s : State}  :
    Settles s (execBootstrapLockout x s) := by
  unfold execBootstrapLockout
  refine State.on_settles fun d h0 => ?_
  repeat' first
    | with_reducible assumption | with_reducible apply Device.bootstrapLockout_wf

theorem execGdvFaultClear_settles {m : Master} {ch : Option (Fin 4)} {v : Word} {s : State}  :
    Settles s (execGdvFaultClear m ch v s) := by
  unfold execGdvFaultClear
  refine State.on_settles fun d h0 => ?_
  repeat' first
    | with_reducible assumption | with_reducible apply Device.faultWrite_wf

theorem execModOverrideWrite_settles {m : Master} {v : Word} {s : State}  :
    Settles s (execModOverrideWrite m v s) := by
  unfold execModOverrideWrite
  refine State.on_settles fun d h0 => ?_
  repeat' first
    | with_reducible assumption | with_reducible apply Device.directWrite_wf

theorem execModRffLimcntClr_settles {m : Master} {v : Word} {s : State}  :
    Settles s (execModRffLimcntClr m v s) := by
  unfold execModRffLimcntClr
  refine State.on_settles fun d h0 => ?_
  repeat' first
    | with_reducible assumption | with_reducible apply Device.directWrite_wf

theorem execGdvOcCntClr_settles {m : Master} {v : Word} {s : State}  :
    Settles s (execGdvOcCntClr m v s) := by
  unfold execGdvOcCntClr
  refine State.on_settles fun d h0 => ?_
  repeat' first
    | with_reducible assumption | with_reducible apply Device.directWrite_wf

theorem execStreamDebugHalt_settles {s : State}  :
    Settles s (execStreamDebugHalt s) := by
  unfold execStreamDebugHalt
  refine State.on_settles fun d h0 => ?_
  repeat' first
    | with_reducible assumption | with_reducible apply Device.debugHalt_wf

theorem execStreamDebugResume_settles {s : State}  :
    Settles s (execStreamDebugResume s) := by
  unfold execStreamDebugResume
  refine State.on_settles fun d h0 => ?_
  repeat' first
    | with_reducible assumption | with_reducible apply Device.debugRelease_wf

theorem execSDebugHalt_settles {s : State}  :
    Settles s (execSDebugHalt s) := by
  unfold execSDebugHalt
  refine State.on_settles fun d h0 => ?_
  repeat' first
    | with_reducible assumption | with_reducible apply Device.debugHalt_wf

theorem execSDebugResume_settles {s : State}  :
    Settles s (execSDebugResume s) := by
  unfold execSDebugResume
  refine State.on_settles fun d h0 => ?_
  repeat' first
    | with_reducible assumption | with_reducible apply Device.debugRelease_wf

theorem execVdrvLockoutRelease_settles {s : State}  :
    Settles s (execVdrvLockoutRelease s) := by
  unfold execVdrvLockoutRelease
  refine State.on_settles fun d h0 => ?_
  repeat' first
    | with_reducible assumption | with_reducible apply Device.vdrvRelease_wf

theorem execBootstrapLockoutRelease_settles {x : Fin 8} {s : State}  :
    Settles s (execBootstrapLockoutRelease x s) := by
  unfold execBootstrapLockoutRelease
  refine State.on_settles fun d h0 => ?_
  repeat' first
    | with_reducible assumption | with_reducible apply Device.bootstrapRelease_wf

theorem execDebugLock_settles {m : Master} {v : Word} {s : State}  :
    Settles s (execDebugLock m v s) := by
  unfold execDebugLock
  refine State.on_settles fun d h0 => ?_
  repeat' first
    | with_reducible assumption | with_reducible apply Device.directWrite_wf

theorem execTapHaltRequest_settles {t : HaltTarget} {s : State}  :
    Settles s (execTapHaltRequest t s) := by
  unfold execTapHaltRequest
  refine State.on_settles fun d h0 => ?_
  repeat' first
    | with_reducible assumption | with_reducible apply Device.debugHalt_wf

theorem execTapRelease_settles {t : HaltTarget} {s : State}  :
    Settles s (execTapRelease t s) := by
  unfold execTapRelease
  refine State.on_settles fun d h0 => ?_
  repeat' first
    | with_reducible assumption | with_reducible apply Device.debugRelease_wf

end Sys2Proof.Machine
end

