-- ==== Sys2Proof/Laws/WfTickOps.lean ====
section
/-! SUPPORT. The functions of `Machine/TickOps.lean` keep the canonical form of the stores. -/

namespace Sys2Proof.Machine

theorem Core.count_wf {k : Core} {n : Nat} (h0 : RegMap.wf k.st = true) :
    RegMap.wf (Core.count k n).st = true := by
  unfold Core.count
  assumption

theorem Device.tickStream_wf {d : Device} (h0 : d.wf = true) :
    (Device.tickStream d).wf = true := by
  exact Device.wf_parts (Device.wf_regs h0) (Device.wf_mem h0) (Device.wf_c0 h0) (Device.wf_c1 h0)
    (RegMap.put_wf _ _ (Device.wf_sc h0)) (Device.wf_companions h0)

theorem Device.tickAon_wf {d : Device} (h0 : d.wf = true) :
    (Device.tickAon d).wf = true := by
  unfold Device.tickAon
  repeat' first
    | with_reducible assumption | with_reducible apply Device.aonTimer_wf | with_reducible apply Device.wf_ite
    | (fail_if_no_progress with_reducible apply Device.wf_mk)

theorem Device.tick_wf {d : Device} (h0 : d.wf = true) :
    (Device.tick d).wf = true := by
  unfold Device.tick
  have e : (if d.coreRuns then { d with c0 := d.c0.count 2, c1 := d.c1.count 2 } else d).wf = true := by
    split
    · exact Device.wf_parts (Device.wf_regs h0) (Device.wf_mem h0) (Device.wf_c0 h0) (Device.wf_c1 h0)
        (Device.wf_sc h0) (Device.wf_companions h0)
    · exact h0
  revert e
  generalize (if d.coreRuns then { d with c0 := d.c0.count 2, c1 := d.c1.count 2 } else d) = x
  intro e
  dsimp only
  have f : (if x.coreRuns && !x.stage.frozen then x.tickStream else x).wf = true :=
    Device.wf_ite (Device.tickStream_wf e) e
  revert f
  generalize (if x.coreRuns && !x.stage.frozen then x.tickStream else x) = y
  intro f
  refine Device.tickAon_wf (Device.wf_ite (Device.tickLease_wf ?_) f)
  exact Device.wf_mk (d := y.inputsReach (y.clk.rt.plus 4)) (Device.inputsReach_wf f)

end Sys2Proof.Machine
end

