-- ==== Sys2Proof/Laws/WfWeirCommands.lean ====
section
/-! SUPPORT. The functions of `Machine/WeirCommands.lean` keep the canonical form of the stores. -/

namespace Sys2Proof.Machine

theorem execWeirReady_settles {m : Master} {i : Fin 2} {v : Word} {s : State}  :
    Settles s (execWeirReady m i v s) := by
  unfold execWeirReady
  refine State.on_settles fun d h0 => ?_
  repeat' first
    | with_reducible assumption | with_reducible apply Device.directWrite_wf

theorem execWeirCancel_settles {m : Master} {i : Fin 2} {v : Word} {s : State}  :
    Settles s (execWeirCancel m i v s) := by
  unfold execWeirCancel
  refine State.on_settles fun d h0 => ?_
  repeat' first
    | with_reducible assumption | with_reducible apply Device.directWrite_wf

theorem execTaskStarved_settles {t : Fin 64} {s : State}  :
    Settles s (execTaskStarved t s) := by
  unfold execTaskStarved
  refine State.on_settles fun d h0 => ?_
  repeat' first
    | with_reducible assumption | with_reducible apply Device.taskStarved_wf

end Sys2Proof.Machine
end

