-- ==== Sys2Proof/Tests/Slice0.lean ====
section
/-! SUPPORT. The author's tests: values that the spec states, ill-formed commands that the checks refuse, and for each
statement states and operands that meet its hypotheses. -/

namespace Sys2Proof.Tests

set_option Elab.async false

open Sys2Proof.Machine

/-! ### Small states -/

/-- The machine with its device changed. -/
def onDev (s : State) (f : Device → Device) : State := { s with dev := f s.dev }

/-- The machine with fields written. -/
def withFields (s : State) (l : List (Fld × Nat)) : State := onDev s fun d => l.foldl (fun d p => d.put p.1 p.2) d

/-- A machine that has started: READY, both cores running, the PLL locked, presence given. -/
def up : State :=
  withFields (onDev State.reset fun d => { d with
    pwr := { d.pwr with seq := .up, enAux := .replicate 3 true, pgAux := .replicate 3 true }
    c0 := { d.c0 with run := .running, pc := 0x10000000 }
    c1 := { d.c1 with run := .running, pc := 0x10001000 }
    sc := { d.sc with pc := 0x20000000 } })
    [(F.PWR_STAT_STATE, 2), (F.CLK_STAT_LOCKED, 1), (F.CLK_STAT_XTAL_OK, 1), (F.PWR_STAT_PRES, 1), (F.PWR_STAT_DRV_OK, 1),
     (F.CLK_STAT_AON_SRC, 0)]

/-- The same machine in PLAY, the main switch closed. -/
def play : State := withFields up [(F.PWR_STAT_STATE, 3), (F.PWR_STAT_MAIN, 2)]

/-- A core of the machine changed. -/
def onCore (s : State) (c : CoreId) (f : Core → Core) : State := onDev s fun d => d.setCore c (f (d.core c))

/-- General registers of a core written. -/
def withRegs (s : State) (c : CoreId) (l : List (WReg × Word)) : State :=
  onCore s c fun k => l.foldl (fun k p => k.setReg p.1 p.2) k

/-- State registers of a core written. -/
def withSt (s : State) (c : CoreId) (l : List (Fld × Nat)) : State :=
  onCore s c fun k => { k with st := l.foldl (fun r p => r.put p.1 p.2) k.st }

/-- A machine whose S runs. -/
def upS : State := withSt up .s [(F.ST_SSTATE_STATE, 1)]

/-- An event source set. -/
def withSource (s : State) (n : Fin 128) (x : EvSource) : State := onDev s fun d => { d with evc.src := d.evc.src.set n x }

/-- A source in a state, at a target, with a count. -/
def srcAt (st : EvState) (target : Fin 4) (count : Nat) : EvSource := { EvSource.idle with st := st, target := target, count := count }

/-! ### The hypotheses of the statements are met: the cores -/

/-- Values at the ends of their ranges in w1 and w5 of C0. -/
def vals (a b : Word) : State := withRegs up .c0 [(1, a), (5, b)]

theorem witness_ready : up.dev.ready .c0 .all ∧ up.dev.ready .c1 .control ∧ upS.dev.ready .s .all ∧ upS.dev.ready .s .stream := by
  simp only [Device.ready]; decide +kernel

theorem witness_IntegerInstructions :
    let s := vals 0x80000000 0xFFFFFFFF
    s.dev.ready .c0 .all ∧ (s.dev.core .c0).reg 1 = 0x80000000 ∧ (s.dev.core .c0).reg 5 = 0xFFFFFFFF ∧
      (s.dev.core .c0).reg 0 = 0 ∧ 2 ^ (31 - 0) ≤ ((s.dev.core .c0).reg 1).toNat ∧
      ((vals 1 0).dev.core .c0).reg 1 = 1 ∧ ((vals 1 0).dev.core .c0).reg 5 = 0 ∧ (vals 1 0).dev.ready .c0 .all := by
  simp only [Device.ready]; decide +kernel

theorem witness_BranchesAndJumps :
    let s := vals 0x10000006 0
    s.dev.ready .c0 .all ∧ ((s.dev.core .c0).reg 1 + BitVec.signExtend 32 (0xFFFE : BitVec 16)).toNat % 4 = 0 ∧
      ((s.dev.core .c0).reg 1 + BitVec.signExtend 32 (0x7FFF : BitVec 16)).toNat % 4 ≠ 0 := by
  simp only [Device.ready]; decide +kernel

theorem witness_AccumulatorInstructions :
    roundMode 0 = some .floor ∧ roundMode 1 ≠ none ∧ roundMode 2 ≠ none ∧ roundMode 3 = none ∧ (15 : BitVec 6).toNat < 16 ∧
      16 ≤ (16 : BitVec 6).toNat := by decide +kernel

theorem witness_ClassesRefuse :
    let t := withSt up .c0 [(F.ST_STATUS_PRIV, 0)]
    t.dev.ready .c0 .all ∧ t.dev.atPriv .c0 = false ∧ upS.dev.ready .s .all := by
  simp only [Device.ready]; decide +kernel

theorem witness_ExceptionsAndEvents :
    let x := withSt up .c0 [(F.ST_STATUS_EXL, 1)]
    let e := withSource (withSt up .c0 [(F.ST_STATUS_IE, 1)]) 7 (srcAt .delivered 0 1)
    up.dev.ready .c0 .all ∧ up.dev.cget .c0 F.ST_STATUS_EXL = 0 ∧ up.pc .c0 % 4 = 0 ∧
      x.dev.ready .c0 .all ∧ x.dev.cget .c0 F.ST_STATUS_EXL = 1 ∧ x.pc .c0 % 4 = 0 ∧
      e.dev.executing .c0 = true ∧ e.dev.eventDue .c0 = true ∧ e.dev.cget .c0 F.ST_STATUS_EXL = 0 ∧ e.pc .c0 % 4 = 0 := by
  simp only [Device.ready]; decide +kernel

theorem witness_SystemInstructions :
    let e := withSource up 7 (srcAt .delivered 0 1)
    let z := onCore e .c0 fun k => { k with run := .sleeping }
    up.dev.ready .c0 .control ∧ (up.dev.fetched .c0).executing .c0 = true ∧ (up.dev.core .c0).buf = [] ∧
      (up.dev.fetched .c0).eventLine .c0 = false ∧ e.dev.ready .c0 .control ∧ (e.dev.fetched .c0).eventLine .c0 = true ∧
      z.dev.coreRuns = true ∧ (z.dev.core .c0).run = .sleeping ∧ z.dev.eventLine .c0 = true ∧
      z.dev.cget .c0 F.ST_STATUS_IE = 0 := by
  simp only [Device.ready]; decide +kernel

theorem witness_StateRegisters :
    let t := withSt up .c0 [(F.ST_STATUS_PRIV, 0)]
    let n : BitVec 12 := 1
    let m : BitVec 12 := 0x2C
    up.dev.atPriv .c0 = true ∧ t.dev.ready .c0 .all ∧ t.dev.atPriv .c0 = false ∧ n ≠ 0 ∧ n ≠ 8 ∧ n ≠ 9 ∧ n.toNat < 10 ∧
      0x2C ≤ m.toNat := by
  simp only [Device.ready]; decide +kernel

theorem witness_Semaphores :
    let s := withRegs (withFields up [(F.SEM_n_OWNER 31, 1), (F.SEM_n_GEN 31, 65535)]) .c0 [(5, 0x0001FFFF)]
    let v := (s.dev.core .c0).reg 5
    s.dev.ready .c0 .control ∧ s.dev.get (F.SEM_n_OWNER 31) ≠ 0 ∧ s.dev.get (F.SEM_n_OWNER 31) = v.toNat / 65536 % 4 ∧
      s.dev.get (F.SEM_n_GEN 31) = v.toNat % 65536 ∧ s.dev.get (F.SEM_n_OWNER 31) = CoreId.owner .c0 ∧
      s.dev.get (F.SEM_n_OWNER 0) = 0 ∧
      s.dev.semOrder[(0 : Fin 32)].find? (fun x => decide (x = .c1 ∨ (5 : BitVec 3).getLsbD x.num = true)) = some .c0 := by
  simp only [Device.ready]; decide +kernel

/-- C0 and S with addresses in w1. -/
def addrS (a : Word) : State := withRegs (withRegs upS .c0 [(1, a), (5, 4)]) .s [(1, a), (5, 4)]

/-- C0 with the address of the last word of core SRAM in w1, and bytes there. -/
def lastWord : State := onDev (addrS 0x1017FFFC) fun d => d.setBytes 0x1017FFFC [0x81, 0xF2, 0, 0x7F]

theorem witness_fetched :
    lastWord.dev.fetched .c0 = lastWord.dev ∧ (addrS 0x10000002).dev.fetched .c0 = (addrS 0x10000002).dev ∧
      (addrS 0x2005FFF0).dev.fetched .s = (addrS 0x2005FFF0).dev ∧ upS.dev.fetched .s = upS.dev :=
  ⟨by rfl, by rfl, by rfl, by rfl⟩

theorem witness_Loads :
    let bad := addrS 0x10180000
    let ecc := onDev (addrS 0x10000100) fun d => { d with ecc := [(0x10000100, .multi)] }
    let a := (lastWord.dev.core .c0).reg 1 + BitVec.signExtend 32 (0 : BitVec 16)
    lastWord.dev.ready .c0 .all ∧ (lastWord.dev.core .c0).buf = [] ∧ regionOf a.toNat = .coreSram ∧
      lastWord.dev.eccAt a.toNat = none ∧ lastWord.dev.mpuAllows .c0 a.toNat .read (lastWord.dev.atPriv .c0) = true ∧
      a.toNat % 4 = 0 ∧ lastWord.dev.accessCause .c0 a 4 false = none ∧
      (lastWord.dev.loadWord .c0 a.toNat .none).1 = some 0x7F00F281 ∧
      (lastWord.dev.loadWord .c0 a.toNat .none).2.executing .c0 = true ∧
      bad.dev.ready .c0 .all ∧ bad.dev.accessCause .c0 0x10180000 4 false ≠ none ∧
      ecc.dev.ready .c0 .all ∧ (ecc.dev.loadWord .c0 0x10000100 .none).1 = none ∧
      (ecc.dev.loadWord .c0 0x10000100 .none).2.executing .c0 = true := by
  simp only [Device.ready]; decide +kernel

theorem witness_Stores :
    let s := addrS 0x10000002
    let b := onCore up .c0 fun k => { k with buf := [⟨0x1017FFFC, 0x11223344, true⟩] }
    s.dev.ready .c0 .all ∧ s.dev.accessCause .c0 0x10000000 4 true = none ∧
      s.dev.accessCause .c0 0x10000002 4 true ≠ none ∧ s.dev.accessCause .c0 0x10000002 2 true = none ∧
      s.dev.accessCause .c0 0x10000003 1 true = none ∧ (s.dev.core .c0).buf = [] ∧ regionOf 0x10000002 = .coreSram ∧
      s.dev.eccAt 0x10000002 = none ∧ b.dev.coreRuns = true ∧
      (b.dev.core .c0).buf = [⟨0x1017FFFC, 0x11223344, true⟩] ∧ regionOf 0x1017FFFC = .coreSram := by
  simp only [Device.ready]; decide +kernel

theorem witness_VectorMemory :
    let s := addrS 0x2005FFF0
    s.dev.ready .s .stream ∧ (s.dev.core .s).buf = [] ∧
      ((s.dev.core .s).reg 1 + BitVec.signExtend 32 (0 : BitVec 16)).toNat % 16 = 0 ∧
      ∀ i < 4, (0x2005FFF0 + 4 * i) % 4 = 0 ∧ regionOf (0x2005FFF0 + 4 * i) = .streamLow ∧
        s.dev.windowAt (0x2005FFF0 + 4 * i) = none ∧ s.dev.eccAt (0x2005FFF0 + 4 * i) = none := by
  simp only [Device.ready]; decide +kernel

/-! ### Tasks, blocks, registers and events -/

/-- Task 63 with an affinity, a state and 100 quanta waited; C0 holds it where `held`. -/
def taskState (st : Nat) (held : Bool) : State :=
  withFields up ([(F.WEIR_DESC_t_AFF 63, 3), (F.WEIR_DESC_t_PRIO 63, 9), (F.WEIR_STAT_t_STATE 63, st),
    (F.WEIR_STAT_t_WAIT 63, 100), (F.WEIR_CFG_STARVE, 100)] ++
    if held then [(F.WEIR_COREc_HELD 0, 1), (F.WEIR_COREc_TASK 0, 63)] else [])

theorem witness_TasksAndWeir :
    (1 : WReg) ≠ 0 ∧ up.dev.takeChoice .c0 = none ∧ (taskState 1 false).dev.takeChoice .c0 = some 63 ∧
      (taskState 1 false).dev.ready .c0 .control ∧ up.dev.get (F.WEIR_COREc_HELD 0) = 0 ∧
      (withRegs (taskState 2 true) .c0 [(5, 63)]).dev.get (F.WEIR_COREc_HELD 0) = 1 ∧
      ((taskState 2 true).dev.get (F.WEIR_COREc_TASK 0) = 63) ∧ up.dev.coreRuns = true ∧
      up.dev.masterMay .c0 (R.WEIR_READYi 1) 0x80000000 = true ∧ up.dev.masterMay .c0 (R.WEIR_CANCELi 1) 0x80000000 = true ∧
      (0x80000000 : Word).toNat.testBit (63 % 32) = true ∧ (taskState 0 false).dev.get (F.WEIR_DESC_t_AFF 63) ≠ 0 ∧
      (taskState 0 false).dev.get (F.WEIR_STAT_t_STATE 63) = 0 ∧ (taskState 2 true).dev.get (F.WEIR_STAT_t_STATE 63) = 2 ∧
      (taskState 1 false).dev.get (F.WEIR_STAT_t_STATE 63) = 1 ∧ (taskState 1 false).dev.get F.WEIR_CFG_STARVE ≠ 0 ∧
      (taskState 1 false).dev.get F.WEIR_CFG_STARVE ≤ (taskState 1 false).dev.get (F.WEIR_STAT_t_WAIT 63) ∧
      (taskState 1 false).dev.get (F.WEIR_STAT_t_STARVED 63) = 0 := by
  simp only [Device.ready]; decide +kernel

theorem witness_takes_fetched : (taskState 1 false).dev.fetched .c0 = (taskState 1 false).dev := by rfl

theorem witness_BlocksAndBoundaries :
    let late := withSt upS .s [(F.ST_BLKCYC_CYCLE, 32703)]
    let limit := withSt upS .s [(F.ST_SCTL_OVR_LIMIT, 3), (F.ST_OVRCNT_CONSEC, 2)]
    let start := withSt up .s [(F.ST_SCTL_RUN, 1)]
    late.dev.ready .s .stream ∧ (late.dev.core .s).buf = [] ∧ late.dev.cget .s F.ST_BLKCYC_CYCLE < 32704 ∧
      upS.dev.executing .s = true ∧ upS.dev.cget .s F.ST_SCTL_OVR_LIMIT = 0 ∧ limit.dev.executing .s = true ∧
      limit.dev.cget .s F.ST_SCTL_OVR_LIMIT ≠ 0 ∧
      limit.dev.cget .s F.ST_SCTL_OVR_LIMIT ≤ limit.dev.cget .s F.ST_OVRCNT_CONSEC + 1 ∧
      State.reset.dev.coreRuns = false ∧ start.dev.coreRuns = true ∧ start.dev.stage.frozen = false ∧
      start.dev.limp = false ∧ start.dev.clk.step = none ∧ start.dev.cget .s F.ST_SCTL_RUN = 1 ∧
      start.dev.cget .s F.ST_SSTATE_STATE = 0 := by
  simp only [Device.ready]; decide +kernel

theorem witness_Scrubber :
    let e := onDev up fun d => { d with ecc := [(0x1017FFFC, .bit 38), (0x2007FFFC, .multi)] }
    up.dev.coreRuns = true ∧ isSram 0x10000000 = true ∧ isSram 0x1017FFFF = true ∧ isSram 0x2007FFFF = true ∧
      e.dev.coreRuns = true ∧ e.dev.eccAt 0x1017FFFF = some (.bit 38) ∧ e.dev.eccAt 0x2007FFFF = some .multi ∧
      up.dev.eccAt 0x10000000 = none := by decide +kernel

theorem witness_RegisterWrites :
    let d := up.dev
    (regFind R.RSV_STACK).isSome = true ∧ d.masterMay .c0 R.RSV_STACK 5 = true ∧
      (withFields up [(F.HP_PRIV_MASK 0, 16)]).dev.masterMay .portA R.MOD_CFG 0 = false ∧ R.RSV_STACK % 4 = 0 ∧
      regFind 0x40000FF0 = none ∧ ((regFind R.MOD_CFG).any fun r => d.writeReserved .c0 true r R.MOD_CFG 0xFFFFFFFF) = true ∧
      play.dev.inPlay = true ∧ ((regFind R.MOD_CFG).any fun r => play.dev.guardedChange r R.MOD_CFG 0x10) = true := by decide +kernel

theorem witness_ActingReads :
    let s := withFields up [(F.HP_PRIV_MASK 0, 0)]
    up.dev.coreRuns = true ∧ up.dev.masterReads .c0 = true ∧ s.dev.coreRuns = true ∧ s.dev.masterReads .portA = false := by
  decide +kernel

theorem witness_StreamCoreControl :
    let f := withSt up .s [(F.ST_SSTATE_STATE, 3), (F.ST_SCTL_RUN, 1)]
    up.dev.coreRuns = true ∧ up.dev.masterMay .c0 R.ST_SCTL 1 = true ∧ up.dev.masterMay .c0 R.ST_SENTRY 0x2005FFFC = true ∧
      up.dev.masterMay .c0 R.ST_OVRCNT 0x80000000 = true ∧ up.dev.masterMay .c0 R.ST_ENDMAX 0x80000000 = true ∧
      f.dev.cget .s F.ST_SSTATE_STATE = 3 ∧ (1 : Word).getLsbD 0 = true ∧ up.dev.cget .s F.ST_SSTATE_STATE = 0 ∧
      upS.dev.cget .s F.ST_SSTATE_STATE ≠ 0 ∧ upS.dev.cget .s F.ST_SSTATE_STATE ≠ 3 ∧ f.dev.cget .s F.ST_SCTL_RUN = 1 ∧
      up.dev.cget .s F.ST_SCTL_RUN = 0 ∧ 0x20000000 ≤ (0x20000000 : Word).toNat ∧ (0x2005FFFC : Word).toNat < 0x20060000 := by
  decide +kernel

theorem witness_EventFiresAndDelivery :
    let c := withFields up [(F.EVC_SRC_n_MODE 123, 1)]
    let l := onDev (withFields up [(F.EVC_WLATCH_LATCH, 0x100)]) fun d => { d with evc.taking := true }
    isSource 28 = false ∧ isSource 123 = true ∧ up.dev.latchArmed 123 = false ∧ (up.dev.source 123).st = .idle ∧
      (withSource c 123 (srcAt .pending 0 255)).dev.get (F.EVC_SRC_n_MODE 123) = 1 ∧
      ((withSource c 123 { srcAt .inService 0 1 with repend := true }).dev.source 123).repend = true ∧
      up.dev.evc.taking = false ∧ l.dev.evc.taking = true ∧ l.dev.coreRuns = true ∧
      (l.dev.get F.EVC_WLATCH_LATCH).testBit 8 = true ∧
      (∀ j < 8, (l.dev.get F.EVC_WLATCH_LATCH).testBit j = false) := by decide +kernel

theorem witness_EventControl :
    let e := withSource (withFields up [(F.EVC_SRC_n_PRIO 127, 7)]) 127 (srcAt .delivered 3 255)
    let v := withSource up 127 (srcAt .inService 3 0)
    up.dev.coreRuns = true ∧ up.dev.masterReads .c0 = true ∧ (∀ y, ¬ ((up.dev.source y).st = .delivered ∧ (up.dev.source y).target = 3)) ∧
      e.dev.masterReads .c0 = true ∧ (e.dev.source 127).st = .delivered ∧ (e.dev.source 127).target = 3 ∧
      (∀ y, (e.dev.source y).st = .delivered ∧ (e.dev.source y).target = 3 → y = 127) ∧ (e.dev.source 127).count < 256 ∧
      up.dev.masterMay .c0 (R.EVC_DONE_x 3) 127 = true ∧ (127 : Word).toNat % 256 = 127 ∧ (v.dev.source 127).st = .inService ∧
      (v.dev.source 127).target = 3 ∧ (up.dev.source 127).st ≠ .inService ∧ up.dev.masterMay .c0 (R.EVC_PSETi 3) 0x80000000 = true ∧
      isSource 127 = true ∧ up.dev.evc.taking = false ∧ up.dev.masterMay .c0 (R.EVC_PCLRi 3) 0x80000000 = true ∧
      up.dev.masterMay .c0 (R.EVC_SRC_n 127) 0x00F = true ∧ ((0x00F : Word).getLsbD 8).toNat ≠ up.dev.get (F.EVC_SRC_n_MODE 127) ∧
      up.dev.masterMay .c0 (R.EVC_TGT_CTL_x 3) 0xF = true ∧ up.dev.masterMay .c0 (R.EVC_TGT_MOD_x 3) 0xFFFF = true ∧
      up.dev.masterMay .c0 R.EVC_CTL 1 = true := by decide +kernel

/-! ### Clocks and supplies -/

/-- A clock state: SEL, MODE, an input that is present, a window of 10 ppm and a dwell. -/
def clk (sel mode : Nat) (l : List (Fld × Nat) := []) : State :=
  withFields up ([(F.CLK_STAT_SEL, sel), (F.CLK_STAT_MODE, mode), (F.TRN_STAT_LOCK, 1), (F.INP_STAT_LOCK, 1), (F.INP_STAT_RATE0, 9),
    (F.CLK_MON_CFG_WIN, 10), (F.CLK_MON_CFG_DWELL, 3)] ++ l)

/-- The same on a locked ring slave. -/
def slave (sel mode : Nat) : State := onDev (clk sel mode [(F.TRN_CFG_EN, 1), (F.TRN_STAT_TRUST, 1)]) fun d => { d with clk.ringSlave := true }

theorem witness_GateEnds :
    let t := clk 2 1
    let h := clk 2 2
    t.dev.linkRuns = true ∧ t.dev.flag F.CLK_STAT_XTAL_OK = true ∧ t.dev.ringPresent = true ∧ t.dev.inputPresent = true ∧
      (withFields t [(F.TRN_STAT_LOCK, 0)]).dev.ringPresent = false ∧ t.dev.clk.ringSlave = false ∧ t.dev.limp = false ∧
      t.dev.clk.cfgChanged = false ∧ t.dev.get F.CLK_STAT_SEL = 2 ∧ t.dev.get F.CLK_STAT_MODE = 1 ∧
      (100 : Int) ≤ (t.dev.get F.CLK_MON_CFG_WIN : Int) * 10 ∧ ¬ (101 : Int) ≤ (t.dev.get F.CLK_MON_CFG_WIN : Int) * 10 ∧
      h.dev.get F.CLK_STAT_MODE = 2 ∧ (0 : Int) ≤ ((h.dev.get F.CLK_MON_CFG_WIN : Int) - 10) * 10 ∧
      ¬ (1 : Int) ≤ ((h.dev.get F.CLK_MON_CFG_WIN : Int) - 10) * 10 ∧ (clk 2 3).dev.get F.CLK_STAT_MODE = 3 ∧
      |(clk 2 3).dev.geti F.CLK_TRIM_TRIM| ≤ 4294967 ∧ (slave 1 5).dev.clk.ringSlave = true ∧ (slave 1 5).dev.limp = false ∧
      (slave 1 5).dev.ringPresent = true ∧ (slave 1 5).dev.get F.CLK_STAT_MODE = 5 ∧ (slave 1 4).dev.get F.CLK_STAT_MODE = 4 ∧
      (slave 1 1).dev.get F.CLK_STAT_SEL = 1 := by decide +kernel

theorem witness_ReferenceSelection :
    let gone := clk 2 1 [(F.INP_STAT_LOCK, 0)]
    let over_ := clk 2 2 [(F.CLK_REF_CFG_P0, 1), (F.CLK_REF_CFG_P1, 0)]
    let none_ := clk 0 2 [(F.CLK_REF_CFG_P0, 1), (F.CLK_REF_CFG_P1, 0), (F.CLK_REF_CFG_P2, 1)]
    let back := onDev (clk 0 1 [(F.CLK_REF_CFG_P0, 2), (F.CLK_REF_CFG_REVERT, 1)]) fun d => { d with clk.availRun := #v[0, 0, 1000] }
    gone.dev.dpllRuns = true ∧ gone.dev.clk.ringSlave = false ∧ gone.dev.get F.CLK_STAT_SEL ≠ 0 ∧
      gone.dev.inputPresent = false ∧ gone.dev.get F.CLK_STAT_MODE ≠ 2 ∧ over_.dev.dpllRuns = true ∧
      over_.dev.get F.CLK_STAT_DWELL_LEFT = 0 ∧ [1, 0, over_.dev.get F.CLK_REF_CFG_P2].find? (fun y => y != 1 && y != 2) = some 0 ∧
      none_.dev.get F.CLK_STAT_DWELL_LEFT = 0 ∧ [1, 0, 1].find? (fun y => y != 1 && y != 0) = none ∧
      back.dev.dpllRuns = true ∧ back.dev.get F.CLK_REF_CFG_REVERT = 1 ∧ back.dev.get F.CLK_STAT_MODE ≠ 0 ∧
      back.dev.get F.CLK_REF_CFG_P0 = 2 ∧ back.dev.get F.CLK_STAT_SEL ≠ 2 ∧
      back.dev.get F.CLK_MON_CFG_RETURN ≤ back.dev.clk.availRun.toList.getD 2 0 ∧
      (clk 2 3).dev.get F.CLK_STAT_MODE = 3 ∧ |max (0 - 85899 * 100 / 1000) (min (0 + 85899 * 100 / 1000) (8000 + 589 : Int)) - 9018| < 430 ∧
      (430 : Int) ≤ |max (0 - 0) (min (0 + 0) (430 : Int)) - 430| := by decide +kernel

theorem witness_RingSlaveAndAnalogLoop :
    let j := clk 0 1 [(F.TRN_CFG_EN, 1), (F.TRN_STAT_TRUST, 1)]
    let out := onDev (slave 1 1) fun d => d.put F.CLK_STAT_ALIGN_OUT 1
    let lk := onDev State.reset fun d => { d with pwr.seq := .locking }
    let lim := clk 3 6
    let lost := withFields lim [(F.PWR_FAULT_PLL_UNLOCK, 1)]
    let aon := clk 0 1 [(F.CLK_AON_CTL_EN, 1), (F.CLK_AON_CMP_VALUE, 0), (F.CLK_AON_CNT_COUNT, 0xFFFFFFFF)]
    j.dev.dpllRuns = true ∧ j.dev.get F.TRN_CFG_EN = 1 ∧ j.dev.get F.TRN_STAT_LOCK = 1 ∧ j.dev.get F.TRN_STAT_TRUST = 1 ∧
      j.dev.get F.TRN_STAT_ROLE ≠ 3 ∧ (slave 1 5).dev.dpllRuns = true ∧ |(32 : BitVec 16).toInt| ≤ 32 ∧ 32 < |(33 : BitVec 16).toInt| ∧
      64 < |(65 : BitVec 16).toInt| ∧ (slave 1 1).dev.get F.CLK_STAT_ALIGN_OUT = 0 ∧ 128 < |(129 : BitVec 16).toInt| ∧
      out.dev.get F.CLK_STAT_ALIGN_OUT = 1 ∧ |(0xFF80 : BitVec 16).toInt| ≤ 128 ∧
      lk.dev.pastAux1 = true ∧ lk.dev.pwr.seq ≠ .up ∧ lk.dev.pwr.seq ≠ .booting ∧ lk.dev.limp = false ∧
      up.dev.linkRuns = true ∧ up.dev.limp = false ∧ up.dev.get F.CLK_STAT_LOCKED = 1 ∧ (up.dev.word R.PWR_FAULT).getLsbD 6 = false ∧
      lost.dev.linkRuns = true ∧ lost.dev.limp = true ∧ lost.dev.get F.CLK_STAT_LOCKED = 1 ∧ (lost.dev.word R.PWR_FAULT).getLsbD 6 = true ∧
      State.reset.dev.get F.CLK_STAT_LOCKED = 0 ∧ lim.dev.get F.CLK_STAT_XTAL_OK = 1 ∧ aon.dev.aonRuns = true ∧
      aon.dev.get F.CLK_AON_CTL_EN = 1 ∧
      (aon.dev.get F.CLK_AON_CMP_VALUE + 2 ^ 32 - aon.dev.get F.CLK_AON_CNT_COUNT) % 2 ^ 32 = 1 ∧
      up.dev.get F.CLK_AON_CTL_EN = 0 ∧ up.dev.get F.CLK_STAT_AON_SRC = 0 ∧ lk.dev.get F.CLK_STAT_XTAL_OK = 0 ∧
      lk.dev.pwr.rstLow = false := by decide +kernel

/-- The machine in a step of the supply sequence, the supplies up. -/
def sq (x : SeqStep) : State :=
  onDev State.reset fun d => { d with pwr := { d.pwr with seq := x, enAux := .replicate 3 true, pgAux := .replicate 3 true } }

/-- The supplies on their way down. -/
def down (x : SeqStep) (y : DownWhy) (tries : Nat) : State :=
  onDev (withFields (sq x) [(F.PWR_SEQ_STAT_TRIES, tries)]) fun d => { d with pwr.down := y }

theorem witness_SupplySequence :
    let ice := onDev up fun d => { d with pwr.busy := .iceEntry }
    let late := onDev up fun d => { d with pwr.pgto3 := true, pwr.pgAux := d.pwr.pgAux.set 2 false }
    let wake := withFields (sq .ice) [(F.EVC_WLATCH_LATCH, 0x100), (F.EVC_WAKE_EN_EN, 0x100)]
    let locked := withFields (sq .locking) [(F.CLK_STAT_LOCKED, 1)]
    (down .down2 .retry 1).dev.pwr.seq = .down2 ∧ (down .down1 .ice 0).dev.pwr.down = .ice ∧
      (down .down1 .supply 0).dev.pwr.down = .supply ∧ (down .down1 .retry 1).dev.pwr.down = .retry ∧
      (down .down1 .retry 0).dev.get F.PWR_SEQ_STAT_TRIES ≤ (down .down1 .retry 0).dev.get F.PWR_SEQ_RETRY ∧
      (down .down1 .retry 7).dev.get F.PWR_SEQ_RETRY < (down .down1 .retry 7).dev.get F.PWR_SEQ_STAT_TRIES ∧
      locked.dev.get F.CLK_STAT_LOCKED = 1 ∧ locked.dev.pwr.rstLow = false ∧
      ice.dev.pwr.seq = .up ∧ ice.dev.pwr.busy = .iceEntry ∧ (sq .aux1).dev.pwr.seq = .aux1 ∧ (sq .aux2).dev.pwr.seq = .aux2 ∧
      late.dev.running = true ∧ late.dev.pwr.pgto3 = true ∧ late.dev.pwr.pgAux[2] = false ∧
      (late.dev.word R.PWR_FAULT).getLsbD 3 = false ∧ (sq .retryWait).dev.pwr.seq = .retryWait ∧ up.dev.pwr.pgAux[0] = true ∧
      up.dev.pwr.pgAux[1] = true ∧ up.dev.pastAux1 = true ∧ up.dev.pwr.pgAux[2] = true ∧ up.dev.pwr.enAux[2] = true ∧
      wake.dev.pwr.seq = .ice ∧ wake.dev.word R.EVC_WLATCH &&& wake.dev.word R.EVC_WAKE_EN ≠ 0 := by decide +kernel

theorem witness_Resets :
    let w := withFields up [(F.SYS_WDOG_CTL_EN, 1)]
    up.dev.pwr.rstLow = false ∧ up.dev.pwr.seq = .up ∧ (down .down2 .ice 0).dev.pwr.rstLow = false ∧ up.dev.coreRuns = true ∧
      up.dev.masterMay .c0 R.SYS_RST_REQ 0xA5C3 = true ∧ up.dev.masterMay .c0 R.SYS_RST_REQ 0xA5C2 = true ∧
      (0xA5C2 : Word).toNat % 65536 ≠ 0xA5C3 ∧ w.dev.get F.SYS_WDOG_CTL_EN = 1 ∧ w.dev.running = true ∧ w.dev.c0.run ≠ .debug ∧
      up.dev.get F.SYS_WDOG_CTL_EN = 0 ∧ up.dev.masterMay .c0 R.SYS_WDOG_CTL 0x00010001 = true ∧
      (withFields up [(F.SYS_WDOG_CTL_TIMEOUT, 1)]).dev.get F.SYS_WDOG_CTL_TIMEOUT = (0x00010001 : Word).toNat / 65536 % 1024 ∧
      up.dev.masterMay .c0 R.SYS_WDOG_KICK 0xC35A = true ∧ (0xC35A : Word).toNat % 65536 = 0xC35A ∧
      (CoreId.c0 ≠ .s) ∧ (up.dev.core .c0).run ≠ .held ∧ (Master.c1 ≠ .c0) ∧ up.dev.masterMay .c1 R.SYS_CORE_RST 0x3C01 = true ∧
      (withFields up [(F.SEM_n_OWNER 31, 1)]).dev.get (F.SEM_n_OWNER 31) = CoreId.owner .c0 ∧
      (sq .booting).dev.pwr.seq = .booting := by decide +kernel

/-- The machine in STILL. -/
def stillS : State := onDev (withFields up [(F.PWR_STAT_STATE, 1)]) fun d => { d with pwr.enAux := d.pwr.enAux.set 2 false }

theorem witness_Supervision :
    let q := withFields up [(F.PWR_BO_WARN, 44)]
    let ice := sq .ice
    let f := withFields up [(F.PWR_FAULT_BROWNOUT, 1)]
    up.dev.aonRuns = true ∧ (43 : BitVec 9).toNat < 44 ∧ up.dev.linkRuns = true ∧ (up.dev.word R.PWR_FAULT).getLsbD 1 = false ∧
      48 ≤ (48 : BitVec 9).toNat ∧ (43 : BitVec 9).toNat < q.dev.get F.PWR_BO_WARN ∧ q.dev.get F.PWR_VMON_BO_WARN = 0 ∧
      q.dev.get F.PWR_BO_WARN + 2 ≤ (46 : BitVec 9).toNat ∧ up.dev.running = true ∧ (up.dev.word R.PWR_FAULT).getLsbD 0 = false ∧
      stillS.dev.still = true ∧ stillS.dev.pastAux1 = true ∧ ice.dev.pwr.seq = .ice ∧ ice.dev.aonRuns = true ∧
      ice.dev.get F.PWR_STAT_PRES = 0 ∧ (withFields up [(F.PWR_STAT_PRES, 0)]).dev.pwr.pre = .idle ∧
      up.dev.pwr.busy ≠ .iceEntry ∧ (up.dev.word R.PWR_FAULT).getLsbD 7 = false ∧ f.dev.coreRuns = true ∧
      f.dev.masterMay .portB R.PWR_FAULT 2 = true ∧ Master.portB.isHost = true ∧ Master.c0.isHost = false ∧
      f.dev.word R.PWR_FAULT &&& 2 &&& 0x1FF ≠ 0 := by decide +kernel

/-! ### Power requests, the power stage, debug -/

/-- READY with the main switch closed and the driver supply good. -/
def rdy : State := withFields up [(F.PWR_STAT_MAIN, 2), (F.GDV_STAT_VDRV_OK, 1)]

/-- The machine with another power transition in progress. -/
def onBusy (s : State) (b : PwrBusy) : State := onDev s fun d => { d with pwr.busy := b }

/-- The machine with its precharge in another step. -/
def onPre (s : State) (p : Precharge) : State := onDev s fun d => { d with pwr.pre := p }

theorem witness_PowerRequests :
    let a := withFields up [(F.HP_PRIV_MASK 0, 0)]
    let fl := withFields rdy [(F.PWR_FAULT_BROWNOUT, 1)]
    let safe := withFields rdy [(F.PWR_STAT_STATE, 4)]
    let asks := fun (s : State) (code : Nat) => s.dev.coreRuns = true ∧
      s.dev.masterMay .c0 R.PWR_CMD (BitVec.ofNat 32 code) = true ∧ s.dev.requestRefused .c0 true code = none
    let asksB := fun (s : State) (code : Nat) => s.dev.coreRuns = true ∧
      s.dev.masterMay .portB R.PWR_CMD (BitVec.ofNat 32 code) = true ∧ s.dev.requestRefused .portB true code = none
    let ready := fun (s : State) => s.dev.running = true ∧ s.dev.get F.PWR_STAT_STATE = 2 ∧ s.dev.powerBusy = false
    (withSt up .c0 [(F.ST_STATUS_PRIV, 0)]).dev.masterPriv .c0 = false ∧ up.dev.masterPriv .c0 = true ∧
      a.dev.nvs.rom = false ∧ a.dev.coreRuns = true ∧ a.dev.get (F.HP_PRIV_MASK 0) &&& 7 = 0 ∧
      asks rdy 2 ∧ asks rdy 1 ∧ asks rdy 3 ∧ asks rdy 4 ∧ asks rdy 5 ∧ asks rdy 8 ∧ asks rdy 9 ∧ asksB safe 6 ∧ asksB safe 7 ∧
      (onBusy rdy .stillWait).dev.powerBusy = true ∧ play.dev.powerBusy = false ∧ play.dev.get F.PWR_STAT_STATE ≠ 2 ∧ asks play 2 ∧
      ready fl ∧ fl.dev.word R.PWR_FAULT ≠ 0 ∧ asks fl 2 ∧ ready (withFields rdy [(F.PWR_STAT_PRES, 0)]) := by decide +kernel

theorem witness_PowerRequests_begun :
    let safe := withFields rdy [(F.PWR_STAT_STATE, 4)]
    let asks := fun (s : State) (code : Nat) => s.dev.coreRuns = true ∧
      s.dev.masterMay .c0 R.PWR_CMD (BitVec.ofNat 32 code) = true ∧ s.dev.requestRefused .c0 true code = none
    let ready := fun (s : State) => s.dev.running = true ∧ s.dev.get F.PWR_STAT_STATE = 2 ∧ s.dev.powerBusy = false
    let stopped := fun (s : State) => s.dev.cget .s F.ST_SSTATE_STATE = 0 ∧ s.dev.cget .s F.ST_SCTL_RUN = 0
    ready up ∧ up.dev.get F.PWR_STAT_MAIN ≠ 2 ∧ ready rdy ∧ rdy.dev.word R.PWR_FAULT = 0 ∧ rdy.dev.get F.PWR_STAT_PRES = 1 ∧
      rdy.dev.get F.PWR_STAT_MAIN = 2 ∧ rdy.dev.get F.PWR_STAT_DRV_OK = 1 ∧ rdy.dev.get F.DIAG_HOLD_HOLD = 0 ∧
      (withFields rdy [(F.PWR_STAT_DRV_OK, 0)]).dev.get F.PWR_STAT_DRV_OK = 0 ∧
      (withFields rdy [(F.DIAG_HOLD_HOLD, 1)]).dev.get F.DIAG_HOLD_HOLD ≠ 0 ∧ asks play 1 ∧ play.dev.running = true ∧
      play.dev.pwr.busy = .none ∧ play.dev.get F.PWR_STAT_PHASE = 0 ∧ asks (onBusy rdy .stillWait) 1 ∧
      safe.dev.running = true ∧ safe.dev.get F.PWR_STAT_STATE = 4 ∧ safe.dev.powerBusy = false ∧ asks safe 1 ∧ asks safe 5 ∧
      stopped rdy ∧ rdy.dev.txnInFlight = false ∧
      (onDev rdy fun d => { d with txn.flight := d.txn.flight.set 0 (some ⟨.judged, 0, 0, [], 0, 0, 0, false, none⟩) }).dev.txnInFlight = true ∧
      (rdy.dev.word R.PWR_FAULT).getLsbD 8 = false ∧ safe.dev.word R.PWR_FAULT = 0 ∧
      (withFields safe [(F.PWR_FAULT_BROWNOUT, 1)]).dev.word R.PWR_FAULT ≠ 0 ∧ safe.dev.playBars true = none ∧
      (withFields safe [(F.PWR_STAT_MAIN, 0)]).dev.playBars true = none := by decide +kernel

theorem witness_PowerTransitions :
    let w := onDev (onBusy rdy .stillWait) fun d => { d with c0.run := .sleeping, c1.run := .sleeping }
    let still := withFields stillS [(F.EVC_WLATCH_LATCH, 0x100), (F.EVC_WAKE_EN_EN, 0x100)]
    let wake := onDev stillS fun d => { d with pwr := { d.pwr with waking := true, pgAux := .replicate 3 true, presDue := false } }
    let run := fun (n : Nat) => withFields (onPre up (.running n)) [(F.PWR_PCHG_SETTLE, 2), (F.PWR_CMD_STAT_REQ, 8), (F.PWR_CMD_STAT_RESULT, 1)]
    let e := fun (p : Nat) => withFields (onDev (onBusy rdy (.playEntry false)) fun d => { d with pwr.gainPos := 512 }) [(F.PWR_STAT_PHASE, p)]
    w.dev.pwr.busy = .stillWait ∧ w.dev.diag.run = none ∧ w.dev.c0.run = .sleeping ∧ w.dev.c1.run = .sleeping ∧
      w.dev.queuesEmpty = true ∧ w.dev.get F.PWR_CTL_MAIN_HOLD = 0 ∧
      (withFields w [(F.PWR_CTL_MAIN_HOLD, 1)]).dev.get F.PWR_CTL_MAIN_HOLD = 1 ∧ (onBusy rdy .stillWait).dev.c0.run ≠ .sleeping ∧
      still.dev.still = true ∧ still.dev.word R.EVC_WLATCH &&& still.dev.word R.EVC_WAKE_EN ≠ 0 ∧ still.dev.pwr.waking = false ∧
      wake.dev.still = true ∧ wake.dev.pwr.waking = true ∧ wake.dev.pwr.pgAux[2] = true ∧ wake.dev.pwr.presDue = false ∧
      wake.dev.word R.PWR_FAULT = 0 ∧ (onPre up .due).dev.pwr.pre = .due ∧ (onPre up .due).dev.get F.PWR_STAT_PRES = 1 ∧
      (run 2).dev.pwr.pre = .running 2 ∧ (run 2).dev.get F.PWR_PCHG_SETTLE ≤ 2 ∧ (run 2).dev.playEntering = false ∧
      (run 2).dev.get F.PWR_CMD_STAT_REQ = 8 ∧ (run 2).dev.get F.PWR_CMD_STAT_RESULT = 1 ∧ 1 < (run 1).dev.get F.PWR_PCHG_SETTLE ∧
      (onPre up .closing).dev.pwr.pre = .closing ∧ ((run 1).dev.word R.PWR_FAULT).getLsbD 2 = false ∧
      (e 1).dev.playEntering = true ∧ (e 1).dev.get F.PWR_STAT_PHASE = 1 ∧ (e 1).dev.diag.run = none ∧
      (e 3).dev.get F.PWR_STAT_PHASE = 3 ∧ (e 3).dev.pwr.gainPos = 512 ∧
      (withFields (onBusy (e 4) .rampOut) []).dev.pwr.busy = .rampOut ∧ (e 4).dev.get F.PWR_STAT_PHASE = 4 := by decide +kernel

/-- PLAY with the stage modulating. -/
def mods : State :=
  onDev (withFields play [(F.GDV_STAT_VDRV_OK, 1), (F.GDV_STAT_BST_OK, 0xFF), (F.MOD_REFRESH_N, 100)]) fun d => { d with
    stage.drive := .modulate
    stage.half := d.stage.half.map fun h => { h with fullRun := 100 } }

theorem witness_Modulator :
    let rff := onDev (withFields mods [(F.MOD_RFF_EN, 1), (F.MOD_RFF_KMIN, 32), (F.MOD_RFF_KMAX, 128), (F.MOD_RFF_VREF_VREF, 200)]) fun d =>
      { d with stage := { d.stage with vbus := some (0x28000000, false), shadow := [], shadowNext := [] } }
    let w : Word := 0x28000000
    let lo : Rat := (rff.dev.periodStart.acting F.MOD_RFF_KMIN : Rat) / 64
    let hi : Rat := (rff.dev.periodStart.acting F.MOD_RFF_KMAX : Rat) / 64
    let q := (rff.dev.periodStart.acting F.MOD_RFF_VREF_VREF : Rat) / 4 / rff.dev.vbus w
    let stuck := onDev mods fun d => { d with stage.chan := d.stage.chan.set 0 { d.stage.chan[0] with satRun := #v[0, 0, 16, 0, 0] } }
    mods.dev.running = true ∧ mods.dev.limp = false ∧ mods.dev.stage.frozen = false ∧ State.reset.dev.running = false ∧
      (onDev mods fun d => { d with stage.frozen := true }).dev.stage.frozen = true ∧ play.dev.stage.drive = .off ∧
      (onDev mods fun d => { d with stage := { d.stage with shadow := d.stage.shadow.put F.MOD_RFF_EN 0, shadowNext := d.stage.shadowNext.put F.MOD_RFF_EN 0 } }).dev.periodStart.acting F.MOD_RFF_EN = 0 ∧ rff.dev.periodStart.acting F.MOD_RFF_EN ≠ 0 ∧
      rff.dev.stage.vbus = some (w, false) ∧ rff.dev.vbus w ≠ 0 ∧ 0 < lo ∧ lo ≤ hi ∧ max lo (min hi q) < 4 ∧
      mods.dev.periodStart.modulating 0 = true ∧ 16 ≤ stuck.dev.stage.chan[0].satRun[2] ∧
      (∀ k : Fin 5, mods.dev.stage.chan[(0 : Fin 4)].satRun[k] < 16) ∧ mods.dev.gate 3 = .modulating ∧
      mods.dev.acting F.MOD_REFRESH_N ≤ mods.dev.stage.half[3].fullRun ∧ play.dev.gate 3 ≠ .modulating ∧
      mods.dev.masterMay .c0 R.MOD_OVERRIDE 1 = true ∧ modReserved mods.dev.regs = false ∧ mods.dev.get F.PWR_STAT_STATE ≠ 2 ∧
      (0x2401 : Word).toNat / 256 / 4 ^ 0 % 4 = 0 ∧ (∀ y < 8, (0x2401 : Word).toNat / 256 / 4 ^ y % 4 ≠ 3) ∧
      (0x0301 : Word).toNat / 256 / 4 ^ 0 % 4 = 3 ∧ rdy.dev.masterMay .c0 R.MOD_OVERRIDE 0x2401 = true ∧
      modReserved rdy.dev.regs = false ∧ rdy.dev.get F.PWR_STAT_STATE = 2 ∧ rdy.dev.diag.run = none ∧ rdy.dev.stage.drive = .off ∧
      rdy.dev.stage.held = none ∧ (∀ y, rdy.dev.gateForced y = false) := by decide +kernel

theorem witness_StageFaults :
    let cbc := withFields mods [(F.GDV_OC_n_MODE 1, 1), (F.GDV_OC_n_CBC_MAX 1, 3)]
    let ext := withFields up [(F.GDV_EXT_EN, 1)]
    let f := withFields up [(F.GDV_FAULT_VDRV_UVLO, 1)]
    let blank := onDev (withFields mods [(F.MOD_BLANK_COUNT, 100)]) fun d =>
      { d with stage.half := d.stage.half.map fun h => { h with level := true, lastEdge := some 0 } }
    mods.dev.running = true ∧ mods.dev.blanked (mods.dev.comparatorChannel 1) = false ∧ (withFields mods [(F.GDV_OC_n_MODE 1, 0)]).dev.get (F.GDV_OC_n_MODE 1) = 0 ∧
      (mods.dev.word (R.GDV_CH_FAULT_n 1)).getLsbD 0 = false ∧ (mods.dev.word R.PWR_FAULT).getLsbD 9 = false ∧
      cbc.dev.get (F.GDV_OC_n_MODE 1) = 1 ∧ cbc.dev.comparatorChannel 1 < 4 ∧ cbc.dev.stage.chan[1].tripped = false ∧
      cbc.dev.stage.chan[1].tripRun + 1 < cbc.dev.get (F.GDV_OC_n_CBC_MAX 1) ∧ State.reset.dev.running = false ∧
      mods.dev.get F.GDV_FAULT_STK_OC = 0 ∧ mods.dev.pwr.seq ≠ .off ∧ mods.dev.pwr.seq ≠ .aonReset ∧
      (mods.dev.word (R.GDV_CH_FAULT_n (mods.dev.channelOf 2))).getLsbD 1 = false ∧ ext.dev.get F.GDV_EXT_EN = 1 ∧
      ext.dev.get F.GDV_FAULT_EXT_FAULT = 0 ∧ (withFields up [(F.GDV_EXT_EN, 0)]).dev.get F.GDV_EXT_EN = 0 ∧ mods.dev.get F.GDV_FAULT_VDRV_UVLO = 0 ∧
      mods.dev.get F.PWR_STAT_STATE = 3 ∧ (mods.dev.word (R.GDV_CH_FAULT_n (mods.dev.channelOf 2))).getLsbD 2 = false ∧
      up.dev.get F.PWR_STAT_STATE ≠ 3 ∧ up.dev.stage.frozen = false ∧ f.dev.coreRuns = true ∧ Master.portB.isHost = true ∧
      f.dev.masterMay .portB R.GDV_FAULT 1 = true ∧ f.dev.masterMay .portB (R.GDV_CH_FAULT_n 1) 1 = true ∧ Master.c0.isHost = false ∧
      (1 : Word).toNat % 16 ≠ 0 ∧ (1 : Word).toNat % 8 ≠ 0 ∧ f.dev.masterMay .c0 R.GDV_OC_CNT 0x80000000 = true ∧
      f.dev.masterMay .c0 R.MOD_RFF_LIMCNT 0x80000000 = true ∧ f.dev.masterMay .c0 (R.GRD_n_X 1) 0x80000000 = true ∧
      blank.dev.blanked 0 = true := by decide +kernel

theorem witness_DebugHalts :
    let locked := withFields up [(F.DBG_CTL_LOCK, 1)]
    let h := onCore up .c0 fun k => { k with run := .debug }
    let fr := onDev mods fun d => { d with stage.frozen := true }
    let sd := onDev (withSt up .s [(F.ST_SSTATE_STATE, 4)]) fun d => { d with stream.dbgPrev := 1 }
    up.dev.coreRuns = true ∧ up.dev.masterMay .c0 R.DBG_CTL 1 = true ∧ locked.dev.get F.DBG_CTL_LOCK = 1 ∧
      up.dev.get F.DBG_CTL_LOCK = 0 ∧ (up.dev.core .c0).run = .running ∧ (h.dev.core .c0).run = .debug ∧
      fr.dev.stage.frozen = true ∧ fr.dev.get F.PWR_STAT_STATE = 3 ∧ fr.dev.word R.PWR_FAULT = 0 ∧
      up.dev.cget .s F.ST_SSTATE_STATE ≠ 4 ∧ sd.dev.cget .s F.ST_SSTATE_STATE = 4 ∧ sd.dev.stream.dbgPrev < 8 := by decide +kernel

/-! ### Guard and load diagnostics -/

/-- A Guard channel of the machine changed. -/
def onGuard (s : State) (i : Fin 4) (f : GuardChan → GuardChan) : State :=
  onDev s fun d => { d with guard.chan := d.guard.chan.set i (f d.guard.chan[i]) }

theorem witness_GuardEstimators :
    let w : PilotWindow := ⟨1000, 900, (3, 4), (1, 1 / 2), (1, 0)⟩
    let p := onGuard play 0 fun c => { c with winDone := some (w, 1 / 32), bandDone := some ⟨4, 1⟩, pilotOn := true }
    let b := withFields play [(F.GRD_n_STAT_BLIND 1, 1), (F.GRD_T_BLIND_VALUE, 1), (F.GRD_n_BLINDT_BLOCKS 1, 600)]
    let l := withFields b [(F.GRD_n_STAT_RATCHET 1, 1), (F.GRD_T_BLIND_LONG_VALUE, 1), (F.GRD_n_BLINDT_BLOCKS 1, 6000)]
    let r := onGuard (withFields play [(F.GRD_n_STAT_RECOV 1, 1), (F.GRD_n_CONFV_CONF 1, 200), (F.GRD_CONF_MIN_VALUE, 5)]) 0
      fun c => { c with recov := 30000, forced := false }
    let t := onGuard (withFields play [(F.GRD_n_STAT_RELEASE 1, 1)]) 0 fun c => { c with atTv := true }
    let g := onDev play fun d => { d with stage.guardOut := d.stage.guardOut.set 0 (.replicate 16 0) }
    p.dev.guard.chan[0].winDone = some (w, 1 / 32) ∧ 0 < w.used ∧ w.i.1 * w.i.1 + w.i.2 * w.i.2 ≠ 0 ∧
      2 * ratSqrt (w.i.1 * w.i.1 + w.i.2 * w.i.2) / w.used ≠ 0 ∧ play.dev.guard.chan[0].winDone = none ∧
      p.dev.guard.chan[0].bandDone = some ⟨4, 1⟩ ∧ play.dev.guard.chan[0].bandDone = none ∧
      b.dev.get (F.GRD_n_STAT_BLIND 1) = 1 ∧ b.dev.get (F.GRD_n_STAT_RATCHET 1) = 0 ∧
      b.dev.blindBlocks = b.dev.get (F.GRD_n_BLINDT_BLOCKS 1) ∧
      (withFields b [(F.GRD_n_BLINDT_BLOCKS 1, 599)]).dev.get (F.GRD_n_BLINDT_BLOCKS 1) < b.dev.blindBlocks ∧
      l.dev.get (F.GRD_n_STAT_BLIND 1) = 1 ∧ l.dev.get (F.GRD_n_STAT_RATCHET 1) = 1 ∧ l.dev.get (F.GRD_n_STAT_RELEASE 1) = 0 ∧
      l.dev.get (F.GRD_n_STAT_BLONG 1) = 0 ∧ l.dev.blindLongBlocks = l.dev.get (F.GRD_n_BLINDT_BLOCKS 1) ∧
      b.dev.get (F.GRD_n_BLINDT_BLOCKS 1) < b.dev.blindLongBlocks ∧ r.dev.get (F.GRD_n_STAT_RECOV 1) = 1 ∧
      r.dev.guard.chan[0].recov = 30000 ∧ r.dev.blindCounts = true ∧ r.dev.blindNow 0 = false ∧
      play.dev.guard.chan[0].recov < 30000 ∧ t.dev.get (F.GRD_n_STAT_RELEASE 1) = 1 ∧ t.dev.guard.chan[0].atTv = true ∧
      play.dev.guard.chan[0].atTv = false ∧ g.dev.running = true ∧ g.dev.guardUsed 0 = true ∧
      15 < g.dev.stage.guardOut[0].length := by decide +kernel

/-- A diagnostic run in a step, its configuration and phase cleared. -/
def runIn (sweep : Bool) (x : DiagStep) : DiagRun := { DiagRun.fresh sweep false 3 with step := x, phase := 0, begun := true }

/-- READY with a diagnostic run in progress. -/
def onRun (r : DiagRun) : State := onDev rdy fun d => { d with diag.run := some r }

theorem witness_LoadDiagnostics :
    let entry := withFields (onBusy rdy (.playEntry false)) [(F.PWR_STAT_PHASE, 1)]
    let steps := [DiagStep.a, .b, .c, .d, .e, .f]
    let m : DiagRun := { runIn true .measure with point := 63, blocks := 60000, sweepLvl := 0x00FF4000, sweepCfg := 0x4E200014 }
    let n := withFields play [(F.DIAG_DC_CFG_EN, 1)]
    let t := onDev n fun d => { d with diag.dc := d.diag.dc.set 0 ⟨9, 1, 100000000⟩ }
    let due := fun (s : State) => decide (s.dev.diag.dc[0].timer ≠ 0) &&
      decide (912 * s.dev.get F.DIAG_DC_TIME_TIME ≤ 100 * (s.dev.diag.dc[0].timer - 1))
    rdy.dev.coreRuns = true ∧ (∀ op ∈ ([1, 2, 3] : List Nat), rdy.dev.masterMay .c0 R.DIAG_CMD (BitVec.ofNat 32 (op + 256 * 3)) = true) ∧
      rdy.dev.diagMayStart false 3 = true ∧ rdy.dev.diagMayStart true 3 = true ∧ rdy.dev.diagMayStart true 0 = false ∧
      rdy.dev.playEntering = false ∧ rdy.dev.diag.run = none ∧ entry.dev.playEntering = true ∧ entry.dev.get F.PWR_STAT_PHASE = 1 ∧
      (∀ x ∈ steps, (onRun (runIn false x)).dev.diag.run = some (runIn false x)) ∧
      (∀ x ∈ steps, (runIn false x).stepBlocks ≤ 6 ∧ (runIn false x).begun = true) ∧ rdy.dev.atBoundary = true ∧
      fieldOf ({ runIn false .b with cfg := 2 } : DiagRun).cfg 1 1 = 1 ∧ (runIn false .a).blocks < (runIn false .a).stepBlocks ∧
      (onRun m).dev.diag.run = some m ∧ (onRun m).dev.pointFull m = true ∧ m.point < 64 ∧
      (onRun (runIn true .settle)).dev.pointFull (runIn true .settle) = false ∧ n.dev.running = true ∧
      (n.dev.get F.DIAG_DC_CFG_EN).testBit 0 = true ∧ 0 < n.dev.outputs ∧ due t = true ∧ due n = false ∧
      (t.dev.word R.PWR_FAULT).getLsbD 9 = false ∧ (t.dev.word (R.GDV_CH_FAULT_n 0)).getLsbD 3 = false ∧
      Master.portB.isHost = true ∧ rdy.dev.masterMay .portB R.DIAG_HOLD 1 = true ∧ (1 : Word).toNat % 16 ≠ 0 := by decide +kernel

/-! ### The chain and its companions -/

/-- A chain master of three positions in LOOP. -/
def chainM (l : List (Fld × Nat) := []) : State :=
  onDev (withFields up ([(F.SHL_CFG_EN, 1), (F.SHL_CFG_NCOMP, 3), (F.SHL_STAT_STATE, 2), (F.SHL_Ck_STAT_REACH 1, 1),
    (F.SHL_Ck_STAT_REACH 2, 1), (F.SHL_Ck_STAT_REACH 3, 2)] ++ l)) fun d => { d with shl.role := true }

/-- The chain master's own state changed. -/
def onShl (s : State) (f : Shl → Shl) : State := onDev s fun d => { d with shl := f d.shl }

/-- A command of mailbox 1 for position 2, in progress. -/
def job : Job := ⟨2, 11, 5, [1, 2], .mailbox 1, .a, 0, false, 0, false⟩

/-- The chain master with a command in progress. -/
def withJob (j : Job) : State := onShl (chainM) fun x => { x with cur := some j }

/-- The condition of a free chain, as a test. -/
def quiet (d : Device) : Bool :=
  d.shlFree && d.shl.mbq.isEmpty && d.shl.jobs.isEmpty && d.shl.enum.isNone && d.shl.locate.isNone && !d.shl.wokeNeeded

theorem witness_ChainCommandsEnd :
    let last := { job with tries := 3, reversed := true }
    let c := withFields (chainM) [(F.SHL_Ck_STAT_PEND 2, 1)]
    let late := max (usToTicks ((chainM).dev.get F.SHL_TIMING_RTO * 1000)) (2 * (chainM).dev.get F.SHL_LOOPDLY_DLY + usToTicks 2000)
    (chainM).dev.shl.cur = none ∧ (withJob job).dev.shl.cur = some job ∧ (withJob job).dev.limp = false ∧
      (withFields (withJob job) [(F.CLK_STAT_MODE, 6)]).dev.limp = true ∧ job.waits = false ∧ ({ job with waits := true } : Job).waits = true ∧
      late ≤ 1000000000 ∧ ¬ late ≤ 0 ∧ job.tries < 3 ∧ job.kind.oneSide = false ∧ 3 ≤ last.tries ∧ last.reversed = true ∧
      job.kind = .mailbox 1 ∧ (withJob last).dev.shl.cycle = none ∧ job.addr ≤ 64 ∧ job.opcode < 256 ∧ job.busy < 19 ∧
      7 ≤ ([1, 2, 3, 4, 5, 6, 7] : List Byte).length ∧
      (([1, 2, 3, 4, 5, 6, 7] : List Byte).drop 5).take 2 ≠ beBytes2 (crc16 (([1, 2, 3, 4, 5, 6, 7] : List Byte).take 5)) ∧
      (withJob job).dev.get (F.SHL_Ck_STAT_PEND 2) = 0 ∧ (chainM).dev.coreRuns = true ∧
      (chainM).dev.masterMay .c0 (R.SHL_MB_CTL_m 1) 0x80010B02 = true ∧ (0x80010B02 : Word).getLsbD 31 = true ∧
      (chainM).dev.get (F.SHL_MB_RES_m_STATE 1) = 0 ∧ (0x80010B02 : Word).toNat % 128 = 2 ∧ (0x80010B02 : Word).toNat / 256 % 256 = 0x0B ∧
      (withFields (chainM) [(F.SHL_MB_RES_m_STATE 1, 2)]).dev.get (F.SHL_MB_RES_m_STATE 1) = 2 ∧ up.dev.shl.role = false ∧
      c.dev.get (F.SHL_Ck_STAT_PEND 2) = 1 ∧ (chainM).dev.chainStranger 2 = false ∧ (chainM).dev.reachable 2 = true ∧
      (∀ i < (1 + 3) / 4, (chainM).dev.eccAt ((chainM).dev.get (F.SHL_MB_BUF_m_ADDR 1) * 4 + 4 * i) = none) := by decide +kernel

theorem witness_free_chain :
    (chainM).dev.chainQuiet ∧ ({ (withJob job).dev with shl.cur := none } : Device).chainQuiet ∧
      ({ (onShl (chainM) fun x => { x with toneOn := true }).dev with shl.toneOn := false } : Device).chainQuiet := by
  simp only [Device.chainQuiet]; decide +kernel

theorem witness_ChainLoop :
    let r : EnumRun := ⟨.a, 1, [1, 2, 3], [], false, none, none, true⟩
    let b := onShl (chainM) fun x => { x with bcast := true }
    let e := onShl (chainM [(F.SHL_STAT_STATE, 1)]) fun x => { x with bcast := true, enum := some r }
    let h := onShl (chainM [(F.SHL_STAT_STATE, 3)]) fun x => { x with bcast := true }
    b.dev.shl.role = true ∧ b.dev.shl.bcast = true ∧ b.dev.get F.SHL_STAT_STATE = 2 ∧ b.dev.shl.enum = none ∧
      e.dev.get F.SHL_STAT_STATE ≠ 3 ∧ e.dev.shl.enum = some r ∧ r.waitLoop = true ∧
      (∀ k ∈ (List.range (e.dev.get F.SHL_CFG_NCOMP)).map (· + 1), k ∈ r.foundA) ∧ e.dev.shl.jobs = [] ∧ e.dev.shl.mbq = [] ∧
      e.dev.shl.cycle = none ∧ b.dev.get F.SHL_LOOPDLY_DLY + usToTicks 5000 ≤ 1000000000 ∧
      (withJob job).dev.shl.cur ≠ none ∧ h.dev.get F.SHL_STAT_STATE = 3 ∧ h.dev.shlFree = true ∧ h.dev.shl.wokeNeeded = false ∧
      up.dev.shl.role = false := by decide +kernel

theorem witness_ChainSends :
    let cy : Cycle := ⟨7, 99, true, false, [], []⟩
    let c := onShl (chainM [(F.SHL_Ck_MAP_NCELL 2, 5)]) fun x => { x with cycle := some cy }
    let lost := chainM [(F.SHL_Ck_MAP_NCELL 2, 5), (F.SHL_Ck_STAT_REACH 2, 3)]
    let sp := chainM [(F.SHL_STAT_STATE, 3)]
    (chainM).dev.get F.SHL_TIMING_SYNCP ≤ 1000000000 ∧ (chainM).dev.get F.SHL_TIMING_PROBE * 10 ≤ 1000000000 ∧
      (chainM).dev.get F.SHL_TIMING_DLYP * 100 ≤ 1000000000 ∧ (chainM).dev.shl.cycle = none ∧ (chainM).dev.get F.SHL_STAT_STATE = 2 ∧
      (∀ k ∈ [1, 2, 3], sp.dev.reach k ≠ 3) ∧ sp.dev.get F.SHL_STAT_STATE = 3 ∧
      (∀ k ∈ [1, 2, 3], sp.dev.get (F.SHL_Ck_MAP_NCELL k) ≠ 0 → (sp.dev.reach k == 1 || sp.dev.reach k == 2) = true) ∧
      lost.dev.get (F.SHL_Ck_MAP_NCELL 2) ≠ 0 ∧ (lost.dev.reach 2 == 1 || lost.dev.reach 2 == 2) = false ∧
      (chainM).dev.coreRuns = true ∧ (∀ v ∈ [1, 2, 4, 8], (chainM).dev.masterMay .c0 R.SHL_CTL (BitVec.ofNat 32 v) = true) ∧
      (withJob job).dev.shl.cur ≠ none ∧ (1 : Word).toNat % 16 = 1 ∧ (chainM [(F.SHL_STAT_STATE, 1)]).dev.get F.SHL_STAT_STATE < 2 ∧
      c.dev.shl.cycle = some cy ∧ cy.sent = true ∧ cy.begun = false ∧ c.dev.readOrder = [1, 2, 3] := by decide +kernel

/-- A companion with an address, at sequence number 5. -/
def comp : Companion :=
  { Companion.fresh 5 with addr := 3, boot := false, nextSeq := 5, lastSeq := 4, lastOp := 11, cache := some (0, [9]) }

/-- The machine with a companion at place 0. -/
def withComp (c : Companion) : State := onDev up fun d => { d with companions := d.companions.set 0 c }

/-- Fields of a companion written. -/
def compFields (c : Companion) (l : List (Fld × Nat)) : Companion := l.foldl (fun c p => c.put p.1 p.2) c

/-- A frame on port A with three hops. -/
def frame (seq : Byte) (p : List Byte) (ok : Bool := true) : ChainIn := ⟨.a, seq, 3, p, ok⟩

theorem witness_WakeTonesAndLatches :
    let t := onShl (chainM) fun x => { x with toneOn := true }
    let dark := (withComp (.dark 5)).dev.companion 0
    let nap := (withComp { comp with asleep := true }).dev.companion 0
    t.dev.shl.toneOn = true ∧ t.dev.shl.cycle = none ∧ (chainM).dev.shl.toneOn = false ∧ (chainM).dev.running = true ∧
      State.reset.dev.shl.toneOn = false ∧ State.reset.dev.running = false ∧ State.reset.dev.limp = false ∧ dark.powered = false ∧
      ((withComp comp).dev.companion 0).powered = true ∧ ((withComp comp).dev.companion 0).asleep = false ∧ nap.powered = true ∧
      nap.asleep = true ∧ (chainM).dev.masterMay .c0 R.SHL_CNT2 0x80000000 = true ∧ (sq .ice).dev.coreRuns = false ∧
      (sq .ice).dev.aonRuns = true := by decide +kernel

theorem witness_CompanionReplies :
    let c := (withComp comp).dev.companion 0
    let dumb := (withComp { comp with addr := 0 }).dev.companion 0
    let conv := { comp with conv := some ⟨256000, 9, 5⟩ }
    let held := compFields { comp with reply := some [1, 2] } [(F.XM_SAMPID_ID, 0x0201)]
    dumb.acts = false ∧ c.acts = true ∧ (frame 5 [] false).pcrcOk = false ∧ (frame 5 []).payload.length = 0 ∧
      (frame 5 [1, 2]).payload.length = 2 ∧ (frame 5 [1, 2, 3]).payload.length ≠ 2 ∧ conv.conv ≠ none ∧ held.conv = none ∧
      held.reply = some [1, 2] ∧ ofLe [1, 2] = held.get F.XM_SAMPID_ID ∧ c.reply = none ∧ (17 : Byte) ≠ 0 ∧ 16 < (17 : Byte).toNat ∧
      (∃ i < 2, xmReg (0xFF + i) = none) ∧ (∀ i < 2, xmReg (11 + i) ≠ none) ∧ c.cache = some (0, [9]) ∧ ofLe [4] = c.lastSeq ∧
      ofLe [5] ≠ c.lastSeq ∧ (frame 5 []).seq.toNat = c.nextSeq ∧ (frame 4 []).seq.toNat = c.lastSeq ∧
      (frame 4 []).seq.toNat ≠ c.nextSeq ∧ (frame 9 []).seq.toNat ≠ c.lastSeq ∧ (frame 5 (List.replicate 16 0)).payload.length = 16 ∧
      c.hears = true ∧ ({ comp with asleep := true } : Companion).hears = false := by decide +kernel

theorem witness_CompanionDuties :
    let c := (withComp comp).dev.companion 0
    let new := (withComp { comp with addr := 0 }).dev.companion 0
    let low := compFields comp [(F.XM_STAT_LEVEL, 2)]
    let lock := compFields comp [(F.XM_STAT_LOCK, 1)]
    new.hears = true ∧ new.addr = 0 ∧ (frame 5 [1, 0]).payload = [1, 0] ∧ (frame 5 [64, 1]).payload = [64, 1] ∧ c.addr ≠ 0 ∧
      c.acts = true ∧ ([1, 2, 3] : List Byte).length < 7 ∧ c.conv = none ∧ ({ comp with conv := some ⟨5, 5, 5⟩ } : Companion).conv ≠ none ∧
      (frame 5 []).seq.toNat = c.nextSeq ∧ (frame 5 []).pcrcOk = true ∧ c.encodingOk = true ∧ c.level ≠ 2 ∧ low.encodingOk = true ∧
      low.level = 2 ∧ (frame 5 [0x20, 1, 7, 0]).payload = [0x20, 1, 7, 0] ∧ xmReg 0xFF = none ∧
      (∃ a < 256, ∃ r, xmReg a = some r ∧ r.fields.all (fun g => g.acc == .ro) = true) ∧ lock.get F.XM_STAT_LOCK = 1 ∧
      c.get F.XM_STAT_LOCK = 0 := by
  refine ⟨by decide +kernel, by decide +kernel, rfl, rfl, by decide +kernel, by decide +kernel, by decide +kernel, by decide +kernel,
    by decide +kernel, by decide +kernel, by decide +kernel, by decide +kernel, by decide +kernel, by decide +kernel, by decide +kernel,
    rfl, by decide +kernel, ⟨12, by decide, _, rfl, by decide +kernel⟩, by decide +kernel, by decide +kernel⟩

theorem witness_CompanionEvents :
    let c := (withComp comp).dev.companion 0
    let dly := compFields comp [(F.XM_DLYA_L_DLY, 384), (F.XM_DLYA_H_DLY, 0)]
    let conv := { comp with conv := some ⟨256000, 9, 5⟩ }
    let bal := compFields { comp with bleed := .replicate 18 60 } [(F.XM_BAL_EN_L_EN, 1), (F.XM_BAL_T_i_MIN 1, 1)]
    let nap := compFields { comp with asleep := true } [(F.XM_SLP_WIN_LO, 150)]
    ({ comp with addr := 0 } : Companion).acts = false ∧ c.acts = true ∧ c.delay .a = none ∧ dly.delay .a = some 384 ∧
      (c.after 0).sampleLate (4 * 256) = true ∧ (c.after 0).sampleLate (5 * 256) = false ∧ c.pend = none ∧
      ({ comp with pend := some ⟨256000, 9, 7⟩ } : Companion).pend = some ⟨256000, 9, 7⟩ ∧ c.conv = none ∧ c.powered = true ∧ c.asleep = false ∧
      conv.conv = some ⟨256000, 9, 5⟩ ∧ conv.level = 0 ∧ conv.sleepDue = false ∧ (5 : Nat).testBit 1 = false ∧
      (c.get F.XM_BAL_CTL_TDIE : Int) * 10 ≤ 1400 ∧ bal.balEn.testBit 0 = true ∧ bal.get (F.XM_BAL_T_i_MIN 1) * 60 ≤ bal.bleed[0] ∧
      (compFields comp [(F.XM_STAT_FLAGS, 4)]).tsync = true ∧ c.tsync = false ∧ ({ comp with owWant := true } : Companion).owWant = true ∧
      c.owRun = false ∧ ({ comp with owRun := true } : Companion).owRun = true ∧ nap.asleep = true ∧
      (∃ j : Fin 18, j.val < nap.get F.XM_CFG_NCELL ∧ (0 : BitVec 10).toNat * 5 < nap.get F.XM_SLP_WIN_LO * 20) ∧
      ((withComp (.dark 5)).dev.companion 0).powered = false := by decide +kernel

/-! ### Inputs and the filter engine -/

/-- The machine with an input group changed. -/
def onGroup (s : State) (g : Fin 3) (f : InGroup → InGroup) : State :=
  onDev s fun d => { d with inp.group := d.inp.group.set g (f d.inp.group[g]) }

/-- Port 0 with two slots of 16 bits, and the IEC receiver on. -/
def port0 (l : List (Fld × Nat) := []) : State :=
  withFields up ([(F.INP_PORTp_CFG_EN 0, 1), (F.INP_PORTp_CFG_WIDTH 0, 0), (F.INP_PORTp_CFG_SLOTS 0, 1), (F.INP_IEC_CFG_EN, 1)] ++ l)

/-- The same with groups 0 and 2 locked at 48 kHz. -/
def lockedIn (l : List (Fld × Nat) := []) : State := port0 ([(F.INP_STAT_LOCK, 5), (F.INP_STAT_RATE0, 6), (F.INP_STAT_RATE2, 6)] ++ l)

theorem witness_i2s :
    let s := onGroup (port0) 0 fun x => { x with bits := some (.replicate 31 true), fsLast := true }
    let x := s.dev.group 0
    let data := (List.replicate 31 true).drop 1 ++ [true]
    s.dev.get (F.INP_PORTp_CFG_EN 0) = 1 ∧ s.dev.running = true ∧ s.dev.limp = false ∧ s.dev.get (F.INP_PORTp_CFG_EDGE 0) ≠ 1 ∧
      s.dev.get (F.INP_PORTp_CFG_FORMAT 0) = 0 ∧ false ≠ x.fsLast ∧ ¬ true ≠ x.fsLast ∧ x.bits = some (.replicate 31 true) ∧
      data.length ≠ 32 ∧ ((List.replicate 32 true).drop 1 ++ [true]).length = 32 ∧ ((port0).dev.group 0).bits = none ∧
      up.dev.get (F.INP_PORTp_CFG_EN 0) = 0 := by decide +kernel

theorem witness_InputsAndReceiver :
    let k := onGroup (port0) 0 fun x => { x with good := 64 }
    let l := lockedIn
    let w := onGroup l 0 fun x => { x with bad := 3 }
    let set := onGroup l 0 fun x => { x with since := 5000, phaseRun := 16 }
    k.dev.groupEnabled 0 = true ∧ k.dev.groupMaster 0 = false ∧ 64 ≤ (k.dev.group 0).good ∧ classify 0 48000 ≠ 0 ∧
      k.dev.bclkFits 0 (classify 0 48000) = true ∧ rateAllowed 0 (classify 0 48000) = true ∧
      (rateHz (classify 0 48000) : Rat) = 48000 ∧ (k.dev.get F.INP_STAT_LOCK).testBit 0 = false ∧
      (l.dev.get F.INP_STAT_LOCK).testBit 0 = true ∧ l.dev.unlockHolds 0 2 0 = false ∧
      (∃ y ∈ [1, 2, 3, 4, 5, 6], w.dev.unlockHolds 0 y 0 = true) ∧ (∀ y ∈ [6, 2, 4, 5], l.dev.unlockHolds 0 y 0 = false) ∧
      set.dev.atBoundary = true ∧ (set.dev.get F.INP_STAT_SETTLED).testBit 0 = false ∧ (set.dev.group 0).phaseRun = 16 ∧
      2 * ircDelay (set.dev.get (rateField 0)) ≤ (set.dev.group 0).since ∧ (l.dev.group 0).phaseRun < 16 ∧
      l.dev.masterMay .c0 R.INP_SLIPCNT 0x80000000 = true := by decide +kernel

theorem witness_receiver :
    let bits : Vector (List Bool) 2 := .replicate 2 (true :: .replicate 191 false)
    let cs := onDev (lockedIn) fun d => { d with inp := { d.inp with iec := { d.inp.iec with blockNew := some bits, blockOld := some bits } } }
    let mute := onDev (lockedIn [(F.INP_IEC_STAT_MUTED, 1)]) fun d => { d with inp := { d.inp with iec := { d.inp.iec with vClean := 192 } } }
    (port0).dev.get F.INP_IEC_CFG_EN = 1 ∧ (port0).dev.running = true ∧ up.dev.get F.INP_IEC_CFG_EN = 0 ∧
      cs.dev.inp.iec.blockNew = some bits ∧ cs.dev.inp.iec.blockOld = some bits ∧ cs.dev.locked 2 = true ∧
      cs.dev.get (F.INP_CS_A_i_BITS 0) ≠ csWord bits[0] 0 ∧ bits[0].getD 0 false = true ∧ cs.dev.get F.INP_IEC_STAT_MUTED = 0 ∧
      cs.dev.inp.iec.muteLeft = none ∧ (lockedIn).dev.inp.iec.blockNew = none ∧ mute.dev.get F.INP_IEC_STAT_MUTED = 1 ∧
      mute.dev.get F.INP_IEC_STAT_PRO = 0 ∧ mute.dev.get F.INP_IEC_STAT_NONAUDIO = 0 ∧ 192 ≤ mute.dev.inp.iec.vClean ∧
      mute.dev.masterMay .c0 R.INP_IEC_STAT 0x8000 = true := by decide +kernel

theorem witness_FilterEngine :
    let on := onDev up fun d => { d with inp := { d.inp with senseOn := true, fed := .replicate 10 448 } }
    let next := onDev up fun d => { d with inp := { d.inp with senseOn := true, fed := .replicate 10 (79 * 4096), stages := .replicate 10 63 } }
    let cap := withFields on [(F.FEN_CAP_CTL_BUSY, 1)]
    up.dev.inp.senseOn = false ∧ on.dev.inp.senseOn = true ∧ (on.dev.inp.stages[0]).testBit 0 = false ∧
      on.dev.get (F.FEN_LANE_n_PROF 0) ≠ 1 ∧ 7 * (64 * 2 ^ 0) ≤ on.dev.inp.fed[0] ∧ (next.dev.inp.stages[9]).testBit 5 = true ∧
      (next.dev.inp.stages[9]).testBit 6 = false ∧ 79 * (64 * 2 ^ 6) ≤ next.dev.inp.fed[9] ∧ (sq .ice).dev.coreRuns = false ∧
      up.dev.coreRuns = true ∧ (lockedIn).dev.locked 0 = true ∧ up.dev.masterMay .c0 R.FEN_CAP_CTL 0x10119 = true ∧
      (0x10119 : Word).toNat % 16 < 10 ∧ (0x10119 : Word).toNat / 16 % 8 ≠ 0 ∧ (0x10119 : Word).toNat / 256 % 4 < 2 ∧
      up.dev.masterMay .c0 R.FEN_CAP_CTL 0x1000A = true ∧ 10 ≤ (0x1000A : Word).toNat % 16 ∧ cap.dev.get F.FEN_CAP_CTL_BUSY = 1 ∧
      cap.dev.inp.capWait = false ∧ on.dev.get F.FEN_CAP_CTL_BUSY = 0 ∧
      up.dev.masterMay .c0 (R.FEN_SAT_n 9) 0x80000000 = true := by decide +kernel

/-! ### The ring -/

/-- A ring node in a mode and a role, its ports UP. -/
def node (mode role : Nat) (l : List (Fld × Nat) := []) : State :=
  onDev (withFields up ([(F.TRN_STAT_MODE, mode), (F.TRN_STAT_ROLE, role), (F.TRN_CFG_EN, 1), (F.TRN_STAT_NODE, 5), (F.CLK_STAT_MODE, 1)] ++ l))
    fun d => { d with trn.ports := d.trn.ports.map fun p => { p with st := .up } }

/-- A ring node's own state changed. -/
def onTrn (s : State) (f : Trn → Trn) : State := onDev s fun d => { d with trn := f d.trn }

/-- A whole frame of the ring as it stands in memory: good CRCs, 3 hops, one message and padding. -/
def ringBytes : List Byte :=
  buildFrame 0 2 100 3 (List.replicate 512 7) ((⟨0xFF, 2, 1, 0, 7, List.replicate 24 3⟩ : Msg).bytes ++ (padMsg 440).bytes) 1000 77
    (.good, .good, .good, .good)

theorem witness_RingFrames :
    let dn := onTrn (node 4 0) fun t => { t with ports := .replicate 2 TrnPort.idle }
    let tr := onTrn (node 4 0) fun t => { t with ports := t.ports.set 0 { t.ports[0] with st := .training } }
    let m := onTrn (node 1 3) fun t => { t with same := 1 }
    let sl := onTrn (node 1 0) fun t => { t with same := 16 }
    (dn.dev.trnPort .a).st = .down ∧ dn.dev.get F.TRN_STAT_MODE ≠ 0 ∧ dn.dev.get F.TRN_STAT_MODE ≠ 6 ∧
      (tr.dev.trnPort .a).st = .training ∧ (tr.dev.trnPort .b).st = .up ∧ tr.dev.get F.TRN_STAT_MODE = 4 ∧
      (tr.dev.trnPort .a).st ≠ .down ∧ ((node 1 0).dev.trnPort .a).st ≠ .down ∧ ((node 1 0).dev.trnPort .b).st = .up ∧
      m.dev.get F.TRN_STAT_LOCK = 0 ∧ m.dev.ringMaster = true ∧ m.dev.trn.same = 1 ∧ m.dev.get F.TRN_STAT_MODE = 1 ∧
      m.dev.portIsUp .a = true ∧ sl.dev.ringMaster = false ∧ sl.dev.trn.same = 16 ∧
      (node 1 2 [(F.TRN_STAT_LOCK, 1)]).dev.get F.TRN_STAT_LOCK = 1 ∧ (sq .ice).dev.pwr.seq = .ice ∧ up.dev.pwr.seq ≠ .ice ∧
      State.reset.dev.ringMember = false ∧ up.dev.trn.unwrapAt = none ∧ m.dev.ringMember = true ∧ m.dev.trn.unwrapAt = none ∧
      (onTrn m fun t => { t with stopNext := true }).dev.trn.stopNext = true ∧ m.dev.trn.stopNext = false ∧ m.dev.portIsUp .b = true ∧
      (0 : Nat) ≠ 1024 ∧ (node 1 2).dev.linkRuns = true ∧ (node 1 2).dev.ringMaster = false ∧
      ((node 1 2).dev.trnPort .a).sentFrame ≠ 100 ∧ (node 1 2).dev.trn.last = none := by decide +kernel

set_option maxRecDepth 20000 in
theorem ring_bytes_scrambled : scrambleFrame (scrambleFrame ringBytes) = ringBytes := by decide +kernel

set_option maxRecDepth 20000 in
theorem ring_bytes_good : frameCrcs ringBytes = (.good, .good, .good, .good) := by decide +kernel

theorem ring_bytes_parts : (scrambleFrame ringBytes).length = 1024 ∧ frameParts ringBytes = ⟨0, 2, 100, 3, 1000, 77⟩ ∧
    (parseMsgs 60 (slice ringBytes 528 480)).flatMap Msg.bytes = slice ringBytes 528 480 := by decide +kernel

theorem witness_ring_frame :
    let rx := scrambleFrame (scrambleFrame ringBytes)
    (scrambleFrame ringBytes).length = 1024 ∧ frameCrcs rx = (.good, .good, .good, .good) ∧ (frameParts rx).ctl % 2 = 0 ∧
      (frameParts rx).ctl.testBit 2 = false ∧ (frameParts rx).frame = 100 ∧
      (parseMsgs 60 (slice rx 528 480)).flatMap Msg.bytes = slice rx 528 480 := by
  simp only [ring_bytes_scrambled]
  exact ⟨ring_bytes_parts.1, ring_bytes_good, by rw [ring_bytes_parts.2.1]; rfl, by rw [ring_bytes_parts.2.1]; decide,
    by rw [ring_bytes_parts.2.1], ring_bytes_parts.2.2⟩

/-- A message for this node. -/
def msg (type flags : Nat) (p : List Byte) (src : Nat := 3) : Msg := ⟨5, src, type, flags, 9, p⟩

/-- A node with messages in its inbox. -/
def inbox (s : State) (l : List Msg) : State := onTrn s fun t => { t with inbox := l }

theorem ofLe_lt (l : List Byte) : ofLe l < 256 ^ l.length := by
  induction l with
  | nil => simp [ofLe]
  | cons b t ih => simp only [ofLe, List.length_cons, Nat.pow_succ]; have := b.isLt; omega

theorem ofLe_leBytes (n v : Nat) (t : List Byte) : ofLe ((leBytes n v ++ t).take n) = v % 256 ^ n := by
  induction n generalizing v with
  | zero => simp [leBytes, ofLe, Nat.mod_one]
  | succ n ih => simp [leBytes, ofLe, ih, Nat.pow_succ', Nat.mod_mul]

/-- Some message names this device's tag. -/
theorem own_tag_named (t : List Byte) : ofLe (slice (leBytes 8 ownTag ++ t) 0 8) = ownTag := by
  have h : ownTag < 256 ^ 8 := by
    refine Nat.lt_of_lt_of_le (ofLe_lt _) (Nat.pow_le_pow_right (by decide) ?_)
    simp only [List.length_take]; omega
  rw [slice, List.drop_zero, ofLe_leBytes, Nat.mod_eq_of_lt h]

/-- Some message names another tag. -/
theorem other_tag_named : ∃ p : List Byte, ofLe (slice p 0 8) ≠ ownTag := by
  by_cases h : ownTag = 0
  · exact ⟨[1], by rw [h]; decide⟩
  · exact ⟨[], by show (0 : Nat) ≠ ownTag; omega⟩

/-- Both copies of the ring's roster are lost. -/
def noRoster (s : State) : State := onDev s fun d => { d with nvs := { d.nvs with ecc := [(0xF8000, none), (0xF8840, none)] } }

theorem witness_RingMessages :
    let m := msg 1 0 (leBytes 8 5 ++ List.replicate 16 2)
    let s := inbox (node 1 2) [m]
    let c := onTrn (inbox (node 1 3) [msg 5 0 (leBytes 8 77 ++ List.replicate 64 1)]) fun t => { t with challenge := [(77, 3)] }
    let fr := msg 8 6 ([0, 0, 2, 0] ++ [7, 7])
    let cells := inbox (node 1 2 [(F.SHL_CFG_SRCNODE, 3), (F.SHL_Ck_MAP_NCELL 1, 4), (F.SHL_Ck_MAP_BASE 1, 28)])
      [msg 10 0 ([1, 1] ++ List.replicate 13 0 ++ [4])]
    let cand := noRoster (node 1 2 [(F.SYS_STRAP_MASTER_EN, 1), (F.TRN_CFG_MCAND, 1)])
    let heal := onTrn (node 1 3) fun t => { t with heals := [⟨4, 0, 3⟩] }
    up.dev.trn.inbox = [] ∧ s.dev.trn.inbox = m :: [] ∧ m.type ≠ 2 ∧ dstReserved m.dst = false ∧ dstReserved 0x90 = true ∧
      typeReserved m.type = false ∧ typeReserved 16 = true ∧ (node 1 2 [(F.TRN_STAT_NUMV, 1)]).dev.addressed (msg 16 0 []) = true ∧ s.dev.get F.TRN_STAT_ROLE ≠ 3 ∧
      (node 1 3).dev.get F.TRN_STAT_ROLE = 3 ∧ (3 : Nat) < 128 ∧ (msg 2 0 [] 130).src ≥ 128 ∧
      c.dev.trn.challenge.lookup (ofLe (slice (msg 5 0 (leBytes 8 77 ++ List.replicate 64 1)).payload 0 8)) = some 3 ∧
      (∀ q ∈ c.dev.trn.nodes, q.node < 128) ∧ fr.flags.testBit 1 = true ∧ fr.flags.testBit 2 = true ∧
      fr.payload.length = ofLe (slice fr.payload 2 2) + 4 ∧ (msg 8 6 [0, 0, 9, 0]).payload.length ≠ ofLe (slice [0, 0, 9, 0] 2 2) + 4 ∧
      (msg 8 2 []).flags.testBit 2 = false ∧ (s.dev.trn.reasm.find? fun r => r.node == 3 && r.rsp == false) = none ∧
      ((onDev (node 1 2) fun d => d.setPort .a { d.port .a with relay := some (3, .b) }).dev.port .a).relay = some (3, .b) ∧
      cells.dev.get F.SHL_CFG_EN = 0 ∧ cells.dev.get F.SHL_CFG_SRCNODE = 3 ∧ cells.dev.get (F.SHL_Ck_MAP_NCELL 1) = 4 ∧
      cells.dev.get (F.SHL_Ck_MAP_BASE 1) = 28 ∧ cand.dev.candidateNode = true ∧ (noRoster s).dev.candidateNode = false ∧
      (∃ h ∈ heal.dev.trn.heals, h.node = 4 ∧ h.neighbour = 3) ∧ (node 2 2).dev.get F.TRN_STAT_MODE = 2 ∧
      (node 2 2).dev.portIsUp .b = true ∧ (node 1 2).dev.get F.TRN_STAT_MODE ≠ 2 ∧
      (node 1 2 [(F.TRN_APP_RX_VALID, 1)]).dev.get F.TRN_APP_RX_VALID = 1 ∧ (node 1 2).dev.get F.TRN_APP_RX_VALID = 0 := by decide +kernel

/-- The entry lines of a roster with one entry. -/
def rosterBody : List Byte := leBytes 8 77 ++ [4, 0] ++ List.replicate 6 0 ++ List.replicate 2032 0xFF

/-- The ring's roster has a first copy of generation 8 with those lines, and its second copy is lost. -/
def onRoster (s : State) : State :=
  onDev s fun d => { (d.setBytes 0x300F8000 (leBytes 4 8 ++ leBytes 2 1 ++ [0, 0] ++ leBytes 4 2696699414)).setBytes 0x300F8040
    (rosterBody.take 16) with nvs := { d.nvs with ecc := [(0xF8840, none)] } }

set_option maxRecDepth 20000 in
theorem roster_crc : crc32 rosterBody = 2696699414 := by decide +kernel

set_option maxRecDepth 20000 in
theorem roster_bytes : (onRoster (node 1 3)).dev.bytes 0x300F8040 2048 = rosterBody := by decide +kernel

theorem rosterEntries_used (n : Nat) (bs : List Byte) (h : ofLe (bs.take 8) ≠ 0) : rosterEntries (n + 1) bs =
    ⟨ofLe (bs.take 8), (bs.getD 8 0).toNat, (bs.getD 9 0).toNat⟩ :: rosterEntries n (bs.drop 16) := by
  simp [rosterEntries, h]

theorem roster_first : (onRoster (node 1 3)).dev.rosterCopy true 0 = some (8, rosterEntries 128 rosterBody) := by
  have hl : (onRoster (node 1 3)).dev.nvsLost 0xF8000 2112 = false := by decide +kernel
  have hc : ofLe ((onRoster (node 1 3)).dev.bytes 0x300F8008 4) = 2696699414 := by decide +kernel
  have hg : ofLe ((onRoster (node 1 3)).dev.bytes 0x300F8000 4) = 8 := by decide +kernel
  have hb : rosterBase true 0 = 0xF8000 := rfl
  have hn : rosterCap true = 128 := rfl
  simp only [Device.rosterCopy, nvsBase, hb, hn, Nat.reduceAdd, Nat.reduceMul, roster_bytes, roster_crc, hl, hc, hg, beq_self_eq_true,
    Bool.not_false, Bool.and_self, if_true]

theorem roster_second : (onRoster (node 1 3)).dev.rosterCopy true 1 = none := by
  have hl : (onRoster (node 1 3)).dev.nvsLost 0xF8840 2112 = true := by decide +kernel
  have hb : rosterBase true 1 = 0xF8840 := rfl
  have hn : rosterCap true = 128 := rfl
  simp only [Device.rosterCopy, hb, hn, Nat.reduceAdd, Nat.reduceMul, hl, Bool.not_true, Bool.false_and, Bool.false_eq_true, if_false]

theorem roster_entries : ∃ t, rosterEntries 128 rosterBody = ⟨77, 4, 0⟩ :: t := by
  have ht : ofLe (rosterBody.take 8) = 77 ∧ (rosterBody.getD 8 0).toNat = 4 ∧ (rosterBody.getD 9 0).toNat = 0 := by decide +kernel
  have he := rosterEntries_used 127 rosterBody (by rw [ht.1]; decide)
  rw [ht.1, ht.2.1, ht.2.2] at he
  exact ⟨_, he⟩

theorem rosterList_of_first (d : Device) (ring : Bool) (g : Nat) (l : List RosterEntry) (h0 : d.rosterCopy ring 0 = some (g, l))
    (h1 : d.rosterCopy ring 1 = none) : d.rosterList ring = l := by
  simp [Device.rosterList, Device.rosterNow, h0, h1]

theorem find_head (e : RosterEntry) (t : List RosterEntry) : (e :: t).find? (fun x => x.tag == e.tag) = some e := by simp

theorem witness_roster : ∃ r, ((onRoster (node 1 3)).dev.rosterList true).find? (fun e => e.tag == 77) = some r ∧ r.index < 128 := by
  obtain ⟨t, ht⟩ := roster_entries
  rw [rosterList_of_first _ _ _ _ roster_first roster_second, ht]
  exact ⟨_, find_head ⟨77, 4, 0⟩ t, by decide⟩

theorem witness_RingDuties :
    let s := node 1 2 [(F.TRN_STAT_LOCK, 1)]
    let q := onTrn s fun t => { t with reasm := [⟨3, .a, false, 9, 1, 10, [1, 2]⟩] }
    let h := onTrn s fun t => { t with unwrapAt := some 0 }
    let cand := noRoster (node 1 2 [(F.SYS_STRAP_MASTER_EN, 1), (F.TRN_CFG_MCAND, 1)])
    (node 1 3).dev.ringMember = true ∧ (node 1 3).dev.get F.TRN_STAT_ROLE = 3 ∧ s.dev.get F.TRN_STAT_ROLE ≠ 3 ∧
      s.dev.ringMember = true ∧ s.dev.get F.TRN_STAT_LOCK = 1 ∧ s.dev.get F.TRN_STAT_NUMV = 0 ∧
      (node 1 3 [(F.TRN_NODE_k_STATE 3, 1)]).dev.get (F.TRN_NODE_k_STATE 3) = 1 ∧ (∃ r ∈ q.dev.trn.reasm, r.node = 3) ∧
      (∀ r ∈ s.dev.trn.reasm, r.node ≠ 3) ∧ s.dev.wrapPort = none ∧ (node 2 2).dev.wrapPort ≠ none ∧
      (∀ w ∈ (node 2 2).dev.wrapPort, (node 2 2).dev.portIsUp w = true) ∧ (node 2 2).dev.get F.TRN_CFG_HEAL * 96 ≤ 100000 ∧
      h.dev.trn.unwrapAt = some 0 ∧ 0 ≤ h.dev.clk.rt.frame.toNat ∧ cand.dev.ringMember = true ∧ cand.dev.candidateNode = true ∧
      (noRoster s).dev.candidateNode = false ∧ s.dev.coreRuns = true ∧ s.dev.masterMay .c0 R.TRN_APP_TX 0x80010080 = true ∧
      (0x80010080 : Word).getLsbD 31 = true ∧ (0x80010080 : Word).toNat % 256 < 129 ∧ (0x80010080 : Word).toNat / 256 % 512 ≤ 256 ∧
      s.dev.get F.TRN_APP_TX_STATE ≠ 1 ∧ (node 1 2 [(F.TRN_APP_TX_STATE, 1)]).dev.get F.TRN_APP_TX_STATE = 1 ∧
      s.dev.masterMay .c0 R.TRN_APP_RX 1 = true ∧ s.dev.masterMay .c0 R.TRN_CNT_CLR 1 = true ∧
      s.dev.masterMay .c0 (R.TRN_LANEERR_n 31) 0x80000000 = true := by decide +kernel

/-! ### Host ports -/

/-- Both ports on, with all rights, port B at address 5, and the lease with port B. -/
def host (l : List (Fld × Nat) := []) : State :=
  withFields up ([(F.HP_CFG_EN 0, 1), (F.HP_CFG_EN 1, 1), (F.SYS_STRAP_HPB_ADDR, 5), (F.HP_PRIV_MASK 0, 31), (F.HP_PRIV_MASK 1, 31),
    (F.HP_LEASE_STATE 0, 1), (F.HP_LEASE_STATE 1, 1), (F.HP_LEASE_HOLDER 0, 2), (F.HP_LEASE_HOLDER 1, 2)] ++ l)

/-- A client's port changed. -/
def onPort (s : State) (c : Client) (f : Hp → Hp) : State := onDev s fun d => d.setPort c (f (d.port c))

/-- A command of port B with sequence number 7. -/
def cmd (op flags : Nat) (p : List Byte) : Cmd := ⟨7, op, flags, p, hostFrame 7 op flags p, .port, 3⟩

/-- A machine with a command at the head of port B's queue. -/
def atHead (s : State) (k : Cmd) : State := onPort s .b fun h => { h with queue := [k] }

/-- The conditions of a command at the head, as a test. -/
def goes (s : State) (k : Cmd) : Bool :=
  decide (((atHead s k).dev.port .b).queue.head? = some k) && decide ((atHead s k).dev.headCmd .b = some k) &&
    decide ((atHead s k).dev.commandBars .b k = none)

theorem witness_HostPorts :
    let i2c := host [(F.SYS_STRAP_HPB_MODE, 1)]
    let ice := onDev (host) fun d => { d with pwr := { d.pwr with seq := .ice } }
    let f := hostFrame 7 2 0 [1, 2, 3]
    let hello := hostFrame 7 1 4 []
    let long := leBytes 2 0xA55A ++ leBytes 2 1 ++ leBytes 2 2 ++ leBytes 2 0 ++ leBytes 2 1025
    let head := long ++ leBytes 2 (crc16 long)
    let bad := (f.take 15) ++ [0, 0, 0, 0]
    (host).dev.get F.SYS_STRAP_HPB_MODE = 0 ∧ (host).dev.portServes .b = true ∧ ice.dev.portServes .b = false ∧ ice.dev.pwr.seq = .ice ∧
      ((host).dev.port .b).backlog = [] ∧ ((host).dev.port .b).dropping = 0 ∧ ((host).dev.port .b).inbuf.length + 2080 ≤ 2080 ∧
      2080 < ((host).dev.port .b).inbuf.length + 2081 ∧ i2c.dev.get F.SYS_STRAP_HPB_MODE = 1 ∧ i2c.dev.portServes .b = true ∧
      (5 : BitVec 7).toNat = i2c.dev.get F.SYS_STRAP_HPB_ADDR ∧ (6 : BitVec 7).toNat ≠ i2c.dev.get F.SYS_STRAP_HPB_ADDR ∧
      State.reset.dev.linkRuns = false ∧ (host).dev.linkRuns = true ∧ headerGood ([0x5A, 0xA5] ++ List.replicate 10 1) = false ∧
      headerGood head = true ∧ 1024 < field head 8 2 ∧ headerGood bad = true ∧ field bad 8 2 = 3 ∧ 16 + 3 ≤ bad.length ∧
      field bad 15 4 ≠ crc32 ((bad.drop 12).take 3) ∧ headerGood f = true ∧ (4 : Nat).testBit 2 = true ∧
      hello = hostFrame 7 1 4 [] ++ [] ∧ ((host).dev.port .b).queue.length < 8 ∧ (host).dev.still = false ∧
      (host [(F.HP_SEQ_SYNCED 1, 1), (F.HP_SEQ_EXP 1, 7)]).dev.exp .b = 7 ∧
      (host [(F.HP_SEQ_SYNCED 1, 1), (F.HP_SEQ_EXP 1, 15)]).dev.synced .b = true ∧ (host).dev.synced .b = false ∧
      (stillS).dev.still = true := by decide +kernel

theorem witness_HostJudgement :
    let k := cmd 2 0 []
    let ops := [0x01, 0x02, 0x03, 0x10, 0x11, 0x20, 0x30, 0x40, 0x41, 0x42, 0x43, 0x50, 0x60, 0x61, 0x62, 0x63, 0x70, 0x80, 0x90, 0xA0,
      0xA1, 0xA2, 0xA3, 0xA4, 0xA5, 0xA6, 0xA7, 0xB0, 0xB1, 0xB2, 0xB3, 0xC0, 0xC1, 0x8001]
    (atHead (host) k).dev.headCmd .b = some k ∧ (host).dev.headCmd .b = none ∧ (cmd 0x99 0 []).opcode = 0x99 ∧
      (∀ o ∈ ops, (atHead (host) (cmd o 0x100 [])).dev.opDefined .b (cmd o 0x100 []) = true ∨
        o = 0x8001 ∨ o = 0xC1) ∧
      (atHead (host) (cmd 0x99 0 [])).dev.opDefined .b (cmd 0x99 0 []) = false ∧ lenOk 0x20 [] = false ∧ lenOk 0x20 [5, 0, 0, 0] = true ∧
      (host [(F.HP_PRIV_MASK 1, 0)]).dev.privMask .b = 0 ∧ (host).dev.privMask .b &&& 2 ≠ 0 ∧
      (host [(F.HP_LEASE_HOLDER 0, 1), (F.HP_LEASE_HOLDER 1, 1)]).dev.holdsLease .b = false ∧
      (host [(F.HP_PRIV_MASK 1, 1)]).dev.hasRight .b (stateRights 9) = false ∧ ((host).dev.convOf .b 1).kind = 0 := by decide +kernel

theorem witness_HostCommandSet :
    let off := host [(F.HP_LEASE_STATE 0, 0), (F.HP_LEASE_STATE 1, 0), (F.HP_LEASE_HOLDER 0, 0), (F.HP_LEASE_HOLDER 1, 0)]
    let theirs := host [(F.HP_LEASE_HOLDER 0, 1), (F.HP_LEASE_HOLDER 1, 1)]
    let lapsed := host [(F.HP_LEASE_STATE 0, 2), (F.HP_LEASE_STATE 1, 2), (F.HP_LEASE_HOLDER 0, 1), (F.HP_LEASE_HOLDER 1, 1)]
    let at1 := fun (a n : Nat) => leBytes 4 a ++ leBytes 2 n ++ [0, 0]
    goes (host) (cmd 1 0 []) = true ∧ goes (host) (cmd 1 4 []) = true ∧ goes (host) (cmd 2 0 [1, 2]) = true ∧
      goes (host) (cmd 3 0 []) = true ∧ goes (host) (cmd 0x10 0 (at1 0xF0000000 2)) = true ∧ regionOf 0xF0000000 = .none ∧
      goes (host) (cmd 0x10 0 (at1 0x10000004 2)) = true ∧ regionOf 0x10000008 = .coreSram ∧ (host).dev.ecc = [] ∧
      goes (host) (cmd 0x11 0 (at1 0x10000004 1 ++ [1, 2, 3, 4])) = true ∧
      goes (host) (cmd 0x11 0 (at1 R.MOD_CFG 1 ++ [0xFF, 0xFF, 0xFF, 0xFF])) = true ∧ goes (host) (cmd 0x20 0 [5, 0, 0, 0]) = true ∧
      goes (host) (cmd 0x20 0 [200, 0, 0, 0]) = true ∧ goes (host) (cmd 0x30 0 [10, 0, 0, 0]) = true ∧
      goes (host) (cmd 0x30 0 [8, 0, 0, 0]) = true ∧ (host).dev.powerBusy = false ∧ (host).dev.requestBars 8 = none ∧
      (host).dev.get F.PWR_STAT_MAIN ≠ 2 ∧ (host [(F.PWR_STAT_PRES, 0)]).dev.requestBars 8 = some 4 ∧
      goes (host) (cmd 0x50 0 [1, 31, 0, 0]) = true ∧ goes (host) (cmd 0x50 0 [2, 0, 0, 0]) = true ∧
      goes off (cmd 0x40 0 []) = true ∧ goes theirs (cmd 0x40 0 []) = true ∧ goes (host) (cmd 0x41 0 []) = true ∧
      goes (host) (cmd 0x42 0 []) = true ∧ goes off (cmd 0x43 0 []) = true ∧ goes lapsed (cmd 0x43 0 []) = true ∧
      lapsed.dev.get (F.HP_LEASE_STATE 0) = 2 ∧ (lapsed.dev.port .a).busy = false ∧ (lapsed.dev.port .a).queue = [] ∧
      (host).dev.linkRuns = true ∧ (host).dev.get (F.HP_LEASE_STATE 0) = 1 := by decide +kernel

theorem witness_HostServices :
    let ring := host [(F.TRN_STAT_TRUST, 1), (F.TRN_STAT_LOCK, 1), (F.TRN_STAT_NODE, 5), (F.TRN_NODE_k_STATE 3, 1)]
    let rel := fun (n : Nat) => cmd 0x90 0 (leBytes 1 n ++ [0] ++ leBytes 2 10 ++ hostFrame 3 2 0 [])
    let conv := fun (n : Nat) => onPort (host) .b fun h => { h with convs := h.convs.set 0 ⟨n, false, []⟩ }
    let app := onPort (withFields (atHead (host) (cmd 0x8001 0 [1])) [(F.HP_FW_CTL_PEND 1, 1), (F.HP_FW_BUF_ADDR 1, 0x4000000)]) .b fun h => { h with busy := true }
    let note := onPort (host [(F.HP_CFG_NOTIFY 1, 1), (F.HP_CFG_RETX 1, 5)]) .b fun h => { h with ntf := [⟨5, hostFrame 3 0x0F00 2 [1]⟩] }
    let del := withSource (host [(F.HP_CFG_NOTIFY 1, 1)]) 5 (srcAt .delivered 3 1)
    goes (host) (cmd 0x70 0 [0, 0, 0, 0, 9, 0, 0, 0]) = true ∧ (host).dev.nvs.ecc = [] ∧ (host).dev.ecc = [] ∧
      goes (host) (cmd 0x80 0 [1, 1, 2, 0, 7, 8]) = true ∧ (host).dev.get (F.SHL_MB_RES_m_STATE 3) = 0 ∧ (host).dev.shl.role = false ∧
      goes (host) (cmd 0x80 0 [65, 1, 0, 0]) = true ∧ goes ring (rel 3) = true ∧ goes ring (rel 5) = true ∧ goes (host) (rel 3) = true ∧
      ring.dev.get F.TRN_STAT_TRUST = 1 ∧ ring.dev.get (F.TRN_NODE_k_STATE 3) = 1 ∧ (rel 3).payload.length ≤ 256 ∧
      goes (host) (cmd 0xC0 0 [1, 0, 0, 0]) = true ∧ goes (host) (cmd 0xC0 0 [4, 0, 0, 0]) = true ∧
      goes (conv 1) (cmd 0xC1 0x100 []) = true ∧ (((conv 1).dev.port .b).convs[0]).kind ≠ 0 ∧
      (∀ q ∈ ((conv 1).dev.port .b).queue, q.conv ≠ 1) ∧ goes (host [(F.HP_CFG_FWOP 1, 1)]) (cmd 0x8001 0 [1]) = true ∧
      (app.dev.port .b).queue.head? = some (cmd 0x8001 0 [1]) ∧ app.dev.get (F.HP_FW_CTL_PEND 1) = 1 ∧
      app.dev.masterMay .c0 (R.HP_FW_CTL 1) 0x00080002 = true ∧ (0x00080002 : Word).toNat / 65536 % 2048 = 8 ∧
      (∀ j < (8 + 3) / 4, app.dev.eccAt (0x10000000 + 4 * j) = none) ∧ app.dev.txn.creqWaits = false ∧
      del.dev.delivered 3 ≠ 0 ∧ del.dev.claimChoice 3 = some 5 ∧ (del.dev.port .b).ntf.length < 8 ∧ (del.dev.port .b).outBytes ≤ 4060 ∧
      note.dev.get (F.HP_CFG_RETX 1) ≤ 5 ∧ (note.dev.port .b).ntf = [⟨5, hostFrame 3 0x0F00 2 [1]⟩] ∧
      (host).dev.masterMay .c0 (R.HP_CNT2 1) 0x80000000 = true := by decide +kernel

theorem witness_relay :
    let r := onPort (atHead (host) (cmd 0x90 0 [])) .b fun h => { h with busy := true, relay := some (3, .a) }
    (r.dev.port .b).busy = true ∧ (r.dev.port .b).relay ≠ none ∧ (r.dev.port .b).queue.head? = some (cmd 0x90 0 []) ∧
      (cmd 0x90 0 []).origin = .port ∧ r.dev.txn.creqWaits = false := by decide +kernel

/-! ### Transactions, updates, the log and whole-machine statements -/

/-- An entry of a transaction: the address and the field in the first word, the value in the second. -/
def entryOf (off lsb v : Nat) (stream : Bool := false) : Entry :=
  ⟨BitVec.ofNat 32 (off + lsb * 0x1000000 + if stream then 0x400000 else 0), BitVec.ofNat 32 v⟩

/-- A staging area of port B filled. -/
def staging (s : State) (l : List Entry) : State := onDev s fun d => d.setStaged .b l

/-- A command of a bound conversation. -/
def bound (op kind : Nat) (p : List Byte) : Cmd := cmd op (kind * 256) p

/-- Both conversations open: 1 of the update service, 2 of the identity service. -/
def talking (s : State) : State :=
  onPort s .b fun h => { h with convs := (h.convs.set 0 ⟨1, false, []⟩).set 1 ⟨2, false, []⟩ }

/-- The host's state with a coefficient window of four words. -/
def windowed : State := withFields (host) [(F.TXN_CWIN_BASE_ADDR, 0x2000010), (F.TXN_CWIN_LEN_WORDS, 4)]

theorem witness_Transactions :
    let x := entryOf 0x80010 0 3
    let y := entryOf 0x80014 0 9
    let st := fun (e : Entry) => cmd 0x60 0 (leBytes 2 1 ++ [0, 0] ++ e.bytes)
    let many := (List.range 512).map fun n => entryOf (0x80018 + 4 * n) 0 1
    let off := entryOf 0x80010 3 3
    let big := entryOf 0x80010 0 0x300
    let commit := fun (e r : Nat) => cmd 0x61 0 (leBytes 4 e ++ leBytes 4 r)
    let low := withFields windowed [(F.HP_PRIV_MASK 1, 16)]
    goes windowed (st x) = true ∧ (low.dev.stageRight .b x).isSome = true ∧ goes low (st x) = true ∧
      windowed.dev.stageRight .b x = none ∧ windowed.dev.stageRight .b off = none ∧ windowed.dev.stageable off = false ∧
      windowed.dev.stageRight .b big = none ∧ windowed.dev.stageable big = true ∧ big.valueOk = false ∧
      windowed.dev.stageable x = true ∧ x.valueOk = true ∧ (∀ z ∈ [y], z.key ≠ x.key) ∧ (∀ z ∈ many, z.key ≠ x.key) ∧
      512 ≤ many.length ∧ (entryOf 0x80010 0 4).key = x.key ∧ goes windowed (cmd 0x62 0 []) = true ∧
      goes windowed (cmd 0x63 0 [0, 0, 100, 0]) = true ∧ goes windowed (commit 0 0) = true ∧ windowed.dev.flightOf .b = none ∧
      windowed.dev.staged .b = [] ∧ (staging windowed [x]).dev.staged .b ≠ [] ∧
      laterVersion (1, 0) windowed.dev.version = true ∧ laterVersion (0, 0) windowed.dev.version = false := by decide +kernel

/-- A transaction of port B in flight. -/
def flying (p : TxnPhase) (l : List (Entry × Nat)) : State :=
  onDev (staging windowed (l.map Prod.fst)) fun d =>
    d.setFlight .b (some ⟨p, 0, 0, l.map fun x => ⟨x.1, x.2⟩, 0, 3, 9, false, none⟩)

theorem witness_flights :
    let x := entryOf 0x80010 0 3
    let w := entryOf 0x104 0 77 true
    let twin := onDev (flying .judged [(w, 0)]) fun d => d.setFlight .a (some ⟨.armed 1, 0, 0, [], 0, 0, 0, false, some 1⟩)
    let f := fun (p : TxnPhase) => (flying p [(x, 3)]).dev.flightOf .b
    let p (s : State) (e : Entry) (b : Nat) := (s.dev.judgeTxn .b [e] (b, 0) false).isNone
    p windowed x 0 = true ∧ p (withFields (host) [(F.PWR_STAT_STATE, 2)]) w 0 = false ∧
      w.window = true ∧ x.window = false ∧ ((f .judged).map Flight.phase) = some .judged ∧
      ((f (.toWave3 1)).map Flight.phase) = some (.toWave3 1) ∧ ((f (.armed 1)).map Flight.phase) = some (.armed 1) ∧
      ((f (.toWave3 1)).map Flight.safe) = some false ∧ ((f (.toWave3 1)).map Flight.copy) = some none ∧
      ((f (.toWave3 1)).map fun f => f.wave 3) = some [x] ∧ x.field.isSome = true ∧
      comboReserved (windowed.dev.prospect [x]) x.addr = false ∧
      ((f (.toWave3 1)).map fun f => f.entries.any fun e => decide (3 ≤ e.wave)) = some true ∧
      (((flying (.toWave3 1) [(x, 1)]).dev.flightOf .b).map fun f => f.entries.any fun e => decide (3 ≤ e.wave)) = some false ∧
      (((flying .judged [(w, 0)]).dev.flightOf .b).map fun f => f.list.filter Entry.window) = some [w] ∧
      (flying .judged [(w, 0)]).dev.freeCopies ≠ [] ∧ windowed.dev.windowAt w.addr = some (.cur, 1) ∧ 1 < windowed.dev.winLen ∧
      twin.dev.freeCopies.length < (flying .judged [(w, 0)]).dev.freeCopies.length ∧
      windowed.dev.windowAt 0x20000000 = none ∧ windowed.dev.windowAt 0x20000104 = some (.cur, 1) ∧
      regionOf 0x20000104 = .streamLow ∧ windowed.dev.masterMay .c0 0x20000104 5 = true ∧
      windowed.dev.winWritable .cur = true ∧ windowed.dev.winWritable .old = false ∧
      (withFields windowed [(F.PWR_STAT_STATE, 3)]).dev.winWritable .cur = false ∧ windowed.dev.coreRuns = true ∧
      windowed.dev.masterPriv .c0 = true ∧ (0x80010061 : Word).getLsbD 31 = true ∧
      0x60 ≤ (0x80010061 : Word).toNat % 65536 ∧ (0x80010061 : Word).toNat % 65536 ≤ 0x63 ∧
      windowed.dev.get F.TXN_CRES_STATE = 0 ∧ (withFields windowed [(F.TXN_CRES_STATE, 1)]).dev.get F.TXN_CRES_STATE = 1 ∧
      windowed.dev.ecc = [] := by decide +kernel

theorem witness_Updates :
    let up0 := talking (host)
    let at1 := fun (s : Nat) => onDev up0 fun d => { d with nvs := { d.nvs with upd := ⟨s, 1, 384, 5, 64⟩ } }
    let trial := withFields up0 [(F.SEC_BOOT_BOOTED_TRIAL, 1)]
    let two := onDev up0 fun d => { d with nvs := { d.nvs with keys := (d.nvs.keys.set 1 ⟨1, 5⟩).set 2 ⟨1, 6⟩ } }
    let begin := fun (n h : Nat) => bound 0xA0 1 (leBytes 4 n ++ beBytes 32 h ++ [0, 0, 0, 0])
    let part := fun (o n : Nat) => bound 0xA1 1 (leBytes 4 o ++ leBytes 4 0 ++ List.replicate n 0xFF)
    let act := fun (t r : Nat) => bound 0xA4 1 (leBytes 1 t ++ leBytes 1 r ++ [0, 0])
    let key := fun (a n : Nat) => bound 0xA7 1 (leBytes 1 a ++ leBytes 1 n ++ [0, 0] ++ beBytes 32 9)
    goes up0 (begin 320 5) = true ∧ goes up0 (begin 393217 5) = true ∧ goes (at1 4) (begin 320 5) = true ∧
      goes (at1 3) (begin 384 5) = true ∧ 1 - up0.dev.get F.SEC_BOOT_LAST = 1 ∧ up0.dev.nvs.ecc = [] ∧
      goes (at1 1) (part 64 64) = true ∧ goes (at1 1) (part 0 64) = true ∧ goes (at1 1) (part 3 1) = true ∧
      goes (at1 1) (part 128 64) = true ∧ goes (at1 1) (part 320 128) = true ∧ goes up0 (part 0 64) = true ∧
      (at1 1).dev.bytes (nvsBase + slotBase 1) 64 = List.replicate 64 0xFF ∧
      goes up0 (bound 0xA2 1 []) = true ∧ goes (at1 3) (bound 0xA3 1 []) = true ∧ goes (at1 2) (bound 0xA3 1 []) = true ∧
      goes up0 (act 0 0) = true ∧ goes (at1 3) (act 1 1) = true ∧ (at1 3).dev.get F.PWR_VMON_BO_WARN = 0 ∧
      goes (withFields (at1 3) [(F.PWR_VMON_BO_WARN, 1)]) (act 1 1) = true ∧ goes up0 (bound 0xA5 1 []) = true ∧
      goes trial (bound 0xA5 1 []) = true ∧ trial.dev.get F.SEC_BOOT_BOOTED_TRIAL = 1 ∧ trial.dev.confirming = false ∧
      goes up0 (bound 0xA6 1 []) = true ∧ goes (at1 4) (bound 0xA6 1 []) = true ∧ goes up0 (key 1 4) = true ∧
      goes up0 (key 1 1) = true ∧ goes two (key 2 1) = true ∧ (two.dev.nvs.keys[1]).state = 1 ∧ (two.dev.nvs.keys[2]).state = 1 ∧
      goes up0 (key 3 2) = true ∧ goes up0 (key 0 2) = true ∧ up0.dev.nvs.resetAfter = none ∧
      trial.dev.masterMay .c0 R.SEC_CONFIRM 0x7E11 = true ∧ trial.dev.masterPriv .c0 = true ∧
      (0x7E11 : Word).toNat % 65536 = 0x7E11 ∧ trial.dev.coreRuns = true := by decide +kernel

/-- An operation of the update or the identity service with one line. -/
def oneLine (act : SecAct) (ofUpd : Bool) (reply : Bool := true) : SecOp :=
  ⟨[⟨0x80, .bytes (List.replicate 64 7), false⟩], if reply then some ⟨.b, 0, 0, [1, 2]⟩ else none, act, ofUpd, 0⟩

/-- The controller at work on an operation of port B. -/
def writing (o : SecOp) : State :=
  onDev (onPort (talking (host)) .b fun h => { h with busy := true, queue := [bound 0xA1 1 []] }) fun d =>
    { d with nvs := { d.nvs with cur := .sec, ops := [o] } }

/-- A log entry of a source and a severity. -/
def logOf (src sev : Nat) : LogEntry := { epoch := 3, rt := ⟨5, 0⟩, source := src, sev := sev, detail := 2, data := [1, 2] }

theorem witness_LineWrites :
    let req := onDev (host) fun d => { d with nvs := { d.nvs with cur := .req, req := some ⟨0xD0080, .bytes (List.replicate 64 7), false⟩ } }
    let per := onDev (host) fun d =>
      { d with sed := { d.sed with pq := [⟨9, (logOf 9 1).bytes 9⟩] }, nvs := { d.nvs with cur := .persist } }
    let w := writing (oneLine .none true)
    let m := withFields (host) [(F.NVC_ADDR_LINE, 0xD0080 / 64)]
    let bad := withFields req [(F.SED_SYSFAULT_NVS, 1)]
    (host).dev.nvs.cur = .none ∧ req.dev.nvs.cur = .req ∧ req.dev.sed.pq = [] ∧ req.dev.nvs.ops = [] ∧
      (bad.dev.word R.SED_SYSFAULT).getLsbD 2 = true ∧ w.dev.nvs.cur = .sec ∧ w.dev.nvs.ops = [oneLine .none true] ∧
      w.dev.get F.PWR_VMON_BO_WARN = 0 ∧ (writing (oneLine .none false)).dev.mayWrite (oneLine .none false) = true ∧
      (w.dev.port .b).queue.head? = some (bound 0xA1 1 []) ∧ (bound 0xA1 1 []).origin = .port ∧ w.dev.txn.creqWaits = false ∧
      (writing (oneLine .none true false)).dev.nvs.ops = [oneLine .none true false] ∧
      (oneLine (.priv .a 5) false).act = .priv .a 5 ∧ (oneLine (.key 1 2) true).act = .key 1 2 ∧
      (oneLine (.confirm 1 5 6) true).act = .confirm 1 5 6 ∧ (oneLine (.activate true) true).act = .activate true ∧
      per.dev.nvs.cur = .persist ∧ ((logOf 9 1).bytes 9).length = 32 ∧ per.dev.nvs.ops = [] ∧ per.dev.nvs.req = none ∧
      per.dev.nvs.ecc = [] ∧ entrySeq ((logOf 9 1).bytes 9) = some 9 ∧ m.dev.masterMay .c0 R.NVC_REQ 1 = true ∧
      m.dev.coreRuns = true ∧ m.dev.get F.NVC_REQ_BUSY = 0 ∧ ¬ m.dev.get F.NVC_ADDR_LINE * 64 < 0xD0080 ∧
      m.dev.get F.NVC_ADDR_LINE * 64 < 0xF0000 ∧ (host).dev.get F.NVC_ADDR_LINE * 64 < 0xD0080 ∧
      m.dev.masterPriv .c0 = true ∧ (withSt (host) .c1 [(F.ST_STATUS_PRIV, 0)]).dev.masterPriv .c1 = false := by decide +kernel

theorem witness_SedimentLog :
    let q := fun (l : List LogEntry) => onDev (host) fun d => { d with sed := { d.sed with wq := l } }
    let full := onDev (q [logOf 9 3]) fun d => { d with sed := { d.sed with pq := List.replicate 32 ⟨9, []⟩ } }
    let half := onDev (withFields (host) [(F.SED_NEXT_SEQ, 2000), (F.SED_SYSFAULT_SOFT, 1), (F.PWR_FAULT_SYSTEM, 1)]) fun d =>
      { d with sed := { d.sed with halfArmed := true } }
    let unread := fun (s : State) (v : Nat) => (s.dev.get F.SED_NEXT_SEQ + 2 ^ 33 - 1 - v) % 2 ^ 32
    (q [logOf 9 0]).dev.pwr.seq = .up ∧ (q [logOf 9 0]).dev.still = false ∧ (q [logOf 9 0]).dev.sed.gap = none ∧
      (q [logOf 9 0]).dev.sed.wq = [logOf 9 0] ∧ (host).dev.persists (logOf 9 3) = true ∧
      (host).dev.persists (logOf 9 0) = false ∧ (host).dev.persists (logOf 128 0) = true ∧ 32 ≤ full.dev.sed.pq.length ∧
      (host).dev.masterMay .c0 R.SED_ACK 5 = true ∧ half.dev.sed.halfArmed = true ∧ 1024 ≤ unread half 975 ∧
      unread half 976 < 1024 ∧ seqAfter32 975 1999 = false ∧ seqAfter32 2000 1999 = true ∧
      (host).dev.masterMay .c0 R.SED_SW_CTL 0x80002003 = true ∧ (host).dev.masterPriv .c0 = true ∧
      (0x80002003 : Word).toNat / 8192 % 8 ≤ 2 ∧ (host).dev.masterMay .c0 R.SED_SOFTFLT 0x6C0D = true ∧
      (host).dev.masterMay .portB R.SED_SYSFAULT 8 = true ∧ (host).dev.masterMay .c0 R.SED_SYSFAULT 8 = true ∧
      (half.dev.word R.SED_SYSFAULT).toNat < 16 ∧ (host).dev.masterMay .c0 R.SED_CNT2 0x80000000 = true ∧
      (host).dev.coreRuns = true := by decide +kernel

theorem witness_rosters :
    let hold := withFields (talking (host)) [(F.TRN_STAT_ROLE, 3), (F.SHL_CFG_EN, 1)]
    let held := onDev hold fun d => { d with nvs := { d.nvs with ecc := [(0xF8000, none), (0xF8840, none), (0xF9080, none), (0xF94C0, none)] } }
    let mine := onPort held .b fun h => { h with convs := h.convs.set 1 ⟨2, false, [⟨true, true, 0, 77, 6⟩]⟩ }
    let ad := fun (op kind fl tag : Nat) => bound op 2 (leBytes 1 kind ++ leBytes 1 fl ++ [0, 0] ++ leBytes 8 tag)
    let full := onPort held .b fun h => { h with convs := h.convs.set 1 ⟨2, false, List.replicate 16 ⟨true, true, 0, 99, 6⟩⟩ }
    hold.dev.ringMaster = true ∧ hold.dev.get F.SHL_CFG_EN = 1 ∧ (host).dev.ringMaster = false ∧ (host).dev.get F.SHL_CFG_EN = 0 ∧
      goes held (bound 0xB0 2 [0, 0, 60, 0]) = true ∧ goes held (bound 0xB0 2 [1, 0, 61, 0]) = true ∧
      goes (talking (host)) (bound 0xB0 2 [2, 0, 1, 0]) = true ∧ goes held (ad 0xB1 0 1 5) = true ∧ goes held (ad 0xB1 1 1 5) = true ∧
      goes mine (ad 0xB1 0 0 77) = true ∧ held.dev.rosterList true = [] ∧ held.dev.rosterGen true = 0 ∧
      held.dev.rosterList false = [] ∧ held.dev.rosterGen false = 0 ∧
      (applyChanges true [] (mine.dev.convOf .b 2).staged).map RosterEntry.tag = [77] ∧ held.dev.adoptIndex true [] 5 = some 0 ∧ ((full.dev.convOf .b 2).staged).length = 16 ∧
      goes full (ad 0xB1 0 0 5) = true ∧ goes mine (ad 0xB2 0 0 77) = true ∧ goes held (ad 0xB2 0 0 5) = true ∧
      goes full (ad 0xB2 0 0 99) = true ∧ goes mine (bound 0xB3 2 ([0, 0, 0, 0] ++ leBytes 4 0)) = true ∧
      goes held (bound 0xB3 2 ([0, 0, 0, 0] ++ leBytes 4 7)) = true ∧ (∀ e ∈ ([⟨77, 4, 0⟩] : List RosterEntry), e.index ≠ 0) ∧
      (∀ n ∈ hold.dev.trn.nodes, n.tag ≠ 5) := by decide +kernel

theorem bytes_unwritten (d : Device) (a n : Nat) (h : ∀ i < n, d.byte (a + i) = 0xFF) :
    d.bytes a n = List.replicate n 0xFF := by
  induction n generalizing a with
  | zero => rfl
  | succ n ih =>
    have h0 := h 0 (Nat.succ_pos n)
    have h1 := ih (a + 1) fun i hi => by have := h (i + 1) (by omega); rwa [show a + (i + 1) = a + 1 + i by omega] at this
    simp only [Device.bytes, Nat.add_zero] at h0 ⊢
    rw [h0, h1, List.replicate_succ]

/-- The non-volatile store lists nothing: no persistent entry. -/
theorem no_persisted (d : Device) (hm : d.mem = []) : d.persisted = [] := by
  have hb : ∀ i, i < 1024 → d.bytes (0x300F0000 + 32 * i) 32 = List.replicate 32 0xFF := fun i hi =>
    bytes_unwritten d _ _ fun j hj => by
      have h1 : 0x30000000 ≤ 0x300F0000 + 32 * i + j := by omega
      have h2 : 0x300F0000 + 32 * i + j < 0x30100000 := by omega
      simp [Device.byte, hm, Store.get, memDefault, h1, h2]
  simp only [Device.persisted, List.filterMap_eq_nil_iff, List.mem_range]
  intro i hi
  rw [hb i hi, show entrySeq (List.replicate 32 0xFF) = none by decide +kernel]
  cases d.persistLost i <;> rfl

theorem witness_persisted : (host).dev.mem = [] ∧ ((host).dev.persisted.map Prod.fst).Nodup := by
  have h : (host).dev.mem = [] := by decide +kernel
  exact ⟨h, by rw [no_persisted _ h]; exact List.nodup_nil⟩

theorem witness_VectorInstructions : upS.dev.ready .s .stream ∧ roundMode 2 ≠ none := by
  simp only [Device.ready]; decide +kernel

theorem witness_WholeMachine :
    up.pending = [] ∧ State.wf up = true ∧ up.dev.linkRuns = true ∧ up.dev.coreRuns = true ∧ up.dev.stage.frozen = false ∧
      up.dev.get F.CLK_STAT_AON_SRC = 0 ∧ up.dev.get F.CLK_AON_CTL_EN = 0 ∧ State.reset.dev.linkRuns = false ∧
      (host [(F.HP_LEASE_REMAIN 0, 2)]).dev.get (F.HP_LEASE_STATE 0) = 1 ∧
      2 ≤ (host [(F.HP_LEASE_REMAIN 0, 2)]).dev.get (F.HP_LEASE_REMAIN 0) := by decide +kernel

/-- A step from that state: the hypotheses of the invariant are met. -/
theorem witness_StepKeepsStoresCanonical : ∃ t, State.wf up = true ∧ step up = .next t :=
  ⟨_, by decide +kernel, rfl⟩

/-! ### Values that the spec states -/

/-- What a command leaves, when it answers a next state. -/
def after (i : Instr) (s : State) : State :=
  match exec i s with
  | .next t => t
  | _ => s

/-- 03_opcia_isa.md, *encoding and running MAC and EXT*: the words. -/
theorem test_mac_ext_words :
    decodeOpcia .c0 0xC2054800 = .mac .c0 2 5 9 ∧ decodeOpcia .c0 0xC4F0FA00 = .ext .c0 7 2 31 1 := by decide +kernel

/-- The same example: −2⁶⁰ in a2, and −0.25 in Q1.31. -/
theorem test_mac_ext_run :
    let s := after (.mac .c0 2 5 9) (withRegs up .c0 [(5, 0x40000000), (9, 0xC0000000)])
    ((s.dev.core .c0).acc[2]).toInt = -2 ^ 60 ∧ ((after (.ext .c0 7 2 31 1) s).dev.core .c0).reg 7 = 0xE0000000 := by
  decide +kernel

/-- R98: the corners of a division. -/
theorem test_division :
    let q := fun (i : Instr) (a b : Word) => ((after i (withRegs up .c0 [(1, a), (2, b)])).dev.core .c0).reg 3
    q (.div .c0 3 1 2) 7 0 = 0x7FFFFFFF ∧ q (.div .c0 3 1 2) 0xFFFFFFF9 0 = 0x80000000 ∧ q (.divu .c0 3 1 2) 7 0 = 0xFFFFFFFF ∧
      q (.rem .c0 3 1 2) 7 0 = 7 ∧ q (.remu .c0 3 1 2) 7 0 = 7 ∧ q (.div .c0 3 1 2) 0x80000000 0xFFFFFFFF = 0x7FFFFFFF ∧
      q (.rem .c0 3 1 2) 0x80000000 0xFFFFFFFF = 0 ∧ q (.div .c0 3 1 2) 0xFFFFFFF9 2 = 0xFFFFFFFD := by decide +kernel

/-- R441 and R526: the check values over "123456789". -/
theorem test_crc :
    let digits := (List.range 9).map fun i => BitVec.ofNat 8 (0x31 + i)
    crc16 digits = 0x29B1 ∧ crc32 digits = 0xCBF43926 := by decide +kernel

/-- FIPS 180-4: the digest of the empty string. -/
theorem test_sha256 :
    beNat (sha256 []) = 0xe3b0c44298fc1c149afbf4c8996fb92427ae41e4649b934ca495991b7852b855 := by decide +kernel

/-- R438: a frame without and with 64 bytes of payload lasts 76 and 604 bit periods. -/
theorem test_frame_lengths :
    let bits := fun (n : Nat) => 16 + 2 + 8 * (chainFrame 1 2 3 n 0 (List.replicate n 0)).length + 2
    bits 0 = 76 ∧ bits 64 = 604 := by decide +kernel

/-- R786, *straps of a made-up line-array node*: two samples of three agree. -/
theorem test_straps :
    ((up.dev.sampleStraps #v[0x17, 0x00, 0x17]).word R.SYS_STRAP) = 0x137 := by decide +kernel

/-- 08_modulator.md, *one period under a sag*: the placed edges of both sides. -/
theorem test_period_under_a_sag :
    ditherEdge 2234 5 = 139 ∧ ditherEdge 14150 5 = 884 ∧ ditherEdge 10426 5 = 651 ∧ quietMove 1024 320 96 20 372 = 416 := by
  decide +kernel

/-- 19_address_map.md, *an address and a staging entry*. -/
theorem test_addresses :
    R.SHL_Ck_OUTC 17 = 0x400C0318 ∧ R.MOD_DEADTIME = 0x40080010 ∧ (entryOf 0x80010 0 20).addr = R.MOD_DEADTIME := by decide

/-! ### Ill-formed commands are refused by their check -/

theorem test_ill_formed :
    let f : ChainIn := ⟨.a, 0, 0, List.replicate 65 0, true⟩
    let r : RingIn := ⟨.a, List.replicate 1023 0, 0, 0, .replicate 16 0⟩
    (∀ i ∈ [Instr.scrubSlot 0x10000002 .none, .scrubSlot 0x30000000 .none, .lpoCalibration 0, .i2sFrame 0 [] [],
        .i2sFrame 0 [(true, true)] [], .inputLock 1 (-1), .inputUnlock 1 0 0, .frameRepeat 1 .a (List.replicate 74 0),
        .chainReply .a (List.replicate 74 0) 0, .chainUndefinedOpcode 1 0x0E true ⟨.a, 0, 0, [], true⟩, .frameProcess r,
        .chainStatus 1 f, .assign 1 f, .readId 1 f, .chainChallenge 1 f, .delayProbe 1 f, .readSample 1 f, .writeReg 1 f,
        .collect 1 f, .balancingStop 1 f, .balancingUnlock 1 f], i.wellFormed = false) ∧
      Instr.wellFormed (.scrubSlot 0x1017FFFC .none) = true ∧
      Instr.wellFormed (.chainUndefinedOpcode 1 0x0F true ⟨.a, 0, 0, List.replicate 64 0, true⟩) = true := by decide +kernel

end Sys2Proof.Tests
end

section
/-! PROOFS. Every command and every step (O3, O4). -/

namespace Sys2Proof.Machine

/-- Every command settles: it answers a next state that differs in the device alone, and keeps canonical stores so. -/
theorem exec_settles (i : Instr) (s : State) : Settles s (exec i s) :=
  match i with
  | .registerWrite .. => execRegisterWrite_settles | .sysRejectAddrRead .. => execSysRejectAddrRead_settles
  | .blockBoundary .. => execBlockBoundary_settles | .add .. => execAdd_settles | .sub .. => execSub_settles
  | .and .. => execAnd_settles | .or .. => execOr_settles | .xor .. => execXor_settles | .sll .. => execSll_settles
  | .srl .. => execSrl_settles | .sra .. => execSra_settles | .slt .. => execSlt_settles
  | .sltu .. => execSltu_settles | .min .. => execMin_settles | .max .. => execMax_settles
  | .minu .. => execMinu_settles | .maxu .. => execMaxu_settles | .mul .. => execMul_settles
  | .mulh .. => execMulh_settles | .mulhu .. => execMulhu_settles | .div .. => execDiv_settles
  | .divu .. => execDivu_settles | .rem .. => execRem_settles | .remu .. => execRemu_settles
  | .clz .. => execClz_settles | .addi .. => execAddi_settles | .andi .. => execAndi_settles
  | .ori .. => execOri_settles | .xori .. => execXori_settles | .slti .. => execSlti_settles
  | .sltiu .. => execSltiu_settles | .slli .. => execSlli_settles | .srli .. => execSrli_settles
  | .srai .. => execSrai_settles | .rori .. => execRori_settles | .lui .. => execLui_settles
  | .addpc .. => execAddpc_settles | .lw .. => execLw_settles | .lh .. => execLh_settles | .lhu .. => execLhu_settles
  | .lb .. => execLb_settles | .lbu .. => execLbu_settles | .sw .. => execSw_settles | .sh .. => execSh_settles
  | .sb .. => execSb_settles | .storeComplete .. => execStoreComplete_settles | .beq .. => execBeq_settles
  | .bne .. => execBne_settles | .blt .. => execBlt_settles | .bge .. => execBge_settles
  | .bltu .. => execBltu_settles | .bgeu .. => execBgeu_settles | .j .. => execJ_settles | .jal .. => execJal_settles
  | .jalr .. => execJalr_settles | .mac .. => execMac_settles | .msu .. => execMsu_settles
  | .mpy .. => execMpy_settles | .mpyn .. => execMpyn_settles | .mac16 .. => execMac16_settles
  | .msu16 .. => execMsu16_settles | .ext .. => execExt_settles | .aclr .. => execAclr_settles
  | .aset .. => execAset_settles | .aadd .. => execAadd_settles | .asub .. => execAsub_settles
  | .ashl .. => execAshl_settles | .ashr .. => execAshr_settles | .ardl .. => execArdl_settles
  | .ardm .. => execArdm_settles | .ardh .. => execArdh_settles | .awrl .. => execAwrl_settles
  | .awrm .. => execAwrm_settles | .awrh .. => execAwrh_settles | .qadd .. => execQadd_settles
  | .qsub .. => execQsub_settles | .qmul .. => execQmul_settles | .qmulf .. => execQmulf_settles
  | .qneg .. => execQneg_settles | .qabs .. => execQabs_settles | .qshl .. => execQshl_settles
  | .qshr .. => execQshr_settles | .fence .. => execFence_settles | .wait .. => execWait_settles
  | .waitWake .. => execWaitWake_settles | .eret .. => execEret_settles
  | .trap _ code => execTrap_settles (_code := code) | .srd .. => execSrd_settles | .swr .. => execSwr_settles
  | .semtake .. => execSemtake_settles | .semrel .. => execSemrel_settles | .sembrk .. => execSembrk_settles
  | .take .. => execTake_settles | .done .. => execDone_settles | .vld .. => execVld_settles
  | .vst .. => execVst_settles | .vadd .. => execVadd_settles | .vsub .. => execVsub_settles
  | .vqadd .. => execVqadd_settles | .vqsub .. => execVqsub_settles | .vqmul .. => execVqmul_settles
  | .vmin .. => execVmin_settles | .vmax .. => execVmax_settles | .vqabs .. => execVqabs_settles
  | .vqneg .. => execVqneg_settles | .vand .. => execVand_settles | .vor .. => execVor_settles
  | .vxor .. => execVxor_settles | .vsra .. => execVsra_settles | .vqshl .. => execVqshl_settles
  | .vmaca .. => execVmaca_settles | .vmsua .. => execVmsua_settles | .vmpya .. => execVmpya_settles
  | .vmacw .. => execVmacw_settles | .vmpyw .. => execVmpyw_settles | .vext .. => execVext_settles
  | .vaclr .. => execVaclr_settles | .vaset .. => execVaset_settles | .vsplat .. => execVsplat_settles
  | .vget .. => execVget_settles | .vput .. => execVput_settles | .vmovq .. => execVmovq_settles
  | .vrot .. => execVrot_settles | .vlds .. => execVlds_settles | .vsts .. => execVsts_settles
  | .blkend .. => execBlkend_settles | .undefInstruction .. => execUndefInstruction_settles
  | .eventException .. => execEventException_settles | .streamOverrun => execStreamOverrun_settles
  | .scrubSlot .. => execScrubSlot_settles | .stSctlRunWrite .. => execStSctlRunWrite_settles
  | .stSentryWrite .. => execStSentryWrite_settles | .stOvrcntClr .. => execStOvrcntClr_settles
  | .stEndmaxClr .. => execStEndmaxClr_settles | .bootRom .. => execBootRom_settles
  | .evcDelivery => execEvcDelivery_settles | .moderationExpire .. => execModerationExpire_settles
  | .eventFire .. => execEventFire_settles | .evcClaim .. => execEvcClaim_settles | .evcDone .. => execEvcDone_settles
  | .evcPset .. => execEvcPset_settles | .evcPclr .. => execEvcPclr_settles
  | .evcSrcWrite .. => execEvcSrcWrite_settles | .evcTgtCtlWrite .. => execEvcTgtCtlWrite_settles
  | .evcTgtModWrite .. => execEvcTgtModWrite_settles | .evcCtlGenWrite .. => execEvcCtlGenWrite_settles
  | .wakeLatchSet .. => execWakeLatchSet_settles | .gateEnd .. => execGateEnd_settles
  | .refSourceAbsent => execRefSourceAbsent_settles | .dwellExpire => execDwellExpire_settles
  | .refRevert => execRefRevert_settles | .slewComplete .. => execSlewComplete_settles
  | .ringSlaveAcquire => execRingSlaveAcquire_settles | .acquireComplete .. => execAcquireComplete_settles
  | .ringHoldSteer .. => execRingHoldSteer_settles | .alignOut .. => execAlignOut_settles
  | .alignReturn .. => execAlignReturn_settles | .pllLock => execPllLock_settles
  | .pllUnlock .. => execPllUnlock_settles | .analogRelock => execAnalogRelock_settles
  | .limpReturn => execLimpReturn_settles | .ringTimeRead .. => execRingTimeRead_settles
  | .aonTimer .. => execAonTimer_settles | .lpoCalibration .. => execLpoCalibration_settles
  | .xtalStartTimeout => execXtalStartTimeout_settles | .porRise => execPorRise_settles
  | .aonPorRelease => execAonPorRelease_settles | .porFall => execPorFall_settles
  | .pgAuxRise .. => execPgAuxRise_settles | .seqGapExpire .. => execSeqGapExpire_settles
  | .dividerRelease => execDividerRelease_settles | .pgtoExpire => execPgtoExpire_settles
  | .seqRetryExpire => execSeqRetryExpire_settles | .pgAuxFall .. => execPgAuxFall_settles
  | .brownout .. => execBrownout_settles | .brownoutWarn .. => execBrownoutWarn_settles
  | .reqReady .. => execReqReady_settles | .reqPlay .. => execReqPlay_settles | .reqStill .. => execReqStill_settles
  | .reqIce .. => execReqIce_settles | .reqSafe .. => execReqSafe_settles
  | .exitSafeToReady .. => execExitSafeToReady_settles | .exitSafeToPlay .. => execExitSafeToPlay_settles
  | .mainClose .. => execMainClose_settles | .mainOpen .. => execMainOpen_settles
  | .stillEnter => execStillEnter_settles | .stillWaitTimeout => execStillWaitTimeout_settles
  | .stillWake => execStillWake_settles | .stillUngate => execStillUngate_settles | .iceWake => execIceWake_settles
  | .rstPin .. => execRstPin_settles | .wdogStart .. => execWdogStart_settles | .wdogKick .. => execWdogKick_settles
  | .wdogWarn => execWdogWarn_settles | .wdogExpire => execWdogExpire_settles
  | .softwareReset .. => execSoftwareReset_settles | .coreReset .. => execCoreReset_settles
  | .prechargeStart => execPrechargeStart_settles | .prechargeEnd => execPrechargeEnd_settles
  | .pchgOverlapEnd => execPchgOverlapEnd_settles | .pchgTimeout => execPchgTimeout_settles
  | .presLost => execPresLost_settles | .presGained => execPresGained_settles
  | .bootstrapStart => execBootstrapStart_settles | .rampInEnd => execRampInEnd_settles
  | .rampOutEnd => execRampOutEnd_settles | .pwrFaultClear .. => execPwrFaultClear_settles
  | .auxConverterSample .. => execAuxConverterSample_settles | .wakePin => execWakePin_settles
  | .i2sFrame .. => execI2sFrame_settles | .iecSubframe .. => execIecSubframe_settles
  | .inputLock .. => execInputLock_settles | .inputUnlock .. => execInputUnlock_settles
  | .csCapture => execCsCapture_settles | .iecUnmute => execIecUnmute_settles | .ircSettle .. => execIrcSettle_settles
  | .inpSlip .. => execInpSlip_settles | .inpIecStatPclr .. => execInpIecStatPclr_settles
  | .inpSlipcntClr .. => execInpSlipcntClr_settles | .laneSettled .. => execLaneSettled_settles
  | .fenEccError .. => execFenEccError_settles | .fenCaptureStart .. => execFenCaptureStart_settles
  | .fenCaptureDone .. => execFenCaptureDone_settles | .fenSatClr .. => execFenSatClr_settles
  | .carrierPeriod .. => execCarrierPeriod_settles | .noiseShaperReset .. => execNoiseShaperReset_settles
  | .bootstrapRefresh .. => execBootstrapRefresh_settles | .overcurrent .. => execOvercurrent_settles
  | .stackOvercurrent => execStackOvercurrent_settles | .interlock .. => execInterlock_settles
  | .extFault => execExtFault_settles | .vdrvLockout => execVdrvLockout_settles
  | .bootstrapLockout .. => execBootstrapLockout_settles | .gdvFaultClear .. => execGdvFaultClear_settles
  | .modOverrideWrite .. => execModOverrideWrite_settles | .modRffLimcntClr .. => execModRffLimcntClr_settles
  | .gdvOcCntClr .. => execGdvOcCntClr_settles | .streamDebugHalt => execStreamDebugHalt_settles
  | .streamDebugResume => execStreamDebugResume_settles | .sDebugHalt => execSDebugHalt_settles
  | .sDebugResume => execSDebugResume_settles | .pilotWindowEnd .. => execPilotWindowEnd_settles
  | .broadbandReport .. => execBroadbandReport_settles | .estimatorBlind .. => execEstimatorBlind_settles
  | .estimatorBlindLong .. => execEstimatorBlindLong_settles | .guardRecovery .. => execGuardRecovery_settles
  | .ratchetReleaseEnd .. => execRatchetReleaseEnd_settles | .grdXClr .. => execGrdXClr_settles
  | .grdLineEcc .. => execGrdLineEcc_settles | .diagPrestart .. => execDiagPrestart_settles
  | .diagSweep .. => execDiagSweep_settles | .diagAbort .. => execDiagAbort_settles
  | .prestartStepEnd .. => execPrestartStepEnd_settles | .sweepPointEnd .. => execSweepPointEnd_settles
  | .dcOnLoad .. => execDcOnLoad_settles | .diagHoldClear .. => execDiagHoldClear_settles
  | .weirReady .. => execWeirReady_settles | .weirCancel .. => execWeirCancel_settles
  | .taskStarved .. => execTaskStarved_settles | .chainStatus .. => execChainStatus_settles
  | .assign .. => execAssign_settles | .unassign .. => execUnassign_settles | .readId .. => execReadId_settles
  | .chainChallenge .. => execChainChallenge_settles | .delayProbe .. => execDelayProbe_settles
  | .timeSet .. => execTimeSet_settles | .sampleAt .. => execSampleAt_settles
  | .readSample .. => execReadSample_settles | .readReg .. => execReadReg_settles
  | .writeReg .. => execWriteReg_settles | .collect .. => execCollect_settles | .sleep .. => execSleep_settles
  | .loop .. => execLoop_settles | .chainUndefinedOpcode .. => execChainUndefinedOpcode_settles
  | .frameRepeat .. => execFrameRepeat_settles | .chainReply .. => execChainReply_settles
  | .nakBusyResend => execNakBusyResend_settles | .attemptTimeout .. => execAttemptTimeout_settles
  | .broadcastLoss .. => execBroadcastLoss_settles | .chainProbe .. => execChainProbe_settles
  | .chainHeal => execChainHeal_settles | .shlCtlEnum .. => execShlCtlEnum_settles
  | .delayMeasure .. => execDelayMeasure_settles | .timeSetSend .. => execTimeSetSend_settles
  | .loopSend .. => execLoopSend_settles | .sampleReadStart => execSampleReadStart_settles
  | .chnWake .. => execChnWake_settles | .shlCtlWake .. => execShlCtlWake_settles
  | .shlCtlSleep .. => execShlCtlSleep_settles | .shlCtlUnassign .. => execShlCtlUnassign_settles
  | .mailboxGo .. => execMailboxGo_settles | .portJam .. => execPortJam_settles
  | .shlCntClr .. => execShlCntClr_settles | .sampleHold .. => execSampleHold_settles
  | .conversionComplete .. => execConversionComplete_settles | .balanceSchedule .. => execBalanceSchedule_settles
  | .balanceTimerExpire .. => execBalanceTimerExpire_settles | .balancingStop .. => execBalancingStop_settles
  | .balancingUnlock .. => execBalancingUnlock_settles | .tsyncTimeout .. => execTsyncTimeout_settles
  | .openWireTest .. => execOpenWireTest_settles | .openWireTestEnd .. => execOpenWireTestEnd_settles
  | .sleepWindowCheck .. => execSleepWindowCheck_settles | .xmSupplyLoss .. => execXmSupplyLoss_settles
  | .xmPowerUp .. => execXmPowerUp_settles | .frameOriginate .. => execFrameOriginate_settles
  | .frameProcess .. => execFrameProcess_settles | .portUp .. => execPortUp_settles
  | .portDown .. => execPortDown_settles | .ringLock => execRingLock_settles
  | .ringLockLoss .. => execRingLockLoss_settles | .beacon => execBeacon_settles
  | .beaconSend => execBeaconSend_settles | .tarnStatus => execTarnStatus_settles
  | .statusSend => execStatusSend_settles | .joinReq => execJoinReq_settles | .joinReqSend => execJoinReqSend_settles
  | .tarnChallenge => execTarnChallenge_settles | .response => execResponse_settles
  | .tarnAdmit => execTarnAdmit_settles | .leave => execLeave_settles | .nodeLost .. => execNodeLost_settles
  | .hostReq => execHostReq_settles | .hostRsp => execHostRsp_settles
  | .reassemblyTimeout .. => execReassemblyTimeout_settles | .cells => execCells_settles
  | .roster => execRoster_settles | .rosterSend => execRosterSend_settles
  | .healDwellExpire .. => execHealDwellExpire_settles | .healReady => execHealReady_settles
  | .unwrap => execUnwrap_settles | .ringHeal => execRingHeal_settles | .tarnNak => execTarnNak_settles
  | .tarnUnknownMessage => execTarnUnknownMessage_settles | .tarnApp => execTarnApp_settles
  | .trnAppGo .. => execTrnAppGo_settles | .trnAppRelease .. => execTrnAppRelease_settles
  | .trnCntClr .. => execTrnCntClr_settles | .trnLaneerrClr .. => execTrnLaneerrClr_settles
  | .masterTakeover .. => execMasterTakeover_settles | .ringActivityDetect => execRingActivityDetect_settles
  | .spiTransaction .. => execSpiTransaction_settles | .i2cTransfer .. => execI2cTransfer_settles
  | .hostFrame .. => execHostFrame_settles | .hello .. => execHello_settles | .ping .. => execPing_settles
  | .status .. => execStatus_settles | .regRead .. => execRegRead_settles | .regWrite .. => execRegWrite_settles
  | .evtDone .. => execEvtDone_settles | .stateReq .. => execStateReq_settles
  | .leaseAcquire .. => execLeaseAcquire_settles | .leaseRenew .. => execLeaseRenew_settles
  | .leaseRelease .. => execLeaseRelease_settles | .leaseBreak .. => execLeaseBreak_settles
  | .leaseExpired => execLeaseExpired_settles | .setPriv .. => execSetPriv_settles
  | .txnStage .. => execTxnStage_settles | .txnCommit .. => execTxnCommit_settles
  | .txnDiscard .. => execTxnDiscard_settles | .txnQuery .. => execTxnQuery_settles
  | .logRead .. => execLogRead_settles | .chnCmd .. => execChnCmd_settles | .relay .. => execRelay_settles
  | .relayTimeout .. => execRelayTimeout_settles | .updBegin .. => execUpdBegin_settles
  | .updData .. => execUpdData_settles | .updStatus .. => execUpdStatus_settles
  | .updVerify .. => execUpdVerify_settles | .updActivate .. => execUpdActivate_settles
  | .activateReset => execActivateReset_settles | .updConfirm .. => execUpdConfirm_settles
  | .updAbort .. => execUpdAbort_settles | .updKey .. => execUpdKey_settles | .idList .. => execIdList_settles
  | .idAdopt .. => execIdAdopt_settles | .idRevoke .. => execIdRevoke_settles | .idCommit .. => execIdCommit_settles
  | .convOpen .. => execConvOpen_settles | .convClose .. => execConvClose_settles
  | .convTimeout .. => execConvTimeout_settles | .app .. => execApp_settles
  | .hostUnknownOpcode .. => execHostUnknownOpcode_settles | .fwResponseDone .. => execFwResponseDone_settles
  | .notifyClaim .. => execNotifyClaim_settles | .notifyRetx .. => execNotifyRetx_settles
  | .hpCntClr .. => execHpCntClr_settles | .txnArmed .. => execTxnArmed_settles | .txnWave3 .. => execTxnWave3_settles
  | .cwinWrite .. => execCwinWrite_settles | .txnCreqGo .. => execTxnCreqGo_settles
  | .logEntryWrite => execLogEntryWrite_settles | .persistWrite .. => execPersistWrite_settles
  | .sedAckWrite .. => execSedAckWrite_settles | .softwareEntry .. => execSoftwareEntry_settles
  | .softFault .. => execSoftFault_settles | .sedSysfaultClear .. => execSedSysfaultClear_settles
  | .sedCntClr .. => execSedCntClr_settles | .semBrkcntClr .. => execSemBrkcntClr_settles
  | .nvsLineWrite .. => execNvsLineWrite_settles | .nvcReqGo .. => execNvcReqGo_settles
  | .secConfirm .. => execSecConfirm_settles | .rngRead .. => execRngRead_settles
  | .debugLock .. => execDebugLock_settles | .tapHaltRequest .. => execTapHaltRequest_settles
  | .tapRelease .. => execTapRelease_settles | .portTraining .. => execPortTraining_settles
  | .vdrvLockoutRelease => execVdrvLockoutRelease_settles
  | .bootstrapLockoutRelease .. => execBootstrapLockoutRelease_settles | .wakeToneEnd .. => execWakeToneEnd_settles
  | .imageLineWrite .. => execImageLineWrite_settles

/-- A step keeps the stores canonical, whether a command or an idle cycle makes it. -/
theorem step_keeps_wf {s t : State} (hs : State.wf s = true) (h : step s = .next t) : State.wf t = true := by
  unfold step at h
  split at h
  · cases h
    exact Device.tick_wf hs
  · rename_i c rest _
    obtain ⟨d, hd, keeps⟩ := exec_settles c { s with pending := rest }
    rw [hd] at h
    cases h
    exact keeps hs

/-- Settles O3: every meaning is a change of the device alone. -/
theorem everyCommandCompletes : Obligations.EveryCommandCompletes := by
  intro i s
  obtain ⟨d, hd, -⟩ := exec_settles i s
  exact ⟨_, hd, rfl⟩

/-- Settles O4: by the invariant of every command's meaning and of the idle cycle. -/
theorem stepKeepsStoresCanonical : Obligations.StepKeepsStoresCanonical := fun _ _ hs h => step_keeps_wf hs h

end Sys2Proof.Machine
end

section
/-! PROOFS. The reads that act (O24), with what direct reads and single word writes do. -/

namespace Sys2Proof.Machine

/-! ### Commands that change the device -/

/-- A command whose change leaves the device as it is leaves the state as it is. -/
theorem State.on_eq_self {s : State} {f : Device → Device} (h : f s.dev = s.dev) : s.on f = .next s := by
  unfold State.on; rw [h]

/-! ### Words of the register file -/

theorem Device.word_setWord_same (d : Device) (a : Nat) (w : Word) : (d.setWord a w).word a = w :=
  RegMap.word_setWord_same _ _ _

theorem Device.word_setWord_ne (d : Device) {a b : Nat} (w : Word) (h : b ≠ a) : (d.setWord a w).word b = d.word b :=
  RegMap.word_setWord_ne _ _ h

theorem Device.word_put_ne (d : Device) (f : Fld) (v : Nat) {a : Nat} (h : a ≠ f.addr) :
    (d.put f v).word a = d.word a := RegMap.word_put_ne _ _ _ h

theorem Device.get_put_same (d : Device) (f : Fld) (v : Nat) (h : f.fits = true) :
    (d.put f v).get f = v % 2 ^ f.width := RegMap.get_put_same _ _ _ h

theorem Device.get_put_apart (d : Device) (f g : Fld) (v : Nat) (hf : f.fits = true) (h : f.apart g = true) :
    (d.put f v).get g = d.get g := RegMap.get_put_apart _ _ _ _ hf h

theorem Device.get_setWord_ne (d : Device) (a : Nat) (w : Word) (g : Fld) (h : g.addr ≠ a) :
    (d.setWord a w).get g = d.get g := RegMap.get_setWord_ne _ _ _ _ h

theorem fieldOf_whole (w : Word) : fieldOf w 0 32 = w.toNat := by
  have := w.isLt
  unfold fieldOf; omega

theorem Device.wrote_setWord (d : Device) (a : Nat) (w : Word) : d.wrote (d.setWord a w) [(a, w)] := by
  refine ⟨rfl, fun x => ?_⟩
  by_cases h : x = a
  · subst h
    simpa [List.lookup] using d.word_setWord_same x w
  · simpa [List.lookup, beq_false_of_ne h] using d.word_setWord_ne w h

/-- Writing a field is writing one word. -/
theorem Device.wrote_put (d : Device) (f : Fld) (v : Nat) :
    d.wrote (d.put f v) [(f.addr, putField (d.word f.addr) f.lsb f.width v)] := d.wrote_setWord _ _

/-- Two words written one after the other. -/
theorem Device.wrote_setWord_setWord (d : Device) {a b : Nat} (v w : Word) (hab : a ≠ b) :
    d.wrote ((d.setWord a v).setWord b w) [(a, v), (b, w)] := by
  refine ⟨rfl, fun x => ?_⟩
  by_cases hb : x = b
  · subst hb
    simpa [List.lookup, beq_false_of_ne hab.symm] using Device.word_setWord_same _ x w
  · rw [Device.word_setWord_ne _ _ hb]
    by_cases ha : x = a
    · subst ha
      simpa using Device.word_setWord_same d x v
    · simpa [List.lookup, beq_false_of_ne ha, beq_false_of_ne hb] using d.word_setWord_ne v ha

/-! ### Peripheral addresses (R732) -/

theorem regionOf_periph {a : Nat} (lo : 0x40000000 ≤ a) (hi : a < 0x40160000) : regionOf a = .periph := by
  unfold regionOf
  repeat rw [if_neg (by omega)]
  exact if_pos hi

theorem wordAddr_of_aligned {a : Nat} (h : a % 4 = 0) : wordAddr a = a := Nat.div_mul_cancel (Nat.dvd_of_mod_eq_zero h)

/-! ### Direct reads -/

theorem Device.directRead_barred {d : Device} {m : Master} (h : d.masterReads m = false) (a : Nat) :
    d.directRead m a = d := by simp [Device.directRead, h]

/-- A direct read of a register by a master that may make it: the word read stays with the master. -/
theorem Device.directRead_register {d : Device} {m : Master} {a : Nat} (run : d.coreRuns = true)
    (may : d.masterReads m = true) (al : a % 4 = 0) (lo : 0x40000000 ≤ a) (hi : a < 0x40160000) :
    d.directRead m a = { (d.regRead a).2 with lastRead := (d.regRead a).1 } := by
  simp [Device.directRead, Device.readCommand, Device.busRead, Device.regionRead, run, may, wordAddr_of_aligned al,
    regionOf_periph lo hi]

theorem Device.regRead_rejectAddr (d : Device) : d.regRead R.SYS_REJECT_ADDR =
    (d.word R.SYS_REJECT_ADDR, (d.setWord R.SYS_REJECT_ADDR 0).setWord R.SYS_REJECT_CNT 0) := by
  simp [Device.regRead]

theorem Device.regRead_ringTime (d : Device) : d.regRead R.CLK_RT_SUB = d.readRingTime := by
  have hc : claimIndex R.CLK_RT_SUB = none := by decide
  have hr : R.CLK_RT_SUB ≠ R.SYS_REJECT_ADDR := by decide
  simp [Device.regRead, hc, hr]

theorem Device.regRead_rng (d : Device) :
    d.regRead R.SEC_RNG = (Config.freeWord d.freshN, { d with freshN := d.freshN + 1 }) := by
  have hc : claimIndex R.SEC_RNG = none := by decide
  have hr : R.SEC_RNG ≠ R.SYS_REJECT_ADDR := by decide
  have ht : R.SEC_RNG ≠ R.CLK_RT_SUB := by decide
  simp [Device.regRead, hc, hr, ht]

/-- The latched halves of the frame count are the frame count (R174). -/
theorem Device.readRingTime_frame (d : Device) :
    d.readRingTime.2.get F.CLK_RT_FL_FRAME + 2 ^ 32 * d.readRingTime.2.get F.CLK_RT_FH_FRAME = d.clk.rt.frame.toNat := by
  have hlt := d.clk.rt.frame.isLt
  unfold Device.readRingTime
  dsimp only
  rw [Device.get_put_apart _ _ F.CLK_RT_FL_FRAME _ (by decide) (by decide),
    Device.get_put_apart _ _ F.CLK_RT_FL_FRAME _ (by decide) (by decide), Device.get_put_same _ _ _ (by decide),
    Device.get_put_apart _ _ F.CLK_RT_FH_FRAME _ (by decide) (by decide), Device.get_put_same _ _ _ (by decide)]
  simp only [F.CLK_RT_FL_FRAME, F.CLK_RT_FH_FRAME]
  omega

theorem Device.readRingTime_word (d : Device) {a : Nat} (hl : a ≠ R.CLK_RT_FL) (hh : a ≠ R.CLK_RT_FH)
    (hs : a ≠ R.CLK_RT_SUB) : d.readRingTime.2.word a = d.word a := by
  unfold Device.readRingTime
  dsimp only
  rw [Device.word_put_ne _ _ _ hs, Device.word_put_ne _ _ _ hh, Device.word_put_ne _ _ _ hl]

/-- A command that reads a register directly, by a master that may: the register's own read, whose word stays with the
master. -/
theorem exec_read {i : Instr} {s : State} {m : Master} {a : Nat} (h : exec i s = s.on fun d => d.directRead m a)
    (run : s.dev.coreRuns = true) (may : s.dev.masterReads m = true) (al : a % 4 = 0) (lo : 0x40000000 ≤ a)
    (hi : a < 0x40160000) :
    exec i s = .next { s with dev := { (s.dev.regRead a).2 with lastRead := (s.dev.regRead a).1 } } := by
  rw [h, State.on, Device.directRead_register run may al lo hi]

/-- A command that reads a register directly, by a host that may not. -/
theorem exec_read_barred {i : Instr} {s : State} {m : Master} {a : Nat}
    (h : exec i s = s.on fun d => d.directRead m a) (bar : s.dev.masterReads m = false) : exec i s = .next s := by
  rw [h, State.on, Device.directRead_barred bar]

/-- Settles O24: each of the three reads is `regRead` at its address, and a barred host stops at the judgement before
it. -/
theorem actingReads : Obligations.ActingReads := by
  unfold Obligations.ActingReads
  intro s m run
  dsimp only
  have reject : exec (.sysRejectAddrRead m) s = s.on fun d => d.directRead m R.SYS_REJECT_ADDR := rfl
  have time : exec (.ringTimeRead m) s = s.on fun d => d.directRead m R.CLK_RT_SUB := rfl
  have rng : exec (.rngRead m) s = s.on fun d => d.directRead m R.SEC_RNG := rfl
  refine ⟨fun may => ⟨⟨_, exec_read reject run may (by decide) (by decide) (by decide), rfl, ?_⟩,
    ⟨_, exec_read time run may (by decide) (by decide) (by decide), rfl, ?_⟩, ?_⟩, fun bar =>
    ⟨exec_read_barred reject bar, exec_read_barred time bar, exec_read_barred rng bar⟩⟩
  · rw [Device.regRead_rejectAddr]
    exact Device.wrote_setWord_setWord { s.dev with lastRead := s.dev.word R.SYS_REJECT_ADDR } 0 0
      (show R.SYS_REJECT_ADDR ≠ R.SYS_REJECT_CNT by decide)
  · rw [Device.regRead_ringTime]
    exact ⟨rfl, s.dev.readRingTime_frame, fun a hl hh hs => s.dev.readRingTime_word hl hh hs⟩
  · rw [exec_read rng run may (by decide) (by decide) (by decide), Device.regRead_rng]

end Sys2Proof.Machine
end

section
/-! PROOFS. The direct write of a register (O23), with what a fire, an entry of the log and a rejection do. -/

namespace Sys2Proof.Machine

/-! ### The log after a fire -/

theorem length_placeBefore (e : LogEntry) (l : List LogEntry) : (placeBefore e l).length = l.length + 1 := by
  induction l with
  | nil => rfl
  | cons x t ih =>
    unfold placeBefore
    split
    · simp [ih]
    · rfl

theorem length_placeEntry (q : List LogEntry) (e : LogEntry) : (placeEntry q e).length = q.length + 1 := by
  simp [placeEntry, length_placeBefore]

theorem length_foldl_placeEntry (es q : List LogEntry) : (es.foldl placeEntry q).length = q.length + es.length := by
  induction es generalizing q with
  | nil => rfl
  | cons x t ih => rw [List.foldl_cons, ih, length_placeEntry, List.length_cons]; omega

theorem Device.log_evc (d : Device) (n sev detail : Nat) (data : List Byte) : (d.log n sev detail data).evc = d.evc := by
  unfold Device.log Device.logEntry
  split <;> split <;> rfl

theorem Device.log_source (d : Device) (n sev detail : Nat) (data : List Byte) (m : Fin 128) :
    (d.log n sev detail data).source m = d.source m := by
  unfold Device.source; rw [Device.log_evc]

/-- Where the log of `d` has room for an entry, `e` has the same log with at most one more entry in the queue. -/
def Device.logsOne (d e : Device) : Prop :=
  d.sed.gap = none → d.sed.wq.length < logQueueCap →
    e.sed.gap = none ∧ ∃ more : List LogEntry, more.length ≤ 1 ∧ e.sed.wq = more.foldl placeEntry d.sed.wq

theorem Device.logsOne_of_sed {d e : Device} (h : e.sed = d.sed) : d.logsOne e :=
  fun hg _ => ⟨h ▸ hg, [], Nat.zero_le _, by rw [h]; rfl⟩

theorem Device.logsOne_log {d f : Device} (h : f.sed = d.sed) (n sev detail : Nat) (data : List Byte) :
    d.logsOne (f.log n sev detail data) := by
  intro hg hq
  rw [f.log_queued n sev detail data (h ▸ hg) (h ▸ hq), h]
  exact ⟨hg, [_], Nat.le_refl _, rfl⟩

theorem Device.countFire_logsOne (d : Device) (n : Fin 128) (e : EvSource) : d.logsOne (d.countFire n e) := by
  unfold Device.countFire
  split
  · exact Device.logsOne_of_sed rfl
  · dsimp only
    split
    · exact Device.logsOne_of_sed rfl
    · refine Device.logsOne_log ?_ _ _ _ _
      rfl

theorem Device.fireNow_logsOne (d : Device) (n : Fin 128) (sw wake : Bool) : d.logsOne (d.fireNow n sw wake) := by
  unfold Device.fireNow
  dsimp only
  split
  · exact Device.logsOne_of_sed rfl
  · split
    · split
      · exact Device.countFire_logsOne _ _ _
      · exact Device.logsOne_of_sed rfl
    · exact Device.logsOne_of_sed rfl
  · split
    · exact Device.countFire_logsOne _ _ _
    · exact Device.logsOne_of_sed rfl

/-- A fire logs at most the overflow of its source (R143). -/
theorem Device.fire_logsOne (d : Device) (n : Nat) : d.logsOne (d.fire n) := by
  unfold Device.fire
  split
  · exact Device.logsOne_of_sed rfl
  · split
    · split
      · exact Device.fireNow_logsOne _ _ _ _
      · exact Device.logsOne_of_sed rfl
    · split <;> exact Device.logsOne_of_sed rfl

theorem Device.fire_entry (d : Device) (n source sev detail : Nat) (data : List Byte) :
    (d.fire n).entry source sev detail data = d.entry source sev detail data := by
  have he : (d.fire n).epoch = d.epoch := Device.fire_get d n (g := F.TXN_EPOCH_EPOCH) (by decide)
  unfold Device.entry
  rw [he, Device.fire_clk]

/-- An occurrence that is raised is logged. -/
theorem Device.raise_logged (d : Device) (n detail : Nat) (data : List Byte) (hd : detail < 8192)
    (hb : data.length ≤ 11) : d.logged (d.raise n detail data) [d.entry n (sourceSev n) detail data] := by
  intro hg hq
  have room : d.sed.wq.length + 9 ≤ logQueueCap := hq
  obtain ⟨hg', more, hm, hw⟩ := d.fire_logsOne n hg (by omega)
  have len : (d.fire n).sed.wq.length < logQueueCap := by
    rw [hw, length_foldl_placeEntry]
    omega
  refine ⟨more ++ [d.entry n (sourceSev n) detail data], ?_, List.sublist_append_right _ _⟩
  rw [List.foldl_append, ← hw]
  unfold Device.raise
  rw [Device.log_queued _ _ _ _ _ hg' len, ← d.fire_entry n, Nat.mod_eq_of_lt hd, List.take_of_length_le hb]
  rfl

/-! ### The source that fires -/

theorem Device.fired_fire (d : Device) (n : Fin 128) (hs : isSource n.val = true) (hn : n.val < 124) :
    d.fired (d.fire n.val) n := by
  intro ha hi
  rw [Device.fire_idle d n hs hn ha hi, Device.source_setSource]

theorem Device.fired_raise (d : Device) (n : Fin 128) (hs : isSource n.val = true) (hn : n.val < 124) (detail : Nat)
    (data : List Byte) : d.fired (d.raise n.val detail data) n := by
  intro ha hi
  unfold Device.raise
  rw [Device.log_source]
  exact d.fired_fire n hs hn ha hi

/-! ### What log and event controller leave alone -/

theorem Noted.word {d e : Device} (h : Noted d e) {a : Nat} (ha : a ∉ noteWords) : e.word a = d.word a := by
  have q : (⟨a, 0, 32⟩ : Fld).quiet = true := by
    simpa [Fld.quiet, noteWords, and_assoc] using ha
  have := h.get q
  simp only [RegMap.get, fieldOf_whole] at this
  exact BitVec.eq_of_toNat_eq this

/-- What the log and the event controller do after a write of words. -/
theorem Device.wrote.noted {d x e : Device} {ws : List (Nat × Word)} (h : d.wrote x ws) (k : Noted x e) :
    d.noted e ws := by
  obtain ⟨hx, hw⟩ := h
  refine ⟨?_, fun a ha => (k.word ha).trans (hw a)⟩
  obtain ⟨regs, evc, sed, rfl, -⟩ := k
  rw [hx]

theorem Device.wrote_refl (d : Device) : d.wrote d [] := ⟨rfl, fun _ => rfl⟩

/-! ### An occurrence that is raised after a write of words -/

theorem Device.wrote.get {d x : Device} {ws : List (Nat × Word)} (h : d.wrote x ws) {g : Fld}
    (hg : ws.lookup g.addr = none) : x.get g = d.get g := by
  have hw : x.word g.addr = d.word g.addr := by rw [h.2, hg]; rfl
  unfold Device.get RegMap.get
  exact congrArg (fieldOf · g.lsb g.width) hw

theorem Device.wrote.source {d x : Device} {ws : List (Nat × Word)} (h : d.wrote x ws) (n : Fin 128) :
    x.source n = d.source n := by rw [h.1]; rfl

theorem Device.wrote.sed {d x : Device} {ws : List (Nat × Word)} (h : d.wrote x ws) : x.sed = d.sed := by rw [h.1]

theorem Device.wrote.latchArmed {d x : Device} {ws : List (Nat × Word)} (h : d.wrote x ws)
    (hp : ws.lookup R.PWR_STAT = none) (n : Nat) : x.latchArmed n = d.latchArmed n := by
  have hst : x.get F.PWR_STAT_STATE = d.get F.PWR_STAT_STATE := h.get hp
  have hpwr : x.pwr = d.pwr := by rw [h.1]
  have hevc : x.evc = d.evc := by rw [h.1]
  simp only [Device.latchArmed, Device.coreRuns, Device.still, Device.isState, hst, hpwr, hevc]

theorem Device.wrote.entry {d x : Device} {ws : List (Nat × Word)} (h : d.wrote x ws)
    (he : ws.lookup R.TXN_EPOCH = none) (source sev detail : Nat) (data : List Byte) :
    x.entry source sev detail data = d.entry source sev detail data := by
  have hep : x.epoch = d.epoch := h.get (g := F.TXN_EPOCH_EPOCH) he
  have hclk : x.clk = d.clk := by rw [h.1]
  unfold Device.entry
  rw [hep, hclk]

theorem Device.wrote.fired {d x e : Device} {ws : List (Nat × Word)} (h : d.wrote x ws)
    (hp : ws.lookup R.PWR_STAT = none) {n : Fin 128} (hf : x.fired e n) : d.fired e n := fun ha hi =>
  hf ((h.latchArmed hp n.val).trans ha) (by rw [h.source]; exact hi)

theorem Device.wrote.logged {d x e : Device} {ws : List (Nat × Word)} (h : d.wrote x ws) {es : List LogEntry}
    (hl : x.logged e es) : d.logged e es := by
  unfold Device.logged at *
  rwa [h.sed] at hl

/-! ### A rejected write (R17) -/

theorem Device.rejectAddr_eq_zero_iff (d : Device) :
    d.get F.SYS_REJECT_ADDR_ADDR = 0 ↔ d.word R.SYS_REJECT_ADDR = 0 := by
  have h : d.get F.SYS_REJECT_ADDR_ADDR = (d.word R.SYS_REJECT_ADDR).toNat := fieldOf_whole _
  rw [h]
  exact ⟨fun e => BitVec.eq_of_toNat_eq e, fun e => by rw [e]; rfl⟩

theorem putField_whole (w a : Word) : putField w 0 32 a.toNat = a := by
  apply BitVec.eq_of_toNat_eq
  have ha := a.isLt
  have hw := w.isLt
  rw [putField_toNat _ _ _ _ (by decide)]
  omega

/-- The word that a rejection writes: the first address, or the count of further ones. -/
def Device.rejectWords (d : Device) (a : Word) : List (Nat × Word) :=
  if d.word R.SYS_REJECT_ADDR = 0 then [(R.SYS_REJECT_ADDR, a)]
  else [(R.SYS_REJECT_CNT, putField (d.word R.SYS_REJECT_CNT) 0 8 (min (d.get F.SYS_REJECT_CNT_COUNT + 1) 255))]

theorem Device.lookup_rejectWords (d : Device) (a : Word) {b : Nat} (ha : b ≠ R.SYS_REJECT_ADDR)
    (hc : b ≠ R.SYS_REJECT_CNT) : (d.rejectWords a).lookup b = none := by
  unfold Device.rejectWords
  split <;> simp [List.lookup, beq_false_of_ne, ha, hc]

/-- A rejection writes its word and raises CFG_REJECT. -/
theorem Device.reject_raises (d : Device) (a : Word) :
    ∃ x, d.wrote x (d.rejectWords a) ∧ d.reject a.toNat = x.raise 0 0 (leBytes 4 a.toNat) := by
  unfold Device.reject Device.rejectWords
  by_cases h : d.word R.SYS_REJECT_ADDR = 0
  · refine ⟨d.put F.SYS_REJECT_ADDR_ADDR a.toNat, ?_, ?_⟩
    · have hw := d.wrote_put F.SYS_REJECT_ADDR_ADDR a.toNat
      rw [if_pos h]
      rwa [show putField _ F.SYS_REJECT_ADDR_ADDR.lsb F.SYS_REJECT_ADDR_ADDR.width a.toNat = a from
        putField_whole _ a] at hw
    · rw [if_pos (beq_iff_eq.2 (d.rejectAddr_eq_zero_iff.2 h))]
      rfl
  · refine ⟨d.bump F.SYS_REJECT_CNT_COUNT, ?_, ?_⟩
    · rw [if_neg h]
      exact d.wrote_put _ _
    · rw [if_neg (fun e => h (d.rejectAddr_eq_zero_iff.1 (beq_iff_eq.1 e)))]
      rfl

/-- A rejected write of the register at `a`: the address is recorded or counted, CFG_REJECT fires and is logged, and
nothing else changes (R17). -/
theorem Device.reject_reports (d : Device) (a : Word) :
    d.noted (d.reject a.toNat) (d.rejectWords a) ∧ d.fired (d.reject a.toNat) 0 ∧
      d.logged (d.reject a.toNat) [d.entry 0 0 0 (leBytes 4 a.toNat)] := by
  obtain ⟨x, hx, he⟩ := d.reject_raises a
  rw [he]
  refine ⟨hx.noted (x.raise_noted _ _ _), hx.fired (d.lookup_rejectWords a (by decide) (by decide)) ?_, hx.logged ?_⟩
  · exact x.fired_raise 0 (by decide) (by decide) _ _
  · rw [← hx.entry (d.lookup_rejectWords a (by decide) (by decide))]
    exact x.raise_logged 0 0 _ (by decide) (by simp [leBytes])

/-! ### Direct writes -/

theorem Device.directWrite_barred {d : Device} {m : Master} {a : Nat} {w : Word} (h : d.masterMay m a w = false) :
    d.directWrite m a w = d := by simp [Device.directWrite, h]

/-- A direct write of a peripheral address by a master that may make it. -/
theorem Device.directWrite_register {d : Device} {m : Master} {a : Nat} {w : Word} (run : d.coreRuns = true)
    (may : d.masterMay m a w = true) (al : a % 4 = 0) (lo : 0x40000000 ≤ a) (hi : a < 0x40160000) :
    d.directWrite m a w = (d.regWrite m (d.masterPriv m) a w).2 := by
  simp [Device.directWrite, Device.writeCommand, Device.busWrite, Device.regionWrite, run, may,
    wordAddr_of_aligned al, regionOf_periph lo hi]

theorem Device.regWrite_unassigned (d : Device) (m : Master) (priv : Bool) {a : Nat} (w : Word)
    (h : regFind a = none) (ha : a < 0x40030400 ∨ 0x40030800 ≤ a) : d.regWrite m priv a w = (false, d.addrWarn) := by
  have : ¬ (0x40030400 ≤ a ∧ a < 0x40030800) := by omega
  simp [Device.regWrite, h, this]

theorem Device.regWrite_reserved {d : Device} {m : Master} {priv : Bool} {r : RegSpec} {a : Nat} {w : Word}
    (h : regFind a = some r) (hr : d.writeReserved m priv r a w = true) :
    d.regWrite m priv a w = (true, d.reject a) := by
  simp [Device.regWrite, h, hr]

theorem Device.regWrite_guarded {d : Device} {r : RegSpec} {a : Nat} {w : Word} (m : Master) (priv : Bool)
    (h : regFind a = some r) (hp : d.inPlay = true) (hg : d.guardedChange r a w = true) :
    d.regWrite m priv a w = (true, d.reject a) := by
  simp [Device.regWrite, h, hp, hg]

theorem Device.regWrite_accepted {d : Device} {m : Master} {priv : Bool} {r : RegSpec} {a : Nat} {w : Word}
    (h : regFind a = some r) (hr : d.writeReserved m priv r a w = false)
    (hg : d.guardedChange r a w = true → d.inPlay = false ∧ d.claimed a = false) :
    d.regWrite m priv a w = (false, d.writeAccepted m priv r a w) := by
  cases hc : d.guardedChange r a w with
  | false => simp [Device.regWrite, h, hr, hc]
  | true =>
    obtain ⟨hp, hcl⟩ := hg hc
    simp [Device.regWrite, h, hr, hc, hp, hcl]

/-! ### The fields of a register as bits -/

theorem getLsbD_fieldMask (lsb width : Nat) {i : Nat} (hi : i < 32) :
    (fieldMask lsb width).getLsbD i = (decide (lsb ≤ i) && decide (i < lsb + width)) := by
  unfold fieldMask
  rw [BitVec.getLsbD_ofNat, Nat.testBit_mul_two_pow, Nat.testBit_two_pow_sub_one]
  simp only [hi, decide_true, Bool.true_and]
  by_cases h : lsb ≤ i
  · simp [h, show i - lsb < width ↔ i < lsb + width by omega]
  · simp [h]

theorem getLsbD_foldl_fieldMask (p : FieldSpec → Bool) (fs : List FieldSpec) (m : Word) {i : Nat} (hi : i < 32) :
    (fs.foldl (fun m f => if p f then m ||| fieldMask f.lsb f.width else m) m).getLsbD i =
      (m.getLsbD i || fs.any fun f => p f && f.lsb ≤ i && i < f.lsb + f.width) := by
  induction fs generalizing m with
  | nil => simp
  | cons f t ih =>
    rw [List.foldl_cons, ih, List.any_cons]
    cases p f <;> simp [getLsbD_fieldMask _ _ hi, Bool.or_assoc]

/-- A bit is in a mask where a field of the kind holds it. -/
theorem RegSpec.getLsbD_mask (r : RegSpec) (p : FieldSpec → Bool) {i : Nat} (hi : i < 32) :
    (r.mask p).getLsbD i = r.fields.any fun f => p f && f.lsb ≤ i && i < f.lsb + f.width := by
  simpa [RegSpec.mask] using getLsbD_foldl_fieldMask p r.fields 0 hi

theorem RegSpec.getLsbD_setFields (r : RegSpec) (old w : Word) {i : Nat} (hi : i < 32) :
    (r.setFields old w).getLsbD i =
      if r.fields.any fun f => f.settable && f.lsb ≤ i && i < f.lsb + f.width then w.getLsbD i else old.getLsbD i := by
  unfold RegSpec.setFields
  simp only [BitVec.getLsbD_or, BitVec.getLsbD_and, BitVec.getLsbD_not, hi, decide_true, Bool.true_and,
    r.getLsbD_mask _ hi]
  split <;> simp [*]

/-! ### The registers of the Reservoir (R434) -/

theorem mem_regsRSV {a : Nat} {r : RegSpec} (lo : 0x40050000 ≤ a) (hi : a < 0x40060000) (h : regFind a = some r) :
    r ∈ regsRSV := by
  have hb : a / 0x10000 = 0x4005 := by omega
  unfold regFind blockTable at h
  rw [hb] at h
  exact List.mem_of_find?_eq_some h

/-- No register of the Reservoir has settable and W1C fields together. -/
theorem regsRSV_w1c {r : RegSpec} (h : r ∈ regsRSV) (hs : r.fields.any FieldSpec.settable = true) :
    (r.fields.any fun f => f.acc == .w1c) = false := by
  have all : ∀ r ∈ regsRSV, (r.fields.any FieldSpec.settable && r.fields.any fun f => f.acc == .w1c) = false := by
    decide
  simpa [hs] using all r h

section Reservoir

variable {a : Nat} (lo : 0x40050000 ≤ a) (hi : a < 0x40060000)
include lo hi

theorem beq_of_reservoir {b : Nat} (h : b < 0x40050000 ∨ 0x40060000 ≤ b) : (a == b) = false :=
  beq_false_of_ne (by omega)

theorem inFamily_of_reservoir {base count stride : Nat}
    (h : 0 < stride ∧ (base + count * stride ≤ 0x40050000 ∨ 0x40060000 ≤ base)) :
    inFamily a base count stride = false := by
  obtain ⟨hs, hb | hb⟩ := h
  · have : count ≤ (a - base) / stride := (Nat.le_div_iff_mul_le hs).2 (by omega)
    simp [inFamily, Nat.not_lt.2 this]
  · simp [inFamily, show ¬ base ≤ a by omega]

theorem plainW1c_of_reservoir : plainW1c a = true := by
  simp (disch := decide) only [plainW1c, inFamily_of_reservoir lo hi, beq_of_reservoir lo hi]
  rfl

theorem Device.clearCounts_of_reservoir (d : Device) (m : Master) (w : Word) : d.clearCounts m a w = d := by
  simp (disch := decide) only [Device.clearCounts, inFamily_of_reservoir lo hi, beq_of_reservoir lo hi, Bool.or_self,
    Bool.false_eq_true, if_false]

/-- No block takes up a changed word of the Reservoir. -/
theorem Device.wordApplied_of_reservoir (d : Device) (old : Word) : d.wordApplied a old = d := by
  have hb : a / 0x10000 = 0x4005 := by omega
  simp only [Device.wordApplied, hb]

/-- No write of a register of the Reservoir acts. -/
theorem Device.registerActs_of_reservoir (d : Device) (m : Master) (priv : Bool) (w : Word) :
    d.registerActs m priv a w = d := by
  have hb : a / 0x10000 = 0x4005 := by omega
  unfold Device.registerActs
  rw [hb]
  exact d.clearCounts_of_reservoir lo hi m w

/-- An accepted write of a register of the Reservoir: its word, and a revision with a stamp where a guarded field
changes (R622). -/
theorem Device.writeAccepted_of_reservoir (d : Device) (m : Master) (priv : Bool) (r : RegSpec) (w : Word) :
    d.writeAccepted m priv r a w =
      let new := r.setFields (d.word a) w &&& ~~~(w &&& r.mask fun f => f.acc == .w1c)
      let e := d.setWord a new
      if d.guardedChange r a w then e.nextRevision.stampWord a else e := by
  unfold Device.writeAccepted
  simp only [plainW1c_of_reservoir lo hi, if_true, Device.registerActs_of_reservoir lo hi,
    Device.wordApplied_of_reservoir lo hi, ite_self]

end Reservoir

/-- The bits of an accepted write: settable fields take the bits written, W1C bits written 1 are cleared (R7). -/
theorem RegSpec.getLsbD_written {r : RegSpec} (h : r ∈ regsRSV) (old w : Word) {i : Nat} (hi : i < 32) :
    (r.setFields old w &&& ~~~(w &&& r.mask fun f => f.acc == .w1c)).getLsbD i =
      if r.fields.any fun f => f.settable && f.lsb ≤ i && i < f.lsb + f.width then w.getLsbD i
      else if r.fields.any fun f => f.acc == .w1c && f.lsb ≤ i && i < f.lsb + f.width then
        old.getLsbD i && !w.getLsbD i
      else old.getLsbD i := by
  rw [BitVec.getLsbD_and, BitVec.getLsbD_not, BitVec.getLsbD_and, r.getLsbD_mask _ hi, r.getLsbD_setFields _ _ hi]
  simp only [hi, decide_true, Bool.true_and]
  by_cases hs : (r.fields.any fun f => f.settable && f.lsb ≤ i && i < f.lsb + f.width) = true
  · have hset : r.fields.any FieldSpec.settable = true := by
      obtain ⟨f, hf, hb⟩ := List.any_eq_true.1 hs
      simp only [Bool.and_eq_true] at hb
      exact List.any_eq_true.2 ⟨f, hf, hb.1.1⟩
    have hw : (r.fields.any fun f => f.acc == .w1c && f.lsb ≤ i && i < f.lsb + f.width) = false := by
      have none := regsRSV_w1c h hset
      simp only [List.any_eq_false, Bool.and_eq_true] at none ⊢
      exact fun f hf hb => none f hf hb.1.1
    rw [if_pos hs, if_pos hs, hw, Bool.and_false, Bool.not_false, Bool.and_true]
  · rw [if_neg hs, if_neg hs]
    split
    · rename_i hc
      rw [hc, Bool.and_true]
    · rename_i hc
      rw [Bool.eq_false_of_not_eq_true hc, Bool.and_false, Bool.not_false, Bool.and_true]

theorem Device.get_nextRevision (d : Device) :
    d.nextRevision.get F.TXN_REV_REV = min (d.get F.TXN_REV_REV + 1) (2 ^ F.TXN_REV_REV.width - 1) := by
  unfold Device.nextRevision Device.bump
  rw [Device.get_put_same _ _ _ (by decide), Nat.mod_eq_of_lt]
  exact lt_of_le_of_lt (Nat.min_le_right _ _) (by decide)

theorem Device.word_nextRevision (d : Device) {b : Nat} (h : b ≠ R.TXN_REV) : d.nextRevision.word b = d.word b :=
  d.word_put_ne _ _ h

/-- What an accepted write of the Reservoir leaves: the word at `a`, and the revision. -/
theorem Device.revised_word (d : Device) {a : Nat} (ha : a ≠ R.TXN_REV) (new : Word) (g : Bool) :
    let e := if g then (d.setWord a new).nextRevision.stampWord a else d.setWord a new
    e = { d with regs := e.regs, stamps := e.stamps } ∧ e.word a = new ∧
      (∀ b, b ≠ a → b ≠ R.TXN_REV → e.word b = d.word b) ∧
      e.get F.TXN_REV_REV =
        if g then min (d.get F.TXN_REV_REV + 1) (2 ^ F.TXN_REV_REV.width - 1) else d.get F.TXN_REV_REV := by
  have same : (d.setWord a new).get F.TXN_REV_REV = d.get F.TXN_REV_REV := d.get_setWord_ne a new _ ha.symm
  cases g with
  | false => exact ⟨rfl, d.word_setWord_same a new, fun b hb _ => d.word_setWord_ne new hb, same⟩
  | true =>
    refine ⟨rfl, ((d.setWord a new).word_nextRevision ha).trans (d.word_setWord_same a new), fun b hb ht =>
      ((d.setWord a new).word_nextRevision ht).trans (d.word_setWord_ne new hb), ?_⟩
    rw [← same]
    exact (d.setWord a new).get_nextRevision

/-- A register write that a master may make. -/
theorem exec_registerWrite {s : State} {m : Master} {addr v : Word} (run : s.dev.coreRuns = true)
    (may : s.dev.masterMay m addr.toNat v = true) (al : addr.toNat % 4 = 0) (lo : 0x40000000 ≤ addr.toNat)
    (hi : addr.toNat < 0x40160000) :
    exec (.registerWrite m addr v) s =
      .next { s with dev := (s.dev.regWrite m (s.dev.masterPriv m) addr.toNat v).2 } := by
  rw [← Device.directWrite_register run may al lo hi]
  rfl

/-- Settles O23: the judgement of `regWrite` case by case; an accepted write of the Reservoir has no effect beside its
word and the revision. -/
theorem registerWrites : Obligations.RegisterWrites := by
  unfold Obligations.RegisterWrites
  intro s m addr v
  dsimp only
  refine ⟨fun bar => State.on_eq_self (f := fun d => d.directWrite m addr.toNat v) (Device.directWrite_barred bar),
    fun run may al lo hi => ⟨fun none out => ⟨_, exec_registerWrite run may al lo hi, rfl, ?_⟩,
      fun r hr => ⟨fun res => ⟨_, exec_registerWrite run may al lo hi, rfl, ?_⟩,
        fun play guard => ⟨_, exec_registerWrite run may al lo hi, rfl, ?_⟩,
        fun rlo rhi ok free => ⟨_, exec_registerWrite run may al lo hi, rfl, ?_⟩⟩⟩⟩
  · rw [Device.regWrite_unassigned _ _ _ _ none out]
    exact ⟨s.dev.wrote_refl.noted s.dev.addrWarn_noted, s.dev.fired_fire 1 (by decide) (by decide)⟩
  · rw [Device.regWrite_reserved hr res]
    exact s.dev.reject_reports addr
  · rw [Device.regWrite_guarded _ _ hr play guard]
    exact s.dev.reject_reports addr
  · rw [Device.regWrite_accepted hr ok free, Device.writeAccepted_of_reservoir rlo rhi]
    have apart : addr.toNat ≠ R.TXN_REV := ne_of_lt (lt_of_lt_of_le rhi (by decide))
    obtain ⟨frame, word, others, rev⟩ := s.dev.revised_word apart
      (r.setFields (s.dev.word addr.toNat) v &&& ~~~(v &&& r.mask fun f => f.acc == .w1c))
      (s.dev.guardedChange r addr.toNat v)
    refine ⟨frame, fun i hi => ?_, others, rev⟩
    exact (congrArg (BitVec.getLsbD · i) word).trans (RegSpec.getLsbD_written (mem_regsRSV rlo rhi hr) _ _ hi)

end Sys2Proof.Machine
end

section
/-! PROOFS. The loads (O17), with the bytes of a memory word. -/

namespace Sys2Proof.Machine

/-! ### The bytes of a memory word (R2) -/

theorem Device.memWord_toNat (d : Device) (a : Nat) : (d.memWord a).toNat =
    (d.byte a).toNat + 2 ^ 8 * (d.byte (a + 1)).toNat + 2 ^ 16 * (d.byte (a + 2)).toNat +
      2 ^ 24 * (d.byte (a + 3)).toNat := by
  have h0 := (d.byte a).isLt
  have h1 := (d.byte (a + 1)).isLt
  have h2 := (d.byte (a + 2)).isLt
  have h3 := (d.byte (a + 3)).isLt
  have hw : ofLe (d.bytes a 4) = (d.byte a).toNat + 2 ^ 8 * (d.byte (a + 1)).toNat + 2 ^ 16 * (d.byte (a + 2)).toNat +
      2 ^ 24 * (d.byte (a + 3)).toNat := by
    simp only [Device.bytes, ofLe, Nat.add_assoc, Nat.reduceAdd]
    omega
  rw [Device.memWord, BitVec.toNat_ofNat, hw, Nat.mod_eq_of_lt (by omega)]

theorem Device.memWord_shift_toNat (d : Device) (a k : Nat) :
    (d.memWord a >>> (8 * k)).toNat = (d.memWord a).toNat / 2 ^ (8 * k) := by
  rw [BitVec.toNat_ushiftRight, Nat.shiftRight_eq_div_pow]

theorem Device.memWord_byte (d : Device) (a : Nat) {k : Nat} (hk : k < 4) :
    (d.memWord a >>> (8 * k)).extractLsb' 0 8 = d.byte (a + k) := by
  rw [← BitVec.setWidth_eq_extractLsb' (by decide)]
  apply BitVec.eq_of_toNat_eq
  rw [BitVec.toNat_setWidth, d.memWord_shift_toNat, d.memWord_toNat]
  have h0 := (d.byte a).isLt
  have h1 := (d.byte (a + 1)).isLt
  have h2 := (d.byte (a + 2)).isLt
  have h3 := (d.byte (a + 3)).isLt
  obtain rfl | rfl | rfl | rfl : k = 0 ∨ k = 1 ∨ k = 2 ∨ k = 3 := by omega
  · rw [show a + 0 = a from rfl]; omega
  all_goals omega

theorem Device.memWord_half (d : Device) (a : Nat) {k : Nat} (hk : k < 4) (al : k % 2 = 0) :
    (d.memWord a >>> (8 * k)).extractLsb' 0 16 =
      BitVec.ofNat 16 ((d.byte (a + k)).toNat + 2 ^ 8 * (d.byte (a + k + 1)).toNat) := by
  rw [← BitVec.setWidth_eq_extractLsb' (by decide)]
  apply BitVec.eq_of_toNat_eq
  rw [BitVec.toNat_setWidth, d.memWord_shift_toNat, d.memWord_toNat, BitVec.toNat_ofNat]
  obtain rfl | rfl : k = 0 ∨ k = 2 := by omega
  · rw [show a + 0 = a from rfl]; omega
  · rw [show a + 2 + 1 = a + 3 from rfl]; omega

theorem Device.memWord_eq (d : Device) (a : Nat) : d.memWord a = BitVec.ofNat 32 ((d.byte a).toNat +
    2 ^ 8 * (d.byte (a + 1)).toNat + 2 ^ 16 * (d.byte (a + 2)).toNat + 2 ^ 24 * (d.byte (a + 3)).toNat) := by
  rw [← d.memWord_toNat, BitVec.ofNat_toNat, BitVec.setWidth_eq]

/-! ### A load that is ready (R100) -/

section Load

variable {c : CoreId} {rd rs1 : WReg} {imm : BitVec 16} {u : Upset} {size : Nat} {ext : Word → Word}

theorem Device.fetched_memAddr {d : Device} (h : d.ready c .all) :
    (d.fetched c).memAddr c rs1 imm = (d.core c).reg rs1 + imm.signExtend 32 := by
  obtain ⟨-, -, -, fetch, -⟩ := h
  rw [Device.memAddr, Device.fetched_reg d c rs1 fetch]

variable {d : Device} {a : Word} (h : d.ready c .all) (ha : (d.core c).reg rs1 + imm.signExtend 32 = a)
include h ha

theorem Device.load_stopped {f : CoreFault} (hf : (d.fetched c).accessCause c a size false = some f) :
    d.load c rd rs1 imm u size ext = (d.fetched c).coreFault c f := by
  subst ha
  unfold Device.load
  rw [Device.issue_ready _ h]
  simp only [Device.fetched_memAddr h, hf, Retire.finish]

theorem Device.load_word {w : Word} {e : Device} (hf : (d.fetched c).accessCause c a size false = none)
    (hw : (d.fetched c).loadWord c a.toNat u = (some w, e)) (he : e.executing c = true) :
    d.load c rd rs1 imm u size ext = (e.setReg c rd (ext (w >>> (8 * (a.toNat % 4))))).advance c := by
  subst ha
  unfold Device.load
  rw [Device.issue_ready _ h]
  simp only [Device.fetched_memAddr h, hf, hw, Device.after, he, if_true, Retire.finish]

theorem Device.load_error {e : Device} (hf : (d.fetched c).accessCause c a size false = none)
    (hw : (d.fetched c).loadWord c a.toNat u = (none, e)) (he : e.executing c = true) :
    d.load c rd rs1 imm u size ext = e.coreFault c (.eccData a false) := by
  subst ha
  unfold Device.load
  rw [Device.issue_ready _ h]
  simp only [Device.fetched_memAddr h, hf, hw, Device.after, he, if_true, Retire.finish]

end Load

/-- Writing a register and going on is the state that has retired with the register written. -/
theorem State.writes_eq_advance {s : State} {c : CoreId} (hf : s.dev.fetched c = s.dev) (rd : WReg) (v : Word) :
    s.writes c rd v = { s with dev := (s.dev.setReg c rd v).advance c } := by
  simp only [State.writes, State.retire, State.pc, hf, Device.advance, Device.setPc, Device.setReg,
    Device.core_setCore, Device.setCore_setCore, Core.setReg_pc]

/-! ### A good word of core SRAM -/

theorem not_and_eq_of_ite_eq {α : Type} {p : Prop} [Decidable p] {x y z : α} (hx : x ≠ z)
    (h : (if p then x else y) = z) : ¬ p ∧ y = z :=
  (ite_eq_iff.1 h).resolve_left fun hp => hx hp.2

section CoreSram

variable {d : Device} {c : CoreId} (hc : c ≠ .s) {a : Nat} (hr : regionOf a = .coreSram)
include hr

theorem coreSram_bounds : 0x10000000 ≤ a ∧ a < 0x10180000 := by
  unfold regionOf at hr
  obtain ⟨-, hr⟩ := not_and_eq_of_ite_eq (by decide) hr
  obtain ⟨lo, hr⟩ := not_and_eq_of_ite_eq (by decide) hr
  refine ⟨Nat.le_of_not_lt lo, ?_⟩
  by_contra hi
  rw [if_neg hi] at hr
  iterate 15 replace hr := (not_and_eq_of_ite_eq (by decide) hr).2
  cases hr

theorem regionOf_wordAddr_coreSram : regionOf (wordAddr a) = .coreSram := by
  have hb := coreSram_bounds hr
  unfold regionOf wordAddr
  rw [if_neg (by omega), if_neg (by omega), if_pos (by omega)]

theorem Device.strike_none_coreSram : d.strike a .none = d := by
  obtain ⟨lo, hi⟩ := coreSram_bounds hr
  have hs : isSram a = true := by simp [isSram, lo, hi]
  unfold Device.strike
  rw [if_pos hs]

theorem Device.busRead_coreSram (he : d.eccAt a = none) : d.busRead a = (some (d.memWord (wordAddr a)), d) := by
  have hww : wordAddr (wordAddr a) = wordAddr a := wordAddr_of_aligned (Nat.mul_mod_left _ _)
  have he' : d.eccAt (wordAddr a) = none := by rw [Device.eccAt, hww]; exact he
  simp [Device.busRead, regionOf_wordAddr_coreSram hr, Device.regionRead, Device.readChecked, he', hww]

include hc

/-- Where the regions let the core read, a load from core SRAM that is aligned meets no cause. -/
theorem Device.accessCause_coreSram {w : Word} (hw : w.toNat = a) {size : Nat} (al : a % size = 0)
    (mpu : d.mpuAllows c a .read (d.atPriv c) = true) : d.accessCause c w size false = none := by
  have allow : fixedMap c .coreSram .read = .allow := by
    cases c
    · rfl
    · rfl
    · exact absurd rfl hc
  simp [Device.accessCause, Device.accessAnswer, hw, al, hr, allow, mpu]

/-- With nothing in the store buffer, a load of C0 or C1 from a good word of core SRAM gets the word as it stands. -/
theorem Device.loadWord_coreSram (hb : (d.core c).buf = []) (he : d.eccAt a = none) :
    d.loadWord c a .none = (some (d.memWord (wordAddr a)), d) := by
  have hbuf : d.buffered c a = none := by simp [Device.buffered, hb]
  have hdrain : d.drainBlock c a = d := by simp [Device.drainBlock, Device.blockHeld, hb]
  cases c with
  | s => exact absurd rfl hc
  | _ => simp [Device.loadWord, hbuf, hdrain, hr, Device.strike_none_coreSram hr, Device.busRead_coreSram hr he]

end CoreSram

/-! ### The five loads -/

section Rows

variable {s : State} {c : CoreId} {rd rs1 : WReg} {imm : BitVec 16}

/-- The row of a load: the cause that its address meets, the word that it gets, the error on the way (R49, R100). -/
theorem exec_load {i : Instr} {u : Upset} {size : Nat} {ext : Word → Word}
    (hi : exec i s = s.on fun d => d.load c rd rs1 imm u size ext) (h : s.dev.ready c .all) :
    let d := s.dev.fetched c
    let a := (s.dev.core c).reg rs1 + imm.signExtend 32
    (∀ f, d.accessCause c a size false = some f → exec i s = .next { s with dev := d.coreFault c f }) ∧
    (∀ w e, d.accessCause c a size false = none → d.loadWord c a.toNat u = (some w, e) → e.executing c = true →
      exec i s = .next { s with dev := (e.setReg c rd (ext (w >>> (8 * (a.toNat % 4))))).advance c }) ∧
    (∀ e, d.accessCause c a size false = none → d.loadWord c a.toNat u = (none, e) → e.executing c = true →
      exec i s = .next { s with dev := e.coreFault c (.eccData a false) }) := by
  simp only [hi, State.on]
  refine ⟨fun f hf => ?_, fun w e hf hw he => ?_, fun e hf hw he => ?_⟩
  · rw [Device.load_stopped h rfl hf]
  · rw [Device.load_word h rfl hf hw he]
  · rw [Device.load_error h rfl hf hw he]

theorem exec_lw (c : CoreId) (rd rs1 : WReg) (imm : BitVec 16) (u : Upset) (s : State) :
    exec (.lw c rd rs1 imm u) s = s.on fun d => d.load c rd rs1 imm u 4 id := rfl

theorem exec_lh (c : CoreId) (rd rs1 : WReg) (imm : BitVec 16) (u : Upset) (s : State) : exec (.lh c rd rs1 imm u) s =
    s.on fun d => d.load c rd rs1 imm u 2 fun w => (w.extractLsb' 0 16).signExtend 32 := by
  simp only [← BitVec.setWidth_eq_extractLsb' (show 16 ≤ 32 by decide)]
  rfl

theorem exec_lhu (c : CoreId) (rd rs1 : WReg) (imm : BitVec 16) (u : Upset) (s : State) : exec (.lhu c rd rs1 imm u) s =
    s.on fun d => d.load c rd rs1 imm u 2 fun w => (w.extractLsb' 0 16).zeroExtend 32 := by
  simp only [← BitVec.setWidth_eq_extractLsb' (show 16 ≤ 32 by decide)]
  rfl

theorem exec_lb (c : CoreId) (rd rs1 : WReg) (imm : BitVec 16) (u : Upset) (s : State) : exec (.lb c rd rs1 imm u) s =
    s.on fun d => d.load c rd rs1 imm u 1 fun w => (w.extractLsb' 0 8).signExtend 32 := by
  simp only [← BitVec.setWidth_eq_extractLsb' (show 8 ≤ 32 by decide)]
  rfl

theorem exec_lbu (c : CoreId) (rd rs1 : WReg) (imm : BitVec 16) (u : Upset) (s : State) : exec (.lbu c rd rs1 imm u) s =
    s.on fun d => d.load c rd rs1 imm u 1 fun w => (w.extractLsb' 0 8).zeroExtend 32 := by
  simp only [← BitVec.setWidth_eq_extractLsb' (show 8 ≤ 32 by decide)]
  rfl

/-- A load of C0 or C1 from a good word of core SRAM, with nothing in the store buffer, writes the addressed part of the
word as memory holds it. -/
theorem exec_load_coreSram {i : Instr} {size : Nat} {ext : Word → Word}
    (hi : exec i s = s.on fun d => d.load c rd rs1 imm .none size ext) (hc : c ≠ .s) (h : s.dev.ready c .all)
    (hf : s.dev.fetched c = s.dev) (hb : (s.dev.core c).buf = []) {a : Nat}
    (ha : ((s.dev.core c).reg rs1 + imm.signExtend 32).toNat = a) (hr : regionOf a = .coreSram)
    (he : s.dev.eccAt a = none) (mpu : s.dev.mpuAllows c a .read (s.dev.atPriv c) = true) (al : a % size = 0) :
    exec i s = .next (s.writes c rd (ext (s.dev.memWord (wordAddr a) >>> (8 * (a % 4))))) := by
  obtain ⟨-, word, -⟩ := exec_load hi h
  rw [hf, ha] at word
  rw [State.writes_eq_advance hf]
  exact word _ _ (Device.accessCause_coreSram hc hr ha al mpu) (Device.loadWord_coreSram hc hr hb he) h.1

/-- What the five loads write where they get a good word of core SRAM: the bytes at the address, the least significant
first (R2, R100). -/
theorem loads_of_coreSram (hc : c ≠ .s) (h : s.dev.ready c .all) (hf : s.dev.fetched c = s.dev)
    (hb : (s.dev.core c).buf = []) {a : Nat} (ha : ((s.dev.core c).reg rs1 + imm.signExtend 32).toNat = a)
    (hr : regionOf a = .coreSram) (he : s.dev.eccAt a = none)
    (mpu : s.dev.mpuAllows c a .read (s.dev.atPriv c) = true) :
    let b := fun (i : Nat) => (s.dev.byte (a + i)).toNat
    (a % 4 = 0 → exec (.lw c rd rs1 imm .none) s =
      .next (s.writes c rd (BitVec.ofNat 32 (b 0 + 2 ^ 8 * b 1 + 2 ^ 16 * b 2 + 2 ^ 24 * b 3)))) ∧
    (a % 2 = 0 →
      exec (.lh c rd rs1 imm .none) s = .next (s.writes c rd ((BitVec.ofNat 16 (b 0 + 2 ^ 8 * b 1)).signExtend 32)) ∧
      exec (.lhu c rd rs1 imm .none) s = .next (s.writes c rd (BitVec.ofNat 32 (b 0 + 2 ^ 8 * b 1)))) ∧
    exec (.lb c rd rs1 imm .none) s = .next (s.writes c rd ((s.dev.byte a).signExtend 32)) ∧
    exec (.lbu c rd rs1 imm .none) s = .next (s.writes c rd (BitVec.ofNat 32 (b 0))) := by
  dsimp only
  have row : ∀ {i : Instr} {size : Nat} {ext : Word → Word},
      (exec i s = s.on fun d => d.load c rd rs1 imm .none size ext) → a % size = 0 →
      exec i s = .next (s.writes c rd (ext (s.dev.memWord (wordAddr a) >>> (8 * (a % 4))))) :=
    fun hi al => exec_load_coreSram hi hc h hf hb ha hr he mpu al
  have lane : a % 4 < 4 := Nat.mod_lt _ (by decide)
  have place : wordAddr a + a % 4 = a := Nat.div_add_mod' a 4
  have byte : (s.dev.memWord (wordAddr a) >>> (8 * (a % 4))).extractLsb' 0 8 = s.dev.byte a := by
    rw [s.dev.memWord_byte _ lane, place]
  have half : a % 2 = 0 → (s.dev.memWord (wordAddr a) >>> (8 * (a % 4))).extractLsb' 0 16 =
      BitVec.ofNat 16 ((s.dev.byte (a + 0)).toNat + 2 ^ 8 * (s.dev.byte (a + 1)).toNat) := fun al => by
    rw [s.dev.memWord_half _ lane (by omega), place]
    rfl
  refine ⟨fun al => ?_, fun al => ⟨?_, ?_⟩, ?_, ?_⟩
  · rw [row (exec_lw c rd rs1 imm .none s) al, al, wordAddr_of_aligned al, s.dev.memWord_eq]
    rfl
  · rw [row (exec_lh c rd rs1 imm .none s) al, half al]
  · have widen : (BitVec.ofNat 16 ((s.dev.byte (a + 0)).toNat + 2 ^ 8 * (s.dev.byte (a + 1)).toNat)).zeroExtend 32 =
        BitVec.ofNat 32 ((s.dev.byte (a + 0)).toNat + 2 ^ 8 * (s.dev.byte (a + 1)).toNat) := by
      apply BitVec.eq_of_toNat_eq
      rw [BitVec.toNat_setWidth, BitVec.toNat_ofNat, BitVec.toNat_ofNat]
      omega
    rw [row (exec_lhu c rd rs1 imm .none s) al, half al, widen]
  · rw [row (exec_lb c rd rs1 imm .none s) (Nat.mod_one a), byte]
  · rw [row (exec_lbu c rd rs1 imm .none s) (Nat.mod_one a), byte, BitVec.ofNat_toNat]
    rfl

end Rows

/-- Settles O17: each load is `exec_load` with its row's extension; the bytes are those of the memory word that
`exec_load_coreSram` leaves in the register. -/
theorem loads : Obligations.Loads := by
  unfold Obligations.Loads
  constructor
  · intro s c rd rs1 imm u h
    have lw := exec_load (exec_lw c rd rs1 imm u s) h
    have lh := exec_load (exec_lh c rd rs1 imm u s) h
    have lhu := exec_load (exec_lhu c rd rs1 imm u s) h
    have lb := exec_load (exec_lb c rd rs1 imm u s) h
    have lbu := exec_load (exec_lbu c rd rs1 imm u s) h
    exact ⟨lw, lh, lhu, lb, lbu⟩
  · intro s c rd rs1 imm hc h hf hb d w a hr he mpu
    exact loads_of_coreSram hc h hf hb rfl hr he mpu

end Sys2Proof.Machine
end

section
/-! PROOFS. The state after reset (O6). -/

namespace Sys2Proof.Machine

/-- A control core at reset is privileged, takes no event and holds zeros (R44). -/
theorem Device.initial_control {c : CoreId} (hc : c ≠ .s) :
    Device.initial.cget c F.ST_STATUS_PRIV = 1 ∧ Device.initial.cget c F.ST_STATUS_IE = 0 ∧
      Device.initial.cget c F.ST_STATUS_EXL = 0 ∧ Device.initial.cget c F.ST_CAUSE_CODE = 0 ∧
      (Device.initial.core c).buf = [] ∧ ∀ r, (Device.initial.core c).reg r = 0 := by
  cases c with
  | s => exact absurd rfl hc
  | c0 => exact ⟨by decide, by decide, by decide, by decide, rfl, by decide⟩
  | c1 => exact ⟨by decide, by decide, by decide, by decide, rfl, by decide⟩

/-- A client at reset has nothing staged, in flight or queued (R621). -/
theorem Device.initial_client (c : Client) :
    Device.initial.staged c = [] ∧ Device.initial.flightOf c = none ∧ (Device.initial.port c).queue = [] := by
  cases c <;> exact ⟨rfl, rfl, rfl⟩

/-- Settles O6: no word is listed in the register file, so each field reads as the reset word of its register. -/
theorem resetState : Obligations.ResetState := by
  unfold Obligations.ResetState
  refine ⟨rfl, rfl, fun _ => rfl, fun _ => Device.initial_control, ?sem, ?sources, ?privA, ?privB, rfl, rfl, rfl, ?epoch,
    ?rev, Device.initial_client, ?lease⟩
  all_goals decide

end Sys2Proof.Machine
end

section
/-! PROOFS. A state in which a commit wave leaves another revision than R622 gives (O57). -/

namespace Sys2Proof.Machine

/-- A transaction entry for SHL_CFG.RELAY. -/
def relayEntry : Entry := ⟨0x010C0000, 1⟩

/-- A transaction whose third wave is due and holds `relayEntry` alone. -/
def relayFlight : Flight := ⟨.toWave3 1, 0, 0, [⟨relayEntry, 3⟩], 0, 0, 0, false, none⟩

/-- A sequenced chain command that is outstanding at position 8185, far beyond the 64 companions of a chain. -/
def strayJob : Job := ⟨8185, 0x0B, 1, [], .stop, .a, 0, false, 0, false⟩

/-- The transaction of client A meets a chain master that waits for the stray command. -/
def strayState : State :=
  { State.reset with dev := { Device.initial with
      shl := { Shl.idle with role := true, cur := some strayJob }
      txn := { Txn.idle with flight := #v[some relayFlight, none] } } }

/-- The SHL_Ck_STAT of the stray position stands at the address of TXN_REV. -/
theorem strayJob_stat : R.SHL_Ck_STAT strayJob.addr = R.TXN_REV := by decide

/-- The chain master takes up SHL_CFG outside a running state, drops its outstanding command (R448) and sets PEND of the
stray position: bit 17 of TXN_REV. -/
theorem strayState_revision : (strayState.dev.txnWave3 .a false).get F.TXN_REV_REV = 2 ^ 17 + 1 := by decide +kernel

/-- Refutes O57: the statement ranges over every state, also over those whose chain master has a command outstanding at a
position that no chain has. Where wave 3 changes SHL_CFG, PEND of that position falls on TXN_REV, and the revision
does not go on by one. -/
theorem not_transactions : ¬ Obligations.Transactions := by
  unfold Obligations.Transactions
  intro h
  obtain ⟨-, -, -, -, -, -, -, wave3, -⟩ := h strayState .a ⟨0, 0, 0, [], [], .port, 0⟩ false relayEntry .c0 0 0
  obtain ⟨t, run, -, -, -, revision, -⟩ :=
    wave3 relayFlight 1 ⟨1, 1, .txn, .neu, false⟩ rfl rfl (by decide) rfl rfl (by decide) (by decide) (by decide) (by decide)
      (by decide)
  have device : t.dev = strayState.dev.txnWave3 .a false := by
    rw [show t = { strayState with dev := strayState.dev.txnWave3 .a false } from (Host.Outcome.next.inj run).symm]
  rw [device, strayState_revision] at revision
  exact absurd revision (by decide)

end Sys2Proof.Machine
end

section
/-! PROOFS. The port of a client, and a command that completes at the head of its queue (R577). -/

namespace Sys2Proof.Machine

/-! ### The port of a client -/

theorem Client.other_ne (c : Client) : c.other ≠ c := by cases c <;> decide

theorem Device.port_setPort (d : Device) (c : Client) (h : Hp) : (d.setPort c h).port c = h := by
  cases c <;> simp [Device.port, Device.setPort, Client.idx]

theorem Device.port_setPort_ne (d : Device) {c e : Client} (h : Hp) (hne : e ≠ c) : (d.setPort c h).port e = d.port e := by
  cases c <;> cases e <;> simp_all [Device.port, Device.setPort, Client.idx]

theorem Device.setPort_setPort (d : Device) (c : Client) (g h : Hp) : (d.setPort c g).setPort c h = d.setPort c h := by
  cases c <;> simp [Device.setPort]

/-- A port is replaced in `hp` alone. -/
theorem Device.setPort_eq (d : Device) (c : Client) (h : Hp) : d.setPort c h = { d with hp := (d.setPort c h).hp } := by
  cases c <;> rfl

@[simp] theorem Device.setPort_regs (d : Device) (c : Client) (h : Hp) : (d.setPort c h).regs = d.regs := by
  rw [Device.setPort_eq]

@[simp] theorem Device.setPort_txn (d : Device) (c : Client) (h : Hp) : (d.setPort c h).txn = d.txn := by
  rw [Device.setPort_eq]

/-! ### A command that came through the port completes -/

/-- The port once the command at its head has completed and its response, with the payload `p`, has been cached and
pushed. -/
def Hp.answer (h : Hp) (k : Cmd) (p : List Byte) : Hp :=
  ({ h with queue := h.queue.tail, busy := false, relay := none, cache := ((k.seq, p) :: h.cache).take 8 } : Hp).push
    (k.response p)

theorem Device.answered_eq (d : Device) (c : Client) (k : Cmd) (status extra : Nat) (data : List Byte) :
    d.answered c k status extra data = d.setPort c ((d.port c).answer k (respPayload status extra data)) := rfl

theorem Device.finishCmd_port (d : Device) (c : Client) {k : Cmd} (ho : k.origin = .port) (p : List Byte) :
    d.finishCmd c k p =
      d.setPort c (({ d.port c with cache := ((k.seq, p) :: (d.port c).cache).take 8 } : Hp).push (k.response p)) := by
  simp only [Device.finishCmd, ho, Device.deliverResponse, Device.pushOut, Device.port_setPort, Device.setPort_setPort]

/-- The head of the queue came through the port, and no request of a core waits for room. -/
def Device.answerable (d : Device) (c : Client) (k : Cmd) : Prop :=
  (d.port c).queue.head? = some k ∧ k.origin = .port ∧ d.txn.creqWaits = false

theorem Device.complete_eq_answered {d : Device} {c : Client} {k : Cmd} (h : d.answerable c k) (status extra : Nat)
    (data : List Byte) : d.complete c status extra data = d.answered c k status extra data := by
  obtain ⟨hq, ho, hw⟩ := h
  obtain ⟨t, hq⟩ := List.head?_eq_some_iff.1 hq
  have quiet : ∀ h : Hp, (d.setPort c h).creqEnter = d.setPort c h := fun h => by simp [Device.creqEnter, hw]
  simp only [Device.complete, hq, Device.finishCmd_port _ _ ho, Device.port_setPort, Device.setPort_setPort, quiet,
    Device.answered, List.tail_cons]

end Sys2Proof.Machine
end

section
/-! PROOFS. Checks 5 to 9 at the head of a queue (O54), with what they do to each command of a host. -/

namespace Sys2Proof.Machine

/-! ### The head of a queue -/

theorem Device.head_of_headCmd {d : Device} {c : Client} {k : Cmd} (h : d.headCmd c = some k) :
    (d.port c).queue.head? = some k := by
  unfold Device.headCmd at h
  dsimp only at h
  split at h
  · rename_i q t hq
    split at h
    · rw [hq]; exact h
    · cases h
  · cases h

theorem Device.serves.answerable {d : Device} {c : Client} {k : Cmd} (h : d.serves c k) : d.answerable c k :=
  ⟨Device.head_of_headCmd h.1, h.2⟩

theorem spansMeet_eq_false_iff {xs ys : List (Nat × Nat)} :
    spansMeet xs ys = false ↔ ∀ x ∈ xs, ∀ y ∈ ys, x.1 + x.2 ≤ y.1 ∨ y.1 + y.2 ≤ x.1 := by
  simp only [spansMeet, List.any_eq_false, List.any_eq_true, Bool.and_eq_true, decide_eq_true_eq, not_exists, not_and]
  exact forall₂_congr fun x _ => forall₂_congr fun y _ => by omega

theorem Cmd.before_iff (q : Cmd) (c : Client) (k : Cmd) :
    q.before c.other k = true ↔ q.at_ < k.at_ ∨ (q.at_ = k.at_ ∧ c = .b) := by
  have : c.other = .a ↔ c = .b := by cases c <;> decide
  simp [Cmd.before, this]

theorem Device.mustWait_eq_false_iff (d : Device) (c : Client) (q : Cmd) : d.mustWait c q = false ↔
    ∀ o ∈ (if (d.port c.other).busy then (d.port c.other).queue.drop 1 else (d.port c.other).queue),
      o.at_ < q.at_ ∨ (o.at_ = q.at_ ∧ c = .b) →
      ∀ x ∈ d.spansOf c.other o, ∀ y ∈ d.spansOf c q, x.1 + x.2 ≤ y.1 ∨ y.1 + y.2 ≤ x.1 := by
  simp only [Device.mustWait, List.any_eq_false, Bool.and_eq_true, Bool.not_eq_true, Cmd.before_iff, not_and,
    spansMeet_eq_false_iff]

/-- When the first command of a queue may execute (R32, R573, R604). -/
theorem Device.headCmd_eq_some_iff {d : Device} {c : Client} {q : Cmd} {t : List Cmd} (hq : (d.port c).queue = q :: t) :
    d.headCmd c = some q ↔ d.coreRuns = true ∧ (d.running = true ∨ d.nvs.rom = true) ∧ (d.port c).busy = false ∧
      d.outRoom c q = true ∧ d.mustWait c q = false := by
  simp [Device.headCmd, hq, and_assoc]

/-! ### A command that is served -/

section Serve

variable {d : Device} {c : Client} {p : Nat → Bool} {act : Device → Cmd → Device}

theorem Device.serve_idle (h : d.headCmd c = none) : d.serve c p act = d := by simp [Device.serve, h]

theorem Device.serve_another {k : Cmd} (h : d.headCmd c = some k) (hp : p k.opcode = false) : d.serve c p act = d := by
  simp [Device.serve, h, hp]

theorem Device.serve_barred {k : Cmd} (h : d.serves c k) (hp : p k.opcode = true) {st : Nat}
    (hb : d.commandBars c k = some st) : d.serve c p act = d.answered c k st 0 [] := by
  simp [Device.serve, h.1, hp, hb, Device.complete_eq_answered h.answerable]

theorem Device.serve_runs {k : Cmd} (h : d.headCmd c = some k) (hp : p k.opcode = true) (hb : d.commandBars c k = none) :
    d.serve c p act = act d k := by
  simp [Device.serve, h, hp, hb]

end Serve

/-- The instruction `i` is the command of opcode `op` of client `c`. -/
def servesOpcode (c : Client) (op : Nat) (i : Instr) : Prop :=
  ∃ act, ∀ s : State, exec i s = s.on fun d => d.serveOp c op act

theorem servesOpcode_of_idOp {c : Client} {op : Nat} {i : Instr} {act : Device → Cmd → Bool → Device}
    (h : ∀ s : State, exec i s = s.on fun d => d.idOp c op act) : servesOpcode c op i :=
  have serve : ∃ act', ∀ d : Device, d.idOp c op act = d.serveOp c op act' := ⟨_, fun _ => rfl⟩
  serve.imp fun _ idOp s => (h s).trans (congrArg s.on (funext idOp))

/-- Each opcode of R584 below APP with its instruction. -/
theorem hostCommands_serve (c : Client) (bad : Bool) :
    ∀ x ∈ [(0x01, Instr.hello c), (0x02, .ping c), (0x03, .status c), (0x10, .regRead c), (0x11, .regWrite c),
      (0x20, .evtDone c), (0x30, .stateReq c), (0x40, .leaseAcquire c), (0x41, .leaseRenew c), (0x42, .leaseRelease c),
      (0x43, .leaseBreak c), (0x50, .setPriv c), (0x60, .txnStage c), (0x61, .txnCommit c bad), (0x62, .txnDiscard c),
      (0x63, .txnQuery c), (0x70, .logRead c), (0x80, .chnCmd c), (0x90, .relay c), (0xA0, .updBegin c), (0xA1, .updData c),
      (0xA2, .updStatus c), (0xA3, .updVerify c), (0xA4, .updActivate c), (0xA5, .updConfirm c), (0xA6, .updAbort c),
      (0xA7, .updKey c), (0xB0, .idList c), (0xB1, .idAdopt c), (0xB2, .idRevoke c), (0xB3, .idCommit c),
      (0xC0, .convOpen c), (0xC1, .convClose c)], servesOpcode c x.1 x.2 := by
  iterate 27 refine List.forall_mem_cons.2 ⟨⟨_, fun _ => rfl⟩, ?_⟩
  iterate 4 refine List.forall_mem_cons.2 ⟨servesOpcode_of_idOp fun _ => rfl, ?_⟩
  iterate 2 refine List.forall_mem_cons.2 ⟨⟨_, fun _ => rfl⟩, ?_⟩
  exact List.forall_mem_nil _

section Opcode

variable {s : State} {c : Client} {op : Nat} {i : Instr} (h : servesOpcode c op i)
include h

theorem servesOpcode.idle (hn : s.dev.headCmd c = none) : exec i s = .next s := by
  obtain ⟨act, h⟩ := h
  rw [h s]
  exact State.on_eq_self (Device.serve_idle hn)

theorem servesOpcode.another {k : Cmd} (hk : s.dev.headCmd c = some k) (ho : k.opcode ≠ op) : exec i s = .next s := by
  obtain ⟨act, h⟩ := h
  rw [h s]
  exact State.on_eq_self (Device.serve_another hk (beq_false_of_ne ho))

theorem servesOpcode.barred {k : Cmd} (hk : s.dev.serves c k) (ho : k.opcode = op) {st : Nat}
    (hb : s.dev.commandBars c k = some st) : exec i s = .next { s with dev := s.dev.answered c k st 0 [] } := by
  obtain ⟨act, h⟩ := h
  rw [h s, State.on, Device.serveOp, Device.serve_barred (p := fun x => x == op) hk (beq_iff_eq.2 ho) hb]

end Opcode

/-! ### The checks one after the other -/

section Bars

variable {d : Device} {c : Client} {k : Cmd}

theorem Device.commandBars_undefined (h : d.opDefined c k = false) : d.commandBars c k = some 1 := by
  simp [Device.commandBars, h]

variable (hd : d.opDefined c k = true)
include hd

theorem Device.commandBars_length (h : lenOk k.opcode k.payload = false) : d.commandBars c k = some 6 := by
  simp [Device.commandBars, hd, h]

theorem Device.opRule_of_opDefined : ∃ r, opRule k.opcode = some r := by
  simp only [Device.opDefined, Bool.and_eq_true] at hd
  exact Option.isSome_iff_exists.1 hd.1.1.2

variable (hl : lenOk k.opcode k.payload = true) {r : OpRule} (hr : opRule k.opcode = some r)
include hl hr

theorem Device.commandBars_rights (h : d.hasRight c r.rights = false) : d.commandBars c k = some 7 := by
  simp [Device.commandBars, hd, hl, hr, h]

variable (hm : d.hasRight c r.rights = true)
include hm

theorem Device.commandBars_lease (hn : r.lease = true) (h : d.holdsLease c = false) : d.commandBars c k = some 8 := by
  simp [Device.commandBars, hd, hl, hr, hm, hn, h]

variable (hn : r.lease = false)
include hn

theorem Device.commandBars_payload {st : Nat} (h : d.payloadBars c k = some st) : d.commandBars c k = some st := by
  simp [Device.commandBars, hd, hl, hr, hm, hn, h]

theorem Device.commandBars_conv (h : d.payloadBars c k = none) : d.commandBars c k = d.convBars c k r.conv := by
  simp [Device.commandBars, hd, hl, hr, hm, hn, h]

end Bars

/-- The payload bars an opcode to which R584 gives no rights of its own. -/
theorem Device.commandBars_free {d : Device} {c : Client} {k : Cmd} (hd : d.opDefined c k = true)
    (hl : lenOk k.opcode k.payload = true) (hr : opRule k.opcode = some ⟨0, false, 0⟩) {st : Nat}
    (h : d.payloadBars c k = some st) : d.commandBars c k = some st :=
  Device.commandBars_payload hd hl hr (by simp [Device.hasRight]) rfl h

/-! ### What the table of R584 asks -/

/-- The opcodes of fixed rights, with the rights of which one is needed. -/
def opcodeRights : List (Nat × Nat) :=
  [(0x03, 16), (0x10, 16), (0x63, 16), (0x70, 16), (0x20, 15), (0x61, 15), (0x62, 15), (0x40, 2), (0x41, 2),
    (0x42, 2), (0x43, 6), (0x50, 2), (0x80, 8), (0xA0, 2), (0xA1, 2), (0xA2, 2), (0xA3, 2), (0xA4, 2), (0xA5, 2), (0xA6, 2),
    (0xA7, 2), (0xB0, 2), (0xB1, 2), (0xB2, 2), (0xB3, 2)]

theorem opRule_rights : ∀ x ∈ opcodeRights, x.2 ≠ 0 ∧ (opRule x.1).map OpRule.rights = some x.2 := by decide

theorem opRule_leased {op : Nat} (h : op = 0x50 ∨ (0xA0 ≤ op ∧ op ≤ 0xB3)) {r : OpRule} (hr : opRule op = some r) :
    r.rights = 2 ∧ r.lease = true := by
  have priv : ∀ r ∈ opRule 0x50, r.rights = 2 ∧ r.lease = true := by decide
  have service : ∀ n < 20, ∀ r ∈ opRule (0xA0 + n), r.rights = 2 ∧ r.lease = true := by decide
  obtain rfl | ⟨lo, hi⟩ := h
  · exact priv r hr
  · exact service (op - 0xA0) (by omega) r (by rwa [Nat.add_sub_cancel' lo])

theorem opRule_app {op : Nat} (h : 0x8000 ≤ op) {r : OpRule} (hr : opRule op = some r) : op ≤ 0xFEFF ∧ r.rights = 16 := by
  have beq : ∀ n < 0x8000, (op == n) = false := fun n hn => beq_false_of_ne (by omega)
  have le : ∀ n < 0x8000, decide (op ≤ n) = false := fun n hn => decide_eq_false (by omega)
  simp (disch := decide) only [opRule, beq, le, Bool.or_self, Bool.and_false, Bool.false_eq_true, if_false, h, decide_true,
    Bool.true_and, decide_eq_true_eq] at hr
  split at hr
  · cases hr
    exact ⟨‹_›, rfl⟩
  · cases hr

theorem Device.hasRight_eq_false {d : Device} {c : Client} {m : Nat} (hm : m ≠ 0) (h : d.privMask c &&& m = 0) :
    d.hasRight c m = false := by simp [Device.hasRight, hm, h]

theorem Device.hasRight_eq_true {d : Device} {c : Client} {m : Nat} (h : d.privMask c &&& m ≠ 0) : d.hasRight c m = true := by
  simp [Device.hasRight, h]

theorem Device.hasRight_zero (d : Device) (c : Client) : d.hasRight c 0 = true := by simp [Device.hasRight]

theorem Device.writeBars_rights {d : Device} {c : Client} {p : List Byte} {i : Nat} {r : Nat × Bool} (hi : i < field p 4 2)
    (hr : hostRight (field p 0 4 + 4 * i) (BitVec.ofNat 32 (field p (8 + 4 * i) 4)) = some r)
    (h : d.hasRight c r.1 = false) : d.writeBars c p = some 7 := by
  unfold Device.writeBars
  rw [if_pos]
  refine List.any_eq_true.2 ⟨some r, List.mem_map.2 ⟨i, List.mem_range.2 hi, hr⟩, ?_⟩
  simp [h]

/-- A CONV_CLOSE that names no open conversation. -/
theorem Device.convBars_closed {d : Device} {c : Client} {k : Cmd} (h : (d.convOf c k.conv).kind = 0) :
    d.convBars c k 4 = some (if (d.convOf c k.conv).timedOut then 0x12 else 0x11) := by
  simp [Device.convBars, h]

/-! ### The statement -/

theorem exec_app (c : Client) : ∃ act, ∀ s : State,
    exec (.app c) s = s.on fun d => d.serve c (fun x => 0x8000 ≤ x && x ≤ 0xFEFF) act := ⟨_, fun _ => rfl⟩

theorem exec_hostUnknownOpcode (c : Client) (s : State) :
    exec (.hostUnknownOpcode c) s = s.on fun d => d.hostUnknown c := rfl

section Judged

variable {s : State} {c : Client}

theorem exec_app_idle (h : s.dev.headCmd c = none) : exec (.app c) s = .next s := by
  obtain ⟨act, run⟩ := exec_app c
  rw [run s]
  exact State.on_eq_self (Device.serve_idle h)

theorem exec_app_another {k : Cmd} (h : s.dev.headCmd c = some k) (ho : k.opcode < 0x8000 ∨ 0xFEFF < k.opcode) :
    exec (.app c) s = .next s := by
  obtain ⟨act, run⟩ := exec_app c
  rw [run s]
  refine State.on_eq_self (Device.serve_another h ?_)
  simp only [Bool.and_eq_false_iff, decide_eq_false_iff_not]
  omega

theorem exec_app_barred {k : Cmd} (h : s.dev.serves c k) (lo : 0x8000 ≤ k.opcode) (hi : k.opcode ≤ 0xFEFF) {st : Nat}
    (hb : s.dev.commandBars c k = some st) : exec (.app c) s = .next { s with dev := s.dev.answered c k st 0 [] } := by
  obtain ⟨act, run⟩ := exec_app c
  rw [run s, State.on, Device.serve_barred h (by simp [lo, hi]) hb]

theorem exec_unknown_idle (h : s.dev.headCmd c = none) : exec (.hostUnknownOpcode c) s = .next s :=
  State.on_eq_self (f := fun d => d.hostUnknown c) (by simp [Device.hostUnknown, h])

theorem exec_unknown_defined {k : Cmd} (h : s.dev.headCmd c = some k) (hd : s.dev.opDefined c k = true) :
    exec (.hostUnknownOpcode c) s = .next s :=
  State.on_eq_self (f := fun d => d.hostUnknown c) (by simp [Device.hostUnknown, h, hd])

theorem exec_unknown_undefined {k : Cmd} (h : s.dev.serves c k) (hd : s.dev.opDefined c k = false) :
    exec (.hostUnknownOpcode c) s = .next { s with dev := s.dev.answered c k 1 0 [] } := by
  rw [exec_hostUnknownOpcode, State.on, Device.hostUnknown, h.1]
  simp [hd, Device.complete_eq_answered h.answerable]

end Judged

/-- Settles O54: each command of a host is one `serve`, which the head of the queue and `commandBars` decide. -/
theorem hostJudgement : Obligations.HostJudgement := by
  unfold Obligations.HostJudgement
  intro s c bad k d commands rights ends
  have serve : ∀ x ∈ commands, servesOpcode c x.1 x.2 := hostCommands_serve c bad
  refine ⟨fun q t hq => ?_, fun idle => ⟨fun x hx => (serve x hx).idle idle, exec_app_idle idle, exec_unknown_idle idle⟩,
    fun head => ⟨fun x hx => (serve x hx).another head, exec_app_another head, exec_unknown_defined head⟩,
    fun hk => ⟨fun undef => ?undefined, fun hd len => ?length, fun hd len => ?checks⟩⟩
  · rw [Device.headCmd_eq_some_iff hq, Device.mustWait_eq_false_iff]
  case undefined =>
    have bars := Device.commandBars_undefined undef
    exact ⟨exec_unknown_undefined hk undef, fun x hx ho => (serve x hx).barred hk ho bars,
      fun lo hi => exec_app_barred hk lo hi bars⟩
  case length => exact fun x hx ho => (serve x hx).barred hk ho (Device.commandBars_length hd len)
  case checks =>
    obtain ⟨r, hr⟩ := Device.opRule_of_opDefined hd
    refine ⟨fun x hx y hy ho hxy none => ?rights, fun x hx ho hop some free => ?lease, fun ho => ?write, fun ho no => ?state,
      fun lo none => ?app, fun ho closed => ?conv⟩
    case rights =>
      obtain ⟨asks, rule⟩ := opRule_rights y hy
      rw [hxy, ← ho, hr, Option.map_some, Option.some_inj] at rule
      rw [← rule] at asks none
      exact (serve x hx).barred hk ho (Device.commandBars_rights hd len hr (Device.hasRight_eq_false asks none))
    case lease =>
      obtain ⟨two, leased⟩ := opRule_leased hop (ho ▸ hr)
      have may : d.hasRight c r.rights = true := Device.hasRight_eq_true (two ▸ some)
      exact (serve x hx).barred hk ho (Device.commandBars_lease hd len hr may leased free)
    case write =>
      rintro ⟨i, hi, n, needs, no⟩
      have bars : d.payloadBars c k = some 7 := by
        simp only [Device.payloadBars, ho]
        exact Device.writeBars_rights hi needs no
      exact servesOpcode.barred ⟨_, fun _ => rfl⟩ hk ho (Device.commandBars_free hd len (by rw [ho]; rfl) bars)
    case state =>
      have bars : d.payloadBars c k = some 7 := by simp [Device.payloadBars, ho, no]
      exact servesOpcode.barred ⟨_, fun _ => rfl⟩ hk ho (Device.commandBars_free hd len (by rw [ho]; rfl) bars)
    case app =>
      obtain ⟨hi, rule⟩ := opRule_app lo hr
      have no : d.hasRight c r.rights = false := by
        rw [rule]
        exact Device.hasRight_eq_false (by decide) none
      exact exec_app_barred hk lo hi (Device.commandBars_rights hd len hr no)
    case conv =>
      have none : d.payloadBars c k = none := by simp [Device.payloadBars, ho]
      have bars := Device.commandBars_conv hd len (r := ⟨0, false, 4⟩) (by rw [ho]; rfl) (d.hasRight_zero c) rfl none
      exact servesOpcode.barred ⟨_, fun _ => rfl⟩ hk ho (bars.trans (Device.convBars_closed closed))

end Sys2Proof.Machine
end

section
/-! PROOFS. A command that the checks let pass: it executes at the head of its queue (R576, R577). -/

namespace Sys2Proof.Machine

/-! ### What the answer of a command leaves alone -/

section Answered

variable (d : Device) (c : Client) (k : Cmd) (st ex : Nat) (data : List Byte)

/-- An answer changes the ports alone. -/
theorem Device.answered_hp : d.answered c k st ex data = { d with hp := (d.answered c k st ex data).hp } :=
  d.setPort_eq c _

@[simp] theorem Device.answered_regs : (d.answered c k st ex data).regs = d.regs := by rw [Device.answered_hp]

@[simp] theorem Device.answered_mem : (d.answered c k st ex data).mem = d.mem := by rw [Device.answered_hp]

@[simp] theorem Device.answered_ecc : (d.answered c k st ex data).ecc = d.ecc := by rw [Device.answered_hp]

@[simp] theorem Device.answered_evc : (d.answered c k st ex data).evc = d.evc := by rw [Device.answered_hp]

@[simp] theorem Device.answered_sed : (d.answered c k st ex data).sed = d.sed := by rw [Device.answered_hp]

@[simp] theorem Device.answered_word (a : Nat) : (d.answered c k st ex data).word a = d.word a := by
  simp [Device.word]

@[simp] theorem Device.answered_get (f : Fld) : (d.answered c k st ex data).get f = d.get f := by simp [Device.get]

@[simp] theorem Device.answered_source (n : Fin 128) : (d.answered c k st ex data).source n = d.source n := by
  simp [Device.source]

@[simp] theorem Device.answered_leaseData : (d.answered c k st ex data).leaseData = d.leaseData := by
  simp [Device.leaseData]

theorem Device.answered_port : (d.answered c k st ex data).port c = (d.port c).answer k (respPayload st ex data) := by
  rw [Device.answered_eq, Device.port_setPort]

theorem Device.answered_port_ne {e : Client} (h : e ≠ c) : (d.answered c k st ex data).port e = d.port e := by
  rw [Device.answered_eq, Device.port_setPort_ne _ _ h]

variable {d}

theorem Device.fired.answered {x : Device} {n : Fin 128} (h : d.fired x n) : d.fired (x.answered c k st ex data) n := by
  simpa [Device.fired] using h

theorem Device.logged.answered {x : Device} {es : List LogEntry} (h : d.logged x es) :
    d.logged (x.answered c k st ex data) es := by
  simpa [Device.logged] using h

end Answered

/-! ### The port of an answer -/

theorem Hp.push_eq (h : Hp) (f : List Byte) : h.push f = { h with outq := (h.push f).outq, backlog := (h.push f).backlog } := by
  unfold Hp.push
  split <;> rfl

theorem Hp.answer_queue (h : Hp) (k : Cmd) (p : List Byte) : (h.answer k p).queue = h.queue.tail := by
  rw [Hp.answer, Hp.push_eq]

theorem Hp.answer_convs (h : Hp) (k : Cmd) (p : List Byte) : (h.answer k p).convs = h.convs := by
  rw [Hp.answer, Hp.push_eq]

theorem Hp.answer_cache (h : Hp) (k : Cmd) (p : List Byte) : (h.answer k p).cache = ((k.seq, p) :: h.cache).take 8 := by
  rw [Hp.answer, Hp.push_eq]

/-! ### A command that executes -/

/-- The command `k` stands at the head of client `c`'s queue, has the opcode `op` and passes checks 5 to 9. -/
def Device.passes (d : Device) (c : Client) (k : Cmd) (op : Nat) : Prop :=
  d.serves c k ∧ k.opcode = op ∧ d.commandBars c k = none

theorem Device.answerable.congr {d e : Device} {c : Client} {k : Cmd} (h : d.answerable c k)
    (hq : (e.port c).queue = (d.port c).queue) (ht : e.txn = d.txn) : e.answerable c k := by
  obtain ⟨head, port, room⟩ := h
  exact ⟨hq ▸ head, port, ht ▸ room⟩

theorem Device.answerable.of_hp {d e : Device} {c : Client} {k : Cmd} (h : d.answerable c k) (hp : e.hp = d.hp)
    (ht : e.txn = d.txn) : e.answerable c k := h.congr (by simp [Device.port, hp]) ht

section Passes

variable {s : State} {c : Client} {k : Cmd} {op : Nat} {i : Instr}

theorem Device.passes.answerable {d : Device} (h : d.passes c k op) : d.answerable c k := h.1.answerable

theorem Device.passes.bars {d : Device} (h : d.passes c k op) : d.commandBars c k = none := h.2.2

variable {act : Device → Cmd → Device} (hi : ∀ s : State, exec i s = s.on fun d => d.serveOp c op act)
  (h : s.dev.passes c k op)
include hi h

theorem exec_passes : exec i s = .next { s with dev := act s.dev k } := by
  obtain ⟨⟨head, -⟩, ho, bars⟩ := h
  rw [hi s, State.on, Device.serveOp, Device.serve_runs (p := fun x => x == op) head (beq_iff_eq.2 ho) bars]

/-- A command completes at the device to which its action leads. -/
theorem completes_passes {p : Device → Prop} (hp : p (act s.dev k)) : Completes i s p :=
  ⟨_, exec_passes hi h, rfl, hp⟩

/-- A command whose action is a plain answer. -/
theorem exec_answers {st ex : Nat} {data : List Byte} (ha : act s.dev k = s.dev.complete c st ex data) :
    exec i s = .next { s with dev := s.dev.answered c k st ex data } := by
  rw [exec_passes hi h, ha, Device.complete_eq_answered h.answerable]

end Passes

end Sys2Proof.Machine
end

section
/-! PROOFS. HELLO, PING and STATUS (O55; R578, R584, R585). -/

namespace Sys2Proof.Machine

theorem leBytes_mod (n v : Nat) : leBytes n (v % 256 ^ n) = leBytes n v := by
  induction n generalizing v with
  | zero => rfl
  | succ n ih =>
    have low : BitVec.ofNat 8 (v % 256 ^ (n + 1)) = BitVec.ofNat 8 v := by
      apply BitVec.eq_of_toNat_eq
      rw [BitVec.toNat_ofNat, BitVec.toNat_ofNat]
      exact Nat.mod_mod_of_dvd _ (Dvd.intro_left (256 ^ n) rfl)
    rw [leBytes, leBytes, low, pow_succ', Nat.mod_mul_right_div_self, ih]

/-- What HELLO answers (R585). -/
def Device.helloData (d : Device) (c : Client) : List Byte :=
  leBytes 2 (d.exp c) ++ leBytes 1 (d.privMask c) ++ [0] ++ leBytes 4 (d.word R.SYS_RST_CAUSE).toNat ++
    leBytes 4 d.sed.resetSeq

/-- The device once HELLO with SYNC has synchronised its client anew (R578). -/
def Device.resynced (d : Device) (c : Client) (k : Cmd) : Device :=
  ((d.setPort c { d.port c with cache := [], convs := .replicate 4 .closed }).setExp c (k.seq + 1)).setFlag
    (F.HP_SEQ_SYNCED c.idx) true

section Resynced

variable (d : Device) (c : Client) (k : Cmd)

theorem Device.resynced_hp : (d.resynced c k).hp =
    (d.setPort c { d.port c with cache := [], convs := .replicate 4 .closed }).hp := by
  rw [Device.resynced, Device.setFlag, Device.put_hp, Device.setExp, Device.put_hp]

theorem Device.resynced_port :
    (d.resynced c k).port c = { d.port c with cache := [], convs := .replicate 4 .closed } := by
  rw [← d.port_setPort c { d.port c with cache := [], convs := .replicate 4 .closed }, Device.port, Device.resynced_hp]
  rfl

theorem Device.resynced_txn : (d.resynced c k).txn = d.txn := by
  rw [Device.resynced, Device.setFlag, Device.put_txn, Device.setExp, Device.put_txn, Device.setPort_txn]

theorem Device.resynced_sed : (d.resynced c k).sed = d.sed := by
  rw [Device.resynced, Device.setFlag, Device.put_sed, Device.setExp, Device.put_sed, Device.setPort_eq]

theorem Device.resynced_exp : (d.resynced c k).exp c = (k.seq + 1) % 65536 := by
  rw [Device.exp, Device.resynced, Device.setFlag, Device.get_put_apart _ _ _ _ (by cases c <;> rfl) (by cases c <;> rfl),
    Device.setExp, Device.get_put_same _ _ _ (by cases c <;> rfl)]
  exact Nat.mod_mod _ _

theorem Device.resynced_synced : (d.resynced c k).synced c = true := by
  rw [Device.synced, Device.flag, Device.resynced, Device.setFlag, Device.get_put_same _ _ _ (by cases c <;> rfl)]
  rfl

theorem Device.resynced_word {a : Nat} (h : a ≠ R.HP_SEQ c.idx) : (d.resynced c k).word a = d.word a := by
  rw [Device.resynced, Device.setFlag, Device.word_put_ne _ _ _ h, Device.setExp, Device.word_put_ne _ _ _ h]
  simp [Device.word]

theorem Device.resynced_helloData : (d.resynced c k).helloData c = leBytes 2 (k.seq + 1) ++ leBytes 1 (d.privMask c) ++ [0] ++
    leBytes 4 (d.word R.SYS_RST_CAUSE).toNat ++ leBytes 4 d.sed.resetSeq := by
  have priv : (d.resynced c k).privMask c = d.privMask c :=
    congrArg (fieldOf · 0 5) (d.resynced_word c k (a := R.HP_PRIV c.idx) (by cases c <;> decide))
  rw [Device.helloData, Device.resynced_exp, priv, Device.resynced_sed, Device.resynced_word _ _ _ (by cases c <;> decide)]
  rw [show leBytes 2 ((k.seq + 1) % 65536) = leBytes 2 (k.seq + 1) from leBytes_mod 2 _]

end Resynced

section Hello

variable {s : State} {c : Client} {k : Cmd}

theorem exec_hello_plain (h : s.dev.passes c k 1) (hf : k.flags.testBit 2 = false) :
    exec (.hello c) s = .next { s with dev := s.dev.answered c k 0 0 (s.dev.helloData c) } :=
  exec_answers (fun _ => rfl) h (by simp [hf, Device.helloData])

theorem completes_hello_sync (h : s.dev.passes c k 1) (hf : k.flags.testBit 2 = true) : Completes (.hello c) s fun e =>
    e = (s.dev.resynced c k).answered c k 0 0 ((s.dev.resynced c k).helloData c) := by
  have ready : (s.dev.resynced c k).answerable c k :=
    h.answerable.congr (by rw [Device.resynced_port]) (Device.resynced_txn _ _ _)
  refine completes_passes (fun _ => rfl) h ?_
  simp only [hf, if_true]
  exact Device.complete_eq_answered ready _ _ _

end Hello

end Sys2Proof.Machine
end

section
/-! PROOFS. Words of memory that are stored and read in a row (R2, R586). -/

namespace Sys2Proof.Machine

/-! ### Little-endian numbers -/

theorem length_leBytes (n v : Nat) : (leBytes n v).length = n := by
  induction n generalizing v with
  | zero => rfl
  | succ n ih => rw [leBytes, List.length_cons, ih]

theorem ofLe_leBytes_mod (n v : Nat) : ofLe (leBytes n v) = v % 256 ^ n := by
  induction n generalizing v with
  | zero => simp [leBytes, ofLe, Nat.mod_one]
  | succ n ih => simp [leBytes, ofLe, ih, Nat.pow_succ', Nat.mod_mul]

theorem ofLe_lt_pow (l : List Byte) : ofLe l < 256 ^ l.length := by
  induction l with
  | nil => exact Nat.one_pos
  | cons b t ih =>
    have := b.isLt
    rw [ofLe, List.length_cons, Nat.pow_succ]
    omega

theorem field_lt (p : List Byte) (o n : Nat) : field p o n < 256 ^ n :=
  Nat.lt_of_lt_of_le (ofLe_lt_pow _) (Nat.pow_le_pow_right (by decide) (by rw [List.length_take]; omega))

/-! ### Bytes -/

section Bytes

variable (d : Device)

theorem Device.byte_setByte_same (a : Nat) (b : Byte) : (d.setByte a b).byte a = b := Store.get_set_same _ _ _ _

theorem Device.byte_setByte_ne {a x : Nat} (b : Byte) (h : x ≠ a) : (d.setByte a b).byte x = d.byte x :=
  Store.get_set_ne _ _ _ h

theorem Device.byte_setBytes_outside {a x : Nat} {bs : List Byte} (h : x < a ∨ a + bs.length ≤ x) :
    (d.setBytes a bs).byte x = d.byte x := by
  induction bs generalizing d a with
  | nil => rfl
  | cons b t ih =>
    rw [List.length_cons] at h
    rw [Device.setBytes, ih _ (by omega), Device.byte_setByte_ne _ _ (by omega)]

theorem Device.bytes_setBytes (a : Nat) (bs : List Byte) : (d.setBytes a bs).bytes a bs.length = bs := by
  induction bs generalizing d a with
  | nil => rfl
  | cons b t ih =>
    rw [Device.setBytes, List.length_cons, Device.bytes, ih, Device.byte_setBytes_outside _ (.inl (Nat.lt_succ_self a)),
      Device.byte_setByte_same]

theorem Device.bytes_congr {d e : Device} {a n : Nat} (h : ∀ x, a ≤ x → x < a + n → e.byte x = d.byte x) :
    e.bytes a n = d.bytes a n := by
  induction n generalizing a with
  | zero => rfl
  | succ n ih => rw [Device.bytes, Device.bytes, h a (by omega) (by omega), ih fun x lo hi => h x (by omega) (by omega)]

theorem Device.memWord_congr {d e : Device} {a : Nat} (h : ∀ x, a ≤ x → x < a + 4 → e.byte x = d.byte x) :
    e.memWord a = d.memWord a := by
  rw [Device.memWord, Device.memWord, Device.bytes_congr h]

/-- Bytes that are set change memory alone. -/
theorem Device.setBytes_eq (a : Nat) (bs : List Byte) : d.setBytes a bs = { d with mem := (d.setBytes a bs).mem } := by
  induction bs generalizing d a with
  | nil => rfl
  | cons b t ih =>
    rw [Device.setBytes, ih]
    rfl

end Bytes

/-! ### Words -/

section Words

variable (d : Device)

/-- A word that is stored changes memory and its errors alone. -/
theorem Device.storeWord_eq (a : Nat) (w : Word) :
    d.storeWord a w = { d with mem := (d.storeWord a w).mem, ecc := (d.storeWord a w).ecc } := by
  rw [Device.storeWord, Device.setMemWord, Device.setBytes_eq]
  rfl

theorem Device.byte_storeWord {a : Nat} (al : a % 4 = 0) (w : Word) (x : Nat) :
    (d.storeWord a w).byte x = (d.setBytes a (leBytes 4 w.toNat)).byte x := by
  rw [Device.storeWord, Device.setMemWord, wordAddr_of_aligned al]
  rfl

theorem Device.byte_storeWord_outside {a : Nat} (al : a % 4 = 0) (w : Word) {x : Nat} (h : x < a ∨ a + 4 ≤ x) :
    (d.storeWord a w).byte x = d.byte x := by
  rw [Device.byte_storeWord d al, Device.byte_setBytes_outside]
  rwa [length_leBytes]

theorem Device.memWord_storeWord {a : Nat} (al : a % 4 = 0) (w : Word) : (d.storeWord a w).memWord a = w := by
  have same : (d.storeWord a w).memWord a = (d.setBytes a (leBytes 4 w.toNat)).memWord a :=
    Device.memWord_congr fun x _ _ => d.byte_storeWord al w x
  have bytes : (d.setBytes a (leBytes 4 w.toNat)).bytes a 4 = leBytes 4 w.toNat := by
    simpa only [length_leBytes] using d.bytes_setBytes a (leBytes 4 w.toNat)
  rw [same, Device.memWord, bytes, ofLe_leBytes_mod, Nat.mod_eq_of_lt (b := 256 ^ 4) w.isLt, BitVec.ofNat_toNat,
    BitVec.setWidth_eq]

/-- The device once the words have been stored from `a` on. -/
def Device.storeWords (d : Device) (a : Nat) : List Word → Device
  | [] => d
  | w :: t => (d.storeWord a w).storeWords (a + 4) t

theorem Device.storeWords_eq (a : Nat) (ws : List Word) :
    d.storeWords a ws = { d with mem := (d.storeWords a ws).mem, ecc := (d.storeWords a ws).ecc } := by
  induction ws generalizing d a with
  | nil => rfl
  | cons w t ih =>
    rw [Device.storeWords, ih, Device.storeWord_eq]

theorem Device.byte_storeWords_outside {a : Nat} (al : a % 4 = 0) {ws : List Word} {x : Nat}
    (h : x < a ∨ a + 4 * ws.length ≤ x) : (d.storeWords a ws).byte x = d.byte x := by
  induction ws generalizing d a with
  | nil => rfl
  | cons w t ih =>
    rw [List.length_cons] at h
    rw [Device.storeWords, ih _ (by omega) (by omega), Device.byte_storeWord_outside _ al _ (by omega)]

theorem Device.memWord_storeWords {a : Nat} (al : a % 4 = 0) {ws : List Word} {i : Nat} (hi : i < ws.length) :
    (d.storeWords a ws).memWord (a + 4 * i) = ws[i] := by
  induction ws generalizing d a i with
  | nil => exact absurd hi (Nat.not_lt_zero i)
  | cons w t ih =>
    rw [Device.storeWords]
    cases i with
    | zero =>
      have first : ((d.storeWord a w).storeWords (a + 4) t).memWord a = (d.storeWord a w).memWord a :=
        Device.memWord_congr fun x _ hx => Device.byte_storeWords_outside _ (by omega) (.inl hx)
      exact first.trans (d.memWord_storeWord al w)
    | succ i =>
      rw [show a + 4 * (i + 1) = a + 4 + 4 * i by omega]
      exact ih _ (by omega) (Nat.lt_of_succ_lt_succ hi)

end Words

end Sys2Proof.Machine
end

section
/-! PROOFS. REG_READ and REG_WRITE (O55; R586). -/

namespace Sys2Proof.Machine

/-! ### What the checks leave -/

theorem Device.lenOk_of_commandBars {d : Device} {c : Client} {k : Cmd} (h : d.commandBars c k = none) :
    lenOk k.opcode k.payload = true := by
  cases hd : d.opDefined c k with
  | false => rw [Device.commandBars_undefined hd] at h; cases h
  | true =>
    cases hl : lenOk k.opcode k.payload with
    | false => rw [Device.commandBars_length hd hl] at h; cases h
    | true => rfl

/-- A register access that passes the checks names a word address. -/
theorem Device.passes.aligned {d : Device} {c : Client} {k : Cmd} {op : Nat} (h : d.passes c k op)
    (hop : op = 0x10 ∨ op = 0x11) : field k.payload 0 4 % 4 = 0 := by
  have len := Device.lenOk_of_commandBars h.bars
  obtain ⟨-, rfl, -⟩ := h
  obtain hop | hop := hop <;> rw [hop] at len <;> simp only [lenOk, Bool.and_eq_true, beq_iff_eq] at len
  · exact len.2.1.1
  · exact len.2.1.1

theorem firstAbsent_eq_some {a n i : Nat} (hi : i < n) (ha : regionOf (a + 4 * i) = .none)
    (hp : ∀ j < i, regionOf (a + 4 * j) ≠ .none) : firstAbsent a n = some i := by
  refine List.find?_range_eq_some.2 ⟨beq_iff_eq.2 ha, List.mem_range.2 hi, fun j hj => ?_⟩
  simpa using hp j hj

theorem firstAbsent_eq_none {a n : Nat} (h : ∀ i < n, regionOf (a + 4 * i) ≠ .none) : firstAbsent a n = none :=
  List.find?_range_eq_none.2 fun i hi => by simpa using h i hi

/-! ### Words of core SRAM over the bus -/

theorem Device.readWords_coreSram {d : Device} (he : d.ecc = []) {a : Nat} (al : a % 4 = 0) (n : Nat)
    (hr : ∀ i < n, regionOf (a + 4 * i) = .coreSram) (acc : List Word) :
    d.readWords a n acc = (acc ++ (List.range n).map fun i => d.memWord (a + 4 * i), true, d) := by
  induction n generalizing a acc with
  | zero => simp [Device.readWords]
  | succ n ih =>
    have good : d.busRead a = (some (d.memWord a), d) := by
      have read := Device.busRead_coreSram (d := d) (hr 0 (Nat.succ_pos n)) (by rw [Device.eccAt, he]; rfl)
      rwa [Nat.mul_zero, Nat.add_zero, wordAddr_of_aligned al] at read
    have next : ∀ i, a + 4 + 4 * i = a + 4 * (i + 1) := fun i => by omega
    have rest := ih (a := a + 4) (by omega) (fun i hi => next i ▸ hr (i + 1) (by omega)) (acc ++ [d.memWord a])
    rw [Device.readWords, good]
    simp only [rest, next, List.range_succ_eq_map, List.map_cons, List.map_map, List.append_assoc, List.singleton_append]
    rfl

theorem Device.busWrite_coreSram (d : Device) (m : Master) (priv : Bool) {a : Nat} (al : a % 4 = 0)
    (hr : regionOf a = .coreSram) (w : Word) : d.busWrite m priv a w = (false, d.storeWord a w) := by
  rw [Device.busWrite, wordAddr_of_aligned al, hr]
  rfl

theorem Device.writeWords_coreSram (d : Device) (m : Master) {a : Nat} (al : a % 4 = 0) {i : Nat} {ws : List Word}
    (hr : ∀ j < ws.length, regionOf (a + 4 * (i + j)) = .coreSram) :
    d.writeWords m a i ws = (none, d.storeWords (a + 4 * i) ws) := by
  induction ws generalizing d i with
  | nil => rfl
  | cons w t ih =>
    have first := d.busWrite_coreSram m true (a := a + 4 * i) (by omega) (hr 0 (Nat.succ_pos _)) w
    rw [Device.writeWords, first]
    simp only
    rw [ih _ fun j hj => by rw [show i + 1 + j = i + (j + 1) by omega]; exact hr _ (Nat.succ_lt_succ hj)]
    rfl

/-! ### The two commands -/

/-- The words that a REG_WRITE carries. -/
def writtenWords (p : List Byte) : List Word :=
  (List.range (field p 4 2)).map fun i => BitVec.ofNat 32 (field p (8 + 4 * i) 4)

theorem length_writtenWords (p : List Byte) : (writtenWords p).length = field p 4 2 := by simp [writtenWords]

section Access

variable {s : State} {c : Client} {k : Cmd}

theorem exec_regRead_absent (h : s.dev.passes c k 0x10) {i : Nat}
    (ha : firstAbsent (field k.payload 0 4) (field k.payload 4 2) = some i) :
    exec (.regRead c) s = .next { s with dev := s.dev.answered c k 0x0A i [] } :=
  exec_answers (fun _ => rfl) h (by simp only [ha])

theorem exec_regWrite_absent (h : s.dev.passes c k 0x11) {i : Nat}
    (ha : firstAbsent (field k.payload 0 4) (field k.payload 4 2) = some i) :
    exec (.regWrite c) s = .next { s with dev := s.dev.answered c k 0x0A i [] } :=
  exec_answers (fun _ => rfl) h (by simp only [ha])

theorem exec_regRead_coreSram (h : s.dev.passes c k 0x10) (he : s.dev.ecc = [])
    (hr : ∀ i < field k.payload 4 2, regionOf (field k.payload 0 4 + 4 * i) = .coreSram) :
    exec (.regRead c) s = .next { s with dev := s.dev.answered c k 0 0 ((List.range (field k.payload 4 2)).flatMap fun i =>
      leBytes 4 (s.dev.memWord (field k.payload 0 4 + 4 * i)).toNat) } := by
  have present := firstAbsent_eq_none fun i hi => (hr i hi).trans_ne (by decide)
  have read := Device.readWords_coreSram he (h.aligned (.inl rfl)) _ hr []
  refine exec_answers (fun _ => rfl) h ?_
  simp only [present, read, List.nil_append, if_true, List.flatMap_map]

theorem completes_regWrite_coreSram (h : s.dev.passes c k 0x11)
    (hr : ∀ i < field k.payload 4 2, regionOf (field k.payload 0 4 + 4 * i) = .coreSram) :
    Completes (.regWrite c) s fun e =>
      e = (s.dev.storeWords (field k.payload 0 4) (writtenWords k.payload)).answered c k 0 0 [] := by
  have present := firstAbsent_eq_none fun i hi => (hr i hi).trans_ne (by decide)
  have write := s.dev.writeWords_coreSram (portMaster c) (h.aligned (.inr rfl)) (i := 0) (ws := writtenWords k.payload)
    fun j hj => by rw [Nat.zero_add]; exact hr j (length_writtenWords k.payload ▸ hj)
  have ready : (s.dev.storeWords (field k.payload 0 4) (writtenWords k.payload)).answerable c k :=
    h.answerable.of_hp (by rw [Device.storeWords_eq]) (by rw [Device.storeWords_eq])
  refine completes_passes (fun _ => rfl) h ?_
  simp only [present, show (List.range _).map _ = writtenWords k.payload from rfl, write]
  exact Device.complete_eq_answered ready 0 0 []

theorem Device.reject_hp (d : Device) (a : Nat) : (d.reject a).hp = d.hp := by
  unfold Device.reject
  rw [Device.log_hp, Device.fire_hp]
  split <;> rfl

theorem Device.reject_txn (d : Device) (a : Nat) : (d.reject a).txn = d.txn := by
  unfold Device.reject
  rw [Device.log_txn, Device.fire_txn]
  split <;> rfl

theorem Device.answerable.reject {d : Device} {c : Client} {k : Cmd} (h : d.answerable c k) (a : Nat) :
    (d.reject a).answerable c k := h.of_hp (d.reject_hp a) (d.reject_txn a)

theorem completes_regWrite_reserved (h : s.dev.passes c k 0x11) (one : field k.payload 4 2 = 1)
    (hp : regionOf (field k.payload 0 4) = .periph) {r : RegSpec} (hf : regFind (field k.payload 0 4) = some r)
    (hr : s.dev.writeReserved (portMaster c) true r (field k.payload 0 4) (BitVec.ofNat 32 (field k.payload 8 4)) = true) :
    Completes (.regWrite c) s fun e =>
      e = (s.dev.reject (field k.payload 0 4)).answered c k 0x0B 0 (leBytes 4 (field k.payload 0 4)) := by
  have al := h.aligned (.inr rfl)
  have present : firstAbsent (field k.payload 0 4) 1 = none := firstAbsent_eq_none fun i hi => by
    rw [Nat.lt_one_iff.1 hi, Nat.mul_zero, Nat.add_zero, hp]
    decide
  have write : s.dev.busWrite (portMaster c) true (field k.payload 0 4) (BitVec.ofNat 32 (field k.payload 8 4)) =
      (true, s.dev.reject (field k.payload 0 4)) := by
    rw [Device.busWrite, wordAddr_of_aligned al, hp]
    exact Device.regWrite_reserved hf hr
  refine completes_passes (fun _ => rfl) h ?_
  simp only [one, present, List.range_one, List.map_cons, List.map_nil, Device.writeWords, Nat.mul_zero, Nat.add_zero, write]
  exact Device.complete_eq_answered (h.answerable.reject _) _ _ _

end Access

end Sys2Proof.Machine
end

section
/-! PROOFS. EVT_DONE, STATE_REQ and SET_PRIV (O55; R587 to R589). -/

namespace Sys2Proof.Machine

/-! ### A rejection that a command answers (R17) -/

/-- A command that ends with a rejection answers as it would without it, and CFG_REJECT fires. -/
theorem Device.reject_answered (d : Device) (c : Client) (k : Cmd) {a : Nat} (ha : a < 2 ^ 32) (st ex : Nat)
    (data : List Byte) : ((d.reject a).answered c k st ex data).port c = (d.answered c k st ex data).port c ∧
      d.fired ((d.reject a).answered c k st ex data) 0 := by
  have same : (d.reject a).port c = d.port c := by rw [Device.port, Device.reject_hp, Device.port]
  obtain ⟨-, fired, -⟩ := d.reject_reports (BitVec.ofNat 32 a)
  rw [BitVec.toNat_ofNat, Nat.mod_eq_of_lt ha] at fired
  exact ⟨by rw [Device.answered_port, Device.answered_port, same], fired.answered c k st ex data⟩

theorem Device.reject_word (d : Device) {a : Nat} (ha : a < 2 ^ 32) {b : Nat} (hb : b ∉ noteWords)
    (h1 : b ≠ R.SYS_REJECT_ADDR) (h2 : b ≠ R.SYS_REJECT_CNT) : (d.reject a).word b = d.word b := by
  obtain ⟨⟨-, word⟩, -, -⟩ := d.reject_reports (BitVec.ofNat 32 a)
  rw [BitVec.toNat_ofNat, Nat.mod_eq_of_lt ha] at word
  rw [word b hb, d.lookup_rejectWords _ h1 h2]
  rfl

/-! ### EVT_DONE (R139, R587) -/

theorem Device.completeEvent_inService {d : Device} {x : Fin 4} {n : Fin 128} (hs : (d.source n).st = .inService)
    (ht : (d.source n).target = x) : d.completeEvent x n = d.setSource n (d.source n).complete := by
  simp [Device.completeEvent, hs, ht]

theorem Device.completeEvent_other {d : Device} {x : Fin 4} {n : Fin 128}
    (h : ¬ ((d.source n).st = .inService ∧ (d.source n).target = x)) :
    d.completeEvent x n = d.orField F.EVC_STAT_BADDONE 1 := by
  simp only [Device.completeEvent, n.isLt, dite_true, Fin.eta, Bool.and_eq_true, beq_iff_eq, h, if_false]

theorem Device.completeEvent_hp (d : Device) (x : Fin 4) (n : Nat) : (d.completeEvent x n).hp = d.hp := by
  unfold Device.completeEvent
  split
  · dsimp only
    split <;> rfl
  · rfl

theorem Device.completeEvent_txn (d : Device) (x : Fin 4) (n : Nat) : (d.completeEvent x n).txn = d.txn := by
  unfold Device.completeEvent
  split
  · dsimp only
    split <;> rfl
  · rfl

theorem Hp.push_ntf (h : Hp) (f : List Byte) (l : List Ntf) :
    ({ h with ntf := l } : Hp).push f = { h.push f with ntf := l } := by
  have out : ({ h with ntf := l } : Hp).outBytes = h.outBytes := rfl
  simp only [Hp.push, out]
  by_cases room : (h.backlog.isEmpty && h.outBytes + f.length ≤ 4096) = true
  · simp only [room, if_true]
  · simp only [room, Bool.false_eq_true, if_false]

theorem Hp.answer_ntf (h : Hp) (k : Cmd) (p : List Byte) (l : List Ntf) :
    ({ h with ntf := l } : Hp).answer k p = { h.answer k p with ntf := l } :=
  Hp.push_ntf { h with queue := h.queue.tail, busy := false, relay := none, cache := ((k.seq, p) :: h.cache).take 8 } _ l

/-- The target of a port's events. -/
def portTarget (c : Client) : Fin 4 := if c = .a then 2 else 3

/-- The device once the port of client `c` has completed source `n` and its notification has been served. -/
def Device.eventDone (d : Device) (c : Client) (n : Nat) : Device :=
  (d.completeEvent (portTarget c) n).setPort c { d.port c with ntf := (d.port c).ntf.filter fun t => t.source != n }

section Host

variable {s : State} {c : Client} {k : Cmd}

theorem completes_evtDone (h : s.dev.passes c k 0x20) {n : Fin 128} (hn : field k.payload 0 1 = n) :
    Completes (.evtDone c) s fun e => e = (s.dev.eventDone c n).answered c k 0 0 [] := by
  have port : (s.dev.completeEvent (portTarget c) n).port c = s.dev.port c := by
    rw [Device.port, Device.completeEvent_hp, Device.port]
  have ready : (s.dev.eventDone c n).answerable c k := by
    refine h.answerable.congr ?_ ?_
    · rw [Device.eventDone, Device.port_setPort]
    · rw [Device.eventDone, Device.setPort_txn, Device.completeEvent_txn]
  refine completes_passes (fun _ => rfl) h ?_
  have target : (if c == .a then 2 else 3 : Fin 4) = portTarget c := by cases c <;> rfl
  simp only [hn, Nat.not_le.2 n.isLt, if_false, target, port]
  exact Device.complete_eq_answered ready 0 0 []

theorem completes_evtDone_unknown (h : s.dev.passes c k 0x20) (hn : 128 ≤ field k.payload 0 1) :
    Completes (.evtDone c) s fun e => e = (s.dev.reject (R.EVC_DONE_x (2 + c.idx))).answered c k 0x0B 0 [] := by
  refine completes_passes (fun _ => rfl) h ?_
  simp only [hn, if_true]
  exact Device.complete_eq_answered (h.answerable.reject _) _ _ _

end Host

section EventDone

variable (d : Device) (c : Client) (k : Cmd) (n : Fin 128)

theorem Device.eventDone_port : ((d.eventDone c n).answered c k 0 0 []).port c =
    { (d.answered c k 0 0 []).port c with ntf := (d.port c).ntf.filter fun t => t.source != n.val } := by
  rw [Device.answered_port, Device.answered_port, Device.eventDone, Device.port_setPort, Hp.answer_ntf]

variable {d c n}

theorem Device.eventDone_inService (h : (d.source n).st = .inService ∧ (d.source n).target = portTarget c) :
    (d.eventDone c n).source n = (d.source n).complete ∧ (d.eventDone c n).regs = d.regs := by
  obtain ⟨hs, ht⟩ := h
  rw [Device.eventDone, Device.completeEvent_inService hs ht, Device.setPort_eq]
  exact ⟨d.source_setSource n _, rfl⟩

theorem Device.eventDone_other (h : ¬ ((d.source n).st = .inService ∧ (d.source n).target = portTarget c)) :
    (d.eventDone c n).source n = d.source n ∧ (d.eventDone c n).get F.EVC_STAT_BADDONE = 1 := by
  have bit : (d.orField F.EVC_STAT_BADDONE 1).get F.EVC_STAT_BADDONE = 1 := by
    have lt : d.get F.EVC_STAT_BADDONE < 2 ^ 1 := d.regs.get_lt F.EVC_STAT_BADDONE
    rw [Device.orField, Device.get_put_same _ _ _ (by decide)]
    obtain e | e : d.get F.EVC_STAT_BADDONE = 0 ∨ d.get F.EVC_STAT_BADDONE = 1 := by omega
    all_goals rw [e]; decide
  rw [Device.eventDone, Device.completeEvent_other h, Device.setPort_eq]
  exact ⟨rfl, bit⟩

end EventDone

/-! ### STATE_REQ (R208, R209, R588) -/

theorem Device.payloadBars_of_commandBars {d : Device} {c : Client} {k : Cmd} (h : d.commandBars c k = none) :
    d.payloadBars c k = none := by
  unfold Device.commandBars at h
  obtain ⟨-, h⟩ := not_and_eq_of_ite_eq (Option.some_ne_none _) h
  obtain ⟨-, h⟩ := not_and_eq_of_ite_eq (Option.some_ne_none _) h
  split at h
  · cases h
  · obtain ⟨-, h⟩ := not_and_eq_of_ite_eq (Option.some_ne_none _) h
    obtain ⟨-, h⟩ := not_and_eq_of_ite_eq (Option.some_ne_none _) h
    split at h
    · cases h
    · assumption

theorem Device.passes.stateRight {d : Device} {c : Client} {k : Cmd} (h : d.passes c k 0x30) :
    d.hasRight c (stateRights (field k.payload 0 1)) = true := by
  have bars := Device.payloadBars_of_commandBars h.bars
  obtain ⟨-, op, -⟩ := h
  simp only [Device.payloadBars, op] at bars
  by_contra no
  rw [if_neg no] at bars
  cases bars

/-- A host that holds the rights of a state request is not refused for its rights (R208). -/
theorem Device.requestRefused_eq_none {d : Device} {c : Client} {code : Nat} (lo : 1 ≤ code) (hi : code ≤ 9)
    (h : d.hasRight c (stateRights code) = true) : d.requestRefused (portMaster c) true code = none := by
  have rights : stateRights code = requestRights code ∧ requestRights code ≠ 0 := by
    have all : ∀ n < 10, 1 ≤ n → stateRights n = requestRights n ∧ requestRights n ≠ 0 := by decide
    exact all code (by omega) lo
  obtain ⟨same, some⟩ := rights
  have may : d.privMask c &&& requestRights code ≠ 0 := by
    simpa [Device.hasRight, same, some] using h
  cases c <;> exact if_neg (by simpa [Device.privMask, Client.idx] using may)

/-- The device once a request has been noted in PWR_CMD_STAT. -/
def Device.requested (d : Device) (code : Nat) : Device := d.put F.PWR_CMD_STAT_REQ code

section Requested

variable (d : Device) (code : Nat)

theorem Device.requested_get {f : Fld} (h : F.PWR_CMD_STAT_REQ.apart f = true) : (d.requested code).get f = d.get f :=
  Device.get_put_apart _ _ _ _ (by decide) h

theorem Device.requested_word {a : Nat} (h : a ≠ R.PWR_CMD_STAT) : (d.requested code).word a = d.word a :=
  Device.word_put_ne _ _ _ h

theorem Device.requested_isState (n : Nat) : (d.requested code).isState n = d.isState n := by
  rw [Device.isState, Device.isState, d.requested_get code (by decide)]

theorem Device.requested_running : (d.requested code).running = d.running := by
  have pwr : (d.requested code).pwr = d.pwr := rfl
  simp only [Device.running, Device.requested_isState, pwr]

theorem Device.requested_anyFault : (d.requested code).anyFault = d.anyFault := by
  rw [Device.anyFault, Device.anyFault, d.requested_word code (by decide)]

theorem Device.requested_flag {f : Fld} (h : F.PWR_CMD_STAT_REQ.apart f = true) : (d.requested code).flag f = d.flag f := by
  rw [Device.flag, Device.flag, d.requested_get code h]

theorem Device.requested_noOpeningFault : (d.requested code).noOpeningFault = d.noOpeningFault := by
  simp only [Device.noOpeningFault, d.requested_word code (a := R.PWR_FAULT) (by decide),
    d.requested_flag code (f := F.PWR_CTL_OPEN_ON_FAULT) (by decide)]

theorem Device.requested_prechargeBars : (d.requested code).prechargeBars = d.prechargeBars := by
  simp only [Device.prechargeBars, Device.requested_noOpeningFault, d.requested_flag code (f := F.PWR_STAT_PRES) (by decide)]

theorem Device.requested_main : (d.requested code).get F.PWR_STAT_MAIN = d.get F.PWR_STAT_MAIN :=
  d.requested_get code (by decide)

theorem Device.requested_playBars (exit : Bool) : (d.requested code).playBars exit = d.playBars exit := by
  simp only [Device.playBars, Device.requested_anyFault, Device.requested_prechargeBars, Device.requested_main,
    d.requested_flag code (f := F.PWR_STAT_PRES) (by decide), d.requested_flag code (f := F.PWR_STAT_DRV_OK) (by decide),
    d.requested_get code (f := F.DIAG_HOLD_HOLD) (by decide)]

/-- What bars a request does not depend on what PWR_CMD_STAT says. -/
theorem Device.requested_requestBars (n : Nat) : (d.requested code).requestBars n = d.requestBars n := by
  have busy : (d.requested code).powerBusy = d.powerBusy := rfl
  have stopped : (d.requested code).streamStopped = d.streamStopped := rfl
  have flight : (d.requested code).txnInFlight = d.txnInFlight := rfl
  simp only [Device.requestBars, Device.requested_isState, Device.requested_running, Device.requested_playBars,
    Device.requested_anyFault, Device.requested_main, Device.requested_prechargeBars, busy, stopped, flight]

end Requested

/-- A request of a host that holds its rights, while nothing is in progress, is judged by the present state (R208, R209). -/
theorem Device.pwrCommand_idle {d : Device} {c : Client} {code : Nat} (lo : 1 ≤ code) (hi : code ≤ 9)
    (right : d.hasRight c (stateRights code) = true) (idle : d.powerBusy = false) :
    d.pwrCommand (portMaster c) true code = (d.requestBars code).elim ((d.requested code).acceptRequest (portMaster c) code)
      fun r => (d.requested code).answerRequest 3 r := by
  have held : (d.requested code).hasRight c (stateRights code) = true := by
    rw [Device.hasRight, Device.privMask, d.requested_get code (by cases c <;> decide)]
    exact right
  have refused := Device.requestRefused_eq_none lo hi held
  have busy : (d.requested code).powerBusy = false := idle
  have code0 : (code == 0) = false := beq_false_of_ne (by omega)
  rw [← d.requested_requestBars code]
  unfold Device.pwrCommand
  simp only [code0, Bool.false_eq_true, if_false]
  simp only [show d.put F.PWR_CMD_STAT_REQ code = d.requested code from rfl, refused, busy, Bool.false_and,
    Bool.false_eq_true, if_false]
  cases (d.requested code).requestBars code <;> rfl

/-- The answer of a request in PWR_CMD_STAT. -/
theorem Device.answerRequest_get (d : Device) {code result reason : Nat} (hc : code < 16) (h : result < 4)
    (hr : reason < 16) : let e := (d.requested code).answerRequest result reason
    e.get F.PWR_CMD_STAT_REQ = code ∧ e.get F.PWR_CMD_STAT_RESULT = result ∧ e.get F.PWR_CMD_STAT_REASON = reason := by
  simp (disch := decide) only [Device.answerRequest, Device.requested, Device.get_put_same, Device.get_put_apart]
  exact ⟨Nat.mod_eq_of_lt hc, Nat.mod_eq_of_lt h, Nat.mod_eq_of_lt hr⟩

section States

variable {s : State} {c : Client} {k : Cmd} (h : s.dev.passes c k 0x30)
include h

theorem completes_stateReq_unknown (hc : 10 ≤ field k.payload 0 1) :
    Completes (.stateReq c) s fun e => e = (s.dev.reject R.PWR_CMD).answered c k 0x0B 0 [] := by
  refine completes_passes (fun _ => rfl) h ?_
  simp only [hc, if_true]
  exact Device.complete_eq_answered (h.answerable.reject _) _ _ _

variable (lo : 1 ≤ field k.payload 0 1) (hi : field k.payload 0 1 ≤ 9) (idle : s.dev.powerBusy = false)
include lo hi idle

theorem completes_stateReq_refused {r : Nat} (hr : r < 16) (bars : s.dev.requestBars (field k.payload 0 1) = some r) :
    Completes (.stateReq c) s fun e =>
      e = ((s.dev.requested (field k.payload 0 1)).answerRequest 3 r).answered c k 0x0D r [] := by
  have judged := Device.pwrCommand_idle lo hi h.stateRight idle
  rw [bars, Option.elim_some] at judged
  obtain ⟨-, result, reason⟩ := s.dev.answerRequest_get (code := field k.payload 0 1) (by omega) (show 3 < 4 by decide) hr
  have ready : ((s.dev.requested (field k.payload 0 1)).answerRequest 3 r).answerable c k := h.answerable.of_hp rfl rfl
  refine completes_passes (fun _ => rfl) h ?_
  simp only [show ¬ 10 ≤ field k.payload 0 1 by omega, if_false, judged, result, reason, beq_self_eq_true, if_true]
  exact Device.complete_eq_answered ready _ _ _

end States

/-- The device once the main switch is to close: its precharge is due. -/
def Device.mainClosing (d : Device) : Device := { d with pwr := { d.pwr with pre := .due } }

/-- An accepted MAIN_CLOSE that finds the main switch not closed: the precharge is due (R219). -/
theorem completes_stateReq_mainClose {s : State} {c : Client} {k : Cmd} (h : s.dev.passes c k 0x30)
    (code : field k.payload 0 1 = 8) (idle : s.dev.powerBusy = false) (bars : s.dev.requestBars 8 = none)
    (closed : s.dev.get F.PWR_STAT_MAIN ≠ 2) : Completes (.stateReq c) s fun e =>
      e = (s.dev.mainClosing.requested 8 |>.answerRequest 1 0).answered c k 0 1 [] := by
  have right := h.stateRight
  rw [code] at right
  have judged := Device.pwrCommand_idle (by decide) (by decide) right idle
  have accept : (s.dev.requested 8).acceptRequest (portMaster c) 8 =
      (s.dev.mainClosing.requested 8).answerRequest 1 0 := by
    have main : ((s.dev.requested 8).get F.PWR_STAT_MAIN == 2) = false :=
      beq_false_of_ne (by rwa [Device.requested_main])
    simp only [Device.acceptRequest, main, Bool.false_eq_true, if_false]
    rfl
  rw [bars, Option.elim_none, accept] at judged
  obtain ⟨-, result, -⟩ := s.dev.mainClosing.answerRequest_get (show 8 < 16 by decide) (show 1 < 4 by decide)
    (show 0 < 16 by decide)
  have ready : (s.dev.mainClosing.requested 8 |>.answerRequest 1 0).answerable c k := h.answerable.of_hp rfl rfl
  refine completes_passes (fun _ => rfl) h ?_
  simp only [code, show ¬ 10 ≤ 8 by decide, if_false, judged, result, show ((1 : Nat) == 3) = false from rfl,
    Bool.false_eq_true]
  exact Device.complete_eq_answered ready _ _ _

/-! ### SET_PRIV (R26, R589) -/

/-- The operation of a SET_PRIV that leaves the clients the rights `a` and `b` (R717). -/
def Device.privOp (d : Device) (c who : Client) (mask a b : Nat) : SecOp :=
  ⟨[d.systemLine a b], some ⟨c, 0, 0, []⟩, .priv who mask, false, 0⟩

theorem Device.beginCmd_port {d : Device} {c : Client} {k : Cmd} (h : d.answerable c k) :
    d.beginCmd c = d.setPort c { d.port c with busy := true } := by
  obtain ⟨head, port, -⟩ := h
  obtain ⟨t, hq⟩ := List.head?_eq_some_iff.1 head
  have core : (k.origin == Origin.core) = false := by rw [port]; rfl
  simp only [Device.beginCmd, hq, core, Bool.false_eq_true, if_false]

/-- A journalled operation joins those that write lines; where nothing was to be written, it begins (R718). -/
theorem Device.begins_secOp {d : Device} {c : Client} {k : Cmd} (h : d.answerable c k) {op : SecOp} {j : LineJob}
    (lines : op.lines = [j]) (plain : j.plain = false) (upd : op.upd = false) :
    d.begins ((d.beginCmd c).secOp op) c op := by
  have nvs : (d.setPort c { d.port c with busy := true }).nvs = d.nvs := by rw [Device.setPort_eq]
  have sed : (d.setPort c { d.port c with busy := true }).sed = d.sed := by rw [Device.setPort_eq]
  rw [Device.beginCmd_port h]
  unfold Device.begins Device.secOp
  refine ⟨fun busy => ?_, fun idle ops pq req _ warn => ?_⟩
  · simp [Device.nvsPick, nvs, busy]
  · have free : ∀ e : Device, e.mayWrite op = true := fun e => by simp [Device.mayWrite, Device.bound, upd]
    have low : ∀ e : Device, e.regs = d.regs → e.flag F.PWR_VMON_BO_WARN = false := fun e he => by
      simpa [Device.flag, Device.get, he] using warn
    simp [Device.nvsPick, nvs, sed, idle, ops, pq, free, low, lines, plain, List.findIdx?_cons]

section SetPriv

variable {s : State} {c : Client} {k : Cmd} (h : s.dev.passes c k 0x50)
include h

theorem exec_setPriv_invalid (hp : 1 < field k.payload 0 1 ∨ 31 < field k.payload 1 1) :
    exec (.setPriv c) s = .next { s with dev := s.dev.answered c k 0x0B 0 [] } :=
  exec_answers (fun _ => rfl) h (by simp only [Bool.or_eq_true, decide_eq_true_eq, hp, if_true])

variable {a b : Nat} (valid : ¬ (1 < field k.payload 0 1 ∨ 31 < field k.payload 1 1))
  (ha : a = if field k.payload 0 1 = 0 then field k.payload 1 1 else s.dev.privMask .a)
  (hb : b = if field k.payload 0 1 = 1 then field k.payload 1 1 else s.dev.privMask .b)
include valid ha hb

/-- SET_PRIV keeps one client with the rights of bit 2 and one with those of bit 1 (R589). -/
theorem exec_setPriv_denied (hr : (a ||| b) &&& 4 = 0 ∨ (a ||| b) &&& 2 = 0) :
    exec (.setPriv c) s = .next { s with dev := s.dev.answered c k 7 0 [] } := by
  refine exec_answers (fun _ => rfl) h ?_
  simp only [Bool.or_eq_true, decide_eq_true_eq, valid, if_false, beq_iff_eq, ← ha, ← hb, hr, if_true]

theorem completes_setPriv (h4 : (a ||| b) &&& 4 ≠ 0) (h2 : (a ||| b) &&& 2 ≠ 0) : Completes (.setPriv c) s fun e =>
    s.dev.begins e c (s.dev.privOp c (if field k.payload 0 1 = 0 then .a else .b) (field k.payload 1 1) a b) := by
  refine completes_passes (fun _ => rfl) h ?_
  simp only [Bool.or_eq_true, decide_eq_true_eq, valid, if_false, beq_iff_eq, ← ha, ← hb, h4, h2, or_self]
  exact Device.begins_secOp h.answerable rfl rfl rfl

end SetPriv

end Sys2Proof.Machine
end

section
/-! PROOFS. An occurrence that is raised after other changes: its source and its log entry (R141, R657). -/

namespace Sys2Proof.Machine

/-- What an occurrence depends on, its source apart from the log, is the same in `f` as in `d`. -/
def Device.steady (d f : Device) : Prop :=
  f.evc = d.evc ∧ f.pwr = d.pwr ∧ f.clk = d.clk ∧ f.word R.PWR_STAT = d.word R.PWR_STAT ∧
    f.word R.TXN_EPOCH = d.word R.TXN_EPOCH

theorem Device.get_eq_of_word {d f : Device} {g : Fld} (h : f.word g.addr = d.word g.addr) : f.get g = d.get g :=
  congrArg (fieldOf · g.lsb g.width) h

section Steady

variable {d f : Device} (h : d.steady f)
include h

theorem Device.steady.latchArmed (n : Nat) : f.latchArmed n = d.latchArmed n := by
  obtain ⟨evc, pwr, -, stat, -⟩ := h
  have state : f.get F.PWR_STAT_STATE = d.get F.PWR_STAT_STATE := Device.get_eq_of_word stat
  simp only [Device.latchArmed, Device.coreRuns, Device.still, Device.isState, state, pwr, evc]

theorem Device.steady.entry (source sev detail : Nat) (data : List Byte) :
    f.entry source sev detail data = d.entry source sev detail data := by
  obtain ⟨-, -, clk, -, epoch⟩ := h
  have epoch : f.epoch = d.epoch := Device.get_eq_of_word (g := F.TXN_EPOCH_EPOCH) epoch
  rw [Device.entry, Device.entry, epoch, clk]

theorem Device.steady.fired_raise (n : Fin 128) (hs : isSource n.val = true) (hn : n.val < 124) (detail : Nat)
    (data : List Byte) : d.fired (f.raise n.val detail data) n := by
  have fired := f.fired_raise n hs hn detail data
  have source : f.source n = d.source n := by
    obtain ⟨evc, -⟩ := h
    rw [Device.source, evc, Device.source]
  rwa [Device.fired, h.latchArmed, source] at fired

/-- An occurrence whose device has logged at most one entry before is logged behind it. -/
theorem Device.steady.logged_raise (one : d.logsOne f) (n detail : Nat) (data : List Byte) (hd : detail < 8192)
    (hb : data.length ≤ 11) : d.logged (f.raise n detail data) [d.entry n (sourceSev n) detail data] := by
  intro hg hq
  have room : d.sed.wq.length + 9 ≤ logQueueCap := hq
  obtain ⟨gap, before, hlen, queue⟩ := one hg (by omega)
  have some : f.sed.wq.length < logQueueCap := by
    rw [queue, length_foldl_placeEntry]
    omega
  obtain ⟨gap, extra, xlen, fqueue⟩ := f.fire_logsOne n gap some
  have free : (f.fire n).sed.wq.length < logQueueCap := by
    rw [fqueue, queue, length_foldl_placeEntry, length_foldl_placeEntry]
    omega
  refine ⟨before ++ extra ++ [d.entry n (sourceSev n) detail data], ?_, List.sublist_append_right _ _⟩
  rw [List.foldl_append, List.foldl_append, ← queue, ← fqueue, ← h.entry, ← f.fire_entry n]
  unfold Device.raise
  rw [Device.log_queued _ _ _ _ _ gap free, Nat.mod_eq_of_lt hd, List.take_of_length_le hb]
  rfl

end Steady

end Sys2Proof.Machine
end

section
/-! PROOFS. The lease and the event flags of the two ports (R598 to R600). -/

namespace Sys2Proof.Machine

/-! ### The lease in both blocks -/

/-- Both blocks show the lease. -/
def Device.leased (e : Device) (st holder remain : Nat) : Prop := ∀ x < 2, e.get (F.HP_LEASE_STATE x) = st ∧
  e.get (F.HP_LEASE_HOLDER x) = holder ∧ e.get (F.HP_LEASE_REMAIN x) = remain

theorem Device.leased.congr {d e : Device} {st holder remain : Nat} (h : d.leased st holder remain)
    (hw : ∀ x < 2, e.word (R.HP_LEASE x) = d.word (R.HP_LEASE x)) : e.leased st holder remain := by
  intro x hx
  have word := hw x hx
  rw [Device.get_eq_of_word (g := F.HP_LEASE_STATE x) word, Device.get_eq_of_word (g := F.HP_LEASE_HOLDER x) word,
    Device.get_eq_of_word (g := F.HP_LEASE_REMAIN x) word]
  exact h x hx

theorem Device.put_of_regs {d e : Device} (h : e = { d with regs := e.regs }) (f : Fld) (v : Nat) :
    e.put f v = { d with regs := (e.put f v).regs } :=
  congrArg (fun x : Device => { x with regs := e.regs.put f v }) h

section SetLease

variable (d : Device) (st holder remain : Nat)

theorem Device.setLease_puts : d.setLease st holder remain =
    (((((d.put (F.HP_LEASE_STATE 0) st).put (F.HP_LEASE_HOLDER 0) holder).put (F.HP_LEASE_REMAIN 0) remain).put
      (F.HP_LEASE_STATE 1) st).put (F.HP_LEASE_HOLDER 1) holder).put (F.HP_LEASE_REMAIN 1) remain := by
  simp only [Device.setLease, List.range_succ, List.range_zero, List.nil_append, List.foldl_append, List.foldl_cons,
    List.foldl_nil]

/-- A lease that is set changes registers alone. -/
theorem Device.setLease_eq : d.setLease st holder remain = { d with regs := (d.setLease st holder remain).regs } := by
  rw [Device.setLease_puts]
  iterate 6 refine Device.put_of_regs ?_ _ _
  rfl

theorem Device.setLease_word {a : Nat} (h0 : a ≠ R.HP_LEASE 0) (h1 : a ≠ R.HP_LEASE 1) :
    (d.setLease st holder remain).word a = d.word a := by
  rw [Device.setLease_puts, Device.word_put_ne _ _ _ h1, Device.word_put_ne _ _ _ h1, Device.word_put_ne _ _ _ h1,
    Device.word_put_ne _ _ _ h0, Device.word_put_ne _ _ _ h0, Device.word_put_ne _ _ _ h0]

variable {st holder remain}

theorem Device.setLease_leased (hs : st < 4) (hh : holder < 4) (hr : remain < 1024) :
    (d.setLease st holder remain).leased st holder remain := by
  intro x hx
  obtain rfl | rfl : x = 0 ∨ x = 1 := by omega
  all_goals
    simp (disch := decide) only [Device.setLease_puts, Device.get_put_same, Device.get_put_apart]
    exact ⟨Nat.mod_eq_of_lt hs, Nat.mod_eq_of_lt hh, Nat.mod_eq_of_lt hr⟩

end SetLease

/-! ### The event flags of both ports -/

theorem Device.hpEvt_testBit (d : Device) (c : Client) (v : Nat) {x i : Nat} (hx : x < 2) (hi : i < 8) :
    ((d.hpEvt c v).get (F.HP_EVT_EVT x)).testBit i =
      ((d.get (F.HP_EVT_EVT x)).testBit i || (x == c.idx && v.testBit i)) := by
  have fits : ∀ y, (F.HP_EVT_EVT y).fits = true := fun _ => rfl
  by_cases hc : x = c.idx
  · subst hc
    rw [Device.hpEvt, Device.orField, Device.get_put_same _ _ _ (fits _), Nat.testBit_mod_two_pow, Nat.testBit_or]
    simp [F.HP_EVT_EVT, hi]
  · have apart : (F.HP_EVT_EVT c.idx).apart (F.HP_EVT_EVT x) = true := by
      have : ∀ y < 2, y ≠ c.idx → (F.HP_EVT_EVT c.idx).apart (F.HP_EVT_EVT y) = true := by cases c <;> decide
      exact this x hx hc
    rw [Device.hpEvt, Device.orField, Device.get_put_apart _ _ _ _ (fits _) apart]
    simp [hc]

/-- The device once both ports have the event flags `v`. -/
def Device.bothEvt (d : Device) (v : Nat) : Device := (d.hpEvt .a v).hpEvt .b v

theorem Device.bothEvt_testBit (d : Device) (v : Nat) {x i : Nat} (hx : x < 2) (hi : i < 8) :
    ((d.bothEvt v).get (F.HP_EVT_EVT x)).testBit i = ((d.get (F.HP_EVT_EVT x)).testBit i || v.testBit i) := by
  rw [Device.bothEvt, Device.hpEvt_testBit _ _ _ hx hi, Device.hpEvt_testBit _ _ _ hx hi]
  obtain rfl | rfl : x = 0 ∨ x = 1 := by omega
  all_goals simp [Client.idx]

theorem Device.bothEvt_word (d : Device) (v : Nat) {a : Nat} (h0 : a ≠ R.HP_EVT 0) (h1 : a ≠ R.HP_EVT 1) :
    (d.bothEvt v).word a = d.word a :=
  (Device.word_put_ne _ (F.HP_EVT_EVT 1) _ h1).trans (Device.word_put_ne _ (F.HP_EVT_EVT 0) _ h0)

theorem Device.bothEvt_hp (d : Device) (v : Nat) : (d.bothEvt v).hp = d.hp := rfl

theorem Device.bothEvt_sed (d : Device) (v : Nat) : (d.bothEvt v).sed = d.sed := rfl

end Sys2Proof.Machine
end

section
/-! PROOFS. The opcodes of the lease and its end (O55; R598 to R600). -/

namespace Sys2Proof.Machine

/-! ### A lease that is set as its opcode completes -/

/-- The device with other registers, and the lease at a place of its millisecond. -/
def Device.withLease (base : Device) (regs : RegMap) (phase : Nat) : Device := { base with regs := regs, leasePhase := phase }

theorem Device.withLease_regs (base : Device) (regs : RegMap) (phase : Nat) : (base.withLease regs phase).regs = regs := rfl

theorem Device.withLease_hp (base : Device) (regs : RegMap) (phase : Nat) : (base.withLease regs phase).hp = base.hp := rfl

theorem Device.withLease_txn (base : Device) (regs : RegMap) (phase : Nat) : (base.withLease regs phase).txn = base.txn := rfl

theorem Device.withLease_sed (base : Device) (regs : RegMap) (phase : Nat) : (base.withLease regs phase).sed = base.sed := rfl

/-- The device `base` with the lease set and its millisecond at `phase`. -/
def Device.leaseSet (base : Device) (phase st holder remain : Nat) : Device :=
  base.withLease (base.setLease st holder remain).regs phase

theorem Device.withLease_of_eq {base e : Device} {regs : RegMap} (h : e = { base with regs := regs }) (phase : Nat) :
    ({ e with leasePhase := phase } : Device) = base.withLease regs phase := by
  subst h
  rfl

theorem Device.grantLease_eq (d : Device) (c : Client) : d.grantLease c = d.leaseSet 0 1 (c.idx + 1) 500 := by
  rw [Device.grantLease, Device.leaseSet]
  exact Device.withLease_of_eq (d.setLease_eq 1 (c.idx + 1) 500) 0

theorem Device.setLease_eq_leaseSet (d : Device) (st holder remain : Nat) :
    d.setLease st holder remain = d.leaseSet d.leasePhase st holder remain := d.setLease_eq _ _ _

section LeaseSet

variable (base : Device) (phase st holder remain : Nat)

theorem Device.leaseSet_regs : (base.leaseSet phase st holder remain).regs = (base.setLease st holder remain).regs :=
  Device.withLease_regs _ _ _

theorem Device.leaseSet_hp : (base.leaseSet phase st holder remain).hp = base.hp := Device.withLease_hp _ _ _

theorem Device.leaseSet_txn : (base.leaseSet phase st holder remain).txn = base.txn := Device.withLease_txn _ _ _

theorem Device.leaseSet_sed : (base.leaseSet phase st holder remain).sed = base.sed := Device.withLease_sed _ _ _

theorem Device.leaseSet_word {a : Nat} (h0 : a ≠ R.HP_LEASE 0) (h1 : a ≠ R.HP_LEASE 1) :
    (base.leaseSet phase st holder remain).word a = base.word a := by
  rw [← base.setLease_word st holder remain h0 h1, Device.word, Device.leaseSet_regs, Device.word]

variable {st holder remain}

theorem Device.leaseSet_leased (hs : st < 4) (hh : holder < 4) (hr : remain < 1024) :
    (base.leaseSet phase st holder remain).leased st holder remain :=
  (base.setLease_leased hs hh hr).congr fun x _ => by rw [Device.word, Device.leaseSet_regs, Device.word]

variable {base} (hs : st < 4) (hh : holder < 4) (hr : remain < 1024)
include hs hh hr

/-- What holds of the device once an opcode has set the lease and completed with it. -/
theorem Device.leaseSet_answered {d : Device} (regs : base.regs = d.regs) (c : Client) (k : Cmd) :
    let e := (base.leaseSet phase st holder remain).answered c k 0 0 (base.leaseSet phase st holder remain).leaseData
    e = ({ base with regs := e.regs, leasePhase := phase } : Device).answered c k 0 0 e.leaseData ∧
      e.leased st holder remain ∧ ∀ a, a ≠ R.HP_LEASE 0 → a ≠ R.HP_LEASE 1 → e.word a = d.word a := by
  refine ⟨?_, ?_, fun a h0 h1 => ?_⟩
  · rw [Device.answered_leaseData, Device.answered_regs, Device.leaseSet_regs]
    rfl
  · exact (base.leaseSet_leased phase hs hh hr).congr fun x _ => Device.answered_word _ _ _ _ _ _ _
  · rw [Device.answered_word, Device.leaseSet_word _ _ _ _ _ h0 h1, Device.word, regs, Device.word]

end LeaseSet

/-! ### The conversations that need the lease (R596) -/

/-- The port without its UPDATE and ADOPT conversations. -/
def Hp.unleased (h : Hp) : Hp := { h with convs := h.convs.map fun v => if v.kind = 1 ∨ v.kind = 2 then .closed else v }

theorem Device.closeLeased_eq (d : Device) (c : Client) : d.closeLeased c = d.setPort c (d.port c).unleased := by
  simp only [Device.closeLeased, Hp.unleased, Bool.or_eq_true, beq_iff_eq]

theorem Hp.unleased_convs (h : Hp) : ∀ v ∈ h.unleased.convs.toList, v.kind ≠ 1 ∧ v.kind ≠ 2 := by
  intro v hv
  rw [Hp.unleased, Vector.toList_map, List.mem_map] at hv
  obtain ⟨u, -, rfl⟩ := hv
  split
  · exact ⟨by decide, by decide⟩
  · rename_i no
    exact not_or.1 no

theorem Device.setPort_put (d : Device) (c : Client) (h : Hp) (f : Fld) (v : Nat) :
    (d.put f v).setPort c h = (d.setPort c h).put f v := by cases c <;> rfl

theorem Device.setPort_setLease (d : Device) (c : Client) (h : Hp) (st holder remain : Nat) :
    (d.setLease st holder remain).setPort c h = (d.setPort c h).setLease st holder remain := by
  simp only [Device.setLease_puts, Device.setPort_put]

theorem Device.closeLeased_setLease (d : Device) (c : Client) (st holder remain : Nat) :
    (d.setLease st holder remain).closeLeased c =
      (d.setPort c (d.port c).unleased).leaseSet d.leasePhase st holder remain := by
  have port : (d.setLease st holder remain).port c = d.port c := by rw [Device.setLease_eq, Device.port, Device.port]
  have phase : (d.setPort c (d.port c).unleased).leasePhase = d.leasePhase := by rw [Device.setPort_eq]
  rw [Device.closeLeased_eq, port, Device.setPort_setLease, Device.setLease_eq_leaseSet, phase]

/-! ### The opcodes -/

theorem Device.leaseOf_iff (d : Device) (c : Client) :
    d.leaseOf c = true ↔ d.get (F.HP_LEASE_STATE 0) ≠ 0 ∧ d.get (F.HP_LEASE_HOLDER 0) = c.idx + 1 := by
  simp [Device.leaseOf, Device.leaseState]

/-- What an opcode of the lease leaves: `base` with the lease set, and the command completed with it. -/
def Device.leaseEnds (d base : Device) (c : Client) (k : Cmd) (st holder remain : Nat) (e : Device) : Prop :=
  e = (base.leaseSet (if st = 1 then 0 else d.leasePhase) st holder remain).answered c k 0 0
    (base.leaseSet (if st = 1 then 0 else d.leasePhase) st holder remain).leaseData

theorem Client.idx_lt (c : Client) : c.idx < 2 := by cases c <;> decide

section Opcodes

variable {s : State} {c : Client} {k : Cmd}

theorem Device.answerable.leaseSet {base : Device} (h : base.answerable c k) (phase st holder remain : Nat) :
    (base.leaseSet phase st holder remain).answerable c k :=
  h.of_hp (base.leaseSet_hp _ _ _ _) (base.leaseSet_txn _ _ _ _)

/-- An opcode whose action sets the lease and completes. -/
theorem completes_leaseEnds {op : Nat} {i : Instr} {act : Device → Cmd → Device}
    (hi : ∀ s : State, exec i s = s.on fun d => d.serveOp c op act) (h : s.dev.passes c k op) {base : Device}
    (hb : base.answerable c k) {st holder remain : Nat}
    (ha : act s.dev k = (base.leaseSet (if st = 1 then 0 else s.dev.leasePhase) st holder remain).leaseDone c 0) :
    Completes i s (s.dev.leaseEnds base c k st holder remain) := by
  refine completes_passes hi h ?_
  rw [ha]
  exact Device.complete_eq_answered (hb.leaseSet _ _ _ _) _ _ _

theorem completes_leaseAcquire (h : s.dev.passes c k 0x40)
    (may : s.dev.get (F.HP_LEASE_STATE 0) = 0 ∨ s.dev.leaseOf c = true) :
    Completes (.leaseAcquire c) s (s.dev.leaseEnds s.dev c k 1 (c.idx + 1) 500) := by
  refine completes_leaseEnds (fun _ => rfl) h h.answerable ?_
  simp only [Device.leaseState, Bool.or_eq_true, beq_iff_eq, may, if_true, Device.grantLease_eq]

theorem exec_leaseAcquire_taken (h : s.dev.passes c k 0x40) (free : s.dev.get (F.HP_LEASE_STATE 0) ≠ 0)
    (no : s.dev.leaseOf c = false) :
    exec (.leaseAcquire c) s = .next { s with dev := s.dev.answered c k 9 0 s.dev.leaseData } := by
  refine exec_answers (fun _ => rfl) h ?_
  simp only [Device.leaseState, beq_false_of_ne free, no, Bool.or_self, Bool.false_eq_true, if_false]
  rfl

theorem completes_leaseRenew (h : s.dev.passes c k 0x41) (mine : s.dev.leaseOf c = true) :
    Completes (.leaseRenew c) s (s.dev.leaseEnds s.dev c k 1 (c.idx + 1) 500) := by
  refine completes_leaseEnds (fun _ => rfl) h h.answerable ?_
  simp only [mine, if_true, Device.grantLease_eq]

theorem exec_leaseRenew_none (h : s.dev.passes c k 0x41) (no : s.dev.leaseOf c = false) :
    exec (.leaseRenew c) s = .next { s with dev := s.dev.answered c k 8 0 s.dev.leaseData } := by
  refine exec_answers (fun _ => rfl) h ?_
  simp only [no, Bool.false_eq_true, if_false]
  rfl

theorem completes_leaseRelease (h : s.dev.passes c k 0x42) (mine : s.dev.leaseOf c = true) :
    Completes (.leaseRelease c) s
      (s.dev.leaseEnds (s.dev.setPort c (s.dev.port c).unleased) c k 0 0 0) := by
  have ready : (s.dev.setPort c (s.dev.port c).unleased).answerable c k :=
    h.answerable.congr (by rw [Device.port_setPort]; rfl) (s.dev.setPort_txn c _)
  refine completes_leaseEnds (fun _ => rfl) h ready ?_
  simp only [mine, if_true, Device.closeLeased_setLease]
  rfl

theorem exec_leaseRelease_none (h : s.dev.passes c k 0x42) (no : s.dev.leaseOf c = false) :
    exec (.leaseRelease c) s = .next { s with dev := s.dev.answered c k 8 0 s.dev.leaseData } := by
  refine exec_answers (fun _ => rfl) h ?_
  simp only [no, Bool.false_eq_true, if_false]
  rfl

end Opcodes

/-! ### LEASE_BREAK of a lease that is not EXPIRED (R600) -/

section Break

variable {s : State} {c : Client} {k : Cmd} (h : s.dev.passes c k 0x43)
include h

theorem completes_leaseBreak_grants (free : s.dev.get (F.HP_LEASE_STATE 0) = 0) (may : s.dev.hasRight c 2 = true) :
    Completes (.leaseBreak c) s (s.dev.leaseEnds s.dev c k 1 (c.idx + 1) 500) := by
  refine completes_leaseEnds (fun _ => rfl) h h.answerable ?_
  simp only [Device.leaseState, free, beq_self_eq_true, Device.takeLease, may, if_true, Device.grantLease_eq]

theorem completes_leaseBreak_free (free : s.dev.get (F.HP_LEASE_STATE 0) = 0) (no : s.dev.hasRight c 2 = false) :
    Completes (.leaseBreak c) s (s.dev.leaseEnds s.dev c k 0 0 0) := by
  refine completes_leaseEnds (fun _ => rfl) h h.answerable ?_
  simp only [Device.leaseState, free, beq_self_eq_true, Device.takeLease, no, if_true, Bool.false_eq_true, if_false,
    Device.setLease_eq_leaseSet]
  rfl

theorem exec_leaseBreak_own (mine : s.dev.leaseOf c = true) :
    exec (.leaseBreak c) s = .next { s with dev := s.dev.answered c k 0 0 s.dev.leaseData } := by
  obtain ⟨held, -⟩ := (s.dev.leaseOf_iff c).1 mine
  refine exec_answers (fun _ => rfl) h ?_
  simp only [Device.leaseState, beq_false_of_ne held, mine, Bool.false_eq_true, if_false, if_true]
  rfl

variable (no : s.dev.leaseOf c = false)
include no

theorem exec_leaseBreak_held (held : s.dev.get (F.HP_LEASE_STATE 0) = 1) :
    exec (.leaseBreak c) s = .next { s with dev := s.dev.answered c k 9 0 s.dev.leaseData } := by
  refine exec_answers (fun _ => rfl) h ?_
  simp only [Device.leaseState, held, no, show ((1 : Nat) == 0) = false from rfl, beq_self_eq_true, Bool.false_eq_true,
    if_false, if_true]
  rfl

theorem exec_leaseBreak_waits (expired : s.dev.get (F.HP_LEASE_STATE 0) = 2) (busy : (s.dev.port c.other).busy = true) :
    exec (.leaseBreak c) s = .next s := by
  refine exec_passes (act := fun d _ => _) (fun _ => rfl) h |>.trans ?_
  simp only [Device.leaseState, expired, no, show ((2 : Nat) == 0) = false from rfl, show ((2 : Nat) == 1) = false from rfl,
    Bool.false_eq_true, if_false, busy, if_true]

end Break

end Sys2Proof.Machine
end

section
/-! PROOFS. LEASE_BREAK of an EXPIRED lease, and the end of the lease timer (O55; R599, R600, R607). -/

namespace Sys2Proof.Machine

/-! ### The commands of the silent client end with ABORTED -/

/-- The port once the queued command `q` has been answered with ABORTED. -/
def Hp.abort (h : Hp) (q : Cmd) : Hp :=
  ({ h with cache := ((q.seq, respPayload 0x0E 0 []) :: h.cache).take 8 } : Hp).push (q.response (respPayload 0x0E 0 []))

theorem Hp.abort_queue (h : Hp) (q : Cmd) : (h.abort q).queue = h.queue := by rw [Hp.abort, Hp.push_eq]

theorem Hp.abort_cache (h : Hp) (q : Cmd) :
    (h.abort q).cache = ((q.seq, respPayload 0x0E 0 []) :: h.cache).take 8 := by rw [Hp.abort, Hp.push_eq]

/-- The port, which executes nothing, once each command of its queue has been answered with ABORTED. -/
def Hp.aborted (h : Hp) : Hp := h.queue.foldl Hp.abort { h with queue := [], busy := false }

theorem Hp.foldl_abort_queue (qs : List Cmd) (h : Hp) : (qs.foldl Hp.abort h).queue = h.queue := by
  induction qs generalizing h with
  | nil => rfl
  | cons q t ih => rw [List.foldl_cons, ih, Hp.abort_queue]

theorem Hp.aborted_queue (h : Hp) : h.aborted.queue = [] := Hp.foldl_abort_queue _ _

theorem Hp.aborted_cache_single {h : Hp} {q : Cmd} (hq : h.queue = [q]) :
    h.aborted.cache.head? = some (q.seq, respPayload 0x0E 0 []) := by
  rw [Hp.aborted, hq, List.foldl_cons, List.foldl_nil, Hp.abort_cache]
  rfl

theorem Device.foldl_finishCmd (d : Device) (o : Client) {qs : List Cmd} (own : ∀ q ∈ qs, q.origin = .port) (h : Hp) :
    qs.foldl (fun d q => d.finishCmd o q (respPayload 0x0E 0 [])) (d.setPort o h) = d.setPort o (qs.foldl Hp.abort h) := by
  induction qs generalizing h with
  | nil => rfl
  | cons q t ih =>
    rw [List.foldl_cons, List.foldl_cons, Device.finishCmd_port _ _ (own q List.mem_cons_self), Device.port_setPort,
      Device.setPort_setPort]
    exact ih (fun x hx => own x (List.mem_cons_of_mem q hx)) (h.abort q)

/-- The flag and the entry of the commands that were aborted (R600). -/
def Device.noteAborted (d : Device) (o : Client) (x y : Nat) : Device :=
  (d.hpEvt o 0x80).log 151 1 o.idx (leBytes 2 x ++ leBytes 2 y)

/-- What aborting the queue of a client that executes nothing does: nothing where the queue is empty, else each of its
commands is answered, and the flag and one entry tell of it. -/
theorem Device.abortQueue_idle {d : Device} {o : Client} (idle : (d.port o).busy = false)
    (own : ∀ q ∈ (d.port o).queue, q.origin = .port) :
    let e := d.setPort o (d.port o).aborted
    ((d.port o).queue = [] ∧ d.abortQueue o = e) ∨ ∃ x y, d.abortQueue o = e.noteAborted o x y := by
  have named : ((d.port o).queue.filter fun q => q.origin != Origin.core) = (d.port o).queue :=
    List.filter_eq_self.2 fun q hq => by rw [own q hq]; rfl
  unfold Device.abortQueue
  simp only [idle, Bool.false_eq_true, if_false, named, Device.foldl_finishCmd d o own]
  cases hq : (d.port o).queue with
  | nil => exact .inl ⟨rfl, by rw [Hp.aborted, hq]; rfl⟩
  | cons q t =>
    right
    have last : ∃ y, (List.map (fun k => k.seq) (q :: t)).getLast? = some y :=
      ⟨_, List.getLast?_eq_some_getLast (by simp)⟩
    obtain ⟨y, last⟩ := last
    refine ⟨q.seq, y, ?_⟩
    rw [last, Hp.aborted, hq]
    rfl

/-! ### What stays while a lease changes hands -/

/-- The registers in which the two ports show their lease and their event flags. -/
def portWords : List Nat := [R.HP_EVT 0, R.HP_EVT 1, R.HP_LEASE 0, R.HP_LEASE 1]

/-- Event controller, power sequence, clocks, transactions and every register but those of the log, the event controller
and `portWords` are in `e` as in `d`. -/
def Device.aside (d e : Device) : Prop :=
  e.evc = d.evc ∧ e.pwr = d.pwr ∧ e.clk = d.clk ∧ e.txn = d.txn ∧ ∀ a, a ∉ noteWords → a ∉ portWords → e.word a = d.word a

theorem Device.aside.trans {d e f : Device} (h : d.aside e) (g : e.aside f) : d.aside f := by
  obtain ⟨evc, pwr, clk, txn, word⟩ := h
  obtain ⟨evc', pwr', clk', txn', word'⟩ := g
  exact ⟨evc'.trans evc, pwr'.trans pwr, clk'.trans clk, txn'.trans txn, fun a hn hp => (word' a hn hp).trans (word a hn hp)⟩

theorem Device.aside.steady {d e : Device} (h : d.aside e) : d.steady e := by
  obtain ⟨evc, pwr, clk, -, word⟩ := h
  exact ⟨evc, pwr, clk, word _ (by decide) (by decide), word _ (by decide) (by decide)⟩

theorem Device.aside.txn {d e : Device} (h : d.aside e) : e.txn = d.txn := by
  obtain ⟨-, -, -, txn, -⟩ := h
  exact txn

theorem Device.aside.hasRight {d e : Device} (h : d.aside e) (c : Client) (m : Nat) : e.hasRight c m = d.hasRight c m := by
  obtain ⟨-, -, -, -, word⟩ := h
  have priv : e.privMask c = d.privMask c :=
    Device.get_eq_of_word (g := F.HP_PRIV_MASK c.idx) (word _ (by cases c <;> decide) (by cases c <;> decide))
  rw [Device.hasRight, priv, Device.hasRight]

theorem Device.aside_setPort (d : Device) (c : Client) (h : Hp) : d.aside (d.setPort c h) := by
  refine ⟨?_, ?_, ?_, d.setPort_txn c h, fun a _ _ => by rw [Device.word, Device.setPort_regs, Device.word]⟩ <;>
    rw [Device.setPort_eq]

theorem Device.aside_hpEvt (d : Device) (c : Client) (v : Nat) : d.aside (d.hpEvt c v) := by
  refine ⟨rfl, rfl, rfl, rfl, fun a _ ha => Device.word_put_ne _ _ _ fun e => ha ?_⟩
  rw [e]
  cases c <;> decide

theorem Device.aside_bothEvt (d : Device) (v : Nat) : d.aside (d.bothEvt v) :=
  (d.aside_hpEvt .a v).trans (Device.aside_hpEvt _ .b v)

theorem Device.aside_log (d : Device) (n sev detail : Nat) (data : List Byte) : d.aside (d.log n sev detail data) := by
  have noted := d.log_noted n sev detail data
  refine ⟨d.log_evc n sev detail data, ?_, ?_, ?_, fun a ha _ => noted.word ha⟩ <;>
    · obtain ⟨regs, evc, sed, eq, -⟩ := noted
      rw [eq]

theorem Device.withLease_steady (base : Device) (regs : RegMap) (phase : Nat) : (base.withLease regs phase).evc = base.evc ∧
    (base.withLease regs phase).pwr = base.pwr ∧ (base.withLease regs phase).clk = base.clk := ⟨rfl, rfl, rfl⟩

theorem Device.aside_leaseSet (d : Device) (phase st holder remain : Nat) : d.aside (d.leaseSet phase st holder remain) := by
  obtain ⟨evc, pwr, clk⟩ := d.withLease_steady (d.setLease st holder remain).regs phase
  refine ⟨evc, pwr, clk, d.leaseSet_txn phase st holder remain, fun a _ ha => ?_⟩
  refine d.leaseSet_word phase st holder remain (fun e => ha ?_) fun e => ha ?_
  all_goals rw [e]; decide

/-! ### The device before the lease goes on -/

/-- The lease goes on, to the client or to nobody. -/
theorem Device.takeLease_eq_leaseSet (d : Device) (c : Client) :
    ∃ phase st holder remain, d.takeLease c = d.leaseSet phase st holder remain := by
  unfold Device.takeLease
  split
  · exact ⟨_, _, _, _, d.grantLease_eq c⟩
  · exact ⟨_, _, _, _, d.setLease_eq_leaseSet 0 0 0⟩

section Aborted

variable {d : Device} {o : Client} (idle : (d.port o).busy = false) (own : ∀ q ∈ (d.port o).queue, q.origin = .port)
include idle own

theorem Device.aside_abortQueue : d.aside (d.abortQueue o) := by
  have ports := d.aside_setPort o (d.port o).aborted
  obtain ⟨-, eq⟩ | ⟨x, y, eq⟩ := Device.abortQueue_idle idle own
  · rwa [eq]
  · rw [eq]
    exact (ports.trans (Device.aside_hpEvt _ o _)).trans (Device.aside_log _ _ _ _ _)

theorem Device.logsOne_abortQueue : d.logsOne (d.abortQueue o) := by
  have sed : (d.setPort o (d.port o).aborted).sed = d.sed := by rw [Device.setPort_eq]
  obtain ⟨-, eq⟩ | ⟨x, y, eq⟩ := Device.abortQueue_idle idle own
  · rw [eq]
    exact Device.logsOne_of_sed sed
  · rw [eq]
    exact Device.logsOne_log (f := (d.setPort o (d.port o).aborted).hpEvt o 0x80) sed _ _ _ _

theorem Device.abortQueue_hp : (d.abortQueue o).hp = (d.setPort o (d.port o).aborted).hp := by
  obtain ⟨-, eq⟩ | ⟨x, y, eq⟩ := Device.abortQueue_idle idle own
  · rw [eq]
  · rw [eq, Device.noteAborted, Device.log_hp]
    rfl

theorem Device.abortQueue_flag (some : (d.port o).queue ≠ []) :
    ((d.abortQueue o).get (F.HP_EVT_EVT o.idx)).testBit 7 = true := by
  obtain ⟨none, -⟩ | ⟨x, y, eq⟩ := Device.abortQueue_idle idle own
  · exact absurd none some
  · have word := (Device.log_noted ((d.setPort o (d.port o).aborted).hpEvt o 0x80) 151 1 o.idx
      (leBytes 2 x ++ leBytes 2 y)).word (a := R.HP_EVT o.idx) (by cases o <;> decide)
    rw [eq, Device.noteAborted, Device.get_eq_of_word (g := F.HP_EVT_EVT o.idx) word,
      Device.hpEvt_testBit _ _ _ (Client.idx_lt o) (by decide)]
    rw [beq_self_eq_true, Bool.true_and, show Nat.testBit 0x80 7 = true by decide, Bool.or_true]

end Aborted

/-- The device once client `c` has broken the lease that client `o` lost: before the occurrence is raised. -/
def Device.broken (d : Device) (o c : Client) : Device :=
  (((d.abortQueue o).closeLeased o).takeLease c).bothEvt 64

section Broken

variable {d : Device} {o c : Client} (idle : (d.port o).busy = false) (own : ∀ q ∈ (d.port o).queue, q.origin = .port)

theorem Device.aside_closeLeased (d : Device) (c : Client) : d.aside (d.closeLeased c) := by
  rw [Device.closeLeased_eq]
  exact d.aside_setPort c _

theorem Device.broken_sed (d : Device) (o c : Client) : (d.broken o c).sed = (d.abortQueue o).sed := by
  obtain ⟨phase, st, holder, remain, eq⟩ := ((d.abortQueue o).closeLeased o).takeLease_eq_leaseSet c
  rw [Device.broken, Device.bothEvt_sed, eq, Device.leaseSet_sed, Device.closeLeased_eq, Device.setPort_eq]

theorem Device.broken_hp (d : Device) (o c : Client) : (d.broken o c).hp =
    ((d.abortQueue o).setPort o ((d.abortQueue o).port o).unleased).hp := by
  obtain ⟨phase, st, holder, remain, eq⟩ := ((d.abortQueue o).closeLeased o).takeLease_eq_leaseSet c
  rw [Device.broken, Device.bothEvt_hp, eq, Device.leaseSet_hp, Device.closeLeased_eq]

theorem Device.port_congr {d e : Device} (h : e.hp = d.hp) (c : Client) : e.port c = d.port c := by
  rw [Device.port, h, Device.port]

theorem Device.broken_leased (d : Device) (o c : Client) {st holder remain : Nat}
    (h : (((d.abortQueue o).closeLeased o).takeLease c).leased st holder remain) :
    (d.broken o c).leased st holder remain := by
  refine h.congr fun x hx => Device.bothEvt_word _ _ ?_ ?_
  all_goals
    obtain rfl | rfl : x = 0 ∨ x = 1 := by omega
    all_goals decide

include idle own

theorem Device.aside_broken : d.aside (d.broken o c) := by
  obtain ⟨phase, st, holder, remain, eq⟩ := ((d.abortQueue o).closeLeased o).takeLease_eq_leaseSet c
  have took : ((d.abortQueue o).closeLeased o).aside (((d.abortQueue o).closeLeased o).takeLease c) := by
    rw [eq]
    exact Device.aside_leaseSet _ _ _ _ _
  exact (((Device.aside_abortQueue idle own).trans (Device.aside_closeLeased _ o)).trans took).trans
    (Device.aside_bothEvt _ 64)

theorem Device.logsOne_broken : d.logsOne (d.broken o c) := by
  have one := Device.logsOne_abortQueue idle own
  unfold Device.logsOne at *
  rwa [Device.broken_sed]

theorem Device.broken_port : (d.broken o c).port o = (d.port o).aborted.unleased := by
  rw [Device.port_congr (Device.broken_hp d o c), Device.port_setPort,
    Device.port_congr (Device.abortQueue_hp idle own), Device.port_setPort]

theorem Device.broken_port_ne (ne : c ≠ o) : (d.broken o c).port c = d.port c := by
  rw [Device.port_congr (Device.broken_hp d o c), Device.port_setPort_ne _ _ ne,
    Device.port_congr (Device.abortQueue_hp idle own), Device.port_setPort_ne _ _ ne]

theorem Device.broken_leased_of_hasRight (right : d.hasRight c 2 = true) : (d.broken o c).leased 1 (c.idx + 1) 500 := by
  have held : ((d.abortQueue o).closeLeased o).hasRight c 2 = true := by
    rwa [((Device.aside_abortQueue idle own).trans (Device.aside_closeLeased _ o)).hasRight]
  refine Device.broken_leased d o c ?_
  rw [Device.takeLease, if_pos held, Device.grantLease_eq]
  exact Device.leaseSet_leased _ _ (by decide) (Nat.lt_of_lt_of_le (Nat.succ_lt_succ (Client.idx_lt c)) (by decide)) (by decide)

theorem Device.broken_leased_of_not (right : d.hasRight c 2 = false) : (d.broken o c).leased 0 0 0 := by
  have none : ((d.abortQueue o).closeLeased o).hasRight c 2 = false := by
    rwa [((Device.aside_abortQueue idle own).trans (Device.aside_closeLeased _ o)).hasRight]
  refine Device.broken_leased d o c ?_
  rw [Device.takeLease, if_neg (by rw [none]; decide)]
  exact Device.setLease_leased _ (by decide) (by decide) (by decide)

theorem Device.broken_flag (some : (d.port o).queue ≠ []) :
    ((d.broken o c).get (F.HP_EVT_EVT o.idx)).testBit 7 = true := by
  obtain ⟨phase, st, holder, remain, eq⟩ := ((d.abortQueue o).closeLeased o).takeLease_eq_leaseSet c
  have word : (((d.abortQueue o).closeLeased o).takeLease c).word (R.HP_EVT o.idx) = (d.abortQueue o).word (R.HP_EVT o.idx) := by
    rw [eq, Device.leaseSet_word _ _ _ _ _ (by cases o <;> decide) (by cases o <;> decide), Device.closeLeased_eq, Device.word,
      Device.setPort_regs, Device.word]
  rw [Device.broken, Device.bothEvt_testBit _ _ (Client.idx_lt o) (by decide),
    Device.get_eq_of_word (g := F.HP_EVT_EVT o.idx) word, Device.abortQueue_flag idle own some]
  rfl

end Broken

/-! ### LEASE_BREAK of an EXPIRED lease -/

/-- The device at the end of a LEASE_BREAK of an EXPIRED lease. -/
def Device.breakEnds (d : Device) (c : Client) (k : Cmd) : Device :=
  ((d.broken c.other c).raise 118 0).answered c k 0 0 ((d.broken c.other c).raise 118 0).leaseData

section BreakEnds

variable {d : Device} {c : Client} (k : Cmd)

theorem Device.breakEnds_word {a : Nat} (h : a ∉ noteWords) : (d.breakEnds c k).word a = (d.broken c.other c).word a := by
  rw [Device.breakEnds, Device.answered_word]
  exact (Device.raise_noted _ _ _ _).word h

theorem Device.breakEnds_get {f : Fld} (h : f.addr ∉ noteWords) : (d.breakEnds c k).get f = (d.broken c.other c).get f :=
  Device.get_eq_of_word (Device.breakEnds_word k h)

theorem Device.breakEnds_leased {st holder remain : Nat} (h : (d.broken c.other c).leased st holder remain) :
    (d.breakEnds c k).leased st holder remain := by
  refine h.congr fun x hx => Device.breakEnds_word k ?_
  obtain rfl | rfl : x = 0 ∨ x = 1 := by omega
  all_goals decide

theorem Device.breakEnds_evt {x : Nat} (hx : x < 2) : ((d.breakEnds c k).get (F.HP_EVT_EVT x)).testBit 6 = true := by
  have quiet : R.HP_EVT x ∉ noteWords := by
    obtain rfl | rfl : x = 0 ∨ x = 1 := by omega
    all_goals decide
  rw [Device.breakEnds_get k quiet, Device.broken, Device.bothEvt_testBit _ _ hx (by decide),
    show Nat.testBit 64 6 = true by decide, Bool.or_true]

variable (idle : (d.port c.other).busy = false) (own : ∀ q ∈ (d.port c.other).queue, q.origin = .port)
include idle own

theorem Device.breakEnds_port_other : (d.breakEnds c k).port c.other = (d.port c.other).aborted.unleased := by
  rw [Device.breakEnds, Device.answered_port_ne _ _ _ _ _ _ (Client.other_ne c),
    Device.port_congr (Device.raise_hp _ _ _ _), Device.broken_port idle own]

theorem Device.breakEnds_port : (d.breakEnds c k).port c =
    (d.port c).answer k (respPayload 0 0 (d.breakEnds c k).leaseData) := by
  rw [Device.breakEnds, Device.answered_port, Device.answered_leaseData, Device.port_congr (Device.raise_hp _ _ _ _),
    Device.broken_port_ne idle own (Client.other_ne c).symm]

theorem Device.breakEnds_fired : d.fired (d.breakEnds c k) 118 :=
  ((Device.aside_broken idle own).steady.fired_raise 118 (by decide) (by decide) 0 []).answered c k 0 0 _

theorem Device.breakEnds_logged : d.logged (d.breakEnds c k) [d.entry 118 (sourceSev 118) 0 []] :=
  ((Device.aside_broken idle own).steady.logged_raise (Device.logsOne_broken idle own) 118 0 [] (by decide)
    (by decide)).answered c k 0 0 _

theorem Device.breakEnds_flag (some : (d.port c.other).queue ≠ []) :
    ((d.breakEnds c k).get (F.HP_EVT_EVT c.other.idx)).testBit 7 = true := by
  rw [Device.breakEnds_get k (by cases c <;> decide), Device.broken_flag idle own some]

variable {k}

theorem Device.answerable.broken (h : d.answerable c k) : ((d.broken c.other c).raise 118 0).answerable c k := by
  refine h.congr ?_ ((Device.raise_txn _ _ _ _).trans (Device.aside_broken idle own).txn)
  rw [Device.port_congr (Device.raise_hp _ _ _ _), Device.broken_port_ne idle own (Client.other_ne c).symm]

end BreakEnds

theorem completes_leaseBreak_expired {s : State} {c : Client} {k : Cmd} (h : s.dev.passes c k 0x43)
    (no : s.dev.leaseOf c = false) (expired : s.dev.get (F.HP_LEASE_STATE 0) = 2)
    (idle : (s.dev.port c.other).busy = false) (own : ∀ q ∈ (s.dev.port c.other).queue, q.origin = .port) :
    Completes (.leaseBreak c) s fun e => e = s.dev.breakEnds c k := by
  refine completes_passes (fun _ => rfl) h ?_
  simp only [Device.leaseState, expired, no, show ((2 : Nat) == 0) = false from rfl, show ((2 : Nat) == 1) = false from rfl,
    Bool.false_eq_true, if_false, idle]
  exact Device.complete_eq_answered (h.answerable.broken idle own) 0 0 _

/-! ### The lease timer ends (R599) -/

/-- The device at the end of the lease timer: before the occurrence is raised. -/
def Device.expired (d : Device) : Device := (d.setLease 2 (d.get (F.HP_LEASE_HOLDER 0)) 0).bothEvt 32

theorem Device.aside_expired (d : Device) : d.aside d.expired := by
  rw [Device.expired, Device.setLease_eq_leaseSet]
  exact (d.aside_leaseSet _ _ _ _).trans (Device.aside_bothEvt _ 32)

section Expired

variable {d : Device} {n detail : Nat}

theorem Device.expired_leased :
    (d.expired.raise n detail).leased 2 (d.get (F.HP_LEASE_HOLDER 0)) 0 := by
  have holder : d.get (F.HP_LEASE_HOLDER 0) < 2 ^ 2 := d.regs.get_lt (F.HP_LEASE_HOLDER 0)
  refine (d.setLease_leased (st := 2) (remain := 0) (by decide) holder (by decide)).congr fun x hx => ?_
  obtain rfl | rfl : x = 0 ∨ x = 1 := by omega
  all_goals
    exact ((Device.raise_noted _ _ _ _).word (by decide)).trans (Device.bothEvt_word _ _ (by decide) (by decide))

theorem Device.expired_evt {x : Nat} (hx : x < 2) :
    ((d.expired.raise n detail).get (F.HP_EVT_EVT x)).testBit 5 = true := by
  have quiet : R.HP_EVT x ∉ noteWords := by
    obtain rfl | rfl : x = 0 ∨ x = 1 := by omega
    all_goals decide
  rw [Device.get_eq_of_word (g := F.HP_EVT_EVT x) ((Device.raise_noted _ _ _ _).word quiet), Device.expired,
    Device.bothEvt_testBit _ _ hx (by decide), show Nat.testBit 32 5 = true by decide, Bool.or_true]

theorem Device.expired_sed (d : Device) : d.expired.sed = d.sed := by
  rw [Device.expired, Device.bothEvt_sed, Device.setLease_eq]

end Expired

theorem exec_leaseExpired_none {s : State} (h : s.dev.linkRuns = false ∨ s.dev.get (F.HP_LEASE_STATE 0) ≠ 1) :
    exec .leaseExpired s = .next s := by
  refine State.on_eq_self (f := fun d => d.leaseExpired) ?_
  simp only [Device.leaseExpired, Device.leaseState]
  refine if_neg ?_
  simpa [imp_iff_not_or] using h

theorem completes_leaseExpired {s : State} (runs : s.dev.linkRuns = true) (held : s.dev.get (F.HP_LEASE_STATE 0) = 1) :
    Completes .leaseExpired s fun e => e = s.dev.expired.raise 117 (s.dev.get (F.HP_LEASE_HOLDER 0) - 1) := by
  refine ⟨{ s with dev := s.dev.leaseExpired }, rfl, rfl, ?_⟩
  simp only [Device.leaseExpired, Device.leaseState, runs, held, beq_self_eq_true, Bool.and_self, if_true]
  rfl

end Sys2Proof.Machine
end

section
/-! PROOFS. HELLO, PING, STATUS, register access, events, states and the lease (O55). -/

namespace Sys2Proof.Machine

theorem exec_ping {s : State} {c : Client} {k : Cmd} (h : s.dev.passes c k 2) :
    exec (.ping c) s = .next { s with dev := s.dev.answered c k 0 0 (k.payload.take 1020) } :=
  exec_answers (fun _ => rfl) h rfl

theorem exec_status {s : State} {c : Client} {k : Cmd} (h : s.dev.passes c k 3) :
    exec (.status c) s = .next { s with dev := s.dev.answered c k 0 0 (leBytes 4 (s.dev.word R.PWR_STAT).toNat ++
      leBytes 4 (s.dev.word R.PWR_FAULT).toNat ++ leBytes 4 (s.dev.word R.PWR_CMD_STAT).toNat ++ leBytes 4 s.dev.epoch ++
      leBytes 8 s.dev.clk.rt.packed.toNat ++ s.dev.leaseData) } :=
  exec_answers (fun _ => rfl) h rfl

theorem Completes.mono {i : Instr} {s : State} {p q : Device → Prop} (h : Completes i s p) (pq : ∀ e, p e → q e) :
    Completes i s q := by
  obtain ⟨t, run, pending, holds⟩ := h
  exact ⟨t, run, pending, pq _ holds⟩

/-! ### What the device shows after each command -/

section Shows

variable (d : Device) (c : Client) (k : Cmd)

theorem Device.resynced_shows : let e := (d.resynced c k).answered c k 0 0 ((d.resynced c k).helloData c)
    e.exp c = (k.seq + 1) % 65536 ∧ e.synced c = true ∧ (e.port c).queue = (d.port c).queue.tail ∧
      (e.port c).convs = .replicate 4 .closed ∧ (e.port c).cache = [(k.seq, respPayload 0 0
        (leBytes 2 (k.seq + 1) ++ leBytes 1 (d.privMask c) ++ [0] ++ leBytes 4 (d.word R.SYS_RST_CAUSE).toNat ++
          leBytes 4 d.sed.resetSeq))] := by
  have port := Device.answered_port (d.resynced c k) c k 0 0 ((d.resynced c k).helloData c)
  refine ⟨?_, ?_, ?_, ?_, ?_⟩
  · rw [Device.exp, Device.answered_get]
    exact d.resynced_exp c k
  · rw [Device.synced, Device.flag, Device.answered_get]
    exact d.resynced_synced c k
  · rw [port, Hp.answer_queue, Device.resynced_port]
  · rw [port, Hp.answer_convs, Device.resynced_port]
  · rw [port, Hp.answer_cache, Device.resynced_port, Device.resynced_helloData]
    rfl

theorem Device.storeWords_shows {p : List Byte} (al : field p 0 4 % 4 = 0) :
    let e := (d.storeWords (field p 0 4) (writtenWords p)).answered c k 0 0 []
    e = ({ d with mem := e.mem, ecc := e.ecc } : Device).answered c k 0 0 [] ∧
      (∀ i < field p 4 2, (e.memWord (field p 0 4 + 4 * i)).toNat = field p (8 + 4 * i) 4) ∧
      ∀ b, b < field p 0 4 ∨ field p 0 4 + 4 * field p 4 2 ≤ b → e.byte b = d.byte b := by
  intro e
  have byte : ∀ b, e.byte b = (d.storeWords (field p 0 4) (writtenWords p)).byte b := fun b => by
    rw [Device.byte, Device.answered_mem, Device.byte]
  refine ⟨?_, fun i hi => ?_, fun b hb => ?_⟩
  · rw [Device.answered_mem, Device.answered_ecc, ← Device.storeWords_eq]
  · have len : i < (writtenWords p).length := by rwa [length_writtenWords]
    have lt : field p (8 + 4 * i) 4 < 2 ^ 32 := field_lt _ _ _
    rw [Device.memWord_congr fun x _ _ => byte x, Device.memWord_storeWords d al len]
    simp only [writtenWords, List.getElem_map, List.getElem_range, BitVec.toNat_ofNat]
    exact Nat.mod_eq_of_lt lt
  · rw [byte, Device.byte_storeWords_outside d al (by rwa [length_writtenWords])]

theorem Device.eventDone_shows (n : Fin 128) : let e := (d.eventDone c n).answered c k 0 0 []
    e.port c = { (d.answered c k 0 0 []).port c with ntf := (d.port c).ntf.filter fun t => t.source != n.val } ∧
      ((d.source n).st = .inService ∧ (d.source n).target = portTarget c →
        e.source n = (d.source n).complete ∧ e.regs = d.regs) ∧
      (¬ ((d.source n).st = .inService ∧ (d.source n).target = portTarget c) →
        e.source n = d.source n ∧ e.get F.EVC_STAT_BADDONE = 1) := by
  refine ⟨Device.eventDone_port d c k n, fun h => ?_, fun h => ?_⟩
  · rw [Device.answered_source, Device.answered_regs]
    exact Device.eventDone_inService h
  · rw [Device.answered_source, Device.answered_get]
    exact Device.eventDone_other h

theorem Device.answerRequest_shows {code result reason : Nat} (hc : code < 16) (h : result < 4) (hr : reason < 16)
    (st ex : Nat) : let e := ((d.requested code).answerRequest result reason).answered c k st ex []
    e = ({ d with regs := e.regs } : Device).answered c k st ex [] ∧ e.get F.PWR_CMD_STAT_REQ = code ∧
      e.get F.PWR_CMD_STAT_RESULT = result ∧ e.get F.PWR_CMD_STAT_REASON = reason := by
  refine ⟨?_, ?_⟩
  · rw [Device.answered_regs]
    rfl
  · simp only [Device.answered_get]
    exact d.answerRequest_get hc h hr

variable {d c}

/-- What a LEASE_BREAK of an EXPIRED lease leaves (R600). -/
theorem Device.breakEnds_shows (idle : (d.port c.other).busy = false)
    (own : ∀ q ∈ (d.port c.other).queue, q.origin = .port) : let e := d.breakEnds c k
    (e.port c.other).queue = [] ∧ (∀ v ∈ (e.port c.other).convs.toList, v.kind ≠ 1 ∧ v.kind ≠ 2) ∧
      (∀ x < 2, (e.get (F.HP_EVT_EVT x)).testBit 6 = true) ∧ d.fired e 118 ∧
      d.logged e [d.entry 118 (sourceSev 118) 0 []] ∧
      (e.port c).cache.head? = some (k.seq, respPayload 0 0 e.leaseData) ∧
      ∀ q, (d.port c.other).queue = [q] → (e.port c.other).cache.head? = some (q.seq, respPayload 0x0E 0 []) ∧
        (e.get (F.HP_EVT_EVT c.other.idx)).testBit 7 = true := by
  have other := Device.breakEnds_port_other k idle own
  refine ⟨?_, ?_, fun x hx => Device.breakEnds_evt k hx, Device.breakEnds_fired k idle own, Device.breakEnds_logged k idle own,
    ?_, fun q hq => ⟨?_, Device.breakEnds_flag k idle own (by rw [hq]; exact List.cons_ne_nil q [])⟩⟩
  · rw [other]
    exact Hp.aborted_queue _
  · rw [other]
    exact Hp.unleased_convs _
  · rw [Device.breakEnds_port k idle own, Hp.answer_cache]
    rfl
  · rw [other]
    exact Hp.aborted_cache_single hq

variable (d)

/-- What the end of the lease timer leaves (R599). -/
theorem Device.expired_shows : let e := d.expired.raise 117 (d.get (F.HP_LEASE_HOLDER 0) - 1)
    e.leased 2 (d.get (F.HP_LEASE_HOLDER 0)) 0 ∧ (∀ x < 2, (e.get (F.HP_EVT_EVT x)).testBit 5 = true) ∧ d.fired e 117 ∧
      d.logged e [d.entry 117 (sourceSev 117) (d.get (F.HP_LEASE_HOLDER 0) - 1) []] := by
  have holder : d.get (F.HP_LEASE_HOLDER 0) < 4 := d.regs.get_lt (F.HP_LEASE_HOLDER 0)
  have steady := d.aside_expired.steady
  exact ⟨Device.expired_leased, fun x hx => Device.expired_evt hx, steady.fired_raise 117 (by decide) (by decide) _ _,
    steady.logged_raise (Device.logsOne_of_sed d.expired_sed) 117 _ _ (by omega) (by decide)⟩

end Shows

/-- Settles O55: for each opcode, the lemma that says where its action leads and what the device shows there. -/
theorem hostCommandSet : Obligations.HostCommandSet := by
  unfold Obligations.HostCommandSet
  intro s c k d h o p ends go lease leased led state mine maint
  have own : mine ↔ d.leaseOf c = true := (d.leaseOf_iff c).symm
  have none : ¬ mine → d.leaseOf c = false := fun no => by rwa [own, Bool.not_eq_true] at no
  have right : maint ↔ d.hasRight c 2 = true := by simp [maint, Device.hasRight]
  have noRight : ¬ maint → d.hasRight c 2 = false := fun no => by rwa [right, Bool.not_eq_true] at no
  have holder : c.idx + 1 < 4 := Nat.lt_of_lt_of_le (Nat.succ_lt_succ (Client.idx_lt c)) (by decide)
  have sets : ∀ {i : Instr} {base : Device} {st holder remain : Nat}, base.regs = d.regs → st < 4 → holder < 4 →
      remain < 1024 → Completes i s (d.leaseEnds base c k st holder remain) → led i base st holder remain :=
    fun regs hs hh hr done => done.mono fun e he => by
      rw [he]
      exact Device.leaseSet_answered _ hs hh hr regs c k
  have gives : ∀ {i : Instr}, Completes i s (d.leaseEnds d c k 1 (c.idx + 1) 500) → led i d 1 (c.idx + 1) 500 :=
    sets rfl (by decide) holder (by decide)
  refine ⟨exec_hello_plain, ?sync, exec_ping, exec_status, ?absent, exec_regRead_coreSram, ?write, ?reserved, ?done, ?unknown,
    ?state, ?refused, ?close, exec_setPriv_invalid, ?priv, ?acquire, ?taken, ?renew, ?renewNone, ?release, ?releaseNone,
    ?grant, ?free, ?own, ?held, ?waits, ?expired, exec_leaseExpired_none, ?timer⟩
  case sync => exact fun pass sync => (completes_hello_sync pass sync).mono fun e he => he ▸ d.resynced_shows c k
  case absent =>
    intro i hi absent present
    have first := firstAbsent_eq_some hi absent present
    exact ⟨fun pass => exec_regRead_absent pass first, fun pass => exec_regWrite_absent pass first⟩
  case write =>
    exact fun pass sram => (completes_regWrite_coreSram pass sram).mono fun e he =>
      he ▸ d.storeWords_shows c k (Device.passes.aligned pass (.inr rfl))
  case reserved =>
    exact fun r pass one periph find reserved => (completes_regWrite_reserved pass one periph find reserved).mono fun e he =>
      he ▸ d.reject_answered c k (field_lt _ _ _) _ _ _
  case done => exact fun n pass source => (completes_evtDone pass source).mono fun e he => he ▸ d.eventDone_shows c k n
  case unknown =>
    exact fun pass large => (completes_evtDone_unknown pass large).mono fun e he =>
      he ▸ d.reject_answered c k (by cases c <;> decide) _ _ _
  case state =>
    refine fun pass large => (completes_stateReq_unknown pass large).mono fun e he => ?_
    obtain ⟨port, fired⟩ := d.reject_answered c k (a := R.PWR_CMD) (by decide) 0x0B 0 []
    rw [he, Device.answered_word]
    exact ⟨port, fired, d.reject_word (by decide) (by decide) (by decide) (by decide)⟩
  case refused =>
    exact fun r hr pass lo hi idle bars => (completes_stateReq_refused pass lo hi idle hr bars).mono fun e he =>
      he ▸ d.answerRequest_shows c k (Nat.lt_of_le_of_lt hi (by decide)) (by decide) hr 0x0D r
  case close =>
    refine fun pass code idle bars main => (completes_stateReq_mainClose pass code idle bars main).mono fun e he => ?_
    obtain ⟨whole, req, result, -⟩ := d.mainClosing.answerRequest_shows c k (code := 8) (result := 1) (reason := 0) (by decide)
      (by decide) (by decide) 0 1
    exact he ▸ ⟨whole, req, result⟩
  case priv =>
    intro a b pass who mask ha hb
    have valid : ¬ (1 < field k.payload 0 1 ∨ 31 < field k.payload 1 1) := not_or.2 ⟨Nat.not_lt.2 who, Nat.not_lt.2 mask⟩
    exact ⟨exec_setPriv_denied pass valid ha hb, completes_setPriv pass valid ha hb⟩
  case acquire => exact fun pass may => gives (completes_leaseAcquire pass (may.imp_right own.1))
  case taken => exact fun pass some no => exec_leaseAcquire_taken pass some (none no)
  case renew => exact fun pass mine => gives (completes_leaseRenew pass (own.1 mine))
  case renewNone => exact fun pass no => exec_leaseRenew_none pass (none no)
  case release =>
    exact fun pass mine => sets (d.setPort_regs c _) (by decide) (by decide) (by decide)
      (completes_leaseRelease pass (own.1 mine))
  case releaseNone => exact fun pass no => exec_leaseRelease_none pass (none no)
  case grant => exact fun pass free may => gives (completes_leaseBreak_grants pass free (right.1 may))
  case free =>
    exact fun pass free no => sets rfl (by decide) (by decide) (by decide) (completes_leaseBreak_free pass free (noRight no))
  case own => exact fun pass mine => exec_leaseBreak_own pass (own.1 mine)
  case held => exact fun pass held no => exec_leaseBreak_held pass (none no) held
  case waits => exact fun pass expired no busy => exec_leaseBreak_waits pass (none no) expired busy
  case expired =>
    refine fun pass expired no idle port => (completes_leaseBreak_expired pass (none no) expired idle port).mono fun e he => ?_
    have gain := fun may => Device.breakEnds_leased k (Device.broken_leased_of_hasRight idle port (right.1 may))
    have free := fun no => Device.breakEnds_leased k (Device.broken_leased_of_not idle port (noRight no))
    exact he ▸ ⟨gain, free, Device.breakEnds_shows k idle port⟩
  case timer => exact fun runs held => (completes_leaseExpired runs held).mono fun e he => he ▸ d.expired_shows

end Sys2Proof.Machine
end

section
/-! PROOFS. A core at TASK whose SEMBRK halts it, and with that breaks the semaphore it owns (O16). -/

namespace Sys2Proof.Machine

/-- An instruction whose class the core may not run meets its cause after the fetch (R93). -/
theorem Device.issue_barred {d : Device} {c : CoreId} {k : InsnClass} {f : CoreFault} (body : Device → Retire)
    (h : d.ready c .all) (bar : d.classCause c k = some f) :
    d.issue c k false body = (d.fetched c).coreFault c f := by
  obtain ⟨runs, inTime, noEvent, fetch, -⟩ := h
  have bar := (Device.fetched_classCause d c k fetch).trans bar
  unfold Device.issue
  simp only [runs, inTime, noEvent, Bool.not_true, Bool.false_eq_true, if_false]
  unfold Device.fetched at *
  generalize d.fetchCause c = r at *
  obtain ⟨cause, e⟩ := r
  cases fetch
  dsimp only at bar ⊢
  rw [bar]

/-- SEMBRK at TASK meets PRIV on a control core (R60). -/
theorem exec_sembrk_atTask {s : State} {c : CoreId} (control : c ≠ .s) (h : s.dev.ready c .all)
    (task : s.dev.atPriv c = false) (rd : WReg) (n : Fin 32) (rs : WReg) :
    exec (.sembrk c rd n rs) s = .next { s with dev := (s.dev.fetched c).coreFault c .priv } := by
  have bar : s.dev.classCause c .control = some .priv := by simp [Device.classCause, control, task]
  exact congrArg (fun e => Host.Outcome.next (State.mk s.pending e)) (Device.issue_barred _ h bar)

/-- C0 runs at TASK while ST_STATUS.EXL = 1. -/
def nestedTask : Core := { Core.atReset with run := .running, st := [(R.ST_STATUS, 4)] }

/-- A start-up in which `nestedTask` owns semaphore 0. -/
def nestedTaskState : State :=
  { State.reset with dev := { Device.initial with
      pwr := { Pwr.start with seq := .booting }
      c0 := nestedTask
      regs := [(R.SEM_n 0, 0x10000)] } }

theorem nestedTaskState_ready : nestedTaskState.dev.ready .c0 .all := by
  unfold Device.ready
  decide +kernel

/-- PRIV with EXL = 1 halts the core (R50), which breaks the semaphore it owns (R62). -/
theorem nestedTaskState_breaks :
    ((nestedTaskState.dev.fetched .c0).coreFault .c0 .priv).get (F.SEM_n_OWNER 0) = 0 := by decide +kernel

/-- Refutes O16: the statement ranges over every state, also over those at TASK with ST_STATUS.EXL = 1. There the PRIV
of a SEMBRK halts the core, its semaphores are broken with it, and OWNER does not stay. -/
theorem not_semaphores : ¬ Obligations.Semaphores := by
  unfold Obligations.Semaphores
  rintro ⟨-, h⟩
  obtain ⟨ready, -⟩ := h nestedTaskState .c0 0 0 0 0
  obtain ⟨-, -, -, -, task, -⟩ := ready nestedTaskState_ready
  have atTask : nestedTaskState.dev.atPriv .c0 = false := by decide +kernel
  obtain ⟨t, run, -, -, owner⟩ := task (by decide) atTask
  have halts := exec_sembrk_atTask (by decide) nestedTaskState_ready atTask 0 0 0
  rw [← Host.Outcome.next.inj (halts.symm.trans run)] at owner
  exact absurd (nestedTaskState_breaks.symm.trans owner) (by decide)

end Sys2Proof.Machine
end

section
/-! PROOFS. A reset of C1 that opens the main switch (O32). -/

namespace Sys2Proof.Machine

/-- The registers of a device in READY whose main switch opens on every fault: client A has a pending APP command, a
core asks for a request of 4 bytes at the start of core SRAM, and one uncorrectable error is a burst. -/
def burstRegs : RegMap :=
  [(F.PWR_STAT_STATE, 2), (F.PWR_CTL_OPEN_ON_FAULT, 1), (F.HP_FW_CTL_PEND 0, 1), (F.TXN_CBUF_ADDR, 0x4000000),
    (F.TXN_CREQ_LEN_LEN, 4), (F.SED_CFG_ECCMAX, 1)].foldl (fun m p => m.put p.1 p.2) []

/-- The main switch is closed, C1 runs, an APP command is at the head of client A's queue, the core's request waits for
room there, and the word that holds it is beyond correction. -/
def burstState : State :=
  { State.reset with dev := { Device.initial with
      pwr := { Pwr.start with seq := .up, enMain := true }
      c1 := { Core.atReset with run := .running }
      hp := #v[{ Hp.idle with queue := [⟨0, 0x8000, 0, [], [], .port, 0⟩], busy := true }, Hp.idle]
      txn := { Txn.idle with creqWaits := true }
      ecc := [(0x10000000, .multi)]
      regs := burstRegs } }

theorem burstState_runs : burstState.dev.coreRuns = true := by decide +kernel

/-- The reset of C1 ends the APP command (R615); with that the request enters (R636), its word raises ECC_BURST (R652),
and the fault opens the main switch (R227). -/
theorem burstState_opensMain :
    (burstState.dev.directWrite .c0 R.SYS_CORE_RST 0x3C02).pwr.enMain = false := by decide +kernel

/-- Refutes O32: the statement says that a core reset leaves the power block alone in every state, also where the APP
command that it ends lets a request enter whose word in memory is beyond correction. The fault that follows opens the
main switch. -/
theorem not_resets : ¬ Obligations.Resets := by
  unfold Obligations.Resets
  intro h
  obtain ⟨-, -, -, -, -, -, -, -, -, -, reset, -⟩ := h burstState .c0 .c1 0x3C02 false
  obtain ⟨t, run, -, -, -, -, -, -, -, -, -, pwr⟩ :=
    reset (by decide) (by decide) rfl (by decide) ⟨burstState_runs, rfl⟩
  have writes : exec (.coreReset .c0 0x3C02) burstState =
      .next { burstState with dev := burstState.dev.directWrite .c0 R.SYS_CORE_RST 0x3C02 } := rfl
  rw [← Host.Outcome.next.inj (writes.symm.trans run)] at pwr
  have shut := burstState_opensMain
  rw [pwr] at shut
  exact absurd shut (by decide)

end Sys2Proof.Machine
end

section
/-! PROOFS. The state registers of a core, and what a break of its semaphores leaves alone. -/

namespace Sys2Proof.Machine

/-! ### State register fields -/

theorem Device.cget_cput_same (d : Device) (c : CoreId) (f : Fld) (v : Nat) (h : f.fits = true) :
    (d.cput c f v).cget c f = v % 2 ^ f.width := by
  rw [Device.cget, Device.cput, Device.core_setCore]
  exact RegMap.get_put_same _ _ _ h

theorem Device.cget_cput_apart (d : Device) (c : CoreId) (f g : Fld) (v : Nat) (hf : f.fits = true)
    (h : f.apart g = true) : (d.cput c f v).cget c g = d.cget c g := by
  rw [Device.cget, Device.cput, Device.core_setCore]
  exact RegMap.get_put_apart _ _ _ _ hf h

/-- The state registers of a core follow the core alone. -/
theorem Device.cget_congr {d e : Device} {c : CoreId} (h : e.core c = d.core c) (f : Fld) :
    e.cget c f = d.cget c f := by
  rw [Device.cget, Device.cget, h]

theorem Device.core_s (d : Device) : d.core .s = d.sc := rfl

theorem Device.cget_sc (d : Device) (f : Fld) : d.cget .s f = d.sc.st.get f := rfl

theorem Device.cput_sc (d : Device) (f : Fld) (v : Nat) :
    (d.cput .s f v).sc = { d.sc with st := d.sc.st.put f v } := rfl

@[simp] theorem Device.cput_pc (d : Device) (c : CoreId) (f : Fld) (v : Nat) :
    ((d.cput c f v).core c).pc = (d.core c).pc := by
  rw [Device.cput, Device.core_setCore]

@[simp] theorem Device.cput_regs (d : Device) (c : CoreId) (f : Fld) (v : Nat) : (d.cput c f v).regs = d.regs :=
  Device.setCore_regs ..

@[simp] theorem Device.cput_mem (d : Device) (c : CoreId) (f : Fld) (v : Nat) : (d.cput c f v).mem = d.mem :=
  Device.setCore_mem ..

@[simp] theorem Device.cput_stream (d : Device) (c : CoreId) (f : Fld) (v : Nat) : (d.cput c f v).stream = d.stream :=
  Device.setCore_stream ..

@[simp] theorem Device.cput_clk (d : Device) (c : CoreId) (f : Fld) (v : Nat) : (d.cput c f v).clk = d.clk :=
  Device.setCore_clk ..

@[simp] theorem Device.setPc_clk (d : Device) (c : CoreId) (a : Word) : (d.setPc c a).clk = d.clk :=
  Device.setCore_clk ..

theorem Device.setPc_sc (d : Device) (a : Word) : (d.setPc .s a).sc = { d.sc with pc := a } := rfl

@[simp] theorem Device.setPc_cget (d : Device) (c : CoreId) (a : Word) (f : Fld) :
    (d.setPc c a).cget c f = d.cget c f := by
  rw [Device.cget, Device.setPc, Device.core_setCore, Device.cget]

@[simp] theorem Device.setPc_pc (d : Device) (c : CoreId) (a : Word) : ((d.setPc c a).core c).pc = a := by
  rw [Device.setPc, Device.core_setCore]

@[simp] theorem Device.setPc_mem (d : Device) (c : CoreId) (a : Word) : (d.setPc c a).mem = d.mem :=
  Device.setCore_mem ..

@[simp] theorem Device.setPc_stream (d : Device) (c : CoreId) (a : Word) : (d.setPc c a).stream = d.stream :=
  Device.setCore_stream ..

/-! ### The semaphores of a core are broken -/

theorem Device.put_core (d : Device) (f : Fld) (v : Nat) (c : CoreId) : (d.put f v).core c = d.core c := by
  cases c <;> rfl

/-- The device with another record of the ties that the cores have won at the semaphores. -/
def Device.withWon (d : Device) (won : Vector (Option CoreId) 32) : Device := { d with semWon := won }

theorem Device.withWon_core (d : Device) (won : Vector (Option CoreId) 32) (c : CoreId) :
    (d.withWon won).core c = d.core c := by
  cases c <;> rfl

/-- What the writes of its registers, the record of ties and the entry leave alone, the break of a semaphore leaves
alone. -/
theorem Device.semBreak_keeps {α : Type} (g : Device → α) (n breaker : Nat)
    (hp : ∀ (d : Device) (f : Fld) (v : Nat), f.addr = R.SEM_n n ∨ f.addr = R.SEM_BRKCNT → g (d.put f v) = g d)
    (hw : ∀ (d : Device) won, g (d.withWon won) = g d)
    (hl : ∀ (d : Device) data, g (d.log 132 1 n data) = g d) (d : Device) : g (d.semBreak n breaker) = g d := by
  unfold Device.semBreak
  refine (hl _ _).trans ((hp _ _ _ (.inr rfl)).trans ?_)
  split
  · exact (hw _ _).trans ((hp _ _ _ (.inl rfl)).trans (hp _ _ _ (.inl rfl)))
  · exact (hp _ _ _ (.inl rfl)).trans (hp _ _ _ (.inl rfl))

/-- The same for the break of all semaphores of a core. -/
theorem Device.semBreakAll_keeps {α : Type} (g : Device → α) (c : CoreId)
    (hp : ∀ (d : Device) (f : Fld) (v : Nat), (∃ n < 32, f.addr = R.SEM_n n) ∨ f.addr = R.SEM_BRKCNT →
      g (d.put f v) = g d)
    (hw : ∀ (d : Device) won, g (d.withWon won) = g d)
    (hl : ∀ (d : Device) n data, g (d.log 132 1 n data) = g d) (d : Device) : g (d.semBreakAll c) = g d := by
  have fold : ∀ (l : List Nat) (d : Device), (∀ n ∈ l, n < 32) →
      g (l.foldl (fun d n => if d.get (F.SEM_n_OWNER n) == c.owner then d.semBreak n 2 else d) d) = g d := by
    intro l
    induction l with
    | nil => exact fun _ _ => rfl
    | cons n t ih =>
      intro d hl'
      refine (ih _ fun k hk => hl' k (List.mem_cons_of_mem _ hk)).trans ?_
      dsimp only
      split
      · exact Device.semBreak_keeps g n 2
          (fun d f v h => hp d f v (h.imp_left fun e => ⟨n, hl' n List.mem_cons_self, e⟩)) hw (fun d => hl d n) d
      · rfl
  exact fold _ d fun n hn => List.mem_range.mp hn

@[simp] theorem Device.semBreakAll_core (d : Device) (c e : CoreId) : (d.semBreakAll c).core e = d.core e :=
  Device.semBreakAll_keeps (·.core e) c (fun d f v _ => d.put_core f v e) (fun d won => d.withWon_core won e)
    (fun d n data => d.log_core 132 1 n data e) d

@[simp] theorem Device.semBreakAll_sc (d : Device) (c : CoreId) : (d.semBreakAll c).sc = d.sc := d.semBreakAll_core c .s

@[simp] theorem Device.semBreakAll_stream (d : Device) (c : CoreId) : (d.semBreakAll c).stream = d.stream :=
  Device.semBreakAll_keeps (·.stream) c (fun d f v _ => d.put_stream f v) (fun _ _ => rfl)
    (fun d n data => d.log_stream 132 1 n data) d

@[simp] theorem Device.semBreakAll_clk (d : Device) (c : CoreId) : (d.semBreakAll c).clk = d.clk :=
  Device.semBreakAll_keeps (·.clk) c (fun d f v _ => d.put_clk f v) (fun _ _ => rfl)
    (fun d n data => d.log_clk 132 1 n data) d

/-- The words that the break of semaphores may write: those of the semaphores, and what the log counts and reports. -/
theorem Device.semBreakAll_word (d : Device) (c : CoreId) {a : Nat} (h : a ∉ noteWords)
    (hn : ∀ n < 32, a ≠ R.SEM_n n) (hc : a ≠ R.SEM_BRKCNT) : (d.semBreakAll c).word a = d.word a :=
  Device.semBreakAll_keeps (·.word a) c
    (fun d f v hf => d.word_put_ne f v (by
      rcases hf with ⟨n, hn', e⟩ | e
      · exact e ▸ hn n hn'
      · exact e ▸ hc))
    (fun _ _ => rfl) (fun _ _ _ => (Device.log_noted _ _ _ _ _).word h) d

/-! ### S leaves RUNNING -/

/-- A stream fault stops S in FAULT (R67). -/
theorem Device.streamFault_sc (d : Device) (code : Nat) (pc addr : Word) :
    (d.streamFault code pc addr).sc = { d.sc with st :=
      ((((d.sc.st.put F.ST_SFLT_CAUSE code).put F.ST_SFPC_PC pc.toNat).put F.ST_SFADDR_ADDR addr.toNat).put
        F.ST_FLTCNT_COUNT (min (d.sc.st.get F.ST_FLTCNT_COUNT + 1) 255)).put F.ST_SSTATE_STATE 3 } := by
  unfold Device.streamFault
  rw [Device.semBreakAll_sc, Device.raise_sc]
  simp (disch := decide) only [Device.cput_sc, Device.cget_sc, RegMap.get_put_apart]

theorem Device.streamFault_clk (d : Device) (code : Nat) (pc addr : Word) :
    (d.streamFault code pc addr).clk = d.clk := by
  unfold Device.streamFault
  rw [Device.semBreakAll_clk, Device.raise_clk]
  simp only [Device.cput_clk]

theorem Device.streamFault_word (d : Device) (code : Nat) (pc addr : Word) {a : Nat} (h : a ∉ noteWords)
    (hn : ∀ n < 32, a ≠ R.SEM_n n) (hc : a ≠ R.SEM_BRKCNT) : (d.streamFault code pc addr).word a = d.word a := by
  unfold Device.streamFault
  rw [Device.semBreakAll_word _ _ h hn hc, (Device.raise_noted _ _ _ _).word h]
  simp only [Device.word, Device.cput_regs]

/-- Where S does not execute, no overrun falls (R65). -/
theorem Device.streamOverrun_idle {d : Device} (h : d.executing .s = false) : d.streamOverrun = d := by
  simp only [Device.streamOverrun, h, Bool.false_eq_true, if_false]

/-- S after an overrun (R65): stopped, its block counted at the deadline at least, the overrun counted. -/
def Core.overrun (k : Core) : Core :=
  { k with st := (((k.st.put F.ST_BLKCYC_CYCLE (max deadline (k.st.get F.ST_BLKCYC_CYCLE))).put F.ST_OVRCNT_COUNT
      (min 65535 (k.st.get F.ST_OVRCNT_COUNT + 1))).put F.ST_OVRCNT_CONSEC
        (min 255 (k.st.get F.ST_OVRCNT_CONSEC + 1))).put F.ST_SSTATE_STATE 2 }

/-- The device with an overrun noted, before the limit is judged (R65). -/
def Device.noteOverrun (d : Device) : Device :=
  let d := d.cput .s F.ST_BLKCYC_CYCLE (max deadline (d.cget .s F.ST_BLKCYC_CYCLE))
  let d := d.cput .s F.ST_OVRCNT_COUNT (min 65535 (d.cget .s F.ST_OVRCNT_COUNT + 1))
  let d := (d.cput .s F.ST_OVRCNT_CONSEC (min 255 (d.cget .s F.ST_OVRCNT_CONSEC + 1))).cput .s F.ST_SSTATE_STATE 2
  { d with stream.overrun := true, stream.resume := true }.raise 49 0

theorem Device.noteOverrun_sc (d : Device) : d.noteOverrun.sc = d.sc.overrun := by
  unfold Device.noteOverrun Core.overrun
  simp (disch := decide) only [Device.raise_sc, Device.cput_sc, Device.cget_sc, RegMap.get_put_apart]

theorem Device.noteOverrun_clk (d : Device) : d.noteOverrun.clk = d.clk := by
  unfold Device.noteOverrun
  simp only [Device.raise_clk, Device.cput_clk]

theorem Device.noteOverrun_word (d : Device) {a : Nat} (h : a ∉ noteWords) : d.noteOverrun.word a = d.word a := by
  unfold Device.noteOverrun
  refine ((Device.raise_noted _ _ _ _).word h).trans ?_
  simp only [Device.word, Device.cput_regs]

/-- The limit and the count of S that an overrun of `d` judges (R66). -/
def Device.overrunFaults (d : Device) : Bool :=
  d.cget .s F.ST_SCTL_OVR_LIMIT != 0 && d.cget .s F.ST_SCTL_OVR_LIMIT ≤ min 255 (d.cget .s F.ST_OVRCNT_CONSEC + 1)

theorem Device.streamOverrun_of_executing {d : Device} (h : d.executing .s = true) :
    d.streamOverrun = if d.overrunFaults then d.noteOverrun.streamFault 8 d.sc.pc 0 else d.noteOverrun := by
  have limit : d.noteOverrun.cget .s F.ST_SCTL_OVR_LIMIT = d.cget .s F.ST_SCTL_OVR_LIMIT := by
    rw [Device.cget_sc, Device.noteOverrun_sc, Core.overrun]
    simp (disch := decide) only [RegMap.get_put_apart, Device.cget_sc]
  have pc : d.noteOverrun.sc.pc = d.sc.pc := by rw [Device.noteOverrun_sc, Core.overrun]
  unfold Device.overrunFaults
  rw [← limit, ← pc]
  simp (disch := decide) only [Device.streamOverrun, h, if_true, Device.noteOverrun, Device.cget_cput_apart]
end Sys2Proof.Machine
end

section
/-! PROOFS. What the blocks of the device do at a block boundary leaves S and ring time as they are (O21). -/

namespace Sys2Proof.Machine

/-- What a block boundary leaves to the steps of S itself and of the clock: S and the ring time. -/
def Device.pace (d : Device) : Core × RingTime := (d.sc, d.clk.rt)

/-- The pace of a device written out, for devices that differ from another in a field or two. -/
theorem Device.pace_mk {regs mem ecc c0 c1 sc stream evc sed clk pwr stage diag inp guard aux rsv companions shl trn
    nvs hp txn weirRecord weirAge semOrder semWon stamps linkClock leasePhase lastRead freshN} :
    (Device.mk regs mem ecc c0 c1 sc stream evc sed clk pwr stage diag inp guard aux rsv companions shl trn nvs hp txn
      weirRecord weirAge semOrder semWon stamps linkClock leasePhase lastRead freshN).pace = (sc, clk.rt) := by rfl

@[simp] theorem Device.pace_eta (d : Device) : (d.sc, d.clk.rt) = d.pace := by rfl

@[simp] theorem Device.pace_ite {p : Prop} [Decidable p] (a b : Device) :
    (if p then a else b).pace = if p then a.pace else b.pace := by
  split <;> rfl

@[simp] theorem Device.pace_ite_snd {α : Type} {p : Prop} [Decidable p] (a b : α × Device) :
    (if p then a else b).2.pace = if p then a.2.pace else b.2.pace := by
  split <;> rfl

@[simp] theorem Device.pace_dite {p : Prop} [Decidable p] (a : p → Device) (b : ¬ p → Device) {x}
    (ha : ∀ h, (a h).pace = x) (hb : ∀ h, (b h).pace = x) : (if h : p then a h else b h).pace = x := by
  split
  · exact ha _
  · exact hb _

@[simp] theorem Device.pace_foldl {α : Type} (g : Device → α → Device) (l : List α) (d : Device)
    (h : ∀ d x, (g d x).pace = d.pace) : (l.foldl g d).pace = d.pace := by
  induction l generalizing d with
  | nil => rfl
  | cons x t ih => exact (ih _).trans (h d x)

@[simp] theorem Device.pace_foldl_snd {α β : Type} (g : β × Device → α → β × Device) (l : List α)
    (p : β × Device) (h : ∀ p x, (g p x).2.pace = p.2.pace) : (l.foldl g p).2.pace = p.2.pace := by
  induction l generalizing p with
  | nil => rfl
  | cons x t ih => exact (ih _).trans (h p x)

@[simp] theorem Device.pace_foldl_fst {α β : Type} (g : Device × β → α → Device × β) (l : List α)
    (p : Device × β) (h : ∀ p x, (g p x).1.pace = p.1.pace) : (l.foldl g p).1.pace = p.1.pace := by
  induction l generalizing p with
  | nil => rfl
  | cons x t ih => exact (ih _).trans (h p x)

variable (d : Device)

/-! ### Pace: the log, the faults and the safe state -/

@[simp] theorem Device.put_pace (f : Fld) (v : Nat) : (d.put f v).pace = d.pace := by rfl

@[simp] theorem Device.puti_pace (f : Fld) (v : Int) : (d.puti f v).pace = d.pace := by rfl

@[simp] theorem Device.setFlag_pace (f : Fld) (b : Bool) : (d.setFlag f b).pace = d.pace := by rfl

@[simp] theorem Device.setWord_pace (a : Nat) (w : Word) : (d.setWord a w).pace = d.pace := by rfl

@[simp] theorem Device.bump_pace (f : Fld) (n : Nat) : (d.bump f n).pace = d.pace := by rfl

@[simp] theorem Device.orField_pace (f : Fld) (v : Nat) : (d.orField f v).pace = d.pace := by rfl

@[simp] theorem Device.andNotField_pace (f : Fld) (v : Nat) : (d.andNotField f v).pace = d.pace := by rfl

@[simp] theorem Device.logEntry_pace (e : LogEntry) : (d.logEntry e).pace = d.pace := by
  unfold Device.logEntry
  split <;> simp [↓Device.pace_mk]

@[simp] theorem Device.log_pace (source : Nat) (sev : Nat) (detail : Nat) (data : List Byte) :
    (d.log source sev detail data).pace = d.pace := by
  simp [Device.log]

@[simp] theorem Device.setSource_pace (n : Fin 128) (e : EvSource) : (d.setSource n e).pace = d.pace := by rfl

@[simp] theorem Device.countFire_pace (n : Fin 128) (e : EvSource) : (d.countFire n e).pace = d.pace := by
  simp [Device.countFire]

@[simp] theorem Device.fireNow_pace (n : Fin 128) (sw : Bool) (wake : Bool) : (d.fireNow n sw wake).pace = d.pace := by
  simp [Device.fireNow]
  split <;> simp

@[simp] theorem Device.fire_pace (n : Nat) : (d.fire n).pace = d.pace := by
  simp [Device.fire]
  split <;> simp

@[simp] theorem Device.raise_pace (n : Nat) (detail : Nat) (data : List Byte) : (d.raise n detail data).pace =
    d.pace := by
  simp [Device.raise]

@[simp] theorem Device.setByte_pace (a : Nat) (b : Byte) : (d.setByte a b).pace = d.pace := by rfl

@[simp] theorem Device.setBytes_pace (a : Nat) (bs : List Byte) : (d.setBytes a bs).pace = d.pace := by
  induction bs generalizing d a with
  | nil => rfl
  | cons b t ih => exact (ih _ _).trans (d.setByte_pace a b)

@[simp] theorem Device.clearEcc_pace (a : Nat) : (d.clearEcc a).pace = d.pace := by rfl

@[simp] theorem Device.storeWord_pace (a : Nat) (w : Word) : (d.storeWord a w).pace = d.pace := by rfl

@[simp] theorem Device.bufferWrite_pace (a : Nat) (bs : List Byte) : (d.bufferWrite a bs).pace = d.pace := by
  simp [Device.bufferWrite, ↓Device.pace_mk]

@[simp] theorem Device.setClkMode_pace (m : Nat) : (d.setClkMode m).pace = d.pace := by rfl

@[simp] theorem Device.holdTrim_pace (mode : Nat) (mean : Bool) : (d.holdTrim mode mean).pace = d.pace := by
  simp [Device.holdTrim]

@[simp] theorem Device.loseReference_pace : d.loseReference.pace = d.pace := by
  simp [Device.loseReference]

@[simp] theorem Device.inputLost_pace (g : Fin 3) : (d.inputLost g).pace = d.pace := by
  simp [Device.inputLost]

@[simp] theorem Device.diagWriteResult_pace (n : Nat) (r : DiagResult) : (d.diagWriteResult n r).pace = d.pace := by
  unfold Device.diagWriteResult
  split <;> rfl

@[simp] theorem Device.diagHolds_pace (r : DiagRun) : (d.diagHolds r).pace = d.pace := by
  simp [Device.diagHolds]

@[simp] theorem Device.diagEnd_pace (r : DiagRun) (aborted : Bool) : (d.diagEnd r aborted).pace = d.pace := by
  simp [Device.diagEnd, ↓Device.pace_mk]

@[simp] theorem Device.diagAbort_pace : d.diagAbort.pace = d.pace := by
  unfold Device.diagAbort
  split <;> simp

@[simp] theorem Device.openMain_pace : d.openMain.pace = d.pace := by rfl

@[simp] theorem Device.setDrive_pace (m : Drive) : (d.setDrive m).pace = d.pace := by rfl

@[simp] theorem Device.forceOff_pace (sel : Nat → Bool) : (d.forceOff sel).pace = d.pace := by rfl

@[simp] theorem Device.finishRequest_pace (result : Nat) (reason : Nat) : (d.finishRequest result reason).pace =
    d.pace := by
  unfold Device.finishRequest
  split <;> rfl

@[simp] theorem Device.endClose_pace : d.endClose.pace = d.pace := by
  unfold Device.endClose
  split <;> rfl

@[simp] theorem Device.abandon_pace (reason : Nat) : (d.abandon reason).pace = d.pace := by
  simp [Device.abandon, ↓Device.pace_mk]

@[simp] theorem Device.enterSafe_pace (reason : Nat) : (d.enterSafe reason).pace = d.pace := by
  simp [Device.enterSafe, ↓Device.pace_mk]

@[simp] theorem Device.faultOpensMain_pace (bit : Nat) : (d.faultOpensMain bit).pace = d.pace := by
  simp [Device.faultOpensMain]

@[simp] theorem Device.latchFault_pace (bit : Nat) (entry : Device → Device) (h : ∀ x, (entry x).pace = x.pace) :
    (d.latchFault bit entry).pace = d.pace := by
  unfold Device.latchFault
  split
  · exact h d
  · simp [h]

@[simp] theorem Device.systemFault_pace (bit : Nat) : (d.systemFault bit).pace = d.pace := by
  simp [Device.systemFault]

@[simp] theorem Device.eccUncorr_pace (a : Nat) : (d.eccUncorr a).pace = d.pace := by
  simp [Device.eccUncorr, ↓Device.pace_mk]

@[simp] theorem Device.eccCorr_pace (a : Nat) (bit : Nat) : (d.eccCorr a bit).pace = d.pace := by
  simp [Device.eccCorr]

@[simp] theorem Device.readChecked_pace (a : Nat) : (d.readChecked a).2.pace = d.pace := by
  unfold Device.readChecked
  split <;> simp

@[simp] theorem Device.readRun_pace (a : Nat) (a0 : Nat) : (d.readRun a a0).2.2.pace = d.pace := by
  induction a0 generalizing d a with
  | zero => rfl
  | succ n ih =>
    unfold Device.readRun
    split <;> rename_i e <;> have h := congrArg (·.2.pace) e
    · simpa [ih] using h.symm
    · simpa [ih, ↓Device.pace_mk] using h.symm

@[simp] theorem Device.readBuffer_pace (a : Nat) (n : Nat) : (d.readBuffer a n).2.2.pace = d.pace := by
  simp [Device.readBuffer]

@[simp] theorem Device.taskReady_pace (t : Nat) : (d.taskReady t).pace = d.pace := by
  simp [Device.taskReady, ↓Device.pace_mk]

/-! ### Pace: the inputs, the modulator and the stage -/

@[simp] theorem Device.setGroup_pace (g : Fin 3) (x : InGroup) : (d.setGroup g x).pace = d.pace := by rfl

@[simp] theorem Device.mark_pace (g : Fin 3) (m : FlowMark) : (d.mark g m).pace = d.pace := by rfl

@[simp] theorem Device.iecMute_pace : d.iecMute.pace = d.pace := by
  unfold Device.iecMute
  split <;> rfl

@[simp] theorem Device.mutePasses_pace (n : Nat) : (d.mutePasses n).pace = d.pace := by
  unfold Device.mutePasses
  split <;> simp [↓Device.pace_mk]

@[simp] theorem Device.iecStart_pace : d.iecStart.pace = d.pace := by
  simp [Device.iecStart]

@[simp] theorem Device.lockGroup_pace (g : Fin 3) (code : Nat) : (d.lockGroup g code).pace = d.pace := by
  simp [Device.lockGroup, ↓Device.pace_mk]

@[simp] theorem Device.unlockGroup_pace (g : Fin 3) (why : Nat) : (d.unlockGroup g why).pace = d.pace := by
  simp [Device.unlockGroup, ↓Device.pace_mk]

@[simp] theorem Device.groupChanged_pace (g : Fin 3) : (d.groupChanged g).pace = d.pace := by
  simp [Device.groupChanged]

@[simp] theorem Device.ircLoad_pace : d.ircLoad.pace = d.pace := by
  simp [Device.ircLoad, ↓Device.pace_mk]

@[simp] theorem Device.writeLane_pace (base : Nat) (i : Nat) (ws : List Word) : (d.writeLane base i ws).pace =
    d.pace := by
  simp [Device.writeLane]

@[simp] theorem Device.gatherLanes_pace (swap : Bool) (irc : Vector (Vector Word 16) 32) (tarn : Fin 32 → List Word) :
    (d.gatherLanes swap irc tarn).pace = d.pace := by
  simp [Device.gatherLanes, ↓Device.pace_mk]

@[simp] theorem Device.senseBoundary_pace : d.senseBoundary.pace = d.pace := by
  unfold Device.senseBoundary
  split
  · rfl
  · exact (Device.setFlag_pace ..).trans (Device.put_pace ..)

@[simp] theorem Device.senseFeeds_pace (t : Nat) : (d.senseFeeds t).pace = d.pace := by
  unfold Device.senseFeeds
  split <;> rfl

@[simp] theorem Device.inputsReach_pace (t : RingTime) : (d.inputsReach t).pace = d.pace := by
  simp [Device.inputsReach]

@[simp] theorem Device.settleAll_pace : d.settleAll.pace = d.pace := by
  simp [Device.settleAll]

@[simp] theorem Device.gatherSense_pace (swap : Bool) (sense : Vector (Vector Word 16) 10) :
    (d.gatherSense swap sense).pace = d.pace := by
  simp [Device.gatherSense]

@[simp] theorem Device.senseNext_pace : d.senseNext.pace = d.pace := by rfl

@[simp] theorem Device.countSat_pace (n : Nat) (j : Nat) (k : Nat) : (d.countSat n j k).pace = d.pace := by
  unfold Device.countSat
  split
  · rfl
  · simp only [Device.orField_pace, Device.bump_pace]

@[simp] theorem Device.saturations_pace (early : List (Fin 10 × Fin 6 × Word)) (last : Vector (Vector Word 16) 10) :
    (d.saturations early last).pace = d.pace := by
  simp [Device.saturations]

@[simp] theorem Device.ircGroup_pace (g : Fin 3) (rel : Int) (small : Bool) : (d.ircGroup g rel small).pace =
    d.pace := by
  simp [Device.ircGroup]

@[simp] theorem Device.ircBoundary_pace (rel : Vector Int 3) (small : Vector Bool 3) :
    (d.ircBoundary rel small).pace = d.pace := by
  simp [Device.ircBoundary]

@[simp] theorem Device.lockMasters_pace : d.lockMasters.pace = d.pace := by
  simp [Device.lockMasters]

@[simp] theorem Device.keepSense_pace (sense : Vector (Vector Word 16) 10) : (d.keepSense sense).pace = d.pace := by
  unfold Device.keepSense
  split <;> rfl

@[simp] theorem Device.clearShapers_pace : d.clearShapers.pace = d.pace := by rfl

@[simp] theorem Device.overrideChanged_pace (old : Word) : (d.overrideChanged old).pace = d.pace := by rfl

@[simp] theorem Device.stageFault_pace (entry : Device → Device) (h : ∀ x, (entry x).pace = x.pace) :
    (d.stageFault entry).pace = d.pace := by
  unfold Device.stageFault
  simp [h]

@[simp] theorem Device.channelFault_pace (n : Nat) (bit : Nat) (source : Nat) : (d.channelFault n bit source).pace =
    d.pace := by
  simp [Device.channelFault]

@[simp] theorem Device.ocWritten_pace (n : Fin 4) : (d.ocWritten n).pace = d.pace := by
  simp [Device.ocWritten]

@[simp] theorem Device.extFault_pace : d.extFault.pace = d.pace := by
  simp [Device.extFault]

/-! ### Pace: the Guard and the load diagnostics -/

@[simp] theorem Device.setGch_pace (n : Fin 4) (c : GuardChan) : (d.setGch n c).pace = d.pace := by rfl

@[simp] theorem Device.guardTake_pace (i : Fin 4) : (d.guardTake i).pace = d.pace := by
  unfold Device.guardTake
  dsimp only
  repeat' split
  all_goals simp

@[simp] theorem Device.dropConfidence_pace (n : Nat) : (d.dropConfidence n).pace = d.pace := by
  simp [Device.dropConfidence]

@[simp] theorem Device.guardBlind_pace (i : Fin 4) : (d.guardBlind i).pace = d.pace := by
  simp [Device.guardBlind]

@[simp] theorem Device.guardPublish_pace (i : Fin 4) : (d.guardPublish i).pace = d.pace := by rfl

@[simp] theorem Device.guardCorrect_pace (i : Fin 4) : (d.guardCorrect i).pace = d.pace := by
  simp [Device.guardCorrect]
  split <;> simp

@[simp] theorem Device.guardThermal_pace (i : Fin 4) (power : Rat) : (d.guardThermal i power).pace = d.pace := by rfl

@[simp] theorem Device.guardShow_pace (i : Fin 4) : (d.guardShow i).pace = d.pace := by
  simp only [Device.guardShow, Device.puti_pace]

@[simp] theorem Device.guardRdc_pace (i : Fin 4) (mOhm : Nat) : (d.guardRdc i mOhm).pace = d.pace := by
  simp [Device.guardRdc]

@[simp] theorem Device.guardStart_pace : d.guardStart.pace = d.pace := by
  simp [Device.guardStart, ↓Device.pace_mk]

@[simp] theorem Device.lineRead_pace (i : Fin 4) (idx : Nat) : (d.lineRead i idx).2.pace = d.pace := by
  unfold Device.lineRead
  split <;> rename_i e <;> simpa using congrArg (·.2.pace) e.symm

@[simp] theorem Device.lineEnter_pace (i : Fin 4) (xs : List Int) : (d.lineEnter i xs).pace = d.pace := by
  simp [Device.lineEnter]

@[simp] theorem Device.pilotGate_pace (i : Fin 4) : (d.pilotGate i).pace = d.pace := by
  simp [Device.pilotGate]

@[simp] theorem Device.guardSample_pace (i : Fin 4) (wp : Nat) (lcoil : Rat) (g : Rat) (j : Nat) :
    (d.guardSample i wp lcoil g j).1.pace = d.pace := by
  simp [Device.guardSample]

@[simp] theorem Device.guardBlock_pace (i : Fin 4) (wp : Nat) (lcoil : Rat) : (d.guardBlock i wp lcoil).pace =
    d.pace := by
  simp [Device.guardBlock, ↓Device.pace_mk]

@[simp] theorem Device.guardTrack_pace (i : Fin 4) (ms : List (Option (Rat × Rat))) (emf : List Rat) (blind : Bool) :
    (d.guardTrack i ms emf blind).pace = d.pace := by rfl

@[simp] theorem Device.pilotBlock_pace (i : Fin 4) (ms : List (Option (Rat × Rat))) : (d.pilotBlock i ms).pace =
    d.pace := by
  simp [Device.pilotBlock]

@[simp] theorem Device.bandBlock_pace (i : Fin 4) (ms : List (Option (Rat × Rat))) : (d.bandBlock i ms).pace =
    d.pace := by
  simp [Device.bandBlock]

@[simp] theorem Device.guardEvents_pace (i : Fin 4) (limited : Bool) : (d.guardEvents i limited).pace = d.pace := by
  simp [Device.guardEvents]

@[simp] theorem Device.pilotStart_pace : d.pilotStart.pace = d.pace := by rfl

@[simp] theorem Device.guardResults_pace (sense : Vector (Vector Word 16) 10) : (d.guardResults sense).pace =
    d.pace := by
  simp [Device.guardResults]

@[simp] theorem Device.guardLatch_pace (i : Fin 4) (peak : Rat) : (d.guardLatch i peak).pace = d.pace := by rfl

@[simp] theorem Device.guardModels_pace (sense : Vector (Vector Word 16) 10) : (d.guardModels sense).pace = d.pace := by
  simp [Device.guardModels]

@[simp] theorem Device.guardOutputs_pace (outs : Vector (List Int) 4) (lrsv : Vector Rat 4) :
    (d.guardOutputs outs lrsv).pace = d.pace := by
  simp [Device.guardOutputs]

@[simp] theorem Device.guardReport_pace : d.guardReport.pace = d.pace := by
  simp [Device.guardReport]

@[simp] theorem Device.diagLatch_pace (r : DiagRun) : (d.diagLatch r).pace = d.pace := by
  simp [Device.diagLatch, ↓Device.pace_mk]

@[simp] theorem Device.diagNext_pace (r : DiagRun) (s : DiagStep) : (d.diagNext r s).pace = d.pace := by rfl

@[simp] theorem Device.sweepSine_pace (outs : Vector (List Int) 4) : (d.sweepSine outs).2.pace = d.pace := by
  unfold Device.sweepSine
  repeat' split
  all_goals simp [↓Device.pace_mk]

@[simp] theorem Device.nextPoint_pace (r : DiagRun) : (d.nextPoint r).pace = d.pace := by
  simp [Device.nextPoint]

@[simp] theorem Device.sweepEnd_pace (r : DiagRun) : (d.sweepEnd r).pace = d.pace := by
  simp [Device.sweepEnd]

@[simp] theorem Device.diagBoundary_pace (sense : Vector (Vector Word 16) 10) : (d.diagBoundary sense).pace =
    d.pace := by
  unfold Device.diagBoundary
  dsimp only
  repeat' split
  all_goals simp [↓Device.pace_mk]

@[simp] theorem Device.loadCheck_pace (i : Fin 4) (k : Fin 5) (found : Bool) : (d.loadCheck i k found).pace =
    d.pace := by
  simp [Device.loadCheck, ↓Device.pace_mk]

@[simp] theorem Device.loadChecks_pace (sense : Vector (Vector Word 16) 10) : (d.loadChecks sense).pace = d.pace := by
  unfold Device.loadChecks
  split
  · rfl
  · refine Device.pace_foldl _ _ _ fun d i => ?_
    split
    · rfl
    · refine Device.pace_foldl _ _ _ fun d p => ?_
      split <;> simp

@[simp] theorem Device.dcTake_pace (n : Fin 4) (vs : List Rat) : (d.dcTake n vs).pace = d.pace := by
  simp [Device.dcTake, ↓Device.pace_mk]

/-! ### Pace: the clock, the events, the Weir and the Reservoir -/

@[simp] theorem Device.loseRing_pace : d.loseRing.pace = d.pace := by
  simp [Device.loseRing, ↓Device.pace_mk]

@[simp] theorem Device.reconsider_pace : d.reconsider.pace = d.pace := by
  simp [Device.reconsider]

@[simp] theorem Device.moderationWritten_pace (x : Fin 4) : (d.moderationWritten x).pace = d.pace := by
  unfold Device.moderationWritten
  split <;> rfl

@[simp] theorem Device.showPermits_pace : d.showPermits.pace = d.pace := by
  simp only [Device.showPermits, Device.put_pace, Device.puti_pace]

@[simp] theorem Device.notifyTasks_pace (before : Device) : (d.notifyTasks before).pace = d.pace := by
  simp [Device.notifyTasks]

@[simp] theorem Device.requestTask_pace (t : Nat) : (d.requestTask t).pace = d.pace := by
  simp [Device.requestTask]
  split <;> simp

@[simp] theorem Device.taskBoundary_pace (blk : Nat) (t : Nat) : (d.taskBoundary blk t).pace = d.pace := by
  simp [Device.taskBoundary, ↓Device.pace_mk]

@[simp] theorem Device.weirBoundary_pace (before : Device) (blk : Nat) : (d.weirBoundary before blk).pace = d.pace := by
  simp [Device.weirBoundary]

@[simp] theorem Device.rsvFlag_pace (bit : Nat) (b : Bool) : (d.rsvFlag bit b).pace = d.pace := by
  unfold Device.rsvFlag
  split <;> rfl

@[simp] theorem Device.cellLimit_pace (bit : Nat) (evt : Nat) (source : Nat) (holds : Bool) :
    (d.cellLimit bit evt source holds).pace = d.pace := by
  simp [Device.cellLimit]

@[simp] theorem Device.budgetLow_pace (bit : Nat) (evt : Nat) (source : Nat) (scale : Rat) (free : Rat)
    (level : Option Rat) : (d.budgetLow bit evt source scale free level).2.pace = d.pace := by
  unfold Device.budgetLow
  split <;> simp

@[simp] theorem Device.ceilingMoved_pace : d.ceilingMoved.pace = d.pace := by
  simp [Device.ceilingMoved, ↓Device.pace_mk]

@[simp] theorem Device.rsvLatch_pace (sense : Vector (Vector Word 16) 10) : (d.rsvLatch sense).pace = d.pace := by rfl

@[simp] theorem Device.rsvCells_pace : d.rsvCells.pace = d.pace := by
  simp [Device.rsvCells]

@[simp] theorem Device.squeezed_pace : d.squeezed.pace = d.pace := by
  simp [Device.squeezed]

@[simp] theorem Device.reservoir_pace (sense : Vector (Vector Word 16) 10) : (d.reservoir sense).pace = d.pace := by
  unfold Device.reservoir
  refine (Device.cellLimit_pace ..).trans <| (Device.cellLimit_pace ..).trans <| (Device.squeezed_pace _).trans <|
    (Device.ceilingMoved_pace _).trans ?_
  rw [Device.pace_mk, Device.pace_eta]
  refine (Device.budgetLow_pace ..).trans <| (Device.budgetLow_pace ..).trans <| (Device.setFlag_pace ..).trans <|
    (Device.put_pace ..).trans <| (Device.put_pace ..).trans <| (Device.put_pace ..).trans <|
    (Device.showPermits_pace _).trans ?_
  rw [Device.pace_mk, Device.pace_eta, Device.pace_mk, Device.pace_eta]
  exact (Device.put_pace ..).trans <| (Device.put_pace ..).trans <| (Device.setFlag_pace ..).trans <|
    (Device.put_pace ..).trans <| (Device.put_pace ..).trans <| (Device.put_pace ..).trans <|
    (Device.put_pace ..).trans <| (Device.put_pace ..).trans <| (Device.put_pace ..).trans <|
    (Device.rsvCells_pace _).trans (Device.rsvLatch_pace ..)

/-! ### Pace: the host port and the authentication -/

@[simp] theorem Device.trnSend_pace (dst : Nat) (type : Nat) (payload : List Byte) (flags : Nat) :
    (d.trnSend dst type payload flags).pace = d.pace := by rfl

@[simp] theorem Device.trnFragments_pace (dst : Nat) (type : Nat) (client : Client) (frame : List Byte) :
    (d.trnFragments dst type client frame).pace = d.pace := by
  simp [Device.trnFragments]

@[simp] theorem Device.setPort_pace (c : Client) (h : Hp) : (d.setPort c h).pace = d.pace := by
  unfold Device.setPort
  split <;> rfl

@[simp] theorem Device.pushOut_pace (c : Client) (frame : List Byte) : (d.pushOut c frame).pace = d.pace := by
  simp [Device.pushOut]

@[simp] theorem Device.creqDone_pace (status : Nat) (extra : Nat) (data : List Byte) :
    (d.creqDone status extra data).pace = d.pace := by
  simp [Device.creqDone]

@[simp] theorem Device.deliverResponse_pace (fuel : Nat) (c : Client) (k : Cmd) (payload : List Byte) :
    (d.deliverResponse fuel c k payload).pace = d.pace := by
  induction fuel generalizing d c k payload with
  | zero => rfl
  | succ fuel ih =>
    unfold Device.deliverResponse
    split
    · simp
    · simp
    · simp
    · dsimp only
      split <;> simp [ih]

@[simp] theorem Device.finishCmd_pace (c : Client) (k : Cmd) (payload : List Byte) : (d.finishCmd c k payload).pace =
    d.pace := by
  unfold Device.finishCmd
  split <;> simp

@[simp] theorem Device.creqEnter_pace : d.creqEnter.pace = d.pace := by
  simp [Device.creqEnter, ↓Device.pace_mk]

@[simp] theorem Device.complete_pace (c : Client) (status : Nat) (extra : Nat) (data : List Byte) :
    (d.complete c status extra data).pace = d.pace := by
  simp [Device.complete]
  split <;> simp

@[simp] theorem Device.showNvs_pace : d.showNvs.pace = d.pace := by rfl

@[simp] theorem Device.putLine_pace (j : LineJob) : (d.putLine j).pace = d.pace := by
  unfold Device.putLine
  split <;> simp [↓Device.pace_mk]

@[simp] theorem Device.authDone_pace (kind : Nat) (result : Nat) (index : Nat) (tag : Nat) :
    (d.authDone kind result index tag).pace = d.pace := by
  simp [Device.authDone]

@[simp] theorem Device.updError_pace (c : Client) (opcode : Nat) (code : Nat) : (d.updError c opcode code).pace =
    d.pace := by
  simp [Device.updError]

@[simp] theorem Device.opCut_pace (op : SecOp) (code : Nat) : (d.opCut op code).pace = d.pace := by
  unfold Device.opCut
  dsimp only
  repeat' split
  all_goals simp

@[simp] theorem Device.nvsPick_pace : d.nvsPick.pace = d.pace := by
  unfold Device.nvsPick
  dsimp only
  repeat' split
  all_goals simp [↓Device.pace_mk]

@[simp] theorem Device.nvsBoundary_pace : d.nvsBoundary.pace = d.pace := by
  simp [Device.nvsBoundary, ↓Device.pace_mk]

/-! ### Pace: the supply chain -/

@[simp] theorem Device.cellsUnreach_pace (k : Nat) : (d.cellsUnreach k).pace = d.pace := by
  simp [Device.cellsUnreach]

@[simp] theorem Device.showReach_pace : d.showReach.pace = d.pace := by
  simp only [Device.showReach, Device.put_pace]

@[simp] theorem Device.setReach_pace (k : Nat) (r : Nat) : (d.setReach k r).pace = d.pace := by
  simp [Device.setReach]

@[simp] theorem Device.shlEvt_pace (v : Nat) : (d.shlEvt v).pace = d.pace := by rfl

@[simp] theorem Device.shlSend_pace (side : Side) (bytes : List Byte) : (d.shlSend side bytes).pace = d.pace := by rfl

@[simp] theorem Device.shlBroadcast_pace (op : Nat) (payload : List Byte) : (d.shlBroadcast op payload).pace =
    d.pace := by
  simp [Device.shlBroadcast, ↓Device.pace_mk]

@[simp] theorem Device.sendLoop_pace : d.sendLoop.pace = d.pace := by rfl

@[simp] theorem Device.sendJob_pace (j : Job) : (d.sendJob j).pace = d.pace := by rfl

@[simp] theorem Device.startJob_pace (j : Job) : (d.startJob j).pace = d.pace := by
  simp [Device.startJob]
  split <;> simp

@[simp] theorem Device.addJob_pace (j : Job) : (d.addJob j).pace = d.pace := by rfl

@[simp] theorem Device.setPendOf_pace (k : Nat) (p : Nat × Nat) : (d.setPendOf k p).pace = d.pace := by
  unfold Device.setPendOf
  split <;> rfl

@[simp] theorem Device.stopJob_pace (k : Nat) : (d.stopJob k).pace = d.pace := by rfl

@[simp] theorem Device.cellsTrust_pace (k : Nat) (stranger : Bool) : (d.cellsTrust k stranger).pace = d.pace := by
  simp [Device.cellsTrust]

@[simp] theorem Device.becomeStranger_pace (k : Nat) (why : Nat) (tag : Nat) : (d.becomeStranger k why tag).pace =
    d.pace := by
  simp [Device.becomeStranger]

@[simp] theorem Device.becomeAdopted_pace (k : Nat) : (d.becomeAdopted k).pace = d.pace := by
  simp [Device.becomeAdopted]

@[simp] theorem Device.endCheck_pace (k : Nat) (why : Nat) (tag : Nat) : (d.endCheck k why tag).pace = d.pace := by
  simp [Device.endCheck]

@[simp] theorem Device.enumStart_pace : d.enumStart.pace = d.pace := by
  unfold Device.enumStart
  split <;> rfl

@[simp] theorem Device.locateStart_pace : d.locateStart.pace = d.pace := by rfl

@[simp] theorem Device.sendSampleAt_pace (c : Cycle) : (d.sendSampleAt c).pace = d.pace := by
  simp [Device.sendSampleAt, ↓Device.pace_mk]

@[simp] theorem Device.relayUnreachable_pace (c : Cycle) : (d.relayUnreachable c).pace = d.pace := by
  simp [Device.relayUnreachable]

@[simp] theorem Device.cycleEnd_pace (c : Cycle) : (d.cycleEnd c).pace = d.pace := by
  unfold Device.cycleEnd
  refine (Device.pace_foldl _ _ _ fun d k => ?_).trans (by simp [↓Device.pace_mk])
  split
  · split
    · split <;> simp
    · rfl
  · rfl

@[simp] theorem Device.mailboxDone_pace (m : Fin 4) (result : Nat) (status : Nat) (seq : Nat) (payload : List Byte) :
    (d.mailboxDone m result status seq payload).pace = d.pace := by
  simp [Device.mailboxDone]

@[simp] theorem Device.mailboxPayload_pace (m : Fin 4) : (d.mailboxPayload m).2.pace = d.pace := by
  unfold Device.mailboxPayload
  split <;> simp

@[simp] theorem Device.pendNoPath_pace (k : Nat) (op : Nat) : (d.pendNoPath k op).pace = d.pace := by
  simp [Device.pendNoPath]

@[simp] theorem Device.startMailbox_pace (m : Fin 4) : (d.startMailbox m).pace = d.pace := by
  simp [Device.startMailbox, ↓Device.pace_mk]

@[simp] theorem Device.startRead_pace (c : Cycle) : (d.startRead c).pace = d.pace := by
  unfold Device.startRead
  split <;> simp [↓Device.pace_mk]

@[simp] theorem Device.startInternal_pace (j : Job) (t : List Job) : (d.startInternal j t).pace = d.pace := by
  unfold Device.startInternal
  split <;> simp [↓Device.pace_mk]

@[simp] theorem Device.healChain_pace : d.healChain.pace = d.pace := by
  simp [Device.healChain, ↓Device.pace_mk]

@[simp] theorem Device.shlEnumerate_pace (e : EnumRun) : (d.shlEnumerate e).pace = d.pace := by
  unfold Device.shlEnumerate
  split <;> simp [↓Device.pace_mk]

@[simp] theorem Device.shlCommands_pace : d.shlCommands.pace = d.pace := by
  unfold Device.shlCommands
  repeat' split
  all_goals simp

@[simp] theorem Device.shlBroadcasts_pace : d.shlBroadcasts.pace = d.pace := by
  simp [Device.shlBroadcasts, ↓Device.pace_mk]
  split <;> simp [↓Device.pace_mk]

@[simp] theorem Device.shlNext_pace : d.shlNext.pace = d.pace := by
  unfold Device.shlNext
  repeat' split
  all_goals simp [↓Device.pace_mk]

@[simp] theorem Device.shlPump_pace : d.shlPump.pace = d.pace := by
  simp [Device.shlPump]

@[simp] theorem Device.sampleCycle_pace : d.sampleCycle.pace = d.pace := by
  simp [Device.sampleCycle]
  split <;> simp [↓Device.pace_mk]

@[simp] theorem Device.shlRingStep_pace (old : Nat) : (d.shlRingStep old).pace = d.pace := by
  simp [Device.shlRingStep, ↓Device.pace_mk]
  split <;> simp [↓Device.pace_mk]

@[simp] theorem Device.sampleAges_pace : d.sampleAges.pace = d.pace := by
  simp [Device.sampleAges]

@[simp] theorem Device.dropOutstanding_pace : d.dropOutstanding.pace = d.pace := by
  unfold Device.dropOutstanding
  repeat' split
  all_goals simp

@[simp] theorem Device.shlRole_pace : d.shlRole.pace = d.pace := by
  simp [Device.shlRole, ↓Device.pace_mk]

/-! ### Pace: the ring -/

@[simp] theorem Device.trnEvt_pace (v : Nat) : (d.trnEvt v).pace = d.pace := by rfl

@[simp] theorem Device.ringMsg_pace : d.ringMsg.pace = d.pace := by
  simp [Device.ringMsg]

@[simp] theorem Device.setTrnPort_pace (s : Side) (p : TrnPort) : (d.setTrnPort s p).pace = d.pace := by
  unfold Device.setTrnPort
  split <;> rfl

@[simp] theorem Device.enterWrap_pace (mode : Nat) : (d.enterWrap mode).pace = d.pace := by
  simp [Device.enterWrap]

@[simp] theorem Device.trnModeUpdate_pace : d.trnModeUpdate.pace = d.pace := by
  simp [Device.trnModeUpdate]

@[simp] theorem Device.fillLane_pace (last : Nat) (n : Fin 32) : (d.fillLane last n).pace = d.pace := by
  simp [Device.fillLane, ↓Device.pace_mk]

@[simp] theorem Device.trnEmit_pace (s : Side) (bs : List Byte) : (d.trnEmit s bs).pace = d.pace := by
  simp [Device.trnEmit, ↓Device.pace_mk]

@[simp] theorem Device.needDelay_pace : d.needDelay.pace = d.pace := by
  unfold Device.needDelay
  extract_lets ages amax n need late h e
  have he : e.pace = d.pace := (Device.put_pace ..).trans (Device.put_pace ..)
  clear_value e
  split
  · simp only [Device.log_pace, Device.ringMsg_pace, Device.trnEvt_pace, Device.setFlag_pace, he]
  · simp only [Device.setFlag_pace, he]

@[simp] theorem Device.tarnWindow_pace : d.tarnWindow.2.pace = d.pace := by
  simp [Device.tarnWindow, ↓Device.pace_mk]

@[simp] theorem Device.lanesStepped_pace : d.lanesStepped.pace = d.pace := by rfl

@[simp] theorem Device.dropRingLock_pace : d.dropRingLock.pace = d.pace := by
  simp [Device.dropRingLock, ↓Device.pace_mk]

@[simp] theorem Device.ringPhaseLoss_pace : d.ringPhaseLoss.pace = d.pace := by
  simp [Device.ringPhaseLoss]

@[simp] theorem Device.leaveFrame_pace (s : Side) (reason : Nat) : (d.leaveFrame s reason).pace = d.pace := by
  unfold Device.leaveFrame
  exact Device.trnEmit_pace ..

@[simp] theorem Device.leaveRing_pace (reason : Nat) : (d.leaveRing reason).pace = d.pace := by
  simp [Device.leaveRing, ↓Device.pace_mk]

@[simp] theorem Device.ringParams_pace : d.ringParams.pace = d.pace := by
  simp [Device.ringParams, ↓Device.pace_mk]

/-! ### Pace: the power sequence and the windows -/

@[simp] theorem Device.applyRdc_pace : d.applyRdc.pace = d.pace := by
  simp [Device.applyRdc]

@[simp] theorem Device.entryBoundary_pace : d.entryBoundary.pace = d.pace := by
  simp [Device.entryBoundary, ↓Device.pace_mk]

@[simp] theorem Device.advanceRamp_pace : d.advanceRamp.pace = d.pace := by
  unfold Device.advanceRamp
  split <;> rfl

@[simp] theorem Device.mainPermission_pace : d.mainPermission.pace = d.pace := by
  simp [Device.mainPermission]

@[simp] theorem Device.prechargeBlock_pace (lane : Vector Word 16) : (d.prechargeBlock lane).pace = d.pace := by
  unfold Device.prechargeBlock
  split <;> rfl

@[simp] theorem Device.stampWord_pace (a : Nat) : (d.stampWord a).pace = d.pace := by rfl

@[simp] theorem Device.wordApplied_pace (a : Nat) (old : Word) : (d.wordApplied a old).pace = d.pace := by
  unfold Device.wordApplied
  split <;> simp [↓Device.pace_mk]

/-! ### Pace: the transactions -/

@[simp] theorem Device.setStaged_pace (c : Client) (es : List Entry) : (d.setStaged c es).pace = d.pace := by
  unfold Device.setStaged
  split <;> rfl

@[simp] theorem Device.setFlight_pace (c : Client) (f : Option Flight) : (d.setFlight c f).pace = d.pace := by
  unfold Device.setFlight
  split <;> rfl

@[simp] theorem Device.stagingError_pace (bad : Bool) : (d.stagingError bad).pace = d.pace := by
  simp [Device.stagingError, ↓Device.pace_mk]

@[simp] theorem Device.txnEnd_pace (c : Client) (es : List Entry) (v : TxnVerdict) (blk : Nat) (waves : Nat)
    (failWave : Nat) : (d.txnEnd c es v blk waves failWave).pace = d.pace := by
  simp [Device.txnEnd]

@[simp] theorem Device.txnRefuse_pace (c : Client) (es : List Entry) (v : TxnVerdict) (blk : Nat) :
    (d.txnRefuse c es v blk).pace = d.pace := by
  simp [Device.txnRefuse, ↓Device.pace_mk]

@[simp] theorem Device.txnOk_pace (c : Client) (f : Flight) : (d.txnOk c f).pace = d.pace := by
  simp [Device.txnOk]

@[simp] theorem Device.txnFail_pace (c : Client) (f : Flight) (wave : Nat) (cause : Nat) (index : Nat) :
    (d.txnFail c f wave cause index).pace = d.pace := by
  simp [Device.txnFail]

@[simp] theorem Device.copyGood_pace (k : Nat) : (d.copyGood k).2.pace = d.pace := by
  simp [Device.copyGood]

@[simp] theorem Device.rotateWindow_pace (k : Nat) : (d.rotateWindow k).pace = d.pace := by rfl

@[simp] theorem Device.waveVersion_pace (w : Nat) : (d.waveVersion w).pace = d.pace := by
  unfold Device.waveVersion
  split <;> rfl

@[simp] theorem Device.applyWave_pace (c : Client) (f : Flight) (w : Nat) : (d.applyWave c f w).pace = d.pace := by
  unfold Device.applyWave
  split <;> simp [↓Device.pace_mk]

@[simp] theorem Device.dropForSafe_pace (c : Client) (f : Flight) (from_ : Nat) : (d.dropForSafe c f from_).pace =
    d.pace := by
  simp [Device.dropForSafe]

@[simp] theorem Device.runWave_pace (c : Client) (f : Flight) (w : Nat) (next : TxnPhase) (bad : Bool) :
    (d.runWave c f w next bad).pace = d.pace := by
  unfold Device.runWave
  dsimp only
  repeat' split
  all_goals simp

@[simp] theorem Device.firstBoundary_pace (c : Client) (f : Flight) (bad : Bool) : (d.firstBoundary c f bad).pace =
    d.pace := by
  simp [Device.firstBoundary]
  split <;> simp

@[simp] theorem Device.thirdWave_pace (c : Client) (f : Flight) (bad : Bool) : (d.thirdWave c f bad).pace = d.pace := by
  simp [Device.thirdWave]

@[simp] theorem Device.flightBoundary_pace (c : Client) (bad : Bool) : (d.flightBoundary c bad).pace = d.pace := by
  unfold Device.flightBoundary
  repeat' split
  all_goals simp

@[simp] theorem Device.txnBoundary_pace (bad : Vector Bool 2) : (d.txnBoundary bad).pace = d.pace := by
  simp [Device.txnBoundary]
  split <;> simp [↓Device.pace_mk]

/-! ### Pace: the boundary itself -/

@[simp] theorem Device.outSample_pace (i : Nat) (k : Nat) : (d.outSample i k).2.pace = d.pace := by
  simp [Device.outSample]
  split <;> simp [↓Device.pace_mk]

@[simp] theorem Device.outChannel_pace (i : Nat) : (d.outChannel i).2.pace = d.pace := by
  simp [Device.outChannel]

@[simp] theorem Device.outBlock_pace : d.outBlock.2.pace = d.pace := by
  simp [Device.outBlock]

@[simp] theorem Device.writeDescriptor_pace : d.writeDescriptor.pace = d.pace := by
  unfold Device.writeDescriptor
  exact Device.pace_foldl _ _ _ fun d p => Device.storeWord_pace d _ _

@[simp] theorem Device.stageEvents_pace : d.stageEvents.pace = d.pace := by
  simp [Device.stageEvents, ↓Device.pace_mk]

@[simp] theorem Device.stageLoad_pace : d.stageLoad.pace = d.pace := by rfl

@[simp] theorem Device.boundaryGather_pace (x : BoundaryIn) : (d.boundaryGather x).pace = d.pace := by
  simp [Device.boundaryGather, ↓Device.pace_mk]

@[simp] theorem Device.boundaryWaves_pace (x : BoundaryIn) : (d.boundaryWaves x).pace = d.pace := by
  simp [Device.boundaryWaves]

@[simp] theorem Device.dcNow_pace (v : Vector (List Rat) 4) : (d.dcNow v).pace = d.pace := by
  simp [Device.dcNow]

@[simp] theorem Device.boundaryBudget_pace (x : BoundaryIn) (outs : Vector (List Int) 4) :
    (d.boundaryBudget x outs).pace = d.pace := by
  simp [Device.boundaryBudget]

end Sys2Proof.Machine
end

section
/-! PROOFS. BLKEND and the overrun (O21). -/

namespace Sys2Proof.Machine

/-- What is so of the device after a command's effect is so of what the command completes with. -/
theorem State.on_completes {i : Instr} {s : State} {f : Device → Device} {p : Device → Prop} (h : exec i s = s.on f)
    (hp : p (f s.dev)) : Completes i s p :=
  ⟨_, h, rfl, hp⟩

/-- With an empty store buffer there is nothing to complete. -/
theorem Device.drainStores_empty {d : Device} {c : CoreId} (h : (d.core c).buf = []) : d.drainStores c = d := by
  have one : d.completeStore c = d := by simp only [Device.completeStore, h]
  rw [Device.drainStores, one, one]

/-- S at the end of its block (R64, R66). -/
def Core.blockEnd (k : Core) : Core :=
  { k with st := (((k.st.put F.ST_ENDCYC_LAST (k.st.get F.ST_BLKCYC_CYCLE)).put F.ST_ENDMAX_MAX
      (max (k.st.get F.ST_ENDMAX_MAX) (k.st.get F.ST_BLKCYC_CYCLE))).put F.ST_OVRCNT_CONSEC 0).put F.ST_SSTATE_STATE 2 }

theorem Device.blockEnd_sc (d : Device) : d.blockEnd.sc = d.sc.blockEnd := by
  unfold Device.blockEnd Core.blockEnd
  simp (disch := decide) only [Device.cput_sc, Device.cget_sc, RegMap.get_put_apart]

theorem Device.blockEnd_mem (d : Device) : d.blockEnd.mem = d.mem := by
  unfold Device.blockEnd
  simp only [Device.cput_mem]

theorem Device.blockEnd_done (d : Device) : d.blockEnd.stream.done = true := rfl

/-- BLKEND in time with nothing in the store buffer ends the block and goes on. -/
theorem exec_blkend_inTime {s : State} (h : s.dev.ready .s .stream) (fetch : s.dev.fetched .s = s.dev)
    (buf : (s.dev.core .s).buf = []) :
    exec (.blkend .s) s = s.on fun d => d.blockEnd.advance .s := by
  obtain ⟨-, inTime, -⟩ := id h
  have run := Device.issue_ready (fun d =>
    let d := d.drainStores .s
    if d.atDeadline .s then .gone d.streamOverrun else .ok d.blockEnd) h
  rw [fetch] at run
  simp only [Device.drainStores_empty buf, inTime, Bool.false_eq_true, if_false] at run
  exact congrArg (fun x => Host.Outcome.next { s with dev := x }) run

theorem blkend_completes {s : State} (h : s.dev.ready .s .stream) (fetch : s.dev.fetched .s = s.dev)
    (buf : (s.dev.core .s).buf = []) : Completes (.blkend .s) s fun e =>
        e.cget .s F.ST_SSTATE_STATE = 2 ∧ e.cget .s F.ST_ENDCYC_LAST = s.dev.cget .s F.ST_BLKCYC_CYCLE ∧
        e.cget .s F.ST_OVRCNT_CONSEC = 0 ∧ e.stream.done = true ∧ (e.core .s).pc = s.pc .s + 4 ∧ e.mem = s.dev.mem := by
  have sc := s.dev.blockEnd_sc
  refine State.on_completes (exec_blkend_inTime h fetch buf) ?_
  simp only [Device.advance, Device.setPc_cget, Device.setPc_pc, Device.setPc_mem, Device.setPc_stream,
    Device.blockEnd_mem, Device.blockEnd_done, and_true, true_and]
  simp only [Device.core_s, Device.cget_sc, sc, Core.blockEnd, State.pc, and_true]
  simp (disch := decide) only [RegMap.get_put_apart, RegMap.get_put_same]
  exact ⟨rfl, Nat.mod_eq_of_lt (RegMap.get_lt _ _), rfl⟩

/-- An overrun under no limit (R65). -/
theorem streamOverrun_counts {s : State} (h : s.dev.executing .s = true)
    (limit : s.dev.cget .s F.ST_SCTL_OVR_LIMIT = 0) : Completes .streamOverrun s fun e =>
        e.cget .s F.ST_SSTATE_STATE = 2 ∧
        e.cget .s F.ST_OVRCNT_COUNT = min 65535 (s.dev.cget .s F.ST_OVRCNT_COUNT + 1) ∧
        e.cget .s F.ST_OVRCNT_CONSEC = min 255 (s.dev.cget .s F.ST_OVRCNT_CONSEC + 1) ∧ e.stream.overrun = true ∧
        (e.core .s).pc = s.pc .s := by
  have stays : s.dev.overrunFaults = false := by
    simp only [Device.overrunFaults, limit, bne_self_eq_false, Bool.false_and]
  have run : s.dev.streamOverrun = s.dev.noteOverrun := by
    rw [Device.streamOverrun_of_executing h, stays, if_neg Bool.false_ne_true]
  refine State.on_completes rfl ?_
  rw [run]
  simp only [Device.cget_sc, Device.core_s, Device.noteOverrun_sc, Core.overrun, State.pc, and_true]
  simp (disch := decide) only [RegMap.get_put_apart, RegMap.get_put_same]
  refine ⟨rfl, Nat.mod_eq_of_lt ?_, Nat.mod_eq_of_lt ?_, ?_⟩
  · exact lt_of_le_of_lt (min_le_left _ _) (by decide)
  · exact lt_of_le_of_lt (min_le_left _ _) (by decide)
  · simp only [Device.noteOverrun, Device.raise_stream]

/-- An overrun at the limit (R66). -/
theorem streamOverrun_faults {s : State} (h : s.dev.executing .s = true)
    (limit : s.dev.cget .s F.ST_SCTL_OVR_LIMIT ≠ 0)
    (reached : s.dev.cget .s F.ST_SCTL_OVR_LIMIT ≤ s.dev.cget .s F.ST_OVRCNT_CONSEC + 1) :
    Completes .streamOverrun s fun e => e.cget .s F.ST_SSTATE_STATE = 3 ∧ e.cget .s F.ST_SFLT_CAUSE = 8 := by
  have small : s.dev.cget .s F.ST_SCTL_OVR_LIMIT ≤ 255 :=
    Nat.le_of_lt_succ (RegMap.get_lt (s.dev.core .s).st F.ST_SCTL_OVR_LIMIT)
  have faults : s.dev.overrunFaults = true := by
    simp only [Device.overrunFaults, Bool.and_eq_true, bne_iff_ne, decide_eq_true_eq]
    exact ⟨limit, le_min small reached⟩
  have run : s.dev.streamOverrun = s.dev.noteOverrun.streamFault 8 s.dev.sc.pc 0 := by
    rw [Device.streamOverrun_of_executing h, faults, if_pos rfl]
  refine State.on_completes rfl ?_
  rw [run]
  simp only [Device.cget_sc, Device.streamFault_sc]
  simp (disch := decide) only [RegMap.get_put_apart, RegMap.get_put_same]
  exact ⟨rfl, rfl⟩

end Sys2Proof.Machine
end

section
/-! PROOFS. The block boundary (O21). -/

namespace Sys2Proof.Machine

theorem Device.pace_sc {d e : Device} (h : e.pace = d.pace) : e.sc = d.sc := congrArg Prod.fst h

theorem Device.pace_rt {d e : Device} (h : e.pace = d.pace) : e.clk.rt = d.clk.rt := congrArg Prod.snd h

/-! ### The overrun at a boundary -/

theorem Device.streamOverrun_cases (d : Device) : d.streamOverrun = d ∨ d.streamOverrun = d.noteOverrun ∨
    d.streamOverrun = d.noteOverrun.streamFault 8 d.sc.pc 0 := by
  by_cases h : d.executing .s = true
  · rw [Device.streamOverrun_of_executing h]
    split
    · exact .inr (.inr rfl)
    · exact .inr (.inl rfl)
  · exact .inl (Device.streamOverrun_idle (Bool.eq_false_of_not_eq_true h))

theorem Device.streamOverrun_clk (d : Device) : d.streamOverrun.clk = d.clk := by
  rcases d.streamOverrun_cases with h | h | h
  · rw [h]
  · rw [h, Device.noteOverrun_clk]
  · rw [h, Device.streamFault_clk, Device.noteOverrun_clk]

theorem sem_word_lt {n : Nat} (h : n < 32) : R.SEM_n n ≠ R.CLK_STAT := by
  unfold R.SEM_n R.CLK_STAT
  omega

theorem Device.streamOverrun_limp (d : Device) : d.streamOverrun.limp = d.limp := by
  have word : d.streamOverrun.word R.CLK_STAT = d.word R.CLK_STAT := by
    have note := d.noteOverrun_word (a := R.CLK_STAT) (by decide)
    rcases d.streamOverrun_cases with h | h | h
    · rw [h]
    · rw [h, note]
    · rw [h, Device.streamFault_word _ _ _ _ (by decide) (fun n hn => (sem_word_lt hn).symm) (by decide), note]
  exact congrArg (fun w => fieldOf w F.CLK_STAT_MODE.lsb F.CLK_STAT_MODE.width == 6) word

/-- An overrun leaves the count of blocks. -/
theorem Device.streamOverrun_blkcnt (d : Device) :
    d.streamOverrun.cget .s F.ST_BLKCNT_COUNT = d.cget .s F.ST_BLKCNT_COUNT := by
  have note : d.noteOverrun.cget .s F.ST_BLKCNT_COUNT = d.cget .s F.ST_BLKCNT_COUNT := by
    rw [Device.cget_sc, Device.noteOverrun_sc, Core.overrun]
    simp (disch := decide) only [RegMap.get_put_apart, Device.cget_sc]
  rcases d.streamOverrun_cases with h | h | h
  · rw [h]
  · rw [h, note]
  · rw [h, ← note, Device.cget_sc, Device.streamFault_sc]
    simp (disch := decide) only [RegMap.get_put_apart, Device.cget_sc]

/-! ### The count and the time of the boundary -/

theorem Device.stepRingTime_sc (d : Device) : d.stepRingTime.sc = d.sc := by
  unfold Device.stepRingTime
  split
  · rfl
  · rw [Device.log_sc]
    rfl

theorem Device.mutePasses_clk (d : Device) (n : Nat) : (d.mutePasses n).clk = d.clk := by
  unfold Device.mutePasses
  split
  · rfl
  · split <;> rfl

theorem Device.inputsReach_clk (d : Device) (t : RingTime) : (d.inputsReach t).clk = d.clk := by
  unfold Device.inputsReach Device.senseFeeds
  split <;> exact Device.mutePasses_clk ..

theorem Device.boundaryTime_aligned {d : Device} (moved : Bool) (limp : d.limp = false) (step : d.clk.step = none) :
    (d.boundaryTime moved).sub = 0 ∧ (d.boundaryTime moved).frame.toNat % 16 = 0 := by
  unfold Device.boundaryTime
  simp only [limp, step]
  split
  · contradiction
  · split
    · rename_i h
      simp only [Bool.and_eq_true, beq_iff_eq] at h
      exact ⟨h.1.2, h.2⟩
    · refine ⟨rfl, ?_⟩
      simp only [BitVec.toNat_ofNat]
      omega

/-- The device at the new block's start, before a step of ring time: time has come to the boundary, the block is
counted, and its cycles begin anew. -/
def Device.blockCounted (d : Device) : Device :=
  let t := d.boundaryTime (d.cget .s F.ST_BLKCYC_CYCLE != 0)
  let d := { d.inputsReach t with clk.rt := t }
  (d.cput .s F.ST_BLKCNT_COUNT ((d.cget .s F.ST_BLKCNT_COUNT + 1) % 2 ^ 32)).cput .s F.ST_BLKCYC_CYCLE 0

theorem Device.boundaryStart_eq (d : Device) : d.boundaryStart =
    let e := d.streamOverrun.blockCounted
    (if e.clk.step.isSome then (e.stepRingTime.shlRingStep e.clk.rt.ticks).lanesStepped else e).ringPhaseLoss := rfl

theorem Device.blockCounted_sc (d : Device) : d.blockCounted.sc = { d.sc with st :=
    (d.sc.st.put F.ST_BLKCNT_COUNT ((d.cget .s F.ST_BLKCNT_COUNT + 1) % 2 ^ 32)).put F.ST_BLKCYC_CYCLE 0 } := by
  unfold Device.blockCounted
  simp only [Device.cput_sc, Device.cget_sc, Device.pace_sc (Device.inputsReach_pace ..)]

theorem Device.blockCounted_clk (d : Device) : d.blockCounted.clk =
    { d.clk with rt := d.boundaryTime (d.cget .s F.ST_BLKCYC_CYCLE != 0) } := by
  unfold Device.blockCounted
  simp only [Device.cput_clk, Device.inputsReach_clk]

theorem Device.boundaryStart_sc (d : Device) : d.boundaryStart.sc = d.streamOverrun.blockCounted.sc := by
  rw [Device.boundaryStart_eq]
  refine (Device.pace_sc (Device.ringPhaseLoss_pace _)).trans ?_
  split
  · exact (Device.pace_sc ((Device.lanesStepped_pace _).trans (Device.shlRingStep_pace _ _))).trans
      (Device.stepRingTime_sc _)
  · rfl

/-- Outside limp and without a step of ring time the boundary stands at a frame that is a multiple of 16 (R170). -/
theorem Device.boundaryStart_aligned {d : Device} (limp : d.limp = false) (step : d.clk.step = none) :
    d.boundaryStart.clk.rt.sub = 0 ∧ d.boundaryStart.clk.rt.frame.toNat % 16 = 0 := by
  have clk := d.streamOverrun.blockCounted_clk
  have none' : d.streamOverrun.clk.step = none := by rw [Device.streamOverrun_clk, step]
  have rt : d.boundaryStart.clk.rt = d.streamOverrun.boundaryTime (d.streamOverrun.cget .s F.ST_BLKCYC_CYCLE != 0) := by
    rw [Device.boundaryStart_eq]
    refine (Device.pace_rt (Device.ringPhaseLoss_pace _)).trans ?_
    rw [clk]
    simp only [none', Option.isSome_none, Bool.false_eq_true, if_false, clk]
  rw [rt]
  exact Device.boundaryTime_aligned _ (d.streamOverrun_limp.trans limp) none'

theorem Device.boundaryStart_counts (d : Device) :
    d.boundaryStart.cget .s F.ST_BLKCNT_COUNT = (d.cget .s F.ST_BLKCNT_COUNT + 1) % 2 ^ 32 ∧
      d.boundaryStart.cget .s F.ST_BLKCYC_CYCLE = 0 := by
  have count := d.streamOverrun_blkcnt
  simp (disch := decide) only [Device.cget_sc, Device.boundaryStart_sc, Device.blockCounted_sc, RegMap.get_put_apart,
    RegMap.get_put_same] at count ⊢
  rw [count]
  exact ⟨Nat.mod_mod _ _, rfl⟩

/-- A boundary without an overrun leaves the other state registers of S. -/
theorem Device.boundaryStart_cget {d : Device} (idle : d.executing .s = false) (f : Fld)
    (h : F.ST_BLKCNT_COUNT.apart f = true) (k : F.ST_BLKCYC_CYCLE.apart f = true) :
    d.boundaryStart.cget .s f = d.cget .s f := by
  rw [Device.cget_sc, Device.boundaryStart_sc, Device.blockCounted_sc, Device.streamOverrun_idle idle,
    RegMap.get_put_apart _ _ _ _ (by decide) k, RegMap.get_put_apart _ _ _ _ (by decide) h, Device.cget_sc]

/-! ### After the start -/

/-- What follows the start of a boundary leaves ring time, and of the state registers of S all but SSTATE. -/
def Device.goesOn (d e : Device) : Prop :=
  e.clk.rt = d.clk.rt ∧ ∀ f, F.ST_SSTATE_STATE.apart f = true → e.cget .s f = d.cget .s f

theorem Device.goesOn_of_pace {d e : Device} (h : e.pace = d.pace) : d.goesOn e :=
  ⟨Device.pace_rt h, fun f _ => by rw [Device.cget_sc, Device.pace_sc h, Device.cget_sc]⟩

theorem Device.goesOn.trans {d e f : Device} (h : d.goesOn e) (k : e.goesOn f) : d.goesOn f :=
  ⟨k.1.trans h.1, fun g hg => (k.2 g hg).trans (h.2 g hg)⟩

theorem Device.goesOn_cput (d : Device) (v : Nat) : d.goesOn (d.cput .s F.ST_SSTATE_STATE v) :=
  ⟨by rw [Device.cput_clk], fun f h => Device.cget_cput_apart _ _ _ _ _ (by decide) h⟩

theorem Device.stopped_cases {d e : Device} (h : e.pace = d.pace) (stops : Bool) : ∃ e' : Device, e'.pace = d.pace ∧
    ((if stops then e.cput .s F.ST_SSTATE_STATE 0 else e) = e' ∨
      (if stops then e.cput .s F.ST_SSTATE_STATE 0 else e) = e'.cput .s F.ST_SSTATE_STATE 0) := by
  cases stops
  · exact ⟨e, h, .inl rfl⟩
  · exact ⟨e, h, .inr rfl⟩

/-- The block that passes leaves S and ring time, but that S with RUN = 0 stops. -/
theorem Device.streamPass_cases (d : Device) :
    ∃ e : Device, e.pace = d.pace ∧ (d.streamPass.2 = e ∨ d.streamPass.2 = e.cput .s F.ST_SSTATE_STATE 0) := by
  unfold Device.streamPass
  dsimp only
  split
  · exact Device.stopped_cases (by rfl) _
  · split
    · exact Device.stopped_cases (by rfl) _
    · split
      · refine Device.stopped_cases ?_ _
        rw [Device.pace_mk, Device.pace_eta, Device.outBlock_pace]
      · split
        · exact Device.stopped_cases (by rfl) _
        · exact Device.stopped_cases (by rfl) _

theorem Device.streamPass_goesOn (d : Device) : d.goesOn d.streamPass.2 := by
  obtain ⟨e, pace, h | h⟩ := d.streamPass_cases
  · exact h ▸ Device.goesOn_of_pace pace
  · exact h ▸ (Device.goesOn_of_pace pace).trans (Device.goesOn_cput e 0)

/-- A stopped S stays stopped while the block before passes. -/
theorem Device.streamPass_stopped {d : Device} (stopped : d.cget .s F.ST_SSTATE_STATE = 0) :
    d.streamPass.2.cget .s F.ST_SSTATE_STATE = 0 := by
  obtain ⟨e, pace, h | h⟩ := d.streamPass_cases
  · rw [h, Device.cget_sc, Device.pace_sc pace, ← Device.cget_sc, stopped]
  · rw [h, Device.cget_cput_same _ _ _ _ (by decide)]
    rfl

/-! ### S starts its block -/

theorem Device.freeCore_st (d : Device) : d.freeCore.sc.st = d.sc.st := by
  simp only [Device.freeCore]

theorem Device.freeCore_rt (d : Device) : d.freeCore.clk.rt = d.clk.rt := by
  simp only [Device.freeCore]

/-- What S finds as it starts (R63, R71): a cleared output bank, the descriptor, and free registers after a stop. -/
def Device.blockPrepared (d : Device) : Device :=
  let d := (List.range 64).foldl (fun d k => d.storeWord (0x20064C00 + 4 * k) 0) d
  let d := d.writeDescriptor
  if d.cget .s F.ST_SSTATE_STATE == 0 then d.freeCore else d

theorem Device.startStream_eq (d : Device) : d.startStream =
    let e := d.blockPrepared
    let f := (e.setPc .s (BitVec.ofNat 32 (e.cget .s F.ST_SENTRY_ENTRY * 4))).cput .s F.ST_SSTATE_STATE 1
    { f with stream.resume := false, stream.epoch := f.epoch } := rfl

theorem Device.blockPrepared_keeps (d : Device) :
    d.blockPrepared.sc.st = d.sc.st ∧ d.blockPrepared.clk.rt = d.clk.rt := by
  have pace : ((List.range 64).foldl (fun d k => d.storeWord (0x20064C00 + 4 * k) 0) d).writeDescriptor.pace = d.pace :=
    (Device.writeDescriptor_pace _).trans (Device.pace_foldl _ _ _ fun d k => Device.storeWord_pace d _ _)
  rw [← Device.pace_rt pace, ← Device.pace_sc pace]
  unfold Device.blockPrepared
  dsimp only
  split
  · exact ⟨Device.freeCore_st _, Device.freeCore_rt _⟩
  · exact ⟨rfl, rfl⟩

/-- S as it starts: at the entry, in RUNNING (R63). -/
theorem Device.startStream_goesOn (d : Device) : d.goesOn d.startStream ∧
    d.startStream.cget .s F.ST_SSTATE_STATE = 1 ∧
    (d.startStream.core .s).pc = BitVec.ofNat 32 (d.cget .s F.ST_SENTRY_ENTRY * 4) := by
  obtain ⟨st, rt⟩ := d.blockPrepared_keeps
  rw [Device.startStream_eq]
  simp only [Device.goesOn, Device.core_s, Device.cget_sc, Device.cput_sc, Device.cput_clk, Device.setPc_clk,
    Device.setPc_sc, st, rt]
  refine ⟨⟨trivial, fun f h => RegMap.get_put_apart _ _ _ _ (by decide) h⟩, ?_, trivial⟩
  rw [RegMap.get_put_same _ _ _ (by decide)]
  rfl

/-! ### The end of the boundary -/

theorem Device.streamStarts_of_pace {d e : Device} (h : e.pace = d.pace) : e.streamStarts = d.streamStarts := by
  simp only [Device.streamStarts, Device.cget_sc, Device.pace_sc h]

/-- The boundary's events before S starts (R31). -/
def Device.boundaryFired (d : Device) : Device := if d.running || d.limp then d.fire 48 else d

theorem Device.boundaryFired_pace (d : Device) : d.boundaryFired.pace = d.pace := by
  unfold Device.boundaryFired
  split
  · exact Device.fire_pace _ _
  · rfl

theorem Device.boundaryEnd_pace (d before : Device) : (d.boundaryEnd before).pace =
    (if d.boundaryFired.streamStarts then d.boundaryFired.startStream else d.boundaryFired).pace := by
  have rest : ∀ e : Device, ((e.weirBoundary before
      (e.cget .s F.ST_BLKCNT_COUNT)).senseNext.senseBoundary.sampleAges.sampleCycle).nvsBoundary.pace = e.pace := by
    intro e
    simp only [Device.nvsBoundary_pace, Device.sampleCycle_pace, Device.sampleAges_pace, Device.senseBoundary_pace,
      Device.senseNext_pace, Device.weirBoundary_pace]
  exact rest _

theorem Device.boundaryEnd_goesOn (d before : Device) : d.goesOn (d.boundaryEnd before) := by
  refine (Device.goesOn_of_pace d.boundaryFired_pace).trans ?_
  refine Device.goesOn.trans ?_ (Device.goesOn_of_pace (Device.boundaryEnd_pace d before))
  split
  · exact (Device.startStream_goesOn _).1
  · exact ⟨rfl, fun _ _ => rfl⟩

/-- S starts its block at the end of a boundary (R63). -/
theorem Device.boundaryEnd_starts {d : Device} (before : Device) (starts : d.streamStarts = true) :
    (d.boundaryEnd before).cget .s F.ST_SSTATE_STATE = 1 ∧
      ((d.boundaryEnd before).core .s).pc = BitVec.ofNat 32 (d.cget .s F.ST_SENTRY_ENTRY * 4) := by
  have pace := Device.boundaryEnd_pace d before
  rw [Device.streamStarts_of_pace d.boundaryFired_pace, if_pos starts] at pace
  obtain ⟨-, state, pc⟩ := d.boundaryFired.startStream_goesOn
  rw [Device.cget_sc, Device.core_s, Device.pace_sc pace, ← Device.cget_sc, ← Device.core_s, state, pc, Device.cget_sc,
    Device.pace_sc d.boundaryFired_pace, Device.cget_sc]
  exact ⟨rfl, rfl⟩

/-! ### The boundary whole -/

/-- What the boundary does from the block's count to the waves leaves S and ring time. -/
theorem Device.boundaryMiddle_pace (d : Device) (x y : BoundaryIn) :
    (((d.saturations x.sat x.sense).boundaryGather y).boundaryWaves y).pace = d.pace := by
  rw [Device.boundaryWaves_pace, Device.boundaryGather_pace, Device.saturations_pace]

/-- A boundary up to the block that passes to the Guard: that block, and the device. -/
def Device.boundaryPassed (d : Device) (x : BoundaryIn) : Vector (List Int) 4 × Device :=
  let e := d.boundaryStart
  let y := { x with sense := e.senseOuts x.sense }
  (((e.saturations x.sat x.sense).boundaryGather y).boundaryWaves y).streamPass

/-- A boundary up to the end of the block before. -/
def Device.boundaryReady (d : Device) (x : BoundaryIn) : Device :=
  (d.boundaryPassed x).2.boundaryBudget { x with sense := d.boundaryStart.senseOuts x.sense } (d.boundaryPassed x).1

theorem Device.boundaryReady_pace (d : Device) (x : BoundaryIn) :
    (d.boundaryReady x).pace = (d.boundaryPassed x).2.pace :=
  Device.boundaryBudget_pace _ _ _

theorem Device.blockBoundary_of_runs {d : Device} (x : BoundaryIn) (runs : d.coreRuns = true)
    (frozen : d.stage.frozen = false) : d.blockBoundary x = (d.boundaryReady x).boundaryEnd d := by
  simp only [Device.blockBoundary, runs, frozen, Bool.not_true, Bool.or_self, Bool.false_eq_true, if_false]
  rfl

theorem Device.boundaryReady_goesOn (d : Device) (x : BoundaryIn) : d.boundaryStart.goesOn (d.boundaryReady x) :=
  (Device.goesOn_of_pace (Device.boundaryMiddle_pace _ x _)).trans
    ((Device.streamPass_goesOn _).trans (Device.goesOn_of_pace (d.boundaryReady_pace x)))

theorem Device.boundaryReady_stopped {d : Device} (x : BoundaryIn)
    (stopped : d.boundaryStart.cget .s F.ST_SSTATE_STATE = 0) : (d.boundaryReady x).cget .s F.ST_SSTATE_STATE = 0 := by
  rw [Device.cget_sc, Device.pace_sc (d.boundaryReady_pace x)]
  refine Device.streamPass_stopped ?_
  rw [Device.cget_sc, Device.pace_sc (Device.boundaryMiddle_pace _ x _)]
  exact stopped

/-- A stopped S with RUN = 1 starts its block at the entry at the boundary (R63). -/
theorem Device.blockBoundary_starts {d : Device} (x : BoundaryIn) (run : d.cget .s F.ST_SCTL_RUN = 1)
    (stopped : d.cget .s F.ST_SSTATE_STATE = 0) :
    ((d.boundaryReady x).boundaryEnd d).cget .s F.ST_SSTATE_STATE = 1 ∧
      (((d.boundaryReady x).boundaryEnd d).core .s).pc = BitVec.ofNat 32 (d.cget .s F.ST_SENTRY_ENTRY * 4) := by
  have idle : d.executing .s = false := by
    simp [Device.executing, stopped]
  obtain ⟨-, keeps⟩ := d.boundaryReady_goesOn x
  have run' : (d.boundaryReady x).cget .s F.ST_SCTL_RUN = 1 := by
    rw [keeps _ (by decide), Device.boundaryStart_cget idle _ (by decide) (by decide), run]
  have entry : (d.boundaryReady x).cget .s F.ST_SENTRY_ENTRY = d.cget .s F.ST_SENTRY_ENTRY := by
    rw [keeps _ (by decide), Device.boundaryStart_cget idle _ (by decide) (by decide)]
  have stopped' := Device.boundaryReady_stopped x
    ((Device.boundaryStart_cget idle F.ST_SSTATE_STATE (by decide) (by decide)).trans stopped)
  rw [← entry]
  exact Device.boundaryEnd_starts d (by simp [Device.streamStarts, run', stopped'])

/-- Settles O21: S alone, and what the boundary's other blocks do leaves S and ring time as they are. -/
theorem blocksAndBoundaries : Obligations.BlocksAndBoundaries := by
  unfold Obligations.BlocksAndBoundaries
  refine ⟨fun s => ⟨fun h fetch buf _ => blkend_completes h fetch buf, streamOverrun_counts, streamOverrun_faults⟩, ?_⟩
  intro s x
  have run : exec (.blockBoundary x) s = s.on fun d => d.blockBoundary x := rfl
  refine ⟨fun h => run.trans (State.on_eq_self ?_), fun runs frozen => State.on_completes run ?_⟩
  · have none' : (!s.dev.coreRuns || s.dev.stage.frozen) = true := by
      rcases h with h | h <;> simp [h]
    simp only [Device.blockBoundary, none', if_true]
  rw [Device.blockBoundary_of_runs x runs frozen]
  obtain ⟨rt, keeps⟩ := (s.dev.boundaryReady_goesOn x).trans (Device.boundaryEnd_goesOn _ s.dev)
  obtain ⟨count, cycle⟩ := s.dev.boundaryStart_counts
  refine ⟨(keeps _ (by decide)).trans count, (keeps _ (by decide)).trans cycle, fun limp step => ?_,
    Device.blockBoundary_starts x⟩
  rw [rt]
  exact Device.boundaryStart_aligned limp step

end Sys2Proof.Machine
end

section
/-! PROOFS. What the latching of a fault leaves alone: the memories, the cores, the other sources, the faults latched
before, and the order of the log (R227). -/

namespace Sys2Proof.Machine

/-! ### The log grows -/

/-- Where the log of `d` has room for `k` entries, `e` has the same log with at most `k` more entries in the queue. -/
def Device.logsAtMost (k : Nat) (d e : Device) : Prop :=
  d.sed.gap = none → d.sed.wq.length + k ≤ logQueueCap →
    e.sed.gap = none ∧ ∃ more : List LogEntry, more.length ≤ k ∧ e.sed.wq = more.foldl placeEntry d.sed.wq

theorem Device.logsAtMost_of_sed {d e : Device} (h : e.sed = d.sed) : Device.logsAtMost 0 d e :=
  fun hg _ => ⟨h ▸ hg, [], Nat.le_refl 0, by rw [h]; rfl⟩

theorem Device.logsOne.atMost {d e : Device} (h : d.logsOne e) : Device.logsAtMost 1 d e :=
  fun hg hq => h hg (by omega)

theorem Device.logsAtMost.mono {j k : Nat} {d e : Device} (h : Device.logsAtMost j d e) (hjk : j ≤ k) :
    Device.logsAtMost k d e := by
  intro hg hq
  obtain ⟨gap, more, len, queue⟩ := h hg (by omega)
  exact ⟨gap, more, le_trans len hjk, queue⟩

theorem Device.logsAtMost.trans {j k : Nat} {d e f : Device} (h : Device.logsAtMost j d e)
    (h' : Device.logsAtMost k e f) : Device.logsAtMost (j + k) d f := by
  intro hg hq
  obtain ⟨gap, more, len, queue⟩ := h hg (by omega)
  obtain ⟨gap', more', len', queue'⟩ := h' gap (by rw [queue, length_foldl_placeEntry]; omega)
  refine ⟨gap', more ++ more', ?_, by rw [queue', queue, List.foldl_append]⟩
  rw [List.length_append]
  omega

theorem Device.raise_logsAtMost (d : Device) (n detail : Nat) (data : List Byte) :
    Device.logsAtMost 2 d (d.raise n detail data) :=
  (d.fire_logsOne n).atMost.trans (Device.logsOne_log rfl n (sourceSev n) detail data).atMost

/-! ### A step on the way of a fault -/

/-- The fault path has led from `d` to `e` with at most `k` entries: the memories and the cores are as they were, so are
all sources but DIAG_DONE and DIAG_FAULT, and no bit of PWR_FAULT is cleared. -/
structure Device.faultPath (k : Nat) (d e : Device) : Prop where
  mem : e.mem = d.mem
  ecc : e.ecc = d.ecc
  core : ∀ c, e.core c = d.core c
  source : ∀ n : Fin 128, n ≠ 41 → n ≠ 42 → e.source n = d.source n
  latched : ∀ b, (d.word R.PWR_FAULT).getLsbD b = true → (e.word R.PWR_FAULT).getLsbD b = true
  log : Device.logsAtMost k d e

theorem Device.faultPath.refl (d : Device) : Device.faultPath 0 d d :=
  ⟨rfl, rfl, fun _ => rfl, fun _ _ _ => rfl, fun _ h => h, Device.logsAtMost_of_sed rfl⟩

theorem Device.faultPath.trans {j k : Nat} {d e f : Device} (h : Device.faultPath j d e) (h' : Device.faultPath k e f) :
    Device.faultPath (j + k) d f :=
  ⟨h'.mem.trans h.mem, h'.ecc.trans h.ecc, fun c => (h'.core c).trans (h.core c),
    fun n a b => (h'.source n a b).trans (h.source n a b), fun b hb => h'.latched b (h.latched b hb),
    h.log.trans h'.log⟩

theorem Device.faultPath.mono {j k : Nat} {d e : Device} (h : Device.faultPath j d e) (hjk : j ≤ k) :
    Device.faultPath k d e :=
  ⟨h.mem, h.ecc, h.core, h.source, h.latched, h.log.mono hjk⟩

theorem Device.faultPath.ite {k : Nat} {d a b : Device} {p : Prop} [Decidable p] (ha : Device.faultPath k d a)
    (hb : Device.faultPath k d b) : Device.faultPath k d (if p then a else b) := by
  split
  · exact ha
  · exact hb

variable (d : Device)

theorem Device.faultPath_put (f : Fld) (v : Nat) (h : R.PWR_FAULT ≠ f.addr) : Device.faultPath 0 d (d.put f v) :=
  ⟨rfl, rfl, d.put_core f v, fun _ _ _ => rfl, fun b hb => by rwa [Device.word_put_ne _ _ _ h],
    Device.logsAtMost_of_sed rfl⟩

/-- A change of the power sequence, the stage, the diagnostics or the transactions alone. -/
theorem Device.faultPath_with (pwr : Pwr) (stage : Stage) (diag : Diag) (txn : Txn) :
    Device.faultPath 0 d { d with pwr := pwr, stage := stage, diag := diag, txn := txn } :=
  ⟨rfl, rfl, fun c => by cases c <;> rfl, fun _ _ _ => rfl, fun _ h => h, Device.logsAtMost_of_sed rfl⟩

theorem Device.faultPath_log (n sev detail : Nat) (data : List Byte) :
    Device.faultPath 1 d (d.log n sev detail data) :=
  ⟨d.log_mem .., d.log_ecc .., d.log_core n sev detail data, fun m _ _ => d.log_source n sev detail data m,
    fun b h => by rwa [(d.log_noted n sev detail data).word (by decide)],
    (Device.logsOne_log rfl n sev detail data).atMost⟩

theorem Device.countFire_source_ne {n m : Fin 128} (e : EvSource) (h : m ≠ n) :
    (d.countFire n e).source m = d.source m := by
  unfold Device.countFire
  split
  · exact d.source_setSource_ne _ h
  · dsimp only
    split
    · exact d.source_setSource_ne _ h
    · exact (Device.log_source ..).trans (d.source_setSource_ne _ h)

theorem Device.fireNow_source_ne {n m : Fin 128} (sw wake : Bool) (h : m ≠ n) :
    (d.fireNow n sw wake).source m = d.source m := by
  unfold Device.fireNow
  dsimp only
  split
  · exact d.source_setSource_ne _ h
  · split
    · split
      · exact d.countFire_source_ne _ h
      · exact d.source_setSource_ne _ h
    · exact d.source_setSource_ne _ h
  · split
    · exact d.countFire_source_ne _ h
    · exact d.source_setSource_ne _ h

/-- A fire changes its own source alone (R141). -/
theorem Device.fire_source_ne {n : Nat} {m : Fin 128} (h : m.val ≠ n) : (d.fire n).source m = d.source m := by
  unfold Device.fire
  split
  · rfl
  · split
    · split
      · exact d.fireNow_source_ne _ _ fun e => h (congrArg Fin.val e)
      · rfl
    · split <;> rfl

theorem Device.faultPath_fire {n : Nat} (h : n = 41 ∨ n = 42) : Device.faultPath 1 d (d.fire n) :=
  ⟨d.fire_mem .., d.fire_ecc .., d.fire_core n, fun m h1 h2 => d.fire_source_ne (by omega),
    fun b h => by rwa [(d.fire_noted n).word (by decide)], (d.fire_logsOne n).atMost⟩

theorem Device.faultPath_raise {n : Nat} (h : n = 41 ∨ n = 42) (detail : Nat) (data : List Byte) :
    Device.faultPath 2 d (d.raise n detail data) :=
  (d.faultPath_fire h).trans (Device.faultPath_log _ n (sourceSev n) detail data)

/-! ### The operations on the way -/

/-- Steps that log nothing, one after another. -/
theorem Device.faultPath.and {d e f : Device} {k : Nat} (h : Device.faultPath k d e) (h' : Device.faultPath 0 e f) :
    Device.faultPath k d f := h.trans h'

theorem Device.faultPath_foldl {α : Type} (g : Device → α → Device) (hg : ∀ d x, Device.faultPath 0 d (g d x)) :
    ∀ (l : List α) (d : Device), Device.faultPath 0 d (l.foldl g d)
  | [], d => .refl d
  | x :: t, d => (hg d x).and (Device.faultPath_foldl g hg t (g d x))

theorem Device.faultPath_diagWriteResult (n : Nat) (r : DiagResult) :
    Device.faultPath 0 d (d.diagWriteResult n r) := by
  have pre : R.PWR_FAULT ≠ R.DIAG_n_PRE n := by unfold R.PWR_FAULT R.DIAG_n_PRE; omega
  have rdc : R.PWR_FAULT ≠ R.DIAG_n_RDC n := by unfold R.PWR_FAULT R.DIAG_n_RDC; omega
  have shown := ((d.faultPath_put (F.DIAG_n_PRE_RESULT n) r.result pre).and
    (Device.faultPath_put _ (F.DIAG_n_PRE_HB n) r.hb pre)).and
      (Device.faultPath_put _ (F.DIAG_n_PRE_RDC_VALID n) r.rdcValid.toNat pre)
  unfold Device.diagWriteResult
  split
  · exact shown
  · exact shown.and (Device.faultPath_put _ (F.DIAG_n_RDC_RDC n) _ rdc)

theorem Device.faultPath_diagHolds (r : DiagRun) : Device.faultPath 0 d (d.diagHolds r) := by
  refine Device.faultPath_foldl _ (fun d p => ?_) _ d
  split
  · exact .refl d
  · split
    · exact Device.faultPath_put d _ _ (by decide)
    · split
      · exact Device.faultPath_put d _ _ (by decide)
      · exact .refl d

/-- The end of a run logs its entry and raises DIAG_DONE, and DIAG_FAULT when a channel failed (R382). -/
theorem Device.faultPath_diagEnd (r : DiagRun) (aborted : Bool) : Device.faultPath 4 d (d.diagEnd r aborted) := by
  have shown : ∀ (l : List (DiagResult × Nat)) (d : Device), Device.faultPath 0 d (l.foldl
      (fun d p => if (r.mask / 2 ^ p.2) % 2 == 1 then d.diagWriteResult (p.2 + 1) p.1 else d) d) :=
    Device.faultPath_foldl _ fun d p => .ite (d.faultPath_diagWriteResult _ _) (.refl d)
  have flagged : ∀ (e : Device) (b c : Bool), Device.faultPath 0 e
      (if b then e.setFlag F.DIAG_EVT_ABORTED true
       else if c then e.setFlag F.DIAG_EVT_SWEEP_DONE true else e.setFlag F.DIAG_EVT_PRE_DONE true) := fun e b c =>
    .ite (e.faultPath_put _ _ (by decide)) (.ite (e.faultPath_put _ _ (by decide)) (e.faultPath_put _ _ (by decide)))
  have last : ∀ (e : Device) (p : Bool), Device.faultPath 2 e (if p then e else e.raise 42 0) := fun e p =>
    .ite ((Device.faultPath.refl e).mono (by decide)) (e.faultPath_raise (.inr rfl) 0 [])
  unfold Device.diagEnd
  refine Device.faultPath.trans (j := 2) ?_ (last _ _)
  refine Device.faultPath.trans (j := 1) ?_ (Device.faultPath_fire _ (.inl rfl))
  refine Device.faultPath.trans (j := 0) ?_ (Device.faultPath_log _ _ _ _ _)
  refine Device.faultPath.and ?_ (flagged _ _ _)
  refine Device.faultPath.and ?_ (Device.faultPath_put _ _ _ (by decide))
  refine Device.faultPath.and ?_ (Device.faultPath_put _ _ _ (by decide))
  exact ((shown _ d).and (Device.faultPath_diagHolds _ r)).and (Device.faultPath_with _ _ _ _ _)

theorem Device.faultPath_diagAbort : Device.faultPath 4 d d.diagAbort := by
  unfold Device.diagAbort
  split
  · exact (Device.faultPath.refl d).mono (by decide)
  · exact d.faultPath_diagEnd _ _

theorem Device.faultPath_setDrive (m : Drive) : Device.faultPath 0 d (d.setDrive m) :=
  d.faultPath_with _ _ _ _

theorem Device.faultPath_finishRequest (result reason : Nat) :
    Device.faultPath 0 d (d.finishRequest result reason) := by
  unfold Device.finishRequest
  exact .ite ((d.faultPath_put _ _ (by decide)).and (Device.faultPath_put _ _ _ (by decide))) (.refl d)

theorem Device.faultPath_openMain : Device.faultPath 0 d d.openMain :=
  (d.faultPath_with _ _ _ _).and (Device.faultPath_put _ _ _ (by decide))

theorem Device.faultPath_endClose : Device.faultPath 0 d d.endClose := by
  unfold Device.endClose
  exact .ite ((d.faultPath_with _ _ _ _).and (Device.faultPath_put _ _ _ (by decide))) (.refl d)

theorem Device.faultPath_abandon (reason : Nat) : Device.faultPath 0 d (d.abandon reason) := by
  have refused : Device.faultPath 0 d (if d.pwr.busy == .none then d else d.finishRequest 3 reason) :=
    .ite (.refl d) (d.faultPath_finishRequest 3 reason)
  have supplied : ∀ (e : Device) (p : Bool) (x : Pwr), Device.faultPath 0 e (if p then { e with pwr := x } else e) :=
    fun e p x => .ite (e.faultPath_with _ _ _ _) (.refl e)
  exact (refused.and (supplied _ _ _)).and (Device.faultPath_with _ _ _ _ _)

theorem Device.faultPath_faultOpensMain (bit : Nat) : Device.faultPath 0 d (d.faultOpensMain bit) := by
  unfold Device.faultOpensMain
  refine .ite ?_ (.refl d)
  exact .ite (d.faultPath_openMain.and (Device.faultPath_finishRequest _ 3 3)) d.faultPath_openMain

theorem Device.faultPath_enterSafe (reason : Nat) : Device.faultPath 1 d (d.enterSafe reason) := by
  unfold Device.enterSafe
  refine Device.faultPath.trans (j := 0) ?_ (Device.faultPath_log _ _ _ _ _)
  refine Device.faultPath.and ?_ (Device.faultPath_with _ _ _ _ _)
  refine Device.faultPath.and ?_ (Device.faultPath_setDrive _ _)
  refine Device.faultPath.and ?_ (Device.faultPath_put _ _ _ (by decide))
  refine Device.faultPath.and ?_ (Device.faultPath_put _ _ _ (by decide))
  exact (d.faultPath_abandon reason).and (Device.faultPath_put _ _ _ (by decide))

/-- The device with a bit of PWR_FAULT set. -/
def Device.withFault (d : Device) (bit : Nat) : Device :=
  d.setWord R.PWR_FAULT (d.word R.PWR_FAULT ||| BitVec.ofNat 32 (2 ^ bit))

/-- A bit of PWR_FAULT is set, and those that were set stay. -/
theorem Device.faultPath_withFault (bit : Nat) : Device.faultPath 0 d (d.withFault bit) :=
  ⟨rfl, rfl, fun c => by cases c <;> rfl, fun _ _ _ => rfl,
    fun b hb => by rw [Device.withFault, Device.word_setWord_same, BitVec.getLsbD_or, hb, Bool.true_or],
    Device.logsAtMost_of_sed rfl⟩

/-- What a latched fault does of the power sequence: SAFE from a running state, else what was under way ends (R227). -/
theorem Device.faultPath_faultStops (why : Nat) (running wasSafe : Bool) : Device.faultPath 5 d
    (if running && !wasSafe then (d.enterSafe why).diagAbort
      else if d.playEntering then (((d.endClose.abandon why).put F.PWR_STAT_PHASE 0).setDrive .safe).diagAbort
      else if running then d.diagAbort
      else (d.setDrive .safe).diagAbort) := by
  have rest : ∀ e : Device, Device.faultPath 0 d e → Device.faultPath 5 d e.diagAbort := fun e h =>
    (h.trans (e.faultPath_diagAbort)).mono (by decide)
  refine .ite ((d.faultPath_enterSafe why).trans (Device.faultPath_diagAbort _))
    (.ite (rest _ ?_) (.ite (rest _ (.refl d)) ?_))
  · exact ((d.faultPath_endClose.and (Device.faultPath_abandon _ why)).and (Device.faultPath_put _ _ _ (by decide))).and
      (Device.faultPath_setDrive _ _)
  · exact rest _ (d.faultPath_setDrive _)

variable {entry : Device → Device} (he : ∀ d, Device.faultPath 1 d (entry d)) (bit : Nat)
include he

theorem Device.faultPath_latched (h : (d.word R.PWR_FAULT).toNat.testBit bit = false) :
    Device.faultPath 6 (d.withFault bit) (d.latchFault bit entry) := by
  have first : ∀ (e : Device) (p : Bool), Device.faultPath 0 e (if p then e else e.put F.PWR_FAULT_FIRST_BIT bit) :=
    fun e p => .ite (.refl e) (e.faultPath_put _ _ (by decide))
  unfold Device.latchFault
  rw [if_neg (by rw [h]; exact Bool.false_ne_true)]
  refine Device.faultPath.trans (j := 1) ?_ (Device.faultPath_faultStops _ _ _ _)
  refine Device.faultPath.and ?_ (Device.faultPath_faultOpensMain _ _)
  exact (first _ _).trans (he _)

theorem Device.faultPath_latchFault : Device.faultPath 6 d (d.latchFault bit entry) := by
  cases h : (d.word R.PWR_FAULT).toNat.testBit bit with
  | true =>
    unfold Device.latchFault
    rw [if_pos h]
    exact (he d).mono (by decide)
  | false => exact (d.faultPath_withFault bit).trans (d.faultPath_latched he bit h)

/-- A fault that has latched is set (R227). -/
theorem Device.latchFault_set (hb : bit < 32) : ((d.latchFault bit entry).word R.PWR_FAULT).getLsbD bit = true := by
  cases h : (d.word R.PWR_FAULT).toNat.testBit bit with
  | true => exact (d.faultPath_latchFault he bit).latched bit h
  | false =>
    refine (d.faultPath_latched he bit h).latched bit ?_
    rw [Device.withFault, Device.word_setWord_same, BitVec.getLsbD_or, BitVec.getLsbD_ofNat, Nat.testBit_two_pow_self]
    simp [hb]

omit he

theorem Device.faultPath_systemFault : Device.faultPath 6 d (d.systemFault bit) := by
  unfold Device.systemFault
  split
  · exact (Device.faultPath.refl d).mono (by decide)
  · have set : ∀ w, Device.faultPath 0 d (d.setWord R.SED_SYSFAULT w) := fun w =>
      ⟨rfl, rfl, fun c => by cases c <;> rfl, fun _ _ _ => rfl,
        fun b hb => by rwa [Device.word_setWord_ne _ _ (by decide)], Device.logsAtMost_of_sed rfl⟩
    exact (set _).trans (Device.faultPath_latchFault _ (fun d => d.faultPath_log 155 4 bit []) 10)

end Sys2Proof.Machine
end

section
/-! PROOFS. The scrubber (O22). -/

namespace Sys2Proof.Machine

/-! ### A word that is struck -/

/-- The error that a word holds once it has been struck (R58, R59). -/
def EccErr.after (u : Upset) (x : Option EccErr) : Option EccErr :=
  match u, x with
  | .bit n, none => some (.bit n)
  | .bit _, some _ => some .multi
  | .multi, _ => some .multi
  | _, x => x

/-- The device with other errors in its memories. -/
def Device.withEcc (d : Device) (ecc : List (Nat × EccErr)) : Device := { d with ecc := ecc }

theorem Device.withEcc_steady (d : Device) (ecc : List (Nat × EccErr)) : d.steady (d.withEcc ecc) :=
  ⟨rfl, rfl, rfl, rfl, rfl⟩

/-- A word of SRAM that is struck changes its own error alone. -/
theorem Device.strike_sram (d : Device) {a : Nat} (u : Upset) (h : isSram a = true) :
    ∃ ecc, d.strike a u = d.withEcc ecc ∧ ecc.lookup (wordAddr a) = EccErr.after u (d.eccAt a) ∧
      (EccErr.after u (d.eccAt a) = none → d.strike a u = d) := by
  unfold Device.strike
  rw [if_pos h]
  cases u with
  | none => exact ⟨d.ecc, rfl, rfl, fun _ => rfl⟩
  | nvsBit n => exact ⟨d.ecc, rfl, rfl, fun _ => rfl⟩
  | multi => exact ⟨_, rfl, by simp [EccErr.after], fun h => by simp [EccErr.after] at h⟩
  | bit n =>
    cases he : d.eccAt a with
    | none => exact ⟨_, rfl, by simp [EccErr.after], fun h => by simp [EccErr.after] at h⟩
    | some x => exact ⟨_, rfl, by simp [EccErr.after], fun h => by simp [EccErr.after] at h⟩

theorem Device.scrub_sram {d : Device} {a : Nat} (u : Upset) (runs : d.coreRuns = true) (h : isSram a = true) :
    d.scrub a u = ((d.strike a u).readChecked a).2 := by
  unfold Device.scrub
  rw [runs, h]
  rfl

/-! ### What the scrubber finds -/

variable {d : Device} {a : Nat} {u : Upset} (runs : d.coreRuns = true) (h : isSram a = true)
include runs h

theorem Device.scrub_good (good : EccErr.after u (d.eccAt a) = none) : d.scrub a u = d := by
  obtain ⟨ecc, -, -, same⟩ := d.strike_sram u h
  have none' : d.eccAt a = none := by
    cases u <;> cases he : d.eccAt a <;> simp_all [EccErr.after]
  rw [Device.scrub_sram u runs h, same good, Device.readChecked, none']

/-- One wrong bit is corrected (R58). -/
theorem Device.scrub_bit {n : Fin 39} (bit : EccErr.after u (d.eccAt a) = some (.bit n)) :
    ∃ ecc, ecc.lookup (wordAddr a) = none ∧
      d.scrub a u = (d.withEcc ecc).raise 12 0 (leBytes 4 (wordAddr a) ++ leBytes 1 n.val) := by
  obtain ⟨ecc, struck, found, -⟩ := d.strike_sram u h
  have at' : (d.withEcc ecc).eccAt a = some (.bit n) := found.trans bit
  refine ⟨ecc.filter fun e => e.1 != wordAddr a, ?_, ?_⟩
  · rw [List.lookup_eq_none_iff]
    intro p hp
    have other : p.1 ≠ wordAddr a := bne_iff_ne.1 (List.mem_filter.1 hp).2
    exact bne_iff_ne.2 other.symm
  · rw [Device.scrub_sram u runs h, struck, Device.readChecked, at']
    rfl

/-- More wrong bits stay and are reported (R59). -/
theorem Device.scrub_multi (multi : EccErr.after u (d.eccAt a) = some .multi) :
    ∃ ecc, ecc.lookup (wordAddr a) = some .multi ∧ d.scrub a u = (d.withEcc ecc).eccUncorr (wordAddr a) := by
  obtain ⟨ecc, struck, found, -⟩ := d.strike_sram u h
  have at' : (d.withEcc ecc).eccAt a = some .multi := found.trans multi
  refine ⟨ecc, found.trans multi, ?_⟩
  rw [Device.scrub_sram u runs h, struck, Device.readChecked, at']

omit runs h

/-! ### The report of an uncorrectable error -/

theorem Device.eccUncorr_follows (d : Device) (a : Nat) :
    ∃ x : Sed, x.wq = (d.raise 13 0 (leBytes 4 a)).sed.wq ∧ x.gap = (d.raise 13 0 (leBytes 4 a)).sed.gap ∧
      Device.faultPath 6 { d.raise 13 0 (leBytes 4 a) with sed := x } (d.eccUncorr a) := by
  unfold Device.eccUncorr
  refine ⟨_, ?_, ?_, .ite (Device.faultPath_systemFault _ 1) ((Device.faultPath.refl _).mono (by decide))⟩
  · rfl
  · rfl

/-- An uncorrectable error leaves the memories, fires ECC_UNCORR and is logged (R59). -/
theorem Device.eccUncorr_reports (d : Device) (a : Nat) : (d.eccUncorr a).mem = d.mem ∧ (d.eccUncorr a).ecc = d.ecc ∧
    d.fired (d.eccUncorr a) 13 ∧ d.logged (d.eccUncorr a) [d.entry 13 2 0 (leBytes 4 a)] := by
  obtain ⟨x, queue, gap, path⟩ := d.eccUncorr_follows a
  refine ⟨path.mem.trans (d.raise_mem ..), path.ecc.trans (d.raise_ecc ..), fun armed idle => ?_, fun hg hq => ?_⟩
  · rw [path.source 13 (by decide) (by decide)]
    exact d.fired_raise 13 (by decide) (by decide) 0 (leBytes 4 a) armed idle
  · have room : d.sed.wq.length + 9 ≤ logQueueCap := hq
    obtain ⟨gap', grown, len, queue'⟩ := d.raise_logsAtMost 13 0 (leBytes 4 a) hg (by omega)
    obtain ⟨more, first, sub⟩ := d.raise_logged 13 0 (leBytes 4 a) (by decide) (by simp [length_leBytes]) hg hq
    have free : x.wq.length + 6 ≤ logQueueCap := by
      rw [queue, queue', length_foldl_placeEntry]
      omega
    obtain ⟨-, rest, -, last⟩ := path.log (gap.trans gap') free
    refine ⟨more ++ rest, ?_, sub.trans (List.sublist_append_left _ _)⟩
    rw [last, List.foldl_append, ← first, ← queue]

/-- Settles O22: by the error that the word holds once it has been struck. -/
theorem scrubber : Obligations.Scrubber := by
  unfold Obligations.Scrubber
  intro s a u runs sram d word met
  have hmet : met = EccErr.after u (s.dev.eccAt a.toNat) := by
    dsimp only [met, d]
    generalize s.dev.eccAt a.toNat = x
    cases u <;> cases x <;> rfl
  clear_value met
  subst hmet
  refine State.on_completes (f := fun d => d.scrub a.toNat u) rfl ?_
  cases found : EccErr.after u (s.dev.eccAt a.toNat) with
  | none =>
    rw [Device.scrub_good runs sram found]
    exact ⟨rfl, fun _ => rfl, nofun, nofun⟩
  | some x =>
    cases x with
    | bit n =>
      obtain ⟨ecc, free, run⟩ := Device.scrub_bit runs sram found
      have steady := s.dev.withEcc_steady ecc
      rw [run]
      refine ⟨Device.raise_mem .., nofun, fun k hk => ?_, nofun⟩
      obtain rfl : n = k := by injection hk with hk; injection hk
      refine ⟨?_, steady.fired_raise 12 (by decide) (by decide) _ _,
        steady.logged_raise (Device.logsOne_of_sed rfl) 12 0 _ (by decide) (by simp [length_leBytes])⟩
      rw [Device.eccAt, Device.raise_ecc]
      exact free
    | multi =>
      obtain ⟨ecc, still, run⟩ := Device.scrub_multi runs sram found
      obtain ⟨mem, kept, fired, logged⟩ := (s.dev.withEcc ecc).eccUncorr_reports (wordAddr a.toNat)
      rw [run]
      refine ⟨mem, nofun, nofun, fun _ => ⟨?_, fired, logged⟩⟩
      rw [Device.eccAt, kept]
      exact still

end Sys2Proof.Machine
end

section
/-! PROOFS. Exceptions, stream faults and events at a core (O13). -/

namespace Sys2Proof.Machine

/-! ### The core that takes an exception -/

theorem Device.cget_core (d : Device) (c : CoreId) (f : Fld) : d.cget c f = (d.core c).st.get f := rfl

theorem Device.cput_core (d : Device) (c : CoreId) (f : Fld) (v : Nat) :
    (d.cput c f v).core c = { d.core c with st := (d.core c).st.put f v } := Device.core_setCore ..

theorem Device.setPc_core (d : Device) (c : CoreId) (a : Word) : (d.setPc c a).core c = { d.core c with pc := a } :=
  Device.core_setCore ..

theorem Device.setRun_core (d : Device) (c : CoreId) (r : CoreRun) :
    (d.setRun c r).core c = { d.core c with run := r } :=
  Device.core_setCore ..

/-- The core with an exception recorded (R46). -/
def Core.recorded (k : Core) (code : Nat) (store : Bool) (eval epc : Word) : Core :=
  { k with st := (((k.st.put F.ST_EPC_EPC (epc.toNat / 4)).put F.ST_CAUSE_CODE code).put F.ST_CAUSE_STORE
      store.toNat).put F.ST_EVAL_EVAL eval.toNat }

/-- The core at PRIV, its level and IE saved, at the start of the handler (R46). -/
def Core.handling (k : Core) (code : Nat) : Core :=
  { k with
    pc := BitVec.ofNat 32 (k.st.get F.ST_VECBASE_BASE * 1024 + 64 * code)
    st := ((((k.st.put F.ST_STATUS_PIE (k.st.get F.ST_STATUS_IE)).put F.ST_STATUS_PPRIV
      (k.st.get F.ST_STATUS_PRIV)).put F.ST_STATUS_IE 0).put F.ST_STATUS_PRIV 1).put F.ST_STATUS_EXL 1 }

theorem Device.recordException_core (d : Device) (c : CoreId) (code : Nat) (store : Bool) (eval epc : Word) :
    (d.recordException c code store eval epc).core c = (d.core c).recorded code store eval epc := by
  unfold Device.recordException Core.recorded
  simp only [Device.cput_core]

theorem Device.takeException_core {d : Device} {c : CoreId} (exl : d.cget c F.ST_STATUS_EXL = 0) (code : Nat)
    (store : Bool) (eval epc : Word) :
    (d.takeException c code store eval epc).core c = ((d.core c).recorded code store eval epc).handling code := by
  unfold Device.takeException Core.handling
  simp only [exl, Nat.reduceBEq, Bool.false_eq_true, if_false]
  simp (disch := decide) only [Device.setPc_core, Device.cput_core, Device.cget_core, Device.recordException_core,
    RegMap.get_put_apart]

theorem word_toNat_div_mul {w : Word} (h : w % 4 = 0) : w.toNat / 4 * 4 = w.toNat := by
  have : w.toNat % 4 = 0 := by simpa using congrArg BitVec.toNat h
  omega

theorem word_add_four_mod {w : Word} (h : w % 4 = 0) : (w + 4) % 4 = 0 := by
  have aligned : w.toNat % 4 = 0 := by simpa using congrArg BitVec.toNat h
  apply BitVec.eq_of_toNat_eq
  change (w.toNat + 4) % 2 ^ 32 % 4 = 0
  omega

/-- What a core shows that has taken an exception from `k` (R46). -/
structure Core.took (k e : Core) (code : Nat) (epc : Word) : Prop where
  at_ : e.st.get F.ST_EPC_EPC * 4 = epc.toNat
  cause : e.st.get F.ST_CAUSE_CODE = code
  store : e.st.get F.ST_CAUSE_STORE = 0
  eval : e.st.get F.ST_EVAL_EVAL = 0
  pie : e.st.get F.ST_STATUS_PIE = k.st.get F.ST_STATUS_IE
  ppriv : e.st.get F.ST_STATUS_PPRIV = k.st.get F.ST_STATUS_PRIV
  ie : e.st.get F.ST_STATUS_IE = 0
  priv : e.st.get F.ST_STATUS_PRIV = 1
  exl : e.st.get F.ST_STATUS_EXL = 1
  pc : e.pc = BitVec.ofNat 32 (k.st.get F.ST_VECBASE_BASE * 1024 + 64 * code)

theorem Core.recorded_shows (k : Core) {code : Nat} {epc : Word} (hc : code < 64) (he : epc % 4 = 0) :
    (k.recorded code false 0 epc).st.get F.ST_EPC_EPC * 4 = epc.toNat ∧
      (k.recorded code false 0 epc).st.get F.ST_CAUSE_CODE = code ∧
      (k.recorded code false 0 epc).st.get F.ST_CAUSE_STORE = 0 ∧
      (k.recorded code false 0 epc).st.get F.ST_EVAL_EVAL = 0 := by
  have small : epc.toNat / 4 < 2 ^ 30 := by omega
  simp (disch := decide) only [Core.recorded, RegMap.get_put_apart, RegMap.get_put_same]
  exact ⟨(congrArg (· * 4) (Nat.mod_eq_of_lt small)).trans (word_toNat_div_mul he), Nat.mod_eq_of_lt hc, rfl, rfl⟩

theorem Core.handling_took (k : Core) {code : Nat} {epc : Word} (hc : code < 64) (he : epc % 4 = 0) :
    k.took ((k.recorded code false 0 epc).handling code) code epc := by
  obtain ⟨at_, cause, store, eval⟩ := k.recorded_shows hc he
  have own : ∀ f : Fld, F.ST_EPC_EPC.apart f = true → F.ST_CAUSE_CODE.apart f = true → F.ST_CAUSE_STORE.apart f = true →
      F.ST_EVAL_EVAL.apart f = true → (k.recorded code false 0 epc).st.get f = k.st.get f := by
    intro f h1 h2 h3 h4
    simp (disch := decide) only [Core.recorded, RegMap.get_put_apart _ _ _ _ _ h4, RegMap.get_put_apart _ _ _ _ _ h3,
      RegMap.get_put_apart _ _ _ _ _ h2, RegMap.get_put_apart _ _ _ _ _ h1]
  constructor <;> simp (disch := decide) only [Core.handling, RegMap.get_put_apart, RegMap.get_put_same, own]
  case at_ => exact at_
  case cause => exact cause
  case store => exact store
  case eval => exact eval
  case pie => exact Nat.mod_eq_of_lt (RegMap.get_lt _ _)
  case ppriv => exact Nat.mod_eq_of_lt (RegMap.get_lt _ _)
  all_goals rfl

theorem Core.handling_keeps (k : Core) (code : Nat) (store : Bool) (eval epc : Word) :
    ((k.recorded code store eval epc).handling code).w = k.w ∧
      ((k.recorded code store eval epc).handling code).acc = k.acc ∧
      ((k.recorded code store eval epc).handling code).buf = k.buf := ⟨rfl, rfl, rfl⟩

/-! ### TRAP and UNDEF on C0 and C1 -/

theorem Device.fetched_cget {d : Device} {c : CoreId} {k : InsnClass} (h : d.ready c k) (f : Fld) :
    (d.fetched c).cget c f = d.cget c f := by
  obtain ⟨-, -, -, fetch, -⟩ := h
  exact Device.cget_congr (d.fetched_core c c fetch) f

theorem Device.fetched_self {d : Device} {c : CoreId} {k : InsnClass} (h : d.ready c k) :
    (d.fetched c).core c = d.core c := by
  obtain ⟨-, -, -, fetch, -⟩ := h
  exact d.fetched_core c c fetch

theorem Device.coreFault_control {d : Device} {c : CoreId} (hc : c ≠ .s) (f : CoreFault) : d.coreFault c f =
    d.takeException c f.code f.isStore f.addr (if f == .trap then (d.core c).pc + 4 else (d.core c).pc) := by
  cases c with
  | c0 => rfl
  | c1 => rfl
  | s => exact absurd rfl hc

theorem State.on_congr {s : State} {f g : Device → Device} (h : f s.dev = g s.dev) : s.on f = s.on g := by
  rw [State.on, h, State.on]

theorem exec_trap_ready {s : State} {c : CoreId} (code : BitVec 20) (h : s.dev.ready c .all) :
    exec (.trap c code) s = s.on fun d => (d.fetched c).coreFault c .trap :=
  State.on_congr (f := fun d => d.issue c .all false fun d => .stop d .trap)
    (g := fun d => (d.fetched c).coreFault c .trap) (Device.issue_ready _ h)

theorem exec_undef_ready {s : State} {c : CoreId} (h : s.dev.ready c .all) :
    exec (.undefInstruction c) s = s.on fun d => (d.fetched c).coreFault c .undef :=
  State.on_congr (f := fun d => d.issue c .all true fun d => .gone d)
    (g := fun d => (d.fetched c).coreFault c .undef) (Device.issue_reserved _ h)

/-- The core after an exception without a store and an address, from a device whose core is `k` (R46). -/
theorem Device.took_takeException {d : Device} {c : CoreId} (exl : d.cget c F.ST_STATUS_EXL = 0) {code : Nat}
    {epc : Word} (hc : code < 64) (he : epc % 4 = 0) : (d.core c).took ((d.takeException c code false 0 epc).core c) code epc := by
  rw [Device.takeException_core exl]
  exact Core.handling_took _ hc he

/-- TRAP or UNDEF on C0 or C1 (R46, R92, R108). -/
theorem Device.coreFault_takes {d : Device} {c : CoreId} {k : InsnClass} (hc : c ≠ .s) (h : d.ready c k)
    (exl : d.cget c F.ST_STATUS_EXL = 0) {f : CoreFault} (hf : f = .trap ∨ f = .undef) {epc : Word}
    (he : epc = if f == .trap then (d.core c).pc + 4 else (d.core c).pc) (aligned : epc % 4 = 0) :
    (d.core c).took (((d.fetched c).coreFault c f).core c) f.code epc ∧
      (((d.fetched c).coreFault c f).core c).w = (d.core c).w ∧
      (((d.fetched c).coreFault c f).core c).acc = (d.core c).acc ∧
      (((d.fetched c).coreFault c f).core c).buf = (d.core c).buf := by
  have self := Device.fetched_self h
  have plain : f.isStore = false ∧ f.addr = 0 ∧ f.code < 64 := by
    rcases hf with rfl | rfl <;> exact ⟨rfl, rfl, by decide⟩
  obtain ⟨store, eval, small⟩ := plain
  rw [Device.coreFault_control hc, store, eval, self, ← he,
    Device.takeException_core ((Device.fetched_cget h _).trans exl), self]
  exact ⟨Core.handling_took _ small aligned, Core.handling_keeps _ _ _ _ _⟩

/-! ### Stream faults -/

theorem Device.streamFault_muted (d : Device) (code : Nat) (pc addr : Word) :
    (d.streamFault code pc addr).stream.muted = true := by
  unfold Device.streamFault
  rw [Device.semBreakAll_stream, Device.raise_stream]

/-- TRAP or UNDEF on S (R67). -/
theorem Device.coreFault_stream {d : Device} {k : InsnClass} (h : d.ready .s k) {f : CoreFault}
    (hf : f = .trap ∨ f = .undef) :
    let e := (d.fetched .s).coreFault .s f
    e.cget .s F.ST_SFLT_CAUSE = f.streamCode ∧ e.cget .s F.ST_SFPC_PC = (d.core .s).pc.toNat ∧
      e.cget .s F.ST_SFADDR_ADDR = 0 ∧ e.cget .s F.ST_FLTCNT_COUNT = min (d.cget .s F.ST_FLTCNT_COUNT + 1) 255 ∧
      e.cget .s F.ST_SSTATE_STATE = 3 ∧ (e.core .s).pc = (d.core .s).pc ∧ e.stream.muted = true := by
  have self : (d.fetched .s).sc = d.sc := Device.fetched_self h
  have addr : f.addr = 0 ∧ f.streamCode < 64 := by
    rcases hf with rfl | rfl <;> exact ⟨rfl, by decide⟩
  obtain ⟨eval, small⟩ := addr
  dsimp only [Device.coreFault]
  simp (disch := decide) only [Device.core_s, Device.cget_sc, Device.streamFault_sc, self, eval, RegMap.get_put_apart,
    RegMap.get_put_same]
  refine ⟨Nat.mod_eq_of_lt small, Nat.mod_eq_of_lt (BitVec.isLt _), rfl,
    Nat.mod_eq_of_lt (lt_of_le_of_lt (min_le_right _ _) (by decide)), rfl, trivial, Device.streamFault_muted _ _ _ _⟩

/-! ### The exception in an exception -/

theorem Device.foldl_keeps {α β : Type} (g : Device → β) (f : Device → α → Device) (h : ∀ d x, g (f d x) = g d) :
    ∀ (l : List α) (d : Device), g (l.foldl f d) = g d
  | [], _ => rfl
  | x :: t, d => (Device.foldl_keeps g f h t (f d x)).trans (h d x)

/-- A core and the latched faults, which a halt leaves alone once it has made its own (R50). -/
def Device.coreAndFaults (d : Device) (c : CoreId) : Core × Word := (d.core c, d.word R.PWR_FAULT)

section Halt

variable (d : Device) (c e : CoreId)

theorem Device.setSource_coreAndFaults (n : Fin 128) (x : EvSource) :
    (d.setSource n x).coreAndFaults e = d.coreAndFaults e := by
  cases e <;> rfl

theorem Device.log_coreAndFaults (n sev detail : Nat) (data : List Byte) :
    (d.log n sev detail data).coreAndFaults e = d.coreAndFaults e := by
  rw [Device.coreAndFaults, Device.log_core, (Device.log_noted _ _ _ _ _).word (by decide), Device.coreAndFaults]

theorem Device.put_coreAndFaults (f : Fld) (v : Nat) (h : R.PWR_FAULT ≠ f.addr) :
    (d.put f v).coreAndFaults e = d.coreAndFaults e := by
  rw [Device.coreAndFaults, Device.put_core, Device.word_put_ne _ _ _ h, Device.coreAndFaults]

theorem Device.returnEvents_coreAndFaults : (d.returnEvents c).coreAndFaults e = d.coreAndFaults e := by
  unfold Device.returnEvents
  refine Device.foldl_keeps (·.coreAndFaults e) _ (fun d n => ?_) _ d
  dsimp only
  generalize (if c == .c0 then (0 : Fin 4) else 1) = x
  split
  · exact (Device.log_coreAndFaults ..).trans (Device.setSource_coreAndFaults ..)
  · exact Device.setSource_coreAndFaults ..

theorem Device.weir_coreAndFaults (record : List (Nat × Nat)) (age : List (Nat × Nat)) :
    ({ d with weirRecord := record, weirAge := age } : Device).coreAndFaults e = d.coreAndFaults e := by
  cases e <;> rfl

theorem Device.taskReady_coreAndFaults (t : Nat) : (d.taskReady t).coreAndFaults e = d.coreAndFaults e := by
  have other : R.PWR_FAULT ≠ R.WEIR_STAT_t t := by unfold R.PWR_FAULT R.WEIR_STAT_t; omega
  unfold Device.taskReady
  refine (Device.weir_coreAndFaults _ e _ _).trans <| (Device.put_coreAndFaults _ e _ _ other).trans <|
    (Device.put_coreAndFaults _ e _ _ other).trans <| (Device.put_coreAndFaults _ e _ _ other).trans <|
    (Device.put_coreAndFaults _ e _ _ other).trans <| Device.put_coreAndFaults _ e _ _ other

theorem Device.taskIdle_coreAndFaults (t : Nat) : (d.taskIdle t).coreAndFaults e = d.coreAndFaults e := by
  have other : R.PWR_FAULT ≠ R.WEIR_STAT_t t := by unfold R.PWR_FAULT R.WEIR_STAT_t; omega
  unfold Device.taskIdle
  refine (Device.weir_coreAndFaults _ e _ _).trans <| (Device.put_coreAndFaults _ e _ _ other).trans <|
    (Device.put_coreAndFaults _ e _ _ other).trans <| (Device.put_coreAndFaults _ e _ _ other).trans <|
    Device.put_coreAndFaults _ e _ _ other

theorem Device.fire_coreAndFaults (n : Nat) : (d.fire n).coreAndFaults e = d.coreAndFaults e := by
  rw [Device.coreAndFaults, Device.fire_core, (Device.fire_noted _ _).word (by decide), Device.coreAndFaults]

theorem Device.abandonTask_coreAndFaults : (d.abandonTask c).coreAndFaults e = d.coreAndFaults e := by
  have held : R.PWR_FAULT ≠ R.WEIR_COREc c.weir := by unfold R.PWR_FAULT R.WEIR_COREc; omega
  have marked : ∀ n, R.PWR_FAULT ≠ R.WEIR_ABANDONi n := fun n => by unfold R.PWR_FAULT R.WEIR_ABANDONi; omega
  have left : ∀ (d : Device) (again : Bool) (t : Nat),
      (if again then d.taskReady t else d.taskIdle t).coreAndFaults e = d.coreAndFaults e := fun d again t => by
    split
    · exact d.taskReady_coreAndFaults e t
    · exact d.taskIdle_coreAndFaults e t
  have told : ∀ (d : Device) (p : Bool), (if p then d.fire 68 else d).coreAndFaults e = d.coreAndFaults e := by
    intro d p
    split
    · exact d.fire_coreAndFaults e 68
    · rfl
  unfold Device.abandonTask
  dsimp only
  split
  · exact (told _ _).trans <| (Device.log_coreAndFaults ..).trans <|
      (Device.put_coreAndFaults _ e _ _ (marked _)).trans <| (left _ _ _).trans <| Device.put_coreAndFaults _ e _ _ held
  · rfl

theorem Device.semBreakAll_coreAndFaults : (d.semBreakAll c).coreAndFaults e = d.coreAndFaults e := by
  have other : ∀ n < 32, R.PWR_FAULT ≠ R.SEM_n n := fun n _ => by unfold R.PWR_FAULT R.SEM_n; omega
  rw [Device.coreAndFaults, Device.semBreakAll_core, Device.semBreakAll_word _ _ (by decide) other (by decide),
    Device.coreAndFaults]

end Halt

theorem Device.faultPath_powerFault (d : Device) (bit : Nat) (data : List Byte) :
    Device.faultPath 6 d (d.powerFault bit data) := by
  unfold Device.powerFault
  dsimp only
  split
  · exact (Device.faultPath.refl d).mono (by decide)
  · exact d.faultPath_latchFault (fun d => d.faultPath_log 131 4 bit data) bit

/-- A power fault is set once it is reported (R227). -/
theorem Device.powerFault_set (d : Device) {bit : Nat} (data : List Byte) (hb : bit < 32) :
    ((d.powerFault bit data).word R.PWR_FAULT).getLsbD bit = true := by
  unfold Device.powerFault
  dsimp only
  split
  · rename_i h
    exact (Bool.and_eq_true_iff.1 h).1
  · exact d.latchFault_set (fun d => d.faultPath_log 131 4 bit data) bit hb

/-- The core halts, and PWR_FAULT names it (R50). -/
theorem Device.haltCore_halts (d : Device) {c : CoreId} (hc : c ≠ .s) :
    (d.haltCore c).core c = { d.core c with run := .halted } ∧
      ((d.haltCore c).word R.PWR_FAULT).getLsbD (4 + c.num) = true := by
  have num : c.weir = c.num := by
    cases c with
    | c0 => rfl
    | c1 => rfl
    | s => exact absurd rfl hc
  have small : 4 + c.weir < 32 := by cases c <;> decide
  have rest : ∀ f : Device,
      (((f.semBreakAll c).returnEvents c).abandonTask c).coreAndFaults c = f.coreAndFaults c := fun f =>
    (Device.abandonTask_coreAndFaults ..).trans <| (Device.returnEvents_coreAndFaults ..).trans <|
      Device.semBreakAll_coreAndFaults ..
  have core : ∀ f : Device, (((f.semBreakAll c).returnEvents c).abandonTask c).core c = f.core c := fun f =>
    congrArg Prod.fst (rest f)
  have faults : ∀ f : Device,
      (((f.semBreakAll c).returnEvents c).abandonTask c).word R.PWR_FAULT = f.word R.PWR_FAULT := fun f =>
    congrArg Prod.snd (rest f)
  unfold Device.haltCore
  rw [core, faults, (Device.faultPath_powerFault _ _ _).core, Device.setRun_core, ← num]
  exact ⟨rfl, Device.powerFault_set _ _ small⟩

/-- An exception that comes while ST_STATUS.EXL = 1 is recorded, and the core halts (R50). -/
theorem Device.takeException_nested {d : Device} {c : CoreId} (hc : c ≠ .s) (exl : d.cget c F.ST_STATUS_EXL = 1)
    (code : Nat) (store : Bool) (eval epc : Word) :
    (d.takeException c code store eval epc).core c = { (d.core c).recorded code store eval epc with run := .halted } ∧
      ((d.takeException c code store eval epc).word R.PWR_FAULT).getLsbD (4 + c.num) = true := by
  obtain ⟨core, fault⟩ := (d.recordException c code store eval epc).haltCore_halts hc
  unfold Device.takeException
  simp only [exl, Nat.reduceBEq, if_true]
  rw [core, Device.recordException_core]
  exact ⟨rfl, fault⟩

theorem Core.recorded_status (k : Core) (code : Nat) (store : Bool) (eval epc : Word) :
    (k.recorded code store eval epc).st.word R.ST_STATUS = k.st.word R.ST_STATUS := by
  simp (disch := decide) only [Core.recorded, RegMap.word_put_ne]

/-! ### The event that is due -/

theorem exec_eventException_due {s : State} {c : CoreId} (runs : s.dev.executing c = true)
    (due : s.dev.eventDue c = true) :
    exec (.eventException c) s = s.on fun d => d.takeEvent c :=
  State.on_congr (f := fun d => if d.executing c && d.eventDue c then d.takeEvent c else d)
    (g := fun d => d.takeEvent c) (by simp only [runs, due, Bool.and_self, if_true])

theorem Device.takeEvent_took {d : Device} {c : CoreId} (exl : d.cget c F.ST_STATUS_EXL = 0)
    (aligned : (d.core c).pc % 4 = 0) : (d.core c).took ((d.takeEvent c).core c) 0x0B (d.core c).pc := by
  have core := d.setRun_core c .running
  have exl' : (d.setRun c .running).cget c F.ST_STATUS_EXL = 0 := by rw [Device.cget_core, core]; exact exl
  have took := Device.took_takeException exl' (code := 0x0B) (by decide) aligned
  rw [core] at took
  obtain ⟨a, b, e, f, g, h, i, j, k, l⟩ := took
  exact ⟨a, b, e, f, g, h, i, j, k, l⟩

/-- Settles O13: by what the core shows after the exception, the stream fault, the halt and the event. -/
theorem exceptionsAndEvents : Obligations.ExceptionsAndEvents := by
  unfold Obligations.ExceptionsAndEvents
  refine ⟨?_, ?_, ?_, ?_⟩
  · intro s c code hc ready exl aligned took
    have next : (s.pc c + 4) % 4 = 0 := word_add_four_mod aligned
    obtain ⟨⟨at_, cause, store, eval, pie, ppriv, ie, priv, exl', pc⟩, w, acc, buf⟩ :=
      Device.coreFault_takes hc ready exl (.inl rfl) rfl next
    obtain ⟨⟨at1, cause1, store1, eval1, pie1, ppriv1, ie1, priv1, exl1, pc1⟩, w1, acc1, buf1⟩ :=
      Device.coreFault_takes hc ready exl (.inr rfl) rfl aligned
    exact ⟨State.on_completes (exec_trap_ready code ready)
        ⟨at_, cause, store, eval, pie, ppriv, ie, priv, exl', pc, w, acc, buf⟩,
      State.on_completes (exec_undef_ready ready)
        ⟨at1, cause1, store1, eval1, pie1, ppriv1, ie1, priv1, exl1, pc1, w1, acc1, buf1⟩⟩
  · intro s code ready took
    exact ⟨State.on_completes (exec_trap_ready code ready) (Device.coreFault_stream ready (.inl rfl)),
      State.on_completes (exec_undef_ready ready) (Device.coreFault_stream ready (.inr rfl))⟩
  · intro s c hc ready exl aligned
    refine State.on_completes (exec_undef_ready ready) ?_
    obtain ⟨core, fault⟩ := Device.takeException_nested hc ((Device.fetched_cget ready _).trans exl) 1 false 0 (s.pc c)
    have run : (s.dev.fetched c).coreFault c .undef = (s.dev.fetched c).takeException c 1 false 0 (s.pc c) := by
      rw [Device.coreFault_control hc, Device.fetched_self ready]
      rfl
    obtain ⟨at_, cause, -, eval⟩ := Core.recorded_shows (s.dev.core c) (code := 1) (by decide) aligned
    rw [run]
    simp only [Device.cget_core, core, Device.fetched_self ready]
    exact ⟨at_, cause, eval, Core.recorded_status _ _ _ _ _, trivial, fault⟩
  · intro s c hc runs due exl aligned
    obtain ⟨at_, cause, -, eval, -, -, ie, priv, exl', pc⟩ := Device.takeEvent_took exl aligned
    exact State.on_completes (exec_eventException_due runs due) ⟨at_, cause, eval, ie, exl', priv, pc⟩

end Sys2Proof.Machine
end

section
/-! PROOFS. ERET, FENCE, WAIT and the wake (O14). -/

namespace Sys2Proof.Machine

/-- The core that has returned from an exception (R47). -/
def Core.returned (k : Core) : Core :=
  { k with
    pc := BitVec.ofNat 32 (k.st.get F.ST_EPC_EPC * 4)
    st := ((k.st.put F.ST_STATUS_IE (k.st.get F.ST_STATUS_PIE)).put F.ST_STATUS_PRIV
      (k.st.get F.ST_STATUS_PPRIV)).put F.ST_STATUS_EXL 0 }

theorem Device.returnException_core (d : Device) (c : CoreId) : (d.returnException c).core c = (d.core c).returned := by
  unfold Device.returnException Core.returned
  simp (disch := decide) only [Device.cput_core, Device.setPc_core, Device.cget_core, RegMap.get_put_apart]

theorem Core.returned_shows (k : Core) : k.returned.st.get F.ST_STATUS_IE = k.st.get F.ST_STATUS_PIE ∧
    k.returned.st.get F.ST_STATUS_PRIV = k.st.get F.ST_STATUS_PPRIV ∧ k.returned.st.get F.ST_STATUS_EXL = 0 := by
  simp (disch := decide) only [Core.returned, RegMap.get_put_apart, RegMap.get_put_same]
  exact ⟨Nat.mod_eq_of_lt (RegMap.get_lt _ _), Nat.mod_eq_of_lt (RegMap.get_lt _ _), rfl⟩

/-- ERET goes on at ST_EPC (R47). -/
theorem exec_eret_ready {s : State} {c : CoreId} (h : s.dev.ready c .control) : exec (.eret c) s = s.on fun d =>
    ((d.fetched c).returnException c).setPc c (BitVec.ofNat 32 ((d.fetched c).cget c F.ST_EPC_EPC * 4)) :=
  State.on_congr
    (f := fun d => d.issue c .control false fun d =>
      .jump (d.returnException c) (BitVec.ofNat 32 (d.cget c F.ST_EPC_EPC * 4)))
    (g := fun d => ((d.fetched c).returnException c).setPc c (BitVec.ofNat 32 ((d.fetched c).cget c F.ST_EPC_EPC * 4)))
    (Device.issue_ready _ h)

theorem eret_completes {s : State} {c : CoreId} (h : s.dev.ready c .control) : Completes (.eret c) s fun e =>
    (e.core c).pc = BitVec.ofNat 32 (s.dev.cget c F.ST_EPC_EPC * 4) ∧
    e.cget c F.ST_STATUS_IE = s.dev.cget c F.ST_STATUS_PIE ∧
    e.cget c F.ST_STATUS_PRIV = s.dev.cget c F.ST_STATUS_PPRIV ∧ e.cget c F.ST_STATUS_EXL = 0 ∧
    (e.core c).w = (s.dev.core c).w := by
  obtain ⟨ie, priv, exl⟩ := (s.dev.core c).returned_shows
  refine State.on_completes (exec_eret_ready h) ?_
  simp only [Device.cget_core, Device.setPc_core, Device.returnException_core, Device.fetched_self h]
  exact ⟨trivial, ie, priv, exl, rfl⟩

theorem Device.setCore_self (d : Device) (c : CoreId) : d.setCore c (d.core c) = d := by
  cases c <;> rfl

/-- An instruction that goes on and changes nothing. -/
theorem State.retire_unchanged {s : State} {c : CoreId} {k : InsnClass} {body : Device → Retire} (h : s.dev.ready c k)
    (hb : body (s.dev.fetched c) = .ok (s.dev.fetched c)) :
    s.on (fun d => d.issue c k false body) = .next (s.retire c (s.pc c + 4) id) :=
  State.retire_ok h (by rw [hb, id, ← Device.fetched_self h, Device.setCore_self]) rfl

/-- FENCE with nothing in the store buffer goes on (R108). -/
theorem exec_fence_empty {s : State} {c : CoreId} (h : s.dev.ready c .all) (runs : (s.dev.fetched c).executing c = true)
    (buf : (s.dev.core c).buf = []) : exec (.fence c) s = .next (s.retire c (s.pc c + 4) id) := by
  have empty : ((s.dev.fetched c).core c).buf = [] := by rw [Device.fetched_self h, buf]
  refine State.retire_unchanged (body := fun d => (d.drainStores c).after c .ok) h ?_
  rw [Device.drainStores_empty empty, Device.after, runs, if_pos rfl]

/-- What WAIT does once it is fetched (R109). -/
def waitBody (c : CoreId) (d : Device) : Retire :=
  if d.eventLine c then .ok d else .jump (d.setRun c .sleeping) ((d.core c).pc + 4)

theorem exec_wait (s : State) (c : CoreId) :
    exec (.wait c) s = s.on fun d => d.issue c .control false (waitBody c) := rfl

/-- WAIT without an event puts the core to sleep (R109). -/
theorem exec_wait_sleeps {s : State} {c : CoreId} (h : s.dev.ready c .control)
    (none' : (s.dev.fetched c).eventLine c = false) :
    exec (.wait c) s = .next (s.retire c (s.pc c + 4) fun k => { k with run := .sleeping }) := by
  rw [exec_wait, State.on, State.retire, Device.issue_ready (waitBody c) h, waitBody, none', if_neg Bool.false_ne_true]
  simp only [Retire.finish, Device.setPc, Device.setRun, Device.core_setCore, Device.setCore_setCore, State.pc,
    Device.fetched_self h]

/-- WAIT with an event goes on (R109). -/
theorem exec_wait_goesOn {s : State} {c : CoreId} (h : s.dev.ready c .control)
    (waits : (s.dev.fetched c).eventLine c = true) : exec (.wait c) s = .next (s.retire c (s.pc c + 4) id) := by
  rw [exec_wait]
  exact State.retire_unchanged h (by rw [waitBody, waits, if_pos rfl])

/-- A sleeping core that does not take events goes on at one (R109). -/
theorem exec_waitWake_goesOn {s : State} {c : CoreId} (runs : s.dev.coreRuns = true) (hc : c ≠ .s)
    (sleeps : (s.dev.core c).run = .sleeping) (waits : s.dev.eventLine c = true)
    (ie : s.dev.cget c F.ST_STATUS_IE = 0) :
    exec (.waitWake c) s = .next { s with dev := s.dev.setCore c { s.dev.core c with run := .running } } := by
  have control : c.isControl = true := by
    cases c with
    | c0 => rfl
    | c1 => rfl
    | s => exact absurd rfl hc
  have due : s.dev.eventDue c = false := by
    simp only [Device.eventDue, ie, Nat.reduceBEq, Bool.and_false]
  have wakes : (s.dev.coreRuns && c.isControl && (s.dev.core c).run == .sleeping && s.dev.eventLine c) = true := by
    simp only [runs, control, sleeps, waits, Bool.and_true, beq_self_eq_true]
  refine congrArg (fun x => Host.Outcome.next { s with dev := x }) ?_
  dsimp only
  rw [if_pos wakes, due, if_neg Bool.false_ne_true, Device.setRun]

/-- Settles O14: each instruction by its own rule. -/
theorem systemInstructions : Obligations.SystemInstructions := by
  unfold Obligations.SystemInstructions
  exact fun s c => ⟨eret_completes, exec_fence_empty, exec_wait_sleeps, exec_wait_goesOn, exec_waitWake_goesOn⟩

end Sys2Proof.Machine
end

section
/-! PROOFS. The state window of S (O25). -/

namespace Sys2Proof.Machine

/-! ### The way of a write to the window -/

/-- A write of a word of the S state window by a master that may make it. -/
theorem Device.directWrite_window {d : Device} {m : Master} {a : Nat} {w : Word} (runs : d.coreRuns = true)
    (may : d.masterMay m a w = true) (aligned : wordAddr a = a) (region : regionOf a = .sWindow) :
    d.directWrite m a w = (d.sWrite a w).2 := by
  simp only [Device.directWrite, Device.writeCommand, Device.busWrite, Device.regionWrite, may, runs, if_true, aligned,
    region]

theorem Device.sWrite_sctl (d : Device) (w : Word) : d.sWrite R.ST_SCTL w = d.sctlWrite R.ST_SCTL w := rfl

theorem Device.sWrite_sentry (d : Device) (w : Word) : d.sWrite R.ST_SENTRY w = d.sentryWrite R.ST_SENTRY w := rfl

theorem Device.sWrite_ovrcnt (d : Device) :
    (d.sWrite R.ST_OVRCNT 0x80000000).2 = d.cput .s F.ST_OVRCNT_COUNT 0 := rfl

theorem Device.sWrite_endmax (d : Device) :
    (d.sWrite R.ST_ENDMAX 0x80000000).2 = d.cput .s F.ST_ENDMAX_MAX 0 := rfl

/-! ### ST_SCTL -/

/-- The device with RUN and OVR_LIMIT of a word stored. -/
def Device.sctlStored (d : Device) (w : Word) : Device :=
  (d.cput .s F.ST_SCTL_RUN (w.getLsbD 0).toNat).cput .s F.ST_SCTL_OVR_LIMIT (w.toNat / 256)

theorem Device.sctlStored_sc (d : Device) (w : Word) :
    (d.sctlStored w).sc = { d.sc with
      st := (d.sc.st.put F.ST_SCTL_RUN (w.getLsbD 0).toNat).put F.ST_SCTL_OVR_LIMIT (w.toNat / 256) } := by
  rw [Device.sctlStored, Device.cput_sc, Device.cput_sc]

variable {d : Device} {w : Word}

theorem Device.sctlWrite_rejects (a : Nat) (fault : d.cget .s F.ST_SSTATE_STATE = 3) (run : w.getLsbD 0 = true) :
    d.sctlWrite a w = (true, d.reject a) := by
  simp only [Device.sctlWrite, run, fault, beq_self_eq_true, Bool.and_self, if_true]

theorem Device.sctlWrite_stops (a : Nat) (fault : d.cget .s F.ST_SSTATE_STATE = 3) (run : w.getLsbD 0 = false) :
    d.sctlWrite a w = (false, (d.sctlStored w).cput .s F.ST_SSTATE_STATE 0) := by
  simp only [Device.sctlWrite, run, fault, beq_self_eq_true, Bool.not_false, Bool.and_self, Bool.false_and,
    Bool.false_eq_true, if_false, if_true, Device.sctlStored]

theorem Device.sctlWrite_starts (a : Nat) (stopped : d.cget .s F.ST_SSTATE_STATE = 0) (run : w.getLsbD 0 = true) :
    d.sctlWrite a w = (false, { ((d.sctlStored w).cput .s F.ST_SFLT_CAUSE 0).cput .s F.ST_OVRCNT_CONSEC 0 with
      stream.muted := true, stream.resume := true }) := by
  simp only [Device.sctlWrite, run, stopped, Nat.reduceBEq, Bool.not_true, Bool.and_false, Bool.and_self,
    Bool.false_eq_true, if_false, if_true, Device.sctlStored]

theorem Device.sctlWrite_stores (a : Nat) (run : d.cget .s F.ST_SSTATE_STATE ≠ 0)
    (fault : d.cget .s F.ST_SSTATE_STATE ≠ 3) : d.sctlWrite a w = (false, d.sctlStored w) := by
  simp only [Device.sctlWrite, beq_false_of_ne run, beq_false_of_ne fault, Bool.and_false,
    Bool.false_eq_true, if_false, Device.sctlStored]

/-! ### ST_SENTRY -/

theorem Device.sentryWrite_rejects (a : Nat)
    (h : d.cget .s F.ST_SCTL_RUN = 1 ∨ w.toNat < 0x20000000 ∨ 0x20060000 ≤ w.toNat) :
    d.sentryWrite a w = (true, d.reject a) := by
  have bad : (d.cget .s F.ST_SCTL_RUN == 1 || decide (w.toNat / 4 * 4 < 0x20000000) ||
      decide (0x20060000 ≤ w.toNat / 4 * 4)) = true := by
    simp only [Bool.or_eq_true, beq_iff_eq, decide_eq_true_eq]
    omega
  rw [Device.sentryWrite, if_pos bad]

theorem Device.sentryWrite_stores (a : Nat) (run : d.cget .s F.ST_SCTL_RUN = 0) (lo : 0x20000000 ≤ w.toNat)
    (hi : w.toNat < 0x20060000) :
    d.sentryWrite a w = (false, d.cput .s F.ST_SENTRY_ENTRY (w.toNat / 4)) := by
  have good : ¬ (d.cget .s F.ST_SCTL_RUN == 1 || decide (w.toNat / 4 * 4 < 0x20000000) ||
      decide (0x20060000 ≤ w.toNat / 4 * 4)) = true := by
    simp only [Bool.or_eq_true, beq_iff_eq, decide_eq_true_eq]
    omega
  rw [Device.sentryWrite, if_neg good, Nat.mul_div_cancel _ (by decide)]

/-! ### The statement -/

/-- A rejected write leaves S and the memories, and CFG_REJECT fires (R17). -/
theorem Device.reject_leaves (d : Device) (a : Word) : (d.reject a.toNat).sc = d.sc ∧
    (d.reject a.toNat).stream = d.stream ∧ (d.reject a.toNat).mem = d.mem ∧ d.fired (d.reject a.toNat) 0 := by
  obtain ⟨⟨same, -⟩, fired, -⟩ := d.reject_reports a
  refine ⟨?_, ?_, ?_, fired⟩ <;> rw [same]

theorem getLsbD_zero_toNat (w : Word) : (w.getLsbD 0).toNat = w.toNat % 2 := by
  rw [BitVec.getLsbD, Nat.testBit_zero]
  rcases Nat.mod_two_eq_zero_or_one w.toNat with h | h <;> simp [h]

section Sctl

variable {s : State} {m : Master} {w : Word} (runs : s.dev.coreRuns = true) (may : s.dev.masterMay m R.ST_SCTL w = true)
include runs may

theorem exec_stSctlRunWrite : exec (.stSctlRunWrite m w) s = s.on fun d => (d.sctlWrite R.ST_SCTL w).2 :=
  State.on_congr (f := fun d => d.directWrite m R.ST_SCTL w) (g := fun d => (d.sctlWrite R.ST_SCTL w).2)
    ((Device.directWrite_window runs may (by decide) (by decide)).trans (congrArg Prod.snd (Device.sWrite_sctl ..)))

theorem sctl_rejects (fault : s.dev.cget .s F.ST_SSTATE_STATE = 3) (run : w.getLsbD 0 = true) :
    Completes (.stSctlRunWrite m w) s fun e =>
      e.sc = s.dev.sc ∧ e.stream = s.dev.stream ∧ e.mem = s.dev.mem ∧ s.dev.fired e 0 := by
  refine State.on_completes (exec_stSctlRunWrite runs may) ?_
  rw [Device.sctlWrite_rejects _ fault run]
  exact s.dev.reject_leaves (BitVec.ofNat 32 R.ST_SCTL)

theorem sctl_stops (fault : s.dev.cget .s F.ST_SSTATE_STATE = 3) (run : w.getLsbD 0 = false) :
    Completes (.stSctlRunWrite m w) s fun e => e.cget .s F.ST_SSTATE_STATE = 0 ∧ e.cget .s F.ST_SCTL_RUN = 0 ∧
      e.regs = s.dev.regs ∧ e.mem = s.dev.mem := by
  refine State.on_completes (exec_stSctlRunWrite runs may) ?_
  rw [Device.sctlWrite_stops _ fault run]
  simp (disch := decide) only [Device.cget_sc, Device.cput_sc, Device.cput_regs, Device.cput_mem,
    Device.sctlStored, RegMap.get_put_apart, RegMap.get_put_same, run]
  exact ⟨rfl, rfl, trivial, trivial⟩

theorem sctl_starts (stopped : s.dev.cget .s F.ST_SSTATE_STATE = 0) (run : w.getLsbD 0 = true) :
    Completes (.stSctlRunWrite m w) s fun e => e.cget .s F.ST_SSTATE_STATE = 0 ∧ e.cget .s F.ST_SCTL_RUN = 1 ∧
      e.cget .s F.ST_SFLT_CAUSE = 0 ∧ e.cget .s F.ST_OVRCNT_CONSEC = 0 ∧
      e.cget .s F.ST_SCTL_OVR_LIMIT = w.toNat / 256 % 256 ∧ e.stream.resume = true ∧ e.regs = s.dev.regs ∧
      e.mem = s.dev.mem := by
  refine State.on_completes (exec_stSctlRunWrite runs may) ?_
  rw [Device.sctlWrite_starts _ stopped run]
  simp (disch := decide) only [Device.cget_sc, Device.cput_sc, Device.cput_regs, Device.cput_mem,
    Device.sctlStored, RegMap.get_put_apart, RegMap.get_put_same, run]
  exact ⟨stopped, rfl, rfl, rfl, rfl, trivial, trivial, trivial⟩

theorem sctl_stores (run : s.dev.cget .s F.ST_SSTATE_STATE ≠ 0) (fault : s.dev.cget .s F.ST_SSTATE_STATE ≠ 3) :
    Completes (.stSctlRunWrite m w) s fun e => e.cget .s F.ST_SSTATE_STATE = s.dev.cget .s F.ST_SSTATE_STATE ∧
      e.cget .s F.ST_SCTL_RUN = w.toNat % 2 ∧ (e.core .s).pc = (s.dev.core .s).pc ∧ e.stream = s.dev.stream ∧
      e.regs = s.dev.regs ∧ e.mem = s.dev.mem := by
  refine State.on_completes (exec_stSctlRunWrite runs may) ?_
  rw [Device.sctlWrite_stores _ run fault]
  simp (disch := decide) only [Device.cget_sc, Device.core_s, Device.sctlStored_sc, RegMap.get_put_apart,
    RegMap.get_put_same, getLsbD_zero_toNat]
  simp only [Device.sctlStored, Device.cput_regs, Device.cput_mem, Device.cput_stream]
  exact ⟨trivial, Nat.mod_mod _ _, trivial, trivial, trivial, trivial⟩

end Sctl

section Sentry

variable {s : State} {m : Master} {w : Word} (runs : s.dev.coreRuns = true)
  (may : s.dev.masterMay m R.ST_SENTRY w = true)
include runs may

theorem exec_stSentryWrite : exec (.stSentryWrite m w) s = s.on fun d => (d.sentryWrite R.ST_SENTRY w).2 :=
  State.on_congr (f := fun d => d.directWrite m R.ST_SENTRY w) (g := fun d => (d.sentryWrite R.ST_SENTRY w).2)
    ((Device.directWrite_window runs may (by decide) (by decide)).trans (congrArg Prod.snd (Device.sWrite_sentry ..)))

theorem sentry_rejects
    (h : s.dev.cget .s F.ST_SCTL_RUN = 1 ∨ w.toNat < 0x20000000 ∨ 0x20060000 ≤ w.toNat) :
    Completes (.stSentryWrite m w) s fun e =>
      e.sc = s.dev.sc ∧ e.stream = s.dev.stream ∧ e.mem = s.dev.mem ∧ s.dev.fired e 0 := by
  refine State.on_completes (exec_stSentryWrite runs may) ?_
  rw [Device.sentryWrite_rejects _ h]
  exact s.dev.reject_leaves (BitVec.ofNat 32 R.ST_SENTRY)

theorem sentry_stores (run : s.dev.cget .s F.ST_SCTL_RUN = 0) (lo : 0x20000000 ≤ w.toNat) (hi : w.toNat < 0x20060000) :
    Completes (.stSentryWrite m w) s fun e => e.cget .s F.ST_SENTRY_ENTRY = w.toNat / 4 ∧
      (e.core .s).pc = (s.dev.core .s).pc ∧ e.regs = s.dev.regs ∧ e.mem = s.dev.mem := by
  have small : w.toNat / 4 < 2 ^ 30 := by omega
  refine State.on_completes (exec_stSentryWrite runs may) ?_
  rw [Device.sentryWrite_stores _ run lo hi, Device.cget_cput_same _ _ _ _ (by decide)]
  simp only [Device.cput_pc, Device.cput_regs, Device.cput_mem]
  exact ⟨Nat.mod_eq_of_lt small, trivial, trivial, trivial⟩

end Sentry

/-- A write that clears a count of S leaves the other field of S that is told apart from it. -/
theorem Device.cput_clears (d : Device) {f g : Fld} (fits : f.fits = true) (apart : f.apart g = true) :
    (d.cput .s f 0).cget .s f = 0 ∧ (d.cput .s f 0).cget .s g = d.cget .s g ∧ (d.cput .s f 0).regs = d.regs := by
  rw [Device.cget_cput_same _ _ _ _ fits, Device.cget_cput_apart _ _ _ _ _ fits apart]
  exact ⟨Nat.zero_mod _, rfl, Device.cput_regs ..⟩

theorem ovrcnt_clears {s : State} {m : Master} (runs : s.dev.coreRuns = true)
    (may : s.dev.masterMay m R.ST_OVRCNT 0x80000000 = true) : Completes (.stOvrcntClr m) s fun e =>
      e.cget .s F.ST_OVRCNT_COUNT = 0 ∧ e.cget .s F.ST_OVRCNT_CONSEC = s.dev.cget .s F.ST_OVRCNT_CONSEC ∧
      e.regs = s.dev.regs := by
  refine State.on_completes (f := fun d => d.directWrite m R.ST_OVRCNT 0x80000000) rfl ?_
  rw [Device.directWrite_window runs may (by decide) (by decide), Device.sWrite_ovrcnt]
  exact s.dev.cput_clears (by decide) (by decide)

theorem endmax_clears {s : State} {m : Master} (runs : s.dev.coreRuns = true)
    (may : s.dev.masterMay m R.ST_ENDMAX 0x80000000 = true) : Completes (.stEndmaxClr m) s fun e =>
      e.cget .s F.ST_ENDMAX_MAX = 0 ∧ e.cget .s F.ST_ENDCYC_LAST = s.dev.cget .s F.ST_ENDCYC_LAST ∧
      e.regs = s.dev.regs := by
  refine State.on_completes (f := fun d => d.directWrite m R.ST_ENDMAX 0x80000000) rfl ?_
  rw [Device.directWrite_window runs may (by decide) (by decide), Device.sWrite_endmax]
  exact s.dev.cput_clears (by decide) (by decide)

/-- Settles O25: register by register, the write of ST_SCTL by the state of S. -/
theorem streamCoreControl : Obligations.StreamCoreControl := by
  unfold Obligations.StreamCoreControl
  intro s m v runs
  exact ⟨fun may => ⟨sctl_rejects runs may, sctl_stops runs may, sctl_starts runs may, sctl_stores runs may⟩,
    fun may => ⟨sentry_rejects runs may, sentry_stores runs may⟩, ovrcnt_clears runs, endmax_clears runs⟩

end Sys2Proof.Machine
end

section
/-! PROOFS. The debug halts (O38). -/

namespace Sys2Proof.Machine

/-! ### DBG_CTL (R739) -/

/-- DBG_CTL as the table of registers lists it. -/
def specDbgCtl : RegSpec := ⟨0x40150008, 1, 0x4, false, 0x0, [⟨0, 1, .w1s, .up, false⟩]⟩

theorem regFind_dbgCtl : regFind R.DBG_CTL = some specDbgCtl := by decide

theorem Device.actReserved_dbgCtl (d : Device) (m : Master) (priv : Bool) (w : Word) :
    d.actReserved m priv R.DBG_CTL w = false := by rfl

theorem Device.hostOnlyClear_dbgCtl (d : Device) (m : Master) (w : Word) : d.hostOnlyClear m R.DBG_CTL w = false := by
  have none' : (if R.DBG_CTL == R.PWR_FAULT then d.word R.DBG_CTL &&& w &&& 0x1FF != 0
     else if R.DBG_CTL == R.GDV_FAULT then w &&& 7 != 0
     else if inFamily R.DBG_CTL (R.GDV_CH_FAULT_n 0) 4 4 || R.DBG_CTL == R.DIAG_HOLD || R.DBG_CTL == R.SED_SYSFAULT then
       w &&& 0xF != 0
     else false) = false := by rfl
  rw [Device.hostOnlyClear, none', Bool.and_false]

theorem Device.writeReserved_dbgCtl (d : Device) (m : Master) (priv : Bool) (w : Word) :
    d.writeReserved m priv specDbgCtl R.DBG_CTL w = false := by
  rw [Device.writeReserved, Device.actReserved_dbgCtl, Device.hostOnlyClear_dbgCtl]
  rfl

theorem Device.guardedChange_dbgCtl (d : Device) (w : Word) : d.guardedChange specDbgCtl R.DBG_CTL w = false := by
  have mask : specDbgCtl.mask FieldSpec.guarded = 0 := by decide
  rw [Device.guardedChange, mask]
  simp

theorem and_not_zero (w : Word) : w &&& ~~~(0 : Word) = w := by
  rw [show ~~~(0 : Word) = BitVec.allOnes 32 from rfl, BitVec.and_allOnes]

theorem setFields_dbgCtl (old w : Word) : specDbgCtl.setFields old w = old := by
  have mask : specDbgCtl.mask FieldSpec.settable = 0 := by decide
  rw [RegSpec.setFields, mask]
  rw [and_not_zero, show w &&& (0 : Word) = 0 from BitVec.and_zero, show old ||| (0 : Word) = old from BitVec.or_zero]

theorem w1c_dbgCtl (old w : Word) : (old &&& ~~~(w &&& specDbgCtl.mask fun f => f.acc == .w1c)) = old := by
  have mask : (specDbgCtl.mask fun f => f.acc == .w1c) = 0 := by decide
  rw [mask, show w &&& (0 : Word) = 0 from BitVec.and_zero, and_not_zero]

/-- A write of DBG_CTL sets LOCK where its bit is 1, and nothing else (R739). -/
theorem Device.directWrite_dbgCtl {d : Device} {m : Master} {w : Word} (runs : d.coreRuns = true)
    (may : d.masterMay m R.DBG_CTL w = true) : d.directWrite m R.DBG_CTL w =
      let e := d.setWord R.DBG_CTL (d.word R.DBG_CTL)
      if w.getLsbD 0 then e.setFlag F.DBG_CTL_LOCK true else e := by
  rw [Device.directWrite_register runs may (by decide) (by decide) (by decide),
    Device.regWrite_accepted regFind_dbgCtl (d.writeReserved_dbgCtl m _ w)
      (by rw [Device.guardedChange_dbgCtl]; exact nofun)]
  unfold Device.writeAccepted
  simp only [Device.guardedChange_dbgCtl, setFields_dbgCtl, w1c_dbgCtl, ite_self, Bool.false_eq_true, if_false]
  rfl

/-- What DEBUG_LOCK does (R739). -/
theorem debugLock_completes {s : State} {m : Master} {w : Word} (runs : s.dev.coreRuns = true)
    (may : s.dev.masterMay m R.DBG_CTL w = true) : Completes (.debugLock m w) s fun e =>
      e.get F.DBG_CTL_LOCK = (if w.getLsbD 0 then 1 else s.dev.get F.DBG_CTL_LOCK) ∧
      e = { s.dev with regs := e.regs } ∧ ∀ a, a ≠ R.DBG_CTL → e.word a = s.dev.word a := by
  refine State.on_completes (f := fun d => d.directWrite m R.DBG_CTL w) rfl ?_
  rw [Device.directWrite_dbgCtl runs may]
  have word : (s.dev.setWord R.DBG_CTL (s.dev.word R.DBG_CTL)).word R.DBG_CTL = s.dev.word R.DBG_CTL :=
    Device.word_setWord_same ..
  cases w.getLsbD 0 with
  | true =>
    refine ⟨Device.get_put_same _ _ _ (by decide), rfl, fun a ha => ?_⟩
    exact (Device.word_put_ne _ _ _ ha).trans (Device.word_setWord_ne _ _ ha)
  | false => exact ⟨Device.get_eq_of_word word, rfl, fun a ha => Device.word_setWord_ne _ _ ha⟩

/-! ### DBG_STAT -/

/-- The flags of DBG_STAT that a halt shows. -/
def haltFlags : List Fld := [F.DBG_STAT_C0_HALT, F.DBG_STAT_C1_HALT, F.DBG_STAT_S_HALT, F.DBG_STAT_STREAM_HALT]

/-- The device with a halt shown, or no longer, in DBG_STAT. -/
def Device.showHalt (d : Device) (f : Fld) (b : Bool) : Device := (d.setFlag f b).tapActive

variable (d : Device)

theorem Device.tapActive_get {f : Fld} (h : F.DBG_STAT_TAP_ACTIVE.apart f = true) : d.tapActive.get f = d.get f :=
  Device.get_put_apart _ _ _ _ (by decide) h

theorem Device.showHalt_get {f : Fld} (b : Bool) (h : f ∈ haltFlags) : (d.showHalt f b).get f = b.toNat := by
  have facts : ∀ f ∈ haltFlags, F.DBG_STAT_TAP_ACTIVE.apart f = true ∧ f.fits = true ∧ f.width = 1 := by decide
  obtain ⟨apart, fits, width⟩ := facts f h
  rw [Device.showHalt, Device.tapActive_get _ apart, Device.setFlag, Device.get_put_same _ _ _ fits, width]
  cases b <;> rfl

/-- Where a halt is in force TAP_ACTIVE is 1. -/
theorem Device.showHalt_tapActive {f : Fld} (h : f ∈ haltFlags) :
    (d.showHalt f true).get F.DBG_STAT_TAP_ACTIVE = 1 := by
  have facts : ∀ f ∈ haltFlags, f.fits = true ∧ f.width = 1 := by decide
  obtain ⟨fits, width⟩ := facts f h
  have on : (d.setFlag f true).flag f = true := by
    rw [Device.flag, Device.setFlag, Device.get_put_same _ _ _ fits, width]
    rfl
  have any : ((d.setFlag f true).flag F.DBG_STAT_C0_HALT || (d.setFlag f true).flag F.DBG_STAT_C1_HALT ||
      (d.setFlag f true).flag F.DBG_STAT_S_HALT || (d.setFlag f true).flag F.DBG_STAT_STREAM_HALT) = true := by
    simp only [haltFlags, List.mem_cons, List.not_mem_nil, or_false] at h
    rcases h with rfl | rfl | rfl | rfl <;> simp only [on, Bool.true_or, Bool.or_true]
  rw [Device.showHalt, Device.tapActive, any]
  exact Device.get_put_same _ _ _ (by decide)

theorem Device.showHalt_regs_only (f : Fld) (b : Bool) :
    d.showHalt f b = { d with regs := (d.showHalt f b).regs } := rfl

theorem Device.showHalt_core (f : Fld) (b : Bool) (c : CoreId) : (d.showHalt f b).core c = d.core c := by
  rw [Device.showHalt_regs_only]
  cases c <;> rfl

theorem haltFlag_mem (c : CoreId) : haltFlag c ∈ haltFlags := by
  cases c <;> decide

/-! ### Halts -/

variable {d}

/-- None is granted while DBG_CTL.LOCK is set (R739). -/
theorem Device.debugHalt_locked (lock : d.get F.DBG_CTL_LOCK = 1) (t : HaltTarget) : d.debugHalt t = d := by
  have on : d.flag F.DBG_CTL_LOCK = true := by
    rw [Device.flag, lock]
    rfl
  unfold Device.debugHalt
  rw [on, Bool.or_true, if_pos rfl]

/-- S as a halt that found it in `st` takes it out of its block cycle (R86). -/
def Device.leaveCycle (d : Device) (st : Nat) : Device :=
  { d with stream.dbgPrev := st, stream.muted := true, stream.resume := true }

section Granted

variable (runs : d.coreRuns = true) (lock : d.get F.DBG_CTL_LOCK = 0)
include runs lock

theorem Device.debugHalt_refuses_not : (!d.coreRuns || d.flag F.DBG_CTL_LOCK) = false := by
  rw [runs, Device.flag, lock]
  rfl

theorem Device.debugHalt_control {c : CoreId} (hc : c ≠ .s)
    (run : (d.core c).run = .running ∨ (d.core c).run = .sleeping) : d.debugHalt (.core c) =
      (d.setCore c { d.core c with run := .debug, dbgRun := (d.core c).run }).showHalt (haltFlag c) true := by
  have goes : ((d.core c).run == .running || (d.core c).run == .sleeping) = true := by
    rcases run with h | h <;> rw [h] <;> rfl
  unfold Device.debugHalt
  rw [Device.debugHalt_refuses_not runs lock, if_neg Bool.false_ne_true]
  cases c with
  | c0 => exact if_pos goes
  | c1 => exact if_pos goes
  | s => exact absurd rfl hc

theorem Device.debugHalt_stream : d.debugHalt .stream = d.freeze.showHalt F.DBG_STAT_STREAM_HALT true := by
  unfold Device.debugHalt
  rw [Device.debugHalt_refuses_not runs lock, if_neg Bool.false_ne_true]
  rfl

theorem Device.debugHalt_s (going : d.cget .s F.ST_SSTATE_STATE ≠ 4) : d.debugHalt (.core .s) =
    ((d.leaveCycle (d.cget .s F.ST_SSTATE_STATE)).cput .s F.ST_SSTATE_STATE 4).showHalt F.DBG_STAT_S_HALT true := by
  unfold Device.debugHalt
  rw [Device.debugHalt_refuses_not runs lock, if_neg Bool.false_ne_true]
  dsimp only
  rw [beq_false_of_ne going, if_neg Bool.false_ne_true]
  rfl

end Granted

/-! ### The statement -/

theorem tapHaltRequest_core {s : State} {c : CoreId} (runs : s.dev.coreRuns = true)
    (lock : s.dev.get F.DBG_CTL_LOCK = 0) (hc : c ≠ .s)
    (run : (s.dev.core c).run = .running ∨ (s.dev.core c).run = .sleeping) :
    Completes (.tapHaltRequest (.core c)) s fun e =>
      e.core c = { s.dev.core c with run := .debug, dbgRun := (s.dev.core c).run } ∧ e.get (haltFlag c) = 1 ∧
        e.get F.DBG_STAT_TAP_ACTIVE = 1 ∧ ∀ c', c' ≠ c → e.core c' = s.dev.core c' := by
  refine State.on_completes (f := fun d => d.debugHalt (.core c)) rfl ?_
  rw [Device.debugHalt_control runs lock hc run]
  refine ⟨?_, Device.showHalt_get _ true (haltFlag_mem c),
    Device.showHalt_tapActive _ (haltFlag_mem c), fun c' hc' => ?_⟩
  · rw [Device.showHalt_core, Device.core_setCore]
  · rw [Device.showHalt_core, Device.core_setCore_ne _ _ hc']

theorem tapRelease_core {s : State} {c : CoreId} (hc : c ≠ .s) (halted : (s.dev.core c).run = .debug) :
    Completes (.tapRelease (.core c)) s fun e =>
      e.core c = { s.dev.core c with run := (s.dev.core c).dbgRun } ∧ e.get (haltFlag c) = 0 ∧ e.mem = s.dev.mem := by
  have run : s.dev.debugRelease (.core c) =
      (s.dev.setCore c { s.dev.core c with run := (s.dev.core c).dbgRun }).showHalt (haltFlag c) false := by
    cases c with
    | c0 => exact if_pos (beq_iff_eq.2 halted)
    | c1 => exact if_pos (beq_iff_eq.2 halted)
    | s => exact absurd rfl hc
  refine State.on_completes (f := fun d => d.debugRelease (.core c)) rfl ?_
  rw [run]
  refine ⟨?_, Device.showHalt_get _ false (haltFlag_mem c), ?_⟩
  · rw [Device.showHalt_core, Device.core_setCore]
  · rw [Device.showHalt_regs_only]
    exact Device.setCore_mem ..

theorem streamDebugHalt_completes {s : State} (runs : s.dev.coreRuns = true) (lock : s.dev.get F.DBG_CTL_LOCK = 0) :
    Completes .streamDebugHalt s fun e =>
      e.stage = { s.dev.stage with frozen := true, held := some (Vector.ofFn s.dev.gateNow) } ∧
        e.get F.MOD_STAT_FROZEN = 1 ∧ e.get F.DBG_STAT_STREAM_HALT = 1 ∧ e.get F.DBG_STAT_TAP_ACTIVE = 1 ∧
        e.mem = s.dev.mem := by
  refine State.on_completes (f := fun d => d.debugHalt .stream) rfl ?_
  rw [Device.debugHalt_stream runs lock]
  refine ⟨by rfl, ?_, Device.showHalt_get _ true (by decide), Device.showHalt_tapActive _ (by decide), by rfl⟩
  rw [Device.showHalt, Device.tapActive_get _ (by decide), Device.setFlag,
    Device.get_put_apart _ _ _ _ (by decide) (by decide)]
  exact Device.get_put_same _ _ _ (by decide)

theorem sDebugHalt_completes {s : State} (runs : s.dev.coreRuns = true) (lock : s.dev.get F.DBG_CTL_LOCK = 0)
    (going : s.dev.cget .s F.ST_SSTATE_STATE ≠ 4) : Completes .sDebugHalt s fun e =>
      e.cget .s F.ST_SSTATE_STATE = 4 ∧ e.get F.DBG_STAT_S_HALT = 1 ∧
        e.stream.dbgPrev = s.dev.cget .s F.ST_SSTATE_STATE ∧ e.stage = s.dev.stage := by
  refine State.on_completes (f := fun d => d.debugHalt (.core .s)) rfl ?_
  rw [Device.debugHalt_s runs lock going]
  refine ⟨?_, Device.showHalt_get _ true (by decide), by rfl, by rfl⟩
  rw [Device.cget_congr (Device.showHalt_core ..), Device.cget_cput_same _ _ _ _ (by decide)]
  rfl

theorem sDebugResume_completes {s : State} (halted : s.dev.cget .s F.ST_SSTATE_STATE = 4)
    (small : s.dev.stream.dbgPrev < 8) : Completes .sDebugResume s fun e =>
      e.cget .s F.ST_SSTATE_STATE = (if s.dev.stream.dbgPrev = 1 then 2 else s.dev.stream.dbgPrev) ∧
        e.get F.DBG_STAT_S_HALT = 0 ∧ e.stream.done = false ∧ e.mem = s.dev.mem := by
  have run : s.dev.debugRelease (.core .s) =
      (({ s.dev with stream.done := false, stream.overrun := false } : Device).cput .s F.ST_SSTATE_STATE
        (if s.dev.stream.dbgPrev == 1 then 2 else s.dev.stream.dbgPrev)).showHalt F.DBG_STAT_S_HALT false :=
    if_pos (beq_iff_eq.2 halted)
  refine State.on_completes (f := fun d => d.debugRelease (.core .s)) rfl ?_
  rw [run]
  refine ⟨?_, Device.showHalt_get _ false (by decide), by rfl, by rfl⟩
  rw [Device.cget_congr (Device.showHalt_core ..), Device.cget_cput_same _ _ _ _ (by decide)]
  simp only [beq_iff_eq]
  refine Nat.mod_eq_of_lt ?_
  split
  · decide
  · exact small

/-! ### The STREAM domain goes on (R319, R369) -/

/-- One channel of the Guard counts as blind for long (R369). -/
def Device.resumeChannel (d : Device) (i : Fin 4) : Device :=
  (d.put (F.GRD_n_BLINDT_BLOCKS (i.val + 1)) d.blindLongBlocks).setGch i { d.gch i with forced := true }

theorem Device.guardResume_eq (d : Device) : d.guardResume = (List.finRange 4).foldl Device.resumeChannel d := rfl

theorem Device.gch_resumeChannel (d : Device) (i j : Fin 4) (h : j = i ∨ (d.gch j).forced = true) :
    ((d.resumeChannel i).gch j).forced = true := by
  unfold Device.resumeChannel Device.setGch Device.gch
  by_cases e : j = i
  · subst e
    simp
  · have other : i.val ≠ j.val := fun h' => e (Fin.ext h'.symm)
    simpa [Device.gch, other] using h.resolve_left e

theorem Device.guardResume_forced (d : Device) (i : Fin 4) : (d.guardResume.gch i).forced = true := by
  have fold : ∀ (l : List (Fin 4)) (d : Device), i ∈ l ∨ (d.gch i).forced = true →
      ((l.foldl Device.resumeChannel d).gch i).forced = true := by
    intro l
    induction l with
    | nil => exact fun d h => h.resolve_left List.not_mem_nil
    | cons x t ih =>
      intro d h
      refine ih _ ?_
      by_cases ht : i ∈ t
      · exact .inl ht
      · refine .inr (d.gch_resumeChannel x i ?_)
        exact h.imp_left fun hm => (List.mem_cons.1 hm).resolve_right ht
  exact fold _ d (.inl (List.mem_finRange i))

theorem Device.guardResume_stage (d : Device) : d.guardResume.stage = d.stage := by
  rw [Device.guardResume_eq]
  exact Device.foldl_keeps (·.stage) _ (fun d i => by rfl) _ d

theorem Device.resumeChannel_get (d : Device) (i : Fin 4) {f : Fld} (h : ∀ n, f.addr ≠ R.GRD_n_BLINDT n) :
    (d.resumeChannel i).get f = d.get f := by
  have regs : (d.resumeChannel i).regs = (d.put (F.GRD_n_BLINDT_BLOCKS (i.val + 1)) d.blindLongBlocks).regs := by rfl
  rw [Device.get, regs]
  exact Device.get_eq_of_word (d.word_put_ne _ _ (h _))

theorem Device.guardResume_get (d : Device) {f : Fld} (h : ∀ n, f.addr ≠ R.GRD_n_BLINDT n) :
    d.guardResume.get f = d.get f := by
  rw [Device.guardResume_eq]
  exact Device.foldl_keeps (·.get f) _ (fun d i => d.resumeChannel_get i h) _ d

/-- The STREAM domain as its halt ends, before the shapers and the Guard are seen to. -/
def Device.thaw (d : Device) : Device :=
  let switching := d.stage.drive == .modulate || d.stage.drive == .sweep
  let d := { d with stage.frozen := false, stage.held := if switching then d.stage.held else none }
  (d.setFlag F.MOD_STAT_FROZEN false).setFlag F.DBG_STAT_STREAM_HALT false

/-- The shapers start anew in PLAY without a fault (R319). -/
def Device.reshape (d : Device) : Device := if d.isState 3 && !d.anyFault then d.clearShapers else d

theorem Device.debugRelease_stream {d : Device} (frozen : d.stage.frozen = true) :
    d.debugRelease .stream = d.thaw.reshape.guardResume.tapActive := if_pos frozen

theorem Device.reshape_get (d : Device) (f : Fld) : d.reshape.get f = d.get f := by
  unfold Device.reshape
  split <;> rfl

theorem Device.reshape_frozen (d : Device) : d.reshape.stage.frozen = d.stage.frozen := by
  unfold Device.reshape
  split <;> rfl

theorem Device.clearShapers_cleared (d : Device) :
    (∀ i : Fin 4, d.clearShapers.stage.chan[i].x = .replicate 5 0 ∧ d.clearShapers.stage.chan[i].v = 0) ∧
      ∀ y : Fin 8, d.clearShapers.stage.half[y].fullRun = 0 := by
  unfold Device.clearShapers
  refine ⟨fun i => ?_, fun y => ?_⟩
  · simp
  · simp

theorem Device.thaw_get {d : Device} {f : Fld} (h1 : F.MOD_STAT_FROZEN.apart f = true)
    (h2 : F.DBG_STAT_STREAM_HALT.apart f = true) : d.thaw.get f = d.get f :=
  (Device.get_put_apart _ _ _ _ (by decide) h2).trans (Device.get_put_apart _ _ _ _ (by decide) h1)

theorem Device.tapActive_stage (d : Device) : d.tapActive.stage = d.stage := by rfl

theorem Device.tapActive_guard (d : Device) : d.tapActive.guard = d.guard := by rfl

theorem Device.thaw_frozen (d : Device) : d.thaw.stage.frozen = false := by rfl

theorem Device.thaw_word {d : Device} {a : Nat} (h1 : a ≠ R.MOD_STAT) (h2 : a ≠ R.DBG_STAT) :
    d.thaw.word a = d.word a :=
  (Device.word_put_ne _ _ _ h2).trans (Device.word_put_ne _ _ _ h1)

theorem Device.thaw_modStat (d : Device) : d.thaw.get F.MOD_STAT_FROZEN = 0 :=
  (Device.get_put_apart _ _ _ _ (by decide) (by decide)).trans (Device.get_put_same _ _ _ (by decide))

theorem Device.thaw_dbgStat (d : Device) : d.thaw.get F.DBG_STAT_STREAM_HALT = 0 :=
  Device.get_put_same _ _ _ (by decide)

/-- In PLAY without a fault the shapers start anew (R319). -/
theorem Device.reshape_play {d : Device} (play : d.get F.PWR_STAT_STATE = 3) (sound : d.word R.PWR_FAULT = 0) :
    d.reshape = d.clearShapers := by
  have state : d.isState 3 = true := by
    rw [Device.isState, play]
    rfl
  have sound' : d.anyFault = false := by
    rw [Device.anyFault, sound]
    rfl
  rw [Device.reshape, state, sound', Bool.not_false, Bool.and_self, if_pos rfl]

theorem streamDebugResume_completes {s : State} (frozen : s.dev.stage.frozen = true) :
    Completes .streamDebugResume s fun e =>
      e.stage.frozen = false ∧ e.get F.MOD_STAT_FROZEN = 0 ∧ e.get F.DBG_STAT_STREAM_HALT = 0 ∧
      (∀ i : Fin 4, e.guard.chan[i].forced = true) ∧
      (s.dev.get F.PWR_STAT_STATE = 3 → s.dev.word R.PWR_FAULT = 0 →
        (∀ i : Fin 4, e.stage.chan[i].x = .replicate 5 0 ∧ e.stage.chan[i].v = 0) ∧
        ∀ y : Fin 8, e.stage.half[y].fullRun = 0) := by
  have shown : ∀ f : Fld, (∀ n, f.addr ≠ R.GRD_n_BLINDT n) → F.DBG_STAT_TAP_ACTIVE.apart f = true →
      s.dev.thaw.reshape.guardResume.tapActive.get f = s.dev.thaw.get f := fun f h k => by
    rw [Device.tapActive_get _ k, Device.guardResume_get _ h, Device.reshape_get]
  have modStat : ∀ n, R.MOD_STAT ≠ R.GRD_n_BLINDT n := fun n => by unfold R.MOD_STAT R.GRD_n_BLINDT; omega
  have dbgStat : ∀ n, R.DBG_STAT ≠ R.GRD_n_BLINDT n := fun n => by unfold R.DBG_STAT R.GRD_n_BLINDT; omega
  refine State.on_completes (f := fun d => d.debugRelease .stream) rfl ?_
  rw [Device.debugRelease_stream frozen]
  simp only [Device.tapActive_stage, Device.tapActive_guard, Device.guardResume_stage, Device.reshape_frozen,
    Device.thaw_frozen, shown F.MOD_STAT_FROZEN modStat (by decide),
    shown F.DBG_STAT_STREAM_HALT dbgStat (by decide), Device.thaw_modStat,
    Device.thaw_dbgStat, true_and]
  refine ⟨Device.guardResume_forced _, fun play sound => ?_⟩
  have play' : s.dev.thaw.get F.PWR_STAT_STATE = 3 := (Device.thaw_get (by decide) (by decide)).trans play
  have sound' : s.dev.thaw.word R.PWR_FAULT = 0 := (Device.thaw_word (by decide) (by decide)).trans sound
  rw [Device.reshape_play play' sound']
  exact Device.clearShapers_cleared _

/-- Settles O38: halt by halt and release by release. -/
theorem debugHalts : Obligations.DebugHalts := by
  unfold Obligations.DebugHalts
  intro s m c t v d st flag
  have flag_eq : flag c = haltFlag c := by cases c <;> rfl
  have refused : s.dev.get F.DBG_CTL_LOCK = 1 → ∀ t, s.on (fun d => d.debugHalt t) = .next s := fun lock t =>
    State.on_eq_self (Device.debugHalt_locked lock t)
  rw [flag_eq]
  exact ⟨debugLock_completes,
    fun lock => ⟨refused lock t, refused lock .stream, refused lock (.core .s)⟩,
    tapHaltRequest_core, tapRelease_core, streamDebugHalt_completes, streamDebugResume_completes, sDebugHalt_completes,
    sDebugResume_completes⟩

end Sys2Proof.Machine
end

section
/-! PROOFS. The ALU group and the divisions (O7). -/

namespace Sys2Proof.Machine

/-! ### Instructions that write one general register (R90, R97) -/

section Writes

variable {s : State} {c : CoreId} {rd rs1 rs2 : WReg} {i : Instr}

theorem Device.fetched_regs {s : State} {c : CoreId} {k : InsnClass} (h : s.dev.ready c k) (r : WReg) :
    (s.dev.fetched c).reg c r = (s.dev.core c).reg r := by
  rw [Device.reg, Device.fetched_self h]

theorem exec_alu {f : Word → Word → Word} {v : Word} (hi : exec i s = s.on fun d => d.alu c rd rs1 rs2 f)
    (h : s.dev.ready c .all) (hv : f ((s.dev.core c).reg rs1) ((s.dev.core c).reg rs2) = v) :
    exec i s = .next (s.writes c rd v) :=
  hi.trans (State.writes_ok (f := fun d => f (d.reg c rs1) (d.reg c rs2)) h (by simpa only [Device.fetched_regs h]))

theorem exec_alu1 {f : Word → Word} {v : Word} (hi : exec i s = s.on fun d => d.alu1 c rd rs1 f)
    (h : s.dev.ready c .all) (hv : f ((s.dev.core c).reg rs1) = v) : exec i s = .next (s.writes c rd v) :=
  hi.trans (State.writes_ok (f := fun d => f (d.reg c rs1)) h (by simpa only [Device.fetched_regs h]))

theorem exec_aluSat {f : Word → Word → Int} {v : Int} (hi : exec i s = s.on fun d => d.aluSat c rd rs1 rs2 f)
    (h : s.dev.ready c .all) (hv : f ((s.dev.core c).reg rs1) ((s.dev.core c).reg rs2) = v) :
    exec i s = .next (s.writesSat c rd v) :=
  hi.trans (State.writesSat_ok (f := fun d => f (d.reg c rs1) (d.reg c rs2)) h (by simpa only [Device.fetched_regs h]))

end Writes

/-! ### The words of the rows -/

/-- The shift count rs2[4:0] (R97). -/
theorem shiftCount (b : Word) : b.toNat % 32 = (b.extractLsb' 0 5).toNat := by
  rw [BitVec.extractLsb'_toNat, Nat.shiftRight_zero]

theorem flagWord_slt (a b : Word) : flagWord (a.slt b) = if a.toInt < b.toInt then 1 else 0 := by
  simp only [flagWord, BitVec.slt, decide_eq_true_eq]

theorem flagWord_ult (a b : Word) : flagWord (a.ult b) = if a.toNat < b.toNat then 1 else 0 := by
  simp only [flagWord, BitVec.ult, decide_eq_true_eq]

theorem ite_slt (a b x y : Word) : (if a.slt b then x else y) = if a.toInt < b.toInt then x else y := by
  simp only [BitVec.slt, decide_eq_true_eq]

theorem ite_ult (a b x y : Word) : (if a.ult b then x else y) = if a.toNat < b.toNat then x else y := by
  simp only [BitVec.ult, decide_eq_true_eq]

theorem mul_eq_ofInt_toInt (a b : Word) : a * b = BitVec.ofInt 32 (a.toInt * b.toInt) := by
  rw [BitVec.ofInt_mul, BitVec.ofInt_toInt, BitVec.ofInt_toInt]

/-- CLZ counts the zeros above the leading one (R97). -/
theorem clz_eq {a : Word} {m : Nat} (le : m ≤ 32) (lt : a.toNat < 2 ^ (32 - m))
    (lead : m = 32 ∨ 2 ^ (31 - m) ≤ a.toNat) : clz a = m := by
  unfold clz
  by_cases zero : a = 0
  · rw [if_pos zero]
    obtain rfl | lead := lead
    · rfl
    · have : 0 < 2 ^ (31 - m) := Nat.two_pow_pos _
      rw [zero] at lead
      exact absurd (lt_of_lt_of_le this lead) (lt_irrefl 0)
  · have pos : a.toNat ≠ 0 := fun e => zero (BitVec.eq_of_toNat_eq e)
    have small : m ≠ 32 := by
      rintro rfl
      exact pos (Nat.lt_one_iff.1 lt)
    have log : a.toNat.log2 = 31 - m :=
      (Nat.log2_eq_iff pos).2 ⟨lead.resolve_left small, by rwa [show 31 - m + 1 = 32 - m by omega]⟩
    rw [if_neg zero, log]
    omega

/-! ### The divisions (R98) -/

theorem divExact_of_ne {a b : Word} (h : b ≠ 0) : divExact a b = a.toInt.tdiv b.toInt := if_neg h

theorem divuWord_of_ne {a b : Word} (h : b ≠ 0) : divuWord a b = BitVec.ofNat 32 (a.toNat / b.toNat) := if_neg h

theorem remWord_of_ne {a b : Word} (h : b ≠ 0) : remWord a b = BitVec.ofInt 32 (a.toInt.tmod b.toInt) := if_neg h

theorem remuWord_of_ne {a b : Word} (h : b ≠ 0) : remuWord a b = BitVec.ofNat 32 (a.toNat % b.toNat) := if_neg h

theorem divExact_zero (a : Word) : divExact a 0 = if 0 ≤ a.toInt then 0x7FFFFFFF else -0x80000000 := if_pos rfl

/-- A result that the clamp leaves as it is sets no SAT (R104). -/
theorem State.writesSat_of_fits (s : State) (c : CoreId) (rd : WReg) {v : Int} (h : clamp 32 v = v) :
    s.writesSat c rd v = s.writes c rd (BitVec.ofInt 32 v) := by
  have sat : clamps 32 v = false := by simp only [clamps, h, bne_self_eq_false]
  simp only [State.writesSat, State.writes, sat32, h, sat, Core.sticky, Bool.false_eq_true, if_false]

/-- DIV by zero saturates toward the sign of the dividend and leaves SAT alone (R98). -/
theorem State.writesSat_divZero (s : State) (c : CoreId) (rd : WReg) (a : Word) :
    s.writesSat c rd (divExact a 0) = s.writes c rd (if 0 ≤ a.toInt then 0x7FFFFFFF else 0x80000000) := by
  rw [divExact_zero]
  split
  · exact s.writesSat_of_fits c rd (by decide)
  · exact s.writesSat_of_fits c rd (by decide)

/-- The one quotient that no word holds (R98). -/
theorem divExact_overflow : divExact 0x80000000 0xFFFFFFFF = 0x80000000 := by decide

theorem State.writesSat_overflow (s : State) (c : CoreId) (rd : WReg) : s.writesSat c rd 0x80000000 =
    s.retire c (s.pc c + 4) fun k => (k.setReg rd 0x7FFFFFFF).sticky true := by
  rw [State.writesSat, show sat32 0x80000000 = 0x7FFFFFFF by decide, show clamps 32 0x80000000 = true by decide]

/-- Settles O7: each row is `exec_alu` with its word, and DIV is `exec_aluSat` with its exact quotient. -/
theorem integerInstructions : Obligations.IntegerInstructions := by
  unfold Obligations.IntegerInstructions
  refine ⟨fun s c rd rs1 rs2 h => ?_, fun s c rd rs1 rs2 h => ?_⟩
  · exact ⟨exec_alu rfl h rfl, exec_alu rfl h rfl, exec_alu rfl h rfl, exec_alu rfl h rfl, exec_alu rfl h rfl,
      exec_alu rfl h (by rw [shiftCount]), exec_alu rfl h (by rw [shiftCount]), exec_alu rfl h (by rw [shiftCount]),
      exec_alu rfl h (flagWord_slt _ _), exec_alu rfl h (flagWord_ult _ _),
      exec_alu rfl h (ite_slt _ _ _ _), exec_alu rfl h (ite_slt _ _ _ _),
      exec_alu rfl h (ite_ult _ _ _ _), exec_alu rfl h (ite_ult _ _ _ _),
      exec_alu rfl h (mul_eq_ofInt_toInt _ _), exec_alu rfl h rfl, exec_alu rfl h rfl,
      fun m le lt lead => exec_alu1 rfl h (by rw [clz_eq le lt lead])⟩
  · refine ⟨fun ne => ⟨exec_aluSat rfl h (divExact_of_ne ne), exec_alu rfl h (divuWord_of_ne ne),
      exec_alu rfl h (remWord_of_ne ne), exec_alu rfl h (remuWord_of_ne ne)⟩, fun zero => ?_, fun ha hb => ?_⟩
    · have byZero : ∀ f : Word → Word → Word, f ((s.dev.core c).reg rs1) ((s.dev.core c).reg rs2) =
          f ((s.dev.core c).reg rs1) 0 := fun f => by rw [zero]
      refine ⟨?_, exec_alu rfl h (byZero divuWord), exec_alu rfl h (byZero remWord), exec_alu rfl h (byZero remuWord)⟩
      rw [← State.writesSat_divZero]
      exact exec_aluSat rfl h (by rw [zero])
    · refine ⟨?_, exec_alu rfl h (by rw [ha, hb]; decide)⟩
      rw [← State.writesSat_overflow]
      exact exec_aluSat rfl h (by rw [ha, hb, divExact_overflow])

end Sys2Proof.Machine
end

section
/-! PROOFS. Branches and jumps (O9). -/

namespace Sys2Proof.Machine

/-- An instruction that changes its core and goes on at a target. -/
theorem State.retire_jump {s : State} {c : CoreId} {k : InsnClass} {body : Device → Retire} {f : Core → Core} {t : Word}
    (h : s.dev.ready c k)
    (hb : body (s.dev.fetched c) = .jump ((s.dev.fetched c).setCore c (f (s.dev.core c))) t) :
    s.on (fun d => d.issue c k false body) = .next (s.retire c t f) := by
  rw [State.on, State.retire, Device.issue_ready body h, hb, Retire.finish, Device.setPc, Device.core_setCore,
    Device.setCore_setCore]

/-- An instruction that meets a cause once it is fetched. -/
theorem State.stop_ok {s : State} {c : CoreId} {k : InsnClass} {body : Device → Retire} {f : CoreFault}
    (h : s.dev.ready c k) (hb : body (s.dev.fetched c) = .stop (s.dev.fetched c) f) :
    s.on (fun d => d.issue c k false body) = .next { s with dev := (s.dev.fetched c).coreFault c f } := by
  rw [State.on, Device.issue_ready body h, hb, Retire.finish]

section Rows

variable {s : State} {c : CoreId} {rd rs1 rs2 : WReg} {i : Instr}

/-- A branch goes to its target where its condition holds, else on, and changes nothing else (R103). -/
theorem exec_branch {off : BitVec 16} {taken : Word → Word → Bool} {p : Prop} [Decidable p]
    (hi : exec i s = s.on fun d => d.branch c rs1 rs2 off taken) (h : s.dev.ready c .all)
    (hp : taken ((s.dev.core c).reg rs1) ((s.dev.core c).reg rs2) = decide p) :
    exec i s = .next (s.retire c (if p then s.pc c + 4 * off.signExtend 32 else s.pc c + 4) id) := by
  have here : (s.dev.fetched c).setCore c (id (s.dev.core c)) = s.dev.fetched c := by
    rw [id, ← Device.fetched_self h, Device.setCore_self]
  rw [hi]
  unfold Device.branch
  by_cases go : p
  · rw [if_pos go]
    refine State.retire_jump h ?_
    rw [Device.fetched_regs h, Device.fetched_regs h, hp, decide_eq_true go, if_pos rfl, Device.fetched_self h, here]
    rfl
  · rw [if_neg go]
    refine State.retire_unchanged h ?_
    rw [Device.fetched_regs h, Device.fetched_regs h, hp, decide_eq_false go, if_neg Bool.false_ne_true]

theorem exec_j (h : s.dev.ready c .all) (far : BitVec 26) :
    exec (.j c far) s = .next (s.retire c (s.pc c + 4 * far.signExtend 32) id) := by
  refine State.retire_jump (body := fun d => .jump d (jumpTarget (d.core c).pc far)) h ?_
  rw [Device.fetched_self h, id, ← Device.fetched_self h, Device.setCore_self, Device.fetched_self h]
  rfl

theorem exec_jal (h : s.dev.ready c .all) (far : BitVec 26) : exec (.jal c far) s =
    .next (s.retire c (s.pc c + 4 * far.signExtend 32) fun k => k.setReg 31 (s.pc c + 4)) := by
  refine State.retire_jump
    (body := fun d => .jump (d.setReg c 31 ((d.core c).pc + 4)) (jumpTarget (d.core c).pc far)) h ?_
  rw [Device.setReg, Device.fetched_self h]
  rfl

/-- What JALR does once it is fetched (R103). -/
def jalrBody (c : CoreId) (rd rs1 : WReg) (imm : BitVec 16) (d : Device) : Retire :=
  let t := d.reg c rs1 + immS imm
  if t.toNat % 4 != 0 then .stop d (.align t false) else .jump (d.setReg c rd ((d.core c).pc + 4)) t

theorem exec_jalr_on (s : State) (c : CoreId) (rd rs1 : WReg) (imm : BitVec 16) :
    exec (.jalr c rd rs1 imm) s = s.on fun d => d.issue c .all false (jalrBody c rd rs1 imm) := rfl

theorem jalrBody_fetched (h : s.dev.ready c .all) (imm : BitVec 16) : jalrBody c rd rs1 imm (s.dev.fetched c) =
    let t := (s.dev.core c).reg rs1 + imm.signExtend 32
    if t.toNat % 4 != 0 then .stop (s.dev.fetched c) (.align t false)
    else .jump ((s.dev.fetched c).setCore c ((s.dev.core c).setReg rd (s.pc c + 4))) t := by
  rw [jalrBody, Device.fetched_regs h, Device.setReg, Device.fetched_self h]
  rfl

theorem exec_jalr_aligned (h : s.dev.ready c .all) {imm : BitVec 16} {t : Word}
    (ht : (s.dev.core c).reg rs1 + imm.signExtend 32 = t) (al : t.toNat % 4 = 0) :
    exec (.jalr c rd rs1 imm) s = .next (s.retire c t fun k => k.setReg rd (s.pc c + 4)) := by
  rw [exec_jalr_on]
  refine State.retire_jump h ?_
  rw [jalrBody_fetched h, ht]
  exact if_neg (by rw [al]; decide)

theorem exec_jalr_misaligned (h : s.dev.ready c .all) {imm : BitVec 16} {t : Word}
    (ht : (s.dev.core c).reg rs1 + imm.signExtend 32 = t) (al : t.toNat % 4 ≠ 0) : exec (.jalr c rd rs1 imm) s =
    .next { s with dev := (s.dev.fetched c).coreFault c (.align t false) } := by
  rw [exec_jalr_on]
  refine State.stop_ok h ?_
  rw [jalrBody_fetched h, ht]
  exact if_pos (bne_iff_ne.2 al)

end Rows

/-- Settles O9: the six branches differ in their condition alone; JALR by the alignment of its target. -/
theorem branchesAndJumps : Obligations.BranchesAndJumps := by
  unfold Obligations.BranchesAndJumps
  intro s c rd rs1 rs2 off imm far h
  refine ⟨exec_branch rfl h (Bool.beq_eq_decide_eq _ _), exec_branch rfl h ?_, exec_branch rfl h rfl,
    exec_branch rfl h ?_, exec_branch rfl h rfl, exec_branch rfl h ?_, exec_j h far, exec_jal h far,
    exec_jalr_aligned h rfl, exec_jalr_misaligned h rfl⟩
  · simp only [bne, Bool.beq_eq_decide_eq, ne_eq, decide_not]
  · simp only [BitVec.slt, ← Int.not_lt, decide_not]
  · simp only [BitVec.ult, ← Nat.not_lt, decide_not]

end Sys2Proof.Machine
end

section
/-! PROOFS. The accumulators and the saturating operations (O10). -/

namespace Sys2Proof.Machine

/-! ### Results that the clamp leaves as they are (R104) -/

theorem clamp_eq_self {b : Nat} {v : Int} (lo : -2 ^ (b - 1) ≤ v) (hi : v < 2 ^ (b - 1)) : clamp b v = v := by
  unfold clamp
  rw [if_neg (not_lt.2 lo), if_neg (not_lt.2 (Int.le_sub_one_of_lt hi))]

theorem State.accumulates_of_fits (s : State) (c : CoreId) (a : AReg) {v : Int} (h : clamp 72 v = v) :
    s.accumulates c a v = s.setsAcc c a (BitVec.ofInt 72 v) := by
  have sat : clamps 72 v = false := by simp only [clamps, h, bne_self_eq_false]
  simp only [State.accumulates, State.setsAcc, sat72, h, sat, Core.sticky, Bool.false_eq_true, if_false]

/-- A product of words lies in the 72 bits of an accumulator. -/
theorem abs_prod_le (a b : Word) : |a.toInt * b.toInt| ≤ 2 ^ 62 := by
  have bound : ∀ x : Word, |x.toInt| ≤ 2 ^ 31 := fun x =>
    abs_le.2 ⟨x.le_toInt, le_of_lt x.toInt_lt⟩
  calc |a.toInt * b.toInt| = |a.toInt| * |b.toInt| := abs_mul _ _
    _ ≤ 2 ^ 31 * 2 ^ 31 := mul_le_mul (bound a) (bound b) (abs_nonneg _) (by decide)
    _ = 2 ^ 62 := by decide

theorem clamp_72_of_abs_le {v : Int} (h : |v| ≤ 2 ^ 62) : clamp 72 v = v := by
  obtain ⟨lo, hi⟩ := abs_le.1 h
  exact clamp_eq_self (le_trans (by decide) lo) (lt_of_le_of_lt hi (by decide))

section Rows

variable {s : State} {c : CoreId} {i : Instr}

theorem Device.fetched_acc {k : InsnClass} (h : s.dev.ready c k) (a : AReg) :
    (s.dev.fetched c).acc c a = (s.dev.core c).acc[a] := by
  rw [Device.acc, Device.fetched_self h]

/-- The row of the ACC group: the clamped value of the old accumulator and the product (R105). -/
theorem exec_accOp {ad : AReg} {rs1 rs2 : WReg} {p : Word → Word → Int} {f : Int → Int → Int} {v : Int}
    (hi : exec i s = s.on fun d => d.accOp c ad rs1 rs2 p f) (h : s.dev.ready c .all)
    (hv : f ((s.dev.core c).acc[ad]).toInt (p ((s.dev.core c).reg rs1) ((s.dev.core c).reg rs2)) = v) :
    exec i s = .next (s.accumulates c ad v) :=
  hi.trans (State.acc_ok (f := fun d => f (d.acc c ad).toInt (p (d.reg c rs1) (d.reg c rs2))) h
    (by simpa only [Device.fetched_acc h, Device.fetched_regs h]))

/-- EXT rounds the accumulator and clamps it (R106). -/
theorem exec_ext {w : WReg} {a : AReg} {n : BitVec 6} {mode : BitVec 2} {m : RoundMode} (h : s.dev.ready c .all)
    (hm : roundMode mode = some m) :
    exec (.ext c w a n mode) s = .next (s.writesSat c w (roundBits m ((s.dev.core c).acc[a]).toInt n.toNat)) := by
  have row : exec (.ext c w a n mode) s = s.on fun d => d.issue c .all (roundMode mode).isNone fun d =>
      let v := roundBits ((roundMode mode).getD .floor) (d.acc c a).toInt n.toNat
      .ok ((d.setReg c w (sat32 v)).markSat c (clamps 32 v)) := rfl
  rw [row, hm]
  exact State.writesSat_ok (f := fun d => roundBits m (d.acc c a).toInt n.toNat) h
    (congrArg (fun x : Acc => roundBits m x.toInt n.toNat) (Device.fetched_acc h a))

/-- A reserved field value is undefined (R92). -/
theorem exec_reserved {k : InsnClass} {reserved : Bool} {body : Device → Retire}
    (hi : exec i s = s.on fun d => d.issue c k reserved body) (h : s.dev.ready c k) (hr : reserved = true) :
    exec i s = .next { s with dev := (s.dev.fetched c).coreFault c .undef } := by
  rw [hi, hr, State.on, Device.issue_reserved body h]

theorem exec_setsAcc {a : AReg} {f : Device → Acc} {v : Acc}
    (hi : exec i s = s.on fun d => d.issue c .all false fun d => .ok (d.setAcc c a (f d))) (h : s.dev.ready c .all)
    (hv : f (s.dev.fetched c) = v) : exec i s = .next (s.setsAcc c a v) :=
  hi.trans (State.setsAcc_ok h hv)

theorem exec_accSat {a : AReg} {f : Device → Int} {v : Int}
    (hi : exec i s = s.on fun d => d.issue c .all false fun d => .ok (d.accSat c a (f d))) (h : s.dev.ready c .all)
    (hv : f (s.dev.fetched c) = v) : exec i s = .next (s.accumulates c a v) :=
  hi.trans (State.acc_ok h hv)

theorem exec_writes {k : InsnClass} {rd : WReg} {f : Device → Word} {v : Word}
    (hi : exec i s = s.on fun d => d.issue c k false fun d => .ok (d.setReg c rd (f d))) (h : s.dev.ready c k)
    (hv : f (s.dev.fetched c) = v) : exec i s = .next (s.writes c rd v) :=
  hi.trans (State.writes_ok h hv)

theorem exec_ashl {a : AReg} {n : BitVec 6} (h : s.dev.ready c .all) (hn : n.toNat < 16) :
    exec (.ashl c a n) s = .next (s.accumulates c a (((s.dev.core c).acc[a]).toInt * 2 ^ n.toNat)) := by
  have row : exec (.ashl c a n) s = s.on fun d => d.issue c .all (decide (16 ≤ n.toNat)) fun d =>
      .ok (d.accSat c a ((d.acc c a).toInt * 2 ^ n.toNat)) := rfl
  rw [decide_eq_false (not_le.2 hn)] at row
  exact exec_accSat (f := fun d => (d.acc c a).toInt * 2 ^ n.toNat) row h
    (congrArg (fun x : Acc => x.toInt * 2 ^ n.toNat) (Device.fetched_acc h a))

end Rows

/-- An arithmetic shift right divides and rounds down. -/
theorem sshiftRight_eq_ofInt_div (x : Acc) (n : Nat) : x.sshiftRight n = BitVec.ofInt 72 (x.toInt / 2 ^ n) := by
  rw [BitVec.sshiftRight_eq, Int.shiftRight_eq_div_pow]
  norm_cast

theorem extractLsb_append_middle (x : Acc) :
    x.extractLsb' 32 40 = x.extractLsb' 64 8 ++ x.extractLsb' 32 32 :=
  (BitVec.extractLsb'_append_extractLsb'_eq_extractLsb' (start₁ := 32) (len₁ := 32) rfl).symm

/-- Settles O10: the ACC group is `exec_accOp`, QOPS `exec_aluSat`; each row of AMOV writes what its name says. -/
theorem accumulatorInstructions : Obligations.AccumulatorInstructions := by
  unfold Obligations.AccumulatorInstructions
  refine ⟨fun s c ad rs1 rs2 h => ?_, fun s c w a b n mode h => ?_, fun s c rd rs1 rs2 h => ?_⟩
  · have product := abs_prod_le ((s.dev.core c).reg rs1) ((s.dev.core c).reg rs2)
    refine ⟨exec_accOp rfl h rfl, exec_accOp rfl h rfl, ?_, ?_, exec_accOp rfl h rfl, exec_accOp rfl h rfl⟩
    · rw [← s.accumulates_of_fits c ad (clamp_72_of_abs_le product)]
      exact exec_accOp rfl h rfl
    · rw [← s.accumulates_of_fits c ad (clamp_72_of_abs_le (by rwa [abs_neg]))]
      exact exec_accOp rfl h rfl
  · have acc := Device.fetched_acc h
    have reg := Device.fetched_regs h w
    refine ⟨fun m => exec_ext h, fun three => exec_reserved rfl h (by rw [three]; decide), exec_setsAcc rfl h rfl,
      exec_setsAcc rfl h ?_, exec_accSat rfl h ?_, exec_accSat rfl h ?_, exec_ashl h,
      fun big => exec_reserved rfl h (decide_eq_true big), exec_setsAcc rfl h ?_, exec_writes rfl h ?_,
      exec_writes rfl h ?_, exec_writes rfl h ?_, exec_setsAcc rfl h ?_, exec_setsAcc rfl h ?_, exec_setsAcc rfl h ?_⟩
    · rw [reg]
    · rw [acc, acc]
    · rw [acc, acc]
    · rw [acc, sshiftRight_eq_ofInt_div]
    · rw [acc]
    · rw [acc]
    · rw [acc]
    · rw [acc, reg, extractLsb_append_middle]
    · rw [acc, reg]
    · rw [acc, reg]
  · exact ⟨exec_aluSat rfl h rfl, exec_aluSat rfl h rfl, exec_aluSat rfl h rfl, exec_aluSat rfl h rfl,
      exec_aluSat rfl h rfl, exec_aluSat rfl h (Int.abs_eq_natAbs _).symm, exec_aluSat rfl h (by rw [shiftCount]),
      exec_alu rfl h (by rw [shiftCount])⟩

end Sys2Proof.Machine
end

section
/-! PROOFS. The vector instructions of S (O11). -/

namespace Sys2Proof.Machine

/-! ### The sticky flag (R104) -/

theorem putField_putField (w : Word) (lsb width v : Nat) (h : lsb + width ≤ 32) :
    putField (putField w lsb width v) lsb width v = putField w lsb width v := by
  have same := fieldOf_putField_same w lsb width v h
  have bound : v % 2 ^ width * 2 ^ lsb ≤ (putField w lsb width v).toNat := by
    rw [putField_toNat w lsb width v h]
    omega
  apply BitVec.eq_of_toNat_eq
  rw [putField, same, BitVec.toNat_ofNat, Nat.sub_add_cancel bound, Nat.mod_eq_of_lt (BitVec.isLt _)]

theorem Store.erase_erase {β : Type} (m : List (Nat × β)) (k : Nat) :
    Store.erase (Store.erase m k) k = Store.erase m k := by
  induction m with
  | nil => rfl
  | cons e t ih =>
    by_cases h : k = e.1
    · rw [Store.erase, if_pos h, ih]
    · rw [Store.erase, if_neg h, Store.erase, if_neg h, ih]

theorem Store.insert_insert {β : Type} (m : List (Nat × β)) (k : Nat) (v : β) :
    Store.insert (Store.insert m k v) k v = Store.insert m k v := by
  have front : ∀ t : List (Nat × β), Store.insert ((k, v) :: t) k v = (k, v) :: t := fun t => by
    rw [Store.insert, if_neg (lt_irrefl k), if_pos rfl]
  induction m with
  | nil => exact front []
  | cons e t ih =>
    by_cases lt : k < e.1
    · rw [Store.insert, if_pos lt, front]
    · by_cases eq : k = e.1
      · rw [Store.insert, if_neg lt, if_pos eq, front]
      · rw [Store.insert, if_neg lt, if_neg eq, Store.insert, if_neg lt, if_neg eq, ih]

theorem RegMap.setWord_setWord (m : RegMap) (a : Nat) (w : Word) : (m.setWord a w).setWord a w = m.setWord a w := by
  unfold RegMap.setWord Store.set
  split
  · exact Store.erase_erase m a
  · exact Store.insert_insert m a w

theorem RegMap.put_put (m : RegMap) (f : Fld) (v : Nat) (h : f.fits = true) : (m.put f v).put f v = m.put f v := by
  have fits : f.lsb + f.width ≤ 32 := of_decide_eq_true h
  rw [RegMap.put, RegMap.put, RegMap.word_setWord_same, putField_putField _ _ _ _ fits, RegMap.setWord_setWord]

theorem Core.sticky_sticky (k : Core) (a b : Bool) : (k.sticky a).sticky b = k.sticky (a || b) := by
  cases a with
  | false => rfl
  | true =>
    cases b with
    | false => rfl
    | true => exact congrArg (fun st => { k with st := st }) (k.st.put_put F.ST_STATUS_SAT 1 (by decide))

theorem Core.sticky_acc (k : Core) (b : Bool) (x : Vector Acc 4) :
    ({ k.sticky b with acc := x } : Core) = ({ k with acc := x } : Core).sticky b := by
  cases b <;> rfl

/-! ### Lanes (R114) -/

theorem ofLanes_lane (q : QWord) : ofLanes (lane q) = q := by
  have join : ∀ start len : Nat, q.extractLsb' (start + len) 32 ++ q.extractLsb' start len =
      q.extractLsb' start (32 + len) := fun _ _ => BitVec.extractLsb'_append_extractLsb'_eq_extractLsb' rfl
  calc ofLanes (lane q) = q.extractLsb' 96 32 ++ q.extractLsb' 64 32 ++ q.extractLsb' 32 32 ++ q.extractLsb' 0 32 := rfl
    _ = q.extractLsb' 64 64 ++ q.extractLsb' 32 32 ++ q.extractLsb' 0 32 := by rw [join 64 32]
    _ = q.extractLsb' 32 96 ++ q.extractLsb' 0 32 := by
      rw [BitVec.extractLsb'_append_extractLsb'_eq_extractLsb' (start₁ := 32) (len₁ := 32) (len₂ := 64) rfl]
    _ = q.extractLsb' 0 128 :=
      BitVec.extractLsb'_append_extractLsb'_eq_extractLsb' (start₁ := 0) (len₁ := 32) (len₂ := 96) rfl
    _ = q := BitVec.extractLsb'_eq_self

section Lanes

variable {s : State} {i : Instr}

theorem Device.fetched_qreg {c : CoreId} {k : InsnClass} (h : s.dev.ready c k) (q : QReg) :
    (s.dev.fetched c).qreg c q = (s.dev.core c).q[q] := by
  rw [Device.qreg, Device.fetched_self h]

/-- An instruction of S that writes a vector register of given lanes. -/
theorem exec_setsLanes {q : QReg} {f : Device → QWord} {g : Nat → Word}
    (hi : exec i s = s.on fun d => d.issue .s .stream false fun d => .ok (d.setQ .s q (f d)))
    (h : s.dev.ready .s .stream) (hv : f (s.dev.fetched .s) = ofLanes g) : exec i s = .next (s.setsLanes .s q g) := by
  refine hi.trans (State.retire_ok (f := fun k => { k with q := k.q.set q (ofLanes g) }) h ?_ rfl)
  rw [Device.setQ, hv, Device.fetched_self h]

/-- An instruction of S that writes a vector register of exact lanes, each clamped. -/
theorem exec_setsLanesSat {q : QReg} {f : Device → Nat → Int} {g : Nat → Int}
    (hi : exec i s = s.on fun d => d.issue .s .stream false fun d =>
      .ok ((d.setQ .s q (ofLanes fun j => sat32 (f d j))).markSat .s ([0, 1, 2, 3].any fun j => clamps 32 (f d j))))
    (h : s.dev.ready .s .stream) (hv : f (s.dev.fetched .s) = g) : exec i s = .next (s.setsLanesSat .s q g) := by
  refine hi.trans (State.retire_ok (f := fun k => ({ k with q := k.q.set q (ofLanes fun j => sat32 (g j)) } : Core).sticky
    ([0, 1, 2, 3].any fun j => clamps 32 (g j))) h ?_ (Core.sticky_pc _ _))
  rw [hv, Device.setQ, Device.fetched_self h, Device.markSat_setCore]

theorem exec_vec {vd vs1 vs2 : QReg} {f : Word → Word → Word} {g : Nat → Word}
    (hi : exec i s = s.on fun d => d.vec .s vd vs1 vs2 f) (h : s.dev.ready .s .stream)
    (hv : ∀ j, f (lane ((s.dev.core .s).q[vs1]) j) (lane ((s.dev.core .s).q[vs2]) j) = g j) :
    exec i s = .next (s.setsLanes .s vd g) :=
  exec_setsLanes (f := fun d => ofLanes fun j => f (lane (d.qreg .s vs1) j) (lane (d.qreg .s vs2) j)) hi h
    (by simp only [Device.fetched_qreg h, hv])

theorem exec_vecSat {vd vs1 vs2 : QReg} {f : Word → Word → Int} {g : Nat → Int}
    (hi : exec i s = s.on fun d => d.vecSat .s vd vs1 vs2 f) (h : s.dev.ready .s .stream)
    (hv : ∀ j, f (lane ((s.dev.core .s).q[vs1]) j) (lane ((s.dev.core .s).q[vs2]) j) = g j) :
    exec i s = .next (s.setsLanesSat .s vd g) :=
  exec_setsLanesSat (f := fun d => laneOp f (d.qreg .s vs1) (d.qreg .s vs2)) hi h
    (funext fun j => by rw [laneOp, Device.fetched_qreg h, Device.fetched_qreg h, hv])

end Lanes

/-! ### The four accumulators (R116) -/

/-- Four accumulators written one after the other. -/
theorem foldl_set_acc (v : Fin 4 → Acc) (acc : Vector Acc 4) :
    (List.finRange 4).foldl (fun acc (i : Fin 4) => acc.set i (v i)) acc = .ofFn v := by
  ext i hi
  have four : List.finRange 4 = [0, 1, 2, 3] := rfl
  obtain rfl | rfl | rfl | rfl : i = 0 ∨ i = 1 ∨ i = 2 ∨ i = 3 := by omega
  all_goals simp [four]

theorem Device.setAcc_setCore (d : Device) (c : CoreId) (k : Core) (a : AReg) (v : Acc) :
    (d.setCore c k).setAcc c a v = d.setCore c { k with acc := k.acc.set a v } := by
  rw [Device.setAcc, Device.core_setCore, Device.setCore_setCore]

theorem Device.foldl_setAcc (d : Device) (c : CoreId) (v : Fin 4 → Acc) (l : List (Fin 4)) (k : Core) :
    l.foldl (fun e i => e.setAcc c i (v i)) (d.setCore c k) =
      d.setCore c { k with acc := l.foldl (fun acc (i : Fin 4) => acc.set i (v i)) k.acc } := by
  induction l generalizing k with
  | nil => rfl
  | cons i t ih => rw [List.foldl_cons, Device.setAcc_setCore, ih, List.foldl_cons]

/-- Clamped accumulators written one after the other: SAT is set where any was clamped. -/
theorem Device.foldl_accSat (d : Device) (c : CoreId) (v : Fin 4 → Int) (l : List (Fin 4)) (k : Core) :
    l.foldl (fun e i => e.accSat c i (v i)) (d.setCore c k) =
      d.setCore c (({ k with acc := l.foldl (fun acc (i : Fin 4) => acc.set i (sat72 (v i))) k.acc } : Core).sticky
        (l.any fun i => clamps 72 (v i))) := by
  induction l generalizing k with
  | nil => rfl
  | cons i t ih =>
    have acc : ∀ (k : Core) (b : Bool), (k.sticky b).acc = k.acc := fun k b => by cases b <;> rfl
    rw [List.foldl_cons, Device.accSat, Device.setAcc_setCore, Device.markSat_setCore, ih, acc, Core.sticky_acc,
      Core.sticky_sticky, List.foldl_cons, List.any_cons]

section Accumulators

variable {s : State} {i : Instr}

/-- An instruction of S that writes its four accumulators. -/
theorem exec_setsAccs {f : Device → Fin 4 → Acc} {v : Fin 4 → Acc}
    (hi : exec i s = s.on fun d => d.issue .s .stream false fun d =>
      .ok ((List.finRange 4).foldl (fun e j => e.setAcc .s j (f d j)) d))
    (h : s.dev.ready .s .stream) (hv : f (s.dev.fetched .s) = v) :
    exec i s = .next (s.retire .s (s.pc .s + 4) fun k => { k with acc := .ofFn v }) := by
  refine hi.trans (State.retire_ok (f := fun k => { k with acc := .ofFn v }) h ?_ rfl)
  have fold := (s.dev.fetched .s).foldl_setAcc .s v (List.finRange 4) (s.dev.core .s)
  rw [← Device.fetched_self h, Device.setCore_self, foldl_set_acc] at fold
  rw [hv, fold, Device.fetched_self h]

/-- The row of the VMAC group: each accumulator takes the clamped value of its old one and its product (R116). -/
theorem exec_vecAcc {qa : QReg} {g : Device → Nat → Word} {f : Int → Int → Int} {v : Fin 4 → Int}
    (hi : exec i s = s.on fun d => d.vecAcc .s qa g f) (h : s.dev.ready .s .stream)
    (hv : ∀ j : Fin 4, f ((s.dev.core .s).acc[j]).toInt
      ((lane ((s.dev.core .s).q[qa]) j.val).toInt * (g (s.dev.fetched .s) j.val).toInt) = v j) :
    exec i s = .next (s.retire .s (s.pc .s + 4) fun k =>
      ({ k with acc := .ofFn fun j => sat72 (v j) } : Core).sticky ((List.finRange 4).any fun j => clamps 72 (v j))) := by
  unfold Device.vecAcc at hi
  refine hi.trans (State.retire_ok (f := fun k => ({ k with acc := .ofFn fun j => sat72 (v j) } : Core).sticky
    ((List.finRange 4).any fun j => clamps 72 (v j))) h ?_ (Core.sticky_pc _ _))
  have fold := (s.dev.fetched .s).foldl_accSat .s v (List.finRange 4) (s.dev.core .s)
  rw [← Device.fetched_self h, Device.setCore_self, foldl_set_acc] at fold
  have row : ∀ j : Fin 4, f ((s.dev.fetched .s).acc .s j).toInt
      (prod (lane ((s.dev.fetched .s).qreg .s qa) j.val) (g (s.dev.fetched .s) j.val)) = v j := fun j => by
    rw [Device.fetched_acc h, Device.fetched_qreg h]
    exact hv j
  simp only [row]
  rw [fold, Device.fetched_self h]

end Accumulators

theorem exec_vaclr {s : State} (h : s.dev.ready .s .stream) :
    exec (.vaclr .s) s = .next (s.retire .s (s.pc .s + 4) fun k => { k with acc := .replicate 4 0 }) := by
  have zero : (Vector.ofFn fun _ : Fin 4 => (0 : Acc)) = .replicate 4 0 := rfl
  rw [← zero]
  exact exec_setsAccs (f := fun _ _ => 0) rfl h rfl

theorem State.retire_congr {s : State} {c : CoreId} {t : Word} {f g : Core → Core}
    (h : f (s.dev.core c) = g (s.dev.core c)) : s.retire c t f = s.retire c t g := by
  rw [State.retire, h, State.retire]

/-- Accumulator `i` holds lane `i` of a vector register as the fixed-point number it is (R116). -/
def Core.asetLanes (qa : QReg) (k : Core) : Core :=
  { k with acc := .ofFn fun i => BitVec.ofInt 72 ((lane k.q[qa] i.val).toInt * 2 ^ 31) }

theorem exec_vaset {s : State} {qa : QReg} (h : s.dev.ready .s .stream) :
    exec (.vaset .s qa) s = .next (s.retire .s (s.pc .s + 4) (Core.asetLanes qa)) := by
  have row := exec_setsAccs (i := .vaset .s qa) rfl h
    (v := fun i => BitVec.ofInt 72 ((lane (s.dev.core .s).q[qa] i.val).toInt * 2 ^ 31))
    (funext fun j => by rw [Device.fetched_qreg h])
  rw [row, State.retire_congr]
  rfl

/-- VEXT rounds and clamps the accumulators into the lanes (R116). -/
theorem exec_vext {s : State} {qa : QReg} {n : BitVec 6} {mode : BitVec 2} {m : RoundMode} (h : s.dev.ready .s .stream)
    (hm : roundMode mode = some m) : exec (.vext .s qa n mode) s =
    .next (s.setsLanesSat .s qa fun i => roundBits m ((s.dev.core .s).acc.toList.getD i 0).toInt n.toNat) := by
  have row : exec (.vext .s qa n mode) s = s.on fun d => d.issue .s .stream (roundMode mode).isNone fun d =>
      let m := (roundMode mode).getD .floor
      let r : Nat → Int := fun i => roundBits m ((d.core .s).acc.toList.getD i 0).toInt n.toNat
      .ok ((d.setQ .s qa (ofLanes fun i => sat32 (r i))).markSat .s ([0, 1, 2, 3].any fun i => clamps 32 (r i))) := rfl
  rw [hm] at row
  exact exec_setsLanesSat (f := fun d i => roundBits m ((d.core .s).acc.toList.getD i 0).toInt n.toNat) row h
    (by rw [Device.fetched_self h])

/-- Settles O11: VALU is `exec_vec` and `exec_vecSat`, VMAC `exec_vecAcc`; VMOV writes the lanes that it names. -/
theorem vectorInstructions : Obligations.VectorInstructions := by
  unfold Obligations.VectorInstructions
  refine ⟨fun s vd vs1 vs2 n h => ?_, fun s qa qb w n mode h => ?_, fun s q q2 w i h => ?_⟩
  · exact ⟨exec_vec rfl h fun _ => rfl, exec_vec rfl h fun _ => rfl, exec_vecSat rfl h fun _ => rfl,
      exec_vecSat rfl h fun _ => rfl, exec_vecSat rfl h fun _ => rfl, exec_vec rfl h fun _ => ite_slt _ _ _ _,
      exec_vec rfl h fun _ => ite_slt _ _ _ _, exec_vecSat rfl h fun _ => (Int.abs_eq_natAbs _).symm,
      exec_vecSat rfl h fun _ => rfl, exec_vec rfl h fun _ => rfl, exec_vec rfl h fun _ => rfl,
      exec_vec rfl h fun _ => rfl, exec_vec rfl h fun _ => rfl, exec_vecSat rfl h fun _ => rfl⟩
  · have qreg := Device.fetched_qreg h
    have reg := Device.fetched_regs h w
    refine ⟨exec_vecAcc rfl h fun j => ?_, exec_vecAcc rfl h fun j => ?_, exec_vecAcc rfl h fun j => ?_,
      exec_vecAcc rfl h fun j => ?_, exec_vecAcc rfl h fun j => ?_, fun m => exec_vext h, exec_vaclr h,
      exec_vaset h⟩
    · rw [qreg]
    · rw [qreg]
    · rw [qreg]
    · rw [reg]
    · rw [reg]
  · have qreg := Device.fetched_qreg h
    have reg := Device.fetched_regs h w
    refine ⟨exec_setsLanes rfl h ?_, exec_writes rfl h ?_, exec_setsLanes rfl h ?_, exec_setsLanes rfl h ?_,
      exec_setsLanes rfl h ?_⟩
    · rw [reg]
    · rw [qreg]
    · rw [qreg, reg, putLane]
    · rw [qreg, ofLanes_lane]
    · rw [qreg]

end Sys2Proof.Machine
end

section
/-! PROOFS. The immediate instructions, and the instruction that a word is (O8). -/

namespace Sys2Proof.Machine

/-! ### The immediates (R99) -/

theorem immS_toInt (imm : BitVec 16) : (immS imm).toInt = imm.toInt :=
  BitVec.toInt_signExtend_of_le (by decide)

theorem immZ_shiftLeft (imm : BitVec 16) : immZ imm <<< 16 = BitVec.ofNat 32 (imm.toNat * 65536) := by
  have lt := imm.isLt
  apply BitVec.eq_of_toNat_eq
  rw [BitVec.toNat_shiftLeft, immZ, BitVec.toNat_setWidth, BitVec.toNat_ofNat, Nat.shiftLeft_eq]
  omega

/-- A rotation by 0 to 31 (R99). -/
theorem rotateRight_eq (a : Word) (n : BitVec 5) :
    a.rotateRight n.toNat = a >>> n.toNat ||| a <<< ((32 - n.toNat) % 32) := by
  have lt : n.toNat < 32 := n.isLt
  rw [BitVec.rotateRight_def, Nat.mod_eq_of_lt lt]
  by_cases zero : n.toNat = 0
  · simp [zero]
  · rw [Nat.mod_eq_of_lt (a := 32 - n.toNat) (by omega)]

/-! ### The fields of a word (R88 to R90) -/

theorem bitsAt_ofNat (x : Nat) {lo len : Nat} (h : lo + len ≤ 32) :
    bitsAt (BitVec.ofNat 32 x) lo len = x / 2 ^ lo % 2 ^ len := by
  have split : 2 ^ 32 = 2 ^ lo * 2 ^ (32 - lo) := by rw [← Nat.pow_add, Nat.add_sub_cancel' (by omega)]
  rw [bitsAt, BitVec.toNat_ofNat, split, Nat.mod_mul_right_div_self,
    Nat.mod_mod_of_dvd _ (Nat.pow_dvd_pow 2 (by omega))]

theorem wAt_eq {w : Word} {lo : Nat} {r : WReg} (h : bitsAt w lo 5 = r.val) : wAt w lo = r := by
  rw [wAt, h, Fin.ofNat_val_eq_self]

theorem aAt_eq {w : Word} {lo : Nat} {a : AReg} (h : bitsAt w lo 2 = a.val) : aAt w lo = a := by
  rw [aAt, h, Fin.ofNat_val_eq_self]

theorem ofNat_bitsAt_eq {w : Word} {lo len : Nat} {v : BitVec len} (h : bitsAt w lo len = v.toNat) :
    BitVec.ofNat len (bitsAt w lo len) = v := by
  rw [h, BitVec.ofNat_toNat, BitVec.setWidth_eq]

theorem ifClear_zero (c : CoreId) (i : Instr) : ifClear 0 c i = i := if_pos rfl

theorem ifClear_ne {n : Nat} (h : n ≠ 0) (c : CoreId) (i : Instr) : ifClear n c i = .undefInstruction c := if_neg h

/-- A word of formats I, S and B. -/
def wordI (major : Nat) (rd r1 : WReg) (imm : BitVec 16) : Word :=
  BitVec.ofNat 32 (major * 2 ^ 26 + rd.val * 2 ^ 21 + r1.val * 2 ^ 16 + imm.toNat)

section FormatI

variable (major : Nat) (rd r1 : WReg) (imm : BitVec 16)

@[simp] theorem wordI_major : bitsAt (wordI major rd r1 imm) 26 6 = major % 64 := by
  rw [wordI, bitsAt_ofNat _ (by decide)]
  omega

@[simp] theorem wordI_rd : wAt (wordI major rd r1 imm) 21 = rd := by
  apply wAt_eq
  rw [wordI, bitsAt_ofNat _ (by decide)]
  omega

@[simp] theorem wordI_r1 : wAt (wordI major rd r1 imm) 16 = r1 := by
  apply wAt_eq
  rw [wordI, bitsAt_ofNat _ (by decide)]
  omega

@[simp] theorem wordI_imm : immAt (wordI major rd r1 imm) = imm := by
  apply ofNat_bitsAt_eq
  rw [wordI, bitsAt_ofNat _ (by decide)]
  omega

end FormatI

/-- A word of format R, whose field x is 0. -/
def wordR (major f : Nat) (rd r1 r2 : WReg) : Word :=
  BitVec.ofNat 32 (major * 2 ^ 26 + rd.val * 2 ^ 21 + r1.val * 2 ^ 16 + r2.val * 2 ^ 11 + f)

section FormatR

variable (major : Nat) {f : Nat} (hf : f < 64) (rd r1 r2 : WReg)
include hf

@[simp] theorem wordR_major : bitsAt (wordR major f rd r1 r2) 26 6 = major % 64 := by
  rw [wordR, bitsAt_ofNat _ (by decide)]
  omega

@[simp] theorem wordR_rd : wAt (wordR major f rd r1 r2) 21 = rd := by
  apply wAt_eq
  rw [wordR, bitsAt_ofNat _ (by decide)]
  omega

@[simp] theorem wordR_r1 : wAt (wordR major f rd r1 r2) 16 = r1 := by
  apply wAt_eq
  rw [wordR, bitsAt_ofNat _ (by decide)]
  omega

@[simp] theorem wordR_r2 : wAt (wordR major f rd r1 r2) 11 = r2 := by
  apply wAt_eq
  rw [wordR, bitsAt_ofNat _ (by decide)]
  omega

@[simp] theorem wordR_x : bitsAt (wordR major f rd r1 r2) 6 5 = 0 := by
  rw [wordR, bitsAt_ofNat _ (by decide)]
  omega

@[simp] theorem wordR_function : bitsAt (wordR major f rd r1 r2) 0 6 = f := by
  rw [wordR, bitsAt_ofNat _ (by decide)]
  omega

end FormatR

/-- A word of format M in the AMOV group, whose field x is 0. -/
def wordM (f : Nat) (r : WReg) (a b : AReg) (n : BitVec 6) (mode : Nat) : Word :=
  BitVec.ofNat 32 (0x31 * 2 ^ 26 + r.val * 2 ^ 21 + a.val * 2 ^ 19 + b.val * 2 ^ 17 + n.toNat * 2 ^ 11 + mode * 2 ^ 9 + f)

section FormatM

variable {f mode : Nat} (hf : f < 64) (r : WReg) (a b : AReg) (n : BitVec 6)
include hf

@[simp] theorem wordM_x : bitsAt (wordM f r a b n mode) 6 3 = 0 := by
  rw [wordM, bitsAt_ofNat _ (by decide)]
  omega

@[simp] theorem wordM_function : bitsAt (wordM f r a b n mode) 0 6 = f := by
  rw [wordM, bitsAt_ofNat _ (by decide)]
  omega

variable (hm : mode < 4)
include hm

@[simp] theorem wordM_major : bitsAt (wordM f r a b n mode) 26 6 = 0x31 := by
  rw [wordM, bitsAt_ofNat _ (by decide)]
  omega

@[simp] theorem wordM_w : bitsAt (wordM f r a b n mode) 21 5 = r.val := by
  rw [wordM, bitsAt_ofNat _ (by decide)]
  omega

@[simp] theorem wordM_a : bitsAt (wordM f r a b n mode) 19 2 = a.val := by
  rw [wordM, bitsAt_ofNat _ (by decide)]
  omega

@[simp] theorem wordM_b : bitsAt (wordM f r a b n mode) 17 2 = b.val := by
  rw [wordM, bitsAt_ofNat _ (by decide)]
  omega

@[simp] theorem wordM_n : bitsAt (wordM f r a b n mode) 11 6 = n.toNat := by
  rw [wordM, bitsAt_ofNat _ (by decide)]
  omega

@[simp] theorem wordM_mode : bitsAt (wordM f r a b n mode) 9 2 = mode := by
  rw [wordM, bitsAt_ofNat _ (by decide)]
  omega

end FormatM

/-- A word of format Z. -/
def wordZ (major f : Nat) (code : BitVec 20) : Word := BitVec.ofNat 32 (major * 2 ^ 26 + code.toNat * 2 ^ 6 + f)

section FormatZ

variable (major : Nat) {f : Nat} (hf : f < 64) (code : BitVec 20)
include hf

@[simp] theorem wordZ_major : bitsAt (wordZ major f code) 26 6 = major % 64 := by
  rw [wordZ, bitsAt_ofNat _ (by decide)]
  omega

@[simp] theorem wordZ_code : bitsAt (wordZ major f code) 6 20 = code.toNat := by
  rw [wordZ, bitsAt_ofNat _ (by decide)]
  omega

@[simp] theorem wordZ_function : bitsAt (wordZ major f code) 0 6 = f := by
  rw [wordZ, bitsAt_ofNat _ (by decide)]
  omega

end FormatZ

/-! ### The rows of the map (R91) -/

section Rows

variable (c : CoreId) (rd r1 r2 : WReg) (imm : BitVec 16)

/-- The majors of formats I, S and B. -/
theorem decode_formatI :
    let i := fun major => decodeOpcia c (wordI major rd r1 imm)
    i 0x02 = .addi c rd r1 imm ∧ i 0x03 = .andi c rd r1 imm ∧ i 0x04 = .ori c rd r1 imm ∧ i 0x05 = .xori c rd r1 imm ∧
    i 0x06 = .slti c rd r1 imm ∧ i 0x07 = .sltiu c rd r1 imm ∧ i 0x10 = .lw c rd r1 imm .none ∧
    i 0x12 = .lhu c rd r1 imm .none ∧ i 0x13 = .lb c rd r1 imm .none ∧ i 0x15 = .sw c rd r1 imm ∧
    i 0x16 = .sh c rd r1 imm ∧ i 0x17 = .sb c rd r1 imm ∧ i 0x20 = .beq c rd r1 imm ∧ i 0x21 = .bne c rd r1 imm ∧
    i 0x22 = .blt c rd r1 imm ∧ i 0x25 = .bgeu c rd r1 imm ∧ i 0x28 = .jalr c rd r1 imm := by
  simp [decodeOpcia]

/-- The function codes of the ALU and QOPS groups. -/
theorem decode_formatR :
    let r := fun major f => decodeOpcia c (wordR major f rd r1 r2)
    r 0x01 0x00 = .add c rd r1 r2 ∧ r 0x01 0x01 = .sub c rd r1 r2 ∧ r 0x01 0x04 = .xor c rd r1 r2 ∧
    r 0x01 0x09 = .sltu c rd r1 r2 ∧ r 0x01 0x10 = .mul c rd r1 r2 ∧ r 0x01 0x14 = .div c rd r1 r2 ∧
    r 0x01 0x17 = .remu c rd r1 r2 ∧ r 0x32 0 = .qadd c rd r1 r2 ∧ r 0x32 3 = .qmulf c rd r1 r2 ∧
    r 0x32 7 = .qshr c rd r1 r2 := by
  simp [decodeOpcia, decodeAlu, decodeQops, ifClear]

variable {c} {w : Word}

theorem decodeOpcia_alu (h : bitsAt w 26 6 = 1) : decodeOpcia c w = decodeAlu c w := by
  simp only [decodeOpcia, h]

/-- A function code of the ALU group beyond CLZ is unlisted (R97). -/
theorem decodeAlu_unlisted (h : 0x19 ≤ bitsAt w 0 6) : decodeAlu c w = .undefInstruction c := by
  obtain ⟨k, hk⟩ := Nat.exists_eq_add_of_le' h
  unfold decodeAlu ifClear
  rw [hk]
  exact ite_self _

theorem decodeAlu_reserved (h : bitsAt w 6 5 ≠ 0) : decodeAlu c w = .undefInstruction c := ifClear_ne h c _

/-- The majors that R91 leaves unassigned. -/
theorem decodeOpcia_unassigned
    (h : bitsAt w 26 6 ∈ [0x00, 0x0B, 0x0F, 0x1A, 0x1F, 0x29, 0x2F, 0x33, 0x3C, 0x3E, 0x3F]) :
    decodeOpcia c w = .undefInstruction c := by
  simp only [List.mem_cons, List.not_mem_nil, or_false] at h
  obtain h | h | h | h | h | h | h | h | h | h | h := h
  all_goals simp only [decodeOpcia, h]

theorem bitsAt_top (w : Word) : bitsAt w 26 6 = w.toNat / 2 ^ 26 := by
  have lt := w.isLt
  unfold bitsAt
  omega

variable (c) (a b : AReg) (n : BitVec 6)

/-- EXT leaves b unused, and the mode 3 is reserved (R106). -/
theorem decode_ext {mode : Nat} (hm : mode < 4) : decodeOpcia c (wordM 0x00 rd a b n mode) =
    ifClear (b.val + mode / 3) c (.ext c rd a n (BitVec.ofNat 2 mode)) := by
  have hr : wAt (wordM 0x00 rd a b n mode) 21 = rd := wAt_eq (by simp [hm])
  have ha : aAt (wordM 0x00 rd a b n mode) 19 = a := aAt_eq (by simp [hm])
  have hn : BitVec.ofNat 6 (bitsAt (wordM 0x00 rd a b n mode) 11 6) = n := ofNat_bitsAt_eq (by simp [hm])
  simp only [decodeOpcia, decodeAmov, hr, ha, hn]
  simp [hm, ifClear_zero]

/-- AADD leaves w unused (R106). -/
theorem decode_aadd : decodeOpcia c (wordM 0x03 rd a b 0 0) = ifClear rd.val c (.aadd c a b) := by
  have ha : aAt (wordM 0x03 rd a b 0 0) 19 = a := aAt_eq (by simp)
  have hb : aAt (wordM 0x03 rd a b 0 0) 17 = b := aAt_eq (by simp)
  simp only [decodeOpcia, decodeAmov, ha, hb]
  simp [ifClear_zero]

variable (code : BitVec 20)

theorem decode_trap : decodeOpcia c (wordZ 0x38 4 code) = .trap c code := by
  simp [decodeOpcia, decodeSys]

theorem decode_wait : decodeOpcia c (wordZ 0x38 2 code) = ifClear code.toNat c (.wait c) := by
  simp [decodeOpcia, decodeSys]

theorem ifClear_wait_iff {m : Nat} : ifClear m c (.wait c) = .wait c ↔ m = 0 := by
  unfold ifClear
  split
  · simp [*]
  · simp [*]

theorem decode_jal (off : BitVec 26) : decodeOpcia c (BitVec.ofNat 32 (0x27 * 2 ^ 26 + off.toNat)) = .jal c off := by
  have lt := off.isLt
  have major : bitsAt (BitVec.ofNat 32 (0x27 * 2 ^ 26 + off.toNat)) 26 6 = 0x27 := by
    rw [bitsAt_ofNat _ (by decide)]
    omega
  have offset : BitVec.ofNat 26 (bitsAt (BitVec.ofNat 32 (0x27 * 2 ^ 26 + off.toNat)) 0 26) = off := by
    apply ofNat_bitsAt_eq
    rw [bitsAt_ofNat _ (by decide)]
    omega
  simp only [decodeOpcia, major, offset]

end Rows

/-- Settles O8: the immediates are `exec_alu1`; the words are decoded by the fields that their formats place. -/
theorem immediateGroup : Obligations.ImmediateGroup := by
  unfold Obligations.ImmediateGroup
  refine ⟨fun s c rd rs1 imm n h => ?_, fun c rd r1 r2 a b n m imm off code w => ?_⟩
  · refine ⟨exec_alu1 rfl h rfl, exec_alu1 rfl h rfl, exec_alu1 rfl h rfl, exec_alu1 rfl h rfl,
      exec_alu1 rfl h ?_, exec_alu1 rfl h (flagWord_ult _ _), exec_alu1 rfl h rfl, exec_alu1 rfl h rfl,
      exec_alu1 rfl h rfl, exec_alu1 rfl h (rotateRight_eq _ n), exec_alu1 rfl h (immZ_shiftLeft imm),
      exec_writes rfl h ?_⟩
    · rw [flagWord_slt, immS_toInt]
    · rw [Device.fetched_self h]
      rfl
  · obtain ⟨h02, h03, h04, h05, h06, h07, h10, h12, h13, h15, h16, h17, h20, h21, h22, h25, h28⟩ :=
      decode_formatI c rd r1 imm
    obtain ⟨add, sub, xor, sltu, mul, div, remu, qadd, qmulf, qshr⟩ := decode_formatR c rd r1 r2
    refine ⟨h02, h03, h04, h05, h06, h07, h10, h12, h13, h15, h16, h17, h20, h21, h22, h25, h28,
      add, sub, xor, sltu, mul, div, remu, qadd, qmulf, qshr, fun hb => ?_, ?_, fun hr => ?_, fun hr => ?_,
      decode_trap c code, ?_, decode_jal c off, fun f lo hi => ?_, fun one x => ?_, fun major => ?_⟩
    · refine (decode_ext c rd a b n (by omega)).trans ?_
      rw [hb, Nat.div_eq_of_lt m.isLt, ifClear_zero]
    · exact (decode_ext c rd a b n (mode := 3) (by decide)).trans (ifClear_ne (Nat.succ_ne_zero _) c _)
    · refine (decode_aadd c rd a b).trans ?_
      rw [hr, ifClear_zero]
    · exact (decode_aadd c rd a b).trans (ifClear_ne hr c _)
    · exact (ifClear_wait_iff c).symm.trans (decode_wait c code ▸ Iff.rfl)
    · refine (decodeOpcia_alu (wordR_major 1 hi rd r1 r2)).trans (decodeAlu_unlisted ?_)
      rwa [wordR_function 1 hi rd r1 r2]
    · exact (decodeOpcia_alu ((bitsAt_top w).trans one)).trans (decodeAlu_reserved x)
    · exact decodeOpcia_unassigned (bitsAt_top w ▸ major)

end Sys2Proof.Machine
end

section
/-! PROOFS. The stores (O18), with the bytes of a word that takes a part. -/

namespace Sys2Proof.Machine

/-! ### Bytes of words (R2, R101) -/

theorem ofNat_div_eq_extractLsb (v : Word) (k : Nat) :
    BitVec.ofNat 8 (v.toNat / 2 ^ (8 * k)) = (v >>> (8 * k)).extractLsb' 0 8 := by
  apply BitVec.eq_of_toNat_eq
  rw [BitVec.toNat_ofNat, BitVec.extractLsb'_toNat, BitVec.toNat_ushiftRight, Nat.shiftRight_zero,
    Nat.shiftRight_eq_div_pow]

/-- The bytes that a word store leaves: its own four, and no other. -/
theorem Device.byte_storeWord_eq (d : Device) {a : Nat} (al : a % 4 = 0) (w : Word) (x : Nat) :
    (d.storeWord a w).byte x = if a ≤ x ∧ x < a + 4 then (w >>> (8 * (x - a))).extractLsb' 0 8 else d.byte x := by
  split
  · next inside =>
    have byte := (d.storeWord a w).memWord_byte a (k := x - a) (by omega)
    rw [d.memWord_storeWord al, Nat.add_sub_cancel' inside.1] at byte
    exact byte.symm
  · next outside => exact d.byte_storeWord_outside al w (by omega)

/-- The bits of a word that takes `size` bytes of `v` from byte `lane` on. -/
theorem getLsbD_mergeWord (old v : Word) {size lane i : Nat} (hi : i < 32) : (mergeWord old v size lane).getLsbD i =
    if 8 * lane ≤ i ∧ i < 8 * (lane + size) then v.getLsbD (i - 8 * lane) else old.getLsbD i := by
  have mask : (BitVec.ofNat 32 (2 ^ (8 * size) - 1) <<< (8 * lane)).getLsbD i =
      decide (8 * lane ≤ i ∧ i < 8 * (lane + size)) := by
    rw [BitVec.getLsbD_shiftLeft, BitVec.getLsbD_ofNat, Nat.testBit_two_pow_sub_one]
    by_cases low : i < 8 * lane
    · simp [low, Nat.not_le.2 low]
    · simp only [hi, low, show i - 8 * lane < 32 by omega, decide_true, decide_false, Bool.not_false, Bool.true_and,
        decide_eq_decide]
      omega
  simp only [mergeWord, BitVec.getLsbD_or, BitVec.getLsbD_and, BitVec.getLsbD_not, mask, BitVec.getLsbD_shiftLeft]
  split
  · next inside => simp [hi, inside, Nat.not_lt.2 inside.1]
  · next outside => simp [hi, outside]

/-- The bytes of a word that takes `size` bytes of `v` from byte `lane` on. -/
theorem mergeWord_byte (old v : Word) {size lane k : Nat} (hk : k < 4) :
    (mergeWord old v size lane >>> (8 * k)).extractLsb' 0 8 =
      if lane ≤ k ∧ k < lane + size then (v >>> (8 * (k - lane))).extractLsb' 0 8
      else (old >>> (8 * k)).extractLsb' 0 8 := by
  apply BitVec.eq_of_getLsbD_eq
  intro i hi
  have bit : ((mergeWord old v size lane >>> (8 * k)).extractLsb' 0 8).getLsbD i =
      (mergeWord old v size lane).getLsbD (8 * k + i) := by simp [hi]
  rw [bit, getLsbD_mergeWord old v (by omega)]
  by_cases inside : lane ≤ k ∧ k < lane + size
  · rw [if_pos inside, if_pos (by omega), show 8 * k + i - 8 * lane = 8 * (k - lane) + i by omega]
    simp [hi]
  · rw [if_neg inside, if_neg (by omega)]
    simp [hi]

/-- A word store of the word at `a` with `size` bytes taken from `v`: those bytes are written, and no other. -/
theorem Device.byte_storeWord_mergeWord (d : Device) (a : Nat) (v : Word) {size : Nat} (al : a % 4 + size ≤ 4) (x : Nat) :
    (d.storeWord (wordAddr a) (mergeWord (d.memWord (wordAddr a)) v size (a % 4))).byte x =
      if a ≤ x ∧ x < a + size then BitVec.ofNat 8 (v.toNat / 2 ^ (8 * (x - a))) else d.byte x := by
  have place : wordAddr a + a % 4 = a := Nat.div_add_mod' a 4
  have al4 : wordAddr a % 4 = 0 := Nat.mul_mod_left _ _
  rw [d.byte_storeWord_eq al4]
  by_cases word : wordAddr a ≤ x ∧ x < wordAddr a + 4
  · rw [if_pos word, mergeWord_byte _ _ (by omega), d.memWord_byte _ (by omega), Nat.add_sub_cancel' word.1]
    by_cases inside : a ≤ x ∧ x < a + size
    · rw [if_pos inside, if_pos (by omega), ofNat_div_eq_extractLsb, show x - wordAddr a - a % 4 = x - a by omega]
    · rw [if_neg inside, if_neg (by omega)]
  · rw [if_neg word, if_neg (by omega)]

/-! ### The store buffer (R102) -/

theorem Device.executing_setBuf (d : Device) (c : CoreId) (b : List StoreEntry) :
    (d.setCore c { d.core c with buf := b }).executing c = d.executing c := by
  cases c <;> rfl

/-- A store that finds room enters the buffer. -/
theorem Device.pushStore_room {d : Device} {c : CoreId} (run : d.executing c = true) (room : (d.core c).buf.length < 2)
    (a : Nat) (w : Word) :
    d.pushStore c a w = d.setCore c { d.core c with buf := (d.core c).buf ++ [⟨a, w, d.atPriv c⟩] } := by
  simp only [Device.pushStore, if_neg (Nat.not_le.2 room), run, if_true]

theorem Device.storeAt_coreSram (d : Device) {c : CoreId} (hc : c ≠ .s) {e : StoreEntry}
    (hr : regionOf e.addr = .coreSram) : d.storeAt c e = d.storeWord (wordAddr e.addr) e.data := by
  have row : ∀ m, (d.busWrite m e.priv e.addr e.data).2 = d.storeWord (wordAddr e.addr) e.data := fun m => by
    rw [Device.busWrite, regionOf_wordAddr_coreSram hr, Device.regionWrite]
  cases c with
  | c0 => exact row _
  | c1 => exact row _
  | s => exact absurd rfl hc

theorem Device.storeWord_core (d : Device) (a : Nat) (w : Word) (c : CoreId) : (d.storeWord a w).core c = d.core c := by
  rw [Device.storeWord_eq]
  cases c <;> rfl

theorem Device.storeWord_regs (d : Device) (a : Nat) (w : Word) : (d.storeWord a w).regs = d.regs := by
  rw [Device.storeWord_eq]

/-- A stored word is good (R59). -/
theorem Device.storeWord_eccAt (d : Device) (a : Nat) (w : Word) : (d.storeWord a w).eccAt a = none := by
  refine List.lookup_eq_none_iff.2 fun p hp => ?_
  obtain ⟨-, ne⟩ := List.mem_filter.1 hp
  exact bne_iff_ne.2 (bne_iff_ne.1 ne).symm

/-- The oldest store of C0 or C1 completes at core SRAM (R102). -/
theorem storeComplete_completes {s : State} {c : CoreId} {e : StoreEntry} {t : List StoreEntry} (hc : c ≠ .s)
    (run : s.dev.coreRuns = true) (hb : (s.dev.core c).buf = e :: t) (hr : regionOf e.addr = .coreSram)
    (al : e.addr % 4 = 0) : Completes (.storeComplete c) s fun d =>
      (∀ x, d.byte x = if e.addr ≤ x ∧ x < e.addr + 4 then BitVec.ofNat 8 (e.data.toNat / 2 ^ (8 * (x - e.addr)))
        else s.dev.byte x) ∧
      d.core c = { s.dev.core c with buf := t } ∧ d.regs = s.dev.regs ∧ d.eccAt e.addr = none := by
  have done : s.dev.completeStore c =
      (s.dev.setCore c { s.dev.core c with buf := t }).storeWord e.addr e.data := by
    rw [Device.completeStore, hb]
    dsimp only
    rw [Device.storeAt_coreSram _ hc hr, wordAddr_of_aligned al]
  refine State.on_completes (f := fun d => if d.coreRuns then d.completeStore c else d) rfl ?_
  dsimp only
  rw [run, if_pos rfl, done]
  refine ⟨fun x => ?_, ?_, ?_, Device.storeWord_eccAt _ _ _⟩
  · rw [Device.byte_storeWord_eq _ al, ofNat_div_eq_extractLsb, Device.byte, Device.setCore_mem, Device.byte]
  · rw [Device.storeWord_core, Device.core_setCore]
  · rw [Device.storeWord_regs, Device.setCore_regs]

/-! ### A store that is ready (R100, R101) -/

section Store

variable {s : State} {c : CoreId} {rs2 rs1 : WReg} {imm : BitVec 16} {i : Instr} {size : Nat} {a : Word}
  (hi : exec i s = s.on fun d => d.store c rs2 rs1 imm size) (h : s.dev.ready c .all) (hf : s.dev.fetched c = s.dev)
  (ha : (s.dev.core c).reg rs1 + imm.signExtend 32 = a)
include hi h hf ha

theorem exec_store_stopped {f : CoreFault} (cause : s.dev.accessCause c a size true = some f) :
    exec i s = .next { s with dev := s.dev.coreFault c f } := by
  have addr : s.dev.memAddr c rs1 imm = a := ha
  rw [hi, State.on]
  unfold Device.store
  rw [Device.issue_ready _ h]
  simp only [hf, addr, cause, Retire.finish]

/-- A halfword or byte store to SRAM is made at issue. -/
theorem exec_store_narrow (narrow : size ≠ 4) (cause : s.dev.accessCause c a size true = none)
    (sram : sramAddr a.toNat = true) :
    exec i s = .next { s with dev := (s.dev.narrowStore c a ((s.dev.core c).reg rs2) size).finish c } := by
  have addr : s.dev.memAddr c rs1 imm = a := ha
  have small : (size == 4) = false := beq_false_of_ne narrow
  rw [hi, State.on]
  unfold Device.store
  rw [Device.issue_ready _ h]
  simp only [hf, addr, cause, small, sram, Bool.false_eq_true, if_false, if_true, Device.reg]

omit hi in
/-- A word store with room in the buffer enters it and goes on. -/
theorem exec_sw_enters (cause : s.dev.accessCause c a 4 true = none) (room : (s.dev.core c).buf.length < 2) :
    exec (.sw c rs2 rs1 imm) s = .next (s.retire c (s.pc c + 4) fun k =>
      { k with buf := k.buf ++ [⟨a.toNat, (s.dev.core c).reg rs2, s.dev.atPriv c⟩] }) := by
  have run : s.dev.executing c = true := h.1
  have addr : s.dev.memAddr c rs1 imm = a := ha
  have pushed := Device.pushStore_room run room a.toNat (s.dev.reg c rs2)
  have runs : (s.dev.pushStore c a.toNat (s.dev.reg c rs2)).executing c = true := by
    rw [pushed, Device.executing_setBuf, run]
  refine State.retire_ok (f := fun k =>
    { k with buf := k.buf ++ [⟨a.toNat, (s.dev.core c).reg rs2, s.dev.atPriv c⟩] }) h ?_ rfl
  simp only [hf, addr, cause, beq_self_eq_true, if_true, Device.after, runs]
  rw [pushed, Device.reg]

end Store

section Narrow

variable {d : Device} {c : CoreId} {a v : Word} {size : Nat} (hc : c ≠ .s) (hb : (d.core c).buf = [])
  (hr : regionOf a.toNat = .coreSram) (he : d.eccAt a.toNat = none)

theorem sramAddr_coreSram {a : Nat} (hr : regionOf a = .coreSram) : sramAddr a = true := by
  simp only [sramAddr, blockOf, hr, beq_self_eq_true, Bool.true_or]

include hc hb hr he

/-- A narrow store to a good word of core SRAM, with nothing in the store buffer, writes the word that takes its bytes
(R101). -/
theorem Device.narrowStore_coreSram : d.narrowStore c a v size =
    .ok (d.storeWord (wordAddr a.toNat) (mergeWord (d.memWord (wordAddr a.toNat)) v size (a.toNat % 4))) := by
  have drained : d.drainBlock c a.toNat = d := by simp [Device.drainBlock, Device.blockHeld, hb]
  have merges : d.mergeAt a.toNat = some a.toNat := by rw [Device.mergeAt, hr]
  have word : d.readChecked a.toNat = (some (d.memWord (wordAddr a.toNat)), d) := by rw [Device.readChecked, he]
  have twice : wordAddr (wordAddr a.toNat) = wordAddr a.toNat := wordAddr_of_aligned (Nat.mul_mod_left _ _)
  simp only [Device.narrowStore, drained, merges, word]
  rw [d.storeAt_coreSram hc (regionOf_wordAddr_coreSram hr), twice]

/-- What a narrow store of `size` bytes leaves: the bytes written and no other, and the core at its next instruction. -/
theorem Device.narrowStore_shows (al : a.toNat % 4 + size ≤ 4) (e : Device)
    (hfin : e = (d.narrowStore c a v size).finish c) :
    (∀ x, e.byte x = if a.toNat ≤ x ∧ x < a.toNat + size then BitVec.ofNat 8 (v.toNat / 2 ^ (8 * (x - a.toNat)))
      else d.byte x) ∧
    e.core c = { d.core c with pc := (d.core c).pc + 4 } ∧ e.regs = d.regs := by
  rw [Device.narrowStore_coreSram hc hb hr he, Retire.finish, Device.advance, Device.setPc, Device.storeWord_core] at hfin
  subst hfin
  refine ⟨fun x => ?_, Device.core_setCore .., ?_⟩
  · rw [← d.byte_storeWord_mergeWord a.toNat v al x, Device.byte, Device.setCore_mem, Device.byte]
  · rw [Device.setCore_regs, Device.storeWord_regs]

end Narrow

theorem Device.accessCause_none_aligned {d : Device} {c : CoreId} {a : Word} {size : Nat} {store : Bool}
    (h : d.accessCause c a size store = none) : a.toNat % size = 0 := by
  by_contra misaligned
  rw [Device.accessCause, if_pos (bne_iff_ne.2 misaligned)] at h
  cases h

/-- Settles O18: a word store enters the buffer, a narrow one writes its word at issue, and the oldest buffered one
completes. -/
theorem stores : Obligations.Stores := by
  unfold Obligations.Stores
  refine ⟨fun s c rs2 rs1 imm h hf => ?_, fun s c e t => storeComplete_completes⟩
  refine ⟨exec_sw_enters h hf rfl, fun f => exec_store_stopped rfl h hf rfl, fun hc hb hr he => ?_⟩
  refine ⟨fun cause => ?_, fun cause => ?_⟩
  · have al := Device.accessCause_none_aligned cause
    exact ⟨_, exec_store_narrow rfl h hf rfl (by decide) cause (sramAddr_coreSram hr), rfl,
      Device.narrowStore_shows hc hb hr he (by omega) _ rfl⟩
  · exact ⟨_, exec_store_narrow rfl h hf rfl (by decide) cause (sramAddr_coreSram hr), rfl,
      Device.narrowStore_shows hc hb hr he (by omega) _ rfl⟩

end Sys2Proof.Machine
end

section
/-! PROOFS. The vector accesses of S (O19). A vector store enters the store buffer as four word stores in lane order (the
model's choice, log entry 32). -/

namespace Sys2Proof.Machine

/-! ### A good word of stream SRAM outside the coefficient window -/

/-- An aligned address of stream SRAM outside the coefficient window, whose word is good. -/
def Device.plainAt (d : Device) (x : Word) : Prop :=
  x.toNat % 4 = 0 ∧ regionOf x.toNat = .streamLow ∧ d.windowAt x.toNat = none ∧ d.eccAt x.toNat = none

theorem Device.accessCause_plain {d : Device} {x : Word} (h : d.plainAt x) (store : Bool) :
    d.accessCause .s x 4 store = none := by
  obtain ⟨al, region, -, -⟩ := h
  simp [Device.accessCause, Device.accessAnswer, al, region, fixedMap, fixedMapStream, CoreId.isControl]

theorem Device.vectorCause_row {d : Device} {x : Word} (h : d.plainAt x) (al : x.toNat % 16 = 0) (store : Bool) :
    d.vectorCause .s [x] 16 store = none := by
  simp [Device.vectorCause, al, Device.accessCause_plain h]

theorem Device.vectorCause_steps {d : Device} {as : List Word} (h : ∀ x ∈ as, d.plainAt x) (store : Bool) :
    d.vectorCause .s as 4 store = none := by
  have aligned : as.find? (fun a => a.toNat % 4 != 0) = none :=
    List.find?_eq_none.2 fun x hx => by simp [(h x hx).1]
  rw [Device.vectorCause, aligned]
  exact List.findSome?_eq_none_iff.2 fun x hx => Device.accessCause_plain (h x hx) store

/-! ### Loads (R114) -/

theorem Device.strike_none (d : Device) (a : Nat) : d.strike a .none = d := by
  unfold Device.strike
  split
  · rfl
  · split
    · rfl
    · rfl

theorem Device.loadWord_plain {d : Device} {x : Word} (h : d.plainAt x) (hb : (d.core .s).buf = []) :
    d.loadWord .s x.toNat .none = (some (d.memWord x.toNat), d) := by
  obtain ⟨al, region, window, good⟩ := h
  have buffered : d.buffered .s x.toNat = none := by simp [Device.buffered, hb]
  have drained : d.drainBlock .s x.toNat = d := by simp [Device.drainBlock, Device.blockHeld, hb]
  have physical : d.physical x.toNat = x.toNat := by rw [Device.physical, window]
  have struck : d.strike x.toNat .none = d := d.strike_none _
  have read : d.readChecked x.toNat = (some (d.memWord x.toNat), d) := by
    rw [Device.readChecked, good, wordAddr_of_aligned al]
  simp [Device.loadWord, buffered, drained, region, physical, struck, read]

theorem Device.loadLanes_plain {d : Device} (hb : (d.core .s).buf = []) {as : List Word} (h : ∀ x ∈ as, d.plainAt x) :
    d.loadLanes .s (as.map fun x => (x, .none)) = (.ok (as.map fun x => d.memWord x.toNat), d) := by
  induction as with
  | nil => rfl
  | cons x t ih =>
    have here := Device.loadWord_plain (h x List.mem_cons_self) hb
    have rest := ih fun y hy => h y (List.mem_cons_of_mem x hy)
    simp only [List.map_cons, Device.loadLanes, here, rest]

/-- A vector load of plain words fills the lanes. -/
theorem Device.vectorLoad_plain {d : Device} (hb : (d.core .s).buf = []) (q : QReg) {f : Nat → Word}
    (h : ∀ i < 4, d.plainAt (f i)) : d.vectorLoad .s q [f 0, f 1, f 2, f 3] (.replicate 4 .none) none =
      .ok (d.setQ .s q (ofLanes fun i => d.memWord (f i).toNat)) := by
  have plain : ∀ x ∈ [f 0, f 1, f 2, f 3], d.plainAt x := by
    simp [h]
  have lanes : [f 0, f 1, f 2, f 3].zip (Vector.replicate 4 Upset.none).toList =
      [f 0, f 1, f 2, f 3].map fun x => (x, .none) := rfl
  rw [Device.vectorLoad, lanes, Device.loadLanes_plain hb plain]
  rfl

/-! ### Stores (R114, R118) -/

theorem Device.setBytes_setCore (d : Device) (c : CoreId) (k : Core) (a : Nat) (bs : List Byte) :
    (d.setCore c k).setBytes a bs = (d.setBytes a bs).setCore c k := by
  induction bs generalizing d a with
  | nil => rfl
  | cons b t ih =>
    have one : (d.setCore c k).setByte a b = (d.setByte a b).setCore c k := by cases c <;> rfl
    rw [Device.setBytes, one, ih, Device.setBytes]

theorem Device.storeWord_setCore (d : Device) (c : CoreId) (k : Core) (a : Nat) (w : Word) :
    (d.setCore c k).storeWord a w = (d.storeWord a w).setCore c k := by
  rw [Device.storeWord, Device.setMemWord, Device.setBytes_setCore, Device.storeWord, Device.setMemWord]
  cases c <;> rfl

theorem Device.windowAt_congr {d e : Device} (h : e.regs = d.regs) (a : Nat) : e.windowAt a = d.windowAt a := by
  have len : e.winLen = d.winLen := congrArg (fun r : RegMap => r.get F.TXN_CWIN_LEN_WORDS) h
  have base : e.winBase = d.winBase := congrArg (fun r : RegMap => r.get F.TXN_CWIN_BASE_ADDR * 16) h
  rw [Device.windowAt, Device.windowAt, len, base]

/-- The device `d` once S holds the stores `b` in its buffer. -/
def Device.withStores (d : Device) (b : List StoreEntry) : Device := d.setCore .s { d.core .s with buf := b }

theorem Device.withStores_withStores (d : Device) (b t : List StoreEntry) :
    (d.withStores b).withStores t = d.withStores t := rfl

theorem Device.withStores_buf (d : Device) (b : List StoreEntry) : ((d.withStores b).core .s).buf = b := rfl

theorem Device.withStores_byte (d : Device) (b : List StoreEntry) (x : Nat) : (d.withStores b).byte x = d.byte x := rfl

theorem Device.withStores_memWord (d : Device) (b : List StoreEntry) (a : Nat) :
    (d.withStores b).memWord a = d.memWord a := Device.memWord_congr fun x _ _ => d.withStores_byte b x

theorem Device.withStores_atPriv (d : Device) (b : List StoreEntry) : (d.withStores b).atPriv .s = d.atPriv .s := rfl

theorem Device.withStores_self {d : Device} (hb : (d.core .s).buf = []) : d.withStores [] = d := by
  rw [Device.withStores, ← hb]
  exact Device.setCore_self d .s

theorem Device.storeWord_withStores (d : Device) (b : List StoreEntry) (a : Nat) (w : Word) :
    (d.withStores b).storeWord a w = (d.storeWord a w).withStores b := by
  rw [Device.withStores, Device.storeWord_setCore, Device.withStores, Device.storeWord_core]

theorem Device.storeWord_executing (d : Device) (a : Nat) (w : Word) (c : CoreId) :
    (d.storeWord a w).executing c = d.executing c := by
  rw [Device.storeWord_eq]
  cases c <;> rfl

theorem Device.storeWord_plainWindow {d : Device} {x : Nat} (h : d.windowAt x = none) (a : Nat) (w : Word) :
    (d.storeWord a w).windowAt x = none := by
  rw [Device.windowAt_congr (d.storeWord_regs a w), h]

theorem Device.storeWord_atPriv (d : Device) (a : Nat) (w : Word) (c : CoreId) :
    (d.storeWord a w).atPriv c = d.atPriv c := by
  rw [Device.atPriv, Device.cget, Device.storeWord_core]
  rfl

/-- A store of S reaches stream SRAM outside the window. -/
theorem Device.storeAt_stream {d : Device} {e : StoreEntry} (region : regionOf e.addr = .streamLow)
    (window : d.windowAt e.addr = none) : d.storeAt .s e = d.storeWord e.addr e.data := by
  simp only [Device.storeAt, region, Device.streamWrite, window]

section Push

variable {d : Device} (run : d.executing .s = true)
include run

theorem Device.pushStore_withStores {b : List StoreEntry} (room : b.length < 2) (a : Nat) (w : Word) :
    (d.withStores b).pushStore .s a w = d.withStores (b ++ [⟨a, w, d.atPriv .s⟩]) :=
  Device.pushStore_room ((d.executing_setBuf .s b).trans run) room a w

/-- A full buffer first completes its oldest store, at a word of stream SRAM outside the window (R102). -/
theorem Device.pushStore_full {e f : StoreEntry} (region : regionOf e.addr = .streamLow)
    (window : d.windowAt e.addr = none) (a : Nat) (w : Word) : (d.withStores [e, f]).pushStore .s a w =
      (d.storeWord e.addr e.data).withStores [f, ⟨a, w, d.atPriv .s⟩] := by
  have oldest : (d.withStores [e, f]).completeStore .s = (d.storeWord e.addr e.data).withStores [f] := by
    have seen : (d.withStores [f]).windowAt e.addr = none := window
    exact (Device.storeAt_stream region seen).trans (d.storeWord_withStores [f] _ _)
  have runs : ((d.storeWord e.addr e.data).withStores [f]).executing .s = true :=
    (Device.executing_setBuf _ .s [f]).trans ((d.storeWord_executing _ _ .s).trans run)
  have full : 2 ≤ ((d.withStores [e, f]).core .s).buf.length := Nat.le_refl 2
  simp only [Device.pushStore, if_pos full, oldest, runs, if_true]
  rfl

end Push

/-- The device once four words have gone through the empty store buffer of S: the first two are stored, the last two
wait (log entry 32). -/
def Device.stored4 (d : Device) (f : Nat → Word) (v : QWord) : Device :=
  ((d.storeWord (f 0).toNat (lane v 0)).storeWord (f 1).toNat (lane v 1)).withStores
    [⟨(f 2).toNat, lane v 2, d.atPriv .s⟩, ⟨(f 3).toNat, lane v 3, d.atPriv .s⟩]

section Four

variable {d : Device} {f : Nat → Word} (h : ∀ i < 4, d.plainAt (f i))
include h

theorem Device.pushStore_four (run : d.executing .s = true) (hb : (d.core .s).buf = []) (v : QWord) :
    (((d.pushStore .s (f 0).toNat (lane v 0)).pushStore .s (f 1).toNat (lane v 1)).pushStore .s (f 2).toNat
      (lane v 2)).pushStore .s (f 3).toNat (lane v 3) = d.stored4 f v := by
  obtain ⟨-, region0, window0, -⟩ := h 0 (by decide)
  obtain ⟨-, region1, window1, -⟩ := h 1 (by decide)
  have runs : (d.storeWord (f 0).toNat (lane v 0)).executing .s = true := (d.storeWord_executing _ _ .s).trans run
  have window : (d.storeWord (f 0).toNat (lane v 0)).windowAt (f 1).toNat = none :=
    Device.storeWord_plainWindow window1 _ _
  have one : d.pushStore .s (f 0).toNat (lane v 0) = d.withStores [⟨(f 0).toNat, lane v 0, d.atPriv .s⟩] := by
    have empty := Device.pushStore_withStores (b := []) run Nat.two_pos (f 0).toNat (lane v 0)
    rwa [Device.withStores_self hb, List.nil_append] at empty
  rw [one, Device.pushStore_withStores (b := [_]) run Nat.one_lt_two, List.singleton_append,
    Device.pushStore_full run region0 window0, Device.pushStore_full runs region1 window, Device.storeWord_atPriv,
    Device.stored4]

theorem Device.vectorStore_plain (run : d.executing .s = true) (hb : (d.core .s).buf = []) (q : QReg) :
    d.vectorStore .s q [f 0, f 1, f 2, f 3] none = .ok (d.stored4 f (d.core .s).q[q]) := by
  have four : [f 0, f 1, f 2, f 3].zip (List.finRange 4) = [(f 0, 0), (f 1, 1), (f 2, 2), (f 3, 3)] := rfl
  simp only [Device.vectorStore, four, List.foldl_cons, List.foldl_nil]
  exact congrArg Retire.ok (Device.pushStore_four h run hb _)

/-- What the stores of four lanes leave in memory. -/
theorem Device.stored4_memory (v : QWord) :
    (d.stored4 f v).memWord (f 1).toNat = lane v 1 ∧
    ((f 0).toNat ≠ (f 1).toNat → (d.stored4 f v).memWord (f 0).toNat = lane v 0) ∧
    ∀ x, x / 4 ≠ (f 0).toNat / 4 → x / 4 ≠ (f 1).toNat / 4 → (d.stored4 f v).byte x = d.byte x := by
  obtain ⟨al0, -⟩ := h 0 (by decide)
  obtain ⟨al1, -⟩ := h 1 (by decide)
  rw [Device.stored4, Device.withStores_memWord, Device.withStores_memWord]
  have outside : ∀ x, x / 4 ≠ (f 1).toNat / 4 →
      ((d.storeWord (f 0).toNat (lane v 0)).storeWord (f 1).toNat (lane v 1)).byte x =
        (d.storeWord (f 0).toNat (lane v 0)).byte x := fun x hx =>
    Device.byte_storeWord_outside _ al1 _ (by omega)
  refine ⟨Device.memWord_storeWord _ al1 _, fun ne => ?_, fun x h0 h1 => ?_⟩
  · exact (Device.memWord_congr fun x lo hi => outside x (by omega)).trans (d.memWord_storeWord al0 _)
  · rw [Device.withStores_byte, outside x h1, d.byte_storeWord_outside al0 _ (by omega)]

end Four

theorem Device.stored4_core (d : Device) (f : Nat → Word) (v : QWord) : (d.stored4 f v).core .s = { d.core .s with
    buf := [⟨(f 2).toNat, lane v 2, d.atPriv .s⟩, ⟨(f 3).toNat, lane v 3, d.atPriv .s⟩] } := by
  rw [Device.stored4, Device.withStores, Device.core_setCore, Device.storeWord_core, Device.storeWord_core]

theorem Device.advance_core (d : Device) (c : CoreId) : (d.advance c).core c = { d.core c with pc := (d.core c).pc + 4 } :=
  Device.setPc_core ..

theorem Device.advance_byte (d : Device) (c : CoreId) (x : Nat) : (d.advance c).byte x = d.byte x := by
  rw [Device.byte, Device.advance, Device.setPc_mem, Device.byte]

theorem Device.advance_memWord (d : Device) (c : CoreId) (a : Nat) : (d.advance c).memWord a = d.memWord a :=
  Device.memWord_congr fun x _ _ => d.advance_byte c x

/-! ### The four rows -/

section Rows

variable {s : State} {i : Instr} {q : QReg} {f : Nat → Word} {as : Device → List Word} {cause : Device → Option CoreFault}
  (h : s.dev.ready .s .stream) (hf : s.dev.fetched .s = s.dev) (hb : (s.dev.core .s).buf = [])
  (plain : ∀ i < 4, s.dev.plainAt (f i)) (addrs : as s.dev = [f 0, f 1, f 2, f 3]) (free : cause s.dev = none)
include h hf hb plain addrs free

theorem exec_vectorLoad (hi : exec i s = s.on fun d => d.issue .s .stream false fun d =>
      d.vectorLoad .s q (as d) (.replicate 4 .none) (cause d)) :
    exec i s = .next (s.setsLanes .s q fun j => s.dev.memWord (f j).toNat) := by
  refine hi.trans (State.retire_ok
    (f := fun k => { k with q := k.q.set q (ofLanes fun j => s.dev.memWord (f j).toNat) }) h ?_ rfl)
  rw [hf, addrs, free, Device.vectorLoad_plain hb q plain]
  rfl

theorem exec_vectorStore (hi : exec i s = s.on fun d => d.issue .s .stream false fun d =>
      d.vectorStore .s q (as d) (cause d)) : Completes i s fun e =>
    (e.core .s).pc = s.pc .s + 4 ∧ (e.core .s).buf = [⟨(f 2).toNat, lane (s.dev.core .s).q[q] 2, s.dev.atPriv .s⟩,
      ⟨(f 3).toNat, lane (s.dev.core .s).q[q] 3, s.dev.atPriv .s⟩] ∧
    e.memWord (f 1).toNat = lane (s.dev.core .s).q[q] 1 ∧
    ((f 0).toNat ≠ (f 1).toNat → e.memWord (f 0).toNat = lane (s.dev.core .s).q[q] 0) ∧
    (∀ x, x / 4 ≠ (f 0).toNat / 4 → x / 4 ≠ (f 1).toNat / 4 → e.byte x = s.dev.byte x) := by
  obtain ⟨word1, word0, others⟩ := Device.stored4_memory plain (s.dev.core .s).q[q]
  refine State.on_completes hi ?_
  rw [Device.issue_ready _ h, hf, addrs, free, Device.vectorStore_plain plain h.1 hb, Retire.finish]
  simp only [Device.advance_core, Device.advance_byte, Device.advance_memWord, Device.stored4_core]
  exact ⟨rfl, trivial, word1, word0, others⟩


end Rows

theorem laneAddrs_row (a : Word) : laneAddrs a 4 = [a + BitVec.ofNat 32 (4 * 0), a + BitVec.ofNat 32 (4 * 1),
    a + BitVec.ofNat 32 (4 * 2), a + BitVec.ofNat 32 (4 * 3)] := by
  have none : a + BitVec.ofNat 32 (4 * 0) = a := BitVec.add_zero a
  rw [none]
  rfl

theorem laneAddrs_steps (a st : Word) : laneAddrs a st = [a + BitVec.ofNat 32 0 * st, a + BitVec.ofNat 32 1 * st,
    a + BitVec.ofNat 32 2 * st, a + BitVec.ofNat 32 3 * st] := by
  have none : a + BitVec.ofNat 32 0 * st = a := by rw [BitVec.zero_mul, BitVec.add_zero]
  have one : BitVec.ofNat 32 1 * st = st := BitVec.one_mul st
  rw [none, one]
  rfl

/-- Settles O19: the four lanes of a row or of steps are plain words, which loads read as they stand and stores send
through the store buffer. -/
theorem vectorMemory : Obligations.VectorMemory := by
  unfold Obligations.VectorMemory
  intro s q rs1 rs2 imm h hf hb
  dsimp only
  refine ⟨fun al plain => ?_, fun plain => ?_⟩
  · have row0 : (s.dev.core .s).reg rs1 + imm.signExtend 32 + BitVec.ofNat 32 (4 * 0) =
        (s.dev.core .s).reg rs1 + imm.signExtend 32 := BitVec.add_zero _
    have first : s.dev.plainAt ((s.dev.core .s).reg rs1 + imm.signExtend 32) := row0 ▸ plain 0 (by decide)
    have cause := Device.vectorCause_row first al
    exact ⟨exec_vectorLoad h hf hb plain (laneAddrs_row _) (cause false) rfl,
      exec_vectorStore h hf hb plain (laneAddrs_row _) (cause true) rfl⟩
  · have cause : ∀ store, s.dev.vectorCause .s (laneAddrs ((s.dev.core .s).reg rs1) ((s.dev.core .s).reg rs2)) 4 store =
        none := by
      rw [laneAddrs_steps]
      exact Device.vectorCause_steps (by
        simp only [List.forall_mem_cons]
        exact ⟨plain 0 (by decide), plain 1 (by decide), plain 2 (by decide), plain 3 (by decide), by simp⟩)
    exact ⟨exec_vectorLoad h hf hb plain (laneAddrs_steps _ _) (cause false) rfl,
      exec_vectorStore h hf hb plain (laneAddrs_steps _ _) (cause true) rfl⟩

end Sys2Proof.Machine
end

section
/-! PROOFS. The Weir's tasks: their registers (O20; R414 to R419). -/

namespace Sys2Proof.Machine

/-! ### Fields -/

/-- A write of a field leaves the fields alone that hold other bits of a word. -/
theorem Device.get_put_bits (d : Device) {a b i n j m : Nat} (v : Nat) (hf : i + n ≤ 32)
    (h : i + n ≤ j ∨ j + m ≤ i) : (d.put ⟨a, i, n⟩ v).get ⟨b, j, m⟩ = d.get ⟨b, j, m⟩ := by
  refine d.get_put_apart _ _ v (decide_eq_true hf) ?_
  simp [Fld.apart, h, or_assoc]

theorem Device.get_put_own (d : Device) {a i n : Nat} (v : Nat) (h : i + n ≤ 32) :
    (d.put ⟨a, i, n⟩ v).get ⟨a, i, n⟩ = v % 2 ^ n :=
  d.get_put_same _ v (decide_eq_true h)

theorem Device.get_put_addr (d : Device) (f g : Fld) (v : Nat) (h : g.addr ≠ f.addr) : (d.put f v).get g = d.get g :=
  d.get_setWord_ne _ _ _ h

theorem Device.get_congr_word {d e : Device} {f : Fld} (h : e.word f.addr = d.word f.addr) : e.get f = d.get f :=
  congrArg (fieldOf · f.lsb f.width) h

theorem Device.get_lt_pow (d : Device) (f : Fld) : d.get f < 2 ^ f.width := RegMap.get_lt _ _

/-! ### Addresses (R435) -/

theorem desc_ne_stat {t u : Nat} (h : t < 64) : R.WEIR_DESC_t t ≠ R.WEIR_STAT_t u := by
  unfold R.WEIR_DESC_t R.WEIR_STAT_t
  omega

theorem stat_ne_stat {t u : Nat} (h : t ≠ u) : R.WEIR_STAT_t t ≠ R.WEIR_STAT_t u := by
  unfold R.WEIR_STAT_t
  omega

theorem weir_le_one (c : CoreId) : c.weir ≤ 1 := by cases c <;> decide

theorem core_ne_stat (c : CoreId) (t : Nat) : R.WEIR_COREc c.weir ≠ R.WEIR_STAT_t t := by
  have := weir_le_one c
  unfold R.WEIR_COREc R.WEIR_STAT_t
  omega

/-! ### READY, IDLE, requests and withdrawals (R414, R415, R417) -/

section Task

variable (d : Device) (t : Nat)

/-- The registers do not hold the records of who waits since when. -/
theorem Device.get_weir (record age : List (Nat × Nat)) (f : Fld) :
    ({ d with weirRecord := record, weirAge := age } : Device).get f = d.get f := rfl

theorem Device.get_prio_put {f : Fld} (v : Nat) (ht : t < 64) (hf : f.addr = R.WEIR_STAT_t t) :
    (d.put f v).get (F.WEIR_DESC_t_PRIO t) = d.get (F.WEIR_DESC_t_PRIO t) :=
  d.get_put_addr f _ v (by rw [hf]; exact desc_ne_stat ht)

/-- A task that becomes READY has its own priority, no request and has waited for nothing. -/
theorem Device.taskReady_shows : (d.taskReady t).taskState t = 1 ∧
    (d.taskReady t).get (F.WEIR_STAT_t_REPEND t) = 0 ∧
    (t < 64 → (d.taskReady t).get (F.WEIR_STAT_t_EPRIO t) = d.get (F.WEIR_DESC_t_PRIO t)) ∧
    (d.taskReady t).get (F.WEIR_STAT_t_WAIT t) = 0 := by
  simp (disch := decide) only [Device.taskReady, Device.taskState, Device.setFlag, Device.get_weir,
    F.WEIR_STAT_t_STATE, F.WEIR_STAT_t_REPEND, F.WEIR_STAT_t_EPRIO, F.WEIR_STAT_t_WAIT, F.WEIR_STAT_t_STARVED,
    Device.get_put_bits, Device.get_put_own]
  refine ⟨rfl, rfl, fun ht => ?_, rfl⟩
  rw [Device.get_prio_put _ t _ ht rfl, Device.get_prio_put _ t _ ht rfl]
  exact Nat.mod_eq_of_lt (d.get_lt_pow (F.WEIR_DESC_t_PRIO t))

/-- A task that becomes IDLE has no request. -/
theorem Device.taskIdle_shows : (d.taskIdle t).taskState t = 0 ∧ (d.taskIdle t).get (F.WEIR_STAT_t_REPEND t) = 0 := by
  simp (disch := decide) only [Device.taskIdle, Device.taskState, Device.setFlag, Device.get_weir,
    F.WEIR_STAT_t_STATE, F.WEIR_STAT_t_REPEND, F.WEIR_STAT_t_EPRIO, F.WEIR_STAT_t_STARVED, Device.get_put_bits,
    Device.get_put_own]
  exact ⟨rfl, rfl⟩

/-- A request kept for a task that runs, or taken back from it. -/
theorem Device.putRepend_shows (v : Nat) : (d.put (F.WEIR_STAT_t_REPEND t) v).taskState t = d.taskState t ∧
    (d.put (F.WEIR_STAT_t_REPEND t) v).get (F.WEIR_STAT_t_REPEND t) = v % 2 :=
  ⟨d.get_put_bits v (by decide) (by decide), d.get_put_own v (by decide)⟩

theorem Device.putStat_word {f : Fld} (v : Nat) (hf : f.addr = R.WEIR_STAT_t t) {a : Nat} (h : a ≠ R.WEIR_STAT_t t) :
    (d.put f v).word a = d.word a :=
  d.word_put_ne f v (by rwa [hf])

theorem Device.word_weir (record age : List (Nat × Nat)) (a : Nat) :
    ({ d with weirRecord := record, weirAge := age } : Device).word a = d.word a := rfl

theorem Device.mem_weir (record age : List (Nat × Nat)) :
    ({ d with weirRecord := record, weirAge := age } : Device).mem = d.mem := rfl

theorem Device.core_weir (record age : List (Nat × Nat)) (c : CoreId) :
    ({ d with weirRecord := record, weirAge := age } : Device).core c = d.core c := by cases c <;> rfl

theorem Device.taskReady_word {a : Nat} (h : a ≠ R.WEIR_STAT_t t) : (d.taskReady t).word a = d.word a := by
  have keep (d : Device) {f : Fld} (v : Nat) (hf : f.addr = R.WEIR_STAT_t t) : (d.put f v).word a = d.word a :=
    d.putStat_word t v hf h
  rw [Device.taskReady, Device.word_weir, Device.setFlag, keep _ _ rfl, keep _ _ rfl, keep _ _ rfl, keep _ _ rfl,
    keep _ _ rfl]

theorem Device.taskIdle_word {a : Nat} (h : a ≠ R.WEIR_STAT_t t) : (d.taskIdle t).word a = d.word a := by
  have keep (d : Device) {f : Fld} (v : Nat) (hf : f.addr = R.WEIR_STAT_t t) : (d.put f v).word a = d.word a :=
    d.putStat_word t v hf h
  rw [Device.taskIdle, Device.word_weir, Device.setFlag, keep _ _ rfl, keep _ _ rfl, keep _ _ rfl, keep _ _ rfl]

theorem Device.taskReady_mem : (d.taskReady t).mem = d.mem := by
  rw [Device.taskReady, Device.mem_weir, Device.setFlag]
  iterate 5 rw [Device.put_mem]

theorem Device.taskIdle_mem : (d.taskIdle t).mem = d.mem := by
  rw [Device.taskIdle, Device.mem_weir, Device.setFlag]
  iterate 4 rw [Device.put_mem]

theorem Device.taskReady_core (c : CoreId) : (d.taskReady t).core c = d.core c := by
  simp only [Device.taskReady, Device.setFlag, Device.core_weir, Device.put_core]

theorem Device.taskIdle_core (c : CoreId) : (d.taskIdle t).core c = d.core c := by
  simp only [Device.taskIdle, Device.setFlag, Device.core_weir, Device.put_core]

end Task

/-! ### Requests and withdrawals of one task -/

section Request

variable {d : Device} {t : Nat}

theorem Device.requestTask_idle (aff : d.get (F.WEIR_DESC_t_AFF t) ≠ 0) (idle : d.taskState t = 0) :
    d.requestTask t = d.taskReady t := by
  simp [Device.requestTask, aff, idle]

theorem Device.requestTask_running (aff : d.get (F.WEIR_DESC_t_AFF t) ≠ 0) (runs : d.taskState t = 2) :
    d.requestTask t = d.put (F.WEIR_STAT_t_REPEND t) 1 := by
  simp [Device.requestTask, aff, runs]

theorem Device.requestTask_self (h : d.get (F.WEIR_DESC_t_AFF t) = 0 ∨ d.taskState t = 1) : d.requestTask t = d := by
  rcases h with h | h <;> simp [Device.requestTask, h]

theorem Device.withdrawTask_ready (ready : d.taskState t = 1) : d.withdrawTask t = d.taskIdle t := by
  simp [Device.withdrawTask, ready]

theorem Device.withdrawTask_running (runs : d.taskState t = 2) :
    d.withdrawTask t = d.put (F.WEIR_STAT_t_REPEND t) 0 := by
  simp [Device.withdrawTask, runs]

theorem Device.withdrawTask_self (idle : d.taskState t = 0) : d.withdrawTask t = d := by
  simp [Device.withdrawTask, idle]

variable (d t)

theorem Device.requestTask_word {a : Nat} (h : a ≠ R.WEIR_STAT_t t) : (d.requestTask t).word a = d.word a := by
  unfold Device.requestTask
  split
  · rfl
  · split
    · exact d.taskReady_word t h
    · exact d.putStat_word t _ rfl h
    · rfl

theorem Device.withdrawTask_word {a : Nat} (h : a ≠ R.WEIR_STAT_t t) : (d.withdrawTask t).word a = d.word a := by
  unfold Device.withdrawTask
  split
  · exact d.taskIdle_word t h
  · exact d.putStat_word t _ rfl h
  · rfl

theorem Device.requestTask_mem : (d.requestTask t).mem = d.mem := by
  unfold Device.requestTask
  split
  · rfl
  · split
    · exact d.taskReady_mem t
    · exact d.put_mem _ _
    · rfl

theorem Device.withdrawTask_mem : (d.withdrawTask t).mem = d.mem := by
  unfold Device.withdrawTask
  split
  · exact d.taskIdle_mem t
  · exact d.put_mem _ _
  · rfl

end Request

/-! ### One operation for each task of a word -/

theorem mem_taskBits {i t : Nat} {v : Word} (ht : t / 32 = i) :
    t ∈ taskBits i v ↔ v.toNat.testBit (t % 32) = true := by
  simp only [taskBits, bitsOf, List.mem_map, List.mem_filter, List.mem_range]
  constructor
  · rintro ⟨b, ⟨hb, bit⟩, rfl⟩
    rwa [show (32 * i + b) % 32 = b by omega]
  · exact fun bit => ⟨t % 32, ⟨Nat.mod_lt _ (by decide), bit⟩, by omega⟩

theorem taskBits_nodup (i : Nat) (v : Word) : (taskBits i v).Nodup :=
  (List.nodup_range.filter _).map fun _ _ h => Nat.add_left_cancel h

section Fold

variable {step : Device → Nat → Device} (own : ∀ d u a, a ≠ R.WEIR_STAT_t u → (step d u).word a = d.word a)

include own

/-- Steps that write the status of other tasks leave a word alone. -/
theorem Device.foldl_word {a : Nat} : ∀ (l : List Nat) (d : Device), (∀ u ∈ l, a ≠ R.WEIR_STAT_t u) →
    (l.foldl step d).word a = d.word a
  | [], _, _ => rfl
  | u :: l, d, h => (Device.foldl_word l (step d u) fun x hx => h x (.tail _ hx)).trans (own d u a (h u (.head _)))

/-- The operation of a task that the word names meets its status and its description as they were. -/
theorem Device.foldl_task {t i : Nat} (ht : t < 64) (hi : t / 32 = i) (v : Word) (d : Device)
    (bit : v.toNat.testBit (t % 32) = true) : ∃ x : Device, x.word (R.WEIR_STAT_t t) = d.word (R.WEIR_STAT_t t) ∧
      x.word (R.WEIR_DESC_t t) = d.word (R.WEIR_DESC_t t) ∧
      ((taskBits i v).foldl step d).word (R.WEIR_STAT_t t) = (step x t).word (R.WEIR_STAT_t t) := by
  obtain ⟨before, after, cut⟩ := List.append_of_mem ((mem_taskBits hi).2 bit)
  have once := taskBits_nodup i v
  rw [cut, List.nodup_middle, List.nodup_cons, List.mem_append, not_or] at once
  obtain ⟨⟨notBefore, notAfter⟩, -⟩ := once
  have other {l : List Nat} (h : t ∉ l) : ∀ u ∈ l, R.WEIR_STAT_t t ≠ R.WEIR_STAT_t u := fun u hu =>
    stat_ne_stat fun e => h (e ▸ hu)
  refine ⟨before.foldl step d, Device.foldl_word own before d (other notBefore),
    Device.foldl_word own before d fun u _ => desc_ne_stat ht, ?_⟩
  rw [cut, List.foldl_append, List.foldl_cons]
  exact Device.foldl_word own after _ (other notAfter)

/-- The status of a task that the word does not name stands. -/
theorem Device.foldl_other {t i : Nat} (hi : t / 32 = i) {v : Word} (d : Device)
    (bit : v.toNat.testBit (t % 32) = false) :
    ((taskBits i v).foldl step d).word (R.WEIR_STAT_t t) = d.word (R.WEIR_STAT_t t) := by
  refine Device.foldl_word own _ d fun u hu => stat_ne_stat fun e => ?_
  rw [← e, mem_taskBits hi, bit] at hu
  exact Bool.false_ne_true hu

end Fold

/-! ### The request words (R414, R415) -/

theorem stat_quiet {t : Nat} (ht : t < 64) : R.WEIR_STAT_t t ∉ noteWords := by
  intro h
  simp only [noteWords, R.WEIR_STAT_t, R.SED_CNT2, R.SED_EVT, R.EVC_STAT, R.EVC_WLATCH, List.mem_cons,
    List.not_mem_nil, or_false] at h
  omega

theorem Device.notifyTasks_noted (d before : Device) : Noted d (d.notifyTasks before) := by
  unfold Device.notifyTasks
  split
  · exact d.fire_noted 68
  · exact Noted.refl d

section Words

variable {d : Device} {t i : Nat} {v : Word}

theorem Device.readyWrite_word (ht : t < 64) : (d.readyWrite i v).word (R.WEIR_STAT_t t) =
    ((taskBits i v).foldl Device.requestTask d).word (R.WEIR_STAT_t t) :=
  (Device.notifyTasks_noted _ d).word (stat_quiet ht)

theorem Device.readyWrite_mem : (d.readyWrite i v).mem = d.mem :=
  (Device.notifyTasks_noted _ d).mem.trans (Device.foldl_keeps (·.mem) _ Device.requestTask_mem _ d)

theorem Device.cancelWrite_mem : (d.cancelWrite i v).mem = d.mem :=
  Device.foldl_keeps (·.mem) _ Device.withdrawTask_mem _ d

section Named

variable (ht : t < 64) (hi : t / 32 = i) (bit : v.toNat.testBit (t % 32) = true)

include ht hi bit

theorem Device.readyWrite_idle (aff : d.get (F.WEIR_DESC_t_AFF t) ≠ 0) (idle : d.taskState t = 0) :
    (d.readyWrite i v).taskState t = 1 ∧
    (d.readyWrite i v).get (F.WEIR_STAT_t_EPRIO t) = d.get (F.WEIR_DESC_t_PRIO t) ∧
    (d.readyWrite i v).get (F.WEIR_STAT_t_WAIT t) = 0 := by
  obtain ⟨x, stat, desc, word⟩ := Device.foldl_task Device.requestTask_word ht hi v d bit
  rw [← Device.readyWrite_word ht, Device.requestTask_idle (by rwa [Device.get_congr_word desc])
    ((Device.get_congr_word stat).trans idle)] at word
  obtain ⟨state, -, prio, wait⟩ := x.taskReady_shows t
  exact ⟨(Device.get_congr_word word).trans state, (Device.get_congr_word word).trans ((prio ht).trans
    (Device.get_congr_word desc)), (Device.get_congr_word word).trans wait⟩

theorem Device.readyWrite_running (aff : d.get (F.WEIR_DESC_t_AFF t) ≠ 0) (runs : d.taskState t = 2) :
    (d.readyWrite i v).taskState t = 2 ∧ (d.readyWrite i v).get (F.WEIR_STAT_t_REPEND t) = 1 := by
  obtain ⟨x, stat, desc, word⟩ := Device.foldl_task Device.requestTask_word ht hi v d bit
  have running : x.taskState t = 2 := (Device.get_congr_word stat).trans runs
  rw [← Device.readyWrite_word ht, Device.requestTask_running (by rwa [Device.get_congr_word desc]) running] at word
  obtain ⟨state, repend⟩ := x.putRepend_shows t 1
  exact ⟨(Device.get_congr_word word).trans (state.trans running), (Device.get_congr_word word).trans repend⟩

theorem Device.cancelWrite_ready (ready : d.taskState t = 1) : (d.cancelWrite i v).taskState t = 0 := by
  obtain ⟨x, stat, -, word⟩ := Device.foldl_task Device.withdrawTask_word ht hi v d bit
  rw [Device.withdrawTask_ready ((Device.get_congr_word stat).trans ready)] at word
  exact (Device.get_congr_word word).trans (x.taskIdle_shows t).1

theorem Device.cancelWrite_running (runs : d.taskState t = 2) :
    (d.cancelWrite i v).taskState t = 2 ∧ (d.cancelWrite i v).get (F.WEIR_STAT_t_REPEND t) = 0 := by
  obtain ⟨x, stat, -, word⟩ := Device.foldl_task Device.withdrawTask_word ht hi v d bit
  have running : x.taskState t = 2 := (Device.get_congr_word stat).trans runs
  rw [Device.withdrawTask_running running] at word
  obtain ⟨state, repend⟩ := x.putRepend_shows t 0
  exact ⟨(Device.get_congr_word word).trans (state.trans running), (Device.get_congr_word word).trans repend⟩

end Named

/-- A request that asks for nothing, or for a task that is READY already. -/
theorem Device.readyWrite_self (ht : t < 64) (hi : t / 32 = i)
    (h : ¬ (v.toNat.testBit (t % 32) = true ∧ d.get (F.WEIR_DESC_t_AFF t) ≠ 0) ∨ d.taskState t = 1) :
    (d.readyWrite i v).word (R.WEIR_STAT_t t) = d.word (R.WEIR_STAT_t t) := by
  rw [Device.readyWrite_word ht]
  cases bit : v.toNat.testBit (t % 32) with
  | false => exact Device.foldl_other Device.requestTask_word hi d bit
  | true =>
    obtain ⟨x, stat, desc, word⟩ := Device.foldl_task Device.requestTask_word ht hi v d bit
    have kept : d.get (F.WEIR_DESC_t_AFF t) = 0 ∨ d.taskState t = 1 :=
      h.imp_left fun h => by_contra fun aff => h ⟨bit, aff⟩
    rw [word, Device.requestTask_self, stat]
    exact kept.imp (Device.get_congr_word desc).trans (Device.get_congr_word stat).trans

theorem Device.cancelWrite_self (ht : t < 64) (hi : t / 32 = i)
    (h : v.toNat.testBit (t % 32) = false ∨ d.taskState t = 0) :
    (d.cancelWrite i v).word (R.WEIR_STAT_t t) = d.word (R.WEIR_STAT_t t) := by
  cases bit : v.toNat.testBit (t % 32) with
  | false => exact Device.foldl_other Device.withdrawTask_word hi d bit
  | true =>
    obtain ⟨x, stat, -, word⟩ := Device.foldl_task Device.withdrawTask_word ht hi v d bit
    have idle : d.taskState t = 0 := h.resolve_left (by simp [bit])
    rw [Device.cancelWrite, word, Device.withdrawTask_self ((Device.get_congr_word stat).trans idle), stat]

end Words

/-! ### The writes themselves (R7, R12) -/

section Writes

variable {d : Device} {m : Master} {priv : Bool} {v : Word}

/-- A write of a register that has no settable field and refuses no value acts; what the register itself then holds is
of no matter. -/
theorem Device.regWrite_acts {r : RegSpec} {a : Nat} (found : regFind a = some r)
    (plain : r.fields.any FieldSpec.settable = false) (free : r.mask FieldSpec.guarded = 0)
    (act : d.actReserved m priv a v = false) (clear : d.hostOnlyClear m a v = false) :
    ∃ w, d.regWrite m priv a v = (false, (d.setWord a w).registerActs m priv a v) := by
  have unguarded : d.guardedChange r a v = false := by
    rw [Device.guardedChange, free]
    exact bne_eq_false_iff_eq.2 BitVec.and_zero
  have accepted : d.writeReserved m priv r a v = false := by
    have each : (r.fields.any fun f => f.settable && fieldReserved a f.lsb (fieldOf v f.lsb f.width)) = false := by
      rw [List.any_eq_false] at plain ⊢
      intro f hf
      simp [plain f hf]
    simp only [Device.writeReserved, act, clear, each, plain, Bool.or_self, Bool.false_and]
  rw [Device.regWrite_accepted found accepted fun h => absurd (unguarded.symm.trans h) Bool.false_ne_true]
  simp only [Device.writeAccepted, unguarded, plain, Bool.false_eq_true, if_false]
  exact ⟨_, rfl⟩

theorem Device.hostOnlyClear_weir {a : Nat} (h : a / 0x10000 = 0x4004) : d.hostOnlyClear m a v = false := by
  have ne (r : Nat) (hr : r / 0x10000 ≠ 0x4004) : (a == r) = false := beq_false_of_ne fun e => hr (e ▸ h)
  have channel : inFamily a (R.GDV_CH_FAULT_n 0) 4 4 = false := by
    rw [inFamily, decide_eq_false (by unfold R.GDV_CH_FAULT_n; omega), Bool.false_and, Bool.false_and]
  rw [Device.hostOnlyClear, ne R.PWR_FAULT (by decide), ne R.GDV_FAULT (by decide), ne R.DIAG_HOLD (by decide),
    ne R.SED_SYSFAULT (by decide), channel]
  exact Bool.and_false _

/-- WEIR_READYi, R435. -/
def specWeirReady : RegSpec := ⟨0x40040010, 2, 0x4, false, 0x0, [⟨0, 32, .w1s, .neu, false⟩]⟩

/-- WEIR_CANCELi, R435. -/
def specWeirCancel : RegSpec := ⟨0x40040018, 2, 0x4, false, 0x0, [⟨0, 32, .w1c, .neu, false⟩]⟩

theorem regFind_weirReady (i : Fin 2) : regFind (R.WEIR_READYi i.val) = some specWeirReady := by
  fin_cases i <;> decide

theorem regFind_weirCancel (i : Fin 2) : regFind (R.WEIR_CANCELi i.val) = some specWeirCancel := by
  fin_cases i <;> decide

/-- A direct write of such a register of the Weir. -/
theorem Device.directWrite_acts {r : RegSpec} {a : Nat} (run : d.coreRuns = true) (may : d.masterMay m a v = true)
    (place : a % 4 = 0 ∧ a / 0x10000 = 0x4004) (found : regFind a = some r)
    (plain : r.fields.any FieldSpec.settable = false) (free : r.mask FieldSpec.guarded = 0)
    (act : d.actReserved m (d.masterPriv m) a v = false) :
    ∃ w, d.directWrite m a v = (d.setWord a w).registerActs m (d.masterPriv m) a v := by
  obtain ⟨w, written⟩ := Device.regWrite_acts found plain free act (Device.hostOnlyClear_weir place.2)
  exact ⟨w, (Device.directWrite_register run may place.1 (by omega) (by omega)).trans (congrArg Prod.snd written)⟩

theorem Device.directWrite_ready (run : d.coreRuns = true) (i : Fin 2)
    (may : d.masterMay m (R.WEIR_READYi i.val) v = true) :
    ∃ w, d.directWrite m (R.WEIR_READYi i.val) v = (d.setWord (R.WEIR_READYi i.val) w).readyWrite i.val v := by
  obtain ⟨w, written⟩ := Device.directWrite_acts run may (by unfold R.WEIR_READYi; omega) (regFind_weirReady i)
    rfl rfl (by fin_cases i <;> rfl)
  exact ⟨w, written.trans (by fin_cases i <;> rfl)⟩

theorem Device.directWrite_cancel (run : d.coreRuns = true) (i : Fin 2)
    (may : d.masterMay m (R.WEIR_CANCELi i.val) v = true) :
    ∃ w, d.directWrite m (R.WEIR_CANCELi i.val) v = (d.setWord (R.WEIR_CANCELi i.val) w).cancelWrite i.val v := by
  obtain ⟨w, written⟩ := Device.directWrite_acts run may (by unfold R.WEIR_CANCELi; omega) (regFind_weirCancel i)
    rfl rfl (by fin_cases i <;> rfl)
  exact ⟨w, written.trans (by fin_cases i <;> rfl)⟩

theorem Device.setWord_keeps_task (d : Device) (t : Nat) {a : Nat} (w : Word) (h : a < 0x40040100) :
    (d.setWord a w).word (R.WEIR_STAT_t t) = d.word (R.WEIR_STAT_t t) ∧
      (d.setWord a w).word (R.WEIR_DESC_t t) = d.word (R.WEIR_DESC_t t) :=
  ⟨d.word_setWord_ne w (by unfold R.WEIR_STAT_t; omega), d.word_setWord_ne w (by unfold R.WEIR_DESC_t; omega)⟩

end Writes

/-! ### TAKE and DONE (R113, R416) -/

theorem State.completes_eq {i : Instr} {s : State} {f : Device → Device} {e : Device} {p : Device → Prop}
    (h : exec i s = s.on f) (he : f s.dev = e) (hp : p e) : Completes i s p :=
  State.on_completes h (by rwa [he])

/-- An instruction that acts on the device and names the outcome in a register. -/
theorem State.completes_give {i : Instr} {s : State} {c : CoreId} {k : InsnClass} {rd : WReg}
    {f : Device → Word × Device} {p : Device → Prop}
    (hi : exec i s = s.on fun d => d.issue c k false fun d => .give (f d) c rd)
    (h : s.dev.ready c k) (self : s.dev.fetched c = s.dev)
    (hp : p (((f s.dev).2.setReg c rd (f s.dev).1).advance c)) : Completes i s p := by
  refine State.on_completes hi ?_
  rwa [Device.issue_ready _ h, self]

section Given

variable (d : Device) (c : CoreId) (w : Word) {rd : WReg}

theorem Device.given_get (f : Fld) : ((d.setReg c rd w).advance c).get f = d.get f := by
  cases c <;> rfl

theorem Device.given_reg (h : rd ≠ 0) : (((d.setReg c rd w).advance c).core c).reg rd = w := by
  rw [Device.advance_core, Device.setReg, Device.core_setCore, Core.setReg, if_neg h, Core.reg, if_neg h]
  simp

theorem Device.given_pc : (((d.setReg c rd w).advance c).core c).pc = (d.core c).pc + 4 := by
  rw [Device.advance_core, Device.setReg, Device.core_setCore]
  exact congrArg (· + 4) (Core.setReg_pc ..)

end Given

section Dispatch

variable {d : Device} {c : CoreId} {t : Nat}

theorem Device.take_none (h : d.takeChoice c = none) : d.take c = (0, d) := by
  simp only [Device.take, h]

/-- The device in which core `c` has task `t`. -/
def Device.dispatched (d : Device) (c : CoreId) (t : Nat) : Device :=
  let d := d.drawCosts t
  let d := (d.put (F.WEIR_STAT_t_STATE t) 2).put (F.WEIR_STAT_t_CORE t) c.weir
  let d := d.put (F.WEIR_STAT_t_EPRIO t) (d.get (F.WEIR_DESC_t_PRIO t))
  let d := d.setFlag (F.WEIR_STAT_t_STARVED t) false
  let d := (d.put (F.WEIR_COREc_TASK c.weir) t).setFlag (F.WEIR_COREc_HELD c.weir) true
  { d with weirRecord := d.weirRecord.filter fun r => r.1 != t
           weirAge := d.weirAge.filter fun r => r.1 != t }

theorem Device.take_some (h : d.takeChoice c = some t) : d.take c =
    (BitVec.ofNat 32 (2 ^ 31 + 2 ^ 30 * d.get (F.WEIR_DESC_t_MUST t) + 2 ^ 24 * d.get (F.WEIR_STAT_t_EPRIO t) + t),
      d.dispatched c t) := by
  rw [Device.take, h]
  rfl

theorem Device.word_puti_ne (d : Device) (f : Fld) (v : Int) {a : Nat} (h : a ≠ f.addr) :
    (d.puti f v).word a = d.word a := d.word_put_ne f _ h

/-- The costs of a task show in the Reservoir alone. -/
theorem Device.drawCosts_word {a : Nat} (h : a < 0x40050000) : (d.drawCosts t).word a = d.word a := by
  have ne {r : Nat} (hr : 0x40050000 ≤ r) : a ≠ r := by omega
  unfold Device.drawCosts
  split
  · rfl
  · rw [Device.showPermits, Device.word_put_ne _ _ _ (ne (by decide)), Device.word_put_ne _ _ _ (ne (by decide)),
      Device.word_puti_ne _ _ _ (ne (by decide)), Device.word_puti_ne _ _ _ (ne (by decide))]
    rfl

theorem Device.core_rsv (d : Device) (r : Rsv) (c : CoreId) : ({ d with rsv := r } : Device).core c = d.core c := by
  cases c <;> rfl

theorem Device.puti_core (d : Device) (f : Fld) (v : Int) (c : CoreId) : (d.puti f v).core c = d.core c :=
  d.put_core f _ c

theorem Device.drawCosts_core : (d.drawCosts t).core c = d.core c := by
  unfold Device.drawCosts
  split
  · exact d.core_rsv _ c
  · rw [Device.showPermits, Device.put_core, Device.put_core, Device.puti_core, Device.puti_core, Device.core_rsv]

theorem Device.dispatched_core : (d.dispatched c t).core c = d.core c := by
  simp only [Device.dispatched, Device.setFlag, Device.core_weir, Device.put_core, Device.drawCosts_core]

/-- A dispatch names the task and the core in each other's registers. -/
theorem Device.dispatched_shows (ht : t < 64) : (d.dispatched c t).taskState t = 2 ∧
    (d.dispatched c t).get (F.WEIR_STAT_t_CORE t) = c.weir ∧
    (d.dispatched c t).get (F.WEIR_COREc_TASK c.weir) = t ∧ (d.dispatched c t).get (F.WEIR_COREc_HELD c.weir) = 1 ∧
    (d.dispatched c t).get (F.WEIR_STAT_t_EPRIO t) = d.get (F.WEIR_DESC_t_PRIO t) := by
  have prio : (d.drawCosts t).get (F.WEIR_DESC_t_PRIO t) = d.get (F.WEIR_DESC_t_PRIO t) :=
    Device.get_congr_word (Device.drawCosts_word (by simp only [F.WEIR_DESC_t_PRIO, R.WEIR_DESC_t]; omega))
  have status (x : Device) {g : Fld} (v w : Nat) (hg : g.addr = R.WEIR_STAT_t t) :
      ((x.put (F.WEIR_COREc_TASK c.weir) v).put (F.WEIR_COREc_HELD c.weir) w).get g = x.get g := by
    have apart : g.addr ≠ R.WEIR_COREc c.weir := by rw [hg]; exact (core_ne_stat c t).symm
    rw [Device.get_put_addr _ _ _ _ apart, Device.get_put_addr _ _ _ _ apart]
  have own := Nat.mod_eq_of_lt (d.get_lt_pow (F.WEIR_DESC_t_PRIO t))
  simp only [Device.dispatched, Device.taskState, Device.setFlag, Device.get_weir]
  rw [status (g := F.WEIR_STAT_t_STATE t) _ _ _ rfl, status (g := F.WEIR_STAT_t_CORE t) _ _ _ rfl,
    status (g := F.WEIR_STAT_t_EPRIO t) _ _ _ rfl, Device.get_prio_put _ t _ ht rfl,
    Device.get_prio_put _ t _ ht rfl, prio]
  simp (disch := decide) only [F.WEIR_STAT_t_STATE, F.WEIR_STAT_t_CORE, F.WEIR_STAT_t_EPRIO, F.WEIR_STAT_t_STARVED,
    F.WEIR_COREc_TASK, F.WEIR_COREc_HELD, Device.get_put_bits, Device.get_put_own]
  exact ⟨rfl, Nat.mod_eq_of_lt (Nat.lt_succ_of_le (weir_le_one c)), Nat.mod_eq_of_lt ht, rfl, own⟩

theorem Device.finishTask_self {n : Nat}
    (h : d.get (F.WEIR_COREc_HELD c.weir) = 0 ∨ d.get (F.WEIR_COREc_TASK c.weir) ≠ n) :
    d.finishTask c n = (0, d) := by
  rcases h with h | h <;> simp [Device.finishTask, Device.flag, h]

/-- The device in which task `t` has ended, and waits again where a request was kept for it. -/
def Device.ended (d : Device) (again : Bool) (t : Nat) : Device := if again then d.taskReady t else d.taskIdle t

theorem Device.ended_shows (again : Bool) :
    (d.ended again t).taskState t = again.toNat ∧ (d.ended again t).get (F.WEIR_STAT_t_REPEND t) = 0 := by
  cases again with
  | false => exact d.taskIdle_shows t
  | true =>
    obtain ⟨state, repend, -⟩ := d.taskReady_shows t
    exact ⟨state, repend⟩

theorem Device.ended_word (again : Bool) {a : Nat} (h : a ≠ R.WEIR_STAT_t t) :
    (d.ended again t).word a = d.word a := by
  cases again with
  | false => exact d.taskIdle_word t h
  | true => exact d.taskReady_word t h

theorem Device.ended_core (again : Bool) : (d.ended again t).core c = d.core c := by
  cases again with
  | false => exact d.taskIdle_core t c
  | true => exact d.taskReady_core t c

/-- The device in which core `c` holds no task any more and its task has ended. -/
def Device.released (d : Device) (c : CoreId) (t : Nat) : Device :=
  ((d.setFlag (F.WEIR_COREc_HELD c.weir) false).ended (d.flag (F.WEIR_STAT_t_REPEND t)) t).notifyTasks d

theorem Device.finishTask_held (held : d.get (F.WEIR_COREc_HELD c.weir) = 1)
    (task : d.get (F.WEIR_COREc_TASK c.weir) = t) :
    d.finishTask c t = (0x80000000, d.released c t) := by
  rw [Device.finishTask, Device.flag, held, task, beq_self_eq_true]
  rfl

theorem core_quiet (c : CoreId) : R.WEIR_COREc c.weir ∉ noteWords := by cases c <;> decide

theorem Device.released_core : (d.released c t).core c = d.core c := by
  rw [Device.released, (Device.notifyTasks_noted _ d).core, Device.ended_core, Device.setFlag, Device.put_core]

theorem Device.released_shows (ht : t < 64) : (d.released c t).get (F.WEIR_COREc_HELD c.weir) = 0 ∧
    (d.released c t).taskState t = d.get (F.WEIR_STAT_t_REPEND t) ∧
    (d.released c t).get (F.WEIR_STAT_t_REPEND t) = 0 := by
  have told := (Device.notifyTasks_noted
    ((d.setFlag (F.WEIR_COREc_HELD c.weir) false).ended (d.flag (F.WEIR_STAT_t_REPEND t)) t) d)
  have core := (told.word (core_quiet c)).trans (Device.ended_word _ (core_ne_stat c t))
  have stat := told.word (stat_quiet ht)
  have bit : (d.flag (F.WEIR_STAT_t_REPEND t)).toNat = d.get (F.WEIR_STAT_t_REPEND t) := by
    have : d.get (F.WEIR_STAT_t_REPEND t) < 2 := d.get_lt_pow _
    unfold Device.flag
    interval_cases d.get (F.WEIR_STAT_t_REPEND t) <;> rfl
  obtain ⟨state, repend⟩ := Device.ended_shows (d := d.setFlag (F.WEIR_COREc_HELD c.weir) false) (t := t)
    (d.flag (F.WEIR_STAT_t_REPEND t))
  exact ⟨(Device.get_congr_word core).trans (Device.get_put_same _ _ _ rfl),
    (Device.get_congr_word stat).trans (state.trans bit), (Device.get_congr_word stat).trans repend⟩

end Dispatch

/-! ### A task that waits too long (R418) -/

section Starved

variable {d : Device} {t : Nat}

theorem Device.taskStarved_self (h : d.get F.WEIR_CFG_STARVE = 0 ∨ d.get (F.WEIR_STAT_t_STARVED t) = 1) :
    d.taskStarved t = d := by
  rcases h with h | h <;> simp [Device.taskStarved, Device.flag, h]

theorem starved_ne_stat {i t : Nat} (hi : i < 2) : R.WEIR_STARVEDi i ≠ R.WEIR_STAT_t t := by
  unfold R.WEIR_STARVEDi R.WEIR_STAT_t
  omega

theorem starved_quiet {i : Nat} (hi : i < 2) : R.WEIR_STARVEDi i ∉ noteWords := by
  interval_cases i <;> decide

/-- The device in which the task is marked, before the event. -/
def Device.starvedMarked (d : Device) (t : Nat) : Device :=
  (d.setFlag (F.WEIR_STAT_t_STARVED t) true).orField (F.WEIR_STARVEDi_TASKS (t / 32)) (2 ^ (t % 32))

theorem Device.taskStarved_raises (run : d.coreRuns = true) (ready : d.taskState t = 1)
    (limit : d.get F.WEIR_CFG_STARVE ≠ 0) (long : d.get F.WEIR_CFG_STARVE ≤ d.get (F.WEIR_STAT_t_WAIT t))
    (first : d.get (F.WEIR_STAT_t_STARVED t) = 0) :
    ∃ data, d.taskStarved t = (d.starvedMarked t).raise 69 t data := by
  have due : (d.coreRuns && d.taskState t == 1 && d.get F.WEIR_CFG_STARVE != 0 &&
      decide (d.get F.WEIR_CFG_STARVE ≤ d.get (F.WEIR_STAT_t_WAIT t)) &&
      !d.flag (F.WEIR_STAT_t_STARVED t)) = true := by
    simp [Device.flag, run, ready, limit, long, first]
  exact ⟨_, if_pos due⟩

theorem Device.starvedMarked_shows (ht : t < 64) : (d.starvedMarked t).get (F.WEIR_STAT_t_STARVED t) = 1 ∧
    ((d.starvedMarked t).get (F.WEIR_STARVEDi_TASKS (t / 32))).testBit (t % 32) = true ∧
    (d.starvedMarked t).taskState t = d.taskState t := by
  have status {g : Fld} (hg : g.addr = R.WEIR_STAT_t t) :
      (d.starvedMarked t).get g = (d.setFlag (F.WEIR_STAT_t_STARVED t) true).get g :=
    Device.get_put_addr _ _ _ _ (by rw [hg]; exact (starved_ne_stat (by omega)).symm)
  refine ⟨(status rfl).trans (Device.get_put_same _ _ _ rfl), ?_,
    (status rfl).trans (Device.get_put_bits _ _ (by decide) (by decide))⟩
  rw [Device.starvedMarked, Device.orField, Device.get_put_same _ _ _ rfl, Nat.testBit_mod_two_pow, Nat.testBit_or,
    Nat.testBit_two_pow_self, Bool.or_true, Bool.and_true]
  exact decide_eq_true (Nat.mod_lt _ (by decide))

theorem Device.starvedMarked_fired (ht : t < 64) (data : List Byte) :
    d.fired ((d.starvedMarked t).raise 69 t data) 69 := by
  have apart : R.WEIR_STAT_t t ≠ R.WEIR_STARVEDi (t / 32) := (starved_ne_stat (by omega)).symm
  have silent : R.PWR_STAT ≠ R.WEIR_STAT_t t ∧ R.PWR_STAT ≠ R.WEIR_STARVEDi (t / 32) := by
    unfold R.PWR_STAT R.WEIR_STAT_t R.WEIR_STARVEDi
    omega
  refine Device.wrote.fired (Device.wrote_setWord_setWord d _ _ apart) ?_
    ((d.starvedMarked t).fired_raise 69 rfl (by decide) t data)
  simp [List.lookup, beq_false_of_ne silent.1, beq_false_of_ne silent.2]

end Starved

/-! ### O20 -/

section TakeDone

variable {s : State} {c : CoreId} {rd rs : WReg}

theorem exec_take_none (h : s.dev.ready c .control) (self : s.dev.fetched c = s.dev)
    (idle : s.dev.takeChoice c = none) : exec (.take c rd) s = .next (s.writes c rd 0) := by
  refine State.retire_ok (f := fun k => k.setReg rd 0) h ?_ (Core.setReg_pc ..)
  rw [self, Device.take_none idle]
  rfl

theorem exec_done_self (h : s.dev.ready c .control) (self : s.dev.fetched c = s.dev)
    (other : s.dev.get (F.WEIR_COREc_HELD c.weir) = 0 ∨
      s.dev.get (F.WEIR_COREc_TASK c.weir) ≠ ((s.dev.core c).reg rs).toNat % 64) :
    exec (.done c rd rs) s = .next (s.writes c rd 0) := by
  refine State.retire_ok (f := fun k => k.setReg rd 0) h ?_ (Core.setReg_pc ..)
  rw [self, Device.reg, Device.finishTask_self other]
  rfl

/-- The word of a dispatch holds its fields side by side. -/
theorem takeWord_toNat (d : Device) {t : Nat} (ht : t < 64) :
    (BitVec.ofNat 32 (2 ^ 31 + 2 ^ 30 * d.get (F.WEIR_DESC_t_MUST t) + 2 ^ 24 * d.get (F.WEIR_STAT_t_EPRIO t) +
        t)).toNat =
      2 ^ 31 + 2 ^ 30 * d.get (F.WEIR_DESC_t_MUST t) + 2 ^ 24 * d.get (F.WEIR_STAT_t_EPRIO t) + t := by
  have must : d.get (F.WEIR_DESC_t_MUST t) < 2 := d.get_lt_pow _
  have prio : d.get (F.WEIR_STAT_t_EPRIO t) < 8 := d.get_lt_pow _
  rw [BitVec.toNat_ofNat]
  omega

end TakeDone

/-- Settles O20, operation by operation: TAKE, DONE, the two request words and the report of a wait. -/
theorem tasksAndWeir : Obligations.TasksAndWeir := by
  unfold Obligations.TasksAndWeir
  refine ⟨fun s c rd rs named h self => ⟨exec_take_none h self, fun t choice ht => ?take, exec_done_self h self,
    fun held task => ?done⟩, fun s m t v run => ⟨fun may => ?ready, fun may => ?cancel,
      fun ready limit long first => ?starved, fun h => ?never⟩⟩
  case take =>
    refine State.completes_give rfl h self ?_
    obtain ⟨state, core, task, held, prio⟩ := s.dev.dispatched_shows (c := c) ht
    rw [Device.take_some choice, Device.given_reg _ _ _ named, Device.given_pc, Device.dispatched_core,
      takeWord_toNat _ ht]
    simp only [Device.taskState, Device.given_get]
    exact ⟨state, core, task, held, prio, trivial, rfl⟩
  case done =>
    refine State.completes_give rfl h self ?_
    obtain ⟨free, state, repend⟩ := s.dev.released_shows (c := c) (t := ((s.dev.core c).reg rs).toNat % 64)
      (Nat.mod_lt _ (by decide))
    rw [Device.reg, Device.finishTask_held held task, Device.given_reg _ _ _ named, Device.given_pc,
      Device.released_core]
    simp only [Device.taskState, Device.given_get]
    exact ⟨free, trivial, state, repend, rfl⟩
  case ready =>
    obtain ⟨w, written⟩ := Device.directWrite_ready run _ may
    refine State.completes_eq (f := fun d => d.directWrite m (R.WEIR_READYi (t.val / 32)) v) rfl written ?_
    obtain ⟨stat, desc⟩ := s.dev.setWord_keeps_task t.val w (a := R.WEIR_READYi (t.val / 32))
      (by unfold R.WEIR_READYi; omega)
    refine ⟨fun ⟨bit, aff⟩ idle => ?_, fun ⟨bit, aff⟩ runs => ?_, fun h => ?_, Device.readyWrite_mem⟩
    · obtain ⟨state, prio, wait⟩ := Device.readyWrite_idle t.isLt rfl bit (by rwa [Device.get_congr_word desc])
        ((Device.get_congr_word stat).trans idle)
      exact ⟨state, prio.trans (Device.get_congr_word desc), wait⟩
    · exact Device.readyWrite_running t.isLt rfl bit (by rwa [Device.get_congr_word desc])
        ((Device.get_congr_word stat).trans runs)
    · refine (Device.readyWrite_self t.isLt rfl (h.imp ?_ (Device.get_congr_word stat).trans)).trans stat
      exact mt fun ⟨bit, aff⟩ => ⟨bit, by rwa [← Device.get_congr_word desc]⟩
  case cancel =>
    obtain ⟨w, written⟩ := Device.directWrite_cancel run _ may
    refine State.completes_eq (f := fun d => d.directWrite m (R.WEIR_CANCELi (t.val / 32)) v) rfl written ?_
    obtain ⟨stat, -⟩ := s.dev.setWord_keeps_task t.val w (a := R.WEIR_CANCELi (t.val / 32))
      (by unfold R.WEIR_CANCELi; omega)
    refine ⟨fun bit ready => ?_, fun bit runs => ?_, fun h => ?_, Device.cancelWrite_mem⟩
    · exact Device.cancelWrite_ready t.isLt rfl bit ((Device.get_congr_word stat).trans ready)
    · exact Device.cancelWrite_running t.isLt rfl bit ((Device.get_congr_word stat).trans runs)
    · exact (Device.cancelWrite_self t.isLt rfl (h.imp_right (Device.get_congr_word stat).trans)).trans stat
  case starved =>
    obtain ⟨data, raised⟩ := Device.taskStarved_raises run ready limit long first
    refine State.completes_eq (f := fun d => d.taskStarved t.val) rfl raised ?_
    obtain ⟨starved, bit, state⟩ := s.dev.starvedMarked_shows t.isLt
    have told := (s.dev.starvedMarked t.val).raise_noted 69 t.val data
    have stat := told.word (stat_quiet t.isLt)
    have mark := told.word (starved_quiet (i := t.val / 32) (by omega))
    refine ⟨(Device.get_congr_word stat).trans starved, ?_, s.dev.starvedMarked_fired t.isLt data,
      (Device.get_congr_word stat).trans (state.trans ready)⟩
    rw [Device.get_congr_word mark]
    exact bit
  case never => exact State.on_eq_self (f := fun d => d.taskStarved t.val) (Device.taskStarved_self h)

end Sys2Proof.Machine
end

section
/-! PROOFS. Fields whose bits are set, registers that only act and registers that only store, and folds whose steps each
change one thing. -/

namespace Sys2Proof.Machine

/-! ### Bits of fields -/

/-- A field in which bits have been set holds them beside its own. -/
theorem Device.get_orField_same (d : Device) {f : Fld} {v : Nat} (fits : f.fits = true) (hv : v < 2 ^ f.width) :
    (d.orField f v).get f = d.get f ||| v :=
  (d.get_put_same f _ fits).trans (Nat.mod_eq_of_lt (Nat.or_lt_two_pow (d.get_lt_pow f) hv))

theorem Device.testBit_orField (d : Device) {f : Fld} {i : Nat} (fits : f.fits = true) (hi : i < f.width) :
    ((d.orField f (2 ^ i)).get f).testBit i = true := by
  rw [d.get_orField_same fits (Nat.pow_lt_pow_right (by decide) hi), Nat.testBit_or, Nat.testBit_two_pow_self,
    Bool.or_true]

/-- A flag of one bit that has been set reads 1. -/
theorem Device.get_orField_flag (d : Device) {f : Fld} (fits : f.fits = true) (flag : f.width = 1) :
    (d.orField f 1).get f = 1 := by
  have bit : d.get f < 2 ^ f.width := d.get_lt_pow f
  rw [d.get_orField_same fits (by rw [flag]; decide)]
  rw [flag] at bit
  obtain h | h : d.get f = 0 ∨ d.get f = 1 := by omega
  all_goals rw [h]; rfl

theorem fieldOf_low (w : Word) (n : Nat) : fieldOf w 0 n = w.toNat % 2 ^ n := by rw [fieldOf, pow_zero, Nat.div_one]

theorem fieldOf_bit (w : Word) (i : Nat) : fieldOf w i 1 = (w.getLsbD i).toNat := (Nat.toNat_testBit _ _).symm

/-! ### Writes of registers (R7, R12) -/

theorem inFamily_outside {a base count stride : Nat} (hs : 0 < stride) (h : a < base ∨ base + count * stride ≤ a) :
    inFamily a base count stride = false := by
  rcases h with h | h
  · simp [inFamily, Nat.not_le.2 h]
  · have : count ≤ (a - base) / stride := (Nat.le_div_iff_mul_le hs).2 (by omega)
    simp [inFamily, Nat.not_lt.2 this]

/-- The bits of no field are no bits. -/
theorem RegSpec.mask_none {r : RegSpec} {p : FieldSpec → Bool} (h : r.fields.any p = false) : r.mask p = 0 := by
  refine BitVec.eq_of_getLsbD_eq fun i hi => ?_
  rw [r.getLsbD_mask p hi, show BitVec.getLsbD (0 : Word) i = false from BitVec.getLsbD_zero]
  rw [List.any_eq_false] at h ⊢
  intro f hf
  simp [h f hf]

theorem testBit_fieldOf (w : Word) (lsb width i : Nat) :
    (fieldOf w lsb width).testBit i = (decide (i < width) && w.getLsbD (i + lsb)) := by
  rw [fieldOf, Nat.testBit_mod_two_pow, Nat.testBit_div_two_pow]
  rfl

/-- A settable field takes the bits written (R7). -/
theorem RegSpec.fieldOf_setFields {r : RegSpec} {f : FieldSpec} (hf : f ∈ r.fields) (settable : f.settable = true)
    (fits : f.lsb + f.width ≤ 32) (old w : Word) :
    fieldOf (r.setFields old w) f.lsb f.width = fieldOf w f.lsb f.width := by
  refine Nat.eq_of_testBit_eq fun i => ?_
  rw [testBit_fieldOf, testBit_fieldOf]
  by_cases hi : i < f.width
  · have taken : (r.fields.any fun g => g.settable && g.lsb ≤ i + f.lsb && i + f.lsb < g.lsb + g.width) = true :=
      List.any_eq_true.2 ⟨f, hf, by simp [settable]; omega⟩
    rw [r.getLsbD_setFields _ _ (by omega), if_pos taken]
  · simp [hi]

section Writes

variable {d : Device} {m : Master} {priv : Bool} {v : Word}

/-- A register no field of which is reserved to transactions takes every change in PLAY too. -/
theorem Device.guardedChange_free {r : RegSpec} (free : r.mask FieldSpec.guarded = 0) (d : Device) (a : Nat)
    (v : Word) : d.guardedChange r a v = false := by
  rw [Device.guardedChange, free]
  exact bne_eq_false_iff_eq.2 BitVec.and_zero

/-- A register without settable fields refuses a write only for what the write does. -/
theorem Device.writeReserved_plain {r : RegSpec} {a : Nat} (plain : r.fields.any FieldSpec.settable = false)
    (act : d.actReserved m priv a v = false) (clear : d.hostOnlyClear m a v = false) :
    d.writeReserved m priv r a v = false := by
  have each : (r.fields.any fun f => f.settable && fieldReserved a f.lsb (fieldOf v f.lsb f.width)) = false := by
    rw [List.any_eq_false] at plain ⊢
    intro f hf
    simp [plain f hf]
  simp only [Device.writeReserved, act, clear, each, plain, Bool.or_self, Bool.false_and]

theorem RegSpec.setFields_plain {r : RegSpec} (settable : r.mask FieldSpec.settable = 0) (old w : Word) :
    r.setFields old w = old := by
  rw [RegSpec.setFields, settable, and_not_zero, show w &&& (0 : Word) = 0 from BitVec.and_zero]
  exact BitVec.or_zero

theorem RegSpec.clear_none {r : RegSpec} (w1c : (r.mask fun f => f.acc == .w1c) = 0) (old w : Word) :
    old &&& ~~~(w &&& r.mask fun f => f.acc == .w1c) = old := by
  rw [w1c, show w &&& (0 : Word) = 0 from BitVec.and_zero, and_not_zero]

/-- A write of a register that has neither settable nor W1C fields acts, and the word of the register stands. -/
theorem Device.regWrite_acts_alone {r : RegSpec} {a : Nat} (found : regFind a = some r)
    (plain : r.fields.any FieldSpec.settable = false) (settable : r.mask FieldSpec.settable = 0)
    (free : r.mask FieldSpec.guarded = 0) (w1c : (r.mask fun f => f.acc == .w1c) = 0)
    (act : d.actReserved m priv a v = false) (clear : d.hostOnlyClear m a v = false) :
    d.regWrite m priv a v = (false, (d.setWord a (d.word a)).registerActs m priv a v) := by
  have unguarded := Device.guardedChange_free free d a v
  rw [Device.regWrite_accepted found (Device.writeReserved_plain plain act clear) fun h =>
    absurd (unguarded.symm.trans h) Bool.false_ne_true]
  simp only [Device.writeAccepted, unguarded, plain, RegSpec.setFields_plain settable, RegSpec.clear_none w1c, ite_self,
    Bool.false_eq_true, if_false]

end Writes

/-! ### Folds whose steps each change one thing -/

section Fold

variable {σ α β : Type} {step : σ → α → σ} {view : σ → β} {x : α}
  (other : ∀ s y, y ≠ x → view (step s y) = view s)
include other

theorem foldl_absent : ∀ (l : List α) (s : σ), x ∉ l → view (l.foldl step s) = view s
  | [], _, _ => rfl
  | y :: t, s, h =>
    (foldl_absent t (step s y) fun mem => h (.tail _ mem)).trans (other s y fun e => h (e ▸ .head _))

/-- In a list without repetition the step of `x` meets what it looks at as it was, in a state that keeps what all steps
keep. -/
theorem foldl_once {l : List α} (once : l.Nodup) (mem : x ∈ l) {inv : σ → Prop} {s : σ} (start : inv s)
    (keeps : ∀ s y, inv s → inv (step s y)) :
    ∃ t, inv t ∧ view t = view s ∧ view (l.foldl step s) = view (step t x) := by
  obtain ⟨before, after, rfl⟩ := List.append_of_mem mem
  rw [List.nodup_middle, List.nodup_cons, List.mem_append, not_or] at once
  obtain ⟨⟨notBefore, notAfter⟩, -⟩ := once
  refine ⟨before.foldl step s, List.foldlRecOn before step start fun t ht y _ => keeps t y ht,
    foldl_absent other before s notBefore, ?_⟩
  rw [List.foldl_append, List.foldl_cons]
  exact foldl_absent other after _ notAfter

end Fold

end Sys2Proof.Machine
end

section
/-! PROOFS. The wake tones of the chain and the wake latches (O44). -/

namespace Sys2Proof.Machine

/-! ### The tone at the master (R468, R469) -/

section Master

variable {d : Device}

theorem Device.masterTone_driving (tone : d.shl.toneOn = true) : d.masterTone = d := if_pos tone

theorem Device.masterTone_runs (tone : d.shl.toneOn = false) (runs : d.running = true) :
    d.masterTone = (d.shlEvt 128).fire 85 := by
  simp only [Device.masterTone, tone, runs, Bool.true_or, Bool.false_eq_true, if_false, if_true]

theorem Device.masterTone_stands (tone : d.shl.toneOn = false) (runs : d.running = false) (limp : d.limp = false) :
    d.masterTone = d.orField F.EVC_WLATCH_LATCH 32 := by
  simp only [Device.masterTone, tone, runs, limp, Bool.or_self, Bool.false_eq_true, if_false]

/-- The event of the tone leaves the flag set and the chain as it was. -/
theorem Device.toneEvent_shows (d : Device) : (((d.shlEvt 128).fire 85).get F.SHL_EVT_EVT).testBit 7 = true ∧
    d.fired ((d.shlEvt 128).fire 85) 85 ∧ ((d.shlEvt 128).fire 85).shl = d.shl := by
  refine ⟨?_, (d.wrote_put F.SHL_EVT_EVT _).fired rfl ((d.shlEvt 128).fired_fire 85 (by decide) (by decide)),
    Device.fire_shl ..⟩
  have flag : ((d.shlEvt 128).fire 85).get F.SHL_EVT_EVT = (d.shlEvt 128).get F.SHL_EVT_EVT :=
    Device.fire_get _ _ (by decide)
  rw [flag]
  exact d.testBit_orField (f := F.SHL_EVT_EVT) (i := 7) (by decide) (by decide)

theorem Device.masterToneEnd_silent (tone : d.shl.toneOn = false) : d.masterToneEnd = d := by
  simp only [Device.masterToneEnd, tone, Bool.false_eq_true, if_false]

/-- On a free chain for which nothing waits, nothing leaves. -/
theorem Device.shlNext_quiet (quiet : d.chainQuiet) (cycle : d.shl.cycle = none) : d.shlNext = d := by
  obtain ⟨free, collect, enum, locate, jobs, mbq, woke, heal, wantLocate, unassign, sleep, time, loop⟩ := quiet
  have commands : d.shlCommands = d := by simp only [Device.shlCommands, Shl.reads, cycle, jobs, mbq]
  simp only [Device.shlNext, Device.shlBroadcasts, Shl.unsent, free, collect, enum, locate, woke, heal, wantLocate,
    unassign, sleep, time, loop, cycle, commands, Bool.not_true, Bool.false_and, Bool.false_eq_true, if_false]

theorem Device.shlPump_quiet (quiet : d.chainQuiet) (cycle : d.shl.cycle = none) : d.shlPump = d :=
  List.foldl_fixed' (fun _ => Device.shlNext_quiet quiet cycle) _

theorem Device.masterToneEnd_quiet (tone : d.shl.toneOn = true)
    (quiet : ({ d with shl.toneOn := false } : Device).chainQuiet) (cycle : d.shl.cycle = none) :
    d.masterToneEnd = { d with shl.toneOn := false } := by
  rw [Device.masterToneEnd, if_pos tone]
  exact Device.shlPump_quiet quiet cycle

end Master

/-! ### The tone at a companion (R468, R506) -/

section Companion

variable {c : Companion}

theorem Companion.hearTone_dark (off : c.powered = false) : c.hearTone = c := by
  simp only [Companion.hearTone, off, Bool.not_false, if_true]

theorem Companion.hearTone_awake (on : c.powered = true) (awake : c.asleep = false) :
    c.hearTone = { c with toneOn := true } := by
  simp only [Companion.hearTone, on, awake, Bool.not_true, Bool.false_eq_true, if_false]

theorem Companion.hearTone_asleep (on : c.powered = true) (asleep : c.asleep = true) : c.hearTone = c.wake 1 := by
  simp only [Companion.hearTone, on, asleep, Bool.not_true, Bool.false_eq_true, if_false, if_true]

theorem Companion.tsync_setTsync_false (c : Companion) : (c.setTsync false).tsync = false := by
  have flags : (c.setTsync false).get F.XM_STAT_FLAGS =
      (c.get F.XM_STAT_FLAGS - 4 * (c.get F.XM_STAT_FLAGS / 4 % 2)) % 2 ^ 5 :=
    RegMap.get_put_same _ _ _ (by decide)
  rw [Companion.tsync, flags, Nat.testBit_eq_decide_div_mod_eq]
  exact decide_eq_false (by omega)

/-- A companion that wakes for a reason records it and has lost its time (R506). -/
theorem Companion.wake_shows (c : Companion) {i : Nat} (hi : i < 4) :
    (c.wake (2 ^ i)).tsync = false ∧ ((c.wake (2 ^ i)).get F.XM_WAKE_WHY_WHY).testBit i = true := by
  constructor
  · have kept : (c.wake (2 ^ i)).get F.XM_STAT_FLAGS =
        (({ c with asleep := false, toneOn := true } : Companion).setTsync false).get F.XM_STAT_FLAGS :=
      RegMap.get_put_apart _ _ _ _ (by decide) (by decide)
    rw [Companion.tsync, kept]
    exact Companion.tsync_setTsync_false _
  · have why : (c.wake (2 ^ i)).get F.XM_WAKE_WHY_WHY = (_ ||| 2 ^ i) % 2 ^ 4 :=
      RegMap.get_put_same _ _ _ (by decide)
    rw [why, Nat.testBit_mod_two_pow, Nat.testBit_or, Nat.testBit_two_pow_self, Bool.or_true, Bool.and_true]
    exact decide_eq_true hi

theorem Device.companion_withCompanion (d : Device) (k : Fin 64) (c : Companion) :
    (d.withCompanion k c).companion k = c := by
  simp [Device.companion, Device.withCompanion]

theorem Device.withCompanion_self (d : Device) (k : Fin 64) : d.withCompanion k (d.companion k) = d := by
  simp [Device.withCompanion, Device.companion]

end Companion

/-- What a companion does with a tone or at its end is a change of that companion. -/
theorem exec_chnWake_companion (s : State) (k : Fin 64) : exec (.chnWake (some k)) s =
    .next { s with dev := s.dev.withCompanion k (s.dev.companion k).hearTone } := rfl

/-! ### The counters of the chain (R485) -/

section Counters

variable {d : Device} {m : Master} {priv : Bool} {v : Word}

/-- SHL_CNT2 as the table of registers lists it. -/
def specShlCnt2 : RegSpec := ⟨0x400C001C, 1, 0x4, false, 0x0,
  [⟨0, 16, .ro, .neu, false⟩, ⟨16, 15, .ro, .neu, false⟩, ⟨31, 1, .wo, .neu, false⟩]⟩

theorem regFind_shlCnt2 : regFind R.SHL_CNT2 = some specShlCnt2 := by decide

theorem Device.hostOnlyClear_shlCnt2 : d.hostOnlyClear m R.SHL_CNT2 v = false := Bool.and_false _

/-- The device with the counters of the chain cleared. -/
def Device.chainCountsCleared (d : Device) : Device :=
  d.zeroFields [F.SHL_CNT_HCRC, F.SHL_CNT_RETRY, F.SHL_CNT2_SKIP, F.SHL_CNT2_PCRC]

theorem Device.directWrite_shlCnt2 (run : d.coreRuns = true) (may : d.masterMay m R.SHL_CNT2 v = true) :
    d.directWrite m R.SHL_CNT2 v =
      let e := d.setWord R.SHL_CNT2 (d.word R.SHL_CNT2)
      if v.getLsbD 31 then e.chainCountsCleared else e := by
  rw [Device.directWrite_register run may (by decide) (by decide) (by decide),
    Device.regWrite_acts_alone regFind_shlCnt2 (by decide) (by decide) (by decide) (by decide) rfl
      Device.hostOnlyClear_shlCnt2]
  rfl

theorem Device.setWord_self_word (d : Device) (a b : Nat) : (d.setWord a (d.word a)).word b = d.word b := by
  by_cases h : b = a
  · rw [h, Device.word_setWord_same]
  · exact d.word_setWord_ne _ h

theorem Device.chainCountsCleared_shows (d : Device) :
    d.chainCountsCleared.get F.SHL_CNT_HCRC = 0 ∧ d.chainCountsCleared.get F.SHL_CNT_RETRY = 0 ∧
      d.chainCountsCleared.get F.SHL_CNT2_SKIP = 0 ∧ d.chainCountsCleared.get F.SHL_CNT2_PCRC = 0 := by
  simp (disch := decide) only [Device.chainCountsCleared, Device.zeroFields, List.foldl_cons, List.foldl_nil,
    Device.get_put_apart, Device.get_put_same, Nat.zero_mod, and_self]

theorem Device.chainCountsCleared_word (d : Device) {a : Nat} (h1 : a ≠ R.SHL_CNT) (h2 : a ≠ R.SHL_CNT2) :
    d.chainCountsCleared.word a = d.word a := by
  simp only [Device.chainCountsCleared, Device.zeroFields, List.foldl_cons, List.foldl_nil]
  rw [Device.word_put_ne _ _ _ h2, Device.word_put_ne _ _ _ h2, Device.word_put_ne _ _ _ h1,
    Device.word_put_ne _ _ _ h1]

end Counters

/-! ### The wake latches (R148, R149) -/

/-- An edge sets its latch where the controller does not run, or still takes latches, and AON runs. -/
theorem exec_wakeLatchSet {s : State} (k : Fin 9) (stopped : s.dev.coreRuns = false ∨ s.dev.evc.taking = true)
    (aon : s.dev.aonRuns = true) :
    exec (.wakeLatchSet k) s = s.on fun d => d.orField F.EVC_WLATCH_LATCH (2 ^ k.val) := by
  refine State.on_congr (f := fun d => if (d.coreRuns && !d.evc.taking) || !d.aonRuns then d
    else d.orField F.EVC_WLATCH_LATCH (2 ^ k.val)) (if_neg ?_)
  rcases stopped with h | h <;> simp [h, aon]

/-! ### O44 -/

/-- Settles O44: the tone at the master by what it does meanwhile, the tone at a companion by its state, the counters
and the latches. -/
theorem wakeTonesAndLatches : Obligations.WakeTonesAndLatches := by
  unfold Obligations.WakeTonesAndLatches
  refine ⟨fun s k m v => ⟨fun tone => ?driving, fun tone runs => ?event, fun tone runs limp => ?latch,
    fun tone => ?silent, fun tone quiet cycle => ?ends, fun off => ?dark, fun on awake => ?relays,
    fun on asleep => ?wakes, rfl, fun run may => ?counters⟩, fun s k stopped aon => ?edge⟩
  case driving => exact State.on_eq_self (f := fun d => d.toneHeard none) (Device.masterTone_driving tone)
  case event =>
    exact State.completes_eq (f := fun d => d.toneHeard none) rfl (Device.masterTone_runs tone runs)
      s.dev.toneEvent_shows
  case latch =>
    refine State.completes_eq (f := fun d => d.toneHeard none) rfl (Device.masterTone_stands tone runs limp) ?_
    exact ⟨s.dev.testBit_orField (f := F.EVC_WLATCH_LATCH) (i := 5) (by decide) (by decide), rfl,
      fun a ha => s.dev.word_put_ne _ _ ha⟩
  case silent => exact State.on_eq_self (f := fun d => d.toneEnds none) (Device.masterToneEnd_silent tone)
  case ends =>
    exact State.on_congr (f := fun d => d.toneEnds none) (g := fun d => { d with shl.toneOn := false })
      (Device.masterToneEnd_quiet tone quiet cycle)
  case dark => rw [exec_chnWake_companion, Companion.hearTone_dark off, Device.withCompanion_self]
  case relays => rw [exec_chnWake_companion, Companion.hearTone_awake on awake]
  case wakes =>
    refine ⟨_, exec_chnWake_companion s k, rfl, ?_⟩
    obtain ⟨tsync, why⟩ := (s.dev.companion k).wake_shows (i := 0) (by decide)
    dsimp only
    rw [Device.companion_withCompanion, Companion.hearTone_asleep on asleep]
    exact ⟨rfl, rfl, rfl, tsync, why, rfl, rfl, rfl⟩
  case counters =>
    refine State.completes_eq (f := fun d => d.directWrite m R.SHL_CNT2 v) rfl (Device.directWrite_shlCnt2 run may) ?_
    have same := s.dev.setWord_self_word R.SHL_CNT2
    cases v.getLsbD 31 with
    | false => exact ⟨rfl, fun a _ _ => same a, nofun, fun _ => same⟩
    | true =>
      exact ⟨rfl, fun a h1 h2 => (Device.chainCountsCleared_word _ h1 h2).trans (same a),
        fun _ => Device.chainCountsCleared_shows _, nofun⟩
  case edge =>
    refine State.on_completes (exec_wakeLatchSet k stopped aon) ⟨s.dev.wrote_put F.EVC_WLATCH_LATCH _, ?_⟩
    exact s.dev.get_orField_same (by decide) (Nat.pow_lt_pow_right (by decide) k.isLt)

end Sys2Proof.Machine
end

section
/-! PROOFS. The fires of the event sources and the delivery cycle (O26). -/

namespace Sys2Proof.Machine

/-! ### The log and the words of the event controller -/

theorem Device.log_word (d : Device) (n sev detail : Nat) (data : List Byte) {a : Nat} (h1 : a ≠ R.SED_CNT2)
    (h2 : a ≠ R.SED_EVT) : (d.log n sev detail data).word a = d.word a := by
  have counted (e : Device) : ((e.bump F.SED_CNT2_GAP).orField F.SED_EVT_EVT 8).word a = e.word a :=
    (Device.word_put_ne _ _ _ h2).trans (Device.word_put_ne _ _ _ h1)
  unfold Device.log Device.logEntry
  split
  · split
    · rfl
    · exact counted _
  · split
    · rfl
    · exact counted _

/-! ### One fire of a source (R141 to R143) -/

section Fire

variable {d : Device} {n : Fin 128} {e : EvSource} {sw wake : Bool}

theorem Device.fire_unlisted (d : Device) {n : Nat} (h : isSource n = false ∨ 124 ≤ n) : d.fire n = d := by
  rcases h with h | h <;> simp [Device.fire, h]

theorem Device.fire_listed (listed : isSource n.val = true) (hardware : n.val < 124)
    (free : d.latchArmed n.val = false) : d.fire n.val = d.fireNow n false false := by
  simp [Device.fire, listed, Nat.not_le.2 hardware, free]

theorem Device.countFire_room (room : e.count < 255) :
    d.countFire n e = d.setSource n { e with count := e.count + 1 } :=
  if_pos room

theorem Device.countFire_full (full : ¬ e.count < 255) : (d.countFire n e).source n = { e with ovf := true } ∧
    (d.countFire n e).get F.EVC_STAT_OVFANY = 1 := by
  have flag := (d.setSource n { e with ovf := true }).get_orField_flag (f := F.EVC_STAT_OVFANY) (by decide) rfl
  rw [Device.countFire, if_neg full]
  dsimp only
  split
  · exact ⟨d.source_setSource n _, flag⟩
  · exact ⟨(Device.log_source ..).trans (d.source_setSource n _),
      (Device.get_congr_word (Device.log_word _ _ _ _ _ (by decide) (by decide))).trans flag⟩

theorem Device.countFire_adds (d : Device) (n : Fin 128) (e : EvSource) :
    if e.count < 255 then (d.countFire n e).source n = { e with count := e.count + 1 }
    else (d.countFire n e).source n = { e with ovf := true } ∧ (d.countFire n e).get F.EVC_STAT_OVFANY = 1 := by
  split
  next room => rw [Device.countFire_room room, Device.source_setSource]
  next full => exact Device.countFire_full full

theorem Device.fireNow_idle (idle : (d.source n).st = .idle) :
    d.fireNow n sw wake = d.setSource n { d.source n with st := .pending, count := 1, sw := sw, wake := wake } := by
  simp only [Device.fireNow, idle]

/-- A source that waits keeps its state, and adds to its marks those of the fire. -/
theorem Device.fireNow_waiting (waits : (d.source n).st = .pending ∨ (d.source n).st = .delivered) :
    d.fireNow n sw wake =
      let e := { d.source n with sw := (d.source n).sw || sw, wake := (d.source n).wake || wake }
      if d.counted n then d.countFire n e else d.setSource n e := by
  rcases waits with h | h <;> simp only [Device.fireNow, h]

theorem Device.fireNow_lost (busy : (d.source n).st = .inService) (single : d.counted n = false) :
    d.fireNow n sw wake = (d.setSource n { d.source n with lost := true }).orField F.EVC_STAT_LOSTANY 1 := by
  simp only [Device.fireNow, busy, single, Bool.false_eq_true, if_false]

theorem Device.fireNow_behind (busy : (d.source n).st = .inService) (counted : d.counted n = true)
    (first : (d.source n).repend = false) : d.fireNow n sw wake =
      d.setSource n { d.source n with repend := true, count := 1, sw := sw, wake := wake } := by
  simp only [Device.fireNow, busy, counted, first, Bool.false_eq_true, if_false, if_true]

theorem Device.fireNow_behind_again (busy : (d.source n).st = .inService) (counted : d.counted n = true)
    (again : (d.source n).repend = true) : d.fireNow n sw wake =
      d.countFire n { d.source n with sw := (d.source n).sw || sw, wake := (d.source n).wake || wake } := by
  simp only [Device.fireNow, busy, counted, again, if_true]

/-- A fire without marks leaves the marks of a source. -/
theorem EvSource.unmarked (e : EvSource) : { e with sw := e.sw || false, wake := e.wake || false } = e := by
  simp only [Bool.or_false]

theorem Device.counted_iff (d : Device) (n : Nat) : d.counted n = true ↔ d.get (F.EVC_SRC_n_MODE n) = 1 := beq_iff_eq

end Fire

section Keeps

variable {β : Type} {view : Device → β} (source : ∀ d n e, view (Device.setSource d n e) = view d)
  (flag : ∀ d f, f.addr = R.EVC_STAT → view (Device.orField d f 1) = view d)
  (log : ∀ d n sev detail data, view (Device.log d n sev detail data) = view d)
include source flag log

theorem Device.countFire_keeps (d : Device) (n : Fin 128) (e : EvSource) : view (d.countFire n e) = view d := by
  unfold Device.countFire
  split
  · exact source _ _ _
  · dsimp only
    split
    · exact (flag _ _ rfl).trans (source _ _ _)
    · exact ((log _ _ _ _ _).trans (flag _ _ rfl)).trans (source _ _ _)

/-- A fire keeps what sources, the flags of EVC_STAT and log entries keep. -/
theorem Device.fireNow_keeps (d : Device) (n : Fin 128) (sw wake : Bool) : view (d.fireNow n sw wake) = view d := by
  have counts (e : EvSource) : view (d.countFire n e) = view d := d.countFire_keeps source flag log n e
  unfold Device.fireNow
  dsimp only
  split
  · exact source _ _ _
  · split
    · split
      · exact counts _
      · exact source _ _ _
    · exact (flag _ _ rfl).trans (source _ _ _)
  · split
    · exact counts _
    · exact source _ _ _

end Keeps

/-- The words that a fire can write are those of the log and the event controller's flags. -/
theorem Device.fireNow_word (d : Device) (n : Fin 128) (sw wake : Bool) {a : Nat} (h1 : a ≠ R.SED_CNT2)
    (h2 : a ≠ R.SED_EVT) (h3 : a ≠ R.EVC_STAT) : (d.fireNow n sw wake).word a = d.word a :=
  Device.fireNow_keeps (view := fun e => e.word a) (fun _ _ _ => rfl) (fun e _ stat => e.word_put_ne _ _ (stat ▸ h3))
    (fun e _ _ _ _ => e.log_word _ _ _ _ h1 h2) d n sw wake

/-- What a fire of source `n` does, by its state and its mode (R141 to R143). -/
theorem fire_completes {s : State} {n : Fin 128} (listed : isSource n.val = true) (hardware : n.val < 124)
    (free : s.dev.latchArmed n.val = false) : Completes (.eventFire n) s fun e =>
      let x := s.dev.source n
      let counted := s.dev.get (F.EVC_SRC_n_MODE n.val) = 1
      let full := fun (y : EvSource) =>
        if x.count < 255 then e.source n = { y with count := x.count + 1 }
        else e.source n = { y with ovf := true } ∧ e.get F.EVC_STAT_OVFANY = 1
      s.dev.noted e [] ∧ (∀ k, k ≠ n → e.source k = s.dev.source k) ∧
      (x.st = .idle → e.source n = { x with st := .pending, count := 1, sw := false, wake := false }) ∧
      (x.st = .pending ∨ x.st = .delivered → ¬ counted → e.source n = x) ∧
      (x.st = .pending ∨ x.st = .delivered → counted → full x) ∧
      (x.st = .inService → ¬ counted → e.source n = { x with lost := true } ∧ e.get F.EVC_STAT_LOSTANY = 1) ∧
      (x.st = .inService → counted → x.repend = false →
        e.source n = { x with repend := true, count := 1, sw := false, wake := false }) ∧
      (x.st = .inService → counted → x.repend = true → full x) := by
  refine State.completes_eq (f := fun d => d.fire n.val) rfl (Device.fire_listed listed hardware free) ?_
  dsimp only
  rw [← s.dev.counted_iff n.val]
  refine ⟨s.dev.wrote_refl.noted (s.dev.fireNow_noted ..), fun k hk => s.dev.fireNow_source_ne _ _ hk,
    fun idle => ?_, fun waits single => ?_, fun waits counted => ?_, fun busy single => ?_,
    fun busy counted first => ?_, fun busy counted again => ?_⟩
  · rw [Device.fireNow_idle idle, Device.source_setSource]
  · rw [Device.fireNow_waiting waits, EvSource.unmarked, if_neg single, Device.source_setSource]
  · rw [Device.fireNow_waiting waits, EvSource.unmarked, if_pos counted]
    exact s.dev.countFire_adds n _
  · rw [Device.fireNow_lost busy (Bool.eq_false_of_not_eq_true single)]
    exact ⟨s.dev.source_setSource n _, Device.get_orField_flag _ (by decide) rfl⟩
  · rw [Device.fireNow_behind busy counted first, Device.source_setSource]
  · rw [Device.fireNow_behind_again busy counted again, EvSource.unmarked]
    exact s.dev.countFire_adds n _

/-! ### The deliveries of one cycle (R133 to R136) -/

/-- The targets that accept in this cycle. -/
def Device.accepting (d : Device) : Vector Bool 4 := Vector.ofFn fun x => d.mayAccept x

/-- Where a source goes in this cycle. -/
def Device.goes (d : Device) (n : Fin 128) : Option (Fin 4) :=
  if (d.source n).st = .pending then d.route d.accepting n else none

/-- A source that has been delivered to a target. -/
def EvSource.deliveredTo (e : EvSource) (x : Fin 4) : EvSource := { e with st := .delivered, target := x }

/-- A source after the deliveries of a cycle. -/
def Device.dealt (d : Device) (n : Fin 128) : EvSource := (d.goes n).elim (d.source n) (d.source n).deliveredTo

/-- One source of a delivery cycle, with the targets that have received one. -/
def Device.dealOne (accepts : Vector Bool 4) (p : Device × List (Fin 4)) (n : Fin 128) : Device × List (Fin 4) :=
  if (p.1.source n).st == .pending then
    match p.1.route accepts n with
    | some x => (p.1.setSource n { p.1.source n with st := .delivered, target := x }, x :: p.2)
    | none => p
  else p

/-- A target that has received a source restarts its timer (R136). -/
def Device.restartTimer (hit : List (Fin 4)) (d : Device) (x : Fin 4) : Device :=
  if hit.contains x then { d with evc.timer := d.evc.timer.set x (d.get (F.EVC_TGT_MOD_x_INTERVAL x) != 0) } else d

/-- The sources dealt out, and the targets hit. -/
def Device.dealAll (d : Device) (l : List (Fin 128)) (p : Device × List (Fin 4)) : Device × List (Fin 4) :=
  l.foldl (Device.dealOne d.accepting) p

theorem Device.deliver_eq {d : Device} (run : d.coreRuns = true) : d.deliver =
    (List.finRange 4).foldl (Device.restartTimer (d.dealAll (List.finRange 128) (d, [])).2)
      (d.dealAll (List.finRange 128) (d, [])).1 := by
  unfold Device.deliver
  rw [if_neg (by rw [run]; decide)]
  extract_lets accepts step
  split
  next e hit h =>
    have all : d.dealAll (List.finRange 128) (d, []) = (e, hit) := h
    rw [all]
    rfl

section Deal

variable {d : Device}

/-- Only sources have changed. -/
def Device.onlySources (d e : Device) : Prop := ∃ src, e = { d with evc.src := src }

theorem Device.onlySources.route {e : Device} (h : d.onlySources e) {n : Fin 128} (same : e.source n = d.source n)
    (accepts : Vector Bool 4) : e.route accepts n = d.route accepts n := by
  obtain ⟨src, rfl⟩ := h
  rw [Device.route, same]
  rfl

theorem Device.onlySources.setSource {e : Device} (h : d.onlySources e) (n : Fin 128) (x : EvSource) :
    d.onlySources (e.setSource n x) := by
  obtain ⟨src, rfl⟩ := h
  exact ⟨src.set n x, rfl⟩

variable {p : Device × List (Fin 4)} {n : Fin 128} (h : d.onlySources p.1) (same : p.1.source n = d.source n)
include h same

theorem Device.dealOne_stays (stays : d.goes n = none) : Device.dealOne d.accepting p n = p := by
  rw [Device.goes] at stays
  rw [Device.dealOne, same, h.route same]
  split at stays
  next waits => simp only [stays, ite_self]
  next no => simp only [beq_false_of_ne no, Bool.false_eq_true, if_false]

theorem Device.dealOne_goes {x : Fin 4} (goes : d.goes n = some x) :
    Device.dealOne d.accepting p n = (p.1.setSource n ((d.source n).deliveredTo x), x :: p.2) := by
  rw [Device.goes] at goes
  obtain ⟨waits, goes⟩ := Option.ite_none_right_eq_some.1 goes
  rw [Device.dealOne, same, h.route same, goes, waits]
  rfl

end Deal

/-- A delivery cycle deals each source out once, as it was found. -/
theorem Device.dealAll_shows (d : Device) : ∀ (l : List (Fin 128)) (p : Device × List (Fin 4)), l.Nodup →
    (∀ n ∈ l, p.1.source n = d.source n) → d.onlySources p.1 →
    d.onlySources (d.dealAll l p).1 ∧
      (∀ n, (d.dealAll l p).1.source n = if n ∈ l then d.dealt n else p.1.source n) ∧
      ∀ x, x ∈ (d.dealAll l p).2 ↔ x ∈ p.2 ∨ ∃ n ∈ l, d.goes n = some x
  | [], p, _, _, h => ⟨h, fun n => by simp [Device.dealAll], fun x => by simp [Device.dealAll]⟩
  | k :: l, p, once, found, h => by
    obtain ⟨notIn, once⟩ := List.nodup_cons.1 once
    have same := found k (.head _)
    have rest {e : Device} (he : ∀ n, n ≠ k → e.source n = p.1.source n) : ∀ n ∈ l, e.source n = d.source n :=
      fun n hn => (he n fun eq => notIn (eq ▸ hn)).trans (found n (.tail _ hn))
    cases goes : d.goes k with
    | none =>
      have first : d.dealAll (k :: l) p = d.dealAll l p := by
        rw [Device.dealAll, List.foldl_cons, Device.dealOne_stays h same goes, Device.dealAll]
      obtain ⟨only, sources, hit⟩ := d.dealAll_shows l p once (rest fun _ _ => rfl) h
      rw [first]
      refine ⟨only, fun n => ?_, fun x => ?_⟩
      · rw [sources n]
        by_cases hk : n = k
        · subst hk
          simp [notIn, Device.dealt, goes, same]
        · simp [hk]
      · simp [hit x, goes]
    | some y =>
      have first : d.dealAll (k :: l) p = d.dealAll l (p.1.setSource k ((d.source k).deliveredTo y), y :: p.2) := by
        rw [Device.dealAll, List.foldl_cons, Device.dealOne_goes h same goes, Device.dealAll]
      obtain ⟨only, sources, hit⟩ := d.dealAll_shows l (p.1.setSource k ((d.source k).deliveredTo y), y :: p.2) once
        (rest fun n hn => p.1.source_setSource_ne _ hn) (h.setSource k _)
      rw [first]
      refine ⟨only, fun n => ?_, fun x => ?_⟩
      · rw [sources n]
        by_cases hk : n = k
        · subst hk
          simp [notIn, Device.dealt, goes, Device.source_setSource]
        · simp [hk, Device.source_setSource_ne _ _ hk]
      · simp [hit x, goes, eq_comm, or_assoc, or_left_comm]

/-- Only timers have changed. -/
def Device.onlyTimers (d e : Device) : Prop := ∃ timer, e = { d with evc.timer := timer }

section Timers

variable {d : Device} (hit : List (Fin 4))

theorem Device.onlyTimers.restartTimer {e : Device} (h : d.onlyTimers e) (x : Fin 4) :
    d.onlyTimers (Device.restartTimer hit e x) := by
  obtain ⟨timer, rfl⟩ := h
  unfold Device.restartTimer
  split
  · exact ⟨_, rfl⟩
  · exact ⟨timer, rfl⟩

theorem Device.restartTimer_other (e : Device) {x y : Fin 4} (h : y ≠ x) :
    (Device.restartTimer hit e y).evc.timer[x] = e.evc.timer[x] := by
  unfold Device.restartTimer
  split
  · exact Vector.getElem_set_ne y.isLt x.isLt fun eq => h (Fin.ext eq)
  · rfl

theorem Device.restartTimer_own {e : Device} (h : d.onlyTimers e) (x : Fin 4) :
    (Device.restartTimer hit e x).evc.timer[x] =
      if x ∈ hit then d.get (F.EVC_TGT_MOD_x_INTERVAL x) != 0 else e.evc.timer[x] := by
  obtain ⟨timer, rfl⟩ := h
  simp only [Device.restartTimer, List.contains_iff_mem]
  split
  · exact Vector.getElem_set_self x.isLt
  · rfl

theorem Device.source_timers (d : Device) (timer : Vector Bool 4) (n : Fin 128) :
    ({ d with evc.timer := timer } : Device).source n = d.source n := rfl

/-- The targets hit restart their timers, each by its interval. -/
theorem Device.restartTimers_shows (d : Device) :
    d.onlyTimers ((List.finRange 4).foldl (Device.restartTimer hit) d) ∧
    ∀ x : Fin 4, ((List.finRange 4).foldl (Device.restartTimer hit) d).evc.timer[x] =
      if x ∈ hit then d.get (F.EVC_TGT_MOD_x_INTERVAL x) != 0 else d.evc.timer[x] := by
  have start : d.onlyTimers d := ⟨d.evc.timer, rfl⟩
  refine ⟨List.foldlRecOn _ _ start fun e h y _ => h.restartTimer hit y, fun x => ?_⟩
  obtain ⟨e, h, seen, own⟩ := foldl_once (step := Device.restartTimer hit) (view := fun e => e.evc.timer[x])
    (fun e y => Device.restartTimer_other hit e) (List.nodup_finRange 4) (List.mem_finRange x) start
    fun e y h => h.restartTimer hit y
  rw [own, Device.restartTimer_own hit h, seen]

end Timers

/-- The deliveries of a cycle in which CORE runs. -/
theorem Device.deliver_shows {d : Device} (run : d.coreRuns = true) : (∃ evc, d.deliver = { d with evc := evc }) ∧
    (∀ n, d.deliver.source n = d.dealt n) ∧
    ∀ x : Fin 4, ((∃ n, d.goes n = some x) → d.deliver.evc.timer[x] = (d.get (F.EVC_TGT_MOD_x_INTERVAL x) != 0)) ∧
      ((¬ ∃ n, d.goes n = some x) → d.deliver.evc.timer[x] = d.evc.timer[x]) := by
  obtain ⟨⟨src, only⟩, sources, hit⟩ := d.dealAll_shows (List.finRange 128) (d, []) (List.nodup_finRange 128)
    (fun _ _ => rfl) ⟨d.evc.src, rfl⟩
  obtain ⟨⟨timer, frame⟩, timers⟩ := Device.restartTimers_shows (d.dealAll (List.finRange 128) (d, [])).2
    (d.dealAll (List.finRange 128) (d, [])).1
  rw [← Device.deliver_eq run] at frame timers
  simp only [List.mem_finRange, if_true, List.not_mem_nil, false_or, true_and] at sources hit
  refine ⟨⟨_, frame.trans (by rw [only])⟩, fun n => ?_, fun x => ⟨fun goes => ?_, fun stays => ?_⟩⟩
  · rw [← sources n, frame, Device.source_timers]
  · rw [timers x, if_pos ((hit x).2 goes), only]
    rfl
  · rw [timers x, if_neg fun h => stays ((hit x).1 h), only]

/-- A delivery leaves the marks and the count of a source, and takes none back. -/
theorem Device.dealt_keeps (d : Device) (n : Fin 128) : (d.dealt n).wake = (d.source n).wake ∧
    (d.dealt n).count = (d.source n).count ∧
    ((d.source n).st = .pending → (d.dealt n).st = .pending ∨ (d.dealt n).st = .delivered) := by
  unfold Device.dealt
  cases d.goes n with
  | none => exact ⟨rfl, rfl, .inl⟩
  | some x => exact ⟨rfl, rfl, fun _ => .inr rfl⟩

/-! ### The latches that wait (R149) -/

/-- Taking a bit that is set away from a number clears that bit and no other. -/
theorem testBit_sub_two_pow {n k : Nat} (set : n.testBit k = true) (j : Nat) :
    (n - 2 ^ k).testBit j = (n.testBit j && j != k) := by
  have rest : n % 2 ^ k < 2 ^ k := Nat.mod_lt _ (Nat.two_pow_pos k)
  have split : n = 2 ^ (k + 1) * (n / 2 ^ (k + 1)) + (2 ^ k + n % 2 ^ k) := by
    rw [Nat.testBit_eq_decide_div_mod_eq, decide_eq_true_eq] at set
    have high := Nat.div_add_mod n (2 ^ (k + 1))
    have low : n % 2 ^ (k + 1) = n % 2 ^ k + 2 ^ k * (n / 2 ^ k % 2) := by rw [pow_succ, Nat.mod_mul]
    rw [set] at low
    omega
  have cleared : n - 2 ^ k = 2 ^ (k + 1) * (n / 2 ^ (k + 1)) + n % 2 ^ k := by omega
  have fits : 2 ^ k + n % 2 ^ k < 2 ^ (k + 1) := by rw [pow_succ]; omega
  rw [cleared, Nat.testBit_two_pow_mul_add _ (by omega)]
  conv_rhs => rw [split, Nat.testBit_two_pow_mul_add _ fits]
  obtain below | rfl | above := Nat.lt_trichotomy j k
  · simp [Nat.testBit_two_pow_add_gt below, below.ne, Nat.lt_succ_of_lt below]
  · simp [Nat.testBit_lt_two_pow rest]
  · simp [above.ne', Nat.not_lt.2 above]

theorem Device.testBit_andNotField (d : Device) {f : Fld} (fits : f.fits = true) {k : Nat}
    (set : (d.get f).testBit k = true) {j : Nat} (hj : j < f.width) :
    ((d.andNotField f (2 ^ k)).get f).testBit j = ((d.get f).testBit j && j != k) := by
  rw [Device.andNotField, d.get_put_same _ _ fits, Nat.and_two_pow, set, Bool.toNat_true, Nat.one_mul,
    Nat.testBit_mod_two_pow, decide_eq_true hj, Bool.true_and, testBit_sub_two_pow set]

theorem latchSource_lt (k : Nat) : latchSource k < 128 := by
  unfold latchSource
  split <;> decide

theorem latchSource_injective : ∀ j < 9, ∀ k < 9, latchSource j = latchSource k → j = k := by decide

/-- A source that a wake latch has made to fire, and that waits. -/
def EvSource.woken (e : EvSource) : Prop := e.st = .pending ∧ e.wake = true

section Latch

variable {d : Device} {n : Fin 128} {k : Nat}

theorem Device.latchFire_eq (d : Device) (k : Nat) (sw wake : Bool) :
    d.latchFire k sw wake = d.fireNow ⟨latchSource k, latchSource_lt k⟩ sw wake := dif_pos _

theorem Device.latchFire_latches (d : Device) (k : Nat) (sw wake : Bool) :
    (d.latchFire k sw wake).get F.EVC_WLATCH_LATCH = d.get F.EVC_WLATCH_LATCH := by
  rw [Device.latchFire_eq]
  exact Device.get_congr_word (d.fireNow_word _ _ _ (by decide) (by decide) (by decide))

theorem Device.latchFire_noted (d : Device) (k : Nat) (sw wake : Bool) : Noted d (d.latchFire k sw wake) := by
  rw [Device.latchFire_eq]
  exact d.fireNow_noted _ _ _

theorem Device.countFire_woken {e : EvSource} (d : Device) (n : Fin 128) (h : e.woken) :
    ((d.countFire n e).source n).woken := by
  have adds := d.countFire_adds n e
  split at adds
  · rwa [adds]
  · rwa [adds.1]

/-- Further fires leave a woken source woken. -/
theorem Device.latchFire_woken (h : (d.source n).woken) (j : Nat) (sw wake : Bool) :
    ((d.latchFire j sw wake).source n).woken := by
  rw [Device.latchFire_eq]
  by_cases own : n = ⟨latchSource j, latchSource_lt j⟩
  · rw [← own, Device.fireNow_waiting (.inl h.1)]
    have marked : ({ d.source n with sw := (d.source n).sw || sw, wake := (d.source n).wake || wake } :
        EvSource).woken := ⟨h.1, by simp [h.2]⟩
    dsimp only
    split
    · exact Device.countFire_woken d n marked
    · rwa [Device.source_setSource]
  · rwa [d.fireNow_source_ne _ _ own]

/-- The device whose latch `k` has become a fire. -/
def Device.latchTaken (d : Device) (k : Nat) : Device :=
  (d.latchFire k false true).andNotField F.EVC_WLATCH_LATCH (2 ^ k)

/-- The latches that have been taken and whose source waits for a software fire. -/
def Device.softBehind (d : Device) : List Nat :=
  (List.range 9).filter fun k => d.evc.soft.testBit k && !(d.get F.EVC_WLATCH_LATCH).testBit k

/-- The software fires that waited behind the latches taken. -/
def Device.softFires (d : Device) : Device := d.softBehind.foldl (fun d k => d.latchFire k true false) d

/-- The lowest latch that is set is taken, and the software fires behind it follow. -/
theorem Device.takeLatch_lowest (taking : d.evc.taking = true) (hk : k < 9)
    (set : (d.get F.EVC_WLATCH_LATCH).testBit k = true)
    (lowest : ∀ j < k, (d.get F.EVC_WLATCH_LATCH).testBit j = false) :
    ∃ soft taking, d.takeLatch = { (d.latchTaken k).softFires with evc.soft := soft, evc.taking := taking } := by
  have found : (List.range 9).find? (fun k => (d.get F.EVC_WLATCH_LATCH).testBit k) = some k :=
    List.find?_range_eq_some.2 ⟨set, List.mem_range.2 hk, fun j hj => by rw [lowest j hj]; rfl⟩
  unfold Device.takeLatch
  rw [if_neg (by rw [taking]; decide), found]
  exact ⟨_, _, rfl⟩

theorem Device.takeLatch_none (taking : d.evc.taking = false) : d.takeLatch = d := if_pos (by rw [taking]; rfl)

theorem Device.latchTaken_latches (set : (d.get F.EVC_WLATCH_LATCH).testBit k = true) {j : Nat} (hj : j < 9) :
    ((d.latchTaken k).get F.EVC_WLATCH_LATCH).testBit j = ((d.get F.EVC_WLATCH_LATCH).testBit j && j != k) := by
  have same := d.latchFire_latches k false true
  rw [Device.latchTaken, Device.testBit_andNotField _ (by decide) (by rw [same]; exact set) hj, same]

theorem Device.latchTaken_noted (d : Device) (k : Nat) : Noted d (d.latchTaken k) :=
  (d.latchFire_noted k false true).trans (Noted.put (by decide) (.inr (.inr (.inr rfl))))

/-- An IDLE source that fires out of its latch is woken, once. -/
theorem Device.latchTaken_woken (hn : n.val = latchSource k) (idle : (d.source n).st = .idle) :
    ((d.latchTaken k).source n).woken ∧ ((d.latchTaken k).source n).count = 1 ∧
      (d.latchTaken k).evc.soft = d.evc.soft := by
  have fired : d.latchFire k false true =
      d.setSource n { d.source n with st := .pending, count := 1, sw := false, wake := true } := by
    rw [Device.latchFire_eq, ← Device.fireNow_idle idle]
    exact congrArg (d.fireNow · false true) (Fin.ext hn.symm)
  have source : (d.latchTaken k).source n =
      { d.source n with st := .pending, count := 1, sw := false, wake := true } := by
    rw [Device.latchTaken, fired]
    exact d.source_setSource n _
  rw [source, Device.latchTaken, fired]
  exact ⟨⟨rfl, rfl⟩, rfl, rfl⟩

theorem Device.softFires_noted (d : Device) : Noted d d.softFires :=
  List.foldlRecOn _ _ (.refl d) fun e h k _ => h.trans (e.latchFire_noted k true false)

theorem Device.softFires_latches (d : Device) : d.softFires.get F.EVC_WLATCH_LATCH = d.get F.EVC_WLATCH_LATCH :=
  Device.foldl_keeps (·.get F.EVC_WLATCH_LATCH) _ (fun e k => e.latchFire_latches k true false) _ d

theorem Device.softFires_woken (h : (d.source n).woken) : (d.softFires.source n).woken :=
  List.foldlRecOn (motive := fun e : Device => (e.source n).woken) _ _ h fun _ h k _ =>
    Device.latchFire_woken h k true false

/-- No other latch's software fire reaches the source of a latch. -/
theorem Device.softFires_source (hk : k < 9) (hn : n.val = latchSource k) (soft : d.evc.soft.testBit k = false) :
    d.softFires.source n = d.source n := by
  refine List.foldlRecOn (motive := fun e : Device => e.source n = d.source n) _ _ rfl fun e h j hj => ?_
  obtain ⟨range, due⟩ := List.mem_filter.1 hj
  have other : n ≠ ⟨latchSource j, latchSource_lt j⟩ := fun eq => by
    have same := latchSource_injective j (List.mem_range.1 range) k hk ((congrArg Fin.val eq).symm.trans hn)
    rw [same, soft, Bool.false_and] at due
    exact Bool.false_ne_true due
  rw [Device.latchFire_eq, e.fireNow_source_ne _ _ other, h]

end Latch

/-- The CORE domain runs by what neither the log nor the event controller holds. -/
theorem Noted.coreRuns {d e : Device} (h : Noted d e) : e.coreRuns = d.coreRuns := by
  have state : e.get F.PWR_STAT_STATE = d.get F.PWR_STAT_STATE := h.get (by decide)
  simp only [Device.coreRuns, Device.still, Device.isState, h.pwr, state]

theorem Device.get_evc (d : Device) (evc : Evc) (f : Fld) : ({ d with evc := evc } : Device).get f = d.get f := rfl

/-- A cycle in which latch `k`, the lowest one, is taken. -/
theorem latch_completes {s : State} {k : Fin 9} (run : s.dev.coreRuns = true) (taking : s.dev.evc.taking = true)
    (set : (s.dev.get F.EVC_WLATCH_LATCH).testBit k.val = true)
    (lowest : ∀ j < k.val, (s.dev.get F.EVC_WLATCH_LATCH).testBit j = false) : Completes .evcDelivery s fun e =>
      (e.get F.EVC_WLATCH_LATCH).testBit k.val = false ∧
      (∀ j : Fin 9, j ≠ k →
        (e.get F.EVC_WLATCH_LATCH).testBit j.val = (s.dev.get F.EVC_WLATCH_LATCH).testBit j.val) ∧
      ∀ n : Fin 128, n.val = latchSource k.val → (s.dev.source n).st = .idle →
        ((e.source n).st = .pending ∨ (e.source n).st = .delivered) ∧ (e.source n).wake = true ∧
        (s.dev.evc.soft.testBit k.val = false → (e.source n).count = 1) := by
  obtain ⟨soft, rest, taken⟩ := Device.takeLatch_lowest taking k.isLt set lowest
  have noted : Noted s.dev s.dev.takeLatch := by
    rw [taken]
    exact ((s.dev.latchTaken_noted k).trans (Device.softFires_noted _)).trans .evc
  obtain ⟨⟨evc, frame⟩, sources, -⟩ := Device.deliver_shows (noted.coreRuns.trans run)
  have latches (j : Nat) (hj : j < 9) : (s.dev.takeLatch.deliver.get F.EVC_WLATCH_LATCH).testBit j =
      ((s.dev.get F.EVC_WLATCH_LATCH).testBit j && j != k.val) := by
    rw [frame, Device.get_evc, taken, Device.get_evc, Device.softFires_latches, Device.latchTaken_latches set hj]
  refine State.completes_eq (f := Device.evcCycle) rfl (if_pos run) ⟨?_, fun j hj => ?_, fun n hn idle => ?_⟩
  · rw [latches k k.isLt, bne_self_eq_false, Bool.and_false]
  · rw [latches j j.isLt, bne_iff_ne.2 fun e => hj (Fin.ext e), Bool.and_true]
  · obtain ⟨woken, once, kept⟩ := Device.latchTaken_woken hn idle
    have same : s.dev.takeLatch.source n = (s.dev.latchTaken k).softFires.source n := by rw [taken]; rfl
    obtain ⟨pending, wake⟩ := Device.softFires_woken woken
    obtain ⟨dealtWake, dealtCount, dealtSt⟩ := s.dev.takeLatch.dealt_keeps n
    rw [same] at dealtWake dealtCount dealtSt
    rw [sources n]
    refine ⟨dealtSt pending, dealtWake.trans wake, fun free => ?_⟩
    rw [dealtCount, Device.softFires_source k.isLt hn (by rw [kept]; exact free), once]

/-! ### O26 -/

/-- Where a source goes, by the registers (R133 to R135). -/
theorem Device.goes_eq (d : Device) (n : Fin 128) : d.goes n =
    if (d.source n).st = .pending then
      [(d.source n).target + 1, (d.source n).target + 2, (d.source n).target + 3, (d.source n).target].find? fun x =>
        d.mayAccept x && (d.get (F.EVC_SRC_n_TGT n.val)).testBit x.val && d.flag (F.EVC_TGT_CTL_x_EN x.val) &&
          d.get (F.EVC_TGT_CTL_x_THRESH x.val) < d.get (F.EVC_SRC_n_PRIO n.val)
    else none := by
  have accepts (x : Fin 4) : d.accepting[x] = d.mayAccept x := Vector.getElem_ofFn x.isLt
  simp only [Device.goes, Device.route, roundRobin, Device.eligible, accepts, Bool.and_assoc]

/-- A cycle in which no latch waits. -/
theorem delivery_completes {s : State} (run : s.dev.coreRuns = true) (taking : s.dev.evc.taking = false) :
    Completes .evcDelivery s fun e => e = { s.dev with evc := e.evc } ∧ (∀ n, e.source n = s.dev.dealt n) ∧
      ∀ x : Fin 4, ((∃ n, s.dev.goes n = some x) → e.evc.timer[x] = (s.dev.get (F.EVC_TGT_MOD_x_INTERVAL x) != 0)) ∧
        ((¬ ∃ n, s.dev.goes n = some x) → e.evc.timer[x] = s.dev.evc.timer[x]) := by
  have cycle : s.dev.evcCycle = s.dev.deliver := by
    rw [Device.evcCycle, if_pos run, Device.takeLatch_none taking]
  obtain ⟨⟨evc, frame⟩, shows⟩ := Device.deliver_shows run
  exact State.completes_eq (f := Device.evcCycle) rfl cycle ⟨by rw [frame], shows⟩

/-- Settles O26: a fire by the state and the mode of its source, and a cycle by whether latches wait. -/
theorem eventFiresAndDelivery : Obligations.EventFiresAndDelivery := by
  unfold Obligations.EventFiresAndDelivery
  refine ⟨fun s n => ⟨fun unlisted => ?_, fire_completes⟩, fun s run => ⟨fun taking => ?_, fun taking k =>
    latch_completes run taking⟩⟩
  · exact State.on_eq_self (f := fun d => d.fire n.val) (s.dev.fire_unlisted unlisted)
  · obtain ⟨t, step, queue, frame, sources, timers⟩ := delivery_completes run taking
    simp only [← Device.goes_eq]
    refine ⟨t, step, queue, frame, fun n => ?_, fun x => ?_⟩
    · rw [sources n, Device.dealt]
      cases s.dev.goes n <;> rfl
    · split
      next goes => exact (timers x).1 goes
      next stays => exact (timers x).2 stays

end Sys2Proof.Machine
end

section
/-! PROOFS. What masters do to the event controller (O27). -/

namespace Sys2Proof.Machine

/-! ### Writes of the registers of the controller (R12, R163) -/

section Evc

variable {d : Device} {m : Master} {priv : Bool} {a : Nat} {v : Word} (block : a / 0x10000 = 0x4003)
include block

theorem beq_of_evc {r : Nat} (h : r / 0x10000 ≠ 0x4003) : (a == r) = false := beq_false_of_ne fun e => h (e ▸ block)

theorem inFamily_of_evc {base count stride : Nat}
    (h : 0 < stride ∧ (base + count * stride ≤ 0x40030000 ∨ 0x40040000 ≤ base)) :
    inFamily a base count stride = false :=
  inFamily_outside h.1 (by omega)

theorem Device.hostOnlyClear_of_evc : d.hostOnlyClear m a v = false := by
  simp (disch := decide) only [Device.hostOnlyClear, beq_of_evc block, inFamily_of_evc block, Bool.or_self,
    Bool.false_eq_true, if_false, Bool.and_false]

/-- No field of the event controller has a reserved value (R163). -/
theorem fieldReserved_of_evc (lsb x : Nat) : fieldReserved a lsb x = false := by
  have ranges : blockRanges a = systemRanges := by
    rw [blockRanges, block]
    rfl
  have elsewhere : ∀ r ∈ systemRanges,
      0 < r.stride ∧ (r.base + r.count * r.stride ≤ 0x40030000 ∨ 0x40040000 ≤ r.base) := by decide
  have each : (systemRanges.any fun r =>
      r.lsb == lsb && inFamily a r.base r.count r.stride && (x < r.lo || r.hi < x)) = false := by
    rw [List.any_eq_false]
    intro r hr
    simp [inFamily_of_evc block (elsewhere r hr)]
  have odd : oddReserved a lsb x = false := by
    simp (disch := decide) only [oddReserved, beq_of_evc block, inFamily_of_evc block, Bool.and_false, Bool.false_and,
      Bool.or_self]
  rw [fieldReserved, ranges, each, odd, Bool.or_self]

theorem comboReserved_of_evc (r : RegMap) : comboReserved r a = false := by
  rw [comboReserved, block]
  rfl

theorem Device.writeReserved_of_evc (r : RegSpec) :
    d.writeReserved m priv r a v = d.actReserved m priv a v := by
  have each : (r.fields.any fun f => f.settable && fieldReserved a f.lsb (fieldOf v f.lsb f.width)) = false :=
    List.any_eq_false.2 fun f _ => by rw [fieldReserved_of_evc block, Bool.and_false]; exact Bool.false_ne_true
  simp only [Device.writeReserved, Device.hostOnlyClear_of_evc block, each, comboReserved_of_evc block, Bool.and_false,
    Bool.or_false]

/-- Outside the registers of completion, software fire and withdrawal a write only stores. -/
theorem Device.registerActs_of_evc (h : a < 0x40030050 ∨ 0x40030080 ≤ a) : d.registerActs m priv a v = d := by
  have acts (base : Nat) (hb : 0x40030050 ≤ base ∧ base + 4 * 4 ≤ 0x40030080) : inFamily a base 4 4 = false :=
    inFamily_outside (by decide) (by omega)
  unfold Device.registerActs
  rw [block]
  simp (disch := decide) only [acts, Bool.false_eq_true, if_false]

theorem Device.wordApplied_of_evc (h : a < 0x40030020 ∨ 0x40030030 ≤ a) (old : Word) :
    d.wordApplied a old = d.reconsider := by
  have moderation : inFamily a (R.EVC_TGT_MOD_x 0) 4 4 = false :=
    inFamily_outside (by decide) (by unfold R.EVC_TGT_MOD_x; omega)
  unfold Device.wordApplied
  rw [block]
  simp only [moderation, Bool.false_eq_true, if_false]

/-- A write of a register whose fields are all plain settings stores them, and the controller takes them up. -/
theorem Device.directWrite_stores {fs : List FieldSpec} (run : d.coreRuns = true) (may : d.masterMay m a v = true)
    (aligned : a % 4 = 0) (found : (regFind a).map RegSpec.fields = some fs)
    (stores : fs.any FieldSpec.settable = true) (free : fs.any FieldSpec.guarded = false)
    (w1c : (fs.any fun f => f.acc == .w1c) = false) (act : d.actReserved m (d.masterPriv m) a v = false) :
    ∃ r : RegSpec, r.fields = fs ∧ d.directWrite m a v =
      ((d.setWord a (r.setFields (d.word a) v)).wordApplied a (d.word a)).registerActs m (d.masterPriv m) a v := by
  obtain ⟨r, listed, rfl⟩ := Option.map_eq_some_iff.1 found
  have unguarded := Device.guardedChange_free (RegSpec.mask_none free) d a v
  refine ⟨r, rfl, ?_⟩
  rw [Device.directWrite_register run may aligned (by omega) (by omega),
    Device.regWrite_accepted listed ((Device.writeReserved_of_evc block r).trans act) fun h =>
      absurd (unguarded.symm.trans h) Bool.false_ne_true]
  simp only [Device.writeAccepted, unguarded, stores, RegSpec.clear_none (RegSpec.mask_none w1c), ite_self,
    Bool.false_eq_true, if_false, if_true]

/-- A write of a register that has no settings acts. -/
theorem Device.directWrite_acts_evc {r : RegSpec} (run : d.coreRuns = true) (may : d.masterMay m a v = true)
    (aligned : a % 4 = 0) (found : regFind a = some r) (plain : r.fields.any FieldSpec.settable = false)
    (free : r.fields.any FieldSpec.guarded = false) (act : d.actReserved m (d.masterPriv m) a v = false) :
    ∃ w, d.directWrite m a v = (d.setWord a w).registerActs m (d.masterPriv m) a v := by
  obtain ⟨w, written⟩ := Device.regWrite_acts found plain (RegSpec.mask_none free) act
    (Device.hostOnlyClear_of_evc block)
  exact ⟨w, (Device.directWrite_register run may aligned (by omega) (by omega)).trans (congrArg Prod.snd written)⟩

end Evc

/-! ### Claims (R138) -/

section Claim

variable {d : Device} {x : Fin 4} {n : Fin 128}

/-- Source `n` stands delivered to target `x`. -/
def Device.standsAt (d : Device) (x : Fin 4) (n : Fin 128) : Prop :=
  (d.source n).st = .delivered ∧ (d.source n).target = x

/-- One source in the choice of a claim. -/
def Device.claimStep (d : Device) (x : Fin 4) (best : Option (Fin 128)) (n : Fin 128) : Option (Fin 128) :=
  let e := d.source n
  if e.st == .delivered && e.target == x then
    match best with
    | none => some n
    | some m => if d.claimBetter n m then some n else best
  else best

theorem Device.claimChoice_eq (d : Device) (x : Fin 4) :
    d.claimChoice x = (List.finRange 128).foldl (d.claimStep x) none := rfl

theorem Device.claimStep_absent (absent : ¬ d.standsAt x n) (best : Option (Fin 128)) :
    d.claimStep x best n = best := by
  refine if_neg fun h => absent ?_
  simpa [Device.standsAt] using h

theorem Device.claimStep_first (here : d.standsAt x n) : d.claimStep x none n = some n := by
  simp [Device.claimStep, here.1, here.2]

theorem Device.claimStep_second (here : d.standsAt x n) (k : Fin 128) :
    d.claimStep x (some k) n = if d.claimBetter n k then some n else some k := by
  simp [Device.claimStep, here.1, here.2]

theorem Device.claimBetter_iff (d : Device) (n k : Fin 128) : d.claimBetter n k = true ↔
    d.get (F.EVC_SRC_n_PRIO k) < d.get (F.EVC_SRC_n_PRIO n) ∨
      (d.get (F.EVC_SRC_n_PRIO n) = d.get (F.EVC_SRC_n_PRIO k) ∧ n < k) := by
  simp [Device.claimBetter]

theorem Device.claimChoice_none (absent : ∀ y, ¬ d.standsAt x y) : d.claimChoice x = none :=
  List.foldl_fixed' (fun y => Device.claimStep_absent (absent y) none) _

/-- The first of the highest priority is chosen. -/
theorem Device.claimChoice_some (here : d.standsAt x n) (best : ∀ y, d.standsAt x y →
    d.get (F.EVC_SRC_n_PRIO y.val) < d.get (F.EVC_SRC_n_PRIO n.val) ∨
      (d.get (F.EVC_SRC_n_PRIO y.val) = d.get (F.EVC_SRC_n_PRIO n.val) ∧ n ≤ y)) : d.claimChoice x = some n := by
  have stays (y : Fin 128) : d.claimStep x (some n) y = some n := by
    by_cases hy : d.standsAt x y
    · have worse : ¬ d.claimBetter y n = true := by
        rw [Device.claimBetter_iff]
        have := best y hy
        omega
      rw [Device.claimStep_second hy, if_neg worse]
    · exact Device.claimStep_absent hy _
  have wins (b : Option (Fin 128)) (hb : ∀ k, b = some k → d.standsAt x k) : d.claimStep x b n = some n := by
    cases b with
    | none => exact Device.claimStep_first here
    | some k =>
      by_cases hk : n = k
      · rw [← hk, stays]
      · have better : d.claimBetter n k = true := by
          rw [Device.claimBetter_iff]
          have := best k (hb k rfl)
          omega
        rw [Device.claimStep_second here, if_pos better]
  have held (b : Option (Fin 128)) (hb : ∀ k, b = some k → d.standsAt x k) (y : Fin 128) :
      ∀ k, d.claimStep x b y = some k → d.standsAt x k := by
    by_cases hy : d.standsAt x y
    · cases b with
      | none =>
        rw [Device.claimStep_first hy]
        rintro k ⟨⟩
        exact hy
      | some j =>
        rw [Device.claimStep_second hy]
        split
        · rintro k ⟨⟩
          exact hy
        · exact hb
    · rwa [Device.claimStep_absent hy]
  obtain ⟨before, after, cut⟩ := List.append_of_mem (List.mem_finRange n)
  rw [Device.claimChoice_eq, cut, List.foldl_append, List.foldl_cons, wins, List.foldl_fixed' stays]
  exact List.foldlRecOn (motive := fun b => ∀ k, b = some k → d.standsAt x k) before _ nofun
    fun b hb y _ => held b hb y

theorem claimIndex_claim (x : Fin 4) : claimIndex (R.EVC_CLAIM_x x.val) = some x := by fin_cases x <;> decide

theorem Device.regRead_claim (d : Device) (x : Fin 4) : d.regRead (R.EVC_CLAIM_x x.val) = d.claim x := by
  have other : (R.EVC_CLAIM_x x.val == R.SYS_REJECT_ADDR) = false :=
    beq_false_of_ne (by unfold R.EVC_CLAIM_x R.SYS_REJECT_ADDR; omega)
  rw [Device.regRead, other, claimIndex_claim]
  rfl

/-- A source that has been claimed. -/
def EvSource.claimed (e : EvSource) : EvSource :=
  { e with st := .inService, count := 0, ovf := false, lost := false, sw := false, wake := false }

theorem Device.claim_none (h : d.claimChoice x = none) : d.claim x = (0xFF, d) := by rw [Device.claim, h]

theorem Device.claim_some (h : d.claimChoice x = some n) :
    d.claim x = (claimWord n (d.source n), d.setSource n (d.source n).claimed) := by rw [Device.claim, h]; rfl

theorem claimWord_shows (n : Fin 128) (e : EvSource) : (claimWord n e).toNat % 256 = n.val ∧
    (e.count < 256 → (claimWord n e).toNat / 256 % 256 = e.count) := by
  have hn := n.isLt
  rw [claimWord, BitVec.toNat_ofNat]
  refine ⟨by omega, fun hc => by omega⟩

theorem exec_evcClaim {s : State} {m : Master} (x : Fin 4) (run : s.dev.coreRuns = true)
    (reads : s.dev.masterReads m = true) :
    exec (.evcClaim m x) s = .next { s with dev := { (s.dev.claim x).2 with lastRead := (s.dev.claim x).1 } } := by
  have read : exec (.evcClaim m x) s = s.on fun d => d.directRead m (R.EVC_CLAIM_x x.val) := rfl
  rw [exec_read read run reads (by unfold R.EVC_CLAIM_x; omega) (by unfold R.EVC_CLAIM_x; omega)
    (by unfold R.EVC_CLAIM_x; omega), Device.regRead_claim]

end Claim

/-! ### Completion, software fires, withdrawals (R139, R145, R146) -/

section Acts

variable {d : Device} {m : Master} {n : Fin 128} {i : Nat} {v : Word}

theorem EvSource.complete_shows (e : EvSource) :
    e.complete.st = (if e.repend then .pending else .idle) ∧ e.complete.repend = false := by
  unfold EvSource.complete
  cases repend : e.repend with
  | true => exact ⟨rfl, rfl⟩
  | false => exact ⟨rfl, rfl⟩

theorem regFind_evcDone (x : Fin 4) : regFind (R.EVC_DONE_x x.val) =
    some ⟨0x40030050, 4, 0x4, false, 0x0, [⟨0, 8, .wo, .neu, false⟩]⟩ := by fin_cases x <;> decide

theorem regFind_evcPset (x : Fin 4) : regFind (R.EVC_PSETi x.val) =
    some ⟨0x40030060, 4, 0x4, false, 0x0, [⟨0, 32, .w1s, .neu, false⟩]⟩ := by fin_cases x <;> decide

theorem regFind_evcPclr (x : Fin 4) : regFind (R.EVC_PCLRi x.val) =
    some ⟨0x40030070, 4, 0x4, false, 0x0, [⟨0, 32, .w1c, .neu, false⟩]⟩ := by fin_cases x <;> decide

theorem Device.actReserved_evcDone (d : Device) (m : Master) (priv : Bool) (x : Fin 4) (v : Word) :
    d.actReserved m priv (R.EVC_DONE_x x.val) v = decide (128 ≤ v.toNat % 256) := by fin_cases x <;> rfl

theorem Device.directWrite_done (run : d.coreRuns = true) (x : Fin 4)
    (may : d.masterMay m (R.EVC_DONE_x x.val) v = true) (named : v.toNat % 256 = n.val) :
    ∃ w, d.directWrite m (R.EVC_DONE_x x.val) v = (d.setWord (R.EVC_DONE_x x.val) w).completeEvent x n.val := by
  obtain ⟨w, written⟩ := Device.directWrite_acts_evc (by unfold R.EVC_DONE_x; omega) run may
    (by unfold R.EVC_DONE_x; omega) (regFind_evcDone x) rfl rfl
    (by rw [Device.actReserved_evcDone, named]; exact decide_eq_false (Nat.not_le.2 n.isLt))
  refine ⟨w, written.trans ?_⟩
  rw [← named]
  fin_cases x <;> rfl

theorem Device.directWrite_pset (run : d.coreRuns = true) (x : Fin 4)
    (may : d.masterMay m (R.EVC_PSETi x.val) v = true) :
    ∃ w, d.directWrite m (R.EVC_PSETi x.val) v = (d.setWord (R.EVC_PSETi x.val) w).softFire x.val v := by
  obtain ⟨w, written⟩ := Device.directWrite_acts_evc (by unfold R.EVC_PSETi; omega) run may
    (by unfold R.EVC_PSETi; omega) (regFind_evcPset x) rfl rfl (by fin_cases x <;> rfl)
  exact ⟨w, written.trans (by fin_cases x <;> rfl)⟩

theorem Device.directWrite_pclr (run : d.coreRuns = true) (x : Fin 4)
    (may : d.masterMay m (R.EVC_PCLRi x.val) v = true) :
    ∃ w, d.directWrite m (R.EVC_PCLRi x.val) v = (d.setWord (R.EVC_PCLRi x.val) w).withdrawBits x.val v := by
  obtain ⟨w, written⟩ := Device.directWrite_acts_evc (by unfold R.EVC_PCLRi; omega) run may
    (by unfold R.EVC_PCLRi; omega) (regFind_evcPclr x) rfl rfl (by fin_cases x <;> rfl)
  exact ⟨w, written.trans (by fin_cases x <;> rfl)⟩

/-- The software fire of the source with a number, where there is one. -/
def Device.softFireNth (d : Device) (t : Nat) : Device :=
  if h : t < 128 then (if isSource t then d.softFireOne ⟨t, h⟩ else d) else d

/-- The withdrawal of the source with a number, where there is one. -/
def Device.withdrawNth (d : Device) (t : Nat) : Device :=
  if h : t < 128 then d.setSource ⟨t, h⟩ (d.source ⟨t, h⟩).withdraw else d

theorem Device.softFire_eq (d : Device) (i : Nat) (v : Word) :
    d.softFire i v = (taskBits i v).foldl Device.softFireNth d := by
  rw [taskBits, List.foldl_map]
  rfl

theorem Device.withdrawBits_eq (d : Device) (i : Nat) (v : Word) :
    d.withdrawBits i v = (taskBits i v).foldl Device.withdrawNth d := by
  rw [taskBits, List.foldl_map]
  rfl

theorem Device.softFireOne_source_ne (d : Device) {k : Fin 128} (h : n ≠ k) :
    (d.softFireOne k).source n = d.source n := by
  unfold Device.softFireOne
  split
  · rfl
  · exact d.fireNow_source_ne _ _ h

theorem Device.softFireNth_other (d : Device) {t : Nat} (h : t ≠ n.val) : (d.softFireNth t).source n = d.source n := by
  unfold Device.softFireNth
  split
  · split
    · exact d.softFireOne_source_ne fun e => h (congrArg Fin.val e).symm
    · rfl
  · rfl

theorem Device.withdrawNth_other (d : Device) {t : Nat} (h : t ≠ n.val) : (d.withdrawNth t).source n = d.source n := by
  unfold Device.withdrawNth
  split
  · exact d.source_setSource_ne _ fun e => h (congrArg Fin.val e).symm
  · rfl

theorem Device.withdrawNth_own (d : Device) (n : Fin 128) : (d.withdrawNth n.val).source n = (d.source n).withdraw := by
  rw [Device.withdrawNth, dif_pos n.isLt]
  exact d.source_setSource n _

theorem Device.fireNow_taking (d : Device) (k : Fin 128) (sw wake : Bool) :
    (d.fireNow k sw wake).evc.taking = d.evc.taking :=
  Device.fireNow_keeps (view := fun e => e.evc.taking) (fun _ _ _ => rfl) (fun _ _ _ => rfl)
    (fun e _ _ _ _ => congrArg Evc.taking (e.log_evc ..)) d k sw wake

/-- While no latch waits to be taken a software fire acts at once. -/
theorem Device.softFireOne_now (taking : d.evc.taking = false) (k : Fin 128) :
    d.softFireOne k = d.fireNow k true false := by
  have free : d.latchWaits k.val = none := by
    unfold Device.latchWaits
    split
    · rw [taking, Bool.false_and]
      rfl
    · rfl
  rw [Device.softFireOne, free]

theorem Device.softFireNth_taking (taking : d.evc.taking = false) (t : Nat) : (d.softFireNth t).evc.taking = false := by
  unfold Device.softFireNth
  split
  · split
    · rw [Device.softFireOne_now taking, Device.fireNow_taking, taking]
    · exact taking
  · exact taking

theorem Device.softFireNth_idle (listed : isSource n.val = true) (taking : d.evc.taking = false)
    (idle : (d.source n).st = .idle) : (d.softFireNth n.val).source n =
      { d.source n with st := .pending, count := 1, sw := true, wake := false } := by
  rw [Device.softFireNth, dif_pos n.isLt, if_pos listed, Device.softFireOne_now taking, Device.fireNow_idle idle]
  exact d.source_setSource n _

/-- A software fire reaches the sources whose bits are set (R145). -/
theorem Device.softFire_idle (hi : n.val / 32 = i) (listed : isSource n.val = true) (taking : d.evc.taking = false)
    (idle : (d.source n).st = .idle) : (d.softFire i v).source n =
      if v.toNat.testBit (n.val % 32) then { d.source n with st := .pending, count := 1, sw := true, wake := false }
      else d.source n := by
  have other (e : Device) (t : Nat) (h : t ≠ n.val) : (e.softFireNth t).source n = e.source n := e.softFireNth_other h
  rw [Device.softFire_eq]
  split
  next bit =>
    obtain ⟨e, free, same, own⟩ := foldl_once (view := fun e : Device => e.source n)
      (inv := fun e => e.evc.taking = false) other (taskBits_nodup i v) ((mem_taskBits hi).2 bit) taking
      fun e t h => Device.softFireNth_taking h t
    rw [own, Device.softFireNth_idle listed free (by rw [same]; exact idle), same]
  next bit =>
    exact foldl_absent (view := fun e : Device => e.source n) other _ d fun h => bit ((mem_taskBits hi).1 h)

/-- A withdrawal reaches the sources whose bits are set (R146). -/
theorem Device.withdrawBits_source (d : Device) (hi : n.val / 32 = i) (v : Word) : (d.withdrawBits i v).source n =
      if v.toNat.testBit (n.val % 32) then (d.source n).withdraw else d.source n := by
  have other (e : Device) (t : Nat) (h : t ≠ n.val) : (e.withdrawNth t).source n = e.source n := e.withdrawNth_other h
  rw [Device.withdrawBits_eq]
  split
  next bit =>
    obtain ⟨e, -, same, own⟩ := foldl_once (view := fun e : Device => e.source n) (inv := fun _ => True)
      other (taskBits_nodup i v) ((mem_taskBits hi).2 bit) (s := d) trivial fun _ _ h => h
    rw [own, Device.withdrawNth_own, same]
  next bit =>
    exact foldl_absent (view := fun e : Device => e.source n) other _ d fun h => bit ((mem_taskBits hi).1 h)

theorem EvSource.withdraw_free {e : EvSource} (h : e.st ≠ .inService) : e.withdraw.st = .idle := by
  unfold EvSource.withdraw
  split
  · assumption
  · contradiction
  · rfl

theorem EvSource.withdraw_busy {e : EvSource} (h : e.st = .inService) :
    e.withdraw.st = .inService ∧ e.withdraw.repend = false := by
  simp only [EvSource.withdraw, h, and_self]

end Acts

/-! ### Settings (R136, R144, R147, R151) -/

section Settings

variable {d : Device} {m : Master} {v : Word}

/-- One source of a reconsideration. -/
def Device.reconsiderOne (d : Device) (n : Fin 128) : Device :=
  let e := d.source n
  if e.st == .delivered && !d.eligible n e.target then d.setSource n { e with st := .pending } else d

theorem Device.reconsider_eq (d : Device) : d.reconsider = (List.finRange 128).foldl Device.reconsiderOne d := rfl

theorem Device.onlySources.reconsiderOne {e : Device} (h : d.onlySources e) (n : Fin 128) :
    d.onlySources (e.reconsiderOne n) := by
  unfold Device.reconsiderOne
  dsimp only
  split
  · exact h.setSource n _
  · exact h

theorem Device.reconsider_onlySources (d : Device) : d.onlySources d.reconsider :=
  List.foldlRecOn _ _ (show d.onlySources d from ⟨d.evc.src, rfl⟩) fun _ h n _ => h.reconsiderOne n

theorem Device.onlySources.regs {e : Device} (h : d.onlySources e) : e.regs = d.regs := by
  obtain ⟨src, rfl⟩ := h
  rfl

theorem Device.reconsider_word (d : Device) (a : Nat) : d.reconsider.word a = d.word a := by
  rw [Device.word, d.reconsider_onlySources.regs, Device.word]

theorem Device.reconsider_mem (d : Device) : d.reconsider.mem = d.mem := by
  obtain ⟨src, h⟩ := d.reconsider_onlySources
  rw [h]

theorem Device.reconsiderOne_other (d : Device) {n k : Fin 128} (h : k ≠ n) :
    (d.reconsiderOne k).source n = d.source n := by
  unfold Device.reconsiderOne
  dsimp only
  split
  · exact d.source_setSource_ne _ h.symm
  · rfl

theorem Device.eligible_disabled {x : Nat} (off : d.get (F.EVC_TGT_CTL_x_EN x) = 0) (n : Nat) :
    d.eligible n x = false := by
  simp [Device.eligible, Device.flag, off]

/-- A source delivered to a target that is disabled returns (R151). -/
theorem Device.reconsider_returns {n : Fin 128} (here : (d.source n).st = .delivered)
    (off : d.get (F.EVC_TGT_CTL_x_EN (d.source n).target) = 0) : (d.reconsider.source n).st = .pending := by
  obtain ⟨e, only, same, own⟩ := foldl_once (step := Device.reconsiderOne) (view := fun e : Device => e.source n)
    (inv := d.onlySources) (fun e k => e.reconsiderOne_other) (List.nodup_finRange 128) (List.mem_finRange n)
    ⟨d.evc.src, rfl⟩ fun e k h => h.reconsiderOne k
  have gone : e.eligible n (d.source n).target = false :=
    Device.eligible_disabled (by rw [Device.get, only.regs]; exact off) n
  have returned : (e.reconsiderOne n).source n = { d.source n with st := .pending } := by
    rw [Device.reconsiderOne, same, here, gone]
    exact e.source_setSource n _
  rw [Device.reconsider_eq, own, returned]

theorem Device.setWord_reconsidered (d : Device) (a : Nat) (w : Word) :
    (d.setWord a w).reconsider.word a = w ∧ (∀ b, b ≠ a → (d.setWord a w).reconsider.word b = d.word b) ∧
      (d.setWord a w).reconsider.mem = d.mem :=
  ⟨(Device.reconsider_word ..).trans (d.word_setWord_same a w),
    fun _ h => (Device.reconsider_word ..).trans (d.word_setWord_ne w h), Device.reconsider_mem _⟩

/-- A setting of the controller takes the bits written, no other word changes, and delivered sources are
reconsidered. -/
theorem Device.directWrite_reconsiders {fs : List FieldSpec} {a : Nat} (block : a / 0x10000 = 0x4003)
    (place : a < 0x40030020 ∨ 0x40030080 ≤ a) (run : d.coreRuns = true) (may : d.masterMay m a v = true)
    (aligned : a % 4 = 0) (found : (regFind a).map RegSpec.fields = some fs)
    (stores : fs.any FieldSpec.settable = true) (free : fs.any FieldSpec.guarded = false)
    (w1c : (fs.any fun f => f.acc == .w1c) = false) (act : d.actReserved m (d.masterPriv m) a v = false) :
    ∃ w, d.directWrite m a v = (d.setWord a w).reconsider ∧
      ∀ f ∈ fs, f.settable = true → f.lsb + f.width ≤ 32 → fieldOf w f.lsb f.width = fieldOf v f.lsb f.width := by
  obtain ⟨r, rfl, written⟩ := Device.directWrite_stores block run may aligned found stores free w1c act
  refine ⟨r.setFields (d.word a) v, written.trans ?_, fun f hf settable fits =>
    r.fieldOf_setFields hf settable fits _ v⟩
  rw [Device.registerActs_of_evc block (by omega), Device.wordApplied_of_evc block (by omega)]

/-- The fields of EVC_SRC_n. -/
def evcSrcFields : List FieldSpec := [⟨0, 4, .rw, .neu, false⟩, ⟨4, 3, .rw, .neu, false⟩, ⟨8, 1, .rw, .neu, false⟩]

theorem regFind_evcSrc : ∀ n : Fin 128, isSource n.val = true →
    (regFind (R.EVC_SRC_n n.val)).map RegSpec.fields = some evcSrcFields := by decide +kernel

/-- The fields of EVC_TGT_CTL_x. -/
def evcTgtCtlFields : List FieldSpec := [⟨0, 1, .rw, .neu, false⟩, ⟨1, 3, .rw, .neu, false⟩]

theorem regFind_evcTgtCtl (x : Fin 4) :
    (regFind (R.EVC_TGT_CTL_x x.val)).map RegSpec.fields = some evcTgtCtlFields := by
  fin_cases x <;> decide

theorem regFind_evcTgtMod (x : Fin 4) :
    (regFind (R.EVC_TGT_MOD_x x.val)).map RegSpec.fields = some [⟨0, 16, .rw, .neu, false⟩] := by
  fin_cases x <;> decide

theorem regFind_evcCtl : (regFind R.EVC_CTL).map RegSpec.fields = some [⟨0, 1, .rw, .neu, false⟩] := by decide

theorem evcSrc_place (n : Fin 128) : R.EVC_SRC_n n.val / 0x10000 = 0x4003 ∧ R.EVC_SRC_n n.val % 4 = 0 ∧
    R.EVC_SRC_n n.val < 2 ^ 32 := by
  unfold R.EVC_SRC_n
  omega

theorem evcSrc_apart (n : Fin 128) : R.EVC_SRC_n n.val ∉ noteWords ∧ R.EVC_SRC_n n.val ≠ R.SYS_REJECT_ADDR ∧
    R.EVC_SRC_n n.val ≠ R.SYS_REJECT_CNT := by
  simp only [noteWords, R.EVC_SRC_n, R.SED_CNT2, R.SED_EVT, R.EVC_STAT, R.EVC_WLATCH, R.SYS_REJECT_ADDR,
    R.SYS_REJECT_CNT, List.mem_cons, List.not_mem_nil, or_false]
  omega

/-- A change of the mode of a source that is not IDLE is refused (R144). -/
theorem Device.actReserved_evcSrc (d : Device) (m : Master) (priv : Bool) (n : Fin 128) (v : Word) :
    d.actReserved m priv (R.EVC_SRC_n n.val) v = ((d.source n).st != .idle && d.counted n.val != v.getLsbD 8) := by
  have ne (r : Nat) (hr : r < 0x40030400) : (R.EVC_SRC_n n.val == r) = false :=
    beq_false_of_ne (by unfold R.EVC_SRC_n; omega)
  have done : inFamily (R.EVC_SRC_n n.val) (R.EVC_DONE_x 0) 4 4 = false :=
    inFamily_outside (by decide) (by unfold R.EVC_SRC_n R.EVC_DONE_x; omega)
  have place : R.EVC_SRC_n n.val - R.EVC_SRC_n 0 = 4 * n.val := by unfold R.EVC_SRC_n; omega
  have index : famIndex (R.EVC_SRC_n n.val) (R.EVC_SRC_n 0) 4 = n.val := by
    rw [famIndex, place, Nat.mul_div_cancel_left _ (by decide)]
  have own : inFamily (R.EVC_SRC_n n.val) (R.EVC_SRC_n 0) 128 4 = true := by
    have above : R.EVC_SRC_n 0 ≤ R.EVC_SRC_n n.val := by unfold R.EVC_SRC_n; omega
    rw [inFamily, place, Nat.mul_div_cancel_left _ (by decide), Nat.mul_mod_right, decide_eq_true above,
      decide_eq_true n.isLt]
    rfl
  rw [Device.actReserved, ne R.SYS_RST_REQ (by decide), ne R.SYS_CORE_RST (by decide), ne R.SYS_WDOG_KICK (by decide),
    ne R.PWR_CMD (by decide), done, own, index]
  simp only [Bool.false_eq_true, if_false, if_true, n.isLt, dite_true]

/-- The mode bit written differs from the mode in force. -/
theorem Device.counted_bne (d : Device) (n : Nat) (b : Bool) :
    (d.counted n != b) = true ↔ b.toNat ≠ d.get (F.EVC_SRC_n_MODE n) := by
  have bit : d.get (F.EVC_SRC_n_MODE n) < 2 := d.get_lt_pow (F.EVC_SRC_n_MODE n)
  rw [Device.counted]
  obtain h | h : d.get (F.EVC_SRC_n_MODE n) = 0 ∨ d.get (F.EVC_SRC_n_MODE n) = 1 := by omega
  all_goals rw [h]; cases b <;> decide

theorem Device.moderationWritten_keeps (d : Device) (x : Fin 4) :
    (d.moderationWritten x).regs = d.regs ∧ (d.moderationWritten x).evc.src = d.evc.src := by
  unfold Device.moderationWritten
  split <;> exact ⟨rfl, rfl⟩

/-- An interval of 0 ends the one that runs (R136). -/
theorem Device.moderationWritten_timer (d : Device) (x : Fin 4) : (d.moderationWritten x).evc.timer[x] =
    (d.evc.timer[x] && d.get (F.EVC_TGT_MOD_x_INTERVAL x) != 0) := by
  by_cases none : d.get (F.EVC_TGT_MOD_x_INTERVAL x) = 0
  · rw [Device.moderationWritten, if_pos (beq_iff_eq.2 none), none, bne_self_eq_false, Bool.and_false]
    exact Vector.getElem_set_self x.isLt
  · rw [Device.moderationWritten, if_neg (mt beq_iff_eq.1 none), bne_iff_ne.2 none, Bool.and_true]

theorem Device.wordApplied_evcTgtMod (d : Device) (x : Fin 4) (old : Word) :
    d.wordApplied (R.EVC_TGT_MOD_x x.val) old = d.moderationWritten x := by fin_cases x <;> rfl

theorem Device.directWrite_tgtMod (run : d.coreRuns = true) (x : Fin 4)
    (may : d.masterMay m (R.EVC_TGT_MOD_x x.val) v = true) :
    ∃ w, d.directWrite m (R.EVC_TGT_MOD_x x.val) v = (d.setWord (R.EVC_TGT_MOD_x x.val) w).moderationWritten x ∧
      fieldOf w 0 16 = v.toNat % 65536 := by
  have block : R.EVC_TGT_MOD_x x.val / 0x10000 = 0x4003 := by unfold R.EVC_TGT_MOD_x; omega
  obtain ⟨r, fields, written⟩ := Device.directWrite_stores block run may (by unfold R.EVC_TGT_MOD_x; omega)
    (regFind_evcTgtMod x) rfl rfl rfl (by fin_cases x <;> rfl)
  rw [Device.registerActs_of_evc block (by unfold R.EVC_TGT_MOD_x; omega), Device.wordApplied_evcTgtMod] at written
  have interval := RegSpec.fieldOf_setFields (r := r) (f := ⟨0, 16, .rw, .neu, false⟩) (by rw [fields]; decide) rfl
    (by decide) (d.word (R.EVC_TGT_MOD_x x.val)) v
  exact ⟨_, written, interval.trans (fieldOf_low v 16)⟩

end Settings

/-! ### O27 -/

section Writes

variable {s : State} {m : Master} {x : Fin 4} {n : Fin 128} {v : Word} (run : s.dev.coreRuns = true)
include run

theorem claim_completes (reads : s.dev.masterReads m = true) (here : s.dev.standsAt x n)
    (best : ∀ y, s.dev.standsAt x y → s.dev.get (F.EVC_SRC_n_PRIO y.val) < s.dev.get (F.EVC_SRC_n_PRIO n.val) ∨
      (s.dev.get (F.EVC_SRC_n_PRIO y.val) = s.dev.get (F.EVC_SRC_n_PRIO n.val) ∧ n ≤ y)) :
    Completes (.evcClaim m x) s fun e => (∀ y, y ≠ n → e.source y = s.dev.source y) ∧
      (e.source n).st = .inService ∧ (e.source n).target = x ∧ (e.source n).count = 0 ∧
      e.lastRead.toNat % 256 = n.val ∧
      ((s.dev.source n).count < 256 → e.lastRead.toNat / 256 % 256 = (s.dev.source n).count) ∧ e.regs = s.dev.regs := by
  refine ⟨_, exec_evcClaim x run reads, rfl, ?_⟩
  rw [Device.claim_some (Device.claimChoice_some here best)]
  have claimed : (s.dev.setSource n (s.dev.source n).claimed).source n = (s.dev.source n).claimed :=
    s.dev.source_setSource n _
  obtain ⟨number, count⟩ := claimWord_shows n (s.dev.source n)
  refine ⟨fun y hy => s.dev.source_setSource_ne _ hy, congrArg EvSource.st claimed, ?_, congrArg EvSource.count claimed,
    number, count, rfl⟩
  exact (congrArg EvSource.target claimed).trans here.2

theorem done_completes (may : s.dev.masterMay m (R.EVC_DONE_x x.val) v = true) (named : v.toNat % 256 = n.val) :
    ((s.dev.source n).st = .inService → (s.dev.source n).target = x → Completes (.evcDone m x v) s fun e =>
      (∀ y, y ≠ n → e.source y = s.dev.source y) ∧
        (e.source n).st = (if (s.dev.source n).repend then .pending else .idle) ∧ (e.source n).repend = false) ∧
    ((s.dev.source n).st ≠ .inService ∨ (s.dev.source n).target ≠ x → Completes (.evcDone m x v) s fun e =>
      (∀ y, e.source y = s.dev.source y) ∧ e.get F.EVC_STAT_BADDONE = 1) := by
  obtain ⟨w, written⟩ := Device.directWrite_done run x may named
  have complete {p : Device → Prop} (h : p ((s.dev.setWord (R.EVC_DONE_x x.val) w).completeEvent x n)) :
      Completes (.evcDone m x v) s p :=
    State.completes_eq (f := fun d => d.directWrite m (R.EVC_DONE_x x.val) v) rfl written h
  refine ⟨fun busy target => complete ?_, fun other => complete ?_⟩
  · rw [Device.completeEvent_inService (d := s.dev.setWord _ w) busy target]
    refine ⟨fun y hy => Device.source_setSource_ne _ _ hy, ?_⟩
    rw [Device.source_setSource]
    exact EvSource.complete_shows _
  · rw [Device.completeEvent_other (d := s.dev.setWord _ w) fun h => other.elim (· h.1) (· h.2)]
    exact ⟨fun _ => rfl, Device.get_orField_flag _ (by decide) rfl⟩

theorem srcWrite_refused (may : s.dev.masterMay m (R.EVC_SRC_n n.val) v = true) (listed : isSource n.val = true)
    (busy : (s.dev.source n).st ≠ .idle) (other : (v.getLsbD 8).toNat ≠ s.dev.get (F.EVC_SRC_n_MODE n.val)) :
    Completes (.evcSrcWrite m n v) s fun e =>
      e.word (R.EVC_SRC_n n.val) = s.dev.word (R.EVC_SRC_n n.val) ∧ s.dev.fired e 0 := by
  obtain ⟨block, aligned, small⟩ := evcSrc_place n
  obtain ⟨r, found, -⟩ := Option.map_eq_some_iff.1 (regFind_evcSrc n listed)
  have refused : s.dev.writeReserved m (s.dev.masterPriv m) r (R.EVC_SRC_n n.val) v = true := by
    rw [Device.writeReserved_of_evc block, Device.actReserved_evcSrc, bne_iff_ne.2 busy, (s.dev.counted_bne ..).2 other]
    rfl
  have rejected : s.dev.directWrite m (R.EVC_SRC_n n.val) v = s.dev.reject (R.EVC_SRC_n n.val) := by
    rw [Device.directWrite_register run may aligned (by omega) (by omega), Device.regWrite_reserved found refused]
  obtain ⟨⟨-, word⟩, fired, -⟩ := s.dev.reject_reports (BitVec.ofNat 32 (R.EVC_SRC_n n.val))
  rw [BitVec.toNat_ofNat, Nat.mod_eq_of_lt small] at word fired
  refine State.completes_eq (f := fun d => d.directWrite m (R.EVC_SRC_n n.val) v) rfl rejected ⟨?_, fired⟩
  obtain ⟨quiet, first, further⟩ := evcSrc_apart n
  rw [word _ quiet, Device.lookup_rejectWords _ _ first further]
  rfl

theorem srcWrite_taken (may : s.dev.masterMay m (R.EVC_SRC_n n.val) v = true) (listed : isSource n.val = true)
    (free : (s.dev.source n).st = .idle ∨ (v.getLsbD 8).toNat = s.dev.get (F.EVC_SRC_n_MODE n.val)) :
    Completes (.evcSrcWrite m n v) s fun e =>
      e.get (F.EVC_SRC_n_TGT n.val) = v.toNat % 16 ∧ e.get (F.EVC_SRC_n_PRIO n.val) = v.toNat / 16 % 8 ∧
      e.get (F.EVC_SRC_n_MODE n.val) = (v.getLsbD 8).toNat ∧
      (∀ a, a ≠ R.EVC_SRC_n n.val → e.word a = s.dev.word a) ∧ e.mem = s.dev.mem := by
  obtain ⟨block, aligned, -⟩ := evcSrc_place n
  have accepted : s.dev.actReserved m (s.dev.masterPriv m) (R.EVC_SRC_n n.val) v = false := by
    rw [Device.actReserved_evcSrc, ← Bool.not_eq_true, Bool.and_eq_true, bne_iff_ne, Device.counted_bne]
    exact fun h => free.elim h.1 h.2
  obtain ⟨w, written, fields⟩ := Device.directWrite_reconsiders block (by unfold R.EVC_SRC_n; omega) run may aligned
    (regFind_evcSrc n listed) rfl rfl rfl accepted
  obtain ⟨own, others, mem⟩ := s.dev.setWord_reconsidered (R.EVC_SRC_n n.val) w
  have tgt := fields ⟨0, 4, .rw, .neu, false⟩ (by decide) rfl (by decide)
  have prio := fields ⟨4, 3, .rw, .neu, false⟩ (by decide) rfl (by decide)
  have mode := fields ⟨8, 1, .rw, .neu, false⟩ (by decide) rfl (by decide)
  refine State.completes_eq (f := fun d => d.directWrite m (R.EVC_SRC_n n.val) v) rfl written
    ⟨?_, ?_, ?_, others, mem⟩
  · exact ((congrArg (fieldOf · 0 4) own).trans tgt).trans (fieldOf_low v 4)
  · exact (congrArg (fieldOf · 4 3) own).trans prio
  · exact ((congrArg (fieldOf · 8 1) own).trans mode).trans (fieldOf_bit v 8)

theorem tgtCtlWrite_completes (may : s.dev.masterMay m (R.EVC_TGT_CTL_x x.val) v = true) :
    Completes (.evcTgtCtlWrite m x v) s fun e =>
      e.get (F.EVC_TGT_CTL_x_EN x.val) = v.toNat % 2 ∧ e.get (F.EVC_TGT_CTL_x_THRESH x.val) = v.toNat / 2 % 8 ∧
      (∀ a, a ≠ R.EVC_TGT_CTL_x x.val → e.word a = s.dev.word a) ∧
      (v.toNat % 2 = 0 → s.dev.standsAt x n → (e.source n).st = .pending) := by
  obtain ⟨w, written, fields⟩ := Device.directWrite_reconsiders (by unfold R.EVC_TGT_CTL_x; omega)
    (by unfold R.EVC_TGT_CTL_x; omega) run may (by unfold R.EVC_TGT_CTL_x; omega) (regFind_evcTgtCtl x) rfl rfl rfl
    (by fin_cases x <;> rfl)
  obtain ⟨own, others, -⟩ := s.dev.setWord_reconsidered (R.EVC_TGT_CTL_x x.val) w
  have enable : fieldOf w 0 1 = v.toNat % 2 :=
    (fields ⟨0, 1, .rw, .neu, false⟩ (by decide) rfl (by decide)).trans (fieldOf_low v 1)
  refine State.completes_eq (f := fun d => d.directWrite m (R.EVC_TGT_CTL_x x.val) v) rfl written
    ⟨(congrArg (fieldOf · 0 1) own).trans enable, ?_, others, fun off here => ?_⟩
  · exact (congrArg (fieldOf · 1 3) own).trans (fields ⟨1, 3, .rw, .neu, false⟩ (by decide) rfl (by decide))
  · obtain ⟨st, target⟩ := here
    refine Device.reconsider_returns st ?_
    have same : ((s.dev.setWord (R.EVC_TGT_CTL_x x.val) w).source n).target = x := target
    rw [same]
    exact (congrArg (fieldOf · 0 1) (s.dev.word_setWord_same _ w)).trans (enable.trans off)

theorem tgtModWrite_completes (may : s.dev.masterMay m (R.EVC_TGT_MOD_x x.val) v = true) :
    Completes (.evcTgtModWrite m x v) s fun e =>
      e.get (F.EVC_TGT_MOD_x_INTERVAL x.val) = v.toNat % 65536 ∧
      e.evc.timer[x] = (s.dev.evc.timer[x] && v.toNat % 65536 != 0) ∧ e.evc.src = s.dev.evc.src := by
  obtain ⟨w, written, field⟩ := Device.directWrite_tgtMod run x may
  have interval : (s.dev.setWord (R.EVC_TGT_MOD_x x.val) w).get (F.EVC_TGT_MOD_x_INTERVAL x.val) = v.toNat % 65536 :=
    (congrArg (fieldOf · 0 16) (s.dev.word_setWord_same _ w)).trans field
  obtain ⟨regs, src⟩ := (s.dev.setWord (R.EVC_TGT_MOD_x x.val) w).moderationWritten_keeps x
  refine State.completes_eq (f := fun d => d.directWrite m (R.EVC_TGT_MOD_x x.val) v) rfl written ⟨?_, ?_, src⟩
  · exact (congrArg (RegMap.get · _) regs).trans interval
  · rw [Device.moderationWritten_timer, interval]
    rfl

theorem ctlWrite_completes (may : s.dev.masterMay m R.EVC_CTL v = true) : Completes (.evcCtlGenWrite m v) s fun e =>
    e.get F.EVC_CTL_GEN = v.toNat % 2 ∧ ∀ a, a ≠ R.EVC_CTL → e.word a = s.dev.word a := by
  obtain ⟨w, written, fields⟩ := Device.directWrite_reconsiders (by decide) (by decide) run may (by decide)
    regFind_evcCtl rfl rfl rfl rfl
  obtain ⟨own, others, -⟩ := s.dev.setWord_reconsidered R.EVC_CTL w
  refine State.completes_eq (f := fun d => d.directWrite m R.EVC_CTL v) rfl written ⟨?_, others⟩
  exact ((congrArg (fieldOf · 0 1) own).trans (fields ⟨0, 1, .rw, .neu, false⟩ (by decide) rfl (by decide))).trans
    (fieldOf_low v 1)

end Writes

/-- Settles O27, access by access: each read and write of the controller is its effect at the register's address. -/
theorem eventControl : Obligations.EventControl := by
  unfold Obligations.EventControl
  intro s m x n k v run
  dsimp only
  refine ⟨?expire, fun reads absent => ?nothing, fun reads here best => claim_completes run reads here best,
    fun may named => done_completes run may named, fun may listed taking idle => ?pset, fun may => ?pclr,
    fun may listed => ⟨srcWrite_refused run may listed, srcWrite_taken run may listed⟩,
    fun may => tgtCtlWrite_completes run may,
    fun may => tgtModWrite_completes run may, fun may => ctlWrite_completes run may⟩
  case expire =>
    exact State.on_congr (f := fun d => if d.coreRuns then { d with evc.timer := d.evc.timer.set x false } else d)
      (g := fun d => { d with evc.timer := d.evc.timer.set x false }) (if_pos run)
  case nothing => rw [exec_evcClaim x run reads, Device.claim_none (Device.claimChoice_none absent)]
  case pset =>
    obtain ⟨w, written⟩ := Device.directWrite_pset run ⟨n.val / 32, by omega⟩ may
    refine State.completes_eq (f := fun d => d.directWrite m (R.EVC_PSETi (n.val / 32)) v) rfl written ?_
    exact Device.softFire_idle rfl listed taking idle
  case pclr =>
    obtain ⟨w, written⟩ := Device.directWrite_pclr run ⟨n.val / 32, by omega⟩ may
    refine State.completes_eq (f := fun d => d.directWrite m (R.EVC_PCLRi (n.val / 32)) v) rfl written ?_
    rw [Device.withdrawBits_source _ rfl]
    refine ⟨fun bit => ?_, fun bit free => ?_, fun bit busy => ?_⟩
    · rw [bit]
      rfl
    · rw [bit]
      exact EvSource.withdraw_free free
    · rw [bit]
      exact EvSource.withdraw_busy busy

end Sys2Proof.Machine
end

section
/-! PROOFS. A return from limp that opens the main switch (O30). -/

namespace Sys2Proof.Machine

/-- The registers of a device in READY and in limp whose loop has locked again (R198) and whose main switch opens on every
fault: the chain master is enabled, mailbox 0 holds a broadcast of 4 bytes from the start of core SRAM, and one
uncorrectable error is a burst. -/
def mailRegs : RegMap :=
  [(F.PWR_STAT_STATE, 2), (F.PWR_STAT_MAIN, 2), (F.PWR_CTL_OPEN_ON_FAULT, 1), (F.CLK_STAT_MODE, 6), (F.CLK_STAT_SEL, 3),
    (F.CLK_STAT_LOCKED, 1), (F.CLK_STAT_XTAL_OK, 1), (F.SHL_CFG_EN, 1), (F.SHL_MB_CTL_m_ADDR 0, 127),
    (F.SHL_MB_CTL_m_LEN 0, 4), (F.SHL_MB_BUF_m_ADDR 0, 0x4000000), (F.SED_CFG_ECCMAX, 1)].foldl
    (fun m p => m.put p.1 p.2) []

/-- The main switch is closed, the command of mailbox 0 waits for the end of limp (R197), and its word in core SRAM is beyond
correction. -/
def mailState : State :=
  { State.reset with dev := { Device.initial with
      pwr := { Pwr.start with seq := .up, enMain := true }
      shl := { Shl.idle with role := true, mbq := [0] }
      ecc := [(0x10000000, .multi)]
      regs := mailRegs } }

/-- The return from limp lets the chain go on (R197); the mailbox's payload is read, its word raises ECC_BURST (R652), and
the fault opens the main switch (R227). -/
theorem mailState_opensMain : mailState.dev.limpReturn.pwr.enMain = false := by decide +kernel

theorem exec_limpReturn (s : State) : exec .limpReturn s = s.on Device.limpReturn := rfl

/-- What holds after a command that changes the device alone holds of the device changed. -/
theorem Completes.of_on {i : Instr} {s : State} {f : Device → Device} {p : Device → Prop} (h : Completes i s p)
    (run : exec i s = s.on f) : p (f s.dev) := by
  obtain ⟨t, ends, -, holds⟩ := h
  rwa [← Host.Outcome.next.inj (run.symm.trans ends)] at holds

/-- Refutes O30: the statement says that the return from limp leaves the power block alone in every state, also where the
chain that goes on with it reads a mailbox payload whose word in memory is beyond correction. The fault that follows opens
the main switch. -/
theorem not_ringSlaveAndAnalogLoop : ¬ Obligations.RingSlaveAndAnalogLoop := by
  unfold Obligations.RingSlaveAndAnalogLoop
  rintro ⟨-, h⟩
  obtain ⟨-, -, -, -, -, returns, -⟩ := h mailState false 0 0
  obtain ⟨-, -, -, -, -, pwr⟩ :=
    (returns (by decide +kernel) (by decide +kernel) (by decide +kernel)).of_on (exec_limpReturn mailState)
  exact absurd ((congrArg Pwr.enMain pwr).symm.trans mailState_opensMain) (by decide)

end Sys2Proof.Machine
end

section
/-! PROOFS. Fields read as signed numbers and as flags, and an occurrence that is raised after the clock block has changed. -/

namespace Sys2Proof.Machine

/-! ### Fields of the register file -/

theorem Device.get_put_lt (d : Device) (f : Fld) {v : Nat} (fits : f.fits = true) (hv : v < 2 ^ f.width) :
    (d.put f v).get f = v :=
  (d.get_put_same f v fits).trans (Nat.mod_eq_of_lt hv)

theorem Device.puti_eq_put (d : Device) (f : Fld) (v : Int) : d.puti f v = d.put f (v % (2 ^ f.width : Nat)).toNat := rfl

theorem Device.get_puti_apart (d : Device) (f g : Fld) (v : Int) (fits : f.fits = true) (h : f.apart g = true) :
    (d.puti f v).get g = d.get g := d.get_put_apart f g _ fits h

theorem Device.get_setFlag_same (d : Device) (f : Fld) (b : Bool) (fits : f.fits = true) (bit : f.width = 1) :
    (d.setFlag f b).get f = b.toNat :=
  d.get_put_lt f fits (by rw [bit]; exact b.toNat_lt)

theorem Device.get_setFlag_apart (d : Device) (f g : Fld) (b : Bool) (fits : f.fits = true) (h : f.apart g = true) :
    (d.setFlag f b).get g = d.get g := d.get_put_apart f g _ fits h

theorem Device.get_raise (d : Device) (n detail : Nat) (data : List Byte) {g : Fld} (q : g.quiet = true) :
    (d.raise n detail data).get g = d.get g := d.raise_get n detail data q

/-- A signed field follows its bits. -/
theorem Device.geti_congr {d e : Device} {f g : Fld} (h : e.get f = d.get g) (width : f.width = g.width) :
    e.geti f = d.geti g := by
  have h : e.regs.get f = d.regs.get g := h
  simp only [Device.geti, RegMap.geti, h, width]

/-- A signed field reads the number written where it can hold it. -/
theorem Device.geti_puti_same (d : Device) (f : Fld) {v : Int} (fits : f.fits = true) (some : 0 < f.width)
    (lo : -2 ^ (f.width - 1) ≤ v) (hi : v < 2 ^ (f.width - 1)) : (d.puti f v).geti f = v := by
  have double : (2 : Int) ^ f.width = 2 * 2 ^ (f.width - 1) := by
    rw [← pow_succ', Nat.sub_add_cancel some]
  have cast : ((2 ^ f.width : Nat) : Int) = 2 ^ f.width := by norm_cast
  have half : ((2 ^ (f.width - 1) : Nat) : Int) = 2 ^ (f.width - 1) := by norm_cast
  have pos : (0 : Int) < 2 ^ (f.width - 1) := by positivity
  have inside : 0 ≤ v % 2 ^ f.width ∧ v % 2 ^ f.width < 2 ^ f.width :=
    ⟨Int.emod_nonneg _ (by omega), Int.emod_lt_of_pos _ (by omega)⟩
  have bits : ((d.puti f v).regs.get f : Int) = v % 2 ^ f.width := by
    have small : (v % (2 ^ f.width : Nat)).toNat < 2 ^ f.width := by omega
    rw [show (d.puti f v).regs.get f = (v % (2 ^ f.width : Nat)).toNat from d.get_put_lt f fits small, cast,
      Int.toNat_of_nonneg inside.1]
  simp only [Device.geti, RegMap.geti]
  rcases Int.lt_or_le v 0 with neg | nonneg
  · have wrap : v % 2 ^ f.width = v + 2 ^ f.width := by
      rw [← Int.add_emod_right, Int.emod_eq_of_lt (by omega) (by omega)]
    rw [if_neg (by omega)]
    omega
  · have keep : v % 2 ^ f.width = v := Int.emod_eq_of_lt nonneg (by omega)
    rw [if_pos (by omega)]
    omega

/-- A flag is one bit. -/
theorem Device.get_flag_cases (d : Device) {f : Fld} (bit : f.width = 1) : d.get f = 0 ∨ d.get f = 1 := by
  have := d.get_lt_pow f
  rw [bit] at this
  omega

theorem Device.flag_eq_true_iff (d : Device) {f : Fld} (bit : f.width = 1) : d.flag f = true ↔ d.get f = 1 := by
  rcases d.get_flag_cases bit with h | h <;> simp [Device.flag, h]

theorem Device.flag_eq_false_iff (d : Device) {f : Fld} : d.flag f = false ↔ d.get f = 0 := by
  simp [Device.flag]

/-! ### An occurrence after a change of the clock block -/

section Raised

variable {d f : Device} (evc : f.evc = d.evc) (pwr : f.pwr = d.pwr)
  (state : f.get F.PWR_STAT_STATE = d.get F.PWR_STAT_STATE)
include evc pwr state

/-- A source fires for `d` where nothing but the events and the power sequence has to be as `d` has it. -/
theorem Device.fired_raise_of (n : Fin 128) (listed : isSource n.val = true) (hardware : n.val < 124) (detail : Nat)
    (data : List Byte) : d.fired (f.raise n.val detail data) n := by
  have fired := f.fired_raise n listed hardware detail data
  have armed : f.latchArmed n.val = d.latchArmed n.val := by
    simp only [Device.latchArmed, Device.coreRuns, Device.still, Device.isState, state, pwr, evc]
  have source : f.source n = d.source n := by rw [Device.source, evc, Device.source]
  rwa [Device.fired, armed, source] at fired

end Raised

/-- An occurrence is logged for `d` at its ring time and its epoch. -/
theorem Device.logged_raise_of {d f : Device} (sed : f.sed = d.sed) (rt : f.clk.rt = d.clk.rt)
    (epoch : f.get F.TXN_EPOCH_EPOCH = d.get F.TXN_EPOCH_EPOCH) (n detail : Nat) (data : List Byte) (hd : detail < 8192)
    (hb : data.length ≤ 11) : d.logged (f.raise n detail data) [d.entry n (sourceSev n) detail data] := by
  have logged := f.raise_logged n detail data hd hb
  rwa [Device.logged, sed, Device.entry, rt, Device.epoch, epoch] at logged

end Sys2Proof.Machine
end

section
/-! PROOFS. What holdover, a switch and a slew of the PLL reference change (R178 to R184). -/

namespace Sys2Proof.Machine

/-! ### The fields of the selection -/

/-- The fields that the selection of the reference writes. -/
def selectionFields : List Fld := [F.CLK_STAT_SEL, F.CLK_STAT_MODE, F.CLK_STAT_DWELL_LEFT, F.CLK_EVT_TOL, F.CLK_EVT_SWITCH,
  F.CLK_TRIM_TRIM, F.CLK_HOLD_TRIM]

theorem selectionFields_fit : ∀ f ∈ selectionFields, f.fits = true := by decide

/-- The selection of the reference has led from `d` to `e`: memory and every field that it does not write are as they were. -/
def Device.steered (d e : Device) : Prop :=
  e.mem = d.mem ∧ ∀ g : Fld, g.quiet = true → (∀ f ∈ selectionFields, f.apart g = true) → e.get g = d.get g

theorem Device.steered.refl (d : Device) : d.steered d := ⟨rfl, fun _ _ _ => rfl⟩

theorem Device.steered.trans {d e f : Device} (h : d.steered e) (k : e.steered f) : d.steered f :=
  ⟨k.1.trans h.1, fun g quiet apart => (k.2 g quiet apart).trans (h.2 g quiet apart)⟩

theorem Device.steered.ite {d a b : Device} {p : Prop} [Decidable p] (ha : d.steered a) (hb : d.steered b) :
    d.steered (if p then a else b) := by
  split
  · exact ha
  · exact hb

variable (d : Device)

theorem Device.steered_put {f : Fld} (v : Nat) (hf : f ∈ selectionFields) : d.steered (d.put f v) :=
  ⟨rfl, fun g _ apart => d.get_put_apart f g v (selectionFields_fit f hf) (apart f hf)⟩

theorem Device.steered_puti {f : Fld} (v : Int) (hf : f ∈ selectionFields) : d.steered (d.puti f v) := d.steered_put _ hf

theorem Device.steered_with (clk : Clk) (freshN : Nat) : d.steered { d with clk := clk, freshN := freshN } :=
  ⟨rfl, fun _ _ _ => rfl⟩

theorem Device.steered_raise (n detail : Nat) (data : List Byte) : d.steered (d.raise n detail data) :=
  ⟨d.raise_mem n detail data, fun _ quiet _ => d.get_raise n detail data quiet⟩

/-- Registers and what the clock block measures have changed from `d` to `e`: the events, the log, the power sequence,
memory and ring time are as they were, and so are the role on the ring and the word that the priority list has changed. -/
structure Device.retuned (d e : Device) : Prop where
  evc : e.evc = d.evc
  sed : e.sed = d.sed
  pwr : e.pwr = d.pwr
  mem : e.mem = d.mem
  rt : e.clk.rt = d.clk.rt
  slave : e.clk.ringSlave = d.clk.ringSlave
  listed : e.clk.cfgChanged = d.clk.cfgChanged

theorem Device.retuned.refl : d.retuned d := ⟨rfl, rfl, rfl, rfl, rfl, rfl, rfl⟩

theorem Device.retuned.trans {d e f : Device} (h : d.retuned e) (k : e.retuned f) : d.retuned f :=
  ⟨k.evc.trans h.evc, k.sed.trans h.sed, k.pwr.trans h.pwr, k.mem.trans h.mem, k.rt.trans h.rt, k.slave.trans h.slave,
    k.listed.trans h.listed⟩

theorem Device.retuned_put (f : Fld) (v : Nat) : d.retuned (d.put f v) := ⟨rfl, rfl, rfl, rfl, rfl, rfl, rfl⟩

theorem Device.retuned_with {clk : Clk} (freshN : Nat) (rt : clk.rt = d.clk.rt) (slave : clk.ringSlave = d.clk.ringSlave)
    (listed : clk.cfgChanged = d.clk.cfgChanged) : d.retuned { d with clk := clk, freshN := freshN } :=
  ⟨rfl, rfl, rfl, rfl, rt, slave, listed⟩

/-! ### Holdover (R178, R184) -/

/-- The device with the trim held at `t`, before CLK_REF_TOL is raised. -/
def Device.trimHeld (d : Device) (mode : Nat) (t : Int) : Device :=
  let h := ((d.setClkMode mode).puti F.CLK_TRIM_TRIM t).puti F.CLK_HOLD_TRIM t
  (h.put F.CLK_STAT_DWELL_LEFT (if mode == 2 then h.get F.CLK_MON_CFG_DWELL else 0)).setFlag F.CLK_EVT_TOL true

theorem Device.holdTrim_eq (mode : Nat) (mean : Bool) :
    ∃ t data, d.holdTrim mode mean = (d.trimHeld mode t).raise 7 d.refSel data := ⟨_, _, rfl⟩

theorem Device.steered_holdTrim (mode : Nat) (mean : Bool) : d.steered (d.holdTrim mode mean) := by
  obtain ⟨t, data, eq⟩ := d.holdTrim_eq mode mean
  rw [eq]
  refine Device.steered.trans ?_ (Device.steered_raise _ _ _ _)
  refine Device.steered.trans ?_ (Device.steered_put _ _ (by decide))
  refine Device.steered.trans ?_ (Device.steered_put _ _ (by decide))
  refine Device.steered.trans ?_ (Device.steered_puti _ _ (by decide))
  exact (d.steered_put _ (by decide)).trans (Device.steered_puti _ _ (by decide))

theorem Device.retuned_trimHeld (mode : Nat) (t : Int) : d.retuned (d.trimHeld mode t) :=
  ((((d.retuned_put _ _).trans (Device.retuned_put _ _ _)).trans (Device.retuned_put _ _ _)).trans
    (Device.retuned_put _ _ _)).trans (Device.retuned_put _ _ _)

theorem Device.trimHeld_shows {mode : Nat} (hm : mode < 8) (t : Int) : (d.trimHeld mode t).get F.CLK_STAT_MODE = mode ∧
    (d.trimHeld mode t).get F.CLK_STAT_SEL = d.get F.CLK_STAT_SEL ∧
    (d.trimHeld mode t).get F.CLK_STAT_DWELL_LEFT = (if mode = 2 then d.get F.CLK_MON_CFG_DWELL else 0) ∧
    (d.trimHeld mode t).get F.CLK_EVT_TOL = 1 ∧ (d.trimHeld mode t).geti F.CLK_HOLD_TRIM = (d.trimHeld mode t).geti F.CLK_TRIM_TRIM := by
  have dwell : d.get F.CLK_MON_CFG_DWELL < 2 ^ 8 := d.get_lt_pow _
  have left : (if mode = 2 then d.get F.CLK_MON_CFG_DWELL else 0) < 2 ^ F.CLK_STAT_DWELL_LEFT.width := by
    split
    · exact dwell
    · decide
  refine ⟨?_, ?_, ?_, ?_, Device.geti_congr ?_ rfl⟩
  all_goals
    simp (disch := decide) only [Device.trimHeld, Device.setClkMode, Device.puti_eq_put, Device.get_setFlag_apart,
      Device.get_setFlag_same, Device.get_put_apart, Device.get_put_same, beq_iff_eq]
  · exact Nat.mod_eq_of_lt hm
  · exact Nat.mod_eq_of_lt left
  · rfl
  · rfl

theorem Device.holdTrim_shows {mode : Nat} (hm : mode < 8) (mean : Bool) : let e := d.holdTrim mode mean
    e.get F.CLK_STAT_MODE = mode ∧ e.get F.CLK_STAT_SEL = d.get F.CLK_STAT_SEL ∧
      e.get F.CLK_STAT_DWELL_LEFT = (if mode = 2 then d.get F.CLK_MON_CFG_DWELL else 0) ∧ e.get F.CLK_EVT_TOL = 1 ∧
      e.geti F.CLK_HOLD_TRIM = e.geti F.CLK_TRIM_TRIM := by
  obtain ⟨t, data, eq⟩ := d.holdTrim_eq mode mean
  have same : ∀ g : Fld, g.quiet = true → (d.holdTrim mode mean).get g = (d.trimHeld mode t).get g := fun g quiet => by
    rw [eq, Device.get_raise _ _ _ _ quiet]
  obtain ⟨m, sel, dwell, tol, hold⟩ := d.trimHeld_shows hm t
  exact ⟨(same _ (by decide)).trans m, (same _ (by decide)).trans sel, (same _ (by decide)).trans dwell,
    (same _ (by decide)).trans tol, (Device.geti_congr (same _ (by decide)) rfl).trans
      (hold.trans (Device.geti_congr (same _ (by decide)) rfl).symm)⟩

theorem Device.holdTrim_listed (mode : Nat) (mean : Bool) :
    (d.holdTrim mode mean).clk.cfgChanged = d.clk.cfgChanged := by
  obtain ⟨t, data, eq⟩ := d.holdTrim_eq mode mean
  rw [eq, Device.raise_clk, (d.retuned_trimHeld mode t).listed]

/-- CLK_REF_TOL fires for the device from which `x` has been retuned. -/
theorem Device.holdTrim_fired {d x : Device} (h : d.retuned x)
    (state : x.get F.PWR_STAT_STATE = d.get F.PWR_STAT_STATE) (mode : Nat) (mean : Bool) :
    d.fired (x.holdTrim mode mean) 7 := by
  obtain ⟨t, data, eq⟩ := x.holdTrim_eq mode mean
  have held := h.trans (x.retuned_trimHeld mode t)
  rw [eq]
  refine Device.fired_raise_of held.evc held.pwr (Eq.trans ?_ state) 7 (by decide) (by decide) _ _
  simp (disch := decide) only [Device.trimHeld, Device.setClkMode, Device.puti_eq_put, Device.get_setFlag_apart,
    Device.get_put_apart]

/-- The reference that is lost while the DPLL runs and the trim is not yet held leads to HOLDOVER. -/
theorem Device.loseReference_holds {d : Device} (runs : d.dpllRuns = true) (sel : d.get F.CLK_STAT_SEL ≠ 0)
    (mode : d.get F.CLK_STAT_MODE ≠ 2) : d.loseReference = d.holdTrim 2 (d.clkMode != 3) := by
  refine if_neg ?_
  simp [Device.refSel, Device.clkMode, runs, sel, mode]

theorem Device.loseReference_xtal {d : Device} (sel : d.get F.CLK_STAT_SEL = 0) : d.loseReference = d :=
  if_pos (by simp [Device.refSel, sel])

theorem Device.steered_loseReference : d.steered d.loseReference :=
  .ite (.refl d) (d.steered_holdTrim _ _)

theorem Device.loseReference_listed : d.loseReference.clk.cfgChanged = d.clk.cfgChanged := by
  unfold Device.loseReference
  split
  · rfl
  · exact d.holdTrim_listed _ _

/-! ### A slew (R180) -/

theorem Device.steered_startSlew : d.steered d.startSlew :=
  ((d.steered_with _ _).trans (Device.steered_put _ _ (by decide))).trans (Device.steered_put _ _ (by decide))

theorem Device.retuned_startSlew : d.retuned d.startSlew :=
  ((d.retuned_with (clk := { d.clk with slewPhase := Config.freeWord d.freshN }) _ rfl rfl rfl).trans
    (Device.retuned_put _ _ _)).trans (Device.retuned_put _ _ _)

theorem Device.startSlew_get {g : Fld} (mode : F.CLK_STAT_MODE.apart g = true)
    (dwell : F.CLK_STAT_DWELL_LEFT.apart g = true) : d.startSlew.get g = d.get g :=
  (Device.get_put_apart _ _ _ _ (by decide) dwell).trans (Device.get_put_apart _ _ _ _ (by decide) mode)

theorem Device.startSlew_mode : d.startSlew.get F.CLK_STAT_MODE = 3 :=
  (Device.get_put_apart _ _ _ _ (by decide) (by decide)).trans (Device.get_put_lt _ _ (by decide) (by decide))

theorem Device.startSlew_dwell : d.startSlew.get F.CLK_STAT_DWELL_LEFT = 0 := Device.get_put_lt _ _ (by decide) (by decide)

/-! ### A switch to another reference (R179 to R182) -/

/-- The device that slews to another reference, before the switch is raised. -/
def Device.toRef (d : Device) (src : Nat) : Device := (d.put F.CLK_STAT_SEL src).startSlew.setFlag F.CLK_EVT_SWITCH true

theorem Device.retuned_toRef (src : Nat) : d.retuned (d.toRef src) :=
  ((d.retuned_put _ _).trans (Device.retuned_startSlew _)).trans (Device.retuned_put _ _ _)

theorem Device.switchRef_eq (src : Nat) : d.switchRef src = (d.toRef src).raise 8 d.refSel (leBytes 1 src) := rfl

theorem Device.steered_switchRef (src : Nat) : d.steered (d.switchRef src) := by
  refine Device.steered.trans ?_ (Device.steered_raise (d.toRef src) 8 d.refSel (leBytes 1 src))
  refine Device.steered.trans ?_ (Device.steered_put _ _ (by decide))
  exact (d.steered_put _ (by decide)).trans (Device.steered_startSlew _)

/-- The device `e` has switched from `d` to the reference `x`, slews to it, and the switch is reported. -/
def Device.switched (d : Device) (x : Nat) (e : Device) : Prop :=
  e.get F.CLK_STAT_SEL = x ∧ e.get F.CLK_STAT_MODE = 3 ∧ e.get F.CLK_STAT_DWELL_LEFT = 0 ∧ e.get F.CLK_EVT_SWITCH = 1 ∧
    d.fired e 8 ∧ d.logged e [d.entry 8 1 (d.get F.CLK_STAT_SEL) (leBytes 1 x)] ∧ e.mem = d.mem

theorem Device.switchRef_switched {x : Nat} (hx : x < 4) : d.switched x (d.switchRef x) := by
  have old : d.get F.CLK_STAT_SEL < 2 ^ 2 := d.get_lt_pow _
  have kept : ∀ g : Fld, F.CLK_STAT_SEL.apart g = true → F.CLK_STAT_MODE.apart g = true →
      F.CLK_STAT_DWELL_LEFT.apart g = true → F.CLK_EVT_SWITCH.apart g = true → (d.toRef x).get g = d.get g :=
    fun g sel mode dwell event => (Device.get_setFlag_apart _ _ g _ (by decide) event).trans <|
      (Device.startSlew_get _ mode dwell).trans (d.get_put_apart _ g _ (by decide) sel)
  have shown : ∀ g : Fld, g.quiet = true → (d.switchRef x).get g = (d.toRef x).get g := fun g quiet =>
    (d.toRef x).get_raise _ _ _ quiet
  refine ⟨(shown _ (by decide)).trans ?_, (shown _ (by decide)).trans ?_, (shown _ (by decide)).trans ?_,
    (shown _ (by decide)).trans ?_, ?_, ?_, (d.steered_switchRef x).1⟩
  · refine (Device.get_setFlag_apart _ _ _ _ (by decide) (by decide)).trans ?_
    exact (Device.startSlew_get _ (by decide) (by decide)).trans (d.get_put_lt _ (by decide) hx)
  · exact (Device.get_setFlag_apart _ _ _ _ (by decide) (by decide)).trans (Device.startSlew_mode _)
  · exact (Device.get_setFlag_apart _ _ _ _ (by decide) (by decide)).trans (Device.startSlew_dwell _)
  · exact Device.get_setFlag_same _ _ _ (by decide) rfl
  · exact Device.fired_raise_of (d.retuned_toRef x).evc (d.retuned_toRef x).pwr
      (kept F.PWR_STAT_STATE (by decide) (by decide) (by decide) (by decide)) 8 (by decide) (by decide) _ _
  · exact Device.logged_raise_of (d.retuned_toRef x).sed (d.retuned_toRef x).rt
      (kept F.TXN_EPOCH_EPOCH (by decide) (by decide) (by decide) (by decide)) 8 (d.get F.CLK_STAT_SEL) (leBytes 1 x)
      (by omega) (by rw [length_leBytes]; decide)

/-! ### The arrival of a slew (R180) -/

theorem natAbs_near (x : Int) : x.natAbs < 430 ↔ |x| < 430 := by
  rw [Int.abs_eq_natAbs]
  omega

theorem Device.steered_slewArrive (goal : Int) : d.steered (d.slewArrive goal) :=
  .ite ((d.steered_put _ (by decide)).trans (.ite (Device.steered_puti _ _ (by decide)) (.refl _))) (.refl d)

/-- A slew towards another reference than the crystal arrives within 0.1 ppm, and leaves the trim where it is. -/
theorem Device.slewArrive_shows {d : Device} (sel : d.get F.CLK_STAT_SEL ≠ 0) (mode : d.get F.CLK_STAT_MODE = 3)
    (goal : Int) : (d.slewArrive goal).geti F.CLK_TRIM_TRIM = d.geti F.CLK_TRIM_TRIM ∧
      (d.slewArrive goal).get F.CLK_STAT_MODE = if |d.geti F.CLK_TRIM_TRIM - goal| < 430 then 1 else 3 := by
  have near := natAbs_near (d.geti F.CLK_TRIM_TRIM - goal)
  have other : ((d.setClkMode 1).refSel == 0) = false := by
    rw [Device.refSel, Device.setClkMode, Device.get_put_apart _ _ _ _ (by decide) (by decide)]
    exact beq_false_of_ne sel
  unfold Device.slewArrive
  by_cases h : |d.geti F.CLK_TRIM_TRIM - goal| < 430
  · simp only [if_pos (near.2 h), if_pos h, other]
    exact ⟨Device.geti_congr (Device.get_put_apart _ _ _ _ (by decide) (by decide)) rfl,
      Device.get_put_lt _ _ (by decide) (by decide)⟩
  · rw [if_neg (mt near.1 h), if_neg h]
    exact ⟨rfl, mode⟩

end Sys2Proof.Machine
end

section
/-! PROOFS. The selection of the reference (O29; R177 to R181). -/

namespace Sys2Proof.Machine

/-! ### Arithmetic of the trim -/

/-- A trim that moves toward a goal within the limits stays within them (R165). -/
theorem moveToward_within {most t goal limit : Int} (start : |t| ≤ limit) (least : 0 ≤ most) (aim : |goal| ≤ limit) :
    |moveToward most t goal| ≤ limit := by
  rw [abs_le] at *
  unfold moveToward
  omega

theorem clampTrim_within (t : Int) : |clampTrim t| ≤ 4294967 := by
  rw [abs_le, clampTrim, trimLimit]
  omega

theorem Device.trimGoal_within (d : Device) (follow : Int) : |d.trimGoal follow| ≤ 4294967 := by
  unfold Device.trimGoal
  split
  · decide
  · exact clampTrim_within follow

theorem Device.trimGoal_eq (d : Device) (follow : Int) : d.trimGoal follow =
    if d.get F.CLK_STAT_SEL = 0 then 0 else max (-4294967) (min 4294967 follow) := by
  simp only [Device.trimGoal, Device.refSel, beq_iff_eq, clampTrim, trimLimit]

/-- TRIM can hold every trim within the limits. -/
theorem Device.geti_trim (d : Device) {t : Int} (h : |t| ≤ 4294967) : (d.puti F.CLK_TRIM_TRIM t).geti F.CLK_TRIM_TRIM = t := by
  rw [abs_le] at h
  refine d.geti_puti_same _ rfl (by decide) ?_ ?_ <;> norm_num [F.CLK_TRIM_TRIM] <;> omega

/-! ### The candidate (R177, R179) -/

theorem Device.available_iff (d : Device) {x : Nat} (hx : x ≠ 1) : d.available x = true ↔
    if x = 0 then d.get F.CLK_STAT_XTAL_OK = 1 else d.get F.CLK_STAT_IN_AV = 1 := by
  unfold Device.available
  split
  · exact d.flag_eq_true_iff rfl
  · exact absurd rfl hx
  · rename_i no _
    rw [if_neg no]
    exact d.flag_eq_true_iff rfl

theorem Device.available_eq (d : Device) {x : Nat} (hx : x ≠ 1) : d.available x =
    decide (if x = 0 then d.get F.CLK_STAT_XTAL_OK = 1 else d.get F.CLK_STAT_IN_AV = 1) := by
  rw [Bool.eq_iff_iff, decide_eq_true_iff, d.available_iff hx]

/-- The candidate beside the held source, found by any test that says of each source but RING whether it is available. -/
theorem Device.candidate_eq (d : Device) (sel : Nat) {up : Nat → Bool} (h : ∀ y, y ≠ 1 → d.available y = up y) :
    (d.candidate fun s => s != sel) = d.refList.find? fun y => y != 1 && y != sel && up y := by
  unfold Device.candidate
  refine congrArg (List.find? · d.refList) (funext fun y => ?_)
  by_cases ring : y = 1
  · simp [ring]
  · rw [h y ring, Bool.and_right_comm]

theorem Device.refList_lt (d : Device) {x : Nat} (h : x ∈ d.refList) : x < 4 := by
  have p0 : d.get F.CLK_REF_CFG_P0 < 2 ^ 2 := d.get_lt_pow _
  have p1 : d.get F.CLK_REF_CFG_P1 < 2 ^ 2 := d.get_lt_pow _
  have p2 : d.get F.CLK_REF_CFG_P2 < 2 ^ 2 := d.get_lt_pow _
  simp only [Device.refList, List.mem_cons, List.not_mem_nil, or_false] at h
  omega

theorem Device.dwellExpire_due {d : Device} (runs : d.dpllRuns = true) (free : d.clk.ringSlave = false)
    (mode : d.get F.CLK_STAT_MODE = 2) (left : d.get F.CLK_STAT_DWELL_LEFT = 0) :
    d.dwellExpire = d.switchRef ((d.candidate fun s => s != d.refSel).getD 0) := by
  simp [Device.dwellExpire, Device.clkMode, runs, free, mode, left]

theorem Device.dwellExpire_waits {d : Device} (h : d.get F.CLK_STAT_MODE ≠ 2 ∨ d.get F.CLK_STAT_DWELL_LEFT ≠ 0) :
    d.dwellExpire = d := by
  refine if_neg fun due => ?_
  simp only [Device.clkMode, Bool.and_eq_true, beq_iff_eq] at due
  obtain ⟨⟨-, mode⟩, left⟩ := due
  exact h.elim (· mode) (· left)

/-! ### The return to a higher entry (R181) -/

/-- The entry at the head of the list that is not the held source has been available long enough: it is returned to. -/
theorem Device.refRevert_first {d : Device} (runs : d.dpllRuns = true) (free : d.clk.ringSlave = false)
    (revert : d.get F.CLK_REF_CFG_REVERT = 1) (mode : d.get F.CLK_STAT_MODE ≠ 0)
    (other : d.get F.CLK_REF_CFG_P0 ≠ d.get F.CLK_STAT_SEL) (ring : d.get F.CLK_REF_CFG_P0 ≠ 1)
    (long : d.get F.CLK_MON_CFG_RETURN ≤ d.clk.availRun.toList.getD (d.get F.CLK_REF_CFG_P0) 0) :
    d.refRevert = d.switchRef (d.get F.CLK_REF_CFG_P0) := by
  have on : d.flag F.CLK_REF_CFG_REVERT = true := (d.flag_eq_true_iff rfl).2 revert
  have above : d.listedAbove.find? (fun s => s != 1 &&
      decide (d.get F.CLK_MON_CFG_RETURN ≤ d.clk.availRun.toList.getD s 0)) = some (d.get F.CLK_REF_CFG_P0) := by
    rw [Device.listedAbove, Device.refList, List.takeWhile_cons_of_pos (by simpa [Device.refSel] using other)]
    exact List.find?_cons_of_pos (by simpa [ring] using long)
  unfold Device.refRevert
  rw [if_neg (by simp [runs, free, on, Device.clkMode, mode]), above]

theorem Device.refRevert_off {d : Device} (off : d.get F.CLK_REF_CFG_REVERT = 0) : d.refRevert = d :=
  if_pos (by simp [d.flag_eq_false_iff.2 off])

/-! ### A slew between gate ends (R180) -/

theorem Device.slewComplete_waits {d : Device} {target : Int} {ms : Nat} (h : d.get F.CLK_STAT_MODE ≠ 3 ∨
    430 ≤ |d.slewAfter (d.trimGoal target) ms - d.trimGoal target|) : d.slewComplete target ms = d := by
  refine if_neg fun due => ?_
  simp only [Device.clkMode, Bool.and_eq_true, beq_iff_eq, decide_eq_true_eq, natAbs_near] at due
  obtain ⟨⟨-, mode⟩, near⟩ := due
  exact h.elim (· mode) (not_le.2 near)

theorem Device.slewAfter_within {d : Device} {goal : Int} (start : |d.geti F.CLK_TRIM_TRIM| ≤ 4294967)
    (aim : |goal| ≤ 4294967) (ms : Nat) : |d.slewAfter goal ms| ≤ 4294967 :=
  moveToward_within start (by omega) aim

/-- A slew that comes near its goal between gate ends arrives: TRACK, and on the crystal a trim of 0. -/
theorem Device.slewComplete_arrives {d : Device} {target : Int} {ms : Nat} (runs : d.dpllRuns = true)
    (mode : d.get F.CLK_STAT_MODE = 3) (start : |d.geti F.CLK_TRIM_TRIM| ≤ 4294967)
    (near : |d.slewAfter (d.trimGoal target) ms - d.trimGoal target| < 430) : let e := d.slewComplete target ms
    e.get F.CLK_STAT_MODE = 1 ∧ e.geti F.CLK_TRIM_TRIM = (if d.get F.CLK_STAT_SEL = 0 then 0
      else d.slewAfter (d.trimGoal target) ms) ∧ e = { d with regs := e.regs } := by
  have reached := d.geti_trim (d.slewAfter_within start (d.trimGoal_within target) ms)
  have due : d.slewComplete target ms =
      (d.puti F.CLK_TRIM_TRIM (d.slewAfter (d.trimGoal target) ms)).slewArrive (d.trimGoal target) :=
    if_pos (by simp [Device.clkMode, runs, mode, natAbs_near, near])
  have sel : ((d.puti F.CLK_TRIM_TRIM (d.slewAfter (d.trimGoal target) ms)).setClkMode 1).refSel =
      d.get F.CLK_STAT_SEL :=
    (Device.get_put_apart _ _ _ _ (by decide) (by decide)).trans (d.get_puti_apart _ _ _ (by decide) (by decide))
  have arrived := Device.get_put_lt (d.puti F.CLK_TRIM_TRIM (d.slewAfter (d.trimGoal target) ms)) F.CLK_STAT_MODE
    (v := 1) (by decide) (by decide)
  simp only [due, Device.slewArrive, reached, if_pos ((natAbs_near _).2 near), sel, beq_iff_eq]
  split
  · refine ⟨(Device.get_puti_apart _ _ _ _ (by decide) (by decide)).trans arrived, Device.geti_trim _ (by decide), ?_⟩
    iterate 3 refine Device.put_of_regs ?_ _ _
    rfl
  · refine ⟨arrived, (Device.geti_congr (Device.get_put_apart _ _ _ _ (by decide) (by decide)) rfl).trans reached, ?_⟩
    iterate 2 refine Device.put_of_regs ?_ _ _
    rfl

/-! ### A reference that is absent (R178) -/

theorem Device.refAbsent_gone {d : Device} (free : d.clk.ringSlave = false)
    (gone : (if d.get F.CLK_STAT_SEL = 1 then d.ringPresent else d.inputPresent) = false) :
    d.refAbsent = d.loseReference := by
  refine if_pos ?_
  simp only [Device.refGone, Device.refSel, beq_iff_eq, free, Bool.not_false, Bool.true_and]
  split at gone <;> simp [*]

theorem Device.refAbsent_xtal {d : Device} (sel : d.get F.CLK_STAT_SEL = 0) : d.refAbsent = d := by
  unfold Device.refAbsent
  split
  · exact Device.loseReference_xtal sel
  · rfl

theorem exec_slewComplete (s : State) (target : Int) (ms : Nat) :
    exec (.slewComplete target ms) s = s.on fun d => d.slewComplete target ms := rfl

/-- Settles O29, command by command: what each does of the selection where it acts, and that it leaves the device as it is
where it does not. -/
theorem referenceSelection : Obligations.ReferenceSelection := by
  unfold Obligations.ReferenceSelection
  intro s target ms runs free
  dsimp only
  have goal := s.dev.trimGoal_eq target
  refine ⟨fun sel gone mode => ?absent, fun sel => State.on_eq_self (Device.refAbsent_xtal sel),
    fun mode left => ⟨fun x found => ?candidate, fun none => ?crystal⟩,
    fun h => State.on_eq_self (Device.dwellExpire_waits h),
    fun revert mode x first other kind long => ?revert, fun off => State.on_eq_self (Device.refRevert_off off),
    fun mode start near => ?arrives, fun h => ?waits⟩
  case absent =>
    refine State.completes_eq (f := Device.refAbsent) rfl
      ((Device.refAbsent_gone free gone).trans (Device.loseReference_holds runs sel mode)) ?_
    obtain ⟨held, same, dwell, tol, -⟩ := s.dev.holdTrim_shows (mode := 2) (by decide) (s.dev.clkMode != 3)
    exact ⟨held, same, dwell, tol, Device.holdTrim_fired (Device.retuned.refl _) rfl _ _, (s.dev.steered_holdTrim _ _).1⟩
  case candidate =>
    have choice := (s.dev.candidate_eq s.dev.refSel fun _ => s.dev.available_eq).trans found
    refine State.completes_eq (f := Device.dwellExpire) rfl (Device.dwellExpire_due runs free mode left) ?_
    rw [choice, Option.getD_some]
    exact s.dev.switchRef_switched (s.dev.refList_lt (List.mem_of_find?_eq_some found))
  case crystal =>
    have choice := (s.dev.candidate_eq s.dev.refSel fun _ => s.dev.available_eq).trans none
    refine State.completes_eq (f := Device.dwellExpire) rfl (Device.dwellExpire_due runs free mode left) ?_
    rw [choice, Option.getD_none]
    exact s.dev.switchRef_switched (by decide)
  case revert =>
    subst first
    refine State.completes_eq (f := Device.refRevert) rfl
      (Device.refRevert_first runs free revert mode other (by omega) long) ?_
    exact s.dev.switchRef_switched (by omega)
  case arrives =>
    rw [← goal] at near ⊢
    exact State.on_completes (exec_slewComplete s target ms) (Device.slewComplete_arrives runs mode start near)
  case waits =>
    rw [← goal] at h
    exact State.on_eq_self (f := fun d => d.slewComplete target ms) (Device.slewComplete_waits h)

end Sys2Proof.Machine
end

section
/-! PROOFS. The end of a gate (O28; R175 to R184, R191). -/

namespace Sys2Proof.Machine

/-! ### What a gate measures (R175) -/

/-- The fields that a gate measures. -/
def gateFields : List Fld := [F.CLK_DEV_RING_DEV, F.CLK_DEV_RING_VALID, F.CLK_DEV_IN_DEV, F.CLK_DEV_IN_VALID,
  F.CLK_STAT_RING_AV, F.CLK_STAT_IN_AV]

section Written

variable (d : Device) {dev valid : Fld}

theorem Device.writeDeviation_get (v : Option Int) {g : Fld} (fd : dev.fits = true) (fv : valid.fits = true)
    (hd : dev.apart g = true) (hv : valid.apart g = true) : (d.writeDeviation dev valid v).get g = d.get g := by
  unfold Device.writeDeviation
  split
  · split
    · exact (Device.get_setFlag_apart _ _ _ _ fv hv).trans (d.get_puti_apart _ _ _ fd hd)
    · exact (Device.get_setFlag_apart _ _ _ _ fv hv).trans (Device.get_put_apart _ _ _ _ fd hd)
  · exact d.get_setFlag_apart _ _ _ fv hv

theorem Device.retuned_writeDeviation (v : Option Int) : d.retuned (d.writeDeviation dev valid v) := by
  unfold Device.writeDeviation
  split
  · split
    · exact (d.retuned_put _ _).trans (Device.retuned_put _ _ _)
    · exact ((d.retuned_with _ rfl rfl rfl).trans (Device.retuned_put _ _ _)).trans (Device.retuned_put _ _ _)
  · exact d.retuned_put _ _

/-- A deviation that DEV can hold reads as it was measured. -/
theorem Device.writeDeviation_shows {v : Int} (lo : -2 ^ 15 ≤ v) (hi : v < 2 ^ 15) (fd : dev.fits = true)
    (fv : valid.fits = true) (wide : dev.width = 16) (bit : valid.width = 1) (apart : valid.apart dev = true) :
    (d.writeDeviation dev valid (some v)).geti dev = v ∧ (d.writeDeviation dev valid (some v)).get valid = 1 := by
  have held : d.writeDeviation dev valid (some v) = (d.puti dev v).setFlag valid true := if_pos ⟨by omega, by omega⟩
  rw [held]
  refine ⟨?_, Device.get_setFlag_same _ _ _ fv bit⟩
  refine (Device.geti_congr (Device.get_setFlag_apart _ _ _ _ fv apart) rfl).trans ?_
  refine d.geti_puti_same dev fd (by omega) ?_ ?_ <;> rw [wide] <;> omega

end Written

theorem Device.get_with_clk (d : Device) (clk : Clk) (freshN : Nat) (g : Fld) :
    ({ d with clk := clk, freshN := freshN } : Device).get g = d.get g := rfl

theorem Device.retuned_availRun (d : Device) (runs : Vector Nat 3) : d.retuned { d with clk.availRun := runs } :=
  d.retuned_with d.freshN rfl rfl rfl

theorem Device.retuned_rememberTrims (d : Device) : d.retuned d.rememberTrims := d.retuned_with d.freshN rfl rfl rfl

/-- The device with the deviations of this gate. -/
def Device.gateDeviations (d : Device) (ring inp : Option Int) : Device :=
  (d.writeDeviation F.CLK_DEV_RING_DEV F.CLK_DEV_RING_VALID (if d.ringPresent then ring else none)).writeDeviation
    F.CLK_DEV_IN_DEV F.CLK_DEV_IN_VALID (if d.inputPresent then inp else none)

/-- The device with all that the gate measures: the deviations and which source is available, now and how long. -/
def Device.gateMeasured (d : Device) (ring inp : Option Int) : Device :=
  let x := d.gateDeviations ring inp
  let y := (x.setFlag F.CLK_STAT_RING_AV (x.inTolerance 1)).setFlag F.CLK_STAT_IN_AV (x.inTolerance 2)
  { y with
    clk.availRun := Vector.ofFn fun i : Fin 3 =>
      if #v[true, x.inTolerance 1, x.inTolerance 2][i] then y.clk.availRun[i] + 1 else 0 }

section Measured

variable {d : Device} {ring inp : Option Int} {v : Int}

theorem Device.gateDeviations_get {g : Fld} (apart : ∀ f ∈ gateFields, f.apart g = true) :
    (d.gateDeviations ring inp).get g = d.get g :=
  (Device.writeDeviation_get _ _ (by decide) (by decide) (apart F.CLK_DEV_IN_DEV (by decide))
    (apart F.CLK_DEV_IN_VALID (by decide))).trans <|
      d.writeDeviation_get _ (by decide) (by decide) (apart F.CLK_DEV_RING_DEV (by decide))
        (apart F.CLK_DEV_RING_VALID (by decide))

/-- Availability is written beside the deviations. -/
theorem Device.gateMeasured_keeps {g : Fld} (ringAv : F.CLK_STAT_RING_AV.apart g = true)
    (inAv : F.CLK_STAT_IN_AV.apart g = true) : (d.gateMeasured ring inp).get g = (d.gateDeviations ring inp).get g :=
  (Device.get_with_clk _ _ _ g).trans <|
    (Device.get_setFlag_apart _ _ g _ (by decide) inAv).trans (Device.get_setFlag_apart _ _ g _ (by decide) ringAv)

theorem Device.gateMeasured_get {g : Fld} (apart : ∀ f ∈ gateFields, f.apart g = true) :
    (d.gateMeasured ring inp).get g = d.get g :=
  (Device.gateMeasured_keeps (apart F.CLK_STAT_RING_AV (by decide)) (apart F.CLK_STAT_IN_AV (by decide))).trans
    (Device.gateDeviations_get apart)

theorem Device.retuned_gateMeasured : d.retuned (d.gateMeasured ring inp) := by
  refine Device.retuned.trans ?_ (Device.retuned_availRun _ _)
  refine Device.retuned.trans ?_ (Device.retuned_put _ _ _)
  refine Device.retuned.trans ?_ (Device.retuned_put _ _ _)
  exact (d.retuned_writeDeviation _).trans (Device.retuned_writeDeviation _ _)

theorem Device.gateMeasured_ringAv : (d.gateMeasured ring inp).get F.CLK_STAT_RING_AV =
    ((d.gateDeviations ring inp).inTolerance 1).toNat :=
  ((Device.get_with_clk _ _ _ _).trans
    (Device.get_setFlag_apart _ F.CLK_STAT_IN_AV F.CLK_STAT_RING_AV _ (by decide) (by decide))).trans
    (Device.get_setFlag_same _ _ _ (by decide) rfl)

theorem Device.gateMeasured_inAv : (d.gateMeasured ring inp).get F.CLK_STAT_IN_AV =
    ((d.gateDeviations ring inp).inTolerance 2).toNat :=
  (Device.get_with_clk _ _ _ _).trans (Device.get_setFlag_same _ _ _ (by decide) rfl)

/-- RING that was present reads its deviation. -/
theorem Device.gateDeviations_ring (lo : -2 ^ 15 ≤ v) (hi : v < 2 ^ 15) (present : d.ringPresent = true) :
    (d.gateDeviations (some v) inp).geti F.CLK_DEV_RING_DEV = v ∧
      (d.gateDeviations (some v) inp).get F.CLK_DEV_RING_VALID = 1 := by
  obtain ⟨dev, valid⟩ := d.writeDeviation_shows (dev := F.CLK_DEV_RING_DEV) (valid := F.CLK_DEV_RING_VALID) lo hi
    (by decide) (by decide) rfl rfl (by decide)
  rw [Device.gateDeviations, if_pos present]
  exact ⟨(Device.geti_congr (Device.writeDeviation_get _ _ (by decide) (by decide) (by decide) (by decide)) rfl).trans dev,
    (Device.writeDeviation_get _ _ (by decide) (by decide) (by decide) (by decide)).trans valid⟩

/-- RING that was absent has no deviation. -/
theorem Device.gateDeviations_noRing (absent : d.ringPresent = false) :
    (d.gateDeviations ring inp).get F.CLK_DEV_RING_VALID = 0 := by
  rw [Device.gateDeviations, absent]
  exact (Device.writeDeviation_get _ _ (by decide) (by decide) (by decide) (by decide)).trans
    (d.get_setFlag_same _ false (by decide) rfl)

/-- INPUT that was present reads its deviation. -/
theorem Device.gateDeviations_input (lo : -2 ^ 15 ≤ v) (hi : v < 2 ^ 15) (present : d.inputPresent = true) :
    (d.gateDeviations ring (some v)).geti F.CLK_DEV_IN_DEV = v ∧
      (d.gateDeviations ring (some v)).get F.CLK_DEV_IN_VALID = 1 := by
  rw [Device.gateDeviations, if_pos present]
  exact Device.writeDeviation_shows _ lo hi (by decide) (by decide) rfl rfl (by decide)

theorem Device.deviation_ring {x : Device} (h : x.geti F.CLK_DEV_RING_DEV = v ∧ x.get F.CLK_DEV_RING_VALID = 1) :
    x.deviation 1 = some v := by
  simp [Device.deviation, Device.flag, h]

theorem Device.deviation_input {x : Device} (h : x.geti F.CLK_DEV_IN_DEV = v ∧ x.get F.CLK_DEV_IN_VALID = 1) :
    x.deviation 2 = some v := by
  simp [Device.deviation, Device.flag, h]

theorem Device.deviation_congr {x y : Device} (ringDev : y.get F.CLK_DEV_RING_DEV = x.get F.CLK_DEV_RING_DEV)
    (ringValid : y.get F.CLK_DEV_RING_VALID = x.get F.CLK_DEV_RING_VALID)
    (inDev : y.get F.CLK_DEV_IN_DEV = x.get F.CLK_DEV_IN_DEV)
    (inValid : y.get F.CLK_DEV_IN_VALID = x.get F.CLK_DEV_IN_VALID) (src : Nat) : y.deviation src = x.deviation src := by
  unfold Device.deviation Device.flag
  rw [ringValid, inValid, Device.geti_congr ringDev rfl, Device.geti_congr inDev rfl]

end Measured

/-! ### Tolerance (R176) -/

/-- The deviation `v` of a source is within the window, 10 ppm tighter while the source is held. -/
def Device.near (d : Device) (src : Nat) (v : Int) : Prop :=
  |v| ≤ (if d.get F.CLK_STAT_SEL = src ∧ (d.get F.CLK_STAT_MODE = 2 ∨ d.get F.CLK_STAT_MODE = 4)
    then (d.get F.CLK_MON_CFG_WIN : Int) - 10 else d.get F.CLK_MON_CFG_WIN) * 10

/-- The device `x` has the deviation `v` of a source, and selects and judges as `d` does. -/
structure Device.gated (d x : Device) (src : Nat) (v : Int) : Prop where
  retuned : d.retuned x
  deviation : x.deviation src = some v
  sel : x.get F.CLK_STAT_SEL = d.get F.CLK_STAT_SEL
  mode : x.get F.CLK_STAT_MODE = d.get F.CLK_STAT_MODE
  left : x.get F.CLK_STAT_DWELL_LEFT = d.get F.CLK_STAT_DWELL_LEFT
  win : x.get F.CLK_MON_CFG_WIN = d.get F.CLK_MON_CFG_WIN
  dwell : x.get F.CLK_MON_CFG_DWELL = d.get F.CLK_MON_CFG_DWELL
  state : x.get F.PWR_STAT_STATE = d.get F.PWR_STAT_STATE

theorem Device.gated.inTolerance_iff {d x : Device} {src : Nat} {v : Int} (h : d.gated x src v) :
    x.inTolerance src = true ↔ d.near src v := by
  unfold Device.inTolerance Device.near
  rw [h.deviation]
  simp only [Device.refSel, Device.clkMode, h.sel, h.mode, h.win, decide_eq_true_eq, Bool.and_eq_true, Bool.or_eq_true,
    beq_iff_eq, Int.abs_eq_natAbs]

theorem Device.gated_deviations {d : Device} {ring inp : Option Int} {src : Nat} {v : Int}
    (h : (d.gateDeviations ring inp).deviation src = some v) : d.gated (d.gateDeviations ring inp) src v where
  retuned := (d.retuned_writeDeviation _).trans (Device.retuned_writeDeviation _ _)
  deviation := h
  sel := Device.gateDeviations_get (by decide)
  mode := Device.gateDeviations_get (by decide)
  left := Device.gateDeviations_get (by decide)
  win := Device.gateDeviations_get (by decide)
  dwell := Device.gateDeviations_get (by decide)
  state := Device.gateDeviations_get (by decide)

/-! ### The trim at a gate end (R165, R180, R183) -/

/-- The device with what the gate measures and the trim that the DPLL has reached. -/
def Device.gateTrimmed (d : Device) (ring inp : Option Int) (follow : Int) : Device :=
  ((d.gateMeasured ring inp).gateTrim follow).rememberTrims

section Trimmed

variable {d : Device}

theorem Device.gateTrim_cases (follow : Int) : d.gateTrim follow = d ∨ ∃ t, d.gateTrim follow = d.puti F.CLK_TRIM_TRIM t := by
  unfold Device.gateTrim
  repeat' split
  · exact .inr ⟨_, rfl⟩
  · exact .inr ⟨_, rfl⟩
  · exact .inr ⟨_, rfl⟩
  · exact .inl rfl

theorem Device.steered_gateTrim (follow : Int) : d.steered (d.gateTrim follow) := by
  obtain eq | ⟨t, eq⟩ := d.gateTrim_cases follow <;> rw [eq]
  · exact .refl d
  · exact d.steered_puti t (by decide)

theorem Device.gateTrim_get (follow : Int) {g : Fld} (h : F.CLK_TRIM_TRIM.apart g = true) :
    (d.gateTrim follow).get g = d.get g := by
  obtain eq | ⟨t, eq⟩ := d.gateTrim_cases follow <;> rw [eq]
  exact d.get_puti_apart _ g t (by decide) h

theorem Device.retuned_gateTrim (follow : Int) : d.retuned (d.gateTrim follow) := by
  obtain eq | ⟨t, eq⟩ := d.gateTrim_cases follow <;> rw [eq]
  · exact .refl d
  · exact d.retuned_put _ _

/-- In TRACK the trim follows the reference. -/
theorem Device.gateTrim_track (mode : d.get F.CLK_STAT_MODE = 1) (follow : Int) :
    (d.gateTrim follow).geti F.CLK_TRIM_TRIM = d.trimGoal follow := by
  have moved : d.gateTrim follow = d.puti F.CLK_TRIM_TRIM (d.trimGoal follow) := by
    simp [Device.gateTrim, Device.clkMode, mode]
  rw [moved, d.geti_trim (d.trimGoal_within follow)]

/-- In ACQUIRE the trim moves at 1000 ppm per second. -/
theorem Device.gateTrim_acquire (mode : d.get F.CLK_STAT_MODE = 5) (start : |d.geti F.CLK_TRIM_TRIM| ≤ 4294967)
    (follow : Int) : (d.gateTrim follow).geti F.CLK_TRIM_TRIM =
      moveToward acquirePerGate (d.geti F.CLK_TRIM_TRIM) (d.trimGoal follow) := by
  have moved : d.gateTrim follow =
      d.puti F.CLK_TRIM_TRIM (moveToward acquirePerGate (d.geti F.CLK_TRIM_TRIM) (d.trimGoal follow)) := by
    simp [Device.gateTrim, Device.clkMode, mode]
  rw [moved, d.geti_trim (moveToward_within start (by decide) (d.trimGoal_within follow))]

/-- In a slew the trim moves at 20 ppm per second. -/
theorem Device.gateTrim_slew (mode : d.get F.CLK_STAT_MODE = 3) (start : |d.geti F.CLK_TRIM_TRIM| ≤ 4294967)
    (follow : Int) : (d.gateTrim follow).geti F.CLK_TRIM_TRIM =
      moveToward slewPerGate (d.geti F.CLK_TRIM_TRIM) (d.trimGoal follow) := by
  have moved : d.gateTrim follow =
      d.puti F.CLK_TRIM_TRIM (moveToward slewPerGate (d.geti F.CLK_TRIM_TRIM) (d.trimGoal follow)) := by
    simp [Device.gateTrim, Device.clkMode, mode]
  rw [moved, d.geti_trim (moveToward_within start (by decide) (d.trimGoal_within follow))]

/-- In HOLDOVER the trim is frozen. -/
theorem Device.gateTrim_frozen (mode : d.get F.CLK_STAT_MODE = 2) (follow : Int) : d.gateTrim follow = d := by
  simp [Device.gateTrim, Device.clkMode, mode]

variable {ring inp : Option Int}

theorem Device.gateTrimmed_keeps (follow : Int) {g : Fld} (trim : F.CLK_TRIM_TRIM.apart g = true)
    (ringAv : F.CLK_STAT_RING_AV.apart g = true) (inAv : F.CLK_STAT_IN_AV.apart g = true) :
    (d.gateTrimmed ring inp follow).get g = (d.gateDeviations ring inp).get g :=
  ((Device.get_with_clk _ _ _ g).trans (Device.gateTrim_get follow trim)).trans (Device.gateMeasured_keeps ringAv inAv)

theorem Device.gateTrimmed_get (follow : Int) {g : Fld} (trim : F.CLK_TRIM_TRIM.apart g = true)
    (apart : ∀ f ∈ gateFields, f.apart g = true) : (d.gateTrimmed ring inp follow).get g = d.get g :=
  ((Device.get_with_clk _ _ _ g).trans (Device.gateTrim_get follow trim)).trans (Device.gateMeasured_get apart)

theorem Device.retuned_gateTrimmed (follow : Int) : d.retuned (d.gateTrimmed ring inp follow) :=
  (Device.retuned_gateMeasured.trans (Device.retuned_gateTrim follow)).trans (Device.retuned_rememberTrims _)

theorem Device.gated_trimmed {src : Nat} {v : Int} (h : (d.gateDeviations ring inp).deviation src = some v) (follow : Int) :
    d.gated (d.gateTrimmed ring inp follow) src v where
  retuned := Device.retuned_gateTrimmed follow
  deviation := (Device.deviation_congr
    (Device.gateTrimmed_keeps follow (by decide) (by decide) (by decide))
    (Device.gateTrimmed_keeps follow (by decide) (by decide) (by decide))
    (Device.gateTrimmed_keeps follow (by decide) (by decide) (by decide))
    (Device.gateTrimmed_keeps follow (by decide) (by decide) (by decide)) src).trans h
  sel := Device.gateTrimmed_get follow (by decide) (by decide)
  mode := Device.gateTrimmed_get follow (by decide) (by decide)
  left := Device.gateTrimmed_get follow (by decide) (by decide)
  win := Device.gateTrimmed_get follow (by decide) (by decide)
  dwell := Device.gateTrimmed_get follow (by decide) (by decide)
  state := Device.gateTrimmed_get follow (by decide) (by decide)

theorem Device.gateMeasured_trim : (d.gateMeasured ring inp).geti F.CLK_TRIM_TRIM = d.geti F.CLK_TRIM_TRIM :=
  Device.geti_congr (Device.gateMeasured_get (by decide)) rfl

theorem Device.gateMeasured_mode : (d.gateMeasured ring inp).get F.CLK_STAT_MODE = d.get F.CLK_STAT_MODE :=
  Device.gateMeasured_get (by decide)

theorem Device.gateMeasured_goal (sel : d.get F.CLK_STAT_SEL ≠ 0) (follow : Int) :
    (d.gateMeasured ring inp).trimGoal follow = max (-4294967) (min 4294967 follow) := by
  rw [Device.trimGoal_eq, if_neg]
  rwa [Device.gateMeasured_get (by decide)]

end Trimmed

/-! ### The reference at a gate end (R178, R179, R184) -/

section Reference

variable {d : Device}

/-- The end of a gate for the reference, outside limp. -/
def Device.gateReference (d : Device) (follow : Int) : Device :=
  let t := (d.gateTrim follow).rememberTrims
  let u := if t.clkMode == 0 then (t.setClkMode 1).puti F.CLK_TRIM_TRIM 0 else t
  let r := if u.clk.ringSlave then u.gateSlave else u.gateFree
  if d.clkMode == 3 && r.clkMode == 3 && r.refSel == d.refSel then r.slewArrive (d.trimGoal follow) else r

/-- A gate ends with its measurements and, outside limp, with the reference. -/
theorem Device.gateEnd_eq (runs : d.linkRuns = true) (xtal : d.flag F.CLK_STAT_XTAL_OK = true) (ring inp : Option Int)
    (follow : Int) : d.gateEnd ring inp follow = if (d.gateMeasured ring inp).limp then d.gateMeasured ring inp
      else (d.gateMeasured ring inp).gateReference follow :=
  if_neg (by simp [runs, xtal])

theorem Device.judgeList_spent (h : d.clk.cfgChanged = false) : d.judgeList = d := if_pos (by rw [h]; rfl)

theorem Device.steered_judgeList : d.steered d.judgeList := by
  have spent := d.steered_with { d.clk with cfgChanged := false } d.freshN
  unfold Device.judgeList
  split
  · exact .refl d
  · dsimp only
    split
    · exact .ite spent (spent.trans (Device.steered_switchRef _ _))
    · exact spent

theorem Device.steered_gateSlave (d : Device) : d.steered d.gateSlave := by
  have spent := d.steered_with { d.clk with cfgChanged := false } d.freshN
  unfold Device.gateSlave
  refine .ite ?_ (.ite ?_ spent)
  · exact (spent.trans (Device.steered_holdTrim _ _ _)).trans (Device.steered_with _ _ _)
  · exact (spent.trans (Device.steered_put _ _ (by decide))).trans (Device.steered_with _ _ _)

theorem Device.steered_gateFree (d : Device) : d.steered d.gateFree := by
  refine Device.steered.trans (.ite (.refl d) (.ite (.ite ?_ (.refl d)) (.ite ?_ ?_))) Device.steered_judgeList
  · exact d.steered_startSlew
  · exact d.steered_put _ (by decide)
  · exact d.steered_loseReference

theorem Device.steered_gateReference (follow : Int) : d.steered (d.gateReference follow) := by
  have trimmed : d.steered (d.gateTrim follow).rememberTrims :=
    (Device.steered_gateTrim follow).trans (Device.steered_with _ _ _)
  have locked := Device.steered.ite (p := ((d.gateTrim follow).rememberTrims.clkMode == 0) = true)
    ((trimmed.trans (Device.steered_put _ 1 (f := F.CLK_STAT_MODE) (by decide))).trans
      (Device.steered_puti _ 0 (f := F.CLK_TRIM_TRIM) (by decide))) trimmed
  have judged := fun x : Device => Device.steered.ite (p := x.clk.ringSlave = true) x.steered_gateSlave x.steered_gateFree
  exact .ite ((locked.trans (judged _)).trans (Device.steered_slewArrive _ _)) (locked.trans (judged _))

/-- What a gate has measured stands at its end. -/
theorem Device.gateEnd_steered (runs : d.linkRuns = true) (xtal : d.flag F.CLK_STAT_XTAL_OK = true) (ring inp : Option Int)
    (follow : Int) : (d.gateMeasured ring inp).steered (d.gateEnd ring inp follow) := by
  rw [Device.gateEnd_eq runs xtal]
  exact .ite (.refl _) (Device.steered_gateReference follow)

/-- The PLL reference at a gate end on a free node with its list judged and a reference beside the crystal. -/
theorem Device.gateFree_eq (sel : d.get F.CLK_STAT_SEL ≠ 0) (listed : d.clk.cfgChanged = false) :
    d.gateFree = if d.inTolerance (d.get F.CLK_STAT_SEL) then if d.get F.CLK_STAT_MODE = 2 then d.startSlew else d
      else if d.get F.CLK_STAT_MODE = 2 then d.put F.CLK_STAT_DWELL_LEFT (d.get F.CLK_STAT_DWELL_LEFT - 1)
      else d.loseReference := by
  unfold Device.gateFree
  simp only [Device.clkMode, beq_iff_eq, Device.refSel, if_neg sel]
  refine Device.judgeList_spent ?_
  repeat' split
  · exact d.retuned_startSlew.listed.trans listed
  · exact listed
  · exact (d.retuned_put _ _).listed.trans listed
  · exact d.loseReference_listed.trans listed

variable {ring inp : Option Int} {follow : Int} (runs : d.linkRuns = true) (xtal : d.flag F.CLK_STAT_XTAL_OK = true)
  (limp : d.limp = false)
include runs xtal limp

theorem Device.gateEnd_unlimp : d.gateEnd ring inp follow = (d.gateMeasured ring inp).gateReference follow := by
  rw [Device.gateEnd_eq runs xtal, if_neg]
  rw [Device.limp, Device.gateMeasured_mode]
  exact ne_true_of_eq_false limp

/-- A gate ends outside LOCKING and a slew: the trim, and the judgement of the reference. -/
theorem Device.gateEnd_settled (locked : d.get F.CLK_STAT_MODE ≠ 0) (slew : d.get F.CLK_STAT_MODE ≠ 3) :
    d.gateEnd ring inp follow = if d.clk.ringSlave then (d.gateTrimmed ring inp follow).gateSlave
      else (d.gateTrimmed ring inp follow).gateFree := by
  have mode : (d.gateTrimmed ring inp follow).clkMode = d.get F.CLK_STAT_MODE :=
    Device.gateTrimmed_get follow (by decide) (by decide)
  have before : (d.gateMeasured ring inp).clkMode = d.get F.CLK_STAT_MODE := Device.gateMeasured_mode
  have role : (d.gateTrimmed ring inp follow).clk.ringSlave = d.clk.ringSlave :=
    (Device.retuned_gateTrimmed follow).slave
  rw [Device.gateEnd_unlimp runs xtal limp, Device.gateReference, ← Device.gateTrimmed]
  simp only [mode, before, role, beq_false_of_ne locked, beq_false_of_ne slew, Bool.false_and, Bool.false_eq_true, if_false]

/-- A gate ends in a slew: the trim, the judgement of the reference, and the arrival. -/
theorem Device.gateEnd_slewing (free : d.clk.ringSlave = false) (slew : d.get F.CLK_STAT_MODE = 3) :
    d.gateEnd ring inp follow = let r := (d.gateTrimmed ring inp follow).gateFree
      if r.clkMode == 3 && r.refSel == d.refSel then r.slewArrive ((d.gateMeasured ring inp).trimGoal follow) else r := by
  have mode : (d.gateTrimmed ring inp follow).clkMode = 3 :=
    (Device.gateTrimmed_get follow (by decide) (by decide)).trans slew
  have before : (d.gateMeasured ring inp).clkMode = 3 := Device.gateMeasured_mode.trans slew
  have sel : (d.gateMeasured ring inp).refSel = d.refSel := Device.gateMeasured_get (by decide)
  have role : (d.gateTrimmed ring inp follow).clk.ringSlave = false :=
    (Device.retuned_gateTrimmed follow).slave.trans free
  rw [Device.gateEnd_unlimp runs xtal limp, Device.gateReference, ← Device.gateTrimmed]
  simp only [mode, before, sel, role, beq_self_eq_true, Bool.true_and, Nat.reduceBEq, Bool.false_eq_true, if_false]

end Reference

end Sys2Proof.Machine
end

section
/-! PROOFS. The clauses of the end of a gate (O28). -/

namespace Sys2Proof.Machine

section Slave

variable {d : Device}

/-- A ring slave that RING_HOLD does not hold stays as it is in tolerance. -/
theorem Device.gateSlave_near (near : d.inTolerance 1 = true) (mode : d.get F.CLK_STAT_MODE ≠ 4) :
    d.gateSlave = { d with clk.cfgChanged := false } := by
  have judged : ({ d with clk.cfgChanged := false } : Device).inTolerance 1 = true := near
  have other : ({ d with clk.cfgChanged := false } : Device).clkMode ≠ 4 := mode
  simp [Device.gateSlave, judged, other]

/-- Out of tolerance a ring slave goes to RING_HOLD. -/
theorem Device.gateSlave_hold (far : d.inTolerance 1 = false) (mode : d.get F.CLK_STAT_MODE ≠ 4) :
    d.gateSlave.get F.CLK_STAT_MODE = 4 ∧ d.gateSlave.get F.CLK_STAT_SEL = d.get F.CLK_STAT_SEL := by
  have judged : ({ d with clk.cfgChanged := false } : Device).inTolerance 1 = false := far
  have other : ({ d with clk.cfgChanged := false } : Device).clkMode ≠ 4 := mode
  obtain ⟨held, sel, -⟩ := ({ d with clk.cfgChanged := false } : Device).holdTrim_shows (mode := 4) (by decide) true
  have eq : d.gateSlave = { ({ d with clk.cfgChanged := false } : Device).holdTrim 4 true with clk.steering := false } := by
    simp [Device.gateSlave, judged, other]
  rw [eq, Device.get_with_clk, Device.get_with_clk]
  exact ⟨held, sel⟩

/-- In tolerance again a ring slave leaves RING_HOLD. -/
theorem Device.gateSlave_back (near : d.inTolerance 1 = true) (mode : d.get F.CLK_STAT_MODE = 4) :
    d.gateSlave.get F.CLK_STAT_MODE = 1 := by
  have judged : ({ d with clk.cfgChanged := false } : Device).inTolerance 1 = true := near
  have held : ({ d with clk.cfgChanged := false } : Device).clkMode = 4 := mode
  have eq : d.gateSlave = { ({ d with clk.cfgChanged := false } : Device).setClkMode 1 with clk.steering := false } := by
    simp [Device.gateSlave, judged, held]
  rw [eq, Device.get_with_clk]
  exact Device.get_put_lt _ _ (by decide) (by decide)

end Slave

theorem exec_gateEnd (s : State) (ring inp : Option Int) (follow : Int) :
    exec (.gateEnd ring inp follow) s = s.on fun d => d.gateEnd ring inp follow := rfl

section Clauses

variable {d : Device} {ring inp : Option Int} {follow v : Int} (runs : d.linkRuns = true)
  (xtal : d.flag F.CLK_STAT_XTAL_OK = true)

theorem toNat_eq_one_iff {b : Bool} {p : Prop} (h : b = true ↔ p) : b.toNat = 1 ↔ p := by
  rw [← h, Bool.toNat_eq_one]

section Measures

include runs xtal

theorem Device.gateEnd_ring (lo : -2 ^ 15 ≤ v) (hi : v < 2 ^ 15) (present : d.ringPresent = true) :
    let e := d.gateEnd (some v) inp follow
    e.geti F.CLK_DEV_RING_DEV = v ∧ e.get F.CLK_DEV_RING_VALID = 1 ∧ (e.get F.CLK_STAT_RING_AV = 1 ↔ d.near 1 v) ∧
      e.mem = d.mem := by
  obtain ⟨mem, kept⟩ := Device.gateEnd_steered runs xtal (some v) inp follow
  have read := Device.gateDeviations_ring (inp := inp) lo hi present
  have judged := (Device.gated_deviations (Device.deviation_ring read)).inTolerance_iff
  refine ⟨?_, ?_, ?_, mem.trans Device.retuned_gateMeasured.mem⟩
  · refine (Device.geti_congr ((kept _ (by decide) (by decide)).trans ?_) rfl).trans read.1
    exact Device.gateMeasured_keeps (by decide) (by decide)
  · exact (kept _ (by decide) (by decide)).trans ((Device.gateMeasured_keeps (by decide) (by decide)).trans read.2)
  · rw [kept _ (by decide) (by decide), Device.gateMeasured_ringAv]
    exact toNat_eq_one_iff judged

theorem Device.gateEnd_noRing (absent : d.ringPresent = false) : let e := d.gateEnd ring inp follow
    e.get F.CLK_DEV_RING_VALID = 0 ∧ e.get F.CLK_STAT_RING_AV = 0 := by
  obtain ⟨-, kept⟩ := Device.gateEnd_steered runs xtal ring inp follow
  have none := Device.gateDeviations_noRing (ring := ring) (inp := inp) absent
  have judged : (d.gateDeviations ring inp).inTolerance 1 = false := by
    simp [Device.inTolerance, Device.deviation, Device.flag, none]
  refine ⟨?_, ?_⟩
  · exact (kept _ (by decide) (by decide)).trans ((Device.gateMeasured_keeps (by decide) (by decide)).trans none)
  · rw [kept _ (by decide) (by decide), Device.gateMeasured_ringAv, judged]
    rfl

theorem Device.gateEnd_input (lo : -2 ^ 15 ≤ v) (hi : v < 2 ^ 15) (present : d.inputPresent = true) :
    let e := d.gateEnd ring (some v) follow
    e.geti F.CLK_DEV_IN_DEV = v ∧ e.get F.CLK_DEV_IN_VALID = 1 ∧ (e.get F.CLK_STAT_IN_AV = 1 ↔ d.near 2 v) := by
  obtain ⟨-, kept⟩ := Device.gateEnd_steered runs xtal ring (some v) follow
  have read := Device.gateDeviations_input (ring := ring) lo hi present
  have judged := (Device.gated_deviations (Device.deviation_input read)).inTolerance_iff
  refine ⟨?_, ?_, ?_⟩
  · refine (Device.geti_congr ((kept _ (by decide) (by decide)).trans ?_) rfl).trans read.1
    exact Device.gateMeasured_keeps (by decide) (by decide)
  · exact (kept _ (by decide) (by decide)).trans ((Device.gateMeasured_keeps (by decide) (by decide)).trans read.2)
  · rw [kept _ (by decide) (by decide), Device.gateMeasured_inAv]
    exact toNat_eq_one_iff judged

end Measures

/-! ### A free node that has INPUT for its reference -/

section Input

variable (limp : d.limp = false) (free : d.clk.ringSlave = false) (listed : d.clk.cfgChanged = false)
  (sel : d.get F.CLK_STAT_SEL = 2) (gated : d.gated (d.gateTrimmed ring inp follow) 2 v)

section Judged

include listed sel gated

/-- The judgement of INPUT after the trim has moved. -/
theorem Device.gateFree_input [Decidable (d.near 2 v)] : (d.gateTrimmed ring inp follow).gateFree =
    if d.near 2 v then if d.get F.CLK_STAT_MODE = 2 then (d.gateTrimmed ring inp follow).startSlew
      else d.gateTrimmed ring inp follow
    else if d.get F.CLK_STAT_MODE = 2 then
      (d.gateTrimmed ring inp follow).put F.CLK_STAT_DWELL_LEFT (d.get F.CLK_STAT_DWELL_LEFT - 1)
    else (d.gateTrimmed ring inp follow).loseReference := by
  have held := gated.sel.trans sel
  rw [Device.gateFree_eq (by omega) (gated.retuned.listed.trans listed), held, gated.mode, gated.left]
  exact if_congr gated.inTolerance_iff rfl rfl

end Judged

include runs xtal limp free listed sel gated

theorem Device.gateEnd_follows (mode : d.get F.CLK_STAT_MODE = 1) (near : d.near 2 v) :
    let e := d.gateEnd ring inp follow
    e.get F.CLK_STAT_MODE = 1 ∧ e.geti F.CLK_TRIM_TRIM = max (-4294967) (min 4294967 follow) := by
  classical
  have ends : d.gateEnd ring inp follow = d.gateTrimmed ring inp follow := by
    rw [Device.gateEnd_settled runs xtal limp (by omega) (by omega), free, if_neg (by decide),
      Device.gateFree_input listed sel gated, if_pos near, if_neg (by omega)]
  have track : (d.gateMeasured ring inp).get F.CLK_STAT_MODE = 1 := Device.gateMeasured_mode.trans mode
  rw [ends]
  refine ⟨gated.mode.trans mode, ?_⟩
  exact (Device.geti_congr (Device.get_with_clk _ _ _ _) rfl).trans
    ((Device.gateTrim_track track follow).trans (Device.gateMeasured_goal (by omega) follow))

theorem Device.gateEnd_loses (mode : d.get F.CLK_STAT_MODE = 1) (far : ¬ d.near 2 v) :
    let e := d.gateEnd ring inp follow
    e.get F.CLK_STAT_MODE = 2 ∧ e.get F.CLK_STAT_DWELL_LEFT = d.get F.CLK_MON_CFG_DWELL ∧ e.get F.CLK_EVT_TOL = 1 ∧
      e.geti F.CLK_HOLD_TRIM = e.geti F.CLK_TRIM_TRIM ∧ d.fired e 7 := by
  classical
  have ends : d.gateEnd ring inp follow = (d.gateTrimmed ring inp follow).loseReference := by
    rw [Device.gateEnd_settled runs xtal limp (by omega) (by omega), free, if_neg (by decide),
      Device.gateFree_input listed sel gated, if_neg far, if_neg (by omega)]
  have still : (d.gateTrimmed ring inp follow).dpllRuns = true := by
    simpa [Device.dpllRuns, Device.linkRuns, Device.limp, gated.retuned.pwr, gated.mode, mode] using runs
  have held := gated.sel
  have track := gated.mode
  rw [ends, Device.loseReference_holds still (by omega) (by omega)]
  obtain ⟨hold, -, dwell, tol, trim⟩ := Device.holdTrim_shows (d.gateTrimmed ring inp follow) (mode := 2) (by decide)
    ((d.gateTrimmed ring inp follow).clkMode != 3)
  exact ⟨hold, (dwell.trans (if_pos rfl)).trans gated.dwell, tol, trim, Device.holdTrim_fired gated.retuned gated.state _ _⟩

theorem Device.gateEnd_returns (mode : d.get F.CLK_STAT_MODE = 2) (near : d.near 2 v) :
    let e := d.gateEnd ring inp follow
    e.get F.CLK_STAT_MODE = 3 ∧ e.get F.CLK_STAT_DWELL_LEFT = 0 ∧ e.get F.CLK_STAT_SEL = 2 := by
  classical
  have ends : d.gateEnd ring inp follow = (d.gateTrimmed ring inp follow).startSlew := by
    rw [Device.gateEnd_settled runs xtal limp (by omega) (by omega), free, if_neg (by decide),
      Device.gateFree_input listed sel gated, if_pos near, if_pos mode]
  rw [ends]
  exact ⟨Device.startSlew_mode _, Device.startSlew_dwell _,
    (Device.startSlew_get _ (by decide) (by decide)).trans (gated.sel.trans sel)⟩

theorem Device.gateEnd_dwells (mode : d.get F.CLK_STAT_MODE = 2) (far : ¬ d.near 2 v) :
    let e := d.gateEnd ring inp follow
    e.get F.CLK_STAT_MODE = 2 ∧ e.get F.CLK_STAT_DWELL_LEFT = d.get F.CLK_STAT_DWELL_LEFT - 1 ∧
      e.geti F.CLK_TRIM_TRIM = d.geti F.CLK_TRIM_TRIM := by
  classical
  have ends : d.gateEnd ring inp follow =
      (d.gateTrimmed ring inp follow).put F.CLK_STAT_DWELL_LEFT (d.get F.CLK_STAT_DWELL_LEFT - 1) := by
    rw [Device.gateEnd_settled runs xtal limp (by omega) (by omega), free, if_neg (by decide),
      Device.gateFree_input listed sel gated, if_neg far, if_pos mode]
  have left : d.get F.CLK_STAT_DWELL_LEFT < 2 ^ 8 := d.get_lt_pow _
  have frozen : (d.gateMeasured ring inp).gateTrim follow = d.gateMeasured ring inp :=
    Device.gateTrim_frozen (Device.gateMeasured_mode.trans mode) follow
  rw [ends]
  refine ⟨(Device.get_put_apart _ _ _ _ (by decide) (by decide)).trans (gated.mode.trans mode),
    Device.get_put_lt _ _ (by decide) (lt_of_le_of_lt (Nat.sub_le _ _) left), ?_⟩
  refine (Device.geti_congr (Device.get_put_apart _ _ _ _ (by decide) (by decide)) rfl).trans ?_
  rw [Device.gateTrimmed, frozen]
  exact (Device.geti_congr (Device.get_with_clk _ _ _ _) rfl).trans Device.gateMeasured_trim

theorem Device.gateEnd_slews (mode : d.get F.CLK_STAT_MODE = 3) (near : d.near 2 v)
    (start : |d.geti F.CLK_TRIM_TRIM| ≤ 4294967) : let e := d.gateEnd ring inp follow
    let goal := max (-4294967) (min 4294967 follow)
    e.geti F.CLK_TRIM_TRIM = max (d.geti F.CLK_TRIM_TRIM - 8589) (min (d.geti F.CLK_TRIM_TRIM + 8589) goal) ∧
      e.get F.CLK_STAT_MODE = if |e.geti F.CLK_TRIM_TRIM - goal| < 430 then 1 else 3 := by
  classical
  have goal := Device.gateMeasured_goal (d := d) (ring := ring) (inp := inp) (by omega) follow
  have slewing := gated.mode.trans mode
  have held := gated.sel.trans sel
  have ends : d.gateEnd ring inp follow =
      (d.gateTrimmed ring inp follow).slewArrive (max (-4294967) (min 4294967 follow)) := by
    have judged : (d.gateTrimmed ring inp follow).gateFree = d.gateTrimmed ring inp follow := by
      rw [Device.gateFree_input listed sel gated, if_pos near, if_neg (by omega)]
    rw [Device.gateEnd_slewing runs xtal limp free mode, judged, goal]
    exact if_pos (by simp [Device.clkMode, Device.refSel, slewing, held, sel])
  have moved : (d.gateTrimmed ring inp follow).geti F.CLK_TRIM_TRIM =
      max (d.geti F.CLK_TRIM_TRIM - 8589) (min (d.geti F.CLK_TRIM_TRIM + 8589) (max (-4294967) (min 4294967 follow))) := by
    refine (Device.geti_congr (Device.get_with_clk _ _ _ _) rfl).trans ?_
    rw [Device.gateTrim_slew (Device.gateMeasured_mode.trans mode) (by rwa [Device.gateMeasured_trim]), goal,
      Device.gateMeasured_trim]
    rfl
  obtain ⟨trim, arrival⟩ := Device.slewArrive_shows (by omega) slewing (max (-4294967) (min 4294967 follow))
  rw [ends]
  exact ⟨trim.trans moved, by rw [trim, arrival]⟩

end Input

/-! ### A ring slave -/

section Ring

variable (limp : d.limp = false) (slave : d.clk.ringSlave = true)
  (gated : d.gated (d.gateTrimmed ring inp follow) 1 v)
include runs xtal limp slave gated

theorem Device.gateEnd_acquires (mode : d.get F.CLK_STAT_MODE = 5) (sel : d.get F.CLK_STAT_SEL = 1) (near : d.near 1 v)
    (start : |d.geti F.CLK_TRIM_TRIM| ≤ 4294967) : let e := d.gateEnd ring inp follow
    e.get F.CLK_STAT_MODE = 5 ∧ e.geti F.CLK_TRIM_TRIM = max (d.geti F.CLK_TRIM_TRIM - 429496)
      (min (d.geti F.CLK_TRIM_TRIM + 429496) (max (-4294967) (min 4294967 follow))) := by
  have acquires := gated.mode
  have ends : d.gateEnd ring inp follow = { d.gateTrimmed ring inp follow with clk.cfgChanged := false } := by
    rw [Device.gateEnd_settled runs xtal limp (by omega) (by omega), if_pos slave]
    exact Device.gateSlave_near (gated.inTolerance_iff.2 near) (by omega)
  have shown : ∀ g : Fld, (d.gateEnd ring inp follow).get g = (d.gateTrimmed ring inp follow).get g := fun g => by
    rw [ends, Device.get_with_clk]
  refine ⟨(shown _).trans (gated.mode.trans mode), ?_⟩
  refine (Device.geti_congr ((shown _).trans (Device.get_with_clk _ _ _ _)) rfl).trans ?_
  rw [Device.gateTrim_acquire (Device.gateMeasured_mode.trans mode) (by rwa [Device.gateMeasured_trim]),
    Device.gateMeasured_goal (by omega), Device.gateMeasured_trim]
  rfl

theorem Device.gateEnd_ringHolds (mode : d.get F.CLK_STAT_MODE = 1) (sel : d.get F.CLK_STAT_SEL = 1)
    (far : ¬ d.near 1 v) : let e := d.gateEnd ring inp follow
    e.get F.CLK_STAT_MODE = 4 ∧ e.get F.CLK_STAT_SEL = 1 := by
  have track := gated.mode
  have out := eq_false_of_ne_true (mt gated.inTolerance_iff.1 far)
  obtain ⟨held, same⟩ := Device.gateSlave_hold out (by omega)
  rw [Device.gateEnd_settled runs xtal limp (by omega) (by omega), if_pos slave]
  exact ⟨held, same.trans (gated.sel.trans sel)⟩

theorem Device.gateEnd_ringBack (mode : d.get F.CLK_STAT_MODE = 4) (near : d.near 1 v) :
    (d.gateEnd ring inp follow).get F.CLK_STAT_MODE = 1 := by
  rw [Device.gateEnd_settled runs xtal limp (by omega) (by omega), if_pos slave]
  exact Device.gateSlave_back (gated.inTolerance_iff.2 near) (gated.mode.trans mode)

end Ring

end Clauses

/-- Settles O28, clause by clause: what the gate measures stands whatever the reference does, and the reference is judged by
it after the trim has moved. -/
theorem gateEnds : Obligations.GateEnds := by
  unfold Obligations.GateEnds
  intro s ring inp follow v runs xtal lo hi
  dsimp only
  have ends := fun ring inp => exec_gateEnd s ring inp follow
  have input : s.dev.inputPresent = true → s.dev.gated (s.dev.gateTrimmed ring (some v) follow) 2 v := fun present =>
    Device.gated_trimmed (Device.deviation_input (Device.gateDeviations_input lo hi present)) follow
  have slave : s.dev.ringPresent = true → s.dev.gated (s.dev.gateTrimmed (some v) inp follow) 1 v := fun present =>
    Device.gated_trimmed (Device.deviation_ring (Device.gateDeviations_ring lo hi present)) follow
  refine ⟨fun present => ?ring, fun absent => ?noRing, fun present => ?input,
    fun ⟨free, limp, listed, sel, present⟩ mode near => ?follows, fun ⟨free, limp, listed, sel, present⟩ mode far => ?loses,
    fun ⟨free, limp, listed, sel, present⟩ mode near => ?returns, fun ⟨free, limp, listed, sel, present⟩ mode far => ?dwells,
    fun ⟨free, limp, listed, sel, present⟩ mode near start => ?slews,
    fun role limp present mode sel near start => ?acquires, fun role limp present mode sel far => ?holds,
    fun role limp present mode near => ?back⟩
  case ring => exact State.on_completes (ends _ _) (Device.gateEnd_ring runs xtal lo hi present)
  case noRing => exact State.on_completes (ends _ _) (Device.gateEnd_noRing runs xtal absent)
  case input => exact State.on_completes (ends _ _) (Device.gateEnd_input runs xtal lo hi present)
  case follows =>
    exact State.on_completes (ends _ _) (Device.gateEnd_follows runs xtal limp free listed sel (input present) mode near)
  case loses =>
    exact State.on_completes (ends _ _) (Device.gateEnd_loses runs xtal limp free listed sel (input present) mode far)
  case returns =>
    exact State.on_completes (ends _ _) (Device.gateEnd_returns runs xtal limp free listed sel (input present) mode near)
  case dwells =>
    exact State.on_completes (ends _ _) (Device.gateEnd_dwells runs xtal limp free listed sel (input present) mode far)
  case slews =>
    exact State.on_completes (ends _ _) (Device.gateEnd_slews runs xtal limp free listed sel (input present) mode near start)
  case acquires =>
    exact State.on_completes (ends _ _) (Device.gateEnd_acquires runs xtal limp role (slave present) mode sel near start)
  case holds =>
    exact State.on_completes (ends _ _) (Device.gateEnd_ringHolds runs xtal limp role (slave present) mode sel far)
  case back =>
    exact State.on_completes (ends _ _) (Device.gateEnd_ringBack runs xtal limp role (slave present) mode near)

end Sys2Proof.Machine
end

section
/-! PROOFS. One STREAM cycle on an empty queue (O2; log entry 2, R45, R63, R171, R188, R599). -/

namespace Sys2Proof.Machine

/-! ### What time leaves alone -/

/-- Time has passed from `d` to `e`: memory, companions, the power sequence and the cores are as they were, and so is every
register but those of the log, of the event controller and `ws`. -/
structure Device.elapsed (ws : List Nat) (d e : Device) : Prop where
  mem : e.mem = d.mem
  companions : e.companions = d.companions
  pwr : e.pwr = d.pwr
  core : ∀ c, e.core c = d.core c
  word : ∀ a, a ∉ noteWords → a ∉ ws → e.word a = d.word a

section Passes

variable {ws vs : List Nat} {d e f : Device}

theorem Device.elapsed.refl (ws : List Nat) (d : Device) : d.elapsed ws d := ⟨rfl, rfl, rfl, fun _ => rfl, fun _ _ _ => rfl⟩

theorem Device.elapsed.trans (h : d.elapsed ws e) (k : e.elapsed ws f) : d.elapsed ws f :=
  ⟨k.mem.trans h.mem, k.companions.trans h.companions, k.pwr.trans h.pwr, fun c => (k.core c).trans (h.core c),
    fun a note free => (k.word a note free).trans (h.word a note free)⟩

theorem Device.elapsed.mono (h : d.elapsed ws e) (sub : ws ⊆ vs) : d.elapsed vs e :=
  { h with word := fun a note free => h.word a note fun m => free (sub m) }

theorem Device.elapsed.get (h : d.elapsed ws e) {g : Fld} (note : g.addr ∉ noteWords) (free : g.addr ∉ ws) :
    e.get g = d.get g :=
  Device.get_eq_of_word (h.word _ note free)

theorem Device.elapsed.linkRuns (h : d.elapsed ws e) : e.linkRuns = d.linkRuns := by
  rw [Device.linkRuns, h.pwr, Device.linkRuns]

theorem Device.elapsed_noted (ws : List Nat) (h : Noted d e) : d.elapsed ws e :=
  ⟨h.mem, h.companions, h.pwr, h.core, fun _ note _ => h.word note⟩

theorem Device.elapsed_put (d : Device) {f : Fld} (v : Nat) (hf : f.addr ∈ ws) : d.elapsed ws (d.put f v) :=
  ⟨rfl, rfl, rfl, d.put_core f v, fun _ _ free => d.word_put_ne f v fun same => free (same ▸ hf)⟩

theorem Device.elapsed_clk (ws : List Nat) (d : Device) (clk : Clk) : d.elapsed ws { d with clk := clk } :=
  ⟨rfl, rfl, rfl, fun c => by cases c <;> rfl, fun _ _ _ => rfl⟩

theorem Device.elapsed_linkClock (ws : List Nat) (d : Device) (clk : Clk) (n : Nat) :
    d.elapsed ws { d with clk := clk, linkClock := n } :=
  ⟨rfl, rfl, rfl, fun c => by cases c <;> rfl, fun _ _ _ => rfl⟩

theorem Device.elapsed_inp (ws : List Nat) (d : Device) (inp : Inputs) : d.elapsed ws { d with inp := inp } :=
  ⟨rfl, rfl, rfl, fun c => by cases c <;> rfl, fun _ _ _ => rfl⟩

theorem Device.elapsed_withLease (d : Device) {regs : RegMap} {phase : Nat}
    (h : ∀ a, a ∉ ws → (d.withLease regs phase).word a = d.word a) : d.elapsed ws (d.withLease regs phase) :=
  ⟨rfl, rfl, rfl, fun c => by cases c <;> rfl, fun a _ free => h a free⟩

end Passes

/-! ### The cores -/

/-- S after one more STREAM cycle, and its position in the block. -/
def Core.streamed (k : Core) : Core :=
  { k.count 1 with st := k.st.put F.ST_BLKCYC_CYCLE (min 32767 (k.st.get F.ST_BLKCYC_CYCLE + 1)) }

theorem Core.streamed_position (k : Core) :
    k.streamed.st.get F.ST_BLKCYC_CYCLE = min 32767 (k.st.get F.ST_BLKCYC_CYCLE + 1) :=
  (RegMap.get_put_same _ _ _ (by decide)).trans
    (Nat.mod_eq_of_lt (lt_of_le_of_lt (Nat.min_le_left _ _) (by decide)))

/-- The device with other cores. -/
def Device.withCores (d : Device) (c0 c1 sc : Core) : Device := { d with c0 := c0, c1 := c1, sc := sc }

/-- The cores after one STREAM cycle. -/
def Device.coresTicked (d : Device) : Device :=
  d.withCores (if d.coreRuns then d.c0.count 2 else d.c0) (if d.coreRuns then d.c1.count 2 else d.c1)
    (if d.coreRuns && !d.stage.frozen then d.sc.streamed else d.sc)

theorem Device.coresTicked_core (d : Device) (c : CoreId) :
    (d.coresTicked.core c).pc = (d.core c).pc ∧ (d.coresTicked.core c).w = (d.core c).w := by
  cases c
  case s =>
    change (if d.coreRuns && !d.stage.frozen then d.sc.streamed else d.sc).pc = d.sc.pc ∧
      (if d.coreRuns && !d.stage.frozen then d.sc.streamed else d.sc).w = d.sc.w
    split <;> exact ⟨rfl, rfl⟩
  all_goals
    simp only [Device.coresTicked, Device.withCores, Device.core]
    split <;> exact ⟨rfl, rfl⟩

theorem Device.withCores_clk (d : Device) (c0 c1 sc : Core) : (d.withCores c0 c1 sc).clk = d.clk := rfl

theorem Device.withCores_leasePhase (d : Device) (c0 c1 sc : Core) : (d.withCores c0 c1 sc).leasePhase = d.leasePhase := rfl

theorem Device.withCores_get (d : Device) (c0 c1 sc : Core) (g : Fld) : (d.withCores c0 c1 sc).get g = d.get g := rfl

/-! ### The LINK domain -/

/-- The samples and the periods that pass for the inputs show in IEC_STAT alone (R251, R268). -/
theorem Device.elapsed_inputsReach (d : Device) (t : RingTime) : d.elapsed [R.INP_IEC_STAT] (d.inputsReach t) := by
  have mutes : ∀ n, d.elapsed [R.INP_IEC_STAT] (d.mutePasses n) := fun n => by
    unfold Device.mutePasses
    split
    · exact .refl _ d
    · split
      · exact (d.elapsed_inp _ _).trans (Device.elapsed_put (f := F.INP_IEC_STAT_MUTED) _ _ (List.mem_singleton.2 rfl))
      · exact d.elapsed_inp _ _
  unfold Device.inputsReach Device.senseFeeds
  split
  · exact (mutes _).trans (Device.elapsed_inp _ _ _)
  · exact mutes _

theorem Device.inputsReach_leasePhase (d : Device) (t : RingTime) : (d.inputsReach t).leasePhase = d.leasePhase := by
  have mutes : ∀ n, (d.mutePasses n).leasePhase = d.leasePhase := fun n => by
    unfold Device.mutePasses
    split
    · rfl
    · split <;> rfl
  unfold Device.inputsReach Device.senseFeeds
  split <;> exact mutes _

/-- The device whose ring time and inputs have gone on by one STREAM cycle. -/
def Device.linkTicked (d : Device) : Device :=
  { d.inputsReach (d.clk.rt.plus 4) with clk.rt := d.clk.rt.plus 4, linkClock := d.linkClock + 1 }

theorem Device.with_time (d : Device) (clk : Clk) (n : Nat) : ({ d with clk := clk, linkClock := n } : Device).clk = clk ∧
    ({ d with clk := clk, linkClock := n } : Device).leasePhase = d.leasePhase := ⟨rfl, rfl⟩

section LinkTicked

variable (d : Device)

theorem Device.elapsed_linkTicked : d.elapsed [R.INP_IEC_STAT] d.linkTicked :=
  (d.elapsed_inputsReach _).trans (Device.elapsed_linkClock _ _ _ _)

theorem Device.linkTicked_clk : d.linkTicked.clk = { d.clk with rt := d.clk.rt.plus 4 } := by
  rw [Device.linkTicked, (Device.with_time _ _ _).1, Device.inputsReach_clk]

theorem Device.linkTicked_leasePhase : d.linkTicked.leasePhase = d.leasePhase :=
  (Device.with_time _ _ _).2.trans (d.inputsReach_leasePhase _)

end LinkTicked

/-! ### The lease (R599) -/

section Lease

variable (d : Device)

theorem Device.elapsed_leaseSet (phase st holder remain : Nat) :
    d.elapsed portWords (d.leaseSet phase st holder remain) :=
  d.elapsed_withLease fun a free => by
    refine d.leaseSet_word phase st holder remain (fun e => free ?_) fun e => free ?_
    all_goals rw [e]; decide

theorem Device.leaseSet_clk (phase st holder remain : Nat) : (d.leaseSet phase st holder remain).clk = d.clk :=
  (d.withLease_steady _ phase).2.2

theorem Device.elapsed_bothEvt (v : Nat) : d.elapsed portWords (d.bothEvt v) :=
  (d.elapsed_put (f := F.HP_EVT_EVT 0) _ (by decide)).trans (Device.elapsed_put _ (f := F.HP_EVT_EVT 1) _ (by decide))

theorem Device.leaseExpired_eq : d.leaseExpired = if d.linkRuns && d.leaseState == 1 then
    d.expired.raise 117 (d.get (F.HP_LEASE_HOLDER 0) - 1) else d := rfl

theorem Device.elapsed_leaseExpired : d.elapsed portWords d.leaseExpired := by
  have ends : d.elapsed portWords d.expired := by
    rw [Device.expired, Device.setLease_eq_leaseSet]
    exact (d.elapsed_leaseSet _ _ _ _).trans (Device.elapsed_bothEvt _ 32)
  rw [Device.leaseExpired_eq]
  split
  · exact ends.trans (Device.elapsed_noted _ (Device.raise_noted _ _ _ _))
  · exact .refl _ d

theorem Device.leaseExpired_clk : d.leaseExpired.clk = d.clk := by
  rw [Device.leaseExpired_eq]
  split
  · obtain ⟨-, -, clk, -⟩ := d.aside_expired
    rw [Device.raise_clk, clk]
  · rfl

theorem Device.elapsed_leasePhase (phase : Nat) : d.elapsed portWords { d with leasePhase := phase } :=
  ⟨rfl, rfl, rfl, fun c => by cases c <;> rfl, fun _ _ _ => rfl⟩

/-- The lease timer in one STREAM cycle, by the place in its millisecond. -/
theorem Device.tickLease_eq : d.tickLease = if d.get (F.HP_LEASE_STATE 0) ≠ 1 then d
    else if d.leasePhase + 1 < 196608 then { d with leasePhase := d.leasePhase + 1 }
    else if d.get (F.HP_LEASE_REMAIN 0) - 1 = 0 then
      (d.leaseSet 0 1 (d.get (F.HP_LEASE_HOLDER 0)) (d.get (F.HP_LEASE_REMAIN 0) - 1)).leaseExpired
    else d.leaseSet 0 1 (d.get (F.HP_LEASE_HOLDER 0)) (d.get (F.HP_LEASE_REMAIN 0) - 1) := by
  have set : ∀ holder left, ({ d.setLease 1 holder left with leasePhase := 0 } : Device) = d.leaseSet 0 1 holder left :=
    fun holder left => Device.withLease_of_eq (d.setLease_eq 1 holder left) 0
  simp only [Device.tickLease, Device.leaseState, leaseMs, bne_iff_ne, set]

theorem Device.elapsed_tickLease : d.elapsed portWords d.tickLease := by
  rw [Device.tickLease_eq]
  repeat' split
  · exact .refl _ d
  · exact d.elapsed_leasePhase _
  · exact (d.elapsed_leaseSet _ _ _ _).trans (Device.elapsed_leaseExpired _)
  · exact d.elapsed_leaseSet _ _ _ _

theorem Device.tickLease_clk : d.tickLease.clk = d.clk := by
  rw [Device.tickLease_eq]
  repeat' split
  · rfl
  · rfl
  · rw [Device.leaseExpired_clk, Device.leaseSet_clk]
  · exact d.leaseSet_clk _ _ _ _

variable {d}

/-- A lease that is held loses a millisecond at the end of each. -/
theorem Device.tickLease_held (held : d.get (F.HP_LEASE_STATE 0) = 1) (left : 2 ≤ d.get (F.HP_LEASE_REMAIN 0)) :
    d.tickLease.get (F.HP_LEASE_STATE 0) = 1 ∧ d.tickLease.get (F.HP_LEASE_REMAIN 0) =
      d.get (F.HP_LEASE_REMAIN 0) - if 196608 ≤ d.leasePhase + 1 then 1 else 0 := by
  have holder : d.get (F.HP_LEASE_HOLDER 0) < 2 ^ 2 := d.get_lt_pow _
  have remain : d.get (F.HP_LEASE_REMAIN 0) < 2 ^ 10 := d.get_lt_pow _
  rw [Device.tickLease_eq, if_neg (by omega)]
  by_cases ends : 196608 ≤ d.leasePhase + 1
  · obtain ⟨state, -, rest⟩ := d.leaseSet_leased 0 (st := 1) (remain := d.get (F.HP_LEASE_REMAIN 0) - 1) (by decide) holder
      (by omega) 0 (by decide)
    rw [if_neg (by omega), if_neg (by omega), if_pos ends]
    exact ⟨state, rest⟩
  · rw [if_pos (by omega), if_neg ends]
    exact ⟨held, rfl⟩

end Lease

/-! ### AON (R187, R188) -/

section Aon

variable (d : Device)

theorem Device.aonRuns_of_linkRuns {d : Device} (runs : d.linkRuns = true) : d.aonRuns = true := by
  simp only [Device.linkRuns, Bool.or_eq_true, beq_iff_eq] at runs
  obtain seq | seq := runs <;> simp [Device.aonRuns, seq]

theorem Device.elapsed_aonTimer (n : Nat) : d.elapsed [R.CLK_AON_CNT] (d.aonTimer n) := by
  unfold Device.aonTimer
  split
  · exact .refl _ d
  · split
    · exact (d.elapsed_put _ (by decide)).trans (Device.elapsed_noted _ (Device.fire_noted _ _))
    · exact d.elapsed_put _ (by decide)

theorem Device.aonTimer_clk (n : Nat) : (d.aonTimer n).clk = d.clk := by
  unfold Device.aonTimer
  split
  · rfl
  · split
    · exact Device.fire_clk _ _
    · rfl

theorem Device.elapsed_tickAon : d.elapsed [R.CLK_AON_CNT] d.tickAon := by
  unfold Device.tickAon
  split
  · exact .refl _ d
  · split
    · exact d.elapsed_clk _ _
    · exact (d.elapsed_clk _ _).trans (Device.elapsed_aonTimer _ _)

theorem Device.tickAon_rt : d.tickAon.clk.rt = d.clk.rt := by
  unfold Device.tickAon
  split
  · rfl
  · split
    · rfl
    · rw [Device.aonTimer_clk]

theorem Device.tickAon_stands {d : Device} (h : d.linkRuns = false) : d.tickAon = d := if_pos (by simp [h])

/-- While AON runs from the PLL and its compare is off, it counts once in 6,000 STREAM cycles. -/
theorem Device.tickAon_count {d : Device} (runs : d.linkRuns = true) (pll : d.get F.CLK_STAT_AON_SRC = 0)
    (off : d.get F.CLK_AON_CTL_EN = 0) : d.tickAon.get F.CLK_AON_CNT_COUNT =
      (d.get F.CLK_AON_CNT_COUNT + if 6000 ≤ d.clk.aonPhase + 1 then 1 else 0) % 2 ^ 32 := by
  have counts : ∀ x : Device, x.aonRuns = true → x.get F.CLK_AON_CTL_EN = 0 →
      (x.aonTimer 1).get F.CLK_AON_CNT_COUNT = (x.get F.CLK_AON_CNT_COUNT + 1) % 2 ^ 32 := fun x aon en => by
    rw [Device.aonTimer, aon, x.flag_eq_false_iff.2 en]
    exact x.get_put_lt F.CLK_AON_CNT_COUNT (by decide) (Nat.mod_lt _ (by decide))
  have count : d.get F.CLK_AON_CNT_COUNT < 2 ^ 32 := d.get_lt_pow _
  rw [Device.tickAon, runs, d.flag_eq_false_iff.2 pll, if_neg (by decide)]
  by_cases whole : 6000 ≤ d.clk.aonPhase + 1
  · rw [if_neg (by rw [aonCycle]; omega), if_pos whole]
    exact counts { d with clk.aonPhase := 0 } (Device.aonRuns_of_linkRuns runs) off
  · rw [if_pos (by rw [aonCycle]; omega), if_neg whole]
    exact (Nat.mod_eq_of_lt count).symm

end Aon

/-! ### One STREAM cycle -/

section Tick

variable {d : Device}

theorem Device.coreRuns_of_linkStands (stands : d.linkRuns = false) : d.coreRuns = false := by
  have seq : (d.pwr.seq == .up || d.pwr.seq == .booting) = false := stands
  rw [Device.coreRuns, seq, Bool.false_and]

theorem Device.tick_eq (d : Device) :
    d.tick = (if d.linkRuns then d.coresTicked.linkTicked.tickLease else d.coresTicked).tickAon := by
  have cores : (if d.coreRuns then { d with c0 := d.c0.count 2, c1 := d.c1.count 2 } else d) =
      d.withCores (if d.coreRuns then d.c0.count 2 else d.c0) (if d.coreRuns then d.c1.count 2 else d.c1) d.sc := by
    cases d.coreRuns <;> rfl
  have stream : ∀ a b, (if d.coreRuns && !d.stage.frozen then (d.withCores a b d.sc).tickStream else d.withCores a b d.sc) =
      d.withCores a b (if d.coreRuns && !d.stage.frozen then d.sc.streamed else d.sc) := fun a b => by
    split <;> rfl
  have link : d.coresTicked.linkRuns = d.linkRuns := rfl
  rw [← link, Device.tick, cores, Device.coresTicked, ← stream]
  rfl

/-- Without LINK nothing changes. -/
theorem Device.tick_stands (stands : d.linkRuns = false) : d.tick = d := by
  have cores : d.coresTicked = d := by
    simp [Device.coresTicked, Device.withCores, Device.coreRuns_of_linkStands stands]
  rw [Device.tick_eq, stands, if_neg (by decide), cores, Device.tickAon_stands stands]

/-- Where LINK runs, time passes for the cores, the inputs and the lease, and then for AON. -/
theorem Device.tick_runs (runs : d.linkRuns = true) : d.tick = d.coresTicked.linkTicked.tickLease.tickAon := by
  rw [Device.tick_eq, if_pos runs]

/-- The registers that one STREAM cycle can change beside the log and the event controller. -/
def tickWords : List Nat := R.INP_IEC_STAT :: R.CLK_AON_CNT :: portWords

theorem Device.elapsed_beforeAon (d : Device) :
    d.coresTicked.elapsed (R.INP_IEC_STAT :: portWords) d.coresTicked.linkTicked.tickLease :=
  (d.coresTicked.elapsed_linkTicked.mono (by decide)).trans ((Device.elapsed_tickLease _).mono (by decide))

theorem Device.elapsed_tick (runs : d.linkRuns = true) : d.coresTicked.elapsed tickWords d.tick := by
  rw [Device.tick_runs runs]
  exact (d.elapsed_beforeAon.mono (by decide)).trans ((Device.elapsed_tickAon _).mono (by decide))

theorem Device.beforeAon_get (d : Device) {g : Fld} (note : g.addr ∉ noteWords)
    (free : g.addr ∉ R.INP_IEC_STAT :: portWords) : d.coresTicked.linkTicked.tickLease.get g = d.get g :=
  (d.elapsed_beforeAon.get note free).trans (d.withCores_get _ _ _ g)

theorem Device.beforeAon_linkRuns (d : Device) : d.coresTicked.linkTicked.tickLease.linkRuns = d.linkRuns :=
  d.elapsed_beforeAon.linkRuns

theorem Device.beforeAon_clk (d : Device) :
    d.coresTicked.linkTicked.tickLease.clk = { d.clk with rt := d.clk.rt.plus 4 } := by
  rw [Device.tickLease_clk, Device.linkTicked_clk, Device.coresTicked, Device.withCores_clk]

/-- The cores stand in their programs while time passes. -/
theorem Device.tick_core (runs : d.linkRuns = true) (c : CoreId) :
    (d.tick.core c).pc = (d.core c).pc ∧ (d.tick.core c).w = (d.core c).w := by
  rw [(Device.elapsed_tick runs).core c]
  exact d.coresTicked_core c

theorem Device.tick_controlCycles (runs : d.linkRuns = true) (cores : d.coreRuns = true) :
    d.tick.c0.cycles = d.c0.cycles + 2 ∧ d.tick.c1.cycles = d.c1.cycles + 2 := by
  have c0 : d.tick.c0 = _ := (Device.elapsed_tick runs).core .c0
  have c1 : d.tick.c1 = _ := (Device.elapsed_tick runs).core .c1
  rw [c0, c1]
  simp only [Device.coresTicked, Device.withCores, Device.core, cores, if_true]
  exact ⟨rfl, rfl⟩

theorem Device.tick_stream (runs : d.linkRuns = true) (cores : d.coreRuns = true) (live : d.stage.frozen = false) :
    d.tick.sc.cycles = d.sc.cycles + 1 ∧
      d.tick.cget .s F.ST_BLKCYC_CYCLE = min 32767 (d.cget .s F.ST_BLKCYC_CYCLE + 1) := by
  have s : d.tick.core .s = d.sc.streamed :=
    ((Device.elapsed_tick runs).core .s).trans (if_pos (by rw [cores, live]; rfl))
  have sc : d.tick.sc = d.sc.streamed := s
  rw [Device.cget, s, sc]
  exact ⟨rfl, d.sc.streamed_position⟩

theorem Device.tick_rt (runs : d.linkRuns = true) : d.tick.clk.rt = d.clk.rt.plus 4 := by
  rw [Device.tick_runs runs, Device.tickAon_rt, Device.beforeAon_clk]

theorem Device.tick_aon (runs : d.linkRuns = true) (pll : d.get F.CLK_STAT_AON_SRC = 0)
    (off : d.get F.CLK_AON_CTL_EN = 0) : d.tick.get F.CLK_AON_CNT_COUNT =
      (d.get F.CLK_AON_CNT_COUNT + if 6000 ≤ d.clk.aonPhase + 1 then 1 else 0) % 2 ^ 32 := by
  rw [Device.tick_runs runs, Device.tickAon_count (d.beforeAon_linkRuns.trans runs)
    ((d.beforeAon_get (by decide) (by decide)).trans pll) ((d.beforeAon_get (by decide) (by decide)).trans off),
    d.beforeAon_get (by decide) (by decide), Device.beforeAon_clk]

theorem Device.tick_lease (runs : d.linkRuns = true) (held : d.get (F.HP_LEASE_STATE 0) = 1)
    (left : 2 ≤ d.get (F.HP_LEASE_REMAIN 0)) : d.tick.get (F.HP_LEASE_STATE 0) = 1 ∧
      d.tick.get (F.HP_LEASE_REMAIN 0) =
        d.get (F.HP_LEASE_REMAIN 0) - if 196608 ≤ d.leasePhase + 1 then 1 else 0 := by
  have before : ∀ g : Fld, g.addr ∉ noteWords → g.addr ∉ [R.INP_IEC_STAT] → d.coresTicked.linkTicked.get g = d.get g :=
    fun g note free => (d.coresTicked.elapsed_linkTicked.get note free).trans (d.withCores_get _ _ _ g)
  have state := before (F.HP_LEASE_STATE 0) (by decide) (by decide)
  have remain := before (F.HP_LEASE_REMAIN 0) (by decide) (by decide)
  have phase : d.coresTicked.linkTicked.leasePhase = d.leasePhase :=
    (Device.linkTicked_leasePhase _).trans (d.withCores_leasePhase _ _ _)
  obtain ⟨still, rest⟩ := Device.tickLease_held (state.trans held) (by rwa [remain])
  rw [remain, phase] at rest
  rw [Device.tick_runs runs]
  exact ⟨((Device.elapsed_tickAon _).get (by decide) (by decide)).trans still,
    ((Device.elapsed_tickAon _).get (by decide) (by decide)).trans rest⟩

end Tick

theorem step_idle {s : State} (h : s.pending = []) : step s = s.on Device.tick := by
  rw [step, h]

/-- Settles O2: where LINK stands nothing changes, and where it runs each domain lets its part of one STREAM cycle pass. -/
theorem idleStep : Obligations.IdleStep := by
  unfold Obligations.IdleStep
  intro s empty
  have idle := step_idle empty
  cases runs : s.dev.linkRuns with
  | false =>
    have stands : step s = .next s := idle.trans (State.on_eq_self (Device.tick_stands runs))
    have cores := Device.coreRuns_of_linkStands runs
    refine ⟨⟨s.dev, stands, rfl, rfl, fun _ => ⟨rfl, rfl⟩, ?_⟩, fun _ => stands⟩
    simp [runs, cores]
  | true =>
    have kept := Device.elapsed_tick runs
    refine ⟨⟨s.dev.tick, idle, kept.mem, kept.companions, Device.tick_core runs, ?_⟩,
      fun stands => absurd (runs.symm.trans stands) (by decide)⟩
    exact ⟨Device.tick_controlCycles runs, Device.tick_stream runs, fun _ => Device.tick_rt runs,
      fun _ => Device.tick_aon runs, fun _ => Device.tick_lease runs⟩

end Sys2Proof.Machine
end

section
/-! PROOFS. The stores after reset (O5), an ICE entry that leaves a lock in the flow of its lanes (O31), and an exit from
STILL that finds no latch (O35). -/

namespace Sys2Proof.Machine

/-- Settles O5: no register and no byte of memory is listed, in no core and in no companion. -/
theorem resetStoresCanonical : Obligations.ResetStoresCanonical := Device.initial_wf

/-! ### The end of the first gap of an ICE entry (R211) -/

theorem exec_seqGapExpire (x : Vector (BitVec 5) 3) (s : State) :
    exec (.seqGapExpire x) s = s.on fun d => d.seqGapExpire x := rfl

/-- A device in READY whose input group 0 is locked, in its register as in the flow of its lanes, while an ICE entry waits
for its first gap. -/
def lockedIceState : State :=
  { State.reset with dev := { Device.initial with
      pwr := { Pwr.start with seq := .up, busy := .iceEntry }
      inp := { Inputs.idle with
        group := Inputs.idle.group.set 0 { InGroup.idle with flow := { GroupFlow.idle with locked := true } } }
      regs := [(F.PWR_STAT_STATE, 2), (F.INP_STAT_LOCK, 1)].foldl (fun m p => m.put p.1 p.2) [] } }

/-- The group unlocks with its mark in the block in progress (R263), and its flow takes the mark up at a block boundary
alone. -/
theorem lockedIceState_flow :
    (lockedIceState.dev.seqGapExpire (.replicate 3 0)).inp.group[0].flow.locked = true := by decide +kernel

/-- Refutes O31: the statement says that no group's flow is locked once the first gap of an ICE entry is over. The gap's end
marks the unlock of a locked group, and no block boundary follows that would take the mark into the flow. -/
theorem not_supplySequence : ¬ Obligations.SupplySequence := by
  unfold Obligations.SupplySequence
  intro h
  obtain ⟨-, -, -, -, -, -, -, -, -, -, -, iceEntry, -⟩ := h lockedIceState (.replicate 3 0)
  obtain ⟨-, -, -, -, -, -, -, flows, -⟩ := (iceEntry rfl rfl).of_on (exec_seqGapExpire _ _)
  exact absurd ((flows 0).symm.trans lockedIceState_flow) (by decide)

/-! ### The end of an exit from STILL (R210) -/

theorem exec_stillUngate (s : State) : exec .stillUngate s = s.on Device.stillUngate := rfl

/-- A device in STILL whose exit has begun and whose supplies have all come, with no wake latch set. -/
def unlatchedWakeState : State :=
  { State.reset with dev := { Device.initial with
      pwr := { Pwr.start with seq := .up, waking := true, pgAux := .replicate 3 true }
      regs := [(F.PWR_STAT_STATE, 1)].foldl (fun m p => m.put p.1 p.2) [] } }

/-- The CORE domain starts with no latch to take (R149). -/
theorem unlatchedWakeState_taking : unlatchedWakeState.dev.stillUngate.evc.taking = false := by decide +kernel

/-- Refutes O35: the statement says that the latches of the wake are being taken after every exit from STILL, also in a
state where none is set. There the event controller has nothing to take. -/
theorem not_powerTransitions : ¬ Obligations.PowerTransitions := by
  unfold Obligations.PowerTransitions
  intro h
  obtain ⟨-, -, -, -, ungate, -⟩ := h unlatchedWakeState
  obtain ⟨-, -, -, -, taking⟩ :=
    (ungate (by decide) rfl rfl rfl (by decide)).of_on (exec_stillUngate unlatchedWakeState)
  exact absurd (unlatchedWakeState_taking.symm.trans taking) (by decide)

end Sys2Proof.Machine
end

section
/-! PROOFS. What the clock, the load diagnostics, the ring and the ports do leaves the power block alone. -/

namespace Sys2Proof.Machine

/-- The blocks that act as the power block asks or take up its state: the clock, the load diagnostics, the ring, the two
ports and the transactions. -/
def followingBlocks : List Nat := [0x4001, 0x400B, 0x400D, 0x400E, 0x400F, 0x4010]

/-- From `d` to `e` the blocks that follow the power block have acted: the power sequence, the half-bridges, the place of the
node on the ring and the words of the other blocks are as they were, and so are the sources but CLK_REF_TOL, DIAG_DONE,
DIAG_FAULT and RING_WRAP. -/
structure Device.follows (d e : Device) : Prop where
  pwr : e.pwr = d.pwr
  half : e.stage.half = d.stage.half
  looped : e.trn.looped = d.trn.looped
  taking : e.evc.taking = d.evc.taking
  source : ∀ n : Fin 128, n.val ∉ [7, 41, 42, 97] → e.source n = d.source n
  word : ∀ a, a / 0x10000 ∉ followingBlocks → a ∉ noteWords → e.word a = d.word a

theorem Device.follows.refl (d : Device) : d.follows d := ⟨rfl, rfl, rfl, rfl, fun _ _ => rfl, fun _ _ _ => rfl⟩

theorem Device.follows.trans {d e f : Device} (h : d.follows e) (k : e.follows f) : d.follows f :=
  ⟨k.pwr.trans h.pwr, k.half.trans h.half, k.looped.trans h.looped, k.taking.trans h.taking,
    fun n hn => (k.source n hn).trans (h.source n hn), fun a block note => (k.word a block note).trans (h.word a block note)⟩

theorem Device.follows.ite {d a b : Device} {p : Prop} [Decidable p] (ha : d.follows a) (hb : d.follows b) :
    d.follows (if p then a else b) := by
  split
  · exact ha
  · exact hb

theorem Device.follows_foldl {α : Type} (g : Device → α → Device) : ∀ (l : List α) (d : Device),
    (∀ x ∈ l, ∀ d : Device, d.follows (g d x)) → d.follows (l.foldl g d)
  | [], d, _ => .refl d
  | x :: t, d, h =>
    (h x (.head _) d).trans (Device.follows_foldl g t (g d x) fun y hy => h y (.tail _ hy))

theorem Device.follows.get {d e : Device} (h : d.follows e) {f : Fld} (block : f.addr / 0x10000 ∉ followingBlocks)
    (note : f.addr ∉ noteWords) : e.get f = d.get f :=
  Device.get_eq_of_word (h.word _ block note)

section Steps

variable (d : Device)

theorem Device.follows_put {f : Fld} (v : Nat) (h : f.addr / 0x10000 ∈ followingBlocks) : d.follows (d.put f v) :=
  ⟨rfl, rfl, rfl, rfl, fun _ _ => rfl, fun _ block _ => d.word_put_ne f v fun e => block (e ▸ h)⟩

/-- A change of blocks beside their registers. -/
theorem Device.follows_with (mem : List Host.Cell) (ecc : List (Nat × EccErr)) (clk : Clk) (drive : Drive) (diag : Diag)
    (hp : Vector Hp 2) : d.follows { d with
      mem := mem, ecc := ecc, clk := clk, stage := { d.stage with drive := drive }, diag := diag, hp := hp } :=
  ⟨rfl, rfl, rfl, rfl, fun _ _ => rfl, fun _ _ _ => rfl⟩

theorem Device.follows_ring {trn : Trn} (looped : trn.looped = d.trn.looped) : d.follows { d with trn := trn } :=
  ⟨rfl, rfl, looped, rfl, fun _ _ => rfl, fun _ _ _ => rfl⟩

theorem Device.log_taking (n sev detail : Nat) (data : List Byte) : (d.log n sev detail data).evc.taking = d.evc.taking := by
  rw [Device.log_evc]

theorem Device.follows_log (n sev detail : Nat) (data : List Byte) : d.follows (d.log n sev detail data) :=
  ⟨d.log_pwr .., by rw [Device.log_stage], by rw [Device.log_trn], d.log_taking n sev detail data,
    fun m _ => d.log_source n sev detail data m, fun _ _ note => (d.log_noted n sev detail data).word note⟩

theorem Device.fire_taking (n : Nat) : (d.fire n).evc.taking = d.evc.taking := by
  unfold Device.fire
  split
  · rfl
  · split
    · split
      · exact Device.fireNow_keeps (view := (·.evc.taking)) (fun _ _ _ => rfl) (fun _ _ _ => rfl)
          (fun d n sev detail data => d.log_taking n sev detail data) d _ _ _
      · rfl
    · split <;> rfl

theorem Device.follows_fire {n : Nat} (h : n ∈ [7, 41, 42, 97]) : d.follows (d.fire n) :=
  ⟨d.fire_pwr n, by rw [Device.fire_stage], by rw [Device.fire_trn], d.fire_taking n,
    fun _ hm => d.fire_source_ne fun e => hm (e ▸ h), fun _ _ note => (d.fire_noted n).word note⟩

theorem Device.follows_raise {n : Nat} (h : n ∈ [7, 41, 42, 97]) (detail : Nat) (data : List Byte) :
    d.follows (d.raise n detail data) :=
  (d.follows_fire h).trans (Device.follows_log _ n (sourceSev n) detail data)

/-! ### The load diagnostics (R379 to R382, R390) -/

theorem Device.follows_diagWriteResult {n : Nat} (hn : n < 256) (r : DiagResult) : d.follows (d.diagWriteResult n r) := by
  have pre : R.DIAG_n_PRE n / 0x10000 ∈ followingBlocks := by
    rw [show R.DIAG_n_PRE n / 0x10000 = 0x400B by unfold R.DIAG_n_PRE; omega]
    decide
  have rdc : R.DIAG_n_RDC n / 0x10000 ∈ followingBlocks := by
    rw [show R.DIAG_n_RDC n / 0x10000 = 0x400B by unfold R.DIAG_n_RDC; omega]
    decide
  have shown := ((d.follows_put (f := F.DIAG_n_PRE_RESULT n) r.result pre).trans
    (Device.follows_put _ (f := F.DIAG_n_PRE_HB n) r.hb pre)).trans
      (Device.follows_put _ (f := F.DIAG_n_PRE_RDC_VALID n) r.rdcValid.toNat pre)
  unfold Device.diagWriteResult
  split
  · exact shown
  · exact shown.trans (Device.follows_put _ (f := F.DIAG_n_RDC_RDC n) _ rdc)
/-- A run has four results, one for each channel. -/
theorem zipIdx_lt {α : Type} {n : Nat} {v : Vector α n} {p : α × Nat} (h : p ∈ v.toList.zipIdx) : p.2 < n := by
  obtain ⟨-, lt, -⟩ := List.mem_zipIdx h
  simpa using lt

theorem Device.follows_diagHolds (r : DiagRun) : d.follows (d.diagHolds r) := by
  refine Device.follows_foldl _ _ d fun p _ d => ?_
  split
  · exact .refl d
  · split
    · exact d.follows_put _ (by decide)
    · split
      · exact d.follows_put _ (by decide)
      · exact .refl d

theorem Device.follows_diagEnd (r : DiagRun) (aborted : Bool) : d.follows (d.diagEnd r aborted) := by
  unfold Device.diagEnd
  refine Device.follows.trans ?_ (.ite (.refl _) (Device.follows_raise _ (by decide) 0 []))
  refine Device.follows.trans ?_ (Device.follows_fire _ (by decide))
  refine Device.follows.trans ?_ (Device.follows_log _ _ _ _ _)
  refine Device.follows.trans ?_ (.ite (Device.follows_put _ _ (by decide))
    (.ite (Device.follows_put _ _ (by decide)) (Device.follows_put _ _ (by decide))))
  refine Device.follows.trans ?_ (Device.follows_put _ _ (by decide))
  refine Device.follows.trans ?_ (Device.follows_put _ _ (by decide))
  refine Device.follows.trans ?_ (Device.follows_with _ _ _ _ _ _ _)
  refine Device.follows.trans ?_ (Device.follows_diagHolds _ r)
  refine Device.follows_foldl _ _ d fun p hp d => .ite (d.follows_diagWriteResult ?_ _) (.refl d)
  have := zipIdx_lt hp
  omega

theorem Device.follows_diagAbort : d.follows d.diagAbort := by
  unfold Device.diagAbort
  split
  · exact .refl d
  · exact d.follows_diagEnd _ _

theorem Device.follows_diagStop : d.follows d.diagStop := by
  unfold Device.diagStop
  split
  · exact .refl d
  · refine .ite (.refl d) ?_
    split
    · exact d.follows_with _ _ _ _ _ _
    · exact d.follows_diagEnd _ _

/-! ### The clock and the ring (R183, R553, R558) -/

theorem Device.follows_holdTrim (mode : Nat) (mean : Bool) : d.follows (d.holdTrim mode mean) := by
  obtain ⟨t, data, eq⟩ := d.holdTrim_eq mode mean
  have puts : ∀ (e : Device) (f : Fld) (v : Nat), f ∈ selectionFields → e.follows (e.put f v) := fun e f v hf =>
    e.follows_put v ((by decide : ∀ f ∈ selectionFields, f.addr / 0x10000 ∈ followingBlocks) f hf)
  rw [eq]
  refine Device.follows.trans ?_ (Device.follows_raise _ (by decide) _ _)
  refine Device.follows.trans ?_ (puts _ _ _ (by decide))
  refine Device.follows.trans ?_ (puts _ _ _ (by decide))
  refine Device.follows.trans ?_ (puts _ _ _ (by decide))
  exact (puts d _ _ (by decide)).trans (puts _ _ _ (by decide))

theorem Device.follows_loseRing : d.follows d.loseRing := by
  have lose : ∀ e : Device, e.follows e.loseReference := fun e => .ite (.refl e) (e.follows_holdTrim _ _)
  refine .ite (.refl d) (Device.follows.trans ?_ (lose _))
  refine Device.follows.trans ?_ (Device.follows_put _ _ (by decide))
  exact (d.follows_with _ _ _ _ _ _).trans (Device.follows_put _ _ (by decide))

theorem Device.follows_leaveFrame (s : Side) (reason : Nat) : d.follows (d.leaveFrame s reason) := by
  cases s <;> exact d.follows_ring rfl

theorem Device.follows_leaveRing (reason : Nat) : d.follows (d.leaveRing reason) := by
  refine .ite (.refl d) (Device.follows.trans ?_ (Device.follows_loseRing _))
  refine Device.follows.trans ?_ (Device.follows_ring _ rfl)
  refine Device.follows.trans ?_ (Device.follows_put _ _ (by decide))
  refine Device.follows.trans ?_ (Device.follows_put _ _ (by decide))
  refine Device.follows.trans ?_ (Device.follows_put _ _ (by decide))
  refine Device.follows.trans ?_ (Device.follows_put _ _ (by decide))
  exact ((d.follows_leaveFrame .a reason).trans (Device.follows_leaveFrame _ .b reason)).trans (Device.follows_ring _ rfl)

theorem Device.follows_enterWrap (mode : Nat) : d.follows (d.enterWrap mode) :=
  ((d.follows_put _ (by decide)).trans (Device.follows_put _ _ (by decide))).trans
    (Device.follows_raise _ (by decide) 0 [])

theorem Device.follows_trnModeUpdate : d.follows d.trnModeUpdate := by
  have mode : ∀ n, d.follows (d.put F.TRN_STAT_MODE n) := fun n => d.follows_put n (by decide)
  exact .ite (mode 0) (.ite (mode 6) (.ite (.ite (.refl d) (.ite (d.follows_enterWrap _) (mode _))) (mode 5)))

/-! ### The queues of the clients (R600, R607) -/

theorem Device.follows_setPort (c : Client) (h : Hp) : d.follows (d.setPort c h) := by
  cases c <;> exact d.follows_with _ _ _ _ _ _

theorem Device.follows_creqDone (status extra : Nat) (data : List Byte) : d.follows (d.creqDone status extra data) := by
  have stored : d.follows (d.bufferWrite (d.get F.TXN_CBUF_ADDR * 4) data) := by
    refine .ite ?_ (.refl d)
    rw [Device.setBytes_eq]
    exact d.follows_with _ _ _ _ _ _
  refine Device.follows.trans ?_ (Device.follows_put _ _ (by decide))
  refine Device.follows.trans ?_ (Device.follows_put _ _ (by decide))
  refine Device.follows.trans ?_ (Device.follows_put _ _ (by decide))
  exact stored.trans (Device.follows_put _ _ (by decide))

theorem Device.follows_deliverResponse (fuel : Nat) (c : Client) (k : Cmd) (payload : List Byte) :
    d.follows (d.deliverResponse fuel c k payload) := by
  induction fuel generalizing d c k payload with
  | zero => exact .refl d
  | succ fuel ih =>
    unfold Device.deliverResponse
    split
    · exact d.follows_setPort _ _
    · exact Device.follows_foldl _ _ d fun p _ d => d.follows_ring rfl
    · exact d.follows_creqDone _ _ _
    · next o _ =>
      dsimp only
      have late : d.follows (d.bump (F.HP_CNT2_RELAYLATE o.idx)) := d.follows_put _ (by cases o <;> decide)
      split
      · exact late
      · exact late
      · exact (d.follows_setPort _ _).trans (ih _ _ _ _)

theorem Device.follows_finishCmd (c : Client) (k : Cmd) (payload : List Byte) : d.follows (d.finishCmd c k payload) := by
  unfold Device.finishCmd
  refine Device.follows.trans ?_ (Device.follows_deliverResponse _ _ _ _ _)
  split
  · exact .refl d
  · exact d.follows_setPort _ _

theorem Device.follows_abortQueue (c : Client) : d.follows (d.abortQueue c) := by
  unfold Device.abortQueue
  have gone := fun (e : Device) (l : List Cmd) =>
    Device.follows_foldl (fun d k => d.finishCmd c k (respPayload 0x0E 0 [])) l e fun k _ d => d.follows_finishCmd c k _
  dsimp only
  split
  · refine Device.follows.trans ?_ (Device.follows_log _ _ _ _ _)
    refine Device.follows.trans ?_ (Device.follows_put _ _ (by cases c <;> decide))
    exact (d.follows_setPort _ _).trans (gone _ _)
  · exact (d.follows_setPort _ _).trans (gone _ _)

end Steps

end Sys2Proof.Machine
end

section
/-! PROOFS. How a fault stands the device down: what is in progress ends, the outputs go to their safe levels, the main
switch opens for the faults that ask for it (R227). -/

namespace Sys2Proof.Machine

/-- EN_MAIN and PCHG are low and MAIN reads OPEN (R218). -/
def Device.shut (d : Device) : Prop := d.pwr.enMain = false ∧ d.pwr.pchg = false ∧ d.get F.PWR_STAT_MAIN = 0

/-- The fields that standing down writes. -/
def downFields : List Fld := [F.PWR_STAT_STATE, F.PWR_STAT_PHASE, F.PWR_STAT_MAIN, F.PWR_CMD_STAT_RESULT,
  F.PWR_CMD_STAT_REASON, F.PWR_FAULT_FIRST_BIT, F.MOD_OVERRIDE_EN]

theorem downFields_fault : ∀ f ∈ downFields, R.PWR_FAULT ≠ f.addr := by decide

theorem downFields_fit : ∀ f ∈ downFields, f.fits = true := by decide

/-- A field that standing down leaves alone: of a block that does not follow the power block, outside the log's and the event
controller's own words, outside PWR_FAULT, and none of those it writes. -/
def Fld.firm (g : Fld) : Prop := g.addr / 0x10000 ∉ followingBlocks ∧ g.addr ∉ noteWords ∧ g.addr ≠ R.PWR_FAULT ∧
  ∀ f ∈ downFields, f.apart g = true

/-- The sources that a fault may raise on its way to SAFE: those of the power stage, of an aborted run, of the clock and of
the ring. -/
def downSources : List Nat := [7, 16, 17, 18, 19, 20, 21, 23, 24, 41, 42, 97]

/-- From `d` to `e` the device has stood down: no supply has changed, no half-bridge has been released, a main switch that
is open stays so, SAFE is not left, no transition has begun, no latched fault has cleared, and the other sources and the firm
fields are as they were. -/
structure Device.standsDown (d e : Device) : Prop where
  seq : e.pwr.seq = d.pwr.seq
  half : e.stage.half = d.stage.half
  taking : e.evc.taking = d.evc.taking
  shut : d.shut → e.shut
  safe : d.get F.PWR_STAT_STATE = 4 → e.get F.PWR_STAT_STATE = 4
  busy : e.pwr.busy = d.pwr.busy ∨ e.pwr.busy = .none
  source : ∀ n : Fin 128, n.val ∉ downSources → e.source n = d.source n
  get : ∀ g : Fld, g.firm → e.get g = d.get g
  latched : ∀ i, (d.word R.PWR_FAULT).getLsbD i = true → (e.word R.PWR_FAULT).getLsbD i = true

theorem Device.standsDown.refl (d : Device) : d.standsDown d :=
  ⟨rfl, rfl, rfl, id, id, .inl rfl, fun _ _ => rfl, fun _ _ => rfl, fun _ => id⟩

theorem Device.standsDown.trans {d e f : Device} (h : d.standsDown e) (k : e.standsDown f) : d.standsDown f :=
  ⟨k.seq.trans h.seq, k.half.trans h.half, k.taking.trans h.taking, k.shut ∘ h.shut, k.safe ∘ h.safe,
    k.busy.elim (fun same => h.busy.imp same.trans same.trans) .inr, fun n hn => (k.source n hn).trans (h.source n hn),
    fun g firm => (k.get g firm).trans (h.get g firm), fun i set => k.latched i (h.latched i set)⟩

theorem Device.standsDown.ite {d a b : Device} {p : Prop} [Decidable p] (ha : d.standsDown a) (hb : d.standsDown b) :
    d.standsDown (if p then a else b) := by
  split
  · exact ha
  · exact hb

/-- Where no transition is in progress, none is after standing down. -/
theorem Device.standsDown.idle {d e : Device} (h : d.standsDown e) (idle : d.pwr.busy = .none) : e.pwr.busy = .none :=
  h.busy.elim (·.trans idle) id

/-- A word without a field that standing down writes is as it was. -/
theorem Device.standsDown.word {d e : Device} (h : d.standsDown e) {a : Nat} (block : a / 0x10000 ∉ followingBlocks)
    (note : a ∉ noteWords) (free : a ∉ R.PWR_FAULT :: downFields.map Fld.addr) : e.word a = d.word a := by
  rw [List.mem_cons, not_or] at free
  have apart : ∀ f ∈ downFields, f.apart ⟨a, 0, 32⟩ = true := fun f hf => by
    have : f.addr ≠ a := fun e => free.2 (e ▸ List.mem_map_of_mem hf)
    simp [Fld.apart, this]
  have same := h.get ⟨a, 0, 32⟩ ⟨block, note, free.1, apart⟩
  refine BitVec.eq_of_toNat_eq ?_
  rw [← fieldOf_whole, ← fieldOf_whole]
  exact same

section Steps

variable {d e : Device}

theorem followsSources : ∀ n : Fin 128, n.val ∈ [7, 41, 42, 97] → n.val ∈ downSources := by decide

theorem Device.follows.standsDown (h : d.follows e) : d.standsDown e := by
  have stat : ∀ f : Fld, f.addr = R.PWR_STAT → e.get f = d.get f := fun f hf =>
    h.get (by rw [hf]; decide) (by rw [hf]; decide)
  refine ⟨by rw [h.pwr], h.half, h.taking, fun ⟨main, pchg, pin⟩ => ?_, fun safe => (stat _ rfl).trans safe,
    .inl (by rw [h.pwr]), fun n hn => h.source n fun mem => hn (followsSources n mem), fun g firm => h.get firm.1 firm.2.1, fun i set => ?_⟩
  · exact ⟨h.pwr ▸ main, h.pwr ▸ pchg, (stat _ rfl).trans pin⟩
  · rwa [h.word _ (by decide) (by decide)]

variable (d)

theorem Device.standsDown_raise {n : Nat} (hn : n ∈ downSources) (detail : Nat) (data : List Byte) :
    d.standsDown (d.raise n detail data) := by
  have noted := d.raise_noted n detail data
  have stat : ∀ f : Fld, f.addr ∉ noteWords → (d.raise n detail data).get f = d.get f := fun f hf =>
    Device.get_eq_of_word (noted.word hf)
  refine ⟨by rw [noted.pwr], by rw [noted.stage], ?_, fun ⟨main, pchg, pin⟩ => ?_,
    fun safe => (stat _ (by decide)).trans safe, by rw [noted.pwr]; exact .inl rfl,
    fun m hm => ?_, fun g firm => stat g firm.2.1, fun i set => ?_⟩
  · exact (Device.log_taking ..).trans (d.fire_taking n)
  · exact ⟨by rw [noted.pwr, main], by rw [noted.pwr, pchg], (stat _ (by decide)).trans pin⟩
  · exact (Device.log_source ..).trans (d.fire_source_ne fun e => hm (e ▸ hn))
  · rwa [noted.word (by decide)]

/-- A field that standing down writes, other than STATE and MAIN. -/
theorem Device.standsDown_put {f : Fld} (v : Nat) (hf : f ∈ downFields) (state : f.apart F.PWR_STAT_STATE = true)
    (main : f.apart F.PWR_STAT_MAIN = true) : d.standsDown (d.put f v) := by
  have fits := downFields_fit f hf
  exact ⟨rfl, rfl, rfl, fun ⟨en, pchg, pin⟩ => ⟨en, pchg, (d.get_put_apart _ _ _ fits main).trans pin⟩,
    fun safe => (d.get_put_apart _ _ _ fits state).trans safe, .inl rfl, fun _ _ => rfl,
    fun g firm => d.get_put_apart _ _ _ fits (firm.2.2.2 f hf),
    fun _ => (d.word_put_ne _ _ (downFields_fault f hf)).symm ▸ id⟩

theorem Device.standsDown_safe : d.standsDown (d.put F.PWR_STAT_STATE 4) :=
  ⟨rfl, rfl, rfl, fun ⟨en, pchg, pin⟩ => ⟨en, pchg, (d.get_put_apart _ _ _ (by decide) (by decide)).trans pin⟩,
    fun _ => d.get_put_lt _ (by decide) (by decide), .inl rfl, fun _ _ => rfl,
    fun g firm => d.get_put_apart _ _ _ (by decide) (firm.2.2.2 _ (by decide)),
    fun _ => (d.word_put_ne F.PWR_STAT_STATE 4 (a := R.PWR_FAULT) (by decide)).symm ▸ id⟩

theorem Device.standsDown_setDrive (m : Drive) : d.standsDown (d.setDrive m) :=
  ⟨rfl, rfl, rfl, id, id, .inl rfl, fun _ _ => rfl, fun _ _ => rfl, fun _ => id⟩

theorem Device.standsDown_txn (txn : Txn) : d.standsDown { d with txn := txn } :=
  ⟨rfl, rfl, rfl, id, id, .inl rfl, fun _ _ => rfl, fun _ _ => rfl, fun _ => id⟩

/-- The latched faults are no firm field. -/
theorem Device.standsDown_withFault (bit : Nat) : d.standsDown (d.withFault bit) :=
  have kept : ∀ g : Fld, g.addr ≠ R.PWR_FAULT → (d.withFault bit).get g = d.get g := fun g => d.get_setWord_ne _ _ g
  ⟨rfl, rfl, rfl, fun ⟨en, pchg, pin⟩ => ⟨en, pchg, (kept _ (by decide)).trans pin⟩,
    fun safe => (kept _ (by decide)).trans safe, .inl rfl, fun _ _ => rfl, fun g firm => kept g firm.2.2.1,
    fun i set => by rw [Device.withFault, Device.word_setWord_same, BitVec.getLsbD_or, set, Bool.true_or]⟩

theorem Device.openMain_shut : d.openMain.shut := ⟨rfl, rfl, Device.get_put_lt _ _ (by decide) (by decide)⟩

theorem Device.standsDown_openMain : d.standsDown d.openMain :=
  ⟨rfl, rfl, rfl, fun _ => d.openMain_shut, fun safe => (Device.get_put_apart _ _ _ _ (by decide) (by decide)).trans safe,
    .inl rfl, fun _ _ => rfl,
    fun g firm => Device.get_put_apart _ _ _ _ (by decide) (firm.2.2.2 _ (by decide)),
    fun _ => (Device.word_put_ne _ F.PWR_STAT_MAIN _ (a := R.PWR_FAULT) (by decide)).symm ▸ id⟩

/-- A precharge that ends: PCHG is low, and MAIN shows whether EN_MAIN is high. -/
theorem Device.standsDown_endPrecharge :
    d.standsDown ({ d with pwr.pchg := false, pwr.pre := .idle }.put F.PWR_STAT_MAIN (if d.pwr.enMain then 2 else 0)) := by
  refine ⟨rfl, rfl, rfl, fun ⟨en, _, _⟩ => ⟨en, rfl, ?_⟩,
    fun safe => (Device.get_put_apart _ _ _ _ (by decide) (by decide)).trans safe, .inl rfl, fun _ _ => rfl,
    fun g firm => Device.get_put_apart _ _ _ _ (by decide) (firm.2.2.2 _ (by decide)),
    fun _ => (Device.word_put_ne _ F.PWR_STAT_MAIN _ (a := R.PWR_FAULT) (by decide)).symm ▸ id⟩
  rw [en]
  exact Device.get_put_lt _ _ (by decide) (by decide)

theorem Device.standsDown_finishRequest (result reason : Nat) : d.standsDown (d.finishRequest result reason) :=
  .ite ((d.standsDown_put _ (by decide) (by decide) (by decide)).trans
    (Device.standsDown_put _ _ (by decide) (by decide) (by decide))) (.refl d)

theorem Device.standsDown_endClose : d.standsDown d.endClose := .ite d.standsDown_endPrecharge (.refl d)

theorem Device.abandon_busy (reason : Nat) : (d.abandon reason).pwr.busy = .none := rfl

theorem Device.standsDown_abandon (reason : Nat) : d.standsDown (d.abandon reason) := by
  have ended : d.standsDown (if d.pwr.busy == .none then d else d.finishRequest 3 reason) :=
    .ite (.refl d) (d.standsDown_finishRequest 3 reason)
  have supplied : ∀ e : Device, e.standsDown (if e.pwr.busy == .iceEntry then
      { e with pwr.enAux := e.pwr.enAux.set 2 true, pwr.pgto3 := true } else e) := fun e =>
    .ite ⟨rfl, rfl, rfl, id, id, .inl rfl, fun _ _ => rfl, fun _ _ => rfl, fun _ => id⟩ (.refl e)
  have freed : ∀ e : Device, e.standsDown { e with pwr.busy := .none, pwr.gainPos := 0 } := fun e =>
    ⟨rfl, rfl, rfl, id, id, .inr rfl, fun _ _ => rfl, fun _ _ => rfl, fun _ => id⟩
  exact (ended.trans (supplied _)).trans (freed _)

theorem Device.enterSafe_follows (reason : Nat) : ∃ x : Device, d.standsDown x ∧ x.get F.PWR_STAT_STATE = 4 ∧
    x.pwr.busy = .none ∧ x.standsDown (d.enterSafe reason) := by
  refine ⟨(d.abandon reason).put F.PWR_STAT_STATE 4, (d.standsDown_abandon reason).trans (Device.standsDown_safe _),
    Device.get_put_lt _ _ (by decide) (by decide), d.abandon_busy reason, ?_⟩
  unfold Device.enterSafe
  refine Device.standsDown.trans ?_ (Device.follows_log _ _ _ _ _).standsDown
  refine Device.standsDown.trans ?_ (Device.standsDown_txn _ _)
  refine Device.standsDown.trans ?_ (Device.standsDown_setDrive _ _)
  refine Device.standsDown.trans ?_ (Device.standsDown_put _ _ (by decide) (by decide) (by decide))
  exact Device.standsDown_put _ _ (by decide) (by decide) (by decide)

theorem Device.standsDown_enterSafe (reason : Nat) : d.standsDown (d.enterSafe reason) := by
  obtain ⟨x, h, -, -, k⟩ := d.enterSafe_follows reason
  exact h.trans k

theorem Device.standsDown_faultOpensMain (bit : Nat) : d.standsDown (d.faultOpensMain bit) :=
  .ite (.ite (d.standsDown_openMain.trans (Device.standsDown_finishRequest _ 3 3)) d.standsDown_openMain) (.refl d)

/-- PRES_LOST, BROWNOUT, PCHG_TIMEOUT and DRV_SUPPLY open the main switch whatever OPEN_ON_FAULT holds. -/
theorem Device.faultOpensMain_shut {bit : Nat} (opens : bit < 4) : (d.faultOpensMain bit).shut := by
  rw [Device.faultOpensMain, if_pos (by simp [opens])]
  dsimp only
  split
  · exact (Device.standsDown_finishRequest _ 3 3).shut d.openMain_shut
  · exact d.openMain_shut

/-! ### A fault latches -/

/-- What a latched fault does of the power sequence (R227). -/
def Device.faultStops (d : Device) (why : Nat) (running safe : Bool) : Device :=
  if running && !safe then (d.enterSafe why).diagAbort
  else if d.playEntering then (((d.endClose.abandon why).put F.PWR_STAT_PHASE 0).setDrive .safe).diagAbort
  else if running then d.diagAbort
  else (d.setDrive .safe).diagAbort

theorem Device.standsDown_diagAbort : d.standsDown d.diagAbort := d.follows_diagAbort.standsDown

theorem Device.standsDown_faultStops (why : Nat) (running safe : Bool) : d.standsDown (d.faultStops why running safe) := by
  refine .ite ((d.standsDown_enterSafe why).trans (Device.standsDown_diagAbort _))
    (.ite (Device.standsDown.trans ?_ (Device.standsDown_diagAbort _))
      (.ite d.standsDown_diagAbort ((d.standsDown_setDrive _).trans (Device.standsDown_diagAbort _))))
  refine Device.standsDown.trans ?_ (Device.standsDown_setDrive _ _)
  refine Device.standsDown.trans ?_ (Device.standsDown_put _ _ (by decide) (by decide) (by decide))
  exact d.standsDown_endClose.trans (Device.standsDown_abandon _ why)

/-- From a running state other than SAFE the device enters SAFE, and no transition is in progress there. -/
theorem Device.faultStops_safe (why : Nat) :
    (d.faultStops why true false).get F.PWR_STAT_STATE = 4 ∧ (d.faultStops why true false).pwr.busy = .none := by
  obtain ⟨x, -, state, idle, rest⟩ := d.enterSafe_follows why
  have stopped : x.standsDown (d.faultStops why true false) := rest.trans (Device.standsDown_diagAbort _)
  exact ⟨stopped.safe state, stopped.idle idle⟩

variable {d} {bit : Nat} {entry : Device → Device} (he : ∀ d : Device, d.standsDown (entry d))
  (fresh : (d.word R.PWR_FAULT).getLsbD bit = false)

/-- The device with a bit of PWR_FAULT latched, its entry written and the main switch opened as the fault asks. -/
def Device.faultNoted (d : Device) (bit : Nat) (entry : Device → Device) : Device :=
  (entry (if d.isState 4 && d.running then d.withFault bit
    else (d.withFault bit).put F.PWR_FAULT_FIRST_BIT bit)).faultOpensMain bit

include fresh

theorem Device.latchFault_eq : d.latchFault bit entry =
    (d.faultNoted bit entry).faultStops (if bit == 0 then 4 else 3) d.running (d.isState 4 && d.running) :=
  if_neg (by rw [show (d.word R.PWR_FAULT).toNat.testBit bit = false from fresh]; exact Bool.false_ne_true)

/-- A transition in progress ends with the entry into SAFE. -/
theorem Device.latchFault_idle (running : d.running = true) (state : d.get F.PWR_STAT_STATE ≠ 4) :
    (d.latchFault bit entry).pwr.busy = .none := by
  have safe : d.isState 4 = false := beq_false_of_ne state
  rw [Device.latchFault_eq fresh, running, safe]
  exact (Device.faultStops_safe _ _).2

theorem Device.latchFault_shut (opens : bit < 4) : (d.latchFault bit entry).shut := by
  rw [Device.latchFault_eq fresh]
  exact (Device.standsDown_faultStops _ _ _ _).shut (Device.faultOpensMain_shut _ opens)

include he

omit fresh in
theorem Device.standsDown_faultNoted : d.standsDown (d.faultNoted bit entry) := by
  refine Device.standsDown.trans (Device.standsDown.trans ?_ (he _)) (Device.standsDown_faultOpensMain _ bit)
  exact .ite (d.standsDown_withFault bit) ((d.standsDown_withFault bit).trans
    (Device.standsDown_put _ _ (by decide) (by decide) (by decide)))

theorem Device.standsDown_latchFault : d.standsDown (d.latchFault bit entry) := by
  rw [Device.latchFault_eq fresh]
  exact (Device.standsDown_faultNoted he).trans (Device.standsDown_faultStops _ _ _ _)

/-- A fault that latches in a running state leads to SAFE. -/
theorem Device.latchFault_state (running : d.running = true) : (d.latchFault bit entry).get F.PWR_STAT_STATE = 4 := by
  cases safe : d.isState 4 with
  | true => exact (Device.standsDown_latchFault he fresh).safe (beq_iff_eq.1 safe)
  | false =>
    rw [Device.latchFault_eq fresh, running, safe]
    exact (Device.faultStops_safe _ _).1

end Steps

/-! ### A fault that has an entry of its own (R654) -/

section Power

variable (d : Device) {bit : Nat} (data : List Byte) (fresh : (d.word R.PWR_FAULT).getLsbD bit = false)
include fresh

theorem Device.powerFault_latches : d.powerFault bit data = d.latchFault bit fun d => d.log 131 4 bit data :=
  if_neg (by rw [show (d.word R.PWR_FAULT).toNat.testBit bit = false from fresh, Bool.false_and]; exact Bool.false_ne_true)

theorem Device.standsDown_powerFault : d.standsDown (d.powerFault bit data) := by
  rw [d.powerFault_latches data fresh]
  exact Device.standsDown_latchFault (fun d => (d.follows_log _ _ _ _).standsDown) fresh

theorem Device.powerFault_state (running : d.running = true) : (d.powerFault bit data).get F.PWR_STAT_STATE = 4 := by
  rw [d.powerFault_latches data fresh]
  exact Device.latchFault_state (fun d => (d.follows_log _ _ _ _).standsDown) fresh running

theorem Device.powerFault_idle (running : d.running = true) (state : d.get F.PWR_STAT_STATE ≠ 4) :
    (d.powerFault bit data).pwr.busy = .none := by
  rw [d.powerFault_latches data fresh]
  exact Device.latchFault_idle fresh running state

theorem Device.powerFault_shut (opens : bit < 4) : (d.powerFault bit data).shut := by
  rw [d.powerFault_latches data fresh]
  exact Device.latchFault_shut fresh opens

end Power

end Sys2Proof.Machine
end

section
/-! PROOFS. The requests of PWR_CMD (O34; R207 to R211, R220, R224 to R232). -/

namespace Sys2Proof.Machine

/-! ### The write of PWR_CMD (R208, R243) -/

/-- PWR_CMD, R243. -/
def specPwrCmd : RegSpec := ⟨0x40020004, 1, 0x4, false, 0x0, [⟨0, 4, .wo, .neu, false⟩]⟩

theorem regFind_pwrCmd : regFind R.PWR_CMD = some specPwrCmd := by decide

/-- The device that has noted a request in PWR_CMD_STAT: the write itself leaves the word of PWR_CMD as it was. -/
def Device.asked (d : Device) (code : Nat) : Device := (d.setWord R.PWR_CMD (d.word R.PWR_CMD)).requested code

theorem Device.requestWrite_eq {d : Device} {m : Master} {code : Nat} (run : d.coreRuns = true)
    (may : d.masterMay m R.PWR_CMD (BitVec.ofNat 32 code) = true) (lo : 1 ≤ code) (hi : code ≤ 9) :
    d.requestWrite m code =
      (d.setWord R.PWR_CMD (d.word R.PWR_CMD)).pwrCommand m (d.masterPriv m) code := by
  have small : (BitVec.ofNat 32 code).toNat % 16 = code := by
    rw [BitVec.toNat_ofNat]
    omega
  have act : d.actReserved m (d.masterPriv m) R.PWR_CMD (BitVec.ofNat 32 code) = false := by
    rw [show d.actReserved m (d.masterPriv m) R.PWR_CMD (BitVec.ofNat 32 code) =
      decide (0xA ≤ (BitVec.ofNat 32 code).toNat % 16) from rfl, small]
    exact decide_eq_false (by omega)
  have open_ : d.hostOnlyClear m R.PWR_CMD (BitVec.ofNat 32 code) = false := Bool.and_false _
  rw [Device.requestWrite, Device.directWrite_register run may (by decide) (by decide) (by decide),
    Device.regWrite_acts_alone regFind_pwrCmd (by decide) (by decide) (by decide) (by decide) act open_]
  show Device.pwrCommand _ m _ ((BitVec.ofNat 32 code).toNat % 16) = _
  rw [small]

section Asked

variable (d : Device) (code : Nat)

theorem Device.asked_word {a : Nat} (h : a ≠ R.PWR_CMD_STAT) : (d.asked code).word a = d.word a :=
  (Device.requested_word _ code h).trans (d.setWord_self_word _ a)

theorem Device.asked_get {f : Fld} (h : f.addr ≠ R.PWR_CMD_STAT) : (d.asked code).get f = d.get f :=
  Device.get_eq_of_word (d.asked_word code h)

theorem Device.asked_running : (d.asked code).running = d.running := by
  have state : (d.asked code).get F.PWR_STAT_STATE = d.get F.PWR_STAT_STATE := d.asked_get code (by decide)
  have pwr : (d.asked code).pwr = d.pwr := rfl
  simp only [Device.running, Device.isState, state, pwr]

/-- What is held against a request does not depend on the write that asks for it. -/
theorem Device.rewritten_requestBars (n : Nat) :
    (d.setWord R.PWR_CMD (d.word R.PWR_CMD)).requestBars n = d.requestBars n := by
  have word : ∀ a, (d.setWord R.PWR_CMD (d.word R.PWR_CMD)).word a = d.word a := d.setWord_self_word _
  have get : ∀ f, (d.setWord R.PWR_CMD (d.word R.PWR_CMD)).get f = d.get f := fun f => Device.get_eq_of_word (word _)
  have busy : (d.setWord R.PWR_CMD (d.word R.PWR_CMD)).powerBusy = d.powerBusy := rfl
  have stopped : (d.setWord R.PWR_CMD (d.word R.PWR_CMD)).streamStopped = d.streamStopped := rfl
  have flight : (d.setWord R.PWR_CMD (d.word R.PWR_CMD)).txnInFlight = d.txnInFlight := rfl
  simp only [Device.requestBars, Device.running, Device.isState, Device.playBars, Device.anyFault, Device.flag,
    Device.prechargeBars, Device.noOpeningFault, word, get, busy, stopped, flight, Device.setWord_pwr]
  rfl

theorem Device.asked_requestBars (n : Nat) : (d.asked code).requestBars n = d.requestBars n :=
  (Device.requested_requestBars _ code n).trans (d.rewritten_requestBars n)

theorem Device.asked_requestRefused (m : Master) (priv : Bool) (n : Nat) :
    (d.asked code).requestRefused m priv n = d.requestRefused m priv n := by
  have mask : ∀ x < 2, (d.asked code).get (F.HP_PRIV_MASK x) = d.get (F.HP_PRIV_MASK x) := fun x hx =>
    d.asked_get code (f := F.HP_PRIV_MASK x) ((by decide : ∀ x < 2, (F.HP_PRIV_MASK x).addr ≠ R.PWR_CMD_STAT) x hx)
  cases m <;> simp only [Device.requestRefused, mask 0 (by decide), mask 1 (by decide)]

end Asked

/-- The reason for which a request is refused: the asker's rights, what is in progress, what the state holds against it. -/
def Device.requestJudged (d : Device) (m : Master) (code : Nat) : Option Nat :=
  (d.requestRefused m (d.masterPriv m) code).or
    (if d.powerBusy && !(code == 1 || code == 5 || code == 9) then some 1 else d.requestBars code)

/-- A request is refused with its reason, or it acts. -/
theorem Device.requestWrite_judged {d : Device} {m : Master} {code : Nat} (run : d.coreRuns = true)
    (may : d.masterMay m R.PWR_CMD (BitVec.ofNat 32 code) = true) (lo : 1 ≤ code) (hi : code ≤ 9) :
    d.requestWrite m code = (d.requestJudged m code).elim ((d.asked code).acceptRequest m code)
      fun r => (d.asked code).answerRequest 3 r := by
  have busy : (d.asked code).powerBusy = d.powerBusy := rfl
  have code0 : (code == 0) = false := beq_false_of_ne (by omega)
  rw [Device.requestWrite_eq run may lo hi, Device.requestJudged, ← d.asked_requestRefused code, ← d.asked_requestBars code,
    ← busy]
  unfold Device.pwrCommand
  simp only [code0, Bool.false_eq_true, if_false]
  simp only [show (d.setWord R.PWR_CMD (d.word R.PWR_CMD)).put F.PWR_CMD_STAT_REQ code = d.asked code from rfl]
  cases refused : (d.asked code).requestRefused m (d.masterPriv m) code with
  | some r => rfl
  | none =>
    rw [Option.none_or]
    cases wait : (d.asked code).powerBusy && !(code == 1 || code == 5 || code == 9) with
    | true => rfl
    | false => cases (d.asked code).requestBars code <;> rfl

/-! ### The answer -/

/-- PWR_CMD_STAT shows a request with its result and its reason. -/
def Device.shows (d : Device) (code result reason : Nat) : Prop := d.get F.PWR_CMD_STAT_REQ = code ∧
  d.get F.PWR_CMD_STAT_RESULT = result ∧ d.get F.PWR_CMD_STAT_REASON = reason

theorem Device.asked_req (d : Device) {code : Nat} (h : code < 16) : (d.asked code).get F.PWR_CMD_STAT_REQ = code :=
  Device.get_put_lt _ _ (by decide) h

section Answer

variable {d x y : Device} {code result reason : Nat}

theorem Device.shows_answerRequest (req : x.get F.PWR_CMD_STAT_REQ = code) (hr : result < 4) (hq : reason < 16) :
    (x.answerRequest result reason).shows code result reason := by
  simp (disch := decide) only [Device.shows, Device.answerRequest, Device.get_put_same, Device.get_put_apart]
  exact ⟨req, Nat.mod_eq_of_lt hr, Nat.mod_eq_of_lt hq⟩

theorem Device.answerRequest_word {a : Nat} (h : a ≠ R.PWR_CMD_STAT) : (x.answerRequest result reason).word a = x.word a :=
  (Device.word_put_ne _ _ _ h).trans (Device.word_put_ne _ _ _ h)

theorem Device.answerRequest_other {f : Fld} (h : f.addr ≠ R.PWR_CMD_STAT) :
    (x.answerRequest result reason).get f = x.get f :=
  Device.get_eq_of_word (Device.answerRequest_word h)

theorem Device.shows.congr (h : x.shows code result reason) (same : y.word R.PWR_CMD_STAT = x.word R.PWR_CMD_STAT) :
    y.shows code result reason := by
  have get : ∀ f : Fld, f.addr = R.PWR_CMD_STAT → y.get f = x.get f := fun f hf =>
    Device.get_eq_of_word (by rw [hf]; exact same)
  exact ⟨(get _ rfl).trans h.1, (get _ rfl).trans h.2.1, (get _ rfl).trans h.2.2⟩

/-- A refused request changes PWR_CMD_STAT alone. -/
theorem Device.asked_refused (hc : code < 16) (hq : reason < 16) :
    let e := (d.asked code).answerRequest 3 reason
    e.shows code 3 reason ∧ e = { d with regs := e.regs } ∧ ∀ a, a ≠ R.PWR_CMD_STAT → e.word a = d.word a :=
  ⟨Device.shows_answerRequest (d.asked_req hc) (by decide) hq, rfl, fun _ h =>
    (Device.answerRequest_word h).trans (d.asked_word code h)⟩

end Answer

/-! ### What accepted requests do -/

section Accepted

variable {d : Device}

/-- PHASE PRESTART begins (R225): its run stands, and nothing else of PWR_STAT has changed. -/
theorem Device.startPrestart_shows (d : Device) : d.startPrestart.get F.PWR_STAT_PHASE = 1 ∧
    d.startPrestart.get F.PWR_STAT_STATE = d.get F.PWR_STAT_STATE ∧ d.startPrestart.pwr = d.pwr ∧
    d.startPrestart.diag.run.isSome = true ∧ d.startPrestart.word R.PWR_CMD_STAT = d.word R.PWR_CMD_STAT := by
  refine ⟨(Device.get_put_addr _ _ _ _ (by decide)).trans (Device.get_put_lt _ _ (by decide) (by decide)),
    (Device.get_put_addr _ _ _ _ (by decide)).trans (Device.get_put_apart _ _ _ _ (by decide) (by decide)), rfl, rfl, ?_⟩
  exact (Device.word_put_ne _ _ _ (by decide)).trans (Device.word_put_ne _ _ _ (by decide))

/-- The ramp-out of a PLAY that has reached its full gain (R226). -/
theorem Device.startRampOut_shows (steady : d.get F.PWR_STAT_PHASE = 0) : d.startRampOut.get F.PWR_STAT_PHASE = 4 ∧
    d.startRampOut.get F.PWR_STAT_STATE = d.get F.PWR_STAT_STATE ∧ d.startRampOut.pwr.busy = .rampOut ∧
    d.startRampOut.pwr.gainPos = 0 ∧ d.startRampOut.word R.PWR_CMD_STAT = d.word R.PWR_CMD_STAT := by
  have full : (d.get F.PWR_STAT_PHASE == 3) = false := by rw [steady]; rfl
  refine ⟨Device.get_put_lt _ _ (by decide) (by decide), Device.get_put_apart _ _ _ _ (by decide) (by decide), rfl, ?_,
    Device.word_put_ne _ _ _ (by decide)⟩
  show 512 - (if (d.get F.PWR_STAT_PHASE == 3) = true then min d.pwr.gainPos 512 else 512) = 0
  rw [full]
  rfl

variable {code : Nat} (req : d.get F.PWR_CMD_STAT_REQ = code)
include req

/-- An accepted PLAY request (R225). -/
theorem Device.acceptPlay_shows : d.acceptPlay.shows code 1 0 ∧
    d.acceptPlay.get F.PWR_STAT_STATE = d.get F.PWR_STAT_STATE ∧ d.acceptPlay.pwr.busy = .playEntry false ∧
    d.acceptPlay.get F.PWR_STAT_PHASE = 1 ∧ d.acceptPlay.diag.run.isSome = true := by
  obtain ⟨phase, state, pwr, run, stat⟩ :=
    ({ d with pwr.busy := .playEntry false, pwr.gainPos := 0 }.answerRequest 1 0).startPrestart_shows
  exact ⟨(Device.shows_answerRequest req (by decide) (by decide)).congr stat,
    state.trans (Device.answerRequest_other (by decide)), by rw [Device.acceptPlay, pwr]; rfl, phase, run⟩

/-- A READY request in steady PLAY (R226). -/
theorem Device.acceptReady_play (play : d.get F.PWR_STAT_STATE = 3) (idle : d.pwr.busy = .none)
    (steady : d.get F.PWR_STAT_PHASE = 0) : d.acceptReady.shows code 1 0 ∧
      d.acceptReady.get F.PWR_STAT_STATE = d.get F.PWR_STAT_STATE ∧ d.acceptReady.pwr.busy = .rampOut ∧
      d.acceptReady.get F.PWR_STAT_PHASE = 4 ∧ d.acceptReady.pwr.gainPos = 0 := by
  have stop := d.follows_diagStop
  have stat : ∀ f : Fld, f.addr ∈ [R.PWR_STAT, R.PWR_CMD_STAT] → d.diagStop.get f = d.get f := fun f hf =>
    stop.get ((by decide : ∀ a ∈ [R.PWR_STAT, R.PWR_CMD_STAT], a / 0x10000 ∉ followingBlocks) _ hf)
      ((by decide : ∀ a ∈ [R.PWR_STAT, R.PWR_CMD_STAT], a ∉ noteWords) _ hf)
  have eq : d.acceptReady = d.diagStop.startRampOut.answerRequest 1 0 :=
    if_pos (by simp [Device.isState, stat F.PWR_STAT_STATE (by decide), play, stop.pwr, idle])
  obtain ⟨phase, state, busy, gain, word⟩ :=
    Device.startRampOut_shows (d := d.diagStop) ((stat _ (by decide)).trans steady)
  have noted : d.diagStop.startRampOut.get F.PWR_CMD_STAT_REQ = code :=
    ((Device.get_eq_of_word word).trans (stat _ (by decide))).trans req
  rw [eq]
  exact ⟨Device.shows_answerRequest noted (by decide) (by decide),
    ((Device.answerRequest_other (by decide)).trans state).trans (stat _ (by decide)), busy,
    (Device.answerRequest_other (by decide)).trans phase, gain⟩

omit req in
/-- A precharge in progress is given up. -/
def Device.unprecharged (d : Device) : Device :=
  if d.pwr.pre == .idle then d
  else { d with pwr.pchg := false, pwr.pre := .idle }.put F.PWR_STAT_MAIN (if d.pwr.enMain then 2 else 0)

omit req in
/-- A precharge that is given up changes MAIN alone of the registers, and no transition. -/
theorem Device.unprecharged_shows (d : Device) : d.unprecharged.pwr.seq = d.pwr.seq ∧
    d.unprecharged.pwr.busy = d.pwr.busy ∧ d.unprecharged.get F.PWR_STAT_STATE = d.get F.PWR_STAT_STATE ∧
    ∀ a, a ≠ R.PWR_STAT → d.unprecharged.word a = d.word a := by
  unfold Device.unprecharged
  split
  · exact ⟨rfl, rfl, rfl, fun _ _ => rfl⟩
  · exact ⟨rfl, rfl, Device.get_put_apart _ _ _ _ (by decide) (by decide), fun _ h => Device.word_put_ne _ _ _ h⟩

omit req in
theorem Device.restDrive_word (d : Device) (a : Nat) : d.restDrive.word a = d.word a := by
  unfold Device.restDrive
  split <;> rfl

omit req in
/-- What giving up a transition does, by the transition (R209, R220). -/
def Device.turnsBack (d : Device) : PwrBusy → Device
  | .none | .rampOut => d
  | .stillWait => { d with pwr.busy := .none }
  | .iceEntry => { d.enAux 2 true with pwr.busy := .none, pwr.pgto3 := true }
  | .playEntry _ =>
    if d.get F.PWR_STAT_PHASE == 3 then d.startRampOut
    else ({ d with pwr.busy := .none, pwr.gainPos := 0 }.put F.PWR_STAT_PHASE 0).restDrive

omit req in
theorem Device.giveUp_eq (d : Device) : d.giveUp = d.unprecharged.turnsBack d.pwr.busy := by
  rw [← d.unprecharged_shows.2.1]
  rfl

omit req in
theorem Device.turnsBack_word (d : Device) (b : PwrBusy) {a : Nat} (h : a ≠ R.PWR_STAT) :
    (d.turnsBack b).word a = d.word a := by
  cases b with
  | none | rampOut | stillWait | iceEntry => rfl
  | playEntry exit =>
    simp only [Device.turnsBack]
    split
    · exact Device.word_put_ne _ _ _ h
    · exact (Device.restDrive_word _ a).trans (Device.word_put_ne _ _ _ h)

omit req in
/-- What is given up changes MAIN and PHASE alone of the registers. -/
theorem Device.giveUp_word (d : Device) {a : Nat} (h : a ≠ R.PWR_STAT) : d.giveUp.word a = d.word a := by
  obtain ⟨-, -, -, word⟩ := d.unprecharged_shows
  rw [Device.giveUp_eq]
  exact (Device.turnsBack_word _ _ h).trans (word a h)

/-- A READY request ends the wait for STILL (R209). -/
theorem Device.acceptReady_stillWait (ready : d.get F.PWR_STAT_STATE = 2) (wait : d.pwr.busy = .stillWait) :
    d.acceptReady.shows code 2 0 ∧ d.acceptReady.get F.PWR_STAT_STATE = d.get F.PWR_STAT_STATE ∧
      d.acceptReady.pwr.busy = .none := by
  have stop := d.follows_diagStop
  have stat : ∀ f : Fld, f.addr ∈ [R.PWR_STAT, R.PWR_CMD_STAT] → d.diagStop.get f = d.get f := fun f hf =>
    stop.get ((by decide : ∀ a ∈ [R.PWR_STAT, R.PWR_CMD_STAT], a / 0x10000 ∉ followingBlocks) _ hf)
      ((by decide : ∀ a ∈ [R.PWR_STAT, R.PWR_CMD_STAT], a ∉ noteWords) _ hf)
  have busy : d.diagStop.pwr.busy = .stillWait := by rw [stop.pwr, wait]
  have eq : d.acceptReady = d.diagStop.giveUp.answerRequest 2 0 := by
    unfold Device.acceptReady
    simp only [Device.isState, stat F.PWR_STAT_STATE (by decide), ready, Device.giveUp_eq, busy, Device.turnsBack]
    rfl
  have noted : d.diagStop.giveUp.get F.PWR_CMD_STAT_REQ = code :=
    ((Device.get_eq_of_word (Device.giveUp_word _ (by decide))).trans (stat _ (by decide))).trans req
  obtain ⟨-, -, state, -⟩ := d.diagStop.unprecharged_shows
  have kept : d.diagStop.giveUp.get F.PWR_STAT_STATE = d.diagStop.get F.PWR_STAT_STATE := by
    rw [Device.giveUp_eq, busy]
    exact state
  rw [eq]
  refine ⟨Device.shows_answerRequest noted (by decide) (by decide),
    ((Device.answerRequest_other (by decide)).trans kept).trans (stat _ (by decide)), ?_⟩
  rw [Device.giveUp_eq, busy]
  rfl

/-- An accepted ICE request (R211). -/
theorem Device.acceptIce_shows : d.acceptIce.shows code 1 0 ∧
    d.acceptIce.get F.PWR_STAT_STATE = d.get F.PWR_STAT_STATE ∧ d.acceptIce.pwr.busy = .iceEntry ∧
    d.acceptIce.pwr.enAux[2] = false ∧ d.acceptIce.shut := by
  have left := d.follows_leaveRing 0
  have stat : ∀ f : Fld, f.addr ∈ [R.PWR_STAT, R.PWR_CMD_STAT] → (d.leaveRing 0).get f = d.get f := fun f hf =>
    left.get ((by decide : ∀ a ∈ [R.PWR_STAT, R.PWR_CMD_STAT], a / 0x10000 ∉ followingBlocks) _ hf)
      ((by decide : ∀ a ∈ [R.PWR_STAT, R.PWR_CMD_STAT], a ∉ noteWords) _ hf)
  have noted : (d.leaveRing 0).openMain.get F.PWR_CMD_STAT_REQ = code :=
    ((Device.get_put_addr _ _ _ _ (by decide)).trans (stat _ (by decide))).trans req
  have state : (d.leaveRing 0).openMain.get F.PWR_STAT_STATE = (d.leaveRing 0).get F.PWR_STAT_STATE :=
    Device.get_put_apart _ _ _ _ (by decide) (by decide)
  obtain ⟨main, pchg, pin⟩ := (d.leaveRing 0).openMain_shut
  exact ⟨Device.shows_answerRequest noted (by decide) (by decide),
    ((Device.answerRequest_other (by decide)).trans state).trans (stat _ (by decide)), rfl, Vector.getElem_set_self _, main,
    pchg, (Device.answerRequest_other (by decide)).trans pin⟩

/-- An accepted EXIT_SAFE to READY (R229). -/
theorem Device.acceptExit_shows (m : Master) : let e := d.acceptExit m
    e.shows code 2 0 ∧ e.get F.PWR_STAT_STATE = 2 ∧ e.get F.PWR_STAT_PHASE = 0 ∧ e.stage.drive = .off := by
  have noted : (d.logExit m 6).get F.PWR_CMD_STAT_REQ = code :=
    (Device.get_eq_of_word ((d.log_noted 130 4 6 _).word (by decide))).trans req
  refine ⟨Device.shows_answerRequest ?_ (by decide) (by decide), (Device.answerRequest_other (by decide)).trans ?_,
    (Device.answerRequest_other (by decide)).trans ?_, rfl⟩
  · exact ((Device.get_put_addr _ _ _ _ (by decide)).trans (Device.get_put_addr _ _ _ _ (by decide))).trans noted
  · exact (Device.get_put_apart _ _ _ _ (by decide) (by decide)).trans (Device.get_put_lt _ _ (by decide) (by decide))
  · exact Device.get_put_lt _ _ (by decide) (by decide)

omit req in
/-- An EXIT_SAFE to PLAY is in progress. -/
def Device.exitPending (d : Device) (m : Master) : Device :=
  { d.logExit m 7 with pwr.busy := .playEntry true, pwr.gainPos := 0 }.answerRequest 1 0

/-- An accepted EXIT_SAFE to PLAY (R225, R229). -/
theorem Device.acceptExitPlay_shows (m : Master) : let e := d.acceptExitPlay m
    e.shows code 1 0 ∧ e.get F.PWR_STAT_STATE = d.get F.PWR_STAT_STATE ∧ e.pwr.busy = .playEntry true ∧
      (d.get F.PWR_STAT_MAIN = 2 → e.get F.PWR_STAT_PHASE = 1) ∧
      (d.get F.PWR_STAT_MAIN ≠ 2 → e.get F.PWR_STAT_PHASE = 5 ∧ e.pwr.pre = .due) := by
  have kept : ∀ f : Fld, f.addr ∉ noteWords → (d.logExit m 7).get f = d.get f := fun f hf =>
    Device.get_eq_of_word ((d.log_noted 130 4 7 _).word hf)
  have answered : (d.exitPending m).shows code 1 0 :=
    Device.shows_answerRequest ((kept _ (by decide)).trans req) (by decide) (by decide)
  have other : ∀ f : Fld, f.addr = R.PWR_STAT → (d.exitPending m).get f = d.get f := fun f hf =>
    (Device.answerRequest_other (by rw [hf]; decide)).trans (kept f (by rw [hf]; decide))
  have main := other F.PWR_STAT_MAIN rfl
  by_cases closed : d.get F.PWR_STAT_MAIN = 2
  · have eq : d.acceptExitPlay m = (d.exitPending m).startPrestart := if_pos (beq_iff_eq.2 (main.trans closed))
    obtain ⟨phase, state, pwr, -, word⟩ := (d.exitPending m).startPrestart_shows
    rw [eq]
    exact ⟨answered.congr word, state.trans (other _ rfl), by rw [pwr]; rfl, fun _ => phase, fun no => absurd closed no⟩
  · have eq : d.acceptExitPlay m = { d.exitPending m with pwr.pre := .due }.put F.PWR_STAT_PHASE 5 :=
      if_neg fun yes => closed (main.symm.trans (beq_iff_eq.1 yes))
    rw [eq]
    exact ⟨answered.congr (Device.word_put_ne _ _ _ (by decide)),
      (Device.get_put_apart _ _ _ _ (by decide) (by decide)).trans (other _ rfl), rfl, fun yes => absurd yes closed,
      fun _ => ⟨Device.get_put_lt _ _ (by decide) (by decide), rfl⟩⟩

/-- An accepted MAIN_OPEN (R220). -/
theorem Device.acceptMainOpen_shows (m : Master) : let e := d.acceptRequest m 9
    e.shows code 2 0 ∧ e.shut ∧ e.pwr.pre = .idle := by
  have noted : d.diagStop.giveUp.openMain.get F.PWR_CMD_STAT_REQ = code :=
    (((Device.get_put_addr _ _ _ _ (by decide)).trans (Device.get_eq_of_word (Device.giveUp_word _ (by decide)))).trans
      (d.follows_diagStop.get (by decide) (by decide))).trans req
  obtain ⟨main, pchg, pin⟩ := d.diagStop.giveUp.openMain_shut
  exact ⟨Device.shows_answerRequest noted (by decide) (by decide),
    ⟨main, pchg, (Device.answerRequest_other (by decide)).trans pin⟩, rfl⟩

/-! ### An accepted SAFE request (R209) -/

/-- An ICE entry is given up by a request for SAFE. -/
def Device.iceTurnsBack (d : Device) : Device := if d.pwr.busy == .iceEntry then d.giveUp else d

/-- The precharge ends, unless EN_MAIN is high already. -/
def Device.preEnds (d : Device) : Device :=
  if d.pwr.pre == .closing then d else { d with pwr.pchg := false, pwr.pre := .idle }

/-- A precharge that has ended shows in MAIN. -/
def Device.mainReleased (d : Device) : Device := if d.get F.PWR_STAT_MAIN == 1 then d.put F.PWR_STAT_MAIN 0 else d

omit req in
theorem Device.acceptSafe_eq (d : Device) :
    d.acceptSafe = (d.iceTurnsBack.preEnds.mainReleased.powerFault 8).diagAbort.answerRequest 2 0 := rfl

omit req in
/-- Before the fault latches, only MAIN has changed of the registers. -/
theorem Device.safeReady_shows (d : Device) : let e := d.iceTurnsBack.preEnds.mainReleased
    e.pwr.seq = d.pwr.seq ∧ e.get F.PWR_STAT_STATE = d.get F.PWR_STAT_STATE ∧ ∀ a, a ≠ R.PWR_STAT → e.word a = d.word a := by
  have back : ∀ e : Device, e.iceTurnsBack.pwr.seq = e.pwr.seq ∧
      e.iceTurnsBack.get F.PWR_STAT_STATE = e.get F.PWR_STAT_STATE ∧
        ∀ a, a ≠ R.PWR_STAT → e.iceTurnsBack.word a = e.word a := fun e => by
    unfold Device.iceTurnsBack
    split
    · rename_i ice
      obtain ⟨seq, -, state, word⟩ := e.unprecharged_shows
      rw [e.giveUp_eq, beq_iff_eq.1 ice]
      exact ⟨seq, state, word⟩
    · exact ⟨rfl, rfl, fun _ _ => rfl⟩
  have ends : ∀ e : Device, e.preEnds.pwr.seq = e.pwr.seq ∧ e.preEnds.regs = e.regs := fun e => by
    unfold Device.preEnds
    split <;> exact ⟨rfl, rfl⟩
  have shown : ∀ e : Device, e.mainReleased.pwr.seq = e.pwr.seq ∧
      e.mainReleased.get F.PWR_STAT_STATE = e.get F.PWR_STAT_STATE ∧
        ∀ a, a ≠ R.PWR_STAT → e.mainReleased.word a = e.word a := fun e => by
    unfold Device.mainReleased
    split
    · exact ⟨rfl, Device.get_put_apart _ _ _ _ (by decide) (by decide), fun _ h => Device.word_put_ne _ _ _ h⟩
    · exact ⟨rfl, rfl, fun _ _ => rfl⟩
  obtain ⟨seq₁, state₁, word₁⟩ := back d
  obtain ⟨seq₂, regs₂⟩ := ends d.iceTurnsBack
  obtain ⟨seq₃, state₃, word₃⟩ := shown d.iceTurnsBack.preEnds
  have word₂ : ∀ a, d.iceTurnsBack.preEnds.word a = d.iceTurnsBack.word a := fun a => by rw [Device.word, regs₂]; rfl
  exact ⟨(seq₃.trans seq₂).trans seq₁, (state₃.trans (Device.get_eq_of_word (word₂ _))).trans state₁,
    fun a h => ((word₃ a h).trans (word₂ a)).trans (word₁ a h)⟩

/-- REQ_SAFE latches its fault and leads to SAFE, where nothing is in progress (R209, R227). -/
theorem Device.acceptSafe_shows (running : d.running = true) (fresh : (d.word R.PWR_FAULT).getLsbD 8 = false) :
    let e := d.acceptSafe
    e.shows code 2 0 ∧ e.get F.PWR_STAT_STATE = 4 ∧ (e.word R.PWR_FAULT).getLsbD 8 = true ∧
      (d.get F.PWR_STAT_STATE ≠ 4 → e.pwr.busy = .none) := by
  obtain ⟨seq, state, word⟩ := d.safeReady_shows
  rw [Device.acceptSafe_eq]
  generalize d.iceTurnsBack.preEnds.mainReleased = x at seq state word ⊢
  have runs : x.running = true := by
    simpa only [Device.running, Device.isState, seq, state] using running
  have unset : (x.word R.PWR_FAULT).getLsbD 8 = false := by rw [word _ (by decide)]; exact fresh
  have down := (x.standsDown_powerFault [] unset).trans (Device.standsDown_diagAbort _)
  have aborted := (x.powerFault 8).follows_diagAbort
  have noted : (x.powerFault 8).diagAbort.get F.PWR_CMD_STAT_REQ = code := by
    rw [down.get F.PWR_CMD_STAT_REQ (by unfold Fld.firm; decide), Device.get_eq_of_word (word _ (by decide)), req]
  refine ⟨Device.shows_answerRequest noted (by decide) (by decide),
    (Device.answerRequest_other (by decide)).trans
      ((aborted.get (by decide) (by decide)).trans (x.powerFault_state [] unset runs)), ?_, fun out => ?_⟩
  · rw [Device.answerRequest_word (by decide), aborted.word _ (by decide) (by decide)]
    exact x.powerFault_set [] (by decide)
  · show (x.powerFault 8).diagAbort.pwr.busy = .none
    rw [aborted.pwr]
    exact x.powerFault_idle [] unset runs (by rw [state]; exact out)

end Accepted

/-! ### How a request is judged (R208, R209, R224) -/

section Judged

variable {d : Device} {m : Master} {code r : Nat}

theorem Device.requestJudged_right (h : d.requestRefused m (d.masterPriv m) code = some r) :
    d.requestJudged m code = some r := by
  rw [Device.requestJudged, h]
  rfl

theorem Device.requestJudged_busy (h : d.requestRefused m (d.masterPriv m) code = none) (busy : d.powerBusy ≠ false)
    (waits : (code == 1 || code == 5 || code == 9) = false) : d.requestJudged m code = some 1 := by
  rw [Device.requestJudged, h, Bool.eq_true_of_not_eq_false busy, waits]
  rfl

theorem Device.requestJudged_free (h : d.requestRefused m (d.masterPriv m) code = none) (free : d.powerBusy = false) :
    d.requestJudged m code = d.requestBars code := by
  rw [Device.requestJudged, h, free]
  rfl

/-- READY, SAFE and MAIN_OPEN are judged whatever is in progress. -/
theorem Device.requestJudged_now (h : d.requestRefused m (d.masterPriv m) code = none)
    (now : (code == 1 || code == 5 || code == 9) = true) : d.requestJudged m code = d.requestBars code := by
  rw [Device.requestJudged, h, now, Bool.not_true, Bool.and_false]
  rfl

/-- A core whose level is not privileged may ask for nothing. -/
theorem Device.requestRefused_level (core : m.isHost = false) (level : d.masterPriv m = false) :
    d.requestRefused m (d.masterPriv m) code = some 8 := by
  rw [level]
  cases m with
  | c0 | c1 => rfl
  | portA | portB => cases core

/-- A privileged core may not ask for the end of SAFE. -/
theorem Device.requestRefused_exit (core : m.isHost = false) (level : d.masterPriv m = true)
    (exit : (code == 6 || code == 7) = true) : d.requestRefused m (d.masterPriv m) code = some 9 := by
  rw [level]
  cases m with
  | c0 | c1 => simp only [Device.requestRefused, exit]; rfl
  | portA | portB => cases core

theorem Device.requestRefused_portA {p : Bool} (h : d.get (F.HP_PRIV_MASK 0) &&& requestRights code = 0) :
    d.requestRefused .portA p code = some 8 := if_pos (beq_iff_eq.2 h)

theorem Device.not_ready (h : ¬ (d.running = true ∧ d.get F.PWR_STAT_STATE = 2)) : (d.running && d.isState 2) = false := by
  simpa [Device.isState] using h

theorem Device.not_still_ready (h : ¬ ((d.running = true ∧ d.get F.PWR_STAT_STATE = 2) ∧
    d.cget .s F.ST_SSTATE_STATE = 0 ∧ d.cget .s F.ST_SCTL_RUN = 0)) :
    (!(d.running && d.isState 2) || !d.streamStopped) = true := by
  by_contra no
  refine h ?_
  simpa [Device.isState, Device.streamStopped] using no

theorem Device.requestBars_play (run : d.running = true) (ready : d.get F.PWR_STAT_STATE = 2) :
    d.requestBars 2 = d.playBars false := by
  simp [Device.requestBars, Device.isState, run, ready]

/-! What the conditions of R224 answer, in their order. -/

theorem Device.playBars_fault {exit : Bool} (fault : d.word R.PWR_FAULT ≠ 0) : d.playBars exit = some 3 :=
  if_pos (bne_iff_ne.2 fault)

variable (clean : d.word R.PWR_FAULT = 0)
include clean

theorem Device.playBars_absent (pres : d.get F.PWR_STAT_PRES = 0) : d.playBars false = some 4 := by
  simp [Device.playBars, Device.anyFault, Device.flag, clean, pres]

variable (pres : d.get F.PWR_STAT_PRES = 1)
include pres

theorem Device.playBars_open (main : d.get F.PWR_STAT_MAIN ≠ 2) : d.playBars false = some 5 := by
  simp [Device.playBars, Device.anyFault, Device.flag, clean, pres, main]

theorem Device.prechargeBars_none : d.prechargeBars = none := by
  simp [Device.prechargeBars, Device.noOpeningFault, Device.flag, clean, pres]

variable (main : d.get F.PWR_STAT_MAIN = 2)
include main

theorem Device.playBars_supply (drv : d.get F.PWR_STAT_DRV_OK = 0) : d.playBars false = some 7 := by
  simp [Device.playBars, Device.anyFault, Device.flag, clean, pres, main, drv]

theorem Device.playBars_held (drv : d.get F.PWR_STAT_DRV_OK = 1) (hold : d.get F.DIAG_HOLD_HOLD ≠ 0) :
    d.playBars false = some 6 := by
  simp [Device.playBars, Device.anyFault, Device.flag, clean, pres, main, drv, hold]

theorem Device.playBars_none (drv : d.get F.PWR_STAT_DRV_OK = 1) (hold : d.get F.DIAG_HOLD_HOLD = 0) :
    d.playBars false = none := by
  simp [Device.playBars, Device.anyFault, Device.flag, clean, pres, main, drv, hold]

end Judged

/-! ### What the commands do -/

theorem completes_on {s : State} {i : Instr} {f : Device → Device} {p : Device → Prop} (does : exec i s = s.on f)
    (h : p (f s.dev)) : Completes i s p := ⟨_, does, rfl, h⟩

section Commands

variable {s : State} {m : Master} {code r : Nat} {i : Instr} (does : exec i s = s.on fun d => d.requestWrite m code)
  (run : s.dev.coreRuns = true) (may : s.dev.masterMay m R.PWR_CMD (BitVec.ofNat 32 code) = true)
include does run may

theorem completes_request_refused (judged : s.dev.requestJudged m code = some r) (small : r < 16 := by decide)
    (lo : 1 ≤ code := by decide) (hi : code ≤ 9 := by decide) :
    Completes i s fun e => e.shows code 3 r ∧ e = { s.dev with regs := e.regs } ∧
      ∀ a, a ≠ R.PWR_CMD_STAT → e.word a = s.dev.word a := by
  have eq : s.dev.requestWrite m code = (s.dev.asked code).answerRequest 3 r := by
    rw [Device.requestWrite_judged run may lo hi, judged]
    rfl
  refine completes_on does ?_
  simp only [eq]
  exact Device.asked_refused (by omega) small

theorem completes_request_accepted {p : Device → Prop} (judged : s.dev.requestJudged m code = none)
    (h : p ((s.dev.asked code).acceptRequest m code)) (lo : 1 ≤ code := by decide) (hi : code ≤ 9 := by decide) :
    Completes i s p := by
  refine completes_on does ?_
  simp only [Device.requestWrite_judged run may lo hi, judged]
  exact h

end Commands

theorem Device.masterMay_core {d : Device} {m : Master} {a : Nat} {w : Word} (core : m.isHost = false) :
    d.masterMay m a w = true := by
  cases m with
  | c0 | c1 => rfl
  | portA | portB => cases core

/-- In ROM operation alone a host may not write PWR_CMD: the right is judged by the request (R208). -/
theorem Device.masterMay_pwrCmd {d : Device} {w : Word} (rom : d.nvs.rom = false) :
    d.masterMay .portA R.PWR_CMD w = true := by
  show (!d.nvs.rom && _) = true
  rw [rom]
  rfl

/-- Settles O34: every request is judged as R208, R209 and R224 say, and what it is refused for or begins shows at once. -/
theorem powerRequests : Obligations.PowerRequests := by
  unfold Obligations.PowerRequests
  intro s m run d may asks stat refused ready safe free stopped fault bar
  have kept : ∀ (code : Nat) (f : Fld), f.addr ≠ R.PWR_CMD_STAT → (d.asked code).get f = d.get f := fun code f =>
    d.asked_get code
  have req : ∀ code < 16, (d.asked code).get F.PWR_CMD_STAT_REQ = code := fun _ h => d.asked_req h
  have isReady : ready → (d.running && d.isState 2) = true := fun ⟨run, st⟩ => by simp [Device.isState, run, st]
  have isSafe : safe → (d.running && d.isState 4) = true := fun ⟨run, st⟩ => by simp [Device.isState, run, st]
  have isStopped : stopped → d.streamStopped = true := fun ⟨st, ctl⟩ => by simp [Device.streamStopped, st, ctl]
  have idleBars : ∀ {code : Nat} {r : Option Nat}, d.requestRefused m (d.masterPriv m) code = none → free →
      d.requestBars code = r → d.requestJudged m code = r := fun right idle h =>
    (Device.requestJudged_free right idle).trans h
  have playBars : ∀ {r : Option Nat}, d.requestRefused m (d.masterPriv m) 2 = none → free → ready →
      d.playBars false = r → d.requestJudged m 2 = r := fun right idle ⟨run, st⟩ h =>
    idleBars right idle ((Device.requestBars_play run st).trans h)
  refine ⟨fun core level => ?_, fun core level => ⟨?_, ?_⟩, fun portA rom => ?_, fun ⟨ask, right⟩ busy => ?_,
    fun ⟨ask, right⟩ idle no => ?_, fun ⟨ask, right⟩ idle st flt => ?_, fun ⟨ask, right⟩ idle st ok pres => ?_,
    fun ⟨ask, right⟩ idle st ok pres main => ?_,
    fun ⟨ask, right⟩ idle st ok pres main => ⟨fun drv => ?_, fun drv hold => ?_, fun drv hold => ?_⟩,
    fun ⟨ask, right⟩ up st idle phase => ?_, fun ⟨ask, right⟩ ⟨up, st⟩ wait => ?_, fun ⟨ask, right⟩ ⟨up, st⟩ idle => ?_,
    fun ⟨ask, right⟩ idle st stop flight => ?_, fun ⟨ask, right⟩ idle no => ?_,
    fun ⟨ask, right⟩ idle st stop flight ok => ?_, fun ⟨ask, right⟩ idle st stop flight => ?_,
    fun ⟨ask, right⟩ ⟨up, st⟩ idle => ?_, fun ⟨ask, right⟩ up out fresh => ?_, fun ⟨ask, right⟩ idle st flt => ?_,
    fun ⟨ask, right⟩ idle st ok => ?_, fun ⟨ask, right⟩ idle st ok => ?_, fun ⟨ask, right⟩ idle up main => ?_,
    fun ⟨ask, right⟩ idle up main => ⟨fun pres => ?_, fun pres ok => ?_⟩, fun ⟨ask, right⟩ up => ?_⟩
  · exact completes_request_refused (code := 2) rfl run (Device.masterMay_core core)
      (Device.requestJudged_right (Device.requestRefused_level core level))
  · exact completes_request_refused (code := 6) rfl run (Device.masterMay_core core)
      (Device.requestJudged_right (Device.requestRefused_exit core level rfl))
  · exact completes_request_refused (code := 7) rfl run (Device.masterMay_core core)
      (Device.requestJudged_right (Device.requestRefused_exit core level rfl))
  · subst portA
    have masked : ∀ {code : Nat} {i : Instr}, (exec i s = s.on fun d => d.requestWrite .portA code) → 1 ≤ code → code ≤ 9 →
        d.get (F.HP_PRIV_MASK 0) &&& requestRights code = 0 → Completes i s (refused code 8) := fun does lo hi h =>
      completes_request_refused does run (Device.masterMay_pwrCmd rom)
        (Device.requestJudged_right (Device.requestRefused_portA h)) (by decide) lo hi
    exact ⟨fun h => ⟨masked (code := 2) rfl (by decide) (by decide) h, masked (code := 3) rfl (by decide) (by decide) h⟩,
      fun h => masked (code := 4) rfl (by decide) (by decide) h, fun h => masked (code := 1) rfl (by decide) (by decide) h,
      fun h => ⟨masked (code := 5) rfl (by decide) (by decide) h, masked (code := 8) rfl (by decide) (by decide) h,
        masked (code := 9) rfl (by decide) (by decide) h⟩⟩
  · exact completes_request_refused (code := 2) rfl run ask (Device.requestJudged_busy right busy rfl)
  · refine completes_request_refused (code := 2) rfl run ask (idleBars right idle ?_)
    simp only [Device.requestBars, Device.not_ready no]
    rfl
  · exact completes_request_refused (code := 2) rfl run ask (playBars right idle st (Device.playBars_fault flt))
  · exact completes_request_refused (code := 2) rfl run ask
      (playBars right idle st (Device.playBars_absent (not_not.1 ok) pres))
  · exact completes_request_refused (code := 2) rfl run ask
      (playBars right idle st (Device.playBars_open (not_not.1 ok) pres main))
  · exact completes_request_refused (code := 2) rfl run ask
      (playBars right idle st (Device.playBars_supply (not_not.1 ok) pres main drv))
  · exact completes_request_refused (code := 2) rfl run ask
      (playBars right idle st (Device.playBars_held (not_not.1 ok) pres main drv hold))
  · refine completes_request_accepted (code := 2) rfl run ask
      (playBars right idle st (Device.playBars_none (not_not.1 ok) pres main drv hold)) ?_
    obtain ⟨shows, state, rest⟩ := Device.acceptPlay_shows (req 2 (by decide))
    exact ⟨shows, state.trans (kept _ _ (by decide)), rest⟩
  · refine completes_request_accepted (code := 1) rfl run ask ((Device.requestJudged_now right rfl).trans ?_) ?_
    · simp [Device.requestBars, Device.isState, up, st]
    · obtain ⟨shows, state, rest⟩ := Device.acceptReady_play (req 1 (by decide)) ((kept _ _ (by decide)).trans st) idle
        ((kept _ _ (by decide)).trans phase)
      exact ⟨shows, state.trans (kept _ _ (by decide)), rest⟩
  · refine completes_request_accepted (code := 1) rfl run ask ((Device.requestJudged_now right rfl).trans ?_) ?_
    · simp [Device.requestBars, Device.isState, up, st]
    · obtain ⟨shows, state, rest⟩ := Device.acceptReady_stillWait (req 1 (by decide)) ((kept _ _ (by decide)).trans st) wait
      exact ⟨shows, state.trans (kept _ _ (by decide)), rest⟩
  · refine completes_request_refused (code := 1) rfl run ask ((Device.requestJudged_now right rfl).trans ?_)
    simp [Device.requestBars, Device.isState, up, st, show d.powerBusy = false from idle]
  · refine completes_request_accepted (code := 3) rfl run ask (idleBars right idle ?_) ?_
    · simp [Device.requestBars, isReady st, isStopped stop, flight]
    · exact ⟨Device.shows_answerRequest (req 3 (by decide)) (by decide) (by decide),
        (Device.answerRequest_other (by decide)).trans (kept _ _ (by decide)), rfl⟩
  · exact completes_request_refused (code := 3) rfl run ask (idleBars right idle (if_pos (Device.not_still_ready no)))
  · refine completes_request_accepted (code := 4) rfl run ask (idleBars right idle ?_) ?_
    · simp [Device.requestBars, Device.anyFault, isReady st, isStopped stop, flight, not_not.1 ok]
    · obtain ⟨shows, state, busy, supply, main, pchg, pin⟩ := Device.acceptIce_shows (req 4 (by decide))
      exact ⟨shows, state.trans (kept _ _ (by decide)), busy, supply, main, pchg, pin⟩
  · refine completes_request_refused (code := 4) rfl run ask (idleBars right idle ?_)
    simp [Device.requestBars, isReady st, isStopped stop, flight]
  · refine completes_request_refused (code := 5) rfl run ask ((Device.requestJudged_now right rfl).trans ?_)
    simp [Device.requestBars, Device.isState, up, st, show d.powerBusy = false from idle]
  · refine completes_request_accepted (code := 5) rfl run ask ((Device.requestJudged_now right rfl).trans (if_pos ?_)) ?_
    · simpa [Device.isState, up, free] using out
    · have state := kept 5 F.PWR_STAT_STATE (by decide)
      obtain ⟨shows, safe, set, idle⟩ := Device.acceptSafe_shows (req 5 (by decide)) ((d.asked_running 5).trans up)
        (by rw [d.asked_word 5 (by decide)]; exact fresh)
      exact ⟨shows, safe, set, fun h => idle (state ▸ h)⟩
  · refine completes_request_refused (code := 6) rfl run ask (idleBars right idle ?_)
    simp [Device.requestBars, Device.anyFault, isSafe st, show d.word R.PWR_FAULT ≠ 0#32 from flt]
  · refine completes_request_accepted (code := 6) rfl run ask (idleBars right idle ?_)
      (Device.acceptExit_shows (req 6 (by decide)) m)
    simp [Device.requestBars, Device.anyFault, isSafe st, not_not.1 ok]
  · refine completes_request_accepted (code := 7) rfl run ask (idleBars right idle ?_) ?_
    · simp [Device.requestBars, isSafe st, ok]
    · obtain ⟨shows, state, busy, closed, opened⟩ := Device.acceptExitPlay_shows (req 7 (by decide)) m
      rw [kept 7 F.PWR_STAT_MAIN (by decide)] at closed opened
      exact ⟨shows, state.trans (kept _ _ (by decide)), busy, closed, opened⟩
  · refine completes_request_accepted (code := 8) rfl run ask (idleBars right idle ?_) ?_
    · simp [Device.requestBars, up, main]
    · have eq : (d.asked 8).acceptRequest m 8 = (d.asked 8).answerRequest 2 0 :=
        if_pos (beq_iff_eq.2 ((kept _ _ (by decide)).trans main))
      rw [eq]
      exact ⟨Device.shows_answerRequest (req 8 (by decide)) (by decide) (by decide), rfl⟩
  · refine completes_request_refused (code := 8) rfl run ask (idleBars right idle ?_)
    simp [Device.requestBars, Device.prechargeBars, Device.flag, up, main, pres]
  · refine completes_request_accepted (code := 8) rfl run ask (idleBars right idle ?_) ?_
    · simp [Device.requestBars, Device.prechargeBars_none (not_not.1 ok) pres, up, main]
    · have eq : (d.asked 8).acceptRequest m 8 = { d.asked 8 with pwr.pre := .due }.answerRequest 1 0 :=
        if_neg fun yes => main ((kept _ _ (by decide)).symm.trans (beq_iff_eq.1 yes))
      rw [eq]
      exact ⟨Device.shows_answerRequest (req 8 (by decide)) (by decide) (by decide), rfl⟩
  · refine completes_request_accepted (code := 9) rfl run ask ((Device.requestJudged_now right rfl).trans (if_pos up)) ?_
    obtain ⟨shows, ⟨main, pchg, pin⟩, idle⟩ := Device.acceptMainOpen_shows (req 9 (by decide)) m
    exact ⟨shows, main, pchg, pin, idle⟩

end Sys2Proof.Machine
end

section
/-! PROOFS. The monitors: brownout, presence, temperature, WAKE_N, and the clearing of PWR_FAULT (O33; R206, R221 to R230,
R768). -/

namespace Sys2Proof.Machine

/-! ### A source fires after the device has changed -/

section Fires

variable {d f e : Device} {n : Fin 128}

/-- A source found IDLE by `d` is so found by `f`, and no wake latch catches it there. -/
theorem Device.fired_of_armed (armed : d.latchArmed n.val = false → f.latchArmed n.val = false)
    (source : f.source n = d.source n) (h : f.fired e n) : d.fired e n := fun free idle =>
  h (armed free) (source ▸ idle)

/-- The event controller, the power sequence and STATE say which latches are armed. -/
theorem Device.latchArmed_congr (evc : f.evc = d.evc) (pwr : f.pwr = d.pwr)
    (state : f.get F.PWR_STAT_STATE = d.get F.PWR_STAT_STATE) (m : Nat) : f.latchArmed m = d.latchArmed m := by
  simp only [Device.latchArmed, Device.coreRuns, Device.still, Device.isState, state, pwr, evc]

/-- A source that has fired stays so while the following blocks act. -/
theorem Device.fired.follows (h : d.fired f n) (k : f.follows e) (other : n.val ∉ [7, 41, 42, 97]) : d.fired e n :=
  fun free idle => (k.source n other).symm ▸ h free idle

/-- An occurrence that a wake latch catches sets the latch. -/
theorem Device.fire_latched {k : Nat} (listed : isSource n.val = true) (hardware : n.val < 124)
    (armed : d.latchArmed n.val = true) (latch : wakeLatchOf n.val = some k) :
    d.fire n.val = d.orField F.EVC_WLATCH_LATCH (2 ^ k) := by
  simp [Device.fire, listed, Nat.not_le.2 hardware, armed, latch]

/-- While the CORE domain is stopped every occurrence meets its latch (R148). -/
theorem Device.latchArmed_stopped (stopped : d.coreRuns = false) (m : Nat) : d.latchArmed m = true := by
  rw [Device.latchArmed, stopped]
  rfl

/-- The power sequence and STATE say whether the device runs. -/
theorem Device.running_congr (seq : e.pwr.seq = d.pwr.seq) (state : e.get F.PWR_STAT_STATE = d.get F.PWR_STAT_STATE) :
    e.running = d.running := by
  simp only [Device.running, Device.isState, seq, state]

theorem Device.running_coreRuns (run : d.running = true) : d.coreRuns = true := by
  simp only [Device.running, Device.isState, Bool.and_eq_true, Bool.or_eq_true, beq_iff_eq] at run
  obtain ⟨up, state⟩ := run
  have moving : d.isState 1 = false := beq_false_of_ne (by omega)
  simp [Device.coreRuns, Device.still, up, moving]

theorem Device.coreRuns_safe (up : d.pwr.seq = .up) (safe : d.get F.PWR_STAT_STATE = 4) : d.coreRuns = true :=
  Device.running_coreRuns (by simp [Device.running, Device.isState, up, safe])

/-- A source with a wake latch fires while CORE runs, outside an ICE entry and a transfer of the latches (R148, R149). -/
theorem Device.latchArmed_false_iff (core : d.coreRuns = true) {m : Nat} (latch : (wakeLatchOf m).isSome = true) :
    d.latchArmed m = false ↔ d.pwr.busy ≠ .iceEntry ∧ d.evc.taking = false := by
  simp [Device.latchArmed, core, latch]

theorem Device.busy_ne_ice (same : e.pwr.busy = d.pwr.busy ∨ e.pwr.busy = .none) (h : d.pwr.busy ≠ .iceEntry) :
    e.pwr.busy ≠ .iceEntry := by
  rcases same with same | none
  · rwa [same]
  · rw [none]
    decide

theorem Device.not_running_of_still (still : d.still = true) : d.running = false := by
  simp only [Device.still, Device.isState, Bool.and_eq_true, beq_iff_eq] at still
  simp [Device.running, Device.isState, still.2]

end Fires

/-! ### The supply monitors (R206) -/

section Monitors

variable {d : Device} (v : BitVec 9)

theorem Device.showVstk_get : (d.showVstk v).get F.PWR_VMON_VSTK = v.toNat :=
  d.get_put_lt _ (by decide) v.isLt

theorem Device.showVstk_word {a : Nat} (h : a ≠ R.PWR_VMON) : (d.showVstk v).word a = d.word a := d.word_put_ne _ _ h

theorem Device.showVstk_other {f : Fld} (h : F.PWR_VMON_VSTK.apart f = true) : (d.showVstk v).get f = d.get f :=
  d.get_put_apart _ _ _ (by decide) h

/-- The trip level with its reading. -/
def Device.tripped (d : Device) (v : BitVec 9) (b : Bool) : Device := (d.showVstk v).setFlag F.PWR_VMON_BO_TRIP b

theorem Device.tripped_pwr (b : Bool) : (d.tripped v b).pwr = d.pwr := by
  unfold Device.tripped Device.showVstk
  rfl

theorem Device.tripped_mem (b : Bool) : (d.tripped v b).mem = d.mem := by
  unfold Device.tripped Device.showVstk
  rfl

theorem Device.tripped_shows (b : Bool) : (d.tripped v b).get F.PWR_VMON_BO_TRIP = b.toNat ∧
    (d.tripped v b).get F.PWR_VMON_VSTK = v.toNat ∧ ∀ a, a ≠ R.PWR_VMON → (d.tripped v b).word a = d.word a :=
  ⟨Device.get_setFlag_same _ _ b (by decide) rfl,
    (Device.get_setFlag_apart _ _ _ b (by decide) (by decide)).trans (Device.showVstk_get v),
    fun _ h => (Device.word_put_ne _ _ _ h).trans (Device.showVstk_word v h)⟩

variable (aon : d.aonRuns = true)
include aon

/-- A supply below the trip level latches BROWNOUT (R206). -/
theorem Device.brownout_low (low : v.toNat < 44) (link : d.linkRuns = true) :
    d.brownout v = (d.tripped v true).powerFault 1 (leBytes 2 v.toNat) := by
  have link : (d.tripped v true).linkRuns = true := by rw [Device.linkRuns, Device.tripped_pwr]; exact link
  rw [Device.brownout, aon]
  simp only [Bool.not_true, Bool.false_eq_true, if_false, low, if_true]
  exact if_pos link

theorem Device.brownout_high (high : 48 ≤ v.toNat) : d.brownout v = d.tripped v false := by
  rw [Device.brownout, aon]
  simp only [Bool.not_true, Bool.false_eq_true, if_false, show ¬ v.toNat < 44 by omega, high, if_true]
  rfl

theorem Device.brownoutWarn_low (low : v.toNat < d.get F.PWR_BO_WARN) (first : d.get F.PWR_VMON_BO_WARN = 0) :
    d.brownoutWarn v = ((d.showVstk v).setFlag F.PWR_VMON_BO_WARN true).fire 2 := by
  have first : (d.showVstk v).flag F.PWR_VMON_BO_WARN = false :=
    (Device.flag_eq_false_iff _).2 ((Device.showVstk_other v (by decide)).trans first)
  rw [Device.brownoutWarn, aon]
  simp only [Bool.not_true, Bool.false_eq_true, if_false, Device.showVstk_other v (f := F.PWR_BO_WARN) (by decide), low,
    if_true, first]

theorem Device.brownoutWarn_high (high : d.get F.PWR_BO_WARN + 2 ≤ v.toNat) :
    d.brownoutWarn v = (d.showVstk v).setFlag F.PWR_VMON_BO_WARN false := by
  rw [Device.brownoutWarn, aon]
  simp only [Bool.not_true, Bool.false_eq_true, if_false, Device.showVstk_other v (f := F.PWR_BO_WARN) (by decide),
    show ¬ v.toNat < d.get F.PWR_BO_WARN by omega, high, if_true]

/-- The warning of a low supply shows and is raised once (R206). -/
theorem Device.brownoutWarn_shows (low : v.toNat < d.get F.PWR_BO_WARN) (first : d.get F.PWR_VMON_BO_WARN = 0) :
    let e := d.brownoutWarn v
    e.get F.PWR_VMON_BO_WARN = 1 ∧ d.fired e 2 ∧ e.get F.PWR_VMON_VSTK = v.toNat := by
  have shown := d.wrote_put F.PWR_VMON_VSTK v.toNat
  have marked := (d.showVstk v).wrote_put F.PWR_VMON_BO_WARN 1
  have noted := ((d.showVstk v).setFlag F.PWR_VMON_BO_WARN true).fire_noted 2
  have get : ∀ f : Fld, f.addr = R.PWR_VMON → (((d.showVstk v).setFlag F.PWR_VMON_BO_WARN true).fire 2).get f =
      ((d.showVstk v).setFlag F.PWR_VMON_BO_WARN true).get f := fun f hf =>
    Device.get_eq_of_word (noted.word (by rw [hf]; decide))
  rw [Device.brownoutWarn_low v aon low first]
  exact ⟨(get _ rfl).trans (Device.get_setFlag_same _ _ _ (by decide) rfl),
    shown.fired rfl (marked.fired rfl (Device.fired_fire _ 2 (by decide) (by decide))),
    (get _ rfl).trans ((Device.get_setFlag_apart _ _ _ _ (by decide) (by decide)).trans (Device.showVstk_get v))⟩

/-- What a brownout leaves (R206, R227). -/
theorem Device.brownout_shows (low : v.toNat < 44) (link : d.linkRuns = true)
    (fresh : (d.word R.PWR_FAULT).getLsbD 1 = false) : let e := d.brownout v
    ((e.word R.PWR_FAULT).getLsbD 1 = true ∧ (d.running = true → e.get F.PWR_STAT_STATE = 4)) ∧ e.shut ∧
      e.get F.PWR_VMON_BO_TRIP = 1 ∧ e.get F.PWR_VMON_VSTK = v.toNat ∧ e.mem = d.mem := by
  obtain ⟨trip, vstk, word⟩ := d.tripped_shows v true
  have fresh : ((d.tripped v true).word R.PWR_FAULT).getLsbD 1 = false := by rw [word _ (by decide)]; exact fresh
  have runs : (d.tripped v true).running = d.running :=
    Device.running_congr (by rw [Device.tripped_pwr]) (Device.get_eq_of_word (word _ (by decide)))
  have down := (d.tripped v true).standsDown_powerFault (leBytes 2 v.toNat) fresh
  have vmon := down.word (a := R.PWR_VMON) (by decide) (by decide) (by decide)
  rw [Device.brownout_low v aon low link]
  exact ⟨⟨Device.powerFault_set _ _ (by decide), fun run => Device.powerFault_state _ _ fresh (runs.trans run)⟩,
    Device.powerFault_shut _ _ fresh (by decide), (Device.get_eq_of_word vmon).trans trip,
    (Device.get_eq_of_word vmon).trans vstk, (Device.faultPath_powerFault _ 1 _).mem.trans (d.tripped_mem v true)⟩

end Monitors

/-! ### What a node that leaves the ring does of the half-bridges -/

section Ring

variable (d : Device)

theorem Device.trimHeld_stage (mode : Nat) (t : Int) : (d.trimHeld mode t).stage = d.stage :=
  (Device.put_stage _ _ _).trans <| (Device.put_stage _ _ _).trans <| (Device.put_stage _ _ _).trans <|
    (Device.put_stage _ _ _).trans (Device.put_stage _ _ _)

theorem Device.holdTrim_stage (mode : Nat) (mean : Bool) : (d.holdTrim mode mean).stage = d.stage := by
  obtain ⟨t, data, eq⟩ := d.holdTrim_eq mode mean
  rw [eq, (Device.raise_noted _ _ _ _).stage, Device.trimHeld_stage]

theorem Device.loseReference_stage : d.loseReference.stage = d.stage := by
  unfold Device.loseReference
  split
  · rfl
  · exact Device.holdTrim_stage _ _ _

theorem Device.loseRing_stage : d.loseRing.stage = d.stage := by
  unfold Device.loseRing
  split
  · rfl
  · simp only [Device.loseReference_stage, Device.setFlag, Device.put_stage]

theorem Device.leaveFrame_stage (s : Side) (reason : Nat) : (d.leaveFrame s reason).stage = d.stage := by cases s <;> rfl

theorem Device.leaveRing_stage (reason : Nat) : (d.leaveRing reason).stage = d.stage := by
  unfold Device.leaveRing
  split
  · rfl
  · rw [Device.loseRing_stage]
    dsimp only
    rw [Device.setFlag, Device.setFlag, Device.put_stage, Device.put_stage, Device.put_stage, Device.put_stage]
    dsimp only
    rw [Device.leaveFrame_stage, Device.leaveFrame_stage]

theorem Device.trnModeUpdate_stage : d.trnModeUpdate.stage = d.stage := by
  unfold Device.trnModeUpdate Device.enterWrap
  dsimp only
  split_ifs
  · rfl
  · rfl
  · rfl
  · rw [(Device.raise_noted _ _ _ _).stage]
    rfl
  · rfl
  · rfl

/-- Both ports loop back, and the power block and the half-bridges are as they were (R222). -/
theorem Device.presenceRing_shows : d.presenceRing.trn.looped = true ∧ d.presenceRing.stage = d.stage ∧
    d.presenceRing.pwr = d.pwr ∧
    (∀ n : Fin 128, n.val ∉ [7, 41, 42, 97] → d.presenceRing.source n = d.source n) ∧
    ∀ a, a / 0x10000 ∉ followingBlocks → a ∉ noteWords → d.presenceRing.word a = d.word a := by
  have left := d.follows_leaveRing 1
  have mode := Device.follows_trnModeUpdate { d.leaveRing 1 with trn.looped := true }
  exact ⟨mode.looped, (Device.trnModeUpdate_stage _).trans (d.leaveRing_stage 1), mode.pwr.trans left.pwr,
    fun n hn => (mode.source n hn).trans (left.source n hn),
    fun a block note => (mode.word a block note).trans (left.word a block note)⟩

end Ring

/-! ### Presence (R221, R222) -/

section Presence

variable (d : Device)

/-- The presence input shows in PWR_STAT. -/
def Device.showPresence (d : Device) (b : Bool) : Device := (d.setFlag F.PWR_STAT_PRES b).setFlag F.PWR_STAT_PRES_RAW b

theorem Device.showPresence_shows (b : Bool) : (d.showPresence b).get F.PWR_STAT_PRES = b.toNat ∧
    (d.showPresence b).get F.PWR_STAT_PRES_RAW = b.toNat ∧
    (d.showPresence b).get F.PWR_STAT_STATE = d.get F.PWR_STAT_STATE ∧
    (∀ a, a ≠ R.PWR_STAT → (d.showPresence b).word a = d.word a) ∧
    d.showPresence b = { d with regs := (d.showPresence b).regs } :=
  ⟨(Device.get_setFlag_apart _ _ _ b (by decide) (by decide)).trans (d.get_setFlag_same _ b (by decide) rfl),
    Device.get_setFlag_same _ _ b (by decide) rfl,
    (Device.get_setFlag_apart _ _ _ b (by decide) (by decide)).trans (d.get_setFlag_apart _ _ b (by decide) (by decide)),
    fun _ h => (Device.word_put_ne _ _ _ h).trans (Device.word_put_ne _ _ _ h), rfl⟩

/-- A lost presence opens the main switch, and a MAIN_CLOSE that waits for it is refused (R222, R232). -/
def Device.presenceOpens (d : Device) : Device :=
  if d.pwr.pre != .idle && d.pwr.pre != .closing && d.get F.PWR_CMD_STAT_REQ == 8 then d.openMain.finishRequest 3 4
  else d.openMain

theorem Device.presenceOpens_standsDown : d.standsDown d.presenceOpens :=
  .ite (d.standsDown_openMain.trans (Device.standsDown_finishRequest _ 3 4)) d.standsDown_openMain

theorem Device.finishRequest_word (result reason : Nat) {a : Nat} (h : a ≠ R.PWR_CMD_STAT) :
    (d.finishRequest result reason).word a = d.word a := by
  unfold Device.finishRequest
  split
  · exact (Device.word_put_ne _ _ _ h).trans (Device.word_put_ne _ _ _ h)
  · rfl

theorem Device.presenceOpens_get {f : Fld} (apart : F.PWR_STAT_MAIN.apart f = true) (other : f.addr ≠ R.PWR_CMD_STAT) :
    d.presenceOpens.get f = d.get f := by
  have main : d.openMain.get f = d.get f := Device.get_put_apart _ _ _ _ (by decide) apart
  unfold Device.presenceOpens
  split
  · exact (Device.get_eq_of_word (Device.finishRequest_word _ _ _ other)).trans main
  · exact main

theorem Device.presenceOpens_shut : d.presenceOpens.shut := by
  unfold Device.presenceOpens
  split
  · exact (Device.standsDown_finishRequest _ 3 4).shut d.openMain_shut
  · exact d.openMain_shut

/-- The device with its presence lost and its main switch open. -/
def Device.presenceGone (d : Device) : Device := (d.showPresence false).presenceOpens

theorem Device.presenceGone_shows : d.presenceGone.shut ∧ d.presenceGone.get F.PWR_STAT_PRES = 0 ∧
    d.presenceGone.get F.PWR_STAT_PRES_RAW = 0 ∧ d.presenceGone.get F.PWR_STAT_STATE = d.get F.PWR_STAT_STATE ∧
    d.presenceGone.word R.PWR_FAULT = d.word R.PWR_FAULT := by
  obtain ⟨pres, raw, state, word, -⟩ := d.showPresence_shows false
  have fault : (d.showPresence false).presenceOpens.get ⟨R.PWR_FAULT, 0, 32⟩ =
      (d.showPresence false).get ⟨R.PWR_FAULT, 0, 32⟩ :=
    Device.presenceOpens_get _ (by decide) (by decide)
  refine ⟨Device.presenceOpens_shut _, (Device.presenceOpens_get _ (by decide) (by decide)).trans pres,
    (Device.presenceOpens_get _ (by decide) (by decide)).trans raw,
    (Device.presenceOpens_get _ (by decide) (by decide)).trans state, ?_⟩
  refine Eq.trans (BitVec.eq_of_toNat_eq ?_) (word _ (by decide))
  rw [← fieldOf_whole, ← fieldOf_whole]
  exact fault

theorem Device.presenceGone_stands : d.presenceGone.pwr.seq = d.pwr.seq ∧
    (d.presenceGone.pwr.busy = d.pwr.busy ∨ d.presenceGone.pwr.busy = .none) ∧
    d.presenceGone.evc.taking = d.evc.taking ∧ ∀ n : Fin 128, n.val ∉ downSources → d.presenceGone.source n = d.source n :=
  have down := (d.showPresence false).presenceOpens_standsDown
  ⟨down.seq, down.busy, down.taking, fun n hn => down.source n hn⟩

theorem Device.presLost_up (up : d.pwr.seq = .up) : d.presLost =
    if d.presenceGone.running then
      (((d.presenceGone.powerFault 0).fire 3).presenceRing.abortQueue .a).abortQueue .b
    else if d.presenceGone.still then
      ({ d.presenceGone.safeDrive with pwr.presDue := true }.fire 3).presenceRing
    else d.presenceGone.safeDrive.fire 3 := by
  unfold Device.presLost
  rw [up]
  rfl

theorem Device.presLost_ice (ice : d.pwr.seq = .ice) : d.presLost = (d.showPresence false).fire 3 := by
  unfold Device.presLost
  rw [ice]
  rfl

variable {d}

theorem Device.running_up (run : d.running = true) : d.pwr.seq = .up :=
  beq_iff_eq.1 (Bool.and_eq_true_iff.1 run).1

theorem Device.still_up (still : d.still = true) : d.pwr.seq = .up :=
  beq_iff_eq.1 (Bool.and_eq_true_iff.1 still).1

/-- A presence lost while the device runs (R222, R227). -/
theorem Device.presLost_running (run : d.running = true) (fresh : (d.word R.PWR_FAULT).getLsbD 0 = false) :
    let e := d.presLost
    (e.word R.PWR_FAULT).getLsbD 0 = true ∧ e.get F.PWR_STAT_STATE = 4 ∧ e.shut ∧ e.get F.PWR_STAT_PRES = 0 ∧
      e.get F.PWR_STAT_PRES_RAW = 0 ∧ d.fired e 3 ∧ e.trn.looped = true := by
  obtain ⟨shut, pres, raw, state, fault⟩ := d.presenceGone_shows
  obtain ⟨seq, busy, taking, source⟩ := d.presenceGone_stands
  have runs : d.presenceGone.running = true := (Device.running_congr seq state).trans run
  have unset : (d.presenceGone.word R.PWR_FAULT).getLsbD 0 = false := by rw [fault]; exact fresh
  have down := d.presenceGone.standsDown_powerFault [] unset
  have safe := d.presenceGone.powerFault_state [] unset runs
  have noted := (d.presenceGone.powerFault 0).fire_noted 3
  obtain ⟨looped, -, pwr, sources, words⟩ := ((d.presenceGone.powerFault 0).fire 3).presenceRing_shows
  have aborted := (((d.presenceGone.powerFault 0).fire 3).presenceRing.follows_abortQueue .a).trans
    (Device.follows_abortQueue _ .b)
  have eq : d.presLost = _ := (d.presLost_up (Device.running_up run)).trans (if_pos runs)
  have word : ∀ a, a / 0x10000 ∉ followingBlocks → a ∉ noteWords →
      d.presLost.word a = (d.presenceGone.powerFault 0).word a := fun a block note => by
    rw [eq]
    exact ((aborted.word a block note).trans (words a block note)).trans (noted.word note)
  have get : ∀ f : Fld, f.addr = R.PWR_STAT → d.presLost.get f = (d.presenceGone.powerFault 0).get f := fun f hf =>
    Device.get_eq_of_word (word _ (by rw [hf]; decide) (by rw [hf]; decide))
  have power : d.presLost.pwr = (d.presenceGone.powerFault 0).pwr := by
    rw [eq]
    exact (aborted.pwr.trans pwr).trans noted.pwr
  have firm : ∀ f : Fld, f ∈ [F.PWR_STAT_PRES, F.PWR_STAT_PRES_RAW] → f.firm := by unfold Fld.firm; decide
  obtain ⟨main, pchg, pin⟩ := d.presenceGone.powerFault_shut [] unset (by decide)
  refine ⟨?_, (get _ rfl).trans safe, ⟨by rw [power, main], by rw [power, pchg], (get _ rfl).trans pin⟩,
    ((get _ rfl).trans (down.get _ (firm _ (by decide)))).trans pres,
    ((get _ rfl).trans (down.get _ (firm _ (by decide)))).trans raw, ?_, ?_⟩
  · rw [word _ (by decide) (by decide)]
    exact Device.powerFault_set _ [] (by decide)
  · have fired : d.fired ((d.presenceGone.powerFault 0).fire 3) 3 := by
      refine Device.fired_of_armed ?_ ((down.source 3 (by decide)).trans (source 3 (by decide)))
        ((d.presenceGone.powerFault 0).fired_fire 3 (by decide) (by decide))
      intro free
      obtain ⟨notIce, idle⟩ := (Device.latchArmed_false_iff (Device.running_coreRuns run) (by decide)).1 free
      exact (Device.latchArmed_false_iff (Device.coreRuns_safe (down.seq.trans (seq.trans (Device.running_up run))) safe)
        (by decide)).2 ⟨Device.busy_ne_ice down.busy (Device.busy_ne_ice busy notIce), (down.taking.trans taking).trans idle⟩
    intro free idle
    rw [eq, aborted.source 3 (by decide), sources 3 (by decide)]
    exact fired free idle
  · rw [eq]
    exact aborted.looped.trans looped

/-- A presence lost in STILL forces the safe levels and waits for the wake (R222; log entry 38). -/
theorem Device.presLost_still (still : d.still = true) : let e := d.presLost
    e.stage.drive = .safe ∧ e.shut ∧ e.pwr.presDue = true ∧ e.get F.PWR_STAT_STATE = 1 ∧ e.trn.looped = true ∧
      e.word R.PWR_FAULT = d.word R.PWR_FAULT := by
  obtain ⟨⟨main, pchg, pin⟩, -, -, state, fault⟩ := d.presenceGone_shows
  obtain ⟨seq, -, -, -⟩ := d.presenceGone_stands
  have up := Device.still_up still
  have rests : d.presenceGone.still = true := by
    simp only [Device.still, Device.isState, seq, state]
    exact still
  have levels : d.presenceGone.safeDrive = d.presenceGone.setDrive .safe :=
    if_pos (by rw [Device.pastAux1, seq, up])
  have noted := ({ d.presenceGone.setDrive .safe with pwr.presDue := true } : Device).fire_noted 3
  obtain ⟨looped, stage, pwr, -, words⟩ :=
    (({ d.presenceGone.setDrive .safe with pwr.presDue := true } : Device).fire 3).presenceRing_shows
  have eq : d.presLost = (({ d.presenceGone.setDrive .safe with pwr.presDue := true } : Device).fire 3).presenceRing := by
    rw [d.presLost_up up, if_neg (by rw [Device.not_running_of_still rests]; decide), if_pos rests, levels]
  have word : ∀ a, a / 0x10000 ∉ followingBlocks → a ∉ noteWords → d.presLost.word a = d.presenceGone.word a :=
    fun a block note => by
      rw [eq]
      exact (words a block note).trans (noted.word note)
  have get : ∀ f : Fld, f.addr = R.PWR_STAT → d.presLost.get f = d.presenceGone.get f := fun f hf =>
    Device.get_eq_of_word (word _ (by rw [hf]; decide) (by rw [hf]; decide))
  have power : d.presLost.pwr = { d.presenceGone.pwr with presDue := true } := by
    rw [eq]
    exact pwr.trans noted.pwr
  refine ⟨?_, ⟨by rw [power]; exact main, by rw [power]; exact pchg, (get _ rfl).trans pin⟩, by rw [power],
    ((get _ rfl).trans state).trans (beq_iff_eq.1 (Bool.and_eq_true_iff.1 still).2), by rw [eq]; exact looped,
    (word _ (by decide) (by decide)).trans fault⟩
  rw [eq, stage, noted.stage]
  rfl

/-- A presence lost in ICE sets its wake latch alone (R148; log entry 38). -/
theorem Device.presLost_iced (ice : d.pwr.seq = .ice) : let e := d.presLost
    e.get F.PWR_STAT_PRES = 0 ∧ e.get F.PWR_STAT_PRES_RAW = 0 ∧ (e.get F.EVC_WLATCH_LATCH).testBit 1 = true ∧
      e.pwr = d.pwr := by
  obtain ⟨pres, raw, -, -, same⟩ := d.showPresence_shows false
  have stopped : (d.showPresence false).coreRuns = false := by
    have pwr : (d.showPresence false).pwr = d.pwr := by rw [same]
    rw [Device.coreRuns, pwr, ice]
    rfl
  have eq : d.presLost = (d.showPresence false).orField F.EVC_WLATCH_LATCH (2 ^ 1) :=
    (d.presLost_ice ice).trans
      (Device.fire_latched (n := 3) (by decide) (by decide) (Device.latchArmed_stopped stopped 3) rfl)
  rw [eq]
  exact ⟨(Device.get_put_addr _ _ _ _ (by decide)).trans pres, (Device.get_put_addr _ _ _ _ (by decide)).trans raw,
    Device.testBit_orField _ (by decide) (by decide), by rw [same]; rfl⟩

/-- The device that has seen its presence come back. -/
def Device.presenceBack (d : Device) : Device :=
  ((d.setFlag F.PWR_STAT_PRES_RAW true).setFlag F.PWR_STAT_PRES true).fire 4

theorem Device.presenceBack_shows (d : Device) : let e := d.presenceBack
    e.get F.PWR_STAT_PRES = 1 ∧ e.get F.PWR_STAT_PRES_RAW = 1 ∧ d.fired e 4 ∧ e.pwr = d.pwr ∧
      e.get F.PWR_STAT_STATE = d.get F.PWR_STAT_STATE ∧ e.get F.PWR_STAT_MAIN = d.get F.PWR_STAT_MAIN ∧
      e.get F.PWR_CTL_AUTO_MAIN = d.get F.PWR_CTL_AUTO_MAIN := by
  have noted := ((d.setFlag F.PWR_STAT_PRES_RAW true).setFlag F.PWR_STAT_PRES true).fire_noted 4
  have shown : ∀ f : Fld, f.addr ∉ noteWords →
      d.presenceBack.get f = ((d.setFlag F.PWR_STAT_PRES_RAW true).setFlag F.PWR_STAT_PRES true).get f := fun f hf =>
    Device.get_eq_of_word (noted.word hf)
  have apart : ∀ f : Fld, F.PWR_STAT_PRES_RAW.apart f = true → F.PWR_STAT_PRES.apart f = true →
      ((d.setFlag F.PWR_STAT_PRES_RAW true).setFlag F.PWR_STAT_PRES true).get f = d.get f := fun f h k =>
    (Device.get_setFlag_apart _ _ _ _ (by decide) k).trans (d.get_setFlag_apart _ _ _ (by decide) h)
  have power : ((d.setFlag F.PWR_STAT_PRES_RAW true).setFlag F.PWR_STAT_PRES true).pwr = d.pwr :=
    (Device.put_pwr _ _ _).trans (Device.put_pwr _ _ _)
  refine ⟨(shown _ (by decide)).trans (Device.get_setFlag_same _ _ _ (by decide) rfl), (shown _ (by decide)).trans ?_, ?_,
    noted.pwr.trans power, (shown _ (by decide)).trans (apart _ (by decide) (by decide)),
    (shown _ (by decide)).trans (apart _ (by decide) (by decide)),
    (shown _ (by decide)).trans (apart _ (by decide) (by decide))⟩
  · exact (Device.get_setFlag_apart _ _ _ _ (by decide) (by decide)).trans (d.get_setFlag_same _ _ (by decide) rfl)
  · have evc : ((d.setFlag F.PWR_STAT_PRES_RAW true).setFlag F.PWR_STAT_PRES true).evc = d.evc :=
      (Device.put_evc _ _ _).trans (Device.put_evc _ _ _)
    have armed := Device.latchArmed_congr evc power (apart F.PWR_STAT_STATE (by decide) (by decide)) 4
    have source : ((d.setFlag F.PWR_STAT_PRES_RAW true).setFlag F.PWR_STAT_PRES true).source 4 = d.source 4 := by
      rw [Device.source, evc, Device.source]
    exact Device.fired_of_armed armed.trans source (Device.fired_fire _ 4 (by decide) (by decide))

/-- Presence comes back (R221, R219). -/
theorem Device.presGained_shows (aon : d.aonRuns = true) (gone : d.get F.PWR_STAT_PRES = 0) : let e := d.presGained
    e.get F.PWR_STAT_PRES = 1 ∧ e.get F.PWR_STAT_PRES_RAW = 1 ∧ d.fired e 4 ∧
      (d.get F.PWR_CTL_AUTO_MAIN = 1 → d.running = true → d.get F.PWR_STAT_STATE = 2 → d.get F.PWR_STAT_MAIN = 0 →
        d.pwr.pre = .idle → d.pwr.busy ≠ .iceEntry → e.pwr.pre = .due) ∧
      (d.get F.PWR_CTL_AUTO_MAIN = 0 ∨ d.pwr.busy = .iceEntry → e.pwr = d.pwr) := by
  obtain ⟨pres, raw, fired, pwr, state, main, auto⟩ := d.presenceBack_shows
  have absent : d.flag F.PWR_STAT_PRES = false := (Device.flag_eq_false_iff _).2 gone
  have runs : d.presenceBack.running = d.running := Device.running_congr (by rw [pwr]) state
  have eq : d.presGained = if d.flag F.PWR_CTL_AUTO_MAIN && d.running && d.isState 2 && d.pwr.busy != .iceEntry &&
      d.get F.PWR_STAT_MAIN == 0 && d.pwr.pre == .idle then { d.presenceBack with pwr.pre := .due } else d.presenceBack := by
    unfold Device.presGained
    rw [aon, absent, if_neg (by decide)]
    show (if d.presenceBack.flag F.PWR_CTL_AUTO_MAIN && d.presenceBack.running && d.presenceBack.isState 2 &&
      d.presenceBack.pwr.busy != .iceEntry && d.presenceBack.get F.PWR_STAT_MAIN == 0 && d.presenceBack.pwr.pre == .idle
      then { d.presenceBack with pwr.pre := .due } else d.presenceBack) = _
    simp only [Device.flag, Device.isState, auto, runs, state, pwr, main]
  rw [eq]
  split
  · rename_i all
    simp only [Bool.and_eq_true, bne_iff_ne] at all
    obtain ⟨⟨⟨⟨⟨on, -⟩, -⟩, notIce⟩, -⟩, -⟩ := all
    refine ⟨pres, raw, fired, fun _ _ _ _ _ _ => rfl, fun none => ?_⟩
    rcases none with off | ice
    · exact absurd on (by rw [(Device.flag_eq_false_iff _).2 off]; decide)
    · exact absurd ice notIce
  · rename_i none
    refine ⟨pres, raw, fired, fun on run st open_ idle notIce => absurd ?_ none, fun _ => pwr⟩
    simp [Device.flag, Device.isState, on, run, st, open_, idle, notIce]

end Presence

end Sys2Proof.Machine
end

section
/-! PROOFS. The die temperature, WAKE_N and the clearing of PWR_FAULT (O33; R228, R230, R768). -/

namespace Sys2Proof.Machine

section Temperature

variable (d : Device) (ntc : Vector (Option Int) 4) (die : Int)

/-- The device that holds a sample of the auxiliary converter. -/
def Device.sampled (d : Device) (ntc : Vector (Option Int) 4) (die : Int) : Device :=
  { d with
    aux.ntc := ntc.map fun (t : Option Int) => t.map fun x => (x : Rat) / 10
    aux.die := some (die : Rat) }.puti F.PWR_TEMP_DIE die

/-- The warning of the die (R230). -/
def Device.dieWarns (d : Device) (die : Int) : Device :=
  if decide ((d.get F.PWR_TEMP_WARN : Rat) ≤ (die : Rat)) then
    if d.aux.dieWarned then d else { d with aux.dieWarned := true }.fire 6
  else if decide ((die : Rat) < (d.get F.PWR_TEMP_WARN : Rat) - 5) then { d with aux.dieWarned := false }
  else d

theorem Device.auxSample_eq (run : d.running = true) : d.auxSample ntc die =
    if (150 : Rat) ≤ (die : Rat) then ((d.sampled ntc die).dieWarns die).powerFault 7
      (leBytes 2 (((d.sampled ntc die).dieWarns die).get F.PWR_TEMP_DIE))
    else (d.sampled ntc die).dieWarns die := by
  unfold Device.auxSample
  rw [run]
  rfl

theorem Device.sampled_shows (lo : -40 ≤ die) (hi : die < 1000) : (d.sampled ntc die).geti F.PWR_TEMP_DIE = die ∧
    (d.sampled ntc die).aux = { d.aux with
      ntc := ntc.map fun (t : Option Int) => t.map fun x => (x : Rat) / 10
      die := some (die : Rat) } ∧
    (d.sampled ntc die).pwr = d.pwr ∧ (d.sampled ntc die).evc = d.evc ∧
    (d.sampled ntc die).get F.PWR_TEMP_WARN = d.get F.PWR_TEMP_WARN ∧
    ∀ a, a ≠ R.PWR_TEMP → (d.sampled ntc die).word a = d.word a := by
  refine ⟨Device.geti_puti_same _ _ (by decide) (by decide) ?_ ?_, rfl, rfl, rfl,
    Device.get_puti_apart _ _ _ _ (by decide) (by decide), fun _ h => Device.word_put_ne _ _ _ h⟩
  · show (-2 ^ 15 : Int) ≤ die
    omega
  · show die < (2 ^ 15 : Int)
    omega

/-- The warning changes nothing but itself. -/
theorem Device.dieWarns_shows : (d.dieWarns die).aux = { d.aux with dieWarned := (d.dieWarns die).aux.dieWarned } ∧
    (d.dieWarns die).pwr = d.pwr ∧ ∀ a, a ∉ noteWords → (d.dieWarns die).word a = d.word a := by
  unfold Device.dieWarns
  split
  · split
    · exact ⟨rfl, rfl, fun _ _ => rfl⟩
    · have noted := ({ d with aux.dieWarned := true } : Device).fire_noted 6
      exact ⟨by rw [noted.aux], noted.pwr, fun _ h => noted.word h⟩
  · split <;> exact ⟨rfl, rfl, fun _ _ => rfl⟩

theorem Device.dieWarns_hot (hot : (d.get F.PWR_TEMP_WARN : Int) ≤ die) : (d.dieWarns die).aux.dieWarned = true ∧
    (d.aux.dieWarned = false → d.fired (d.dieWarns die) 6) := by
  have hot : (d.get F.PWR_TEMP_WARN : Rat) ≤ (die : Rat) := by exact_mod_cast hot
  rw [Device.dieWarns, if_pos (decide_eq_true hot)]
  split
  · rename_i warned
    exact ⟨warned, fun no => absurd (no.symm.trans warned) Bool.false_ne_true⟩
  · refine ⟨by rw [(Device.fire_noted _ 6).aux], fun _ => ?_⟩
    exact Device.fired_of_armed (Device.latchArmed_congr (f := { d with aux.dieWarned := true }) rfl rfl rfl 6).trans rfl
      (Device.fired_fire _ 6 (by decide) (by decide))

theorem Device.dieWarns_cool (cool : die < (d.get F.PWR_TEMP_WARN : Int) - 5) : (d.dieWarns die).aux.dieWarned = false := by
  have cool : (die : Rat) < (d.get F.PWR_TEMP_WARN : Rat) - 5 := by exact_mod_cast cool
  have below : ¬ (d.get F.PWR_TEMP_WARN : Rat) ≤ (die : Rat) := by linarith
  rw [Device.dieWarns, if_neg (by simpa using below), if_pos (decide_eq_true cool)]

variable (run : d.running = true) (lo : -40 ≤ die)
include run lo

/-- A sample below the trip level of the die (R230). -/
theorem Device.auxSample_cool (hi : die < 150) : let e := d.auxSample ntc die
    e.geti F.PWR_TEMP_DIE = die ∧ e.aux.die = some (die : Rat) ∧
      (∀ i : Fin 4, e.aux.ntc[i] = ntc[i].map fun t => (t : Rat) / 10) ∧
      ((d.get F.PWR_TEMP_WARN : Int) ≤ die → e.aux.dieWarned = true ∧ (d.aux.dieWarned = false → d.fired e 6)) ∧
      (die < (d.get F.PWR_TEMP_WARN : Int) - 5 → e.aux.dieWarned = false) ∧ e.word R.PWR_FAULT = d.word R.PWR_FAULT := by
  obtain ⟨shown, aux, pwr, evc, warn, word⟩ := d.sampled_shows ntc die lo (by omega)
  obtain ⟨kept, -, words⟩ := (d.sampled ntc die).dieWarns_shows die
  have state : (d.sampled ntc die).get F.PWR_STAT_STATE = d.get F.PWR_STAT_STATE :=
    Device.get_eq_of_word (word _ (by decide))
  have below : ¬ (150 : Rat) ≤ (die : Rat) := by
    rw [not_le]
    exact_mod_cast hi
  rw [d.auxSample_eq ntc die run, if_neg below]
  refine ⟨(Device.geti_congr (Device.get_eq_of_word (words _ (by decide))) rfl).trans shown, by rw [kept, aux], fun i => ?_,
    fun hot => ?_, fun cool => ?_, (words _ (by decide)).trans (word _ (by decide))⟩
  · rw [kept, aux]
    exact Vector.getElem_map _ _
  · obtain ⟨warned, fires⟩ := (d.sampled ntc die).dieWarns_hot die (by rw [warn]; exact hot)
    refine ⟨warned, fun first => ?_⟩
    exact Device.fired_of_armed (Device.latchArmed_congr evc pwr state 6).trans (by rw [Device.source, evc, Device.source])
      (fires (by rw [aux]; exact first))
  · exact Device.dieWarns_cool _ die (by rw [warn]; exact cool)

/-- At 150 °C the die latches its fault (R230). -/
theorem Device.auxSample_hot (hot : 150 ≤ die) (hi : die < 1000) (fresh : (d.word R.PWR_FAULT).getLsbD 7 = false) :
    let e := d.auxSample ntc die
    (e.word R.PWR_FAULT).getLsbD 7 = true ∧ e.get F.PWR_STAT_STATE = 4 := by
  obtain ⟨-, -, pwr, -, -, word⟩ := d.sampled_shows ntc die lo hi
  obtain ⟨-, power, words⟩ := (d.sampled ntc die).dieWarns_shows die
  have hot : (150 : Rat) ≤ (die : Rat) := by exact_mod_cast hot
  have fault := (words R.PWR_FAULT (by decide)).trans (word _ (by decide))
  have runs : ((d.sampled ntc die).dieWarns die).running = true := by
    refine (Device.running_congr (by rw [power, pwr]) ?_).trans run
    exact Device.get_eq_of_word ((words _ (by decide)).trans (word _ (by decide)))
  rw [d.auxSample_eq ntc die run, if_pos hot]
  exact ⟨Device.powerFault_set _ _ (by decide), Device.powerFault_state _ _ (by rw [fault]; exact fresh) runs⟩

end Temperature

/-- An edge on WAKE_N is an event, and in STILL and ICE its latch (R768, R148). -/
theorem Device.wakePin_shows {d : Device} (aon : d.aonRuns = true) : let e := d.wakePin
    d.fired e 5 ∧ (d.coreRuns = false → (e.get F.EVC_WLATCH_LATCH).testBit 3 = true) ∧ d.noted e [] := by
  have eq : d.wakePin = d.fire 5 := if_pos aon
  rw [eq]
  refine ⟨d.fired_fire 5 (by decide) (by decide), fun stopped => ?_, d.wrote_refl.noted (d.fire_noted 5)⟩
  rw [show d.fire 5 = _ from
    Device.fire_latched (n := 5) (by decide) (by decide) (Device.latchArmed_stopped stopped 5) (k := 3) rfl]
  exact d.testBit_orField (f := F.EVC_WLATCH_LATCH) (i := 3) (by decide) (by decide)

end Sys2Proof.Machine
end

section
/-! PROOFS. Writes of 1 that clear latched faults: what a condition holds stays set, and a core may clear none (R228). -/

namespace Sys2Proof.Machine

/-! ### Taking bits away -/

/-- Taking away a number whose bits are all set clears those bits and no others. -/
theorem testBit_sub_of_subset (j : Nat) : ∀ {a g : Nat}, (∀ i, g.testBit i = true → a.testBit i = true) →
    (a - g).testBit j = (a.testBit j && !g.testBit j) := by
  induction j with
  | zero =>
    intro a g inside
    have le := Nat.le_of_testBit inside
    have low := inside 0
    simp only [Nat.testBit_zero, decide_eq_true_eq] at low ⊢
    obtain ha | ha := Nat.mod_two_eq_zero_or_one a <;> obtain hg | hg := Nat.mod_two_eq_zero_or_one g
    · simp [ha, hg, show (a - g) % 2 = 0 by omega]
    · omega
    · simp [ha, hg, show (a - g) % 2 = 1 by omega]
    · simp [ha, hg, show (a - g) % 2 = 0 by omega]
  | succ j ih =>
    intro a g inside
    have le := Nat.le_of_testBit inside
    have low := inside 0
    simp only [Nat.testBit_zero, decide_eq_true_eq] at low
    rw [Nat.testBit_succ, Nat.testBit_succ, Nat.testBit_succ, show (a - g) / 2 = a / 2 - g / 2 by omega]
    exact ih fun i h => by
      rw [← Nat.testBit_succ] at h ⊢
      exact inside _ h

/-- A word from which bits of its own have been taken. -/
theorem getLsbD_ofNat_sub (w : Word) {g : Nat} (inside : ∀ i, g.testBit i = true → w.getLsbD i = true) {i : Nat}
    (hi : i < 32) : (BitVec.ofNat 32 (w.toNat - g)).getLsbD i = (w.getLsbD i && !g.testBit i) := by
  rw [BitVec.getLsbD_ofNat, decide_eq_true hi, Bool.true_and, testBit_sub_of_subset i inside]
  rfl

/-- Bits of a word that a write names and that nothing holds. -/
theorem getLsbD_clear (w v : Word) {free : Nat} {i : Nat} (hi : i < 32) :
    (BitVec.ofNat 32 (w.toNat - (w.toNat &&& v.toNat &&& free))).getLsbD i =
      (w.getLsbD i && !(v.getLsbD i && free.testBit i)) := by
  have bits : ∀ j, (w.toNat &&& v.toNat &&& free).testBit j = (w.getLsbD j && v.getLsbD j && free.testBit j) := fun j => by
    rw [Nat.testBit_and, Nat.testBit_and]
    rfl
  rw [getLsbD_ofNat_sub w (fun j h => by rw [bits] at h; simp_all) hi, bits]
  cases w.getLsbD i <;> simp

/-! ### The write -/

section Writes

variable {d : Device} {m : Master} {priv : Bool} {v : Word} {r : RegSpec} {a : Nat}

/-- The write of a register whose W1C bits a condition can hold acts on the device as it was. -/
theorem Device.regWrite_held (found : regFind a = some r) (plain : r.fields.any FieldSpec.settable = false)
    (settable : r.mask FieldSpec.settable = 0) (free : r.mask FieldSpec.guarded = 0) (held : plainW1c a = false)
    (act : d.actReserved m priv a v = false) (clear : d.hostOnlyClear m a v = false) :
    d.regWrite m priv a v = (false, (d.setWord a (d.word a)).registerActs m priv a v) := by
  have unguarded := Device.guardedChange_free free d a v
  rw [Device.regWrite_accepted found (Device.writeReserved_plain plain act clear) fun h =>
    absurd (unguarded.symm.trans h) Bool.false_ne_true]
  simp only [Device.writeAccepted, unguarded, plain, RegSpec.setFields_plain settable, held, Bool.false_eq_true, if_false]

theorem Device.hostOnlyClear_host (host : m.isHost = true) : d.hostOnlyClear m a v = false := by
  rw [Device.hostOnlyClear, host]
  rfl

/-- A core that tries to clear a latched fault is rejected, and the fault stands. -/
theorem Device.directWrite_refused (run : d.coreRuns = true) (core : m.isHost = false) (found : regFind a = some r)
    (al : a % 4 = 0) (lo : 0x40000000 ≤ a) (hi : a < 0x40160000) (clear : d.hostOnlyClear m a v = true) :
    (∀ b, b ∉ noteWords → b ≠ R.SYS_REJECT_ADDR → b ≠ R.SYS_REJECT_CNT → (d.directWrite m a v).word b = d.word b) ∧
      d.fired (d.directWrite m a v) 0 := by
  have refused : d.writeReserved m (d.masterPriv m) r a v = true := by
    rw [Device.writeReserved, clear, Bool.or_true]
    rfl
  have small : a < 2 ^ 32 := by omega
  rw [Device.directWrite_register run (Device.masterMay_core core) al lo hi, Device.regWrite_reserved found refused]
  obtain ⟨-, fired, -⟩ := d.reject_reports (BitVec.ofNat 32 a)
  rw [BitVec.toNat_ofNat, Nat.mod_eq_of_lt small] at fired
  exact ⟨fun b note addr cnt => d.reject_word small note addr cnt, fired⟩

end Writes

/-! ### PWR_FAULT (R228) -/

/-- The condition of a bit of PWR_FAULT has gone (R228). -/
def Device.faultGone (d : Device) (i : Nat) : Bool :=
  match i with
  | 0 => d.flag F.PWR_STAT_PRES
  | 1 => decide (48 ≤ d.get F.PWR_VMON_VSTK)
  | 2 => true
  | 3 => d.pwr.pgAux[2]
  | 4 => d.c0.run != .halted
  | 5 => d.c1.run != .halted
  | 6 => d.flag F.CLK_STAT_LOCKED && !d.limp
  | 7 => (d.aux.die.getD 0) < 140
  | 8 => true
  | _ => false

/-- The conditions that persist, as a sum of bits. -/
theorem testBit_persists : ∀ pres low supply c0 c1 clock hot : Bool, ∀ i < 9,
    ((if pres then 0 else 1) + (if low then 2 else 0) + (if supply then 0 else 8) + (if c0 then 16 else 0) +
      (if c1 then 32 else 0) + (if clock then 0 else 64) + (if hot then 128 else 0) + 0x600 : Nat).testBit i =
    match i with
    | 0 => !pres
    | 1 => low
    | 3 => !supply
    | 4 => c0
    | 5 => c1
    | 6 => !clock
    | 7 => hot
    | _ => false := by decide

theorem Device.testBit_faultPersists (d : Device) {i : Nat} (hi : i < 9) :
    d.faultPersists.testBit i = !d.faultGone i := by
  have hot : (match d.aux.die with
      | some t => if t < 140 then 0 else 128
      | none => 0) = if (!decide (d.aux.die.getD 0 < 140)) = true then 128 else 0 := by
    cases d.aux.die with
    | none => simp
    | some t => by_cases h : t < 140 <;> simp [h]
  have bits := testBit_persists (d.flag F.PWR_STAT_PRES) (decide (d.get F.PWR_VMON_VSTK < 48)) d.pwr.pgAux[2]
    (d.c0.run == .halted) (d.c1.run == .halted) (d.flag F.CLK_STAT_LOCKED && !d.limp)
    (!decide (d.aux.die.getD 0 < 140)) i hi
  rw [← hot] at bits
  simp only [decide_eq_true_eq] at bits
  refine bits.trans ?_
  have low : decide (d.get F.PWR_VMON_VSTK < 48) = !decide (48 ≤ d.get F.PWR_VMON_VSTK) := by
    rw [← decide_not]
    simp only [not_le]
  interval_cases i <;> simp [Device.faultGone, bne, low]

/-- PWR_FAULT, R228. -/
def specPwrFault : RegSpec := ⟨0x40020010, 1, 0x4, false, 0x0, [⟨0, 1, .w1c, .neu, false⟩, ⟨1, 1, .w1c, .neu, false⟩,
  ⟨2, 1, .w1c, .neu, false⟩, ⟨3, 1, .w1c, .neu, false⟩, ⟨4, 1, .w1c, .neu, false⟩, ⟨5, 1, .w1c, .neu, false⟩,
  ⟨6, 1, .w1c, .neu, false⟩, ⟨7, 1, .w1c, .neu, false⟩, ⟨8, 1, .w1c, .neu, false⟩, ⟨9, 1, .ro, .neu, false⟩,
  ⟨10, 1, .ro, .neu, false⟩]⟩

theorem regFind_pwrFault : regFind R.PWR_FAULT = some specPwrFault := by decide

/-- A host clears the bits of PWR_FAULT that it names and that no condition holds (R228). -/
theorem Device.clearFaults_bit (d : Device) (v : Word) {i : Nat} (hi : i < 32) :
    ((d.clearFaults v).word R.PWR_FAULT).getLsbD i =
      ((d.word R.PWR_FAULT).getLsbD i && !(v.getLsbD i && d.faultGone i)) := by
  have named : ∀ j, ((d.word R.PWR_FAULT).toNat &&& v.toNat % 512).testBit j =
      ((d.word R.PWR_FAULT).getLsbD j && (decide (j < 9) && v.getLsbD j)) := fun j => by
    rw [Nat.testBit_and, show 512 = 2 ^ 9 from rfl, Nat.testBit_mod_two_pow]
    rfl
  have gone : ∀ j, (((d.word R.PWR_FAULT).toNat &&& v.toNat % 512) -
      ((d.word R.PWR_FAULT).toNat &&& v.toNat % 512 &&& d.faultPersists)).testBit j =
      ((d.word R.PWR_FAULT).getLsbD j && (decide (j < 9) && v.getLsbD j) && !d.faultPersists.testBit j) := fun j => by
    rw [testBit_sub_of_subset j fun i h => by rw [Nat.testBit_and, Bool.and_eq_true] at h; exact h.1,
      Nat.testBit_and _ d.faultPersists, named]
    cases (d.word R.PWR_FAULT).getLsbD j && (decide (j < 9) && v.getLsbD j) <;> rfl
  unfold Device.clearFaults
  dsimp only
  rw [Device.word_setWord_same, getLsbD_ofNat_sub _ (fun j h => ?_) hi, gone]
  · by_cases small : i < 9
    · rw [d.testBit_faultPersists small]
      cases (d.word R.PWR_FAULT).getLsbD i <;> simp [small]
    · have none : d.faultGone i = false := by
        obtain ⟨k, rfl⟩ := Nat.exists_eq_add_of_le' (Nat.not_lt.1 small)
        rfl
      simp [small, none]
  · rw [gone] at h
    simp_all

/-- What holds a fault does not depend on the write of PWR_FAULT. -/
theorem Device.rewritten_faultGone (d : Device) (a i : Nat) : (d.setWord a (d.word a)).faultGone i = d.faultGone i := by
  have get : ∀ f, (d.setWord a (d.word a)).get f = d.get f := fun f => Device.get_eq_of_word (d.setWord_self_word a _)
  unfold Device.faultGone Device.flag Device.limp
  simp only [get]
  rfl

/-- A write of PWR_FAULT by a host that may make it (R228). -/
theorem Device.pwrFaultClear_host {d : Device} {m : Master} {v : Word} (run : d.coreRuns = true)
    (may : d.masterMay m R.PWR_FAULT v = true) (host : m.isHost = true) : let e := d.directWrite m R.PWR_FAULT v
    (∀ i < 32, (e.word R.PWR_FAULT).getLsbD i =
      ((d.word R.PWR_FAULT).getLsbD i && !(v.getLsbD i && d.faultGone i))) ∧ e = { d with regs := e.regs } ∧
      ∀ a, a ≠ R.PWR_FAULT → e.word a = d.word a := by
  have eq : d.directWrite m R.PWR_FAULT v = (d.setWord R.PWR_FAULT (d.word R.PWR_FAULT)).clearFaults v := by
    rw [Device.directWrite_register run may (by decide) (by decide) (by decide),
      Device.regWrite_held regFind_pwrFault (by decide) (by decide) (by decide) (by decide) rfl
        (Device.hostOnlyClear_host host)]
    exact if_pos host
  rw [eq]
  refine ⟨fun i hi => ?_, rfl, fun a h => (Device.word_setWord_ne _ _ h).trans (d.setWord_self_word _ a)⟩
  rw [Device.clearFaults_bit _ v hi, d.setWord_self_word, Device.rewritten_faultGone]

/-- A core may clear none of PWR_FAULT (R228). -/
theorem Device.pwrFaultClear_core {d : Device} {m : Master} {v : Word} (run : d.coreRuns = true) (core : m.isHost = false)
    (some : d.word R.PWR_FAULT &&& v &&& 0x1FF ≠ 0) : let e := d.directWrite m R.PWR_FAULT v
    e.word R.PWR_FAULT = d.word R.PWR_FAULT ∧ d.fired e 0 := by
  have barred : d.hostOnlyClear m R.PWR_FAULT v = true := by
    rw [Device.hostOnlyClear, core]
    exact bne_iff_ne.2 some
  obtain ⟨word, fired⟩ := Device.directWrite_refused run core regFind_pwrFault (by decide) (by decide) (by decide) barred
  exact ⟨word _ (by decide) (by decide) (by decide), fired⟩

/-- Settles O33: each monitor latches, warns and clears as its rule says, and a fault bit clears only with its condition. -/
theorem supervision : Obligations.Supervision := by
  unfold Obligations.Supervision
  intro s m v w ntc die d bit latches open_
  refine ⟨fun aon low link fresh => ?_, fun aon high => ?_, fun aon low first => ?_, fun aon high => ?_, fun run fresh => ?_,
    fun still _ => ?_, fun ice => ?_, fun aon gone => ?_, fun run lo hi => ?_, fun run hot hi fresh => ?_, fun aon => ?_,
    fun run may host => ?_, fun run core some => ?_⟩
  · refine completes_on (f := fun d => d.brownout v) rfl ?_
    obtain ⟨⟨set, safe⟩, shut, rest⟩ := Device.brownout_shows v aon low link fresh
    exact ⟨⟨set, safe⟩, shut, rest⟩
  · refine completes_on (f := fun d => d.brownout v) rfl ?_
    obtain ⟨trip, vstk, word⟩ := d.tripped_shows v false
    rw [Device.brownout_high v aon high]
    exact ⟨trip, vstk, congrArg (BitVec.getLsbD · 1) (word R.PWR_FAULT (by decide))⟩
  · refine completes_on (f := fun d => d.brownoutWarn v) rfl ?_
    exact Device.brownoutWarn_shows v aon low first
  · refine completes_on (f := fun d => d.brownoutWarn v) rfl ?_
    rw [Device.brownoutWarn_high v aon high]
    exact ⟨Device.get_setFlag_same _ _ _ (by decide) rfl, rfl,
      fun a h => (Device.word_put_ne _ _ _ h).trans (Device.showVstk_word v h)⟩
  · refine completes_on rfl ?_
    obtain ⟨set, safe, shut, rest⟩ := Device.presLost_running run fresh
    exact ⟨⟨set, fun _ => safe⟩, shut, rest⟩
  · exact completes_on rfl (Device.presLost_still still)
  · exact completes_on rfl (Device.presLost_iced ice)
  · exact completes_on rfl (Device.presGained_shows aon gone)
  · refine completes_on (f := fun d => d.auxSample ntc die) rfl ?_
    exact d.auxSample_cool ntc die run lo hi
  · refine completes_on (f := fun d => d.auxSample ntc die) rfl ?_
    obtain ⟨set, safe⟩ := d.auxSample_hot ntc die run (by omega) hot hi fresh
    exact ⟨set, fun _ => safe⟩
  · exact completes_on rfl (Device.wakePin_shows aon)
  · refine completes_on rfl ?_
    obtain ⟨bits, same, word⟩ := Device.pwrFaultClear_host run may host
    exact ⟨fun i hi => bits i hi, same, word⟩
  · exact completes_on rfl (Device.pwrFaultClear_core run core some)

end Sys2Proof.Machine
end

section
/-! PROOFS. How a fault of the power stage latches (O37; R303, R306 to R312, R315). -/

namespace Sys2Proof.Machine

/-! ### The forces (R308) -/

theorem Device.forceOff_forced (d : Device) {sel : Nat → Bool} {x : Fin 8} (h : sel x.val = true) :
    (d.forceOff sel).stage.half[x].forced = true := by
  have forced : (d.forceOff sel).stage.half[x] = if sel x.val then { d.stage.half[x] with forced := true } else d.stage.half[x] :=
    Vector.getElem_mapFinIdx ..
  rw [forced, if_pos h]

/-! ### A bit and its summary (R310) -/

section Latch

variable {d : Device} {bit : Nat} {entry : Device → Device} (he : ∀ d : Device, d.standsDown (entry d))
include he

/-- A latched fault stays set while the device stands down. -/
theorem Device.latchFault_sets (hb : bit < 32) (fresh : (d.word R.PWR_FAULT).getLsbD bit = false) :
    ((d.latchFault bit entry).word R.PWR_FAULT).getLsbD bit = true := by
  have set : ((d.withFault bit).word R.PWR_FAULT).getLsbD bit = true := by
    rw [Device.withFault, Device.word_setWord_same, BitVec.getLsbD_or, BitVec.getLsbD_ofNat, Nat.testBit_two_pow_self]
    simp [hb]
  have first : (d.withFault bit).standsDown (if d.isState 4 && d.running then d.withFault bit
      else (d.withFault bit).put F.PWR_FAULT_FIRST_BIT bit) :=
    .ite (.refl _) (Device.standsDown_put _ _ (by decide) (by decide) (by decide))
  have noted : (d.withFault bit).standsDown (d.faultNoted bit entry) :=
    (first.trans (he _)).trans (Device.standsDown_faultOpensMain _ bit)
  rw [Device.latchFault_eq fresh]
  exact (noted.trans (Device.standsDown_faultStops _ _ _ _)).latched bit set

/-- A fault of the power stage: what it makes of the device, whether or not the summary was set already. -/
theorem Device.stageFault_shows : d.standsDown (d.stageFault entry) ∧ ((d.word R.PWR_FAULT).getLsbD 9 = false →
    ((d.stageFault entry).word R.PWR_FAULT).getLsbD 9 = true ∧
      (d.running = true → (d.stageFault entry).get F.PWR_STAT_STATE = 4)) := by
  refine ⟨?_, fun fresh => ⟨Device.latchFault_sets he (by decide) fresh, fun run => Device.latchFault_state he fresh run⟩⟩
  cases fresh : (d.word R.PWR_FAULT).getLsbD 9 with
  | false => exact Device.standsDown_latchFault he fresh
  | true =>
    have eq : d.stageFault entry = entry d := if_pos fresh
    rw [eq]
    exact he d

end Latch

/-- From `d` to `e` a stage fault has latched in the word at `a`, which now is `w`: the summary is set with it and a running
device is in SAFE, the half-bridges are as they were, and so are the firm fields of other words. -/
structure Device.stageLatched (d e : Device) (a : Nat) (w : Word) : Prop where
  word : e.word a = w
  summary : (d.word R.PWR_FAULT).getLsbD 9 = false → (e.word R.PWR_FAULT).getLsbD 9 = true ∧
    (d.running = true → e.get F.PWR_STAT_STATE = 4)
  half : e.stage.half = d.stage.half
  get : ∀ f : Fld, f.firm → f.addr ≠ a → e.get f = d.get f

section Bits

variable {d : Device}

theorem Device.setWord_running {a : Nat} (w : Word) (h : a ≠ R.PWR_STAT) : (d.setWord a w).running = d.running :=
  Device.running_congr rfl (d.get_setWord_ne _ _ _ h.symm)

/-- A word that has taken the bits of a stage fault. -/
theorem Device.stageLatched_of {a : Nat} (w : Word) {entry : Device → Device} (he : ∀ d : Device, d.standsDown (entry d))
    (block : a / 0x10000 ∉ followingBlocks) (note : a ∉ noteWords) (free : a ∉ R.PWR_FAULT :: downFields.map Fld.addr)
    (stat : a ≠ R.PWR_STAT) : d.stageLatched ((d.setWord a w).stageFault entry) a w := by
  obtain ⟨down, summary⟩ := Device.stageFault_shows (d := d.setWord a w) he
  have other : R.PWR_FAULT ≠ a := fun e => free (e ▸ .head _)
  rw [Device.word_setWord_ne _ _ other, Device.setWord_running w stat] at summary
  exact ⟨(down.word block note free).trans (Device.word_setWord_same _ _ _), summary, down.half,
    fun f firm hf => (down.get f firm).trans (d.get_setWord_ne _ _ _ hf)⟩

/-- A fault of a channel that is not latched yet (R310). -/
theorem Device.channelFault_latches {n bit source : Nat} (hn : n < 4) (listed : source ∈ downSources)
    (fresh : (d.word (R.GDV_CH_FAULT_n n)).getLsbD bit = false) :
    d.stageLatched (d.channelFault n bit source) (R.GDV_CH_FAULT_n n)
      (d.word (R.GDV_CH_FAULT_n n) ||| BitVec.ofNat 32 (2 ^ bit)) := by
  have channel : 16 + n ∈ downSources := (by decide : ∀ n < 4, 16 + n ∈ downSources) n hn
  have apart := (by decide : ∀ n < 4, R.GDV_CH_FAULT_n n / 0x10000 ∉ followingBlocks ∧ R.GDV_CH_FAULT_n n ∉ noteWords ∧
    R.GDV_CH_FAULT_n n ∉ R.PWR_FAULT :: downFields.map Fld.addr ∧ R.GDV_CH_FAULT_n n ≠ R.PWR_STAT) n hn
  obtain ⟨block, note, free, stat⟩ := apart
  have eq : d.channelFault n bit source = (d.setWord (R.GDV_CH_FAULT_n n)
      (d.word (R.GDV_CH_FAULT_n n) ||| BitVec.ofNat 32 (2 ^ bit))).stageFault
        fun d => (d.raise source (n + 1)).raise (16 + n) 0 :=
    if_neg (by rw [show (d.word (R.GDV_CH_FAULT_n n)).toNat.testBit bit = false from fresh]; exact Bool.false_ne_true)
  rw [eq]
  exact Device.stageLatched_of _ (fun d => (d.standsDown_raise listed _ _).trans (Device.standsDown_raise _ channel _ _))
    block note free stat

theorem getLsbD_or_two_pow (w : Word) {bit : Nat} (hb : bit < 32) :
    (w ||| BitVec.ofNat 32 (2 ^ bit)).getLsbD bit = true := by
  rw [BitVec.getLsbD_or, BitVec.getLsbD_ofNat, Nat.testBit_two_pow_self]
  simp [hb]

/-- A fault common to all channels that is not latched yet (R310). -/
theorem Device.commonFault_latches {f : Fld} (word : f.addr = R.GDV_FAULT) {source : Nat} (listed : source ∈ downSources) :
    d.stageLatched ((d.setFlag f true).stageFault fun d => d.raise source 0) R.GDV_FAULT
      ((d.setFlag f true).word R.GDV_FAULT) := by
  have eq : d.setFlag f true = d.setWord R.GDV_FAULT ((d.setFlag f true).word R.GDV_FAULT) := by
    rw [← word]
    show d.setWord f.addr _ = d.setWord f.addr ((d.setWord f.addr _).word f.addr)
    rw [Device.word_setWord_same]
  rw [eq, Device.word_setWord_same]
  exact Device.stageLatched_of _ (fun d => d.standsDown_raise listed _ _) (by decide) (by decide) (by decide) (by decide)

end Bits

end Sys2Proof.Machine
end

section
/-! PROOFS. The comparators, the interlock, FAULT_N and the lockouts (O37; R303, R306, R307, R311, R312, R315). -/

namespace Sys2Proof.Machine

/-! ### The channel comparators (R306) -/

section Overcurrent

variable (d : Device) (n : Fin 4)

/-- The channel of a comparator as an index. -/
def Device.ocChannel (d : Device) (n : Fin 4) : Fin 4 := ⟨d.comparatorChannel n.val % 4, Nat.mod_lt _ (by decide)⟩

theorem Device.chan_ocChannel (h : d.comparatorChannel n.val < 4) (xs : Vector ModChannel 4) :
    xs[d.ocChannel n] = xs[d.comparatorChannel n.val] := by
  have index : (d.ocChannel n).val = d.comparatorChannel n.val := Nat.mod_eq_of_lt h
  rw [Fin.getElem_fin]
  simp only [index]

/-- The tripped periods in a row, this one included. -/
def Device.ocRuns (d : Device) (n : Fin 4) : Nat :=
  if d.stage.chan[d.ocChannel n].tripped then d.stage.chan[d.ocChannel n].tripRun
  else d.stage.chan[d.ocChannel n].tripRun + 1

/-- The channel is off for the rest of the period. -/
def Device.ocTripped (d : Device) (n : Fin 4) : Device :=
  let c := d.stage.chan[d.ocChannel n]
  { d with stage.chan := d.stage.chan.set (d.ocChannel n) { c with tripped := true, tripRun := d.ocRuns n } }

/-- A trip has been counted and shows. -/
def Device.ocSeen (d : Device) (n : Fin 4) : Device :=
  ((d.ocTripped n).bump F.GDV_OC_CNT_COUNT).orField F.GDV_STAT_OC_NOW (2 ^ n.val)

theorem Device.overcurrent_eq (run : d.running = true) (seen : d.blanked (d.comparatorChannel n.val) = false) :
    d.overcurrent n = if (d.ocSeen n).get (F.GDV_OC_n_MODE n.val) == 0 ||
        (d.ocSeen n).get (F.GDV_OC_n_CBC_MAX n.val) ≤ d.ocRuns n
      then ((d.ocSeen n).forceOff fun x => (d.ocSeen n).channelOf x == d.comparatorChannel n.val).channelFault n.val 0 21
      else (d.ocSeen n).fire 21 := by
  exact if_neg (by rw [run, seen]; decide)

theorem Device.overcurrent_not (out : d.running = false ∨ d.blanked (d.comparatorChannel n.val) = true) :
    d.overcurrent n = d := by
  refine if_pos ?_
  rcases out with stands | blind
  · rw [stands]
    rfl
  · rw [blind, Bool.or_true]

/-- What a counted trip leaves alone and shows. -/
theorem Device.ocSeen_shows : (∀ a, a ≠ R.GDV_OC_CNT → a ≠ R.GDV_STAT → (d.ocSeen n).word a = d.word a) ∧
    (d.ocSeen n).get F.GDV_OC_CNT_COUNT = min (d.get F.GDV_OC_CNT_COUNT + 1) 65535 ∧
    ((d.ocSeen n).get F.GDV_STAT_OC_NOW).testBit n.val = true ∧ (d.ocSeen n).pwr = d.pwr ∧ (d.ocSeen n).evc = d.evc := by
  unfold Device.ocSeen Device.bump
  refine ⟨fun a cnt stat => ?_, ?_, Device.testBit_orField _ (by decide) n.isLt, rfl, rfl⟩
  · rw [Device.orField, Device.word_put_ne _ _ _ stat, Device.word_put_ne _ _ _ cnt]
    rfl
  · rw [Device.orField, Device.get_put_addr _ _ _ _ (by decide)]
    exact Device.get_put_lt _ _ (by decide) (Nat.lt_of_le_of_lt (Nat.min_le_right _ _) (by decide))

theorem Device.ocSeen_chan : (d.ocSeen n).stage.chan[d.ocChannel n] =
    { d.stage.chan[d.ocChannel n] with tripped := true, tripRun := d.ocRuns n } := by
  have stage : (d.ocSeen n).stage = (d.ocTripped n).stage := (Device.put_stage _ _ _).trans (Device.put_stage _ _ _)
  rw [stage, Device.ocTripped]
  exact Vector.getElem_set_self _

theorem Device.ocSeen_running : (d.ocSeen n).running = d.running := by
  obtain ⟨word, -, -, pwr, -⟩ := d.ocSeen_shows n
  exact Device.running_congr (by rw [pwr]) (Device.get_eq_of_word (word _ (by decide) (by decide)))

theorem Device.ocSeen_oc {f : Fld} (h : f.addr = R.GDV_OC_n n.val) : (d.ocSeen n).get f = d.get f := by
  have apart := (by decide : ∀ n < 4, R.GDV_OC_n n ≠ R.GDV_OC_CNT ∧ R.GDV_OC_n n ≠ R.GDV_STAT) n.val n.isLt
  exact Device.get_eq_of_word ((d.ocSeen_shows n).1 _ (by rw [h]; exact apart.1) (by rw [h]; exact apart.2))

theorem Device.ocSeen_chFault {c : Nat} (hc : c < 4) : (d.ocSeen n).word (R.GDV_CH_FAULT_n c) = d.word (R.GDV_CH_FAULT_n c) := by
  have apart := (by decide : ∀ c < 4, R.GDV_CH_FAULT_n c ≠ R.GDV_OC_CNT ∧ R.GDV_CH_FAULT_n c ≠ R.GDV_STAT) c hc
  exact (d.ocSeen_shows n).1 _ apart.1 apart.2

variable {d n} (run : d.running = true) (seen : d.blanked (d.comparatorChannel n.val) = false)
include run seen

/-- A trip in LATCH mode latches (R306, R310). -/
theorem Device.overcurrent_latches (mode : d.get (F.GDV_OC_n_MODE n.val) = 0)
    (fresh : (d.word (R.GDV_CH_FAULT_n n.val)).getLsbD 0 = false) :
    ∃ (x : Device) (w : Word), x.stageLatched (d.overcurrent n) (R.GDV_CH_FAULT_n n.val) w ∧ w.getLsbD 0 = true ∧
      x.word R.PWR_FAULT = d.word R.PWR_FAULT ∧ x.running = d.running ∧
      (∀ y : Fin 8, d.channelOf y.val = d.comparatorChannel n.val → x.stage.half[y].forced = true) ∧
      x.get F.GDV_OC_CNT_COUNT = min (d.get F.GDV_OC_CNT_COUNT + 1) 65535 ∧
      (x.get F.GDV_STAT_OC_NOW).testBit n.val = true := by
  obtain ⟨word, count, now, -, -⟩ := d.ocSeen_shows n
  have latch : ((d.ocSeen n).get (F.GDV_OC_n_MODE n.val) == 0 ||
      decide ((d.ocSeen n).get (F.GDV_OC_n_CBC_MAX n.val) ≤ d.ocRuns n)) = true := by
    rw [d.ocSeen_oc n (f := F.GDV_OC_n_MODE n.val) rfl, mode]
    rfl
  rw [d.overcurrent_eq n run seen, if_pos latch]
  refine ⟨(d.ocSeen n).forceOff fun x => (d.ocSeen n).channelOf x == d.comparatorChannel n.val, _,
    Device.channelFault_latches n.isLt (by decide) ?_, getLsbD_or_two_pow _ (by decide), word _ (by decide) (by decide),
    d.ocSeen_running n, fun y hy => Device.forceOff_forced _ (beq_iff_eq.2 hy), count, now⟩
  exact (congrArg (BitVec.getLsbD · 0) (d.ocSeen_chFault n n.isLt)).trans fresh

/-- A trip in CBC mode below the limit only counts. -/
theorem Device.overcurrent_cbc (mode : d.get (F.GDV_OC_n_MODE n.val) = 1)
    (below : d.ocRuns n < d.get (F.GDV_OC_n_CBC_MAX n.val)) : d.overcurrent n = (d.ocSeen n).fire 21 := by
  rw [d.overcurrent_eq n run seen, d.ocSeen_oc n (f := F.GDV_OC_n_MODE n.val) rfl,
    d.ocSeen_oc n (f := F.GDV_OC_n_CBC_MAX n.val) rfl, mode]
  exact if_neg (by simpa using below)

/-- A trip in CBC mode below the limit turns the channel off for the rest of the period alone (R306). -/
theorem Device.overcurrent_counts (mode : d.get (F.GDV_OC_n_MODE n.val) = 1)
    (first : d.stage.chan[d.ocChannel n].tripped = false)
    (below : d.stage.chan[d.ocChannel n].tripRun + 1 < d.get (F.GDV_OC_n_CBC_MAX n.val)) :
    let e := d.overcurrent n
    e.stage.chan[d.ocChannel n].tripped = true ∧
      e.stage.chan[d.ocChannel n].tripRun = d.stage.chan[d.ocChannel n].tripRun + 1 ∧
      (∀ c < 4, e.word (R.GDV_CH_FAULT_n c) = d.word (R.GDV_CH_FAULT_n c)) ∧ d.fired e 21 ∧ e.pwr = d.pwr ∧
      e.get F.GDV_OC_CNT_COUNT = min (d.get F.GDV_OC_CNT_COUNT + 1) 65535 := by
  obtain ⟨word, count, -, pwr, evc⟩ := d.ocSeen_shows n
  have runs : d.ocRuns n = d.stage.chan[d.ocChannel n].tripRun + 1 := if_neg (by rw [first]; decide)
  have noted := (d.ocSeen n).fire_noted 21
  have state : (d.ocSeen n).get F.PWR_STAT_STATE = d.get F.PWR_STAT_STATE :=
    Device.get_eq_of_word (word _ (by decide) (by decide))
  have chan := d.ocSeen_chan n
  rw [Device.overcurrent_cbc run seen mode (runs ▸ below)]
  refine ⟨?_, ?_, fun c hc => ?_, ?_, noted.pwr.trans pwr, (Device.get_eq_of_word (noted.word (by decide))).trans count⟩
  · rw [noted.stage, chan]
  · rw [noted.stage, chan]
    exact runs
  · have note := (by decide : ∀ c < 4, R.GDV_CH_FAULT_n c ∉ noteWords) c hc
    exact (noted.word note).trans (d.ocSeen_chFault n hc)
  · exact Device.fired_of_armed (Device.latchArmed_congr evc pwr state 21).trans (by rw [Device.source, evc, Device.source])
      (Device.fired_fire _ 21 (by decide) (by decide))

end Overcurrent

/-! ### The stack comparator and FAULT_N (R307, R311) -/

section Common

variable {d : Device}

/-- A fault common to all channels: its flag is set, the summary with it, and what the half-bridges and the firm fields of other
words hold stands. -/
theorem Device.commonFault_shows (x : Device) {f : Fld} (word : f.addr = R.GDV_FAULT) (flag : f.width = 1)
    (fits : f.fits = true) {source : Nat} (listed : source ∈ downSources) :
    let e := (x.setFlag f true).stageFault fun d => d.raise source 0
    e.get f = 1 ∧ ((x.word R.PWR_FAULT).getLsbD 9 = false → (e.word R.PWR_FAULT).getLsbD 9 = true ∧
      (x.running = true → e.get F.PWR_STAT_STATE = 4)) ∧ e.stage.half = x.stage.half ∧
      ∀ g : Fld, g.firm → g.addr ≠ R.GDV_FAULT → e.get g = x.get g := by
  have fault := x.commonFault_latches word listed
  refine ⟨?_, fault.summary, fault.half, fault.get⟩
  refine (Device.get_eq_of_word ?_).trans (x.get_setFlag_same f true fits flag)
  rw [word]
  exact fault.word

/-- A flag of GDV_STAT changes no other word. -/
theorem Device.statFlag_running (x : Device) {f : Fld} (b : Bool) (stat : f.addr = R.GDV_STAT) :
    (x.setFlag f b).running = x.running :=
  Device.running_congr rfl (Device.get_eq_of_word (x.word_put_ne _ _ (by rw [stat]; decide)))

theorem Device.statFlag_word (x : Device) {f : Fld} (b : Bool) (stat : f.addr = R.GDV_STAT) {a : Nat} (h : a ≠ R.GDV_STAT) :
    (x.setFlag f b).word a = x.word a := x.word_put_ne _ _ (by rw [stat]; exact h)

theorem Device.setFlag_same (x : Device) (f : Fld) (b : Bool) : x.setFlag f b = { x with regs := (x.setFlag f b).regs } := rfl

theorem Device.forceOff_running (x : Device) (sel : Nat → Bool) : (x.forceOff sel).running = x.running := rfl

theorem Device.stackOvercurrent_not (stands : d.running = false) : d.stackOvercurrent = d := if_pos (by rw [stands]; rfl)

/-- A trip of the stack comparator has forced every half-bridge off and shows. -/
def Device.stackSeen (d : Device) : Device := (d.forceOff fun _ => true).setFlag F.GDV_STAT_STK_OC_NOW true

theorem Device.stackOvercurrent_fresh (run : d.running = true) (fresh : d.get F.GDV_FAULT_STK_OC = 0) :
    d.stackOvercurrent = (d.stackSeen.setFlag F.GDV_FAULT_STK_OC true).stageFault fun d => d.raise 21 0 := by
  have unset : d.stackSeen.flag F.GDV_FAULT_STK_OC = false :=
    (Device.flag_eq_false_iff _).2 ((Device.get_eq_of_word (Device.statFlag_word _ true rfl (by decide))).trans fresh)
  unfold Device.stackSeen at unset ⊢
  unfold Device.stackOvercurrent
  simp only [run, unset, Bool.not_true, Bool.false_eq_true, if_false]

/-- A trip of the stack comparator (R307). -/
theorem Device.stackOvercurrent_latches (run : d.running = true) (fresh : d.get F.GDV_FAULT_STK_OC = 0) :
    let e := d.stackOvercurrent
    e.get F.GDV_FAULT_STK_OC = 1 ∧ ((d.word R.PWR_FAULT).getLsbD 9 = false → (e.word R.PWR_FAULT).getLsbD 9 = true ∧
      (d.running = true → e.get F.PWR_STAT_STATE = 4)) ∧ (∀ y : Fin 8, e.stage.half[y].forced = true) ∧
      e.get F.GDV_STAT_STK_OC_NOW = 1 := by
  obtain ⟨set, summary, half, get⟩ :=
    d.stackSeen.commonFault_shows (f := F.GDV_FAULT_STK_OC) rfl rfl (by decide) (source := 21) (by decide)
  have fault : d.stackSeen.word R.PWR_FAULT = d.word R.PWR_FAULT := Device.statFlag_word _ true rfl (by decide)
  have runs : d.stackSeen.running = d.running := Device.statFlag_running _ true rfl
  rw [fault, runs] at summary
  rw [Device.stackOvercurrent_fresh run fresh]
  refine ⟨set, summary, fun y => ?_, (get _ (by unfold Fld.firm; decide) (by decide)).trans
    (Device.get_setFlag_same _ _ true (by decide) rfl)⟩
  have forced : d.stackSeen.stage = (d.forceOff fun _ => true).stage := Device.put_stage _ _ _
  rw [half, forced]
  exact Device.forceOff_forced d rfl

theorem Device.extFault_unused (unused : d.get F.GDV_EXT_EN = 0) : d.extFault = d.setFlag F.GDV_STAT_FAULT_N true := by
  have off : (d.setFlag F.GDV_STAT_FAULT_N true).flag F.GDV_EXT_EN = false :=
    (Device.flag_eq_false_iff _).2 ((Device.get_eq_of_word (Device.statFlag_word _ true rfl (by decide))).trans unused)
  exact if_pos (by rw [off]; rfl)

/-- FAULT_N in use (R311). -/
theorem Device.extFault_latches (used : d.get F.GDV_EXT_EN = 1) (fresh : d.get F.GDV_FAULT_EXT_FAULT = 0) :
    let e := d.extFault
    e.get F.GDV_FAULT_EXT_FAULT = 1 ∧ ((d.word R.PWR_FAULT).getLsbD 9 = false → (e.word R.PWR_FAULT).getLsbD 9 = true ∧
      (d.running = true → e.get F.PWR_STAT_STATE = 4)) ∧ e.get F.GDV_STAT_FAULT_N = 1 := by
  have other : ∀ a, a ≠ R.GDV_STAT → (d.setFlag F.GDV_STAT_FAULT_N true).word a = d.word a := fun _ =>
    d.statFlag_word true rfl
  have on : (d.setFlag F.GDV_STAT_FAULT_N true).flag F.GDV_EXT_EN = true :=
    (Device.flag_eq_true_iff _ rfl).2 ((Device.get_eq_of_word (other _ (by decide))).trans used)
  have unset : (d.setFlag F.GDV_STAT_FAULT_N true).flag F.GDV_FAULT_EXT_FAULT = false :=
    (Device.flag_eq_false_iff _).2 ((Device.get_eq_of_word (other _ (by decide))).trans fresh)
  obtain ⟨set, summary, -, get⟩ :=
    (d.setFlag F.GDV_STAT_FAULT_N true).commonFault_shows (f := F.GDV_FAULT_EXT_FAULT) rfl rfl (by decide) (source := 24)
      (by decide)
  rw [other _ (by decide), d.statFlag_running true rfl] at summary
  have eq : d.extFault = ((d.setFlag F.GDV_STAT_FAULT_N true).setFlag F.GDV_FAULT_EXT_FAULT true).stageFault
      fun d => d.raise 24 0 := by
    unfold Device.extFault
    simp only [on, unset, Bool.not_true, Bool.false_eq_true, if_false]
  rw [eq]
  exact ⟨set, summary, (get _ (by unfold Fld.firm; decide) (by decide)).trans
    (Device.get_setFlag_same _ _ true (by decide) rfl)⟩

end Common

/-! ### The driver supply (R315) -/

section Supply

variable {d : Device}

/-- The driver supply stands above its lockout or below it, and DRV_OK follows. -/
def Device.supplyShown (d : Device) (b : Bool) : Device := (d.setFlag F.GDV_STAT_VDRV_OK b).updateDrvOk

theorem Device.supplyShown_shows (b : Bool) : (d.supplyShown b).get F.GDV_STAT_VDRV_OK = b.toNat ∧
    (d.supplyShown b).get F.PWR_STAT_DRV_OK = (d.pwr.pgAux[2] && b).toNat ∧
    (d.supplyShown b).get F.PWR_STAT_STATE = d.get F.PWR_STAT_STATE ∧
    (∀ a, a ≠ R.GDV_STAT → a ≠ R.PWR_STAT → (d.supplyShown b).word a = d.word a) ∧
    d.supplyShown b = { d with regs := (d.supplyShown b).regs } := by
  have shown : (d.setFlag F.GDV_STAT_VDRV_OK b).get F.GDV_STAT_VDRV_OK = b.toNat :=
    d.get_setFlag_same _ b (by decide) rfl
  have flag : (d.setFlag F.GDV_STAT_VDRV_OK b).flag F.GDV_STAT_VDRV_OK = b := by
    rw [Device.flag, shown]
    cases b <;> rfl
  unfold Device.supplyShown Device.updateDrvOk
  rw [flag]
  exact ⟨(Device.get_setFlag_apart _ _ _ _ (by decide) (by decide)).trans shown,
    Device.get_setFlag_same _ _ _ (by decide) rfl,
    (Device.get_setFlag_apart _ _ _ _ (by decide) (by decide)).trans (d.get_setFlag_apart _ _ _ (by decide) (by decide)),
    fun a gdv pwr => (Device.word_put_ne _ _ _ pwr).trans (Device.word_put_ne _ _ _ gdv), rfl⟩

theorem Device.supplyShown_running (b : Bool) : (d.supplyShown b).running = d.running := by
  obtain ⟨-, -, state, -, same⟩ := d.supplyShown_shows b
  exact Device.running_congr (by rw [same]) state

theorem Device.vdrvLockout_not (stands : d.running = false) : d.vdrvLockout = d.supplyShown false :=
  if_pos (by rw [show ((d.setFlag F.GDV_STAT_VDRV_OK false).updateDrvOk).running = d.running from
    d.supplyShown_running false, stands]; rfl)

/-- A supply below its lockout keeps every gate off (R315). -/
theorem Device.gate_unsupplied {e : Device} (low : e.get F.GDV_STAT_VDRV_OK = 0) (y : Fin 8) : e.gate y = .allOff := by
  have forced : e.gateForced y = true := by simp [Device.gateForced, Device.flag, low]
  have driven : e.gateDriven y = .allOff := if_pos forced
  unfold Device.gate
  split
  · exact driven
  · rw [driven, forced, Bool.true_or]
    split <;> rfl

/-- A lockout of the drivers while the device runs (R315). -/
theorem Device.vdrvLockout_latches (run : d.running = true) (fresh : d.get F.GDV_FAULT_VDRV_UVLO = 0) :
    let e := d.vdrvLockout
    e.get F.GDV_FAULT_VDRV_UVLO = 1 ∧ ((d.word R.PWR_FAULT).getLsbD 9 = false → (e.word R.PWR_FAULT).getLsbD 9 = true ∧
      (d.running = true → e.get F.PWR_STAT_STATE = 4)) ∧ e.get F.GDV_STAT_VDRV_OK = 0 ∧ e.get F.PWR_STAT_DRV_OK = 0 ∧
      ∀ y, e.gate y = .allOff := by
  obtain ⟨ok, drv, -, other, -⟩ := d.supplyShown_shows false
  have runs := d.supplyShown_running false
  have unset : (d.supplyShown false).flag F.GDV_FAULT_VDRV_UVLO = false :=
    (Device.flag_eq_false_iff _).2 ((Device.get_eq_of_word (other _ (by decide) (by decide))).trans fresh)
  obtain ⟨set, summary, -, get⟩ :=
    (d.supplyShown false).commonFault_shows (f := F.GDV_FAULT_VDRV_UVLO) rfl rfl (by decide) (source := 23) (by decide)
  rw [other _ (by decide) (by decide), runs] at summary
  have eq : d.vdrvLockout = ((d.supplyShown false).setFlag F.GDV_FAULT_VDRV_UVLO true).stageFault
      fun d => d.raise 23 0 := by
    unfold Device.supplyShown at unset runs ⊢
    unfold Device.vdrvLockout
    simp only [run, runs, unset, Bool.not_true, Bool.false_eq_true, if_false]
  have low := (get F.GDV_STAT_VDRV_OK (by unfold Fld.firm; decide) (by decide)).trans ok
  rw [eq]
  exact ⟨set, summary, low, ((get _ (by unfold Fld.firm; decide) (by decide)).trans drv).trans (by rw [Bool.and_false]; rfl),
    fun y => Device.gate_unsupplied low y⟩

end Supply

end Sys2Proof.Machine
end

section
/-! PROOFS. The interlock and the bootstrap lockouts (O37; R312, R315). -/

namespace Sys2Proof.Machine

theorem Device.channelOf_lt (d : Device) (x : Fin 8) : d.channelOf x.val < 4 := by
  have := x.isLt
  unfold Device.channelOf
  split <;> omega

/-! ### The interlock (R312) -/

section Interlock

variable (d : Device) (x : Fin 8)

/-- The first record of the interlock stands. -/
def Device.ilkRecorded (d : Device) (x : Fin 8) : Device :=
  if d.flag F.GDV_ILK_INFO_VALID then d
  else ((d.put F.GDV_ILK_INFO_HB x.val).put F.GDV_ILK_INFO_SRC (d.gateSource x)).setFlag F.GDV_ILK_INFO_VALID true

theorem Device.interlock_eq (on : d.pwr.seq ≠ .off) (released : d.pwr.seq ≠ .aonReset) : d.interlock x =
    ((d.ilkRecorded x).forceOff fun y => (d.ilkRecorded x).channelOf y == d.channelOf x.val).channelFault
      (d.channelOf x.val) 1 20 :=
  if_neg (by simp [on, released])

theorem Device.ilkRecorded_shows : (d.ilkRecorded x).get F.GDV_ILK_INFO_VALID = 1 ∧
    (d.ilkRecorded x).get F.GDV_ILK_INFO_HB =
      (if d.get F.GDV_ILK_INFO_VALID = 1 then d.get F.GDV_ILK_INFO_HB else x.val) ∧
    (d.ilkRecorded x).stage = d.stage ∧ (d.ilkRecorded x).pwr = d.pwr ∧
    ∀ a, a ≠ R.GDV_ILK_INFO → (d.ilkRecorded x).word a = d.word a := by
  unfold Device.ilkRecorded
  split
  · rename_i valid
    have valid : d.get F.GDV_ILK_INFO_VALID = 1 := (d.flag_eq_true_iff rfl).1 valid
    exact ⟨valid, (if_pos valid).symm, rfl, rfl, fun _ _ => rfl⟩
  · rename_i invalid
    have invalid : d.get F.GDV_ILK_INFO_VALID ≠ 1 := fun yes => invalid ((d.flag_eq_true_iff rfl).2 yes)
    refine ⟨Device.get_setFlag_same _ _ true (by decide) rfl, ?_,
      (Device.put_stage _ _ _).trans <| (Device.put_stage _ _ _).trans (Device.put_stage _ _ _),
      (Device.put_pwr _ _ _).trans <| (Device.put_pwr _ _ _).trans (Device.put_pwr _ _ _), fun a h => ?_⟩
    · rw [if_neg invalid, Device.get_setFlag_apart _ _ _ _ (by decide) (by decide),
        Device.get_put_apart _ _ _ _ (by decide) (by decide)]
      exact d.get_put_lt _ (by decide) x.isLt
    · exact (Device.word_put_ne _ _ _ h).trans <| (Device.word_put_ne _ _ _ h).trans (Device.word_put_ne _ _ _ h)

variable {d x}

/-- The interlock latches for its channel (R312). -/
theorem Device.interlock_latches (on : d.pwr.seq ≠ .off) (released : d.pwr.seq ≠ .aonReset)
    (fresh : (d.word (R.GDV_CH_FAULT_n (d.channelOf x.val))).getLsbD 1 = false) : let e := d.interlock x
    (e.word (R.GDV_CH_FAULT_n (d.channelOf x.val))).getLsbD 1 = true ∧
      ((d.word R.PWR_FAULT).getLsbD 9 = false → (e.word R.PWR_FAULT).getLsbD 9 = true ∧
        (d.running = true → e.get F.PWR_STAT_STATE = 4)) ∧
      (∀ y : Fin 8, d.channelOf y.val = d.channelOf x.val → e.stage.half[y].forced = true) ∧
      e.get F.GDV_ILK_INFO_VALID = 1 ∧
      e.get F.GDV_ILK_INFO_HB = (if d.get F.GDV_ILK_INFO_VALID = 1 then d.get F.GDV_ILK_INFO_HB else x.val) := by
  obtain ⟨valid, hb, stage, pwr, word⟩ := d.ilkRecorded_shows x
  have channel := d.channelOf_lt x
  obtain ⟨faultWord, info⟩ := (by decide : ∀ c < 4, R.GDV_CH_FAULT_n c ≠ R.GDV_ILK_INFO ∧
    R.GDV_ILK_INFO ≠ R.GDV_CH_FAULT_n c) _ channel
  have same : ∀ y, (d.ilkRecorded x).channelOf y = d.channelOf y := fun y => by
    rw [Device.channelOf, Device.pbtl2, stage]
    rfl
  have runs : (d.ilkRecorded x).running = d.running :=
    Device.running_congr (by rw [pwr]) (Device.get_eq_of_word (word _ (by decide)))
  have unset : ((d.ilkRecorded x).word (R.GDV_CH_FAULT_n (d.channelOf x.val))).getLsbD 1 = false := by
    rw [word _ faultWord]
    exact fresh
  have latched := Device.channelFault_latches (d := (d.ilkRecorded x).forceOff fun y =>
    (d.ilkRecorded x).channelOf y == d.channelOf x.val) (source := 20) channel (by decide) unset
  have summary := latched.summary
  rw [Device.forceOff_running, runs, show ((d.ilkRecorded x).forceOff _).word R.PWR_FAULT = d.word R.PWR_FAULT from
    word _ (by decide)] at summary
  rw [d.interlock_eq x on released]
  refine ⟨?_, summary, fun y hy => ?_, (latched.get _ (by unfold Fld.firm; decide) info).trans valid,
    (latched.get _ (by unfold Fld.firm; decide) info).trans hb⟩
  · rw [latched.word]
    exact getLsbD_or_two_pow _ (by decide)
  · rw [latched.half]
    exact Device.forceOff_forced _ (beq_iff_eq.2 ((same _).trans hy))

end Interlock

/-! ### The bootstraps (R315) -/

section Bootstrap

variable (d : Device) (x : Fin 8)

/-- Bits of a field that are cleared. -/
theorem Device.testBit_get_andNot {f : Fld} (fits : f.fits = true) (k y : Nat) :
    ((d.andNotField f (2 ^ k)).get f).testBit y = ((d.get f).testBit y && y != k) := by
  have inside : ∀ i, (d.get f &&& 2 ^ k).testBit i = true → (d.get f).testBit i = true := fun i h => by
    rw [Nat.testBit_and, Bool.and_eq_true] at h
    exact h.1
  have fitting : d.get f - (d.get f &&& 2 ^ k) < 2 ^ f.width := Nat.lt_of_le_of_lt (Nat.sub_le _ _) (d.get_lt_pow f)
  rw [Device.andNotField, d.get_put_lt _ fits fitting, testBit_sub_of_subset y inside, Nat.testBit_and, Nat.testBit_two_pow]
  cases (d.get f).testBit y with
  | false => rfl
  | true =>
    rw [Bool.true_and, Bool.true_and, Bool.true_and, bne, beq_eq_decide, decide_eq_decide.2 (eq_comm (a := y))]

/-- Bits of a field that are set. -/
theorem Device.testBit_get_or {f : Fld} (fits : f.fits = true) {k : Nat} (hk : k < f.width) (y : Nat) :
    ((d.orField f (2 ^ k)).get f).testBit y = ((d.get f).testBit y || y == k) := by
  rw [d.get_orField_same fits (Nat.pow_lt_pow_right (by decide) hk), Nat.testBit_or, Nat.testBit_two_pow]
  rw [beq_eq_decide, decide_eq_decide.2 (eq_comm (a := y))]

/-- A bootstrap stands below its lockout. -/
def Device.bstLow (d : Device) (x : Fin 8) : Device := d.andNotField F.GDV_STAT_BST_OK (2 ^ x.val)

theorem Device.bstLow_word {a : Nat} (h : a ≠ R.GDV_STAT) : (d.bstLow x).word a = d.word a := d.word_put_ne _ _ h

theorem Device.bstLow_running : (d.bstLow x).running = d.running :=
  Device.running_congr rfl (Device.get_eq_of_word (d.bstLow_word x (by decide)))

theorem Device.bstLow_state (n : Nat) : (d.bstLow x).isState n = d.isState n := by
  have state : (d.bstLow x).get F.PWR_STAT_STATE = d.get F.PWR_STAT_STATE :=
    Device.get_eq_of_word (d.bstLow_word x (by decide))
  rw [Device.isState, state, Device.isState]

/-- The lockout of a bootstrap has latched at its half-bridge, which is forced off. -/
def Device.bstForced (d : Device) (x : Fin 8) : Device :=
  let h := d.stage.half[x]
  { d with stage.half := d.stage.half.set x { h with bstLatched := true } }.forceOff fun y => y == x.val

variable {d x}

theorem Device.bootstrapLockout_play (run : d.running = true) (play : d.get F.PWR_STAT_STATE = 3) :
    d.bootstrapLockout x = ((d.bstLow x).bstForced x).channelFault (d.channelOf x.val) 2 23 := by
  refine if_pos ?_
  have runs := d.bstLow_running x
  have state := d.bstLow_state x 3
  unfold Device.bstLow at runs state
  rw [runs, state, run, Device.isState, play]
  rfl

theorem Device.bootstrapLockout_rest (out : d.get F.PWR_STAT_STATE ≠ 3) (free : d.stage.frozen = false) :
    d.bootstrapLockout x = d.bstLow x := by
  refine if_neg ?_
  have state := d.bstLow_state x 3
  unfold Device.bstLow at state
  rw [state, Device.isState, beq_false_of_ne out, Bool.false_or,
    show (d.andNotField F.GDV_STAT_BST_OK (2 ^ x.val)).stage = d.stage from Device.put_stage _ _ _, free, Bool.and_false]
  decide

/-- A bootstrap that falls below its lockout in PLAY (R315). -/
theorem Device.bootstrapLockout_latches (run : d.running = true) (play : d.get F.PWR_STAT_STATE = 3)
    (fresh : (d.word (R.GDV_CH_FAULT_n (d.channelOf x.val))).getLsbD 2 = false) : let e := d.bootstrapLockout x
    (e.word (R.GDV_CH_FAULT_n (d.channelOf x.val))).getLsbD 2 = true ∧
      ((d.word R.PWR_FAULT).getLsbD 9 = false → (e.word R.PWR_FAULT).getLsbD 9 = true ∧
        (d.running = true → e.get F.PWR_STAT_STATE = 4)) ∧
      (e.get F.GDV_STAT_BST_OK).testBit x.val = false ∧ e.stage.half[x].forced = true := by
  have channel := d.channelOf_lt x
  obtain ⟨faultWord, stat⟩ := (by decide : ∀ c < 4, R.GDV_CH_FAULT_n c ≠ R.GDV_STAT ∧ R.GDV_STAT ≠ R.GDV_CH_FAULT_n c) _ channel
  have unset : ((d.bstLow x).word (R.GDV_CH_FAULT_n (d.channelOf x.val))).getLsbD 2 = false := by
    rw [d.bstLow_word x faultWord]
    exact fresh
  have latched := Device.channelFault_latches (d := (d.bstLow x).bstForced x) (source := 23) channel (by decide) unset
  have summary := latched.summary
  rw [show ((d.bstLow x).bstForced x).running = (d.bstLow x).running from rfl, d.bstLow_running x,
    show ((d.bstLow x).bstForced x).word R.PWR_FAULT = d.word R.PWR_FAULT from d.bstLow_word x (by decide)] at summary
  rw [Device.bootstrapLockout_play run play]
  refine ⟨?_, summary, ?_, ?_⟩
  · rw [latched.word]
    exact getLsbD_or_two_pow _ (by decide)
  · rw [latched.get F.GDV_STAT_BST_OK (by unfold Fld.firm; decide) stat]
    have low := d.testBit_get_andNot (f := F.GDV_STAT_BST_OK) (by decide) x.val x.val
    rw [bne_self_eq_false, Bool.and_false] at low
    exact low
  · rw [latched.half]
    exact Device.forceOff_forced _ (beq_self_eq_true _)

end Bootstrap

end Sys2Proof.Machine
end

section
/-! PROOFS. What clears the faults of the power stage and its counters (O37; R310, R336, R337, R374). -/

namespace Sys2Proof.Machine

/-! ### The conditions that hold a fault (R310) -/

/-- The condition of a bit of GDV_CH_FAULT_n has gone. -/
def Device.chFaultGone (d : Device) (n i : Nat) : Bool :=
  match i with
  | 0 => !(d.get F.GDV_STAT_OC_NOW).testBit n
  | 1 => true
  | 2 => (List.finRange 8).all fun x => d.channelOf x.val != n || !d.stage.half[x].bstLatched ||
      (d.get F.GDV_STAT_BST_OK).testBit x.val
  | 3 => !(d.get F.DIAG_STAT_DC_NOW).testBit n
  | _ => false

/-- The condition of a bit of GDV_FAULT has gone. -/
def Device.gdvFaultGone (d : Device) (i : Nat) : Bool :=
  match i with
  | 0 => d.flag F.GDV_STAT_VDRV_OK
  | 1 => !d.flag F.GDV_STAT_FAULT_N
  | 2 => !d.flag F.GDV_STAT_STK_OC_NOW
  | _ => false

theorem chFree_bits : ∀ oc bst dc : Bool, ∀ i < 32,
    (15 - ((if oc then 1 else 0) + (if bst then 4 else 0) + (if dc then 8 else 0))).testBit i =
    match i with
    | 0 => !oc
    | 1 => true
    | 2 => !bst
    | 3 => !dc
    | _ => false := by decide

theorem gdvFree_bits : ∀ supply ext stack : Bool, ∀ i < 32,
    (7 - ((if supply then 0 else 1) + (if ext then 2 else 0) + (if stack then 4 else 0))).testBit i =
    match i with
    | 0 => supply
    | 1 => !ext
    | 2 => !stack
    | _ => false := by decide

section Conditions

variable (d : Device)

theorem Device.testBit_chFree (n : Nat) {i : Nat} (hi : i < 32) :
    (15 - d.chFaultPersists n).testBit i = d.chFaultGone n i := by
  refine (chFree_bits _ _ _ i hi).trans ?_
  unfold Device.chFaultGone
  split
  · rfl
  · rfl
  · rw [List.not_any_eq_all_not]
    refine congrArg (List.all _) (funext fun x => ?_)
    rw [Bool.not_and, Bool.not_and, Bool.not_not]
    rfl
  · rfl
  · rfl

theorem Device.testBit_gdvFree {i : Nat} (hi : i < 32) : (7 - d.gdvFaultPersists).testBit i = d.gdvFaultGone i :=
  (gdvFree_bits _ _ _ i hi).trans rfl

/-- What holds a fault does not depend on the write that clears it. -/
theorem Device.rewritten_chFaultGone (a n i : Nat) : (d.setWord a (d.word a)).chFaultGone n i = d.chFaultGone n i := by
  have get : ∀ f, (d.setWord a (d.word a)).get f = d.get f := fun f => Device.get_eq_of_word (d.setWord_self_word a _)
  unfold Device.chFaultGone
  simp only [get]
  rfl

theorem Device.rewritten_gdvFaultGone (a i : Nat) : (d.setWord a (d.word a)).gdvFaultGone i = d.gdvFaultGone i := by
  have get : ∀ f, (d.setWord a (d.word a)).get f = d.get f := fun f => Device.get_eq_of_word (d.setWord_self_word a _)
  unfold Device.gdvFaultGone Device.flag
  simp only [get]

end Conditions

/-! ### The summary (R228, R310) -/

/-- From `d` to `e` bits of the word at `a` have been cleared: those that `v` names and whose condition has gone. The
summary follows the faults that are left, and memory and the power sequence are as they were. -/
def Device.cleared (d e : Device) (a : Nat) (v : Word) (gone : Nat → Bool) : Prop :=
  (∀ i < 32, (e.word a).getLsbD i = ((d.word a).getLsbD i && !(v.getLsbD i && gone i))) ∧
    (e.stageFaults = false → (e.word R.PWR_FAULT).getLsbD 9 = false) ∧
    (e.stageFaults = true → e.word R.PWR_FAULT = d.word R.PWR_FAULT) ∧ e.mem = d.mem ∧ e.pwr = d.pwr

theorem Device.stageFaults_congr {d e : Device} (word : ∀ a, a ≠ R.PWR_FAULT → e.word a = d.word a) :
    e.stageFaults = d.stageFaults := by
  have ch : ∀ n, e.chFault n = d.chFault n := fun n => by
    rw [Device.chFault, word _ (by unfold R.GDV_CH_FAULT_n R.PWR_FAULT; omega), Device.chFault]
  simp only [Device.stageFaults, word R.GDV_FAULT (by decide), ch]

/-- Forces whose fault is gone end, and the summary clears when no stage fault is left. -/
theorem Device.stageCleared_eq (d : Device) : ∃ stage, d.stageCleared =
    if d.stageFaults then { d with stage := stage }
    else { d with stage := stage }.setWord R.PWR_FAULT (d.word R.PWR_FAULT &&& ~~~(0x200 : Word)) := ⟨_, rfl⟩

theorem Device.stageCleared_word (d : Device) {a : Nat} (h : a ≠ R.PWR_FAULT) : d.stageCleared.word a = d.word a := by
  obtain ⟨stage, eq⟩ := d.stageCleared_eq
  rw [eq]
  split
  · rfl
  · exact Device.word_setWord_ne _ _ h

theorem Device.stageCleared_shows (d : Device) :
    (d.stageCleared.stageFaults = false → (d.stageCleared.word R.PWR_FAULT).getLsbD 9 = false) ∧
    (d.stageCleared.stageFaults = true → d.stageCleared.word R.PWR_FAULT = d.word R.PWR_FAULT) ∧
    d.stageCleared.mem = d.mem ∧ d.stageCleared.pwr = d.pwr := by
  obtain ⟨stage, eq⟩ := d.stageCleared_eq
  rw [Device.stageFaults_congr fun a h => d.stageCleared_word h, eq]
  split
  · rename_i faults
    exact ⟨fun no => absurd (no.symm.trans faults) Bool.false_ne_true, fun _ => rfl, rfl, rfl⟩
  · rename_i none
    refine ⟨fun _ => ?_, fun some => absurd some none, rfl, rfl⟩
    rw [Device.word_setWord_same, BitVec.getLsbD_and, show (~~~(0x200 : Word)).getLsbD 9 = false by decide, Bool.and_false]

/-- Bits of a word have been cleared, and then the summary follows (R310). -/
theorem Device.cleared_of {d x : Device} {a : Nat} {v : Word} {gone : Nat → Bool} {free : Nat}
    (bits : ∀ i < 32, free.testBit i = gone i) (other : a ≠ R.PWR_FAULT)
    (word : x.word a = BitVec.ofNat 32 ((d.word a).toNat - ((d.word a).toNat &&& v.toNat &&& free)))
    (fault : x.word R.PWR_FAULT = d.word R.PWR_FAULT) (mem : x.mem = d.mem) (pwr : x.pwr = d.pwr) :
    d.cleared x.stageCleared a v gone := by
  obtain ⟨none, some, memory, power⟩ := x.stageCleared_shows
  refine ⟨fun i hi => ?_, none, fun h => (some h).trans fault, memory.trans mem, power.trans pwr⟩
  rw [x.stageCleared_word other, word, getLsbD_clear _ _ hi, bits i hi]

/-- A cleared interlock takes its record with it (R312). -/
def Device.ilkForgotten (d : Device) (p : Bool) : Device := if p then d.setFlag F.GDV_ILK_INFO_VALID false else d

theorem Device.ilkForgotten_shows (d : Device) (p : Bool) : (∀ a, a ≠ R.GDV_ILK_INFO → (d.ilkForgotten p).word a = d.word a) ∧
    (d.ilkForgotten p).mem = d.mem ∧ (d.ilkForgotten p).pwr = d.pwr := by
  unfold Device.ilkForgotten
  split
  · exact ⟨fun _ h => Device.word_put_ne _ _ _ h, rfl, rfl⟩
  · exact ⟨fun _ _ => rfl, rfl, rfl⟩

theorem Device.clearChFault_cleared (d : Device) {n : Nat} (hn : n < 4) (v : Word) :
    d.cleared (d.clearChFault n v) (R.GDV_CH_FAULT_n n) v (d.chFaultGone n) := by
  obtain ⟨other, info⟩ := (by decide : ∀ n < 4, R.GDV_CH_FAULT_n n ≠ R.PWR_FAULT ∧
    R.GDV_CH_FAULT_n n ≠ R.GDV_ILK_INFO) n hn
  obtain ⟨p, eq⟩ : ∃ p, d.clearChFault n v = ((d.setWord (R.GDV_CH_FAULT_n n) (BitVec.ofNat 32
      (d.chFault n - (d.chFault n &&& v.toNat &&& (15 - d.chFaultPersists n))))).ilkForgotten p).stageCleared := ⟨_, rfl⟩
  obtain ⟨word, mem, pwr⟩ := (d.setWord (R.GDV_CH_FAULT_n n) (BitVec.ofNat 32
    (d.chFault n - (d.chFault n &&& v.toNat &&& (15 - d.chFaultPersists n))))).ilkForgotten_shows p
  rw [eq]
  exact Device.cleared_of (fun _ hi => d.testBit_chFree n hi) other
    ((word _ info).trans (Device.word_setWord_same _ _ _))
    ((word _ (by decide)).trans (Device.word_setWord_ne _ _ other.symm)) mem pwr

theorem Device.clearGdvFault_cleared (d : Device) (v : Word) :
    d.cleared (d.clearGdvFault v) R.GDV_FAULT v d.gdvFaultGone :=
  Device.cleared_of (fun _ hi => d.testBit_gdvFree hi) (by decide) (Device.word_setWord_same _ _ _)
    (Device.word_setWord_ne _ _ (by decide)) rfl rfl

/-! ### The writes -/

/-- GDV_CH_FAULT_n, R337. -/
def specChFault : RegSpec := ⟨0x40090040, 4, 0x4, false, 0x0, [⟨0, 1, .w1c, .neu, false⟩, ⟨1, 1, .w1c, .neu, false⟩,
  ⟨2, 1, .w1c, .neu, false⟩, ⟨3, 1, .w1c, .neu, false⟩]⟩

/-- GDV_FAULT, R337. -/
def specGdvFault : RegSpec := ⟨0x40090050, 1, 0x4, false, 0x0, [⟨0, 1, .w1c, .neu, false⟩, ⟨1, 1, .w1c, .neu, false⟩,
  ⟨2, 1, .w1c, .neu, false⟩]⟩

theorem regFind_chFault : ∀ n : Fin 4, regFind (R.GDV_CH_FAULT_n n.val) = some specChFault := by decide

theorem regFind_gdvFault : regFind R.GDV_FAULT = some specGdvFault := by decide

theorem chFault_address : ∀ n : Fin 4, R.GDV_CH_FAULT_n n.val % 4 = 0 ∧ 0x40000000 ≤ R.GDV_CH_FAULT_n n.val ∧
    R.GDV_CH_FAULT_n n.val < 0x40160000 ∧ plainW1c (R.GDV_CH_FAULT_n n.val) = false ∧
    R.GDV_CH_FAULT_n n.val ∉ noteWords ∧ R.GDV_CH_FAULT_n n.val ≠ R.SYS_REJECT_ADDR ∧
    R.GDV_CH_FAULT_n n.val ≠ R.SYS_REJECT_CNT := by decide

section Clear

variable {d : Device} {m : Master} {v : Word}

theorem Device.registerActs_chFault (host : m.isHost = true) (p : Bool) (n : Fin 4) :
    d.registerActs m p (R.GDV_CH_FAULT_n n.val) v = d.clearChFault n.val v := by
  obtain ⟨block, family, index⟩ := (by decide : ∀ n : Fin 4, R.GDV_CH_FAULT_n n.val / 0x10000 = 0x4009 ∧
    inFamily (R.GDV_CH_FAULT_n n.val) (R.GDV_CH_FAULT_n 0) 4 4 = true ∧
    famIndex (R.GDV_CH_FAULT_n n.val) (R.GDV_CH_FAULT_n 0) 4 = n.val) n
  simp only [Device.registerActs, block, family, index, host, if_true]

theorem Device.actReserved_chFault (p : Bool) (n : Fin 4) : d.actReserved m p (R.GDV_CH_FAULT_n n.val) v = false :=
  match n with
  | 0 | 1 | 2 | 3 => rfl

theorem Device.hostOnlyClear_chFault (n : Fin 4) :
    d.hostOnlyClear m (R.GDV_CH_FAULT_n n.val) v = (!m.isHost && v &&& 0xF != 0) :=
  match n with
  | 0 | 1 | 2 | 3 => rfl

theorem Device.cleared.of_rewritten {x e : Device} {a : Nat} {gone : Nat → Bool} (h : x.cleared e a v gone)
    (word : ∀ b, x.word b = d.word b) (mem : x.mem = d.mem) (pwr : x.pwr = d.pwr) : d.cleared e a v gone := by
  obtain ⟨bits, none, some, memory, power⟩ := h
  exact ⟨fun i hi => by rw [bits i hi, word], none, fun h => (some h).trans (word _), memory.trans mem, power.trans pwr⟩

/-- A host clears faults of a channel (R310). -/
theorem Device.faultWrite_channel (run : d.coreRuns = true) (n : Fin 4)
    (may : d.masterMay m (R.GDV_CH_FAULT_n n.val) v = true) (host : m.isHost = true) :
    d.cleared (d.faultWrite m (some n) v) (R.GDV_CH_FAULT_n n.val) v (d.chFaultGone n.val) := by
  obtain ⟨al, lo, hi, held, -⟩ := chFault_address n
  have eq : d.faultWrite m (some n) v =
      (d.setWord (R.GDV_CH_FAULT_n n.val) (d.word (R.GDV_CH_FAULT_n n.val))).clearChFault n.val v := by
    rw [Device.faultWrite, Device.directWrite_register run may al lo hi,
      Device.regWrite_held (regFind_chFault n) (by decide) (by decide) (by decide) held (Device.actReserved_chFault _ n)
        (Device.hostOnlyClear_host host), Device.registerActs_chFault host]
  have same : (d.setWord (R.GDV_CH_FAULT_n n.val) (d.word (R.GDV_CH_FAULT_n n.val))).chFaultGone n.val =
      d.chFaultGone n.val := funext fun i => d.rewritten_chFaultGone _ n.val i
  have cleared := Device.clearChFault_cleared
    (d.setWord (R.GDV_CH_FAULT_n n.val) (d.word (R.GDV_CH_FAULT_n n.val))) n.isLt v
  rw [eq, ← same]
  exact cleared.of_rewritten (d.setWord_self_word _) rfl rfl

/-- A host clears faults common to all channels (R310). -/
theorem Device.faultWrite_common (run : d.coreRuns = true) (may : d.masterMay m R.GDV_FAULT v = true)
    (host : m.isHost = true) : d.cleared (d.faultWrite m none v) R.GDV_FAULT v d.gdvFaultGone := by
  have eq : d.faultWrite m none v = (d.setWord R.GDV_FAULT (d.word R.GDV_FAULT)).clearGdvFault v := by
    rw [Device.faultWrite, Device.directWrite_register run may (by decide) (by decide) (by decide),
      Device.regWrite_held regFind_gdvFault (by decide) (by decide) (by decide) (by decide) rfl
        (Device.hostOnlyClear_host host)]
    exact if_pos host
  have same : (d.setWord R.GDV_FAULT (d.word R.GDV_FAULT)).gdvFaultGone = d.gdvFaultGone :=
    funext fun i => d.rewritten_gdvFaultGone _ i
  have cleared := Device.clearGdvFault_cleared (d.setWord R.GDV_FAULT (d.word R.GDV_FAULT)) v
  rw [eq, ← same]
  exact cleared.of_rewritten (d.setWord_self_word _) rfl rfl

theorem and_low_ne_zero {k : Nat} {w : Word} (hk : k < 32) (h : v.toNat % 2 ^ k ≠ 0) (mask : w = BitVec.ofNat 32 (2 ^ k - 1)) :
    v &&& w ≠ 0 := by
  intro zero
  refine h ?_
  have low : (v &&& w).toNat = v.toNat % 2 ^ k := by
    rw [mask, BitVec.toNat_and, BitVec.toNat_ofNat, Nat.mod_eq_of_lt, Nat.and_two_pow_sub_one_eq_mod]
    exact Nat.lt_of_le_of_lt (Nat.sub_le _ _) (Nat.pow_lt_pow_right (by decide) hk)
  rw [← low, zero]
  rfl

/-- A core may clear no fault of a channel (R310). -/
theorem Device.faultWrite_channel_core (run : d.coreRuns = true) (n : Fin 4) (core : m.isHost = false)
    (some : v.toNat % 16 ≠ 0) : let e := d.faultWrite m (.some n) v
    e.word (R.GDV_CH_FAULT_n n.val) = d.word (R.GDV_CH_FAULT_n n.val) ∧ d.fired e 0 := by
  obtain ⟨al, lo, hi, -, note, addr, cnt⟩ := chFault_address n
  have barred : d.hostOnlyClear m (R.GDV_CH_FAULT_n n.val) v = true := by
    rw [Device.hostOnlyClear_chFault, core]
    exact bne_iff_ne.2 (and_low_ne_zero (k := 4) (by decide) some rfl)
  obtain ⟨word, fired⟩ := Device.directWrite_refused run core (regFind_chFault n) al lo hi barred
  exact ⟨word _ note addr cnt, fired⟩

/-- A core may clear no common fault (R310). -/
theorem Device.faultWrite_common_core (run : d.coreRuns = true) (core : m.isHost = false) (some : v.toNat % 8 ≠ 0) :
    let e := d.faultWrite m none v
    e.word R.GDV_FAULT = d.word R.GDV_FAULT ∧ d.fired e 0 := by
  have barred : d.hostOnlyClear m R.GDV_FAULT v = true := by
    rw [Device.hostOnlyClear, core]
    exact bne_iff_ne.2 (and_low_ne_zero (k := 3) (by decide) some rfl)
  obtain ⟨word, fired⟩ := Device.directWrite_refused run core regFind_gdvFault (by decide) (by decide) (by decide) barred
  exact ⟨word _ (by decide) (by decide) (by decide), fired⟩

end Clear

end Sys2Proof.Machine
end

section
/-! PROOFS. The counters of MOD, GDV and GRD, and the faults of the power stage as a whole (O37). -/

namespace Sys2Proof.Machine

/-! ### The counters (R336, R337, R374) -/

/-- A counter of 16 bits with its CLR bit. -/
def counterFields : List FieldSpec := [⟨0, 16, .ro, .neu, false⟩, ⟨31, 1, .wo, .neu, false⟩]

theorem counter_plain {r : RegSpec} (counter : r.fields = counterFields) : r.fields.any FieldSpec.settable = false ∧
    r.mask FieldSpec.settable = 0 ∧ r.mask FieldSpec.guarded = 0 ∧ (r.mask fun f => f.acc == .w1c) = 0 := by
  simp only [RegSpec.mask, counter]
  decide

/-- A write of a counter clears it or does nothing. -/
theorem Device.counterWrite_shows {d : Device} {m : Master} {v : Word} {f : Fld} {r : RegSpec} (run : d.coreRuns = true)
    (may : d.masterMay m f.addr v = true) (al : f.addr % 4 = 0) (lo : 0x40000000 ≤ f.addr) (hi : f.addr < 0x40160000)
    (fits : f.fits = true) (found : regFind f.addr = some r) (counter : r.fields = counterFields)
    (act : d.actReserved m (d.masterPriv m) f.addr v = false) (clear : d.hostOnlyClear m f.addr v = false)
    (acts : ∀ x : Device, x.registerActs m (d.masterPriv m) f.addr v = if v.getLsbD 31 then x.put f 0 else x) :
    let e := d.directWrite m f.addr v
    e.get f = (if v.getLsbD 31 then 0 else d.get f) ∧ e = { d with regs := e.regs } ∧
      ∀ b, b ≠ f.addr → e.word b = d.word b := by
  obtain ⟨plain, settable, free, w1c⟩ := counter_plain counter
  have eq : d.directWrite m f.addr v =
      if v.getLsbD 31 then (d.setWord f.addr (d.word f.addr)).put f 0 else d.setWord f.addr (d.word f.addr) := by
    rw [Device.directWrite_register run may al lo hi,
      Device.regWrite_acts_alone found plain settable free w1c act clear]
    exact acts _
  rw [eq]
  split
  · exact ⟨Device.get_put_lt _ _ fits (Nat.two_pow_pos _), rfl,
      fun b h => (Device.word_put_ne _ _ _ h).trans (d.setWord_self_word _ b)⟩
  · exact ⟨Device.get_eq_of_word (d.setWord_self_word _ _), rfl, fun b _ => d.setWord_self_word _ b⟩

section Counters

variable {d : Device} {m : Master} {v : Word}

theorem Device.registerActs_rffLimcnt (p : Bool) : d.registerActs m p R.MOD_RFF_LIMCNT v =
    if v.getLsbD 31 then d.put F.MOD_RFF_LIMCNT_COUNT 0 else d := rfl

theorem Device.registerActs_ocCnt (p : Bool) : d.registerActs m p R.GDV_OC_CNT v =
    if v.getLsbD 31 then d.put F.GDV_OC_CNT_COUNT 0 else d := rfl

theorem Device.registerActs_excursion (p : Bool) (n : Fin 4) : d.registerActs m p (R.GRD_n_X (n.val + 1)) v =
    if v.getLsbD 31 then d.put (F.GRD_n_X_XPK (n.val + 1)) 0 else d := by
  match n with
  | 0 | 1 | 2 | 3 => rfl

theorem Device.rffLimcnt_clears (run : d.coreRuns = true) (may : d.masterMay m R.MOD_RFF_LIMCNT v = true) :
    let e := d.directWrite m R.MOD_RFF_LIMCNT v
    e.get F.MOD_RFF_LIMCNT_COUNT = (if v.getLsbD 31 then 0 else d.get F.MOD_RFF_LIMCNT_COUNT) ∧
      e = { d with regs := e.regs } ∧ ∀ b, b ≠ R.MOD_RFF_LIMCNT → e.word b = d.word b :=
  Device.counterWrite_shows (f := F.MOD_RFF_LIMCNT_COUNT) (r := ⟨0x40080034, 1, 0x4, false, 0x0, counterFields⟩) run may
    (by decide) (by decide) (by decide) (by decide) (by decide) rfl rfl (Bool.and_false _)
    fun x => x.registerActs_rffLimcnt _

theorem Device.ocCnt_clears (run : d.coreRuns = true) (may : d.masterMay m R.GDV_OC_CNT v = true) :
    let e := d.directWrite m R.GDV_OC_CNT v
    e.get F.GDV_OC_CNT_COUNT = (if v.getLsbD 31 then 0 else d.get F.GDV_OC_CNT_COUNT) ∧
      e = { d with regs := e.regs } ∧ ∀ b, b ≠ R.GDV_OC_CNT → e.word b = d.word b :=
  Device.counterWrite_shows (f := F.GDV_OC_CNT_COUNT) (r := ⟨0x4009005C, 1, 0x4, false, 0x0, counterFields⟩) run may
    (by decide) (by decide) (by decide) (by decide) (by decide) rfl rfl (Bool.and_false _)
    fun x => x.registerActs_ocCnt _

section Guard

variable {a : Nat} (lo : 0x400A0000 ≤ a) (hi : a < 0x400B0000)
include lo hi

theorem beq_of_guard {b : Nat} (h : b < 0x400A0000 ∨ 0x400B0000 ≤ b) : (a == b) = false := beq_false_of_ne (by omega)

theorem inFamily_of_guard {base count stride : Nat}
    (h : 0 < stride ∧ (base + count * stride ≤ 0x400A0000 ∨ 0x400B0000 ≤ base)) : inFamily a base count stride = false :=
  inFamily_outside h.1 (by omega)

/-- No write of the Guard's block meets a refusal of its own. -/
theorem Device.guardWrite_free (p : Bool) : d.actReserved m p a v = false ∧ d.hostOnlyClear m a v = false := by
  have task : decide (a < 0x40040300) = false := decide_eq_false (by omega)
  constructor
  · simp (disch := decide) only [Device.actReserved, inFamily_of_guard lo hi, beq_of_guard lo hi, task, Bool.and_false,
      Bool.or_self, Bool.false_eq_true, if_false]
  · simp (disch := decide) only [Device.hostOnlyClear, inFamily_of_guard lo hi, beq_of_guard lo hi, Bool.or_self,
      Bool.false_eq_true, if_false, Bool.and_false]

end Guard

theorem excursion_address : ∀ n : Fin 4, R.GRD_n_X (n.val + 1) % 4 = 0 ∧ 0x400A0000 ≤ R.GRD_n_X (n.val + 1) ∧
    R.GRD_n_X (n.val + 1) < 0x400B0000 ∧
    regFind (R.GRD_n_X (n.val + 1)) = some ⟨0x400A0198, 4, 0x100, false, 0x0, counterFields⟩ := by decide

theorem Device.excursion_clears (run : d.coreRuns = true) (n : Fin 4)
    (may : d.masterMay m (R.GRD_n_X (n.val + 1)) v = true) : let e := d.directWrite m (R.GRD_n_X (n.val + 1)) v
    e.get (F.GRD_n_X_XPK (n.val + 1)) = (if v.getLsbD 31 then 0 else d.get (F.GRD_n_X_XPK (n.val + 1))) ∧
      e = { d with regs := e.regs } ∧ ∀ b, b ≠ R.GRD_n_X (n.val + 1) → e.word b = d.word b := by
  obtain ⟨al, lo, hi, found⟩ := excursion_address n
  obtain ⟨act, clear⟩ := Device.guardWrite_free (d := d) (m := m) (v := v) lo hi (d.masterPriv m)
  exact Device.counterWrite_shows (f := F.GRD_n_X_XPK (n.val + 1)) run may al (Nat.le_trans (by decide) lo)
    (Nat.lt_of_lt_of_le hi (by decide)) rfl found rfl act clear
    fun x => x.registerActs_excursion _ n

end Counters

/-- Settles O37: each fault of the power stage forces, latches and leads to SAFE as its rule says, a host clears what no
condition holds, and a core clears nothing. -/
theorem stageFaults : Obligations.StageFaults := by
  unfold Obligations.StageFaults
  refine ⟨?_, ?_⟩
  · intro s n x d fresh latched bit off ch
    refine ⟨fun run seen mode unset => ?_, fun run seen mode h first below => ?_, fun blind => ?_, fun stands => ⟨?_, ?_⟩,
      fun run unset => ?_, fun on released unset => ?_, fun used unset => ?_, fun unused => ?_, fun run unset => ?_,
      fun stands => ?_, ?_, fun run play unset => ?_, fun run out free => ?_, ?_⟩
    · obtain ⟨y, w, fault, set, word, runs, forced, count, now⟩ := Device.overcurrent_latches run seen mode unset
      obtain ⟨firmCount, firmNow⟩ : F.GDV_OC_CNT_COUNT.firm ∧ F.GDV_STAT_OC_NOW.firm := by unfold Fld.firm; decide
      obtain ⟨apartCount, apartNow⟩ := (by decide : ∀ n : Fin 4, R.GDV_OC_CNT ≠ R.GDV_CH_FAULT_n n.val ∧
        R.GDV_STAT ≠ R.GDV_CH_FAULT_n n.val) n
      have summary := fault.summary
      rw [word, runs] at summary
      refine completes_on (f := fun d => d.overcurrent n) rfl ⟨?_, summary, fun z hz => ?_,
        (fault.get _ firmCount apartCount).trans count, ?_⟩
      · exact (congrArg (BitVec.getLsbD · 0) fault.word).trans set
      · rw [fault.half]
        exact forced z hz
      · rw [fault.get _ firmNow apartNow]
        exact now
    · have chan := d.chan_ocChannel n h
      obtain ⟨tripped, inRow, words, rest⟩ := Device.overcurrent_counts run seen mode
        ((congrArg ModChannel.tripped (chan _)).trans first) (by rw [chan]; exact below)
      rw [chan] at tripped
      rw [chan, chan] at inRow
      exact completes_on (f := fun d => d.overcurrent n) rfl
        ⟨tripped, inRow, fun c hc i => congrArg (BitVec.getLsbD · i) (words c hc), rest⟩
    · exact State.on_eq_self (f := fun d => d.overcurrent n) (d.overcurrent_not n (.inr blind))
    · exact State.on_eq_self (f := fun d => d.overcurrent n) (d.overcurrent_not n (.inl stands))
    · exact State.on_eq_self (f := fun d => d.stackOvercurrent) (Device.stackOvercurrent_not stands)
    · obtain ⟨set, summary, forced, now⟩ := Device.stackOvercurrent_latches run unset
      exact completes_on (f := fun d => d.stackOvercurrent) rfl ⟨set, summary, fun y _ => forced y, now⟩
    · obtain ⟨set, summary, rest⟩ := Device.interlock_latches on released unset
      exact completes_on (f := fun d => d.interlock x) rfl ⟨set, summary, rest⟩
    · obtain ⟨set, summary, low⟩ := Device.extFault_latches used unset
      exact completes_on (f := fun d => d.extFault) rfl ⟨set, summary, low⟩
    · refine completes_on (f := fun d => d.extFault) rfl ?_
      rw [Device.extFault_unused unused]
      exact ⟨d.get_setFlag_same _ _ (by decide) rfl, d.setFlag_same _ true, fun a h => d.statFlag_word true rfl h⟩
    · obtain ⟨set, summary, rest⟩ := Device.vdrvLockout_latches run unset
      exact completes_on (f := fun d => d.vdrvLockout) rfl ⟨set, summary, rest⟩
    · obtain ⟨low, drv, -, word, same⟩ := d.supplyShown_shows false
      refine completes_on (f := fun d => d.vdrvLockout) rfl ?_
      rw [Device.vdrvLockout_not stands]
      exact ⟨low, drv.trans (by rw [Bool.and_false]; rfl), same, word⟩
    · obtain ⟨up, drv, -, word, same⟩ := d.supplyShown_shows true
      exact completes_on (f := fun d => d.vdrvRelease) rfl ⟨up, drv.trans (by rw [Bool.and_true]), same, word⟩
    · obtain ⟨set, summary, low, forced⟩ := Device.bootstrapLockout_latches run play unset
      exact completes_on (f := fun d => d.bootstrapLockout x) rfl ⟨set, summary, low, forced⟩
    · refine completes_on (f := fun d => d.bootstrapLockout x) rfl ?_
      rw [Device.bootstrapLockout_rest out free]
      exact ⟨d.testBit_get_andNot (f := F.GDV_STAT_BST_OK) (by decide) x.val, rfl, fun a h => d.bstLow_word x h⟩
    · exact completes_on (f := fun d => d.bootstrapRelease x) rfl
        ⟨d.testBit_get_or (f := F.GDV_STAT_BST_OK) (by decide) x.isLt, rfl, fun a h => Device.word_put_ne _ _ _ h⟩
  · intro s m n v run d may a gone common cleared zeroed
    refine ⟨fun host may => ?_, fun host may => ?_, fun core some => ?_, fun core some => ?_, fun may => ?_, fun may => ?_,
      fun may => ?_⟩
    · exact completes_on (f := fun d => d.faultWrite m (some n) v) rfl (Device.faultWrite_channel run n may host)
    · exact completes_on (f := fun d => d.faultWrite m none v) rfl (Device.faultWrite_common run may host)
    · exact completes_on (f := fun d => d.faultWrite m (.some n) v) rfl (Device.faultWrite_channel_core run n core some)
    · exact completes_on (f := fun d => d.faultWrite m none v) rfl (Device.faultWrite_common_core run core some)
    · exact completes_on (f := fun d => d.directWrite m R.MOD_RFF_LIMCNT v) rfl (Device.rffLimcnt_clears run may)
    · exact completes_on (f := fun d => d.directWrite m R.GDV_OC_CNT v) rfl (Device.ocCnt_clears run may)
    · exact completes_on (f := fun d => d.directWrite m (R.GRD_n_X (n.val + 1)) v) rfl (Device.excursion_clears run n may)

end Sys2Proof.Machine
end
